-- ==== Sys2Proof/Word.lean ====
section
/-!
DEFINITION. The widths the spec counts in: bytes, 16-bit host-bus words, 32-bit message words and the 48-bit
elapsed count (05 R149, 06 "a 32-bit message word", 11 R342).
-/
namespace Sys2Proof

/-- One byte. -/
abbrev Byte := BitVec 8
/-- One host-bus word (04 R102: every access is a 16-bit word). -/
abbrev Half := BitVec 16
/-- One 32-bit word. -/
abbrev Word := BitVec 32
/-- An elapsed µs value (11 R342: 48 bits wide). -/
abbrev Stamp := BitVec 48

end Sys2Proof
end

