-- ==== Sys2Proof/Syntax.lean ====
section
/-!
DEFINITION. The commands of the GX-48: one constructor per row of the table of operations and events, with the operands
the outside world gives each (a host word, a decided character's samples, a received frame, a measured reading). What
the device itself holds is never an operand.
-/
namespace Sys2Proof

/-- P00-P47 (00 "Number and name formats"). -/
abbrev PortNo := Fin 48
/-- Bus slots 0-7 (15 R478). -/
abbrev BusNo := Fin 8
/-- A head address less 1: heads 1-30 (15 R434). -/
abbrev HeadNo := Fin 30
/-- Lamp rows 0-1023 (16 R486). -/
abbrev LampNo := Fin 1024
/-- Weir governors W000-W255 (12 R352). -/
abbrev GovNo := Fin 256

/-- The two host windows (04 R115, R149). -/
inductive Window where
  | ctl | key
  deriving DecidableEq, Repr

/-- The two mailbox channels (06 "The two channels"). -/
inductive Chan where
  | n | k
  deriving DecidableEq, Repr

/-- A command message as the firmware took it: its channel, the host's TAG and the payload bytes (06 Table - Message
header, 08 R222). The command code is the constructor's. -/
structure Msg where
  ch      : Chan
  tag     : Half
  payload : List Byte
  deriving DecidableEq, Repr

/-- The split registers that can be written (05 R147). -/
inductive SplitReg where
  | bellOut | bellIn | bellMsk | mboxOut
  deriving DecidableEq, Repr

/-- The kinds of host access (04 R110). -/
inductive AccessKind where
  | regRead | regWrite | dataRead | dataWrite | lockWrite
  deriving DecidableEq, Repr

/-- The two clashes of 04 R114; with both selects low, the strobe tells a read from a write. -/
inductive ClashKind where
  | selectsRead | selectsWrite | strobes
  deriving DecidableEq, Repr

/-- The parts of the self-test, in order (03 R76, 05 LOADSTAT PROVEPART). -/
inductive ProvePart where
  | memory | loopbacks | tagArray | siltProbe
  deriving DecidableEq, Repr

/-- What the parameter page of one NAND target gives, and its factory-bad blocks (18 R539, R540, R543); bit k of `timing`
lists timing mode k. -/
structure NandTarget where
  pageSize      : Nat
  spareSize     : Nat
  pagesPerBlock : Nat
  blocks        : Nat
  timing        : BitVec 6
  factoryBad    : List Nat
  deriving DecidableEq, Repr

/-- The output cells of the boundary-scan chain (21 R637): one data and one enable cell for each port's OA and OB, and a cell
for every other output ball, with an enable where the ball is bidirectional or differential. -/
structure ScanOut where
  portData   : BitVec 48
  portEnable : BitVec 48
  rts        : BitVec 48
  hd         : Half
  hdEnable   : Bool
  nWait      : Bool
  nIrq       : Bool
  nIrqk      : Bool
  nd         : Byte
  ndEnable   : Bool
  ncle       : Bool
  nale       : Bool
  nNwe       : Bool
  nNre       : Bool
  nNce0      : Bool
  nNce1      : Bool
  nNwp       : Bool
  plTx       : Bool
  plTxEnable : Bool
  plDutyOut  : Bool
  mbScl      : Bool
  mbSda      : Bool
  deriving DecidableEq, Repr

/-- The levels that the input cells of the chain find on their balls, the ports' receivers apart (21 R637). -/
structure ScanIn where
  cts      : BitVec 48
  hd       : Half
  ha       : BitVec 7
  nCsCtl   : Bool
  nCsKey   : Bool
  nOe      : Bool
  nWe      : Bool
  hreset   : Bool
  nReset   : Bool
  rank     : Bool
  waitOd   : Bool
  testmode : Bool
  nd       : Byte
  nrb      : Bool
  plRx     : Bool
  plDutyIn : Bool
  mbScl    : Bool
  mbSda    : Bool
  deriving DecidableEq, Repr

/-- How the self-test of PROVE ends (05 LOADSTAT PROVE). -/
inductive ProveResult where
  | passed (first : NandTarget) (second : Option NandTarget)
  | passedNoNand
  | failed (part : ProvePart)
  deriving DecidableEq, Repr

/-- The three samples of one bit, mark being true; SPOT uses the middle one (10 R292, R293, Table - Sample points). -/
structure Samples where
  a : Bool
  b : Bool
  c : Bool
  deriving DecidableEq, Repr

/-- The autobaud stopwatch's last six edges, as times in ns from the falling edge 1, and whether the line is at mark at
9.5 bit times (10 R309). -/
structure Edges where
  e2 : Nat
  e3 : Nat
  e4 : Nat
  e5 : Nat
  e6 : Nat
  markAfter : Bool
  deriving DecidableEq, Repr

/-- A NAND operation (18 R542). -/
inductive NandOp where
  | read | program | erase
  deriving DecidableEq, Repr

/-- What a read-back of a durable page finds (18 R567, R568): fewer than 5 corrected bits in every sector, 5 or more in
some sector, or a sector that cannot be corrected. -/
inductive ScrubResult where
  | clean | worn | uncorrectable
  deriving DecidableEq, Repr

/-- SEQ and ACK of a received Pleach frame (17 R509). -/
structure PleachHdr where
  seq : Half
  ack : Half
  deriving DecidableEq, Repr

/-- A HEARTBEAT payload (17 Table - Heartbeat payload). -/
structure Heartbeat where
  flags   : Byte
  rank    : Bool
  mode    : Byte
  major   : Half
  minor   : Half
  patch   : Half
  digest  : Word
  elapsed : Stamp
  deriving DecidableEq, Repr

/-- A MIRROR record (17 R510). -/
structure MirrorRec where
  pairSeq : Word
  source  : Byte
  length  : Half
  crc     : Half
  deriving DecidableEq, Repr

/-- A DELIVERED record (17 R510); views 0x00-0x2F. -/
structure DeliveredRec where
  view    : PortNo
  pairSeq : Word
  deriving DecidableEq, Repr

/-- An ITEM payload (17 R510). -/
structure ItemRec where
  pairSeq : Word
  stamp   : Stamp
  source  : Byte
  flags   : Byte
  cls     : Byte
  payload : List Byte
  deriving DecidableEq, Repr

/-- A LAMP record (17 R510). -/
structure LampRec where
  index : LampNo
  row   : Word
  time  : Stamp
  deriving DecidableEq, Repr

/-- An EPOCH payload (17 R510). -/
structure EpochRec where
  seconds : Word
  micros  : Word
  instant : Stamp
  deriving DecidableEq, Repr

/-- The step of a field write at which the field collapses, where the outcome depends on it (19 Table - Collapse
outcomes). At steps 4 and 6 the spec leaves to the collapse whether the marker then reads set. -/
inductive Collapse where
  | check | tearRow | marker (readsSet : Bool) | home | clearing (readsSet : Bool) | answer
  deriving DecidableEq, Repr

/-- The flags of an addressed, selected or plain ISO/IEC 15693 request, and whether its length and format fit its
command (19 R578, R583). -/
structure TagReq where
  select  : Bool
  address : Bool
  uid     : BitVec 64
  option  : Bool
  format  : Bool
  deriving DecidableEq, Repr

/-- An Inventory request: 1 or 16 slots, AFI if the AFI flag is set, and the mask (19 R578). -/
structure InventoryReq where
  sixteen : Bool
  slot    : BitVec 4
  afi     : Option Byte
  maskLen : Nat
  mask    : BitVec 64
  deriving DecidableEq, Repr

/-- The end of an I²C transaction (20 R614). -/
inductive MgmtResult where
  | good (data : List Byte)
  | nak
  deriving DecidableEq, Repr

/-- What the check before a START finds and does (20 R618): MB_SDA freed after pulse n + 1, MB_SDA low after pulse 9, or
MB_SCL low for more than 25 ms. -/
inductive MgmtRecovery where
  | freed (pulse : Fin 9) | sdaLow | sclLow
  deriving DecidableEq, Repr

/-- What the 100 ms re-check finds (20 R619). -/
inductive MgmtRecheck where
  | bothHigh | recovered | stillHeld
  deriving DecidableEq, Repr

/-- The commands: one constructor per row of spec/opcode_table.json, in the table's order. -/
inductive Instr where
  /-- R40. VCORE and VIO have been good for 2 ms without a break, so power-on reset is released, the straps are sampled and the elapsed counter starts at 0. -/
  | powerOnResetRelease (rank waitOd orderMet : Bool)
  /-- R41. Reset completion builds the free list and clears the first-second counters, after which MODENOW shows HOLD and the busy state clears. -/
  | resetComplete
  /-- R45. VCORE falls below 0.65 V or VIO falls below 1.55 V, and the device enters power-on reset at once. -/
  | supplyCollapse
  /-- R43. VANA exceeds 1.0 V while VIO is below 1.6 V, and the VANA guard latches the order fault. -/
  | orderFault
  /-- R46. VANA falls below 4.30 V while VCORE and VIO stay good, so the drivers go high-impedance and SUPPLY is raised. -/
  | vanaLost
  /-- R47. VANA has been good again for 1 ms, so the drivers are re-enabled at mark and the cut items are re-sent whole. -/
  | vanaBack
  /-- R49. A low level on nRESET of 1 µs or more resets the device to HOLD while the elapsed counter keeps running. -/
  | nresetAssert
  /-- R103. nRESET rises, the device leaves reset and the straps are sampled. -/
  | nresetRelease (rank waitOd : Bool)
  /-- R178. A write of 0xA50F to RESETCTL begins a device reset within 1 µs and stores the reset stamp. -/
  | deviceReset
  /-- R138. HRESET is high for 1 µs or more, so the host-facing registers are reset, any lock is broken and the inbound host mailboxes are cleared. -/
  | hresetAssert
  /-- R137. HRESET falls and host bus cycles are served again. -/
  | hresetRelease
  /-- R36. Tally edges have been absent for 2 µs, so the pacers hold their trim and the elapsed counter runs from the housekeeping oscillator. -/
  | tallyLost
  /-- R36. Tally has run for 1 ms, so the pacers are retrimmed and counting resumes from Tally without a step. -/
  | tallyBack
  /-- R29. Every 1000 µs PACE is updated from the reference-ring count. -/
  | paceUpdate (count : Nat)
  /-- R661. The temperature converter completes a conversion at its mode interval and updates TEMP. -/
  | tempConversion (reading : Half)
  /-- R406. A conserved quantity has been out of balance for more than 1 ms, so its AUDIT bit is set and doorbell 8 rings. -/
  | auditSet (bit : Fin 8)
  /-- R73. A MODEREQ write of HOLD abandons any transition and empties the Sluice, stops the engine and takes the drivers high-impedance. -/
  | requestHold (win : Window)
  /-- R71. A MODEREQ write of LOAD starts the HOLD to LOAD transition if it is legal. -/
  | requestLoad (win : Window)
  /-- R76. A MODEREQ write of PROVE starts the engine from the checked image and begins the self-test. -/
  | requestProve (win : Window)
  /-- R62. A MODEREQ write of RUN arms the ports, enables the views and drivers and begins the Hedge joins. -/
  | requestRun (win : Window)
  /-- R79. A MODEREQ write of TRIM restricts listeners to classes 0–3 and lengthens the polling rounds. -/
  | requestTrim (win : Window)
  /-- R82. A MODEREQ write of VIGIL parks every port except the hedge ports and the designated alarm listeners. -/
  | requestVigil (win : Window)
  /-- R86. A MODEREQ write of DOZE stops storing, flushes partial items and lets the listeners drain. -/
  | requestDoze (win : Window)
  /-- R94. A MODEREQ write of PROBE runs the road as in RUN with the diagnostic facilities enabled. -/
  | requestProbe (win : Window)
  /-- R64. A MODEREQ write of 0x8 to 0xF is refused with the ILLEGAL cause. -/
  | modereqUnknown (win : Window) (code : BitVec 4)
  /-- R86. 20 ms after a DOZE request, each item still being sent is cut with CR LF and kept for re-sending. -/
  | dozeDrainTimeout
  /-- R77. The PROVE self-test ends, its result goes to LOADSTAT and the tables region is filled with the default rows. -/
  | selfTestEnd (result : ProveResult)
  /-- R66. A mode transition completes, MODENOW shows the new mode and MODE_DONE is raised. -/
  | modeTransitionComplete (dutyIn : Bool)
  /-- R88. A start edge on an armed port in DOZE raises WAKE and starts the catching of the waking character; the line was at
  mark for `mark` sixteenths of a bit before it. -/
  | wakeEdge (port : PortNo) (mark : Nat)
  /-- R111. 64 µs after the strobe start the Culvert releases nWAIT and fails the access with cause TIMEOUT. -/
  | culvertTimeout (kind : AccessKind)
  /-- R114. Both chip selects, or nOE and nWE, are low together, so nothing is written or read and CULVERT_ERR is set. -/
  | clash (kind : ClashKind)
  /-- R108. The host raises the strobe before nWAIT is released, so an access that has not been issued is abandoned without side effect. -/
  | accessAbandoned (kind : AccessKind)
  /-- R143. A host write to a register that has no row of its own updates its RW fields or clears its W1C bits. -/
  | registerWrite (win : Window) (offset : BitVec 7) (value : Half)
  /-- R147. A write to the lowest part of a split register stages the value without effect. -/
  | splitLowWrite (ch : Chan) (reg : SplitReg) (value : Half)
  /-- R146. A read of ELAPSED0 returns the low part and latches the higher parts of the same microsecond. -/
  | elapsed0Read (reg : Option (Chan × SplitReg))
  /-- R157. A W1C write to IRQSTAT clears bits, and clearing CULVERT_ERR also clears ERRCAUSE and MORE in WINCTL. -/
  | irqstatWrite (value : Half)
  /-- R158. A write to IRQFORCE sets the named IRQSTAT bits with no other effect. -/
  | irqforceWrite (value : Half)
  /-- R121. A write to WINPAGE sets the window page, clears WIN_EDGE and discards the read-ahead line. -/
  | winpageWrite (value : Half)
  /-- R119. A write to WINADDR sets the word offset, clears WIN_EDGE and discards the read-ahead line. -/
  | winaddrWrite (value : Half)
  /-- R124. A write to WINCTL sets auto-increment and read-ahead and discards any held line. -/
  | winctlWrite (value : Half)
  /-- R119. A WINDATA read returns the word at the window address, fetching a read-ahead line if needed, and auto-increments WINADDR. -/
  | windataRead
  /-- R128. A WINDATA write is checked against the memory map and lock, then written or refused, and WINADDR auto-increments. -/
  | windataWrite (value : Half)
  /-- R124. 10 µs after its fetch, a held read-ahead line is discarded. -/
  | readaheadExpire
  /-- R126. A LOCKCTL write with REQUEST starts a lock request on the named table pages, or is refused with LOCK-STATE. -/
  | lockRequest (value : Half)
  /-- R126. No engine write to a host-written field of the pages is in progress any longer, so GRANTED is set and the timeout count starts. -/
  | lockGrant
  /-- R164. A LOCKCTL write with RELEASE releases the granted lock or abandons a pending request. -/
  | lockRelease
  /-- R131. The locked pages have seen no WINDATA access for the chosen timeout, so the lock is broken and LOCK_BROKEN is set. -/
  | lockTimeout
  /-- R208. A START written to LOADCTL in LOAD copies the header into the header store and sets IMAGE to CHECKING. -/
  | loadStart
  /-- R209. The boot ROM check ends, and IMAGE is set to CHECKED or to FAILED with a LOADERR code. -/
  | loadCheckEnd
  /-- R161. A commit to MBOXOUT posts the host's pointer, or sets OUT_REFUSED if a pointer is pending or the mode refuses it. -/
  | mboxPost (ch : Chan) (value : Half)
  /-- R184. The firmware takes a posted host pointer, clears OUT_FULL and raises MBOX_EMPTY. -/
  | mboxTake (ch : Chan)
  /-- R192. The firmware posts a reply or completion into a free slot, sets IN_FULL, raises MBOX_FULL and rings doorbell 0. -/
  | replyPost (ch : Chan)
  /-- R160. A completed read of MBOXIN_LO while IN_FULL is 1 takes the message, clears IN_FULL and notifies the engine. -/
  | mboxRead (ch : Chan)
  /-- R202. The host clears IN_ABORTED, and the word in the re-post holder is posted into MBOXIN again. -/
  | inAbortedClear (ch : Chan)
  /-- R195. The firmware takes doorbell ATTEND and sets again every firmware-to-host bell whose condition still stands. -/
  | attend (ch : Chan)
  /-- R195. The firmware takes doorbell FLUSH-DONE and writes a host-drain mark in the journal. -/
  | flushDone (ch : Chan)
  /-- R195. The firmware takes doorbell TIME-MARK and writes a time mark record stamped at the take. -/
  | timeMark (ch : Chan)
  /-- R250. The firmware takes doorbell LAMP-TEST and starts every armed lamp test. -/
  | doorbellLampTest (ch : Chan)
  /-- R187. The firmware takes doorbell RELEASE and frees the slots of every message taken on the channel before the ring. -/
  | doorbellRelease (ch : Chan)
  /-- R195. The firmware takes doorbell HOST-ALIVE and restarts the host-watch interval. -/
  | hostAlive (ch : Chan)
  /-- R553. The firmware takes doorbell JOURNAL-SYNC and closes the open staging page so that it is programmed without waiting. -/
  | journalSync (ch : Chan)
  /-- R195. The firmware takes doorbell AUDIT-RECHECK and reruns the engine audit checks; `stands` names, as AUDIT bits 4 to 6,
  the engine's quantities that an outside fault still holds out of balance (log entry 151). -/
  | auditRecheck (ch : Chan) (stands : BitVec 3)
  /-- R195. The host-watch interval lapses without HOST-ALIVE, and a $PVYSP host-silent event is made. -/
  | hostWatchLapse
  /-- R171. GO with OP READ fills the tag buffer from the named block. -/
  | tagHostRead
  /-- R171. GO with OP WRITE programs the buffer into a region A block, or ends with ERR REGION or ERR LOCKED. -/
  | tagHostWrite
  /-- R596. GO with OP LOCK sets FIELD-LOCK within 1 µs. -/
  | tagLock
  /-- R173. GO with OP UNLOCK clears FIELD-LOCK. -/
  | tagUnlock
  /-- R170. GO with a reserved OP ends with ERR BAD-OP. -/
  | tagBadOp (op : BitVec 3)
  /-- R170. A host tag operation ends, so BUSY clears and DONE is set. -/
  | tagHostOpDone (verified : Bool)
  /-- R216. The watchdog has not been restarted for 100 ms, so an engine restart begins with LASTCAUSE 0x1. -/
  | watchdogExpire
  /-- R216. An engine fault starts an engine restart at once with LASTCAUSE 0x2. -/
  | engineFault
  /-- R217. The engine restart ends: program memory is checked, Bilutan rebuilds its state, and ENGINE_UP is set. -/
  | engineRestartDone
  /-- R220. Every 60 s Bilutan recomputes BODYCRC over program memory and forces a restart on a mismatch. -/
  | bodycrcRecheck
  /-- R224. A command code not in the catalogue is refused with status 0x0010. -/
  | unknownCommand (code : Half) (msg : Msg)
  /-- R234. The VERSION command returns the firmware version, schema, build label and CHIPREV. -/
  | version (msg : Msg)
  /-- R235. The SET-EPOCH command binds a UTC instant to an elapsed instant, or clears the epoch. -/
  | setEpoch (msg : Msg)
  /-- R234. The GET-TIME command returns elapsed time now and UTC time now. -/
  | getTime (msg : Msg)
  /-- R232. The DIGEST command returns the configuration digest and its change data. -/
  | digest (msg : Msg)
  /-- R234. The HOST-WATCH command sets the host-watch interval. -/
  | hostWatch (msg : Msg)
  /-- R350. The HEARTBEAT command sets the $PVYSH interval. -/
  | heartbeat (msg : Msg)
  /-- R350. The heartbeat interval has passed, so the engine makes a $PVYSH. -/
  | pvyshInterval
  /-- R611. The MGMT-SET command sets the management bus speed and its 16 scan entries. -/
  | mgmtSet (msg : Msg)
  /-- R614. The MGMT-READ command returns each scan entry's status, data and stamp. -/
  | mgmtRead (msg : Msg)
  /-- R240. The EVENTS command returns the device flags and the ports with new events, and clears them. -/
  | events (msg : Msg)
  /-- R288. The PORT-SET command checks a port row and has the port adopt it at its boundaries. -/
  | portSet (msg : Msg)
  /-- R238. The PORT-GET command returns a port row including its maintained fields. -/
  | portGet (msg : Msg)
  /-- R239. The PORT-RETIRE command starts retiring the named sides of a port. -/
  | portRetire (msg : Msg)
  /-- R239. Each named side of a port has reached its boundary, so the PORT-RETIRE completion is posted. -/
  | portRetireDone (port : PortNo)
  /-- R432. The PORT-RETURN command re-arms a receive side or returns a transmit view. -/
  | portReturn (msg : Msg)
  /-- R238. The PORT-STATS command returns a port's counts and condition, and optionally clears them. -/
  | portStats (msg : Msg)
  /-- R362. The SIEVE-LOAD command checks rows and writes them into the shadow bank. -/
  | sieveLoad (msg : Msg)
  /-- R242. The SIEVE-COMMIT command checks the shadow CRC and inverts ACTIVE in one step, clearing the hit counts. -/
  | sieveCommit (msg : Msg)
  /-- R363. The hardware copy of the new active bank over the shadow bank ends, ACTIVECRC is written and the reply is posted. -/
  | sieveCopyDone
  /-- R241. The SIEVE-GET command returns rows of the active or shadow bank. -/
  | sieveGet (msg : Msg)
  /-- R359. The SIEVE-HITS command returns the rule hit counts, and optionally clears them. -/
  | sieveHits (msg : Msg)
  /-- R243. The WEIR-SET command writes governor rows, which take effect at once, and releases DEFER queues where R378 calls for it. -/
  | weirSet (msg : Msg)
  /-- R241. The WEIR-GET command returns governor rows with their token counts. -/
  | weirGet (msg : Msg)
  /-- R394. The VIEW-SET command writes a view row. -/
  | viewSet (msg : Msg)
  /-- R244. The VIEW-GET command returns a view row and its books. -/
  | viewGet (msg : Msg)
  /-- R399. The VIEW-FLUSH command unlinks every queued item from a view and releases its group holds. -/
  | viewFlush (msg : Msg)
  /-- R400. The INGRESS-FLUSH command returns a port's partial item and its deferred items. -/
  | ingressFlush (msg : Msg)
  /-- R401. The SLUICE-FLUSH command unlinks every committed item at the mark and marks VOID every uncommitted item. -/
  | sluiceFlush (msg : Msg)
  /-- R428. The VIEW-RETIRE command retires a view, with or without holding its items. -/
  | viewRetire (msg : Msg)
  /-- R430. The VIEW-RETURN command clears RETIRED and reports the items held. -/
  | viewReturn (msg : Msg)
  /-- R245. The DESIGNATE command sets the list of designated alarm listeners. -/
  | designate (msg : Msg)
  /-- R246. The TAP-READ command removes items from the HOST view and returns them, ending with the idle item when the view is empty. -/
  | tapRead (msg : Msg)
  /-- R247. The HOST-INJECT command enters bytes as an item of source 0x42 through the Sieve and Weir. -/
  | hostInject (msg : Msg)
  /-- R244. The BOOKS command returns the cell books. -/
  | books (msg : Msg)
  /-- R478. The HEDGE-SET command writes a bus row for a master port. -/
  | hedgeSet (msg : Msg)
  /-- R479. The HEAD-SET command writes CONTROL and MAKER of a head row. -/
  | headSet (msg : Msg)
  /-- R248. The HEAD-GET command returns a head row with its state. -/
  | headGet (msg : Msg)
  /-- R482. The HEAD-RETIRE command retires a head and its lamps. -/
  | headRetire (msg : Msg)
  /-- R483. The HEAD-RETURN command starts RESYNC, INVENTORY and POLL to a head. -/
  | headReturn (msg : Msg)
  /-- R249. The head has rejoined or been marked SILENT, so the HEAD-RETURN completion is posted and its RETIRED lamps take RETURNING grace. -/
  | headReturnDone (bus : BusNo) (head : HeadNo) (silent : Bool)
  /-- R489. The LAMP-SET command checks lamp rows and writes them. -/
  | lampSet (msg : Msg)
  /-- R248. The LAMP-GET command returns lamp rows with their states. -/
  | lampGet (msg : Msg)
  /-- R498. The ALARM-ACK command acknowledges one active alarm, or all of them. -/
  | alarmAck (msg : Msg)
  /-- R687. The ALARM-SET command sets the ALR talker ID and the repeat interval. -/
  | alarmSet (msg : Msg)
  /-- R250. The LAMP-TEST command arms or disarms a test on a lamp. -/
  | lampTest (msg : Msg)
  /-- R534. The PAIR-SET command enables or disables the pair and sets the take-over timeout. -/
  | pairSet (msg : Msg) (dutyIn : Bool)
  /-- R252. The PAIR-ARM command arms take-over on a formed pair. -/
  | pairArm (msg : Msg)
  /-- R251. The PAIR-DISARM command disarms take-over. -/
  | pairDisarm (msg : Msg)
  /-- R251. The PAIR-STATUS command returns the pair state and the peer's data. -/
  | pairStatus (msg : Msg)
  /-- R538. The PAIR-HANDOVER command drains the listeners, sends HANDOVER and drops duty. -/
  | pairHandover (msg : Msg)
  /-- R538. PL_DUTY_IN goes high, or 100 ms pass, so the handover completes or duty is claimed again. -/
  | pairHandoverDone (dutyIn : Bool)
  /-- R253. The JOURNAL-STATUS command returns the journal sequences, state and block counts. -/
  | journalStatus (msg : Msg)
  /-- R573. The JOURNAL-READ command returns whole records in ascending SEQ order. -/
  | journalRead (msg : Msg) (errors : List (List Nat))
  /-- R552. The JOURNAL-MARK command accepts a TEXT record and replies with its sequence. -/
  | journalMark (msg : Msg)
  /-- R543. The JOURNAL-FORMAT command starts formatting the NAND medium. -/
  | journalFormat (msg : Msg)
  /-- R543. The format ends, the bad block table is written, and the completion is posted. -/
  | journalFormatDone (bad : List Nat)
  /-- R253. The JOURNAL-KINDS command turns sentence records on or off. -/
  | journalKinds (msg : Msg)
  /-- R589. The TAG-PUBLISH command starts rewriting region B. -/
  | tagPublish (msg : Msg)
  /-- R589. A publish has written its changed blocks and block 1791. -/
  | publishDone
  /-- R590. Bilutan publishes region B on its own at WORK entry or after 600 s with a change. -/
  | autoPublish
  /-- R592. The TAG-RECORD command returns the current commissioning record. -/
  | tagRecord (msg : Msg)
  /-- R254. The TAG-INFO command returns the UID, the locked-block count and FIELD-LOCK. -/
  | tagInfo (msg : Msg)
  /-- R256. The INJECT-ENABLE command enables or disables run-time injection, clearing slots when disabled. -/
  | injectEnable (msg : Msg)
  /-- R627. The INJECT-SET command writes an injection slot and restarts its pattern. -/
  | injectSet (msg : Msg)
  /-- R633. The INJECT-CLEAR command clears one slot or all slots and releases any held item. -/
  | injectClear (msg : Msg)
  /-- R622. The LOOPBACK command places a port in internal or external loopback, or ends it. -/
  | loopback (msg : Msg)
  /-- R625. The AMP-SWEEP command starts an amplitude sweep on a port in external loopback. -/
  | ampSweep (msg : Msg)
  /-- R625. The sweep's last step ends, and the completion lists the readings. -/
  | ampSweepDone (port : PortNo) (volts : List (List (List Nat)))
  /-- R634. The COUNTERS command returns a counter group, optionally clearing it. -/
  | counters (msg : Msg)
  /-- R291. A falling edge on a receive line starts the receive pacer and latches the elapsed counter; the line was at mark for
  `mark` sixteenths of a bit before it (log entry 156). -/
  | startEdge (port : PortNo) (mark : Nat)
  /-- R304. A character is decided at its last stop-bit sample and stored with its tags, or dropped as a glitch, as muted, or as lost; `volts` gives |V_ID| in mV at the middle of each of its bits (R271). -/
  | characterStored (port : PortNo) (samples : List Samples) (volts : List Nat)
  /-- R309. At a rising edge the last six edges match '$' or '!', so the character is stored and the rate is locked. -/
  | autobaudAccept (port : PortNo) (edges : Edges) (volts : List Nat)
  /-- R55. Before RUN, a line at space for 10 bit times sets BREAK-SEEN. -/
  | breakSeen (port : PortNo)
  /-- R55. Before RUN, a line at space beyond 2 s sets STUCK-SEEN. -/
  | stuckSeen (port : PortNo)
  /-- R277. A talker line has been at space for the effective stuck threshold, so the port becomes STUCK. -/
  | portStuck (port : PortNo)
  /-- R277. The line has been at mark for two character times, so STUCK clears and the port re-arms. -/
  | portRearmed (port : PortNo)
  /-- R281. A talker line has shown no falling edge for SILENCE seconds, so a SILENT port event is raised. -/
  | silenceLapse (port : PortNo)
  /-- R264. A driver junction exceeds 160 °C, so the driver goes high-impedance and raises a port event. -/
  | driverHot (port : PortNo)
  /-- R264. The driver has cooled below 140 °C, so it re-enables and the cut item is re-sent. -/
  | driverOk (port : PortNo)
  /-- R319. The assembler takes a FIFO entry and advances its state, taking cells and writing payload. -/
  | assemblerTake (port : PortNo)
  /-- R355. The Sieve applies the first matching rule of the active bank to an ended item. -/
  | sieveDecision
  /-- R369. A governor gains a whole sixteenth of a token and writes TOKENS. -/
  | weirRefill (gov : GovNo)
  /-- R376. TOKENS reaches 16, so the oldest deferred item of the governor is committed. -/
  | deferCommit (gov : GovNo)
  /-- R398. A lamp alarm that waited for a cell takes the first cell freed and is committed. -/
  | alarmCellWaitEnd
  /-- R409. The Spillway takes an item from a listener's view and begins its TAG block and sentence. -/
  | itemBegin (port : PortNo) (cts : Bool)
  /-- R283. CTS is found asserted after a wait, and the waiting character begins. -/
  | ctsResume (port : PortNo) (cts : Bool)
  /-- R396. The last character of an item leaves a listener, and the item is released from the view. -/
  | itemSent (port : PortNo)
  /-- R415. An eligible item is linked while a lower-priority item is on the line, so the character in progress completes and the cut terminator precedes the breaching item. -/
  | breach (port : PortNo) (sent : Nat)
  /-- R424. The next group member has not reached the view 250 ms after the previous one, so the group is abandoned. -/
  | groupAbandon (port : PortNo)
  /-- R552. Silt takes an item from the JOURNAL view and accepts its record into staging, or skips it. -/
  | siltTake
  /-- R552. An event record is written whole into the open staging page and given the next SEQ. -/
  | recordAccepted
  /-- R553. The open staging page is closed because 1 s has passed since its first record, or because it is full. -/
  | pageClose
  /-- R554. A page program and its read-back end, so the durable sequence advances, or the page is relocated or named lost. -/
  | pageProgrammed (pass : Bool) (errors : List Nat)
  /-- R565. A block erase ends, and a failure marks the block bad. -/
  | eraseDone (ok : Bool)
  /-- R542. NRB stays low beyond its limit, so the operation fails and the target is reset. -/
  | nandTimeout (op : NandOp)
  /-- R567. Silt reads back a durable page and moves its block when a sector needs 5 or more corrected bits. -/
  | scrubRead (errors : List Nat)
  /-- R558. Silt mounts the journal, finds the newest page and accepts the BOOT, LOSS and held records. -/
  | journalMount
  /-- R347. The engine takes an item from the ENGINE view and acts on it, for example as an ACK. -/
  | engineViewTake
  /-- R450. The polling interval elapses, so a new round of POLLs to ACTIVE and SILENT heads starts. -/
  | pollingRoundStart (bus : BusNo)
  /-- R447. The master enables its driver and sends a command frame to a head; on a port that acts as a head, the reply it has
  prepared goes out (R484). -/
  | hedgeCommandSend (port : PortNo)
  /-- R448. A head's reply frame is received whole and accepted, ending the exchange. -/
  | replyAccepted (bus : BusNo) (frame : List Half)
  /-- R449. No reply start bit arrives by the timeout, so the attempt fails and the command is repeated or the head is marked SILENT. -/
  | replyTimeout (bus : BusNo)
  /-- R440. 2 character times pass between characters of a frame, so the frame is abandoned. -/
  | frameGapTimeout (port : PortNo)
  /-- R465. A received frame meets an amplitude step or a bad tag, so it is abandoned as COLLIDE or BAD. -/
  | frameAbandoned (port : PortNo)
  /-- R467. A bit read back differs from the bit driven, so the master releases its driver and counts a COLLIDE; a port that
  acts as a head releases its driver (R468). -/
  | readbackMismatch (port : PortNo)
  /-- R457. A space of 1.5 to 6 bit times inside a window is taken as attention and leads to ROLL-CALL mode 0. -/
  | attentionTaken (bus : BusNo) (tenths : Nat)
  /-- R459. A ROLL-CALL's slots end, and the master POLLs the heads that answered. -/
  | rollCallEnd (bus : BusNo) (answers : List HeadNo)
  /-- R469. At the end of a round with sleep allowed, the master sends SLEEP-PROPOSE. -/
  | sleepPropose (bus : BusNo) (msLeft : Nat)
  /-- R470. The objection window ends, so SLEEP-COMMIT is sent, or ROLL-CALL follows an objection. -/
  | objectionWindowEnd (bus : BusNo) (objected : Bool)
  /-- R471. A space overlaps SLEEP-COMMIT or its guard, so the sleep is aborted and WAKE is sent. -/
  | sleepAbort (bus : BusNo) (onCommit : Bool)
  /-- R474. A waking pulse arrives, or the sleep length ends, so the master runs the wake sequence. -/
  | busWake (bus : BusNo) (byPulse : Bool)
  /-- R475. The bus has been at space for more than 16 character times, so every head becomes BLIND; a port that acts as a head is hushed (R477). -/
  | busBlind (port : PortNo)
  /-- R476. Every 250 ms on a BLIND bus, the master drives mark for one character time and records the reading. -/
  | blindProbe (bus : BusNo) (reading : Byte)
  /-- R476. A BLIND bus has been at mark for 2 character times, so the master runs a join; a hushed port acts as a head again (R484). -/
  | busRecovered (port : PortNo)
  /-- R485. A port acting as a head accepts a command to its address and replies under the head state machine. -/
  | headCommandReceived (port : PortNo) (frame : List Half)
  /-- R493. A lamp's confirm interval passes without confirmation, so it becomes UNCONFIRMED. -/
  | lampLapse (lamp : LampNo)
  /-- R497. The repeat interval has passed for an unacknowledged active alarm, so the $--ALR is made again. -/
  | alarmRepeat (lamp : LampNo)
  /-- R499. A LAMP-TEST duration ends, and the lamp returns to reports and lapse. -/
  | lampTestEnd (lamp : LampNo)
  /-- R514. Every 1 ms the Pleach transmit domain sends a HEARTBEAT. -/
  | heartbeatSend
  /-- R515. A HEARTBEAT is accepted, updating LINK_UP, peer versions, digest and rank checks. -/
  | heartbeatReceived (hdr : PleachHdr) (beat : Heartbeat) (dutyIn : Bool)
  /-- R523. The standby accepts a MIRROR frame and matches each record to its own items. -/
  | mirrorFrame (hdr : PleachHdr) (records : List MirrorRec)
  /-- R525. The standby accepts a DELIVERED frame and releases the matched items. -/
  | deliveredFrame (hdr : PleachHdr) (records : List DeliveredRec)
  /-- R528. An accepted ITEM frame is committed as a source 0x41 item. -/
  | itemFrame (hdr : PleachHdr) (item : ItemRec)
  /-- R527. The standby accepts a LAMP frame, writes the lamp rows and makes the alarm sentences. -/
  | lampFrame (hdr : PleachHdr) (records : List LampRec)
  /-- R531. An accepted EPOCH frame sets or clears the epoch through pair time. -/
  | epochFrame (hdr : PleachHdr) (epoch : Option EpochRec)
  /-- R535. An accepted HANDOVER frame, followed by PL_DUTY_IN low, starts take-over at once. -/
  | handoverFrame (hdr : PleachHdr) (nextSeq : Word) (dutyIn : Bool)
  /-- R531. An accepted CATCHUP-END frame ends the formation catch-up. -/
  | catchupEnd (hdr : PleachHdr) (nextSeq : Word)
  /-- R512. An accepted ACK-ONLY frame advances the acknowledged window. -/
  | ackOnly (hdr : PleachHdr)
  /-- R510. A frame with a bad CRC, a reserved TYPE or a wrong LEN is dropped and counted. -/
  | pleachFrameDropped (bytes : List Byte)
  /-- R513. No ACK advance for 200 µs, so every unacknowledged frame is sent again. -/
  | retransmit
  /-- R515. No HEARTBEAT has been accepted for the take-over timeout, so LINK_UP and FORMED clear. -/
  | linkLost (dutyIn : Bool)
  /-- R523. A MIRROR record finds no matching item within 100 ms and is counted MISSING. -/
  | missing (pairSeq : Word)
  /-- R524. A standby item has stayed unmatched 100 ms after its commit, so it is unlinked from port views. -/
  | orphan (item : Nat)
  /-- R516. PL_DUTY_IN has been low for 20 ms, so the device drives PL_DUTY_OUT high and becomes duty. -/
  | dutyClaim (dutyIn : Bool)
  /-- R517. Both DUTY lines have been high for 100 µs, so the device strapped low yields in hardware. -/
  | dutyYield
  /-- R521. A duty's engine has been down for 200 ms, so it yields and holds no role. -/
  | dutyEngineDown
  /-- R529. Once per second the standby adopts the pair time offset and checks for TIME_SKEW. -/
  | offsetAdopt
  /-- R531. 100 ms after CATCHUP-END, FORMED is set and doorbell 4 rings. -/
  | pairFormed
  /-- R533. The digests have differed continuously for 10 s, so SPLIT_CONFIG is set and ARMED clears. -/
  | splitConfig
  /-- R536. An armed standby's take-over condition is met, so it claims duty, enables the listeners and rejoins the buses. -/
  | takeOver
  /-- R603. A reader field energises the tag island, and recovery runs if the tear marker is set. -/
  | fieldArrives
  /-- R603. The field leaves, TAG_FIELD is set, and recovery runs while VIO is good. -/
  | fieldLeaves (collapse : Collapse)
  /-- R578. The tag answers an ISO/IEC 15693 Inventory request. -/
  | inventory (req : InventoryReq)
  /-- R578. The tag handles Stay Quiet. -/
  | stayQuiet (req : TagReq)
  /-- R578. The tag returns one block of 0 to 255. -/
  | readSingleBlock (req : TagReq) (block : Byte)
  /-- R601. The tag starts a field write of one block of 0 to 255. -/
  | writeSingleBlock (req : TagReq) (block : Byte) (data : Word) (energy : Bool)
  /-- R586. The tag starts a permanent lock of a region A block of 0 to 255. -/
  | lockBlock (req : TagReq) (block : Byte) (energy : Bool)
  /-- R578. The tag returns up to 64 blocks of 0 to 255. -/
  | readMultipleBlocks (req : TagReq) (first count : Byte)
  /-- R578. The tag handles Select. -/
  | select (req : TagReq)
  /-- R578. The tag handles Reset to Ready. -/
  | resetToReady (req : TagReq)
  /-- R581. The tag returns its system information for 256 blocks. -/
  | getSystemInformation (req : TagReq)
  /-- R586. The tag returns the lock status of up to 64 blocks. -/
  | getMultipleBlockSecurityStatus (req : TagReq) (first count : Byte)
  /-- R578. The tag returns one block of 0 to 1791. -/
  | extendedReadSingleBlock (req : TagReq) (block : Half)
  /-- R601. The tag starts a field write of one region A block. -/
  | extendedWriteSingleBlock (req : TagReq) (block : Half) (data : Word) (energy : Bool)
  /-- R578. The tag returns up to 64 blocks of 0 to 1791. -/
  | extendedReadMultipleBlocks (req : TagReq) (first count : Half)
  /-- R581. The tag returns its system information for 2048 blocks. -/
  | extendedGetSystemInformation (req : TagReq)
  /-- R579. Any other command addressed to the tag, or received while it is selected, is answered with error 0x01. -/
  | unsupportedTagCommand (req : TagReq) (code : Byte)
  /-- R601. A field write or lock completes its tear row, home block and marker steps, and is answered. -/
  | fieldWriteDone
  /-- R605. A field session ends, so one CONFIG record is made and both record slots are checked. -/
  | fieldSessionEnd
  /-- R612. A scan entry's interval passes, so the controller starts its transaction. -/
  | mgmtEntryDue (entry : Fin 16)
  /-- R614. An I²C transaction ends with a good read or a NAK, and the entry's result is updated. -/
  | mgmtTransactionEnd (result : MgmtResult)
  /-- R617. MB_SCL stays low beyond 25 ms, so the controller releases both lines and reports status 2. -/
  | stretchFault
  /-- R618. MB_SDA is found low before a START, so up to nine SCL pulses and a STOP free the bus, or MB_STUCK is set. -/
  | busRecovery (result : MgmtRecovery)
  /-- R619. Every 100 ms while MB_STUCK is set, the lines are checked and recovery is tried. -/
  | mbStuckRecheck (result : MgmtRecheck)
  /-- R630. A reorder-held item is released after k further items, after 1 s, or when its slot clears. -/
  | reorderRelease (slot : Fin 16)
  /-- R638. The EXTEST instruction disconnects the chain's balls from the core. -/
  | extest (shift : Option ScanOut) (balls : ScanIn)
  /-- R638. The HIGHZ instruction disconnects the chain's balls from the core and holds them high-impedance. -/
  | highz
  /-- R636. The IDCODE instruction selects the identification register. -/
  | idcode
  /-- R636. The SAMPLE/PRELOAD instruction samples and preloads the boundary chain. -/
  | samplePreload (shift : ScanOut) (balls : ScanIn)
  /-- R636. The BYPASS instruction, or any other code, selects the bypass register. -/
  | bypass (code : BitVec 4)
  /-- R635. nTRST or the TAP reset places the test access port in Test-Logic-Reset with IDCODE loaded. -/
  | testLogicReset
  /-- R147. A write to the highest part of a writable split register commits the staged low part with it, ringing BELLOUT bits 0 to 7, clearing BELLIN bits or setting BELLMSK, and clears the staging. -/
  | splitHighWrite (ch : Chan) (reg : SplitReg) (value : Half)
  /-- R55. VANA passes 4.40 V rising, so the receivers become valid, NOISE tagging under R46 stops, first-second counting and stuck and break timing take this instant as reference, and the 1 ms count toward re-enabling the drivers starts. -/
  | vanaGood
  /-- R538. 20 ms after PAIR-HANDOVER, any item still being sent on a listener is cut and kept for re-sending, and the handover proceeds to wait for DELIVERED acknowledgements. -/
  | handoverDrainTimeout
  /-- R470. The 2-bit guard after SLEEP-COMMIT's last stop bit passes without a falling edge, so the bus sleeps with the master's driver released and BUSSTATE becomes ASLEEP. -/
  | sleepBegins (port : PortNo)
  /-- R485. A port acting as a head accepts a ROLL-CALL, SLEEP-PROPOSE, SLEEP-COMMIT or WAKE broadcast and pulses in its slot, objects, sleeps or wakes as the head state machine gives. -/
  | headBroadcastReceived (port : PortNo) (frame : List Half)
  /-- R456. A port acting as a head with attention pending sees an attention window open on the remote master's bus, or the bus asleep, and drives one attention pulse. -/
  | headAttentionPulse (port : PortNo)
  /-- R473. A port acting as a head has slept for S plus 1 s without a master frame, so it leaves sleep and returns to AWAKE. -/
  | headSleepEnds (port : PortNo)
  deriving DecidableEq, Repr

end Sys2Proof
end

