-- ==== Sys2Proof/Config.lean ====
section
/-!
DEFINITION. What an implementation fixes and the spec leaves open. Every constant here is opaque: nothing in Lean can
evaluate it, so a statement about the model holds for every value of it.
-/
namespace Sys2Proof

/-- The free values: the `k`-th draw of a value the spec leaves open (which free cell or slot is taken, an undefined
read). DESIGN CHOICE, log entry 3: `State.draws` counts the draws. -/
opaque Config.freeNat : Nat → Nat

/-- The UID's manufacturer code, bits [55:48] (19 R580: allotted to Vysiyr, not given). Log entry 4. -/
opaque Config.uidMaker : BitVec 8

/-- The UID's serial number, bits [39:0] (19 R580: set at manufacture). Log entry 4. -/
opaque Config.uidSerial : BitVec 40

/-- A factory block of the tag array, per draw (19 R585: reads of blocks 1805-2047 are undefined). Log entry 3. -/
opaque Config.factoryBlock : Nat → BitVec 32

/-- A byte of the firmware data region, per read and address (01 R34: its content is not published at any moment, and no
host may rely on it). Log entry 3. -/
opaque Config.firmwareByte : Nat → Nat → BitVec 8

/-- The 13 bytes of BCH parity of a 512-byte sector (18 R551 gives the code's size and strength, no polynomial and no bit
order). Log entry 165. -/
opaque Config.bchParity : List (BitVec 8) → BitVec 104

/-- What fills byte `k` of the main area of a bad block table's page, between the table and its CRC-32 (18 R544 gives no
filling), by the table's generation. Log entry 167. -/
opaque Config.tableFill (generation k : Nat) : BitVec 8

end Sys2Proof
end

