-- ==== Sys2Proof/Machine/State.lean ====
section
/-!
DEFINITION. The state of the GX-48: plain data, one home for each piece of state the spec names. Bytes of the fabric
address space stand in `State.mem`; the fields of table rows that the GX-48 maintains itself (04 R130) stand in the
records below and are laid over `mem` when the fabric is read (`Machine/Fabric.lean`), so `mem` holds 0 in their place.
-/
namespace Sys2Proof.Machine

/-- The reasons a step could stop with a fault. There is none: every command of the table has an effect, and every
fabric address of 20 bits exists (01 R25). Safe: nothing raises it. -/
inductive Fault where
  deriving DecidableEq, Repr

/-- The reasons a step could answer no meaning. -/
inductive Refusal where
  /-- Raised by an arm of `exec` whose command has no meaning yet, with its mnemonic. Safe: the machine stops. -/
  | notModelled (mnemonic : String)
  deriving DecidableEq, Repr

/-- The eight modes, in code order (03 Table - Modes). -/
inductive Mode where
  | hold | load | prove | run | trim | vigil | doze | probe
  deriving DecidableEq, Repr

/-- The refusal causes of MODENOW, in code order (03 Table - Refusal causes). -/
inductive Cause where
  | none | busy | illegal | noImage | proveFailed | noVigilList | pairFormed | engineRestart
  deriving DecidableEq, Repr

/-- The Culvert error causes, in code order (04 Table - Culvert error causes). -/
inductive ErrCause where
  | none | refused | noLock | timeout | edge | clash | lockState
  deriving DecidableEq, Repr

/-- What a device state owes the host after a MODEREQ write (03 R65-R69, 05 MODENOW). -/
structure ModeRegs where
  /-- MODEREQ: the code last written (05 R152). -/
  request : BitVec 4
  mode    : Mode
  busy    : Bool
  target  : Mode
  cause   : Cause
  /-- The latest write during the transition under way was refused with BUSY (03 R66, R67). -/
  late    : Bool
  /-- The windows owed a MODE_DONE when the busy state clears, oldest first (03 R66, R154). -/
  owed    : List Window
  /-- A DOZE entry's drain is running (03 R86). -/
  draining : Bool
  /-- WAKE was raised in DOZE; doorbell 9 rings after the return (06 R194). -/
  wokeBell : Bool
  deriving DecidableEq, Repr

/-- Supplies, reset, straps, time base and speed. -/
structure Power where
  /-- VCORE and VIO are good and power-on reset is released (02 R40, R45). -/
  running    : Bool
  /-- nRESET is low (02 R49). -/
  nresetLow  : Bool
  /-- Reset completion is running (02 R41). -/
  completing : Bool
  /-- VANA is good (02 R37). -/
  vanaGood   : Bool
  /-- VANA has been good for 1 ms: drivers may be enabled (02 R47). -/
  vanaSettled : Bool
  /-- VANA was lost since the last reset and has not come back (02 R46, R47). -/
  vanaWasLost : Bool
  orderFault : Bool
  rank       : Bool
  waitOd     : Bool
  /-- RESETCTL LASTRESET (05): 1 power-on, 2 nRESET, 3 RESETCTL. -/
  lastReset  : BitVec 2
  tallyLost  : Bool
  /-- Tally ran and was lost: its return is an event (01 R36). -/
  tallyWasLost : Bool
  elapsed    : Stamp
  pace       : Half
  paceLow    : Bool
  /-- Consecutive PACE updates at 450 or more while PACE_LOW is set (01 R31). -/
  paceGood   : Nat
  temp       : Half
  /-- SUPPLY event bits [7:4]: VANA_LOST, VANA_BACK, PACE_LOW_SET, PACE_LOW_CLEARED (05). -/
  supplyEvents : BitVec 4
  audit      : Byte
  deriving DecidableEq, Repr

/-- A lock's progress (04 R126-R132). -/
inductive LockState where
  | idle | pending | granted
  deriving DecidableEq, Repr

/-- The host-facing registers of the Culvert (04, 05). -/
structure Culvert where
  irqstat  : Half
  irqmask  : Half
  kirqstat : Half
  kirqmask : Half
  winpage  : Byte
  winaddr  : BitVec 12
  autoinc  : Bool
  readahead : Bool
  winEdge  : Bool
  more     : Bool
  errcause : ErrCause
  /-- A held read-ahead line: fabric address of its first word and its words (04 R122). -/
  line     : Option (Nat × List Half)
  lock     : LockState
  /-- LOCKCTL PAGES, TIMEOUT and BREAK (05). -/
  pages    : Byte
  timeout  : BitVec 2
  brk      : BitVec 2
  /-- Words the present lock session has written with effect (04 R141). -/
  sessionWords : Nat
  /-- HRESET is high (04 R137). -/
  hreset   : Bool
  /-- The latch of ELAPSED1 and ELAPSED2 (05 R146): elapsed bits [47:16]. -/
  elapsedLatch : BitVec 32
  /-- What HD last held at the end of a read cycle (04 R105); its reset value is log entry 12's. -/
  hostData : Half
  deriving DecidableEq, Repr

/-- A firmware-to-host message slot (06 R186-R187): free, holding a posted message, holding one whose pointer the host has
taken, or one that was taken before the RELEASE doorbell now rung. -/
inductive Slot where
  | free | posted | taken | rung
  deriving DecidableEq, Repr

/-- A reply or completion waiting to be posted (06 R188, R189). -/
structure Reply where
  code    : Half
  status  : Half
  tag     : Half
  payload : List Byte
  deriving DecidableEq, Repr

/-- The registers of one mailbox channel (05 Table - Channel registers, MBOXSTAT) and the firmware's side of it (06). -/
structure ChanRegs where
  bellOut : Byte
  bellIn  : Word
  bellMsk : Word
  mboxOut : Word
  mboxIn  : Word
  outFull : Bool
  inFull  : Bool
  outAborted : Bool
  inAborted  : Bool
  outRefused : Bool
  /-- The re-post holder (06 R201, R202). -/
  repost  : Option Word
  /-- Staged low parts (05 R147). -/
  stBellOut : Half
  stBellIn  : Half
  stBellMsk : Half
  stMboxOut : Half
  /-- Read latches of the higher parts (05 R146). -/
  laBellOut : Half
  laBellIn  : Half
  laBellMsk : Half
  laMboxOut : Half
  laMboxIn  : Half
  slots   : Vector Slot 8
  /-- The slot of the pointer waiting in MBOXIN or in the re-post holder. -/
  inSlot  : Option (Fin 8)
  /-- The firmware's SEQ of the next message (06 R193). -/
  seq     : BitVec 12
  replies : List Reply
  deriving DecidableEq, Repr

/-- LOADSTAT IMAGE (05). -/
inductive Image where
  | none | checking | checked | failed
  deriving DecidableEq, Repr

/-- A command taken and not yet answered (06 R189, R200). -/
structure Taken where
  ch   : Chan
  code : Half
  tag  : Half
  payload : List Byte
  /-- Its pointer breaks 06 R182, so that nothing of it is executed (R190). -/
  malformed : Bool
  /-- The elapsed instant of the take, and its doubt (08 R235, R247). -/
  stamp : Stamp
  doubt : Bool
  deriving DecidableEq, Repr

/-- What an ACCEPTED command waits for (08 R189, R228). -/
inductive Work where
  /-- PORT-RETIRE: the sides it is retiring. -/
  | portRetire (port : PortNo) (rx tx : Bool)
  /-- HEAD-RETURN, and the STATE that the head had before it (08 R226). -/
  | headReturn (bus : BusNo) (head : HeadNo) (before : BitVec 3)
  | handover
  | format
  | publish
  | sweep (port : PortNo) (steps : Nat)
  deriving DecidableEq, Repr

/-- An ACCEPTED command that has not completed. -/
structure Accepted where
  ch   : Chan
  code : Half
  tag  : Half
  work : Work
  deriving DecidableEq, Repr

/-- A Sieve command that waits for the end of a bank copy (12 R364). -/
structure SieveWait where
  commit  : Bool
  msg     : Msg
  deriving DecidableEq, Repr

/-- The engine, its image and its watchdog (05 LOADSTAT, WDOGSTAT; 07). -/
structure Engine where
  up         : Bool
  restarting : Bool
  pmFail     : Bool
  lastCause  : BitVec 4
  count      : Byte
  image      : Image
  loadErr    : BitVec 4
  prove      : BitVec 4
  provePart  : BitVec 4
  /-- The self-test is over, so commands are taken in PROVE (08 Table - Mode sets). -/
  testEnded  : Bool
  /-- The 64-byte header store, when it holds a header (07 R208). -/
  header     : Option (List Byte)
  taken      : List Taken
  accepted   : List Accepted
  lastServed : Chan
  /-- Doorbells whose event came while the engine restarted: the firmware rings them when it runs again (06 R194). -/
  owedBells  : Word
  /-- ALARMSTAT and PAIRSTAT as the engine wrote them last, while it is down (05 R175, R180). -/
  shown      : Option (Half × Half)
  deriving DecidableEq, Repr

/-- An epoch: a UTC instant bound to an elapsed instant (08 R235). -/
structure Epoch where
  seconds : Word
  micros  : Word
  instant : Stamp
  deriving DecidableEq, Repr

/-- The firmware settings outside the table rows (08 Table - Settings block, R231) and the digest (R232, R233). -/
structure Settings where
  designated  : List PortNo
  alrTalker0  : Byte
  alrTalker1  : Byte
  alrRepeat   : Half
  heartbeat   : Half
  hostWatch   : Half
  takeover    : Half
  pairEnable  : Bool
  sentences   : Bool
  mgmtFast    : Bool
  scan        : Vector (BitVec 64) 16
  epoch       : Option Epoch
  digest      : Word
  lastChange  : Stamp
  changes     : Nat
  /-- EVENTS: device flags TALLY-LOST, TALLY-BACK, HOST-SILENT, PACE-LOW and ports with a new event (08 R240). -/
  devFlags    : BitVec 4
  portFlags   : BitVec 48
  deriving DecidableEq, Repr

/-- One receive FIFO entry with the stamp latched at its start edge (10 R303, 11 R339). -/
structure Entry where
  bits  : Half
  stamp : Stamp
  doubt : Bool
  /-- Its amplitude reading on a DIFFERENTIAL port (09 R271), and whether VALID stood as it was read (09 R273). -/
  reading : Option Byte
  valid : Bool
  deriving DecidableEq, Repr

/-- The amplitude block of a port (09 R272) and the counts behind it (R273, R275). -/
structure Amp where
  last  : Byte
  mean  : Byte
  min   : Byte
  max   : Byte
  own   : Byte
  steps : Byte
  low   : Bool
  ownLow : Bool
  /-- Characters read since the latest of the conditions of R273 began, up to 16. -/
  seen  : Nat
  /-- The running window of 256 characters. -/
  winCount : Nat
  winMin : Byte
  winMax : Byte
  /-- Reference reading of the item or frame, and whether its step is counted (R275). -/
  ref   : Option Byte
  stepped : Bool
  deriving DecidableEq, Repr

/-- The counts of PORT-STATS (08 R238). -/
structure PortStats where
  sentences  : Nat
  characters : Nat
  flawed     : Nat
  checksum   : Nat
  afterLoss  : Nat
  glitches   : Nat
  noise      : Nat
  breaks     : Nat
  deriving DecidableEq, Repr

/-- The assembler's states (11 Table - Assembler states). -/
inductive AsmState where
  | hunt | tag | afterTag | sentence | awaitLf
  deriving DecidableEq, Repr

/-- A port's assembler and its item being assembled (11 R319-R332, 13 R386). -/
structure Asm where
  state   : AsmState
  /-- Payload stored so far, in order. -/
  chars   : List Byte
  /-- Length of the TAG block, 0 without one. -/
  tagLen  : Nat
  cells   : List Nat
  flawed  : Bool
  stamp   : Stamp
  doubt   : Bool
  woke    : Bool
  void    : Bool
  injected : Bool
  deriving DecidableEq, Repr

/-- A group's identity (14 R422): by TAG g:, or by the fields of a '!' sentence. -/
inductive GroupKey where
  | byTag (source : Byte) (group count : Nat)
  | byFields (source : Byte) (address : List Byte) (count ident : Nat)
  deriving DecidableEq, Repr

/-- An item's place on the road. -/
inductive Place where
  /-- Ended, awaiting the Sieve. -/
  | ended
  /-- Held by the injection slot for reorder (21 R630): further items of the port still to end. -/
  | reorder (slot : Fin 16) (left : Nat)
  /-- In a governor's DEFER queue (12 R376). -/
  | deferred (gov : GovNo)
  | committed
  deriving DecidableEq, Repr

/-- One item from its end on (13 Table - Header words, R379). -/
structure Item where
  id      : Nat
  cells   : List Nat
  payload : List Byte
  tagLen  : Nat
  source  : Byte
  stamp   : Stamp
  doubt   : Bool
  flags   : Byte
  place   : Place
  void    : Bool
  /-- KIND LAMP-ALARM (13 R384). -/
  alarm   : Bool
  cls     : Nat
  rule    : Nat
  breach  : Bool
  group   : Bool
  stampAct : BitVec 2
  /-- Destination mask of w3 and w4, and the ENGINE bit of w4. -/
  mask    : BitVec 51
  engine  : Bool
  pairSeq : Word
  /-- The governor it came through (12 R374). -/
  gov     : Option GovNo
  /-- Its reference count (13 R391). -/
  refs    : Nat
  /-- A standby's match (17 R523). -/
  isMatched : Bool
  deriving DecidableEq, Repr

/-- One link of a view's queue. `order` is the stamp it stands by (12 R375); `front` marks an item returned to the front
of its class (14 R417). -/
structure Link where
  item  : Nat
  cls   : Nat
  order : Stamp
  source : Byte
  front : Bool
  deriving DecidableEq, Repr

/-- A view: its queue in reading order, its items in flight or held, and its maintained row fields (13 R393, R396). -/
structure View where
  queue    : List Link
  inFlight : List Link
  /-- A standby's port view: the item it takes to be in flight on the duty (17 R537, log entry 162). -/
  ahead    : Option Nat
  retired  : Bool
  parked   : Bool
  refusals : Nat
  evictions : Nat
  deriving DecidableEq, Repr

/-- What a listener's line carries (14 R410): the item and the characters with its TAG block. -/
structure Sending where
  item   : Nat
  bytes  : List Byte
  resend : Bool
  /-- Its first character has begun (R686). -/
  begun  : Bool
  deriving DecidableEq, Repr

/-- A group in progress on a port (14 R423-R427). -/
structure GroupRun where
  key   : GroupKey
  count : Nat
  next  : Nat
  /-- The class of the member begun last (R413, R685). -/
  cls   : Nat
  held  : List Link
  /-- A flush or an eviction released its holds (R427). -/
  released : Bool
  /-- Something has interrupted it while a member was on the line (R685). -/
  yields : Bool
  deriving DecidableEq, Repr

/-- The Spillway's server of one port (14). -/
structure Tx where
  sending  : Option Sending
  group    : Option GroupRun
  /-- Groups abandoned on this port (R424): later members are released unsent. -/
  abandoned : List GroupKey
  /-- Queued items that met R413 at their link. -/
  breachers : List Nat
  /-- Items sent, at least in part, before (their next sending is a re-send). -/
  cut      : List Nat
  /-- A character waits for CTS (R412). -/
  ctsWait  : Bool
  /-- A cut terminator stands before the next item (R415 step 4). -/
  terminator : Bool
  /-- Two character times of mark are owed before the next start bit (02 R63). -/
  markOwed : Bool
  /-- Point-1 reorders: slot, item and the items still to go ahead (21 R631). -/
  reorder  : List (Fin 16 × Nat × Nat)
  breaches : Nat
  resends  : Nat
  abandons : Nat
  deriving DecidableEq, Repr

/-- A loopback (21 R622, R623). -/
inductive Loop where
  | off | internal | external
  deriving DecidableEq, Repr

/-- What the line must show before the next start edge is accepted: nothing; mark at one sample (10 R296); mark for one bit
time (09 R266, R278) or for one character time (15 R466); the end of a waking character that is not caught (03 R89). -/
inductive LineHold where
  | free | sample | bit | character | waking
  deriving DecidableEq, Repr

/-- The states of a Hedge head (15 R484). -/
inductive HeadMode where
  | awake | turnaround | sending | asleep | hushed
  deriving DecidableEq, Repr

/-- A port acting as a head (15 R485): what it keeps under R453, its attention and its sleep. -/
structure HeadRole where
  mode    : HeadMode
  kept    : Option (Bool × BitVec 7 × List Byte)
  attention : Bool
  lamp1   : Byte
  lamp2   : Byte
  /-- The reply being prepared in TURNAROUND (15 R484). -/
  prepared : Option (List Byte)
  /-- The length of a SLEEP-COMMIT accepted whose guard still runs with no falling edge (15 R472). -/
  commit  : Option Half
  sleepFor : Half
  /-- The reply or pulse last driven on the bus: a reply's bytes, or none for a pulse. -/
  reply   : List Byte
  pulses  : Nat
  deriving DecidableEq, Repr

/-- One port (09, 10, 11, 14). -/
structure Port where
  /-- The receive line is at space. -/
  space   : Bool
  /-- Pnn_CTS is asserted, as last sampled (09 R283). -/
  cts     : Bool
  /-- Pnn_RTS is asserted (10 R306). -/
  rts     : Bool
  /-- The driver is enabled, or a hedge driver may be (02 R62 step 5). -/
  driver  : Bool
  hot     : Bool
  /-- The host-written 16 bytes of the row each side has adopted (10 R288), little-endian. -/
  rxRow   : BitVec 128
  txRow   : BitVec 128
  rxAdopt : Bool
  txAdopt : Bool
  /-- The receive side is armed (02 R58). -/
  armed   : Bool
  rxRetired : Bool
  txRetired : Bool
  parked  : Bool
  /-- The receive side parks at its next sentence boundary (03 R82). -/
  parking : Bool
  stuck   : Bool
  silent  : Bool
  wokeSeen : Bool
  hunting : Bool
  rateNow : Nat
  frameRun : Nat
  /-- The rate first-second framing uses, 0 before the first recognition (02 R56). -/
  firstRate : Nat
  /-- The elapsed counter latched at the start edge under way, with its doubt (11 R339). -/
  edge    : Option (Stamp × Bool)
  /-- What the next start edge waits for. -/
  hold    : LineHold
  /-- A falling edge has come on the sensed pair since the last SLEEP-COMMIT there (15 R474). -/
  fell    : Bool
  /-- The first-second pacer or stopwatch has counted the character under way (02 R56). -/
  counted : Bool
  /-- The half-duplex join is closed (09 R266). -/
  joined  : Bool
  /-- The latches of the last three falling edges, the newest first: edges 1, 3 and 5 of a '$' or '!' (10 R309). -/
  falls   : List (Stamp × Bool)
  fifo    : List Entry
  /-- Entries stored in DOZE that the assembler is still to take before the port parks (03 R92). -/
  keep    : Nat
  afterLoss : Bool
  wokeNext : Bool
  /-- The waking start edge of a character that was not caught (03 R89, R91). -/
  wokeEdge : Option (Stamp × Bool)
  /-- MUTE lets characters through since a matching address (10 R301). -/
  unmuted : Bool
  amp     : Amp
  stats   : PortStats
  asm     : Asm
  tx      : Tx
  loop    : Loop
  head    : HeadRole
  deriving DecidableEq, Repr

/-- Members of a group that a governor withholds (12 R377): the group, the last of its members that was withheld, and the
views. -/
structure Withheld where
  key   : GroupKey
  member : Nat
  mask  : BitVec 51
  deriving DecidableEq, Repr

/-- A Weir governor's maintained state (12 R366, R684). -/
structure Gov where
  tokens   : Nat
  withheld : List Withheld
  passes   : Nat
  drops    : Nat
  replaced : Nat
  deferrals : Nat
  deriving DecidableEq, Repr

/-- The Sieve's maintained state (12 R353, R359, R363). -/
structure Sieve where
  bankB     : Bool
  activeCrc : Word
  hits      : Vector Nat 512
  copying   : Bool
  /-- The commit that the end of the copy answers. -/
  answer    : Option Taken
  waiting   : List SieveWait
  deriving DecidableEq, Repr

/-- A lamp's last report, and when the last confirming one came (11 Table - PVYSL fields). -/
structure Report where
  current : Half
  flashes : Byte
  confirmed : Option Stamp
  deriving DecidableEq, Repr

/-- A lamp (16): the row in force, its maintained bits and the engine's times. -/
structure Lamp where
  /-- The row in force; bits [5:0] are 0 here (16 R681). -/
  row      : Word
  state    : BitVec 3
  acked    : Bool
  held     : Bool
  injected : Bool
  /-- The elapsed instant of the latest change of condition or acknowledgement (11 Table - ALR fields). -/
  changed  : Stamp
  report   : Option Report
  /-- An engine restart has come since the last confirming report (16 R503). -/
  cold     : Bool
  /-- A LAMP-TEST: armed action 0 (none), 1 or 2 with its duration, and whether it runs (08 R250). -/
  testAction : BitVec 2
  testSeconds : Half
  testRuns : Bool
  /-- An action-2 test runs: the lamp is commanded off by SET-LAMP. -/
  offRuns  : Bool
  deriving DecidableEq, Repr

/-- A change of a lamp on its way through the steps of 16 R495: the lamp before and after it, the instant, and whether its
state is still to be written (an acknowledgement has set ACKED first, R498). -/
structure LampMove where
  lamp   : LampNo
  before : Lamp
  after  : Lamp
  time   : Stamp
  writes : Bool
  deriving DecidableEq, Repr

/-- A lamp alarm waiting for a cell (13 R398), with the change whose later steps wait with it (16 R495); a change that calls
for no $--ALR and waits behind one has an empty sentence. -/
structure AlarmWait where
  payload  : List Byte
  stamp    : Stamp
  doubt    : Bool
  /-- The route row whose MASK its commit reads (16 R488). -/
  route    : Nat
  injected : Bool
  move     : Option LampMove
  deriving DecidableEq, Repr

/-- The Sluice (13). -/
structure Sluice where
  free   : List Nat
  items  : List Item
  nextId : Nat
  views  : Vector View 52
  noCell : Nat
  poolEvict : Nat
  alarmWaits : List AlarmWait
  deriving DecidableEq, Repr

/-- A Hedge command of the master (15 Table - Frame types). -/
structure HedgeCmd where
  head    : HeadNo
  type    : BitVec 7
  payload : List Byte
  deriving DecidableEq, Repr

/-- An exchange: the command, its toggle and the failed attempts so far (15 R449, R451). -/
structure Exchange where
  cmd     : HedgeCmd
  toggle  : Bool
  fails   : Nat
  deriving DecidableEq, Repr

/-- BUSSTATE, in code order (15 Table - Bus row). -/
inductive BusState where
  | stopped | joining | polling | asleep | blind
  deriving DecidableEq, Repr

/-- A sleep agreement's progress (15 R470). -/
inductive SleepPhase where
  | none | proposed | committing
  deriving DecidableEq, Repr

/-- One Hedge bus of the master (15). -/
structure Bus where
  state    : BusState
  probe    : Byte
  collides : Nat
  attentions : Nat
  strangers : Nat
  sleepAborts : Nat
  /-- Bus faults (R457): the spec gives the count no register. -/
  faults   : Nat
  /-- The exchange outstanding, at most one (R451). -/
  exchange : Option Exchange
  /-- A command whose attempt failed: its repeat goes next (R449). -/
  retry    : Option Exchange
  /-- Repeats that wait until a ROLL-CALL's POLLs are over, the latest first. -/
  parked   : List Exchange
  /-- Heads that answered the ROLL-CALL and are still to POLL (R458). -/
  grant    : List HeadNo
  /-- RESYNC, INVENTORY and POLL of joins and returns, in order. -/
  queue    : List HedgeCmd
  /-- SET-LAMPs that wait for the next POLL of their head (R450). -/
  setLamps : List HedgeCmd
  /-- Heads still to POLL in this round. -/
  round    : List HeadNo
  /-- A ROLL-CALL to be sent next, by mode: false heads with attention, true every head. -/
  rollCall : Option Bool
  /-- The mode of the ROLL-CALL whose slots are running. -/
  rolling  : Option Bool
  /-- The POLLs of a grant run, their repeats included; attention came meanwhile: one more ROLL-CALL after them (R458). -/
  granting : Bool
  again    : Bool
  /-- A join's ROLL-CALL waits until one for attention is over (R458, R461). -/
  joinDue  : Bool
  /-- A WAKE to be sent next, and whether the wake pulse precedes it (R474). -/
  wake     : Option Bool
  /-- A HEAD-RETIRE that waits for the end of an exchange with its head (15 R482). -/
  retire   : Option (HeadNo × Taken)
  sleep    : SleepPhase
  sleepFor : Half
  /-- The frame last driven on the bus, and whether the wake pulse preceded it (R474). -/
  sent     : List Byte
  pulse    : Bool
  deriving DecidableEq, Repr

/-- A head row's maintained fields (15 Table - Head row). -/
structure Head where
  /-- 0 ABSENT, 1 JOINING, 2 ACTIVE, 3 SILENT, 4 BLIND, 5 RETIRED. -/
  state    : BitVec 3
  toggle   : Bool
  lampsSeen : BitVec 2
  attn     : Bool
  mismatch : Bool
  fails    : Byte
  makerSeen : Half
  /-- The next command follows a RESYNC (R452). -/
  fresh    : Bool
  /-- It left SILENT or BLIND: its return to ACTIVE makes HEAD-BACK (R481). -/
  wasLost  : Bool
  deriving DecidableEq, Repr

/-- A device's role (17 R516, R521). -/
inductive Role where
  | lone | duty | standby | none
  deriving DecidableEq, Repr

/-- A sequenced Pleach frame of this device (17 R510). -/
inductive Frame where
  | mirror (records : List MirrorRec)
  | delivered (records : List DeliveredRec)
  | item (id : Nat) (rec : ItemRec)
  | lamp (records : List LampRec)
  | epoch (rec : Option EpochRec)
  | handover (nextSeq : Word)
  | catchupEnd (nextSeq : Word)
  deriving DecidableEq, Repr

/-- The peer as its HEARTBEATs give it (17). -/
structure Peer where
  flags  : Byte
  rank   : Bool
  mode   : Byte
  major  : Half
  minor  : Half
  patch  : Half
  digest : Word
  deriving DecidableEq, Repr

/-- A planned handover's progress (17 R538). -/
inductive HandoverStep where
  | none | draining | acks | waiting
  deriving DecidableEq, Repr

/-- The Pleached pair (17). -/
structure Pair where
  role     : Role
  dutyOut  : Bool
  dutyIn   : Bool
  linkUp   : Bool
  formed   : Bool
  armed    : Bool
  splitConfig : Bool
  minorMismatch : Bool
  majorMismatch : Bool
  timeSkew : Bool
  peerEngineDown : Bool
  /-- Equal ranks were seen (R518): no further claim until either device is reset. -/
  sameRank : Bool
  /-- HEARTBEATs accepted in a row, up to 3 (R515). -/
  beats    : Nat
  peer     : Option Peer
  txSeq    : Half
  rxSeq    : Half
  recent   : List Half
  unacked  : List (Half × Frame)
  waiting  : List Frame
  ackOwed  : Bool
  /-- Frames withheld by a point-2 reorder: slot, frames still to go ahead, SEQ and frame (21 R628). -/
  withheld : Option (Fin 16 × Nat × Half × Frame)
  /-- The latest measured and the adopted offset, duty elapsed less own, modulo 2^48 (R529). -/
  measured : Option Stamp
  offset   : Option Stamp
  skew     : Int
  steady   : Nat
  nextSeq  : Word
  lastMirrored : Word
  /-- MIRROR records that wait for their item (R523). -/
  unmatched : List MirrorRec
  /-- The last HEARTBEAT sent. -/
  beat     : Option Heartbeat
  /-- The last frame sent, byte for byte (R509). -/
  wire     : List Byte
  /-- LAMP records accepted while a standby's engine was down (R527). -/
  lampsOwed : List LampRec
  handover : HandoverStep
  /-- The catch-up of formation has ended (R531 step 4). -/
  caughtUp : Bool
  /-- Step 1-4 of formation has been started on this link-up. -/
  forming  : Bool
  /-- An accepted HANDOVER awaits PL_DUTY_IN low (R535). -/
  handed   : Bool
  /-- The device was lone or duty when it went to DOZE, so its listeners hold mark there (03 R95). -/
  dozeDrives : Bool
  sent     : Nat
  accepted : Nat
  dropped  : Nat
  duplicates : Nat
  resent   : Nat
  missing  : Nat
  orphans  : Nat
  deriving DecidableEq, Repr

/-- A journal record (18 R546). -/
structure Rec where
  kind  : Byte
  flags : Byte
  boot  : Half
  stamp : Stamp
  seq   : Word
  body  : List Byte
  deriving DecidableEq, Repr

/-- A journal page: in staging, or on the medium (18 R550). -/
structure Page where
  boot    : Half
  records : List Rec
  serial  : Nat
  relocated : Bool
  early   : Bool
  deriving DecidableEq, Repr

/-- A closed staging page and the failures it has met in a row (18 R564). -/
structure Closing where
  staging : Nat
  page    : Page
  fails   : Nat
  /-- The bad block that its relocation left, once a program of it has failed (18 R563). -/
  movedFrom : Option Nat
  deriving DecidableEq, Repr

/-- A programmed page of the medium. -/
structure NandPage where
  block : Nat
  index : Nat
  page  : Page
  deriving DecidableEq, Repr

/-- The blocks Silt uses, those of target 0 first (18 R539, R540), and the timing modes that each target used lists. -/
structure NandGeom where
  pageSize      : Nat
  spareSize     : Nat
  pagesPerBlock : Nat
  blocks        : Nat
  factoryBad    : List Nat
  listed        : List (BitVec 6)
  deriving DecidableEq, Repr

/-- The NAND medium (18 R543, R544). -/
structure Nand where
  geom      : NandGeom
  /-- The timing mode that SET FEATURES selected in each target at the last mount (R540). -/
  timing    : List Nat
  formatted : Bool
  bad       : List Nat
  tables    : List Nat
  /-- The generation that the last format wrote to both table blocks (R543 step 6, R544). -/
  tableBase : Nat
  spares    : List Nat
  ring      : List Nat
  generation : Nat
  erases    : List (Nat × Nat)
  pages     : List NandPage
  /-- The ring block being written and its next page. -/
  block     : Nat
  nextPage  : Nat
  /-- PAGESERIAL of the page written last (18 R550). -/
  serial    : Nat
  /-- The oldest page not yet read back by the scrub (18 R567). -/
  scrubAt   : Nat
  /-- A format set the sequence to 1 and no mount has followed (R543, R560). -/
  fresh     : Bool
  /-- The erase under way and those owed after it (18 R543, R567, R569). -/
  erasing   : List Nat
  /-- The operation that was in progress as DOZE came into force, until it ends (R570). -/
  left      : Option NandOp
  /-- The targets to which Silt owes a RESET before it uses them again (R542). -/
  resets    : List Nat
  deriving DecidableEq, Repr

/-- The Silt journal (18). State codes are those of JOURNAL-STATUS (08 R253). -/
structure Journal where
  state    : Nat
  boot     : Half
  mounted  : Bool
  nextSeq  : Word
  accepted : Word
  durable  : Word
  nand     : Option Nand
  staging  : Option (Nat × Page)
  closed   : List Closing
  /-- Event records waiting in the engine and those dropped (R557). -/
  waiting  : List Rec
  dropped  : Nat
  /-- Records held in PROVE and those dropped (R571). -/
  held     : List Rec
  heldDropped : Nat
  /-- CONFIG records of MODEREQ writes owed until the journal runs (03 R70). -/
  owed     : List Rec
  /-- A RESETCTL reset whose CONFIG record the journal still owes (05 R179). -/
  resetOwed : Bool
  skipped  : Nat
  eventsDropped : Nat
  programmed : Nat
  relocations : Nat
  scrubs   : Nat
  retired  : Nat
  lossRecords : Nat
  deriving DecidableEq, Repr

/-- A field write or lock in progress, and whether its Option flag puts its answer off to an EOF (19 R582, R601). -/
structure FieldWrite where
  block   : Nat
  data    : Word
  isLock  : Bool
  option  : Bool
  deriving DecidableEq, Repr

/-- What the tag last sent: an error code, or a success with its data bytes; none when it sent no answer. -/
inductive TagAnswer where
  | silent
  | error (code : Byte)
  | data (bytes : List Byte)
  deriving DecidableEq, Repr

/-- The ISO/IEC 15693 states (19 R578). -/
inductive TagState where
  | ready | quiet | selected
  deriving DecidableEq, Repr

/-- A host tag operation in progress (05 R170). -/
inductive HostTagOp where
  | read (block : Nat) | write (block : Nat) (data : Word)
  deriving DecidableEq, Repr

/-- A lamp event of region B (19 Table - Lamp event). -/
structure LampEvent where
  lamp   : Nat
  before : Byte
  after  : Byte
  alarm  : Half
  flags  : Byte
  stamp  : Stamp
  boot   : Half
  deriving DecidableEq, Repr

/-- The Quickset tag and its host port (05, 19). -/
structure Tag where
  /-- The 2048 blocks: the listed ones, ascending, none 0; every other block reads 0. -/
  blocks   : List (Nat × Word)
  marker   : Bool
  iso      : TagState
  field    : Bool
  fieldLock : Bool
  /-- Field writes and locks received whole, the first of them in progress (19 R598, R601). -/
  writes   : List FieldWrite
  /-- A write or lock with the Option flag has ended and is answered at the next EOF (R582). -/
  owes     : Bool
  answer   : TagAnswer
  /-- TAGCTL OP, TAGADDR and the buffer. -/
  op       : BitVec 3
  half     : Bool
  block    : BitVec 11
  buffer   : Word
  busy     : Bool
  done     : Bool
  wrote    : Bool
  waited   : Bool
  err      : BitVec 4
  hostOp   : Option HostTagOp
  /-- The field session: first block, blocks written, stamp of the last write (R601, R605). -/
  session  : Option (Nat × Nat × Stamp)
  events   : List LampEvent
  /-- Publishing: the words still to write (R589). -/
  publishing : Option (List (Nat × Word))
  publishes : Nat
  /-- The next publish writes every block (R589). -/
  whole    : Bool
  /-- Digest, ALARMSTAT, FIELDSEQ and the newest event at the last publish (R590). -/
  lastPublish : Option (Word × Half × Half × Nat)
  /-- The same before the publish in progress, which an abandoned TAG-PUBLISH gives back (08 R226). -/
  publishedBefore : Option (Word × Half × Half × Nat)
  /-- Lamp events made since the last reset. -/
  eventsMade : Nat
  /-- The generation last reported (R594). -/
  reported : Option Half
  /-- Region B is to be read at the next WORK entry (R590, R606). -/
  firstEntry : Bool
  /-- FIELDSEQ last journalled (R588, R606). -/
  seqLogged : Half
  deriving DecidableEq, Repr

/-- One scan entry's result (20 R614). -/
structure ScanResult where
  status : Byte
  data   : List Byte
  stamp  : Stamp
  deriving DecidableEq, Repr

/-- What a transaction puts on the management bus, slot by slot (20 R610): a byte sent takes the target's acknowledge bit, and
a byte received is given ACK or NAK. -/
inductive MgmtSlot where
  | start | send (byte : Byte) | receive (ack : Bool) | stop
  deriving DecidableEq, Repr

/-- The management bus (20). -/
structure Mgmt where
  results : Vector ScanResult 16
  /-- The entry whose transaction is in progress. -/
  active  : Option (Fin 16)
  stuck   : Bool
  /-- A MGMT-SET waits for the end of the transaction to take effect (R613). -/
  setWaits : Bool
  /-- Entries that are due (R612). -/
  due     : BitVec 16
  /-- The slots of the transaction started last, and its speed: true for 400 kHz (R607, R610, R613). -/
  slots   : List MgmtSlot
  fast    : Bool
  deriving DecidableEq, Repr

/-- An injection slot (21 R627-R629). -/
structure Slot16 where
  used   : Bool
  point  : Byte
  target : Byte
  fault  : Byte
  bit    : Byte
  k      : Byte
  every  : Half
  lfsr   : Half
  prob   : Half
  steps  : Nat
  count  : Nat
  deriving DecidableEq, Repr

/-- Deliberate faults (21). -/
structure Inject where
  enabled : Bool
  slots   : Vector Slot16 16
  deriving DecidableEq, Repr

/-- The test access port (21 R635-R638). -/
structure Jtag where
  /-- The instruction register. -/
  ir      : BitVec 4
  /-- The chain has been sampled and preloaded since Test-Logic-Reset. -/
  sampled : Bool
  /-- The output cells, which drive the balls under EXTEST (R637). -/
  out     : ScanOut
  /-- What the input cells captured last, and the cells that observe the receivers' decisions, mark being 1 (R637). -/
  seen    : ScanIn
  lines   : BitVec 48
  deriving DecidableEq, Repr

/-- The whole device, and the commands that wait, oldest first. -/
structure State where
  pending  : List Instr
  /-- The fabric address space: (address, byte), addresses rising, no byte 0 listed (log entry 2). -/
  mem      : List Host.Cell
  /-- The model's own field: draws of free values so far (log entry 3). -/
  draws    : Nat
  power    : Power
  modes    : ModeRegs
  culvert  : Culvert
  chanN    : ChanRegs
  chanK    : ChanRegs
  engine   : Engine
  settings : Settings
  /-- The first-second counters count (02 R57, R74). -/
  counting : Bool
  ports    : Vector Port 48
  sieve    : Sieve
  govs     : Vector Gov 256
  sluice   : Sluice
  lamps    : Vector Lamp 1024
  buses    : Vector Bus 8
  heads    : Vector Head 240
  pair     : Pair
  journal  : Journal
  tag      : Tag
  mgmt     : Mgmt
  inject   : Inject
  jtag     : Jtag
  /-- Events raised in DOZE, made after the return (09 "The line falls to space while the GX-48 dozes"). -/
  dozeEvents : List (Nat × Nat × Nat × Nat)
  deriving DecidableEq, Repr

/-! ### Reset: the release of power-on reset (02 step 4 of Table - Power-up events), before reset completion. -/

/-- 08 R231: 8N1 at 4800 Bd, roles OFF, VOTE, NOCKSUM FLAG, STUCKTIME 200, RTS marks 16 and 48 (10 Table - Port row). -/
def PortRow.default : BitVec 128 :=
  BitVec.ofNat 128 (0x0008 + 4800 * 2 ^ 32 + (48 * 256 + 16) * 2 ^ 64 + 200 * 2 ^ 80)

def Amp.reset : Amp :=
  { last := 0, mean := 0, min := 0, max := 0, own := 0, steps := 0, low := false, ownLow := false, seen := 0,
    winCount := 0, winMin := 0, winMax := 0, ref := none, stepped := false }

def PortStats.reset : PortStats :=
  { sentences := 0, characters := 0, flawed := 0, checksum := 0, afterLoss := 0, glitches := 0, noise := 0, breaks := 0 }

def Asm.reset : Asm :=
  { state := .hunt, chars := [], tagLen := 0, cells := [], flawed := false, stamp := 0, doubt := false, woke := false,
    void := false, injected := false }

def Tx.reset : Tx :=
  { sending := none, group := none, abandoned := [], breachers := [], cut := [], ctsWait := false, terminator := false,
    markOwed := false, reorder := [], breaches := 0, resends := 0, abandons := 0 }

def HeadRole.reset : HeadRole :=
  { mode := .awake, kept := none, attention := false, lamp1 := 0, lamp2 := 0, prepared := none, commit := none, sleepFor := 0, reply := [], pulses := 0 }

/-- Both sides have the default row of 08 R231, OFF and OFF, before the fill: DESIGN CHOICE, log entry 5. The line at mark
and CTS asserted: DESIGN CHOICE, log entry 12. -/
def Port.reset : Port :=
  { space := false, cts := true, rts := false, driver := false, hot := false, rxRow := PortRow.default,
    txRow := PortRow.default, rxAdopt := false, txAdopt := false, armed := false, rxRetired := false,
    txRetired := false, parked := false, parking := false, stuck := false, silent := false, wokeSeen := false,
    hunting := false, rateNow := 0, frameRun := 0, firstRate := 0, edge := none, hold := .free, fell := false, counted := false, joined := false,
    falls := [], fifo := [], keep := 0, afterLoss := false, wokeNext := false, wokeEdge := none, unmuted := false, amp := Amp.reset, stats := PortStats.reset, asm := Asm.reset, tx := Tx.reset,
    loop := .off, head := HeadRole.reset }

def Gov.reset : Gov :=
  { tokens := 0, withheld := [], passes := 0, drops := 0, replaced := 0, deferrals := 0 }

def View.reset : View :=
  { queue := [], inFlight := [], ahead := none, retired := false, parked := false, refusals := 0, evictions := 0 }

def Lamp.reset : Lamp :=
  { row := 0, state := 0, acked := false, held := false, injected := false, changed := 0, report := none, cold := false,
    testAction := 0, testSeconds := 0, testRuns := false, offRuns := false }

def Bus.reset : Bus :=
  { state := .stopped, probe := 0, collides := 0, attentions := 0, strangers := 0, sleepAborts := 0, faults := 0, exchange := none,
    retry := none, parked := [], grant := [], queue := [], setLamps := [], round := [], rollCall := none,
    rolling := none, granting := false, again := false, joinDue := false, wake := none, retire := none, sleep := .none, sleepFor := 0, sent := [],
    pulse := false }

def Head.reset : Head :=
  { state := 0, toggle := false, lampsSeen := 0, attn := false, mismatch := false, fails := 0, makerSeen := 0,
    fresh := false, wasLost := false }

def ScanResult.reset : ScanResult := { status := 4, data := [], stamp := 0 }

def Slot16.reset : Slot16 :=
  { used := false, point := 0, target := 0, fault := 0, bit := 0, k := 0, every := 0, lfsr := 0, prob := 0, steps := 0,
    count := 0 }

def ChanRegs.reset : ChanRegs :=
  { bellOut := 0, bellIn := 0, bellMsk := 0, mboxOut := 0, mboxIn := 0, outFull := false, inFull := false,
    outAborted := false, inAborted := false, outRefused := false, repost := none, stBellOut := 0, stBellIn := 0,
    stBellMsk := 0, stMboxOut := 0, laBellOut := 0, laBellIn := 0, laBellMsk := 0, laMboxOut := 0, laMboxIn := 0,
    slots := Vector.replicate 8 .free, inSlot := none, seq := 0, replies := [] }

/-- MODENOW 0x8000: HOLD, busy (05 R153). -/
def ModeRegs.reset : ModeRegs :=
  { request := 0, mode := .hold, busy := true, target := .hold, cause := .none, late := false, owed := [], draining := false,
    wokeBell := false }

/-- WINCTL 0x0001 and every other Culvert register 0 (05 R149). -/
def Culvert.reset : Culvert :=
  { irqstat := 0, irqmask := 0, kirqstat := 0, kirqmask := 0, winpage := 0, winaddr := 0, autoinc := true,
    readahead := false, winEdge := false, more := false, errcause := .none, line := none, lock := .idle, pages := 0,
    timeout := 0, brk := 0, sessionWords := 0, hreset := false, elapsedLatch := 0, hostData := 0 }

def Engine.reset : Engine :=
  { up := false, restarting := false, pmFail := false, lastCause := 0, count := 0, image := .none, loadErr := 0,
    prove := 0, provePart := 0, testEnded := false, header := none, taken := [], accepted := [], lastServed := .k,
    owedBells := 0, shown := none }

/-- 08 R231's settings, with no epoch and no digest computed yet. -/
def Settings.reset : Settings :=
  { designated := [], alrTalker0 := 0x49, alrTalker1 := 0x49, alrRepeat := 30, heartbeat := 0, hostWatch := 0,
    takeover := 5, pairEnable := false, sentences := true, mgmtFast := false, scan := Vector.replicate 16 0,
    epoch := none, digest := 0, lastChange := 0, changes := 0, devFlags := 0, portFlags := 0 }

def Sieve.reset : Sieve :=
  { bankB := false, activeCrc := 0, hits := Vector.replicate 512 0, copying := false, answer := none, waiting := [] }

/-- All 4096 cells free (02 R48, 05 SLUICEFREE 0x1000). -/
def Sluice.reset : Sluice :=
  { free := List.range 4096, items := [], nextId := 0, views := Vector.replicate 52 View.reset, noCell := 0,
    poolEvict := 0, alarmWaits := [] }

def Pair.reset : Pair :=
  { role := .lone, dutyOut := false, dutyIn := false, linkUp := false, formed := false, armed := false,
    splitConfig := false, minorMismatch := false, majorMismatch := false, timeSkew := false, peerEngineDown := false,
    sameRank := false, beats := 0, peer := none, txSeq := 1, rxSeq := 0, recent := [], unacked := [], waiting := [],
    ackOwed := false, withheld := none, measured := none, offset := none, skew := 0, steady := 0, nextSeq := 1,
    lastMirrored := 0, unmatched := [], beat := none, wire := [], lampsOwed := [], handover := .none, caughtUp := false, forming := false,
    handed := false, dozeDrives := false, sent := 0, accepted := 0, dropped := 0, duplicates := 0, resent := 0, missing := 0, orphans := 0 }

/-- Journal stopped, no device seen yet (18). -/
def Journal.reset : Journal :=
  { state := 1, boot := 0, mounted := false, nextSeq := 0, accepted := 0, durable := 0, nand := none, staging := none,
    closed := [], waiting := [], dropped := 0, held := [], heldDropped := 0, owed := [], resetOwed := false,
    skipped := 0, eventsDropped := 0, programmed := 0, relocations := 0, scrubs := 0, retired := 0, lossRecords := 0 }

/-- An array whose blocks all read 0, out of any field. DESIGN CHOICE, log entry 6. -/
def Tag.reset : Tag :=
  { blocks := [], marker := false, iso := .ready, field := false, fieldLock := false, writes := [], owes := false, answer := .silent,
    op := 0, half := false, block := 0, buffer := 0, busy := false, done := false, wrote := false, waited := false,
    err := 0, hostOp := none, session := none, events := [], publishing := none, publishes := 0, whole := true,
    lastPublish := none, publishedBefore := none, eventsMade := 0, reported := none, firstEntry := true, seqLogged := 0 }

def Mgmt.reset : Mgmt :=
  { results := Vector.replicate 16 ScanResult.reset, active := none, stuck := false, setWaits := false, due := 0,
    slots := [], fast := false }

def Inject.reset : Inject := { enabled := false, slots := Vector.replicate 16 Slot16.reset }

/-- Every cell at 0, the enables with them: DESIGN CHOICE, log entry 137. -/
def ScanOut.reset : ScanOut :=
  { portData := 0, portEnable := 0, rts := 0, hd := 0, hdEnable := false, nWait := false, nIrq := false, nIrqk := false, nd := 0,
    ndEnable := false, ncle := false, nale := false, nNwe := false, nNre := false, nNce0 := false, nNce1 := false,
    nNwp := false, plTx := false, plTxEnable := false, plDutyOut := false, mbScl := false, mbSda := false }

def ScanIn.reset : ScanIn :=
  { cts := 0, hd := 0, ha := 0, nCsCtl := false, nCsKey := false, nOe := false, nWe := false, hreset := false, nReset := false,
    rank := false, waitOd := false, testmode := false, nd := 0, nrb := false, plRx := false, plDutyIn := false, mbScl := false,
    mbSda := false }

/-- Test-Logic-Reset: IDCODE loaded (21 R636). -/
def Jtag.reset : Jtag := { ir := 1, sampled := false, out := ScanOut.reset, seen := ScanIn.reset, lines := 0 }

/-- Straps low (log entry 5), VANA not yet good (02 R38), Tally lost until it has run 1 ms (05 SYSSTAT). -/
def Power.reset : Power :=
  { running := true, nresetLow := false, completing := true, vanaGood := false, vanaSettled := false,
    vanaWasLost := false, orderFault := false, rank := false, waitOd := false, lastReset := 1, tallyLost := true,
    tallyWasLost := false, elapsed := 0, pace := 0, paceLow := false, paceGood := 0, temp := 0x8000, supplyEvents := 0, audit := 0 }

/-- The device at the release of power-on reset: MODENOW reads 0x8000, the elapsed count is 0 (02 R40, 05 R153). -/
def State.reset : State :=
  { pending := [], mem := [], draws := 0, power := Power.reset, modes := ModeRegs.reset, culvert := Culvert.reset,
    chanN := ChanRegs.reset, chanK := ChanRegs.reset, engine := Engine.reset, settings := Settings.reset,
    counting := false, ports := Vector.replicate 48 Port.reset, sieve := Sieve.reset,
    govs := Vector.replicate 256 Gov.reset, sluice := Sluice.reset, lamps := Vector.replicate 1024 Lamp.reset,
    buses := Vector.replicate 8 Bus.reset, heads := Vector.replicate 240 Head.reset, pair := Pair.reset,
    journal := Journal.reset, tag := Tag.reset, mgmt := Mgmt.reset, inject := Inject.reset, jtag := Jtag.reset,
    dozeEvents := [] }

end Sys2Proof.Machine
end

