-- ==== Sys2Proof/Machine/Ops.lean ====
section
/-!
DEFINITION. The operations every family shares: little-endian fields, vectors, the fabric memory in canonical form,
the check sums, modes, interrupt bits, doorbells, free values and replies.
-/
namespace Sys2Proof.Machine

/-! ### Bytes and fields (08 R222: multi-byte fields are little-endian) -/

/-- `v` as `n` bytes, the lowest first. -/
def leBytes : Nat → Nat → List Byte
  | 0, _ => []
  | n + 1, v => BitVec.ofNat 8 v :: leBytes n (v / 256)

/-- The number whose bytes, lowest first, are `bs`. -/
def fromLe : List Byte → Nat
  | [] => 0
  | b :: bs => b.toNat + 256 * fromLe bs

/-- The `n` bytes of `bs` from offset `o`, short where `bs` ends. -/
def bytesAt (bs : List Byte) (o n : Nat) : List Byte := (bs.drop o).take n

/-- The little-endian field of `n` bytes at offset `o`. -/
def fieldAt (bs : List Byte) (o n : Nat) : Nat := fromLe (bytesAt bs o n)

/-- One byte as a number. -/
def byteAt (bs : List Byte) (o : Nat) : Nat := fieldAt bs o 1

/-- Bits `lo` to `lo + n - 1` of a number. -/
def bitsOf (v lo n : Nat) : Nat := v / 2 ^ lo % 2 ^ n

/-- A flag as a bit at place `k`. -/
def flag (b : Bool) (k : Nat) : Nat := if b then 2 ^ k else 0

/-- `v` plus `k`, held at `top` (a count that saturates). -/
def satAdd (top v k : Nat) : Nat := min top (v + k)

/-- The largest value of a 32-bit count. -/
def top32 : Nat := 0xFFFFFFFF

/-! ### Vectors -/

/-- Entry `i` of `v` changed by `f`. -/
def upd {α : Type} {n : Nat} (v : Vector α n) (i : Fin n) (f : α → α) : Vector α n := v.set i.val (f (v.get i)) i.isLt

/-- The number of one head in the head table: 30 for each bus slot (15 R479). -/
def headIx (b : BusNo) (h : HeadNo) : Fin 240 := ⟨30 * b.val + h.val, by omega⟩

/-- A port's view (12 "View codes are 0x00-0x2F for P00-P47"). -/
def portView (p : PortNo) : Fin 52 := ⟨p.val, by omega⟩
def viewHost : Fin 52 := 48
def viewJournal : Fin 52 := 49
def viewPeer : Fin 52 := 50
def viewEngine : Fin 52 := 51

def State.updPort (s : State) (p : PortNo) (f : Port → Port) : State := { s with ports := upd s.ports p f }
def State.updGov (s : State) (g : GovNo) (f : Gov → Gov) : State := { s with govs := upd s.govs g f }
def State.updLamp (s : State) (l : LampNo) (f : Lamp → Lamp) : State := { s with lamps := upd s.lamps l f }
def State.updBus (s : State) (b : BusNo) (f : Bus → Bus) : State := { s with buses := upd s.buses b f }
def State.updHead (s : State) (b : BusNo) (h : HeadNo) (f : Head → Head) : State :=
  { s with heads := upd s.heads (headIx b h) f }
def State.updView (s : State) (v : Fin 52) (f : View → View) : State :=
  { s with sluice := { s.sluice with views := upd s.sluice.views v f } }
def State.updTx (s : State) (p : PortNo) (f : Tx → Tx) : State := s.updPort p fun q => { q with tx := f q.tx }
def State.updAsm (s : State) (p : PortNo) (f : Asm → Asm) : State := s.updPort p fun q => { q with asm := f q.asm }

/-- One act on every port, P00 first. -/
def State.eachPort (s : State) (f : State → PortNo → State) : State := (List.finRange 48).foldl f s
def State.eachBus (s : State) (f : State → BusNo → State) : State := (List.finRange 8).foldl f s
def State.eachLamp (s : State) (f : State → LampNo → State) : State := (List.finRange 1024).foldl f s
def State.eachView (s : State) (f : State → Fin 52 → State) : State := (List.finRange 52).foldl f s

/-! ### Fabric memory (01 R25): the listed bytes, canonical; an unlisted byte reads 0 (log entry 2) -/

/-- The byte at `a`. -/
def Memory.read : List Host.Cell → Nat → Byte
  | [], _ => 0
  | (k, b) :: r, a => if k = a then b else Memory.read r a

/-- The byte at `a` becomes `b`; a 0 is unlisted. -/
def Memory.write : List Host.Cell → Nat → Byte → List Host.Cell
  | [], a, b => if b = 0 then [] else [(a, b)]
  | (k, c) :: r, a, b =>
    if k < a then (k, c) :: Memory.write r a b
    else if k = a then (if b = 0 then r else (a, b) :: r)
    else if b = 0 then (k, c) :: r else (a, b) :: (k, c) :: r

/-- The bytes from `a` on, one after another. -/
def Memory.writeList : List Host.Cell → Nat → List Byte → List Host.Cell
  | m, _, [] => m
  | m, a, b :: bs => Memory.writeList (Memory.write m a b) (a + 1) bs

/-- Walks a list that starts at or above `a`. -/
def Memory.sliceFrom : Nat → List Host.Cell → Nat → List Byte
  | 0, _, _ => []
  | n + 1, [], a => 0 :: Memory.sliceFrom n [] (a + 1)
  | n + 1, (k, b) :: r, a =>
    if k = a then b :: Memory.sliceFrom n r (a + 1) else 0 :: Memory.sliceFrom n ((k, b) :: r) (a + 1)

/-- The `n` bytes from `a` on. -/
def Memory.slice (m : List Host.Cell) (a n : Nat) : List Byte :=
  Memory.sliceFrom n (m.dropWhile fun c => decide (c.1 < a)) a

/-- Only the bytes from `a` to `b - 1` stay. -/
def Memory.keep (m : List Host.Cell) (a b : Nat) : List Host.Cell :=
  m.filter fun c => decide (a ≤ c.1) && decide (c.1 < b)

/-- The bytes from `a` to `b - 1` become 0. -/
def Memory.clear (m : List Host.Cell) (a b : Nat) : List Host.Cell :=
  m.filter fun c => !(decide (a ≤ c.1) && decide (c.1 < b))

/-- The canonical form: addresses of the 1 MiB space, strictly rising, and no byte 0 listed. -/
def Memory.wf (m : List Host.Cell) : Bool :=
  decide (m.Pairwise fun c d => c.1 < d.1) && m.all fun c => decide (c.1 < 0x100000) && decide (c.2 ≠ 0)

/-- Fabric addresses are 20 bits (01 R25): a write wraps there. -/
def State.putByte (s : State) (a : Nat) (b : Byte) : State := { s with mem := Memory.write s.mem (a % 0x100000) b }

/-- Bytes one after another from `a`. -/
def State.putBytes (s : State) (a : Nat) : List Byte → State
  | [] => s
  | b :: bs => (s.putByte a b).putBytes (a + 1) bs

/-- A 32-bit word, bits [15:0] at the lower address (06, 13 R380). -/
def State.putWord (s : State) (a : Nat) (w : Nat) : State := s.putBytes a (leBytes 4 w)

def State.memBytes (s : State) (a n : Nat) : List Byte := Memory.slice s.mem a n
def State.memField (s : State) (a n : Nat) : Nat := fromLe (s.memBytes a n)

/-- The bytes from `a` to `b - 1` become 0. -/
def State.clearMem (s : State) (a b : Nat) : State := { s with mem := Memory.clear s.mem a b }

/-! ### Check sums -/

/-- One bit of the reflected CRC-32. -/
def crc32Bit (c : Word) : Word := if c.getLsbD 0 then (c >>> 1) ^^^ 0xEDB88320#32 else c >>> 1

def crc32Byte (c : Word) (b : Byte) : Word :=
  let c := c ^^^ b.setWidth 32
  crc32Bit (crc32Bit (crc32Bit (crc32Bit (crc32Bit (crc32Bit (crc32Bit (crc32Bit c)))))))

/-- The CRC-32 of 07 R207. -/
def crc32 (bs : List Byte) : Word := ~~~(bs.foldl crc32Byte 0xFFFFFFFF#32)

def crc16Bit (c : Half) : Half := if c.getLsbD 15 then (c <<< 1) ^^^ 0x1021#16 else c <<< 1

def crc16Byte (c : Half) (b : Byte) : Half :=
  let c := c ^^^ (b.setWidth 16 <<< 8)
  crc16Bit (crc16Bit (crc16Bit (crc16Bit (crc16Bit (crc16Bit (crc16Bit (crc16Bit c)))))))

/-- The CRC-16 of 15 R442. -/
def crc16 (bs : List Byte) : Half := bs.foldl crc16Byte 0xFFFF#16

/-! ### Free values (log entry 3) -/

/-- The next free value, and the state with the draw counted. -/
def State.draw (s : State) : Nat × State := (Config.freeNat s.draws, { s with draws := s.draws + 1 })

/-! ### Modes -/

/-- 03 Table - Modes. -/
def Mode.code : Mode → Nat
  | .hold => 0 | .load => 1 | .prove => 2 | .run => 3 | .trim => 4 | .vigil => 5 | .doze => 6 | .probe => 7

/-- 03 Table - Refusal causes in MODENOW. -/
def Cause.code : Cause → Nat
  | .none => 0 | .busy => 1 | .illegal => 2 | .noImage => 3 | .proveFailed => 4 | .noVigilList => 5 | .pairFormed => 6
  | .engineRestart => 7

/-- 04 Table - Culvert error causes. -/
def ErrCause.code : ErrCause → Nat
  | .none => 0 | .refused => 1 | .noLock => 2 | .timeout => 3 | .edge => 4 | .clash => 5 | .lockState => 6

/-- RUN, TRIM, VIGIL and PROBE: the set WORK (08 Table - Mode sets). -/
def Mode.working : Mode → Bool
  | .run | .trim | .vigil | .probe => true
  | .hold | .load | .prove | .doze => false

/-- The modes in which the engine is stopped (03 Table - Modes). -/
def Mode.stopped : Mode → Bool
  | .hold | .load => true
  | .prove | .run | .trim | .vigil | .doze | .probe => false

/-- The device runs: supplies good, no reset in progress. -/
def State.alive (s : State) : Bool := s.power.running && !s.power.nresetLow && !s.power.completing

/-- Out of power-on reset and of nRESET: registers and pins act. -/
def State.released (s : State) : Bool := s.power.running && !s.power.nresetLow

/-- EXTEST or HIGHZ is loaded: the chain's balls are off the core (21 R638). -/
def Jtag.detached (j : Jtag) : Bool := j.ir = 0 || j.ir = 3

/-- HIGHZ is loaded: the chain's balls are high-impedance. -/
def Jtag.highz (j : Jtag) : Bool := j.ir = 3

/-- The host's bus cycles are served: no reset asserted, HRESET low (04 R137), no EXTEST or HIGHZ (21 R638). -/
def State.busServed (s : State) : Bool := s.released && !s.culvert.hreset && !s.jtag.detached

/-- The mode in force (03 R65: while a transition runs, the mode being left). -/
def State.mode (s : State) : Mode := s.modes.mode

/-- A requested HOLD has taken effect and its transition still runs (03 R73). -/
def State.holding (s : State) : Bool := s.modes.busy && decide (s.modes.target = .hold)

/-- PROVE entry is under way; its self-test needs the engine (03 R76, 05 R155). -/
def State.proving (s : State) : Bool := s.modes.busy && decide (s.modes.target = .prove)

/-- RUN entry from PROVE is under way: its steps are taken, MODENOW still shows PROVE (02 Table - RUN entry). -/
def State.entering (s : State) : Bool := s.modes.busy && decide (s.mode = .prove) && s.modes.target.working

/-- HOLD and LOAD as the mailboxes see them: a requested HOLD counts at once, and PROVE entry is PROVE (05 Table -
Registers by mode). -/
def State.engineOff (s : State) : Bool :=
  s.holding || (s.mode.stopped && !(s.modes.busy && decide (s.modes.target = .prove)))

/-- The mode whose rules the road follows: the one in force, or the one being entered from PROVE. -/
def State.roadMode (s : State) : Mode := if s.entering then s.modes.target else s.mode

/-- The road runs: RUN, TRIM, VIGIL or PROBE, or RUN entry after its ports are armed. -/
def State.roadRuns (s : State) : Bool := s.alive && !s.holding && s.roadMode.working

/-- The mode set ALL (08): the firmware takes commands. -/
def State.serves (s : State) : Bool :=
  s.alive && s.engine.up && (s.mode.working || (decide (s.mode = .prove) && s.engine.testEnded))

/-- The engine acts on events: it is up in a working mode. -/
def State.engineWorks (s : State) : Bool := s.roadRuns && s.engine.up

def State.setCounting (s : State) (b : Bool) : State := { s with counting := b }
def State.setDozeEvents (s : State) (l : List (Nat × Nat × Nat × Nat)) : State := { s with dozeEvents := l }
def State.setPorts (s : State) (v : Vector Port 48) : State := { s with ports := v }
def State.setGovs (s : State) (v : Vector Gov 256) : State := { s with govs := v }
def State.setLamps (s : State) (v : Vector Lamp 1024) : State := { s with lamps := v }
def State.setBuses (s : State) (v : Vector Bus 8) : State := { s with buses := v }
def State.setHeads (s : State) (v : Vector Head 240) : State := { s with heads := v }
def State.setJtag (s : State) (j : Jtag) : State := { s with jtag := j }
def State.mapPorts (s : State) (f : Port → Port) : State := s.setPorts (s.ports.map f)
def State.mapLamps (s : State) (f : Lamp → Lamp) : State := s.setLamps (s.lamps.map f)
def State.mapBuses (s : State) (f : Bus → Bus) : State := s.setBuses (s.buses.map f)
def State.setPower (s : State) (f : Power → Power) : State := { s with power := f s.power }
def State.setModes (s : State) (f : ModeRegs → ModeRegs) : State := { s with modes := f s.modes }
def State.setCulvert (s : State) (f : Culvert → Culvert) : State := { s with culvert := f s.culvert }
def State.setEngine (s : State) (f : Engine → Engine) : State := { s with engine := f s.engine }
def State.setSettings (s : State) (f : Settings → Settings) : State := { s with settings := f s.settings }
def State.setSieve (s : State) (f : Sieve → Sieve) : State := { s with sieve := f s.sieve }
def State.setSluice (s : State) (f : Sluice → Sluice) : State := { s with sluice := f s.sluice }
def State.setPair (s : State) (f : Pair → Pair) : State := { s with pair := f s.pair }
def State.setJournal (s : State) (f : Journal → Journal) : State := { s with journal := f s.journal }
def State.setTag (s : State) (f : Tag → Tag) : State := { s with tag := f s.tag }
def State.setMgmt (s : State) (f : Mgmt → Mgmt) : State := { s with mgmt := f s.mgmt }
def State.setInject (s : State) (f : Inject → Inject) : State := { s with inject := f s.inject }

/-! ### Interrupts (05 IRQSTAT, KIRQSTAT) -/

/-- The interrupt sources, by their bit in IRQSTAT and KIRQSTAT. -/
inductive Irq where
  | mboxEmpty | mboxFull | mboxAbort | bell | culvertErr | lockBroken | modeDone | supply | watchdog | tagField | wake
  deriving DecidableEq, Repr

def Irq.bit : Irq → Nat
  | .mboxEmpty => 0 | .mboxFull => 1 | .mboxAbort => 2 | .bell => 3 | .culvertErr => 4 | .lockBroken => 5
  | .modeDone => 6 | .supply => 7 | .watchdog => 8 | .tagField => 9 | .wake => 10

/-- An event sets its bit whatever the mask holds (05 R156, R181). -/
def State.raise (s : State) (w : Window) (i : Irq) : State :=
  match w with
  | .ctl => s.setCulvert fun c => { c with irqstat := c.irqstat ||| BitVec.ofNat 16 (2 ^ i.bit) }
  | .key => s.setCulvert fun c => { c with kirqstat := c.kirqstat ||| BitVec.ofNat 16 (2 ^ i.bit) }

/-- The window whose status register a channel uses (06 Table - Channel resources). -/
def chanWindow : Chan → Window
  | .n => .ctl
  | .k => .key

/-- The window code of a journal record (04 Table - Window codes). -/
def windowCode : Window → Nat
  | .ctl => 1
  | .key => 2

/-- A Culvert failure (04 R112, R113): the first cause stays, a further one sets MORE. -/
def State.culvertFail (s : State) (e : ErrCause) : State :=
  ((s.setCulvert fun c => if c.errcause = .none then { c with errcause := e } else { c with more := true })).raise
    .ctl .culvertErr

/-! ### Mailbox channels and doorbells (06) -/

def State.chan (s : State) : Chan → ChanRegs
  | .n => s.chanN
  | .k => s.chanK

def State.setChan (s : State) (c : Chan) (f : ChanRegs → ChanRegs) : State :=
  match c with
  | .n => { s with chanN := f s.chanN }
  | .k => { s with chanK := f s.chanK }

/-- The engine sets a BELLIN bit: a newly set, masked-in bit raises BELL (05 IRQSTAT BELL, 06 R194). -/
def State.bellOn (s : State) (c : Chan) (bit : Nat) : State :=
  let r := s.chan c
  if r.bellIn.getLsbD bit then s
  else
    let s := s.setChan c fun r => { r with bellIn := r.bellIn ||| BitVec.ofNat 32 (2 ^ bit) }
    if r.bellMsk.getLsbD bit then s.raise (chanWindow c) .bell else s

/-- A bell of bits 1 to 10 (06 R194): on channel N always, on channel K only while masked in there. -/
def State.bellBoth (s : State) (bit : Nat) : State :=
  let s := s.bellOn .n bit
  if s.chanK.bellMsk.getLsbD bit then s.bellOn .k bit else s

/-- The firmware rings a bell; for an event of an engine restart it rings when it runs again (log entry 7). -/
def State.ring (s : State) (bit : Nat) : State :=
  if s.engine.up then s.bellBoth bit
  else if s.engine.restarting then
    s.setEngine fun e => { e with owedBells := e.owedBells ||| BitVec.ofNat 32 (2 ^ bit) }
  else s

/-- The bells that an engine restart held back ring (06 R194). -/
def State.ringOwed (s : State) : State :=
  let owed := s.engine.owedBells
  (List.range 11).foldl (fun s bit => if owed.getLsbD bit then s.bellBoth bit else s)
    (s.setEngine fun e => { e with owedBells := 0 })

/-- Firmware-to-host doorbells by name (06 Table - Firmware-to-host doorbells). -/
def bellReply : Nat := 0
def bellLamp : Nat := 1
def bellPort : Nat := 2
def bellHedge : Nat := 3
def bellPair : Nat := 4
def bellJournal : Nat := 5
def bellTag : Nat := 6
def bellMgmt : Nat := 7
def bellAudit : Nat := 8
def bellWake : Nat := 9
def bellSupply : Nat := 10

/-- A reply or completion joins the messages its channel waits to post (06 R188, R189). -/
def State.reply (s : State) (c : Chan) (code status : Nat) (tag : Half) (payload : List Byte) : State :=
  s.setChan c fun r => { r with
    replies := r.replies ++ [{ code := BitVec.ofNat 16 code, status := BitVec.ofNat 16 status, tag := tag,
                               payload := payload }] }

/-! ### Elapsed time -/

def State.now (s : State) : Stamp := s.power.elapsed

/-- One microsecond (11 R342): the count wraps at 2^48. It stands while power-on reset lasts (02 R45). -/
def State.tick (s : State) : State :=
  if s.power.running then s.setPower fun p => { p with elapsed := p.elapsed + 1 } else s

/-- A stamp taken now is in doubt (01 R36, 11 R341, 17 R530). -/
def State.doubtNow (s : State) : Bool := s.power.tallyLost || s.pair.timeSkew

end Sys2Proof.Machine
end

