-- ==== Sys2Proof/Machine/Operands.lean ====
section
/-!
DEFINITION. The forms commands carry and tables hold: where each row lies in the fabric, its host-written fields as the
hardware reads them (written under a lock or not), and the fields of a Sieve rule, a governor, a view, a bus, a head, a
lamp and a route.
-/
namespace Sys2Proof.Machine

/-! ### Where the rows lie -/

/-- 10 R286. -/
def portRowAt (p : Nat) : Nat := 0xF0000 + 32 * p
/-- 12 R353. -/
def sieveStatusAt : Nat := 0xF0600
/-- 13 R393. -/
def viewRowAt (v : Nat) : Nat := 0xF0800 + 16 * v
/-- 13 R404. -/
def sluiceStatusAt : Nat := 0xF0C00
/-- 12 R352: bank A at 0xF1000, bank B at 0xF3000. -/
def sieveRowAt (bankB : Bool) (n : Nat) : Nat := (if bankB then 0xF3000 else 0xF1000) + 16 * n
/-- 12 R352. -/
def weirRowAt (g : Nat) : Nat := 0xF5000 + 16 * g
/-- 16 R486. -/
def lampRowAt (l : Nat) : Nat := 0xF6000 + 4 * l
/-- 15 R479. -/
def headRowAt (b h : Nat) : Nat := 0xF7000 + 8 * (30 * b + h)
/-- 15 R478. -/
def busRowAt (b : Nat) : Nat := 0xF7780 + 16 * b
/-- 16 R487. -/
def routeRowAt (k : Nat) : Nat := 0xF7800 + 8 * k
/-- 02 R55. -/
def firstSecondAt (p : Nat) : Nat := 0xF7C00 + 8 * p
/-- 05 R179. -/
def resetStampAt : Nat := 0xF7D80
/-- 09 R272. -/
def ampBlockAt (p : Nat) : Nat := 0xF7E00 + 8 * p
/-- 13 R379: one of the 4096 cells of the pool. -/
def cellAt (c : Nat) : Nat := 0x40000 + 128 * (c % 4096)

/-- A page of the tables region in the set of the granted lock. -/
def Culvert.locks (c : Culvert) (a : Nat) : Bool :=
  decide (c.lock = .granted) && decide (0xF0000 ≤ a) && decide (a < 0xF8000) && c.pages.getLsbD ((a - 0xF0000) / 4096)

/-! ### Port rows (10 Table - Port row) -/

/-- RXROLE. -/
inductive RxRole where
  | off | talker | master | head
  deriving DecidableEq, Repr

/-- TXROLE; 3 reads as OFF (10 R682). -/
inductive TxRole where
  | off | listener | hedge
  deriving DecidableEq, Repr

/-- A port row as the port reads it (10 R682). -/
structure PortCfg where
  rx       : RxRole
  tx       : TxRole
  wakeArm  : Bool
  bypass   : Bool
  term     : Bool
  ctsFlow  : Bool
  rtsFlow  : Bool
  autobaud : Bool
  spot     : Bool
  nocksum  : Nat
  parity   : Nat
  stop2    : Bool
  nine     : Bool
  mute     : Bool
  myAddr   : Nat
  rate     : Nat
  rtsHigh  : Nat
  rtsLow   : Nat
  stuck    : Nat
  silence  : Nat
  ampWarn  : Nat
  deriving DecidableEq, Repr

/-- Bits `lo` to `lo + n - 1` of the host-written half of a port row. -/
def rowBits (r : BitVec 128) (lo n : Nat) : Nat := bitsOf r.toNat lo n
def rowFlag (r : BitVec 128) (k : Nat) : Bool := r.getLsbD k

def rowRxRole (r : BitVec 128) : Nat := rowBits r 14 2
def rowTxRole (r : BitVec 128) : Nat := rowBits r 12 2
def rowParity (r : BitVec 128) : Nat := rowBits r 26 3
def rowRate (r : BitVec 128) : Nat := rowBits r 32 32
def rowMyAddr (r : BitVec 128) : Nat := rowBits r 16 5

/-- The conditions of 10 Table - Port row constraints on a row whose receive role is a hedge role. -/
def rowHedgeOk (r : BitVec 128) : Bool :=
  decide (rowTxRole r = 2) && rowFlag r 24 && decide (rowParity r = 0) && !rowFlag r 25 && !rowFlag r 6 &&
  [19200, 38400, 57600, 115200].contains (rowRate r) &&
  (decide (rowRxRole r ≠ 3) || (decide (1 ≤ rowMyAddr r) && decide (rowMyAddr r ≤ 30)))

/-- The conditions of the same table on AUTOBAUD. -/
def rowAutoOk (r : BitVec 128) : Bool :=
  decide (rowRxRole r = 1) && !rowFlag r 24 && decide (rowParity r = 0) && !rowFlag r 25

/-- The row's hedge roles fail a condition, so both roles read as OFF (10 R682). -/
def rowRolesOff (r : BitVec 128) : Bool :=
  (decide (2 ≤ rowRxRole r) && !rowHedgeOk r) || (decide (rowTxRole r = 2) && decide (rowRxRole r < 2))

def rowRxRead (r : BitVec 128) : RxRole :=
  if rowRolesOff r then .off
  else match rowRxRole r with
    | 1 => .talker
    | 2 => .master
    | 3 => .head
    | _ => .off

def rowTxRead (r : BitVec 128) : TxRole :=
  if rowRolesOff r then .off
  else match rowTxRole r with
    | 1 => .listener
    | 2 => .hedge
    | _ => .off

/-- Both RTS marks read as 16 and 48 where either is out of its range or they are out of order (10 R682). -/
def rowMarksOk (r : BitVec 128) : Bool :=
  decide (1 ≤ rowBits r 64 8) && decide (rowBits r 64 8 ≤ 63) && decide (2 ≤ rowBits r 72 8) &&
  decide (rowBits r 72 8 ≤ 64) && decide (rowBits r 64 8 < rowBits r 72 8)

/-- A value held between two limits. -/
def clamp (lo hi v : Nat) : Nat := max lo (min hi v)

/-- A port row as the port reads it (10 R682). -/
def portCfg (r : BitVec 128) : PortCfg :=
  let nine := rowFlag r 24
  { rx := rowRxRead r
    tx := rowTxRead r
    wakeArm := rowFlag r 11
    bypass := rowFlag r 10
    term := rowFlag r 9
    ctsFlow := rowFlag r 8
    rtsFlow := rowFlag r 7
    autobaud := rowFlag r 6 && rowAutoOk r
    spot := rowFlag r 5
    nocksum := if rowBits r 3 2 = 3 then 1 else rowBits r 3 2
    parity := if nine || decide (5 ≤ rowParity r) then 0 else rowParity r
    stop2 := rowFlag r 25 && !nine
    nine := nine
    mute := rowFlag r 23 && nine
    myAddr := rowMyAddr r
    rate := clamp 300 1000000 (rowRate r)
    rtsHigh := if rowMarksOk r then rowBits r 72 8 else 48
    rtsLow := if rowMarksOk r then rowBits r 64 8 else 16
    stuck := clamp 1 6000 (rowBits r 80 16)
    silence := min 3600 (rowBits r 96 16)
    ampWarn := rowBits r 112 8 }

/-- The ranges and constraints PORT-SET checks (10 R287, Table - Port row constraints): the first field that breaks one, by
the offset that Table - Port row gives it (08 R223, log entry 153). -/
def rowFault (r : BitVec 128) : Option Nat :=
  if rowTxRole r = 3 || rowBits r 3 2 = 3 then some 0
  else if 2 ≤ rowRxRole r && !rowHedgeOk r && (rowTxRole r ≠ 2 || rowFlag r 6) then some 0
  else if rowTxRole r = 2 && rowRxRole r < 2 then some 0
  else if rowFlag r 6 && rowRxRole r ≠ 1 then some 0
  else if 5 ≤ rowParity r then some 2
  else if (rowFlag r 24 || rowFlag r 6 || 2 ≤ rowRxRole r) && (rowParity r ≠ 0 || rowFlag r 25) then some 2
  else if rowFlag r 6 && rowFlag r 24 then some 2
  else if 2 ≤ rowRxRole r && !rowFlag r 24 then some 2
  else if rowFlag r 23 && !rowFlag r 24 then some 2
  else if rowRxRole r = 3 && (rowMyAddr r = 0 || 31 ≤ rowMyAddr r) then some 2
  else if rowRate r < 300 || 1000000 < rowRate r then some 4
  else if 2 ≤ rowRxRole r && !([19200, 38400, 57600, 115200].contains (rowRate r)) then some 4
  else if rowBits r 64 8 = 0 || 63 < rowBits r 64 8 || rowBits r 72 8 ≤ rowBits r 64 8 then some 8
  else if rowBits r 72 8 < 2 || 64 < rowBits r 72 8 then some 8
  else if rowBits r 80 16 = 0 || 6000 < rowBits r 80 16 then some 10
  else if 3600 < rowBits r 96 16 then some 12
  else none

/-- The fields of a row, the reserved bits apart (00 R15). -/
def rowFields (r : BitVec 128) : BitVec 128 := r &&& 0x00FFFFFFFFFFFFFFFFFFFFFF1F9FFFF8

/-- The receive side's row in force. -/
def Port.rx (q : Port) : PortCfg := portCfg q.rxRow
/-- The transmit side's row in force. -/
def Port.txc (q : Port) : PortCfg := portCfg q.txRow

/-- Bit times of a character (00 R16). -/
def PortCfg.charBits (c : PortCfg) : Nat :=
  if c.nine then 11 else 9 + (if c.parity = 0 then 0 else 1) + (if c.stop2 then 2 else 1)

/-- The row of a port as the table holds it. -/
def State.portRow (s : State) (p : PortNo) : BitVec 128 := BitVec.ofNat 128 (s.memField (portRowAt p.val) 16)

/-! ### Sieve rules (12 Table - Sieve row) -/

structure Rule where
  enabled : Bool
  engine  : Bool
  form    : Nat
  start   : Nat
  flawSel : Nat
  tagSel  : Nat
  stamp   : Nat
  breach  : Bool
  group   : Bool
  source  : Nat
  addr    : List Byte
  drop    : Bool
  weirOn  : Bool
  weir    : GovNo
  cls     : Nat
  mask    : BitVec 51
  deriving DecidableEq, Repr

/-- A Sieve rule from its 16 bytes. -/
def ruleOf (bs : List Byte) : Rule :=
  let c := fieldAt bs 0 2
  let a := fieldAt bs 8 8
  { enabled := bitsOf c 15 1 = 1, engine := bitsOf c 14 1 = 1, form := bitsOf c 12 2, start := bitsOf c 10 2,
    flawSel := bitsOf c 8 2, tagSel := bitsOf c 6 2, stamp := bitsOf c 4 2, breach := bitsOf c 3 1 = 1,
    group := bitsOf c 2 1 = 1, source := byteAt bs 2, addr := bytesAt bs 3 5, drop := bitsOf a 63 1 = 1,
    weirOn := bitsOf a 62 1 = 1, weir := Fin.ofNat 256 (bitsOf a 54 8), cls := bitsOf a 51 3,
    mask := BitVec.ofNat 51 a }

/-- What SIEVE-LOAD refuses in row `n` (12 R362): the byte offset in the row of the first such field. -/
def ruleFault (n : Nat) (r : Rule) : Option Nat :=
  let never := r.form = 3 || r.start = 3 || r.flawSel = 3 || r.tagSel = 3
  let src := !(decide (r.source ≤ 0x2F) || [0x40, 0x41, 0x42, 0xFF].contains r.source)
  let cls0 := !r.drop && r.cls = 0
  if n = 511 then (if cls0 then some 8 else none)
  else if !r.enabled then none
  else if never then some 0
  else if src then some 2
  else if cls0 then some 8
  else none

/-! ### Governors (12 Table - Weir row) -/

/-- POLICY. -/
inductive Policy where
  | dropNewest | latestWins | defer
  deriving DecidableEq, Repr

/-- A governor's host-written fields as the Weir reads them (12 R367). -/
structure WeirRow where
  rate   : Nat
  burst  : Nat
  policy : Policy
  depth  : Nat
  scope  : BitVec 51
  deriving DecidableEq, Repr

def weirOf (bs : List Byte) : WeirRow :=
  let c := fieldAt bs 4 2
  let policy := match bitsOf c 14 2 with
    | 1 => Policy.latestWins
    | 2 => Policy.defer
    | _ => Policy.dropNewest
  { rate := fieldAt bs 0 2, burst := fieldAt bs 2 2, policy := policy, depth := max 1 (bitsOf c 8 4),
    scope := if policy = .defer then 0 else BitVec.ofNat 51 (fieldAt bs 8 8) }

/-- What WEIR-SET refuses in a row (12 R367): the byte offset of the first such field. -/
def weirFault (bs : List Byte) : Option Nat :=
  let c := fieldAt bs 4 2
  if 4095 < fieldAt bs 2 2 then some 2
  else if bitsOf c 14 2 = 3 then some 4
  else if bitsOf c 14 2 = 2 && bitsOf c 8 4 = 0 then some 4
  else if bitsOf c 14 2 = 2 && bitsOf (fieldAt bs 8 8) 0 51 ≠ 0 then some 8
  else if bitsOf (fieldAt bs 8 8) 51 13 ≠ 0 then some 8
  else none

def State.weirRow (s : State) (g : GovNo) : WeirRow := weirOf (s.memBytes (weirRowAt g.val) 16)

/-- The most sixteenths a governor holds (12 R369), within its 16-bit field (log entry 8). -/
def WeirRow.full (w : WeirRow) : Nat := min 0xFFFF (16 * w.burst)

/-! ### View rows (13 Table - View row) -/

structure ViewRow where
  breachOn : Bool
  brClass  : Nat
  hwr      : Bool
  credits  : Nat
  deriving DecidableEq, Repr

def State.viewRow (s : State) (v : Fin 52) : ViewRow :=
  let bs := s.memBytes (viewRowAt v.val) 4
  let c := fieldAt bs 0 2
  { breachOn := bitsOf c 15 1 = 1, brClass := bitsOf c 12 3, hwr := bitsOf c 11 1 = 1,
    credits := if v.val < 48 then clamp 16 1024 (fieldAt bs 2 2) else 512 }

/-! ### Bus, head, lamp and route rows (15, 16) -/

structure BusRow where
  master    : Nat
  rateCode  : Nat
  interval  : Nat
  threshold : Nat
  sleep     : Bool
  deriving DecidableEq, Repr

def State.busRow (s : State) (b : BusNo) : BusRow :=
  let bs := s.memBytes (busRowAt b.val) 6
  { master := byteAt bs 0, rateCode := byteAt bs 1, interval := fieldAt bs 2 2, threshold := byteAt bs 4,
    sleep := bitsOf (byteAt bs 5) 0 1 = 1 }

/-- The port of a bus slot that is in use. -/
def State.busPort (s : State) (b : BusNo) : Option PortNo :=
  let m := (s.busRow b).master
  if h : m < 48 then some ⟨m, h⟩ else none

/-- The bus slot of a master port. -/
def State.portBus (s : State) (p : PortNo) : Option BusNo :=
  (List.finRange 8).find? fun b => (s.busRow b).master = p.val

structure HeadRow where
  configured : Bool
  lamps      : Nat
  maker      : Nat
  deriving DecidableEq, Repr

def State.headRow (s : State) (b : BusNo) (h : HeadNo) : HeadRow :=
  let bs := s.memBytes (headRowAt b.val h.val) 4
  let c := fieldAt bs 0 2
  { configured := bitsOf c 15 1 = 1, lamps := bitsOf c 13 2 + 1, maker := fieldAt bs 2 2 }

def State.head (s : State) (b : BusNo) (h : HeadNo) : Head := s.heads.get (headIx b h)

/-- Fields of a lamp row word (16 Table - Lamp row). -/
def lampBus (w : Word) : BusNo := Fin.ofNat 8 (bitsOf w.toNat 29 3)
def lampHead (w : Word) : Nat := bitsOf w.toNat 24 5
def lampNo (w : Word) : Nat := bitsOf w.toNat 22 2
def lampAlarmNo (w : Word) : Nat := bitsOf w.toNat 12 10
def lampConfirm (w : Word) : Nat := bitsOf w.toNat 9 3
def lampRoute (w : Word) : Nat := bitsOf w.toNat 6 3
/-- The row is used (16 Table - Lamp row: HEAD 1-30). -/
def lampUsed (w : Word) : Bool := decide (1 ≤ lampHead w) && decide (lampHead w ≤ 30)
/-- BUS, HEAD and LAMP of two rows are the same. -/
def sameLamp (v w : Word) : Bool := bitsOf v.toNat 22 10 = bitsOf w.toNat 22 10

/-- A lamp's row word as the table shows it: bits [5:0] are the GX-48's own (16 R486). -/
def lampWord (l : Lamp) : Word :=
  BitVec.ofNat 32 (l.row.toNat / 64 * 64 + l.state.toNat * 8 + flag l.acked 2 + flag l.held 1 + flag l.injected 0)

def stLit : BitVec 3 := 0
def stDark : BitVec 3 := 1
def stDegraded : BitVec 3 := 2
def stWrong : BitVec 3 := 3
def stOff : BitVec 3 := 4
def stUnconfirmed : BitVec 3 := 5
def stRetired : BitVec 3 := 6
def stReturning : BitVec 3 := 7

/-- The four alarm states (05 R174). -/
def alarmState (st : BitVec 3) : Bool := st = stDark || st = stDegraded || st = stWrong || st = stUnconfirmed

/-- The lamp's alarm is active (16 R494). -/
def Lamp.active (l : Lamp) : Bool := lampUsed l.row && alarmState l.state && !l.held

/-- MASK of a route row (16 R487). -/
def State.routeMask (s : State) (k : Nat) : BitVec 51 := BitVec.ofNat 51 (s.memField (routeRowAt k) 8)

/-- Head states (15 Table - Head row). -/
def hsAbsent : BitVec 3 := 0
def hsJoining : BitVec 3 := 1
def hsActive : BitVec 3 := 2
def hsSilent : BitVec 3 := 3
def hsBlind : BitVec 3 := 4
def hsRetired : BitVec 3 := 5

/-- The bit rate of a rate code (15 Table - Bus row). -/
def hedgeRate (code : Nat) : Nat :=
  match code with
  | 0 => 19200
  | 1 => 38400
  | 2 => 57600
  | _ => 115200

end Sys2Proof.Machine
end

