-- ==== Sys2Proof/Machine/Flags.lean ====
section
/-!
DEFINITION. The registers as the host reads them: every flag and field of the CTL and KEY windows computed from the
state (05), and the interrupt pins (05 R156, R181).
-/
namespace Sys2Proof.Machine

def h16 (n : Nat) : Half := BitVec.ofNat 16 n

/-- MODENOW (05, R153). -/
def State.modeNow (s : State) : Half :=
  h16 (flag s.modes.busy 15 + s.modes.cause.code * 256 +
    (if s.modes.busy then s.modes.target.code else s.modes.mode.code) * 16 + s.modes.mode.code)

/-! ### ALARMSTAT (05 R174) -/

def State.lampCount (s : State) (f : Lamp → Bool) : Nat := s.lamps.toList.countP f

/-- The lamps with an active alarm. -/
def State.alarmCount (s : State) : Nat := s.lampCount Lamp.active

/-- ALARMSTAT: 0 in HOLD, LOAD and PROVE (05 R150); while the engine is down, as it was written last (05 R175). -/
def State.alarmStat (s : State) : Half :=
  if s.mode.stopped || s.mode = .prove then 0
  else match s.engine.shown with
  | some (a, _) => a
  | none =>
    h16 (flag (decide (0 < s.alarmCount)) 15 +
      flag (decide (0 < s.lampCount fun l => l.active && !l.acked)) 14 +
      flag (decide (0 < s.lampCount fun l => l.active && decide (l.state = stUnconfirmed))) 13 +
      flag (decide (0 < s.lampCount fun l => lampUsed l.row && l.held)) 12 + s.alarmCount)

/-! ### Status registers -/

/-- SYSSTAT (05). -/
def State.sysStat (s : State) : Half :=
  h16 (flag s.power.paceLow 15 + flag s.power.tallyLost 14 + flag s.power.orderFault 13 + flag s.engine.up 12 +
    flag s.settings.epoch.isSome 11 + flag (s.alarmStat.getLsbD 15) 10 + flag (decide (s.power.audit ≠ 0)) 9 +
    flag s.power.waitOd 1 + flag s.power.rank 0)

/-- SUPPLY (05). -/
def State.supply (s : State) : Half :=
  h16 (flag s.power.orderFault 15 + flag s.power.vanaGood 14 + s.power.supplyEvents.toNat * 16)

/-- WINCTL (05). -/
def Culvert.winctl (c : Culvert) : Half :=
  h16 (flag c.winEdge 15 + flag c.more 14 + c.errcause.code * 256 + flag c.readahead 1 + flag c.autoinc 0)

/-- LOCKCTL (05). -/
def Culvert.lockctl (c : Culvert) : Half :=
  h16 (flag (decide (c.lock = .granted)) 13 + flag (decide (c.lock = .pending)) 12 + c.brk.toNat * 1024 +
    c.timeout.toNat * 256 + c.pages.toNat)

def Image.code : Image → Nat
  | .none => 0 | .checking => 1 | .checked => 2 | .failed => 3

/-- LOADSTAT (05). -/
def Engine.loadStat (e : Engine) : Half :=
  h16 (e.image.code * 4096 + e.loadErr.toNat * 256 + e.prove.toNat * 16 + e.provePart.toNat)

/-- TAGCTL, TAGADDR, TAGDATA and TAGSTAT (05). -/
def Tag.ctl (t : Tag) : Half := h16 (t.op.toNat * 4096)
def Tag.addr (t : Tag) : Half := h16 (flag t.half 15 + t.block.toNat)
def Tag.dataHalf (t : Tag) : Half := h16 (if t.half then t.buffer.toNat / 65536 else t.buffer.toNat)
def Tag.stat (t : Tag) : Half :=
  h16 (flag t.busy 15 + flag t.done 14 + flag t.field 13 + flag t.fieldLock 12 + flag t.wrote 11 + flag t.waited 10 +
    t.err.toNat)

/-- WDOGSTAT (05). -/
def Engine.wdogStat (e : Engine) : Half :=
  h16 (flag e.pmFail 15 + flag e.restarting 14 + e.lastCause.toNat * 256 + e.count.toNat)

def Role.code : Role → Nat
  | .lone => 0 | .duty => 1 | .standby => 2 | .none => 0

/-- PAIRSTAT (05) with every bit live; a device with no role shows the lone code (log entry 9). -/
def State.pairLive (s : State) : Half :=
  let p := s.pair
  h16 (flag p.dutyOut 15 + flag p.dutyIn 14 + flag s.power.rank 13 + flag p.armed 12 + flag p.linkUp 11 +
    flag p.formed 10 + p.role.code * 256 + flag p.splitConfig 7 + flag p.minorMismatch 6 + flag p.majorMismatch 5 +
    flag p.timeSkew 4 + flag p.peerEngineDown 3)

/-- PAIRSTAT: bits 15 to 13 and 11 are the hardware's; the others hold their values while the engine is down (05 R180). -/
def State.pairStat (s : State) : Half :=
  match s.engine.shown with
  | some (_, p) => (s.pairLive &&& 0xE800) ||| (p &&& 0x17FF)
  | none => s.pairLive

/-- MBOXSTAT (05). -/
def ChanRegs.mboxStat (c : ChanRegs) : Half :=
  h16 (flag c.outFull 15 + flag c.inFull 14 + flag c.outAborted 13 + flag c.inAborted 12 + flag c.outRefused 11)

/-- The low and high halves of a 32-bit register. -/
def loHalf (w : Word) : Half := w.setWidth 16
def hiHalf (w : Word) : Half := (w >>> 16).setWidth 16

/-- A channel register at offset 0x10 to 0x24: the low part from the register, the high part from its latch (05 R146). -/
def ChanRegs.reg (c : ChanRegs) (off : Nat) : Half :=
  match off with
  | 0x10 => c.bellOut.setWidth 16
  | 0x12 => c.laBellOut
  | 0x14 => loHalf c.bellIn
  | 0x16 => c.laBellIn
  | 0x18 => loHalf c.bellMsk
  | 0x1A => c.laBellMsk
  | 0x1C => loHalf c.mboxOut
  | 0x1E => c.laMboxOut
  | 0x20 => if c.inFull then loHalf c.mboxIn else 0
  | 0x22 => c.laMboxIn
  | _ => c.mboxStat

/-- What a read of a register returns, WINDATA apart (04 Table - KEY window layout, 05 Table - CTL register summary);
an offset with no register reads 0xFFFF (04 R115, R116). -/
def State.readReg (s : State) (w : Window) (off : Nat) : Half :=
  match w, off with
  | _, 0x00 => 0x6A30
  | _, 0x02 => 0x4201
  | _, 0x04 => h16 s.modes.request.toNat
  | _, 0x06 => s.modeNow
  | _, 0x08 => s.sysStat
  | .ctl, 0x0A => s.culvert.irqstat
  | .key, 0x0A => s.culvert.kirqstat
  | .ctl, 0x0C => s.culvert.irqmask
  | .key, 0x0C => s.culvert.kirqmask
  | .ctl, 0x0E => 0
  | .key, 0x0E => 0xFFFF
  | .ctl, 0x26 => h16 s.culvert.winpage.toNat
  | .ctl, 0x28 => h16 s.culvert.winaddr.toNat
  | .ctl, 0x2C => s.culvert.winctl
  | .ctl, 0x2E => s.culvert.lockctl
  | .ctl, 0x30 => s.now.setWidth 16
  | .ctl, 0x32 => loHalf s.culvert.elapsedLatch
  | .ctl, 0x34 => hiHalf s.culvert.elapsedLatch
  | .ctl, 0x36 => s.power.pace
  | .ctl, 0x38 => s.supply
  | .ctl, 0x3A => s.power.temp
  | .ctl, 0x3C => 0
  | .ctl, 0x3E => s.engine.loadStat
  | .ctl, 0x40 => s.tag.ctl
  | .ctl, 0x42 => s.tag.addr
  | .ctl, 0x44 => s.tag.dataHalf
  | .ctl, 0x46 => s.tag.stat
  | .ctl, 0x48 => s.alarmStat
  | .ctl, 0x4A => s.engine.wdogStat
  | .ctl, 0x4C => h16 s.sluice.free.length
  | .ctl, 0x4E => h16 s.power.audit.toNat
  | .ctl, 0x50 => h16 s.power.lastReset.toNat
  | .ctl, 0x52 => s.pairStat
  | .ctl, o => if 0x10 ≤ o ∧ o ≤ 0x24 then s.chanN.reg o else 0xFFFF
  | .key, o => if 0x10 ≤ o ∧ o ≤ 0x24 then s.chanK.reg o else 0xFFFF

/-- nIRQ is driven low (05 R156). -/
def State.nIrqLow (s : State) : Bool := s.culvert.irqstat &&& s.culvert.irqmask ≠ 0
/-- nIRQK is driven low (05 R181). -/
def State.nIrqkLow (s : State) : Bool := s.culvert.kirqstat &&& s.culvert.kirqmask ≠ 0

end Sys2Proof.Machine
end

