-- ==== Sys2Proof/Machine/Text.lean ====
section
/-!
DEFINITION. Sentences and TAG blocks as bytes (11): the fields the GX-48 reads, the checksums, groups, the TAG block the
Spillway writes, UTC from an epoch, and the four sentences the engine makes.
-/
namespace Sys2Proof.Machine

/-! ### Characters -/

def chr (c : Char) : Byte := BitVec.ofNat 8 c.toNat
def ascii (t : String) : List Byte := t.toList.map chr

def chDollar : Byte := 0x24
def chBang : Byte := 0x21
def chBack : Byte := 0x5C
def chStar : Byte := 0x2A
def chComma : Byte := 0x2C
def chCr : Byte := 0x0D
def chLf : Byte := 0x0A

/-- '$' or '!'. -/
def isStart (b : Byte) : Bool := b = chDollar || b = chBang

/-- A decimal digit's value. -/
def digit? (b : Byte) : Option Nat := if 0x30 ≤ b.toNat ∧ b.toNat ≤ 0x39 then some (b.toNat - 0x30) else none

/-- A hexadecimal digit's value, either case (11 R330). -/
def hex? (b : Byte) : Option Nat :=
  let n := b.toNat
  if 0x30 ≤ n ∧ n ≤ 0x39 then some (n - 0x30)
  else if 0x41 ≤ n ∧ n ≤ 0x46 then some (n - 0x37)
  else if 0x61 ≤ n ∧ n ≤ 0x66 then some (n - 0x57)
  else none

/-- A number all of whose characters are decimal digits. -/
def decimal? (bs : List Byte) : Option Nat :=
  if bs.isEmpty then none
  else bs.foldl (fun a b => match a, digit? b with
    | some v, some d => some (10 * v + d)
    | _, _ => none) (some 0)

def hexChar (n : Nat) : Byte := if n < 10 then BitVec.ofNat 8 (0x30 + n) else BitVec.ofNat 8 (0x37 + n)
/-- Two hexadecimal digits. -/
def hex2 (b : Byte) : List Byte := [hexChar (b.toNat / 16), hexChar (b.toNat % 16)]

/-- `n` in exactly `k` decimal digits. -/
def decFix : Nat → Nat → List Byte
  | 0, _ => []
  | k + 1, n => decFix k (n / 10) ++ [BitVec.ofNat 8 (0x30 + n % 10)]

/-- Decimal digits of a number below 10 to the `k`. -/
def decLen : Nat → Nat → Nat
  | 0, _ => 1
  | k + 1, n => if n < 10 then 1 else 1 + decLen k (n / 10)

/-- `n` in decimal without leading zeros. -/
def dec (n : Nat) : List Byte := decFix (decLen 20 n) n
/-- `n` in decimal with at least `k` digits. -/
def decMin (k n : Nat) : List Byte := decFix (max k (decLen 20 n)) n

/-- The XOR of 11 R330. -/
def xorSum (bs : List Byte) : Byte := bs.foldl (· ^^^ ·) 0

/-- The pieces of `bs` between separators. -/
def splitOn (sep : Byte) : List Byte → List (List Byte)
  | [] => [[]]
  | b :: bs =>
    if b = sep then [] :: splitOn sep bs
    else match splitOn sep bs with
      | [] => [[b]]
      | p :: ps => (b :: p) :: ps

/-! ### Reading an item (11 R330-R334) -/

/-- The characters after the start character, before '*', CR or LF. -/
def bodyOf (sent : List Byte) : List Byte := (sent.drop 1).takeWhile fun b => b ≠ chStar && b ≠ chCr && b ≠ chLf

/-- The fields after the address field. -/
def fieldsOf (sent : List Byte) : List (List Byte) := (splitOn chComma (bodyOf sent)).drop 1

/-- The first five characters of the address field; missing ones read 0 (11 Table - Fields read). -/
def addrField (sent : List Byte) : List Byte :=
  (((bodyOf sent).takeWhile fun b => b ≠ chComma) ++ [0, 0, 0, 0, 0]).take 5

/-- A '*' appears in the sentence (11 R330). -/
def hasStar (sent : List Byte) : Bool := sent.contains chStar

/-- The characters between the start character and the first '*'. -/
def beforeStar (sent : List Byte) : List Byte := (sent.drop 1).takeWhile fun b => b ≠ chStar
/-- Those from the first '*' on, the '*' left out. -/
def afterStar (sent : List Byte) : List Byte := ((sent.drop 1).dropWhile fun b => b ≠ chStar).drop 1

/-- The sentence's checksum field is exactly two hexadecimal digits before CR, and right (11 R330). -/
def checksumOk (sent : List Byte) : Bool :=
  match afterStar sent with
  | h :: l :: c :: _ =>
    match hex? h, hex? l with
    | some a, some b => c = chCr && BitVec.ofNat 8 (16 * a + b) = xorSum (beforeStar sent)
    | _, _ => false
  | _ => false

/-- The characters of a TAG block after its opening '\' and before its last '*', or its closing '\' without one. -/
def tagBody (block : List Byte) : List Byte :=
  let back := (block.drop 1).reverse
  if back.contains chStar then ((back.dropWhile fun b => b ≠ chStar).drop 1).reverse
  else (if back.head? = some chBack then back.drop 1 else back).reverse

/-- The TAG block ends with '*hh\' and its checksum is right (11 R332). -/
def tagOk (block : List Byte) : Bool :=
  match (block.drop 1).reverse with
  | c :: l :: h :: st :: rest =>
    match hex? h, hex? l with
    | some a, some b => c = chBack && st = chStar && BitVec.ofNat 8 (16 * a + b) = xorSum rest
    | _, _ => false
  | _ => false

/-- The letter of a TAG parameter "x:…". -/
def paramLetter (p : List Byte) : Option Byte :=
  match p with
  | l :: c :: _ => if c = 0x3A then some l else none
  | _ => none

def tagParams (block : List Byte) : List (List Byte) :=
  let b := tagBody block
  if b.isEmpty then [] else splitOn chComma b

/-- A well-formed g: parameter "x-y-z" (11 R334): x, y and z. -/
def groupParam (block : List Byte) : Option (Nat × Nat × Nat) :=
  (tagParams block).findSome? fun p =>
    if paramLetter p = some 0x67 then
      match (splitOn 0x2D (p.drop 2)).map decimal? with
      | [some x, some y, some z] => if 2 ≤ y ∧ 1 ≤ x ∧ x ≤ y then some (x, y, z) else none
      | _ => none
    else none

/-- A '!' sentence's well-formed fragment fields (11 R334): number, count and identifier. -/
def fragFields (sent : List Byte) : Option (Nat × Nat × Nat) :=
  if sent.head? = some chBang then
    match (fieldsOf sent).map decimal? with
    | some n :: some x :: some i :: _ => if 2 ≤ n ∧ 1 ≤ x ∧ x ≤ n then some (x, n, i) else none
    | _ => none
  else none

/-- The group an item belongs to: its key, its number in it and the member count (11 R334, 14 R422). -/
def groupOf (source : Byte) (tagLen : Nat) (payload : List Byte) : Option (GroupKey × Nat × Nat) :=
  match groupParam (payload.take tagLen) with
  | some (x, y, z) => some (.byTag source z y, x, y)
  | none =>
    let sent := payload.drop tagLen
    match fragFields sent with
    | some (x, n, i) => some (.byFields source (addrField sent) n i, x, n)
    | none => none

def Item.sentence (i : Item) : List Byte := i.payload.drop i.tagLen
def Item.groupOf (i : Item) : Option (GroupKey × Nat × Nat) := Machine.groupOf i.source i.tagLen i.payload

/-! ### UTC (08 R236) -/

/-- Microseconds of UTC at an elapsed instant, counted from UTC second 0. -/
def utcMicros (e : Epoch) (t : Stamp) : Int :=
  (e.seconds.toNat : Int) * 1000000 + (t.toNat : Int) - (e.instant.toNat : Int) + (e.micros.toNat : Int)

def utcSeconds (e : Epoch) (t : Stamp) : Nat := ((utcMicros e t).fdiv 1000000).toNat
def utcFraction (e : Epoch) (t : Stamp) : Nat := ((utcMicros e t).fmod 1000000).toNat

/-- hhmmss.ss, empty without an epoch (11 R343). -/
def timeField (e : Option Epoch) (t : Stamp) : List Byte :=
  match e with
  | none => []
  | some e =>
    let d := utcSeconds e t % 86400
    decFix 2 (d / 3600) ++ decFix 2 (d / 60 % 60) ++ decFix 2 (d % 60) ++ [0x2E] ++
      decFix 2 (utcFraction e t / 10000)

/-! ### The TAG block the Spillway writes (11 R335-R338) -/

/-- s: of a source (11 R336). -/
def sourceName (src : Byte) : List Byte :=
  let n := src.toNat
  if n < 48 then chr 'P' :: decFix 2 n
  else if n = 0x40 then ascii "ENG"
  else if n = 0x41 then ascii "PEER"
  else ascii "HOST"

/-- Parameters joined by commas. -/
def joinParams : List (List Byte) → List Byte
  | [] => []
  | [p] => p
  | p :: q :: r => p ++ chComma :: joinParams (q :: r)

/-- A block of these parameters with its checksum, nothing for none. -/
def tagBlock (ps : List (List Byte)) : List Byte :=
  if ps.isEmpty then []
  else let b := joinParams ps; chBack :: b ++ chStar :: hex2 (xorSum b) ++ [chBack]

/-- The parameters kept of those the GX-48 would write: while the block would pass 80 characters, the last is omitted,
so c:, then s:, then r: (11 R338, log entry 10). -/
def fitParams (base : List (List Byte)) : Nat → List (List Byte) → List (List Byte)
  | 0, own => own
  | k + 1, own => if (tagBlock (base ++ own)).length ≤ 80 then own else fitParams base k own.dropLast

/-- What the listener's line carries for an item, and how many parameters R338 omitted (11 R335-R338, 14 R410). -/
def sendBytes (e : Option Epoch) (i : Item) : List Byte × Nat :=
  let block := i.payload.take i.tagLen
  let act := i.stampAct.toNat
  if act = 0 ∨ (i.tagLen ≠ 0 ∧ !tagOk block) then (i.payload, 0)
  else
    let letters : List Byte := (chr 'r' :: if 2 ≤ act then [chr 's'] else []) ++ if act = 3 then [chr 'c'] else []
    let base := (tagParams block).filter fun p =>
      match paramLetter p with
      | some l => !letters.contains l
      | none => true
    let own := [ascii "r:" ++ dec i.stamp.toNat] ++
      (if 2 ≤ act then [ascii "s:" ++ sourceName i.source] else []) ++
      (match e with
        | some e => if act = 3 then [ascii "c:" ++ dec (utcSeconds e i.stamp)] else []
        | none => [])
    let kept := fitParams base 3 own
    (tagBlock (base ++ kept) ++ i.sentence, own.length - kept.length)

/-! ### Sentences the engine makes (11 R345-R350) -/

/-- '$', the fields joined by commas, the checksum, CR and LF. -/
def makeSentence (fields : List (List Byte)) : List Byte :=
  let b := joinParams fields
  chDollar :: b ++ chStar :: hex2 (xorSum b) ++ [chCr, chLf]

/-- Pnn. -/
def portName (p : Nat) : List Byte := chr 'P' :: decFix 2 p

/-- Pnn of a bus slot, PXX where the slot names no port (16 R681). -/
def State.busName (s : State) (b : BusNo) : List Byte :=
  match s.busPort b with
  | some p => portName p.val
  | none => ascii "PXX"

/-- Pnn-Hhh. -/
def State.headName (s : State) (b : BusNo) (h : Nat) : List Byte := s.busName b ++ ascii "-H" ++ decFix 2 h

/-- Pnn-Hhh-Ll (16 Table - Lamp row). -/
def State.lampName (s : State) (w : Word) : List Byte :=
  s.headName (lampBus w) (lampHead w) ++ ascii "-L" ++ dec (lampNo w + 1)

/-- The state words of 11 Table - ALR fields and Table - PVYSL fields. -/
def stateWord (st : BitVec 3) : List Byte :=
  if st = stLit then ascii "LIT"
  else if st = stDark then ascii "DARK"
  else if st = stDegraded then ascii "DEGRADED"
  else if st = stWrong then ascii "WRONG-CHARACTER"
  else if st = stOff then ascii "OFF-BY-COMMAND"
  else if st = stUnconfirmed then ascii "UNCONFIRMED"
  else if st = stRetired then ascii "RETIRED"
  else ascii "RETURNING"

/-- $--ALR for a lamp row (11 Table - ALR fields); field 1 is the instant `t`. -/
def State.alrText (s : State) (w : Word) (st : BitVec 3) (acked : Bool) (t : Stamp) : List Byte :=
  makeSentence [[s.settings.alrTalker0, s.settings.alrTalker1] ++ ascii "ALR", timeField s.settings.epoch t,
    decMin 3 (lampAlarmNo w), [if alarmState st then chr 'A' else chr 'V'], [if acked then chr 'A' else chr 'V'],
    s.lampName w ++ chr ' ' :: stateWord st]

/-- $PVYSL (11 Table - PVYSL fields). -/
def State.pvyslText (s : State) (w : Word) (st : BitVec 3) (r : Option Report) (t : Stamp) : List Byte :=
  let tail := match r with
    | none => [[], [], []]
    | some r => [dec (10 * r.current.toNat), dec r.flashes.toNat, match r.confirmed with
        | some c => dec (min 9999999 ((s.now - c).toNat / 1000))
        | none => []]
  makeSentence ([ascii "PVYSL", timeField s.settings.epoch t, s.lampName w, stateWord st] ++ tail)

/-- $PVYSP (11 R349). -/
def State.pvyspText (s : State) (source : List Byte) (word : List Byte) (value : Option Nat) : List Byte :=
  makeSentence [ascii "PVYSP", timeField s.settings.epoch s.now, source, word,
    match value with
      | some v => dec v
      | none => []]

def Mode.word : Mode → List Byte
  | .hold => ascii "HOLD" | .load => ascii "LOAD" | .prove => ascii "PROVE" | .run => ascii "RUN"
  | .trim => ascii "TRIM" | .vigil => ascii "VIGIL" | .doze => ascii "DOZE" | .probe => ascii "PROBE"

/-- The role word of $PVYSH; a device with no role shows LONE (log entry 9). -/
def Role.word : Role → List Byte
  | .lone => ascii "LONE" | .duty => ascii "DUTY" | .standby => ascii "STBY" | .none => ascii "LONE"

/-- $PVYSH (11 R350). -/
def State.pvyshText (s : State) : List Byte :=
  makeSentence [ascii "PVYSH", timeField s.settings.epoch s.now, dec s.now.toNat, s.mode.word, s.pair.role.word,
    dec s.alarmCount, dec s.sluice.free.length, dec s.power.pace.toNat]

/-- FLAGS bits of w0 (13 Table - Item flags). -/
def flFlawed : Byte := 0x80
def flCkOk : Byte := 0x40
def flTag : Byte := 0x20
def flInjected : Byte := 0x10
def flCont : Byte := 0x08
def flDevice : Byte := 0x04
def flWoke : Byte := 0x02
def flVoid : Byte := 0x01

def hasFlag (f b : Byte) : Bool := f &&& b ≠ 0

end Sys2Proof.Machine
end

