-- ==== Sys2Proof/Machine/Inject.lean ====
section
/-!
DEFINITION. Deliberate faults (21 R627-R634): the pattern of a slot and the slot that fires at an eligible event.
-/
namespace Sys2Proof.Machine

/-- One step of the 16-bit LFSR (21 R629). -/
def lfsrNext (x : Half) : Half := if x.getLsbD 0 then (x >>> 1) ^^^ 0xB400#16 else x >>> 1

/-- A slot after one eligible event, and whether it fires (21 R629). -/
def slotStep (sl : Slot16) : Slot16 × Bool :=
  let n := sl.steps + 1
  if sl.every = 0 then
    let x := lfsrNext sl.lfsr
    ({ sl with steps := n, lfsr := x }, decide (x.toNat < sl.prob.toNat))
  else ({ sl with steps := n }, decide (n % sl.every.toNat = 0))

/-- Injection is in effect: PROBE, or a working mode with run-time injection enabled (08 Table - Mode sets DIAG). -/
def State.injectOn (s : State) : Bool := s.mode = .probe || (s.mode.working && s.inject.enabled)

/-- A used slot at this point and target whose fault counts this event as eligible. -/
def slotHears (sl : Slot16) (point target : Nat) (eligible : Nat → Bool) : Bool :=
  sl.used && decide (sl.point.toNat = point) && decide (sl.target.toNat = target) && eligible sl.fault.toNat

/-- The lowest-numbered slot that would fire at the next eligible event. -/
def State.injectPeek (s : State) (point target : Nat) (eligible : Nat → Bool) : Option (Fin 16) :=
  if s.injectOn then
    (List.finRange 16).find? fun i =>
      let sl := s.inject.slots.get i
      slotHears sl point target eligible && (slotStep sl).2
  else none

/-- Every slot that hears the event steps once (21 R629). -/
def State.injectStep (s : State) (point target : Nat) (eligible : Nat → Bool) : State :=
  if s.injectOn then
    s.setInject fun j => { j with
      slots := j.slots.map fun sl => if slotHears sl point target eligible then (slotStep sl).1 else sl }
  else s

/-- The slot that fires at an eligible event, and the state with the slots stepped. -/
def State.injectAt (s : State) (point target : Nat) (eligible : Nat → Bool) : Option (Fin 16) × State :=
  (s.injectPeek point target eligible, s.injectStep point target eligible)

/-- An applied fault adds 1 to its slot's count. -/
def State.injectCount (s : State) (i : Fin 16) : State :=
  s.setInject fun j => { j with slots := upd j.slots i fun sl => { sl with count := satAdd top32 sl.count 1 } }

/-- The byte with one bit inverted. -/
def flipBit (b : Byte) (bit : Nat) : Byte := b ^^^ BitVec.ofNat 8 (2 ^ bit)

/-- The `k`-th byte, from 1, with a bit inverted. -/
def flipAt (bs : List Byte) (k bit : Nat) : List Byte :=
  (bs.zipIdx).map fun (b, i) => if i + 1 = k then flipBit b bit else b

end Sys2Proof.Machine
end

