-- ==== Sys2Proof/Machine/Wire.lean ====
section
/-!
DEFINITION. The bytes of a Pleach frame (17 Table - Pleach frame, Table - Pleach frame types, Table - Heartbeat payload):
how a frame is composed, and the check of R510 that a received one must pass.
-/
namespace Sys2Proof.Machine

/-- A MIRROR record's 10 bytes. -/
def mirrorBytes (r : MirrorRec) : List Byte :=
  leBytes 4 r.pairSeq.toNat ++ [r.source, 0] ++ leBytes 2 r.length.toNat ++ leBytes 2 r.crc.toNat

/-- A DELIVERED record's 6 bytes. -/
def deliveredBytes (r : DeliveredRec) : List Byte := leBytes 1 r.view.val ++ [0] ++ leBytes 4 r.pairSeq.toNat

/-- An ITEM payload. -/
def itemBytes (r : ItemRec) : List Byte :=
  leBytes 4 r.pairSeq.toNat ++ leBytes 6 r.stamp.toNat ++ [r.source, r.flags, r.cls, 0] ++ leBytes 2 r.payload.length ++
    r.payload

/-- A LAMP record's 12 bytes. -/
def lampBytes (r : LampRec) : List Byte :=
  leBytes 2 r.index.val ++ leBytes 4 r.row.toNat ++ leBytes 6 r.time.toNat

/-- An EPOCH payload: LEN 0 clears the epoch. -/
def epochBytes (r : Option EpochRec) : List Byte :=
  match r with
  | none => []
  | some e => leBytes 4 e.seconds.toNat ++ leBytes 4 e.micros.toNat ++ leBytes 6 e.instant.toNat

/-- A HEARTBEAT's 22 bytes. -/
def beatBytes (b : Heartbeat) : List Byte :=
  [b.flags, if b.rank then 1 else 0, b.mode, 0] ++ leBytes 2 b.major.toNat ++ leBytes 2 b.minor.toNat ++
    leBytes 2 b.patch.toNat ++ leBytes 4 b.digest.toNat ++ leBytes 6 b.elapsed.toNat ++ leBytes 2 0

/-- TYPE of a sequenced frame. -/
def Frame.code : Frame → Nat
  | .mirror _ => 0x02
  | .delivered _ => 0x03
  | .item _ _ => 0x04
  | .lamp _ => 0x05
  | .epoch _ => 0x06
  | .handover _ => 0x07
  | .catchupEnd _ => 0x08

/-- The payload of a sequenced frame. -/
def Frame.bytes : Frame → List Byte
  | .mirror r => (r.map mirrorBytes).flatten
  | .delivered r => (r.map deliveredBytes).flatten
  | .item _ r => itemBytes r
  | .lamp r => (r.map lampBytes).flatten
  | .epoch e => epochBytes e
  | .handover n => leBytes 4 n.toNat
  | .catchupEnd n => leBytes 4 n.toNat

/-- LEN fits TYPE (R510): so many whole records, or the one length of the type; no other TYPE exists. -/
def lenFits (code n : Nat) : Bool :=
  match code with
  | 0x01 => decide (n = 22)
  | 0x02 => decide (10 ≤ n ∧ n ≤ 250 ∧ n % 10 = 0)
  | 0x03 => decide (6 ≤ n ∧ n ≤ 252 ∧ n % 6 = 0)
  | 0x04 => decide (17 ≤ n ∧ n ≤ 256)
  | 0x05 => decide (12 ≤ n ∧ n ≤ 252 ∧ n % 12 = 0)
  | 0x06 => decide (n = 0 ∨ n = 14)
  | 0x07 => decide (n = 4)
  | 0x08 => decide (n = 4)
  | 0x09 => decide (n = 0)
  | _ => false

/-- A frame byte for byte: preamble, start, TYPE, SEQ, ACK, LEN, payload and the CRC-32 of TYPE to the payload's end
(R509). -/
def pleachBytes (code : Nat) (seq ack : Half) (payload : List Byte) : List Byte :=
  let body := leBytes 1 code ++ leBytes 2 seq.toNat ++ leBytes 2 ack.toNat ++ leBytes 2 payload.length ++ payload
  [0x55, 0x55, 0x55, 0x55, 0xD5] ++ body ++ leBytes 4 (crc32 body).toNat

/-- The bytes after the start byte are no good frame: CRC, TYPE or LEN fails (R510). -/
def pleachBad (bytes : List Byte) : Bool :=
  let n := bytes.length - 11
  decide (bytes.length < 11) || decide (fieldAt bytes (n + 7) 4 ≠ (crc32 (bytes.take (n + 7))).toNat) ||
    decide (fieldAt bytes 5 2 ≠ n) || !lenFits (fieldAt bytes 0 1) n

end Sys2Proof.Machine
end

