-- ==== Sys2Proof/Machine/Link.lean ====
section
/-!
DEFINITION. The sending side of the Pleach link (17 R508-R513, R520-R525): the window of eight sequenced frames, and the
MIRROR, DELIVERED and LAMP records the duty sends.
-/
namespace Sys2Proof.Machine

/-- The link runs: pair enabled and a working mode (17 R508). -/
def State.linkRuns (s : State) : Bool := s.roadRuns && s.settings.pairEnable

/-- The duty mirrors: LINK_UP set and majors agreeing (17 R522, R533). -/
def State.mirrors (s : State) : Bool := s.pair.linkUp && s.pair.role = .duty && !s.pair.majorMismatch

/-- The SEQ after `q`: modulo 65,536 with 0 skipped (17 R511). -/
def nextLinkSeq (q : Half) : Half := if q = 0xFFFF then 1 else q + 1

/-- A frame of this device goes out on PL_TXA and PL_TXB, its ACK in it; it is the last frame sent (17 R509). -/
def State.putLine (s : State) (bytes : List Byte) : State :=
  s.setPair fun p => { p with wire := bytes, ackOwed := false, sent := satAdd top32 p.sent 1 }

/-- A sequenced frame's bytes as it goes now. -/
def State.frameBytes (s : State) (q : Half) (f : Frame) : List Byte := pleachBytes f.code q s.pair.rxSeq f.bytes

/-- The frame that a point-2 reorder withheld is sent. -/
def State.sendWithheld (s : State) : State :=
  match s.pair.withheld with
  | some (_, _, q, f) => (s.setPair fun p => { p with withheld := none }).putLine (s.frameBytes q f)
  | none => s

/-- One more frame has gone: a withheld frame (21 Table - Injection points and faults) counts it, and follows the last. -/
def State.withheldCounts (s : State) : State :=
  match s.pair.withheld with
  | some (sl, k + 1, q, f) => if k = 0 then s.sendWithheld else s.setPair fun p => { p with withheld := some (sl, k, q, f) }
  | some (_, 0, _, _) => s.sendWithheld
  | none => s

/-- A frame goes out for the first time, past faults 0 and 1 of point 2 (21 Table - Injection points and faults): dropped, it
counts as sent; corrupted, one bit of its payload byte `k` is inverted after the CRC. -/
def State.sendPast (s : State) (hit : Option (Fin 16)) (bytes : List Byte) (len : Nat) : State :=
  match hit with
  | none => (s.putLine bytes).withheldCounts
  | some i =>
    let sl := s.inject.slots.get i
    if sl.fault = 0 then ((s.injectCount i).putLine s.pair.wire).withheldCounts
    else if sl.k.toNat ≤ len then
      ((s.injectCount i).putLine (flipAt bytes (12 + sl.k.toNat) sl.bit.toNat)).withheldCounts
    else (s.putLine bytes).withheldCounts

/-- An unsequenced frame is sent, SEQ 0. -/
def State.sendPlain (s : State) (code : Nat) (payload : List Byte) : State :=
  let got := s.injectAt 2 0 (fun x => decide (x ≤ 1))
  got.2.sendPast got.1 (pleachBytes code 0 s.pair.rxSeq payload) payload.length

/-- An ACK that no frame of the step has carried goes in an ACK-ONLY frame (17 R512; DESIGN CHOICE, log entry 161). -/
def State.sendAck (s : State) : State := if s.pair.ackOwed then s.sendPlain 0x09 [] else s

/-- A new sequenced frame is sent (17 R511), past the fault injection of point 2. -/
def State.launchFrame (s : State) (f : Frame) : State :=
  let q := s.pair.txSeq
  let s := s.setPair fun p => { p with txSeq := nextLinkSeq q, unacked := p.unacked ++ [(q, f)] }
  let got := s.injectAt 2 0 (fun x => decide (x ≤ 2))
  let s := got.2
  match got.1 with
  | none => s.sendPast none (s.frameBytes q f) f.bytes.length
  | some i =>
    let sl := s.inject.slots.get i
    if sl.fault = 2 then
      if s.pair.withheld.isSome then s.sendPast none (s.frameBytes q f) f.bytes.length
      else (s.injectCount i).setPair fun p => { p with withheld := some (i, sl.k.toNat, q, f) }
    else s.sendPast (some i) (s.frameBytes q f) f.bytes.length

/-- A frame joins the window, or waits while eight are unacknowledged (17 R511). -/
def State.sendFrame (s : State) (f : Frame) : State :=
  if s.pair.waiting.isEmpty && decide (s.pair.unacked.length < 8) then s.launchFrame f
  else s.setPair fun p => { p with waiting := p.waiting ++ [f] }

/-- Waiting frames enter the window as it opens, at most eight at once. -/
def State.drainFrames : Nat → State → State
  | 0, s => s
  | n + 1, s =>
    match s.pair.waiting with
    | f :: fs =>
      if s.pair.unacked.length < 8 then
        State.drainFrames n ((s.setPair fun p => { p with waiting := fs }).launchFrame f)
      else s
    | [] => s

/-- The stamp `t` of this device in pair time: the duty's own, the standby's with its adopted offset, or with the latest
measured one before the first adoption (17 R529). -/
def State.toPairTime (s : State) (t : Stamp) : Stamp :=
  if s.pair.role = .standby then t + (s.pair.offset.orElse fun _ => s.pair.measured).getD 0 else t

/-- A pair-time instant in this device's elapsed µs. -/
def State.fromPairTime (s : State) (t : Stamp) : Stamp :=
  if s.pair.role = .standby then t - (s.pair.offset.orElse fun _ => s.pair.measured).getD 0 else t

/-- The MIRROR record of an item (17 R510). -/
def mirrorOf (seq : Word) (source : Byte) (payload : List Byte) : MirrorRec :=
  { pairSeq := seq, source := source, length := BitVec.ofNat 16 payload.length, crc := crc16 payload }

/-- A lamp row's maintained bits have changed: the duty sends a LAMP record (17 R527). -/
def State.sendLamp (s : State) (l : LampNo) : State :=
  if s.mirrors then
    s.sendFrame (.lamp [{ index := l, row := lampWord (s.lamps.get l), time := s.now }])
  else s

end Sys2Proof.Machine
end

