-- ==== Sys2Proof/Machine/Books.lean ====
section
/-!
DEFINITION. The Sluice (13): taking and freeing cells, the bytes of the pool, the books, views and their order, credits
and eviction, and the commit of an item into its views.
-/
namespace Sys2Proof.Machine

/-! ### Items, views and the cells they hold -/

def State.item? (s : State) (id : Nat) : Option Item := s.sluice.items.find? fun i => decide (i.id = id)

def State.updItem (s : State) (id : Nat) (f : Item → Item) : State :=
  s.setSluice fun l => { l with items := l.items.map fun i => if i.id = id then f i else i }

def State.view (s : State) (v : Fin 52) : View := s.sluice.views.get v
def State.port (s : State) (p : PortNo) : Port := s.ports.get p

/-- The port of a port view. -/
def viewPort (v : Fin 52) : Option PortNo := if h : v.val < 48 then some ⟨v.val, h⟩ else none

/-- Members of a group that the Spillway holds in a port view (14 R425). -/
def State.viewHolds (s : State) (v : Fin 52) : List Nat :=
  match viewPort v with
  | none => []
  | some p => match (s.port p).tx.group with
    | none => []
    | some g => g.held.map (·.item)

/-- Every item a view references: queued, in flight, held (13 R405 CREDITS). -/
def State.viewItems (s : State) (v : Fin 52) : List Nat :=
  ((s.view v).queue ++ (s.view v).inFlight).map (·.item) ++ s.viewHolds v

def State.itemCells (s : State) (id : Nat) : Nat :=
  match s.item? id with
  | some i => i.cells.length
  | none => 0

/-- USED of a view (13 R396). -/
def State.used (s : State) (v : Fin 52) : Nat := ((s.viewItems v).map s.itemCells).foldl (· + ·) 0

/-- Cells of an item of payload length `n` (13 R381). -/
def cellsFor (n : Nat) : Nat := if n ≤ 104 then 1 else if n ≤ 228 then 2 else 3

/-! ### The books (13 R379, R404) -/

def sumOf {α : Type} (f : α → Nat) (l : List α) : Nat := l.foldl (fun a x => a + f x) 0

def State.freeCount (s : State) : Nat := s.sluice.free.length

def asmSum (s : State) (void : Bool) : Nat :=
  sumOf (fun (q : Port) => if q.asm.void = void then q.asm.cells.length else 0) s.ports.toList

def State.reservedCount (s : State) : Nat :=
  sumOf (fun (i : Item) => if i.place ≠ .committed ∧ !i.void then i.cells.length else 0) s.sluice.items + asmSum s false
def State.heldCount (s : State) : Nat :=
  sumOf (fun (i : Item) => if i.place = .committed then i.cells.length else 0) s.sluice.items
def State.voidedCount (s : State) : Nat :=
  sumOf (fun (i : Item) => if i.place ≠ .committed ∧ i.void then i.cells.length else 0) s.sluice.items + asmSum s true
def State.class0Count (s : State) : Nat :=
  sumOf (fun (i : Item) => if i.place = .committed ∧ i.cls = 0 then i.cells.length else 0) s.sluice.items
def isDeferred (i : Item) : Bool :=
  match i.place with
  | .deferred _ => true
  | .ended | .reorder _ _ | .committed => false
def State.deferredCount (s : State) : Nat := s.sluice.items.countP isDeferred
def State.inFlightCount (s : State) : Nat :=
  (List.finRange 52).foldl (fun a v => a + (s.view v).inFlight.length + (s.viewHolds v).length) 0

/-! ### Cells and the bytes of the pool (13 R380, R385) -/

/-- A cell leaves the free list: which one is a free value (log entry 3). -/
def State.popCell (s : State) : Option (Nat × State) :=
  let got := s.draw
  let r := got.1
  let s' := got.2
  let k := r % s.sluice.free.length
  match s.sluice.free[k]? with
  | some c => some (c, s'.setSluice fun l => { l with free := l.free.eraseIdx k })
  | none => none

/-- A producer takes a cell: the engine writing a lamp alarm any free one, every other only while FREE is above 128
(13 R387). -/
def State.takeCell (s : State) (alarm : Bool) : Option (Nat × State) :=
  if alarm || decide (128 < s.freeCount) then s.popCell else none

/-- Cells return to the free list with their bytes 0-3 at 0 (13 R385). -/
def State.freeCells (s : State) (cells : List Nat) : State :=
  (cells.foldl (fun s c => s.putBytes (cellAt c) [0, 0, 0, 0]) s).setSluice fun l => { l with free := l.free ++ cells }

/-- Where payload byte `k` lies (13 Table - Cell layouts). -/
def payloadAt (cells : List Nat) (k : Nat) : Nat :=
  if k < 104 then cellAt (cells.getD 0 0) + 24 + k
  else if k < 228 then cellAt (cells.getD 1 0) + 4 + (k - 104)
  else cellAt (cells.getD 2 0) + 4 + (k - 228) % 124

/-- The link words of an item's continuations (13 Table - Link word). -/
def State.putLinks (s : State) (cells : List Nat) : State :=
  match cells with
  | [h, c] => s.putWord (cellAt c) (0xC * 2 ^ 28 + h * 2 ^ 16 + 2 ^ 12)
  | [h, c, d] => (s.putWord (cellAt c) (0xC * 2 ^ 28 + h * 2 ^ 16 + 2 ^ 12 + d)).putWord (cellAt d)
      (0xC * 2 ^ 28 + h * 2 ^ 16 + 2 * 2 ^ 12)
  | _ => s

/-- Takes `n` cells at once, none where one cannot be taken. -/
def State.takeCells : Nat → State → Bool → List Nat → Option (List Nat × State)
  | 0, s, _, got => some (got, s)
  | n + 1, s, alarm, got =>
    match s.takeCell alarm with
    | some (c, s') => State.takeCells n s' alarm (got ++ [c])
    | none => none

/-- Payload bytes from place `k` on. -/
def State.putPayload (s : State) (cells : List Nat) : Nat → List Byte → State
  | _, [] => s
  | k, b :: bs => (s.putByte (payloadAt cells k) b).putPayload cells (k + 1) bs

/-- An item not yet committed, as its producer leaves it. -/
def freshItem (id : Nat) (cells : List Nat) (payload : List Byte) (tagLen : Nat) (source : Byte) (stamp : Stamp)
    (doubt : Bool) (flags : Byte) : Item :=
  { id := id, cells := cells, payload := payload, tagLen := tagLen, source := source, stamp := stamp, doubt := doubt,
    flags := flags, place := .ended, void := false, alarm := false, cls := 1, rule := 0, breach := false, group := false,
    stampAct := 0, mask := 0, engine := false, pairSeq := 0, gov := none, refs := 0, isMatched := false }

/-- An item written whole by a producer that is no assembler (13 R386-R388): none where no cell is available. -/
def State.newItem (s : State) (payload : List Byte) (tagLen : Nat) (source : Byte) (stamp : Stamp) (doubt : Bool)
    (flags : Byte) (alarm : Bool) : Option (Nat × State) :=
  match State.takeCells (cellsFor payload.length) s alarm [] with
  | none => none
  | some (cells, s') =>
    let id := s'.sluice.nextId
    let s' := (s'.putPayload cells 0 payload).putLinks cells
    some (id, s'.setSluice fun l => { l with
      nextId := id + 1
      items := l.items ++ [freshItem id cells payload tagLen source stamp doubt flags] })

/-- NOCELL (13 R388). -/
def State.countNoCell (s : State) : State := s.setSluice fun l => { l with noCell := satAdd top32 l.noCell 1 }

/-- The header words w1 to w5, then w0 (13 Table - Header words, R385). -/
def State.putHeader (s : State) (i : Item) : State :=
  let head := cellAt (i.cells.getD 0 0)
  let n := i.payload.length
  let w0 := (if i.alarm then 2 else 1) * 2 ^ 28 + i.cls * 2 ^ 24 + n % 256 * 2 ^ 16 + i.source.toNat * 256 +
    (i.flags &&& 0xFE).toNat
  let w2 := i.stamp.toNat / 2 ^ 32 * 2 ^ 16 + flag i.doubt 15 + flag i.breach 14 + flag i.group 13 +
    i.stampAct.toNat * 2 ^ 11 + flag i.alarm 10 + flag (decide (256 ≤ n)) 9 + (if i.alarm then 0 else i.rule)
  let w4 := (if 104 < n then i.cells.getD 1 0 else 0) * 2 ^ 20 + flag i.engine 19 + i.mask.toNat / 2 ^ 32
  let s := s.putWord (head + 4) i.stamp.toNat
  let s := s.putWord (head + 8) w2
  let s := s.putWord (head + 12) i.mask.toNat
  let s := s.putWord (head + 16) w4
  let s := s.putWord (head + 20) i.pairSeq.toNat
  s.putWord head w0

/-! ### Ending an item, references and links -/

/-- The item leaves the Sluice and its cells return. -/
def State.dropItem (s : State) (id : Nat) : State :=
  match s.item? id with
  | none => s
  | some i => (s.setSluice fun l => { l with items := l.items.filter fun j => decide (j.id ≠ id) }).freeCells i.cells

/-- One reference fewer; the last one frees the cells (13 R396). -/
def State.release (s : State) (id : Nat) : State :=
  match s.item? id with
  | none => s
  | some i => if i.refs ≤ 1 then s.dropItem id else s.updItem id fun i => { i with refs := i.refs - 1 }

/-- The Spillway forgets an item that has left its port's queue. -/
def State.forget (s : State) (v : Fin 52) (id : Nat) : State :=
  match viewPort v with
  | none => s
  | some p => s.updTx p fun t => { t with
      breachers := t.breachers.filter fun j => decide (j ≠ id)
      cut := t.cut.filter fun j => decide (j ≠ id) }

/-- The link of an item leaves a view's queue, and its reference goes with it. -/
def State.unlink (s : State) (v : Fin 52) (id : Nat) : State :=
  ((s.updView v fun w => { w with queue := w.queue.filter fun l => decide (l.item ≠ id) }).forget v id).release id

/-- An unlink that made room (13 R397). -/
def State.evict (s : State) (v : Fin 52) (id : Nat) : State :=
  (s.updView v fun w => { w with evictions := satAdd top32 w.evictions 1 }).unlink v id

/-- REFUSALS of a view. -/
def State.refuse (s : State) (v : Fin 52) (n : Nat) : State :=
  s.updView v fun w => { w with refusals := satAdd top32 w.refusals n }

/-- The reading order of 13 R395: class, returned items first (14 R417), then stamp and source (01 R20). -/
def linkBefore (a b : Link) : Bool :=
  decide (a.cls < b.cls) || (decide (a.cls = b.cls) &&
    ((a.front && !b.front) || (decide (a.front = b.front) &&
      (decide (a.order.toNat < b.order.toNat) ||
        (decide (a.order = b.order) && decide (a.source.toNat < b.source.toNat))))))

/-- A link takes its place in a queue, behind its equals. -/
def insertLink (l : Link) : List Link → List Link
  | [] => [l]
  | k :: ks => if linkBefore l k then l :: k :: ks else k :: insertLink l ks

/-- The smallest of a list by a key, the first of equals. -/
def minBy {α : Type} (key : α → Nat) : List α → Option α
  | [] => none
  | x :: xs => match minBy key xs with
    | none => some x
    | some y => if key y < key x then some y else some x

/-- The item eviction takes first: highest class number, oldest by 01 R20 (13 R397). -/
def evictKey (l : Link) : Nat := (7 - l.cls) * 2 ^ 64 + l.order.toNat * 256 + l.source.toNat

/-- The view gives up its group holds; a later cut of the group abandons it (14 R427). -/
def State.releaseHolds (s : State) (v : Fin 52) : State :=
  match viewPort v with
  | none => s
  | some p =>
    let held := s.viewHolds v
    held.foldl State.release (s.updTx p fun t => { t with
      group := t.group.map fun g => { g with held := [], released := g.released || !g.held.isEmpty } })

/-- Queued items leave until `n` cells fit (13 R397 steps 1 and 2). -/
def State.makeRoom : Nat → State → Fin 52 → Nat → State
  | 0, s, _, _ => s
  | k + 1, s, v, n =>
    if s.used v + n ≤ (s.viewRow v).credits then s
    else match minBy evictKey (s.view v).queue with
      | some l => State.makeRoom k (s.evict v l.item) v n
      | none => s

/-- Room for a class-0 item (13 R397): evict, then release the group holds and evict again. -/
def State.roomForAlarm (s : State) (v : Fin 52) (n : Nat) : State :=
  let s := State.makeRoom (s.view v).queue.length s v n
  if s.used v + n ≤ (s.viewRow v).credits then s
  else let s := s.releaseHolds v; State.makeRoom (s.view v).queue.length s v n

/-- An item queued somewhere and in flight or held nowhere (13 R398). -/
def State.poolVictim (s : State) (i : Item) : Bool :=
  decide (i.place = .committed) &&
  (List.finRange 52).any (fun v => (s.view v).queue.any fun l => decide (l.item = i.id)) &&
  (List.finRange 52).all fun v => (s.view v).inFlight.all (fun l => decide (l.item ≠ i.id)) && !(s.viewHolds v).contains i.id

/-- One item leaves every view for a lamp alarm that finds no free cell (13 R398). -/
def State.poolEvict (s : State) : State :=
  if s.freeCount ≠ 0 then s
  else match minBy (fun (i : Item) => (7 - i.cls) * 2 ^ 64 + i.stamp.toNat * 256 + i.source.toNat)
      (s.sluice.items.filter s.poolVictim) with
    | none => s
    | some i =>
      (s.eachView fun s v => if (s.view v).queue.any (fun l => decide (l.item = i.id)) then s.evict v i.id else s).setSluice
        fun l => { l with poolEvict := satAdd top32 l.poolEvict 1 }

/-! ### The commit (13 R390-R391, 12 R374-R375) -/

/-- The mode lets the Spillway send this class on this port (03 R79, R83; 14 R408). -/
def State.classAllowed (s : State) (p : PortNo) (cls : Nat) : Bool :=
  match s.roadMode with
  | .run | .probe => true
  | .trim => decide (cls ≤ 3)
  | .vigil => s.settings.designated.contains p && decide (cls = 0)
  | .hold | .load | .prove | .doze => false

/-- A view whose reader is given items: neither retired nor parked (14 R433). -/
def State.viewOpen (s : State) (v : Fin 52) : Bool := !(s.view v).retired && !(s.view v).parked

/-- The class of what a port is sending, or of the group whose next member it waits for (14 R413). -/
def State.classOnLine (s : State) (p : PortNo) : Option Nat :=
  let t := (s.port p).tx
  match t.sending with
  | some x => (s.item? x.item).map (·.cls)
  | none => t.group.map (·.cls)

/-- An item breaches on a port view at its link (14 R413). -/
def State.breaches (s : State) (p : PortNo) (i : Item) : Bool :=
  let r := s.viewRow (portView p)
  r.breachOn && i.breach && decide (i.cls ≤ r.brClass) && s.classAllowed p i.cls && s.viewOpen (portView p) &&
  match s.classOnLine p with
  | some c => decide (i.cls < c)
  | none => false

/-- An older item of the same governor, source and address field whose sending has not begun, outside any group
(12 R374, R377). -/
def State.olderLink (s : State) (v : Fin 52) (i : Item) (g : GovNo) : Option Link :=
  (s.view v).queue.find? fun l =>
    match s.item? l.item with
    | none => false
    | some j =>
      decide (j.gov = some g) && decide (j.source = i.source) && decide (addrField j.sentence = addrField i.sentence) &&
      decide (j.groupOf = none) &&
      match viewPort v with
      | some p => !(s.port p).tx.cut.contains j.id
      | none => true

/-- How a view takes an item: a new link, and the link it replaces. -/
structure Admission where
  view : Fin 52
  link : Link
  old  : Option Nat
  deriving DecidableEq, Repr

/-- One view's answer at a commit (13 R390, 01 R21, 03 R80, 12 R374-R375, 14 R428): refusals and evictions made, and the
admission. `lw` says that the view takes the item only in place of an older one, where the older one stood. -/
def State.letIn (s : State) (i : Item) (v : Fin 52) (lw : Option GovNo) : State × Option Admission :=
  let n := i.cells.length
  let link : Link := { item := i.id, cls := i.cls, order := i.stamp, source := i.source, front := false }
  let listener := match viewPort v with
    | some p => decide ((s.port p).txc.tx = .listener)
    | none => true
  if !listener then (s, none)
  else if (s.view v).retired && !(s.viewRow v).hwr then (s, none)
  else if decide (v.val < 48) && decide (s.mode = .trim) && decide (4 ≤ i.cls) then (s.refuse v 1, none)
  else match lw with
    | some g => match s.olderLink v i g with
      | none => (s, none)
      | some o =>
        if s.used v + n ≤ (s.viewRow v).credits + s.itemCells o.item then
          (s, some { view := v, link := { link with order := o.order, front := o.front }, old := some o.item })
        else (s.refuse v 1, none)
    | none =>
      if i.cls = 0 then (s.roomForAlarm v n, some { view := v, link := link, old := none })
      else if s.used v + n ≤ (s.viewRow v).credits then (s, some { view := v, link := link, old := none })
      else (s.refuse v 1, none)

/-- The views of a commit, in view order. -/
def State.admitAll (s : State) (i : Item) (want : BitVec 51) (engine : Bool) (lw : BitVec 51) (g : Option GovNo) :
    State × List Admission :=
  (List.finRange 52).foldl (fun (a : State × List Admission) v =>
    if (decide (v.val < 51) && want.getLsbD v.val) || (decide (v = viewEngine) && engine) then
      let got := a.1.letIn i v (if decide (v.val < 51) && lw.getLsbD v.val then g else none)
      let s := got.1
      let r := got.2
      (s, a.2 ++ r.toList)
    else a) (s, [])

/-- What a standby takes to be in flight on the duty in a port view (17 R537): what it took before while that stays queued,
else the first of its queue; an item that breaches it takes its place (log entry 162). -/
def State.shadow (s : State) (v : Fin 52) (i : Item) : State :=
  if s.pair.role = .standby ∧ v.val < 48 then
    let r := s.viewRow v
    let beats (j : Item) : Bool := r.breachOn && i.breach && decide (i.cls ≤ r.brClass) && decide (i.cls < j.cls)
    s.updView v fun w =>
      let first := w.queue.head?.map (·.item)
      { w with ahead := match w.ahead.bind s.item? with
        | some j =>
          if beats j then some i.id
          else if w.queue.any fun l => decide (l.item = j.id) then w.ahead
          else first
        | none => first }
  else s

/-- One link is made, in place of an older one where there is one; a port view notes an item that breaches. -/
def State.makeLink (s : State) (i : Item) (a : Admission) : State :=
  let s := match a.old with
    | some o => s.unlink a.view o
    | none => s
  let s := match viewPort a.view with
    | some p => if s.breaches p i then s.updTx p fun t => { t with breachers := t.breachers ++ [i.id] } else s
    | none => s
  let s := s.updView a.view fun w => { w with queue := insertLink a.link w.queue }
  s.shadow a.view i

/-- The Spillway keeps the item's group together: GROUP and 2 to 9 members (14 R422). -/
def Item.member (i : Item) : Option (GroupKey × Nat × Nat) :=
  if i.group then
    match i.groupOf with
    | some (k, x, y) => if y ≤ 9 then some (k, x, y) else none
    | none => none
  else none

/-- Members of abandoned groups that have reached the view are released unsent and counted (14 R424). -/
def State.dropAbandoned (s : State) (p : PortNo) : State :=
  let late := ((s.view (portView p)).queue.filterMap fun l => s.item? l.item).filter fun i =>
    match i.member with
    | some (k, x, _) => decide (x ≠ 1) && (s.port p).tx.abandoned.contains k
    | none => false
  late.foldl (fun s i => (s.refuse (portView p) 1).unlink (portView p) i.id) s

/-- The views of a commit let go of members of abandoned groups. -/
def State.dropLate (s : State) (l : List Admission) : State :=
  l.foldl (fun s a => match viewPort a.view with
    | some p => s.dropAbandoned p
    | none => s) s

/-- The mask of the admitted views (12 R372). -/
def maskOf (l : List Admission) : BitVec 51 :=
  l.foldl (fun m a => if a.view.val < 51 then m ||| BitVec.ofNat 51 (2 ^ a.view.val) else m) 0

/-- A standby matches a MIRROR record to an item (17 R523). -/
def recMatches (r : MirrorRec) (i : Item) : Bool :=
  decide (r.length.toNat = i.payload.length) && decide (r.crc = crc16 i.payload) &&
  (decide (r.source = i.source) || (decide (r.source = 0x41) && i.mask.getLsbD 50))

/-- An item linked into at least one port view. -/
def Item.onPort (i : Item) : Bool := decide (i.mask.toNat % 2 ^ 48 ≠ 0)

/-- The standby writes the duty's number into a matched item's w5 (17 R520, R523). -/
def State.matchItem (s : State) (id : Nat) (q : Word) : State :=
  match s.item? id with
  | none => s
  | some i => (s.updItem id fun i => { i with pairSeq := q, isMatched := true }).putWord
      (cellAt (i.cells.getD 0 0) + 20) q.toNat

/-- What a commit tells the peer, and what a record that waits makes of it (17 R522, R523). -/
def State.commitPair (s : State) (i : Item) : State :=
  if s.pair.role = .standby then
    if i.onPort && !i.isMatched then
      match s.pair.unmatched.find? fun r => recMatches r i with
      | some r => (s.setPair fun p => { p with unmatched := p.unmatched.erase r }).matchItem i.id r.pairSeq
      | none => s
    else s
  else if s.mirrors && i.onPort then
    (s.setPair fun p => { p with lastMirrored := i.pairSeq }).sendFrame (.mirror [mirrorOf i.pairSeq i.source i.payload])
  else s

/-! ### Readers (13 R395, R396) -/

/-- The item moves from the queue to the in-flight place. -/
def State.take (s : State) (v : Fin 52) (id : Nat) : State :=
  s.updView v fun w => { w with
    queue := w.queue.filter fun l => decide (l.item ≠ id)
    inFlight := w.inFlight ++ w.queue.filter fun l => decide (l.item = id) }

/-- The reader releases an item in flight. -/
def State.letGo (s : State) (v : Fin 52) (id : Nat) : State :=
  (s.updView v fun w => { w with inFlight := w.inFlight.filter fun l => decide (l.item ≠ id) }).release id

/-- The first item of a tap, none while the view is retired (14 R428). -/
def State.tapHead (s : State) (v : Fin 52) : Option Item :=
  if s.viewOpen v then ((s.view v).queue.head?).bind fun l => s.item? l.item else none

/-- The ITEM record of an item (17 Table - Pleach frame types). -/
def State.itemRec (s : State) (i : Item) : ItemRec :=
  { pairSeq := if s.pair.role = .standby then 0 else i.pairSeq, stamp := s.toPairTime i.stamp, source := i.source,
    flags := i.flags, cls := BitVec.ofNat 8 i.cls, payload := i.payload }

/-- Items of the PEER view enter the window while it is open; one longer than 240 bytes is released unsent and counted
(17 R528). -/
def State.pumpPeer : Nat → State → State
  | 0, s => s
  | n + 1, s =>
    if !(s.linkRuns && s.pair.linkUp && !s.pair.majorMismatch && s.pair.waiting.isEmpty) || decide (8 ≤ s.pair.unacked.length)
    then s
    else match s.tapHead viewPeer with
      | none => s
      | some i =>
        if 240 < i.payload.length then State.pumpPeer n ((s.unlink viewPeer i.id).refuse viewPeer 1)
        else State.pumpPeer n ((s.take viewPeer i.id).sendFrame (.item i.id (s.itemRec i)))

/-- Every item that may go. -/
def State.sendPeer (s : State) : State := State.pumpPeer (8 + (s.view viewPeer).queue.length) s

/-- Commits an item into the views it wants (13 R391): the count first, then header and links; nothing linked frees the
cells. `given` is a pair sequence number from the duty (17 R528). Answers whether a view took it. -/
def State.commit (s : State) (id : Nat) (want : BitVec 51) (engine : Bool) (lw : BitVec 51) (g : Option GovNo)
    (given : Option Word) : State × Bool :=
  match s.item? id with
  | none => (s, false)
  | some i =>
    let got := s.admitAll i want engine lw g
    let s := got.1
    let adm := got.2
    if adm.isEmpty then (s.dropItem id, false)
    else
      let numbers := s.pair.role = .duty || s.pair.role = .lone
      let seq : Word := match given with
        | some q => q
        | none => if numbers then s.pair.nextSeq else 0
      let s := if numbers then s.setPair fun p => { p with nextSeq := p.nextSeq + 1 } else s
      let i := { i with place := .committed, mask := maskOf adm, engine := adm.any fun a => decide (a.view = viewEngine),
                        pairSeq := seq, refs := adm.length, gov := g, isMatched := given.isSome }
      let s := (s.updItem id fun _ => i).putHeader i
      let s := adm.foldl (fun s a => s.makeLink i a) s
      (((s.commitPair i).dropLate adm).sendPeer, true)

/-! ### Lamp alarms (01 R22, 13 R384, R387, R398) -/

/-- An alarm in a cell of its own is committed into the views of its route. -/
def State.commitAlarm (s : State) (id : Nat) (mask : BitVec 51) : State :=
  ((s.updItem id fun i => { i with alarm := true, cls := 0, breach := true }).commit id mask false 0 none none).1

def State.queueAlarm (s : State) (w : AlarmWait) : State :=
  s.setSluice fun l => { l with alarmWaits := l.alarmWaits ++ [w] }

/-- Writes and commits a lamp alarm, its MASK read at the commit (16 R488); with FREE at 0 and nothing to evict it waits for
the first cell freed (13 R398), and what comes after waits behind it. -/
def State.placeAlarm (s : State) (w : AlarmWait) : State :=
  let flags := flDevice ||| flCkOk ||| (if w.injected then flInjected else 0)
  let s := if s.sluice.alarmWaits.isEmpty then s.poolEvict else s
  if s.sluice.alarmWaits.isEmpty then
    match s.newItem w.payload 0 0x40 w.stamp w.doubt flags true with
    | some (id, s) => s.commitAlarm id (s.routeMask w.route)
    | none => s.queueAlarm w
  else s.queueAlarm w

/-- Every queued item leaves a view and its group holds are released (13 R399); answers how many were queued. -/
def State.flushView (s : State) (v : Fin 52) : State × Nat :=
  let ids := (s.view v).queue.map (·.item)
  ((ids.foldl (fun s id => s.unlink v id) s).releaseHolds v, ids.length)

end Sys2Proof.Machine
end

