-- ==== Sys2Proof/Machine/Weir.lean ====
section
/-!
DEFINITION. The Sieve's choice of a rule and the Weir's decision (12), and the commit that follows.
-/
namespace Sys2Proof.Machine

/-! ### The Sieve (12 R355-R361) -/

/-- One ADDRPAT byte against one character (12 R356). -/
def patMatches (p c : Byte) : Bool := p = 0x3F || p = c

def patsMatch (ps cs : List Byte) : Bool := (ps.zip cs).all fun (p, c) => patMatches p c

/-- Every match field of an enabled rule (12 Table - Match fields). -/
def Rule.matches (r : Rule) (i : Item) : Bool :=
  let sent := i.sentence
  let a := addrField sent
  let prop := a.head? = some (chr 'P')
  let src := r.source = 0xFF ||
    ((decide (r.source ≤ 0x2F) || [0x40, 0x41, 0x42].contains r.source) && decide (i.source.toNat = r.source))
  let start := match r.start with
    | 0 => true
    | 1 => decide (sent.head? = some chDollar)
    | 2 => decide (sent.head? = some chBang)
    | _ => false
  let form := match r.form with
    | 0 => true
    | 1 => !prop && patsMatch r.addr a
    | 2 => prop && patsMatch ((r.addr.drop 1).take 3) ((a.drop 1).take 3)
    | _ => false
  let flaw := match r.flawSel with
    | 0 => true
    | 1 => !hasFlag i.flags flFlawed
    | 2 => hasFlag i.flags flFlawed
    | _ => false
  let tag := match r.tagSel with
    | 0 => true
    | 1 => !hasFlag i.flags flTag
    | 2 => hasFlag i.flags flTag
    | _ => false
  r.enabled && src && start && form && flaw && tag

/-- Row `n` of a bank. -/
def State.sieveRule (s : State) (bankB : Bool) (n : Nat) : Rule := ruleOf (s.memBytes (sieveRowAt bankB n) 16)

/-- The first rule from `n` on that matches, `k` rules being left before S511, which always does (12 R355). -/
def State.firstRule (s : State) (i : Item) : Nat → Nat → Nat
  | 0, _ => 511
  | k + 1, n => if (s.sieveRule s.sieve.bankB n).matches i then n else State.firstRule s i k (n + 1)

/-- The rule the active bank applies. -/
def State.ruleFor (s : State) (i : Item) : Nat := s.firstRule i 511 0

/-- A hit (12 R359). -/
def State.countHit (s : State) (n : Nat) : State :=
  s.setSieve fun v => { v with hits := upd v.hits (Fin.ofNat 512 n) fun k => satAdd top32 k 1 }

/-! ### Outcomes of a decision (08 R247) -/

def ocCommitted : Nat := 0
def ocSieve : Nat := 1
def ocWeir : Nat := 2
def ocDeferred : Nat := 3
def ocReplaced : Nat := 4

/-! ### The Weir (12 R369-R378) -/

/-- The listener views (12 R370: those R80 keeps from a class in TRIM are not governed). -/
def State.listenerMask (s : State) : BitVec 51 :=
  (List.finRange 48).foldl (fun m p =>
    if (s.port p).txc.tx = .listener then m ||| BitVec.ofNat 51 (2 ^ p.val) else m) 0

def State.governed (s : State) (w : WeirRow) (mask : BitVec 51) (cls : Nat) : BitVec 51 :=
  let m := if w.scope = 0 then mask else mask &&& w.scope
  if s.mode = .trim ∧ 4 ≤ cls then m &&& ~~~s.listenerMask else m

def State.gov (s : State) (g : GovNo) : Gov := s.govs.get g

/-- The deferred items of a governor, oldest first. -/
def State.queueOf (s : State) (g : GovNo) : List Item := s.sluice.items.filter fun i => decide (i.place = .deferred g)

/-- Member `x` is a later member of the group that the entry withholds; any other number is a new group's (12 R377). -/
def Withheld.covers (w : Withheld) (key : GroupKey) (x : Nat) : Bool := decide (w.key = key) && decide (w.member < x)

/-- A group's later members are withheld from `mask`, up to its last. -/
def State.withhold (s : State) (g : GovNo) (i : Item) (mask : BitVec 51) : State :=
  match i.groupOf with
  | none => s
  | some (key, x, y) =>
    if x < y ∧ mask ≠ 0 then
      s.updGov g fun v => { v with withheld := v.withheld ++ [{ key := key, member := x, mask := mask }] }
    else s

/-- What a member does to the entries of its group: a later one moves them on, the last one and a new group's end them. -/
def Gov.pastMember (v : Gov) (key : GroupKey) (x y : Nat) : Gov :=
  let left := v.withheld.filter fun w => decide (w.key ≠ key) || (w.covers key x && decide (x < y))
  { v with withheld := left.map fun w => if w.key = key then { w with member := x } else w }

/-- The views from which an item is withheld as a later member of a group, whatever its own rule names, and the entries
after it (12 R377). -/
def State.memberHeld (s : State) (i : Item) : BitVec 51 × State :=
  match i.groupOf with
  | none => (0, s)
  | some (key, x, y) =>
    let held := s.govs.toList.foldl (fun m v =>
      v.withheld.foldl (fun m w => if w.covers key x then m ||| w.mask else m) m) (0 : BitVec 51)
    (held, s.setGovs (s.govs.map fun v => v.pastMember key x y))

/-- Commits one deferred item, with the duty's number where it came from the peer (17 R528); a VOID one is discarded (13
R402). -/
def State.commitDeferred (s : State) (g : GovNo) (i : Item) : State :=
  if i.void then s.dropItem i.id
  else (s.commit i.id i.mask i.engine 0 (some g) (if i.isMatched then some i.pairSeq else none)).1

/-- Every queued item is committed without tokens, in arrival order (12 R378). -/
def State.releaseQueue (s : State) (g : GovNo) : State :=
  (s.queueOf g).foldl (fun s i => s.commitDeferred g i) s

/-- The queue of a governor that no longer defers is released (12 R378). -/
def State.releaseIfDue (s : State) (g : GovNo) : State :=
  let w := s.weirRow g
  if w.policy = .defer ∧ w.burst ≠ 0 then s else s.releaseQueue g

/-- The oldest deferred item is committed for 16 sixteenths; VOID ones before it go without a token (12 R376, 13 R402). -/
def State.drainOne (s : State) (g : GovNo) : State :=
  match s.queueOf g with
  | [] => s
  | i :: _ =>
    if i.void then s.dropItem i.id
    else if 16 ≤ (s.gov g).tokens then
      (s.updGov g fun v => { v with tokens := v.tokens - 16 }).commitDeferred g i
    else s

def State.drain : Nat → State → GovNo → State
  | 0, s, _ => s
  | n + 1, s, g => State.drain n (s.drainOne g) g

def State.countPass (s : State) (g : GovNo) : State := s.updGov g fun v => { v with passes := satAdd top32 v.passes 1 }
def State.countDrop (s : State) (g : GovNo) : State := s.updGov g fun v => { v with drops := satAdd top32 v.drops 1 }
def State.countReplace (s : State) (g : GovNo) : State :=
  s.updGov g fun v => { v with replaced := satAdd top32 v.replaced 1 }
def State.countDefer (s : State) (g : GovNo) : State :=
  s.updGov g fun v => { v with deferrals := satAdd top32 v.deferrals 1 }

/-- What a commit amounts to (08 R247): a view took the item, or the Weir left it none. -/
def outcomeOf (linked : Bool) (none_ : Nat) : Nat := if linked then ocCommitted else none_

/-- An item joins a DEFER queue, or is dropped where the queue is full (12 R376). -/
def State.enqueue (s : State) (g : GovNo) (i : Item) (mask : BitVec 51) (engine : Bool)
    (given : Option Word) : State × Nat :=
  if (s.weirRow g).depth < (s.queueOf g).length + 1 ∨ 512 < s.deferredCount + 1 then
    (((s.withhold g i mask).countDrop g).dropItem i.id, ocWeir)
  else
    let i := { i with place := .deferred g, mask := mask, engine := engine, gov := some g, pairSeq := given.getD 0
                      isMatched := given.isSome }
    ((s.setSluice fun l => { l with items := (l.items.filter fun j => decide (j.id ≠ i.id)) ++ [i] }).countDefer g,
      ocDeferred)

/-- The governor's decision on an item that its rule sends to it (12 R368, R370-R377, R684); `held` are the views of R377,
which `mask` no longer names. A member withheld there takes no token and counts as a drop. -/
def State.govern (s : State) (g : GovNo) (i : Item) (mask held : BitVec 51) (engine : Bool) (given : Option Word) :
    State × Nat :=
  let s := s.releaseIfDue g
  let w := s.weirRow g
  if w.burst = 0 then
    let got := s.commit i.id mask engine 0 none given
    let s := got.1
    let ok := got.2
    (s, outcomeOf ok (if held = 0 then ocCommitted else ocWeir))
  else
    let s := State.drain (s.queueOf g).length s g
    let dest := s.governed w mask i.cls
    let free := mask &&& ~~~dest
    if held ≠ 0 then
      let got := (s.countDrop g).commit i.id mask engine 0 (some g) given
      let s := got.1
      let ok := got.2
      (s, outcomeOf ok ocWeir)
    else if dest = 0 then
      let got := (s.countPass g).commit i.id free engine 0 (some g) given
      let s := got.1
      let ok := got.2
      (s, outcomeOf ok ocCommitted)
    else if w.policy = .defer ∧ s.queueOf g ≠ [] then s.enqueue g i mask engine given
    else if 16 ≤ (s.gov g).tokens then
      let s := (s.updGov g fun v => { v with tokens := v.tokens - 16 }).countPass g
      let got := s.commit i.id mask engine 0 (some g) given
      let s := got.1
      let ok := got.2
      (s, outcomeOf ok ocCommitted)
    else match w.policy with
      | .defer => s.enqueue g i mask engine given
      | .latestWins =>
        if i.groupOf = none then
          let got := s.commit i.id mask engine dest (some g) given
          let s := got.1
          let ok := got.2
          let took := match s.item? i.id with
            | some j => decide (j.mask &&& dest ≠ 0)
            | none => false
          if took then (s.countReplace g, ocReplaced) else (s.countDrop g, outcomeOf ok ocWeir)
        else
          let got := ((s.withhold g i dest).countDrop g).commit i.id free engine 0 (some g) given
          let s := got.1
          let ok := got.2
          (s, outcomeOf ok ocWeir)
      | .dropNewest =>
        let got := ((s.withhold g i dest).countDrop g).commit i.id free engine 0 (some g) given
        let s := got.1
        let ok := got.2
        (s, outcomeOf ok ocWeir)

/-- The whole decision on an ended item (12 R355-R361): rule, hit, Weir, commit. Answers the rule and the outcome. -/
def State.decideItem (s : State) (id : Nat) (given : Option Word) : State × Nat × Nat :=
  match s.item? id with
  | none => (s, 0, ocSieve)
  | some i =>
    let n := s.ruleFor i
    let r := s.sieveRule s.sieve.bankB n
    let s := s.countHit n
    if r.drop || (decide (r.mask = 0) && !r.engine) then (s.dropItem id, n, ocSieve)
    else
      let i := { i with cls := max 1 r.cls, rule := n, breach := r.breach, group := r.group,
                        stampAct := BitVec.ofNat 2 r.stamp }
      let s := s.updItem id fun _ => i
      let past := s.memberHeld i
      let held := past.1 &&& r.mask
      let s := past.2
      let mask := r.mask &&& ~~~held
      if r.weirOn then
        let got := s.govern r.weir i mask held r.engine given
        let s := got.1
        let oc := got.2
        (s, n, oc)
      else
        let got := s.commit id mask r.engine 0 none given
        let s := got.1
        let ok := got.2
        (s, n, outcomeOf ok (if held = 0 then ocCommitted else ocWeir))

/-- Every item that has ended is decided, before a commit changes the bank (08 R242). -/
def State.decideEnded (s : State) : State :=
  if s.roadRuns then
    (s.sluice.items.filter fun i => decide (i.place = .ended)).foldl (fun s i => (s.decideItem i.id none).1) s
  else s

/-- A sixteenth of a token, in every mode (12 R369); the row's change of policy is found here while the road runs (12
R378). -/
def State.refill (s : State) (g : GovNo) : State :=
  let s := if s.roadRuns then s.releaseIfDue g else s
  let w := s.weirRow g
  if w.rate = 0 then s else s.updGov g fun v => { v with tokens := min w.full (v.tokens + 1) }

/-- A device sentence that is no lamp alarm (11 R345): an ended item of source 0x40, dropped where no cell is to be had
(13 R388). -/
def State.makeDevice (s : State) (text : List Byte) : State :=
  match s.newItem text 0 0x40 s.now s.doubtNow (flDevice ||| flCkOk) false with
  | some (_, s) => s
  | none => s.countNoCell

end Sys2Proof.Machine
end

