-- ==== Sys2Proof/Machine/Silt.lean ====
section
/-!
DEFINITION. Records and events: the configuration digest (08 R232), the making and accepting of journal records (18
R546-R557, R570-R572), and the port, head, device and pair events with their bells, sentences and records (11 R349).
-/
namespace Sys2Proof.Machine

/-! ### The configuration digest (08 R232, R233) -/

/-- The settings block (08 Table - Settings block). -/
def Settings.block (t : Settings) : List Byte :=
  BitVec.ofNat 8 t.designated.length :: 0 ::
    ((t.designated.map fun p => BitVec.ofNat 8 p.val) ++ List.replicate (8 - t.designated.length) 0xFF) ++
    [t.alrTalker0, t.alrTalker1] ++ leBytes 2 t.alrRepeat.toNat ++ leBytes 2 t.heartbeat.toNat ++
    leBytes 2 t.hostWatch.toNat ++ leBytes 2 t.takeover.toNat ++ [if t.mgmtFast then 1 else 0, 0, 0, 0] ++
    (t.scan.toList.map fun e => leBytes 8 e.toNat).flatten

/-- The bytes the digest is taken over; maintained fields stand as 0 in `mem`. -/
def State.digestBytes (s : State) : List Byte :=
  s.memBytes (portRowAt 0) 1536 ++ s.memBytes (sieveRowAt s.sieve.bankB 0) 8192 ++ s.memBytes (weirRowAt 0) 4096 ++
  s.memBytes (viewRowAt 0) 832 ++ s.memBytes (busRowAt 0) 128 ++ s.memBytes (headRowAt 0 0) 1920 ++
  s.memBytes (lampRowAt 0) 4096 ++ s.memBytes (routeRowAt 0) 64 ++ s.settings.block

/-- A configuration change of the instant `t` (00 R8, 08 DIGEST). -/
def State.noteChange (s : State) (t : Stamp) : State :=
  s.setSettings fun g => { g with lastChange := t, changes := g.changes + 1 }

/-- The digest recomputed by the engine (08 R233); while that is down, the last one it gave stands (17 R514). -/
def State.newDigest (s : State) : State :=
  if s.engine.up then s.setSettings fun t => { t with digest := crc32 s.digestBytes } else s

/-! ### Records (18) -/

/-- Record kinds (18 Table - Record kinds). -/
def kSentence : Byte := 0x01
def kLamp : Byte := 0x02
def kEvent : Byte := 0x03
def kHeadJoin : Byte := 0x04
def kConfig : Byte := 0x05
def kPair : Byte := 0x06
def kTimeMark : Byte := 0x07
def kLoss : Byte := 0x08
def kText : Byte := 0x09
def kHostDrain : Byte := 0x0A
def kBoot : Byte := 0x0B
def kMedia : Byte := 0x0C

/-- Bytes with zeros to a multiple of 4. -/
def pad4 (bs : List Byte) : List Byte := bs ++ List.replicate ((4 - bs.length % 4) % 4) 0

/-- A record's bytes (18 Table - Record header). -/
def Rec.bytes (r : Rec) : List Byte :=
  [r.kind, r.flags] ++ leBytes 2 r.body.length ++ leBytes 2 r.boot.toNat ++ leBytes 6 r.stamp.toNat ++
    leBytes 4 r.seq.toNat ++ pad4 r.body

def recFlags (injected doubt : Bool) : Byte := BitVec.ofNat 8 (flag injected 0 + flag doubt 1)

/-- Bytes of records that a page holds (18 R550). -/
def Nand.room (n : Nand) : Nat := n.geom.pageSize - 36

/-- Bytes of records in a page. -/
def Page.used (p : Page) : Nat := sumOf (fun r => r.bytes.length) p.records

/-- The sequence number after `q`, 0 skipped (18 R552). -/
def nextRecSeq (q : Word) : Word := if q = 0xFFFFFFFF then 1 else q + 1

/-- The staging pages not in use; page 15 holds the records of R571 while there are any (18 R552, R571). -/
def Journal.freePages (j : Journal) : List Nat :=
  (List.range (if j.held.isEmpty then 16 else 15)).filter fun k =>
    (match j.staging with
      | some (o, _) => decide (o ≠ k)
      | none => true) && j.closed.all fun c => decide (c.staging ≠ k)

/-- The open page is closed (18 R553); `early` for every cause but a record that does not fit. -/
def Journal.close (j : Journal) (early : Bool) : Journal :=
  match j.staging with
  | none => j
  | some (k, p) =>
    let c : Closing := { staging := k, page := { p with early := early }, fails := 0, movedFrom := none }
    { j with staging := none, closed := j.closed ++ [c] }

/-- The open page, where a record of `n` bytes fits in it or in one that can be opened (18 R552, R553). -/
def Journal.openFor (j : Journal) (room n : Nat) (boot : Half) : Option (Journal × Nat × Page) :=
  let fresh (j : Journal) : Option (Journal × Nat × Page) :=
    match j.freePages.head? with
    | some k => some (j, k, { boot := boot, records := [], serial := 0, relocated := false, early := false })
    | none => none
  match j.staging with
  | some (k, p) => if p.used + n ≤ room then some (j, k, p) else fresh (j.close false)
  | none => fresh j

/-- No staging page can take the record (18 R557). -/
def Journal.full (j : Journal) (r : Rec) : Bool :=
  match j.nand with
  | some n => (j.openFor n.room r.bytes.length j.boot).isNone
  | none => true

/-- The journal runs: mounted, state 0, in a mode in which Silt runs (18 R570). -/
def State.siltRuns (s : State) : Bool := s.roadRuns && s.journal.mounted && decide (s.journal.state = 0)

/-- A record is accepted: written whole into the open page with the next SEQ (18 R552); none where no page is free. -/
def Journal.accept (j : Journal) (r : Rec) : Option Journal :=
  match j.nand with
  | none => none
  | some n =>
    let r := { r with boot := if r.boot = 0 then j.boot else r.boot, seq := j.nextSeq }
    match j.openFor n.room r.bytes.length r.boot with
    | none => none
    | some (j, k, p) => some { j with
        staging := some (k, { p with records := p.records ++ [r] })
        accepted := r.seq, nextSeq := nextRecSeq r.seq }

/-- A CONFIG record made where the journal is stopped is written once it runs again (03 R70; for the sessions of 04 R141
and 19 R605 DEDUCED, log entry 142). -/
def State.oweRecord (s : State) (r : Rec) : State := s.setJournal fun j => { j with owed := j.owed ++ [r] }

/-- A record waits to be accepted, is held in PROVE, is owed, or is discarded, by mode and journal state (18 R557,
R570-R572). -/
def State.keepRecord (s : State) (kind : Byte) (flags : Byte) (stamp : Stamp) (body : List Byte) : State :=
  let r : Rec := { kind := kind, flags := flags, boot := 0, stamp := stamp, seq := 0, body := body }
  if s.mode.stopped || decide (s.mode = .doze) || s.holding then (if kind = kConfig then s.oweRecord r else s)
  else if s.mode = .prove then
    s.setJournal fun j =>
      if j.held.length < 128 then { j with held := j.held ++ [r] } else { j with heldDropped := j.heldDropped + 1 }
  else if s.journal.mounted && decide (s.journal.state ≠ 0) then s
  else if decide (64 ≤ s.journal.waiting.length) && s.journal.full r then
    s.setJournal fun j => { j with dropped := j.dropped + 1, eventsDropped := satAdd top32 j.eventsDropped 1 }
  else s.setJournal fun j => { j with waiting := j.waiting ++ [r] }

/-- A record the engine makes (18 R547); it makes none while it is down. -/
def State.record (s : State) (kind : Byte) (flags : Byte) (stamp : Stamp) (body : List Byte) : State :=
  if s.engine.up then s.keepRecord kind flags stamp body else s

/-- The body of a CONFIG record (18 Table - Record kinds). Words written is a 16-bit field: a session of more words gives
their number modulo 65,536 (DESIGN CHOICE, log entry 154). -/
def configBody (window origin code pages : Nat) (broken : Bool) (words : Nat) (digest : Word) : List Byte :=
  leBytes 1 window ++ leBytes 1 origin ++ leBytes 2 code ++ leBytes 1 pages ++ leBytes 1 (flag broken 0) ++
    leBytes 2 words ++ leBytes 4 digest.toNat

/-- A change command that completes with 0x0000 (08 R230, R233): the digest, then its CONFIG record. -/
def State.configChange (s : State) (c : Chan) (code : Nat) : State :=
  let s := (s.noteChange s.now).newDigest
  s.record kConfig (recFlags false s.doubtNow) s.now
    (configBody (windowCode (chanWindow c)) 0 code 0 false 0 s.settings.digest)

/-- A time mark record (18 Table - Record kinds). -/
def State.timeMark (s : State) (cause : Nat) (t : Stamp) : State :=
  let utc := match s.settings.epoch with
    | some e => leBytes 4 (utcSeconds e t) ++ leBytes 4 (utcFraction e t)
    | none => leBytes 8 0
  s.record kTimeMark (recFlags false s.doubtNow) t
    (leBytes 1 cause ++ leBytes 1 (flag s.settings.epoch.isSome 0) ++ leBytes 2 0 ++ utc)

/-- A LOSS record's body. -/
def lossBody (first last : Word) (dropped cause : Nat) : List Byte :=
  leBytes 4 first.toNat ++ leBytes 4 last.toNat ++ leBytes 2 dropped ++ leBytes 1 cause ++ leBytes 1 0

/-! ### Events (11 R349, 06 R194, 08 R240) -/

/-- Event codes (18 Table - Event codes). -/
def evStuck : Nat := 0x01
def evRearmed : Nat := 0x02
def evSilent : Nat := 0x03
def evActive : Nat := 0x04
def evAmpLow : Nat := 0x05
def evAmpOk : Nat := 0x06
def evOwnLow : Nat := 0x07
def evOwnOk : Nat := 0x08
def evDriverHot : Nat := 0x09
def evDriverOk : Nat := 0x0A
def evHeadSilent : Nat := 0x10
def evHeadBlind : Nat := 0x11
def evHeadBack : Nat := 0x12
def evTallyLost : Nat := 0x20
def evTallyBack : Nat := 0x21
def evVanaLost : Nat := 0x22
def evVanaBack : Nat := 0x23
def evHostSilent : Nat := 0x24
def evPaceLow : Nat := 0x25
def evPaceOk : Nat := 0x26
def evEngineRestart : Nat := 0x27
def evPairDuty : Nat := 0x28

/-- The event words (11 Table - PVYSP events). -/
def eventWord (code : Nat) : List Byte :=
  match code with
  | 0x01 => ascii "STUCK" | 0x02 => ascii "REARMED" | 0x03 => ascii "SILENT" | 0x04 => ascii "ACTIVE"
  | 0x05 => ascii "AMP-LOW" | 0x06 => ascii "AMP-OK" | 0x07 => ascii "OWN-LOW" | 0x08 => ascii "OWN-OK"
  | 0x09 => ascii "DRIVER-HOT" | 0x0A => ascii "DRIVER-OK" | 0x10 => ascii "HEAD-SILENT"
  | 0x11 => ascii "HEAD-BLIND" | 0x12 => ascii "HEAD-BACK" | 0x20 => ascii "TALLY-LOST" | 0x21 => ascii "TALLY-BACK"
  | 0x22 => ascii "VANA-LOST" | 0x23 => ascii "VANA-BACK" | 0x24 => ascii "HOST-SILENT" | 0x25 => ascii "PACE-LOW"
  | 0x26 => ascii "PACE-OK" | 0x27 => ascii "ENGINE-RESTART" | _ => ascii "PAIR-DUTY"

/-- The $PVYSP and the EVENT record of an event; the sentence needs a road that runs (02 R54). -/
def State.tellEvent (s : State) (source : List Byte) (port head code : Nat) (value : Option Nat) : State :=
  let s := if s.engineWorks then s.makeDevice (s.pvyspText source (eventWord code) value) else s
  s.record kEvent (recFlags false s.doubtNow) s.now
    (leBytes 1 port ++ leBytes 1 head ++ leBytes 2 code ++ leBytes 2 (value.getD 0) ++ leBytes 2 0)

/-- The state with the event told by the engine, or kept until the return from DOZE. -/
def State.tellOrKeep (s : State) (bell : Nat) (source : List Byte) (port head code : Nat) (value : Option Nat) : State :=
  if s.mode = .doze then s
  else if s.engine.up then (s.ring bell).tellEvent source port head code value
  else s

/-- A port event (doorbell 2): EVENTS shows the port (08 R240). In DOZE the rest follows after the return. -/
def State.portEvent (s : State) (p : PortNo) (code : Nat) (value : Option Nat) : State :=
  let s := s.setSettings fun t => { t with portFlags := t.portFlags ||| BitVec.ofNat 48 (2 ^ p.val) }
  if s.mode = .doze then s.setDozeEvents (s.dozeEvents ++ [(p.val, 0, code, value.getD 0)])
  else s.tellOrKeep bellPort (portName p.val) p.val 0 code value

/-- A device event (doorbell 2), with its EVENTS flag where it has one (08 R240). -/
def State.deviceEvent (s : State) (code : Nat) (value : Option Nat) : State :=
  let bit : Nat := if code = evTallyLost then 1 else if code = evTallyBack then 2 else if code = evHostSilent then 4
    else if code = evPaceLow then 8 else 0
  let s := s.setSettings fun t => { t with devFlags := t.devFlags ||| BitVec.ofNat 4 bit }
  if s.mode = .doze then s.setDozeEvents (s.dozeEvents ++ [(0xFF, 0, code, value.getD 0)])
  else s.tellOrKeep bellPort (ascii "DEV") 0xFF 0 code value

/-- A head event (doorbell 3). -/
def State.headEvent (s : State) (b : BusNo) (h : HeadNo) (code : Nat) : State :=
  let port := match s.busPort b with
    | some p => p.val
    | none => 0xFF
  s.tellOrKeep bellHedge (s.headName b (h.val + 1)) port (h.val + 1) code none

/-- The events kept in DOZE are told (09 "The line falls to space while the GX-48 dozes"). -/
def State.tellDozeEvents (s : State) : State :=
  s.dozeEvents.foldl (fun s (e : Nat × Nat × Nat × Nat) =>
    let port := e.1
    let head := e.2.1
    let code := e.2.2.1
    let value := e.2.2.2
    let source := if port = 0xFF then ascii "DEV" else portName port
    let given := [evAmpLow, evAmpOk, evOwnLow, evOwnOk, evPaceLow, evPaceOk, evEngineRestart].contains code
    s.tellOrKeep bellPort source port head code (if given then some value else none)) (s.setDozeEvents [])

/-- The PAIR record of a ring of doorbell 4 (18 Table - Record kinds). -/
def State.pairRecord (s : State) : State :=
  s.record kPair (recFlags false s.doubtNow) s.now
    (leBytes 2 s.pairStat.toNat ++ leBytes 2 0 ++ leBytes 4 ((BitVec.ofInt 32 s.pair.skew).toNat) ++
      leBytes 4 s.pair.lastMirrored.toNat)

/-- A pair role, link or disagreement flag changes (06 doorbell 4): the bell and its record. -/
def State.pairBell (s : State) : State := (s.ring bellPair).pairRecord

/-- The bells that an engine restart held back ring, doorbell 4 with its record. -/
def State.tellOwed (s : State) : State :=
  let pair := s.engine.owedBells.getLsbD bellPair
  if pair then s.ringOwed.pairRecord else s.ringOwed

/-- A SUPPLY event bit is set (05 R167, 06 doorbell 10). -/
def State.supplyEvent (s : State) (bit : Nat) : State :=
  ((s.setPower fun p => { p with supplyEvents := p.supplyEvents ||| BitVec.ofNat 4 (2 ^ bit) }).raise .ctl .supply).ring
    bellSupply

end Sys2Proof.Machine
end

