-- ==== Sys2Proof/Machine/Alarm.lean ====
section
/-!
DEFINITION. The lamp road's acts (16): a change of a lamp's condition with its $--ALR, $PVYSL, record, tag event and bell
in the order of R495, the acknowledgement, the repetition, and the starting states.
-/
namespace Sys2Proof.Machine

def State.lamp (s : State) (l : LampNo) : Lamp := s.lamps.get l

/-- The LAMP record of a change, and the lamp event region B lists (18 Table - Record kinds, 19 Table - Lamp event). -/
def State.lampRecord (s : State) (l : LampNo) (before after : Lamp) (t : Stamp) : State :=
  let s := s.record kLamp (recFlags after.injected s.doubtNow) t
    (leBytes 2 l.val ++ leBytes 2 0 ++ leBytes 4 (lampWord before).toNat ++ leBytes 4 (lampWord after).toNat)
  let e : LampEvent := { lamp := l.val, before := before.state.setWidth 8, after := after.state.setWidth 8,
                         alarm := BitVec.ofNat 16 (lampAlarmNo after.row),
                         flags := BitVec.ofNat 8 (flag after.acked 0 + flag after.injected 1), stamp := t,
                         boot := s.journal.boot }
  s.setTag fun g => { g with events := (e :: g.events).take 32, eventsMade := g.eventsMade + 1 }

/-- A $--ALR of a lamp row for the engine to commit to its route (16 R488, R495), and the change that waits with it. -/
def State.makeAlr (s : State) (row : Word) (st : BitVec 3) (acked injected : Bool) (t : Stamp) (move : Option LampMove) :
    State :=
  s.placeAlarm { payload := s.alrText row st acked t, stamp := s.now, doubt := s.doubtNow, route := lampRoute row,
                 injected := injected, move := move }

/-! ### The two lamps a GX-48 head reports (15 R485, R460) -/

/-- Lamp 1 and lamp 2 of a port acting as a head. -/
def State.headLamps (s : State) : Byte × Byte :=
  let dark := s.lampCount fun l => l.active && (decide (l.state = stDark) || decide (l.state = stUnconfirmed))
  (if 0 < dark then 1 else if 0 < s.alarmCount then 2 else 0,
    if s.engine.up && !s.power.paceLow && decide (s.power.audit = 0) then 0 else 5)

/-- A change of either sets attention pending on every port acting as a head. -/
def State.headNotice (s : State) : State :=
  let a := s.headLamps.1
  let b := s.headLamps.2
  s.mapPorts fun q =>
      if q.rx.rx = .head ∧ (q.head.lamp1 ≠ a ∨ q.head.lamp2 ≠ b) then
        { q with head := { q.head with attention := true, lamp1 := a, lamp2 := b } }
      else q

/-- The fields of a lamp that step 3 of 16 R495 writes. -/
def Lamp.take (p a : Lamp) : Lamp :=
  { p with state := a.state, acked := a.acked, held := a.held, injected := a.injected, changed := a.changed }

/-- The lamp as it will be once every change that waits behind an alarm has been made (13 R398, log entry 152). -/
def State.lampAhead (s : State) (l : LampNo) : Lamp :=
  let p := s.lamp l
  match (s.sluice.alarmWaits.filterMap (·.move)).reverse.find? fun m =>
      decide (m.lamp = l) && m.writes && sameLamp m.after.row p.row with
  | some m => p.take m.after
  | none => p

/-- Steps 2 to 4 of 16 R495: the $PVYSL, the row, doorbell 1, with the change's record and tag event. A row that names
another lamp by now is left as it is. -/
def State.finishMove (s : State) (m : LampMove) : State :=
  let s := if m.writes then
      ((s.makeDevice (s.pvyslText m.after.row m.after.state m.after.report m.time)).updLamp m.lamp fun p =>
        if sameLamp p.row m.after.row then p.take m.after else p).headNotice
    else s
  let s := if lampWord m.before ≠ lampWord m.after then s.sendLamp m.lamp else s
  (s.ring bellLamp).lampRecord m.lamp m.before m.after m.time

/-- The later steps of a change, which wait while an alarm waits for its cell (13 R398). -/
def State.afterAlarm (s : State) (m : LampMove) : State :=
  if s.sluice.alarmWaits.isEmpty then s.finishMove m else s

/-- A change of a lamp's condition, in the order of 16 R495. `f` gives the new lamp; `force` marks a change of condition
that leaves STATE as it is (R499). -/
def State.changeLamp (s : State) (l : LampNo) (f : Lamp → Lamp) (t : Stamp) (force : Bool) : State :=
  let before := s.lampAhead l
  let raw := f before
  let moved := force || decide (before.state ≠ raw.state)
  let alr := (raw.active && (!before.active || moved)) || (before.active && !raw.active)
  if moved || alr then
    let after := { raw with acked := raw.acked && !alr, changed := t }
    let m : LampMove := { lamp := l, before := before, after := after, time := t, writes := true }
    let s := s.updLamp l fun p => (f p).take p
    let s := if alr then s.makeAlr after.row after.state after.acked after.injected t (some m)
      else if s.sluice.alarmWaits.isEmpty then s
      else s.queueAlarm { payload := [], stamp := s.now, doubt := false, route := 0, injected := false, move := some m }
    s.afterAlarm m
  else
    let p := s.lamp l
    let q := { f p with state := p.state }
    let s := (s.updLamp l fun _ => q).headNotice
    if lampWord p ≠ lampWord q then s.sendLamp l else s

/-- An active alarm is acknowledged (16 R498). -/
def State.ackLamp (s : State) (l : LampNo) : State :=
  let before := s.lamp l
  let after := { before with acked := true, changed := s.now }
  let m : LampMove := { lamp := l, before := before, after := after, time := s.now, writes := false }
  let s := s.updLamp l fun _ => after
  (s.makeAlr after.row after.state true after.injected s.now (some m)).afterAlarm m

/-- Changes that waited behind an alarm, up to the next one that needs a cell. -/
def State.finishQuiet : Nat → State → State
  | 0, s => s
  | n + 1, s =>
    match s.sluice.alarmWaits with
    | [] => s
    | w :: rest =>
      if !w.payload.isEmpty then s
      else
        let s := s.setSluice fun l => { l with alarmWaits := rest }
        State.finishQuiet n (match w.move with
          | some m => s.finishMove m
          | none => s)

/-- The oldest alarm that waits takes a freed cell and is committed, and its change goes on (13 R398, 16 R495). -/
def State.placeWaiting (s : State) : State :=
  match s.sluice.alarmWaits with
  | [] => s
  | w :: rest =>
    let flags := flDevice ||| flCkOk ||| (if w.injected then flInjected else 0)
    match s.newItem w.payload 0 0x40 w.stamp w.doubt flags true with
    | some (id, s) =>
      let s := (s.setSluice fun l => { l with alarmWaits := rest }).commitAlarm id (s.routeMask w.route)
      let s := match w.move with
        | some m => s.finishMove m
        | none => s
      s.finishQuiet rest.length
    | none => s

/-- The $--ALR again, for the same instant (16 R497). -/
def State.repeatAlr (s : State) (l : LampNo) : State :=
  let p := s.lamp l
  s.makeAlr p.row p.state p.acked p.injected p.changed none

/-- An active alarm of a row that is made unused or moved ends, naming the old lamp, with state word RETIRED
(16 R490). -/
def State.endAlarm (s : State) (l : LampNo) : State :=
  if (s.lamp l).active then s.changeLamp l (fun p => { p with state := stRetired }) s.now false else s

/-- UNCONFIRMED with its alarm held for one confirm interval: a starting state (02 R61, 03 R93, 16 R490). -/
def Lamp.start (p : Lamp) : Lamp :=
  { p with state := stUnconfirmed, held := true, acked := false, injected := false, testRuns := false, offRuns := false }

/-- A lamp row comes into force (16 R490, R681): a row that keeps its lamp keeps its state; any other used row starts
anew, its old alarm ended. -/
def State.takeLampRow (s : State) (l : LampNo) (row : Word) : State :=
  let p := s.lamp l
  let row := BitVec.ofNat 32 (row.toNat / 64 * 64)
  if sameLamp p.row row && lampUsed p.row then s.updLamp l fun p => { p with row := row }
  else
    let s := if lampUsed p.row then s.endAlarm l else s
    let n : Lamp := if lampUsed row then { Lamp.reset.start with row := row } else { Lamp.reset with row := row }
    let moved := lampUsed row && decide (n.state ≠ p.state)
    let s := s.updLamp l fun _ => n
    let s := if moved then s.ring bellLamp else s
    if lampUsed row || lampUsed p.row then s.sendLamp l else s

/-- Every lamp row that was written comes into force (16 R490); those that a lock still covers wait for the end of its
session (R681). -/
def State.takeLampRows (s : State) : State :=
  s.eachLamp fun s l =>
    let w := s.memField (lampRowAt l.val) 4 / 64 * 64
    if (s.lamp l).row.toNat = w ∨ s.culvert.locks (lampRowAt l.val) = true then s else s.takeLampRow l (BitVec.ofNat 32 w)

end Sys2Proof.Machine
end

