-- ==== Sys2Proof/Machine/Fabric.lean ====
section
/-!
DEFINITION. The fabric as a reader sees it (01 R25): the listed bytes with the fields that the GX-48 maintains laid over
them (04 R130, R680), the staging pages (18 R550), the firmware data region, whose bytes are free values (01
R34), and which bits of a byte a host write may change.
-/
namespace Sys2Proof.Machine

/-- One byte of a number, by its place. -/
def nthByte (v k : Nat) : Byte := BitVec.ofNat 8 (v / 256 ^ k)

/-! ### Maintained fields -/

/-- CONDITION of a port (10 Table - Port row). -/
def State.condition (s : State) (p : PortNo) : Nat :=
  let q := s.port p
  flag q.stuck 0 + flag q.rxRetired 1 + flag (s.view (portView p)).retired 2 + flag q.parked 3 + flag q.wokeSeen 4 +
    flag q.silent 5 + flag q.hunting 6 + flag q.rts 7

/-- Bytes 16 to 31 of a port row. -/
def State.portTail (s : State) (p : PortNo) : List Byte :=
  let q := s.port p
  leBytes 4 (if q.hunting then 0 else q.rateNow) ++ leBytes 1 q.fifo.length ++ leBytes 1 (s.condition p) ++
    leBytes 2 q.frameRun ++ leBytes 8 0

/-- The Sieve status block (12 R353). -/
def State.sieveStatus (s : State) : List Byte :=
  leBytes 2 (flag s.sieve.bankB 0) ++ leBytes 2 0 ++ leBytes 4 s.sieve.activeCrc.toNat ++ leBytes 8 0

/-- Bytes 4 to 15 of a view row. -/
def State.viewTail (s : State) (v : Fin 52) : List Byte :=
  let w := s.view v
  leBytes 2 (s.used v) ++ leBytes 2 (s.viewItems v).length ++ leBytes 4 w.refusals ++ leBytes 4 w.evictions

/-- RETIRED and PARKED in byte 1 of a view row. -/
def State.viewFlags (s : State) (v : Fin 52) : Nat := flag (s.view v).retired 2 + flag (s.view v).parked 1

/-- The Sluice status block (13 R404). -/
def State.sluiceStatus (s : State) : List Byte :=
  leBytes 2 s.freeCount ++ leBytes 2 s.reservedCount ++ leBytes 2 s.heldCount ++ leBytes 2 s.voidedCount ++
    leBytes 2 s.class0Count ++ leBytes 2 (min s.freeCount 128) ++ leBytes 2 s.inFlightCount ++
    leBytes 2 s.deferredCount ++ leBytes 4 s.sluice.noCell ++ leBytes 4 s.sluice.poolEvict ++ leBytes 8 0

/-- Bytes 4 to 7 of a head row (15 Table - Head row). -/
def Head.tail (h : Head) : List Byte :=
  leBytes 2 (h.state.toNat * 2 ^ 13 + flag h.toggle 12 + h.lampsSeen.toNat * 2 ^ 10 + flag h.attn 9 +
    flag h.mismatch 8 + h.fails.toNat) ++ leBytes 2 h.makerSeen.toNat

def BusState.code : BusState → Nat
  | .stopped => 0 | .joining => 1 | .polling => 2 | .asleep => 3 | .blind => 4

/-- Bytes 6 to 15 of a bus row (15 Table - Bus row). -/
def Bus.tail (b : Bus) : List Byte :=
  leBytes 2 (b.state.code * 2 ^ 13 + b.probe.toNat) ++ leBytes 2 b.collides ++ leBytes 2 b.attentions ++
    leBytes 2 b.strangers ++ leBytes 2 b.sleepAborts

/-- VALID of a port's amplitude block (09 R273). -/
def State.ampValid (s : State) (p : PortNo) : Bool :=
  let q := s.port p
  !q.rx.bypass && s.power.vanaGood && !s.power.orderFault && s.roadRuns && decide (16 ≤ q.amp.seen)

/-- A hedge port may drive its bus now: a frame, a pulse or a probe (02 R42, 09 R284). -/
def State.mayDrive (s : State) (p : PortNo) : Bool :=
  let q := s.port p
  s.roadRuns && s.power.vanaSettled && decide (q.txc.tx = .hedge) && !q.hot && decide (q.loop ≠ .internal)

/-- A port's amplitude block (09 R272). -/
def State.ampBlock (s : State) (p : PortNo) : List Byte :=
  let a := (s.port p).amp
  [a.last, a.mean, a.min, a.max, a.own, a.steps] ++
    leBytes 2 (flag (s.ampValid p) 15 + flag a.low 14 + flag a.ownLow 13)

/-- A journal page's `P` bytes (18 R550). -/
def Page.bytes (p : Page) (size erases : Nat) : List Byte :=
  let recs := (p.records.map Rec.bytes).flatten
  let first := match p.records.head? with
    | some r => r.seq.toNat
    | none => 0
  let head := [0x53, 0x49, 0x4C, 0x54] ++ leBytes 2 p.boot.toNat ++ leBytes 2 p.records.length ++ leBytes 4 first ++
    leBytes 4 p.serial ++ leBytes 2 recs.length ++ leBytes 2 (flag p.relocated 0 + flag p.early 1) ++
    leBytes 4 erases ++ leBytes 8 0
  let body := (head ++ recs ++ List.replicate (size - 4 - 32 - recs.length) 0).take (size - 4)
  body ++ leBytes 4 (crc32 body).toNat

/-- The staging page `k`, nothing where it is free (log entry 2); page 15 shows the records of R571 while it holds
them. -/
def State.stagingPage (s : State) (k : Nat) : List Byte :=
  let size := match s.journal.nand with
    | some n => n.geom.pageSize
    | none => 4096
  let closed := (s.journal.closed.find? fun c => decide (c.staging = k)).map (·.page)
  match s.journal.staging, closed with
  | some (o, p), _ =>
    if o = k then p.bytes size 0
    else match closed with
      | some p => p.bytes size 0
      | none => if k = 15 then ((s.journal.held.map Rec.bytes).flatten).take 4096 else []
  | none, some p => p.bytes size 0
  | none, none => if k = 15 then ((s.journal.held.map Rec.bytes).flatten).take 4096 else []

/-! ### Reading -/

def byteOr (l : List Byte) (k : Nat) : Byte := l.getD k 0

/-- What the GX-48 lays over the byte at `a`: the bits it maintains there and their values (04 R130). -/
def State.maintained (s : State) (a : Nat) : Byte × Byte :=
  if 0xE0000 ≤ a ∧ a < 0xF0000 then
    (0xFF, byteOr (s.stagingPage ((a - 0xE0000) / 4096)) (a % 4096))
  else if 0xF0000 ≤ a ∧ a < 0xF0600 then
    let o := (a - 0xF0000) % 32
    if 16 ≤ o ∧ o < 24 then (0xFF, byteOr (s.portTail (Fin.ofNat 48 ((a - 0xF0000) / 32))) (o - 16)) else (0, 0)
  else if 0xF0600 ≤ a ∧ a < 0xF0610 then (0xFF, byteOr s.sieveStatus (a - 0xF0600))
  else if 0xF0800 ≤ a ∧ a < 0xF0B40 then
    let o := (a - 0xF0800) % 16
    let v : Fin 52 := Fin.ofNat 52 ((a - 0xF0800) / 16)
    if o = 1 then (0x06, BitVec.ofNat 8 (s.viewFlags v))
    else if 4 ≤ o then (0xFF, byteOr (s.viewTail v) (o - 4)) else (0, 0)
  else if 0xF0C00 ≤ a ∧ a < 0xF0C20 then (0xFF, byteOr s.sluiceStatus (a - 0xF0C00))
  else if 0xF5000 ≤ a ∧ a < 0xF6000 then
    let o := (a - 0xF5000) % 16
    if o = 6 ∨ o = 7 then (0xFF, nthByte (s.gov (Fin.ofNat 256 ((a - 0xF5000) / 16))).tokens (o - 6)) else (0, 0)
  else if 0xF6000 ≤ a ∧ a < 0xF7000 then
    if a % 4 = 0 then (0x3F, (lampWord (s.lamp (Fin.ofNat 1024 ((a - 0xF6000) / 4)))).setWidth 8 &&& 0x3F) else (0, 0)
  else if 0xF7000 ≤ a ∧ a < 0xF7780 then
    let o := (a - 0xF7000) % 8
    if 4 ≤ o then (0xFF, byteOr (s.heads.get (Fin.ofNat 240 ((a - 0xF7000) / 8))).tail (o - 4)) else (0, 0)
  else if 0xF7780 ≤ a ∧ a < 0xF7800 then
    let o := (a - 0xF7780) % 16
    if o = 6 then (0xFF, byteOr (s.buses.get (Fin.ofNat 8 ((a - 0xF7780) / 16))).tail 0)
    else if o = 7 then (0xE0, byteOr (s.buses.get (Fin.ofNat 8 ((a - 0xF7780) / 16))).tail 1)
    else if 8 ≤ o then (0xFF, byteOr (s.buses.get (Fin.ofNat 8 ((a - 0xF7780) / 16))).tail (o - 6)) else (0, 0)
  else if 0xF7E00 ≤ a ∧ a < 0xF7F80 then
    (0xFF, byteOr (s.ampBlock (Fin.ofNat 48 ((a - 0xF7E00) / 8))) (a % 8))
  else if 0xF8000 ≤ a ∧ a < 0x100000 then (0xFF, Config.firmwareByte s.draws a)
  else (0, 0)

/-- The byte a reader finds at `a`. -/
def State.fabricByte (s : State) (a : Nat) : Byte :=
  let (m, v) := s.maintained a
  (Memory.read s.mem a &&& ~~~m) ||| (v &&& m)

/-- The 16-bit word at `a`, bits [7:0] at the lower address (07 R206). -/
def State.fabricWord (s : State) (a : Nat) : Half :=
  BitVec.ofNat 16 ((s.fabricByte a).toNat + 256 * (s.fabricByte (a + 1)).toNat)

def State.fabricBytes (s : State) (a n : Nat) : List Byte := (List.range n).map fun k => s.fabricByte (a + k)

/-! ### What the host may write (01 R25, R26; 04 R128, R680; 07 R211) -/

/-- The wholly maintained spans (04 R680). -/
def spanMaintained (a : Nat) : Bool :=
  (decide (0xF0600 ≤ a) && decide (a < 0xF0610)) || (decide (0xF0C00 ≤ a) && decide (a < 0xF0C20)) ||
  (decide (0xF7C00 ≤ a) && decide (a < 0xF8000))

/-- Why a host write at `a` is refused, none where it takes effect. -/
def State.writeFault (s : State) (a : Nat) : Option ErrCause :=
  if a < 0x40000 then
    if s.mode.stopped && decide (s.engine.image ≠ .checking) then none else some .refused
  else if (0xC0000 ≤ a ∧ a < 0xC8000) ∨ (0xD0000 ≤ a ∧ a < 0xD8000) then none
  else if 0xF0000 ≤ a ∧ a < 0xF8000 then
    if spanMaintained a || !s.culvert.locks a then some .noLock else none
  else some .refused

/-- One byte the host writes: maintained bits keep the GX-48's value (04 R680). -/
def State.hostPut (s : State) (a : Nat) (b : Byte) : State := s.putByte a (b &&& ~~~(s.maintained a).1)

/-- One word the host writes. -/
def State.hostPutWord (s : State) (a : Nat) (v : Half) : State :=
  (s.hostPut a (v.setWidth 8)).hostPut (a + 1) ((v >>> 8).setWidth 8)

end Sys2Proof.Machine
end

