-- ==== Sys2Proof/Machine/HedgeOps.lean ====
section
/-!
DEFINITION. The Hedge master's acts (15): frames, which command goes next, attempts and their ends, joins, and what a
REPORT makes of the lamps it gives (16 R492).
-/
namespace Sys2Proof.Machine

/-! ### Frames (15 R438-R445) -/

def tyPoll : BitVec 7 := 0x01
def tyReport : BitVec 7 := 0x02
def tyInventory : BitVec 7 := 0x03
def tySetLamp : BitVec 7 := 0x04
def tyRollCall : BitVec 7 := 0x05
def tyPropose : BitVec 7 := 0x10
def tyCommit : BitVec 7 := 0x11
def tyWake : BitVec 7 := 0x12
def tyResync : BitVec 7 := 0x13

/-- A frame's characters, the mark bit of the first understood (15 R441, R442). -/
def hedgeFrame (kind addr : Nat) (type : BitVec 7) (toggle : Bool) (payload : List Byte) : List Byte :=
  let body := [BitVec.ofNat 8 (32 * kind + addr), BitVec.ofNat 8 (flag toggle 7 + type.toNat),
    BitVec.ofNat 8 payload.length] ++ payload
  let c := crc16 body
  body ++ [BitVec.ofNat 8 (c.toNat / 256), BitVec.ofNat 8 c.toNat]

/-- The fields of a received frame. -/
structure HedgeFrame where
  kind    : Nat
  addr    : Nat
  toggle  : Bool
  type    : BitVec 7
  payload : List Byte
  deriving DecidableEq, Repr

/-- The characters from the last address character on: one in the middle of a frame abandons it and begins a new one
(15 R443). -/
def lastFrame (f : List Half) : List Half :=
  f.foldl (fun acc e => if e.getLsbD 8 then [e] else acc ++ [e]) []

/-- A frame accepted under 15 R443 among the characters received. -/
def readFrame (f : List Half) : Option HedgeFrame :=
  let f := lastFrame f
  let clean := f.all fun e => !e.getLsbD 9 && !e.getLsbD 10 && !e.getLsbD 11
  let marks := match f with
    | a :: r => a.getLsbD 8 && r.all fun e => !e.getLsbD 8
    | [] => false
  let bs : List Byte := f.map fun e => e.setWidth 8
  let len := byteAt bs 2
  let body := bs.take (3 + len)
  let crc := 256 * byteAt bs (3 + len) + byteAt bs (4 + len)
  if clean && marks && decide (len ≤ 24) && decide (bs.length = len + 5) && decide ((crc16 body).toNat = crc) then
    some { kind := bitsOf (byteAt bs 0) 5 3, addr := bitsOf (byteAt bs 0) 0 5, toggle := bitsOf (byteAt bs 1) 7 1 = 1,
           type := BitVec.ofNat 7 (byteAt bs 1), payload := bs.drop 3 |>.take len }
  else none

/-! ### Buses and heads -/

def State.bus (s : State) (b : BusNo) : Bus := s.buses.get b

/-- The port a slot's bus runs on: its master port, with the receive role HEDGE-MASTER; of two slots that name one port,
the lower runs. -/
def State.hedgePort (s : State) (b : BusNo) : Option PortNo :=
  match s.busPort b with
  | none => none
  | some p => if (s.port p).rx.rx = .master ∧ s.portBus p = some b then some p else none

/-- The master serves this bus: the engine is up in a working mode, on a lone or duty device (17 R519). -/
def State.hedgeOn (s : State) (b : BusNo) : Bool :=
  s.engineWorks && (decide (s.pair.role = .lone) || decide (s.pair.role = .duty)) && (s.hedgePort b).isSome

/-- Nothing is on the bus that a new frame would meet (15 R451). -/
def Bus.quiet (v : Bus) : Bool := v.exchange.isNone && v.rolling.isNone && decide (v.sleep = .none)

/-- The bus forgets every command, grant and round. -/
def Bus.clear (v : Bus) : Bus :=
  { v with exchange := none, retry := none, parked := [], grant := [], queue := [], round := [], rollCall := none,
           rolling := none, granting := false, again := false, joinDue := false, wake := none, sleep := .none }

/-- Commands to a head that are left out when it drops out of the bus. -/
def Bus.dropHead (v : Bus) (h : HeadNo) : Bus :=
  { v with
    queue := v.queue.filter fun c => decide (c.head ≠ h)
    round := v.round.filter fun k => decide (k ≠ h)
    grant := v.grant.filter fun k => decide (k ≠ h)
    parked := v.parked.filter fun x => decide (x.cmd.head ≠ h)
    retry := if v.retry.any (fun x => decide (x.cmd.head = h)) then none else v.retry }

/-- HEAD-RETIRE takes effect, its lamps with it, and is answered (15 R482); a standby's lamps follow the duty's. -/
def State.retireHead (s : State) (b : BusNo) (h : HeadNo) (t : Taken) : State :=
  let s := (s.updHead b h fun d => { d with state := hsRetired, attn := false }).updBus b fun v => v.dropHead h
  let s := s.updBus b fun v => { v with setLamps := v.setLamps.filter fun c => decide (c.head ≠ h) }
  let s :=
    if s.pair.role = .standby then s
    else s.eachLamp fun s l =>
      let w := (s.lamp l).row
      if lampUsed w && decide (lampBus w = b) && decide (lampHead w = h.val + 1) then
        s.changeLamp l (fun p => { p with
          state := stRetired, held := false, injected := false, testRuns := false, offRuns := false }) s.now false
      else s
  (s.configChange t.ch t.code.toNat).reply t.ch t.code.toNat 0 t.tag []

/-- A HEAD-RETIRE that waited goes on once no exchange is outstanding. -/
def State.endRetire (s : State) (b : BusNo) : State :=
  match (s.bus b).retire, (s.bus b).exchange with
  | some (h, t), none => (s.updBus b fun v => { v with retire := none }).retireHead b h t
  | _, _ => s

/-- No POLL for attention is owed any more: every ATTN bit of the bus clears (15 R458). -/
def State.unattend (s : State) (b : BusNo) : State :=
  (List.finRange 30).foldl (fun s h => if (s.head b h).attn then s.updHead b h fun d => { d with attn := false } else s) s

/-- Polling stops (03 Table - Modes). -/
def State.stopBus (s : State) (b : BusNo) : State :=
  ((s.unattend b).updBus b fun v => { v.clear with state := .stopped, setLamps := [] }).endRetire b

/-- A join begins: ROLL-CALL with mode 1 (15 R461). -/
def State.beginJoin (s : State) (b : BusNo) : State :=
  if (s.hedgePort b).isSome then
    ((s.unattend b).updBus b fun v => { v.clear with state := .joining, rollCall := some true }).endRetire b
  else s.stopBus b

def hedgeCmd (h : HeadNo) (t : BitVec 7) (p : List Byte) : HedgeCmd := { head := h, type := t, payload := p }

/-- A head is to be joined: RESYNC, then INVENTORY (15 R461, R462). -/
def State.joinHead (s : State) (b : BusNo) (h : HeadNo) : State :=
  let s := s.updHead b h fun d => { d with state := hsJoining, attn := false }
  s.updBus b fun v => { v with queue := v.queue ++ [hedgeCmd h tyResync [], hedgeCmd h tyInventory []] }

/-- No ROLL-CALL and no POLL of a grant is under way or owed (15 R458). -/
def Bus.granted (v : Bus) : Bool :=
  v.exchange.isNone && v.retry.isNone && v.grant.isEmpty && v.rollCall.isNone && v.rolling.isNone

/-- A grant is over with the exchanges of its POLLs; one more ROLL-CALL follows one that met attention, then the ROLL-CALL
of a join that waited (15 R458). The join is over once nothing of it is left (R461). -/
def Bus.settle (v : Bus) : Bus :=
  let v := if v.granting && v.granted then { v with granting := false } else v
  let v := if v.again && v.granted then { v with again := false, rollCall := some false } else v
  let v := if v.joinDue && v.granted then { v with joinDue := false, rollCall := some true } else v
  if decide (v.state = .joining) && v.exchange.isNone && v.retry.isNone && v.parked.isEmpty && v.queue.isEmpty &&
      v.rollCall.isNone && v.rolling.isNone then { v with state := .polling }
  else v

/-- A head becomes SILENT: doorbell 3 and $PVYSP HEAD-SILENT at each entry (15 R449, R481). -/
def State.silence (s : State) (b : BusNo) (h : HeadNo) : State :=
  let s := s.updBus b fun v => v.dropHead h
  if (s.head b h).state = hsSilent then s
  else (s.updHead b h fun d => { d with state := hsSilent, attn := false, wasLost := true }).headEvent b h evHeadSilent

/-! ### Attempts -/

/-- One character that the port reads back: its reading is a free value (09 R267, R272, R274; log entry 3). -/
def State.readBack (s : State) (p : PortNo) : State :=
  let got := s.draw
  let x := got.1
  let s := got.2
  let own : Byte := BitVec.ofNat 8 x
  let s := s.updPort p fun q => { q with amp := { q.amp with own := own } }
  let a := (s.port p).amp
  if !s.ampValid p || decide ((s.port p).rx.ampWarn = 0) then s
  else if decide (own.toNat < 75) && !a.ownLow then
    (s.updPort p fun q => { q with amp := { q.amp with ownLow := true } }).portEvent p evOwnLow (some own.toNat)
  else if decide (79 ≤ own.toNat) && a.ownLow then
    (s.updPort p fun q => { q with amp := { q.amp with ownLow := false } }).portEvent p evOwnOk (some own.toNat)
  else s

/-- The characters of a frame, each read back while the join is closed (09 R267). -/
def State.readOwn (s : State) (p : PortNo) (f : List Byte) : State :=
  if (s.port p).joined then f.foldl (fun s _ => s.readBack p) s else s

/-- A frame leaves on the bus while its driver may be enabled; the master hears it read back. -/
def State.driveFrame (s : State) (b : BusNo) (f : List Byte) (pulse : Bool) : State :=
  match s.hedgePort b with
  | none => s
  | some p =>
    let on := s.mayDrive p && !f.isEmpty
    let s := s.updBus b fun v => { v with sent := if on then f else [], pulse := pulse && on }
    if on then s.readOwn p f else s

/-- A new command to a head, with the toggle of 15 R452: 0 in the first command after a RESYNC, answered or not. -/
def State.newCommand (s : State) (b : BusNo) (c : HedgeCmd) : State × Exchange :=
  let d := s.head b c.head
  let t := !d.fresh && !d.toggle
  (s.updHead b c.head fun d => { d with toggle := t, fresh := decide (c.type = tyResync) },
    { cmd := c, toggle := t, fails := 0 })

/-- One attempt is driven, past the fault injection of point 3 (15 R447, 21 Table - Injection points and faults). -/
def State.attempt (s : State) (b : BusNo) (x : Exchange) : State :=
  let f := hedgeFrame 0 (x.cmd.head.val + 1) x.cmd.type x.toggle x.cmd.payload
  let port := match s.hedgePort b with
    | some p => p.val
    | none => 48
  let drive (s : State) (l : List Byte) : State :=
    (s.updBus b fun v => { v with exchange := some x }).driveFrame b l false
  let got := s.injectAt 3 port (fun k => decide (k ≤ 1))
  let s := got.2
  match got.1 with
  | none => drive s f
  | some i =>
    let sl := s.inject.slots.get i
    if sl.fault = 0 then drive (s.injectCount i) []
    else if sl.k.toNat ≤ f.length then drive (s.injectCount i) (flipAt f sl.k.toNat sl.bit.toNat)
    else drive s f

/-- An attempt fails (15 R449): repeated up to four times in a row, once only to a SILENT head, not at all to a head that
has been taken off the bus. -/
def State.failAttempt (s : State) (b : BusNo) : State :=
  match (s.bus b).exchange with
  | none => s
  | some x =>
    let h := x.cmd.head
    let s := s.updBus b fun v => { v with exchange := none }
    let d := s.head b h
    if d.state = hsAbsent ∨ d.state = hsRetired then (s.updBus b Bus.settle).endRetire b
    else
      let s := s.updHead b h fun d => { d with fails := BitVec.ofNat 8 (satAdd 255 d.fails.toNat 1) }
      let x := { x with fails := x.fails + 1 }
      let s :=
        if d.state = hsSilent then
          let s := s.updHead b h fun d => { d with attn := false }
          if x.cmd.type = tySetLamp then s.updBus b fun v => { v with setLamps := x.cmd :: v.setLamps } else s
        else if x.fails < 4 then s.updBus b fun v => { v with retry := some x }
        else
          let s := s.silence b h
          if x.cmd.type = tySetLamp then s.updBus b fun v => { v with setLamps := x.cmd :: v.setLamps } else s
      (s.updBus b Bus.settle).endRetire b

/-- COLLIDES, with doorbell 3 (06 Table - Firmware-to-host doorbells). -/
def State.collide (s : State) (b : BusNo) : State :=
  (s.updBus b fun v => { v with collides := satAdd 0xFFFF v.collides 1 }).ring bellHedge

/-! ### What goes next (15 R449, R450, R458, R461) -/

/-- A head that a POLL may go to: ACTIVE, SILENT, or JOINING with its RESYNC and INVENTORY done. -/
def State.pollable (s : State) (b : BusNo) (h : HeadNo) : Bool :=
  let st := (s.head b h).state
  decide (st = hsActive) || decide (st = hsSilent) ||
    (decide (st = hsJoining) && (s.bus b).queue.all fun c => decide (c.head ≠ h))

/-- The SET-LAMP that waits before the head's next POLL, or that POLL (15 R450). A SILENT head gets one attempt in a round
(R449), so a SET-LAMP to it takes the place of its POLL there (DESIGN CHOICE, log entry 155). -/
def State.pollOrLamp (s : State) (b : BusNo) (h : HeadNo) : State × HedgeCmd × Bool :=
  match (s.bus b).setLamps.find? fun c => decide (c.head = h) with
  | some c => (s.updBus b fun v => { v with setLamps := v.setLamps.erase c }, c, decide ((s.head b h).state ≠ hsSilent))
  | none => (s, hedgeCmd h tyPoll [], false)

/-- The next command and its exchange, skipping heads that have left the bus; none when nothing waits. -/
def State.pickCommand : Nat → State → BusNo → State × Option Exchange
  | 0, s, _ => (s, none)
  | n + 1, s, b =>
    let v := s.bus b
    match v.grant, v.parked, v.queue, v.round with
    | h :: r, _, _, _ =>
      if s.pollable b h then
        let got := s.pollOrLamp b h
        let s := got.1
        let c := got.2.1
        let lamp := got.2.2
        let s := s.updBus b fun v => { v with grant := if lamp then v.grant else r }
        let got := s.newCommand b c
        let s := got.1
        let x := got.2
        (s, some x)
      else State.pickCommand n (s.updBus b fun v => { v with grant := r }) b
    | [], x :: r, _, _ => (s.updBus b fun v => { v with parked := r }, some x)
    | [], [], c :: r, _ =>
      let s := s.updBus b fun v => { v with queue := r }
      if (s.head b c.head).state = hsJoining then
        let got := s.newCommand b c
        let s := got.1
        let x := got.2
        (s, some x)
      else State.pickCommand n s b
    | [], [], [], h :: r =>
      if s.pollable b h then
        let got := s.pollOrLamp b h
        let s := got.1
        let c := got.2.1
        let lamp := got.2.2
        let s := s.updBus b fun v => { v with round := if lamp then v.round else r }
        let got := s.newCommand b c
        let s := got.1
        let x := got.2
        (s, some x)
      else State.pickCommand n (s.updBus b fun v => { v with round := r }) b
    | [], [], [], [] => (s, none)

/-- A broadcast is driven, toggle 0 (15 R439, R455). -/
def State.broadcast (s : State) (b : BusNo) (t : BitVec 7) (payload : List Byte) (pulse : Bool) : State :=
  s.driveFrame b (hedgeFrame 4 31 t false payload) pulse

/-- The master's next frame: WAKE, then ROLL-CALL, then the repeat owed, then the next command (15 R449, R458, R474). -/
def State.sendNext (s : State) (b : BusNo) : State :=
  let v := s.bus b
  match v.wake, v.rollCall, v.retry with
  | some pulse, _, _ =>
    (s.updBus b fun v => { v with wake := none, state := .polling }).broadcast b tyWake [] pulse
  | none, some mode, r =>
    (s.updBus b fun v => { v with
      rollCall := none, rolling := some mode, retry := none, parked := r.toList ++ v.parked }).broadcast b tyRollCall
        [if mode then 1 else 0] false
  | none, none, some x => (s.updBus b fun v => { v with retry := none }).attempt b x
  | none, none, none =>
    let got := State.pickCommand 128 s b
    match got.2 with
    | some x => got.1.attempt b x
    | none => got.1.updBus b Bus.settle

/-! ### Lamps under a REPORT (16 R492, R499) -/

/-- The new condition of a lamp whose head's REPORT gives it this state byte; `r` is what a confirming report leaves. -/
def Lamp.reported (p : Lamp) (st : Nat) (r : Report) : Lamp :=
  if 5 ≤ st then
    let last := if p.cold then none else some { r with confirmed := p.report.bind (·.confirmed) }
    if p.testRuns then { p with report := last } else { p with state := stUnconfirmed, injected := false, report := last }
  else if p.testRuns then { p with held := false, report := some r, cold := false }
  else { p with state := BitVec.ofNat 3 st, held := false, injected := false, report := some r, cold := false }

/-- A lamp that a REPORT gives. -/
def State.confirmLamp (s : State) (l : LampNo) (st : Nat) (current : Half) (flashes : Byte) : State :=
  let p := s.lamp l
  let r : Report := { current := current, flashes := flashes, confirmed := some s.now }
  s.changeLamp l (fun p => p.reported st r) s.now (p.injected && !p.testRuns && decide (st = 1))

/-- Every lamp of the head that the REPORT gives, lamp 1 first. -/
def State.takeReport (s : State) (b : BusNo) (h : HeadNo) (payload : List Byte) : State :=
  (List.range (byteAt payload 1)).foldl (fun s i =>
    s.eachLamp fun s l =>
      let w := (s.lamp l).row
      if lampUsed w && decide (lampBus w = b) && decide (lampHead w = h.val + 1) && decide (lampNo w = i) then
        s.confirmLamp l (byteAt payload (2 + 4 * i)) (BitVec.ofNat 16 (fieldAt payload (3 + 4 * i) 2))
          (BitVec.ofNat 8 (byteAt payload (5 + 4 * i)))
      else s) s

/-! ### Accepted replies (15 R448, R461-R463, R481) -/

/-- The reply fits the command (15 R448). -/
def Exchange.answeredBy (x : Exchange) (f : HedgeFrame) : Bool :=
  let n := f.payload.length
  let body := if x.cmd.type = tyPoll then
      decide (f.kind = 1) && decide (f.type = tyReport) && decide (1 ≤ byteAt f.payload 1) &&
        decide (byteAt f.payload 1 ≤ 4) && decide (n = 2 + 4 * byteAt f.payload 1)
    else if x.cmd.type = tyInventory then decide (f.kind = 1) && decide (f.type = tyInventory) && decide (n = 8)
    else decide (f.kind = 2) && decide (f.type = x.cmd.type) && decide (n = 0)
  body && decide (f.addr = x.cmd.head.val + 1) && decide (f.toggle = x.toggle)

/-- A POLL's REPORT. -/
def State.acceptReport (s : State) (b : BusNo) (h : HeadNo) (payload : List Byte) : State :=
  let d := s.head b h
  let s := s.updHead b h fun d => { d with attn := false }
  if d.state = hsSilent then s.joinHead b h
  else
    let s :=
      if d.state = hsJoining then
        let s := s.updHead b h fun d => { d with state := hsActive, wasLost := false }
        if d.wasLost then s.headEvent b h evHeadBack else s
      else s
    if (s.head b h).state = hsActive ∧ !(s.head b h).mismatch then s.takeReport b h payload else s

/-- An INVENTORY reply: what it gives, MISMATCH and the HEAD-JOIN record. -/
def State.acceptInventory (s : State) (b : BusNo) (h : HeadNo) (payload : List Byte) : State :=
  let row := s.headRow b h
  let maker := fieldAt payload 0 2
  let lamps := byteAt payload 4
  let bad := (decide (row.maker ≠ 0) && decide (row.maker ≠ maker)) || decide (lamps < row.lamps)
  let was := (s.head b h).mismatch
  let s := s.updHead b h fun d => { d with
    makerSeen := BitVec.ofNat 16 maker, lampsSeen := BitVec.ofNat 2 (clamp 1 4 lamps - 1), mismatch := bad }
  let s := s.record kHeadJoin (recFlags false s.doubtNow) s.now
    (leBytes 1 b.val ++ leBytes 1 (h.val + 1) ++ bytesAt payload 0 4 ++ bytesAt payload 5 3 ++ [0])
  if bad && !was then s.headEvent b h evHeadSilent else s

/-- The reply is accepted and ends the exchange. -/
def State.acceptReply (s : State) (b : BusNo) (x : Exchange) (f : HedgeFrame) : State :=
  let h := x.cmd.head
  let s := s.updBus b fun v => { v with exchange := none }
  let st := (s.head b h).state
  let s :=
    if st = hsAbsent ∨ st = hsRetired then s
    else if x.cmd.type = tyPoll then s.acceptReport b h f.payload
    else if x.cmd.type = tyInventory then s.acceptInventory b h f.payload
    else if st = hsSilent then s.joinHead b h
    else s
  (s.updBus b Bus.settle).endRetire b

/-- A received reply frame: accepted, or a failed attempt; fault 3 of point 3 discards an accepted one. -/
def State.takeReply (s : State) (b : BusNo) (frame : List Half) : State :=
  match (s.bus b).exchange with
  | none => s
  | some x =>
    match readFrame frame with
    | none => s.failAttempt b
    | some f =>
      if x.answeredBy f then
        let port := match s.hedgePort b with
          | some p => p.val
          | none => 48
        let got := s.injectAt 3 port (fun k => decide (k = 3))
        let s := got.2
        match got.1 with
        | none => s.acceptReply b x f
        | some i => (s.injectCount i).failAttempt b
      else s.failAttempt b

/-! ### Rounds -/

/-- The heads of a new round: joining heads first, then ACTIVE and SILENT ones, ascending (15 R450, R461 step 3). -/
def State.roundOf (s : State) (b : BusNo) : List HeadNo :=
  let l := (List.finRange 30).filter fun h => s.pollable b h
  (l.filter fun h => decide ((s.head b h).state = hsJoining)) ++
    l.filter fun h => decide ((s.head b h).state ≠ hsJoining)

/-- The heads whose rows are CONFIGURED and that are not retired. -/
def State.expected (s : State) (b : BusNo) : List HeadNo :=
  (List.finRange 30).filter fun h => (s.headRow b h).configured && decide ((s.head b h).state ≠ hsRetired)

/-- A head's CONFIGURED bit has been written (15 R480): a head no longer expected leaves the bus; one that is new on a
bus that has joined is joined before its first POLL. -/
def State.headConfigured (s : State) (b : BusNo) (h : HeadNo) : State :=
  let on := (s.headRow b h).configured
  let st := (s.head b h).state
  let v := s.bus b
  if !on && decide (st ≠ hsAbsent) then
    ((s.updHead b h fun d => { d with state := hsAbsent, attn := false }).updBus b fun v => v.dropHead h).updBus b
      fun v => { v with setLamps := v.setLamps.filter fun c => decide (c.head ≠ h) }
  else if on && decide (st = hsAbsent) && s.hedgeOn b && decide (v.state ≠ .stopped) && decide (v.state ≠ .blind) &&
      decide (v.rollCall ≠ some true) && decide (v.rolling ≠ some true) then s.joinHead b h
  else s

/-- Every head row that was written. -/
def State.headsConfigured (s : State) : State :=
  s.eachBus fun s b => (List.finRange 30).foldl (fun s h => s.headConfigured b h) s

end Sys2Proof.Machine
end

