-- ==== Sys2Proof/Machine/Spill.lean ====
section
/-!
DEFINITION. The Spillway's acts on one port (14): choosing the next item, keeping groups together, returning a cut item
to the front of its class, and the end of an item.
-/
namespace Sys2Proof.Machine

/-! ### Links at the front of their class (14 R417, R425) -/

/-- A link that returns to the front of its class, standing by the stamp it had (12 R375). -/
def Link.returned (l : Link) : Link := { l with front := true }

/-- A link ahead of every other of its class. -/
def frontInsert (l : Link) (q : List Link) : List Link :=
  (q.takeWhile fun k => decide (k.cls < l.cls)) ++ l :: (q.dropWhile fun k => decide (k.cls < l.cls))

/-- Links returned to the front, the first of the list foremost. -/
def frontAll (ls q : List Link) : List Link := ls.foldr frontInsert q

/-- Links of a port view, from in flight, from the holds or from the queue itself, stand at the front of their class in
this order. -/
def State.returnFront (s : State) (p : PortNo) (ls : List Link) : State :=
  let ids := ls.map (·.item)
  s.updView (portView p) fun w => { w with
    queue := frontAll (ls.map Link.returned) (w.queue.filter fun l => !ids.contains l.item)
    inFlight := w.inFlight.filter fun l => !ids.contains l.item }

/-- The link of the item in flight. -/
def State.inFlightLink (s : State) (p : PortNo) (id : Nat) : List Link :=
  (s.view (portView p)).inFlight.filter fun l => decide (l.item = id)

/-! ### Groups (14 R422-R427, R685) -/

/-- The queued members of a group, by number. -/
def State.queuedMembers (s : State) (p : PortNo) (key : GroupKey) : List Link :=
  (List.range 10).flatMap fun n => (s.view (portView p)).queue.filter fun l =>
    match (s.item? l.item).bind Item.member with
    | some (k, x, _) => decide (k = key) && decide (x = n)
    | none => false

/-- A group in progress is interrupted: held and unsent members stand at the front of their class in member order
(14 R685). -/
def State.interruptGroup (s : State) (p : PortNo) : State :=
  match (s.port p).tx.group with
  | none => s
  | some g =>
    let rest := s.queuedMembers p g.key
    let s := s.updTx p fun t => { t with group := none, cut := t.cut ++ g.held.map (·.item) }
    s.returnFront p (g.held ++ rest)

/-- The group is abandoned: its held members are released, and its later members will be (14 R424). -/
def State.abandonGroup (s : State) (p : PortNo) : State :=
  match (s.port p).tx.group with
  | none => s
  | some g =>
    let s := s.updTx p fun t => { t with
      group := none, abandoned := g.key :: t.abandoned, abandons := satAdd top32 t.abandons 1 }
    ((g.held.map (·.item)).foldl State.release s).dropAbandoned p

/-- Something interrupts a group begun on the port (14 R685): the mode, the view, or a breaching item that waits. -/
def State.groupYields (s : State) (p : PortNo) (g : GroupRun) : Bool :=
  g.yields || !s.classAllowed p g.cls || !s.viewOpen (portView p) || !(s.port p).tx.breachers.isEmpty

/-- What interrupts a group has arisen on the port: a group that waits for its next member is interrupted now, one with
a member on the line as that member ends (14 R685). An item that breaches a group that waits counts as a breach (R413,
R418). -/
def State.yieldGroup (s : State) (p : PortNo) : State :=
  let t := (s.port p).tx
  match t.group with
  | none => s
  | some g =>
    if !s.groupYields p g then s
    else if t.sending.isNone then
      let n := if t.breachers.isEmpty then 0 else 1
      (s.updTx p fun t => { t with breaches := satAdd top32 t.breaches n }).interruptGroup p
    else if t.breachers.isEmpty then s.updTx p fun t => { t with group := some { g with yields := true } }
    else s

/-- The same on every port. -/
def State.yieldGroups (s : State) : State := s.eachPort State.yieldGroup

/-! ### What an injection slot holds (21 R630, R631, R633) -/

/-- The slot holds this item for a point-0 reorder. -/
def Item.heldBy (i : Item) (k : Fin 16) : Bool :=
  match i.place with
  | .reorder j _ => decide (j = k)
  | .ended | .deferred _ | .committed => false

/-- A held item goes on to the Sieve, behind the items that have ended; a VOID one is discarded (13 R402). -/
def State.releaseItem (s : State) (i : Item) : State :=
  if i.void then s.dropItem i.id
  else s.setSluice fun l => { l with
    items := (l.items.filter fun j => decide (j.id ≠ i.id)) ++ [{ i with place := .ended }] }

/-- What slot `k` holds at points 0 and 1 is let go. -/
def State.releaseHeld (s : State) (k : Fin 16) : State :=
  let s := (s.sluice.items.filter fun i => i.heldBy k).foldl State.releaseItem s
  s.mapPorts fun q =>
      { q with tx := { q.tx with reorder := q.tx.reorder.filter fun r => decide (r.1 ≠ k) } }

/-- A cleared slot lets go of everything it holds, the frame of point 2 too. -/
def State.clearSlot (s : State) (k : Fin 16) : State :=
  let s := s.releaseHeld k
  let s := match s.pair.withheld with
    | some (j, _, _, _) =>
      if j = k then s.sendWithheld else s
    | none => s
  s.setInject fun j => { j with slots := upd j.slots k fun sl => { Slot16.reset with count := sl.count } }

/-- Every slot. -/
def State.clearSlots (s : State) : State := (List.finRange 16).foldl State.clearSlot s

/-! ### Cutting (14 R414-R420, R686) -/

/-- The place from which an item may no longer be cut: its last three characters, or its second checksum digit
(14 R414). -/
def cutLimit (bytes : List Byte) : Nat :=
  let lim := bytes.length - 3
  let start := (bytes.takeWhile fun b => !isStart b).length
  let sent := bytes.drop start
  let star := 1 + (beforeStar sent).length
  match afterStar sent with
  | h :: l :: _ => if hasStar sent && (hex? h).isSome && (hex? l).isSome then min lim (start + star + 2) else lim
  | _ => lim

/-- The item on the line is cut and returned, with its group where it is a member (14 R417, R425, R427). `begun` says
that part of it was sent. A cut of a group whose holds were released abandons it. -/
def State.cutSending (s : State) (p : PortNo) (begun : Bool) : State :=
  match (s.port p).tx.sending with
  | none => s
  | some x =>
    let s := s.updTx p fun t => { t with sending := none, ctsWait := false }
    match (s.port p).tx.group with
    | some g =>
      if g.released && begun then (s.abandonGroup p).letGo (portView p) x.item
      else
        let ls := g.held ++ s.inFlightLink p x.item
        let s := s.updTx p fun t => { t with
          group := none, cut := t.cut ++ g.held.map (·.item) ++ if begun then [x.item] else [] }
        s.returnFront p ls
    | none =>
      let s := if begun then s.updTx p fun t => { t with cut := t.cut ++ [x.item] } else s
      s.returnFront p (s.inFlightLink p x.item)

/-! ### The end of an item -/

/-- A DELIVERED record of the duty (17 R525). -/
def State.sendDelivered (s : State) (p : PortNo) (seq : Word) : State :=
  if s.mirrors then s.sendFrame (.delivered [{ view := p, pairSeq := seq }]) else s

/-- A device that drives its listeners: lone or duty, and in DOZE one that was either as it went there (03 R95). -/
def State.drivesListeners (s : State) : Bool :=
  if s.roadRuns then decide (s.pair.role = .lone) || decide (s.pair.role = .duty)
  else s.alive && decide (s.mode = .doze) && s.pair.dozeDrives

/-- The driver of a port rests enabled (02 R42, R62 step 5; 09 R284): a listener's does; a hedge port enables its own only
for a frame or a pulse. -/
def State.driverDue (s : State) (tx : TxRole) : Bool :=
  s.power.vanaSettled && match tx with
    | .off | .hedge => false
    | .listener => s.drivesListeners

/-- A driver that has just been enabled owes two character times of mark (02 R63); in internal loopback the driver is
high-impedance (21 R622). -/
def Port.drive (q : Port) (on : Bool) : Port :=
  let on := on && decide (q.loop ≠ .internal)
  { q with driver := on, tx := { q.tx with
      markOwed := if on && !q.driver then true else q.tx.markOwed, terminator := q.tx.terminator && on
      ctsWait := q.tx.ctsWait && on } }

/-- Every driver that may be enabled is, and no other. -/
def State.driveAll (s : State) : State :=
  s.mapPorts fun q => q.drive (s.driverDue q.txc.tx && !q.hot)

/-- The half-duplex join of a port is closed (02 R42, 09 R266, R284). -/
def State.joinDue (s : State) (q : Port) : Bool :=
  s.alive && s.power.vanaGood && (s.roadRuns || decide (s.mode = .doze)) && decide (q.txc.tx = .hedge) && !q.txc.bypass

/-- As a join closes or opens, the sensed pair changes: the character in progress is abandoned, and the next start edge
needs one bit time of mark (09 R266). -/
def Port.join (q : Port) (due : Bool) : Port :=
  if q.joined = due then q else { q with joined := due, edge := none, falls := [], hold := .bit }

/-- Every join as the mode, the roles and the VANA guard have it. -/
def State.setJoins (s : State) : State := s.mapPorts fun q => q.join (s.joinDue q)

/-- The termination across the sensed pair is connected (09 R265, R268, 21 R622). -/
def State.terminated (s : State) (p : PortNo) : Bool :=
  let q := s.port p
  s.alive && s.power.vanaGood && (s.roadRuns || decide (s.mode = .doze)) && q.rx.term && !q.rx.bypass &&
    decide (q.loop ≠ .internal)

/-- The transmit side adopts its row after its item in progress (10 R288): a row set by PORT-SET, or one that differs. -/
def State.adoptTx (s : State) (p : PortNo) : State :=
  let row := s.portRow p
  let q := s.port p
  if (q.txAdopt || decide (rowFields q.txRow ≠ rowFields row)) && q.tx.sending.isNone &&
      (s.roadRuns || (s.alive && decide (s.mode = .prove))) then
    let s := s.updPort p fun q => { q with txRow := row, txAdopt := false }.drive (s.driverDue (portCfg row).tx && !q.hot)
    s.updPort p fun q => q.join (s.joinDue q)
  else s

/-- The item is a member of this group. -/
def Item.inGroup (i : Item) (key : GroupKey) : Bool :=
  match i.member with
  | some (k, _, _) => decide (k = key)
  | none => false

/-- The sent item is let go, or held while its group is incomplete (14 R425-R427). A group whose last member has left is
whole, whatever arose while that member was on the line (DEDUCED of R685, log entry 150). -/
def State.settleSent (s : State) (p : PortNo) (i : Item) : State :=
  match (s.port p).tx.group with
  | none => s.letGo (portView p) i.id
  | some g =>
    if !i.inGroup g.key then s.letGo (portView p) i.id
    else if g.count ≤ g.next then
      let held := g.held.map fun (l : Link) => l.item
      let s := s.updTx p fun t => { t with group := none }
      held.foldl State.release (s.letGo (portView p) i.id)
    else
      let ls := s.inFlightLink p i.id
      let s := s.updView (portView p) fun w => { w with inFlight := w.inFlight.filter fun l => decide (l.item ≠ i.id) }
      let g := { g with next := g.next + 1, held := g.held ++ ls }
      let s := s.updTx p fun t => { t with group := some g }
      if s.groupYields p g then s.interruptGroup p else s

/-- A view retires (14 R428, R429, R431): with HWR its items stay and a group begun is interrupted (R685), else its queue is
flushed and the group with it. -/
def State.retireView (s : State) (v : Fin 52) (hold : Bool) : State :=
  let s := s.updView v fun w => { w with retired := true }
  if hold then (match viewPort v with
    | some p => s.yieldGroup p
    | none => s)
  else
    let s := (s.flushView v).1
    match viewPort v with
    | some p => s.updTx p fun t => { t with group := none }
    | none => s

/-- A transmit side that PORT-RETIRE is retiring, with no item in progress, retires its view (08 R239, 14 R431). -/
def State.txBoundary (s : State) (p : PortNo) : State :=
  let retires := s.engine.accepted.any fun a => match a.work with
    | .portRetire q _ tx => decide (q = p) && tx
    | .headReturn _ _ _ | .handover | .format | .publish | .sweep _ _ => false
  if retires && (s.port p).tx.sending.isNone && !(s.view (portView p)).retired then
    (s.retireView (portView p) (s.viewRow (portView p)).hwr).updPort p fun q => { q with txRetired := true }
  else s

/-- The last character of the item on the line has left (13 Table - Release points, 14 R425). -/
def State.endSending (s : State) (p : PortNo) : State :=
  match (s.port p).tx.sending with
  | none => s
  | some x =>
    match s.item? x.item with
    | none => s.updTx p fun t => { t with sending := none }
    | some i =>
      let s := s.sendDelivered p i.pairSeq
      let s := s.updTx p fun t =>
        { t with sending := none, ctsWait := false, cut := t.cut.filter fun j => decide (j ≠ i.id) }
      ((s.settleSent p i).adoptTx p).txBoundary p

/-! ### Choosing the next item (14 R408, R423-R426; 21 R631) -/

/-- DELIVERED records of a view that no ACK covers yet. -/
def State.undelivered (s : State) (p : PortNo) : Nat :=
  let count := fun (f : Frame) => match f with
    | .delivered l => l.countP fun r => decide (r.view = p)
    | _ => 0
  sumOf (fun (x : Half × Frame) => count x.2) s.pair.unacked + sumOf count s.pair.waiting

/-- An amplitude sweep runs on the port (21 R625). -/
def State.sweeping (s : State) (p : PortNo) : Bool :=
  s.engine.accepted.any fun a => match a.work with
    | .sweep q _ => decide (q = p)
    | .portRetire _ _ _ | .headReturn _ _ _ | .handover | .format | .publish => false

/-- The Spillway may begin an item on a port (21 R622, R625; 14 R408, R433; 17 R519, R526, R538; 03 R86). -/
def State.mayBegin (s : State) (p : PortNo) : Bool :=
  let q := s.port p
  s.roadRuns && !s.modes.draining && decide (q.txc.tx = .listener) &&
  (q.driver || (decide (q.loop = .internal) && s.driverDue q.txc.tx)) && !s.sweeping p && !q.hot && q.tx.sending.isNone &&
  !q.tx.ctsWait && s.viewOpen (portView p) && decide (s.pair.handover = .none) && (!s.mirrors || decide (s.undelivered p ≤ 1))

/-- A queued link that the Spillway passes over: the item a point-1 reorder holds back (21 R631). -/
def Tx.heldBack (t : Tx) (id : Nat) : Bool := t.reorder.any fun r => decide (r.2.1 = id) && decide (0 < r.2.2)

/-- The next item by 14 R408: the next member of a group begun, a breaching item, after a take-over what was in flight on
the old duty (17 R537), or the first of 13 R395. -/
def State.nextItem (s : State) (p : PortNo) : Option Item :=
  let q := s.port p
  let queue := ((s.view (portView p)).queue.filterMap fun l => s.item? l.item).filter fun i =>
    s.classAllowed p i.cls && !q.tx.heldBack i.id
  match q.tx.group with
  | some g => queue.find? fun i =>
      match i.member with
      | some (k, x, _) => decide (k = g.key) && decide (x = g.next)
      | none => false
  | none =>
    match queue.find? fun i => q.tx.breachers.contains i.id with
    | some i => some i
    | none =>
      match queue.find? fun i => decide ((s.view (portView p)).ahead = some i.id) with
      | some i => some i
      | none => queue.head?

/-- A member that is released unsent: of an abandoned group, or of one that has not begun (14 R424, R426). -/
def State.mustSkip (s : State) (p : PortNo) (i : Item) : Bool :=
  match i.member with
  | none => false
  | some (_, x, _) => (s.port p).tx.group.isNone && decide (x ≠ 1)

/-- Releases members that must not be sent, each counted in REFUSALS. -/
def State.skipMembers : Nat → State → PortNo → State
  | 0, s, _ => s
  | n + 1, s, p =>
    match s.nextItem p with
    | none => s
    | some i => if s.mustSkip p i then State.skipMembers n ((s.refuse (portView p) 1).unlink (portView p) i.id) p else s

/-- The item begins: its TAG block and sentence are written, and it goes in flight (14 R410, R425). Of the items that met
R413 before, only one of a lower class number can still breach it (R415 step 7). -/
def State.begin (s : State) (p : PortNo) (i : Item) (bytes : List Byte) (cts : Bool) : State :=
  let again := (s.port p).tx.cut.contains i.id
  let waits := (s.port p).txc.ctsFlow && !cts
  let run := match i.member with
    | none => (s.port p).tx.group
    | some (k, x, y) =>
      if x = 1 then some { key := k, count := y, next := 1, cls := i.cls, held := [], released := false, yields := false }
      else (s.port p).tx.group.map fun g => { g with cls := i.cls }
  let s := (s.take (portView p) i.id).updView (portView p) fun w => { w with ahead := none }
  s.updTx p fun t => { t with
    sending := some { item := i.id, bytes := bytes, resend := again, begun := !waits }
    group := run
    abandoned := match i.member with
      | some (k, _, _) => t.abandoned.filter fun j => decide (j ≠ k)
      | none => t.abandoned
    breachers := t.breachers.filter fun j => decide (j ≠ i.id) && (s.item? j).any fun k => decide (k.cls < i.cls)
    ctsWait := waits
    terminator := false, markOwed := false
    resends := if again && !waits then satAdd top32 t.resends 1 else t.resends
    reorder := (t.reorder.filter fun r => decide (r.2.1 ≠ i.id)).map fun r => (r.1, r.2.1, r.2.2 - 1) }

/-- An item dropped by an injection at point 1: released unsent, its group abandoned (21 Table - Injection points and
faults, R631). -/
def State.dropAtListener (s : State) (p : PortNo) (i : Item) : State :=
  let s := s.unlink (portView p) i.id
  match i.member with
  | none => s
  | some (k, _, _) =>
    if (s.port p).tx.group.isSome then s.abandonGroup p
    else (s.updTx p fun t => { t with
      abandoned := k :: t.abandoned, abandons := satAdd top32 t.abandons 1 }).dropAbandoned p

/-- Takes the chosen item through the injection of point 1 and begins it; a drop or a reorder leaves the port free to
choose again. -/
def State.sendItem (s : State) (p : PortNo) (i : Item) (cts : Bool) : State :=
  let (bytes, omitted) := sendBytes s.settings.epoch i
  let go (s : State) (b : List Byte) : State := (s.refuse (portView p) omitted).begin p i b cts
  if (s.port p).tx.cut.contains i.id || (s.port p).tx.reorder.any (fun r => decide (r.2.1 = i.id)) then go s bytes
  else
    let got := s.injectAt 1 p.val (fun f => decide (f ≤ 1) || (decide (f = 2) && i.member.isNone))
    let s := got.2
    match got.1 with
    | none => go s bytes
    | some k =>
      let sl := s.inject.slots.get k
      if sl.fault = 0 then (s.injectCount k).dropAtListener p i
      else if sl.fault = 1 then
        let tag := bytes.length - i.sentence.length
        if sl.k.toNat ≤ i.sentence.length then
          go (s.injectCount k) (bytes.take tag ++ flipAt (bytes.drop tag) sl.k.toNat sl.bit.toNat)
        else go s bytes
      else if (s.port p).tx.reorder.any fun r => decide (r.1 = k) then go s bytes
      else (s.injectCount k).updTx p fun t => { t with reorder := t.reorder ++ [(k, i.id, sl.k.toNat)] }

end Sys2Proof.Machine
end

