-- ==== Sys2Proof/Machine/PortOps.lean ====
section
/-!
DEFINITION. A port's receive side as it is armed, disarmed, parked and given a new row (02 R58, 03 R82-R85, 10 R288,
R306, R312, 14 R432).
-/
namespace Sys2Proof.Machine

/-- The receive role in force is TALKER. -/
def Port.isTalker (q : Port) : Bool := decide (q.rx.rx = RxRole.talker)

/-- The receive side frames and assembles as a TALKER: its role, or a loopback (21 R622). -/
def Port.talks (q : Port) : Bool := q.isTalker || decide (q.loop ≠ .off)

/-- The receive side has a role, or a loopback feeds it. -/
def Port.hears (q : Port) : Bool := decide (q.rx.rx ≠ .off) || decide (q.loop ≠ .off)

/-- Pnn_RTS after the FIFO level has changed (10 R306): high where the row, a loopback, a retirement or parking says so. -/
def Port.rtsNow (q : Port) : Bool :=
  if q.rx.rtsFlow && q.isTalker && decide (q.loop = .off) && q.armed then
    if q.rx.rtsHigh ≤ q.fifo.length then false else if q.fifo.length < q.rx.rtsLow then true else q.rts
  else false

def Port.setRts (q : Port) : Port := { q with rts := q.rtsNow }

/-- In DOZE the port's wake-arm bit stands and it is not STUCK (03 R88). -/
def Port.wakes (q : Port) : Bool := q.rx.wakeArm && !q.stuck

/-- Pnn_RTS in DOZE (03 R90): by the FIFO marks while the port is armed for wake, else high. -/
def Port.setDozeRts (q : Port) : Port :=
  if q.wakes && !q.rxRetired then { q with rts := { q with armed := true }.rtsNow } else { q with rts := false }

/-- Pnn_RTS as the mode has it. -/
def State.putRts (s : State) (p : PortNo) : State :=
  if s.mode = .doze then s.updPort p Port.setDozeRts else s.updPort p Port.setRts

/-- A falling edge on the sensed pair: the line is at space, and SILENT clears with its event (09 R281); a head in the guard
after SLEEP-COMMIT stays awake (15 R472). -/
def State.fall (s : State) (p : PortNo) : State :=
  let was := (s.port p).silent
  let s := s.updPort p fun q => { q with space := true, silent := false, fell := true, head := { q.head with commit := none } }
  if was then s.portEvent p evActive none else s

/-- The cells of the item being assembled return, and the assembler is in HUNT (13 R400). -/
def State.dropPartial (s : State) (p : PortNo) : State :=
  (s.freeCells (s.port p).asm.cells).updAsm p fun _ => Asm.reset

/-- The receive side stops: it stores nothing, its FIFO is empty and Pnn_RTS is high. -/
def Port.disarm (q : Port) : Port :=
  { q with
    armed := false, fifo := [], keep := 0, edge := none, falls := [], hold := .free, hunting := false, unmuted := false
    parking := false, rts := false }

/-- The receive side is armed as at RUN entry (02 R58, R59): FIFO empty, assembler in HUNT, an autobaud port hunting. A WOKE
still owed stays owed (10 R316); a line at space must first be at mark for a bit time (09 R277, R278). -/
def State.armRx (s : State) (p : PortNo) : State :=
  (s.dropPartial p).updPort p fun q =>
    if q.hears && !q.rxRetired then
      { q.disarm with
        armed := true, hunting := q.rx.autobaud, frameRun := 0, afterLoss := q.afterLoss && q.wokeNext
        hold := if q.space then .bit else .free
        rateNow := if q.rx.autobaud then q.rateNow else q.rx.rate }.setRts
    else q.disarm

/-- A port row that makes or unmakes a hedge master starts or stops its bus (15 R461). -/
def State.hedgeRole (s : State) : State :=
  s.eachBus fun s b =>
    let due := (s.hedgePort b).isSome
    if !due && decide ((s.bus b).state ≠ .stopped) then s.stopBus b
    else if due && decide ((s.bus b).state = .stopped) && s.hedgeOn b then s.beginJoin b
    else s

/-- A port has a row in force and reads a changed one at its boundaries: PROVE, and where the road runs. -/
def State.rowsInForce (s : State) : Bool := s.roadRuns || (s.alive && decide (s.mode = .prove))

/-- The receive side takes its row (10 R288, R290, R312); it is armed only where the road runs. -/
def State.takeRxRow (s : State) (p : PortNo) : State :=
  let row := s.portRow p
  let runs := s.roadRuns
  let s := s.updPort p fun q =>
    let seen := if rowFlag row 10 = rowFlag q.rxRow 10 then q.amp.seen else 0
    let q : Port := { q with rxRow := row, rxAdopt := false, amp := { q.amp with seen := seen } }
    let hunts := q.rx.autobaud
    let q : Port := { q with stuck := q.stuck && q.isTalker, rateNow := if hunts then q.rateNow else q.rx.rate }
    if runs && q.hears && !q.rxRetired && !q.parked then
      { q with armed := true, hunting := hunts, frameRun := 0 }.setRts
    else { q.disarm with hunting := hunts }
  let s := if (s.port p).armed then s else s.dropPartial p
  s.hedgeRole.headNotice

/-- The receive side is at a sentence boundary: no item is being assembled. -/
def Asm.idle (a : Asm) : Bool := decide (a.state = .hunt)

/-- A port at a sentence boundary parks where VIGIL parks it, once the entries it kept from DOZE are taken (03 R92), retires
where a PORT-RETIRE waits for it, and adopts a row whose fields have changed (03 R82, 08 R239, 10 R288), with no character
in progress or waiting. -/
def State.rxBoundary (s : State) (p : PortNo) : State :=
  if !(s.port p).asm.idle then s
  else
    let retires := s.engine.accepted.any fun a => match a.work with
      | .portRetire q rx _ => decide (q = p) && rx
      | .headReturn _ _ _ | .handover | .format | .publish | .sweep _ _ => false
    let s :=
      if (s.port p).parking && decide ((s.port p).keep = 0) then s.updPort p Port.disarm else s
    let s :=
      if retires && !(s.port p).rxRetired then s.updPort p fun q => { q.disarm with rxRetired := true } else s
    let q := s.port p
    if s.rowsInForce && (q.rxAdopt || decide (rowFields q.rxRow ≠ rowFields (s.portRow p))) && q.edge.isNone &&
        (q.fifo.isEmpty || s.modes.draining) then s.takeRxRow p
    else s

/-- A port that VIGIL parks (03 R82). -/
def State.parks (s : State) (p : PortNo) : Bool :=
  let q := s.port p
  q.rx.rx ≠ .master && q.rx.rx ≠ .head && !s.settings.designated.contains p

/-- A port parks: its view at once, its receive side at the next sentence boundary. -/
def State.park (s : State) (p : PortNo) : State :=
  let s := s.updPort p fun q => { q with parked := true, parking := true }
  ((s.updView (portView p) fun v => { v with parked := true }).yieldGroup p).rxBoundary p

/-- A parked port returns: its receive side is armed as at RUN entry, unless its boundary had not come (03 R85). -/
def State.unpark (s : State) (p : PortNo) : State :=
  let waits := (s.port p).parking
  let s := s.updPort p fun q => { q with parked := false, parking := false, keep := 0 }
  let s := s.updView (portView p) fun v => { v with parked := false }
  if waits then s else s.armRx p

/-- The drivers of the listeners go high-impedance: items on their lines are cut and kept (02 R47, 17 R517). -/
def State.releaseListeners (s : State) : State :=
  let s := s.eachPort fun s p => if (s.port p).txc.tx = .listener then s.cutSending p true else s
  s.mapPorts fun q => if q.txc.tx = .listener then q.drive false else q

/-- Every item on a line is cut with CR LF and kept for re-sending (03 R86, 17 R538). -/
def State.cutAll (s : State) : State :=
  s.eachPort fun s p =>
    match (s.port p).tx.sending with
    | none => s
    | some _ => (s.cutSending p true).updTx p fun t => { t with terminator := true }

end Sys2Proof.Machine
end

