-- ==== Sys2Proof/Machine/PairOps.lean ====
section
/-!
DEFINITION. Roles of a pair as they are taken and dropped (17 R515-R521), and the end of a link.
-/
namespace Sys2Proof.Machine

/-- The frames of a link that is down are forgotten (17 R511, R515); a MIRROR record that waits for its item goes on waiting
(R523). -/
def Pair.unlinked (p : Pair) : Pair :=
  { p with linkUp := false, formed := false, beats := 0, unacked := [], waiting := [], ackOwed := false, withheld := none,
           forming := false, caughtUp := false, handed := false, txSeq := 1, rxSeq := 0, recent := [] }

/-- Items of the PEER view whose frames are forgotten go back to its queue. -/
def State.returnPeer (s : State) : State :=
  s.updView viewPeer fun w => { w with queue := frontAll (w.inFlight.map Link.returned) w.queue, inFlight := [] }

/-- LINK_UP clears (17 R515). -/
def State.linkDown (s : State) : State :=
  if s.pair.linkUp then ((s.setPair Pair.unlinked).returnPeer).pairBell else s.setPair fun p => { p with beats := 0 }

/-- The device holds no role: PL_DUTY_OUT low, no link (17 R521). -/
def State.dropRole (s : State) (r : Role) : State :=
  let told := decide (s.pair.role ≠ r) || s.pair.linkUp
  let s := s.returnPeer.setSluice fun l => { l with views := l.views.map fun v => { v with ahead := none } }
  let s := s.setPair fun p => { p.unlinked with
    role := r, dutyOut := false, armed := false, unmatched := [], lampsOwed := [], peer := none, measured := none, offset := none, steady := 0
    timeSkew := false, handover := .none }
  if told then s.pairBell else s

/-- A working mode is entered from PROVE, or again from DOZE: a lone device, or one of a pair that has no role until it sees
PL_DUTY_IN (17 R516). -/
def State.takeRole (s : State) : State :=
  let r : Role := if s.settings.pairEnable then .none else .lone
  let told := decide (s.pair.role ≠ r)
  let s := s.setPair fun p => { p with role := r }
  if told then s.pairBell else s

/-- What doorbell 4 announces: role, link and disagreement flags, and FORMED (06 Table - Firmware-to-host doorbells). -/
def Pair.shown (p : Pair) : Role × List Bool :=
  (p.role, [p.linkUp, p.formed, p.splitConfig, p.minorMismatch, p.majorMismatch, p.timeSkew, p.sameRank])

/-- Doorbell 4 and its record where one of these has changed; a bar of R518 that a peer's reset lifts is none of them. -/
def State.noted (s : State) (before : Pair) : State :=
  if s.pair.shown = { before with sameRank := before.sameRank && s.pair.sameRank }.shown then s else s.pairBell

/-- The level that an event finds on PL_DUTY_IN (17 R505, log entry 160); a device of a pair without a role that finds it high
is standby (R516 step 1). -/
def State.seeDuty (s : State) (level : Bool) : State :=
  s.setPair fun p => { p with
    dutyIn := level
    role := if level && s.engineWorks && s.settings.pairEnable && decide (p.role = .none) then .standby else p.role }

/-- The device becomes duty: PL_DUTY_OUT high, listeners enabled, buses joined (17 R516, R536 steps 2, 4 and 6). -/
def State.becomeDuty (s : State) : State :=
  let s := (s.setPair fun p => { p with role := .duty, dutyOut := true }).driveAll
  (List.finRange 8).foldl (fun s b => if s.hedgeOn b then s.beginJoin b else s) s

/-- The device gives duty up: PL_DUTY_OUT low, listener drivers high-impedance, its buses silent (17 R517, R521). -/
def State.yieldDuty (s : State) (r : Role) : State :=
  let s := (s.setPair fun p => { p with role := r, dutyOut := false, forming := false, caughtUp := false }).releaseListeners
  s.eachBus fun s b => if (s.bus b).state = .stopped then s else s.stopBus b

/-- A listener sends an item. -/
def State.listening (s : State) : Bool :=
  s.ports.toList.any fun q => decide (q.txc.tx = .listener) && q.tx.sending.isSome

/-- A DELIVERED record that no ACK covers. -/
def State.deliveredDue (s : State) : Bool :=
  let f (x : Frame) : Bool := match x with
    | .delivered _ => true
    | _ => false
  (s.pair.unacked.any fun x => f x.2) || s.pair.waiting.any f

/-- A planned handover goes on (17 R538): once no listener sends, it waits for the DELIVERED records; once they are
acknowledged, it sends HANDOVER and gives duty up. -/
def State.advanceHandover (s : State) : State :=
  let s := if s.pair.handover = .draining ∧ !s.listening then s.setPair fun p => { p with handover := .acks } else s
  if s.pair.handover = .acks ∧ !s.deliveredDue then
    let s := (s.sendFrame (.handover s.pair.nextSeq)).setPair fun p => { p with handover := .waiting }
    (s.yieldDuty .standby).pairBell
  else s

end Sys2Proof.Machine
end

