-- ==== Sys2Proof/Machine/TagOps.lean ====
section
/-!
DEFINITION. The Quickset tag's array and its rules (19): blocks and the tear row, lock bits, recovery, the commissioning
record, region B, and which requests the tag answers.
-/
namespace Sys2Proof.Machine

/-! ### Blocks (19 R584, R585, R604) -/

/-- The block as the array holds it; an unlisted block holds 0. -/
def Tag.cell (t : Tag) (b : Nat) : Word :=
  match t.blocks.find? fun x => decide (x.1 = b) with
  | some x => x.2
  | none => 0

/-- Inserts a block in ascending order. -/
def putBlock (b : Nat) (w : Word) : List (Nat × Word) → List (Nat × Word)
  | [] => if w = 0 then [] else [(b, w)]
  | (k, v) :: r =>
    if k < b then (k, v) :: putBlock b w r
    else if k = b then (if w = 0 then r else (b, w) :: r)
    else if w = 0 then (k, v) :: r else (b, w) :: (k, v) :: r

def Tag.put (t : Tag) (b : Nat) (w : Word) : Tag := { t with blocks := putBlock b w t.blocks }

def blkTearData : Nat := 1800
def blkTearInfo : Nat := 1801
def blkMarker : Nat := 1802

/-- The home block TEARINFO names. -/
def Tag.tearHome (t : Tag) : Nat := bitsOf (t.cell blkTearInfo).toNat 0 11
/-- FIELDSEQ of TEARINFO. -/
def Tag.fieldSeq (t : Tag) : Half := BitVec.ofNat 16 (bitsOf (t.cell blkTearInfo).toNat 16 16)

/-- The UID (19 Table - UID). -/
def tagUid : BitVec 64 :=
  BitVec.ofNat 64 (0xE0 * 2 ^ 56 + Config.uidMaker.toNat * 2 ^ 48 + 0x30 * 2 ^ 40 + Config.uidSerial.toNat)

/-- A block as a reader of the array sees it: TEARDATA in place of the home block while the marker reads set (19 R604),
the marker and the UID copy (19 R585). Factory blocks stand apart (`State.tagRead`). -/
def Tag.get (t : Tag) (b : Nat) : Word :=
  if t.marker && decide (b = t.tearHome) then t.cell blkTearData
  else if b = blkMarker then (if t.marker then 1 else 0)
  else if b = 1803 then tagUid.setWidth 32
  else if b = 1804 then (tagUid >>> 32).setWidth 32
  else t.cell b

/-- A read of any block; a factory block gives a free value (19 R585, log entry 3). -/
def State.tagRead (s : State) (b : Nat) : Word × State :=
  if 1805 ≤ b then (Config.factoryBlock s.draws, s.draw.2) else (s.tag.get b, s)

/-- The lock bit of a region A block (19 Table - System region). -/
def Tag.locked (t : Tag) (b : Nat) : Bool := decide (b < 256) && (t.get (1792 + b / 32)).getLsbD (b % 32)

def Tag.lockedCount (t : Tag) : Nat := (List.range 256).countP t.locked

/-- Recovery (19 R603): the home block takes TEARDATA and the marker is cleared. -/
def Tag.recover (t : Tag) : Tag :=
  if t.marker then { t.put t.tearHome (t.cell blkTearData) with marker := false } else t

/-! ### Field writes (19 R601, R602) -/

/-- The home block of a write or lock, and what it will hold. -/
def Tag.homeOf (t : Tag) (w : FieldWrite) : Nat × Word :=
  if w.isLock then
    let h := 1792 + w.block / 32
    (h, t.get h ||| BitVec.ofNat 32 (2 ^ (w.block % 32)))
  else (w.block, w.data)

/-- The tear row of step 3: TEARDATA, and TEARINFO with FIELDSEQ + 1. -/
def Tag.tearRow (t : Tag) (w : FieldWrite) : Tag :=
  let (h, v) := t.homeOf w
  let info := (t.fieldSeq + 1).toNat * 2 ^ 16 + flag w.isLock 15 + h
  (t.put blkTearData v).put blkTearInfo (BitVec.ofNat 32 info)

/-- Steps 3 to 6 carried through. -/
def Tag.commitWrite (t : Tag) (w : FieldWrite) : Tag :=
  let (h, v) := t.homeOf w
  (t.tearRow w).put h v

/-- The array with every field write received so far carried through: field requests are served in order (19 R598). -/
def Tag.ahead (t : Tag) : Tag := t.writes.foldl Tag.commitWrite t

/-- IRQSTAT TAG_FIELD, while the device is out of reset (05). -/
def State.raiseTag (s : State) : State :=
  if s.released then s.raise .ctl .tagField else s

/-- Step 6 ends: a write to region A sets FIELD_WROTE and TAG_FIELD, rings doorbell 6 and runs the session (19 R601; a
lock is no write to region A, log entry 21). -/
def State.fieldWrote (s : State) (w : FieldWrite) : State :=
  let s := s.setTag fun t => t.commitWrite w
  if w.isLock then s
  else
    let s := s.setTag fun t => { t with
      wrote := t.wrote || s.released
      session := match t.session with
        | some (first, n, _) => some (first, n + 1, s.now)
        | none => some (w.block, 1, s.now) }
    s.raiseTag.ring bellTag

/-! ### The commissioning record (19 R591, R592) -/

/-- Bytes of blocks. -/
def Tag.bytes (t : Tag) (b n : Nat) : List Byte := ((List.range n).map fun k => leBytes 4 (t.get (b + k)).toNat).flatten

/-- A complete record in the slot that starts at block `b`: generation and body. -/
def Tag.record? (t : Tag) (b : Nat) : Option (Half × List Byte) :=
  let head := (t.get (b + 1)).toNat
  let gen := bitsOf head 0 16
  let len := bitsOf head 16 16
  let n := (len + 3) / 4
  if t.get b = 0x52435156 ∧ gen ≠ 0 ∧ 1 ≤ len ∧ len ≤ 2036 then
    let body := t.bytes b (2 + n)
    if t.get (b + 2 + n) = crc32 body then some (BitVec.ofNat 16 gen, (body.drop 8).take len) else none
  else none

/-- The current record. -/
def Tag.current (t : Tag) : Option (Half × List Byte) :=
  match t.record? 0, t.record? 512 with
  | some a, some b => if a.1.toNat < b.1.toNat then some b else some a
  | some a, none => some a
  | none, r => r

/-- The firmware checks both slots (19 R594): a generation not yet reported rings doorbell 6. -/
def State.checkRecord (s : State) : State :=
  if s.engine.up then
    match s.tag.current with
    | none => s
    | some (g, _) =>
      if s.tag.reported = some g then s else (s.setTag fun t => { t with reported := some g }).ring bellTag
  else s

/-! ### Region B (19 R588-R590) -/

/-- A lamp event's 16 bytes. -/
def LampEvent.bytes (e : LampEvent) : List Byte :=
  leBytes 2 e.lamp ++ [e.before, e.after] ++ leBytes 2 e.alarm.toNat ++ [e.flags, 0] ++ leBytes 6 e.stamp.toNat ++
    leBytes 2 e.boot.toNat

/-- Bytes as blocks. -/
def wordsOf : Nat → List Byte → List Word
  | 0, _ => []
  | n + 1, bs => BitVec.ofNat 32 (fieldAt bs 0 4) :: wordsOf n (bs.drop 4)

/-- Blocks 1024 to 1790 as a publish of this instant writes them, then block 1791. -/
def State.regionB (s : State) : List Word :=
  let t := s.tag
  let ev := (t.events.map LampEvent.bytes).flatten
  let version := bytesAt (s.engine.header.getD []) 8 8
  let head := [0x56, 0x51, 0x53, 0x42] ++ leBytes 2 1 ++ leBytes 2 (t.publishes + 1) ++ leBytes 6 s.now.toNat ++
    leBytes 2 s.journal.boot.toNat ++ leBytes 2 0x6A30 ++ leBytes 2 0x4201 ++ version ++ leBytes 4 s.settings.digest.toNat ++ leBytes 2 s.alarmStat.toNat ++
    leBytes 2 t.seqLogged.toNat ++ leBytes 1 t.events.length ++ leBytes 1 s.mode.code ++ leBytes 1 s.pair.role.code ++ [0]
  let body := head ++ List.replicate 24 0 ++ ev ++ List.replicate (512 - ev.length) 0 ++ List.replicate 2492 0
  wordsOf 767 body ++ [crc32 body]

/-- A publish begins (19 R589): the blocks that differ, or all, then block 1791. -/
def State.startPublish (s : State) : State :=
  let all := (s.regionB.zipIdx).map fun x => (1024 + x.2, x.1)
  let list := all.filter fun x => s.tag.whole || decide (x.1 = 1791) || decide (s.tag.get x.1 ≠ x.2)
  s.setTag fun t => { t with
    publishing := some list, publishes := t.publishes + 1, publishedBefore := t.lastPublish
    lastPublish := some (s.settings.digest, s.alarmStat, t.fieldSeq, t.eventsMade) }

/-- The blocks of a publish are written. -/
def Tag.write (t : Tag) (l : List (Nat × Word)) : Tag := l.foldl (fun t x => t.put x.1 x.2) t

/-- A publish that a stop of the engine cuts: some of its blocks are written, how many is a free value (19 "The engine
restarts during a publish", log entry 3). -/
def State.cutPublish (s : State) : State :=
  match s.tag.publishing with
  | none => s
  | some l =>
    let got := s.draw
    let r := got.1
    let s := got.2
    s.setTag fun t => { t.write (l.take (r % l.length)) with publishing := none }

/-- A TAG-PUBLISH that completes with 0x00FF leaves region B and the count as they were (08 R226). -/
def State.undoPublish (s : State) : State :=
  if s.tag.publishing.isSome then
    s.setTag fun t => { t with publishing := none, publishes := t.publishes - 1, lastPublish := t.publishedBefore }
  else s

/-- A lamp event read back from region B. -/
def lampEventOf (bs : List Byte) : LampEvent :=
  { lamp := fieldAt bs 0 2, before := BitVec.ofNat 8 (byteAt bs 2), after := BitVec.ofNat 8 (byteAt bs 3),
    alarm := BitVec.ofNat 16 (fieldAt bs 4 2), flags := BitVec.ofNat 8 (byteAt bs 6),
    stamp := BitVec.ofNat 48 (fieldAt bs 8 6), boot := BitVec.ofNat 16 (fieldAt bs 14 2) }

/-- The first WORK entry after a PROVE (19 R590, R606): the event list continues region B's where its CRC matches, and
field writes that were not watched are recorded. -/
def State.readRegionB (s : State) : State :=
  if !s.tag.firstEntry then s
  else
    let t := s.tag
    let body := t.bytes 1024 767
    let old := (List.range (min 32 (bitsOf (t.get 1033).toNat 0 8))).map fun k => lampEventOf ((body.drop (64 + 16 * k)).take 16)
    let events := if t.get 1791 = crc32 body then (t.events ++ old).take 32 else t.events
    let differs := decide (BitVec.ofNat 16 (bitsOf (t.get 1032).toNat 16 16) ≠ t.fieldSeq)
    let s := s.setTag fun t => { t with firstEntry := false, events := events, seqLogged := t.fieldSeq }
    if differs then
      (s.noteChange s.now).record kConfig (recFlags false s.doubtNow) s.now (configBody 3 4 0xFFFF 0 false 0 s.settings.digest)
    else s

/-! ### Requests (19 R578, R579, R583; ISO/IEC 15693-3 states and flags) -/

/-- The tag carries out a request with these flags in its state. -/
def Tag.hears (t : Tag) (r : TagReq) : Bool :=
  if r.select then decide (t.iso = .selected)
  else if r.address then decide (r.uid = tagUid)
  else decide (t.iso ≠ .quiet)

def State.answer (s : State) (a : TagAnswer) : State := s.setTag fun t => { t with answer := a }

/-- A device-side write programs the array (19 R599); one that waits for field operations does not yet (R598). -/
def Tag.programs (t : Tag) : Bool :=
  t.publishing.isSome || (match t.hostOp with
    | some (.write _ _) => !(t.waited && !t.writes.isEmpty)
    | some (.read _) => false
    | none => false)

/-- A heard request of the supported set: `f` where its format fits its command. -/
def State.tagServe (s : State) (r : TagReq) (f : State → State) : State :=
  if !s.tag.field || !s.tag.hears r then s
  else if !r.format then s.answer (.error 0x02)
  else f s

/-- A block's bytes, behind its status byte where the Option flag asks for it (19 R586). -/
def Tag.readOut (t : Tag) (option : Bool) (b : Nat) : List Byte :=
  (if option then [if t.locked b || decide (1024 ≤ b) then 1 else 0] else []) ++ leBytes 4 (t.get b).toNat

/-- A field read of `n` blocks from `b`, the command reaching blocks up to `top` (19 R578, R583, R599). -/
def State.fieldRead (s : State) (r : TagReq) (b n top : Nat) : State :=
  s.tagServe r fun s =>
    if 64 < n ∨ top < b + n - 1 then s.answer (.error 0x10)
    else if s.tag.programs then s.answer .silent
    else s.answer (.data (((List.range n).map fun k => s.tag.ahead.readOut r.option (b + k)).flatten))

/-- A field write or lock that has passed its checks joins those in progress (19 R598, R601). -/
def State.fieldWriteStart (s : State) (w : FieldWrite) (energy : Bool) : State :=
  if energy then s.setTag fun t => { t with writes := t.writes ++ [w] } else s.answer (.error 0x13)

/-- A field write of block `b`, the command reaching blocks up to `top` (19 R583, R600). -/
def State.fieldWrite (s : State) (r : TagReq) (b top : Nat) (data : Word) (energy : Bool) : State :=
  s.tagServe r fun s =>
    if 1024 ≤ b ∧ b < 1792 then s.answer (.error 0x12)
    else if top < b then s.answer (.error 0x10)
    else if s.tag.fieldLock || s.tag.ahead.locked b then s.answer (.error 0x12)
    else s.fieldWriteStart { block := b, data := data, isLock := false, option := r.option } energy

end Sys2Proof.Machine
end

