-- ==== Sys2Proof/Machine/Shift.lean ====
section
/-!
DEFINITION. Modes (03): what a MODEREQ write is refused for, what each transition does at its request and at its end, what
the engine's stop undoes; and the resets (02 R40-R51, Table - Reset scopes).
-/
namespace Sys2Proof.Machine

/-- The mode of a MODEREQ code, none for 0x8-0xF (03 R64). -/
def modeOf (code : Nat) : Option Mode :=
  match code with
  | 0 => some .hold | 1 => some .load | 2 => some .prove | 3 => some .run
  | 4 => some .trim | 5 => some .vigil | 6 => some .doze | 7 => some .probe
  | _ => none

/-- 03 Table - Legal transitions, between different modes. -/
def legalMove (a b : Mode) : Bool :=
  match a, b with
  | _, .hold => true
  | .hold, .load => true
  | .load, .prove => true
  | .prove, .run => true
  | .prove, .probe => true
  | .run, .trim => true
  | .run, .vigil => true
  | .run, .doze => true
  | .run, .probe => true
  | .trim, .run => true
  | .trim, .vigil => true
  | .trim, .doze => true
  | .vigil, .run => true
  | .vigil, .trim => true
  | .vigil, .doze => true
  | .doze, .run => true
  | .doze, .trim => true
  | .doze, .vigil => true
  | .probe, .run => true
  | _, _ => false

/-- Why a request for another mode is refused while no transition runs (03 Table - Refusal causes in MODENOW): of several
causes ILLEGAL is shown first (DEDUCED, log entry 11). -/
def State.refusal (s : State) (m : Mode) : Option Cause :=
  if !legalMove s.mode m then some .illegal
  else if m = .prove ∧ s.engine.image ≠ .checked then some .noImage
  else if (m = .run ∨ m = .trim ∨ m = .vigil) ∧ s.engine.prove = 3 then some .proveFailed
  else if m = .vigil ∧ s.settings.designated = [] then some .noVigilList
  else if m = .doze ∧ s.pair.formed then some .pairFormed
  else none

/-- The CONFIG record of an accepted MODEREQ write (03 R70), owed until the journal runs again where it is stopped, or
where this write is the HOLD that stops it. -/
def State.modeRecord (s : State) (w : Window) (m : Mode) : State :=
  let s := s.noteChange s.now
  let body := configBody (windowCode w) 1 m.code 0 false 0 s.settings.digest
  let flags := recFlags false s.doubtNow
  if s.engine.up && decide (m ≠ .hold) then s.keepRecord kConfig flags s.now body
  else s.oweRecord { kind := kConfig, flags := flags, boot := 0, stamp := s.now, seq := 0, body := body }

/-- MODE_DONE in each window owed one, as the busy state clears (03 R66, 05 R154). -/
def State.modesDone (s : State) : State :=
  (s.modes.owed.foldl (fun s w => s.raise w .modeDone) s).setModes fun m => { m with
    owed := [], busy := false, draining := false, target := m.mode }

/-! ### Emptying the road -/

/-- Every cell returns, every view, queue and assembler is empty; counts stay (03 R73). -/
def State.emptySluice (s : State) : State :=
  let s := s.eachPort State.dropPartial
  let s := s.sluice.items.foldl (fun s i => s.freeCells i.cells) s
  let s := s.setSluice fun l => { l with
    items := [], alarmWaits := [], views := l.views.map fun v => { v with queue := [], inFlight := [] } }
  s.mapPorts fun q => { q with tx := { q.tx with
      sending := none, group := none, abandoned := [], breachers := [], cut := [], ctsWait := false, terminator := false,
      reorder := [] } }

/-- Every receive side is disarmed, every driver high-impedance and every join open. -/
def State.closePorts (s : State) : State := s.mapPorts fun q => (q.disarm.drive false).join false

/-- Every bus is silent. -/
def State.stopBuses (s : State) : State := s.eachBus State.stopBus

/-! ### RUN entry (02 R58-R63) -/

/-- A used lamp starts UNCONFIRMED with its alarm held (02 R61). -/
def Lamp.restart (l : Lamp) : Lamp := if lampUsed l.row && decide (l.state ≠ stRetired) then l.start else l

/-- Every used lamp starts so; doorbell 1 rings where that changes a STATE (06 Table - Firmware-to-host doorbells). An alarm
that still waits for a cell is committed later, but changes no lamp any more. -/
def State.startLamps (s : State) : State :=
  let moved := s.lamps.toList.any fun l => decide (l.restart.state ≠ l.state)
  let s := (s.mapLamps Lamp.restart).setSluice fun l => { l with
    alarmWaits := (l.alarmWaits.filter fun w => !w.payload.isEmpty).map fun w => { w with move := none } }
  if moved then s.ring bellLamp else s

/-- Every bus that may run joins (15 R461). -/
def State.joinBuses (s : State) : State := s.eachBus fun s b => if s.hedgeOn b then s.beginJoin b else s

/-- A port that acts as a head is awake again after DOZE with what it kept, and with attention for a change (15 R460, R484). -/
def State.resumeHeads (s : State) : State :=
  let a := s.headLamps.1
  let b := s.headLamps.2
  s.mapPorts fun q => if q.rx.rx = .head then
      { q with head := { q.head with mode := .awake, prepared := none, commit := none, lamp1 := a, lamp2 := b
                                     attention := q.head.attention || decide (q.head.lamp1 ≠ a ∨ q.head.lamp2 ≠ b) } }
    else q

/-- A head's own power-up: attention is pending while a lamp is not lit (15 R460). -/
def State.wakeHeads (s : State) : State :=
  let a := s.headLamps.1
  let b := s.headLamps.2
  s.mapPorts fun q => if q.rx.rx = .head then
      { q with head := { HeadRole.reset with lamp1 := a, lamp2 := b, attention := decide (a ≠ 0 ∨ b ≠ 0) } } else q

/-- A scan entry is enabled (08 Table - Scan entry). -/
def State.scanOn (s : State) (i : Fin 16) : Bool := (s.settings.scan.get i).getLsbD 8

/-- The transaction of a scan entry (20 R610; 08 Table - Scan entry): its register pointer is written, high byte first where it
has two, and its bytes are read. -/
def mgmtTransaction (e : BitVec 64) : List MgmtSlot :=
  let v := e.toNat
  let address := bitsOf v 0 8
  let count := bitsOf v 32 8
  let pointer := (if e.getLsbD 9 then [MgmtSlot.send (BitVec.ofNat 8 (bitsOf v 24 8))] else []) ++
    [MgmtSlot.send (BitVec.ofNat 8 (bitsOf v 16 8))]
  [.start, .send (BitVec.ofNat 8 (2 * address))] ++ pointer ++ [.start, .send (BitVec.ofNat 8 (2 * address + 1))] ++
    ((List.range count).map fun k => MgmtSlot.receive (decide (k + 1 < count))) ++ [.stop]

/-- The transaction of the lowest entry due starts, one at a time, at the speed set (20 R612, R613). -/
def State.mgmtStart (s : State) : State :=
  if !s.engineWorks || s.mgmt.stuck || s.mgmt.active.isSome then s
  else match (List.finRange 16).find? fun (i : Fin 16) => s.mgmt.due.getLsbD i.val && s.scanOn i with
    | some i => s.setMgmt fun m => { m with
        active := some i, due := m.due &&& ~~~BitVec.ofNat 16 (2 ^ i.val), slots := mgmtTransaction (s.settings.scan.get i)
        fast := s.settings.mgmtFast }
    | none => s

/-- Enabled scan entries fall due at once (20 R612). -/
def State.dueScan (s : State) : State :=
  (s.setMgmt fun m => { m with due := (List.finRange 16).foldl (fun (d : BitVec 16) (i : Fin 16) =>
    if s.scanOn i then d ||| BitVec.ofNat 16 (2 ^ i.val) else d) 0 }).mgmtStart

/-- An entry's status; a change rings doorbell 7 (20 R616). -/
def State.scanStatus (s : State) (i : Fin 16) (status : Byte) : State :=
  if (s.mgmt.results.get i).status = status then s
  else (s.setMgmt fun m => { m with results := upd m.results i fun r => { r with status := status } }).ring bellMgmt

/-- A MGMT-SET takes effect (20 R612-R614): a disabled entry reads status 4, an enabled one falls due at once. -/
def State.scanSet (s : State) : State :=
  let s := s.setMgmt fun m => { m with setWaits := false }
  let s := (List.finRange 16).foldl (fun (s : State) (i : Fin 16) => if s.scanOn i then s else s.scanStatus i 4) s
  if s.mgmt.stuck then
    (List.finRange 16).foldl (fun (s : State) (i : Fin 16) => if s.scanOn i then s.scanStatus i 3 else s) s
  else s.dueScan

/-- The transaction in progress is broken off; no entry's result changes (20 R613, R618, R620). -/
def State.mgmtStop (s : State) : State :=
  let s := s.setMgmt fun m => { m with active := none }
  if s.mgmt.setWaits then s.scanSet else s

/-- At a DOZE entry the transaction in progress ends early, and its entry is due at the return (20 R620). -/
def State.mgmtPause (s : State) : State :=
  let cut : BitVec 16 := match s.mgmt.active with
    | some i => BitVec.ofNat 16 (2 ^ i.val)
    | none => 0
  s.mgmtStop.setMgmt fun m => { m with due := m.due ||| cut }

/-- RUN entry from PROVE (02 Table - RUN entry, steps 2 to 6). -/
def State.enterRoad (s : State) : State :=
  let s := s.setPorts ((Vector.finRange 48).map fun p =>
    let q := s.port p
    { q with rxRow := s.portRow p, txRow := s.portRow p, rxAdopt := false, txAdopt := false,
             amp := { q.amp with seen := 0 } })
  let s := (s.takeRole.eachPort State.armRx).setJoins
  let s := s.setGovs ((Vector.finRange 256).map fun g =>
    { s.gov g with tokens := (s.weirRow g).full, withheld := [] })
  ((s.takeLampRows.startLamps.driveAll.headsConfigured.joinBuses).wakeHeads).dueScan.readRegionB

/-- What an engine restart leaves of a RUN entry: the device is in PROVE again (07 R221). -/
def State.undoEntry (s : State) : State := (s.emptySluice.closePorts.stopBuses).dropRole .lone

/-! ### HOLD (03 R73-R75, 05 R162, R169, 21 R634) -/

/-- The host's pending pointer of a channel is discarded (05 R162, 06 R198 step 2). -/
def State.abortOut (s : State) (c : Chan) : State :=
  if (s.chan c).outFull then
    (s.setChan c fun r => { r with outFull := false, outAborted := true }).raise (chanWindow c) .mboxAbort
  else s

/-- The engine forgets what it took and what it had to answer (06 R198 step 3, R200). -/
def State.forgetCommands (s : State) : State :=
  let s := s.setEngine fun e => { e with taken := [], accepted := [] }
  let s := s.setSieve fun v => { v with answer := none, waiting := [] }
  let s : State := s.mapBuses fun v => { v with retire := none }
  (s.setChan .n fun r => { r with replies := [] }).setChan .k fun r => { r with replies := [] }

/-- Counters of 21 Table - Counter groups that a requested HOLD clears. -/
def State.clearCounters (s : State) : State :=
  let s := s.setInject fun _ => Inject.reset
  let s := s.mapPorts fun q => { q with tx := { q.tx with breaches := 0, resends := 0, abandons := 0 } }
  let s := s.setGovs (s.govs.map fun g => { g with passes := 0, drops := 0, replaced := 0, deferrals := 0 })
  let s := s.setJournal fun j => { j with
    skipped := 0, eventsDropped := 0, programmed := 0, relocations := 0, scrubs := 0, retired := 0, lossRecords := 0 }
  s.setPair fun p => { p with
    sent := 0, accepted := 0, dropped := 0, duplicates := 0, resent := 0, missing := 0, orphans := 0 }

/-- Records that are not durable are lost; the mount is over (03 R75, 18 R561, R571). -/
def Journal.stop (j : Journal) : Journal :=
  { j with state := 1, mounted := false, staging := none, closed := [], waiting := [], dropped := 0, held := [],
           heldDropped := 0
           nand := j.nand.map fun n => { n with erasing := [], left := none } }

/-- The effects of a requested HOLD. The header store is emptied with IMAGE, whether or not a check was in progress (DESIGN
CHOICE, log entry 143). -/
def State.holdEffects (s : State) : State :=
  let s := (s.abortOut .n).abortOut .k
  let s := s.cutPublish.forgetCommands
  let s := (s.setChan .n fun r => { r with bellOut := 0 }).setChan .k fun r => { r with bellOut := 0 }
  let s := s.setEngine fun e => { e with
    up := false, restarting := false, pmFail := false, image := .none, loadErr := 0, header := none, testEnded := false
    owedBells := 0, shown := none }
  let s := (s.emptySluice.closePorts.stopBuses).dropRole .lone
  let s : State := s.mapPorts fun q => { q with
    rxRetired := false, txRetired := false, parked := false, loop := .off }
  let s := s.setSluice fun l => { l with views := l.views.map fun v => { v with retired := false, parked := false } }
  let s := (s.setSettings fun t => { t with epoch := none }).clearCounters
  let s := s.setJournal Journal.stop
  let s := s.setMgmt fun m => { m with active := none, due := 0, setWaits := false, stuck := false }
  ((s.setModes fun m => { m with draining := false, wokeBell := false }).setCounting false).setDozeEvents []

/-! ### The other transitions -/

/-- PROVE entry: the engine starts from the checked image (03 R76, 07 R214), unless a restart still runs or has stopped it
(05 R155, R176); the first-second counters freeze (02 R57). -/
def State.enterProve (s : State) : State :=
  let s := s.setEngine fun e => { e with
    up := !e.restarting && !e.pmFail, testEnded := false, prove := if e.prove = 3 then 3 else 1
    provePart := if e.prove = 3 then e.provePart else 0 }
  (s.setTag fun t => { t with
    firstEntry := true, whole := true, lastPublish := none, reported := none, events := [], eventsMade := 0 }).setCounting
    false

/-- DOZE entry begins: every receive side stops storing and each partial item is abandoned (03 R86), which is the boundary of
a row that waits. -/
def State.drainForDoze (s : State) : State :=
  let s := s.setModes fun m => { m with draining := true }
  s.eachPort fun s p => ((s.dropPartial p).updPort p fun q => { q with edge := none }).rxBoundary p

/-- What Silt does on the medium while it works (18 R541): the erase of the block that it writes next, the program of the
oldest closed page, or an erase owed. -/
def Nand.work (n : Nand) (closed : List Closing) : Option NandOp :=
  if n.erasing.contains n.block then some .erase
  else if !closed.isEmpty then some .program
  else if !n.erasing.isEmpty then some .erase
  else none

/-- The operation in progress as DOZE comes into force is the last one until the return (18 R570). -/
def Journal.doze (j : Journal) : Journal :=
  { j with nand := j.nand.map fun n => { n with left := if j.mounted ∧ j.state = 0 then n.work j.closed else none } }

/-- DOZE is in force: no role, buses and management bus silent, staging closed, RTS by the wake arming (03 R86-R90, 18
R553, R570). -/
def State.enterDoze (s : State) : State :=
  let drives := decide (s.pair.role = .lone) || decide (s.pair.role = .duty)
  let s := (s.cutAll.stopBuses).dropRole .none
  let s := s.setPair fun p => { p with dozeDrives := drives }
  let s := s.mgmtPause
  let s := s.setJournal fun j => j.doze.close true
  s.mapPorts fun q =>
    { q with edge := none, falls := [], hold := .free, parking := false, keep := 0, armed := false }.setDozeRts

/-- A receive side after DOZE (03 R92): one that received goes on receiving. In VIGIL a parked port stays armed until its
assembler has taken what DOZE stored; an autobaud port that was parked and did not wake hunts (10 R312). -/
def Port.afterDoze (q : Port) (vigil parks : Bool) : Port :=
  let woke := q.armed
  let stays := vigil && parks && decide (0 < q.fifo.length)
  let wasParked := q.parked
  let q := if woke then q else { q with edge := none, falls := [], hold := if q.space then .bit else .free }
  let q : Port := { q with
    parked := q.parked && vigil, unmuted := false, amp := { q.amp with seen := 0 }
    hunting := q.hunting || (q.rx.autobaud && wasParked && !vigil && !woke)
    frameRun := if q.rx.autobaud && wasParked && !vigil && !woke then 0 else q.frameRun
    parking := stays, keep := if stays then q.fifo.length else 0 }
  { q with armed := q.hears && !q.rxRetired && (!q.parked || stays) }.setRts

/-- The return from DOZE (03 R92, R93). Unless it is a return to VIGIL no port is parked any longer. -/
def State.leaveDoze (s : State) : State :=
  let s := s.takeRole.takeLampRows
  let s := s.setJournal fun j => { j with nand := j.nand.map fun n => { n with left := none } }
  let vigil := decide (s.mode = .vigil)
  let s := s.setPorts ((Vector.finRange 48).map fun p => (s.port p).afterDoze vigil (s.parks p))
  let s := if vigil then s
    else s.setSluice fun l => { l with views := l.views.map fun v => { v with parked := false } }
  let s := ((s.startLamps.driveAll.headsConfigured.joinBuses).resumeHeads).mgmtStart
  let s := if s.modes.wokeBell then (s.ring bellWake).setModes fun m => { m with wokeBell := false } else s
  s.tellDozeEvents

/-- A loopback ends: the receive side is armed as at RUN entry (21 R624). -/
def State.endLoop (s : State) (p : PortNo) : State :=
  if (s.port p).loop = .off then s
  else
    let s := s.updPort p fun q => { q with loop := .off }
    let s := if (s.port p).parked then s.updPort p Port.disarm else s.armRx p
    s.updPort p fun q => q.drive (s.driverDue q.txc.tx && !q.hot)

/-- A completion ends an accepted command. -/
def State.complete (s : State) (a : Accepted) (status : Nat) (payload : List Byte) : State :=
  (s.setEngine fun e => { e with accepted := e.accepted.erase a }).reply a.ch a.code.toNat status a.tag payload

/-- The mode set of an accepted command (08 R228). -/
def Work.allowed (w : Work) (m : Mode) : Bool :=
  match w with
  | .format => decide (m = .prove) || decide (m = .probe)
  | .sweep _ _ => decide (m = .probe)
  | .portRetire _ _ _ | .headReturn _ _ _ | .handover | .publish => m.working

/-- Accepted commands whose set the new mode leaves end with 0x00FF, their effect undone (08 R226, R228). -/
def State.abortWork (s : State) (m : Mode) : State :=
  s.engine.accepted.foldl (fun s a =>
    if a.work.allowed m then s
    else
      let s := match a.work with
        | .portRetire p rx tx =>
          let s := s.updPort p fun q => { q with rxRetired := q.rxRetired && !rx, txRetired := q.txRetired && !tx }
          if tx then s.updView (portView p) fun v => { v with retired := false } else s
        | .headReturn b h before => s.updHead b h fun d => { d with state := before }
        | .handover => s.setPair fun p => { p with handover := .none }
        | .format => s.setJournal fun j => { j with state := 3 }
        | .publish => s.undoPublish
        | .sweep _ _ => s
      s.complete a 0x00FF []) s

/-- Leaving PROBE ends every loopback, and clears the slots unless run-time injection is enabled (21 R624, R633). -/
def State.leaveProbe (s : State) : State :=
  let s := s.eachPort State.endLoop
  if s.inject.enabled then s else s.clearSlots

/-- A mode comes into force; the cause then reads NONE unless a later write was refused (03 R66, log entry 30). -/
def State.arrive (s : State) (m : Mode) : State :=
  let old := s.mode
  let s := s.setModes fun r => { r with mode := m, cause := if r.late then r.cause else .none }
  let s := if m = .hold then s else s.abortWork m
  let s := if old = .probe ∧ m ≠ .hold then s.leaveProbe else s
  let s := if old = .doze ∧ m.working then s.leaveDoze else s
  let s := if m = .doze then s.enterDoze else s
  let s := if m = .vigil then s.eachPort fun s p =>
      if s.parks p then (if (s.port p).parked then s else s.park p) else if (s.port p).parked then s.unpark p else s
    else if m = .run ∨ m = .trim then s.eachPort fun s p => if (s.port p).parked then s.unpark p else s
    else s
  let s : State := if old = .vigil ∧ m ≠ .vigil then s.mapPorts fun q => { q with unmuted := false } else s
  s.setJoins.yieldGroups.modesDone

/-- What an accepted request does before its transition ends. -/
def State.depart (s : State) (m : Mode) : State :=
  match m with
  | .hold => s.holdEffects
  | .prove => s.enterProve
  | .run | .probe => if s.mode = .prove then s.enterRoad else s
  | .doze => s.drainForDoze
  | .load | .trim | .vigil => s

/-- A request is accepted: its record, the busy state, and the transition's first effects (03 R65, R70). -/
def State.startMode (s : State) (w : Window) (m : Mode) : State :=
  let s := s.modeRecord w m
  let s := s.setModes fun r => { r with busy := true, target := m, late := false, owed := r.owed ++ [w] }
  s.depart m

/-- A request that ends at once (03 R64, R68, R71). -/
def State.modeAtOnce (s : State) (w : Window) (c : Cause) : State :=
  (s.setModes fun r => { r with cause := c }).raise w .modeDone

/-- A MODEREQ write of `code` (03 R64-R71; 02 R41). While a transition runs, every write but HOLD's gets BUSY, one of an
unknown code or of an illegal move too (DEDUCED, log entry 11). A request for the mode in force is an accepted write:
it has its CONFIG record and counts as a change (DEDUCED, log entry 144). -/
def State.modeReq (s : State) (w : Window) (code : BitVec 4) : State :=
  if !s.busServed then s
  else
    let s := s.setModes fun r => { r with request := code }
    let busy (s : State) : State := s.setModes fun r => { r with cause := .busy, late := true, owed := r.owed ++ [w] }
    if s.power.completing then s.setModes fun r => { r with owed := r.owed ++ [w] }
    else
      match modeOf code.toNat with
      | none => if s.modes.busy then busy s else s.modeAtOnce w .illegal
      | some m =>
        if s.modes.busy then
          if m = .hold then (if s.holding then s.modeRecord w m |>.setModes fun r => { r with late := false, owed := r.owed ++ [w] }
            else s.startMode w .hold)
          else busy s
        else if m = s.mode then (s.modeRecord w m).modeAtOnce w .none
        else match s.refusal m with
          | some c => s.modeAtOnce w c
          | none => s.startMode w m

/-- The transition under way is abandoned by an engine restart (07 R221, 03 "The engine watchdog expires during a
transition"); HOLD needs no engine, and reset completion none. -/
def State.abandonMode (s : State) : State :=
  if s.modes.busy && decide (s.modes.target ≠ .hold) && !s.power.completing then
    let s := if s.entering then s.undoEntry else s
    (s.setModes fun r => { r with cause := .engineRestart }).modesDone
  else s

/-! ### Resets (02 Table - Reset scopes) -/

/-- The reset stamp (05 R179). -/
def stampCells (t : Stamp) : List Host.Cell := Memory.writeList [] resetStampAt (leBytes 6 t.toNat)

/-- A device-side write that has begun completes through a reset (19 R595): the block that a publish is writing, and a host
WRITE that does not wait. -/
def State.landWrites (s : State) : State :=
  let s := s.cutPublish
  match s.tag.hostOp with
  | some (.write b data) =>
    if b < 1024 ∧ !s.tag.locked b ∧ !(s.tag.waited && !s.tag.writes.isEmpty) then s.setTag fun t => t.put b data else s
  | some (.read _) => s
  | none => s

/-- The state a reset leaves, the power block given: the tag's array, the test access port, the lines and the peer's
level stay; memory keeps nothing but the reset stamp (02 R50). -/
def State.resetState (s : State) (p : Power) (stamp : Stamp) : State :=
  let r := State.reset
  { r with
    pending := s.pending, draws := s.draws, power := p, mem := stampCells stamp, jtag := s.jtag
    culvert := { r.culvert with hreset := s.culvert.hreset }
    pair := { r.pair with dutyIn := s.pair.dutyIn }
    ports := (Vector.finRange 48).map fun k => { Port.reset with space := (s.port k).space, cts := (s.port k).cts }
    tag := { Tag.reset with
      blocks := s.tag.blocks, marker := s.tag.marker, iso := s.tag.iso, field := s.tag.field, writes := s.tag.writes
      owes := s.tag.owes, answer := s.tag.answer }
    journal := { r.journal with
      resetOwed := decide (p.lastReset = 3)
      nand := s.journal.nand.map fun (n : Nand) => { n with erasing := [], left := none } } }

/-- A reset, past the device-side writes that complete. -/
def State.afterReset (s : State) (p : Power) (stamp : Stamp) : State := s.landWrites.resetState p stamp

/-- The power block after a reset that keeps the elapsed count: SYSSTAT TALLY_LOST reads its reset value (05) until Tally
has run 1 ms again. -/
def Power.afterReset (p : Power) (cause : BitVec 2) : Power :=
  { p with completing := true, lastReset := cause, tallyLost := true, tallyWasLost := false, pace := 0, paceLow := false, paceGood := 0, temp := 0x8000,
           supplyEvents := 0, audit := 0, vanaWasLost := false,
           vanaSettled := p.vanaGood }

end Sys2Proof.Machine
end

