-- ==== Sys2Proof/Machine/Session.lean ====
section
/-!
DEFINITION. The Culvert's shared acts: the window's advance, the lock and its sessions (04 R119-R133, R141), posting and
clearing of the split registers (05 R146, R147), the load check (07 R209).
-/
namespace Sys2Proof.Machine

/-! ### The memory window -/

def Culvert.address (c : Culvert) : Nat := 4096 * c.winpage.toNat + c.winaddr.toNat

/-- Auto-increment after a completed access, whether or not it succeeded (04 R120, R121). -/
def Culvert.advance (c : Culvert) : Culvert :=
  if !c.autoinc then c
  else if c.winaddr = 0xFFE then { c with winEdge := true }
  else { c with winaddr := c.winaddr + 2 }

def State.dropLine (s : State) : State := s.setCulvert fun c => { c with line := none }

/-- What HD holds at the end of a read cycle. -/
def State.give (s : State) (v : Half) : State := s.setCulvert fun c => { c with hostData := v }

/-- The words from `a` to the next 64-byte boundary (04 R122). -/
def State.fetchLine (s : State) (a : Nat) : List Half :=
  (List.range ((64 - a % 64) / 2)).map fun k => s.fabricWord (a + 2 * k)

/-- The word that a held line gives for `a`. -/
def lineWord (line : Option (Nat × List Half)) (a : Nat) : Option Half :=
  match line with
  | none => none
  | some (b, ws) => if b ≤ a then ws[(a - b) / 2]? else none

/-- The word of a WINDATA read, with the line it leaves held; a read of the firmware data region draws its content anew
(01 R34, log entry 3). -/
def State.windowRead (s : State) : State :=
  let a := s.culvert.address
  match lineWord s.culvert.line a with
  | some v => s.give v
  | none =>
    let line := if s.culvert.readahead then some (a, s.fetchLine a) else none
    let v := s.fabricWord a
    let s := if 0xF8000 ≤ a then s.draw.2 else s
    (s.setCulvert fun c => { c with line := line }).give v

/-- A governor never holds more than 16 x BURST, from the write of its row on (12 R369, 13 Table - Conserved
quantities). -/
def State.capTokens (s : State) (a : Nat) : State :=
  if 0xF5000 ≤ a ∧ a < 0xF6000 then
    let g : GovNo := Fin.ofNat 256 ((a - 0xF5000) / 16)
    s.updGov g fun v => { v with tokens := min v.tokens (s.weirRow g).full }
  else s

/-- A host write of a word that the map permits (04 R128, R141, 07 R212). -/
def State.windowPut (s : State) (a : Nat) (v : Half) : State :=
  let counts := decide (0xF0000 ≤ a) && (decide ((s.maintained a).1 ≠ 0xFF) || decide ((s.maintained (a + 1)).1 ≠ 0xFF))
  let s := (s.hostPutWord a v).capTokens a
  if a < 0x40000 then s.setEngine fun e =>
    if e.image = .checked ∨ e.image = .failed then { e with image := .none, loadErr := 0, header := none } else e
  else if counts then s.setCulvert fun c => { c with sessionWords := c.sessionWords + 1 }
  else s

/-! ### The lock -/

/-- Rows written under a lock come into force: lamp rows at the session's end (16 R681), idle ports, buses and heads at
once. -/
def State.takeRows (s : State) : State :=
  let s := s.setSieve fun v => { v with activeCrc := crc32 (s.memBytes (sieveRowAt v.bankB 0) 8192) }
  if s.engine.up && decide (s.mode ≠ .doze) then
    let s := s.takeLampRows
    let s := s.eachPort fun s p => if s.rowsInForce then (s.rxBoundary p).adoptTx p else s
    s.hedgeRole.headsConfigured
  else s

/-- The end of a lock session in which a write took effect: rows and digest, which need the firmware (08 R233, 12 R353),
and one record (04 R141). -/
def State.endSession (s : State) (pages : Byte) (broken : Bool) : State :=
  let n := s.culvert.sessionWords
  let s := s.setCulvert fun c => { c with sessionWords := 0 }
  if n = 0 then s
  else
    let s := s.noteChange s.now
    let s := if s.mode.stopped then s else s.takeRows.newDigest
    s.keepRecord kConfig (recFlags false s.doubtNow) s.now (configBody 1 3 0 pages.toNat broken n s.settings.digest)

/-- A lock is broken; `cause` is LOCKCTL BREAK (04 R132). A pending request that an HRESET or an engine restart abandons
counts as broken too: LOCK_BROKEN is raised and BREAK set for it as well (DESIGN CHOICE, log entry 141). -/
def State.breakLock (s : State) (cause : BitVec 2) : State :=
  if s.culvert.lock = .idle then s
  else
    let pages := s.culvert.pages
    ((s.setCulvert fun c => { c with lock := .idle, brk := cause }).raise .ctl .lockBroken).endSession pages true

/-- A LOCKCTL write (04 R124, R126, R127, 05 R163-R165). -/
def State.lockCtl (s : State) (v : Half) : State :=
  let request := v.getLsbD 15
  let release := v.getLsbD 14
  let pages : Byte := v.setWidth 8
  let s := s.dropLine
  if request then
    if release || decide (pages = 0) || decide (s.culvert.lock ≠ .idle) then s.culvertFail .lockState
    else s.setCulvert fun c => { c with
      lock := .pending, pages := pages, timeout := (v >>> 8).setWidth 2, brk := 0, sessionWords := 0 }
  else if release then
    match s.culvert.lock with
    | .idle => s.culvertFail .lockState
    | .pending => s.setCulvert fun c => { c with lock := .idle }
    | .granted => (s.setCulvert fun c => { c with lock := .idle }).endSession s.culvert.pages false
  else s

/-! ### Split registers -/

/-- MBOXSTAT bits written as 1 (05, 06 R202): clearing IN_ABORTED posts the held pointer again. -/
def State.clearMbox (s : State) (c : Chan) (v : Half) : State :=
  let again := v.getLsbD 12 && (s.chan c).inAborted
  let s := s.setChan c fun r => { r with
    outAborted := r.outAborted && !v.getLsbD 13, inAborted := r.inAborted && !v.getLsbD 12
    outRefused := r.outRefused && !v.getLsbD 11 }
  match again, (s.chan c).repost with
  | true, some w => (s.setChan c fun r => { r with mboxIn := w, inFull := true, repost := none }).raise
      (chanWindow c) .mboxFull
  | _, _ => s

/-- A commit to MBOXOUT (05 R161, Table - Registers by mode). -/
def State.postOut (s : State) (c : Chan) (w : Word) : State :=
  s.setChan c fun r =>
    if r.outFull || s.engineOff then { r with outRefused := true }
    else { r with mboxOut := w, outFull := true }

def State.splitLow (s : State) (c : Chan) (reg : SplitReg) (v : Half) : State :=
  s.setChan c fun r => match reg with
    | .bellOut => { r with stBellOut := v }
    | .bellIn => { r with stBellIn := v }
    | .bellMsk => { r with stBellMsk := v }
    | .mboxOut => { r with stMboxOut := v }

/-- The high part commits with the staged low part, and the staging is cleared (05 R147, R159); a ring of RELEASE covers
every message taken by then (06 R187). -/
def State.splitHigh (s : State) (c : Chan) (reg : SplitReg) (v : Half) : State :=
  match reg with
  | .bellOut => s.setChan c fun r => { r with
      bellOut := r.bellOut ||| r.stBellOut.setWidth 8, stBellOut := 0
      slots := if r.stBellOut.getLsbD 4 then r.slots.map fun x => if x = .taken then .rung else x else r.slots }
  | .bellIn => s.setChan c fun r => { r with bellIn := r.bellIn &&& ~~~(v ++ r.stBellIn : Word), stBellIn := 0 }
  | .bellMsk => s.setChan c fun r => { r with bellMsk := (v ++ r.stBellMsk : Word), stBellMsk := 0 }
  | .mboxOut => (s.postOut c (v ++ (s.chan c).stMboxOut : Word)).setChan c fun r => { r with stMboxOut := 0 }

/-! ### The load check (07 R209) -/

/-- LOADERR of a header and the body in program memory, 0 where every check passes. -/
def State.loadError (s : State) (h : List Byte) : BitVec 4 :=
  let len := fieldAt h 0x14 4
  if h.take 4 ≠ [0x42, 0x4C, 0x54, 0x4E] then 1
  else if fieldAt h 4 2 ≠ 1 then 2
  else if fieldAt h 0x3C 4 ≠ (crc32 (h.take 0x3C)).toNat then 3
  else if len = 0 ∨ 262144 < len ∨ len % 4 ≠ 0 then 4
  else if fieldAt h 0x10 4 ≠ 0 ∨ len ≤ fieldAt h 0x18 4 ∨ fieldAt h 0x18 4 % 4 ≠ 0 then 6
  else if fieldAt h 0x1C 4 ≠ (crc32 (s.memBytes 0 len)).toNat then 5
  else 0

/-- Program memory fails its check against the header store (07 R217, R220). -/
def State.programBad (s : State) : Bool :=
  match s.engine.header with
  | none => true
  | some h => decide (fieldAt h 0x1C 4 ≠ (crc32 (s.memBytes 0 (fieldAt h 0x14 4))).toNat)

end Sys2Proof.Machine
end

