-- ==== Sys2Proof/Machine/Serve.lean ====
section
/-!
DEFINITION. How the firmware serves a command of the catalogue (08 R222-R230): the message taken first, its mode set, its
fields, and its one reply.
-/
namespace Sys2Proof.Machine

/-- A field: its size, its least and its largest value. -/
structure Fld where
  size : Nat
  low  : Nat
  high : Nat

/-- A field of `n` bytes that may hold anything. -/
def anyFld (n : Nat) : Fld := { size := n, low := 0, high := 2 ^ (8 * n) - 1 }
def upTo (n h : Nat) : Fld := { size := n, low := 0, high := h }
def range (n l h : Nat) : Fld := { size := n, low := l, high := h }

/-- The offset of the first field from `pos` on that is cut short or out of its range (08 R223). -/
def fieldsFault : Nat → List Fld → List Byte → Option Nat
  | _, [], _ => none
  | pos, f :: r, bs =>
    if bs.length < pos + f.size then some pos
    else if fieldAt bs pos f.size < f.low ∨ f.high < fieldAt bs pos f.size then some pos
    else fieldsFault (pos + f.size) r bs

def fieldsSize (l : List Fld) : Nat := l.foldl (fun a f => a + f.size) 0

/-- The same for a payload of exactly these fields; a longer one is rejected at its first byte beyond them. -/
def exactFault (l : List Fld) (bs : List Byte) : Option Nat :=
  match fieldsFault 0 l bs with
  | some o => some o
  | none => if fieldsSize l < bs.length then some (fieldsSize l) else none

/-- Mode sets (08 Table - Mode sets); ALL is where the firmware serves at all. -/
def inAll (_ : State) : Bool := true
def inWork (s : State) : Bool := s.mode.working
def inSetup (s : State) : Bool := decide (s.mode = .prove) || decide (s.mode = .probe)
def inDiag (s : State) : Bool := s.injectOn
def inProbe (s : State) : Bool := decide (s.mode = .probe)

/-- The reply of a command. -/
def State.done (s : State) (m : Msg) (code : Nat) (payload : List Byte) : State := s.reply m.ch code 0 m.tag payload
def State.refused (s : State) (m : Msg) (code status : Nat) : State := s.reply m.ch code status m.tag []
/-- Status 0x0010 with the offset of the first rejected field. -/
def State.badAt (s : State) (m : Msg) (code offset : Nat) : State := s.reply m.ch code 0x0010 m.tag (leBytes 2 offset)

/-- A change command completes: it is recorded (08 R230) and answered. -/
def State.changed (s : State) (m : Msg) (code : Nat) (payload : List Byte) : State :=
  (s.configChange m.ch code).done m code payload

/-- The command that this taken message is. -/
def Taken.asks (t : Taken) (m : Msg) (code : Nat) : Bool :=
  !t.malformed && decide (t.ch = m.ch) && decide (t.code = BitVec.ofNat 16 code) && decide (t.tag = m.tag) &&
  decide (t.payload = m.payload)

/-- A command that was served still waits to reply: a Sieve command for a bank copy (12 R363, R364), or a HEAD-RETIRE for
the end of an exchange (15 R482). The next command taken waits behind it (06 R189, 08 R227). -/
def State.replyHeld (s : State) : Bool :=
  s.sieve.answer.isSome || !s.sieve.waiting.isEmpty || s.buses.toList.any fun v => v.retire.isSome

/-- Malformed messages are answered in their turn (06 R189, R190). -/
def State.answerMalformed (s : State) : State :=
  if !s.serves || s.replyHeld then s
  else
    let bad := s.engine.taken.takeWhile fun t => t.malformed
    bad.foldl (fun s t => s.reply t.ch 0 0x0010 0 [])
      (s.setEngine fun e => { e with taken := e.taken.dropWhile fun t => t.malformed })

/-- The instant at which the firmware took the command that is served next, and whether it is in doubt. -/
def State.takenAt (s : State) : Stamp × Bool :=
  match s.engine.taken.find? fun t => !t.malformed with
  | some t => (t.stamp, t.doubt)
  | none => (s.now, s.doubtNow)

/-- Serves the command if it is the next one taken: wrong mode first, then the fields, then `f` (log entry 26). -/
def State.serve (s : State) (m : Msg) (code : Nat) (modes : State → Bool) (check : List Byte → Option Nat)
    (f : State → List Byte → State) : State :=
  let s := s.answerMalformed
  match s.engine.taken with
  | [] => s
  | t :: rest =>
    if s.serves && !s.replyHeld && t.asks m code then
      let s := s.setEngine fun e => { e with taken := rest }
      if !modes s then s.refused m code 0x0011
      else match check m.payload with
        | some o => s.badAt m code o
        | none => f s m.payload
    else s

/-- An ACCEPTED command: its reply, and what it waits for (06 R189). -/
def State.accept (s : State) (m : Msg) (code : Nat) (w : Work) : State :=
  (s.setEngine fun e => { e with
    accepted := e.accepted ++ [{ ch := m.ch, code := BitVec.ofNat 16 code, tag := m.tag, work := w }] }).reply m.ch code
    0x0001 m.tag []

/-- An accepted command whose work fits. -/
def State.working? (s : State) (f : Work → Bool) : Option Accepted := s.engine.accepted.find? fun a => f a.work

/-- Status 0x0012: an accepted command touches the port, or the port of the view, or the head, or the journal (08 Table -
Status codes). -/
def State.portBusy (s : State) (p : Nat) : Bool :=
  (s.working? fun w => match w with
    | .portRetire q _ _ => decide (q.val = p)
    | .sweep q _ => decide (q.val = p)
    | .headReturn b _ _ => decide ((s.busRow b).master = p)
    | .handover | .format | .publish => false).isSome

def State.headBusy (s : State) (b : BusNo) (h : HeadNo) : Bool :=
  (s.working? fun w => match w with
    | .headReturn c k _ => decide (c = b) && decide (k = h)
    | .portRetire _ _ _ | .sweep _ _ | .handover | .format | .publish => false).isSome

def State.formatBusy (s : State) : Bool := (s.working? fun w => decide (w = .format)).isSome
def State.publishBusy (s : State) : Bool := (s.working? fun w => decide (w = .publish)).isSome
def State.handoverBusy (s : State) : Bool := (s.working? fun w => decide (w = .handover)).isSome

/-- A granted lock covers the page of this address (04 R129). -/
def State.lockedAt (s : State) (a : Nat) : Bool := s.culvert.locks a

def portOf (n : Nat) : PortNo := Fin.ofNat 48 n

end Sys2Proof.Machine
end

