-- ==== Sys2Proof/Machine/Assemble.lean ====
section
/-!
DEFINITION. The assembler (11 R319-R334): its states, what it stores, how an item or a fragment ends, what a port-0
injection does to an item (21 R628-R632); and HOST-INJECT (08 R247).
-/
namespace Sys2Proof.Machine

/-- '\', '$' or '!'. -/
def isOpener (b : Byte) : Bool := isStart b || b = chBack

/-- An entry of the receive FIFO carries one of these tags (10 Table - FIFO entry). -/
def Entry.tagged (e : Entry) (mask : Nat) : Bool := e.bits &&& BitVec.ofNat 16 mask ≠ 0
def Entry.char (e : Entry) : Byte := e.bits.setWidth 8
/-- FRAME, PARITY or NOISE. -/
def Entry.faulty (e : Entry) : Bool := e.tagged 0x0E00
def Entry.afterLoss (e : Entry) : Bool := e.tagged 0x2000
def Entry.isBreak (e : Entry) : Bool := e.tagged 0x1000
def Entry.woke (e : Entry) : Bool := e.tagged 0x8000

def State.updStats (s : State) (p : PortNo) (f : PortStats → PortStats) : State :=
  s.updPort p fun q => { q with stats := f q.stats }

/-- FLAWED of PORT-STATS. -/
def PortStats.flaw (t : PortStats) (b : Bool) : PortStats :=
  { t with flawed := satAdd top32 t.flawed (if b then 1 else 0) }

/-! ### What an ended item is (11 R328-R334) -/

/-- What the checks find: the flags of w0 (WOKE and INJECTED apart) and whether a checksum failed. -/
structure Checked where
  flags   : Byte
  flawed  : Bool
  bad     : Bool
  starred : Bool
  deriving DecidableEq, Repr

def flagIf (b : Bool) (f : Byte) : Byte := if b then f else 0

/-- The checks of an item; `flaw` says that something else made it FLAWED, `nostar` that a missing checksum does. -/
def checkItem (source : Byte) (tagLen : Nat) (payload : List Byte) (flaw nostar : Bool) : Checked :=
  let sent := payload.drop tagLen
  let star := hasStar sent
  let good := star && checksumOk sent
  let tag := decide (tagLen ≠ 0)
  let tagBad := tag && !tagOk (payload.take tagLen)
  let flawed := flaw || (star && !good) || tagBad || (!star && nostar)
  let cont := match groupOf source tagLen payload with
    | some (_, x, y) => decide (x < y)
    | none => false
  { flags := flagIf flawed flFlawed ||| flagIf good flCkOk ||| flagIf tag flTag ||| flagIf cont flCont
    flawed := flawed, bad := (star && !good) || tagBad, starred := star }

/-! ### Ends -/

/-- One more item of the port has ended: an item held before, from a number below `id`, goes on if it was the last it
waited for (21 R630). -/
def State.countHeld (s : State) (p : PortNo) (id : Nat) : State :=
  let mine := s.sluice.items.filter fun i => decide (i.source.toNat = p.val) && decide (i.id < id)
  mine.foldl (fun s i =>
    match i.place with
    | .reorder k n =>
      if n ≤ 1 then s.releaseItem i else s.updItem i.id fun i => { i with place := .reorder k (n - 1) }
    | .ended | .deferred _ | .committed => s) s

/-- The firing slot of point 0 acts on the item that has ended; `struck` says that a character was corrupted. Answers the
item's place, or none where it is dropped (21 Table - Injection points and faults, R630, R632). -/
def State.injectEnd (s : State) (p : PortNo) (struck : Bool) : State × Option (Place × Bool) :=
  let got := s.injectAt 0 p.val (fun f => decide (f ≤ 2))
  let s := got.2
  match got.1 with
  | none => (s, some (.ended, struck))
  | some k =>
    let sl := s.inject.slots.get k
    if sl.fault = 0 then (s.injectCount k, none)
    else if sl.fault = 1 then (if struck then s.injectCount k else s, some (.ended, struck))
    else if s.sluice.items.any fun i => i.heldBy k then (s, some (.ended, struck))
    else (s.injectCount k, some (if sl.k = 0 then .ended else .reorder k sl.k.toNat, true))

/-- The assembler is in HUNT with nothing held; the port's boundary has come. -/
def State.huntAgain (s : State) (p : PortNo) : State :=
  (s.updAsm p fun _ => Asm.reset).rxBoundary p

/-- The item joins those that wait for the Sieve. -/
def State.addItem (s : State) (a : Asm) (source : Byte) (flags : Byte) (place : Place) : State :=
  let i := freshItem s.sluice.nextId a.cells a.chars a.tagLen source a.stamp a.doubt flags
  s.setSluice fun l => { l with nextId := l.nextId + 1, items := l.items ++ [{ i with place := place }] }

/-- A fragment ends (11 R323): its cells return, and FLAWED counts it unless it was VOID. -/
def State.endFragment (s : State) (p : PortNo) : State :=
  let a := (s.port p).asm
  ((s.freeCells a.cells).updStats p fun t => t.flaw (!a.void)).huntAgain p

/-- An item ends; `cut` says that it ended under R322, R324, R325 or R326. -/
def State.endItem (s : State) (p : PortNo) (cut : Bool) : State :=
  let q := s.port p
  let a := q.asm
  if a.void then (s.freeCells a.cells).huntAgain p
  else
    let source := BitVec.ofNat 8 p.val
    let c := checkItem source a.tagLen a.chars (a.flawed || cut) (decide (q.rx.nocksum ≠ 0))
    let dropped := !c.starred && decide (q.rx.nocksum = 2)
    let id := s.sluice.nextId
    if dropped then
      let got := s.injectAt 0 p.val (fun f => decide (f ≤ 2))
      let s := match got.1 with
        | some k => if a.injected then got.2.injectCount k else got.2
        | none => got.2
      let s := (s.freeCells a.cells).updStats p fun t => { t with sentences := satAdd top32 t.sentences 1 }
      (s.countHeld p id).huntAgain p
    else
      let got := s.injectEnd p a.injected
      let s := got.1
      match got.2 with
      | none => (((s.freeCells a.cells).updStats p fun t => t.flaw c.flawed).countHeld p id).huntAgain p
      | some (place, marked) =>
        let s := s.updStats p fun t => { (t.flaw c.flawed) with
          sentences := satAdd top32 t.sentences 1, checksum := satAdd top32 t.checksum (if c.bad then 1 else 0) }
        let flags := c.flags ||| flagIf marked flInjected ||| flagIf a.woke flWoke
        ((s.addItem a source flags place).countHeld p id).huntAgain p

/-- No cell is to be had for the item (13 R388). -/
def State.failCell (s : State) (p : PortNo) : State :=
  let a := (s.port p).asm
  (((s.freeCells a.cells).countNoCell).updStats p fun t => t.flaw (!a.void)).huntAgain p

/-! ### Storing -/

/-- The steps of the item's amplitude (09 R275): 6 dB on a talker port; STEPS stands while VALID is 0 (R273). -/
def Amp.hear (a : Amp) (first : Bool) (reading : Option Byte) (valid : Bool) : Amp :=
  if first then { a with ref := reading, stepped := false }
  else
    match a.ref, reading with
    | some f, some r =>
      if valid && !a.stepped && decide (f.toNat ^ 20 * 10 ^ 6 < r.toNat ^ 20) then
        { a with stepped := true, steps := BitVec.ofNat 8 (satAdd 255 a.steps.toNat 1) }
      else a
    | _, _ => a

/-- The character joins the payload, in the cell it falls in (13 R386); none where no cell is to be had. -/
def State.storeChar (s : State) (p : PortNo) (e : Entry) (b : Byte) : Option State :=
  let a := (s.port p).asm
  let n := a.chars.length
  let got := if n = 0 ∨ n = 104 ∨ n = 228 then
      match s.takeCell false with
      | none => none
      | some (c, s) =>
        let cells := a.cells ++ [c]
        some (((if n = 0 then s else s.putLinks cells)).updAsm p fun a => { a with cells := cells })
    else some s
  match got with
  | none => none
  | some s =>
    let s := s.updAsm p fun a => { a with
      chars := a.chars ++ [b], flawed := a.flawed || e.faulty || (decide (n ≠ 0) && e.afterLoss) }
    let valid := e.valid && s.ampValid p
    let s := s.updPort p fun q => { q with amp := q.amp.hear (decide (n = 0)) e.reading valid }
    let cells := (s.port p).asm.cells
    some (s.putByte (payloadAt cells n) b)

/-- Stores the character and goes on in state `st`. -/
def State.storeTo (s : State) (p : PortNo) (e : Entry) (b : Byte) (st : AsmState) : State :=
  match s.storeChar p e b with
  | none => s.failCell p
  | some s => s.updAsm p fun a => { a with state := st }

/-- An opener begins an item (11 R319, R339), if the port's boundary left it receiving. -/
def State.beginItem (s : State) (p : PortNo) (e : Entry) (b : Byte) : State :=
  if !(s.port p).armed || !(s.port p).talks then s
  else
    let s := s.updAsm p fun _ => { Asm.reset with stamp := e.stamp, doubt := e.doubt, woke := e.woke }
    s.storeTo p e b (if b = chBack then .tag else .sentence)

/-! ### The transitions (11 Table - Assembler states, R322-R326) -/

/-- The characters of the item's sentence so far. -/
def Asm.sentLen (a : Asm) : Nat := a.chars.length - a.tagLen

/-- A character in TAG: the closing '\', a start character, the 80th character, or one of the block. -/
def State.takeTag (s : State) (p : PortNo) (e : Entry) (b : Byte) : State :=
  let n := (s.port p).asm.chars.length
  if b = chBack then (s.storeTo p e b .afterTag).updAsm p fun a =>
    if a.state = .afterTag then { a with tagLen := a.chars.length } else a
  else if isStart b then (s.endFragment p).beginItem p e b
  else if n = 79 then s.endFragment p
  else s.storeTo p e b .tag

/-- A character in SENTENCE. -/
def State.takeSentence (s : State) (p : PortNo) (e : Entry) (b : Byte) : State :=
  if isOpener b then (s.endItem p true).beginItem p e b
  else
    match s.storeChar p e b with
    | none => s.failCell p
    | some s =>
      if b = chLf ∨ 82 ≤ (s.port p).asm.sentLen then s.endItem p true
      else s.updAsm p fun a => { a with state := if b = chCr then .awaitLf else .sentence }

/-- A character in AWAIT-LF. -/
def State.takeAwait (s : State) (p : PortNo) (e : Entry) (b : Byte) : State :=
  if b = chLf then
    match s.storeChar p e b with
    | none => s.failCell p
    | some s => s.endItem p false
  else
    let s := s.endItem p true
    if isOpener b then s.beginItem p e b else s

/-- One entry through the assembler, its character being `b`. -/
def State.assemble (s : State) (p : PortNo) (e : Entry) (b : Byte) : State :=
  match (s.port p).asm.state with
  | .hunt => if e.isBreak then s else if isOpener b then s.beginItem p e b else s
  | .tag => if e.isBreak then s.endFragment p else s.takeTag p e b
  | .afterTag =>
    if e.isBreak then s.endFragment p
    else if isStart b then s.storeTo p e b .sentence
    else
      let s := s.endFragment p
      if b = chBack then s.beginItem p e b else s
  | .sentence => if e.isBreak then s.endItem p true else s.takeSentence p e b
  | .awaitLf => if e.isBreak then s.endItem p true else s.takeAwait p e b

/-- A point-0 corruption of this character (21 R628): the slot that will fire at the item's end, and the character's place
after the start character. -/
def State.corrupts (s : State) (p : PortNo) (e : Entry) : Option Nat :=
  let a := (s.port p).asm
  if e.isBreak || decide (a.state ≠ .sentence ∧ a.state ≠ .awaitLf) || a.void then none
  else
    match s.injectPeek 0 p.val (fun f => decide (f ≤ 2)) with
    | none => none
    | some k =>
      let sl := s.inject.slots.get k
      if sl.fault = 1 ∧ sl.k.toNat = a.sentLen then some sl.bit.toNat else none

/-- The assembler takes the oldest entry; a port at its boundary with nothing left goes on as it must. -/
def State.assembleOne (s : State) (p : PortNo) : State :=
  match (s.port p).fifo with
  | [] => s
  | e :: rest =>
    let s := s.updPort p fun q => { q with fifo := rest, keep := q.keep - 1 }.setRts
    let s := match s.corrupts p e with
      | some bit => (s.updAsm p fun a => { a with injected := true }).assemble p e (flipBit e.char bit)
      | none => s.assemble p e e.char
    s.rxBoundary p

/-- 11 R319: the assembler of a talking port takes one entry; the assemblers run while the road does (03 R86, R90). -/
def execAssemblerTake (port : PortNo) (s : State) : Host.Outcome State Fault Refusal :=
  if s.roadRuns && !s.modes.draining && (s.port port).talks then .next (s.assembleOne port) else .next s

/-! ### HOST-INJECT (08 R247) -/

/-- The length of a TAG block at the head of these bytes, 0 without one. -/
def tagLenOf (bs : List Byte) : Nat :=
  if bs.head? = some chBack then
    let rest := bs.drop 1
    if rest.contains chBack then 2 + (rest.takeWhile fun b => b ≠ chBack).length else 0
  else 0

/-- An assembler would have ended these bytes early or not have begun them (11 R319-R325, log entry 29). -/
def oddShape (tagLen : Nat) (bs : List Byte) : Bool :=
  let sent := bs.drop tagLen
  let body := (sent.drop 1).take (sent.length - 3)
  let ends := sent.drop (sent.length - 2)
  !(sent.head?.any isStart) || decide (80 < tagLen) || decide (82 < sent.length) || decide (sent.length < 3) ||
    decide (ends ≠ [chCr, chLf]) || body.any fun b => isOpener b || decide (b = chCr) || decide (b = chLf)

/-- 08 R247: HOST-INJECT, stamped at the take. -/
def execHostInject (msg : Msg) (s : State) : Host.Outcome State Fault Refusal :=
  let taken := s.takenAt
  .next (s.serve msg 0x040A inWork (fun bs => if bs = [] then some 0 else if 352 < bs.length then some 352 else none)
    fun s bs =>
      if s.pair.formed && decide (s.pair.role = .standby) then s.refused msg 0x040A 0x0014
      else
        let n := tagLenOf bs
        let c := checkItem 0x42 n bs (oddShape n bs) true
        match s.newItem bs n 0x42 taken.1 taken.2 c.flags false with
        | none => s.refused msg 0x040A 0x0015
        | some (id, s) =>
          let got := s.decideItem id none
          let s := got.1
          let rule := got.2.1
          let outcome := got.2.2
          s.done msg 0x040A (leBytes 2 rule ++ leBytes 2 outcome))

end Sys2Proof.Machine
end

