-- ==== Sys2Proof/Machine/TagHost.lean ====
section
/-!
DEFINITION. The Quickset tag's host port (05 R170-R173, 19 R595-R598).
-/
namespace Sys2Proof.Machine

/-- An operation of the host port that takes no array time ends at once (19 R596). -/
def State.tagEnd (s : State) (err : BitVec 4) : State :=
  (s.setTag fun t => { t with busy := false, done := true, waited := false, err := err, hostOp := none }).raiseTag

/-- A TAGCTL write with GO (05 R170). -/
def State.tagGo (s : State) (op : BitVec 3) : State :=
  if !s.busServed then s
  else
    let s := s.setTag fun t => { t with op := op }
    if s.tag.busy then s
    else
      let wait := !s.tag.writes.isEmpty
      match op with
      | 0 => s.setTag fun t => { t with
          busy := true, err := 0, waited := wait, hostOp := some (.read t.block.toNat) }
      | 1 => s.setTag fun t => { t with
          busy := true, err := 0, waited := wait, hostOp := some (.write t.block.toNat t.buffer) }
      | 2 => (s.setTag fun t => { t with fieldLock := true }).tagEnd 0
      | 3 => (s.setTag fun t => { t with fieldLock := false }).tagEnd 0
      | _ => s.tagEnd 4

/-- 05 R171: GO with OP READ. -/
def execTagHostRead (s : State) : Host.Outcome State Fault Refusal := .next (s.tagGo 0)

/-- 05 R171: GO with OP WRITE. -/
def execTagHostWrite (s : State) : Host.Outcome State Fault Refusal := .next (s.tagGo 1)

/-- 19 R596: GO with OP LOCK sets FIELD-LOCK. -/
def execTagLock (s : State) : Host.Outcome State Fault Refusal := .next (s.tagGo 2)

/-- 05 R173: GO with OP UNLOCK clears FIELD-LOCK. -/
def execTagUnlock (s : State) : Host.Outcome State Fault Refusal := .next (s.tagGo 3)

/-- 05 R170: GO with a reserved OP ends with ERR BAD-OP. -/
def execTagBadOp (op : BitVec 3) (s : State) : Host.Outcome State Fault Refusal := .next (s.tagGo op)

/-- The end of a host WRITE (05 R171, 19 R595): its error, and what the block then holds. A block whose read-back did not
match holds a free value (log entry 3). -/
def State.tagWriteEnd (s : State) (b : Nat) (data : Word) (verified : Bool) : State :=
  if 1024 ≤ b then s.tagEnd 1
  else if s.tag.locked b then s.tagEnd 2
  else if verified then ((s.setTag fun t => t.put b data).tagEnd 0).checkRecord
  else
    let got := s.draw
    let r := got.1
    let s := got.2
    ((s.setTag fun t => t.put b (BitVec.ofNat 32 r)).tagEnd 3).checkRecord

/-- 05 R170-R172, 19 R595, R598: the host operation ends, after any field operation it waits for. -/
def execTagHostOpDone (verified : Bool) (s : State) : Host.Outcome State Fault Refusal :=
  match s.tag.hostOp with
  | none => .next s
  | some op =>
    if s.tag.waited && !s.tag.writes.isEmpty then .next s
    else
      let waited := s.tag.waited
      let s := match op with
        | .read b =>
          let got := s.tagRead b
          let v := got.1
          let s := got.2
          (s.setTag fun t => { t with buffer := v }).tagEnd 0
        | .write b data => s.tagWriteEnd b data verified
      .next (s.setTag fun t => { t with waited := waited })

end Sys2Proof.Machine
end

