-- ==== Sys2Proof/Machine/Culvert.lean ====
section
/-!
DEFINITION. Host accesses (04, 05): the registers, the memory window, the lock, HRESET and the load check.
-/
namespace Sys2Proof.Machine

/-- An access of the served bus: nothing happens while bus cycles are ignored (04 R137). -/
def State.onBus (s : State) (f : State → State) : State := if s.busServed then f s else s

/-- 04 R138, 05 R148, R165, 06 R201: what the assertion of HRESET does to the host-facing side. -/
def State.hostReset (s : State) : State :=
  let s := s.breakLock 2
  let s := s.setCulvert fun c => { c with
    irqmask := 0, kirqmask := 0, winpage := 0, winaddr := 0, autoinc := true, readahead := false, winEdge := false
    more := false, errcause := .none, line := none, pages := 0, timeout := 0, elapsedLatch := 0
    brk := if c.brk = 2 then 2 else 0, hreset := true }
  let side (s : State) (c : Chan) : State :=
    let s := s.setChan c fun r => { r with
      bellMsk := 0, stBellOut := 0, stBellIn := 0, stBellMsk := 0, stMboxOut := 0, laBellOut := 0, laBellIn := 0
      laBellMsk := 0, laMboxOut := 0, laMboxIn := 0 }
    if (s.chan c).inFull then
      (s.setChan c fun r => { r with repost := some r.mboxIn, mboxIn := 0, inFull := false, inAborted := true }).raise
        (chanWindow c) .mboxAbort
    else s
  side (side s .n) .k

/-- 04 R138: HRESET is asserted. BREAK of an older break is cleared where no lock is found (05 R165). -/
def execHresetAssert (s : State) : Host.Outcome State Fault Refusal :=
  if s.culvert.hreset then .next s
  else if s.released then
    .next (State.hostReset (if s.culvert.lock = .idle then s.setCulvert fun c => { c with brk := 0 } else s))
  else .next (s.setCulvert fun c => { c with hreset := true })

/-- 04 R137: HRESET falls. -/
def execHresetRelease (s : State) : Host.Outcome State Fault Refusal :=
  .next (s.setCulvert fun c => { c with hreset := false })

/-- 04 R111, R112: an access ends at 64 µs with cause TIMEOUT; a read returns 0xFFFF. -/
def execCulvertTimeout (kind : AccessKind) (s : State) : Host.Outcome State Fault Refusal :=
  .next (s.onBus fun s =>
    let s := s.culvertFail .timeout
    match kind with
    | .regRead => s.give 0xFFFF
    | .dataRead => ((s.give 0xFFFF).dropLine).setCulvert Culvert.advance
    | .dataWrite => s.dropLine.setCulvert Culvert.advance
    | .regWrite | .lockWrite => s)

/-- 04 R114: a clash. -/
def execClash (kind : ClashKind) (s : State) : Host.Outcome State Fault Refusal :=
  .next (s.onBus fun s =>
    let s := s.culvertFail .clash
    match kind with
    | .selectsRead => s.give 0xFFFF
    | .selectsWrite | .strobes => s)

/-- 04 R108: an access that has not been issued is abandoned without side effect. -/
def execAccessAbandoned (_kind : AccessKind) (s : State) : Host.Outcome State Fault Refusal := .next s

/-- 05 IRQSTAT, R144, R157. -/
def State.clearIrq (s : State) (v : Half) : State :=
  s.setCulvert fun c => { c with
    irqstat := c.irqstat &&& ~~~v
    errcause := if v.getLsbD 4 then .none else c.errcause, more := c.more && !v.getLsbD 4 }

/-- The window whose split register a channel's is. -/
def windowChan : Window → Chan
  | .ctl => .n
  | .key => .k

/-- A write of a channel register at offset 0x10 to 0x24. -/
def State.chanWrite (s : State) (c : Chan) (off : Nat) (v : Half) : State :=
  match off with
  | 0x10 => s.splitLow c .bellOut v
  | 0x12 => s.splitHigh c .bellOut v
  | 0x14 => s.splitLow c .bellIn v
  | 0x16 => s.splitHigh c .bellIn v
  | 0x18 => s.splitLow c .bellMsk v
  | 0x1A => s.splitHigh c .bellMsk v
  | 0x1C => s.splitLow c .mboxOut v
  | 0x1E => s.splitHigh c .mboxOut v
  | 0x24 => s.clearMbox c v
  | _ => s

/-- A LOADCTL write (05 R168, 07 R208). While a transition out of LOAD runs, LOAD is the mode in force (03 R65) and START
acts; once a HOLD request has taken effect it does not (DEDUCED, log entry 147). -/
def State.loadCtl (s : State) (v : Half) : State :=
  if v.getLsbD 0 && decide (s.mode = .load) && !s.holding && decide (s.engine.image ≠ .checking) then
    s.setEngine fun e => { e with image := .checking, header := some (s.memBytes 0xC0000 64) }
  else s

/-- A TAGCTL write (05 R170). -/
def State.tagCtl (s : State) (v : Half) : State :=
  let op : BitVec 3 := (v >>> 12).setWidth 3
  if v.getLsbD 15 then s.tagGo op else s.setTag fun t => { t with op := op }

/-- A TAGDATA write: the half of the buffer that HALF selects (05). -/
def Tag.setHalf (t : Tag) (v : Half) : Tag :=
  { t with buffer := if t.half then v ++ loHalf t.buffer else hiHalf t.buffer ++ v }

/-- A WINPAGE write (04 R121, R124). -/
def State.pageWrite (s : State) (v : Half) : State :=
  s.setCulvert fun c => { c with winpage := v.setWidth 8, winEdge := false, line := none }

/-- A WINADDR write (04 R119, R121, R124). -/
def State.addrWrite (s : State) (v : Half) : State :=
  s.setCulvert fun c => { c with winaddr := v.setWidth 12 &&& 0xFFE, winEdge := false, line := none }

/-- A WINCTL write (04 R120, R124). -/
def State.ctlWrite (s : State) (v : Half) : State :=
  s.setCulvert fun c => { c with autoinc := v.getLsbD 0, readahead := v.getLsbD 1, line := none }

/-- A WINDATA read (04 R119-R124). -/
def State.dataRead (s : State) : State :=
  if s.culvert.winEdge then (s.culvertFail .edge).give 0xFFFF
  else s.windowRead.setCulvert Culvert.advance

/-- A WINDATA write (04 R119-R121, R124, R128, R680). -/
def State.dataWrite (s : State) (v : Half) : State :=
  let s := s.dropLine
  if s.culvert.winEdge then s.culvertFail .edge
  else
    let a := s.culvert.address
    let s := match s.writeFault a with
      | some e => s.culvertFail e
      | none => s.windowPut a v
    s.setCulvert Culvert.advance

/-- A register write of the CTL window, offsets 0x26 on and those that are not shared (05 Table - CTL register summary). -/
def State.ctlRegWrite (s : State) (off : Nat) (v : Half) : State :=
  match off with
  | 0x04 => s.modeReq .ctl (v.setWidth 4)
  | 0x0A => s.clearIrq v
  | 0x0C => s.setCulvert fun c => { c with irqmask := v &&& 0x07FF }
  | 0x0E => s.setCulvert fun c => { c with irqstat := c.irqstat ||| (v &&& 0x07FF) }
  | 0x26 => s.pageWrite v
  | 0x28 => s.addrWrite v
  | 0x2A => s.dataWrite v
  | 0x2C => s.ctlWrite v
  | 0x2E => s.lockCtl v
  | 0x38 => s.setPower fun p => { p with supplyEvents := p.supplyEvents &&& ~~~((v >>> 4).setWidth 4) }
  | 0x3C => s.loadCtl v
  | 0x40 => s.tagCtl v
  | 0x42 => s.setTag fun t => { t with half := v.getLsbD 15, block := v.setWidth 11 }
  | 0x44 => s.setTag fun t => t.setHalf v
  | 0x46 => s.setTag fun t => { t with done := t.done && !v.getLsbD 14, wrote := t.wrote && !v.getLsbD 11 }
  | 0x4E => (s.setPower fun p => { p with audit := p.audit &&& ~~~(v.setWidth 8) }).headNotice
  | 0x50 => if v = 0xA50F then s.afterReset (s.power.afterReset 3) s.now else s
  | _ => s.chanWrite .n off v

/-- A register write of the KEY window (04 Table - KEY window layout). -/
def State.keyRegWrite (s : State) (off : Nat) (v : Half) : State :=
  match off with
  | 0x04 => s.modeReq .key (v.setWidth 4)
  | 0x0A => s.setCulvert fun c => { c with kirqstat := c.kirqstat &&& ~~~v }
  | 0x0C => s.setCulvert fun c => { c with kirqmask := v &&& 0x014F }
  | _ => s.chanWrite .k off v

/-- 05 R143: a host write of a register; RO fields and offsets with no register ignore it (04 R115, R116). -/
def execRegisterWrite (win : Window) (offset : BitVec 7) (value : Half) (s : State) :
    Host.Outcome State Fault Refusal :=
  .next (s.onBus fun s => match win with
    | .ctl => s.ctlRegWrite offset.toNat value
    | .key => s.keyRegWrite offset.toNat value)

/-- 05 R147: the low part of a split register is staged. -/
def execSplitLowWrite (ch : Chan) (reg : SplitReg) (value : Half) (s : State) : Host.Outcome State Fault Refusal :=
  .next (s.onBus fun s => s.splitLow ch reg value)

/-- 05 R147, R159, R161: the high part commits a split register. -/
def execSplitHighWrite (ch : Chan) (reg : SplitReg) (value : Half) (s : State) : Host.Outcome State Fault Refusal :=
  .next (s.onBus fun s => s.splitHigh ch reg value)

/-- The low part of a split register is read and its high part latched (05 R146). -/
def State.splitRead (s : State) (ch : Chan) (reg : SplitReg) : State :=
  let r := s.chan ch
  match reg with
  | .bellOut => (s.setChan ch fun r => { r with laBellOut := 0 }).give (r.bellOut.setWidth 16)
  | .bellIn => (s.setChan ch fun r => { r with laBellIn := hiHalf r.bellIn }).give (loHalf r.bellIn)
  | .bellMsk => (s.setChan ch fun r => { r with laBellMsk := hiHalf r.bellMsk }).give (loHalf r.bellMsk)
  | .mboxOut => (s.setChan ch fun r => { r with laMboxOut := hiHalf r.mboxOut }).give (loHalf r.mboxOut)

/-- 05 R146, R166: the lowest part of a split register is read and latches the higher parts: ELAPSED0, or a channel
register that the table gives no row of its own (log entry 148). -/
def execElapsed0Read (reg : Option (Chan × SplitReg)) (s : State) : Host.Outcome State Fault Refusal :=
  .next (s.onBus fun s => match reg with
    | none => (s.setCulvert fun c => { c with elapsedLatch := (s.now >>> 16).setWidth 32 }).give (s.now.setWidth 16)
    | some (ch, r) => s.splitRead ch r)

/-- 05 R157: a write to IRQSTAT. -/
def execIrqstatWrite (value : Half) (s : State) : Host.Outcome State Fault Refusal :=
  .next (s.onBus fun s => s.clearIrq value)

/-- 05 R158: a write to IRQFORCE. -/
def execIrqforceWrite (value : Half) (s : State) : Host.Outcome State Fault Refusal :=
  .next (s.onBus fun s => s.setCulvert fun c => { c with irqstat := c.irqstat ||| (value &&& 0x07FF) })

/-- 04 R121: a write to WINPAGE. -/
def execWinpageWrite (value : Half) (s : State) : Host.Outcome State Fault Refusal :=
  .next (s.onBus fun s => s.pageWrite value)

/-- 04 R119: a write to WINADDR. -/
def execWinaddrWrite (value : Half) (s : State) : Host.Outcome State Fault Refusal :=
  .next (s.onBus fun s => s.addrWrite value)

/-- 04 R124: a write to WINCTL. -/
def execWinctlWrite (value : Half) (s : State) : Host.Outcome State Fault Refusal :=
  .next (s.onBus fun s => s.ctlWrite value)

/-- 04 R119: a WINDATA read. -/
def execWindataRead (s : State) : Host.Outcome State Fault Refusal := .next (s.onBus State.dataRead)

/-- 04 R128: a WINDATA write. -/
def execWindataWrite (value : Half) (s : State) : Host.Outcome State Fault Refusal :=
  .next (s.onBus fun s => s.dataWrite value)

/-- 04 R124: a held line expires. -/
def execReadaheadExpire (s : State) : Host.Outcome State Fault Refusal := .next s.dropLine

/-- 04 R126: a LOCKCTL write with REQUEST. -/
def execLockRequest (value : Half) (s : State) : Host.Outcome State Fault Refusal :=
  .next (s.onBus fun s => s.lockCtl (value ||| 0x8000))

/-- 04 R126: a pending lock is granted. A bank copy of the Sieve (12 R363) that still writes a page of the set neither
delays the grant nor stops for it (DESIGN CHOICE, log entry 149). -/
def execLockGrant (s : State) : Host.Outcome State Fault Refusal :=
  if s.released && decide (s.culvert.lock = .pending) then .next (s.setCulvert fun c => { c with lock := .granted })
  else .next s

/-- 05 R164: a LOCKCTL write with RELEASE. -/
def execLockRelease (s : State) : Host.Outcome State Fault Refusal :=
  .next (s.onBus fun s => s.lockCtl 0x4000)

/-- 04 R131, R132: a granted lock times out. -/
def execLockTimeout (s : State) : Host.Outcome State Fault Refusal :=
  if s.released && decide (s.culvert.lock = .granted) then .next (s.breakLock 1) else .next s

/-- 07 R208: START is written to LOADCTL. -/
def execLoadStart (s : State) : Host.Outcome State Fault Refusal := .next (s.onBus fun s => s.loadCtl 1)

/-- 07 R209: the boot ROM check ends. -/
def execLoadCheckEnd (s : State) : Host.Outcome State Fault Refusal :=
  match s.engine.image, s.engine.header with
  | .checking, some h =>
    let e := s.loadError h
    .next (s.setEngine fun g => { g with image := if e = 0 then .checked else .failed, loadErr := e })
  | _, _ => .next s

end Sys2Proof.Machine
end

