-- ==== Sys2Proof/Machine/PortLine.lean ====
section
/-!
DEFINITION. A port's line: the first-second counters (02 R55, R56), start edges, the deciding and storing of characters
(10 R291-R306), autobaud (10 R308-R313), amplitude (09 R271-R275), stuck and silent lines (09 R277-R281) and the driver's
shutdown (09 R264).
-/
namespace Sys2Proof.Machine

/-! ### First-second counters (02 Table - First-second counter block) -/

def State.firstFlag (s : State) (p : PortNo) (bit : Nat) : State :=
  let a := firstSecondAt p.val + 6
  s.putByte a (Memory.read s.mem a ||| BitVec.ofNat 8 (2 ^ bit))

/-- The count at offset `o` of the block gains 1, saturating with its flag. -/
def State.countFirst (s : State) (p : PortNo) (o : Nat) : State :=
  let a := firstSecondAt p.val + o % 8
  let v := satAdd 0xFFFF (s.memField a 2) 1
  let s := s.putBytes a (leBytes 2 v)
  if v = 0xFFFF then s.firstFlag p 2 else s

/-- The first-second counters watch the lines: HOLD and LOAD once VANA is good (02 Table - Pin states before RUN). -/
def State.watches (s : State) : Bool := s.alive && s.counting && s.power.vanaGood

/-! ### Deciding a character (10 R291-R300) -/

/-- A bit's value: the majority of its samples, or the middle one under SPOT; mark is true. -/
def sampleBit (x : Samples) (spot : Bool) : Bool := if spot then x.b else (x.a && x.b) || (x.a && x.c) || (x.b && x.c)

def samplesDisagree (x : Samples) : Bool := !(x.a == x.b && x.b == x.c)

def entryWoke : Half := 0x8000
def entryMatch : Half := 0x4000
def entryAfterLoss : Half := 0x2000
def entryBreak : Half := 0x1000
def entryNoise : Half := 0x0800
def entryParity : Half := 0x0400
def entryFrame : Half := 0x0200

def hasTag (e m : Half) : Bool := e &&& m ≠ 0

def tagIf (b : Bool) (t : Half) : Half := if b then t else 0

/-- The value of a list of bits, the first the least significant. -/
def bitsValue : List Bool → Nat
  | [] => 0
  | b :: bs => (if b then 1 else 0) + 2 * bitsValue bs

/-- What the parity bit should be (10 Table - Port row PARITY 1 to 4). -/
def parityBit (code : Nat) (data : List Bool) : Bool :=
  let odd := data.foldl (fun a b => xor a b) false
  match code with
  | 1 => !odd
  | 2 => odd
  | 3 => true
  | _ => false

/-- The entry of a decided character, WOKE and AFTER-LOSS apart. -/
def decidedEntry (c : PortCfg) (vana : Bool) (l : List Samples) : Half :=
  let idle : Samples := { a := true, b := true, c := true }
  let l := (List.range c.charBits).map fun i => l.getD i idle
  let bits := l.map fun x => sampleBit x c.spot
  let data := (bits.drop 1).take 8
  let mark := c.nine && bits.getD 9 true
  let stops := bits.drop (c.charBits - if c.stop2 then 2 else 1)
  let tags := tagIf (!stops.all id) entryFrame |||
    tagIf (decide (c.parity ≠ 0) && decide (bits.getD 9 true ≠ parityBit c.parity data)) entryParity |||
    tagIf ((!c.spot && l.any samplesDisagree) || !vana) entryNoise |||
    tagIf (bits.all fun b => !b) entryBreak
  let v := bitsValue data
  let hit := mark && !hasTag tags (entryFrame ||| entryParity ||| entryNoise) &&
    (decide (c.rx = .master) || decide (v % 32 = c.myAddr) || decide (v % 32 = 31))
  tags ||| tagIf hit entryMatch ||| BitVec.ofNat 16 (v + flag mark 8)

/-! ### The receive FIFO (10 R301-R306) -/

/-- An entry is stored, or lost where 64 wait (10 R304, R305, R316); after a waking character that was not caught, the WOKE
entry has the stamp of the waking edge (03 R91). -/
def Port.store (q : Port) (bits : Half) (t : Stamp × Bool) (reading : Option Byte) (valid : Bool) : Port :=
  if 64 ≤ q.fifo.length then
    { q with afterLoss := true, stats := { q.stats with afterLoss := satAdd top32 q.stats.afterLoss 1 } }
  else
    let t := if q.wokeNext then q.wokeEdge.getD t else t
    let e : Entry := { bits := bits ||| tagIf q.afterLoss entryAfterLoss ||| tagIf q.wokeNext entryWoke,
                       stamp := t.1, doubt := t.2, reading := reading, valid := valid }
    let st := q.stats
    let st := { st with
      characters := satAdd top32 st.characters 1
      noise := satAdd top32 st.noise (if hasTag bits entryNoise then 1 else 0)
      breaks := satAdd top32 st.breaks (if hasTag bits entryBreak then 1 else 0) }
    { q with fifo := q.fifo ++ [e], afterLoss := false, wokeNext := false, wokeEdge := none
             wokeSeen := q.wokeSeen || q.wokeNext, stats := st }.setRts

/-- MUTE's gate (10 R301, R302): the port after the character, and whether it is stored. -/
def Port.gate (q : Port) (bits : Half) : Port × Bool :=
  if !q.rx.mute then (q, true)
  else if bits.getLsbD 8 then
    let hit := hasTag bits entryMatch
    ({ q with unmuted := hit }, hit)
  else (q, q.unmuted)

/-- FRAMERUN; the eighth character in a row with FRAME starts a hunt (10 R312). -/
def Port.countFrame (q : Port) (bits : Half) : Port :=
  if hasTag bits entryFrame then
    let n := satAdd 0xFFFF q.frameRun 1
    if n = 8 ∧ q.rx.autobaud then { q with frameRun := n, hunting := true, edge := none }
    else { q with frameRun := n }
  else { q with frameRun := 0 }

/-! ### Amplitude (09 R271-R275) -/

/-- A character's reading: the mean of |V_ID| at the middle of its bits, given in mV, in steps of 20 mV to the nearest, one
half upwards, saturating at 255 (09 R271, log entry 157). -/
def readingOf (volts : List Nat) : Byte :=
  let n := volts.length
  BitVec.ofNat 8 (min 255 ((sumOf id volts + 10 * n) / (20 * n)))

/-- A reading passes the reference by `db` decibels: reading > reference × 10^(db/20), to the twentieth power. -/
def stepMet (ref reading : Byte) (db : Nat) : Bool := decide (ref.toNat ^ 20 * 10 ^ db < reading.toNat ^ 20)

/-- MEAN, rounded to the nearest step, and the window of 256 (09 Table - Amplitude block). -/
def Amp.take (a : Amp) (r : Byte) : Amp :=
  let mean := BitVec.ofNat 8 ((15 * a.mean.toNat + r.toNat + 8) / 16)
  let low := if a.winCount = 0 then r else if r.toNat < a.winMin.toNat then r else a.winMin
  let high := if a.winCount = 0 then r else if a.winMax.toNat < r.toNat then r else a.winMax
  let a := { a with last := r, mean := mean, winMin := low, winMax := high, winCount := a.winCount + 1 }
  if a.winCount = 256 then { a with winCount := 0, min := low, max := high } else a

/-- A step is counted once for an item or frame (09 R275). -/
def Amp.step (a : Amp) (r : Byte) (db : Nat) : Amp :=
  match a.ref with
  | some f => if !a.stepped && stepMet f r db then { a with stepped := true, steps := BitVec.ofNat 8 (satAdd 255 a.steps.toNat 1) }
      else a
  | none => a

/-- The capture threshold of a hedge port; a port with no bus slot has the default (09 R275, 15 Table - Bus row). -/
def State.capture (s : State) (p : PortNo) : Nat :=
  match s.portBus p with
  | some b => (s.busRow b).threshold
  | none => 6

/-- LOW against AMPWARN (09 R274). -/
def ampLow (a : Amp) (warn : Nat) : Bool :=
  if warn = 0 then a.low
  else if a.mean.toNat < warn then true
  else if warn + 4 ≤ a.mean.toNat then false
  else a.low

/-- A reading enters the block while VALID is 1, with its port events (09 R273, R274). -/
def State.ampRead (s : State) (p : PortNo) (r : Byte) : State :=
  let q := s.port p
  let runs := !q.rx.bypass && s.power.vanaGood && !s.power.orderFault && s.roadRuns && decide (q.loop ≠ .internal) &&
    !s.sweeping p
  if !runs then s
  else
    let s := s.updPort p fun q => { q with amp := { q.amp with seen := min 16 (q.amp.seen + 1) } }
    if !s.ampValid p then s
    else
      let a := (s.port p).amp.take r
      let low := ampLow a q.rx.ampWarn
      let s := s.updPort p fun q => { q with amp := { a with low := low } }
      if low && !a.low then s.portEvent p evAmpLow (some a.mean.toNat)
      else if a.low && !low then s.portEvent p evAmpOk (some a.mean.toNat)
      else s

/-- A hedge frame's reference reading at its address character, and its later characters against it while VALID is 1 (09
R273, R275). -/
def State.ampFrame (s : State) (p : PortNo) (bits : Half) (r : Byte) : State :=
  if (s.port p).rx.bypass || (s.port p).talks then s
  else if bits.getLsbD 8 then s.updPort p fun q => { q with amp := { q.amp with ref := some r, stepped := false } }
  else if s.ampValid p then s.updPort p fun q => { q with amp := q.amp.step r (s.capture p) }
  else s

/-! ### Start edges and characters -/

/-- The line has shown what a start edge at `now` needs, `mark` sixteenths of a bit of mark before it. A waking character
that is not caught lasts to its last stop-bit sample, within the 1 µs of the elapsed count (log entry 156). -/
def Port.accepts (q : Port) (mark : Nat) (now : Stamp) : Bool :=
  match q.hold with
  | .free => true
  | .sample => decide ((if 230400 < q.rateNow then 2 else 1) ≤ mark)
  | .bit => decide (16 ≤ mark)
  | .character => decide (16 * q.rx.charBits ≤ mark)
  | .waking =>
    match q.wokeEdge with
    | some w => decide ((2 * q.rx.charBits - 1) * 1000000 ≤ ((now - w.1).toNat + 1) * 2 * q.rateNow)
    | none => true

/-- The edge would begin a character: outside one, on a port that does not hunt. -/
def Port.starts (q : Port) (mark : Nat) (now : Stamp) : Bool := !q.hunting && q.edge.isNone && q.accepts mark now

/-- A falling edge on an armed port: the stopwatch keeps the last three, and one that begins a character latches the
elapsed count (10 R291, 11 R339). -/
def Port.catchEdge (q : Port) (mark : Nat) (t : Stamp × Bool) : Port :=
  if !q.armed || q.stuck then q
  else
    let on := q.starts mark t.1
    { q with falls := (t :: q.falls).take 3, edge := if on then some t else q.edge, hold := if on then .free else q.hold }

/-- The first wake edge of a DOZE arms the receive side of a talker (03 R88, R89, 10 R315-R317); above 115,200 Bd the
character that it begins is not caught. -/
def Port.wakeUp (q : Port) (t : Stamp × Bool) : Port :=
  if q.armed then q
  else
    let hunting := q.hunting || (q.rx.autobaud && q.parked)
    let fast := !hunting && decide (115200 < q.rateNow)
    { q with
      armed := q.talks && !q.rxRetired, wokeNext := true, hunting := hunting, afterLoss := q.afterLoss || fast
      wokeEdge := if fast then some t else none, hold := if fast then .waking else q.hold }

/-- A falling edge where characters are received. In DOZE a start edge on a port armed for wake raises WAKE, whatever its
side's state (03 R88); while it hunts, every edge may be one. -/
def State.lineEdge (s : State) (p : PortNo) (mark : Nat) : State :=
  let t := (s.now, s.doubtNow)
  let s := s.fall p
  let q := s.port p
  if decide (s.mode = .doze) && q.wakes then
    let on := !q.armed || q.hunting || q.starts mark t.1
    let s := s.updPort p fun q => (q.wakeUp t).catchEdge mark t
    if on then (s.setModes fun m => { m with wokeBell := true }).raise .ctl .wake else s
  else s.updPort p fun q => q.catchEdge mark t

/-- 10 R291, 11 R339: a falling edge on the receive line. -/
def execStartEdge (port : PortNo) (mark : Nat) (s : State) : Host.Outcome State Fault Refusal :=
  if s.watches then .next ((s.updPort port fun q => { q with space := true, counted := false }).countFirst port 0)
  else if s.alive && (s.roadRuns || decide (s.mode = .doze)) then .next (s.lineEdge port mark)
  else .next s

/-- 03 R88, R89, R91: a start edge on a port armed for wake. -/
def execWakeEdge (port : PortNo) (mark : Nat) (s : State) : Host.Outcome State Fault Refusal :=
  if s.alive && decide (s.mode = .doze) && (s.port port).wakes then .next (s.lineEdge port mark) else .next s

/-- The receive side frames or recognises characters now: armed, not STUCK, storing. -/
def State.receives (s : State) (p : PortNo) : Bool :=
  let q := s.port p
  s.alive && (s.roadRuns || decide (s.mode = .doze)) && q.armed && !q.stuck && !s.modes.draining

/-- What the next start edge waits for after a character with these samples (09 R278, 10 R296, R298). -/
def holdAfter (c : PortCfg) (e : Half) (samples : List Samples) : LineHold :=
  let last : Samples := samples.getD (c.charBits - 1) { a := true, b := true, c := true }
  if hasTag e entryBreak then .bit
  else if (if c.spot then last.b else last.c) then .free
  else .sample

/-- A decided character of an armed port. -/
def State.takeCharacter (s : State) (p : PortNo) (samples : List Samples) (r : Byte) (t : Stamp × Bool) : State :=
  let c := (s.port p).rx
  let s := s.updPort p fun q => { q with edge := none }
  match samples.head? with
  | none => s
  | some x =>
    if sampleBit x c.spot then
      s.updPort p fun q => { q with
        space := false, stats := { q.stats with glitches := satAdd top32 q.stats.glitches 1 } }
    else
      let e := decidedEntry c s.power.vanaGood samples
      let hold := holdAfter c e samples
      let s := s.updPort p fun q => { q with hold := hold, space := decide (hold ≠ .free) }
      let s := (s.ampRead p r).ampFrame p e r
      let reading := if c.bypass then none else some r
      let valid := s.ampValid p
      s.updPort p fun q =>
        let (q, open_) := q.gate e
        if open_ then (q.countFrame e).store e t reading valid else q

/-- 10 R304, 02 R56: a character is decided at its last stop-bit sample. Before RUN one that the stopwatch has counted does
not count again. -/
def execCharacterStored (port : PortNo) (samples : List Samples) (volts : List Nat) (s : State) :
    Host.Outcome State Fault Refusal :=
  if s.watches then
    let start := (samples.getD 0 { a := true, b := true, c := true }).b
    let stop := (samples.getD 9 { a := true, b := true, c := true }).b
    if (s.port port).firstRate = 0 ∨ start ∨ (s.port port).counted then .next s
    else if stop then .next ((s.updPort port fun q => { q with space := false, counted := true }).countFirst port 2)
    else .next s
  else
    match (s.port port).edge with
    | none => .next s
    | some t =>
      if (s.port port).hunting then .next s
      else if s.receives port then .next (s.takeCharacter port samples (readingOf volts) t)
      else .next (s.updPort port fun q => { q with edge := none })

/-! ### Autobaud (10 R308-R315) -/

/-- An edge lies within 0.12 T of its place, T being a ninth of `e6`. -/
def edgeAt (e e6 place : Nat) : Bool :=
  decide (100 * place * e6 ≤ 900 * e + 12 * e6) && decide (900 * e ≤ 100 * place * e6 + 12 * e6)

/-- The character of the six edges under 10 R309, times in ns from edge 1. -/
def edgesCharacter (e : Edges) : Option Byte :=
  if e.e6 < 9000 ∨ 30000600 < e.e6 ∨ !e.markAfter then none
  else if edgeAt e.e4 e.e6 6 && edgeAt e.e5 e.e6 7 then
    if edgeAt e.e2 e.e6 3 && edgeAt e.e3 e.e6 4 then some chDollar
    else if edgeAt e.e2 e.e6 1 && edgeAt e.e3 e.e6 2 then some chBang
    else none
  else none

/-- 10 Table - Rate presets. -/
def ratePresets : List Nat := [4800, 9600, 19200, 38400, 57600, 115200, 230400, 460800, 921600]

/-- The receive rate of the measured bit time (10 R310): a preset within 3 % of 9 / `e6`, else that rate to the nearest
Bd. -/
def edgesRate (e : Edges) : Nat :=
  let near := fun (p : Nat) => decide (97 * 9000000000 ≤ 100 * p * e.e6) && decide (100 * p * e.e6 ≤ 103 * 9000000000)
  match ratePresets.find? near with
  | some p => p
  | none => (2 * 9000000000 + e.e6) / (2 * e.e6)

/-- T in Tally periods of 62.5 ns, to the nearest (02 Table - First-second counter block). -/
def edgesHint (e : Edges) : Nat := (2 * e.e6 + 562) / 1125

/-- The stopwatch's edge 1, where edges 1, 3 and 5 have all fallen since the receive side was armed (02 R58). -/
def Port.edgeOne (q : Port) : Option (Stamp × Bool) := q.falls[2]?

/-- A recognition of a hunting port (10 R311); above 115,200 Bd the waking character is not kept (10 R315). -/
def State.recognise (s : State) (p : PortNo) (b : Byte) (rate : Nat) (r : Byte) (t : Stamp × Bool) : State :=
  let q := s.port p
  if decide (s.mode = .doze) && q.wokeNext && q.wokeEdge.isNone && decide (115200 < rate) then
    s.updPort p fun q => { q with edge := none, falls := [], afterLoss := true, wokeEdge := some t }
  else
    let s := s.ampRead p r
    let reading := if q.rx.bypass then none else some r
    let valid := s.ampValid p
    let bits := tagIf (!s.power.vanaGood) entryNoise ||| b.setWidth 16
    s.updPort p fun q => { q with
      hunting := false, rateNow := rate, frameRun := 0, edge := none, falls := [], hold := .free
      space := false }.store bits t reading valid

/-- Before RUN a recognised character counts once in CHARS: not again where the pacer, at the same rate, has counted it
(02 R56). -/
def State.firstRecognise (s : State) (p : PortNo) (edges : Edges) : State :=
  let q := s.port p
  let again := q.counted && decide (q.firstRate = edgesRate edges)
  let s := s.putBytes (firstSecondAt p.val + 4) (leBytes 2 (edgesHint edges))
  let s := if again then s else s.countFirst p 2
  s.updPort p fun q => { q with firstRate := edgesRate edges, space := false, counted := true }

/-- 10 R309, 02 R56: the last six edges are a '$' or a '!'. -/
def execAutobaudAccept (port : PortNo) (edges : Edges) (volts : List Nat) (s : State) :
    Host.Outcome State Fault Refusal :=
  match edgesCharacter edges with
  | none => .next s
  | some b =>
    if s.watches then .next (s.firstRecognise port edges)
    else if s.receives port && (s.port port).hunting then
      match (s.port port).edgeOne with
      | some t => .next (s.recognise port b (edgesRate edges) (readingOf volts) t)
      | none => .next s
    else .next s

/-! ### Lines at space and silent lines -/

/-- 02 R55: before RUN the line has been at space for 10 bit times. -/
def execBreakSeen (port : PortNo) (s : State) : Host.Outcome State Fault Refusal :=
  if s.watches then .next ((s.updPort port fun q => { q with space := true }).firstFlag port 0) else .next s

/-- 02 R55: before RUN the line has been at space beyond 2 s. -/
def execStuckSeen (port : PortNo) (s : State) : Host.Outcome State Fault Refusal :=
  if s.watches then .next ((s.updPort port fun q => { q with space := true }).firstFlag port 1) else .next s

/-- Stuck timing runs on a TALKER port's own line (09 R280, Table - Port pins by mode). -/
def State.stuckTimed (s : State) (p : PortNo) : Bool :=
  s.alive && (s.roadRuns || decide (s.mode = .doze)) && (s.port p).isTalker && decide ((s.port p).loop ≠ .internal)

/-- 09 R277 step 3, R279: the port becomes STUCK; in DOZE its wake arming is withdrawn, and Pnn_RTS goes high (03 R90). -/
def execPortStuck (port : PortNo) (s : State) : Host.Outcome State Fault Refusal :=
  if s.stuckTimed port && !(s.port port).stuck then
    let s := s.updPort port fun q => { q with stuck := true, space := true, edge := none, falls := [] }
    .next ((s.putRts port).portEvent port evStuck none)
  else .next s

/-- 09 R277 step 5, 10 R312: STUCK clears and an autobaud port hunts again. -/
def execPortRearmed (port : PortNo) (s : State) : Host.Outcome State Fault Refusal :=
  if s.stuckTimed port && (s.port port).stuck then
    let s := s.updPort port fun q => { q with
      stuck := false, space := false, edge := none, falls := [], hold := .free, hunting := q.hunting || q.rx.autobaud }
    .next ((s.putRts port).portEvent port evRearmed none)
  else .next s

/-- 09 R281: no falling edge for SILENCE seconds. -/
def execSilenceLapse (port : PortNo) (s : State) : Host.Outcome State Fault Refusal :=
  let q := s.port port
  if s.roadRuns && q.isTalker && decide (q.rx.silence ≠ 0) && !q.parked && !q.rxRetired && !q.silent then
    .next ((s.updPort port fun q => { q with silent := true }).portEvent port evSilent none)
  else .next s

/-! ### The driver's own shutdown -/

/-- 09 R264, R268: the junction of a differential driver in use is too hot; the item on the line is cut and kept (14 R420). -/
def execDriverHot (port : PortNo) (s : State) : Host.Outcome State Fault Refusal :=
  let q := s.port port
  if s.alive && (q.driver || s.mayDrive port) && !q.txc.bypass && !q.hot then
    let s := (s.cutSending port true).updPort port fun q => { q with hot := true }.drive false
    .next (((s.adoptTx port).txBoundary port).portEvent port evDriverHot none)
  else .next s

/-- 09 R264: it has cooled; in DOZE the driver holds mark again. -/
def execDriverOk (port : PortNo) (s : State) : Host.Outcome State Fault Refusal :=
  let q := s.port port
  if s.alive && q.hot then
    let on := s.driverDue q.txc.tx
    .next ((s.updPort port fun q => { q with hot := false }.drive on).portEvent port evDriverOk none)
  else .next s

end Sys2Proof.Machine
end

