-- ==== Sys2Proof/Machine/Diag.lean ====
section
/-!
DEFINITION. The diagnostic commands (08 R255, R256; 21 R621-R634).
-/
namespace Sys2Proof.Machine

/-- 08 R255, R256: INJECT-ENABLE; disabling in RUN, TRIM or VIGIL clears every slot. -/
def execInjectEnable (msg : Msg) (s : State) : Host.Outcome State Fault Refusal :=
  .next (s.serve msg 0x0901 inWork (exactFault [upTo 1 1, anyFld 1]) fun s bs =>
    let on := decide (byteAt bs 0 = 1)
    let s := s.setInject fun j => { j with enabled := on }
    (if on || decide (s.mode = .probe) then s else s.clearSlots).changed msg 0x0901 [])

/-- What INJECT-SET refuses (08 R256, 21 R627), in the order of the fields. -/
def injectFault (bs : List Byte) : Option Nat :=
  match exactFault [upTo 1 15, upTo 1 3, anyFld 1, upTo 1 3, upTo 1 7, range 1 1 16, anyFld 2, anyFld 2, anyFld 2] bs with
  | some o => some o
  | none =>
    let point := byteAt bs 1
    let target := byteAt bs 2
    let fault := byteAt bs 3
    if (point = 2 ∧ target ≠ 0) ∨ (point ≠ 2 ∧ 47 < target) then some 2
    else if (fault = 3 ∧ point ≠ 3) ∨ (fault = 2 ∧ point = 3) then some 3
    else if fieldAt bs 8 2 = 0 then some 8
    else none

/-- 21 R627, R629: INJECT-SET writes a whole slot and restarts its pattern; the slot's count stays. -/
def execInjectSet (msg : Msg) (s : State) : Host.Outcome State Fault Refusal :=
  .next (s.serve msg 0x0902 inDiag injectFault fun s bs =>
    let k : Fin 16 := Fin.ofNat 16 (byteAt bs 0)
    let b (o : Nat) : Byte := BitVec.ofNat 8 (byteAt bs o)
    let h (o : Nat) : Half := BitVec.ofNat 16 (fieldAt bs o 2)
    let s := s.clearSlot k
    let s := s.setInject fun j => { j with slots := upd j.slots k fun sl =>
      { used := true, point := b 1, target := b 2, fault := b 3, bit := b 4, k := b 5, every := h 6, lfsr := h 8
        prob := h 10, steps := 0, count := sl.count } }
    s.changed msg 0x0902 [])

/-- The slot of INJECT-CLEAR, or 0xFF for all. -/
def clearFault (bs : List Byte) : Option Nat :=
  match exactFault [anyFld 1, anyFld 1] bs with
  | some o => some o
  | none => if 15 < byteAt bs 0 ∧ byteAt bs 0 ≠ 0xFF then some 0 else none

/-- 21 R633: INJECT-CLEAR clears one slot or all, lets go of what they hold, and reports their injections. -/
def execInjectClear (msg : Msg) (s : State) : Host.Outcome State Fault Refusal :=
  .next (s.serve msg 0x0903 inAll clearFault fun s bs =>
    if byteAt bs 0 = 0xFF then
      let made := min top32 (sumOf (fun (sl : Slot16) => sl.count) s.inject.slots.toList)
      s.clearSlots.changed msg 0x0903 (leBytes 4 made)
    else
      let k : Fin 16 := Fin.ofNat 16 (byteAt bs 0)
      (s.clearSlot k).changed msg 0x0903 (leBytes 4 (s.inject.slots.get k).count))

/-- A port that LOOPBACK takes (21 R621). -/
def State.loopable (s : State) (p : PortNo) : Bool :=
  let c := portCfg (s.portRow p)
  decide (c.tx = .listener) && decide (c.rx ≠ .master) && decide (c.rx ≠ .head)

/-- The fields of LOOPBACK. -/
def State.loopFault (s : State) (bs : List Byte) : Option Nat :=
  match exactFault [upTo 1 47, upTo 1 2] bs with
  | some o => some o
  | none => if s.loopable (portOf (byteAt bs 0)) then none else some 0

/-- A port enters a loopback: its receive side starts anew as a talker's, its driver by the kind (21 R622, R623). -/
def State.beginLoop (s : State) (p : PortNo) (l : Loop) : State :=
  let s := (s.updPort p fun q => { q with loop := l }).armRx p
  s.updPort p fun q => q.drive (s.driverDue q.txc.tx && !q.hot)

/-- 21 R621-R624: LOOPBACK. -/
def execLoopback (msg : Msg) (s : State) : Host.Outcome State Fault Refusal :=
  .next (s.serve msg 0x0904 inProbe s.loopFault fun s bs =>
    let p := portOf (byteAt bs 0)
    if s.portBusy p.val then s.refused msg 0x0904 0x0012
    else
      let s := match byteAt bs 1 with
        | 0 => s.endLoop p
        | 1 => s.beginLoop p .internal
        | _ => s.beginLoop p .external
      s.changed msg 0x0904 [])

/-- The fields of AMP-SWEEP (21 R625): a differential port in external loopback. -/
def State.sweepFault (s : State) (bs : List Byte) : Option Nat :=
  match exactFault [upTo 1 47, range 1 1 64] bs with
  | some o => some o
  | none =>
    let p := portOf (byteAt bs 0)
    if (s.port p).rx.bypass || decide ((s.port p).loop ≠ .external) then some 0 else none

/-- 21 R625: AMP-SWEEP starts. -/
def execAmpSweep (msg : Msg) (s : State) : Host.Outcome State Fault Refusal :=
  .next (s.serve msg 0x0905 inProbe s.sweepFault fun s bs =>
    let p := portOf (byteAt bs 0)
    if s.portBusy p.val then s.refused msg 0x0905 0x0012
    else s.accept msg 0x0905 (.sweep p (byteAt bs 1)))

/-- The sweep that runs on a port. -/
def State.sweepOf (s : State) (p : PortNo) : Option Accepted :=
  s.working? fun w => match w with
    | .sweep q _ => decide (q = p)
    | .portRetire _ _ _ | .headReturn _ _ _ | .handover | .format | .publish => false

/-- The reading of a step: the rounded mean of the readings of its characters (21 R625), one half upwards as in 09 R271 (log
entry 157). -/
def stepReading (chars : List (List Nat)) : Byte :=
  let n := chars.length
  BitVec.ofNat 8 ((2 * sumOf (fun volts => (readingOf volts).toNat) chars + n) / (2 * n))

/-- 21 R625, R626: the sweep's last step ends; the completion lists one reading for each step. `volts` has, for each character
of each step, |V_ID| at the middle of its bits in mV. -/
def execAmpSweepDone (port : PortNo) (volts : List (List (List Nat))) (s : State) : Host.Outcome State Fault Refusal :=
  if !s.engineWorks then .next s
  else match s.sweepOf port with
    | none => .next s
    | some a =>
      let steps := match a.work with
        | .sweep _ n => n
        | .portRetire _ _ _ | .headReturn _ _ _ | .handover | .format | .publish => 0
      .next (s.complete a 0 ((volts.take steps).map stepReading))

/-- The fields of a counter group (21 Table - Counter groups). -/
def State.counterGroup (s : State) (g : Nat) : List Nat :=
  let govs (a : Nat) : List Nat := ((s.govs.toList.drop a).take 128).flatMap fun v =>
    [v.passes, v.drops, v.replaced, v.deferrals]
  match g with
  | 0 => s.inject.slots.toList.map fun sl => sl.count
  | 1 => s.ports.toList.flatMap fun q => [q.tx.breaches, q.tx.resends, q.tx.abandons]
  | 2 => govs 0
  | 3 => govs 128
  | 4 =>
    let j := s.journal
    [j.skipped, j.eventsDropped, j.programmed, j.relocations, j.scrubs, j.retired, j.lossRecords]
  | _ =>
    let p := s.pair
    [p.sent, p.accepted, p.dropped, p.duplicates, p.resent, p.missing, p.orphans]

/-- A governor without its counts. -/
def Gov.clear (v : Gov) : Gov := { v with passes := 0, drops := 0, replaced := 0, deferrals := 0 }

/-- A counter group cleared as its values are latched (21 R634). -/
def State.clearGroup (s : State) (g : Nat) : State :=
  match g with
  | 0 => s.setInject fun j => { j with slots := j.slots.map fun sl => { sl with count := 0 } }
  | 1 => s.mapPorts fun q => { q with tx := { q.tx with breaches := 0, resends := 0, abandons := 0 } }
  | 2 => s.setGovs ((Vector.finRange 256).map fun k => if k.val < 128 then (s.gov k).clear else s.gov k)
  | 3 => s.setGovs ((Vector.finRange 256).map fun k => if k.val < 128 then s.gov k else (s.gov k).clear)
  | 4 => s.setJournal fun j => { j with
      skipped := 0, eventsDropped := 0, programmed := 0, relocations := 0, scrubs := 0, retired := 0, lossRecords := 0 }
  | _ => s.setPair fun p => { p with
      sent := 0, accepted := 0, dropped := 0, duplicates := 0, resent := 0, missing := 0, orphans := 0 }

/-- 21 R634: COUNTERS. -/
def execCounters (msg : Msg) (s : State) : Host.Outcome State Fault Refusal :=
  .next (s.serve msg 0x0906 inAll (exactFault [upTo 1 5, anyFld 1]) fun s bs =>
    let g := byteAt bs 0
    let p := leBytes 1 g ++ leBytes 1 0 ++ ((s.counterGroup g).map fun v => leBytes 4 (min top32 v)).flatten
    (if bitsOf (byteAt bs 1) 0 1 = 1 then s.clearGroup g else s).done msg 0x0906 p)

end Sys2Proof.Machine
end

