-- ==== Sys2Proof/Machine/PortCmd.lean ====
section
/-!
DEFINITION. The port commands (08 R238, R239, 14 R431, R432).
-/
namespace Sys2Proof.Machine

/-- The fields of PORT-SET: the row's faults at their offsets in the payload (10 R287). -/
def portSetFault (bs : List Byte) : Option Nat :=
  match exactFault [upTo 1 47, anyFld 1, anyFld 2, anyFld 32] bs with
  | some o => some o
  | none => (rowFault (BitVec.ofNat 128 (fieldAt bs 4 16))).map (· + 4)

/-- The RATE field of a hedge master that has a bus slot holds the bus rate (10 R288, after R682). -/
def State.keepBusRate (s : State) (p : PortNo) : State :=
  match s.portBus p with
  | none => s
  | some b =>
    if rowRxRole (s.portRow p) = 2 then s.putBytes (portRowAt p.val + 4) (leBytes 4 (hedgeRate (s.busRow b).rateCode))
    else s

/-- 10 R287, R288: PORT-SET writes the row; an idle side adopts it at once, any other at its boundary. -/
def execPortSet (msg : Msg) (s : State) : Host.Outcome State Fault Refusal :=
  .next (s.serve msg 0x0201 inAll portSetFault fun s bs =>
    let p := portOf (byteAt bs 0)
    if s.portBusy p.val then s.refused msg 0x0201 0x0012
    else if s.lockedAt (portRowAt p.val) then s.refused msg 0x0201 0x0013
    else
      let s := (s.putBytes (portRowAt p.val) (bytesAt bs 4 16)).keepBusRate p
      let s := s.updPort p fun q => { q with rxAdopt := true, txAdopt := true }
      ((s.rxBoundary p).adoptTx p).changed msg 0x0201 [])

/-- 08 R238: PORT-GET, the maintained fields included. -/
def execPortGet (msg : Msg) (s : State) : Host.Outcome State Fault Refusal :=
  .next (s.serve msg 0x0202 inAll (exactFault [upTo 1 47, anyFld 1]) fun s bs =>
    s.done msg 0x0202 (s.fabricBytes (portRowAt (byteAt bs 0)) 32))

/-- The fields of PORT-RETIRE and PORT-RETURN: a side must be named (log entry 28). -/
def sidesFault (bs : List Byte) : Option Nat :=
  match exactFault [upTo 1 47, anyFld 1] bs with
  | some o => some o
  | none => if byteAt bs 1 % 4 = 0 then some 1 else none

/-- 08 R239: PORT-RETIRE; a side with nothing in progress reaches its boundary at once. -/
def execPortRetire (msg : Msg) (s : State) : Host.Outcome State Fault Refusal :=
  .next (s.serve msg 0x0203 inWork sidesFault fun s bs =>
    let p := portOf (byteAt bs 0)
    let rx := bitsOf (byteAt bs 1) 0 1 = 1 ∧ !(s.port p).rxRetired
    let tx := bitsOf (byteAt bs 1) 1 1 = 1 ∧ !(s.view (portView p)).retired
    if s.portBusy p.val then s.refused msg 0x0203 0x0012
    else if rx ∨ tx then ((s.accept msg 0x0203 (.portRetire p rx tx)).rxBoundary p).txBoundary p
    else s.changed msg 0x0203 [])

/-- 08 R239: every side named has reached its boundary. -/
def execPortRetireDone (port : PortNo) (s : State) : Host.Outcome State Fault Refusal :=
  let s' := (s.rxBoundary port).txBoundary port
  match s'.engine.accepted.find? fun a => match a.work with
      | .portRetire q rx tx => decide (q = port) && (!rx || (s'.port port).rxRetired) &&
          (!tx || (s'.view (portView port)).retired)
      | .headReturn _ _ _ | .handover | .format | .publish | .sweep _ _ => false with
  | some a => if s.serves then .next ((s'.configChange a.ch a.code.toNat).complete a 0 []) else .next s
  | none => .next s

/-- 14 R430-R432: PORT-RETURN. -/
def execPortReturn (msg : Msg) (s : State) : Host.Outcome State Fault Refusal :=
  .next (s.serve msg 0x0204 inWork sidesFault fun s bs =>
    let p := portOf (byteAt bs 0)
    if s.portBusy p.val then s.refused msg 0x0204 0x0012
    else
      let s := if bitsOf (byteAt bs 1) 0 1 = 1 ∧ (s.port p).rxRetired then
          let s := s.updPort p fun q => { q with rxRetired := false }
          if (s.port p).parked then s else s.armRx p
        else s
      let s := if bitsOf (byteAt bs 1) 1 1 = 1 then
          (s.updPort p fun q => { q with txRetired := false }).updView (portView p) fun v => { v with retired := false }
        else s
      s.changed msg 0x0204 [])

/-- 08 R238: PORT-STATS. -/
def execPortStats (msg : Msg) (s : State) : Host.Outcome State Fault Refusal :=
  .next (s.serve msg 0x0205 inAll (exactFault [upTo 1 47, anyFld 1]) fun s bs =>
    let p := portOf (byteAt bs 0)
    let q := s.port p
    let t := q.stats
    let out := leBytes 4 t.sentences ++ leBytes 4 t.characters ++ leBytes 4 t.flawed ++ leBytes 4 t.checksum ++
      leBytes 4 t.afterLoss ++ leBytes 4 t.glitches ++ leBytes 4 t.noise ++ leBytes 4 t.breaks ++
      leBytes 4 (if q.hunting then 0 else q.rateNow) ++ leBytes 2 (s.condition p % 32) ++ leBytes 2 0
    let s := if bitsOf (byteAt bs 1) 0 1 = 1 then s.updPort p fun q => { q with stats := PortStats.reset } else s
    s.done msg 0x0205 out)

end Sys2Proof.Machine
end

