-- ==== Sys2Proof/Machine/HedgeCmd.lean ====
section
/-!
DEFINITION. The Hedge commands (08 R248, R249, 15 R478-R483).
-/
namespace Sys2Proof.Machine

/-- The bus slot that HEDGE-SET writes for a master port: its own, else the lowest unused one (15 R478). -/
def State.slotFor (s : State) (p : PortNo) : Option BusNo :=
  match s.portBus p with
  | some b => some b
  | none => (List.finRange 8).find? fun b => decide ((s.busRow b).master = 0xFF)

/-- A bus that HEDGE-SET has changed joins; one whose role has stopped stops (15 R461). -/
def State.busChanged (s : State) (b : BusNo) : State :=
  if s.hedgeOn b then s.beginJoin b
  else if (s.bus b).state ≠ .stopped then s.stopBus b
  else s

/-- 08 R248, 15 R478: HEDGE-SET writes the bus row and the RATE of its port (10 R288). A new slot or another rate changes
the bus; the rest is in force at once. -/
def execHedgeSet (msg : Msg) (s : State) : Host.Outcome State Fault Refusal :=
  .next (s.serve msg 0x0501 inAll
      (exactFault [upTo 1 47, upTo 1 3, range 2 10 10000, range 1 3 20, anyFld 1]) fun s bs =>
    let p := portOf (byteAt bs 0)
    match s.slotFor p with
    | none => s.refused msg 0x0501 0x0015
    | some b =>
      if s.portBusy p.val then s.refused msg 0x0501 0x0012
      else if s.lockedAt (busRowAt b.val) || s.lockedAt (portRowAt p.val) then s.refused msg 0x0501 0x0013
      else
        let moves := decide ((s.busRow b).master ≠ p.val) || decide ((s.busRow b).rateCode ≠ byteAt bs 1)
        let s := s.putBytes (busRowAt b.val) (bytesAt bs 0 6)
        let s := s.putBytes (portRowAt p.val + 4) (leBytes 4 (hedgeRate (byteAt bs 1)))
        let s := s.updPort p fun q => { q with rxAdopt := true, txAdopt := true }
        let s := (s.rxBoundary p).adoptTx p
        (if moves then s.busChanged b else s).changed msg 0x0501 [])

/-- The bus and the head that a command's first two bytes name, or the offset of the byte that names none. -/
def State.headNamed (s : State) (bs : List Byte) : Option (BusNo × HeadNo) :=
  (s.portBus (portOf (byteAt bs 0))).map fun b => (b, Fin.ofNat 30 (byteAt bs 1 - 1))

/-- 08 R248, 15 R479, R480: HEAD-SET. -/
def execHeadSet (msg : Msg) (s : State) : Host.Outcome State Fault Refusal :=
  .next (s.serve msg 0x0502 inAll (exactFault [upTo 1 47, range 1 1 30, anyFld 2, anyFld 8]) fun s bs =>
    match s.headNamed bs with
    | none => s.badAt msg 0x0502 0
    | some (b, h) =>
      if s.headBusy b h then s.refused msg 0x0502 0x0012
      else if s.lockedAt (headRowAt b.val h.val) then s.refused msg 0x0502 0x0013
      else
        ((s.putBytes (headRowAt b.val h.val) (bytesAt bs 4 4)).headConfigured b h).changed msg 0x0502 [])

/-- 08 R248: HEAD-GET, the maintained fields included. -/
def execHeadGet (msg : Msg) (s : State) : Host.Outcome State Fault Refusal :=
  .next (s.serve msg 0x0503 inAll (exactFault [upTo 1 47, range 1 1 30]) fun s bs =>
    match s.headNamed bs with
    | none => s.badAt msg 0x0503 0
    | some (b, h) => s.done msg 0x0503 (s.fabricBytes (headRowAt b.val h.val) 8))

/-- 15 R482: HEAD-RETIRE, at once or at the end of an exchange with the head that is outstanding. -/
def execHeadRetire (msg : Msg) (s : State) : Host.Outcome State Fault Refusal :=
  .next (s.serve msg 0x0504 inWork (exactFault [upTo 1 47, range 1 1 30]) fun s bs =>
    match s.headNamed bs with
    | none => s.badAt msg 0x0504 0
    | some (b, h) =>
      if !(s.headRow b h).configured then s.badAt msg 0x0504 1
      else if s.headBusy b h then s.refused msg 0x0504 0x0012
      else
        let t : Taken := { ch := msg.ch, code := 0x0504, tag := msg.tag, payload := msg.payload, malformed := false
                           stamp := s.now, doubt := s.doubtNow }
        match (s.bus b).exchange with
        | some x =>
          if x.cmd.head = h then s.updBus b fun v => { v with retire := some (h, t) } else s.retireHead b h t
        | none => s.retireHead b h t)

/-- 15 R483: HEAD-RETURN starts RESYNC and INVENTORY; on a bus that does not run both fail (15 "HEAD-RETURN meets a BLIND
bus"). -/
def execHeadReturn (msg : Msg) (s : State) : Host.Outcome State Fault Refusal :=
  .next (s.serve msg 0x0505 inWork (exactFault [upTo 1 47, range 1 1 30]) fun s bs =>
    match s.headNamed bs with
    | none => s.badAt msg 0x0505 0
    | some (b, h) =>
      if !(s.headRow b h).configured then s.badAt msg 0x0505 1
      else if s.headBusy b h then s.refused msg 0x0505 0x0012
      else
        let s := s.accept msg 0x0505 (.headReturn b h (s.head b h).state)
        let runs := s.hedgeOn b && decide ((s.bus b).state ≠ .stopped) && decide ((s.bus b).state ≠ .blind)
        if runs then (s.updBus b fun v => v.dropHead h).joinHead b h else s.silence b h)

/-- The head's RESYNC and INVENTORY are over. -/
def State.rejoined (s : State) (b : BusNo) (h : HeadNo) : Bool :=
  let v := s.bus b
  let other (x : Exchange) : Bool := decide (x.cmd.head ≠ h) || decide (x.cmd.type = tyPoll)
  decide ((s.head b h).state = hsActive) ||
    (decide ((s.head b h).state = hsJoining) && (v.queue.all fun c => decide (c.head ≠ h)) &&
      v.exchange.all other && v.retry.all other && v.parked.all other && decide (v.rollCall ≠ some true) &&
      decide (v.rolling ≠ some true))

/-- The head's RETIRED lamps take RETURNING grace (08 R249); a standby's lamps follow the duty's. -/
def State.graceLamps (s : State) (b : BusNo) (h : HeadNo) : State :=
  if s.pair.role = .standby then s
  else s.eachLamp fun s l =>
    let p := s.lamp l
    if lampUsed p.row && decide (lampBus p.row = b) && decide (lampHead p.row = h.val + 1) &&
        decide (p.state = stRetired) then
      s.changeLamp l (fun p => { p with state := stReturning }) s.now false
    else s

/-- 08 R249: HEAD-RETURN completes; outcome 0 is rejoined, 1 SILENT. -/
def execHeadReturnDone (bus : BusNo) (head : HeadNo) (silent : Bool) (s : State) : Host.Outcome State Fault Refusal :=
  let due := if silent then decide ((s.head bus head).state = hsSilent) else s.rejoined bus head
  let mine (w : Work) : Bool := match w with
    | .headReturn b h _ => decide (b = bus) && decide (h = head)
    | .portRetire _ _ _ | .sweep _ _ | .handover | .format | .publish => false
  match s.working? mine with
  | some a =>
    if s.serves && due then
      .next (((s.graceLamps bus head).configChange a.ch a.code.toNat).complete a 0 [if silent then 1 else 0])
    else .next s
  | none => .next s

end Sys2Proof.Machine
end

