-- ==== Sys2Proof/Machine/HedgeBus.lean ====
section
/-!
DEFINITION. What happens on a Hedge bus that the GX-48 masters: rounds, exchanges, attention, ROLL-CALL, the sleep agreement,
and a bus held at space (15 R440, R447-R476).
-/
namespace Sys2Proof.Machine

/-- Characters of a frame leave the FIFO of a hedge port with it (15 R443). -/
def State.dropFrame (s : State) (p : PortNo) : State :=
  s.updPort p fun q => { q with fifo := [], amp := { q.amp with ref := none, stepped := false } }

/-- The same for the master port of a bus. -/
def State.dropReply (s : State) (b : BusNo) : State :=
  match s.hedgePort b with
  | some p => s.dropFrame p
  | none => s

/-- The bus that a port masters. -/
def State.masterBus (s : State) (p : PortNo) : Option BusNo :=
  match s.portBus p with
  | some b => if s.hedgePort b = some p then some b else none
  | none => none

/-- A frame received on the port is abandoned: no start bit counts until one character time of mark (15 R466). -/
def State.abandonFrame (s : State) (p : PortNo) : State :=
  (s.dropFrame p).updPort p fun q => { q with edge := none, hold := .character }

/-- 15 R450: a round starts once the one before has ended. -/
def execPollingRoundStart (bus : BusNo) (s : State) : Host.Outcome State Fault Refusal :=
  let v := s.bus bus
  if s.hedgeOn bus && decide (v.state = .polling) && v.quiet && v.retry.isNone && v.round.isEmpty then
    .next (s.updBus bus fun v => { v with round := s.roundOf bus })
  else .next s

/-- The bus carries the master's frames; a bus asleep carries none but the wake sequence. -/
def State.maySend (s : State) (b : BusNo) : Bool :=
  let v := s.bus b
  s.hedgeOn b && v.quiet &&
    match v.state with
    | .joining | .polling => true
    | .asleep => v.wake.isSome
    | .stopped | .blind => false

/-- A step has been met in the frame being received on the bus (09 R275). -/
def State.replyStepped (s : State) (b : BusNo) : Bool :=
  match s.hedgePort b with
  | some p => (s.port p).amp.stepped
  | none => false

/-- A received frame is abandoned on a master port (15 R465): COLLIDE where a step has been met in it, BAD otherwise. -/
def State.abandonReply (s : State) (b : BusNo) : State :=
  let met := s.replyStepped b
  let s := match s.hedgePort b with
    | some p => s.abandonFrame p
    | none => s
  (if met then s.collide b else s).failAttempt b

/-- 15 R448: a reply frame ends the exchange, accepted or as a failed attempt; one in which a step was met is abandoned
(R465). -/
def execReplyAccepted (bus : BusNo) (frame : List Half) (s : State) : Host.Outcome State Fault Refusal :=
  if s.hedgeOn bus && (s.bus bus).exchange.isSome then
    if s.replyStepped bus then .next (s.abandonReply bus) else .next ((s.dropReply bus).takeReply bus frame)
  else .next s

/-- 15 R449: no reply begins in time. -/
def execReplyTimeout (bus : BusNo) (s : State) : Host.Outcome State Fault Refusal :=
  if s.hedgeOn bus then .next (s.failAttempt bus) else .next s

/-- 15 R440: 2 character times pass inside a frame. The master's attempt fails; a head discards the frame. -/
def execFrameGapTimeout (port : PortNo) (s : State) : Host.Outcome State Fault Refusal :=
  if !s.alive || (decide ((s.port port).rx.rx ≠ .master) && decide ((s.port port).rx.rx ≠ .head)) then .next s
  else
    let s := s.dropFrame port
    match s.portBus port with
    | some b => if s.hedgeOn b then .next (s.failAttempt b) else .next s
    | none => .next s

/-- A frame being received has met a step or a character with FRAME or NOISE (15 R465). -/
def Port.frameBad (q : Port) : Bool := q.amp.stepped || q.fifo.any fun e => e.bits &&& 0x0A00 ≠ 0

/-- 15 R465: a received frame is abandoned, on a master's bus or at a head. -/
def execFrameAbandoned (port : PortNo) (s : State) : Host.Outcome State Fault Refusal :=
  if !(s.alive && (s.port port).frameBad) then .next s
  else match s.masterBus port with
    | some b => if s.hedgeOn b then .next (s.abandonReply b) else .next s
    | none => if (s.port port).rx.rx = .head then .next (s.abandonFrame port) else .next s

/-- The sleep is aborted: WAKE without a pulse, then ROLL-CALL mode 0 (15 R471). -/
def State.abortSleep (s : State) (b : BusNo) : State :=
  s.updBus b fun v => { v with
    sleep := .none, sleepAborts := satAdd 0xFFFF v.sleepAborts 1, wake := some false, rollCall := some false }

/-- A frame of the master is cut on a mismatch (15 R467): a command counts as a failed attempt, a broadcast is sent again, a
SLEEP-COMMIT aborts the sleep. -/
def State.cutFrame (s : State) (b : BusNo) : State :=
  let v := s.bus b
  let s := (s.updBus b fun v => { v with sent := [] }).collide b
  if v.exchange.isSome then s.failAttempt b
  else match v.rolling, v.sleep with
    | some mode, _ => s.updBus b fun v => { v with rolling := none, rollCall := some mode }
    | none, .committing => s.abortSleep b
    | none, .proposed => s
    | none, .none =>
      if v.sent = hedgeFrame 4 31 tyWake false [] ∧ v.state = .polling then s.updBus b fun v => { v with wake := some false }
      else s

/-- ATTENTIONS (15 R457). -/
def Bus.attend (v : Bus) : Bus := { v with attentions := satAdd 0xFFFF v.attentions 1 }

/-- What follows attention (15 R458): ROLL-CALL mode 0 next, a join's ROLL-CALL after it; or one more after the POLLs of a
grant. -/
def Bus.callAgain (v : Bus) : Bus :=
  if v.granting then { v with again := true }
  else { v with rollCall := some false, joinDue := v.joinDue || decide (v.rollCall = some true) }

/-- 15 R457, R458: a space of 1.5 to 6 bit times in a window is attention; a shorter one counts as a glitch, a longer one
as a bus fault. -/
def execAttentionTaken (bus : BusNo) (tenths : Nat) (s : State) : Host.Outcome State Fault Refusal :=
  let v := s.bus bus
  if s.hedgeOn bus && v.quiet && (decide (v.state = .joining) || decide (v.state = .polling)) then
    if tenths < 15 then
      match s.hedgePort bus with
      | some p => .next (s.updPort p fun q => { q with
          stats := { q.stats with glitches := satAdd top32 q.stats.glitches 1 } })
      | none => .next s
    else if tenths ≤ 60 then .next (s.updBus bus fun v => v.attend.callAgain)
    else .next (s.updBus bus fun v => { v with faults := satAdd top32 v.faults 1 })
  else .next s

/-- Slot answers from addresses with no configured row (15 R464). -/
def State.countStrangers (s : State) (b : BusNo) (answers : List HeadNo) : State :=
  (List.finRange 30).foldl (fun s h =>
    if answers.contains h && !(s.headRow b h).configured then
      (s.updBus b fun v => { v with strangers := satAdd 0xFFFF v.strangers 1 }).ring bellHedge
    else s) s

/-- 15 R458, R459, R461: the slots end. After mode 1 every expected head is joined; after mode 0 the heads that answered
are to be POLLed. -/
def execRollCallEnd (bus : BusNo) (answers : List HeadNo) (s : State) : Host.Outcome State Fault Refusal :=
  match s.hedgeOn bus, (s.bus bus).rolling with
  | true, some mode =>
    let s := (s.updBus bus fun v => { v with rolling := none }).countStrangers bus answers
    if mode then
      .next (((s.expected bus).foldl (fun s h => s.joinHead bus h) s).updBus bus Bus.settle)
    else
      let g := (s.expected bus).filter fun h => answers.contains h && s.pollable bus h
      let s := g.foldl (fun s h => s.updHead bus h fun d => { d with attn := true }) s
      .next (s.updBus bus fun v => { v with grant := g, granting := !g.isEmpty }.settle)
  | _, _ => .next s

/-! ### The sleep agreement (15 R469-R474) -/

/-- Nothing waits to be sent on the bus. -/
def Bus.idle (v : Bus) : Bool :=
  v.quiet && v.retry.isNone && v.parked.isEmpty && v.grant.isEmpty && v.queue.isEmpty && v.setLamps.isEmpty &&
  v.round.isEmpty && v.rollCall.isNone && v.wake.isNone && !v.again && !v.joinDue

/-- 15 R469: SLEEP-PROPOSE at the end of a round, `msLeft` before the next. -/
def execSleepPropose (bus : BusNo) (msLeft : Nat) (s : State) : Host.Outcome State Fault Refusal :=
  let v := s.bus bus
  if s.hedgeOn bus && (s.busRow bus).sleep && decide (v.state = .polling) && v.idle && decide (60 ≤ msLeft) then
    let n := min 6000 ((msLeft - 2) / 10)
    .next ((s.updBus bus fun v => { v with sleep := .proposed, sleepFor := BitVec.ofNat 16 n }).broadcast bus tyPropose
      (leBytes 2 n) false)
  else .next s

/-- 15 R470: the objection window ends. -/
def execObjectionWindowEnd (bus : BusNo) (objected : Bool) (s : State) : Host.Outcome State Fault Refusal :=
  let v := s.bus bus
  if s.hedgeOn bus && decide (v.sleep = .proposed) then
    if objected then .next (s.updBus bus fun v => { v with sleep := .none, rollCall := some false })
    else
      let s := (s.updBus bus fun v => { v with sleep := .committing }).broadcast bus tyCommit (leBytes 2 v.sleepFor.toNat) false
      match s.hedgePort bus with
      | some p => .next (s.updPort p fun q => { q with fell := false })
      | none => .next s
  else .next s

/-- 15 R471: a space overlaps SLEEP-COMMIT, which is a collision too, or its guard. -/
def execSleepAbort (bus : BusNo) (onCommit : Bool) (s : State) : Host.Outcome State Fault Refusal :=
  if s.hedgeOn bus && decide ((s.bus bus).sleep = .committing) then
    .next ((if onCommit then s.collide bus else s).abortSleep bus)
  else .next s

/-- 15 R471, R474: a waking pulse, or the end of the sleep length. The master sends a wake pulse of its own only where no
falling edge has come since the commit. -/
def execBusWake (bus : BusNo) (byPulse : Bool) (s : State) : Host.Outcome State Fault Refusal :=
  let v := s.bus bus
  if s.hedgeOn bus && decide (v.state = .asleep) && v.wake.isNone then
    let fell := byPulse || (match s.hedgePort bus with
      | some p => (s.port p).fell
      | none => false)
    .next (s.updBus bus fun v =>
      { (if byPulse then v.attend else v) with wake := some (!fell), rollCall := some false })
  else .next s

/-! ### A bus held at space (15 R475, R476) -/

/-- A head of a bus at space becomes BLIND, one that the bus has not joined yet too; a HEAD-RETURN under way fails, with its
head SILENT. -/
def State.blindHead (s : State) (b : BusNo) (h : HeadNo) : State :=
  let st := (s.head b h).state
  if st = hsRetired ∨ st = hsBlind ∨ (st = hsAbsent ∧ !(s.headRow b h).configured) then s
  else
    let s := (s.updHead b h fun d => { d with state := hsBlind, attn := false, wasLost := true }).headEvent b h evHeadBlind
    if s.headBusy b h then s.silence b h else s

/-- A master's bus is at space (15 R475). -/
def State.blindBus (s : State) (b : BusNo) : State :=
  let st := (s.bus b).state
  if s.hedgeOn b && decide (st ≠ .stopped) && decide (st ≠ .blind) then
    let s := ((s.dropReply b).updBus b fun v => { v.clear with state := .blind, sent := [] }).endRetire b
    (List.finRange 30).foldl (fun s h => s.blindHead b h) s
  else s

/-- A BLIND bus is back at mark: the master runs a join, and each head that becomes ACTIVE is back (15 R476). -/
def State.recoverBus (s : State) (b : BusNo) : State :=
  if s.hedgeOn b && decide ((s.bus b).state = .blind) then
    ((s.expected b).foldl (fun s h => s.updHead b h fun d => { d with wasLost := true }) s).beginJoin b
  else s

/-- 15 R476: the master drives mark for one character time and records the reading. -/
def execBlindProbe (bus : BusNo) (reading : Byte) (s : State) : Host.Outcome State Fault Refusal :=
  if s.hedgeOn bus && decide ((s.bus bus).state = .blind) then .next (s.updBus bus fun v => { v with probe := reading })
  else .next s

end Sys2Proof.Machine
end

