-- ==== Sys2Proof/Machine/HeadRole.lean ====
section
/-!
DEFINITION. A GX-48 port acting as a head (15 R452-R460, R470-R473, R484, R485).
-/
namespace Sys2Proof.Machine

/-- The port answers as a head: the engine is up in a working mode, and no standby sends on a bus (17 R519). -/
def State.actsAsHead (s : State) (p : PortNo) : Bool :=
  s.engineWorks && decide ((s.port p).rx.rx = .head) && decide (s.pair.role ≠ .standby)

def State.updRole (s : State) (p : PortNo) (f : HeadRole → HeadRole) : State :=
  s.updPort p fun q => { q with head := f q.head }

/-- The reply last sent was a REPORT. -/
def sentReport (f : List Byte) : Bool := decide (byteAt f 1 % 128 = tyReport.toNat)

/-- SENDING ends with the frame's last stop bit (15 R460, R484), which is past at the port's next event (log entry 73). -/
def HeadRole.settle (r : HeadRole) : HeadRole :=
  if r.mode = .sending then { r with mode := .awake, attention := r.attention && !sentReport r.reply } else r

/-- The reply that a head has prepared goes out, where its driver may be enabled (15 R484: TURNAROUND to SENDING). -/
def State.headSend (s : State) (p : PortNo) : State :=
  match (s.port p).head.mode, (s.port p).head.prepared with
  | .turnaround, some f =>
    if s.mayDrive p then (s.updRole p fun r => { r with mode := .sending, prepared := none, reply := f }).readOwn p f
    else s.updRole p fun r => { r with mode := .awake, prepared := none, reply := [] }
  | _, _ => s

/-- A pulse is driven while the driver may be enabled. -/
def State.headPulse (s : State) (p : PortNo) : State :=
  if s.mayDrive p then s.updRole p fun r => { r with reply := [], pulses := r.pulses + 1 } else s

/-- The REPORT of 15 R485: attention, then two lamps without current or flashes. -/
def State.reportPayload (s : State) (p : PortNo) : List Byte :=
  let (a, b) := s.headLamps
  [BitVec.ofNat 8 (flag (s.port p).head.attention 0), 2, a, 0, 0, 0, b, 0, 0, 0]

/-- The INVENTORY reply of 15 R485; the version is the image header's (07 Table - Header). -/
def State.inventoryPayload (s : State) : List Byte :=
  let h := s.engine.header.getD []
  leBytes 2 0x5659 ++ leBytes 2 0x0048 ++ [2, BitVec.ofNat 8 (fieldAt h 8 2), BitVec.ofNat 8 (fieldAt h 10 2),
    BitVec.ofNat 8 (fieldAt h 12 2)]

/-- The command LEN of a type that a head executes (15 R444), none for a reserved one. -/
def commandLen (t : BitVec 7) : Option Nat :=
  if t = tyPoll ∨ t = tyInventory ∨ t = tyResync then some 0 else if t = tySetLamp then some 2 else none

/-- The reply's KIND, type and payload. -/
def State.replyTo (s : State) (p : PortNo) (t : BitVec 7) : Nat × BitVec 7 × List Byte :=
  if t = tyPoll then (1, tyReport, s.reportPayload p)
  else if t = tyInventory then (1, tyInventory, s.inventoryPayload)
  else (2, t, [])

/-- A command accepted by its head (15 R453, R454): a repeat is answered with the kept reply, any other is executed; the
reply is prepared. -/
def State.headExecute (s : State) (p : PortNo) (addr : Nat) (f : HedgeFrame) : State :=
  let r := (s.port p).head
  let kept := match r.kept with
    | some (t, ty, rep) => if decide (f.type ≠ tyResync) && t == f.toggle && decide (ty = f.type) then some rep else none
    | none => none
  let rep := match kept with
    | some rep => rep
    | none =>
      let (k, ty, pay) := s.replyTo p f.type
      hedgeFrame k addr ty f.toggle pay
  s.updRole p fun r => { r with
    mode := .turnaround, prepared := some rep
    kept := if f.type = tyResync then none else some (f.toggle, f.type, rep) }

/-- A broadcast's effect on a head (15 Table - Head state machine); SLEEP-COMMIT waits for its guard (R472). -/
def State.headBroadcast (s : State) (p : PortNo) (f : HedgeFrame) : State :=
  let attention := (s.port p).head.attention
  if f.type = tyRollCall then
    if f.payload = [1] ∨ (f.payload = [0] ∧ attention) then s.headPulse p else s
  else if f.type = tyPropose then (if f.payload.length = 2 ∧ attention then s.headPulse p else s)
  else if f.type = tyCommit then
    if f.payload.length = 2 then s.updRole p fun r => { r with commit := some (BitVec.ofNat 16 (fieldAt f.payload 0 2)) }
    else s
  else s

/-- A frame from the master (15 R439). -/
def HedgeFrame.fromMaster (f : HedgeFrame) : Bool :=
  (decide (f.kind = 0) && decide (1 ≤ f.addr) && decide (f.addr ≤ 30)) || (decide (f.kind = 4) && decide (f.addr = 31))

/-- A frame of the master reaches a head (15 R484): accepted, it ends a sleep (R473); to the head's own address, or to all,
it is acted on. -/
def State.headFrame (s : State) (p : PortNo) (f : HedgeFrame) : State :=
  let r := (s.port p).head
  if !f.fromMaster || (decide (r.mode ≠ .awake) && decide (r.mode ≠ .asleep)) then s
  else
    let s := s.updRole p fun r => { r with mode := .awake, commit := none }
    let addr := (s.port p).rx.myAddr
    if f.kind = 4 then s.headBroadcast p f
    else if f.addr = addr ∧ commandLen f.type = some f.payload.length then s.headExecute p addr f
    else s

/-- Characters received at a head: a frame in which a step was met is abandoned (15 R465); one that is not accepted does
nothing. -/
def State.headHears (s : State) (p : PortNo) (frame : List Half) : State :=
  let s := s.updRole p HeadRole.settle
  if (s.port p).amp.stepped then s.abandonFrame p
  else
    let s := s.dropFrame p
    match readFrame frame with
    | none => s
    | some f => s.headFrame p f

/-- 15 R485: a command frame reaches the port. -/
def execHeadCommandReceived (port : PortNo) (frame : List Half) (s : State) : Host.Outcome State Fault Refusal :=
  if s.actsAsHead port then .next (s.headHears port frame) else .next s

/-- 15 R485: a broadcast reaches the port. -/
def execHeadBroadcastReceived (port : PortNo) (frame : List Half) (s : State) : Host.Outcome State Fault Refusal :=
  if s.actsAsHead port then .next (s.headHears port frame) else .next s

/-- A head that is awake or asleep may pulse (15 R477, R484). -/
def HeadRole.mayPulse (r : HeadRole) : Bool := r.attention && (decide (r.mode = .awake) || decide (r.mode = .asleep))

/-- 15 R456: one pulse while attention is pending. -/
def execHeadAttentionPulse (port : PortNo) (s : State) : Host.Outcome State Fault Refusal :=
  if s.actsAsHead port then
    let s := s.updRole port HeadRole.settle
    if (s.port port).head.mayPulse then .next (s.headPulse port) else .next s
  else .next s

/-- 15 R473: S plus 1 s have passed without a master frame. -/
def execHeadSleepEnds (port : PortNo) (s : State) : Host.Outcome State Fault Refusal :=
  if s.actsAsHead port && decide ((s.port port).head.mode = .asleep) then
    .next (s.updRole port fun r => { r with mode := .awake })
  else .next s

/-! ### Events that a master and a head share -/

/-- 15 R447: the master sends its next frame; a head sends the reply it has prepared (R484). -/
def execHedgeCommandSend (port : PortNo) (s : State) : Host.Outcome State Fault Refusal :=
  match s.masterBus port with
  | some b => if s.maySend b then .next (s.sendNext b) else .next s
  | none =>
    if s.actsAsHead port then .next ((s.updRole port HeadRole.settle).headSend port) else .next s

/-- 15 R467, R468: a bit read back differs from the bit driven. The master cuts its frame; a head cuts its reply, releases
its driver and does not send again. -/
def execReadbackMismatch (port : PortNo) (s : State) : Host.Outcome State Fault Refusal :=
  match s.masterBus port with
  | some b => if s.hedgeOn b && !(s.bus b).sent.isEmpty then .next (s.cutFrame b) else .next s
  | none =>
    if s.actsAsHead port && decide ((s.port port).head.mode = .sending) then
      .next (s.updRole port fun r => { r with mode := .awake, reply := [] })
    else .next s

/-- 15 R470 step 7, R472: the guard passes with no falling edge; the bus, or the head, sleeps. -/
def execSleepBegins (port : PortNo) (s : State) : Host.Outcome State Fault Refusal :=
  match s.masterBus port with
  | some b =>
    if s.hedgeOn b && decide ((s.bus b).sleep = .committing) then
      .next (s.updBus b fun v => { v with sleep := .none, state := .asleep })
    else .next s
  | none =>
    match s.actsAsHead port, (s.port port).head.commit with
    | true, some n => .next (s.updRole port fun r => { r with mode := .asleep, commit := none, sleepFor := n })
    | _, _ => .next s

/-- 15 R475, R477: the bus has been at space for more than 16 character times. The master's heads are BLIND; a head stops
driving and drops the reply it prepares. -/
def execBusBlind (port : PortNo) (s : State) : Host.Outcome State Fault Refusal :=
  match s.masterBus port with
  | some b => .next (s.blindBus b)
  | none =>
    if s.actsAsHead port then
      .next ((s.dropFrame port).updRole port fun r => { r.settle with
        mode := .hushed, prepared := none, commit := none, reply := [] })
    else .next s

/-- 15 R476, R484: the bus has been at mark for 2 character times: the master joins its heads, a hushed head is awake. -/
def execBusRecovered (port : PortNo) (s : State) : Host.Outcome State Fault Refusal :=
  match s.masterBus port with
  | some b => .next (s.recoverBus b)
  | none =>
    if s.actsAsHead port && decide ((s.port port).head.mode = .hushed) then
      .next (s.updRole port fun r => { r with mode := .awake })
    else .next s

end Sys2Proof.Machine
end

