-- ==== Sys2Proof/Machine/Nand.lean ====
section
/-!
DEFINITION. The journal's medium (18 R543, R554, R558-R569): its ring, spares and bad blocks, the durable sequence, the
mount, relocation, scrub moves and the format.
-/
namespace Sys2Proof.Machine

/-! ### Sequence numbers (18 R552, R560): 1 to 2^32 - 1, then 1 again -/

/-- The number `k` after `n`. -/
def seqAfter (n k : Nat) : Word := BitVec.ofNat 32 ((n + k - 1) % 0xFFFFFFFF + 1)

/-- The number before `q`; 0 where none has been used. -/
def Journal.before (j : Journal) (q : Word) : Word := if q = 1 ∧ j.durable ≠ 0 then 0xFFFFFFFF else q - 1

def Page.first (p : Page) : Word :=
  match p.records.head? with
  | some r => r.seq
  | none => 0

def Page.last (p : Page) : Word :=
  match p.records.getLast? with
  | some r => r.seq
  | none => 0

/-- The highest number at or below which every record is durable, aged out or named lost (18 R554). -/
def Journal.reach (j : Journal) : Word :=
  match j.closed, j.staging with
  | c :: _, _ => j.before c.page.first
  | [], some (_, p) => if p.records.isEmpty then j.accepted else j.before p.first
  | [], none => j.accepted

/-- The durable sequence, with doorbell 5 at its advance (18 R554). -/
def State.settle (s : State) : State :=
  let d := s.journal.reach
  if d = s.journal.durable then s else (s.setJournal fun j => { j with durable := d }).ring bellJournal

/-! ### Records of Silt's own work -/

/-- A record accepted at once where a page can take it, else one that waits (18 R552, R557). -/
def State.writeRecord (s : State) (r : Rec) : State :=
  match s.journal.accept r with
  | some j => s.setJournal fun _ => j
  | none => s.setJournal fun j => { j with waiting := j.waiting ++ [r] }

/-- A record made now. -/
def State.siltRecord (s : State) (kind : Byte) (body : List Byte) : State :=
  s.writeRecord { kind := kind, flags := recFlags false s.doubtNow, boot := 0, stamp := s.now, seq := 0, body := body }

/-- A LOSS record: counted, with doorbell 5 (06 R194). -/
def State.lossRecord (s : State) (first last : Word) (dropped cause : Nat) : State :=
  let s := s.siltRecord kLoss (lossBody first last dropped cause)
  (s.setJournal fun j => { j with lossRecords := satAdd top32 j.lossRecords 1 }).ring bellJournal

/-- A MEDIA record's body. -/
def mediaBody (action a b : Nat) (first last : Word) : List Byte :=
  leBytes 1 action ++ leBytes 1 0 ++ leBytes 2 a ++ leBytes 2 b ++ leBytes 2 0 ++ leBytes 4 first.toNat ++
    leBytes 4 last.toNat

/-! ### Blocks -/

/-- Good ring blocks and spares together (18 R566); a block on its way to the spares counts. -/
def Nand.stock (n : Nand) : Nat :=
  n.ring.length + n.spares.length + n.erasing.countP fun b => !n.ring.contains b

def Nand.holds (n : Nand) (b : Nat) : Bool := n.pages.any fun p => decide (p.block = b)

/-- The ring block after `b`. -/
def Nand.next (n : Nand) (b : Nat) : Nat :=
  match n.ring.dropWhile fun c => decide (c ≠ b) with
  | _ :: c :: _ => c
  | _ => n.ring.headD b

/-- `c` stands in the ring in the place of `b`. -/
def Nand.replace (n : Nand) (b c : Nat) : Nand := { n with ring := n.ring.map fun d => if d = b then c else d }

def Nand.eraseCount (n : Nand) (b : Nat) : Nat :=
  match n.erases.find? fun e => decide (e.1 = b) with
  | some e => e.2
  | none => 0

/-- The least-erased spare. -/
def Nand.freshSpare (n : Nand) : Option Nat := minBy n.eraseCount n.spares

/-- Ring block `b` is written next: its pages age out and it is erased first, unless a spare more than 64 erases younger
takes its place (18 R569). -/
def Nand.recycle (n : Nand) (b : Nat) : Nand :=
  let n := { n with pages := n.pages.filter (fun p => decide (p.block ≠ b)), block := b, nextPage := 0
                    erasing := n.erasing ++ [b] }
  match n.freshSpare with
  | some c =>
    if n.eraseCount c + 64 < n.eraseCount b then
      { n.replace b c with block := c, spares := n.spares.filter fun d => decide (d ≠ c) }
    else n
  | none => n

/-- The ring block after the full one is written next; it is erased where it holds pages. -/
def Nand.advance (n : Nand) : Nand :=
  let b := n.next n.block
  if n.holds b then n.recycle b else { n with block := b, nextPage := 0 }

/-- Block `b` is bad (18 R563, R565). -/
def Nand.markBad (n : Nand) (b : Nat) : Nand :=
  { n with bad := n.bad ++ [b]
           ring := n.ring.filter (fun c => decide (c ≠ b)), spares := n.spares.filter fun c => decide (c ≠ b) }

/-- Every durable page of `b` now stands in `c`. -/
def Nand.copyPages (n : Nand) (b c : Nat) : Nand :=
  { n with pages := n.pages.map fun p => if p.block = b then { p with block := c } else p }

/-- The write block has failed: a spare takes its place, or the next ring block is erased for it; the durable pages of the
failed block go along (18 R563 steps 1 to 3). None where no block is left. -/
def Nand.leaveBlock (n : Nand) : Option Nand :=
  let b := n.block
  match n.spares with
  | c :: rest =>
    let n := (n.replace b c).copyPages b c
    some { n with block := c, spares := rest, bad := n.bad ++ [b] }
  | [] =>
    let c := n.next b
    if c = b then none
    else
      let k := n.nextPage
      let n := (n.markBad b).recycle c
      some { n.copyPages b n.block with nextPage := k }

/-! ### The bad block table (18 R544) -/

/-- The medium `n` as it follows `before`: a change of the bad blocks or of the spares makes a new generation of the table. -/
def Nand.tabled (n before : Nand) : Nand :=
  if n.bad = before.bad ∧ n.spares = before.spares then n else { n with generation := before.generation + 1 }

/-- The journal's medium is now `n`, its table kept up. -/
def State.putNand (s : State) (n : Nand) : State :=
  s.setJournal fun j => { j with nand := some (match j.nand with
    | some m => n.tabled m
    | none => n) }

/-- One bit for each block, from bit 0 of the first byte. -/
def Nand.blockBits (n : Nand) (f : Nat → Bool) : List Byte :=
  (List.range ((n.geom.blocks + 7) / 8)).map fun k =>
    BitVec.ofNat 8 (sumOf (fun i => flag (decide (8 * k + i < n.geom.blocks) && f (8 * k + i)) i) (List.range 8))

/-- The main area of the table's newest copy. What fills it is free, and a table longer than the page is cut (log entry 167). -/
def Nand.tablePage (n : Nand) : List Byte :=
  let body := [0x53, 0x42, 0x42, 0x54] ++ leBytes 4 n.generation ++ leBytes 2 n.geom.blocks ++
    n.blockBits (fun b => !n.bad.contains b) ++ n.blockBits fun b => n.spares.contains b
  let filling := (List.range (n.geom.pageSize - 4 - body.length)).map fun k =>
    Config.tableFill n.generation (body.length + k)
  let main := (body ++ filling).take (n.geom.pageSize - 4)
  main ++ leBytes 4 (crc32 main).toNat

/-- Table block and page of the newest copy: a format writes the first page of both, and each later generation goes to the
two in turn, from the first (DESIGN CHOICE, log entry 167), a full one being erased. -/
def Nand.tableSpot (n : Nand) : Nat × Nat :=
  match n.generation - n.tableBase with
  | 0 => (n.tables.getD 0 0, 0)
  | k + 1 => (n.tables.getD (k % 2) 0, (1 + k / 2) % n.geom.pagesPerBlock)

/-! ### Commands to the targets (18 Table - Supported NAND, R542) -/

/-- Blocks of one target. -/
def NandGeom.perTarget (g : NandGeom) : Nat := g.blocks / max 1 g.listed.length

def Nand.targetOf (n : Nand) (b : Nat) : Nat := b / max 1 n.geom.perTarget

/-- The commands of an operation on block `b`, with the RESET that its target is owed. -/
def Nand.issues (n : Nand) (b : Nat) (op : NandOp) : List Byte :=
  let reset : List Byte := if n.resets.contains (n.targetOf b) then [0xFF] else []
  let own : List Byte := match op with
    | .read => [0x00, 0x30]
    | .program => [0x80, 0x10, 0x70]
    | .erase => [0x60, 0xD0, 0x70]
  reset ++ own

/-- The target of block `b` has been used, past its RESET. -/
def Nand.touch (n : Nand) (b : Nat) : Nand := { n with resets := n.resets.filter fun t => decide (t ≠ n.targetOf b) }

/-- The target of block `b` is owed a RESET. -/
def State.oweReset (s : State) (b : Nat) : State :=
  s.setJournal fun j => { j with nand := j.nand.map fun n => { n.touch b with resets := n.targetOf b :: (n.touch b).resets } }

/-- The journal stops for want of blocks (18 R566): state 1 and doorbell 5; event records are then discarded (R572). -/
def State.checkStock (s : State) : State :=
  match s.journal.nand with
  | some n =>
    if n.stock < 16 ∧ s.journal.state = 0 then
      (s.setJournal fun j => { j with state := 1, waiting := [], dropped := 0, owed := [] }).ring bellJournal
    else s
  | none => s

/-! ### The areas of a page (18 R550, R551) -/

/-- The main area of a programmed page: ERASES stands in the first page of a block only. -/
def Nand.mainArea (n : Nand) (p : NandPage) : List Byte :=
  p.page.bytes n.geom.pageSize (if p.index = 0 then n.eraseCount p.block else 0)

/-- The spare area of a main area: bytes 0 and 1 of a good block, 13 bytes of BCH parity for each 512-byte sector, and 0xFF
in every other byte. -/
def Nand.spareArea (n : Nand) (main : List Byte) : List Byte :=
  let parity := ((List.range (n.geom.pageSize / 512)).map fun k =>
    leBytes 13 (Config.bchParity (bytesAt main (512 * k) 512)).toNat).flatten
  let used := [0xFF, 0xFF] ++ parity
  used ++ List.replicate (n.geom.spareSize - used.length) 0xFF

/-- The code corrects every sector: up to 8 bit errors in each (R551). -/
def correctable (errors : List Nat) : Bool := errors.all fun e => decide (e ≤ 8)

/-- What a read-back amounts to, `errors` the bit errors of each sector (18 R567, R568). -/
def scrubResult (errors : List Nat) : ScrubResult :=
  if !correctable errors then .uncorrectable else if errors.any fun e => decide (5 ≤ e) then .worn else .clean

/-! ### Programs, erases and read-backs -/

/-- Silt works on the medium: mounted and running, with the engine up to verify (18 R562). -/
def State.siltWorks (s : State) : Bool := s.siltRuns && s.engine.up

/-- In DOZE the operation in progress completes (18 R570). -/
def State.siltDozes (s : State) : Bool :=
  s.alive && decide (s.mode = .doze) && s.engine.up && s.journal.mounted && decide (s.journal.state = 0)

/-- That operation is `op`. -/
def State.dozeEnds (s : State) (op : NandOp) : Bool := s.siltDozes && s.journal.nand.any fun n => decide (n.left = some op)

/-- It has ended; Silt stops. -/
def State.siltRests (s : State) : State :=
  s.setJournal fun j => { j with nand := j.nand.map fun n => { n with left := none } }

/-- The oldest closed page is durable (18 R554): it joins the medium, and a relocation is recorded (R563 step 5). -/
def State.pageDurable (s : State) (n : Nand) (c : Closing) (rest : List Closing) : State :=
  let page := { c.page with serial := n.serial + 1, relocated := c.movedFrom.isSome }
  let b := n.block
  let n := { n with serial := n.serial + 1, nextPage := n.nextPage + 1
                    pages := n.pages ++ [{ block := b, index := n.nextPage, page := page }] }
  let n := if n.geom.pagesPerBlock ≤ n.nextPage then n.advance else n
  let s := (s.putNand n).setJournal fun j => { j with closed := rest, programmed := satAdd top32 j.programmed 1 }
  let s := match c.movedFrom with
    | some a =>
      let s := s.siltRecord kMedia (mediaBody 0 a b c.page.first c.page.last)
      (s.setJournal fun j => { j with relocations := satAdd top32 j.relocations 1 }).ring bellJournal
    | none => s
  s.settle

/-- Silt gives up the oldest closed page (18 R564). -/
def State.giveUp (s : State) (c : Closing) (rest : List Closing) : State :=
  (s.setJournal fun j => { j with closed := rest }).lossRecord c.page.first c.page.last 0 0

/-- Its program or read-back failed (18 R563, R564). -/
def State.pageFailed (s : State) (n : Nand) (c : Closing) (rest : List Closing) : State :=
  let b := n.block
  let s := match n.leaveBlock with
    | none => (s.putNand (n.markBad b)).giveUp c rest
    | some m =>
      let s := s.putNand m
      if 2 ≤ c.fails then s.giveUp c rest
      else
        let c := { c with fails := c.fails + 1, movedFrom := some b }
        s.setJournal fun j => { j with closed := c :: rest }
  s.settle.checkStock

/-- A page program and its read-back end. -/
def State.programEnds (s : State) (ok : Bool) : State :=
  match s.journal.nand, s.journal.closed with
  | some n, c :: rest =>
    let n := n.touch n.block
    if n.erasing.contains n.block then s
    else if ok then s.pageDurable n c rest
    else s.pageFailed n c rest
  | _, _ => s

/-- The erase under way ends (18 R565, R567, R569). -/
def State.eraseEnds (s : State) (ok : Bool) : State :=
  match s.journal.nand with
  | none => s
  | some n =>
    match n.erasing with
    | [] => s
    | b :: rest =>
      let n := { n.touch b with
                        erasing := rest
                        erases := (b, n.eraseCount b + 1) :: n.erases.filter fun e => decide (e.1 ≠ b) }
      if ok then
        let n := if n.ring.contains b then n else { n with spares := n.spares ++ [b] }
        s.putNand n
      else
        let c := n.next b
        let m := n.markBad b
        let m := if n.block = b then
            let k := n.nextPage
            { (m.recycle c).copyPages b (m.recycle c).block with nextPage := k }
          else m
        let s := (s.putNand m).setJournal fun j => { j with retired := satAdd top32 j.retired 1 }
        (s.siltRecord kMedia (mediaBody 2 b (if n.block = b then m.block else b) 0 0)).checkStock

/-- The durable page the scrub reads next: the oldest not yet read back, then the oldest again (18 R567). -/
def Nand.scrubPage (n : Nand) : Option NandPage :=
  match minBy (fun p => p.page.serial) (n.pages.filter fun p => decide (n.scrubAt < p.page.serial)) with
  | some p => some p
  | none => minBy (fun p => p.page.serial) n.pages

/-- The block of a worn page moves to a spare, which takes its place; the old block is erased (18 R567). Without a spare
it stays. -/
def State.moveBlock (s : State) (n : Nand) (b : Nat) : State :=
  match n.spares with
  | [] => s.putNand n
  | c :: rest =>
    let moved := (n.pages.filter fun p => decide (p.block = b)).map (·.page)
    let first := match moved.head? with
      | some p => p.first
      | none => 0
    let last := match moved.getLast? with
      | some p => p.last
      | none => 0
    let m := (n.replace b c).copyPages b c
    let m := { m with spares := rest, block := if n.block = b then c else n.block, erasing := n.erasing ++ [b] }
    let s := (s.putNand m).setJournal fun j => { j with scrubs := satAdd top32 j.scrubs 1 }
    s.siltRecord kMedia (mediaBody 1 b c first last)

/-- The durable page of this PAGESERIAL has been read, by the scrub or for JOURNAL-READ (18 R567, R568). -/
def State.checkPage (s : State) (serial : Nat) (r : ScrubResult) : State :=
  match s.journal.nand with
  | none => s
  | some n =>
    match n.pages.find? fun p => decide (p.page.serial = serial) with
    | none => s
    | some p =>
      let n := n.touch p.block
      match r with
      | .clean => s.putNand n
      | .worn => s.moveBlock n p.block
      | .uncorrectable =>
        let n := { n with pages := n.pages.filter fun q => decide (q.page.serial ≠ serial) }
        (s.lossRecord p.page.first p.page.last 0 1).moveBlock n p.block

/-- The scrub has read its next page back (18 R567). -/
def State.scrubEnds (s : State) (r : ScrubResult) : State :=
  match s.journal.nand with
  | none => s
  | some n =>
    match n.scrubPage with
    | none => s
    | some p => (s.putNand { n with scrubAt := p.page.serial }).checkPage p.page.serial r

/-! ### The mount (18 R558-R560, R571) -/

/-- Every record the medium and staging hold, in the order of their numbers (18 R573). -/
def Journal.records (j : Journal) : List Rec :=
  let medium : List Rec := match j.nand with
    | some n => (n.pages.map fun p => p.page.records).flatten
    | none => []
  let open_ : List Rec := match j.staging with
    | some (_, p) => p.records
    | none => []
  medium ++ (j.closed.map fun c => c.page.records).flatten ++ open_

def maxOf (l : List Nat) : Nat := l.foldl max 0

/-- The medium a mount finds: writing resumes at the first page of the ring block after the newest page's, erased first
(18 R558); after a format, at the ring's head. -/
def Nand.resume (n : Nand) : Nand :=
  let newest := maxOf (n.pages.map fun p => p.page.serial)
  let at_ := match n.pages.find? fun p => decide (p.page.serial = newest) with
    | some p => n.next p.block
    | none => n.ring.headD 0
  let n := { n with serial := newest, scrubAt := 0, erasing := [], left := none }
  if n.fresh then { n with block := n.ring.headD 0, nextPage := 0, fresh := false } else n.recycle at_

/-- What is discarded where the mount finds no journal to run (18 R571, R572); in states 2 and 3 the sequence numbers are
0. -/
def Journal.idle (j : Journal) (state : Nat) : Journal :=
  let j := if state = 1 then j else { j with accepted := 0, durable := 0 }
  { j with state := state, mounted := true, staging := none, closed := [], waiting := [], dropped := 0, held := [],
           heldDropped := 0, owed := [], resetOwed := false }

/-- The body of a BOOT record. -/
def State.bootBody (s : State) : List Byte :=
  leBytes 1 s.power.lastReset.toNat ++ leBytes 1 s.roadMode.code ++ bytesAt (s.engine.header.getD []) 8 6 ++
    leBytes 4 s.settings.digest.toNat

/-- The CONFIG record of a RESETCTL reset, with the reset stamp (05 R179). -/
def State.resetRecord (s : State) : State :=
  if s.journal.resetOwed then
    (s.setJournal fun j => { j with resetOwed := false }).writeRecord
      { kind := kConfig, flags := 0, boot := 0, stamp := BitVec.ofNat 48 (s.memField resetStampAt 6), seq := 0
        body := configBody (windowCode .ctl) 2 0 0 false 0 s.settings.digest }
  else s

/-- The mount of a formatted device. -/
def State.mountOn (s : State) (n : Nand) : State :=
  let recs := s.journal.records
  let boot := maxOf (recs.map fun r => r.boot.toNat)
  let top := maxOf (recs.map fun r => r.seq.toNat)
  let fresh := n.fresh
  let first := if fresh then 1 else seqAfter top 0x10000
  let held := s.journal.held
  let lost := s.journal.heldDropped
  let s := s.setJournal fun j => { j with
    state := 0, mounted := true, boot := BitVec.ofNat 16 (if 65535 ≤ boot then 1 else boot + 1), nextSeq := first
    accepted := first - 1, durable := first - 1, nand := some (n.resume.tabled n), staging := none, closed := [], held := []
    heldDropped := 0 }
  let s := s.siltRecord kBoot s.bootBody
  let s := if fresh then s else s.lossRecord (seqAfter top 1) (seqAfter top 0xFFFF) 0 2
  let s := held.foldl State.writeRecord s
  let s := if lost = 0 then s else s.lossRecord 0 0 lost 3
  s.resetRecord

/-- The highest timing mode listed, up to 4 (18 R540). -/
def topTiming (listed : BitVec 6) : Nat :=
  ([4, 3, 2, 1].find? fun k => listed.getLsbD k).getD 0

/-- Each target used is set to its timing mode with SET FEATURES, past a RESET that it was owed (18 R540, R542). -/
def Nand.setFeatures (n : Nand) : Nand := { n with timing := n.geom.listed.map topTiming, resets := [] }

/-- The mount: without a NAND state 2, without a table state 3, without blocks state 1 (18 R539, R540, R545, R566). -/
def State.mount (s : State) : State :=
  match s.journal.nand with
  | none => s.setJournal fun j => j.idle 2
  | some n =>
    let n := n.setFeatures
    let s := s.setJournal fun j => { j with nand := some n }
    if !n.formatted then s.setJournal fun j => j.idle 3
    else if n.stock < 16 then (s.setJournal fun j => j.idle 1).ring bellJournal
    else s.mountOn n

/-! ### The format (18 R543) -/

/-- Spares of `k` remaining good blocks: the larger of 4 and 2 % of them, rounded up. -/
def spareCount (k : Nat) : Nat := max 4 ((2 * k + 99) / 100)

/-- The medium after a format whose erases failed on `failed`. -/
def Nand.format (n : Nand) (failed : List Nat) : Nand :=
  let isBad (b : Nat) : Bool := n.geom.factoryBad.contains b || failed.contains b
  let good := (List.range n.geom.blocks).filter fun b => !isBad b
  let tables := (good.filter fun b => decide (b < n.geom.perTarget)).take 2
  let rest := good.filter fun b => !tables.contains b
  let ring := rest.take (rest.length - spareCount rest.length)
  { n with
    formatted := true, bad := (List.range n.geom.blocks).filter isBad, tables := tables, ring := ring
    spares := rest.drop ring.length, generation := n.generation + 1, tableBase := n.generation + 1, erases := [], pages := [], block := ring.headD 0
    nextPage := 0, serial := 0, scrubAt := 0, fresh := true, erasing := [], left := none }

end Sys2Proof.Machine
end

