-- ==== Sys2Proof/Machine/JournalCmd.lean ====
section
/-!
DEFINITION. The journal commands (08 R253) and Silt's events (18).
-/
namespace Sys2Proof.Machine

/-- 08 R253: JOURNAL-STATUS. -/
def execJournalStatus (msg : Msg) (s : State) : Host.Outcome State Fault Refusal :=
  .next (s.serve msg 0x0701 inAll (exactFault []) fun s _ =>
    let j := s.journal
    let oldest : Word := match j.records.head? with
      | some r => r.seq
      | none => 0
    let (good, bad) : Nat × Nat := match j.nand with
      | some n => if n.formatted then (n.geom.blocks - n.bad.length, n.bad.length) else (0, 0)
      | none => (0, 0)
    s.done msg 0x0701 (leBytes 4 j.accepted.toNat ++ leBytes 4 j.durable.toNat ++ leBytes 4 oldest.toNat ++
      leBytes 2 j.boot.toNat ++ leBytes 2 j.state ++ leBytes 2 good ++ leBytes 2 bad ++ leBytes 4 j.lossRecords))

/-- Whole records up to `room` bytes (18 R573). -/
def recordsWithin : Nat → List Rec → List Byte
  | _, [] => []
  | room, r :: rest => if r.bytes.length ≤ room then r.bytes ++ recordsWithin (room - r.bytes.length) rest else []

/-- The pages of the medium that a read from number `first` goes through, in its order. -/
def Journal.readPages (j : Journal) (first : Nat) : List Nat :=
  match j.nand with
  | some n => (n.pages.filter fun p => p.page.records.any fun r => decide (first ≤ r.seq.toNat)).map fun p => p.page.serial
  | none => []

/-- The pages read are checked (18 R567), the bit errors of their sectors being given page by page; none beyond those given
has any. -/
def State.checkPages (s : State) (first : Nat) (errors : List (List Nat)) : State :=
  if s.siltWorks then
    ((s.journal.readPages first).zip errors).foldl (fun s x => s.checkPage x.1 (scrubResult x.2)) s
  else s

/-- 18 R573, R567: JOURNAL-READ. -/
def execJournalRead (msg : Msg) (errors : List (List Nat)) (s : State) : Host.Outcome State Fault Refusal :=
  .next (s.serve msg 0x0702 inWork (exactFault [anyFld 4, range 2 64 4080, anyFld 2]) fun s bs =>
    if s.formatBusy then s.refused msg 0x0702 0x0012
    else
      let room := fieldAt bs 4 2
      let s := s.checkPages (fieldAt bs 0 4) errors
      match s.journal.records.dropWhile fun r => decide (r.seq.toNat < fieldAt bs 0 4) with
      | [] => s.done msg 0x0702 []
      | r :: rest =>
        if room < r.bytes.length then s.reply msg.ch 0x0702 0x0015 msg.tag (leBytes 2 r.bytes.length)
        else s.done msg 0x0702 (recordsWithin room (r :: rest)))

/-- The payload of JOURNAL-MARK: a length of 1 to 64, then that many bytes. -/
def markFault (bs : List Byte) : Option Nat := exactFault [range 1 1 64, anyFld 1, anyFld (byteAt bs 0)] bs

/-- 18 R552: JOURNAL-MARK is accepted at once, with the stamp of its take (Table - Record kinds). In states 1 to 3 its record is discarded and the number stays 0 (R572). -/
def execJournalMark (msg : Msg) (s : State) : Host.Outcome State Fault Refusal :=
  let taken := s.takenAt
  .next (s.serve msg 0x0703 inWork markFault fun s bs =>
    let r : Rec := { kind := kText, flags := recFlags false taken.2, boot := 0, stamp := taken.1, seq := 0
                     body := bytesAt bs 2 (byteAt bs 0) }
    if s.formatBusy then s.refused msg 0x0703 0x0012
    else if s.siltWorks then
      match s.journal.accept r with
      | some j => (s.setJournal fun _ => j).done msg 0x0703 (leBytes 4 j.accepted.toNat)
      | none => s.refused msg 0x0703 0x0015
    else if s.journal.mounted || decide (s.journal.state = 2) then s.done msg 0x0703 (leBytes 4 0)
    else s.refused msg 0x0703 0x0015)

/-- 18 R543: JOURNAL-FORMAT starts; staging and every record but those held in PROVE are discarded. -/
def execJournalFormat (msg : Msg) (s : State) : Host.Outcome State Fault Refusal :=
  .next (s.serve msg 0x0704 inSetup (exactFault []) fun s _ =>
    if s.formatBusy then s.refused msg 0x0704 0x0012
    else match s.journal.nand with
      | none => s.refused msg 0x0704 0x0015
      | some n =>
        let n := { n with formatted := false, pages := [], erasing := [] }
        let s := s.setJournal fun j => { j with
          state := 4, mounted := false, nand := some n, staging := none, closed := [], waiting := [], dropped := 0 }
        s.accept msg 0x0704 .format)

/-- 18 R543: the format ends; in PROBE the mount follows. -/
def execJournalFormatDone (bad : List Nat) (s : State) : Host.Outcome State Fault Refusal :=
  match s.working? (fun w => decide (w = .format)), s.journal.nand with
  | some a, some n =>
    if s.serves && decide (s.journal.state = 4) then
      let s := s.setJournal fun j => { j with
        state := 1, boot := 0, nextSeq := 1, accepted := 0, durable := 0, nand := some (n.format bad) }
      let s := if s.mode = .probe then s.mount else s
      .next (s.complete a 0 [])
    else .next s
  | _, _ => .next s

/-- 08 R253: JOURNAL-KINDS. -/
def execJournalKinds (msg : Msg) (s : State) : Host.Outcome State Fault Refusal :=
  .next (s.serve msg 0x0705 inAll (exactFault [anyFld 2]) fun s bs =>
    (s.setSettings fun t => { t with sentences := bitsOf (fieldAt bs 0 2) 0 1 = 1 }).changed msg 0x0705 [])

/-! ### Silt -/

/-- Items of the JOURNAL view are released without a record (18 R572). -/
def State.siltSkips (s : State) : Bool :=
  !(decide (s.roadMode = .run) || decide (s.roadMode = .probe)) || !s.settings.sentences ||
    decide (s.journal.state = 2) || decide (s.journal.state = 3) || (s.journal.mounted && decide (s.journal.state = 1))

/-- The SENTENCE record of an item. -/
def State.sentenceRecord (s : State) (i : Item) : Rec :=
  { kind := kSentence, flags := recFlags (i.flags &&& flInjected ≠ 0) i.doubt, boot := 0, stamp := i.stamp, seq := 0
    body := s.memBytes (cellAt (i.cells.getD 0 0)) 24 ++ i.payload }

/-- The next record does not fit, and no page can be opened: the open one is closed all the same (18 R553). -/
def State.pageFull (s : State) : State := s.setJournal fun j => j.close false

/-- 18 R549, R552, R572: Silt takes the first item of the JOURNAL view. -/
def execSiltTake (s : State) : Host.Outcome State Fault Refusal :=
  if !s.engineWorks then .next s
  else match s.tapHead viewJournal with
    | none => .next s
    | some i =>
      if s.siltSkips then
        .next ((s.unlink viewJournal i.id).setJournal fun j => { j with skipped := satAdd top32 j.skipped 1 })
      else if s.siltWorks then
        match s.journal.accept (s.sentenceRecord i) with
        | some j => .next ((s.setJournal fun _ => j).unlink viewJournal i.id)
        | none => .next s.pageFull
      else .next s

/-- 18 R552, R557; 03 R70: the oldest owed record, else the oldest that waits, is accepted; when none is left, the LOSS
record of those dropped. -/
def execRecordAccepted (s : State) : Host.Outcome State Fault Refusal :=
  if !s.siltWorks then .next s
  else match s.journal.owed, s.journal.waiting with
    | r :: rest, _ =>
      match s.journal.accept r with
      | some j => .next (s.setJournal fun _ => { j with owed := rest })
      | none => .next s.pageFull
    | [], r :: rest =>
      match s.journal.accept r with
      | some j => .next (s.setJournal fun _ => { j with waiting := rest })
      | none => .next s.pageFull
    | [], [] =>
      if s.journal.dropped = 0 then .next s
      else
        let n := s.journal.dropped
        .next ((s.setJournal fun j => { j with dropped := 0 }).lossRecord 0 0 n 3)

/-- 18 R553: the open page is closed, early unless the record that waits does not fit. -/
def execPageClose (s : State) : Host.Outcome State Fault Refusal :=
  if !s.siltWorks then .next s
  else
    let fits := match s.journal.staging, s.journal.waiting.head?, s.journal.nand with
      | some (_, p), some r, some n => decide (p.used + r.bytes.length ≤ n.room)
      | _, _, _ => true
    .next (s.setJournal fun j => j.close fits)

/-- 18 R551, R554, R563, R564: a program and its read-back end, `pass` the device's status and `errors` the bit errors of each
sector. In DOZE only the one in progress as it came into force does; one that fails is done again after the return (R570,
log entry 166). -/
def execPageProgrammed (pass : Bool) (errors : List Nat) (s : State) : Host.Outcome State Fault Refusal :=
  let ok := pass && correctable errors
  if s.siltWorks then .next (s.programEnds ok)
  else if s.dozeEnds .program then .next (if ok then s.siltRests.programEnds true else s.siltRests)
  else .next s

/-- 18 R565; R570 in DOZE. -/
def execEraseDone (ok : Bool) (s : State) : Host.Outcome State Fault Refusal :=
  if s.siltWorks then .next (s.eraseEnds ok)
  else if s.dozeEnds .erase then .next (if ok then s.siltRests.eraseEnds true else s.siltRests)
  else .next s

/-- The block that an operation works on. A read is the read-back of a page just programmed, or the scrub's (log entry
121). -/
def Nand.atWork (n : Nand) (op : NandOp) (closed : Bool) : Option Nat :=
  match op with
  | .program => some n.block
  | .erase => n.erasing.head?
  | .read => if closed then some n.block else n.scrubPage.map (·.block)

/-- The operation has failed. -/
def State.failOp (s : State) (op : NandOp) : State :=
  match op with
  | .program => s.programEnds false
  | .erase => s.eraseEnds false
  | .read => if s.journal.closed.isEmpty then s.scrubEnds .uncorrectable else s.programEnds false

/-- 18 R542: the operation has failed, and its target is owed a RESET. In DOZE that of the one in progress is done again after
the return (R570, log entry 166). -/
def execNandTimeout (op : NandOp) (s : State) : Host.Outcome State Fault Refusal :=
  let owe (t : State) : State := match s.journal.nand.bind fun n => n.atWork op (!s.journal.closed.isEmpty) with
    | some b => t.oweReset b
    | none => t
  if s.siltWorks then .next (owe (s.failOp op))
  else if s.dozeEnds op || (decide (op = .read) && s.dozeEnds .program) then .next (owe s.siltRests)
  else .next s

/-- 18 R567, R568. -/
def execScrubRead (errors : List Nat) (s : State) : Host.Outcome State Fault Refusal :=
  if s.siltWorks then .next (s.scrubEnds (scrubResult errors)) else .next s

/-- 18 R558: the first entry to a working mode after PROVE. -/
def execJournalMount (s : State) : Host.Outcome State Fault Refusal :=
  if s.engineWorks && !s.journal.mounted && decide (s.journal.state ≠ 4) then .next s.mount else .next s

end Sys2Proof.Machine
end

