-- ==== Sys2Proof/Machine/Mailbox.lean ====
section
/-!
DEFINITION. The mailboxes and the host-to-firmware doorbells (06).
-/
namespace Sys2Proof.Machine

/-- Where a channel's messages lie (06 Table - Channel resources). -/
def hostArea : Chan → Nat
  | .n => 0xC0000
  | .k => 0xD0000
def firmArea : Chan → Nat
  | .n => 0xC8000
  | .k => 0xD8000

def otherChan : Chan → Chan
  | .n => .k
  | .k => .n

/-- 05 R161, R147: a commit to MBOXOUT with the high part written. -/
def execMboxPost (ch : Chan) (value : Half) (s : State) : Host.Outcome State Fault Refusal :=
  if s.busServed then .next (s.splitHigh ch .mboxOut value) else .next s

/-- The pointer word breaks 06 R182: the message lies outside its area or crosses a page. -/
def State.badPointer (s : State) (c : Chan) (w : Word) : Bool :=
  let a := bitsOf w.toNat 3 17 * 8
  let len := s.memField (a + 2) 2
  decide (a < hostArea c ∨ hostArea c + 0x8000 ≤ a ∨ 4096 < a % 4096 + 8 + len ∨ 4088 < len)

/-- The message that the firmware reads as it takes a pointer (06 R182, R184, R190). -/
def State.message (s : State) (c : Chan) (w : Word) : Taken :=
  let a := bitsOf w.toNat 3 17 * 8
  if s.badPointer c w then
    { ch := c, code := 0, tag := 0, payload := [], malformed := true, stamp := s.now, doubt := s.doubtNow }
  else
    { ch := c, code := BitVec.ofNat 16 (s.memField a 2), tag := BitVec.ofNat 16 (s.memField (a + 4) 2),
      payload := s.memBytes (a + 8) (s.memField (a + 2) 2), malformed := false, stamp := s.now, doubt := s.doubtNow }

/-- The firmware reads the message of a taken pointer; a malformed one is answered when its turn comes. -/
def State.readMessage (s : State) (c : Chan) (w : Word) : State :=
  let t := s.message c w
  (s.setEngine fun e => { e with taken := e.taken ++ [t] }).answerMalformed

/-- 06 R184, 08 R227: the firmware takes a posted pointer, alternately where both channels hold one. -/
def execMboxTake (ch : Chan) (s : State) : Host.Outcome State Fault Refusal :=
  if s.serves && (s.chan ch).outFull && !((s.chan (otherChan ch)).outFull && decide (s.engine.lastServed = ch)) then
    let s := s.readMessage ch (s.chan ch).mboxOut
    let s := s.setEngine fun e => { e with lastServed := ch }
    .next ((s.setChan ch fun r => { r with outFull := false }).raise (chanWindow ch) .mboxEmpty)
  else .next s

/-- A firmware message's bytes (06 Table - Message header). -/
def Reply.bytes (r : Reply) : List Byte :=
  leBytes 2 r.code.toNat ++ leBytes 2 r.payload.length ++ leBytes 2 r.tag.toNat ++ leBytes 2 r.status.toNat ++ r.payload

/-- The free slots of a channel. -/
def ChanRegs.freeSlots (r : ChanRegs) : List (Fin 8) := (List.finRange 8).filter fun k => decide (r.slots.get k = .free)

/-- 06 R186-R188, R192, R193: the oldest waiting message is posted into a free slot; which one is a free value (log
entry 3). -/
def execReplyPost (ch : Chan) (s : State) : Host.Outcome State Fault Refusal :=
  let s := s.answerMalformed
  let r := s.chan ch
  match r.replies with
  | [] => .next s
  | m :: rest =>
    if !s.serves || r.inFull || r.repost.isSome || r.freeSlots.isEmpty then .next s
    else
      let got := s.draw
      let x := got.1
      let s := got.2
      let k := r.freeSlots.getD (x % r.freeSlots.length) 0
      let a := firmArea ch + 0x1000 * k.val
      let s := s.putBytes a (m.bytes.take 0x1000)
      let s := s.setChan ch fun r => { r with
        replies := rest, mboxIn := BitVec.ofNat 32 (r.seq.toNat * 2 ^ 20 + a), inFull := true, inSlot := some k
        slots := r.slots.set k.val .posted k.isLt, seq := r.seq + 1 }
      .next ((s.raise (chanWindow ch) .mboxFull).bellOn ch bellReply)

/-- 05 R160: a completed read of MBOXIN_LO; with IN_FULL 0 it reads 0 and so does its latch. -/
def execMboxRead (ch : Chan) (s : State) : Host.Outcome State Fault Refusal :=
  if !s.busServed then .next s
  else
    let r := s.chan ch
    if r.inFull then
      let s := s.setChan ch fun r => { r with
        inFull := false, laMboxIn := hiHalf r.mboxIn, inSlot := none
        slots := match r.inSlot with
          | some k => r.slots.set k.val .taken k.isLt
          | none => r.slots }
      .next (s.give (loHalf r.mboxIn))
    else .next ((s.setChan ch fun r => { r with laMboxIn := 0 }).give 0)

/-- 06 R202: the host clears IN_ABORTED. -/
def execInAbortedClear (ch : Chan) (s : State) : Host.Outcome State Fault Refusal :=
  if s.busServed then .next (s.clearMbox ch 0x1000) else .next s

/-! ### Doorbells (06 R195, R196) -/

/-- The firmware takes a rung bell, clears it and acts. -/
def State.takeBell (s : State) (c : Chan) (bit : Nat) (f : State → State) : State :=
  if s.serves && (s.chan c).bellOut.getLsbD bit then
    f (s.setChan c fun r => { r with bellOut := r.bellOut &&& ~~~(BitVec.ofNat 8 (2 ^ bit)) })
  else s

/-- The condition of a firmware-to-host bell still stands: the state that its event left persists. The events of bell 5
leave no such state, and bell 9's is the WAKE bit of IRQSTAT (DEDUCED, log entry 24). -/
def State.bellStands (s : State) (bit : Nat) : Bool :=
  match bit with
  | 1 => decide (0 < s.alarmCount)
  | 2 => decide (s.settings.portFlags ≠ 0) || decide (s.settings.devFlags ≠ 0) ||
      s.ports.toList.any fun q => q.stuck || q.silent || q.hot
  | 3 => s.heads.toList.any fun d => decide (d.state = hsSilent) || decide (d.state = hsBlind)
  | 4 => s.pair.splitConfig || s.pair.minorMismatch || s.pair.majorMismatch || s.pair.timeSkew || s.pair.sameRank
  | 6 => s.tag.wrote
  | 7 => s.mgmt.stuck || s.mgmt.results.toList.any fun r =>
      decide (r.status = 1) || decide (r.status = 2) || decide (r.status = 3)
  | 8 => decide (s.power.audit ≠ 0)
  | 9 => s.culvert.irqstat.getLsbD 10
  | 10 => decide (s.power.supplyEvents ≠ 0)
  | _ => false

/-- 06 R195: ATTEND. -/
def execAttend (ch : Chan) (s : State) : Host.Outcome State Fault Refusal :=
  .next (s.takeBell ch 0 fun s => (List.range 11).foldl (fun s bit =>
    if s.bellStands bit && (decide (ch = .n) || (s.chan .k).bellMsk.getLsbD bit) then s.bellOn ch bit else s) s)

/-- 06 R195: FLUSH-DONE writes a host-drain mark. -/
def execFlushDone (ch : Chan) (s : State) : Host.Outcome State Fault Refusal :=
  .next (s.takeBell ch 1 fun s => s.record kHostDrain (recFlags false s.doubtNow) s.now [])

/-- 06 R195: TIME-MARK writes a time mark stamped at the take. -/
def execTimeMark (ch : Chan) (s : State) : Host.Outcome State Fault Refusal :=
  .next (s.takeBell ch 2 fun s => s.timeMark 0 s.now)

/-- 06 R187: RELEASE frees the slots of every message taken on the channel before it was rung. -/
def execDoorbellRelease (ch : Chan) (s : State) : Host.Outcome State Fault Refusal :=
  .next (s.takeBell ch 4 fun s => s.setChan ch fun r => { r with
    slots := r.slots.map fun x => if x = .rung then .free else x })

/-- 06 R195: HOST-ALIVE; the interval it restarts runs outside the model (log entry 25). -/
def execHostAlive (ch : Chan) (s : State) : Host.Outcome State Fault Refusal := .next (s.takeBell ch 5 id)

/-- 18 R553: JOURNAL-SYNC closes the open staging page. -/
def execJournalSync (ch : Chan) (s : State) : Host.Outcome State Fault Refusal :=
  .next (s.takeBell ch 6 fun s => if s.siltRuns then s.setJournal fun j => j.close true else s)

/-- The imbalances the engine's audit checks find (13 Table - Conserved quantities), AUDIT bits 4 to 6: those that a fault
outside the books leaves standing, the Pleach window and the journal sequences. -/
def State.engineAudit (s : State) (stands : BitVec 3) : Byte :=
  stands.setWidth 8 <<< 4 ||| BitVec.ofNat 8 (flag (decide (8 < s.pair.unacked.length)) 5 +
    flag (decide (s.journal.accepted.toNat < s.journal.durable.toNat)) 6)

/-- 06 R195, R196: AUDIT-RECHECK, in PROVE as in the working modes. -/
def execAuditRecheck (ch : Chan) (stands : BitVec 3) (s : State) : Host.Outcome State Fault Refusal :=
  .next (s.takeBell ch 7 fun s =>
    let bad := s.engineAudit stands
    if bad ≠ 0 then
      (s.setPower fun p => { p with audit := p.audit ||| bad }).headNotice.bellBoth bellAudit
    else s)

/-- 06 R195: the host-watch interval lapses. -/
def execHostWatchLapse (s : State) : Host.Outcome State Fault Refusal :=
  if s.serves && decide (s.settings.hostWatch ≠ 0) then .next (s.deviceEvent evHostSilent none) else .next s

end Sys2Proof.Machine
end

