-- ==== Sys2Proof/Machine/SieveCmd.lean ====
section
/-!
DEFINITION. The Sieve and Weir commands (08 R241-R243, 12 R362-R364, R378).
-/
namespace Sys2Proof.Machine

/-- A first index and a count of rows of `size` bytes, at offsets `o` and `o + 2`, that run past `rows`. -/
def spanFault (bs : List Byte) (o rows : Nat) : Option Nat :=
  if rows ≤ fieldAt bs o 2 then some o
  else if rows < fieldAt bs o 2 + fieldAt bs (o + 2) 2 then some (o + 2)
  else none

/-- The rows of a payload, 16 bytes each, from offset 4. -/
def payloadRows (bs : List Byte) : List (List Byte) :=
  (List.range (fieldAt bs 2 2)).map fun i => bytesAt bs (4 + 16 * i) 16

/-- The first row that a check rejects, as an offset of the payload. -/
def rowsFault (f : Nat → List Byte → Option Nat) (rows : List (List Byte)) : Option Nat :=
  (rows.zipIdx).findSome? fun x => (f x.2 x.1).map (· + (4 + 16 * x.2))

/-- The fields of a command that carries rows. -/
def rowsCommandFault (rows size least : Nat) (f : Nat → Nat → List Byte → Option Nat) (bs : List Byte) : Option Nat :=
  match fieldsFault 0 [anyFld 2, anyFld 2] bs with
  | some o => some o
  | none =>
    match spanFault bs 0 rows with
    | some o => some o
    | none =>
      if fieldAt bs 2 2 < least ∨ bs.length ≠ 4 + size * fieldAt bs 2 2 then some 2
      else rowsFault (f (fieldAt bs 0 2)) (payloadRows bs)

def sieveLoadFault : List Byte → Option Nat :=
  rowsCommandFault 512 16 1 fun first i row => ruleFault (first + i) (ruleOf row)

def shadowB (s : State) : Bool := !s.sieve.bankB

/-- SIEVE-LOAD once no copy runs (12 R362). -/
def State.sieveLoad (s : State) (m : Msg) : State :=
  let first := fieldAt m.payload 0 2
  let rows := payloadRows m.payload
  if (List.range rows.length).any fun i => s.lockedAt (sieveRowAt (shadowB s) (first + i)) then s.refused m 0x0301 0x0013
  else
    let s := s.putBytes (sieveRowAt (shadowB s) (first % 512)) (rows.flatten.take 8192)
    s.done m 0x0301 []

/-- SIEVE-COMMIT once no copy runs (08 R242, 12 R363): items that have ended meet the old rules, and the reply follows the
copy. -/
def State.sieveCommit (s : State) (m : Msg) : State :=
  let want := fieldAt m.payload 0 4
  if [0xF1000, 0xF2000, 0xF3000, 0xF4000].any s.lockedAt then s.refused m 0x0302 0x0013
  else if want ≠ 0 ∧ want ≠ (crc32 (s.memBytes (sieveRowAt (shadowB s) 0) 8192)).toNat then s.badAt m 0x0302 0
  else
    let t : Taken := { ch := m.ch, code := 0x0302, tag := m.tag, payload := m.payload, malformed := false, stamp := s.now,
                       doubt := s.doubtNow }
    s.decideEnded.setSieve fun v => { v with
      bankB := !v.bankB, hits := Vector.replicate 512 0, copying := true, answer := some t }

/-- One waiting command, kept waiting while a copy runs (12 R364). -/
def State.sieveRun (s : State) (w : SieveWait) : State :=
  if s.sieve.copying then s.setSieve fun v => { v with waiting := v.waiting ++ [w] }
  else if w.commit then s.sieveCommit w.msg else s.sieveLoad w.msg

/-- 12 R362, R364: SIEVE-LOAD. -/
def execSieveLoad (msg : Msg) (s : State) : Host.Outcome State Fault Refusal :=
  .next (s.serve msg 0x0301 inAll sieveLoadFault fun s _ => s.sieveRun { commit := false, msg := msg })

/-- 08 R242: SIEVE-COMMIT. -/
def execSieveCommit (msg : Msg) (s : State) : Host.Outcome State Fault Refusal :=
  .next (s.serve msg 0x0302 inAll (exactFault [anyFld 4]) fun s _ => s.sieveRun { commit := true, msg := msg })

/-- 12 R363: the copy ends, ACTIVECRC is written, the reply is posted, and what waited runs. -/
def execSieveCopyDone (s : State) : Host.Outcome State Fault Refusal :=
  if !s.alive || !s.sieve.copying then .next s
  else
    let bank := s.memBytes (sieveRowAt s.sieve.bankB 0) 8192
    let s := (s.putBytes (sieveRowAt (shadowB s) 0) bank).setSieve fun v => { v with
      copying := false, activeCrc := crc32 bank }
    let s := match s.sieve.answer with
      | some t =>
        let s := (s.setSieve fun v => { v with answer := none }).configChange t.ch 0x0302
        s.reply t.ch 0x0302 0 t.tag (leBytes 4 s.settings.digest.toNat)
      | none => s
    let waits := s.sieve.waiting
    .next (waits.foldl State.sieveRun (s.setSieve fun v => { v with waiting := [] })).answerMalformed

/-- The fields of SIEVE-GET; 255 rows fill a message (08 R683). -/
def sieveGetFault (bs : List Byte) : Option Nat :=
  match exactFault [upTo 1 1, anyFld 1, anyFld 2, anyFld 2] bs with
  | some o => some o
  | none =>
    match spanFault bs 2 512 with
    | some o => some o
    | none => if 255 < fieldAt bs 4 2 then some 4 else none

/-- 08 R241: SIEVE-GET. -/
def execSieveGet (msg : Msg) (s : State) : Host.Outcome State Fault Refusal :=
  .next (s.serve msg 0x0303 inAll sieveGetFault fun s bs =>
    let bank := if byteAt bs 0 = 0 then s.sieve.bankB else shadowB s
    s.done msg 0x0303 (s.memBytes (sieveRowAt bank (fieldAt bs 2 2)) (16 * fieldAt bs 4 2)))

def sieveHitsFault (bs : List Byte) : Option Nat :=
  match exactFault [anyFld 2, anyFld 2, anyFld 1, anyFld 1] bs with
  | some o => some o
  | none => spanFault bs 0 512

/-- The counts of `n` rules from `first` on become 0. -/
def clearHits (hits : Vector Nat 512) (first n : Nat) : Vector Nat 512 :=
  (List.range n).foldl (fun h i => upd h (Fin.ofNat 512 (first + i)) fun _ => 0) hits

/-- 12 R359: SIEVE-HITS. -/
def execSieveHits (msg : Msg) (s : State) : Host.Outcome State Fault Refusal :=
  .next (s.serve msg 0x0304 inAll sieveHitsFault fun s bs =>
    let first := fieldAt bs 0 2
    let n := fieldAt bs 2 2
    let out := ((List.range n).map fun i => leBytes 4 (s.sieve.hits.get (Fin.ofNat 512 (first + i)))).flatten
    let s := if bitsOf (byteAt bs 4) 0 1 = 1 then s.setSieve fun v => { v with hits := clearHits v.hits first n } else s
    s.done msg 0x0304 out)

/-- One governor row (08 R243): tokens are cut to the new burst, and a queue that no longer defers is released (12 R378). -/
def State.weirWrite (s : State) (g : GovNo) (row : List Byte) : State :=
  let s := (s.putBytes (weirRowAt g.val) (row.take 6)).putBytes (weirRowAt g.val + 8) ((row.drop 8).take 8)
  let s := s.updGov g fun v => { v with tokens := min v.tokens (s.weirRow g).full }
  s.releaseIfDue g

/-- 08 R243, 12 R367: WEIR-SET. -/
def execWeirSet (msg : Msg) (s : State) : Host.Outcome State Fault Refusal :=
  .next (s.serve msg 0x0305 inAll (rowsCommandFault 256 16 0 fun _ _ row => weirFault row) fun s bs =>
    let first := fieldAt bs 0 2
    if s.lockedAt (weirRowAt first) then s.refused msg 0x0305 0x0013
    else
      let s := ((payloadRows bs).zipIdx).foldl (fun s x => s.weirWrite (Fin.ofNat 256 (first + x.2)) x.1) s
      s.changed msg 0x0305 [])

def weirGetFault (bs : List Byte) : Option Nat :=
  match exactFault [anyFld 2, anyFld 2] bs with
  | some o => some o
  | none =>
    match spanFault bs 0 256 with
    | some o => some o
    | none => if 255 < fieldAt bs 2 2 then some 2 else none

/-- 08 R241: WEIR-GET, the token counts included. -/
def execWeirGet (msg : Msg) (s : State) : Host.Outcome State Fault Refusal :=
  .next (s.serve msg 0x0306 inAll weirGetFault fun s bs =>
    s.done msg 0x0306 (s.fabricBytes (weirRowAt (fieldAt bs 0 2)) (16 * fieldAt bs 2 2)))

end Sys2Proof.Machine
end

