-- ==== Sys2Proof/Machine/LampCmd.lean ====
section
/-!
DEFINITION. The lamp and alarm commands, acknowledgements, lapses, repetitions and lamp tests (08 R248, R250, R687; 11 R347;
16 R489-R499).
-/
namespace Sys2Proof.Machine

/-! ### LAMP-SET and LAMP-GET -/

/-- The lamp rows of a payload, bits [5:0] ignored (16 R489). -/
def payloadLamps (bs : List Byte) : List Word :=
  (List.range (fieldAt bs 2 2)).map fun i => BitVec.ofNat 32 (fieldAt bs (4 + 4 * i) 4 / 64 * 64)

/-- The table as LAMP-SET would leave it. -/
def State.lampsAfter (s : State) (first : Nat) (rows : List Word) : List Word :=
  (List.range 1024).map fun i =>
    if first ≤ i ∧ i < first + rows.length then rows.getD (i - first) 0
    else BitVec.ofNat 32 (s.memField (lampRowAt i) 4)

/-- A used row that 16 R489 refuses; HEAD 31 names no head. -/
def State.lampRowBad (s : State) (all : List Word) (w : Word) : Bool :=
  decide (lampHead w ≠ 0) &&
    (decide (lampHead w = 31) || decide ((s.busRow (lampBus w)).master = 0xFF) ||
      decide (lampAlarmNo w = 0) || decide (999 < lampAlarmNo w) ||
      decide (1 < all.countP fun v => lampUsed v && decide (lampAlarmNo v = lampAlarmNo w)) ||
      decide (1 < all.countP fun v => lampUsed v && sameLamp v w) || decide (s.routeMask (lampRoute w) = 0))

/-- The fields of LAMP-SET; a row is one field, of 4 bytes (16 R486, log entry 153). -/
def State.lampSetFault (s : State) (bs : List Byte) : Option Nat :=
  match fieldsFault 0 [anyFld 2, anyFld 2] bs with
  | some o => some o
  | none =>
    match spanFault bs 0 1024 with
    | some o => some o
    | none =>
      if bs.length ≠ 4 + 4 * fieldAt bs 2 2 then some 2
      else
        let rows := payloadLamps bs
        let all := s.lampsAfter (fieldAt bs 0 2) rows
        (rows.zipIdx).findSome? fun x => if s.lampRowBad all x.1 then some (4 + 4 * x.2) else none

/-- 16 R489, R490: LAMP-SET. -/
def execLampSet (msg : Msg) (s : State) : Host.Outcome State Fault Refusal :=
  .next (s.serve msg 0x0506 inAll s.lampSetFault fun s bs =>
    let first := fieldAt bs 0 2
    let rows := payloadLamps bs
    if s.lockedAt (lampRowAt first) then s.refused msg 0x0506 0x0013
    else
      let s := (rows.zipIdx).foldl (fun s x =>
        let l : LampNo := Fin.ofNat 1024 (first + x.2)
        (s.putBytes (lampRowAt l.val) (leBytes 4 x.1.toNat)).takeLampRow l x.1) s
      s.changed msg 0x0506 [])

/-- The fields of LAMP-GET; 1,022 rows fill a message (08 R683). -/
def lampGetFault (bs : List Byte) : Option Nat :=
  match exactFault [anyFld 2, anyFld 2] bs with
  | some o => some o
  | none =>
    match spanFault bs 0 1024 with
    | some o => some o
    | none => if 1022 < fieldAt bs 2 2 then some 2 else none

/-- 08 R248: LAMP-GET, the states included. -/
def execLampGet (msg : Msg) (s : State) : Host.Outcome State Fault Refusal :=
  .next (s.serve msg 0x0507 inAll lampGetFault fun s bs =>
    s.done msg 0x0507 (s.fabricBytes (lampRowAt (fieldAt bs 0 2)) (4 * fieldAt bs 2 2)))

/-! ### Acknowledgement (16 R498, 11 R347) -/

/-- Every lamp that `f` names with an active alarm not yet acknowledged. -/
def State.ackable (s : State) (f : LampNo → Lamp → Bool) : List LampNo :=
  (List.finRange 1024).filter fun l => (s.lamp l).active && !(s.lamp l).acked && f l (s.lamp l)

/-- Those lamps are acknowledged; a standby acknowledges none (17 R527). -/
def State.ackAll (s : State) (f : LampNo → Lamp → Bool) : State × Nat :=
  if s.pair.role = .standby then (s, 0)
  else
    let l := s.ackable f
    (l.foldl State.ackLamp s, l.length)

def alarmAckFault (bs : List Byte) : Option Nat :=
  match exactFault [anyFld 2] bs with
  | some o => some o
  | none => if 1023 < fieldAt bs 0 2 ∧ fieldAt bs 0 2 ≠ 0xFFFF then some 0 else none

/-- 16 R498: ALARM-ACK replies with the number of alarms acknowledged. -/
def execAlarmAck (msg : Msg) (s : State) : Host.Outcome State Fault Refusal :=
  .next (s.serve msg 0x0508 inWork alarmAckFault fun s bs =>
    let k := fieldAt bs 0 2
    let got := s.ackAll fun l _ => decide (k = 0xFFFF) || decide (l.val = k)
    let s := got.1
    let n := got.2
    s.done msg 0x0508 (leBytes 2 n))

/-- The alarm number of an ACK sentence: formatter ACK, a right checksum, not FLAWED, three digits in field 1. -/
def Item.ackNumber (i : Item) : Option Nat :=
  let a := addrField i.sentence
  if a.head? ≠ some (chr 'P') ∧ a.drop 2 = ascii "ACK" ∧ hasFlag i.flags flCkOk ∧ !hasFlag i.flags flFlawed then
    match fieldsOf i.sentence with
    | f :: _ => if f.length = 3 then decimal? f else none
    | [] => none
  else none

/-- 11 R347: the engine takes the first item of the ENGINE view and releases it. -/
def execEngineViewTake (s : State) : Host.Outcome State Fault Refusal :=
  if !s.engineWorks then .next s
  else match s.tapHead viewEngine with
    | none => .next s
    | some i =>
      let s := match i.ackNumber with
        | some n => (s.ackAll fun _ p => decide (lampAlarmNo p.row = n)).1
        | none => s
      .next (s.unlink viewEngine i.id)

/-! ### ALARM-SET (08 R687) -/

/-- A character that a talker ID may hold. -/
def talkerChar (b : Byte) : Bool :=
  decide (0x21 ≤ b.toNat) && decide (b.toNat ≤ 0x7E) && !(ascii "$!*,\\^~").contains b

def alarmSetFault (bs : List Byte) : Option Nat :=
  let bad := !talkerChar (bs.getD 0 0) || !talkerChar (bs.getD 1 0) || decide (bs.head? = some (chr 'P'))
  if 2 ≤ bs.length ∧ bad then some 0 else exactFault [anyFld 2, range 2 5 600] bs

/-- 08 R248: ALARM-SET. -/
def execAlarmSet (msg : Msg) (s : State) : Host.Outcome State Fault Refusal :=
  .next (s.serve msg 0x0509 inAll alarmSetFault fun s bs =>
    (s.setSettings fun t => { t with
      alrTalker0 := bs.getD 0 0, alrTalker1 := bs.getD 1 0, alrRepeat := BitVec.ofNat 16 (fieldAt bs 2 2) }).changed
      msg 0x0509 [])

/-! ### Lapse and repetition (16 R493, R497) -/

/-- A lamp whose interval runs: in one of the confirmed states, held, or in RETURNING, and under no test. -/
def Lamp.lapses (p : Lamp) : Bool :=
  lampUsed p.row && !p.testRuns &&
    (decide (p.state.toNat ≤ 4) || (p.held && decide (p.state = stUnconfirmed)) || decide (p.state = stReturning))

/-- 16 R493: the interval has passed; a standby detects no lapse (17 R527). -/
def execLampLapse (lamp : LampNo) (s : State) : Host.Outcome State Fault Refusal :=
  if s.engineWorks && (s.lamp lamp).lapses && decide (s.pair.role ≠ .standby) then
    .next (s.changeLamp lamp (fun p => { p with state := stUnconfirmed, held := false, injected := false }) s.now false)
  else .next s

/-- 16 R497: the repeat interval has passed for an active alarm that nobody has acknowledged. -/
def execAlarmRepeat (lamp : LampNo) (s : State) : Host.Outcome State Fault Refusal :=
  if s.engineWorks && (s.lamp lamp).active && !(s.lamp lamp).acked then .next (s.repeatAlr lamp) else .next s

/-! ### Lamp tests (08 R250, 16 R499) -/

def State.lampTestFault (s : State) (bs : List Byte) : Option Nat :=
  let unused := 1023 < fieldAt bs 0 2 ∨ !lampUsed (s.lamp (Fin.ofNat 1024 (fieldAt bs 0 2))).row
  if 2 ≤ bs.length ∧ unused then some 0
  else match exactFault [anyFld 2, upTo 1 2, anyFld 1, anyFld 2] bs with
    | some o => some o
    | none => if byteAt bs 2 ≠ 0 ∧ (fieldAt bs 4 2 = 0 ∨ 600 < fieldAt bs 4 2) then some 4 else none

/-- 08 R250: LAMP-TEST arms a test, or disarms it. -/
def execLampTest (msg : Msg) (s : State) : Host.Outcome State Fault Refusal :=
  .next (s.serve msg 0x050A inAll s.lampTestFault fun s bs =>
    (s.updLamp (Fin.ofNat 1024 (fieldAt bs 0 2)) fun p => { p with
      testAction := BitVec.ofNat 2 (byteAt bs 2), testSeconds := BitVec.ofNat 16 (fieldAt bs 4 2) }).done msg 0x050A [])

/-- A SET-LAMP waits for the next POLL of the lamp's head (15 R450); a head that gets no frame gets none. -/
def State.commandLamp (s : State) (w : Word) (off : Byte) : State :=
  let b := lampBus w
  let h : HeadNo := Fin.ofNat 30 (lampHead w - 1)
  let st := (s.head b h).state
  if st = hsAbsent ∨ st = hsRetired then s
  else s.updBus b fun v => { v with
    setLamps := v.setLamps ++ [hedgeCmd h tySetLamp [BitVec.ofNat 8 (lampNo w + 1), off]] }

/-- An armed test starts, whatever the lamp's state (08 R250, 16 R499); each arming starts once. -/
def State.startTest (s : State) (l : LampNo) : State :=
  let p := s.lamp l
  let s := s.updLamp l fun p => { p with testAction := 0 }
  if !lampUsed p.row then s
  else if p.testAction = 1 then
    s.changeLamp l (fun p => { p with state := stDark, injected := true, testRuns := true, offRuns := false }) s.now false
  else if p.testAction = 2 then
    (s.updLamp l fun p => { p with offRuns := true, testRuns := false }).commandLamp p.row 1
  else s

/-- 08 R250: the doorbell LAMP-TEST; in PROVE, and on a standby, no lamp is watched and nothing starts. -/
def execDoorbellLampTest (ch : Chan) (s : State) : Host.Outcome State Fault Refusal :=
  .next (s.takeBell ch 3 fun s =>
    if s.engineWorks && decide (s.pair.role ≠ .standby) then
      s.eachLamp fun s l => if (s.lamp l).testAction = 0 then s else s.startTest l
    else s)

/-- 16 R499: the duration of a test ends; a lamp commanded off is commanded back. -/
def execLampTestEnd (lamp : LampNo) (s : State) : Host.Outcome State Fault Refusal :=
  let p := s.lamp lamp
  if s.engineWorks && p.testRuns then .next (s.updLamp lamp fun p => { p with testRuns := false })
  else if s.engineWorks && p.offRuns then
    .next ((s.updLamp lamp fun p => { p with offRuns := false }).commandLamp p.row 0)
  else .next s

end Sys2Proof.Machine
end

