-- ==== Sys2Proof/Machine/MgmtBus.lean ====
section
/-!
DEFINITION. The management bus (20; 08 R234): MGMT-SET, MGMT-READ, the scan, and the freeing of a held bus.
-/
namespace Sys2Proof.Machine

/-- What MGMT-SET refuses in an entry (20 R611): the byte offset in the entry of the first such field. -/
def scanFault (e : BitVec 64) : Option Nat :=
  let v := e.toNat
  let addr := bitsOf v 0 8
  let bytes := bitsOf v 32 8
  let interval := bitsOf v 48 16
  if !e.getLsbD 8 then none
  else if addr < 0x08 ∨ 0x77 < addr then some 0
  else if !e.getLsbD 9 ∧ 0x00FF < bitsOf v 16 16 then some 2
  else if bytes < 1 ∨ 8 < bytes then some 4
  else if interval < 10 ∨ 60000 < interval then some 6
  else none

def scanEntryOf (bs : List Byte) (i : Fin 16) : BitVec 64 := BitVec.ofNat 64 (fieldAt bs (2 + 8 * i.val) 8)

/-- The payload of MGMT-SET. -/
def scanSetFault (bs : List Byte) : Option Nat :=
  match exactFault ([upTo 1 1, anyFld 1] ++ List.replicate 16 (anyFld 8)) bs with
  | some o => some o
  | none => (List.finRange 16).findSome? fun (i : Fin 16) =>
      (scanFault (scanEntryOf bs i)).map fun o => 2 + 8 * i.val + o

/-- 20 R611-R613: MGMT-SET; it takes effect when a transaction in progress ends. -/
def execMgmtSet (msg : Msg) (s : State) : Host.Outcome State Fault Refusal :=
  .next (s.serve msg 0x0107 inAll scanSetFault fun s bs =>
    let s := s.setSettings fun t => { t with
      mgmtFast := decide (byteAt bs 0 = 1), scan := (Vector.finRange 16).map fun i => scanEntryOf bs i }
    let s := if s.mgmt.active.isSome then s.setMgmt fun m => { m with setWaits := true } else s.scanSet
    s.changed msg 0x0107 [])

/-- 20 R614: MGMT-READ. -/
def execMgmtRead (msg : Msg) (s : State) : Host.Outcome State Fault Refusal :=
  .next (s.serve msg 0x0108 inAll (exactFault []) fun s _ =>
    s.done msg 0x0108 ((s.mgmt.results.toList.map fun r =>
      [r.status, BitVec.ofNat 8 r.data.length] ++ (r.data ++ List.replicate (8 - r.data.length) 0) ++
        leBytes 6 r.stamp.toNat).flatten))

/-- 20 R610, R612: an entry falls due; the lowest one due starts when no transaction runs. -/
def execMgmtEntryDue (entry : Fin 16) (s : State) : Host.Outcome State Fault Refusal :=
  if s.engineWorks && !s.mgmt.stuck && s.scanOn entry then
    .next (s.setMgmt fun m => { m with due := m.due ||| BitVec.ofNat 16 (2 ^ entry.val) }).mgmtStart
  else .next s

/-- The transaction of entry `i` ends (20 R612, R613): a waiting MGMT-SET takes effect, and the next one due starts. -/
def State.mgmtEnd (s : State) (i : Fin 16) (status : Byte) : State :=
  ((s.setMgmt fun m => { m with active := none }).scanStatus i status).mgmtStop.mgmtStart

/-- The bytes that the transaction in progress reads. -/
def Mgmt.reads (m : Mgmt) : Nat :=
  m.slots.countP fun x => match x with
    | .receive _ => true
    | .start | .send _ | .stop => false

/-- 20 R614, R615: a transaction ends with the bytes its entry asks for, or with a NAK. -/
def execMgmtTransactionEnd (result : MgmtResult) (s : State) : Host.Outcome State Fault Refusal :=
  if !s.engineWorks then .next s
  else match s.mgmt.active with
    | none => .next s
    | some i =>
      match result with
      | .nak => .next (s.mgmtEnd i 1)
      | .good data =>
        let t := s.now
        let n := s.mgmt.reads
        .next ((s.setMgmt fun m => { m with
          results := upd m.results i fun r => { r with data := data.take n, stamp := t } }).mgmtEnd i 0)

/-- 20 R617: the target stretches the clock too long; the bus is freed before the next transaction (R618). -/
def execStretchFault (s : State) : Host.Outcome State Fault Refusal :=
  if !s.engineWorks then .next s
  else match s.mgmt.active with
    | none => .next s
    | some i => .next (s.mgmtEnd i 2)

/-- MB_STUCK is set, with doorbell 7: no entry is attempted, and every enabled entry reports status 3 (20 R616, R619). -/
def State.mgmtStuck (s : State) : State :=
  let s := (s.setMgmt fun m => { m with stuck := true, active := none, due := 0 }).ring bellMgmt
  let s := (List.finRange 16).foldl (fun (s : State) (i : Fin 16) => if s.scanOn i then s.scanStatus i 3 else s) s
  s.mgmtStop

/-- 20 R618: the check before the START of the waiting transaction finds MB_SDA low and frees it, or finds a line held. -/
def execBusRecovery (result : MgmtRecovery) (s : State) : Host.Outcome State Fault Refusal :=
  if s.engineWorks && s.mgmt.active.isSome && !s.mgmt.stuck then
    match result with
    | .freed _ => .next s
    | .sdaLow | .sclLow => .next s.mgmtStuck
  else .next s

/-- 20 R619: the check is repeated every 100 ms; MB_STUCK clears, with doorbell 7, and every enabled entry is due. -/
def execMbStuckRecheck (result : MgmtRecheck) (s : State) : Host.Outcome State Fault Refusal :=
  if s.engineWorks && s.mgmt.stuck then
    match result with
    | .stillHeld => .next s
    | .bothHigh | .recovered => .next ((s.setMgmt fun m => { m with stuck := false }).ring bellMgmt).dueScan
  else .next s

end Sys2Proof.Machine
end

