-- ==== Sys2Proof/Machine/Modes.lean ====
section
/-!
DEFINITION. Mode requests and the ends of transitions (03, 07 R214-R215, 08 R231).
-/
namespace Sys2Proof.Machine

/-- 03 R73: a MODEREQ write of HOLD. -/
def execRequestHold (win : Window) (s : State) : Host.Outcome State Fault Refusal := .next (s.modeReq win 0)

/-- 03 R71: a MODEREQ write of LOAD. -/
def execRequestLoad (win : Window) (s : State) : Host.Outcome State Fault Refusal := .next (s.modeReq win 1)

/-- 03 R76: a MODEREQ write of PROVE. -/
def execRequestProve (win : Window) (s : State) : Host.Outcome State Fault Refusal := .next (s.modeReq win 2)

/-- 02 R62: a MODEREQ write of RUN. -/
def execRequestRun (win : Window) (s : State) : Host.Outcome State Fault Refusal := .next (s.modeReq win 3)

/-- 03 R79: a MODEREQ write of TRIM. -/
def execRequestTrim (win : Window) (s : State) : Host.Outcome State Fault Refusal := .next (s.modeReq win 4)

/-- 03 R82: a MODEREQ write of VIGIL. -/
def execRequestVigil (win : Window) (s : State) : Host.Outcome State Fault Refusal := .next (s.modeReq win 5)

/-- 03 R86: a MODEREQ write of DOZE. -/
def execRequestDoze (win : Window) (s : State) : Host.Outcome State Fault Refusal := .next (s.modeReq win 6)

/-- 03 R94: a MODEREQ write of PROBE. -/
def execRequestProbe (win : Window) (s : State) : Host.Outcome State Fault Refusal := .next (s.modeReq win 7)

/-- 03 R64: a MODEREQ write of 0x8 to 0xF. -/
def execModereqUnknown (win : Window) (code : BitVec 4) (s : State) : Host.Outcome State Fault Refusal :=
  .next (s.modeReq win code)

/-- 03 R86: 20 ms after a DOZE request, every item still being sent is cut with CR LF. -/
def execDozeDrainTimeout (s : State) : Host.Outcome State Fault Refusal :=
  if s.modes.draining then .next s.cutAll else .next s

/-- LOADSTAT PROVEPART (05). -/
def provePartCode (p : ProvePart) : BitVec 4 :=
  match p with
  | .memory => 1
  | .loopbacks => 2
  | .tagArray => 3
  | .siltProbe => 4

/-- LOADSTAT PROVE and PROVEPART after a self-test (05 R169): a failure seen once stays. -/
def Engine.tested (e : Engine) (r : ProveResult) : Engine :=
  if e.prove = 3 then { e with testEnded := true }
  else match r with
    | .passed _ _ => { e with testEnded := true, prove := 2, provePart := 0 }
    | .passedNoNand => { e with testEnded := true, prove := 4, provePart := 0 }
    | .failed part => { e with testEnded := true, prove := 3, provePart := provePartCode part }

/-- A device that holds nothing of a journal's. -/
def Nand.blank (g : NandGeom) : Nand :=
  { geom := g, timing := [], formatted := false, bad := [], tables := [], tableBase := 0, spares := [], ring := [], generation := 0,
    erases := [], pages := [], block := 0, nextPage := 0, serial := 0, scrubAt := 0, fresh := false, erasing := [],
    left := none, resets := [] }

/-- What Silt uses of the targets that answer (18 R540): a second one whose geometry differs from the first is left
unused. -/
def useTargets (a : NandTarget) (b : Option NandTarget) : NandGeom :=
  let g : NandGeom := { pageSize := a.pageSize, spareSize := a.spareSize, pagesPerBlock := a.pagesPerBlock,
                        blocks := a.blocks, factoryBad := a.factoryBad, listed := [a.timing] }
  match b with
  | none => g
  | some c =>
    if c.pageSize = a.pageSize ∧ c.spareSize = a.spareSize ∧ c.pagesPerBlock = a.pagesPerBlock ∧ c.blocks = a.blocks then
      { g with blocks := 2 * a.blocks, factoryBad := a.factoryBad ++ c.factoryBad.map (a.blocks + ·)
               listed := [a.timing, c.timing] }
    else g

/-- The device that the Silt probe finds (18 R539, R545): a device already known keeps its medium; one outside the
limits is no device; a fresh one is not formatted. -/
def probeNand (old : Option Nand) (g : NandGeom) : Option Nand :=
  let fits := (decide (g.pageSize = 2048 ∧ g.spareSize = 64) || decide (g.pageSize = 4096 ∧ g.spareSize = 224)) &&
    (decide (g.pagesPerBlock = 64) || decide (g.pagesPerBlock = 128)) &&
    decide (g.pageSize * g.pagesPerBlock * g.blocks ≤ 2 ^ 31)
  if !fits then none
  else match old with
    | some n => if n.geom = g then some n else some { n with geom := g, formatted := false, pages := [] }
    | none => some (Nand.blank g)

/-- The journal after the probe: state 1 until the mount, 2 with no device. -/
def Journal.probed (j : Journal) (r : ProveResult) : Journal :=
  match r with
  | .passed a b =>
    let n := probeNand j.nand (useTargets a b)
    { j with nand := n, state := if n.isSome then 1 else 2 }
  | .passedNoNand => { j with nand := none, state := 2 }
  | .failed _ => { j with state := if j.nand.isSome then 1 else 2 }

/-- The default rows (08 R231): the tables region cleared, then the fields that are not 0. The first-second block and
the reset stamp stay (03 R77). -/
def State.defaultRows (s : State) : State :=
  let s := (s.clearMem 0xF0000 (firstSecondAt 0)).clearMem (resetStampAt + 6) 0xF8000
  let s := s.eachPort fun s p => s.putBytes (portRowAt p.val) (leBytes 16 PortRow.default.toNat)
  let s := (s.putByte (sieveRowAt false 511 + 15) 0x80).putByte (sieveRowAt true 511 + 15) 0x80
  let s := s.eachView fun s v => s.putBytes (viewRowAt v.val + 2) (leBytes 2 (if v.val < 48 then 256 else 512))
  s.eachBus fun s b => s.putByte (busRowAt b.val) 0xFF

/-- The fields that the GX-48 maintains in the tables after the fill: 0 (08 R231). ACTIVECRC is that of the bank. -/
def State.defaultMaintained (s : State) : State :=
  let s := (s.setGovs (Vector.replicate 256 Gov.reset)).setLamps (Vector.replicate 1024 Lamp.reset)
  let s := (s.setBuses (Vector.replicate 8 Bus.reset)).setHeads (Vector.replicate 240 Head.reset)
  let s := s.setSieve fun _ => { Sieve.reset with activeCrc := crc32 (s.memBytes (sieveRowAt false 0) 8192) }
  let s := s.mapPorts fun q => { Port.reset with space := q.space, cts := q.cts }
  s.setSluice fun l => { l with views := Vector.replicate 52 View.reset, noCell := 0, poolEvict := 0 }

/-- The settings after the fill, with the digest of what is then in force (08 R231, R233). -/
def State.defaultSettings (s : State) : State :=
  let s := s.setSettings fun t => { Settings.reset with
    epoch := t.epoch, lastChange := t.lastChange, changes := t.changes, devFlags := t.devFlags, portFlags := t.portFlags }
  let s := (s.setInject fun _ => Inject.reset).setMgmt fun m => { m with
    results := m.results.map fun r => { r with status := 4 } }
  s.setSettings fun t => { t with digest := crc32 s.digestBytes }

/-- A mailbox channel as the self-test ends: SEQ 0x000 and no bell waiting (06 R193, R196). A slot that is held stays held
until a RELEASE that is taken (R187). -/
def ChanRegs.begin (r : ChanRegs) : ChanRegs :=
  { r with seq := 0, bellOut := 0, slots := r.slots.map fun x => if x = .rung then .taken else x }

/-- 03 R76-R78, 08 R231: the self-test, which needs the engine, ends, the tables are filled with the default rows, and
PROVE is in force. A lock granted in HOLD or LOAD stays granted, and the fill writes the pages it covers too (DESIGN
CHOICE, log entry 146). -/
def execSelfTestEnd (result : ProveResult) (s : State) : Host.Outcome State Fault Refusal :=
  if s.alive && s.proving && s.engine.up then
    let s := (s.setEngine fun e => e.tested result).setJournal fun j => j.probed result
    let s := s.defaultRows.defaultMaintained.defaultSettings
    let s := (s.setChan .n ChanRegs.begin).setChan .k ChanRegs.begin
    .next ((s.arrive .prove).checkRecord)
  else .next s

/-- 03 R66: the transition under way completes; that to PROVE ends with its self-test. -/
def execModeTransitionComplete (dutyIn : Bool) (s : State) : Host.Outcome State Fault Refusal :=
  if s.alive && s.modes.busy && decide (s.modes.target ≠ .prove) then
    let t := s.arrive s.modes.target
    .next ((t.seeDuty dutyIn).noted t.pair)
  else .next s

end Sys2Proof.Machine
end

