-- ==== Sys2Proof/Machine/Restart.lean ====
section
/-!
DEFINITION. The engine's watchdog, faults and restart (06 R198-R200, 07 R216-R221).
-/
namespace Sys2Proof.Machine

/-- A channel at an engine restart: every slot is held until RELEASE (06 R193, R199). A RELEASE rung before it stands in
BELLOUT (R197) and covers what the host had taken when it was rung (log entry 75). -/
def ChanRegs.restarted (r : ChanRegs) : ChanRegs :=
  { r with seq := 0, slots := r.slots.map fun x => if x = .free then .taken else x }

/-- The Sluice takes back the cells of what the engine had begun and not committed (13 R389): its device sentences that
await the Sieve. -/
def State.loseDevices (s : State) : State :=
  (s.sluice.items.filter fun i => decide (i.source = 0x40) && decide (i.place = .ended)).foldl
    (fun s i => s.dropItem i.id) s

/-- The reply that a port prepares or sends as a head is lost; what it keeps, its attention and its sleep are not. -/
def HeadRole.lose (r : HeadRole) : HeadRole :=
  { r with mode := (if r.mode = .turnaround ∨ r.mode = .sending then .awake else r.mode), prepared := none, commit := none }

/-- The engine's own work in progress is lost: commands (06 R200), a publish, exchanges, the management bus transaction,
a format, alarms not yet in a cell. -/
def State.loseWork (s : State) : State :=
  let formats := s.engine.accepted.any fun a => decide (a.work = .format)
  let s := s.cutPublish.forgetCommands
  let s := s.setTag fun t => { t with whole := true }
  let s := s.mapBuses fun v => { v with
    exchange := none, retry := none, parked := [], grant := [], queue := [], setLamps := [], round := []
    rollCall := none, rolling := none, granting := false, again := false, joinDue := false, wake := none, sleep := .none }
  let s := s.setHeads (s.heads.map fun d => { d with attn := false })
  let s : State := s.mapPorts fun q => { q with head := q.head.lose }
  let s := s.mapLamps fun l => { l with report := none, cold := true }
  let s := (s.setSluice fun l => { l with alarmWaits := [] }).loseDevices
  let s := s.setPair fun p => { p with handover := .none }
  let s := s.mgmtStop
  if formats then s.setJournal fun j => { j with state := 3 } else s

/-- An engine restart begins, LOADSTAT PROVE keeping its value (05 R169); ALARMSTAT and PAIRSTAT hold what they showed
(05 R175, R180) (07 Table - Engine restart steps 1 and 2, 06 R198); `cause` is LASTCAUSE. -/
def State.beginRestart (s : State) (cause : BitVec 4) : State :=
  let held := (s.alarmStat, s.pairStat)
  let s := s.setEngine fun e => { e with
    restarting := true, up := false, lastCause := cause, count := BitVec.ofNat 8 (satAdd 255 e.count.toNat 1)
    shown := some (e.shown.getD held) }
  let s := (s.raise .ctl .watchdog).raise .key .watchdog
  let s := ((s.breakLock 3).abortOut .n).abortOut .k
  (((s.setChan .n ChanRegs.restarted).setChan .k ChanRegs.restarted).loseWork.abandonMode).headNotice

/-- 07 R216: the watchdog expires; it does not run while the engine is stopped, restarts or dozes (05 Table - Registers
by mode). -/
def execWatchdogExpire (s : State) : Host.Outcome State Fault Refusal :=
  if s.alive && s.engine.up && decide (s.mode ≠ .doze) then .next (s.beginRestart 1) else .next s

/-- 07 R216, R219: an engine fault, in a restart too. -/
def execEngineFault (s : State) : Host.Outcome State Fault Refusal :=
  if s.alive && (s.engine.up || s.engine.restarting) then .next (s.beginRestart 2) else .next s

/-- Buses whose join the restart cut begin it again, and so do heads that were joining (15 R461, log entry 27). -/
def State.rejoin (s : State) : State :=
  s.eachBus fun s b =>
    if !s.hedgeOn b then s
    else if (s.bus b).state = .joining then s.beginJoin b
    else if (s.bus b).state = .polling ∨ (s.bus b).state = .asleep then
      (List.finRange 30).foldl (fun s h => if (s.head b h).state = hsJoining then s.joinHead b h else s) s
    else s

/-- One $--ALR for each active alarm that nobody has acknowledged (16 R503). -/
def State.repeatAll (s : State) : State :=
  s.eachLamp fun s l => if (s.lamp l).active && !(s.lamp l).acked then s.repeatAlr l else s

/-- A device that follows the duty's lamps and epoch: a standby, or one that has not taken its role yet (17 R527, R531, log
entry 163). -/
def Pair.follows (p : Pair) : Bool := decide (p.role = .standby) || decide (p.role = .none)

/-- One LAMP record: bits [5:0] of the row, with the sentences of R494 and R495 stamped in pair time. -/
def State.lampRec (s : State) (r : LampRec) : State :=
  let st := BitVec.ofNat 3 (bitsOf r.row.toNat 3 3)
  let acked := r.row.getLsbD 2
  let held := r.row.getLsbD 1
  let injected := r.row.getLsbD 0
  let p := s.lamp r.index
  if !lampUsed p.row then s
  else
    let force := p.injected && !injected && decide (p.state = stDark) && decide (st = stDark)
    let s := s.changeLamp r.index (fun p => { p with state := st, held := held, injected := injected })
      (s.fromPairTime r.time) force
    (s.updLamp r.index fun p => { p with acked := acked }).headNotice

/-- The LAMP records that came while the engine was down (17 R527). -/
def State.lampsCaughtUp (s : State) : State :=
  s.pair.lampsOwed.foldl State.lampRec (s.setPair fun p => { p with lampsOwed := [] })

/-- The check of step 3 fails (07 R218). A header store that is empty, in LOAD, holds nothing to check against (DESIGN
CHOICE, log entry 145). -/
def State.restartFails (s : State) : Bool := s.programBad && !(s.mode.stopped && s.engine.header.isNone)

/-- 07 R217, R218, 16 R503: the restart ends, with the engine up again or stopped by PM_FAIL. In LOAD (R221) the engine
stays stopped until PROVE is entered. -/
def execEngineRestartDone (s : State) : Host.Outcome State Fault Refusal :=
  if !(s.alive && s.engine.restarting) then .next s
  else if s.restartFails then .next (s.setEngine fun e => { e with restarting := false, pmFail := true })
  else
    let starts := !s.mode.stopped || s.proving
    let s := s.setEngine fun e => { e with restarting := false, pmFail := false, up := starts, shown := none }
    if s.mode.stopped then .next s
    else
      let s := s.takeRows.rejoin.headNotice.mgmtStart
      let s := s.newDigest
      let s := if s.roadRuns then s.lampsCaughtUp.repeatAll else s
      .next ((s.deviceEvent evEngineRestart (some s.engine.count.toNat)).tellOwed)

/-- 07 R220: BODYCRC is recomputed over program memory; a mismatch forces a restart. -/
def execBodycrcRecheck (s : State) : Host.Outcome State Fault Refusal :=
  if s.engineWorks && s.programBad then .next (s.beginRestart 2) else .next s

end Sys2Proof.Machine
end

