-- ==== Sys2Proof/Machine/PairCmd.lean ====
section
/-!
DEFINITION. The pair commands, the roles of a pair and take-over (08 R251, R252; 17 R516-R521, R533-R538).
-/
namespace Sys2Proof.Machine

/-! ### Commands -/

/-- PAIR-SET's enable changes the pair: a device in a working mode takes the role of its new setting at once (17 R516). -/
def State.pairEnabled (s : State) (on dutyIn : Bool) : State :=
  if !s.roadRuns then s
  else
    let before := s.pair
    let s :=
      if on then (((s.dropRole .none).takeRole).yieldDuty .none).seeDuty dutyIn
      else
        let s := (s.dropRole .lone).driveAll
        (List.finRange 8).foldl (fun s b => if s.hedgeOn b && decide ((s.bus b).state = .stopped) then s.beginJoin b else s) s
    s.noted before

/-- 08 R251, 17 R534: PAIR-SET; `dutyIn` is the level of PL_DUTY_IN as it is carried out. -/
def execPairSet (msg : Msg) (dutyIn : Bool) (s : State) : Host.Outcome State Fault Refusal :=
  .next (s.serve msg 0x0601 inAll (exactFault [upTo 1 1, anyFld 1, range 2 2 100]) fun s bs =>
    let on := decide (byteAt bs 0 = 1)
    let s := s.setPair fun p => { p with dutyIn := dutyIn }
    if !on && decide (s.pair.role = .standby) && dutyIn then s.refused msg 0x0601 0x0014
    else
      let moved := s.settings.pairEnable != on
      let s := s.setSettings fun t => { t with pairEnable := on, takeover := BitVec.ofNat 16 (fieldAt bs 2 2) }
      (if moved then s.pairEnabled on dutyIn else s).changed msg 0x0601 [])

/-- 08 R252: PAIR-ARM. -/
def execPairArm (msg : Msg) (s : State) : Host.Outcome State Fault Refusal :=
  .next (s.serve msg 0x0602 inWork (exactFault []) fun s _ =>
    if !s.pair.formed || s.pair.splitConfig then s.refused msg 0x0602 0x0014
    else (s.setPair fun p => { p with armed := true }).changed msg 0x0602 [])

/-- 08 R251: PAIR-DISARM. -/
def execPairDisarm (msg : Msg) (s : State) : Host.Outcome State Fault Refusal :=
  .next (s.serve msg 0x0603 inAll (exactFault []) fun s _ =>
    (s.setPair fun p => { p with armed := false }).changed msg 0x0603 [])

/-- 08 R251: PAIR-STATUS. -/
def execPairStatus (msg : Msg) (s : State) : Host.Outcome State Fault Refusal :=
  .next (s.serve msg 0x0604 inAll (exactFault []) fun s _ =>
    let peer := match s.pair.peer with
      | some q => (leBytes 2 q.major.toNat ++ leBytes 2 q.minor.toNat ++ leBytes 2 q.patch.toNat, q.digest.toNat)
      | none => (leBytes 6 0, 0)
    s.done msg 0x0604 (leBytes 2 s.pairStat.toNat ++ peer.1 ++ leBytes 4 s.settings.digest.toNat ++ leBytes 4 peer.2 ++
      leBytes 4 (BitVec.ofInt 32 s.pair.skew).toNat ++ leBytes 4 s.pair.lastMirrored.toNat))

/-- The peer says that it is armed. -/
def Pair.peerArmed (p : Pair) : Bool := p.peer.any fun q => q.flags.getLsbD 2

/-- 08 R252, 17 R538: PAIR-HANDOVER. -/
def execPairHandover (msg : Msg) (s : State) : Host.Outcome State Fault Refusal :=
  .next (s.serve msg 0x0605 inWork (exactFault []) fun s _ =>
    if s.handoverBusy then s.refused msg 0x0605 0x0012
    else if s.pair.role ≠ .duty ∨ !s.pair.peerArmed then s.refused msg 0x0605 0x0014
    else ((s.accept msg 0x0605 .handover).setPair fun p => { p with handover := .draining }).advanceHandover)

/-- 17 R538 step 1: 20 ms have passed, and what listeners still send is cut and kept. -/
def execHandoverDrainTimeout (s : State) : Host.Outcome State Fault Refusal :=
  if s.roadRuns && decide (s.pair.handover = .draining) then .next s.cutAll.advanceHandover else .next s

/-- 17 R538: PL_DUTY_IN goes high, or 100 ms pass and the device claims duty again. -/
def execPairHandoverDone (dutyIn : Bool) (s : State) : Host.Outcome State Fault Refusal :=
  match s.pair.handover, s.working? (fun w => decide (w = .handover)) with
  | .waiting, some a =>
    if !s.serves then .next s
    else
      let s := s.setPair fun p => { p with handover := .none, dutyIn := dutyIn }
      if dutyIn then .next (s.complete a 0 [])
      else .next (s.becomeDuty.pairBell.complete a 0x0014 [])
  | _, _ => .next s

/-! ### Roles (17 R516-R521) -/

/-- 17 R516: a device without a role takes one: duty, PL_DUTY_IN having been low for 20 ms, or standby where it is high (log
entry 160). -/
def execDutyClaim (dutyIn : Bool) (s : State) : Host.Outcome State Fault Refusal :=
  if !(s.engineWorks && s.settings.pairEnable && decide (s.pair.role = .none)) then .next s
  else if dutyIn then .next ((s.seeDuty true).noted s.pair)
  else if s.pair.sameRank then .next (s.seeDuty false)
  else .next (s.seeDuty false).becomeDuty.pairBell

/-- 17 R517: both DUTY lines have been high for 100 µs; the device strapped low yields. -/
def execDutyYield (s : State) : Host.Outcome State Fault Refusal :=
  if s.roadRuns && s.pair.dutyOut && !s.power.rank then
    .next ((s.setPair fun p => { p with dutyIn := true }).yieldDuty .standby).pairBell
  else .next s

/-- 17 R521: a duty's engine has been down for 200 ms. -/
def execDutyEngineDown (s : State) : Host.Outcome State Fault Refusal :=
  if s.roadRuns && decide (s.pair.role = .duty) && !s.engine.up then .next (s.yieldDuty .none).pairBell else .next s

/-! ### Formation, disagreement and take-over (17 R531-R537) -/

/-- 17 R531 step 5. -/
def execPairFormed (s : State) : Host.Outcome State Fault Refusal :=
  let p := s.pair
  if s.engineWorks && p.linkUp && p.caughtUp && !p.formed && !p.majorMismatch && !p.sameRank &&
      (decide (p.role = .duty) || decide (p.role = .standby)) then
    .next (s.setPair fun p => { p with formed := true }).pairBell
  else .next s

/-- The peer's digest differs from this device's (17 Table - Pair disagreements). -/
def State.digestsDiffer (s : State) : Bool := s.pair.peer.any fun q => decide (q.digest ≠ s.settings.digest)

/-- 17 R533: the digests have differed for 10 s. -/
def execSplitConfig (s : State) : Host.Outcome State Fault Refusal :=
  if s.engineWorks && s.pair.linkUp && s.digestsDiffer then
    .next ((s.setPair fun p => { p with splitConfig := true, armed := false }).noted s.pair)
  else .next s

/-- An armed standby may take over: neither digests nor major versions stand against it (17 R533, R535). -/
def State.mayTakeOver (s : State) : Bool :=
  s.engineWorks && decide (s.pair.role = .standby) && s.pair.armed && !s.digestsDiffer && !s.pair.majorMismatch &&
  !s.pair.sameRank

/-- The take-over (17 Table - Take-over). -/
def State.takeOver (s : State) : State :=
  let s := s.setPair fun p => { p with
    dutyIn := false, nextSeq := p.lastMirrored + 0x1000, handed := false, armed := false, formed := false
    forming := false, caughtUp := false }
  let s := s.becomeDuty.repeatAll.pairBell
  (s.tellEvent (ascii "DEV") 0xFF 0 evPairDuty none).timeMark 3 s.now

/-- 17 R535: a condition of take-over is met, PL_DUTY_IN being low. -/
def execTakeOver (s : State) : Host.Outcome State Fault Refusal :=
  if s.mayTakeOver then .next s.takeOver else .next s

end Sys2Proof.Machine
end

