-- ==== Sys2Proof/Machine/Pleach.lean ====
section
/-!
DEFINITION. The Pleach link's frames as they are sent and accepted (17 R508-R515, R522-R531).
-/
namespace Sys2Proof.Machine

/-! ### Acknowledgement and sequence (17 R511, R512) -/

/-- An acknowledged ITEM frame releases its item (13 Table - Release points). -/
def State.ackFrame (s : State) (f : Frame) : State :=
  match f with
  | .item id _ => if (s.view viewPeer).inFlight.any (fun l => decide (l.item = id)) then s.letGo viewPeer id else s
  | .mirror _ | .delivered _ | .lamp _ | .epoch _ | .handover _ | .catchupEnd _ => s

/-- The frames up to the acknowledged one, and the rest; none where the number acknowledges nothing that waits. -/
def splitAcked (ack : Half) : List (Half × Frame) → Option (List Frame × List (Half × Frame))
  | [] => none
  | (q, f) :: r =>
    if q = ack then some ([f], r)
    else match splitAcked ack r with
      | some (fs, rest) => some (f :: fs, rest)
      | none => none

/-- The ACK field of a frame from the peer: the window moves on, and what waited for it. -/
def State.takeAck (s : State) (ack : Half) : State :=
  let s := match splitAcked ack s.pair.unacked with
    | some (fs, rest) => fs.foldl State.ackFrame (s.setPair fun p => { p with unacked := rest })
    | none => s
  (State.drainFrames 8 s).sendPeer.advanceHandover

/-- A frame that passes R510 has come: it is counted, and its ACK taken. -/
def State.heard (s : State) (hdr : PleachHdr) : State := s.takeAck hdr.ack

def State.countAccepted (s : State) : State := s.setPair fun p => { p with accepted := satAdd top32 p.accepted 1 }

/-- A frame that fails R510 is dropped and counted. -/
def State.countDropped (s : State) : State := s.setPair fun p => { p with dropped := satAdd top32 p.dropped 1 }

/-- A sequenced frame `x` whose LEN fits its type: accepted in order, a duplicate whose ACK is repeated, or dropped (17 R510,
R512). -/
def State.receive (s : State) (hdr : PleachHdr) (x : Frame) (f : State → State) : State :=
  if !s.linkRuns then s
  else if !lenFits x.code x.bytes.length then s.countDropped
  else
    let s := s.heard hdr
    let p := s.pair
    if hdr.seq ≠ 0 ∧ hdr.seq = nextLinkSeq p.rxSeq then
      (f (s.countAccepted.setPair fun p => { p with
        rxSeq := hdr.seq, recent := (hdr.seq :: p.recent).take 8, ackOwed := true })).sendAck
    else if p.recent.contains hdr.seq then
      (s.setPair fun p => { p with duplicates := satAdd top32 p.duplicates 1, ackOwed := true }).sendAck
    else s

/-- 17 R512: ACK-ONLY. -/
def execAckOnly (hdr : PleachHdr) (s : State) : Host.Outcome State Fault Refusal :=
  if s.linkRuns then .next (s.heard hdr).countAccepted else .next s

/-- 17 R510: a frame has come, `bytes` those after its start byte; one that fails the check is dropped and counted. -/
def execPleachFrameDropped (bytes : List Byte) (s : State) : Host.Outcome State Fault Refusal :=
  if s.linkRuns && pleachBad bytes then .next s.countDropped else .next s

/-- 17 R513: every unacknowledged frame is sent again, oldest first, its SEQ unchanged and its ACK as it now stands. -/
def execRetransmit (s : State) : Host.Outcome State Fault Refusal :=
  if s.linkRuns && s.pair.linkUp then
    .next (s.setPair fun p => { p with
      resent := satAdd top32 p.resent p.unacked.length
      wire := match p.unacked.getLast? with
        | some (q, f) => s.frameBytes q f
        | none => p.wire
      ackOwed := p.ackOwed && p.unacked.isEmpty })
  else .next s

/-! ### HEARTBEAT (17 R514, R515, R529-R531, R533) -/

/-- The HEARTBEAT this device composes (17 Table - Heartbeat payload). -/
def State.heartbeat (s : State) : Heartbeat :=
  let h := s.engine.header.getD []
  let p := s.pair
  { flags := BitVec.ofNat 8 (flag p.dutyOut 0 + flag (!s.engine.up) 1 + flag p.armed 2 + flag p.formed 3 +
      flag p.timeSkew 4 + flag s.settings.epoch.isSome 5)
    rank := s.power.rank
    mode := BitVec.ofNat 8 s.mode.code
    major := BitVec.ofNat 16 (fieldAt h 8 2)
    minor := BitVec.ofNat 16 (fieldAt h 10 2)
    patch := BitVec.ofNat 16 (fieldAt h 12 2)
    digest := s.settings.digest
    elapsed := s.now }

/-- 17 R514: a HEARTBEAT is sent, past point 2, where faults 0 and 1 act on it. -/
def execHeartbeatSend (s : State) : Host.Outcome State Fault Refusal :=
  if !s.linkRuns then .next s
  else
    let b := s.heartbeat
    .next (((s.setPair fun p => { p with beat := some b }).sendPlain 0x01 (beatBytes b)).sendPeer)

/-- The third HEARTBEAT in a row sets LINK_UP; the numbering starts at 1 (17 R511, R515). -/
def Pair.beaten (p : Pair) : Pair :=
  let n := min 3 (p.beats + 1)
  if n = 3 ∧ !p.linkUp then { p with beats := n, linkUp := true, txSeq := 1 } else { p with beats := n }

/-- The peer, seeing this duty's PL_DUTY_OUT high, stands by: it says that it is no duty and that its engine is up, which
takes the role at once (17 R516; HEARTBEAT has no flag for a role: DEDUCED, log entry 163). -/
def Pair.peerStands (p : Pair) : Bool := p.peer.any fun q => !q.flags.getLsbD 0 && !q.flags.getLsbD 1

/-- The steps of formation that the duty takes once the peer holds its role (17 R531 steps 2 to 4). -/
def State.form (s : State) : State :=
  let p := s.pair
  if !(p.linkUp && !p.forming && !p.majorMismatch && !p.sameRank && decide (p.role = .duty) && p.peerStands) then s
  else
    let s := s.setPair fun p => { p with forming := true }
    let s := s.sendFrame (.epoch (s.settings.epoch.map fun e =>
      { seconds := e.seconds, micros := e.micros, instant := e.instant }))
    let s := s.eachLamp fun s l => if lampUsed (s.lamp l).row then s.sendLamp l else s
    (s.sendFrame (.catchupEnd s.pair.nextSeq)).setPair fun p => { p with caughtUp := true }

/-- What the engine reads from the peer's HEARTBEAT: the disagreements, the duty's side of TIME_SKEW, the engine-down
flag (17 R530, R533, 05 R180). -/
def State.compare (s : State) (b : Heartbeat) : State :=
  let own := s.heartbeat
  s.setPair fun p => { p with
    majorMismatch := decide (b.major ≠ own.major)
    minorMismatch := decide (b.major = own.major) && decide (b.minor ≠ own.minor)
    splitConfig := p.splitConfig && decide (b.digest ≠ own.digest)
    timeSkew := if p.role = .duty then b.flags.getLsbD 4 else p.timeSkew
    peerEngineDown := b.flags.getLsbD 1 }

/-- A peer of the same rank makes the device yield, and claim no more (17 R518). A peer that reports another rank has been
reset, since straps are sampled at a reset only, and that lifts the bar (DEDUCED, log entry 164). -/
def State.rankClash (s : State) (b : Heartbeat) : State :=
  let s := if b.rank = s.power.rank ∧ !s.pair.sameRank ∧ s.pair.role = .duty then s.yieldDuty .standby else s
  s.setPair fun p => { p with sameRank := decide (b.rank = s.power.rank) }

/-- 17 R515: a HEARTBEAT is accepted; `dutyIn` is the level of PL_DUTY_IN then, and the elapsed count that of the start byte
(17 R529). -/
def execHeartbeatReceived (hdr : PleachHdr) (beat : Heartbeat) (dutyIn : Bool) (s : State) :
    Host.Outcome State Fault Refusal :=
  if !s.linkRuns then .next s
  else
    let before := s.pair
    let q : Peer := { flags := beat.flags, rank := beat.rank, mode := beat.mode, major := beat.major, minor := beat.minor,
                      patch := beat.patch, digest := beat.digest }
    let s := (s.heard hdr).countAccepted.setPair fun p => { p.beaten with peer := some q }
    let s := if s.pair.role = .standby ∧ beat.flags.getLsbD 0 then
        s.setPair fun p => { p with measured := some (beat.elapsed - s.now) }
      else s
    let s := s.rankClash beat
    let s := if s.engine.up then s.compare beat else s
    let s := s.seeDuty dutyIn
    let s := if s.engine.up then s.form else s
    .next (s.sendPeer.noted before)

/-- 17 R515: no HEARTBEAT for the take-over timeout; `dutyIn` is the level of PL_DUTY_IN then, low by the pull-down where the
peer drives it no more (R505). -/
def execLinkLost (dutyIn : Bool) (s : State) : Host.Outcome State Fault Refusal :=
  if s.linkRuns then
    let t := s.linkDown
    .next ((t.seeDuty dutyIn).noted t.pair)
  else .next s

/-! ### What a standby makes of the duty's frames (17 R523-R531) -/

/-- The item stands in a port view. -/
def State.inPorts (s : State) (id : Nat) : Bool :=
  (List.finRange 48).any fun p => (s.viewItems (portView p)).contains id

/-- One MIRROR record: the oldest unmatched item that fits is matched, or the record waits. -/
def State.mirrorRec (s : State) (r : MirrorRec) : State :=
  let s := s.setPair fun p => { p with lastMirrored := r.pairSeq }
  match s.sluice.items.find? fun i =>
      decide (i.place = .committed) && !i.isMatched && i.onPort && recMatches r i && s.inPorts i.id with
  | some i => s.matchItem i.id r.pairSeq
  | none => s.setPair fun p => { p with unmatched := p.unmatched ++ [r] }

/-- 17 R523: MIRROR. -/
def execMirrorFrame (hdr : PleachHdr) (records : List MirrorRec) (s : State) : Host.Outcome State Fault Refusal :=
  .next (s.receive hdr (.mirror records) fun s => if s.pair.role = .standby then records.foldl State.mirrorRec s else s)

/-- 17 R523: no item has come within 100 ms. -/
def execMissing (pairSeq : Word) (s : State) : Host.Outcome State Fault Refusal :=
  match s.pair.unmatched.find? fun r => decide (r.pairSeq = pairSeq) with
  | some r =>
    if s.roadRuns then
      .next (s.setPair fun p => { p with unmatched := p.unmatched.erase r, missing := satAdd top32 p.missing 1 })
    else .next s
  | none => .next s

/-- 17 R524: an item has stayed unmatched for 100 ms; it stays linked in its taps. -/
def execOrphan (item : Nat) (s : State) : Host.Outcome State Fault Refusal :=
  match s.item? item with
  | some i =>
    if s.roadRuns && decide (s.pair.role = .standby) && decide (i.place = .committed) && !i.isMatched && s.inPorts item then
      let s := s.setPair fun p => { p with orphans := satAdd top32 p.orphans 1 }
      .next (s.eachPort fun s p =>
        if (s.view (portView p)).queue.any fun l => decide (l.item = item) then s.unlink (portView p) item else s)
    else .next s
  | none => .next s

/-- One DELIVERED record: the matched item leaves its view (17 R525). -/
def State.deliveredRec (s : State) (r : DeliveredRec) : State :=
  let v := portView r.view
  match (s.view v).queue.find? fun l => (s.item? l.item).any fun i => i.isMatched && decide (i.pairSeq = r.pairSeq) with
  | some l =>
    let s := s.unlink v l.item
    s.updView v fun w => if w.ahead = some l.item ∨ w.ahead = none then { w with ahead := w.queue.head?.map (·.item) } else w
  | none => s

/-- 17 R525: DELIVERED. -/
def execDeliveredFrame (hdr : PleachHdr) (records : List DeliveredRec) (s : State) : Host.Outcome State Fault Refusal :=
  .next (s.receive hdr (.delivered records) fun s =>
    if s.pair.role = .standby then records.foldl State.deliveredRec s else s)

/-- 17 R528, 01 R23: an ITEM is written with source 0x41, stamped as its writing begins, and decided. -/
def State.takeItem (s : State) (r : ItemRec) : State :=
  let given := if s.pair.role = .standby then some r.pairSeq else none
  match s.newItem r.payload (tagLenOf r.payload) 0x41 s.now s.doubtNow (r.flags &&& ~~~flVoid) false with
  | none => s.countNoCell
  | some (id, s) => (s.decideItem id given).1

/-- 17 R528: ITEM. -/
def execItemFrame (hdr : PleachHdr) (item : ItemRec) (s : State) : Host.Outcome State Fault Refusal :=
  .next (s.receive hdr (.item 0 item) fun s => s.takeItem item)

/-- 17 R527: LAMP. -/
def execLampFrame (hdr : PleachHdr) (records : List LampRec) (s : State) : Host.Outcome State Fault Refusal :=
  .next (s.receive hdr (.lamp records) fun s =>
    if !s.pair.follows then s
    else if s.engine.up then records.foldl State.lampRec s
    else s.setPair fun p => { p with lampsOwed := p.lampsOwed ++ records })

/-- 17 R531, 08 R237: EPOCH, through pair time. -/
def execEpochFrame (hdr : PleachHdr) (epoch : Option EpochRec) (s : State) : Host.Outcome State Fault Refusal :=
  .next (s.receive hdr (.epoch epoch) fun s =>
    if s.pair.follows then
      let e := epoch.map fun (r : EpochRec) =>
        ({ seconds := r.seconds, micros := r.micros, instant := s.fromPairTime r.instant } : Epoch)
      s.setSettings fun t => { t with epoch := e }
    else s)

/-- 17 R531 step 4: CATCHUP-END. -/
def execCatchupEnd (hdr : PleachHdr) (nextSeq : Word) (s : State) : Host.Outcome State Fault Refusal :=
  .next (s.receive hdr (.catchupEnd nextSeq) fun s =>
    if s.pair.follows then s.setPair fun p => { p with caughtUp := true, lastMirrored := nextSeq - 1 } else s)

/-- 17 R535: HANDOVER, and at once the take-over where PL_DUTY_IN is low. -/
def execHandoverFrame (hdr : PleachHdr) (nextSeq : Word) (dutyIn : Bool) (s : State) :
    Host.Outcome State Fault Refusal :=
  .next (s.receive hdr (.handover nextSeq) fun s =>
    if s.pair.role = .standby then
      let s := s.setPair fun p => { p with handed := true, lastMirrored := nextSeq - 1, dutyIn := dutyIn }
      if !dutyIn && s.mayTakeOver then s.takeOver else s
    else s)

/-- 17 R529, R530: once per second the standby adopts the offset of the latest HEARTBEAT. -/
def State.adoptOffset (s : State) (new : Stamp) : State :=
  s.setPair fun p =>
    match p.offset with
    | none => { p with offset := some new }
    | some old =>
      let d := (new - old).toInt
      let p := { p with offset := some new, skew := d }
      if 500 < d.natAbs then { p with timeSkew := true, steady := 0 }
      else
        let n := if d.natAbs ≤ 250 then min 10 (p.steady + 1) else 0
        { p with steady := n, timeSkew := p.timeSkew && decide (n < 10) }

/-- 17 R529: the adoption. -/
def execOffsetAdopt (s : State) : Host.Outcome State Fault Refusal :=
  match s.pair.measured with
  | some m =>
    if s.engineWorks && decide (s.pair.role = .standby) then .next ((s.adoptOffset m).noted s.pair) else .next s
  | none => .next s

end Sys2Proof.Machine
end

