-- ==== Sys2Proof/Machine/Power.lean ====
section
/-!
DEFINITION. Supplies, resets, the time base, PACE, TEMP and AUDIT (01 R29-R36, 02, 05).
-/
namespace Sys2Proof.Machine

/-- 02 R40, Table - Power-up events: power-on reset is released, the straps are sampled and the elapsed count starts
at 0. -/
def execPowerOnResetRelease (rank waitOd orderMet : Bool) (s : State) : Host.Outcome State Fault Refusal :=
  if s.power.running then .next s
  else
    let p := { Power.reset with
      nresetLow := s.power.nresetLow, vanaGood := s.power.vanaGood, vanaSettled := s.power.vanaGood
      orderFault := s.power.orderFault && !orderMet, rank := rank, waitOd := waitOd }
    .next (s.afterReset p 0)

/-- 02 R41, 05 R153: the free list is built, the first-second counters are cleared and count, the busy state clears. -/
def execResetComplete (s : State) : Host.Outcome State Fault Refusal :=
  if s.released && s.power.completing then
    let s := s.setPower fun p => { p with completing := false }
    let s := s.setModes fun m => { m with cause := if m.owed.isEmpty then .none else .busy }
    .next (((s.clearMem (firstSecondAt 0) resetStampAt).setTag Tag.recover).setCounting true).modesDone
  else .next s

/-- 02 R45: VCORE or VIO is lost; core state is lost and the elapsed count stops. -/
def execSupplyCollapse (s : State) : Host.Outcome State Fault Refusal :=
  if s.power.running then .next (s.afterReset { s.power.afterReset 1 with running := false } 0)
  else .next s

/-- 02 R43: the VANA guard latches the order fault. -/
def execOrderFault (s : State) : Host.Outcome State Fault Refusal :=
  .next (s.setPower fun p => { p with orderFault := true })

/-- 02 R46, R42: VANA is lost; the drivers go high-impedance, the items on the lines are kept, and amplitude readings
start anew (09 R273). -/
def execVanaLost (s : State) : Host.Outcome State Fault Refusal :=
  if !s.power.vanaGood then .next s
  else
    let s := s.setPower fun p => { p with vanaGood := false, vanaSettled := false }
    if !s.released then .next s
    else
      let s := s.setPower fun p => { p with vanaWasLost := true }
      let s := s.eachPort fun s p => s.cutSending p true
      let s := (s.mapPorts fun (q : Port) => { q.drive false with amp := { q.amp with seen := 0 } }).setJoins
      .next ((s.supplyEvent 3).deviceEvent evVanaLost none)

/-- 02 R47: VANA has been good for 1 ms, so the drivers are enabled again. The first rise after a reset is no return
(05 SUPPLY). -/
def execVanaBack (s : State) : Host.Outcome State Fault Refusal :=
  if s.power.vanaGood && !s.power.vanaSettled then
    let again := s.power.vanaWasLost
    let s := (s.setPower fun p => { p with vanaSettled := true, vanaWasLost := false }).driveAll
    if again && s.released then .next ((s.supplyEvent 2).deviceEvent evVanaBack none) else .next s
  else .next s

/-- 02 R55: VANA passes 4.40 V rising. Before RUN nothing waits for the 1 ms, which is over long before RUN entry. -/
def execVanaGood (s : State) : Host.Outcome State Fault Refusal :=
  if s.power.vanaGood then .next s
  else .next (s.setPower fun p => { p with
    vanaGood := true, vanaSettled := !p.vanaWasLost && !s.roadRuns && decide (s.mode ≠ .doze) }).setJoins

/-- 02 R49, R51, Table - Reset scopes: nRESET is low; the elapsed count keeps running. -/
def execNresetAssert (s : State) : Host.Outcome State Fault Refusal :=
  if s.power.nresetLow then .next s
  else if s.power.running then .next (s.afterReset { s.power.afterReset 2 with nresetLow := true } s.now)
  else .next (s.setPower fun p => { p with nresetLow := true })

/-- 03 R103: nRESET rises and the straps are sampled. -/
def execNresetRelease (rank waitOd : Bool) (s : State) : Host.Outcome State Fault Refusal :=
  if !s.power.nresetLow then .next s
  else if s.power.running then .next (s.setPower fun p => { p with nresetLow := false, rank := rank, waitOd := waitOd })
  else .next (s.setPower fun p => { p with nresetLow := false })

/-- 05 R178, R179: a device reset; the straps are not sampled. -/
def execDeviceReset (s : State) : Host.Outcome State Fault Refusal :=
  if s.busServed then .next (s.afterReset (s.power.afterReset 3) s.now) else .next s

/-- 01 R36: Tally is absent; stamps are in doubt from now on. -/
def execTallyLost (s : State) : Host.Outcome State Fault Refusal :=
  if s.power.tallyLost || !s.power.running then .next s
  else .next ((s.setPower fun p => { p with tallyLost := true, tallyWasLost := true }).deviceEvent evTallyLost none)

/-- 01 R36: Tally has run for 1 ms. Its first start after power-up is no return. -/
def execTallyBack (s : State) : Host.Outcome State Fault Refusal :=
  if s.power.tallyLost && s.power.running then
    let again := s.power.tallyWasLost
    let s := s.setPower fun p => { p with tallyLost := false, tallyWasLost := false }
    if again then .next (s.deviceEvent evTallyBack none) else .next s
  else .next s

/-- PACE_LOW after an update to `v`, and the updates at 450 or more since it was set (01 R31). -/
def Power.paceStep (p : Power) (v : Nat) : Power :=
  let good := if v < 450 then 0 else p.paceGood + 1
  let low := decide (v < 450) || (p.paceLow && decide (good < 10))
  { p with pace := BitVec.ofNat 16 v, paceLow := low, paceGood := if low then good else 0 }

/-- 01 R29, R31: PACE is updated in every mode but DOZE; PACE_LOW sets and clears with a SUPPLY event and a device
event. -/
def execPaceUpdate (count : Nat) (s : State) : Host.Outcome State Fault Refusal :=
  if !s.alive || decide (s.mode = .doze) then .next s
  else
    let v := min 0xFFFF (count / 1000)
    let was := s.power.paceLow
    let s := s.setPower fun p => p.paceStep v
    if s.power.paceLow && !was then .next ((s.supplyEvent 1).headNotice.deviceEvent evPaceLow (some v))
    else if was && !s.power.paceLow then .next ((s.supplyEvent 0).headNotice.deviceEvent evPaceOk (some v))
    else .next s

/-- 22 R661, 05 TEMP: a conversion ends. -/
def execTempConversion (reading : Half) (s : State) : Host.Outcome State Fault Refusal :=
  if s.alive then .next (s.setPower fun p => { p with temp := reading }) else .next s

/-- 13 R406, 05 R177: an AUDIT bit is set, and doorbell 8 rings. The checks run in the working modes; the engine makes
those of bits 4 to 6. -/
def execAuditSet (bit : Fin 8) (s : State) : Host.Outcome State Fault Refusal :=
  if s.roadRuns && (s.engine.up || decide (bit.val < 4) || decide (bit.val = 7)) then
    let s := s.setPower fun p => { p with audit := p.audit ||| BitVec.ofNat 8 (2 ^ bit.val) }
    .next (s.headNotice.bellBoth bellAudit)
  else .next s

end Sys2Proof.Machine
end

