-- ==== Sys2Proof/Machine/RoadCmd.lean ====
section
/-!
DEFINITION. The road's events between the assemblers and the views: the Sieve's decision, the Weir's refill and deferred
commits, an alarm that waited for a cell, and the release of an item an injection slot holds (12, 13 R398, 21 R630).
-/
namespace Sys2Proof.Machine

/-- The oldest item that has ended and waits for the Sieve. -/
def State.endedItem (s : State) : Option Item := s.sluice.items.find? fun i => decide (i.place = .ended)

/-- 12 R355: one ended item is decided. -/
def execSieveDecision (s : State) : Host.Outcome State Fault Refusal :=
  if s.roadRuns then
    match s.endedItem with
    | some i => .next (s.decideItem i.id none).1
    | none => .next s
  else .next s

/-- 12 R369: a sixteenth of a token has accrued; refill runs in every mode. -/
def execWeirRefill (gov : GovNo) (s : State) : Host.Outcome State Fault Refusal :=
  if s.alive then .next (s.refill gov) else .next s

/-- 12 R376, R402: the oldest deferred item of the governor is committed for 16 sixteenths. -/
def execDeferCommit (gov : GovNo) (s : State) : Host.Outcome State Fault Refusal :=
  if s.roadRuns then .next ((s.releaseIfDue gov).drainOne gov) else .next s

/-- 13 R398: the oldest alarm that waits takes a freed cell and is committed; in DOZE and in a restart it waits on. -/
def execAlarmCellWaitEnd (s : State) : Host.Outcome State Fault Refusal :=
  if s.engineWorks then .next s.placeWaiting else .next s

/-- 21 R630, R631: a second has passed since the slot took its item. -/
def execReorderRelease (slot : Fin 16) (s : State) : Host.Outcome State Fault Refusal :=
  if s.roadRuns then .next (s.releaseHeld slot) else .next s

end Sys2Proof.Machine
end

