-- ==== Sys2Proof/Machine/Spillway.lean ====
section
/-!
DEFINITION. The Spillway's events on a listener (14 R408-R427, R685, R686; 09 R283).
-/
namespace Sys2Proof.Machine

/-- 14 R408-R411: the listener is idle and the Spillway begins the next item; `cts` is what the transmit pacer samples
before the first start bit (09 R283). -/
def execItemBegin (port : PortNo) (cts : Bool) (s : State) : Host.Outcome State Fault Refusal :=
  if !s.roadRuns then .next s
  else
    let s := (s.yieldGroup port).dropAbandoned port
    if s.mayBegin port then
      let s := s.updPort port fun q => { q with cts := cts }
      let s := State.skipMembers (s.view (portView port)).queue.length s port
      match s.nextItem port with
      | some i => .next (s.sendItem port i cts)
      | none => .next s
    else .next s

/-- 09 R283, 14 R412: the transmit pacer samples CTS before the start bit of the next character of the item, or of the cut
terminator: asserted, the character that waits begins; deasserted with CTSFLOW, it waits. An item whose first character
begins so counts its re-send (R418, R686). -/
def execCtsResume (port : PortNo) (cts : Bool) (s : State) : Host.Outcome State Fault Refusal :=
  let t := (s.port port).tx
  if s.roadRuns && (t.sending.isSome || t.terminator) then
    let waits := (s.port port).txc.ctsFlow && !cts
    let first := !waits && t.sending.any fun x => !x.begun
    let again := first && t.sending.any fun x => x.resend
    .next (s.updPort port fun q => { q with cts := cts, tx := { q.tx with
      ctsWait := waits
      sending := q.tx.sending.map fun x => { x with begun := x.begun || !waits }
      resends := if again then satAdd top32 q.tx.resends 1 else q.tx.resends } })
  else .next s

/-- 13 R396, 14 R411: the item's last character has left. -/
def execItemSent (port : PortNo) (s : State) : Host.Outcome State Fault Refusal :=
  if s.roadRuns && !(s.port port).tx.ctsWait then .next (s.endSending port).advanceHandover
  else .next s

/-- An item that met R413 at its link can still breach the item on the line: one of the same class cannot (14 "Two alarms
are linked within one character time"). -/
def State.mayBreach (s : State) (p : PortNo) : Bool :=
  (s.port p).tx.breachers.any fun j => match s.item? j, s.classOnLine p with
    | some i, some c => decide (i.cls < c) && s.classAllowed p i.cls && s.viewOpen (portView p)
    | _, _ => false

/-- 14 R413-R418, R686: an item that breaches waits; `sent` characters of the item on the line have begun. -/
def execBreach (port : PortNo) (sent : Nat) (s : State) : Host.Outcome State Fault Refusal :=
  let t := (s.port port).tx
  if !s.roadRuns || !s.mayBreach port then .next s
  else
    match t.sending with
    | none => .next (s.yieldGroup port)
    | some x =>
      if !x.begun || decide (sent = 0) then
        .next (((s.cutSending port false).adoptTx port).txBoundary port).advanceHandover
      else if cutLimit x.bytes < sent then .next s
      else
        let s := (s.cutSending port true).updTx port fun t => { t with
          terminator := true, ctsWait := (s.port port).tx.ctsWait, breaches := satAdd top32 t.breaches 1 }
        .next ((s.adoptTx port).txBoundary port).advanceHandover

/-- 14 R424: 250 ms have passed since the last member left, and the next is not in the view; an interrupted group does
not run (R685). -/
def execGroupAbandon (port : PortNo) (s : State) : Host.Outcome State Fault Refusal :=
  if !s.roadRuns then .next s
  else
    let s := s.yieldGroup port
    let t := (s.port port).tx
    if t.group.isSome && t.sending.isNone && (s.nextItem port).isNone then .next (s.abandonGroup port) else .next s

end Sys2Proof.Machine
end

