-- ==== Sys2Proof/Machine/System.lean ====
section
/-!
DEFINITION. The system commands (08 R224, R234-R237, R240) and the device's heartbeat sentence (11 R350).
-/
namespace Sys2Proof.Machine

/-- The codes of the catalogue (08). -/
def catalogued (c : Nat) : Bool :=
  (decide (0x0101 ≤ c) && decide (c ≤ 0x0109)) || (decide (0x0201 ≤ c) && decide (c ≤ 0x0205)) ||
  (decide (0x0301 ≤ c) && decide (c ≤ 0x0306)) || (decide (0x0401 ≤ c) && decide (c ≤ 0x040B)) ||
  (decide (0x0501 ≤ c) && decide (c ≤ 0x050A)) || (decide (0x0601 ≤ c) && decide (c ≤ 0x0605)) ||
  (decide (0x0701 ≤ c) && decide (c ≤ 0x0705)) || (decide (0x0801 ≤ c) && decide (c ≤ 0x0803)) ||
  (decide (0x0901 ≤ c) && decide (c ≤ 0x0906))

/-- 08 R224: a code not in the catalogue. -/
def execUnknownCommand (code : Half) (msg : Msg) (s : State) : Host.Outcome State Fault Refusal :=
  if catalogued code.toNat then .next s
  else .next (s.serve msg code.toNat inAll (fun _ => none) fun s _ => s.badAt msg code.toNat 0xFFFF)

/-- 08 R234: VERSION, from the header store (07 R206). -/
def execVersion (msg : Msg) (s : State) : Host.Outcome State Fault Refusal :=
  .next (s.serve msg 0x0101 inAll (exactFault []) fun s _ =>
    let h := s.engine.header.getD []
    s.done msg 0x0101 (bytesAt h 8 8 ++ bytesAt h 0x20 16 ++ leBytes 2 0x4201))

/-- The fields of SET-EPOCH (08 R235): with CLEAR they are ignored. -/
def epochFault (now : Stamp) (bs : List Byte) : Option Nat :=
  let open_ := [anyFld 4, anyFld 4, anyFld 6, anyFld 2]
  match exactFault open_ bs with
  | some o => some o
  | none =>
    if bitsOf (fieldAt bs 14 2) 0 1 = 1 then none
    else if fieldAt bs 0 4 = 0 then some 0
    else if 999999 < fieldAt bs 4 4 then some 4
    else if now.toNat < fieldAt bs 8 6 then some 8
    else none

/-- The duty of a formed pair gives its standby the epoch (08 R237). -/
def State.sendEpoch (s : State) : State :=
  if s.pair.formed && decide (s.pair.role = .duty) then
    s.sendFrame (.epoch (s.settings.epoch.map fun e => { seconds := e.seconds, micros := e.micros, instant := e.instant }))
  else s

/-- 08 R235, R237: SET-EPOCH. The instant may not be later than the take of the command. -/
def execSetEpoch (msg : Msg) (s : State) : Host.Outcome State Fault Refusal :=
  let at_ := s.takenAt.1
  .next (s.serve msg 0x0102 inAll (epochFault at_) fun s bs =>
    if s.pair.role = .standby then s.refused msg 0x0102 0x0014
    else
      let clear := bitsOf (fieldAt bs 14 2) 0 1 = 1
      let e : Epoch := { seconds := BitVec.ofNat 32 (fieldAt bs 0 4), micros := BitVec.ofNat 32 (fieldAt bs 4 4),
                         instant := BitVec.ofNat 48 (fieldAt bs 8 6) }
      let s := s.setSettings fun t => { t with epoch := if clear then none else some e }
      let s := s.timeMark (if clear then 2 else 1) at_
      s.sendEpoch.changed msg 0x0102 [])

/-- 08 R234: GET-TIME. -/
def execGetTime (msg : Msg) (s : State) : Host.Outcome State Fault Refusal :=
  .next (s.serve msg 0x0103 inAll (exactFault []) fun s _ =>
    let utc := match s.settings.epoch with
      | some e => leBytes 4 (utcSeconds e s.now) ++ leBytes 4 (utcFraction e s.now)
      | none => leBytes 8 0
    s.done msg 0x0103 (leBytes 6 s.now.toNat ++ leBytes 1 (flag s.settings.epoch.isSome 0) ++
      leBytes 1 (flag s.pair.timeSkew 0) ++ utc))

/-- 08 R232: DIGEST; a count of changes past 65,535 reads as a free value (log entry 3). -/
def execDigest (msg : Msg) (s : State) : Host.Outcome State Fault Refusal :=
  .next (s.serve msg 0x0104 inAll (exactFault []) fun s _ =>
    let got := if s.settings.changes < 0x10000 then (s.settings.changes, s) else s.draw
    let n := got.1
    let s := got.2
    s.done msg 0x0104 (leBytes 4 s.settings.digest.toNat ++ leBytes 6 s.settings.lastChange.toNat ++ leBytes 2 n))

/-- 08 R234: HOST-WATCH. -/
def execHostWatch (msg : Msg) (s : State) : Host.Outcome State Fault Refusal :=
  .next (s.serve msg 0x0105 inAll (exactFault [upTo 2 600]) fun s bs =>
    (s.setSettings fun t => { t with hostWatch := BitVec.ofNat 16 (fieldAt bs 0 2) }).changed msg 0x0105 [])

/-- 08 R234: HEARTBEAT. -/
def execHeartbeat (msg : Msg) (s : State) : Host.Outcome State Fault Refusal :=
  .next (s.serve msg 0x0106 inAll (exactFault [upTo 2 3600]) fun s bs =>
    (s.setSettings fun t => { t with heartbeat := BitVec.ofNat 16 (fieldAt bs 0 2) }).changed msg 0x0106 [])

/-- 11 R350: the heartbeat interval has passed. -/
def execPvyshInterval (s : State) : Host.Outcome State Fault Refusal :=
  if s.engineWorks && decide (s.settings.heartbeat ≠ 0) then .next (s.makeDevice s.pvyshText) else .next s

/-- 08 R240: EVENTS reports and clears. -/
def execEvents (msg : Msg) (s : State) : Host.Outcome State Fault Refusal :=
  .next (s.serve msg 0x0109 inAll (exactFault []) fun s _ =>
    let p := leBytes 2 s.settings.devFlags.toNat ++ leBytes 8 s.settings.portFlags.toNat
    (s.setSettings fun t => { t with devFlags := 0, portFlags := 0 }).done msg 0x0109 p)

end Sys2Proof.Machine
end

