-- ==== Sys2Proof/Machine/TagCmd.lean ====
section
/-!
DEFINITION. The tag commands (08 R254) and the publishing of region B (19 R589, R590).
-/
namespace Sys2Proof.Machine

/-- The publish in progress ends: its blocks and block 1791 are written (19 R589). -/
def State.endPublish (s : State) : State :=
  match s.tag.publishing with
  | none => s
  | some l => s.setTag fun t => { t.write l with publishing := none, whole := false }

/-- 19 R590: TAG-PUBLISH publishes at once, behind a publish of the engine's own. -/
def execTagPublish (msg : Msg) (s : State) : Host.Outcome State Fault Refusal :=
  .next (s.serve msg 0x0801 inWork (exactFault []) fun s _ =>
    if s.publishBusy then s.refused msg 0x0801 0x0012
    else (s.endPublish.startPublish).accept msg 0x0801 .publish)

/-- 19 R589: the publish has written its blocks; a TAG-PUBLISH completes. -/
def execPublishDone (s : State) : Host.Outcome State Fault Refusal :=
  if s.engineWorks && s.tag.publishing.isSome then
    let s := s.endPublish
    match s.working? fun w => decide (w = .publish) with
    | some a => .next (s.complete a 0 [])
    | none => .next s
  else .next s

/-- What a publish reports has changed since the last one (19 R590). -/
def State.publishDue (s : State) : Bool :=
  decide (s.tag.lastPublish ≠ some (s.settings.digest, s.alarmStat, s.tag.fieldSeq, s.tag.eventsMade))

/-- 19 R590: a publish of the engine's own, at WORK entry and then where something has changed. -/
def execAutoPublish (s : State) : Host.Outcome State Fault Refusal :=
  if s.engineWorks && s.tag.publishing.isNone && s.publishDue then .next s.startPublish else .next s

/-- 19 R592: TAG-RECORD. -/
def execTagRecord (msg : Msg) (s : State) : Host.Outcome State Fault Refusal :=
  .next (s.serve msg 0x0802 inAll (exactFault []) fun s _ =>
    match s.tag.current with
    | none => s.refused msg 0x0802 0x0015
    | some (g, body) => s.done msg 0x0802 (leBytes 2 g.toNat ++ leBytes 2 body.length ++ body))

/-- 08 R254: TAG-INFO. -/
def execTagInfo (msg : Msg) (s : State) : Host.Outcome State Fault Refusal :=
  .next (s.serve msg 0x0803 inAll (exactFault []) fun s _ =>
    s.done msg 0x0803 (leBytes 8 tagUid.toNat ++ leBytes 2 s.tag.lockedCount ++
      leBytes 1 (flag s.tag.fieldLock 0) ++ leBytes 1 0))

end Sys2Proof.Machine
end

