-- ==== Sys2Proof/Machine/TagField.lean ====
section
/-!
DEFINITION. The Quickset tag's field side (19): the reader's field, the ISO/IEC 15693 commands, field writes and sessions.
-/
namespace Sys2Proof.Machine

/-- 19 R603, R577: a field energises the island, in state Ready; recovery runs where the marker is set. -/
def execFieldArrives (s : State) : Host.Outcome State Fault Refusal :=
  if s.tag.field then .next s
  else .next (s.setTag fun t => { t.recover with field := true, iso := .ready }).raiseTag

/-- What a collapse leaves of the write in progress (19 Table - Collapse outcomes). A part-written tear row holds free
values (log entry 3). -/
def State.collapseWrite (s : State) (w : FieldWrite) (c : Collapse) : State :=
  match c with
  | .check => s
  | .tearRow =>
    let got := s.draw
    let a := got.1
    let s := got.2
    let got := s.draw
    let b := got.1
    let s := got.2
    s.setTag fun t => (t.put blkTearData (BitVec.ofNat 32 a)).put blkTearInfo (BitVec.ofNat 32 b)
  | .marker set => s.setTag fun t => { t.tearRow w with marker := set }
  | .home => s.setTag fun t => { t.tearRow w with marker := true }
  | .clearing set => s.setTag fun t => { t.commitWrite w with marker := set }
  | .answer => s.fieldWrote w

/-- 19 R602, R603: the field leaves; a write in progress ends as its step says, and recovery runs while VIO is good. -/
def execFieldLeaves (collapse : Collapse) (s : State) : Host.Outcome State Fault Refusal :=
  if !s.tag.field then .next s
  else
    let s := match s.tag.writes with
      | w :: _ => s.collapseWrite w collapse
      | [] => s
    let s := s.setTag fun t => { t with writes := [], owes := false, field := false, iso := .ready }
    let s := if s.power.running then s.setTag Tag.recover else s
    .next s.raiseTag

/-- 19 R578: Inventory. A tag whose UID matches the mask, in its slot, with AFI 0x00, sends DSFID 0x00 and its UID. -/
def execInventory (req : InventoryReq) (s : State) : Host.Outcome State Fault Refusal :=
  let u := tagUid.toNat
  let fits := decide (u % 2 ^ req.maskLen = req.mask.toNat % 2 ^ req.maskLen)
  let slot := !req.sixteen || decide (bitsOf u req.maskLen 4 = req.slot.toNat)
  let afi := match req.afi with
    | none => true
    | some a => decide (a = 0)
  if s.tag.field && decide (s.tag.iso ≠ .quiet) && fits && slot && afi then
    .next (s.answer (.data (0 :: leBytes 8 u)))
  else .next s

/-- 19 R578: Stay Quiet, addressed to this tag: it falls quiet and sends nothing. -/
def execStayQuiet (req : TagReq) (s : State) : Host.Outcome State Fault Refusal :=
  if s.tag.field && req.address && !req.select && decide (req.uid = tagUid) then
    if req.format then .next ((s.setTag fun t => { t with iso := .quiet }).answer .silent)
    else .next (s.answer (.error 0x02))
  else .next s

/-- 19 R578, R604: Read Single Block. -/
def execReadSingleBlock (req : TagReq) (block : Byte) (s : State) : Host.Outcome State Fault Refusal :=
  .next (s.fieldRead req block.toNat 1 255)

/-- 19 R578, R600, R601: Write Single Block. -/
def execWriteSingleBlock (req : TagReq) (block : Byte) (data : Word) (energy : Bool) (s : State) :
    Host.Outcome State Fault Refusal :=
  .next (s.fieldWrite req block.toNat 255 data energy)

/-- 19 R586, R600: Lock Block, for good, through the field write steps. -/
def execLockBlock (req : TagReq) (block : Byte) (energy : Bool) (s : State) : Host.Outcome State Fault Refusal :=
  .next (s.tagServe req fun s =>
    if s.tag.fieldLock then s.answer (.error 0x12)
    else if s.tag.ahead.locked block.toNat then s.answer (.error 0x11)
    else s.fieldWriteStart { block := block.toNat, data := 0, isLock := true, option := req.option } energy)

/-- 19 R578: Read Multiple Blocks; `count` is the request's number of blocks less 1 (log entry 22). -/
def execReadMultipleBlocks (req : TagReq) (first count : Byte) (s : State) : Host.Outcome State Fault Refusal :=
  .next (s.fieldRead req first.toNat (count.toNat + 1) 255)

/-- 19 R578: Select. Another tag's Select returns a selected tag to Ready. -/
def execSelect (req : TagReq) (s : State) : Host.Outcome State Fault Refusal :=
  if !s.tag.field || !req.address || req.select then .next s
  else if req.uid = tagUid then
    if req.format then .next ((s.setTag fun t => { t with iso := .selected }).answer (.data []))
    else .next (s.answer (.error 0x02))
  else .next (s.setTag fun t => { t with iso := if t.iso = .selected then .ready else t.iso })

/-- 19 R578: Reset to Ready. -/
def execResetToReady (req : TagReq) (s : State) : Host.Outcome State Fault Refusal :=
  .next (s.tagServe req fun s => (s.setTag fun t => { t with iso := .ready }).answer (.data []))

/-- The answer of both Get System Information commands up to the memory size (19 R581); an Option flag asks for what the
tag does not hold (log entry 22). -/
def State.systemInfo (s : State) (r : TagReq) (size : List Byte) : State :=
  s.tagServe r fun s =>
    if r.option then s.answer (.error 0x03)
    else s.answer (.data ([0x0F] ++ leBytes 8 tagUid.toNat ++ [0, 0] ++ size ++ [0x03, 0x30]))

/-- 19 R581: Get System Information, for 256 blocks. -/
def execGetSystemInformation (req : TagReq) (s : State) : Host.Outcome State Fault Refusal :=
  .next (s.systemInfo req [0xFF])

/-- 19 R586, R599: Get Multiple Block Security Status. -/
def execGetMultipleBlockSecurityStatus (req : TagReq) (first count : Byte) (s : State) :
    Host.Outcome State Fault Refusal :=
  .next (s.tagServe req fun s =>
    if 64 < count.toNat + 1 ∨ 255 < first.toNat + count.toNat then s.answer (.error 0x10)
    else if s.tag.programs then s.answer .silent
    else s.answer (.data ((List.range (count.toNat + 1)).map fun k =>
      if s.tag.ahead.locked (first.toNat + k) then 1 else 0)))

/-- 19 R578, R604: Extended Read Single Block. -/
def execExtendedReadSingleBlock (req : TagReq) (block : Half) (s : State) : Host.Outcome State Fault Refusal :=
  .next (s.fieldRead req block.toNat 1 1791)

/-- 19 R578, R600, R601: Extended Write Single Block. -/
def execExtendedWriteSingleBlock (req : TagReq) (block : Half) (data : Word) (energy : Bool) (s : State) :
    Host.Outcome State Fault Refusal :=
  .next (s.fieldWrite req block.toNat 1023 data energy)

/-- 19 R578: Extended Read Multiple Blocks. -/
def execExtendedReadMultipleBlocks (req : TagReq) (first count : Half) (s : State) : Host.Outcome State Fault Refusal :=
  .next (s.fieldRead req first.toNat (count.toNat + 1) 1791)

/-- 19 R581: Extended Get System Information, for 2048 blocks. -/
def execExtendedGetSystemInformation (req : TagReq) (s : State) : Host.Outcome State Fault Refusal :=
  .next (s.systemInfo req [0xFF, 0x07])

/-- 19 R579: any other command, addressed or received while selected, is answered with error 0x01. -/
def execUnsupportedTagCommand (req : TagReq) (_code : Byte) (s : State) : Host.Outcome State Fault Refusal :=
  if s.tag.field && ((req.address && !req.select && decide (req.uid = tagUid)) || decide (s.tag.iso = .selected)) then
    .next (s.answer (.error 0x01))
  else .next s

/-- A host operation began before the field's first request, so that request waits for it (19 R597, R598). -/
def Tag.hostFirst (t : Tag) : Bool := t.hostOp.isSome && !t.waited

/-- 19 R601, R582: steps 3 to 6 of the field write in progress end, and it is answered. With the Option flag it is answered at
the first EOF after step 6, which is this event once more (DESIGN CHOICE, log entry 168). -/
def execFieldWriteDone (s : State) : Host.Outcome State Fault Refusal :=
  if s.tag.owes then .next ((s.setTag fun t => { t with owes := false }).answer (.data []))
  else match s.tag.writes with
  | [] => .next s
  | w :: ws =>
    if !s.tag.field || s.tag.hostFirst then .next s
    else
      let s := (s.fieldWrote w).setTag fun t => { t with writes := ws, owes := w.option }
      .next (if w.option then s else s.answer (.data []))

/-- 19 R605, R594: a field session ends; the engine records it and checks both record slots. -/
def execFieldSessionEnd (s : State) : Host.Outcome State Fault Refusal :=
  match s.tag.session with
  | none => .next s
  | some (first, n, t) =>
    let s := s.setTag fun g => { g with session := none }
    if s.engine.up then
      let s := (s.noteChange t).record kConfig (recFlags false s.doubtNow) t (configBody 3 4 first 0 false (2 * n) s.settings.digest)
      .next (s.setTag fun g => { g with seqLogged := g.fieldSeq }).checkRecord
    else .next s

end Sys2Proof.Machine
end

