-- ==== Sys2Proof/Machine/Tap.lean ====
section
/-!
DEFINITION. The test access port (21 R635-R638): which instruction is loaded, and through it whether the chain's balls are
on the core.
-/
namespace Sys2Proof.Machine

/-- What the identification register reads while IDCODE is the instruction: version 0x2, part 0x6A30, bit 0 at 1 (21
R636). -/
def Jtag.idcode? (j : Jtag) : Option Word := if j.ir = 1 then some 0x26A306B5 else none

/-- Loads an instruction, while VIO is good (21 R635). -/
def State.loadIr (s : State) (ir : BitVec 4) (sampled : Bool) : State :=
  if s.power.running then s.setJtag { s.jtag with ir := ir, sampled := sampled } else s

/-- The cells that observe the receivers' decisions (21 R637): bit nn is 1 while port nn's line is at mark. -/
def State.lineCells (s : State) : BitVec 48 :=
  (List.finRange 48).foldl (fun v p => if (s.ports.get p).space then v else v ||| BitVec.ofNat 48 (2 ^ p.val)) 0

/-- The chain is captured, `balls` the levels on its input balls, and new contents are shifted into its output cells (21
R637). -/
def State.scan (s : State) (shift : Option ScanOut) (balls : ScanIn) : State :=
  if s.power.running then
    s.setJtag { s.jtag with out := shift.getD s.jtag.out, seen := balls, lines := s.lineCells }
  else s

/-- 21 R637, R638: EXTEST takes the chain's balls off the core; its output cells drive them, as preloaded or as shifted in
now. -/
def execExtest (shift : Option ScanOut) (balls : ScanIn) (s : State) : Host.Outcome State Fault Refusal :=
  .next ((s.scan shift balls).loadIr 0 s.jtag.sampled)

/-- 21 R638: HIGHZ takes them off the core and holds them high-impedance. -/
def execHighz (s : State) : Host.Outcome State Fault Refusal := .next (s.loadIr 3 s.jtag.sampled)

/-- 21 R636: IDCODE. -/
def execIdcode (s : State) : Host.Outcome State Fault Refusal := .next (s.loadIr 1 s.jtag.sampled)

/-- 21 R636, R637: SAMPLE/PRELOAD captures the chain and fills its output cells. -/
def execSamplePreload (shift : ScanOut) (balls : ScanIn) (s : State) : Host.Outcome State Fault Refusal :=
  .next ((s.scan (some shift) balls).loadIr 2 true)

/-- 21 R636: BYPASS, and every code that has no instruction of its own. -/
def execBypass (code : BitVec 4) (s : State) : Host.Outcome State Fault Refusal :=
  if code.toNat < 4 then .next s else .next (s.loadIr code s.jtag.sampled)

/-- 21 R635, R636: Test-Logic-Reset loads IDCODE. -/
def execTestLogicReset (s : State) : Host.Outcome State Fault Refusal := .next (s.loadIr 1 false)

end Sys2Proof.Machine
end

