-- ==== Sys2Proof/Machine/ViewCmd.lean ====
section
/-!
DEFINITION. The Sluice and view commands (08 R244-R246, 13 R394, R399-R403, 14 R428-R430); HOST-INJECT stands with the
assembler.
-/
namespace Sys2Proof.Machine

def viewOf (n : Nat) : Fin 52 := Fin.ofNat 52 n

/-- The view's port is touched by an accepted command. -/
def State.viewBusy (s : State) (v : Nat) : Bool := decide (v < 48) && s.portBusy v

def viewSetFault (bs : List Byte) : Option Nat :=
  match exactFault [upTo 1 0x33, anyFld 1, anyFld 2, anyFld 16] bs with
  | some o => some o
  | none =>
    let c := fieldAt bs 6 2
    if byteAt bs 0 < 48 then (if c < 16 ∨ 1024 < c then some 6 else none)
    else if c = 512 then none else some 6

/-- 13 R394: VIEW-SET writes the host's fields of the row. -/
def execViewSet (msg : Msg) (s : State) : Host.Outcome State Fault Refusal :=
  .next (s.serve msg 0x0401 inAll viewSetFault fun s bs =>
    let a := viewRowAt (byteAt bs 0)
    if s.viewBusy (byteAt bs 0) then s.refused msg 0x0401 0x0012
    else if s.lockedAt a then s.refused msg 0x0401 0x0013
    else
      let high := BitVec.ofNat 8 (byteAt bs 5) &&& 0xF9
      (s.putBytes a (bytesAt bs 4 1 ++ [high] ++ bytesAt bs 6 2)).changed msg 0x0401 [])

/-- 08 R244: VIEW-GET. -/
def execViewGet (msg : Msg) (s : State) : Host.Outcome State Fault Refusal :=
  .next (s.serve msg 0x0402 inAll (exactFault [upTo 1 0x33, anyFld 1]) fun s bs =>
    let v := viewOf (byteAt bs 0)
    let w := s.view v
    s.done msg 0x0402 (s.fabricBytes (viewRowAt v.val) 16 ++ leBytes 2 (s.viewItems v).length ++
      leBytes 2 (s.used v) ++ leBytes 4 w.refusals ++ leBytes 4 w.evictions))

/-- 13 R399: VIEW-FLUSH. -/
def execViewFlush (msg : Msg) (s : State) : Host.Outcome State Fault Refusal :=
  .next (s.serve msg 0x0403 inAll (exactFault [upTo 1 0x33, anyFld 1]) fun s bs =>
    if s.viewBusy (byteAt bs 0) then s.refused msg 0x0403 0x0012
    else
      let got := s.flushView (viewOf (byteAt bs 0))
      let s := got.1
      let n := got.2
      s.done msg 0x0403 (leBytes 2 n))

/-- An injection slot holds the item for reorder (21 R630). -/
def isHeld (i : Item) : Bool :=
  match i.place with
  | .reorder _ _ => true
  | .ended | .deferred _ | .committed => false

/-- The deferred items of a port, and those an injection slot holds (21 R630). -/
def State.deferredOf (s : State) (p : PortNo) : List Item :=
  s.sluice.items.filter fun i => (isDeferred i || isHeld i) && decide (i.source.toNat = p.val)

/-- 13 R400: INGRESS-FLUSH. -/
def execIngressFlush (msg : Msg) (s : State) : Host.Outcome State Fault Refusal :=
  .next (s.serve msg 0x0404 inWork (exactFault [upTo 1 47, anyFld 1]) fun s bs =>
    let p := portOf (byteAt bs 0)
    if s.portBusy p.val then s.refused msg 0x0404 0x0012
    else
      let s := (s.deferredOf p).foldl (fun s i => s.dropItem i.id) (s.dropPartial p)
      (s.rxBoundary p).done msg 0x0404 [])

/-- An item that is not committed becomes VOID at the mark; one that has ended and waits for the Sieve returns its cells
at once (13 R401, R402). -/
def State.voidItem (s : State) (i : Item) : State :=
  match i.place with
  | .committed => s
  | .ended => s.dropItem i.id
  | .deferred _ | .reorder _ _ =>
    (s.updItem i.id fun i => { i with void := true, flags := i.flags ||| flVoid }).putByte (cellAt (i.cells.getD 0 0)) flVoid

/-- The item a port is assembling becomes VOID. -/
def State.voidPartial (s : State) (p : PortNo) : State :=
  match (s.port p).asm.cells with
  | [] => s
  | c :: _ => (s.updAsm p fun a => { a with void := true }).putByte (cellAt c) flVoid

/-- Items that the mark makes VOID: those of `voidItem` and the partial items. -/
def State.voidable (s : State) : Nat :=
  (s.sluice.items.countP fun i => decide (i.place ≠ .committed) && !i.void) +
    s.ports.toList.countP fun q => !q.asm.cells.isEmpty && !q.asm.void

def State.committedCount (s : State) : Nat := s.sluice.items.countP fun i => decide (i.place = .committed)

/-- 13 R401: SLUICE-FLUSH. -/
def execSluiceFlush (msg : Msg) (s : State) : Host.Outcome State Fault Refusal :=
  .next (s.serve msg 0x0405 inWork (exactFault []) fun s _ =>
    let voided := s.voidable
    let before := s.committedCount
    let s := s.eachView fun s v => (s.flushView v).1
    let dropped := before - s.committedCount
    let s := (s.sluice.items.foldl State.voidItem s).eachPort State.voidPartial
    s.done msg 0x0405 (leBytes 2 dropped ++ leBytes 2 voided))

def viewRetireFault (bs : List Byte) : Option Nat :=
  match exactFault [upTo 1 0x33, anyFld 1] bs with
  | some o => some o
  | none => if byteAt bs 0 = 0x33 then some 0 else none

/-- 14 R428, R429, R685: VIEW-RETIRE. -/
def execViewRetire (msg : Msg) (s : State) : Host.Outcome State Fault Refusal :=
  .next (s.serve msg 0x0406 inWork viewRetireFault fun s bs =>
    let v := viewOf (byteAt bs 0)
    let hold := bitsOf (byteAt bs 1) 0 1 = 1
    let a := viewRowAt v.val + 1
    if s.viewBusy v.val then s.refused msg 0x0406 0x0012
    else if s.lockedAt a then s.refused msg 0x0406 0x0013
    else
      let old := Memory.read s.mem a
      let s := s.putByte a (if hold then old ||| 0x08 else old &&& 0xF7)
      let s := s.retireView v hold
      let s := match viewPort v with
        | some p =>
          let s := s.updPort p fun q => { q with txRetired := true }
          if (s.port p).tx.sending.isNone then s.interruptGroup p else s
        | none => s
      s.changed msg 0x0406 [])

/-- 14 R430: VIEW-RETURN. -/
def execViewReturn (msg : Msg) (s : State) : Host.Outcome State Fault Refusal :=
  .next (s.serve msg 0x0407 inWork (exactFault [upTo 1 0x33, anyFld 1]) fun s bs =>
    let v := viewOf (byteAt bs 0)
    if s.viewBusy v.val then s.refused msg 0x0407 0x0012
    else
      let n := if (s.view v).retired then (s.view v).queue.length else 0
      let s := s.updView v fun w => { w with retired := false }
      let s := match viewPort v with
        | some p => s.updPort p fun q => { q with txRetired := false }
        | none => s
      s.changed msg 0x0407 (leBytes 2 n))

/-- The ports a DESIGNATE names. -/
def designated (bs : List Byte) : List Nat := (bs.drop 1).map (·.toNat)

/-- 08 R245: a port is no listener, or is named before. -/
def State.designateFault (s : State) (bs : List Byte) : Option Nat :=
  match fieldsFault 0 [upTo 1 8] bs with
  | some o => some o
  | none =>
    if bs.length ≠ 1 + byteAt bs 0 then some 0
    else ((designated bs).zipIdx).findSome? fun x =>
      if 47 < x.1 ∨ (portCfg (s.portRow (portOf x.1))).tx ≠ .listener ∨ ((designated bs).take x.2).contains x.1 then
        some (1 + x.2)
      else none

/-- 08 R245: DESIGNATE; in VIGIL the new list takes effect at once. -/
def execDesignate (msg : Msg) (s : State) : Host.Outcome State Fault Refusal :=
  .next (s.serve msg 0x0408 inAll s.designateFault fun s bs =>
    let s := s.setSettings fun t => { t with designated := (designated bs).map portOf }
    let s := if s.mode = .vigil then s.eachPort fun s p =>
        if s.parks p then (if (s.port p).parked then s else s.park p)
        else if (s.port p).parked then s.unpark p else s
      else s
    s.changed msg 0x0408 [])

/-- Items of the HOST view until the maximum is reached or the view is empty (08 R246). -/
def State.tapItems : Nat → State → Nat → List Byte → State × List Byte
  | 0, s, _, out => (s, out)
  | n + 1, s, most, out =>
    match s.tapHead viewHost with
    | none => (s, if out.length + 4 ≤ most then out ++ [0, 0, 0, 0xFF] else out)
    | some i =>
      let one := s.memBytes (cellAt (i.cells.getD 0 0)) 24 ++ pad4 i.payload
      if most < out.length + one.length then (s, out)
      else State.tapItems n (s.unlink viewHost i.id) most (out ++ one)

/-- 08 R246: TAP-READ. -/
def execTapRead (msg : Msg) (s : State) : Host.Outcome State Fault Refusal :=
  .next (s.serve msg 0x0409 inWork (exactFault [range 2 376 4088]) fun s bs =>
    let got := State.tapItems ((s.view viewHost).queue.length + 1) s (fieldAt bs 0 2) []
    let s := got.1
    let out := got.2
    s.done msg 0x0409 out)

/-- 08 R244: BOOKS. -/
def execBooks (msg : Msg) (s : State) : Host.Outcome State Fault Refusal :=
  .next (s.serve msg 0x040B inAll (exactFault []) fun s _ =>
    s.done msg 0x040B (leBytes 2 s.freeCount ++ leBytes 2 s.reservedCount ++ leBytes 2 s.heldCount ++
      leBytes 2 s.voidedCount ++ leBytes 2 (min s.freeCount 128) ++ leBytes 2 s.power.audit.toNat))

end Sys2Proof.Machine
end

