-- ==== Sys2Proof/Machine/Dispatch.lean ====
section
/-!
DEFINITION. One arm per command of the table: the meaning it calls, or its refusal by name.
-/
namespace Sys2Proof.Machine

/-- The effect of a command on everything but the queue. -/
def exec (i : Instr) (s : State) : Host.Outcome State Fault Refusal :=
  match i with
  | .powerOnResetRelease rank waitOd orderMet => Sys2Proof.Machine.execPowerOnResetRelease rank waitOd orderMet s
  | .resetComplete => Sys2Proof.Machine.execResetComplete s
  | .supplyCollapse => Sys2Proof.Machine.execSupplyCollapse s
  | .orderFault => Sys2Proof.Machine.execOrderFault s
  | .vanaLost => Sys2Proof.Machine.execVanaLost s
  | .vanaBack => Sys2Proof.Machine.execVanaBack s
  | .nresetAssert => Sys2Proof.Machine.execNresetAssert s
  | .nresetRelease rank waitOd => Sys2Proof.Machine.execNresetRelease rank waitOd s
  | .deviceReset => Sys2Proof.Machine.execDeviceReset s
  | .hresetAssert => Sys2Proof.Machine.execHresetAssert s
  | .hresetRelease => Sys2Proof.Machine.execHresetRelease s
  | .tallyLost => Sys2Proof.Machine.execTallyLost s
  | .tallyBack => Sys2Proof.Machine.execTallyBack s
  | .paceUpdate count => Sys2Proof.Machine.execPaceUpdate count s
  | .tempConversion reading => Sys2Proof.Machine.execTempConversion reading s
  | .auditSet bit => Sys2Proof.Machine.execAuditSet bit s
  | .requestHold win => Sys2Proof.Machine.execRequestHold win s
  | .requestLoad win => Sys2Proof.Machine.execRequestLoad win s
  | .requestProve win => Sys2Proof.Machine.execRequestProve win s
  | .requestRun win => Sys2Proof.Machine.execRequestRun win s
  | .requestTrim win => Sys2Proof.Machine.execRequestTrim win s
  | .requestVigil win => Sys2Proof.Machine.execRequestVigil win s
  | .requestDoze win => Sys2Proof.Machine.execRequestDoze win s
  | .requestProbe win => Sys2Proof.Machine.execRequestProbe win s
  | .modereqUnknown win code => Sys2Proof.Machine.execModereqUnknown win code s
  | .dozeDrainTimeout => Sys2Proof.Machine.execDozeDrainTimeout s
  | .selfTestEnd result => Sys2Proof.Machine.execSelfTestEnd result s
  | .modeTransitionComplete dutyIn => Sys2Proof.Machine.execModeTransitionComplete dutyIn s
  | .wakeEdge port mark => Sys2Proof.Machine.execWakeEdge port mark s
  | .culvertTimeout kind => Sys2Proof.Machine.execCulvertTimeout kind s
  | .clash kind => Sys2Proof.Machine.execClash kind s
  | .accessAbandoned kind => Sys2Proof.Machine.execAccessAbandoned kind s
  | .registerWrite win offset value => Sys2Proof.Machine.execRegisterWrite win offset value s
  | .splitLowWrite ch reg value => Sys2Proof.Machine.execSplitLowWrite ch reg value s
  | .elapsed0Read reg => Sys2Proof.Machine.execElapsed0Read reg s
  | .irqstatWrite value => Sys2Proof.Machine.execIrqstatWrite value s
  | .irqforceWrite value => Sys2Proof.Machine.execIrqforceWrite value s
  | .winpageWrite value => Sys2Proof.Machine.execWinpageWrite value s
  | .winaddrWrite value => Sys2Proof.Machine.execWinaddrWrite value s
  | .winctlWrite value => Sys2Proof.Machine.execWinctlWrite value s
  | .windataRead => Sys2Proof.Machine.execWindataRead s
  | .windataWrite value => Sys2Proof.Machine.execWindataWrite value s
  | .readaheadExpire => Sys2Proof.Machine.execReadaheadExpire s
  | .lockRequest value => Sys2Proof.Machine.execLockRequest value s
  | .lockGrant => Sys2Proof.Machine.execLockGrant s
  | .lockRelease => Sys2Proof.Machine.execLockRelease s
  | .lockTimeout => Sys2Proof.Machine.execLockTimeout s
  | .loadStart => Sys2Proof.Machine.execLoadStart s
  | .loadCheckEnd => Sys2Proof.Machine.execLoadCheckEnd s
  | .mboxPost ch value => Sys2Proof.Machine.execMboxPost ch value s
  | .mboxTake ch => Sys2Proof.Machine.execMboxTake ch s
  | .replyPost ch => Sys2Proof.Machine.execReplyPost ch s
  | .mboxRead ch => Sys2Proof.Machine.execMboxRead ch s
  | .inAbortedClear ch => Sys2Proof.Machine.execInAbortedClear ch s
  | .attend ch => Sys2Proof.Machine.execAttend ch s
  | .flushDone ch => Sys2Proof.Machine.execFlushDone ch s
  | .timeMark ch => Sys2Proof.Machine.execTimeMark ch s
  | .doorbellLampTest ch => Sys2Proof.Machine.execDoorbellLampTest ch s
  | .doorbellRelease ch => Sys2Proof.Machine.execDoorbellRelease ch s
  | .hostAlive ch => Sys2Proof.Machine.execHostAlive ch s
  | .journalSync ch => Sys2Proof.Machine.execJournalSync ch s
  | .auditRecheck ch stands => Sys2Proof.Machine.execAuditRecheck ch stands s
  | .hostWatchLapse => Sys2Proof.Machine.execHostWatchLapse s
  | .tagHostRead => Sys2Proof.Machine.execTagHostRead s
  | .tagHostWrite => Sys2Proof.Machine.execTagHostWrite s
  | .tagLock => Sys2Proof.Machine.execTagLock s
  | .tagUnlock => Sys2Proof.Machine.execTagUnlock s
  | .tagBadOp op => Sys2Proof.Machine.execTagBadOp op s
  | .tagHostOpDone verified => Sys2Proof.Machine.execTagHostOpDone verified s
  | .watchdogExpire => Sys2Proof.Machine.execWatchdogExpire s
  | .engineFault => Sys2Proof.Machine.execEngineFault s
  | .engineRestartDone => Sys2Proof.Machine.execEngineRestartDone s
  | .bodycrcRecheck => Sys2Proof.Machine.execBodycrcRecheck s
  | .unknownCommand code msg => Sys2Proof.Machine.execUnknownCommand code msg s
  | .version msg => Sys2Proof.Machine.execVersion msg s
  | .setEpoch msg => Sys2Proof.Machine.execSetEpoch msg s
  | .getTime msg => Sys2Proof.Machine.execGetTime msg s
  | .digest msg => Sys2Proof.Machine.execDigest msg s
  | .hostWatch msg => Sys2Proof.Machine.execHostWatch msg s
  | .heartbeat msg => Sys2Proof.Machine.execHeartbeat msg s
  | .pvyshInterval => Sys2Proof.Machine.execPvyshInterval s
  | .mgmtSet msg => Sys2Proof.Machine.execMgmtSet msg s
  | .mgmtRead msg => Sys2Proof.Machine.execMgmtRead msg s
  | .events msg => Sys2Proof.Machine.execEvents msg s
  | .portSet msg => Sys2Proof.Machine.execPortSet msg s
  | .portGet msg => Sys2Proof.Machine.execPortGet msg s
  | .portRetire msg => Sys2Proof.Machine.execPortRetire msg s
  | .portRetireDone port => Sys2Proof.Machine.execPortRetireDone port s
  | .portReturn msg => Sys2Proof.Machine.execPortReturn msg s
  | .portStats msg => Sys2Proof.Machine.execPortStats msg s
  | .sieveLoad msg => Sys2Proof.Machine.execSieveLoad msg s
  | .sieveCommit msg => Sys2Proof.Machine.execSieveCommit msg s
  | .sieveCopyDone => Sys2Proof.Machine.execSieveCopyDone s
  | .sieveGet msg => Sys2Proof.Machine.execSieveGet msg s
  | .sieveHits msg => Sys2Proof.Machine.execSieveHits msg s
  | .weirSet msg => Sys2Proof.Machine.execWeirSet msg s
  | .weirGet msg => Sys2Proof.Machine.execWeirGet msg s
  | .viewSet msg => Sys2Proof.Machine.execViewSet msg s
  | .viewGet msg => Sys2Proof.Machine.execViewGet msg s
  | .viewFlush msg => Sys2Proof.Machine.execViewFlush msg s
  | .ingressFlush msg => Sys2Proof.Machine.execIngressFlush msg s
  | .sluiceFlush msg => Sys2Proof.Machine.execSluiceFlush msg s
  | .viewRetire msg => Sys2Proof.Machine.execViewRetire msg s
  | .viewReturn msg => Sys2Proof.Machine.execViewReturn msg s
  | .designate msg => Sys2Proof.Machine.execDesignate msg s
  | .tapRead msg => Sys2Proof.Machine.execTapRead msg s
  | .hostInject msg => Sys2Proof.Machine.execHostInject msg s
  | .books msg => Sys2Proof.Machine.execBooks msg s
  | .hedgeSet msg => Sys2Proof.Machine.execHedgeSet msg s
  | .headSet msg => Sys2Proof.Machine.execHeadSet msg s
  | .headGet msg => Sys2Proof.Machine.execHeadGet msg s
  | .headRetire msg => Sys2Proof.Machine.execHeadRetire msg s
  | .headReturn msg => Sys2Proof.Machine.execHeadReturn msg s
  | .headReturnDone bus head silent => Sys2Proof.Machine.execHeadReturnDone bus head silent s
  | .lampSet msg => Sys2Proof.Machine.execLampSet msg s
  | .lampGet msg => Sys2Proof.Machine.execLampGet msg s
  | .alarmAck msg => Sys2Proof.Machine.execAlarmAck msg s
  | .alarmSet msg => Sys2Proof.Machine.execAlarmSet msg s
  | .lampTest msg => Sys2Proof.Machine.execLampTest msg s
  | .pairSet msg dutyIn => Sys2Proof.Machine.execPairSet msg dutyIn s
  | .pairArm msg => Sys2Proof.Machine.execPairArm msg s
  | .pairDisarm msg => Sys2Proof.Machine.execPairDisarm msg s
  | .pairStatus msg => Sys2Proof.Machine.execPairStatus msg s
  | .pairHandover msg => Sys2Proof.Machine.execPairHandover msg s
  | .pairHandoverDone dutyIn => Sys2Proof.Machine.execPairHandoverDone dutyIn s
  | .journalStatus msg => Sys2Proof.Machine.execJournalStatus msg s
  | .journalRead msg errors => Sys2Proof.Machine.execJournalRead msg errors s
  | .journalMark msg => Sys2Proof.Machine.execJournalMark msg s
  | .journalFormat msg => Sys2Proof.Machine.execJournalFormat msg s
  | .journalFormatDone bad => Sys2Proof.Machine.execJournalFormatDone bad s
  | .journalKinds msg => Sys2Proof.Machine.execJournalKinds msg s
  | .tagPublish msg => Sys2Proof.Machine.execTagPublish msg s
  | .publishDone => Sys2Proof.Machine.execPublishDone s
  | .autoPublish => Sys2Proof.Machine.execAutoPublish s
  | .tagRecord msg => Sys2Proof.Machine.execTagRecord msg s
  | .tagInfo msg => Sys2Proof.Machine.execTagInfo msg s
  | .injectEnable msg => Sys2Proof.Machine.execInjectEnable msg s
  | .injectSet msg => Sys2Proof.Machine.execInjectSet msg s
  | .injectClear msg => Sys2Proof.Machine.execInjectClear msg s
  | .loopback msg => Sys2Proof.Machine.execLoopback msg s
  | .ampSweep msg => Sys2Proof.Machine.execAmpSweep msg s
  | .ampSweepDone port volts => Sys2Proof.Machine.execAmpSweepDone port volts s
  | .counters msg => Sys2Proof.Machine.execCounters msg s
  | .startEdge port mark => Sys2Proof.Machine.execStartEdge port mark s
  | .characterStored port samples volts => Sys2Proof.Machine.execCharacterStored port samples volts s
  | .autobaudAccept port edges volts => Sys2Proof.Machine.execAutobaudAccept port edges volts s
  | .breakSeen port => Sys2Proof.Machine.execBreakSeen port s
  | .stuckSeen port => Sys2Proof.Machine.execStuckSeen port s
  | .portStuck port => Sys2Proof.Machine.execPortStuck port s
  | .portRearmed port => Sys2Proof.Machine.execPortRearmed port s
  | .silenceLapse port => Sys2Proof.Machine.execSilenceLapse port s
  | .driverHot port => Sys2Proof.Machine.execDriverHot port s
  | .driverOk port => Sys2Proof.Machine.execDriverOk port s
  | .assemblerTake port => Sys2Proof.Machine.execAssemblerTake port s
  | .sieveDecision => Sys2Proof.Machine.execSieveDecision s
  | .weirRefill gov => Sys2Proof.Machine.execWeirRefill gov s
  | .deferCommit gov => Sys2Proof.Machine.execDeferCommit gov s
  | .alarmCellWaitEnd => Sys2Proof.Machine.execAlarmCellWaitEnd s
  | .itemBegin port cts => Sys2Proof.Machine.execItemBegin port cts s
  | .ctsResume port cts => Sys2Proof.Machine.execCtsResume port cts s
  | .itemSent port => Sys2Proof.Machine.execItemSent port s
  | .breach port sent => Sys2Proof.Machine.execBreach port sent s
  | .groupAbandon port => Sys2Proof.Machine.execGroupAbandon port s
  | .siltTake => Sys2Proof.Machine.execSiltTake s
  | .recordAccepted => Sys2Proof.Machine.execRecordAccepted s
  | .pageClose => Sys2Proof.Machine.execPageClose s
  | .pageProgrammed pass errors => Sys2Proof.Machine.execPageProgrammed pass errors s
  | .eraseDone ok => Sys2Proof.Machine.execEraseDone ok s
  | .nandTimeout op => Sys2Proof.Machine.execNandTimeout op s
  | .scrubRead errors => Sys2Proof.Machine.execScrubRead errors s
  | .journalMount => Sys2Proof.Machine.execJournalMount s
  | .engineViewTake => Sys2Proof.Machine.execEngineViewTake s
  | .pollingRoundStart bus => Sys2Proof.Machine.execPollingRoundStart bus s
  | .hedgeCommandSend port => Sys2Proof.Machine.execHedgeCommandSend port s
  | .replyAccepted bus frame => Sys2Proof.Machine.execReplyAccepted bus frame s
  | .replyTimeout bus => Sys2Proof.Machine.execReplyTimeout bus s
  | .frameGapTimeout port => Sys2Proof.Machine.execFrameGapTimeout port s
  | .frameAbandoned port => Sys2Proof.Machine.execFrameAbandoned port s
  | .readbackMismatch port => Sys2Proof.Machine.execReadbackMismatch port s
  | .attentionTaken bus tenths => Sys2Proof.Machine.execAttentionTaken bus tenths s
  | .rollCallEnd bus answers => Sys2Proof.Machine.execRollCallEnd bus answers s
  | .sleepPropose bus msLeft => Sys2Proof.Machine.execSleepPropose bus msLeft s
  | .objectionWindowEnd bus objected => Sys2Proof.Machine.execObjectionWindowEnd bus objected s
  | .sleepAbort bus onCommit => Sys2Proof.Machine.execSleepAbort bus onCommit s
  | .busWake bus byPulse => Sys2Proof.Machine.execBusWake bus byPulse s
  | .busBlind port => Sys2Proof.Machine.execBusBlind port s
  | .blindProbe bus reading => Sys2Proof.Machine.execBlindProbe bus reading s
  | .busRecovered port => Sys2Proof.Machine.execBusRecovered port s
  | .headCommandReceived port frame => Sys2Proof.Machine.execHeadCommandReceived port frame s
  | .lampLapse lamp => Sys2Proof.Machine.execLampLapse lamp s
  | .alarmRepeat lamp => Sys2Proof.Machine.execAlarmRepeat lamp s
  | .lampTestEnd lamp => Sys2Proof.Machine.execLampTestEnd lamp s
  | .heartbeatSend => Sys2Proof.Machine.execHeartbeatSend s
  | .heartbeatReceived hdr beat dutyIn => Sys2Proof.Machine.execHeartbeatReceived hdr beat dutyIn s
  | .mirrorFrame hdr records => Sys2Proof.Machine.execMirrorFrame hdr records s
  | .deliveredFrame hdr records => Sys2Proof.Machine.execDeliveredFrame hdr records s
  | .itemFrame hdr item => Sys2Proof.Machine.execItemFrame hdr item s
  | .lampFrame hdr records => Sys2Proof.Machine.execLampFrame hdr records s
  | .epochFrame hdr epoch => Sys2Proof.Machine.execEpochFrame hdr epoch s
  | .handoverFrame hdr nextSeq dutyIn => Sys2Proof.Machine.execHandoverFrame hdr nextSeq dutyIn s
  | .catchupEnd hdr nextSeq => Sys2Proof.Machine.execCatchupEnd hdr nextSeq s
  | .ackOnly hdr => Sys2Proof.Machine.execAckOnly hdr s
  | .pleachFrameDropped bytes => Sys2Proof.Machine.execPleachFrameDropped bytes s
  | .retransmit => Sys2Proof.Machine.execRetransmit s
  | .linkLost dutyIn => Sys2Proof.Machine.execLinkLost dutyIn s
  | .missing pairSeq => Sys2Proof.Machine.execMissing pairSeq s
  | .orphan item => Sys2Proof.Machine.execOrphan item s
  | .dutyClaim dutyIn => Sys2Proof.Machine.execDutyClaim dutyIn s
  | .dutyYield => Sys2Proof.Machine.execDutyYield s
  | .dutyEngineDown => Sys2Proof.Machine.execDutyEngineDown s
  | .offsetAdopt => Sys2Proof.Machine.execOffsetAdopt s
  | .pairFormed => Sys2Proof.Machine.execPairFormed s
  | .splitConfig => Sys2Proof.Machine.execSplitConfig s
  | .takeOver => Sys2Proof.Machine.execTakeOver s
  | .fieldArrives => Sys2Proof.Machine.execFieldArrives s
  | .fieldLeaves collapse => Sys2Proof.Machine.execFieldLeaves collapse s
  | .inventory req => Sys2Proof.Machine.execInventory req s
  | .stayQuiet req => Sys2Proof.Machine.execStayQuiet req s
  | .readSingleBlock req block => Sys2Proof.Machine.execReadSingleBlock req block s
  | .writeSingleBlock req block data energy => Sys2Proof.Machine.execWriteSingleBlock req block data energy s
  | .lockBlock req block energy => Sys2Proof.Machine.execLockBlock req block energy s
  | .readMultipleBlocks req first count => Sys2Proof.Machine.execReadMultipleBlocks req first count s
  | .select req => Sys2Proof.Machine.execSelect req s
  | .resetToReady req => Sys2Proof.Machine.execResetToReady req s
  | .getSystemInformation req => Sys2Proof.Machine.execGetSystemInformation req s
  | .getMultipleBlockSecurityStatus req first count => Sys2Proof.Machine.execGetMultipleBlockSecurityStatus req first count s
  | .extendedReadSingleBlock req block => Sys2Proof.Machine.execExtendedReadSingleBlock req block s
  | .extendedWriteSingleBlock req block data energy => Sys2Proof.Machine.execExtendedWriteSingleBlock req block data energy s
  | .extendedReadMultipleBlocks req first count => Sys2Proof.Machine.execExtendedReadMultipleBlocks req first count s
  | .extendedGetSystemInformation req => Sys2Proof.Machine.execExtendedGetSystemInformation req s
  | .unsupportedTagCommand req code => Sys2Proof.Machine.execUnsupportedTagCommand req code s
  | .fieldWriteDone => Sys2Proof.Machine.execFieldWriteDone s
  | .fieldSessionEnd => Sys2Proof.Machine.execFieldSessionEnd s
  | .mgmtEntryDue entry => Sys2Proof.Machine.execMgmtEntryDue entry s
  | .mgmtTransactionEnd result => Sys2Proof.Machine.execMgmtTransactionEnd result s
  | .stretchFault => Sys2Proof.Machine.execStretchFault s
  | .busRecovery result => Sys2Proof.Machine.execBusRecovery result s
  | .mbStuckRecheck result => Sys2Proof.Machine.execMbStuckRecheck result s
  | .reorderRelease slot => Sys2Proof.Machine.execReorderRelease slot s
  | .extest shift balls => Sys2Proof.Machine.execExtest shift balls s
  | .highz => Sys2Proof.Machine.execHighz s
  | .idcode => Sys2Proof.Machine.execIdcode s
  | .samplePreload shift balls => Sys2Proof.Machine.execSamplePreload shift balls s
  | .bypass code => Sys2Proof.Machine.execBypass code s
  | .testLogicReset => Sys2Proof.Machine.execTestLogicReset s
  | .splitHighWrite ch reg value => Sys2Proof.Machine.execSplitHighWrite ch reg value s
  | .vanaGood => Sys2Proof.Machine.execVanaGood s
  | .handoverDrainTimeout => Sys2Proof.Machine.execHandoverDrainTimeout s
  | .sleepBegins port => Sys2Proof.Machine.execSleepBegins port s
  | .headBroadcastReceived port frame => Sys2Proof.Machine.execHeadBroadcastReceived port frame s
  | .headAttentionPulse port => Sys2Proof.Machine.execHeadAttentionPulse port s
  | .headSleepEnds port => Sys2Proof.Machine.execHeadSleepEnds port s

end Sys2Proof.Machine
end

