-- ==== Sys2Proof/Machine/Pins.lean ====
section
/-!
DEFINITION. The output balls as the state has them (02 Table - Pin states before RUN, 03 Table - Pins in the working modes,
04 R104, 09 R268-R270, R284, 10 R299, 15 R447, 18 R541, 21 R637, R638): what each carries, and the bits of a sent character.
-/
namespace Sys2Proof.Machine

/-- What the device puts on a ball: a level, nothing (high-impedance or released), or the levels of a unit that works its
cycles there, which last less than a command. -/
inductive Drive where
  | low | high | off | working
  deriving DecidableEq, Repr

def levelOf (b : Bool) : Drive := if b then .high else .low

/-- An open-drain ball. -/
def pullOf (low : Bool) : Drive := if low then .low else .off

/-- A ball of the chain under the instruction loaded (21 R637, R638): high-impedance under HIGHZ, as its cells have it under
EXTEST, else as the core has it. -/
def Jtag.ball (j : Jtag) (core cell : Drive) : Drive := if j.highz then .off else if j.detached then cell else core

/-! ### Characters as they are sent (10 R299) -/

/-- The bits of a character in the order sent, mark being true: start, data from bit 0 up, the mark bit or the parity bit,
stop bits. -/
def sentBits (c : PortCfg) (ch : Half) : List Bool :=
  let data := (List.range 8).map fun k => ch.getLsbD k
  let ninth := if c.nine then [ch.getLsbD 8] else if c.parity = 0 then [] else [parityBit c.parity data]
  [false] ++ data ++ ninth ++ (if c.stop2 && !c.nine then [true, true] else [true])

/-- The bits of an item on a listener's line: its characters in the format of the row that is in force. -/
def State.itemBits (s : State) (p : PortNo) : List Bool :=
  match (s.port p).tx.sending with
  | some x => (x.bytes.map fun b => sentBits (s.port p).txc (b.setWidth 16)).flatten
  | none => []

/-- Where a transmit pacer stands: at rest, in the bit time before the start bit of a frame's first character, in a bit, or
in the bit time after the stop bit of its last. -/
inductive TxPhase where
  | rest | before | bit (mark : Bool) | after
  deriving DecidableEq, Repr

/-- The phases of a frame on a hedge bus: the driver is enabled one bit time before it and released one after (09 R269, 15
Table - One exchange at 57,600 Bd). -/
def framePhases (bits : List Bool) : List TxPhase := [.before] ++ bits.map .bit ++ [.after]

def TxPhase.mark : TxPhase → Bool
  | .bit b => b
  | .rest | .before | .after => true

def TxPhase.framing : TxPhase → Bool
  | .rest => false
  | .before | .bit _ | .after => true

/-! ### Port balls -/

/-- The VANA guard of 02 R42 holds. -/
def State.vanaGuard (s : State) : Bool := !(s.power.vanaGood && s.alive)

/-- The core drives the port's pair (09 Table - Port pins by mode): a listener's while its driver is enabled, a hedge port's
within a frame, nothing else. -/
def State.enables (s : State) (p : PortNo) (t : TxPhase) : Bool :=
  !s.vanaGuard && match (s.port p).txc.tx with
  | .off => false
  | .listener => (s.port p).driver
  | .hedge => s.mayDrive p && t.framing

/-- Pnn_OA and Pnn_OB as the core has them. DIFFERENTIAL: a positive V(OA) - V(OB) is mark (09 R262). BYPASS: OA carries the
data, high for mark, and OB the enable (Table - Bypass ball functions, R269); both are high-impedance where the table of modes
says so. -/
def State.corePair (s : State) (p : PortNo) (t : TxPhase) : Drive × Drive :=
  let q := s.port p
  if q.txc.bypass then
    let rests := decide (q.txc.tx = .hedge) && s.roadRuns && !s.vanaGuard
    if s.enables p t then (levelOf t.mark, .high) else if rests then (.high, .low) else (.off, .off)
  else if s.enables p t then (levelOf t.mark, levelOf (!t.mark)) else (.off, .off)

/-- Pnn_OA and Pnn_OB. Under EXTEST their one data and one enable cell drive them, unless the VANA guard holds (21 R637). -/
def State.pairBalls (s : State) (p : PortNo) (t : TxPhase) : Drive × Drive :=
  let core := s.corePair p t
  let o := s.jtag.out
  let on := o.portEnable.getLsbD p.val && !s.vanaGuard
  let mark := o.portData.getLsbD p.val
  (s.jtag.ball core.1 (if on then levelOf mark else .off), s.jtag.ball core.2 (if on then levelOf (!mark) else .off))

/-- Pnn_RTS, asserted low (10 R306). -/
def State.rtsBall (s : State) (p : PortNo) : Drive :=
  let live := s.alive && (s.roadRuns || decide (s.mode = .doze))
  s.jtag.ball (levelOf (!(live && (s.port p).rts))) (levelOf (s.jtag.out.rts.getLsbD p.val))

/-- Pnn_CTS is sampled: with CTSFLOW on a listener, outside HOLD, LOAD, PROVE and DOZE and not in a loopback. -/
def State.ctsSampled (s : State) (p : PortNo) : Bool :=
  let q := s.port p
  s.roadRuns && q.txc.ctsFlow && decide (q.txc.tx = .listener) && decide (q.loop ≠ .internal) &&
    (decide (s.mode ≠ .vigil) || s.settings.designated.contains p)

/-! ### Host bus -/

/-- nWAIT in a cycle: `selected` is that a chip select is low, `waits` that the cycle is not yet complete (04 R104, R137). -/
def State.nWaitBall (s : State) (selected waits : Bool) : Drive :=
  let core : Drive :=
    if !s.released || s.culvert.hreset then .off
    else if s.power.waitOd then pullOf (selected && waits)
    else if selected then levelOf (!waits)
    else .off
  s.jtag.ball core (if s.power.waitOd then pullOf (!s.jtag.out.nWait) else levelOf s.jtag.out.nWait)

/-- HD[15:0] in a read cycle; nothing at any other time. -/
def State.hdBalls (s : State) (reading : Bool) : Option Half :=
  if s.jtag.highz then none
  else if s.jtag.detached then (if s.jtag.out.hdEnable then some s.jtag.out.hd else none)
  else if reading && s.busServed then some s.culvert.hostData
  else none

def State.nIrqBall (s : State) : Drive := s.jtag.ball (pullOf (s.released && s.nIrqLow)) (pullOf (!s.jtag.out.nIrq))
def State.nIrqkBall (s : State) : Drive := s.jtag.ball (pullOf (s.released && s.nIrqkLow)) (pullOf (!s.jtag.out.nIrqk))

/-! ### NAND -/

/-- Silt drives the NAND balls: in the working modes, for its probe in PROVE, and in DOZE until the operation in progress
ends (18 Table - Journal by mode). -/
def State.siltDrives (s : State) : Bool :=
  s.roadRuns || (s.alive && (decide (s.mode = .prove) || s.proving)) ||
    (s.siltDozes && s.journal.nand.any fun n => n.left.isSome)

/-- A PAGE PROGRAM or a BLOCK ERASE is in progress: of the running journal, of the operation that DOZE lets end, or of a
format. The read-back is part of a program here (DESIGN CHOICE, log entry 166). -/
def State.programsOrErases (s : State) : Bool :=
  (s.siltRuns && s.journal.nand.any fun n => (n.work s.journal.closed).isSome) ||
    (s.siltDozes && s.journal.nand.any fun n => n.left.isSome) || (s.serves && decide (s.journal.state = 4))

/-- nNWP is high while one is, and low at all other times (18 R541). -/
def State.nNwpBall (s : State) : Drive := s.jtag.ball (levelOf s.programsOrErases) (levelOf s.jtag.out.nNwp)

/-- nNCE0, nNCE1, nNWE and nNRE, high at rest; a second target that is not used keeps nNCE1 high. -/
def State.nandStrobe (s : State) (cell : Bool) : Drive :=
  s.jtag.ball (if s.siltDrives then .working else .high) (levelOf cell)

def State.nNce1Ball (s : State) : Drive :=
  let second := decide (s.mode = .prove) || s.journal.nand.any fun n => decide (2 ≤ n.geom.listed.length)
  s.jtag.ball (if s.siltDrives && second then .working else .high) (levelOf s.jtag.out.nNce1)

/-- NCLE and NALE, low at rest. -/
def State.nandLatch (s : State) (cell : Bool) : Drive :=
  s.jtag.ball (if s.siltDrives then .working else .low) (levelOf cell)

def State.ndBalls (s : State) : Drive :=
  s.jtag.ball (if s.siltDrives then .working else .off) (if s.jtag.out.ndEnable then .working else .off)

/-- The host port charges the tag's store through the bridge (19 R575): while a device-side operation runs. A recovery lasts less
than a command. -/
def State.bridgeCharges (s : State) : Bool := s.power.running && (s.tag.hostOp.isSome || s.tag.publishing.isSome)

/-! ### Management bus, Pleach and the rest -/

/-- MB_SCL and MB_SDA: worked by the transaction in progress, else released. -/
def State.mgmtBall (s : State) (cell : Bool) : Drive :=
  s.jtag.ball (if s.roadRuns && s.mgmt.active.isSome then .working else .off) (pullOf (!cell))

/-- PL_TXA and PL_TXB: driven in the working modes. -/
def State.plTxBalls (s : State) : Drive :=
  s.jtag.ball (if s.roadRuns then .working else .off) (if s.jtag.out.plTxEnable then levelOf s.jtag.out.plTx else .off)

/-- PL_DUTY_OUT: low where the device holds no duty (02 R51, 17 R521). -/
def State.dutyBall (s : State) : Drive :=
  s.jtag.ball (levelOf (s.alive && s.pair.dutyOut)) (levelOf s.jtag.out.plDutyOut)

/-- TDO: high-impedance unless a shift goes on, which no state between two commands shows. -/
def State.tdoBall (_ : State) : Drive := .off

/-- AMON: high-impedance up to RUN; its level is undefined then (23 R674). -/
def State.amonBall (s : State) : Drive := if s.roadRuns || decide (s.mode = .doze) then .working else .off

end Sys2Proof.Machine
end

