-- ==== Sys2Proof/Safety.lean ====
section
/-!
DEFINITION. What a step keeps, and the words in which a statement says what a command leaves as it was.
-/
namespace Sys2Proof.Machine

/-- The fabric memory is canonical: addresses of the 1 MiB space, rising, no byte 0 listed. -/
def MemCanonical (s : State) : Prop := Memory.wf s.mem = true

/-- The Culvert's registers but the two interrupt status registers. -/
def Culvert.bare (c : Culvert) : Culvert := { c with irqstat := 0, kirqstat := 0 }

/-- A channel but its BELLIN bits and the replies that wait. -/
def ChanRegs.bare (r : ChanRegs) : ChanRegs := { r with bellIn := 0, replies := [] }

/-- The engine but the commands it has taken and accepted and the doorbells it owes. -/
def Engine.bare (e : Engine) : Engine := { e with taken := [], accepted := [], lastServed := .n, owedBells := 0 }

/-- The settings but the EVENTS flags and what counts configuration changes. -/
def Settings.bare (g : Settings) : Settings :=
  { g with devFlags := 0, portFlags := 0, changes := 0, lastChange := 0, digest := 0 }

/-- A port but its transmit side. -/
def Port.bare (q : Port) : Port := { q with tx := Tx.reset }

/-- The bytes at the addresses from `lo` to `hi - 1` are the same. -/
def State.sameBytes (lo hi : Nat) (s t : State) : Prop :=
  ∀ a, lo ≤ a → a < hi → Memory.read t.mem a = Memory.read s.mem a

/-- The parts of the state: every field but the queue of waiting commands; some fields are several parts. `mem` is the
whole listing of the fabric memory; `code`, `pool`, `boxes` and `rows` are the bytes of its regions (01 R25, Table - Memory
map): program memory, the cell pool, what lies between it and the tables, and everything from the tables region up.
`acks`, `hush` and `drops` are what a command does that clears an interrupt bit, clears a BELLIN bit, or takes a waiting
reply away. -/
inductive Part where
  | mem | code | pool | boxes | rows | draws | power | modes | irq | acks | culvert | bells | hush | replies | drops
  | chanN | chanK | engine | work | settings | events | changes | counting | ports | tx | sieve | govs | sluice | lamps
  | buses | heads | pair | journal | tag | mgmt | inject | jtag | dozeEvents
  deriving DecidableEq, Repr

/-- `t` leaves the part `p` of `s` as it was. -/
def State.same (p : Part) (s t : State) : Prop :=
  match p with
  | .mem => t.mem = s.mem
  | .code => s.sameBytes 0 0x40000 t
  | .pool => s.sameBytes 0x40000 0xC0000 t
  | .boxes => s.sameBytes 0xC0000 0xF0000 t
  | .rows => s.sameBytes 0xF0000 0x100000 t
  | .draws => t.draws = s.draws
  | .power => t.power = s.power
  | .modes => t.modes = s.modes
  | .irq => t.culvert.irqstat = s.culvert.irqstat ∧ t.culvert.kirqstat = s.culvert.kirqstat
  | .acks => ∀ k, (s.culvert.irqstat.getLsbD k = true → t.culvert.irqstat.getLsbD k = true) ∧
      (s.culvert.kirqstat.getLsbD k = true → t.culvert.kirqstat.getLsbD k = true)
  | .culvert => t.culvert.bare = s.culvert.bare
  | .bells => t.chanN.bellIn = s.chanN.bellIn ∧ t.chanK.bellIn = s.chanK.bellIn ∧ t.engine.owedBells = s.engine.owedBells
  | .hush => ∀ k, (s.chanN.bellIn.getLsbD k = true → t.chanN.bellIn.getLsbD k = true) ∧
      (s.chanK.bellIn.getLsbD k = true → t.chanK.bellIn.getLsbD k = true)
  | .replies => t.chanN.replies = s.chanN.replies ∧ t.chanK.replies = s.chanK.replies
  | .drops => s.chanN.replies <+: t.chanN.replies ∧ s.chanK.replies <+: t.chanK.replies
  | .chanN => t.chanN.bare = s.chanN.bare
  | .chanK => t.chanK.bare = s.chanK.bare
  | .engine => t.engine.bare = s.engine.bare
  | .work => t.engine.taken = s.engine.taken ∧ t.engine.accepted = s.engine.accepted ∧
      t.engine.lastServed = s.engine.lastServed
  | .settings => t.settings.bare = s.settings.bare
  | .events => t.settings.devFlags = s.settings.devFlags ∧ t.settings.portFlags = s.settings.portFlags
  | .changes => t.settings.changes = s.settings.changes ∧ t.settings.lastChange = s.settings.lastChange ∧
      t.settings.digest = s.settings.digest
  | .counting => t.counting = s.counting
  | .ports => ∀ p, (t.ports.get p).bare = (s.ports.get p).bare
  | .tx => ∀ p, (t.ports.get p).tx = (s.ports.get p).tx
  | .sieve => t.sieve = s.sieve
  | .govs => t.govs = s.govs
  | .sluice => t.sluice = s.sluice
  | .lamps => t.lamps = s.lamps
  | .buses => t.buses = s.buses
  | .heads => t.heads = s.heads
  | .pair => t.pair = s.pair
  | .journal => t.journal = s.journal
  | .tag => t.tag = s.tag
  | .mgmt => t.mgmt = s.mgmt
  | .inject => t.inject = s.inject
  | .jtag => t.jtag = s.jtag
  | .dozeEvents => t.dozeEvents = s.dozeEvents

/-- `t` differs from `s` at most in the parts `ps`, and not in the queue. -/
def Only (ps : List Part) (s t : State) : Prop :=
  t.pending = s.pending ∧ ∀ p, ps.contains p = false → State.same p s t

/-- The parts of the state that a command can change, through everything that its effect sets in motion. -/
def parts (c : Instr) : List Part :=
  match c with
  | .powerOnResetRelease .. | .supplyCollapse | .nresetAssert | .deviceReset | .registerWrite .. =>
    [.mem, .code, .pool, .boxes, .rows, .draws, .power, .modes, .irq, .acks, .culvert, .bells, .hush, .replies,
      .drops, .chanN, .chanK, .engine, .work, .settings, .events, .changes, .counting, .ports, .tx, .sieve, .govs,
      .sluice, .lamps, .buses, .heads, .pair, .journal, .tag, .mgmt, .inject, .dozeEvents]
  | .resetComplete =>
    [.mem, .rows, .power, .modes, .irq, .counting, .tag]
  | .orderFault | .nresetRelease .. | .tempConversion .. =>
    [.power]
  | .vanaLost | .vanaBack =>
    [.mem, .pool, .draws, .power, .irq, .bells, .events, .ports, .tx, .sluice, .journal, .dozeEvents]
  | .hresetAssert =>
    [.mem, .pool, .draws, .irq, .culvert, .bells, .replies, .chanN, .chanK, .changes, .ports, .tx, .sieve, .sluice,
      .lamps, .buses, .heads, .pair, .journal, .tag, .inject]
  | .hresetRelease | .winpageWrite .. | .winaddrWrite .. | .winctlWrite .. | .readaheadExpire | .lockGrant =>
    [.culvert]
  | .tallyLost | .tallyBack =>
    [.mem, .pool, .draws, .power, .irq, .bells, .events, .sluice, .journal, .dozeEvents]
  | .paceUpdate .. =>
    [.mem, .pool, .draws, .power, .irq, .bells, .events, .ports, .sluice, .journal, .dozeEvents]
  | .auditSet .. =>
    [.power, .irq, .bells, .ports]
  | .requestHold .. | .requestLoad .. | .requestProve .. | .requestRun .. | .requestTrim .. | .requestVigil ..
  | .requestDoze .. | .requestProbe .. | .modereqUnknown .. =>
    [.mem, .pool, .draws, .modes, .irq, .bells, .hush, .replies, .drops, .chanN, .chanK, .engine, .work, .settings,
      .changes, .counting, .ports, .tx, .sieve, .govs, .sluice, .lamps, .buses, .heads, .pair, .journal, .tag, .mgmt,
      .inject, .dozeEvents]
  | .dozeDrainTimeout | .groupAbandon .. | .reorderRelease .. =>
    [.mem, .pool, .tx, .sluice]
  | .selfTestEnd .. =>
    [.mem, .pool, .rows, .draws, .modes, .irq, .bells, .replies, .chanN, .chanK, .engine, .work, .settings, .events,
      .changes, .ports, .tx, .sieve, .govs, .sluice, .lamps, .buses, .heads, .pair, .journal, .tag, .mgmt, .inject,
      .dozeEvents]
  | .modeTransitionComplete .. =>
    [.mem, .pool, .draws, .modes, .irq, .bells, .replies, .work, .changes, .ports, .tx, .sluice, .lamps, .buses,
      .heads, .pair, .journal, .tag, .mgmt, .inject, .dozeEvents]
  | .wakeEdge .. =>
    [.mem, .pool, .draws, .modes, .irq, .bells, .events, .ports, .sluice, .journal, .dozeEvents]
  | .culvertTimeout .. | .clash .. =>
    [.irq, .culvert]
  | .accessAbandoned .. =>
    []
  | .splitLowWrite .. | .doorbellRelease .. | .hostAlive .. =>
    [.chanN, .chanK]
  | .elapsed0Read .. | .mboxRead .. =>
    [.culvert, .chanN, .chanK]
  | .irqstatWrite .. =>
    [.irq, .acks, .culvert]
  | .irqforceWrite .. =>
    [.irq]
  | .windataRead =>
    [.draws, .irq, .culvert]
  | .windataWrite .. =>
    [.mem, .code, .pool, .boxes, .rows, .irq, .culvert, .engine, .govs]
  | .lockRequest .. | .lockRelease | .lockTimeout =>
    [.mem, .pool, .draws, .irq, .culvert, .bells, .replies, .changes, .ports, .tx, .sieve, .sluice, .lamps, .buses,
      .heads, .pair, .journal, .tag, .inject]
  | .loadStart | .loadCheckEnd =>
    [.engine]
  | .mboxPost .. | .splitHighWrite .. =>
    [.bells, .hush, .replies, .drops, .chanN, .chanK]
  | .mboxTake .. =>
    [.irq, .replies, .chanN, .chanK, .work]
  | .replyPost .. =>
    [.mem, .boxes, .draws, .irq, .bells, .hush, .replies, .drops, .chanN, .chanK, .work]
  | .inAbortedClear .. =>
    [.irq, .chanN, .chanK]
  | .attend .. =>
    [.irq, .bells, .chanN, .chanK]
  | .flushDone .. | .timeMark .. | .journalSync .. =>
    [.chanN, .chanK, .journal]
  | .doorbellLampTest .. =>
    [.mem, .pool, .draws, .irq, .bells, .chanN, .chanK, .ports, .tx, .sluice, .lamps, .buses, .pair, .journal, .tag,
      .inject]
  | .auditRecheck .. =>
    [.power, .irq, .bells, .chanN, .chanK, .ports]
  | .hostWatchLapse =>
    [.mem, .pool, .draws, .irq, .bells, .events, .sluice, .journal, .dozeEvents]
  | .tagHostRead | .tagHostWrite | .tagLock | .tagUnlock | .tagBadOp .. | .fieldArrives =>
    [.irq, .tag]
  | .tagHostOpDone .. | .fieldLeaves .. =>
    [.draws, .irq, .bells, .tag]
  | .watchdogExpire | .engineFault | .bodycrcRecheck =>
    [.mem, .pool, .draws, .modes, .irq, .culvert, .bells, .hush, .replies, .drops, .chanN, .chanK, .engine, .work,
      .changes, .ports, .tx, .sieve, .sluice, .lamps, .buses, .heads, .pair, .journal, .tag, .mgmt, .inject]
  | .engineRestartDone =>
    [.mem, .pool, .draws, .irq, .bells, .replies, .engine, .events, .changes, .ports, .tx, .sieve, .sluice, .lamps,
      .buses, .heads, .pair, .journal, .tag, .mgmt, .inject, .dozeEvents]
  | .unknownCommand .. | .version .. | .getTime .. | .mgmtRead .. | .portGet .. | .sieveGet .. | .weirGet .. | .viewGet ..
  | .books .. | .headGet .. | .lampGet .. | .pairStatus .. | .journalStatus .. | .tagRecord .. | .tagInfo .. | .ampSweep ..
  | .ampSweepDone .. =>
    [.replies, .work]
  | .setEpoch .. =>
    [.replies, .work, .settings, .changes, .pair, .journal, .inject]
  | .digest .. =>
    [.draws, .replies, .work]
  | .hostWatch .. | .heartbeat .. | .alarmSet .. | .journalKinds .. =>
    [.replies, .work, .settings, .changes, .journal]
  | .pvyshInterval =>
    [.mem, .pool, .draws, .sluice]
  | .mgmtSet .. =>
    [.irq, .bells, .replies, .work, .settings, .changes, .journal, .mgmt]
  | .events .. =>
    [.replies, .work, .events]
  | .portSet .. | .hedgeSet .. =>
    [.mem, .pool, .rows, .draws, .irq, .bells, .replies, .work, .changes, .ports, .tx, .sluice, .lamps, .buses,
      .heads, .pair, .journal, .tag, .inject]
  | .portRetire .. | .portRetireDone .. | .ingressFlush .. | .headRetire .. | .pairHandover .. | .pairHandoverDone .. =>
    [.mem, .pool, .draws, .irq, .bells, .replies, .work, .changes, .ports, .tx, .sluice, .lamps, .buses, .heads,
      .pair, .journal, .tag, .inject]
  | .portReturn .. =>
    [.mem, .pool, .replies, .work, .changes, .ports, .sluice, .journal]
  | .portStats .. =>
    [.replies, .work, .ports]
  | .sieveLoad .. | .sieveCommit .. =>
    [.mem, .pool, .rows, .replies, .work, .tx, .sieve, .govs, .sluice, .pair, .inject]
  | .sieveCopyDone =>
    [.mem, .pool, .rows, .replies, .work, .changes, .tx, .sieve, .govs, .sluice, .pair, .journal, .inject]
  | .sieveHits .. =>
    [.replies, .work, .sieve]
  | .weirSet .. =>
    [.mem, .pool, .rows, .replies, .work, .changes, .tx, .govs, .sluice, .pair, .journal, .inject]
  | .viewSet .. =>
    [.mem, .rows, .replies, .work, .changes, .journal]
  | .viewFlush .. | .tapRead .. =>
    [.mem, .pool, .replies, .work, .tx, .sluice]
  | .sluiceFlush .. =>
    [.mem, .pool, .replies, .work, .ports, .tx, .sluice]
  | .viewRetire .. =>
    [.mem, .pool, .rows, .replies, .work, .changes, .ports, .tx, .sluice, .journal]
  | .viewReturn .. =>
    [.replies, .work, .changes, .ports, .sluice, .journal]
  | .designate .. | .pairSet .. =>
    [.mem, .pool, .draws, .irq, .bells, .replies, .work, .settings, .changes, .ports, .tx, .sluice, .lamps, .buses,
      .heads, .pair, .journal, .tag, .inject]
  | .hostInject .. =>
    [.mem, .pool, .draws, .replies, .work, .tx, .sieve, .govs, .sluice, .pair, .inject]
  | .headSet .. =>
    [.mem, .rows, .replies, .work, .changes, .buses, .heads, .journal]
  | .headReturn .. =>
    [.mem, .pool, .draws, .irq, .bells, .replies, .work, .sluice, .buses, .heads, .journal]
  | .headReturnDone .. =>
    [.mem, .pool, .draws, .irq, .bells, .replies, .work, .changes, .ports, .tx, .sluice, .lamps, .pair, .journal,
      .tag, .inject]
  | .lampSet .. =>
    [.mem, .pool, .rows, .draws, .irq, .bells, .replies, .work, .changes, .ports, .tx, .sluice, .lamps, .pair,
      .journal, .tag, .inject]
  | .alarmAck .. =>
    [.mem, .pool, .draws, .irq, .bells, .replies, .work, .ports, .tx, .sluice, .lamps, .pair, .journal, .tag, .inject]
  | .lampTest .. =>
    [.replies, .work, .lamps]
  | .pairArm .. | .pairDisarm .. =>
    [.replies, .work, .changes, .pair, .journal]
  | .journalRead .. | .journalFormatDone .. =>
    [.irq, .bells, .replies, .work, .journal]
  | .journalMark .. | .journalFormat .. =>
    [.replies, .work, .journal]
  | .tagPublish .. | .publishDone =>
    [.replies, .work, .tag]
  | .autoPublish | .inventory .. | .stayQuiet .. | .readSingleBlock .. | .writeSingleBlock .. | .lockBlock ..
  | .readMultipleBlocks .. | .select .. | .resetToReady .. | .getSystemInformation .. | .getMultipleBlockSecurityStatus ..
  | .extendedReadSingleBlock .. | .extendedWriteSingleBlock .. | .extendedReadMultipleBlocks ..
  | .extendedGetSystemInformation .. | .unsupportedTagCommand .. =>
    [.tag]
  | .injectEnable .. | .injectSet .. | .injectClear .. =>
    [.mem, .pool, .replies, .work, .changes, .tx, .sluice, .pair, .journal, .inject]
  | .loopback .. =>
    [.mem, .pool, .replies, .work, .changes, .ports, .tx, .sluice, .journal]
  | .counters .. =>
    [.replies, .work, .tx, .govs, .pair, .journal, .inject]
  | .startEdge .. =>
    [.mem, .pool, .rows, .draws, .modes, .irq, .bells, .events, .ports, .sluice, .journal, .dozeEvents]
  | .characterStored .. | .autobaudAccept .. =>
    [.mem, .pool, .rows, .draws, .irq, .bells, .events, .ports, .sluice, .journal, .dozeEvents]
  | .breakSeen .. | .stuckSeen .. =>
    [.mem, .rows, .ports]
  | .portStuck .. | .portRearmed .. | .silenceLapse .. =>
    [.mem, .pool, .draws, .irq, .bells, .events, .ports, .sluice, .journal, .dozeEvents]
  | .driverHot .. | .driverOk .. =>
    [.mem, .pool, .draws, .irq, .bells, .events, .ports, .tx, .sluice, .journal, .dozeEvents]
  | .assemblerTake .. | .itemSent .. | .breach .. | .replyAccepted .. | .replyTimeout .. | .frameGapTimeout ..
  | .frameAbandoned .. | .readbackMismatch .. | .busBlind .. | .busRecovered .. | .heartbeatReceived .. | .mirrorFrame ..
  | .deliveredFrame .. | .lampFrame .. | .handoverFrame .. | .catchupEnd .. | .ackOnly .. | .dutyClaim .. | .dutyYield
  | .dutyEngineDown | .takeOver | .handoverDrainTimeout =>
    [.mem, .pool, .draws, .irq, .bells, .replies, .changes, .ports, .tx, .sluice, .lamps, .buses, .heads, .pair,
      .journal, .tag, .inject]
  | .sieveDecision =>
    [.mem, .pool, .tx, .sieve, .govs, .sluice, .pair, .inject]
  | .weirRefill .. | .deferCommit .. =>
    [.mem, .pool, .tx, .govs, .sluice, .pair, .inject]
  | .alarmCellWaitEnd | .engineViewTake | .lampLapse .. =>
    [.mem, .pool, .draws, .irq, .bells, .ports, .tx, .sluice, .lamps, .pair, .journal, .tag, .inject]
  | .itemBegin .. =>
    [.mem, .pool, .ports, .tx, .sluice, .inject]
  | .ctsResume .. =>
    [.ports, .tx]
  | .siltTake =>
    [.mem, .pool, .tx, .sluice, .journal]
  | .recordAccepted | .pageProgrammed .. | .eraseDone .. | .nandTimeout .. | .scrubRead .. | .journalMount =>
    [.irq, .bells, .journal]
  | .pageClose =>
    [.journal]
  | .pollingRoundStart .. | .busWake .. | .blindProbe .. =>
    [.buses]
  | .hedgeCommandSend .. =>
    [.mem, .pool, .draws, .irq, .bells, .events, .ports, .sluice, .buses, .heads, .journal, .inject, .dozeEvents]
  | .attentionTaken .. | .sleepBegins .. =>
    [.ports, .buses]
  | .rollCallEnd .. =>
    [.irq, .bells, .buses, .heads]
  | .sleepPropose .. | .objectionWindowEnd .. =>
    [.mem, .pool, .draws, .irq, .bells, .events, .ports, .sluice, .buses, .journal, .dozeEvents]
  | .sleepAbort .. =>
    [.irq, .bells, .buses]
  | .headCommandReceived .. | .headBroadcastReceived .. | .headAttentionPulse .. | .headSleepEnds .. =>
    [.ports]
  | .alarmRepeat .. =>
    [.mem, .pool, .draws, .tx, .sluice, .pair, .inject]
  | .lampTestEnd .. =>
    [.lamps, .buses]
  | .heartbeatSend =>
    [.mem, .pool, .tx, .sluice, .pair, .inject]
  | .itemFrame .. =>
    [.mem, .pool, .draws, .irq, .bells, .replies, .changes, .ports, .tx, .sieve, .govs, .sluice, .lamps, .buses,
      .heads, .pair, .journal, .tag, .inject]
  | .epochFrame .. =>
    [.mem, .pool, .draws, .irq, .bells, .replies, .settings, .changes, .ports, .tx, .sluice, .lamps, .buses, .heads,
      .pair, .journal, .tag, .inject]
  | .pleachFrameDropped .. | .retransmit | .missing .. =>
    [.pair]
  | .linkLost .. =>
    [.irq, .bells, .sluice, .pair, .journal]
  | .orphan .. =>
    [.mem, .pool, .tx, .sluice, .pair]
  | .offsetAdopt | .pairFormed | .splitConfig =>
    [.irq, .bells, .pair, .journal]
  | .fieldWriteDone =>
    [.irq, .bells, .tag]
  | .fieldSessionEnd =>
    [.irq, .bells, .changes, .journal, .tag]
  | .mgmtEntryDue .. =>
    [.mgmt]
  | .mgmtTransactionEnd .. | .stretchFault | .busRecovery .. | .mbStuckRecheck .. =>
    [.irq, .bells, .mgmt]
  | .extest .. | .highz | .idcode | .samplePreload .. | .bypass .. | .testLogicReset =>
    [.jtag]
  | .vanaGood =>
    [.power, .ports]

/-! ### The words of the statements -/

/-- `m`, of command `code`, is the next message that the firmware serves, no earlier reply being held back; the mode is one of
the command's and its fields are good (06 R189, 08 R222, R223, R227). -/
def State.offers (s : State) (m : Msg) (code : Nat) (modes : State → Bool) (check : List Byte → Option Nat) : Prop :=
  s.serves = true ∧ modes s = true ∧ check m.payload = none ∧ s.replyHeld = false ∧
    (s.engine.taken.head?.any fun t => t.asks m code) = true

/-- The state with the message being served taken off the list. -/
def State.served (s : State) : State := s.setEngine fun e => { e with taken := e.taken.tail }

/-- `t` has answered `m`, and no other message, since `s` (06 R188): status and payload as given. -/
def Replied (s t : State) (m : Msg) (code status : Nat) (payload : List Byte) : Prop :=
  ∀ c, (t.chan c).replies = (s.chan c).replies ++
    if c = m.ch then [{ code := BitVec.ofNat 16 code, status := BitVec.ofNat 16 status, tag := m.tag, payload := payload }]
    else []

/-- A change command was counted and stamped, and its digest is that of what is now in force (08 R230, R232, R233). -/
def Counted (s t : State) : Prop :=
  t.settings.changes = s.settings.changes + 1 ∧ t.settings.lastChange = s.now ∧ t.settings.digest = crc32 t.digestBytes

/-- `t` has answered `m` since `s` with this status and payload, among what it has answered on the channel. -/
def Answered (s t : State) (m : Msg) (code status : Nat) (payload : List Byte) : Prop :=
  ∃ x y, (t.chan m.ch).replies = (s.chan m.ch).replies ++ x ++
    [{ code := BitVec.ofNat 16 code, status := BitVec.ofNat 16 status, tag := m.tag, payload := payload }] ++ y

/-- A change was counted and stamped, with others that it set in motion (08 R230, R232, R233). -/
def Noted (s t : State) : Prop :=
  s.settings.changes < t.settings.changes ∧ t.settings.lastChange = s.now ∧ t.settings.digest = crc32 t.digestBytes

/-- What every reset leaves (02 Table - Reset scopes, R51; 05 R153, R179): HOLD and busy, the engine and its mailboxes as
at reset, an empty Sluice, no driver enabled, PL_DUTY_OUT low, the tag's array as it was but for a device-side write that
had begun and completes (19 R595), the medium's pages and the lines as they were, and the reset stamp in its six bytes. -/
def ResetFrom (s t : State) (stamp : Stamp) : Prop :=
  t.modes = ModeRegs.reset ∧ t.engine = Engine.reset ∧ t.chanN = ChanRegs.reset ∧ t.chanK = ChanRegs.reset ∧
  t.settings = Settings.reset ∧ t.sluice = Sluice.reset ∧ t.counting = false ∧ t.pair.dutyOut = false ∧
  t.mgmt = Mgmt.reset ∧ t.inject = Inject.reset ∧
  (∀ p, (t.port p).driver = false ∧ (t.port p).armed = false ∧ (t.port p).space = (s.port p).space ∧
    (t.port p).cts = (s.port p).cts) ∧
  t.tag.blocks = s.landWrites.tag.blocks ∧
  (s.tag.publishing = none → (∀ b d, s.tag.hostOp ≠ some (.write b d)) → t.tag.blocks = s.tag.blocks) ∧
  t.journal.nand.map (·.pages) = s.journal.nand.map (·.pages) ∧
  (∀ k, k < 6 → Memory.read t.mem (resetStampAt + k) = nthByte stamp.toNat k) ∧
  Only (parts .deviceReset) s t

/-- Bit `k` of the interrupt status register of a window. -/
def State.irqBit (s : State) (w : Window) (k : Nat) : Bool :=
  match w with
  | .ctl => s.culvert.irqstat.getLsbD k
  | .key => s.culvert.kirqstat.getLsbD k

/-- An engine restart has begun (06 R198, R200; 07 R216, R217): the engine is down with the cause given and one more
restart counted, both WATCHDOG bits stand, a granted or pending lock is broken with BREAK 0b11, pending pointers are
discarded with OUT_ABORTED, no slot is free, and nothing taken or accepted is answered any more. -/
def Restarted (s t : State) (cause : BitVec 4) : Prop :=
  t.engine.restarting = true ∧ t.engine.up = false ∧ t.engine.lastCause = cause ∧
  t.engine.count.toNat = min 255 (s.engine.count.toNat + 1) ∧ t.engine.taken = [] ∧ t.engine.accepted = [] ∧
  t.irqBit .ctl 8 = true ∧ t.irqBit .key 8 = true ∧ t.culvert.lock = .idle ∧
  t.culvert.brk = (if s.culvert.lock = .idle then s.culvert.brk else 3) ∧
  t.modes.mode = s.modes.mode ∧ t.tag.fieldLock = s.tag.fieldLock ∧
  ∀ c, (t.chan c).outFull = false ∧ (t.chan c).outAborted = ((s.chan c).outAborted || (s.chan c).outFull) ∧
    (t.chan c).bellOut = (s.chan c).bellOut ∧ (t.chan c).mboxIn = (s.chan c).mboxIn ∧
    (t.chan c).inFull = (s.chan c).inFull ∧ (t.chan c).replies = [] ∧ (t.chan c).seq = 0 ∧
    ∀ k, (t.chan c).slots.get k ≠ .free

/-- 03 Table - Legal transitions, between two different modes. -/
def moves (a b : Mode) : Bool :=
  [(Mode.load, Mode.hold), (.prove, .hold), (.run, .hold), (.trim, .hold), (.vigil, .hold), (.doze, .hold),
    (.probe, .hold), (.hold, .load), (.load, .prove), (.prove, .run), (.prove, .probe), (.run, .trim), (.run, .vigil),
    (.run, .doze), (.run, .probe), (.trim, .run), (.trim, .vigil), (.trim, .doze), (.vigil, .run), (.vigil, .trim),
    (.vigil, .doze), (.doze, .run), (.doze, .trim), (.doze, .vigil), (.probe, .run)].contains (a, b)

/-- The catalogue (08): each command with its code, its mode set and what its payload is checked for; `e` are the bit errors
that JOURNAL-READ finds. -/
def catalogue (s : State) (m : Msg) (e : List (List Nat)) :
    List (Instr × Nat × (State → Bool) × (List Byte → Option Nat)) :=
  [(Instr.version m, 0x0101, inAll, (exactFault [])), (Instr.setEpoch m, 0x0102, inAll, (epochFault s.takenAt.1)),
    (Instr.getTime m, 0x0103, inAll, (exactFault [])), (Instr.digest m, 0x0104, inAll, (exactFault [])),
    (Instr.hostWatch m, 0x0105, inAll, (exactFault [upTo 2 600])),
    (Instr.heartbeat m, 0x0106, inAll, (exactFault [upTo 2 3600])), (Instr.mgmtSet m, 0x0107, inAll, scanSetFault),
    (Instr.mgmtRead m, 0x0108, inAll, (exactFault [])), (Instr.events m, 0x0109, inAll, (exactFault [])),
    (Instr.portSet m, 0x0201, inAll, portSetFault),
    (Instr.portGet m, 0x0202, inAll, (exactFault [upTo 1 47, anyFld 1])),
    (Instr.portRetire m, 0x0203, inWork, sidesFault), (Instr.portReturn m, 0x0204, inWork, sidesFault),
    (Instr.portStats m, 0x0205, inAll, (exactFault [upTo 1 47, anyFld 1])),
    (Instr.sieveLoad m, 0x0301, inAll, sieveLoadFault),
    (Instr.sieveCommit m, 0x0302, inAll, (exactFault [anyFld 4])), (Instr.sieveGet m, 0x0303, inAll, sieveGetFault),
    (Instr.sieveHits m, 0x0304, inAll, sieveHitsFault),
    (Instr.weirSet m, 0x0305, inAll, (rowsCommandFault 256 16 0 fun _ _ row => weirFault row)),
    (Instr.weirGet m, 0x0306, inAll, weirGetFault)] ++
  [(Instr.viewSet m, 0x0401, inAll, viewSetFault),
    (Instr.viewGet m, 0x0402, inAll, (exactFault [upTo 1 0x33, anyFld 1])),
    (Instr.viewFlush m, 0x0403, inAll, (exactFault [upTo 1 0x33, anyFld 1])),
    (Instr.ingressFlush m, 0x0404, inWork, (exactFault [upTo 1 47, anyFld 1])),
    (Instr.sluiceFlush m, 0x0405, inWork, (exactFault [])), (Instr.viewRetire m, 0x0406, inWork, viewRetireFault),
    (Instr.viewReturn m, 0x0407, inWork, (exactFault [upTo 1 0x33, anyFld 1])),
    (Instr.designate m, 0x0408, inAll, s.designateFault),
    (Instr.tapRead m, 0x0409, inWork, (exactFault [range 2 376 4088])),
    (Instr.hostInject m, 0x040A, inWork, (fun bs => if bs = [] then some 0 else if 352 < bs.length then some 352 else none)),
    (Instr.books m, 0x040B, inAll, (exactFault [])),
    (Instr.hedgeSet m, 0x0501, inAll, (exactFault [upTo 1 47, upTo 1 3, range 2 10 10000, range 1 3 20, anyFld 1])),
    (Instr.headSet m, 0x0502, inAll, (exactFault [upTo 1 47, range 1 1 30, anyFld 2, anyFld 8])),
    (Instr.headGet m, 0x0503, inAll, (exactFault [upTo 1 47, range 1 1 30])),
    (Instr.headRetire m, 0x0504, inWork, (exactFault [upTo 1 47, range 1 1 30])),
    (Instr.headReturn m, 0x0505, inWork, (exactFault [upTo 1 47, range 1 1 30])),
    (Instr.lampSet m, 0x0506, inAll, s.lampSetFault), (Instr.lampGet m, 0x0507, inAll, lampGetFault),
    (Instr.alarmAck m, 0x0508, inWork, alarmAckFault), (Instr.alarmSet m, 0x0509, inAll, alarmSetFault)] ++
  [(Instr.lampTest m, 0x050A, inAll, s.lampTestFault),
    (Instr.pairSet m false, 0x0601, inAll, (exactFault [upTo 1 1, anyFld 1, range 2 2 100])),
    (Instr.pairSet m true, 0x0601, inAll, (exactFault [upTo 1 1, anyFld 1, range 2 2 100])),
    (Instr.pairArm m, 0x0602, inWork, (exactFault [])), (Instr.pairDisarm m, 0x0603, inAll, (exactFault [])),
    (Instr.pairStatus m, 0x0604, inAll, (exactFault [])), (Instr.pairHandover m, 0x0605, inWork, (exactFault [])),
    (Instr.journalStatus m, 0x0701, inAll, (exactFault [])),
    (Instr.journalRead m e, 0x0702, inWork, (exactFault [anyFld 4, range 2 64 4080, anyFld 2])),
    (Instr.journalMark m, 0x0703, inWork, markFault), (Instr.journalFormat m, 0x0704, inSetup, (exactFault [])),
    (Instr.journalKinds m, 0x0705, inAll, (exactFault [anyFld 2])),
    (Instr.tagPublish m, 0x0801, inWork, (exactFault [])), (Instr.tagRecord m, 0x0802, inAll, (exactFault [])),
    (Instr.tagInfo m, 0x0803, inAll, (exactFault [])),
    (Instr.injectEnable m, 0x0901, inWork, (exactFault [upTo 1 1, anyFld 1])),
    (Instr.injectSet m, 0x0902, inDiag, injectFault), (Instr.injectClear m, 0x0903, inAll, clearFault),
    (Instr.loopback m, 0x0904, inProbe, s.loopFault), (Instr.ampSweep m, 0x0905, inProbe, s.sweepFault),
    (Instr.counters m, 0x0906, inAll, (exactFault [upTo 1 5, anyFld 1]))]

end Sys2Proof.Machine
end

