-- ==== Sys2Proof/Certificates/Slice0/Obligations.lean ====
section
/-!
DEFINITION. The statements for the provers.
-/
open Sys2Proof Sys2Proof.Machine

/-- A step executes the command at the front of the queue on the state with the rest of the queue. For every state and
every command c at the front of its queue, step is exec of c on the state whose queue is the rest. The queue of
waiting commands is the model's own. -/
def Obligations.StepRunsTheFrontCommand : Prop :=
  ∀ (s : State) (c : Instr) (rest : List Instr), s.pending = c :: rest → step s = exec c { s with pending := rest }

/-- A step with no command waiting lets one microsecond of elapsed time pass. With an empty queue a step answers a
next state in which the elapsed count is one higher, modulo 2^48, while power-on reset is released, and unchanged
otherwise; nothing else changes. That an idle step is one microsecond is the model's choice (log entry 1). -/
def Obligations.EmptyQueueCountsAMicrosecond : Prop :=
  ∀ s : State, s.pending = [] → ∃ t, step s = .next t ∧ Only [.power] s t ∧
    t.power = { s.power with elapsed := if s.power.running then s.power.elapsed + 1 else s.power.elapsed }

/-- Every command answers a next state, leaves the queue alone and changes no part of the state that is not its own.
For every command and every state exec answers a next state. That state has the same queue, and every part of the
state that the table `parts` does not name for the command is unchanged. This is the frame of all 252 commands; the
table is the model's own reading of the effects. -/
def Obligations.EveryCommandCompletesWithinItsParts : Prop :=
  ∀ (c : Instr) (s : State), ∃ t, exec c s = .next t ∧ Only (parts c) s t

/-- Every step keeps the fabric memory canonical and within the 1 MiB address space. For every state whose listed
bytes have addresses below 2^20 in strictly rising order with no byte 0, a step that answers a next state answers one
whose listed bytes have the same form. The form is the model's; that fabric addresses have 20 bits is the spec's. -/
def Obligations.MemoryStaysCanonical : Prop :=
  ∀ s t : State, MemCanonical s → step s = .next t → MemCanonical t

/-- The state after reset has the canonical memory. The invariant of MemoryStaysCanonical holds of the state after
reset. -/
def Obligations.ResetMemoryIsCanonical : Prop :=
  MemCanonical State.reset

/-- The test access port's commands load its instruction and work its chain, and no other command changes its
registers. While power-on reset is released, EXTEST, IDCODE, SAMPLE-PRELOAD and HIGHZ load 0, 1, 2 and 3 and a code
of 4 or more is loaded as it is, acting as BYPASS. EXTEST and SAMPLE-PRELOAD capture the input cells given and the
lines, and take the output cells shifted in; Test-Logic-Reset loads IDCODE. Nothing else of the state changes.
IDCODE reads 0x26A306B5. Under HIGHZ the pairs are high-impedance; under EXTEST each pair follows its two cells, and
is high-impedance under the VANA guard. EXTEST and HIGHZ cut the host bus off. A command that changes these
registers is one of the six (log entry 31). -/
def Obligations.TapCommandsAloneReachTheTestPort : Prop :=
  (∀ (s : State) (sh : Option ScanOut) (balls : ScanIn), s.power.running = true →
    exec (.extest sh balls) s = .next (s.setJtag { s.jtag with
      ir := 0, out := sh.getD s.jtag.out, seen := balls, lines := s.lineCells })) ∧
  (∀ (s : State) (sh : ScanOut) (balls : ScanIn), s.power.running = true →
    exec (.samplePreload sh balls) s = .next (s.setJtag { s.jtag with
      ir := 2, sampled := true, out := sh, seen := balls, lines := s.lineCells })) ∧
  (∀ s : State, s.power.running = true →
    exec .idcode s = .next (s.setJtag { s.jtag with ir := 1 }) ∧
    exec .highz s = .next (s.setJtag { s.jtag with ir := 3 }) ∧
    exec .testLogicReset s = .next (s.setJtag { s.jtag with ir := 1, sampled := false })) ∧
  (∀ (s : State) (k : BitVec 4), s.power.running = true → 4 ≤ k.toNat →
    exec (.bypass k) s = .next (s.setJtag { s.jtag with ir := k })) ∧
  (∀ (j : Jtag), (4 ≤ j.ir.toNat → j.detached = false ∧ j.highz = false ∧ j.idcode? = none) ∧
    (j.ir = 1 → j.idcode? = some 0x26A306B5)) ∧
  (∀ (s : State) (p : PortNo), s.lineCells.getLsbD p.val = !(s.port p).space) ∧
  (∀ (s : State) (p : PortNo) (x : TxPhase), s.jtag.ir = 3 → s.pairBalls p x = (.off, .off)) ∧
  (∀ (s : State) (p : PortNo) (x : TxPhase), s.jtag.ir = 0 → s.pairBalls p x =
    if s.jtag.out.portEnable.getLsbD p.val = true ∧ s.vanaGuard = false then
      (levelOf (s.jtag.out.portData.getLsbD p.val), levelOf (!s.jtag.out.portData.getLsbD p.val))
    else (.off, .off)) ∧
  (∀ (s : State), s.jtag.ir = 0 ∨ s.jtag.ir = 3 → s.busServed = false) ∧
  (∀ (c : Instr) (s t : State), exec c s = .next t → t.jtag ≠ s.jtag →
    (∃ x y, c = .extest x y) ∨ c = .highz ∨ c = .idcode ∨ (∃ x y, c = .samplePreload x y) ∨ c = .testLogicReset ∨
    ∃ k, c = .bypass k)

/-- What reset leaves in the registers for which the spec gives a value. After reset MODENOW shows HOLD and busy with
no cause, auto-increment is set and every other Culvert register is 0, both channels are empty with every mask 0, TEMP
reads 0x8000, LASTRESET shows power-on, the Tally is not yet running, the elapsed count is 0, all 4096 Sluice cells
are free, the engine is down with no image, and the test access port holds IDCODE. -/
def Obligations.ResetValuesOfTheRegisters : Prop :=
  State.reset.modes.mode = .hold ∧ State.reset.modes.busy = true ∧ State.reset.modes.cause = .none ∧
  State.reset.modes.request = 0 ∧ State.reset.culvert = Culvert.reset ∧ State.reset.culvert.autoinc = true ∧
  State.reset.culvert.irqstat = 0 ∧ State.reset.culvert.irqmask = 0 ∧ State.reset.culvert.lock = .idle ∧
  (∀ c, (State.reset.chan c).outFull = false ∧ (State.reset.chan c).inFull = false ∧
      (State.reset.chan c).bellMsk = 0 ∧
    (State.reset.chan c).bellIn = 0 ∧ (State.reset.chan c).mboxIn = 0) ∧
  State.reset.power.temp = 0x8000 ∧ State.reset.power.lastReset = 1 ∧ State.reset.power.tallyLost = true ∧
  State.reset.power.elapsed = 0 ∧ State.reset.power.audit = 0 ∧ State.reset.freeCount = 4096 ∧
  State.reset.engine.up = false ∧ State.reset.engine.image = .none ∧ State.reset.jtag.ir = 1

/-- The four resets: what each leaves, and what survives it. Power-on reset released: the straps are sampled, the
elapsed count is 0, and the order fault stays only where R38 is not met. Supplies lost: power-on reset at once. nRESET
low and a RESETCTL reset: the elapsed count runs on and becomes the reset stamp. Each leaves HOLD and busy, the engine
and mailboxes as at reset, an empty Sluice, no enabled driver, PL_DUTY_OUT low, the medium and lines as they were, and
the tag array as it was but for a device-side write that had begun. Each completes on the condition it names. -/
def Obligations.ResetsLeaveHoldAndKeepTheTag : Prop :=
  (∀ (s : State) (rank od met : Bool), s.power.running = false →
    ∃ t, exec (.powerOnResetRelease rank od met) s = .next t ∧ t.power.running = true ∧ t.power.completing = true ∧
      t.power.elapsed = 0 ∧ t.power.lastReset = 1 ∧ t.power.rank = rank ∧ t.power.waitOd = od ∧
      t.power.orderFault = (s.power.orderFault && !met) ∧ ResetFrom s t 0) ∧
  (∀ s : State, s.power.running = true → ∃ t, exec .supplyCollapse s = .next t ∧ t.power.running = false ∧
      t.power.lastReset = 1 ∧ ResetFrom s t 0) ∧
  (∀ s : State, s.power.running = true → s.power.nresetLow = false →
    ∃ t, exec .nresetAssert s = .next t ∧ t.power.nresetLow = true ∧ t.power.elapsed = s.power.elapsed ∧
      t.power.lastReset = 2 ∧ ResetFrom s t s.power.elapsed) ∧
  (∀ s : State, s.busServed = true → ∃ t, exec .deviceReset s = .next t ∧ t.power.elapsed = s.power.elapsed ∧
      t.power.lastReset = 3 ∧ t.power.rank = s.power.rank ∧ t.power.waitOd = s.power.waitOd ∧
      ResetFrom s t s.power.elapsed)

/-- Reset completion: the busy state clears, the first-second counters start at 0, and early requests end with BUSY.
In a released device whose reset completion runs, its end clears the busy state with the mode unchanged, clears every
owed MODE_DONE by raising it in its window, shows the cause BUSY exactly where a MODEREQ was written before that
instant, clears the first-second block and lets it count. Memory elsewhere, and the parts not named, stay. -/
def Obligations.ResetCompletionClearsBusy : Prop :=
  ∀ s : State, s.released = true → s.power.completing = true →
    ∃ t, exec .resetComplete s = .next t ∧ t.power = { s.power with completing := false } ∧
      t.modes.mode = s.modes.mode ∧ t.modes.busy = false ∧ t.modes.owed = [] ∧
      t.modes.cause = (if s.modes.owed = [] then .none else .busy) ∧ t.counting = true ∧
      (.ctl ∈ s.modes.owed → t.culvert.irqstat.getLsbD 6 = true) ∧
      (.key ∈ s.modes.owed → t.culvert.kirqstat.getLsbD 6 = true) ∧
      (∀ a, Memory.read t.mem a = if firstSecondAt 0 ≤ a ∧ a < resetStampAt then 0 else Memory.read s.mem a) ∧
      Only [.power, .modes, .irq, .counting, .mem, .rows, .tag] s t

/-- ORDER-FAULT, NRESET-RELEASE, VANA-GOOD, TEMP-CONVERSION and PACE updates: their registers; PACE_LOW below 450 and
until ten good updates. The order fault latches. The release of nRESET ends the reset and samples RANK and WAIT_OD
while power is on. VANA good is noted, and each half-duplex join is as the mode has
it. A temperature conversion of a device that runs becomes TEMP. Each completes,
and everything else stays. In every mode but DOZE a running device updates PACE to the count divided by 1000, rounded
down, held to 16 bits. Below 450 the PACE-low indication is set and, where it was clear, SUPPLY is raised; it clears
when the tenth consecutive update of 450 or more comes. In DOZE the update changes nothing. -/
def Obligations.SupplyPinsStrapsAndPace : Prop :=
  (∀ s : State, ∃ t, exec .orderFault s = .next t ∧ t.power = { s.power with orderFault := true } ∧
      Only [.power] s t) ∧
  (∀ (s : State) (rank od : Bool), s.power.nresetLow = true → s.power.running = true →
    ∃ t, exec (.nresetRelease rank od) s = .next t ∧
      t.power = { s.power with nresetLow := false, rank := rank, waitOd := od } ∧ Only [.power] s t) ∧
  (∀ s : State, s.power.vanaGood = false → ∃ t, exec .vanaGood s = .next t ∧ t.power.vanaGood = true ∧
      t.power = { s.power with vanaGood := true, vanaSettled := t.power.vanaSettled } ∧ Only [.power, .ports] s t ∧
      ∀ p, (t.port p).joined = t.joinDue (s.port p)) ∧
  (∀ (s : State) (v : Half), s.alive = true → ∃ t, exec (.tempConversion v) s = .next t ∧
      t.power = { s.power with temp := v } ∧ Only [.power] s t) ∧
  (∀ (s : State) (n : Nat), s.alive = true → s.mode ≠ .doze → n / 1000 < 65536 →
    ∃ t, exec (.paceUpdate n) s = .next t ∧ t.power.pace = BitVec.ofNat 16 (n / 1000) ∧
      (n / 1000 < 450 → t.power.paceLow = true ∧ t.power.paceGood = 0 ∧
        (s.power.paceLow = false → t.culvert.irqstat.getLsbD 7 = true ∧ t.power.supplyEvents.getLsbD 1 = true)) ∧
      (450 ≤ n / 1000 → t.power.paceLow = (s.power.paceLow && decide (s.power.paceGood < 9))) ∧
      (450 ≤ n / 1000 → s.power.paceLow = true → s.power.paceGood < 9 → t.power.paceGood = s.power.paceGood + 1) ∧
      Only (parts (.paceUpdate n)) s t) ∧
  (∀ (s : State) (n : Nat), s.mode = .doze → exec (.paceUpdate n) s = .next s)

/-- VANA lost and back: drivers high-impedance, then enabled where due, SUPPLY raised; Tally lost and back: stamps in
doubt until it runs. In a released device whose VANA was good, its loss disables every driver, counts no reading as
valid any longer, sets VANA_LOST, raises IRQSTAT SUPPLY and keeps the mode. When VANA has been good again for 1 ms
after such a loss, exactly the drivers that are due are enabled, VANA_BACK is set and SUPPLY raised. While power-on
reset is released, the loss of a Tally that ran sets TALLY_LOST so that every stamp taken from then on is in doubt,
and marks the device flag of EVENTS; its return clears it with the elapsed count as it was and marks its flag. -/
def Obligations.SupplyLossAndReturn : Prop :=
  (∀ s : State, s.released = true → s.power.vanaGood = true →
    ∃ t, exec .vanaLost s = .next t ∧ t.power.vanaGood = false ∧ t.power.vanaSettled = false ∧
      (∀ p, (t.port p).driver = false ∧ (t.port p).amp.seen = 0) ∧ t.power.supplyEvents.getLsbD 3 = true ∧
      t.culvert.irqstat.getLsbD 7 = true ∧ t.modes = s.modes ∧ Only (parts .vanaLost) s t) ∧
  (∀ s : State, s.released = true → s.power.vanaGood = true → s.power.vanaSettled = false →
      s.power.vanaWasLost = true →
    ∃ t, exec .vanaBack s = .next t ∧ t.power.vanaSettled = true ∧ t.power.vanaWasLost = false ∧
      (∀ p, (t.port p).driver = (t.driverDue (s.port p).txc.tx && !(s.port p).hot && decide ((s.port p).loop ≠ .internal))) ∧
      t.power.supplyEvents.getLsbD 2 = true ∧ t.culvert.irqstat.getLsbD 7 = true ∧ t.modes = s.modes ∧
      Only (parts .vanaBack) s t) ∧
  (∀ s : State, s.power.running = true → s.power.tallyLost = false →
    ∃ t, exec .tallyLost s = .next t ∧ t.power = { s.power with tallyLost := true, tallyWasLost := true } ∧
      t.doubtNow = true ∧ t.settings.devFlags.getLsbD 0 = true ∧ Only (parts .tallyLost) s t) ∧
  (∀ s : State, s.power.running = true → s.power.tallyLost = true → s.power.tallyWasLost = true →
    ∃ t, exec .tallyBack s = .next t ∧ t.power = { s.power with tallyLost := false, tallyWasLost := false } ∧
      t.doubtNow = s.pair.timeSkew ∧ t.settings.devFlags.getLsbD 1 = true ∧ Only (parts .tallyBack) s t)

/-- AUDIT-SET sets its AUDIT bit and rings doorbell 8; AUDIT-RECHECK clears its bell and checks again. Where the
road runs, an imbalance sets its AUDIT bit beside those already set and doorbell 8 stands in BELLIN of channel N;
for the bits of the engine the engine must be up. The doorbell AUDIT-RECHECK, served by the firmware, is cleared,
and the engine's bits 4 to 6 whose imbalance still stands are set beside those already set, with doorbell 8 where
there is one. Which imbalances stand outside the books comes with the command (log entry 151). -/
def Obligations.AuditBitsRingDoorbellEight : Prop :=
  (∀ (s : State) (b : Fin 8), s.roadRuns = true → s.engine.up = true ∨ b.val < 4 ∨ b.val = 7 →
    ∃ t, exec (.auditSet b) s = .next t ∧
        t.power = { s.power with audit := s.power.audit ||| BitVec.ofNat 8 (2 ^ b.val) } ∧
      t.power.audit.getLsbD b.val = true ∧ t.chanN.bellIn.getLsbD 8 = true ∧ Only (parts (.auditSet b)) s t) ∧
  (∀ (s : State) (c : Chan) (x : BitVec 3), s.serves = true → (s.chan c).bellOut.getLsbD 7 = true →
    ∃ t, exec (.auditRecheck c x) s = .next t ∧ (t.chan c).bellOut = (s.chan c).bellOut &&& 0x7F ∧
      t.power.audit = s.power.audit ||| s.engineAudit x ∧ (s.engineAudit x ≠ 0 → t.chanN.bellIn.getLsbD 8 = true) ∧
      (∀ k : Fin 3, x.getLsbD k.val = true → (s.engineAudit x).getLsbD (4 + k.val) = true) ∧
      Only (parts (.auditRecheck c x)) s t)

/-- HRESET asserted resets the host-facing registers, breaks the lock and aborts waiting inbound messages; its fall
serves the bus again. In a released device with HRESET low, its assertion stops the service of bus cycles, clears both
masks, the window registers, the error cause, the latches and stagings of both channels, sets auto-increment, ends a
lock with BREAK 0b10 and LOCK_BROKEN raised, or leaves BREAK 0b00 with none, and turns a waiting inbound message of
either channel into the re-post holder with IN_ABORTED set. With HRESET falling, nothing but the line changes. -/
def Obligations.HostResetClearsTheHostSide : Prop :=
  (∀ s : State, s.released = true → s.culvert.hreset = false →
    ∃ t, exec .hresetAssert s = .next t ∧ t.busServed = false ∧ t.culvert.irqmask = 0 ∧ t.culvert.kirqmask = 0 ∧
      t.culvert.winpage = 0 ∧ t.culvert.winaddr = 0 ∧ t.culvert.autoinc = true ∧ t.culvert.readahead = false ∧
      t.culvert.winEdge = false ∧ t.culvert.errcause = .none ∧ t.culvert.more = false ∧ t.culvert.line = none ∧
      t.culvert.lock = .idle ∧ t.culvert.brk = (if s.culvert.lock = .idle then 0 else 2) ∧
      (s.culvert.lock ≠ .idle → t.culvert.irqstat.getLsbD 5 = true) ∧
      (∀ c, (t.chan c).bellMsk = 0 ∧ (t.chan c).inFull = false ∧ (t.chan c).stBellOut = 0 ∧ (t.chan c).stBellIn = 0 ∧
        (t.chan c).stBellMsk = 0 ∧ (t.chan c).stMboxOut = 0 ∧ (t.chan c).laBellOut = 0 ∧ (t.chan c).laBellIn = 0 ∧
        (t.chan c).laBellMsk = 0 ∧ (t.chan c).laMboxOut = 0 ∧ (t.chan c).laMboxIn = 0 ∧
        (t.chan c).inAborted = ((s.chan c).inAborted || (s.chan c).inFull) ∧
        (t.chan c).repost = (if (s.chan c).inFull then some (s.chan c).mboxIn else (s.chan c).repost) ∧
        (t.chan c).outFull = (s.chan c).outFull ∧ (t.chan c).bellOut = (s.chan c).bellOut) ∧
      Only (parts .hresetAssert) s t) ∧
  (∀ s : State, exec .hresetRelease s = .next (s.setCulvert fun c => { c with hreset := false }))

/-- A write to IRQSTAT clears the bits written as 1, the error cause and MORE with CULVERT_ERR; IRQFORCE sets bits of
IRQSTAT only. On a served bus a write of v to IRQSTAT leaves each bit that v has at 0 as it was and clears each that v
has at 1. Where v has bit 4 at 1 the error cause reads NONE and MORE is 0 afterwards; else both stay. A write of v to
IRQFORCE sets exactly the bits 0 to 10 of IRQSTAT that v has at 1 and leaves the others: no cause, no mailbox bit, no
supply bit, no other status. Nothing else changes. -/
def Obligations.IrqstatClearsAndIrqforceSets : Prop :=
  (∀ (s : State) (v : Half), s.busServed = true → exec (.irqstatWrite v) s = .next (s.setCulvert fun c => { c with
    irqstat := c.irqstat &&& ~~~v, errcause := if v.getLsbD 4 then .none else c.errcause
    more := if v.getLsbD 4 then false else c.more })) ∧
  (∀ (s : State) (v : Half), s.busServed = true → exec (.irqforceWrite v) s =
    .next (s.setCulvert fun c => { c with irqstat := c.irqstat ||| (v &&& 0x07FF) }))

/-- WINPAGE, WINADDR and WINCTL writes, and the end of a held line. On a served bus WINPAGE takes its low 8 bits,
WINADDR its low 12 bits with bit 0 as 0, both clearing WIN_EDGE; WINCTL takes AUTOINC and READAHEAD. Each discards the
held read-ahead line, as does its expiry, which needs no bus cycle. Nothing else changes. -/
def Obligations.WindowRegistersTakeTheirFields : Prop :=
  (∀ (s : State) (v : Half), s.busServed = true → exec (.winpageWrite v) s =
    .next (s.setCulvert fun c => { c with winpage := BitVec.ofNat 8 v.toNat, winEdge := false, line := none })) ∧
  (∀ (s : State) (v : Half), s.busServed = true → exec (.winaddrWrite v) s =
    .next (s.setCulvert fun c => { c with
      winaddr := BitVec.ofNat 12 (v.toNat % 4096 / 2 * 2), winEdge := false, line := none })) ∧
  (∀ (s : State) (v : Half), s.busServed = true → exec (.winctlWrite v) s =
    .next (s.setCulvert fun c => { c with autoinc := v.getLsbD 0, readahead := v.getLsbD 1, line := none })) ∧
  (∀ s : State, exec .readaheadExpire s = .next (s.setCulvert fun c => { c with line := none }))

/-- A WINDATA read gives the word at WINPAGE × 0x1000 + WINADDR and then advances WINADDR. On a served bus with no
held line and WIN_EDGE 0, a WINDATA read leaves on HD the fabric word at the window address (in the firmware data
region a free value, R34) and changes no byte. With auto-increment set WINADDR is 2 higher afterwards, or stays at
0xFFE with WIN_EDGE set; without it WINADDR stays. While WIN_EDGE is set the read gives 0xFFFF with CULVERT_ERR, cause
EDGE where no cause stood. -/
def Obligations.WindataReadGivesTheFabricWord : Prop :=
  (∀ s : State, s.busServed = true → s.culvert.winEdge = false → s.culvert.line = none →
    ∃ t, exec .windataRead s = .next t ∧
      t.culvert.hostData = s.fabricWord (4096 * s.culvert.winpage.toNat + s.culvert.winaddr.toNat) ∧
      t.culvert.winpage = s.culvert.winpage ∧ t.culvert.irqstat = s.culvert.irqstat ∧
      (s.culvert.autoinc = false → t.culvert.winaddr = s.culvert.winaddr ∧ t.culvert.winEdge = false) ∧
      (s.culvert.autoinc = true → s.culvert.winaddr = 0xFFE → t.culvert.winaddr = 0xFFE ∧ t.culvert.winEdge = true) ∧
      (s.culvert.autoinc = true → s.culvert.winaddr ≠ 0xFFE →
        t.culvert.winaddr = s.culvert.winaddr + 2 ∧ t.culvert.winEdge = false) ∧
      Only [.draws, .culvert] s t ∧ (s.culvert.address < 0xF8000 → Only [.culvert] s t)) ∧
  (∀ s : State, s.busServed = true → s.culvert.winEdge = true →
    ∃ t, exec .windataRead s = .next t ∧ t.culvert.hostData = 0xFFFF ∧ t.culvert.irqstat.getLsbD 4 = true ∧
      t.culvert.errcause = (if s.culvert.errcause = .none then .edge else s.culvert.errcause) ∧
      t.culvert.more = (s.culvert.more || decide (s.culvert.errcause ≠ .none)) ∧
      t.culvert.winaddr = s.culvert.winaddr ∧ Only [.irq, .culvert] s t)

/-- A permitted WINDATA write stores its two bytes at the window address and no other byte changes. On a served bus
with WIN_EDGE 0 and auto-increment clear, a WINDATA write of v where the map permits one stores the low byte at the
window address and the high byte at the next, each where the GX-48 maintains no bit of it, and every other byte of
memory reads as before. Where the map refuses it, no byte changes and CULVERT_ERR is raised with the cause. WINADDR
stays in both cases. -/
def Obligations.WindataWriteStoresOneWord : Prop :=
  (∀ (s : State) (v : Half), s.busServed = true → s.culvert.winEdge = false → s.culvert.autoinc = false →
      MemCanonical s →
    s.culvert.address + 1 < 0x100000 → s.writeFault s.culvert.address = none →
    ∃ t, exec (.windataWrite v) s = .next t ∧
      Memory.read t.mem s.culvert.address = v.setWidth 8 &&& ~~~(s.maintained s.culvert.address).1 ∧
      Memory.read t.mem (s.culvert.address + 1) =
        (v >>> 8).setWidth 8 &&& ~~~(s.maintained (s.culvert.address + 1)).1 ∧
      (∀ a, a ≠ s.culvert.address → a ≠ s.culvert.address + 1 → Memory.read t.mem a = Memory.read s.mem a) ∧
      t.culvert.winaddr = s.culvert.winaddr ∧ t.culvert.winEdge = false ∧ t.culvert.line = none ∧
      t.culvert.irqstat = s.culvert.irqstat ∧
          Only [.mem, .code, .pool, .boxes, .rows, .culvert, .engine, .govs] s t) ∧
  (∀ (s : State) (v : Half) (e : ErrCause), s.busServed = true → s.culvert.winEdge = false →
      s.culvert.autoinc = false →
    s.writeFault s.culvert.address = some e →
    ∃ t, exec (.windataWrite v) s = .next t ∧ t.culvert.irqstat.getLsbD 4 = true ∧
      t.culvert.errcause = (if s.culvert.errcause = .none then e else s.culvert.errcause) ∧
      t.culvert.winaddr = s.culvert.winaddr ∧ Only [.irq, .culvert] s t)

/-- A host write to the tables region is refused with cause NO-LOCK at every page that no granted lock covers. For
every state and every address of the tables region whose page is not in the set of a granted lock, a host write fails
with cause NO-LOCK; and a WINDATA write there changes no byte of memory. -/
def Obligations.TablesNeedALock : Prop :=
  (∀ (s : State) (a : Nat), 0xF0000 ≤ a → a < 0xF8000 →
    (s.culvert.lock ≠ .granted ∨ s.culvert.pages.getLsbD ((a - 0xF0000) / 4096) = false) →
    s.writeFault a = some .noLock) ∧
  (∀ (s t : State) (v : Half), 0xF0000 ≤ s.culvert.address → s.culvert.address < 0xF8000 →
    (s.culvert.lock ≠ .granted ∨ s.culvert.pages.getLsbD ((s.culvert.address - 0xF0000) / 4096) = false) →
    exec (.windataWrite v) s = .next t → t.mem = s.mem)

/-- Timeouts and clashes complete with CULVERT_ERR and their cause, failed reads give 0xFFFF; ELAPSED0 latches its
higher parts. On a served bus a timeout raises CULVERT_ERR with cause TIMEOUT, or sets MORE where a cause already
stands; a read then gives 0xFFFF. A clash does the same with cause CLASH. An access abandoned before its issue changes
nothing. A read of ELAPSED0 gives bits 15 to 0 of the elapsed count and latches bits 47 to 16. -/
def Obligations.FailedAccessesAndTheElapsedLatch : Prop :=
  (∀ (s : State) (k : AccessKind), s.busServed = true → ∃ t, exec (.culvertTimeout k) s = .next t ∧
    t.culvert.irqstat.getLsbD 4 = true ∧
    t.culvert.errcause = (if s.culvert.errcause = .none then .timeout else s.culvert.errcause) ∧
    t.culvert.more = (s.culvert.more || decide (s.culvert.errcause ≠ .none)) ∧
    (k = .regRead ∨ k = .dataRead → t.culvert.hostData = 0xFFFF) ∧ Only [.irq, .culvert] s t) ∧
  (∀ (s : State) (k : ClashKind), s.busServed = true → ∃ t, exec (.clash k) s = .next t ∧
    t.culvert.irqstat.getLsbD 4 = true ∧
    t.culvert.errcause = (if s.culvert.errcause = .none then .clash else s.culvert.errcause) ∧
    t.culvert.more = (s.culvert.more || decide (s.culvert.errcause ≠ .none)) ∧
    (k = .selectsRead → t.culvert.hostData = 0xFFFF) ∧ Only [.irq, .culvert] s t) ∧
  (∀ (s : State) (k : AccessKind), exec (.accessAbandoned k) s = .next s) ∧
  (∀ s : State, s.busServed = true → exec (.elapsed0Read none) s = .next (s.setCulvert fun c => { c with
    hostData := s.power.elapsed.setWidth 16, elapsedLatch := (s.power.elapsed >>> 16).setWidth 32 })) ∧
  (∀ (s : State) (c : Chan) (r : SplitReg), s.busServed = true → ∃ t, exec (.elapsed0Read (some (c, r))) s = .next t ∧
    Only [.culvert, .chanN, .chanK] s t ∧ t.chan (otherChan c) = s.chan (otherChan c) ∧
    (r = .bellOut → t.culvert.hostData = (s.chan c).bellOut.setWidth 16 ∧ (t.chan c).laBellOut = 0) ∧
    (r = .bellIn → t.culvert.hostData.toNat = (s.chan c).bellIn.toNat % 65536 ∧
      (t.chan c).laBellIn.toNat = (s.chan c).bellIn.toNat / 65536) ∧
    (r = .bellMsk → t.culvert.hostData.toNat = (s.chan c).bellMsk.toNat % 65536 ∧
      (t.chan c).laBellMsk.toNat = (s.chan c).bellMsk.toNat / 65536) ∧
    (r = .mboxOut → t.culvert.hostData.toNat = (s.chan c).mboxOut.toNat % 65536 ∧
      (t.chan c).laMboxOut.toNat = (s.chan c).mboxOut.toNat / 65536))

/-- The lock: a request starts, a grant follows, a release ends it, and a refused write leaves it unchanged. On a
served bus, with no lock granted or pending, a LOCKCTL write with REQUEST, without RELEASE and with a non-empty page
set makes a pending request that takes PAGES and TIMEOUT and clears BREAK. A REQUEST while a lock is granted or
pending, or with RELEASE, or with no page, and a RELEASE while none is, are refused with cause LOCK-STATE and leave
the lock state, PAGES, TIMEOUT and BREAK unchanged. A RELEASE abandons a pending request without an error, and ends a
granted lock. The grant makes a pending lock granted. BREAK stays through all of these but the accepted REQUEST. -/
def Obligations.LockRequestsAndReleases : Prop :=
  (∀ (s : State) (v : Half), s.busServed = true → s.culvert.lock = .idle → v.getLsbD 14 = false →
    v.toNat % 256 ≠ 0 → ∃ t, exec (.lockRequest v) s = .next t ∧ t.culvert.lock = .pending ∧
      t.culvert.pages.toNat = v.toNat % 256 ∧ t.culvert.timeout.toNat = v.toNat / 256 % 4 ∧ t.culvert.brk = 0 ∧
      t.culvert.irqstat = s.culvert.irqstat ∧ Only [.culvert] s t) ∧
  (∀ (s : State) (v : Half), s.busServed = true →
    (s.culvert.lock ≠ .idle ∨ v.getLsbD 14 = true ∨ v.toNat % 256 = 0) →
    ∃ t, exec (.lockRequest v) s = .next t ∧ t.culvert.lock = s.culvert.lock ∧ t.culvert.pages = s.culvert.pages ∧
      t.culvert.timeout = s.culvert.timeout ∧ t.culvert.brk = s.culvert.brk ∧ t.culvert.irqstat.getLsbD 4 = true ∧
      t.culvert.errcause = (if s.culvert.errcause = .none then .lockState else s.culvert.errcause) ∧
      Only [.irq, .culvert] s t) ∧
  (∀ s : State, s.released = true → s.culvert.lock = .pending →
    exec .lockGrant s = .next (s.setCulvert fun c => { c with lock := .granted })) ∧
  (∀ s : State, s.busServed = true → ∃ t, exec .lockRelease s = .next t ∧ t.culvert.lock = .idle ∧
      t.culvert.pages = s.culvert.pages ∧ t.culvert.timeout = s.culvert.timeout ∧ t.culvert.brk = s.culvert.brk ∧
      (s.culvert.lock = .idle → t.culvert.irqstat.getLsbD 4 = true ∧
        t.culvert.errcause = (if s.culvert.errcause = .none then .lockState else s.culvert.errcause)) ∧
      (s.culvert.lock = .pending → t.culvert.errcause = s.culvert.errcause ∧ Only [.culvert] s t) ∧
      Only (parts .lockRelease) s t)

/-- A granted lock that times out is broken: BREAK 0b01, LOCK_BROKEN raised, its session ended. In a released device
the timeout of a granted lock leaves no lock, BREAK at 0b01, PAGES and TIMEOUT as they were, LOCK_BROKEN raised, and
no word counted of a further session. Where no write took effect in the session, only the lock and the interrupt bit
change. Where one did, the session is one configuration change of this instant. In HOLD, LOAD and DOZE the journal
owes the record of that session, which says CTL window, origin lock session, its pages, broken, its words, and the
instant; whether the record of such a session is owed is the model's choice (log entry 142). No granted lock:
nothing changes. -/
def Obligations.LockTimeoutBreaksTheLock : Prop :=
  (∀ s : State, s.released = true → s.culvert.lock = .granted →
    ∃ t, exec .lockTimeout s = .next t ∧ t.culvert.lock = .idle ∧ t.culvert.brk = 1 ∧
        t.culvert.pages = s.culvert.pages ∧
      t.culvert.timeout = s.culvert.timeout ∧ t.culvert.irqstat.getLsbD 5 = true ∧ t.culvert.sessionWords = 0 ∧
      (s.culvert.sessionWords = 0 → Only [.irq, .culvert] s t) ∧
      (s.culvert.sessionWords ≠ 0 → t.settings.changes = s.settings.changes + 1 ∧
        t.settings.lastChange = s.power.elapsed) ∧
      (s.culvert.sessionWords ≠ 0 → s.mode.stopped = true ∨ s.mode = .doze →
          ∃ r, t.journal.owed = s.journal.owed ++ [r] ∧
        r.kind = 0x05 ∧ r.stamp = s.power.elapsed ∧
        r.body.take 8 = [1, 3, 0, 0, s.culvert.pages, 1] ++ leBytes 2 s.culvert.sessionWords) ∧
      Only (parts .lockTimeout) s t) ∧
  (∀ s : State, s.culvert.lock ≠ .granted → exec .lockTimeout s = .next s)

/-- A register write reaches the register at its offset; read-only registers and unassigned offsets ignore it. On a
served bus a CTL write at 0x0C takes IRQMASK bits 10 to 0, at 0x0A, 0x0E, 0x26, 0x28, 0x2A and 0x2C it does what the
row of that register does, a KEY write at 0x0C takes the mask 0x014F, and one at 0x0A clears the KIRQSTAT bits written
as 1. A write at an offset of 0x54 to 0x7E, or to CHIPID, CHIPREV, MODENOW or SYSSTAT at 0x00, 0x02, 0x06 and 0x08,
changes nothing. -/
def Obligations.RegisterWritesReachTheirRegister : Prop :=
  (∀ (s : State) (v : Half), s.busServed = true →
    exec (.registerWrite .ctl 0x0C v) s = .next (s.setCulvert fun c => { c with irqmask := v &&& 0x07FF })) ∧
  (∀ (s : State) (v : Half), s.busServed = true →
    exec (.registerWrite .ctl 0x0A v) s = exec (.irqstatWrite v) s ∧
    exec (.registerWrite .ctl 0x0E v) s = exec (.irqforceWrite v) s ∧
    exec (.registerWrite .ctl 0x26 v) s = exec (.winpageWrite v) s ∧
    exec (.registerWrite .ctl 0x28 v) s = exec (.winaddrWrite v) s ∧
    exec (.registerWrite .ctl 0x2A v) s = exec (.windataWrite v) s ∧
    exec (.registerWrite .ctl 0x2C v) s = exec (.winctlWrite v) s) ∧
  (∀ (s : State) (v : Half), s.busServed = true →
    exec (.registerWrite .key 0x0C v) s = .next (s.setCulvert fun c => { c with kirqmask := v &&& 0x014F }) ∧
    exec (.registerWrite .key 0x0A v) s = .next (s.setCulvert fun c => { c with kirqstat := c.kirqstat &&& ~~~v })) ∧
  (∀ (s : State) (o : BitVec 7) (v : Half), s.busServed = true →
    (0x54 ≤ o.toNat ∨ o = 0 ∨ o = 2 ∨ o = 6 ∨ o = 8) → exec (.registerWrite .ctl o v) s = .next s)

/-- Split registers: the low part is staged, the high part commits both and clears the staging. On a served bus the
low write of each split register only stages. The high write commits the staged low part below it and clears the
staging: BELLOUT rings the committed bits 0 to 7, and a ring of RELEASE covers every slot whose message was read by
then; BELLIN clears the bits written as 1, BELLMSK takes the value, and MBOXOUT posts it where OUT_FULL is 0 and the
engine is not off; else it posts nothing, keeps the pending pointer and sets OUT_REFUSED. MBOX-POST is that last
commit. -/
def Obligations.SplitRegistersStageAndCommit : Prop :=
  (∀ (s : State) (c : Chan) (v : Half), s.busServed = true →
    exec (.splitLowWrite c .bellOut v) s = .next (s.setChan c fun r => { r with stBellOut := v }) ∧
    exec (.splitLowWrite c .bellIn v) s = .next (s.setChan c fun r => { r with stBellIn := v }) ∧
    exec (.splitLowWrite c .bellMsk v) s = .next (s.setChan c fun r => { r with stBellMsk := v }) ∧
    exec (.splitLowWrite c .mboxOut v) s = .next (s.setChan c fun r => { r with stMboxOut := v })) ∧
  (∀ (s : State) (c : Chan) (v : Half), s.busServed = true →
    exec (.splitHighWrite c .bellOut v) s = .next (s.setChan c fun r => { r with
      bellOut := r.bellOut ||| BitVec.ofNat 8 r.stBellOut.toNat, stBellOut := 0
      slots := if r.stBellOut.getLsbD 4 then r.slots.map fun x => if x = .taken then .rung else x else r.slots }) ∧
    exec (.splitHighWrite c .bellIn v) s = .next (s.setChan c fun r => { r with
      bellIn := r.bellIn &&& ~~~(BitVec.ofNat 32 (65536 * v.toNat + r.stBellIn.toNat)), stBellIn := 0 }) ∧
    exec (.splitHighWrite c .bellMsk v) s = .next (s.setChan c fun r => { r with
      bellMsk := BitVec.ofNat 32 (65536 * v.toNat + r.stBellMsk.toNat), stBellMsk := 0 })) ∧
  (∀ (s : State) (c : Chan) (v : Half), s.busServed = true → (s.chan c).outFull = false → s.engineOff = false →
    exec (.mboxPost c v) s = .next (s.setChan c fun r => { r with
      mboxOut := BitVec.ofNat 32 (65536 * v.toNat + r.stMboxOut.toNat), outFull := true, stMboxOut := 0 }) ∧
    exec (.splitHighWrite c .mboxOut v) s = exec (.mboxPost c v) s) ∧
  (∀ (s : State) (c : Chan) (v : Half), s.busServed = true → (s.chan c).outFull = true ∨ s.engineOff = true →
    exec (.mboxPost c v) s = .next (s.setChan c fun r => { r with outRefused := true, stMboxOut := 0 }))

/-- LOAD-START takes the header and starts the check; LOAD-CHECK-END gives CHECKED or FAILED with the first error.
In LOAD, with no check running and no HOLD on its way, START on a served bus copies the 64 bytes at 0xC0000 into the
header store and shows CHECKING. Outside LOAD, with HOLD on its way, or while CHECKING, START changes nothing; that
START acts while another transition out of LOAD runs is the model's reading (log entry 147). At the end of the check
the image reads CHECKED with no error where the header and the body pass, else FAILED with the error of the first
check that fails. -/
def Obligations.ImageLoadAndCheck : Prop :=
  (∀ s : State, s.busServed = true → s.mode = .load → s.holding = false → s.engine.image ≠ .checking →
    exec .loadStart s = .next (s.setEngine fun e => { e with
      image := .checking, header := some (s.memBytes 0xC0000 64) })) ∧
  (∀ s : State, s.mode ≠ .load ∨ s.holding = true ∨ s.engine.image = .checking → exec .loadStart s = .next s) ∧
  (∀ (s : State) (h : List Byte), s.engine.image = .checking → s.engine.header = some h →
    exec .loadCheckEnd s = .next (s.setEngine fun e => { e with
      image := if s.loadError h = 0 then .checked else .failed, loadErr := s.loadError h })) ∧
  (∀ (s : State) (h : List Byte), h.take 4 ≠ [0x42, 0x4C, 0x54, 0x4E] → s.loadError h = 1)

/-- The firmware takes a posted pointer, reading a well-formed message and answering a malformed one in its turn.
Where the firmware serves, the channel holds a pointer and it is that channel's turn, the take clears OUT_FULL and
raises MBOX_EMPTY in the window of the channel. A message within its area, within one 4 KiB page and of at most 4088
payload bytes joins the commands taken, with its code, tag and payload and the instant of the take, and nothing is
answered where no earlier one was malformed. Any other is answered with STATUS 0x0010, COMMAND 0, TAG 0 and no
payload: at once where no earlier command waits and no reply is held back, and else it waits behind them. With no
pointer, or out of turn, or while the firmware does not serve, nothing happens; that the firmware alternates is the
catalogue's order. -/
def Obligations.MailboxTakeReadsOrRefusesTheMessage : Prop :=
  (∀ (s : State) (c : Chan) (a len : Nat), s.serves = true → (s.chan c).outFull = true →
    ((s.chan (otherChan c)).outFull = false ∨ s.engine.lastServed ≠ c) →
    a = (s.chan c).mboxOut.toNat / 8 % 2 ^ 17 * 8 → len = s.memField (a + 2) 2 →
    ∃ t, exec (.mboxTake c) s = .next t ∧ (t.chan c).outFull = false ∧ t.irqBit (chanWindow c) 0 = true ∧
      ((s.engine.taken.head?.all fun x => !x.malformed) = true →
        hostArea c ≤ a → a < hostArea c + 0x8000 → a % 4096 + 8 + len ≤ 4096 →
        t.engine.taken = s.engine.taken ++ [{
          ch := c, code := BitVec.ofNat 16 (s.memField a 2)
          tag := BitVec.ofNat 16 (s.memField (a + 4) 2), payload := s.memBytes (a + 8) len
          malformed := false, stamp := s.power.elapsed, doubt := s.doubtNow }] ∧
        ∀ d, (t.chan d).replies = (s.chan d).replies) ∧
      (a < hostArea c ∨ hostArea c + 0x8000 ≤ a ∨ 4096 < a % 4096 + 8 + len →
        (s.engine.taken = [] → s.replyHeld = false → t.engine.taken = [] ∧
          (t.chan c).replies = (s.chan c).replies ++ [{ code := 0, status := 0x0010, tag := 0, payload := [] }]) ∧
        (s.replyHeld = true ∨ (s.engine.taken.head?.any fun x => !x.malformed) = true →
          t.engine.taken = s.engine.taken ++ [{
            ch := c, code := 0, tag := 0, payload := []
            malformed := true, stamp := s.power.elapsed, doubt := s.doubtNow }] ∧
          ∀ d, (t.chan d).replies = (s.chan d).replies)) ∧
      Only (parts (.mboxTake c)) s t) ∧
  (∀ (s : State) (c : Chan), s.serves = false ∨ (s.chan c).outFull = false ∨
    ((s.chan (otherChan c)).outFull = true ∧ s.engine.lastServed = c) → exec (.mboxTake c) s = .next s)

/-- The oldest waiting reply is posted into a free slot; with none free nothing is posted. Where the firmware serves
and no malformed message stands first among those taken, no pointer stands or waits to be posted again, and a slot
is free, the oldest waiting reply goes into some slot that was free: its bytes lie at the start of the slot and no
other byte of memory changes, the slot is held, MBOXIN holds SEQ and the slot's address, SEQ counts on, IN_FULL is
set, MBOX_FULL is raised and doorbell 0 stands. Which free slot it is, is open. With no free slot, or a pointer
standing, nothing happens. -/
def Obligations.RepliesArePostedIntoAFreeSlot : Prop :=
  (∀ (s : State) (c : Chan) (m : Reply) (rest : List Reply), s.serves = true → MemCanonical s →
      (s.chan c).inFull = false →
    (s.chan c).repost = none → (s.engine.taken.head?.all fun x => !x.malformed) = true →
    (s.chan c).replies = m :: rest → m.payload.length ≤ 4088 →
    (∃ k, (s.chan c).slots.get k = .free) →
    ∃ t, ∃ k : Fin 8, exec (.replyPost c) s = .next t ∧ (s.chan c).slots.get k = .free ∧
      (t.chan c).slots.get k = .posted ∧ (∀ j, j ≠ k → (t.chan c).slots.get j = (s.chan c).slots.get j) ∧
      (t.chan c).replies = rest ∧ (t.chan c).inFull = true ∧ (t.chan c).inSlot = some k ∧
      (t.chan c).seq = (s.chan c).seq + 1 ∧
      (t.chan c).mboxIn.toNat = (s.chan c).seq.toNat * 2 ^ 20 + firmArea c + 0x1000 * k.val ∧
      (∀ i, i < m.bytes.length → Memory.read t.mem (firmArea c + 0x1000 * k.val + i) = m.bytes.getD i 0) ∧
      (∀ a, a < firmArea c + 0x1000 * k.val ∨ firmArea c + 0x1000 * k.val + m.bytes.length ≤ a →
        Memory.read t.mem a = Memory.read s.mem a) ∧
      t.irqBit (chanWindow c) 1 = true ∧ (t.chan c).bellIn.getLsbD 0 = true ∧ Only (parts (.replyPost c)) s t) ∧
  (∀ (s : State) (c : Chan), s.serves = false ∨ ((s.engine.taken.head?.all fun x => !x.malformed) = true ∧
    ((s.chan c).replies = [] ∨ (s.chan c).inFull = true ∨ (s.chan c).repost ≠ none ∨
      (∀ k, (s.chan c).slots.get k ≠ .free))) → exec (.replyPost c) s = .next s)

/-- A read of MBOXIN_LO takes the message; clearing IN_ABORTED posts the held pointer again. On a served bus with
IN_FULL 1 a read of MBOXIN_LO gives bits 15 to 0 of MBOXIN, leaves bits 31 to 16 in its latch, clears IN_FULL and
marks the slot as taken for the engine; with IN_FULL 0 it gives 0x0000 and its latch is 0. A host write that clears
IN_ABORTED while a pointer is held posts that pointer again unchanged, empties the holder, sets IN_FULL and raises
MBOX_FULL, the slots as they were. -/
def Obligations.ReadingMboxinTakesTheMessage : Prop :=
  (∀ (s : State) (c : Chan), s.busServed = true → (s.chan c).inFull = true →
    ∃ t, exec (.mboxRead c) s = .next t ∧ t.culvert.hostData.toNat = (s.chan c).mboxIn.toNat % 65536 ∧
      (t.chan c).laMboxIn.toNat = (s.chan c).mboxIn.toNat / 65536 ∧ (t.chan c).inFull = false ∧
      (t.chan c).inSlot = none ∧ (∀ k, (s.chan c).inSlot = some k → (t.chan c).slots.get k = .taken) ∧
      (∀ k, (s.chan c).inSlot ≠ some k → (t.chan c).slots.get k = (s.chan c).slots.get k) ∧
      (t.chan c).mboxIn = (s.chan c).mboxIn ∧ t.chan (otherChan c) = s.chan (otherChan c) ∧
      Only (parts (.mboxRead c)) s t) ∧
  (∀ (s : State) (c : Chan), s.busServed = true → (s.chan c).inFull = false →
    ∃ t, exec (.mboxRead c) s = .next t ∧ t.culvert.hostData = 0 ∧ (t.chan c).laMboxIn = 0 ∧
      (t.chan c).slots = (s.chan c).slots ∧ Only (parts (.mboxRead c)) s t) ∧
  (∀ (s : State) (c : Chan) (w : Word), s.busServed = true → (s.chan c).inAborted = true →
      (s.chan c).repost = some w →
    ∃ t, exec (.inAbortedClear c) s = .next t ∧ (t.chan c).mboxIn = w ∧ (t.chan c).inFull = true ∧
      (t.chan c).repost = none ∧ (t.chan c).inAborted = false ∧ (t.chan c).slots = (s.chan c).slots ∧
      t.irqBit (chanWindow c) 1 = true ∧ t.chan (otherChan c) = s.chan (otherChan c) ∧
      Only [.irq, .chanN, .chanK] s t)

/-- Each host doorbell is cleared at its take and acts once: RELEASE, ATTEND, HOST-ALIVE, FLUSH-DONE, TIME-MARK,
JOURNAL-SYNC. Where the firmware serves and the bell is rung: RELEASE frees exactly the slots whose messages were
read before it was rung; HOST-ALIVE only clears its bell (the interval it restarts runs outside the model); ATTEND
sets again each bell whose condition stands, on channel K only where masked in, and no other (which conditions stand
is log entry 24); FLUSH-DONE and TIME-MARK make a host-drain and a time-mark record stamped now, which waits for the
journal in a working mode and is held in PROVE; JOURNAL-SYNC closes the open staging page. A bell that is not rung
does nothing. A lapsed host watch marks device flag 2 of EVENTS. -/
def Obligations.DoorbellsAreClearedAndActOncePerTake : Prop :=
  (∀ (s : State) (c : Chan), s.serves = true → (s.chan c).bellOut.getLsbD 4 = true →
    exec (.doorbellRelease c) s = .next (s.setChan c fun r => { r with
      bellOut := r.bellOut &&& 0xEF, slots := r.slots.map fun x => if x = .rung then .free else x })) ∧
  (∀ (s : State) (c : Chan), s.serves = true → (s.chan c).bellOut.getLsbD 5 = true →
    exec (.hostAlive c) s = .next (s.setChan c fun r => { r with bellOut := r.bellOut &&& 0xDF })) ∧
  (∀ (s : State) (c : Chan), s.serves = true → (s.chan c).bellOut.getLsbD 0 = true →
    ∃ t, exec (.attend c) s = .next t ∧ (t.chan c).bellOut = (s.chan c).bellOut &&& 0xFE ∧
      (∀ k, (t.chan c).bellIn.getLsbD k = ((s.chan c).bellIn.getLsbD k ||
        (decide (k < 11) && s.bellStands k && (decide (c = .n) || s.chanK.bellMsk.getLsbD k)))) ∧
      (t.chan (otherChan c)).bellIn = (s.chan (otherChan c)).bellIn ∧ Only (parts (.attend c)) s t) ∧
  (∀ (s : State) (c : Chan), s.serves = true → (s.chan c).bellOut.getLsbD 1 = true → s.mode.working = true →
    s.journal.mounted = false ∨ s.journal.state = 0 → s.journal.waiting.length < 64 →
    ∃ t, exec (.flushDone c) s = .next t ∧ (t.chan c).bellOut = (s.chan c).bellOut &&& 0xFD ∧
      t.journal = { s.journal with waiting := s.journal.waiting ++ [{
        kind := 0x0A, flags := recFlags false s.doubtNow, boot := 0, stamp := s.power.elapsed, seq := 0, body := [] }] } ∧
      Only (parts (.flushDone c)) s t) ∧
  (∀ (s : State) (c : Chan), s.serves = true → (s.chan c).bellOut.getLsbD 2 = true → s.mode = .prove →
    s.journal.held.length < 128 →
    ∃ t, exec (.timeMark c) s = .next t ∧ (t.chan c).bellOut = (s.chan c).bellOut &&& 0xFB ∧
      (∃ r, t.journal = { s.journal with held := s.journal.held ++ [r] } ∧ r.kind = 0x07 ∧ r.stamp = s.power.elapsed ∧
        r.body.take 2 = [0, if s.settings.epoch.isSome then 1 else 0]) ∧ Only (parts (.timeMark c)) s t) ∧
  (∀ (s : State) (c : Chan), s.serves = true → (s.chan c).bellOut.getLsbD 6 = true → s.siltRuns = true →
    ∃ t, exec (.journalSync c) s = .next t ∧ (t.chan c).bellOut = (s.chan c).bellOut &&& 0xBF ∧
      t.journal.staging = none ∧ t.journal = s.journal.close true ∧ Only (parts (.journalSync c)) s t) ∧
  (∀ (s : State) (c : Chan), (s.chan c).bellOut = 0 → exec (.doorbellRelease c) s = .next s ∧
    exec (.hostAlive c) s = .next s ∧ exec (.attend c) s = .next s ∧ exec (.flushDone c) s = .next s ∧
    exec (.timeMark c) s = .next s ∧ exec (.journalSync c) s = .next s ∧ exec (.doorbellLampTest c) s = .next s ∧
    ∀ x, exec (.auditRecheck c x) s = .next s) ∧
  (∀ s : State, s.serves = true → s.settings.hostWatch ≠ 0 →
    ∃ t, exec .hostWatchLapse s = .next t ∧ t.settings.devFlags = s.settings.devFlags ||| 4 ∧
      Only (parts .hostWatchLapse) s t)

/-- TAGCTL GO: READ and WRITE make the port busy, LOCK and UNLOCK act at once, a reserved OP ends with BAD-OP, a GO
while BUSY does nothing. On a served bus with BUSY 0, GO with READ or WRITE sets BUSY, clears ERR and holds the
operation with its block and buffer. LOCK sets FIELD-LOCK and UNLOCK clears it, each with DONE and TAG_FIELD raised at
once. A reserved OP ends with ERR 4. While BUSY is 1 only the OP field changes. -/
def Obligations.TagHostPortStarts : Prop :=
  (∀ s : State, s.busServed = true → s.tag.busy = false →
    exec .tagHostRead s = .next (s.setTag fun t => { t with
      op := 0, busy := true, err := 0, waited := !s.tag.writes.isEmpty, hostOp := some (.read s.tag.block.toNat) }) ∧
    exec .tagHostWrite s = .next (s.setTag fun t => { t with
      op := 1, busy := true, err := 0, waited := !s.tag.writes.isEmpty
      hostOp := some (.write s.tag.block.toNat s.tag.buffer) })) ∧
  (∀ s : State, s.busServed = true → s.tag.busy = false →
    (∃ t, exec .tagLock s = .next t ∧ t.tag = { s.tag with
      op := 2, fieldLock := true, busy := false, done := true, waited := false, err := 0, hostOp := none } ∧
      t.irqBit .ctl 9 = true ∧ Only [.irq, .tag] s t) ∧
    (∃ t, exec .tagUnlock s = .next t ∧ t.tag = { s.tag with
      op := 3, fieldLock := false, busy := false, done := true, waited := false, err := 0, hostOp := none } ∧
      t.irqBit .ctl 9 = true ∧ Only [.irq, .tag] s t) ∧
    ∀ op : BitVec 3, 4 ≤ op.toNat → ∃ t, exec (.tagBadOp op) s = .next t ∧ t.tag = { s.tag with
      op := op, busy := false, done := true, waited := false, err := 4, hostOp := none } ∧
      t.irqBit .ctl 9 = true ∧ Only [.irq, .tag] s t) ∧
  (∀ s : State, s.busServed = true → s.tag.busy = true →
    exec .tagHostRead s = .next (s.setTag fun t => { t with op := 0 }) ∧
    exec .tagHostWrite s = .next (s.setTag fun t => { t with op := 1 }) ∧
    exec .tagLock s = .next (s.setTag fun t => { t with op := 2 }) ∧
    exec .tagUnlock s = .next (s.setTag fun t => { t with op := 3 }))

/-- The end of a host READ fills the buffer; that of a WRITE programs region A only, with REGION, LOCKED or VERIFY
else. A released device ends the host operation that no field operation holds up, with BUSY cleared, DONE set and
TAG_FIELD raised. READ puts the block into the buffer. WRITE of an unlocked block 0 to 1023 that reads back programs
exactly that block with ERR 0; one that does not read back leaves an open value there with ERR 3. Outside region A no
block changes and ERR is 1; on a locked block none changes and ERR is 2. While a field operation it waits for goes on,
nothing ends. Block contents are stated where the model's list of blocks is in its ascending form. -/
def Obligations.TagHostPortEnds : Prop :=
  (∀ (s : State) (v : Bool) (b : Nat), s.released = true → s.tag.hostOp = some (.read b) → b < 1805 →
    s.tag.waited = false ∨ s.tag.writes = [] →
    ∃ t, exec (.tagHostOpDone v) s = .next t ∧ t.tag.buffer = s.tag.get b ∧ t.tag.busy = false ∧ t.tag.done = true ∧
      t.tag.err = 0 ∧ t.tag.blocks = s.tag.blocks ∧ t.irqBit .ctl 9 = true ∧ Only [.irq, .tag] s t) ∧
  (∀ (s : State) (v : Bool) (b : Nat) (d : Word), s.released = true → s.tag.hostOp = some (.write b d) →
    s.tag.waited = false ∨ s.tag.writes = [] →
    ∃ t, exec (.tagHostOpDone v) s = .next t ∧ t.tag.busy = false ∧ t.tag.done = true ∧ t.irqBit .ctl 9 = true ∧
      (1024 ≤ b → t.tag.err = 1 ∧ t.tag.blocks = s.tag.blocks) ∧
      (b < 1024 → s.tag.locked b = true → t.tag.err = 2 ∧ t.tag.blocks = s.tag.blocks) ∧
      (b < 1024 → s.tag.locked b = false → v = true → t.tag.err = 0 ∧
        (s.tag.blocks.Pairwise (fun x y => x.1 < y.1) →
          t.tag.cell b = d ∧ ∀ c, c ≠ b → t.tag.cell c = s.tag.cell c)) ∧
      (b < 1024 → s.tag.locked b = false → v = false → t.tag.err = 3 ∧
        (s.tag.blocks.Pairwise (fun x y => x.1 < y.1) → ∀ c, c ≠ b → t.tag.cell c = s.tag.cell c)) ∧
      Only (parts (.tagHostOpDone v)) s t) ∧
  (∀ (s : State) (v : Bool), s.tag.hostOp = none ∨ (s.tag.waited = true ∧ s.tag.writes ≠ []) →
    exec (.tagHostOpDone v) s = .next s)

/-- Watchdog expiry, engine fault and a failed BODYCRC recheck each begin an engine restart. In a running device a
watchdog expiry of an engine that is up outside DOZE begins a restart with LASTCAUSE 0x1; an engine fault of an engine
that is up or restarting, and in a working mode a body check that fails, begin one with LASTCAUSE 0x2. What a restart
leaves is the predicate Restarted. A body check that passes changes nothing. -/
def Obligations.EngineRestartsBegin : Prop :=
  (∀ s : State, s.alive = true → s.engine.up = true → s.mode ≠ .doze →
    ∃ t, exec .watchdogExpire s = .next t ∧ Restarted s t 1 ∧ Only (parts .watchdogExpire) s t) ∧
  (∀ s : State, s.alive = true → (s.engine.up = true ∨ s.engine.restarting = true) →
    ∃ t, exec .engineFault s = .next t ∧ Restarted s t 2 ∧ Only (parts .engineFault) s t) ∧
  (∀ s : State, s.engineWorks = true → s.programBad = true →
    ∃ t, exec .bodycrcRecheck s = .next t ∧ Restarted s t 2 ∧ Only (parts .bodycrcRecheck) s t) ∧
  (∀ s : State, s.programBad = false → exec .bodycrcRecheck s = .next s)

/-- The end of a restart starts the engine again, or leaves it stopped with PM_FAIL, or stopped in HOLD and LOAD. In
a running device the end of a restart clears RESTARTING. Where program memory fails its check PM_FAIL is set and the
engine stays down. Else PM_FAIL is clear; in a mode in which the engine is stopped it is up again only where PROVE
was requested since, and nothing else changes; in every other mode it is up again, with the mode and the count as
they were. A check with no header in HOLD or LOAD does not fail (log entry 145). -/
def Obligations.EngineRestartEnds : Prop :=
  (∀ s : State, s.alive = true → s.engine.restarting = true → s.mode.stopped = true →
    s.programBad = false ∨ s.engine.header = none →
    exec .engineRestartDone s = .next (s.setEngine fun e => { e with
      restarting := false, pmFail := false, up := s.proving, shown := none })) ∧
  (∀ s : State, s.alive = true → s.engine.restarting = true → s.mode.stopped = false ∨ s.engine.header ≠ none →
    s.programBad = true →
    exec .engineRestartDone s = .next (s.setEngine fun e => { e with restarting := false, pmFail := true })) ∧
  (∀ s : State, s.alive = true → s.engine.restarting = true → s.mode.stopped = false → s.programBad = false →
    ∃ t, exec .engineRestartDone s = .next t ∧ t.engine.up = true ∧ t.engine.restarting = false ∧
      t.engine.pmFail = false ∧ t.engine.count = s.engine.count ∧ t.engine.lastCause = s.engine.lastCause ∧
      t.modes = s.modes ∧ Only (parts .engineRestartDone) s t)

/-- A legal mode request starts its transition: the old mode stays in force, busy, with the effects of the request.
On a served bus, with reset completion over and no transition running, a MODEREQ write of another mode that Table -
Legal transitions (moves) permits, and to which no refusal applies, sets busy with the mode in force unchanged and
owes its window a MODE_DONE. LOAD and HOLD owe the journal their record. HOLD stops the engine, forgets the image,
the epoch and the Sluice's items, disarms every port and disables every driver. PROVE starts the engine, where no
restart runs or has failed, and stops the first-second counters. RUN or PROBE from PROVE takes every port row. DOZE
starts the drain. -/
def Obligations.AcceptedModeRequestsStartTheirTransition : Prop :=
  ∀ (s : State) (w : Window) (c : Instr) (m : Mode), (c, m) ∈ [(Instr.requestHold w, Mode.hold), (.requestLoad w, .load), (.requestProve w, .prove), (.requestRun w, .run),
      (.requestTrim w, .trim), (.requestVigil w, .vigil), (.requestDoze w, .doze), (.requestProbe w, .probe)] →
    s.busServed = true → s.power.completing = false → s.modes.busy = false → moves s.modes.mode m = true →
    (m = .prove → s.engine.image = .checked) → (m = .run ∨ m = .trim ∨ m = .vigil → s.engine.prove ≠ 3) →
    (m = .vigil → s.settings.designated ≠ []) → (m = .doze → s.pair.formed = false) →
    ∃ t, exec c s = .next t ∧ t.modes.mode = s.modes.mode ∧ t.modes.busy = true ∧ t.modes.target = m ∧
      t.modes.owed = s.modes.owed ++ [w] ∧ t.modes.request.toNat = m.code ∧ t.modes.cause = s.modes.cause ∧
      t.settings.lastChange = s.power.elapsed ∧
      (m = .load ∨ m = .hold → ∃ r, t.journal.owed = s.journal.owed ++ [r] ∧ r.kind = 0x05 ∧
          r.stamp = s.power.elapsed ∧
        r.body.take 2 = [BitVec.ofNat 8 (windowCode w), 1]) ∧
      (m = .hold → t.engine.up = false ∧ t.engine.image = .none ∧ t.engine.header = none ∧ t.settings.epoch = none ∧
        t.sluice.items = [] ∧ t.journal.mounted = false ∧ t.counting = false ∧
        ∀ p, (t.port p).armed = false ∧ (t.port p).driver = false ∧ (t.port p).fifo = []) ∧
      (m = .prove → t.engine.up = (!s.engine.restarting && !s.engine.pmFail) ∧ t.engine.testEnded = false ∧
          t.counting = false ∧
        t.engine.prove = (if s.engine.prove = 3 then 3 else 1)) ∧
      (s.modes.mode = .prove → m = .run ∨ m = .probe →
        ∀ p, (t.port p).rxRow = s.portRow p ∧ (t.port p).txRow = s.portRow p) ∧
      (m = .doze → t.modes.draining = true) ∧ Only (parts c) s t

/-- A refused mode request, and one for the mode in force, end at once with their cause and MODE_DONE in their
window. On a served bus, with reset completion over and no transition running: a code of 0x8 to 0xF and a move that
the table does not permit end with ILLEGAL; PROVE without a checked image with NO-IMAGE; RUN, TRIM or VIGIL after a
failed test with PROVE-FAILED; VIGIL with no designated listener with NO-VIGIL-LIST; DOZE of a member of a formed
pair with PAIR-FORMED; a request for the mode in force with NONE. Each raises MODE_DONE in the window it was written
through and changes only MODEREQ and the cause; the last also counts as a configuration change, as the model reads
R70 (log entry 144), and touches the journal. -/
def Obligations.RefusedModeRequestsEndAtOnce : Prop :=
  (∀ (s : State) (w : Window) (code : BitVec 4), s.busServed = true → s.power.completing = false →
    s.modes.busy = false → 8 ≤ code.toNat →
    ∃ t, exec (.modereqUnknown w code) s = .next t ∧ t.modes = { s.modes with request := code, cause := .illegal } ∧
      t.irqBit w 6 = true ∧ Only [.modes, .irq] s t) ∧
  (∀ (s : State) (w : Window) (c : Instr) (m : Mode) (e : Cause), (c, m) ∈ [(Instr.requestHold w, Mode.hold), (.requestLoad w, .load), (.requestProve w, .prove), (.requestRun w, .run),
      (.requestTrim w, .trim), (.requestVigil w, .vigil), (.requestDoze w, .doze), (.requestProbe w, .probe)] →
    s.busServed = true → s.power.completing = false → s.modes.busy = false → m ≠ s.modes.mode →
    (moves s.modes.mode m = false ∧ e = .illegal) ∨ (moves s.modes.mode m = true ∧
      ((m = .prove ∧ s.engine.image ≠ .checked ∧ e = .noImage) ∨
      ((m = .run ∨ m = .trim ∨ m = .vigil) ∧ s.engine.prove = 3 ∧ e = .proveFailed) ∨
      (m = .vigil ∧ s.engine.prove ≠ 3 ∧ s.settings.designated = [] ∧ e = .noVigilList) ∨
      (m = .doze ∧ s.pair.formed = true ∧ e = .pairFormed))) →
    ∃ t, exec c s = .next t ∧ t.modes = { s.modes with request := BitVec.ofNat 4 m.code, cause := e } ∧
      t.irqBit w 6 = true ∧ Only [.modes, .irq] s t) ∧
  (∀ (s : State) (w : Window) (c : Instr) (m : Mode), (c, m) ∈ [(Instr.requestHold w, Mode.hold), (.requestLoad w, .load), (.requestProve w, .prove), (.requestRun w, .run),
      (.requestTrim w, .trim), (.requestVigil w, .vigil), (.requestDoze w, .doze), (.requestProbe w, .probe)] →
    s.busServed = true → s.power.completing = false → s.modes.busy = false → m = s.modes.mode →
    ∃ t, exec c s = .next t ∧ t.modes = { s.modes with request := BitVec.ofNat 4 m.code, cause := .none } ∧
      t.irqBit w 6 = true ∧ t.settings.changes = s.settings.changes + 1 ∧ t.settings.lastChange = s.now ∧
      Only [.modes, .irq, .changes, .journal] s t)

/-- While a transition runs every request but HOLD is refused with BUSY; while reset completes every one waits for its
end. On a served bus, while a transition runs and reset completion is over, a request for any mode but HOLD, or for an
unknown one, takes the cause BUSY, owes its window a MODE_DONE and leaves the transition as it is. HOLD abandons a
transition to another mode and starts its own. While reset completion runs every request only owes its window a
MODE_DONE. -/
def Obligations.RequestsDuringATransition : Prop :=
  (∀ (s : State) (w : Window) (c : Instr) (m : Mode), (c, m) ∈ [(Instr.requestHold w, Mode.hold), (.requestLoad w, .load), (.requestProve w, .prove), (.requestRun w, .run),
      (.requestTrim w, .trim), (.requestVigil w, .vigil), (.requestDoze w, .doze), (.requestProbe w, .probe)] →
    s.busServed = true → s.power.completing = false → s.modes.busy = true → m ≠ .hold →
    exec c s = .next (s.setModes fun r => { r with
      request := BitVec.ofNat 4 m.code, cause := .busy, late := true, owed := r.owed ++ [w] })) ∧
  (∀ (s : State) (w : Window) (code : BitVec 4), s.busServed = true → s.power.completing = false →
    s.modes.busy = true → 8 ≤ code.toNat →
    exec (.modereqUnknown w code) s = .next (s.setModes fun r => { r with
      request := code, cause := .busy, late := true, owed := r.owed ++ [w] })) ∧
  (∀ (s : State) (w : Window), s.busServed = true → s.power.completing = false → s.modes.busy = true →
    s.modes.target ≠ .hold →
    ∃ t, exec (.requestHold w) s = .next t ∧ t.modes.mode = s.modes.mode ∧ t.modes.busy = true ∧
      t.modes.target = .hold ∧ t.modes.owed = s.modes.owed ++ [w] ∧ t.modes.late = false ∧ t.engine.up = false ∧
      t.sluice.items = [] ∧ Only (parts (.requestHold w)) s t) ∧
  (∀ (s : State) (w : Window) (c : Instr) (m : Mode), (c, m) ∈ [(Instr.requestHold w, Mode.hold), (.requestLoad w, .load), (.requestProve w, .prove), (.requestRun w, .run),
      (.requestTrim w, .trim), (.requestVigil w, .vigil), (.requestDoze w, .doze), (.requestProbe w, .probe)] →
    s.busServed = true → s.power.completing = true →
    exec c s = .next (s.setModes fun r => { r with request := BitVec.ofNat 4 m.code, owed := r.owed ++ [w] }))

/-- A transition completes: the new mode is in force, the busy state clears and every owed MODE_DONE is raised. In a
running device a transition to any mode but PROVE completes with the mode requested in force, busy clear, nothing
owed, the cause NONE unless a later write was refused, and MODE_DONE raised in each window owed one; the level
of PL_DUTY_IN comes with the command (log entry 160). Into DOZE the
pair role is dropped and no item is on a line; into RUN or TRIM no port is parked; into VIGIL exactly the ports that
are neither hedge ports nor designated are. At the end of a DOZE drain every item on a line is cut, with CR LF owed
there. -/
def Obligations.TransitionsComplete : Prop :=
  (∀ (s : State) (d : Bool), s.alive = true → s.modes.busy = true → s.modes.target ≠ .prove →
    ∃ t, exec (.modeTransitionComplete d) s = .next t ∧ t.modes.mode = s.modes.target ∧ t.modes.busy = false ∧
      t.modes.owed = [] ∧ t.modes.draining = false ∧
      t.modes.cause = (if s.modes.late then s.modes.cause else .none) ∧
      (∀ w, w ∈ s.modes.owed → t.irqBit w 6 = true) ∧
      (s.modes.target = .doze → t.pair.role = .none ∧ ∀ p, (t.port p).tx.sending = none) ∧
      (s.modes.target = .run ∨ s.modes.target = .trim → ∀ p, (t.port p).parked = false) ∧
      (s.modes.target = .vigil → ∀ p, (t.port p).parked = s.parks p) ∧
      t.pair.dutyIn = d ∧ Only (parts (.modeTransitionComplete d)) s t) ∧
  (∀ s : State, s.modes.draining = true → ∃ t, exec .dozeDrainTimeout s = .next t ∧
      (∀ p, (t.port p).tx.sending = none ∧ ((s.port p).tx.sending ≠ none → (t.port p).tx.terminator = true)) ∧
      Only (parts .dozeDrainTimeout) s t)

/-- The self-test ends in PROVE with the default rows in the tables and its result in LOADSTAT. In a running device
whose engine is up, at the end of the PROVE entry from LOAD, PROVE is in force with busy clear and the self-test
over. A failure of an earlier test stays; else LOADSTAT PROVE reads 2 (passed), 4 (passed with no NAND device) or 3
with the failing part. Every port row is the default row, the last byte of S511 in both banks says DROP, and the
first-second block and the reset stamp are unchanged. Both channels count SEQ from 0. -/
def Obligations.SelfTestEndFillsTheTables : Prop :=
  ∀ (s : State) (r : ProveResult), s.alive = true → MemCanonical s → s.modes.busy = true → s.modes.target = .prove →
    s.modes.mode = .load → s.engine.up = true →
    ∃ t, exec (.selfTestEnd r) s = .next t ∧ t.modes.mode = .prove ∧ t.modes.busy = false ∧
        t.engine.testEnded = true ∧
      (s.engine.prove = 3 → t.engine.prove = 3 ∧ t.engine.provePart = s.engine.provePart) ∧
      (s.engine.prove ≠ 3 → t.engine.prove = (match r with
          | .passed _ _ => 2
          | .passedNoNand => 4
          | .failed _ => 3) ∧
        ∀ part, r = .failed part → t.engine.provePart = provePartCode part) ∧
      (∀ p, t.portRow p = PortRow.default) ∧
      Memory.read t.mem (sieveRowAt false 511 + 15) = 0x80 ∧ Memory.read t.mem (sieveRowAt true 511 + 15) = 0x80 ∧
      (∀ a, firstSecondAt 0 ≤ a → a < resetStampAt + 6 → Memory.read t.mem a = Memory.read s.mem a) ∧
      t.chanN.seq = 0 ∧ t.chanK.seq = 0 ∧ t.chanN.bellOut = 0 ∧ t.chanK.bellOut = 0 ∧
      t.settings.designated = [] ∧ Only (parts (.selfTestEnd r)) s t

/-- A start edge on an armed port in DOZE raises WAKE, and the first marks the next character WOKE. In a running
device in DOZE, the first start edge on a port whose row arms it for wake and that is not STUCK raises WAKE, keeps
DOZE, marks the next stored character WOKE and lets a talker that is not retired receive; a parked autobaud port
hunts. At a rate up to 115,200 Bd the edge begins a character with its stamp. Above it, on a port that does not
hunt, the waking character is not caught, the next one is also AFTER-LOSS and has the waking edge's stamp. Every
later start edge, and every edge while the port hunts, raises WAKE again and leaves the mark WOKE as it is. In
another mode, or with the port not armed for wake, nothing happens. -/
def Obligations.WakeEdgesRaiseWake : Prop :=
  (∀ (s : State) (p : PortNo) (m : Nat) (h : Bool), s.alive = true → s.mode = .doze → (s.port p).rx.wakeArm = true →
    (s.port p).stuck = false → (s.port p).armed = false →
    h = ((s.port p).hunting || ((s.port p).rx.autobaud && (s.port p).parked)) →
    ∃ t, exec (.wakeEdge p m) s = .next t ∧ t.culvert.irqstat.getLsbD 10 = true ∧ t.modes.mode = .doze ∧
      t.modes.wokeBell = true ∧ (t.port p).space = true ∧ (t.port p).wokeNext = true ∧ (t.port p).hunting = h ∧
      (t.port p).armed = ((s.port p).talks && !(s.port p).rxRetired) ∧ (t.port p).fifo = (s.port p).fifo ∧
      ((s.port p).talks = true → (s.port p).rxRetired = false → (s.port p).rateNow ≤ 115200 → h = false →
        (s.port p).edge = none → (s.port p).hold = .free → (t.port p).edge = some (s.power.elapsed, s.doubtNow)) ∧
      ((s.port p).rateNow ≤ 115200 ∨ h = true → (t.port p).afterLoss = (s.port p).afterLoss ∧
          (t.port p).wokeEdge = none) ∧
      (115200 < (s.port p).rateNow → (s.port p).rateNow ≤ 1000000 → h = false →
        (t.port p).edge = (s.port p).edge ∧ (t.port p).afterLoss = true ∧
        (t.port p).wokeEdge = some (s.power.elapsed, s.doubtNow)) ∧
      (∀ q, q ≠ p → t.port q = s.port q) ∧ Only (parts (.wakeEdge p m)) s t) ∧
  (∀ (s : State) (p : PortNo) (m : Nat), s.alive = true → s.mode = .doze → (s.port p).rx.wakeArm = true →
    (s.port p).stuck = false → (s.port p).armed = true →
    (s.port p).hunting = true ∨ (s.port p).starts m s.power.elapsed = true →
    ∃ t, exec (.wakeEdge p m) s = .next t ∧ t.culvert.irqstat.getLsbD 10 = true ∧ t.modes.mode = .doze ∧
      t.modes.wokeBell = true ∧ (t.port p).wokeNext = (s.port p).wokeNext ∧
      (t.port p).edge = (if (s.port p).hunting then (s.port p).edge else some (s.power.elapsed, s.doubtNow)) ∧
      (∀ q, q ≠ p → t.port q = s.port q) ∧ Only (parts (.wakeEdge p m)) s t) ∧
  (∀ (s : State) (p : PortNo) (m : Nat), s.mode ≠ .doze ∨ (s.port p).rx.wakeArm = false ∨ (s.port p).stuck = true →
    exec (.wakeEdge p m) s = .next s)

/-- Each command of the catalogue runs when it is the next one taken, in its mode set and with good fields; else it
is refused or waits. For every command of the catalogue that is the next one taken: outside its mode set it is
answered with 0x0011; in its set with a rejected field, with 0x0010 and the offset of the first such field; in both
cases nothing but the answer and its removal from the list happens. A command that is not next, or met while the
firmware does not serve, or while an earlier reply is held back, changes nothing where no malformed message stands
first. A code that is not in the catalogue is answered with 0x0010 and 0xFFFF. The order mode, then fields is log
entry 26. -/
def Obligations.CommandsRunInTurnInTheirModeSets : Prop :=
  (∀ (s : State) (m : Msg) (e : List (List Nat)) (x : Instr × Nat × (State → Bool) × (List Byte → Option Nat)),
      x ∈ catalogue s m e →
    s.serves = true → s.replyHeld = false → (s.engine.taken.head?.any fun a => a.asks m x.2.1) = true →
    (x.2.2.1 s = false → exec x.1 s = .next (s.served.refused m x.2.1 0x0011)) ∧
    (∀ o, x.2.2.1 s = true → x.2.2.2 m.payload = some o → exec x.1 s = .next (s.served.badAt m x.2.1 o))) ∧
  (∀ (s : State) (m : Msg) (e : List (List Nat)) (x : Instr × Nat × (State → Bool) × (List Byte → Option Nat)),
      x ∈ catalogue s m e →
    s.serves = false ∨ ((s.engine.taken.head?.all fun a => !a.malformed) = true ∧
      (s.replyHeld = true ∨ (s.engine.taken.head?.any fun a => a.asks m x.2.1) = false)) → exec x.1 s = .next s) ∧
  (∀ (s : State) (m : Msg) (code : Half), s.offers m code.toNat inAll (fun _ => none) →
    (∀ x, x ∈ catalogue s m [] → x.2.1 ≠ code.toNat) →
    exec (.unknownCommand code m) s = .next (s.served.badAt m code.toNat 0xFFFF))

/-- VERSION, GET-TIME, DIGEST, MGMT-READ, PORT-GET, SIEVE-GET, WEIR-GET, VIEW-GET, HEAD-GET, LAMP-GET, TAG-RECORD and
TAG-INFO change nothing. Each of these commands, served, is answered with status 0 and the fields that its reply
lists, read at that instant; it is taken off the list and nothing else changes. The rows carry the fields that the
GX-48 maintains. VERSION comes from the header store, GET-TIME gives UTC 0 without an epoch, DIGEST its three fields
while fewer than 65,536 changes have been made, SIEVE-GET the rows of the bank named, TAG-RECORD status 0x0015 where
no current record stands. -/
def Obligations.QueriesReportTheTablesAndTheSystem : Prop :=
  (∀ (s : State) (m : Msg), s.offers m 0x0101 inAll (exactFault []) →
      exec (.version m) s = .next (s.served.done m 0x0101
      (bytesAt (s.engine.header.getD []) 8 8 ++ bytesAt (s.engine.header.getD []) 0x20 16 ++ [0x01, 0x42]))) ∧
  (∀ (s : State) (m : Msg), s.offers m 0x0103 inAll (exactFault []) → s.settings.epoch = none →
      exec (.getTime m) s = .next (s.served.done m 0x0103
      (leBytes 6 s.power.elapsed.toNat ++ [0, if s.pair.timeSkew then 1 else 0] ++ List.replicate 8 0))) ∧
  (∀ (e : Epoch), ∀ (s : State) (m : Msg), s.offers m 0x0103 inAll (exactFault []) → s.settings.epoch = some e →
      exec (.getTime m) s = .next (s.served.done m 0x0103
      (leBytes 6 s.power.elapsed.toNat ++ [1, if s.pair.timeSkew then 1 else 0] ++
        leBytes 4 (utcSeconds e s.power.elapsed) ++ leBytes 4 (utcFraction e s.power.elapsed)))) ∧
  (∀ (s : State) (m : Msg), s.offers m 0x0104 inAll (exactFault []) → s.settings.changes < 65536 →
      exec (.digest m) s = .next (s.served.done m 0x0104
      (leBytes 4 s.settings.digest.toNat ++ leBytes 6 s.settings.lastChange.toNat ++ leBytes 2 s.settings.changes))) ∧
  (∀ (s : State) (m : Msg), s.offers m 0x0108 inAll (exactFault []) →
      exec (.mgmtRead m) s = .next (s.served.done m 0x0108
      ((s.mgmt.results.toList.map fun r => [r.status, BitVec.ofNat 8 r.data.length] ++
        (r.data ++ List.replicate (8 - r.data.length) 0) ++ leBytes 6 r.stamp.toNat).flatten))) ∧
  (∀ (s : State) (m : Msg), s.offers m 0x0202 inAll (exactFault [upTo 1 47, anyFld 1]) →
      exec (.portGet m) s = .next (s.served.done m 0x0202
      (s.fabricBytes (0xF0000 + 32 * byteAt m.payload 0) 32))) ∧
  (∀ (s : State) (m : Msg), s.offers m 0x0303 inAll sieveGetFault →
      exec (.sieveGet m) s = .next (s.served.done m 0x0303
      (s.memBytes (sieveRowAt (if byteAt m.payload 0 = 0 then s.sieve.bankB else !s.sieve.bankB)
        (fieldAt m.payload 2 2)) (16 * fieldAt m.payload 4 2)))) ∧
  (∀ (s : State) (m : Msg), s.offers m 0x0306 inAll weirGetFault → exec (.weirGet m) s = .next (s.served.done m 0x0306
      (s.fabricBytes (0xF5000 + 16 * fieldAt m.payload 0 2) (16 * fieldAt m.payload 2 2)))) ∧
  (∀ (v : Fin 52), ∀ (s : State) (m : Msg), s.offers m 0x0402 inAll (exactFault [upTo 1 0x33, anyFld 1]) →
      byteAt m.payload 0 = v.val → exec (.viewGet m) s = .next (s.served.done m 0x0402
      (s.fabricBytes (viewRowAt v.val) 16 ++ leBytes 2 (s.viewItems v).length ++ leBytes 2 (s.used v) ++
        leBytes 4 (s.view v).refusals ++ leBytes 4 (s.view v).evictions))) ∧
  (∀ (b : BusNo) (h : HeadNo), ∀ (s : State) (m : Msg), s.offers m 0x0503 inAll (exactFault [upTo 1 47, range 1 1 30]) → s.headNamed m.payload = some (b, h) → exec (.headGet m) s = .next (s.served.done m 0x0503
      (s.fabricBytes (headRowAt b.val h.val) 8))) ∧
  (∀ (s : State) (m : Msg), s.offers m 0x0507 inAll lampGetFault → exec (.lampGet m) s = .next (s.served.done m 0x0507
      (s.fabricBytes (0xF6000 + 4 * fieldAt m.payload 0 2) (4 * fieldAt m.payload 2 2)))) ∧
  (∀ (g : Half) (body : List Byte), ∀ (s : State) (m : Msg), s.offers m 0x0802 inAll (exactFault []) →
      s.tag.current = some (g, body) → exec (.tagRecord m) s = .next (s.served.done m 0x0802
      (leBytes 2 g.toNat ++ leBytes 2 body.length ++ body))) ∧
  (∀ (s : State) (m : Msg), s.offers m 0x0802 inAll (exactFault []) → s.tag.current = none →
    exec (.tagRecord m) s = .next (s.served.refused m 0x0802 0x0015)) ∧
  (∀ (s : State) (m : Msg), s.offers m 0x0803 inAll (exactFault []) →
      exec (.tagInfo m) s = .next (s.served.done m 0x0803
      (leBytes 8 tagUid.toNat ++ leBytes 2 s.tag.lockedCount ++ [if s.tag.fieldLock then 1 else 0, 0])))

/-- BOOKS, PAIR-STATUS, JOURNAL-STATUS, JOURNAL-READ, EVENTS, PORT-STATS, SIEVE-HITS, COUNTERS and TAP-READ report,
and clear as asked. BOOKS gives the counts of cells with AUDIT, PAIR-STATUS the pair's registers with the peer's,
JOURNAL-STATUS the sequences and the state, JOURNAL-READ whole records from the number asked, each changing nothing; a
read that finds bit errors is answered too, and the pages read are checked as the scrub checks them.
EVENTS gives both flag fields and clears them. PORT-STATS, SIEVE-HITS and COUNTERS give their counts and clear what
the CLEAR flag names, in the same act. TAP-READ on an empty HOST view gives the end mark alone. -/
def Obligations.QueriesReportTheRoadAndClearWhatTheyMay : Prop :=
  (∀ (s : State) (m : Msg), s.offers m 0x040B inAll (exactFault []) →
      exec (.books m) s = .next (s.served.done m 0x040B
      (leBytes 2 s.freeCount ++ leBytes 2 s.reservedCount ++ leBytes 2 s.heldCount ++ leBytes 2 s.voidedCount ++
        leBytes 2 (min s.freeCount 128) ++ leBytes 2 s.power.audit.toNat))) ∧
  (∀ (s : State) (m : Msg), s.offers m 0x0604 inAll (exactFault []) → s.pair.peer = none →
      exec (.pairStatus m) s = .next (s.served.done m 0x0604
      (leBytes 2 s.pairStat.toNat ++ List.replicate 6 0 ++ leBytes 4 s.settings.digest.toNat ++ leBytes 4 0 ++
        leBytes 4 (BitVec.ofInt 32 s.pair.skew).toNat ++ leBytes 4 s.pair.lastMirrored.toNat))) ∧
  (∀ (s : State) (m : Msg), s.offers m 0x0604 inAll (exactFault []) → ∃ t, exec (.pairStatus m) s = .next t ∧
      (∃ p, Replied s t m 0x0604 0 p ∧ p.length = 24 ∧ p.take 2 = leBytes 2 s.pairStat.toNat) ∧
          Only [.replies, .work] s t) ∧
  (∀ (s : State) (m : Msg), s.offers m 0x0701 inAll (exactFault []) → ∃ t, exec (.journalStatus m) s = .next t ∧
      (∃ p, Replied s t m 0x0701 0 p ∧ p.length = 24 ∧
        p.take 8 = leBytes 4 s.journal.accepted.toNat ++ leBytes 4 s.journal.durable.toNat ∧
        bytesAt p 12 4 = leBytes 2 s.journal.boot.toNat ++ leBytes 2 s.journal.state) ∧ Only [.replies, .work] s t) ∧
  (∀ (s : State) (m : Msg), s.offers m 0x0702 inWork (exactFault [anyFld 4, range 2 64 4080, anyFld 2]) →
      s.formatBusy = false → (∀ r, r ∈ s.journal.records → r.seq.toNat < fieldAt m.payload 0 4) →
      ∀ e, exec (.journalRead m e) s = .next (s.served.done m 0x0702 [])) ∧
  (∀ (s : State) (m : Msg) (r : Rec) (rest : List Rec), s.offers m 0x0702 inWork (exactFault [anyFld 4, range 2 64 4080, anyFld 2]) → s.formatBusy = false →
      s.journal.records.dropWhile (fun r => decide (r.seq.toNat < fieldAt m.payload 0 4)) = r :: rest →
      r.bytes.length ≤ fieldAt m.payload 4 2 → ∃ t, exec (.journalRead m []) s = .next t ∧
      (∃ p, Replied s t m 0x0702 0 (r.bytes ++ p) ∧ (r.bytes ++ p).length ≤ fieldAt m.payload 4 2) ∧
      Only [.replies, .work] s t) ∧
  (∀ (s : State) (m : Msg) (e : List (List Nat)), s.offers m 0x0702 inWork (exactFault [anyFld 4, range 2 64 4080, anyFld 2]) →
      s.formatBusy = false →
    ∃ t c p, exec (.journalRead m e) s = .next t ∧ (c = 0 ∨ c = 0x0015) ∧
      Replied (s.served.checkPages (fieldAt m.payload 0 4) e) t m 0x0702 c p ∧
      t.journal = (s.served.checkPages (fieldAt m.payload 0 4) e).journal ∧ Only (parts (.journalRead m e)) s t) ∧
  (∀ (s : State) (m : Msg), s.offers m 0x0109 inAll (exactFault []) →
      exec (.events m) s = .next ((s.served.setSettings fun g => { g with devFlags := 0, portFlags := 0 }).done m 0x0109
      (leBytes 2 s.settings.devFlags.toNat ++ leBytes 8 s.settings.portFlags.toNat))) ∧
  (∀ (s : State) (m : Msg) (p : PortNo), s.offers m 0x0205 inAll (exactFault [upTo 1 47, anyFld 1]) →
      byteAt m.payload 0 = p.val →
      ∃ t, exec (.portStats m) s = .next t ∧
      (∃ r, Replied s t m 0x0205 0 r ∧ r.length = 40 ∧ r.take 16 = leBytes 4 (s.port p).stats.sentences ++
        leBytes 4 (s.port p).stats.characters ++ leBytes 4 (s.port p).stats.flawed ++ leBytes 4 (s.port p).stats.checksum) ∧
      (t.port p).stats = (if byteAt m.payload 1 % 2 = 1 then PortStats.reset else (s.port p).stats) ∧
      (∀ q, q ≠ p → t.port q = s.port q) ∧ Only [.replies, .work, .ports] s t) ∧
  (∀ (s : State) (m : Msg), s.offers m 0x0304 inAll sieveHitsFault → ∃ t, exec (.sieveHits m) s = .next t ∧
      Replied s t m 0x0304 0 (((List.range (fieldAt m.payload 2 2)).map fun i =>
        leBytes 4 (s.sieve.hits.get (Fin.ofNat 512 (fieldAt m.payload 0 2 + i)))).flatten) ∧
      (∀ r : Fin 512, t.sieve.hits.get r = if byteAt m.payload 4 % 2 = 1 ∧ fieldAt m.payload 0 2 ≤ r.val ∧
        r.val < fieldAt m.payload 0 2 + fieldAt m.payload 2 2 then 0 else s.sieve.hits.get r) ∧
      Only [.replies, .work, .sieve] s t) ∧
  (∀ (s : State) (m : Msg), s.offers m 0x0906 inAll (exactFault [upTo 1 5, anyFld 1]) →
      ∃ t, exec (.counters m) s = .next t ∧
      Replied s t m 0x0906 0 ([BitVec.ofNat 8 (byteAt m.payload 0), 0] ++
        ((s.counterGroup (byteAt m.payload 0)).map fun v => leBytes 4 (min 0xFFFFFFFF v)).flatten) ∧
      (byteAt m.payload 1 % 2 = 1 → ∀ v, v ∈ t.counterGroup (byteAt m.payload 0) → v = 0) ∧
      (byteAt m.payload 1 % 2 = 0 → Only [.replies, .work] s t) ∧ Only (parts (.counters m)) s t) ∧
  (∀ (s : State) (m : Msg), s.offers m 0x0409 inWork (exactFault [range 2 376 4088]) → s.tapHead viewHost = none →
      exec (.tapRead m) s = .next (s.served.done m 0x0409 [0, 0, 0, 0xFF])) ∧
  (∀ (s : State) (m : Msg) (i : Item), s.offers m 0x0409 inWork (exactFault [range 2 376 4088]) →
      s.tapHead viewHost = some i →
      24 + (pad4 i.payload).length ≤ fieldAt m.payload 0 2 → ∃ t, exec (.tapRead m) s = .next t ∧
      (∃ p, Replied s t m 0x0409 0 (s.memBytes (cellAt (i.cells.getD 0 0)) 24 ++ pad4 i.payload ++ p)) ∧
      (∀ l, l ∈ (t.view viewHost).queue → l.item ≠ i.id) ∧ Only (parts (.tapRead m)) s t)

/-- SET-EPOCH, HOST-WATCH, HEARTBEAT, ALARM-SET, JOURNAL-KINDS, MGMT-SET and DESIGNATE store their fields, are counted
and answered. Each of these change commands, served with good fields, stores them in its setting, is answered once
with status 0 and no payload, and is counted with its instant and the digest of what is then in force. SET-EPOCH with
CLEAR forgets the epoch; on a standby it is refused with 0x0014. MGMT-SET takes effect at once where no transaction
runs, its disabled entries then reading status 4; else it waits for the transaction's end. DESIGNATE lists the ports
in order. -/
def Obligations.SettingsCommandsStoreTheirFields : Prop :=
  (∀ (s : State) (m : Msg), s.offers m 0x0102 inAll (epochFault s.takenAt.1) → s.pair.role ≠ .standby →
      ∃ t, exec (.setEpoch m) s = .next t ∧
    Replied s t m 0x0102 0 [] ∧ Counted s t ∧
    t.settings.epoch = (if fieldAt m.payload 14 2 % 2 = 1 then none else some {
      seconds := BitVec.ofNat 32 (fieldAt m.payload 0 4), micros := BitVec.ofNat 32 (fieldAt m.payload 4 4)
      instant := BitVec.ofNat 48 (fieldAt m.payload 8 6) }) ∧ Only (parts (.setEpoch m)) s t) ∧
  (∀ (s : State) (m : Msg), s.offers m 0x0102 inAll (epochFault s.takenAt.1) → s.pair.role = .standby →
    exec (.setEpoch m) s = .next (s.served.refused m 0x0102 0x0014)) ∧
  (∀ (s : State) (m : Msg), s.offers m 0x0105 inAll (exactFault [upTo 2 600]) → ∃ t, exec (.hostWatch m) s = .next t ∧
    Replied s t m 0x0105 0 [] ∧ Counted s t ∧
    t.settings.hostWatch.toNat = fieldAt m.payload 0 2 ∧ Only (parts (.hostWatch m)) s t) ∧
  (∀ (s : State) (m : Msg), s.offers m 0x0106 inAll (exactFault [upTo 2 3600]) →
      ∃ t, exec (.heartbeat m) s = .next t ∧
    Replied s t m 0x0106 0 [] ∧ Counted s t ∧
    t.settings.heartbeat.toNat = fieldAt m.payload 0 2 ∧ Only (parts (.heartbeat m)) s t) ∧
  (∀ (s : State) (m : Msg), s.offers m 0x0509 inAll alarmSetFault → ∃ t, exec (.alarmSet m) s = .next t ∧
    Replied s t m 0x0509 0 [] ∧ Counted s t ∧
    [t.settings.alrTalker0, t.settings.alrTalker1] = m.payload.take 2 ∧
        t.settings.alrRepeat.toNat = fieldAt m.payload 2 2 ∧ Only (parts (.alarmSet m)) s t) ∧
  (∀ (s : State) (m : Msg), s.offers m 0x0705 inAll (exactFault [anyFld 2]) →
      ∃ t, exec (.journalKinds m) s = .next t ∧
    Replied s t m 0x0705 0 [] ∧ Counted s t ∧
    t.settings.sentences = decide (fieldAt m.payload 0 2 % 2 = 1) ∧ Only (parts (.journalKinds m)) s t) ∧
  (∀ (s : State) (m : Msg), s.offers m 0x0107 inAll scanSetFault → ∃ t, exec (.mgmtSet m) s = .next t ∧
    Replied s t m 0x0107 0 [] ∧ Counted s t ∧
    t.settings.mgmtFast = decide (byteAt m.payload 0 = 1) ∧
    (∀ i : Fin 16, (t.settings.scan.get i).toNat = fieldAt m.payload (2 + 8 * i.val) 8) ∧
    (s.mgmt.active = none → t.mgmt.setWaits = false ∧
      ∀ i : Fin 16, (t.settings.scan.get i).getLsbD 8 = false → (t.mgmt.results.get i).status = 4) ∧
    (s.mgmt.active ≠ none → t.mgmt = { s.mgmt with setWaits := true }) ∧ Only (parts (.mgmtSet m)) s t) ∧
  (∀ (s : State) (m : Msg), s.offers m 0x0408 inAll s.designateFault → ∃ t, exec (.designate m) s = .next t ∧
    Answered s t m 0x0408 0 [] ∧ Noted s t ∧
    t.settings.designated.map (fun p => p.val) = (m.payload.drop 1).map (fun b => b.toNat) ∧
        Only (parts (.designate m)) s t)

/-- PAIR-SET, PAIR-ARM, PAIR-DISARM, INJECT-ENABLE, INJECT-SET and INJECT-CLEAR store their fields, are counted and
answered. PAIR-SET stores the enable and the take-over time, but a standby that finds PL_DUTY_IN high is not
disabled (0x0014); the level comes with the command (log entry 160). PAIR-ARM arms a member of a formed pair without
SPLIT-CONFIG and is refused with 0x0014 elsewhere; PAIR-DISARM disarms. INJECT-ENABLE stores its flag and, off
outside PROBE, clears every slot. INJECT-SET writes the whole slot, keeping its count. INJECT-CLEAR clears one slot
or all and reports the injections made. Each is counted and answered with status 0. -/
def Obligations.PairAndInjectionCommandsStoreTheirFields : Prop :=
  (∀ (s : State) (m : Msg) (d : Bool), s.offers m 0x0601 inAll (exactFault [upTo 1 1, anyFld 1, range 2 2 100]) →
      ¬(byteAt m.payload 0 = 0 ∧ s.pair.role = .standby ∧ d = true) → ∃ t, exec (.pairSet m d) s = .next t ∧
    Answered s t m 0x0601 0 [] ∧ Noted s t ∧
    t.settings.pairEnable = decide (byteAt m.payload 0 = 1) ∧ t.settings.takeover.toNat = fieldAt m.payload 2 2 ∧
        Only (parts (.pairSet m d)) s t) ∧
  (∀ (s : State) (m : Msg), s.offers m 0x0601 inAll (exactFault [upTo 1 1, anyFld 1, range 2 2 100]) →
      byteAt m.payload 0 = 0 → s.pair.role = .standby →
    exec (.pairSet m true) s = .next ((s.served.setPair fun p => { p with dutyIn := true }).refused m 0x0601 0x0014)) ∧
  (∀ (s : State) (m : Msg), s.offers m 0x0602 inWork (exactFault []) → s.pair.formed = true →
      s.pair.splitConfig = false → ∃ t, exec (.pairArm m) s = .next t ∧
    Replied s t m 0x0602 0 [] ∧ Counted s t ∧
    t.pair = { s.pair with armed := true } ∧ Only (parts (.pairArm m)) s t) ∧
  (∀ (s : State) (m : Msg), s.offers m 0x0602 inWork (exactFault []) →
      s.pair.formed = false ∨ s.pair.splitConfig = true →
    exec (.pairArm m) s = .next (s.served.refused m 0x0602 0x0014)) ∧
  (∀ (s : State) (m : Msg), s.offers m 0x0603 inAll (exactFault []) → ∃ t, exec (.pairDisarm m) s = .next t ∧
    Replied s t m 0x0603 0 [] ∧ Counted s t ∧
    t.pair = { s.pair with armed := false } ∧ Only (parts (.pairDisarm m)) s t) ∧
  (∀ (s : State) (m : Msg), s.offers m 0x0901 inWork (exactFault [upTo 1 1, anyFld 1]) →
      ∃ t, exec (.injectEnable m) s = .next t ∧
    Replied s t m 0x0901 0 [] ∧ Counted s t ∧
    t.inject.enabled = decide (byteAt m.payload 0 = 1) ∧
    (byteAt m.payload 0 = 0 → s.mode ≠ .probe → ∀ k : Fin 16, (t.inject.slots.get k).used = false) ∧
    (byteAt m.payload 0 = 1 ∨ s.mode = .probe → t.inject.slots = s.inject.slots) ∧
        Only (parts (.injectEnable m)) s t) ∧
  (∀ (s : State) (m : Msg) (k : Fin 16), s.offers m 0x0902 inDiag injectFault → byteAt m.payload 0 = k.val →
      ∃ t, exec (.injectSet m) s = .next t ∧
    Replied s t m 0x0902 0 [] ∧ Counted s t ∧
    t.inject.slots.get k = { used := true, point := BitVec.ofNat 8 (byteAt m.payload 1), target := BitVec.ofNat 8 (byteAt m.payload 2), fault := BitVec.ofNat 8 (byteAt m.payload 3), bit := BitVec.ofNat 8 (byteAt m.payload 4), k := BitVec.ofNat 8 (byteAt m.payload 5), every := BitVec.ofNat 16 (fieldAt m.payload 6 2), lfsr := BitVec.ofNat 16 (fieldAt m.payload 8 2), prob := BitVec.ofNat 16 (fieldAt m.payload 10 2), steps := 0, count := (s.inject.slots.get k).count } ∧
    (∀ j, j ≠ k → t.inject.slots.get j = s.inject.slots.get j) ∧ Only (parts (.injectSet m)) s t) ∧
  (∀ (s : State) (m : Msg) (k : Fin 16), s.offers m 0x0903 inAll clearFault → byteAt m.payload 0 = k.val →
      ∃ t, exec (.injectClear m) s = .next t ∧
    Replied s t m 0x0903 0 (leBytes 4 (s.inject.slots.get k).count) ∧ Counted s t ∧
    (t.inject.slots.get k).used = false ∧ (∀ j, j ≠ k → t.inject.slots.get j = s.inject.slots.get j) ∧
        Only (parts (.injectClear m)) s t) ∧
  (∀ (s : State) (m : Msg), s.offers m 0x0903 inAll clearFault → byteAt m.payload 0 = 0xFF →
      ∃ t, exec (.injectClear m) s = .next t ∧
    (∃ n, Replied s t m 0x0903 0 (leBytes 4 n)) ∧ Counted s t ∧
    ∀ k : Fin 16, (t.inject.slots.get k).used = false ∧ Only (parts (.injectClear m)) s t)

/-- PORT-SET writes its row, PORT-RETIRE retires each side at its boundary, PORT-RETURN arms it again; a busy or
locked port refuses. PORT-SET, served, stores the 16 bytes of the row (but RATE of a hedge master with a bus slot,
which keeps the bus rate); a receive side at a sentence boundary, with no character in progress or waiting, has
adopted it where rows are in force. PORT-RETIRE of a side not yet retired is accepted with 0x0001; a receive side at
its boundary, and a view with no item on the line, are retired at once; it completes, counted, when every named side
is retired. PORT-RETURN clears the retirement of the named sides; a receive side that was retired and is not parked
is armed with an empty FIFO. Outside the cell pool no byte of memory changes but the 16 of the row. A port that an
accepted command touches answers 0x0012, a locked row 0x0013. -/
def Obligations.PortCommandsActOnTheirPort : Prop :=
  (∀ (s : State) (m : Msg) (p : PortNo), s.offers m 0x0201 inAll portSetFault → byteAt m.payload 0 = p.val →
      s.portBusy p.val = false → s.lockedAt (portRowAt p.val) = false → MemCanonical s →
    ∃ t, exec (.portSet m) s = .next t ∧
    Answered s t m 0x0201 0 [] ∧ Noted s t ∧
    (∀ k, k < 16 → k < 4 ∨ 8 ≤ k ∨ s.portBus p = none →
      Memory.read t.mem (0xF0000 + 32 * p.val + k) = m.payload.getD (4 + k) 0) ∧
    (∀ a, 0xC0000 ≤ a → a < portRowAt p.val ∨ portRowAt p.val + 16 ≤ a → Memory.read t.mem a = Memory.read s.mem a) ∧
    ((s.port p).asm.state = .hunt → (s.port p).edge = none → (s.port p).fifo = [] → s.rowsInForce = true →
        (t.port p).rxRow = t.portRow p ∧ (t.port p).rxAdopt = false) ∧ Only (parts (.portSet m)) s t) ∧
  (∀ (s : State) (m : Msg) (p : PortNo), s.offers m 0x0201 inAll portSetFault → byteAt m.payload 0 = p.val →
      s.portBusy p.val = true →
    exec (.portSet m) s = .next (s.served.refused m 0x0201 0x0012)) ∧
  (∀ (s : State) (m : Msg) (p : PortNo), s.offers m 0x0201 inAll portSetFault → byteAt m.payload 0 = p.val →
      s.portBusy p.val = false → s.lockedAt (portRowAt p.val) = true →
    exec (.portSet m) s = .next (s.served.refused m 0x0201 0x0013)) ∧
  (∀ (s : State) (m : Msg) (p : PortNo), s.offers m 0x0203 inWork sidesFault → byteAt m.payload 0 = p.val →
      s.portBusy p.val = false →
    (byteAt m.payload 1 % 2 = 1 ∧ (s.port p).rxRetired = false) ∨
      (byteAt m.payload 1 / 2 % 2 = 1 ∧ (s.view (portView p)).retired = false) →
          ∃ t, exec (.portRetire m) s = .next t ∧
    Answered s t m 0x0203 1 [] ∧
    (∃ rx tx, t.engine.accepted = s.engine.accepted ++ [{
      ch := m.ch, code := 0x0203, tag := m.tag, work := .portRetire p rx tx }]) ∧
    (byteAt m.payload 1 % 2 = 1 → (s.port p).rxRetired = false → (s.port p).asm.state = .hunt →
      (t.port p).rxRetired = true ∧ (t.port p).armed = false ∧ (t.port p).fifo = []) ∧
    (byteAt m.payload 1 / 2 % 2 = 1 → (s.view (portView p)).retired = false → (s.port p).tx.sending = none →
      (t.view (portView p)).retired = true) ∧ Only (parts (.portRetire m)) s t) ∧
  (∀ (s : State) (m : Msg) (p : PortNo), s.offers m 0x0203 inWork sidesFault → byteAt m.payload 0 = p.val →
      s.portBusy p.val = false → (byteAt m.payload 1 % 2 = 1 → (s.port p).rxRetired = true) →
    (byteAt m.payload 1 / 2 % 2 = 1 → (s.view (portView p)).retired = true) → ∃ t, exec (.portRetire m) s = .next t ∧
    Replied s t m 0x0203 0 [] ∧ Counted s t ∧ Only (parts (.portRetire m)) s t) ∧
  (∀ (s : State) (p : PortNo) (a : Accepted) (rx tx : Bool), s.serves = true → a ∈ s.engine.accepted →
    a.work = .portRetire p rx tx →
    (∀ b, b ∈ s.engine.accepted → (∃ x y, b.work = .portRetire p x y) → b = a) →
    (rx = true → (s.port p).rxRetired = true) → (tx = true → (s.view (portView p)).retired = true) →
    ∃ t, exec (.portRetireDone p) s = .next t ∧
      Answered s t { ch := a.ch, tag := a.tag, payload := [] } a.code.toNat 0 [] ∧ Noted s t ∧
      t.engine.accepted = s.engine.accepted.erase a ∧ Only (parts (.portRetireDone p)) s t) ∧
  (∀ (s : State) (m : Msg) (p : PortNo), s.offers m 0x0204 inWork sidesFault → byteAt m.payload 0 = p.val →
      s.portBusy p.val = false → ∃ t, exec (.portReturn m) s = .next t ∧
    Replied s t m 0x0204 0 [] ∧ Counted s t ∧
    (byteAt m.payload 1 % 2 = 1 → (t.port p).rxRetired = false ∧
      ((s.port p).rxRetired = true → (s.port p).parked = false →
        (t.port p).fifo = [] ∧ (t.port p).armed = (s.port p).hears)) ∧
    (byteAt m.payload 1 / 2 % 2 = 1 → (t.port p).txRetired = false ∧ (t.view (portView p)).retired = false) ∧
        Only (parts (.portReturn m)) s t) ∧
  (∀ (s : State) (m : Msg) (p : PortNo), s.offers m 0x0204 inWork sidesFault → byteAt m.payload 0 = p.val →
      s.portBusy p.val = true →
    exec (.portReturn m) s = .next (s.served.refused m 0x0204 0x0012))

/-- VIEW-SET, VIEW-FLUSH, INGRESS-FLUSH, SLUICE-FLUSH, VIEW-RETIRE and VIEW-RETURN act on what they name, or are
refused. VIEW-SET stores the host's fields of the row, leaving RETIRED and PARKED out of the stored byte, and stores
nowhere else. VIEW-FLUSH empties the view's queue, leaves what is in flight and reports the number flushed.
INGRESS-FLUSH puts the assembler of the port in HUNT and leaves no deferred or held item of it. SLUICE-FLUSH empties
every view, drops the items that wait for the Sieve and leaves every other uncommitted one VOID. VIEW-RETIRE retires
the view, with HWR as asked, keeps its items with it and empties its queue without it, and stores outside the cell
pool nowhere but in HWR. VIEW-RETURN returns it and reports the items held. All but SLUICE-FLUSH are refused with
0x0012 where an accepted command touches the port, VIEW-SET and VIEW-RETIRE with 0x0013 where a lock covers their
row; a refusal changes nothing but the answer. -/
def Obligations.SluiceCommandsActOnTheirViews : Prop :=
  (∀ (s : State) (m : Msg) (v : Fin 52), s.offers m 0x0401 inAll viewSetFault → byteAt m.payload 0 = v.val →
      s.viewBusy v.val = false → s.lockedAt (viewRowAt v.val) = false → MemCanonical s →
    ∃ t, exec (.viewSet m) s = .next t ∧
    Replied s t m 0x0401 0 [] ∧ Counted s t ∧
    Memory.read t.mem (0xF0800 + 16 * v.val) = m.payload.getD 4 0 ∧
    Memory.read t.mem (0xF0800 + 16 * v.val + 1) = m.payload.getD 5 0 &&& 0xF9 ∧
    Memory.read t.mem (0xF0800 + 16 * v.val + 2) = m.payload.getD 6 0 ∧
    Memory.read t.mem (0xF0800 + 16 * v.val + 3) = m.payload.getD 7 0 ∧
    (∀ a, a < 0xF0800 + 16 * v.val ∨ 0xF0800 + 16 * v.val + 4 ≤ a → Memory.read t.mem a = Memory.read s.mem a) ∧
        Only (parts (.viewSet m)) s t) ∧
  (∀ (s : State) (m : Msg) (v : Fin 52), s.offers m 0x0403 inAll (exactFault [upTo 1 0x33, anyFld 1]) →
      byteAt m.payload 0 = v.val → s.viewBusy v.val = false → ∃ t, exec (.viewFlush m) s = .next t ∧
    Replied s t m 0x0403 0 (leBytes 2 (s.view v).queue.length) ∧
    (t.view v).queue = [] ∧ (t.view v).inFlight = (s.view v).inFlight ∧ Only (parts (.viewFlush m)) s t) ∧
  (∀ (s : State) (m : Msg) (p : PortNo), s.offers m 0x0404 inWork (exactFault [upTo 1 47, anyFld 1]) →
      byteAt m.payload 0 = p.val → s.portBusy p.val = false → ∃ t, exec (.ingressFlush m) s = .next t ∧
    Answered s t m 0x0404 0 [] ∧ (t.port p).asm = Asm.reset ∧
    (∀ i, i ∈ t.sluice.items → isDeferred i = true ∨ isHeld i = true → i.source.toNat ≠ p.val) ∧
        Only (parts (.ingressFlush m)) s t) ∧
  (∀ (s : State) (m : Msg), s.offers m 0x0405 inWork (exactFault []) → ∃ t, exec (.sluiceFlush m) s = .next t ∧
    (∃ r, Replied s t m 0x0405 0 r ∧ r.length = 4) ∧ (∀ v, (t.view v).queue = []) ∧
    (∀ i, i ∈ t.sluice.items → i.place ≠ .committed → i.void = true) ∧ Only (parts (.sluiceFlush m)) s t) ∧
  (∀ (s : State) (m : Msg) (v : Fin 52), s.offers m 0x0406 inWork viewRetireFault → byteAt m.payload 0 = v.val →
      s.viewBusy v.val = false → s.lockedAt (viewRowAt v.val + 1) = false → MemCanonical s →
    ∃ t, exec (.viewRetire m) s = .next t ∧
    Replied s t m 0x0406 0 [] ∧ Counted s t ∧
    (t.view v).retired = true ∧ (byteAt m.payload 1 % 2 = 0 → (t.view v).queue = []) ∧
    (byteAt m.payload 1 % 2 = 1 → ∀ l, l ∈ (s.view v).queue → ∃ k, k ∈ (t.view v).queue ∧ k.item = l.item) ∧
    (Memory.read t.mem (0xF0800 + 16 * v.val + 1)).getLsbD 3 = decide (byteAt m.payload 1 % 2 = 1) ∧
    (∀ k, k ≠ 3 → (Memory.read t.mem (0xF0800 + 16 * v.val + 1)).getLsbD k =
      (Memory.read s.mem (0xF0800 + 16 * v.val + 1)).getLsbD k) ∧
    (∀ a, 0xC0000 ≤ a → a ≠ 0xF0800 + 16 * v.val + 1 → Memory.read t.mem a = Memory.read s.mem a) ∧
        Only (parts (.viewRetire m)) s t) ∧
  (∀ (s : State) (m : Msg) (v : Fin 52), s.offers m 0x0407 inWork (exactFault [upTo 1 0x33, anyFld 1]) →
      byteAt m.payload 0 = v.val → s.viewBusy v.val = false → ∃ t, exec (.viewReturn m) s = .next t ∧
    Replied s t m 0x0407 0 (leBytes 2 (if (s.view v).retired then (s.view v).queue.length else 0)) ∧
    Counted s t ∧ (t.view v).retired = false ∧ (t.view v).queue = (s.view v).queue ∧
        Only (parts (.viewReturn m)) s t) ∧
  (∀ (s : State) (m : Msg) (v : Fin 52), s.offers m 0x0401 inAll viewSetFault → byteAt m.payload 0 = v.val →
      s.viewBusy v.val = true →
    exec (.viewSet m) s = .next (s.served.refused m 0x0401 0x0012)) ∧
  (∀ (s : State) (m : Msg) (v : Fin 52), s.offers m 0x0406 inWork viewRetireFault → byteAt m.payload 0 = v.val →
      s.viewBusy v.val = true →
    exec (.viewRetire m) s = .next (s.served.refused m 0x0406 0x0012)) ∧
  (∀ (s : State) (m : Msg) (p : PortNo), s.offers m 0x0404 inWork (exactFault [upTo 1 47, anyFld 1]) →
      byteAt m.payload 0 = p.val → s.portBusy p.val = true →
    exec (.ingressFlush m) s = .next (s.served.refused m 0x0404 0x0012)) ∧
  (∀ (s : State) (m : Msg) (v : Fin 52), s.offers m 0x0403 inAll (exactFault [upTo 1 0x33, anyFld 1]) →
      byteAt m.payload 0 = v.val → s.viewBusy v.val = true →
    exec (.viewFlush m) s = .next (s.served.refused m 0x0403 0x0012)) ∧
  (∀ (s : State) (m : Msg) (v : Fin 52), s.offers m 0x0407 inWork (exactFault [upTo 1 0x33, anyFld 1]) →
      byteAt m.payload 0 = v.val → s.viewBusy v.val = true →
    exec (.viewReturn m) s = .next (s.served.refused m 0x0407 0x0012)) ∧
  (∀ (s : State) (m : Msg) (v : Fin 52), s.offers m 0x0401 inAll viewSetFault → byteAt m.payload 0 = v.val →
      s.viewBusy v.val = false →
    s.lockedAt (viewRowAt v.val) = true → exec (.viewSet m) s = .next (s.served.refused m 0x0401 0x0013)) ∧
  (∀ (s : State) (m : Msg) (v : Fin 52), s.offers m 0x0406 inWork viewRetireFault → byteAt m.payload 0 = v.val →
      s.viewBusy v.val = false →
    s.lockedAt (viewRowAt v.val + 1) = true → exec (.viewRetire m) s = .next (s.served.refused m 0x0406 0x0013))

/-- SIEVE-LOAD writes the shadow bank, SIEVE-COMMIT swaps the banks and answers after the copy, WEIR-SET writes
rows, HOST-INJECT decides. With no copy running and no lock in the way, SIEVE-LOAD stores its rows in the shadow
bank and nowhere else, SIEVE-COMMIT with CRC 0 or the shadow bank's swaps the banks with every hit count at 0 and
answers only when the copy is done: the banks are then equal, the answer carries the digest and the change is
counted. While a copy runs, the first of them waits, and the commands after it wait behind it. Items that had ended
meet the old rules. The copy stores nowhere but in the bank it fills. WEIR-SET stores its rows but their token
fields, outside the cell pool nowhere else, and cuts the tokens to the new burst. HOST-INJECT of a device that is no
standby of a formed pair reports a rule and an outcome where cells are free, and 0x0015 where 128 or fewer are. -/
def Obligations.SieveAndWeirCommandsActOnTheirRows : Prop :=
  (∀ (s : State) (m : Msg), s.offers m 0x0301 inAll sieveLoadFault → s.sieve.copying = false → MemCanonical s →
    (∀ i, i < fieldAt m.payload 2 2 →
        s.lockedAt (sieveRowAt (!s.sieve.bankB) (fieldAt m.payload 0 2 + i)) = false) →
        ∃ t, exec (.sieveLoad m) s = .next t ∧
    Replied s t m 0x0301 0 [] ∧
    (∀ k, k < 16 * fieldAt m.payload 2 2 →
        Memory.read t.mem (sieveRowAt (!s.sieve.bankB) (fieldAt m.payload 0 2) + k) =
      m.payload.getD (4 + k) 0) ∧
    (∀ a, a < sieveRowAt (!s.sieve.bankB) (fieldAt m.payload 0 2) ∨
      sieveRowAt (!s.sieve.bankB) (fieldAt m.payload 0 2) + 16 * fieldAt m.payload 2 2 ≤ a →
      Memory.read t.mem a = Memory.read s.mem a) ∧ Only [.mem, .rows, .replies, .work] s t ∧
          Only (parts (.sieveLoad m)) s t) ∧
  (∀ (s : State) (m : Msg), s.sieve.copying = true →
    (s.offers m 0x0301 inAll sieveLoadFault → exec (.sieveLoad m) s = .next (s.served.setSieve fun v => { v with
      waiting := v.waiting ++ [{ commit := false, msg := m }] })) ∧
    (s.offers m 0x0302 inAll (exactFault [anyFld 4]) →
        exec (.sieveCommit m) s = .next (s.served.setSieve fun v => { v with
      waiting := v.waiting ++ [{ commit := true, msg := m }] }))) ∧
  (∀ (s : State) (m : Msg), s.offers m 0x0302 inAll (exactFault [anyFld 4]) → s.sieve.copying = false →
      (∀ k : Fin 4, s.lockedAt (0xF1000 + 0x1000 * k.val) = false) →
    (fieldAt m.payload 0 4 = 0 ∨ fieldAt m.payload 0 4 = (crc32 (s.memBytes (sieveRowAt (!s.sieve.bankB) 0) 8192)).toNat) → ∃ t, exec (.sieveCommit m) s = .next t ∧
    t.sieve.bankB = !s.sieve.bankB ∧ t.sieve.copying = true ∧ (∀ r : Fin 512, t.sieve.hits.get r = 0) ∧
    (∃ a, t.sieve.answer = some a ∧ a.ch = m.ch ∧ a.code = 0x0302 ∧ a.tag = m.tag ∧ a.payload = m.payload) ∧
    (∀ c, (t.chan c).replies = (s.chan c).replies) ∧
    ((∀ i, i ∈ s.sluice.items → i.place ≠ .ended) → Only [.work, .sieve] s t) ∧ Only (parts (.sieveCommit m)) s t) ∧
  (∀ s : State, s.alive = true → s.sieve.copying = true → MemCanonical s → s.sieve.answer = none →
      s.sieve.waiting = [] →
    ∃ t, exec .sieveCopyDone s = .next t ∧ t.sieve.copying = false ∧
      (∀ k, k < 8192 →
          Memory.read t.mem (sieveRowAt (!s.sieve.bankB) 0 + k) = Memory.read t.mem (sieveRowAt s.sieve.bankB 0 + k)) ∧
      t.sieve.activeCrc = crc32 (s.memBytes (sieveRowAt s.sieve.bankB 0) 8192) ∧
      (∀ a, a < sieveRowAt (!s.sieve.bankB) 0 ∨ sieveRowAt (!s.sieve.bankB) 0 + 8192 ≤ a →
        Memory.read t.mem a = Memory.read s.mem a) ∧ Only (parts .sieveCopyDone) s t) ∧
  (∀ (s : State) (a : Taken), s.alive = true → s.engine.up = true → s.sieve.copying = true → s.sieve.answer = some a →
    s.sieve.waiting = [] → (s.engine.taken.head?.all fun x => !x.malformed) = true →
        ∃ t, exec .sieveCopyDone s = .next t ∧ t.sieve.copying = false ∧ Counted s t ∧
      Replied s t { ch := a.ch, tag := a.tag, payload := [] } 0x0302 0 (leBytes 4 t.settings.digest.toNat) ∧
      Only (parts .sieveCopyDone) s t) ∧
  (∀ (s : State) (m : Msg), s.offers m 0x0305 inAll (rowsCommandFault 256 16 0 fun _ _ row => weirFault row) →
      s.lockedAt (weirRowAt (fieldAt m.payload 0 2)) = false → MemCanonical s → ∃ t, exec (.weirSet m) s = .next t ∧
    Replied s t m 0x0305 0 [] ∧ Counted s t ∧
    (∀ i k, i < fieldAt m.payload 2 2 → k < 16 → k ≠ 6 → k ≠ 7 →
      Memory.read t.mem (0xF5000 + 16 * (fieldAt m.payload 0 2 + i) + k) = m.payload.getD (4 + 16 * i + k) 0) ∧
    (∀ a, 0xC0000 ≤ a → (∀ i k, i < fieldAt m.payload 2 2 → k < 16 → k ≠ 6 → k ≠ 7 →
      a ≠ weirRowAt (fieldAt m.payload 0 2 + i) + k) → Memory.read t.mem a = Memory.read s.mem a) ∧
    (∀ g : GovNo, fieldAt m.payload 0 2 ≤ g.val → g.val < fieldAt m.payload 0 2 + fieldAt m.payload 2 2 →
      (t.gov g).tokens = min (s.gov g).tokens (t.weirRow g).full) ∧ Only (parts (.weirSet m)) s t) ∧
  (∀ (s : State) (m : Msg), s.offers m 0x0305 inAll (rowsCommandFault 256 16 0 fun _ _ row => weirFault row) →
      s.lockedAt (weirRowAt (fieldAt m.payload 0 2)) = true →
    exec (.weirSet m) s = .next (s.served.refused m 0x0305 0x0013)) ∧
  (∀ (s : State) (m : Msg), s.offers m 0x040A inWork (fun bs => if bs = [] then some 0 else if 352 < bs.length then some 352 else none) → ¬(s.pair.formed = true ∧ s.pair.role = .standby) → 128 + cellsFor m.payload.length ≤ s.freeCount →
    ∃ t, exec (.hostInject m) s = .next t ∧
    (∃ rule outcome, Replied s t m 0x040A 0 (leBytes 2 rule ++ leBytes 2 outcome) ∧ rule < 512 ∧ outcome ≤ 4) ∧
        Only (parts (.hostInject m)) s t) ∧
  (∀ (s : State) (m : Msg), s.offers m 0x040A inWork (fun bs => if bs = [] then some 0 else if 352 < bs.length then some 352 else none) → ¬(s.pair.formed = true ∧ s.pair.role = .standby) → s.freeCount ≤ 128 →
    exec (.hostInject m) s = .next (s.served.refused m 0x040A 0x0015)) ∧
  (∀ (s : State) (m : Msg), s.offers m 0x040A inWork (fun bs => if bs = [] then some 0 else if 352 < bs.length then some 352 else none) → s.pair.formed = true → s.pair.role = .standby →
    exec (.hostInject m) s = .next (s.served.refused m 0x040A 0x0014))

/-- HEDGE-SET and HEAD-SET store their rows; HEAD-RETIRE retires a head with its lamps; HEAD-RETURN is accepted and
ends rejoined or SILENT. HEDGE-SET stores the first six bytes of the bus row and the RATE of its master port. HEAD-SET
stores the four bytes of the head row. Outside the cell pool neither stores anywhere else. HEAD-RETIRE of a configured
head, with no exchange with it outstanding, retires it, and on a lone or duty device its lamps; with one outstanding
it waits for its end. HEAD-RETURN is accepted with 0x0001, and joins the head where the bus runs or leaves it SILENT;
the completion carries 0 or 1, and its RETIRED lamps take RETURNING. A lamp whose change waits behind an
alarm for a cell takes its state later (log entry 152). A port without a bus slot is rejected at offset
0, a head that is not configured at offset 1 (log entry 28). -/
def Obligations.HedgeCommandsActOnTheirBus : Prop :=
  (∀ (s : State) (m : Msg) (p : PortNo) (b : BusNo), s.offers m 0x0501 inAll (exactFault [upTo 1 47, upTo 1 3, range 2 10 10000, range 1 3 20, anyFld 1]) → byteAt m.payload 0 = p.val → s.slotFor p = some b → s.portBusy p.val = false → s.lockedAt (busRowAt b.val) = false →
    s.lockedAt (portRowAt p.val) = false → MemCanonical s → ∃ t, exec (.hedgeSet m) s = .next t ∧
    Answered s t m 0x0501 0 [] ∧ Noted s t ∧
    (∀ k, k < 6 → Memory.read t.mem (busRowAt b.val + k) = m.payload.getD k 0) ∧
    (∀ k, k < 4 →
        Memory.read t.mem (portRowAt p.val + 4 + k) = (leBytes 4 (hedgeRate (byteAt m.payload 1))).getD k 0) ∧
    (∀ a, 0xC0000 ≤ a → (a < busRowAt b.val ∨ busRowAt b.val + 6 ≤ a) →
      (a < portRowAt p.val + 4 ∨ portRowAt p.val + 8 ≤ a) → Memory.read t.mem a = Memory.read s.mem a) ∧
          Only (parts (.hedgeSet m)) s t) ∧
  (∀ (s : State) (m : Msg) (p : PortNo), s.offers m 0x0501 inAll (exactFault [upTo 1 47, upTo 1 3, range 2 10 10000, range 1 3 20, anyFld 1]) → byteAt m.payload 0 = p.val → s.slotFor p = none →
    exec (.hedgeSet m) s = .next (s.served.refused m 0x0501 0x0015)) ∧
  (∀ (s : State) (m : Msg) (b : BusNo) (h : HeadNo), s.offers m 0x0502 inAll (exactFault [upTo 1 47, range 1 1 30, anyFld 2, anyFld 8]) → s.headNamed m.payload = some (b, h) → s.headBusy b h = false →
    s.lockedAt (headRowAt b.val h.val) = false → MemCanonical s → ∃ t, exec (.headSet m) s = .next t ∧
    Replied s t m 0x0502 0 [] ∧ Counted s t ∧
    (∀ k, k < 4 → Memory.read t.mem (headRowAt b.val h.val + k) = m.payload.getD (4 + k) 0) ∧
    (∀ a, a < headRowAt b.val h.val ∨ headRowAt b.val h.val + 4 ≤ a → Memory.read t.mem a = Memory.read s.mem a) ∧
        Only (parts (.headSet m)) s t) ∧
  (∀ (s : State) (m : Msg) (b : BusNo) (h : HeadNo), s.offers m 0x0504 inWork (exactFault [upTo 1 47, range 1 1 30]) → s.headNamed m.payload = some (b, h) → (s.headRow b h).configured = true →
    s.headBusy b h = false → (∀ x, (s.bus b).exchange = some x → x.cmd.head ≠ h) →
        ∃ t, exec (.headRetire m) s = .next t ∧
    Replied s t m 0x0504 0 [] ∧ Counted s t ∧
    (t.head b h).state = hsRetired ∧
    (s.pair.role ≠ .standby → t.sluice.alarmWaits = [] → ∀ l, lampUsed (s.lamp l).row = true →
      lampBus (s.lamp l).row = b → lampHead (s.lamp l).row = h.val + 1 → (t.lamp l).state = stRetired) ∧
          Only (parts (.headRetire m)) s t) ∧
  (∀ (s : State) (m : Msg) (b : BusNo) (h : HeadNo) (x : Exchange), s.offers m 0x0504 inWork (exactFault [upTo 1 47, range 1 1 30]) → s.headNamed m.payload = some (b, h) → (s.headRow b h).configured = true →
    s.headBusy b h = false → (s.bus b).exchange = some x → x.cmd.head = h → ∃ t, exec (.headRetire m) s = .next t ∧
    (∃ a, (t.bus b).retire = some (h, a) ∧ a.ch = m.ch ∧ a.code = 0x0504 ∧ a.tag = m.tag) ∧
        Only [.work, .buses] s t ∧ Only (parts (.headRetire m)) s t) ∧
  (∀ (s : State) (m : Msg) (b : BusNo) (h : HeadNo), s.offers m 0x0505 inWork (exactFault [upTo 1 47, range 1 1 30]) → s.headNamed m.payload = some (b, h) → (s.headRow b h).configured = true →
    s.headBusy b h = false → ∃ t, exec (.headReturn m) s = .next t ∧
    Replied s t m 0x0505 1 [] ∧
    t.engine.accepted = s.engine.accepted ++ [{ ch := m.ch, code := 0x0505, tag := m.tag, work := .headReturn b h (s.head b h).state }] ∧
    (s.hedgeOn b = true → (s.bus b).state ≠ .stopped → (s.bus b).state ≠ .blind → (t.head b h).state = hsJoining) ∧
    (s.hedgeOn b = false ∨ (s.bus b).state = .stopped ∨ (s.bus b).state = .blind → (t.head b h).state = hsSilent) ∧
        Only (parts (.headReturn m)) s t) ∧
  (∀ (s : State) (b : BusNo) (h : HeadNo) (silent : Bool) (a : Accepted) (x : BitVec 3), s.serves = true →
    a ∈ s.engine.accepted → a.work = .headReturn b h x →
    (∀ c, c ∈ s.engine.accepted → (∃ y, c.work = .headReturn b h y) → c = a) →
    (silent = true → (s.head b h).state = hsSilent) → (silent = false → s.rejoined b h = true) →
    ∃ t, exec (.headReturnDone b h silent) s = .next t ∧
      Replied s t { ch := a.ch, tag := a.tag, payload := [] } a.code.toNat 0 [if silent then 1 else 0] ∧ Counted s t ∧
      t.engine.accepted = s.engine.accepted.erase a ∧
      (s.pair.role ≠ .standby → t.sluice.alarmWaits = [] → ∀ l, lampUsed (s.lamp l).row = true →
        lampBus (s.lamp l).row = b → lampHead (s.lamp l).row = h.val + 1 → (s.lamp l).state = stRetired →
        (t.lamp l).state = stReturning) ∧
      Only (parts (.headReturnDone b h silent)) s t) ∧
  (∀ (s : State) (m : Msg), s.offers m 0x0502 inAll (exactFault [upTo 1 47, range 1 1 30, anyFld 2, anyFld 8]) →
      s.headNamed m.payload = none →
    exec (.headSet m) s = .next (s.served.badAt m 0x0502 0)) ∧
  (∀ (s : State) (m : Msg), s.offers m 0x0504 inWork (exactFault [upTo 1 47, range 1 1 30]) →
      s.headNamed m.payload = none →
    exec (.headRetire m) s = .next (s.served.badAt m 0x0504 0)) ∧
  (∀ (s : State) (m : Msg), s.offers m 0x0505 inWork (exactFault [upTo 1 47, range 1 1 30]) →
      s.headNamed m.payload = none →
    exec (.headReturn m) s = .next (s.served.badAt m 0x0505 0)) ∧
  (∀ (s : State) (m : Msg) (b : BusNo) (h : HeadNo), s.offers m 0x0504 inWork (exactFault [upTo 1 47, range 1 1 30]) → s.headNamed m.payload = some (b, h) → (s.headRow b h).configured = false →
    exec (.headRetire m) s = .next (s.served.badAt m 0x0504 1)) ∧
  (∀ (s : State) (m : Msg) (b : BusNo) (h : HeadNo), s.offers m 0x0505 inWork (exactFault [upTo 1 47, range 1 1 30]) → s.headNamed m.payload = some (b, h) → (s.headRow b h).configured = false →
    exec (.headReturn m) s = .next (s.served.badAt m 0x0505 1))

/-- Before RUN a line feeds only its first-second block: starts, characters, the recognised rate, BREAK-SEEN and
STUCK-SEEN. While the first-second counters watch the lines, a start edge adds 1 to the start count, saturating; a
framed character at a known rate adds 1 to the character count; a recognised character sets the rate hint to the bit
time in Tally periods, notes the rate and counts; a character counts once, however it was found; a long space sets
its flag. No byte outside the count and the flag byte of that port changes, and no FIFO. A preset within 3 % of the
measured rate is the rate. -/
def Obligations.PortLinesBeforeRun : Prop :=
  (∀ (s : State) (p : PortNo) (m : Nat), s.watches = true → MemCanonical s →
    ∃ t, exec (.startEdge p m) s = .next t ∧
      t.memField (firstSecondAt p.val) 2 = min 65535 (s.memField (firstSecondAt p.val) 2 + 1) ∧
      (t.port p).space = true ∧ (t.port p).counted = false ∧ (t.port p).fifo = (s.port p).fifo ∧
      (∀ a, a < firstSecondAt p.val ∨ firstSecondAt p.val + 7 ≤ a → Memory.read t.mem a = Memory.read s.mem a) ∧
      Only (parts (.startEdge p m)) s t) ∧
  (∀ (s : State) (p : PortNo) (l : List Samples) (r : List Nat) (x y : Samples), s.watches = true → MemCanonical s →
      (s.port p).firstRate ≠ 0 → (s.port p).counted = false → l[0]? = some x → x.b = false → l[9]? = some y →
      y.b = true →
    ∃ t, exec (.characterStored p l r) s = .next t ∧
      t.memField (firstSecondAt p.val + 2) 2 = min 65535 (s.memField (firstSecondAt p.val + 2) 2 + 1) ∧
      (t.port p).counted = true ∧ (t.port p).fifo = (s.port p).fifo ∧
      (∀ a, a < firstSecondAt p.val + 2 ∨ firstSecondAt p.val + 7 ≤ a → Memory.read t.mem a = Memory.read s.mem a) ∧
      Only (parts (.characterStored p l r)) s t) ∧
  (∀ (s : State) (p : PortNo) (e : Edges) (r : List Nat), s.watches = true → MemCanonical s →
      edgesCharacter e ≠ none →
    ∃ t, exec (.autobaudAccept p e r) s = .next t ∧ (t.port p).firstRate = edgesRate e ∧
      t.memField (firstSecondAt p.val + 4) 2 = edgesHint e % 65536 ∧
      (t.port p).counted = true ∧ t.memField (firstSecondAt p.val + 2) 2 =
        (if (s.port p).counted = true ∧ (s.port p).firstRate = edgesRate e then s.memField (firstSecondAt p.val + 2) 2
          else min 65535 (s.memField (firstSecondAt p.val + 2) 2 + 1)) ∧
      (t.port p).fifo = (s.port p).fifo ∧ Only (parts (.autobaudAccept p e r)) s t) ∧
  (∀ (s : State) (p : PortNo) (l : List Samples) (r : List Nat), s.watches = true → (s.port p).counted = true →
    exec (.characterStored p l r) s = .next s) ∧
  (∀ (s : State) (p : PortNo), s.watches = true → MemCanonical s →
    ∃ t, exec (.breakSeen p) s = .next t ∧
      Memory.read t.mem (firstSecondAt p.val + 6) = Memory.read s.mem (firstSecondAt p.val + 6) ||| 1 ∧
      (∀ a, a ≠ firstSecondAt p.val + 6 → Memory.read t.mem a = Memory.read s.mem a) ∧
      Only (parts (.breakSeen p)) s t) ∧
  (∀ (s : State) (p : PortNo), s.watches = true → MemCanonical s →
    ∃ t, exec (.stuckSeen p) s = .next t ∧
      Memory.read t.mem (firstSecondAt p.val + 6) = Memory.read s.mem (firstSecondAt p.val + 6) ||| 2 ∧
      (∀ a, a ≠ firstSecondAt p.val + 6 → Memory.read t.mem a = Memory.read s.mem a) ∧
      Only (parts (.stuckSeen p)) s t) ∧
  (∀ (s : State) (p : PortNo), s.watches = false → exec (.breakSeen p) s = .next s) ∧
  (∀ (s : State) (p : PortNo), s.watches = false → exec (.stuckSeen p) s = .next s) ∧
  (∀ (e : Edges) (r : Nat), r ∈ ratePresets → 97 * 9000000000 ≤ 100 * r * e.e6 → 100 * r * e.e6 ≤ 103 * 9000000000 →
    edgesRate e = r)

/-- A start edge latches the stamp; a decided character is stored with it and its tags, or is lost, muted or a
glitch. Where the receive side runs, a falling edge keeps its stamp among the last three, and as the start edge
where the port does not hunt, no character is under way and the line has been at mark as long as a start edge needs.
A character whose start bit reads mark is a glitch, counted and not stored. Any other joins the FIFO with its tags
and its start edge's stamp (after a waking character that was not caught, the waking edge's), AFTER-LOSS and WOKE
where they are due; with 64 waiting it is lost and counted; a muted port stores no data character and does not count
it in FRAMERUN. A recognition ends the hunt, sets the rate and stores the character under edge 1, where edges 1, 3
and 5 have fallen since the side was armed. Without a start edge nothing happens. -/
def Obligations.PortLinesInTheWorkingModes : Prop :=
  (∀ (s : State) (p : PortNo) (m : Nat), s.watches = false → s.alive = true → s.roadRuns = true ∨ s.mode = .doze →
      (s.port p).armed = true → (s.port p).stuck = false →
    ∃ t, exec (.startEdge p m) s = .next t ∧ (t.port p).falls = ((s.now, s.doubtNow) :: (s.port p).falls).take 3 ∧
      (t.port p).edge = (if (s.port p).starts m s.now then some (s.now, s.doubtNow) else (s.port p).edge) ∧
      (t.port p).silent = false ∧
      ((s.port p).silent = true → t.settings.portFlags = s.settings.portFlags ||| BitVec.ofNat 48 (2 ^ p.val)) ∧
      (t.port p).fifo = (s.port p).fifo ∧ Only (parts (.startEdge p m)) s t) ∧
  (∀ (s : State) (p : PortNo) (l : List Samples) (r : List Nat) (x : Samples) (st : Stamp × Bool), s.watches = false → s.receives p = true → (s.port p).edge = some st → (s.port p).hunting = false → l.head? = some x → sampleBit x (s.port p).rx.spot = false → (s.port p).rx.mute = false → (s.port p).fifo.length < 64 →
    ∃ t, exec (.characterStored p l r) s = .next t ∧ (t.port p).edge = none ∧ (t.port p).afterLoss = false ∧
      (t.port p).wokeNext = false ∧
      (∃ valid, (t.port p).fifo = (s.port p).fifo ++ [{
        bits := decidedEntry (s.port p).rx s.power.vanaGood l ||| tagIf (s.port p).afterLoss 0x2000 |||
          tagIf (s.port p).wokeNext 0x8000
        stamp := (if (s.port p).wokeNext then (s.port p).wokeEdge.getD st else st).1
        doubt := (if (s.port p).wokeNext then (s.port p).wokeEdge.getD st else st).2
        reading := if (s.port p).rx.bypass then none else some (readingOf r), valid := valid }]) ∧
            Only (parts (.characterStored p l r)) s t) ∧
  (∀ (s : State) (p : PortNo) (l : List Samples) (r : List Nat) (x : Samples) (st : Stamp × Bool), s.watches = false → s.receives p = true → (s.port p).edge = some st → (s.port p).hunting = false → l.head? = some x → sampleBit x (s.port p).rx.spot = false → (s.port p).rx.mute = false → 64 ≤ (s.port p).fifo.length →
    ∃ t, exec (.characterStored p l r) s = .next t ∧ (t.port p).fifo = (s.port p).fifo ∧
      (t.port p).afterLoss = true ∧ (t.port p).stats.afterLoss = min 0xFFFFFFFF ((s.port p).stats.afterLoss + 1) ∧
      Only (parts (.characterStored p l r)) s t) ∧
  (∀ (s : State) (p : PortNo) (l : List Samples) (r : List Nat) (x : Samples) (st : Stamp × Bool), s.watches = false → s.receives p = true → (s.port p).edge = some st → (s.port p).hunting = false → l.head? = some x → sampleBit x (s.port p).rx.spot = true →
    ∃ t, exec (.characterStored p l r) s = .next t ∧ (t.port p).fifo = (s.port p).fifo ∧ (t.port p).edge = none ∧
      (t.port p).space = false ∧ (t.port p).stats.glitches = min 0xFFFFFFFF ((s.port p).stats.glitches + 1) ∧
      Only (parts (.characterStored p l r)) s t) ∧
  (∀ (s : State) (p : PortNo) (l : List Samples) (r : List Nat) (x : Samples) (st : Stamp × Bool), s.watches = false → s.receives p = true → (s.port p).edge = some st → (s.port p).hunting = false → l.head? = some x → (s.port p).rx.mute = true → (s.port p).unmuted = false → (decidedEntry (s.port p).rx s.power.vanaGood l).getLsbD 8 = false →
    ∃ t, exec (.characterStored p l r) s = .next t ∧ (t.port p).fifo = (s.port p).fifo ∧ (t.port p).edge = none ∧
      (t.port p).frameRun = (s.port p).frameRun ∧ Only (parts (.characterStored p l r)) s t) ∧
  (∀ (s : State) (p : PortNo) (e : Edges) (r : List Nat), s.watches = false → (s.port p).falls[2]? = none →
    exec (.autobaudAccept p e r) s = .next s) ∧
  (∀ (s : State) (p : PortNo) (l : List Samples) (r : List Nat), s.watches = false → (s.port p).edge = none →
      exec (.characterStored p l r) s = .next s) ∧
  (∀ (s : State) (p : PortNo) (e : Edges) (r : List Nat) (c : Byte) (st : Stamp × Bool), s.watches = false →
      s.receives p = true → (s.port p).hunting = true → s.mode ≠ .doze → edgesCharacter e = some c →
      (s.port p).falls[2]? = some st → (s.port p).fifo.length < 64 →
    ∃ t, exec (.autobaudAccept p e r) s = .next t ∧ (t.port p).hunting = false ∧ (t.port p).rateNow = edgesRate e ∧
      (∃ x, (t.port p).fifo = (s.port p).fifo ++ [x] ∧ x.bits.setWidth 8 = c ∧ 
        (x.stamp, x.doubt) = (if (s.port p).wokeNext then (s.port p).wokeEdge.getD st else st)) ∧
      Only (parts (.autobaudAccept p e r)) s t) ∧
  (∀ (s : State) (p : PortNo) (e : Edges) (r : List Nat), edgesCharacter e = none →
      exec (.autobaudAccept p e r) s = .next s)

/-- STUCK, REARMED, SILENT and the driver's thermal shutdown: their conditions, and the port flag of EVENTS that
each sets. A talker whose line stayed at space becomes STUCK, stops storing and forgets its edges, in DOZE with its
RTS high; at REARMED it is no longer STUCK and an autobaud port hunts. A talker with SILENCE set, neither parked nor
retired, becomes SILENT. A differential driver too hot goes high-impedance with nothing on the line; a cooled one is
enabled where it is due. Each is a port event that sets the port's flag of EVENTS. -/
def Obligations.PortConditionsAndTheirEvents : Prop :=
  (∀ (s : State) (p : PortNo), s.stuckTimed p = true → (s.port p).stuck = false →
    ∃ t, exec (.portStuck p) s = .next t ∧ (t.port p).stuck = true ∧ (t.port p).edge = none ∧
      (t.port p).fifo = (s.port p).fifo ∧ t.receives p = false ∧ (s.mode = .doze → (t.port p).rts = false) ∧
      t.settings.portFlags = s.settings.portFlags ||| BitVec.ofNat 48 (2 ^ p.val) ∧ Only (parts (.portStuck p)) s t) ∧
  (∀ (s : State) (p : PortNo), s.stuckTimed p = true → (s.port p).stuck = true →
    ∃ t, exec (.portRearmed p) s = .next t ∧ (t.port p).stuck = false ∧
      (t.port p).hunting = ((s.port p).hunting || (s.port p).rx.autobaud) ∧
      t.settings.portFlags = s.settings.portFlags ||| BitVec.ofNat 48 (2 ^ p.val) ∧
          Only (parts (.portRearmed p)) s t) ∧
  (∀ (s : State) (p : PortNo), s.roadRuns = true → (s.port p).isTalker = true → (s.port p).rx.silence ≠ 0 →
      (s.port p).parked = false → (s.port p).rxRetired = false → (s.port p).silent = false →
    ∃ t, exec (.silenceLapse p) s = .next t ∧ (t.port p).silent = true ∧ (t.port p).fifo = (s.port p).fifo ∧
      t.settings.portFlags = s.settings.portFlags ||| BitVec.ofNat 48 (2 ^ p.val) ∧
      Only (parts (.silenceLapse p)) s t) ∧
  (∀ (s : State) (p : PortNo), s.alive = true → (s.port p).driver = true ∨ s.mayDrive p = true →
      (s.port p).txc.bypass = false →
    (s.port p).hot = false →
    ∃ t, exec (.driverHot p) s = .next t ∧ (t.port p).hot = true ∧ (t.port p).driver = false ∧
      (t.port p).tx.sending = none ∧ (t.port p).fifo = (s.port p).fifo ∧
      t.settings.portFlags = s.settings.portFlags ||| BitVec.ofNat 48 (2 ^ p.val) ∧ Only (parts (.driverHot p)) s t) ∧
  (∀ (s : State) (p : PortNo), s.alive = true → (s.port p).hot = true →
    ∃ t, exec (.driverOk p) s = .next t ∧ (t.port p).hot = false ∧
      (t.port p).driver = (s.driverDue (s.port p).txc.tx && decide ((s.port p).loop ≠ .internal)) ∧
      t.settings.portFlags = s.settings.portFlags ||| BitVec.ofNat 48 (2 ^ p.val) ∧ Only (parts (.driverOk p)) s t) ∧
  (∀ (s : State) (p : PortNo), s.stuckTimed p = false → exec (.portStuck p) s = .next s) ∧
  (∀ (s : State) (p : PortNo), s.roadRuns = false → exec (.silenceLapse p) s = .next s) ∧
  (∀ (s : State) (p : PortNo), (s.port p).hot = false → exec (.driverOk p) s = .next s) ∧
  (∀ (s : State) (p : PortNo), (s.port p).txc.bypass = true → exec (.driverHot p) s = .next s)

/-- LAMP-SET, ALARM-ACK, LAMP-TEST and its doorbell, the lapse of a lamp, the end of a test and the repetition of an
alarm. LAMP-SET brings its rows into force: a row that keeps its lamp keeps its state, any other used row starts
UNCONFIRMED with HELD set, and lamps outside stay; outside the cell pool no byte of memory changes but those of the
rows. ALARM-ACK acknowledges exactly the named active alarms not yet acknowledged, none on a standby, and reports
their number. LAMP-TEST arms. The doorbell disarms every lamp and starts tests of action 1 on every used lamp: DARK,
injected. A lapse makes its lamp UNCONFIRMED with HELD, ACKED and INJECTED clear, rings doorbell 1 and
lists one tag event. A change whose alarm finds no cell waits with it
(log entry 152). The end of a test clears its flag; a lamp commanded off is commanded back. An alarm not
acknowledged is made again for the instant of its change. -/
def Obligations.LampsAreSetAcknowledgedTestedAndLapse : Prop :=
  (∀ (s : State) (m : Msg), s.offers m 0x0506 inAll s.lampSetFault →
      s.lockedAt (lampRowAt (fieldAt m.payload 0 2)) = false → ∃ t, exec (.lampSet m) s = .next t ∧
    Replied s t m 0x0506 0 [] ∧ Counted s t ∧
    (∀ (l : LampNo) (i : Nat), i < fieldAt m.payload 2 2 → l.val = fieldAt m.payload 0 2 + i →
      (t.lamp l).row.toNat = fieldAt m.payload (4 + 4 * i) 4 / 64 * 64 ∧
      (lampUsed (t.lamp l).row = true → sameLamp (s.lamp l).row (t.lamp l).row = true →
        t.lamp l = { s.lamp l with row := (t.lamp l).row }) ∧
      (lampUsed (t.lamp l).row = true → sameLamp (s.lamp l).row (t.lamp l).row = false →
        (t.lamp l).state = stUnconfirmed ∧ (t.lamp l).held = true ∧ (t.lamp l).acked = false)) ∧
    (∀ l : LampNo, l.val < fieldAt m.payload 0 2 ∨ fieldAt m.payload 0 2 + fieldAt m.payload 2 2 ≤ l.val →
      t.lamp l = s.lamp l) ∧
    (MemCanonical s → ∀ i k, i < fieldAt m.payload 2 2 → 1 ≤ k → k < 4 →
      Memory.read t.mem (lampRowAt (fieldAt m.payload 0 2 + i) + k) = m.payload.getD (4 + 4 * i + k) 0) ∧
    (∀ a, 0xC0000 ≤ a → a < lampRowAt (fieldAt m.payload 0 2) ∨
      lampRowAt (fieldAt m.payload 0 2 + fieldAt m.payload 2 2) ≤ a → Memory.read t.mem a = Memory.read s.mem a) ∧
          Only (parts (.lampSet m)) s t) ∧
  (∀ (s : State) (m : Msg), s.offers m 0x0506 inAll s.lampSetFault →
      s.lockedAt (lampRowAt (fieldAt m.payload 0 2)) = true →
    exec (.lampSet m) s = .next (s.served.refused m 0x0506 0x0013)) ∧
  (∀ (s : State) (m : Msg), s.offers m 0x0508 inWork alarmAckFault → s.pair.role ≠ .standby →
      ∃ t, exec (.alarmAck m) s = .next t ∧
    Replied s t m 0x0508 0 (leBytes 2
      (s.ackable fun l _ => decide (fieldAt m.payload 0 2 = 0xFFFF) || decide (l.val = fieldAt m.payload 0 2)).length) ∧
    (∀ l, (fieldAt m.payload 0 2 = 0xFFFF ∨ l.val = fieldAt m.payload 0 2) → (s.lamp l).active = true →
      (s.lamp l).acked = false → t.lamp l = { s.lamp l with acked := true, changed := s.now }) ∧
    (∀ l, (fieldAt m.payload 0 2 ≠ 0xFFFF ∧ l.val ≠ fieldAt m.payload 0 2) ∨ (s.lamp l).active = false ∨
      (s.lamp l).acked = true → t.lamp l = s.lamp l) ∧ Only (parts (.alarmAck m)) s t) ∧
  (∀ (s : State) (m : Msg), s.offers m 0x0508 inWork alarmAckFault → s.pair.role = .standby →
      ∃ t, exec (.alarmAck m) s = .next t ∧
    Replied s t m 0x0508 0 [0, 0] ∧ (∀ l, t.lamp l = s.lamp l) ∧ Only (parts (.alarmAck m)) s t) ∧
  (∀ (s : State) (m : Msg) (l : LampNo), s.offers m 0x050A inAll s.lampTestFault → fieldAt m.payload 0 2 = l.val →
      ∃ t, exec (.lampTest m) s = .next t ∧
    Replied s t m 0x050A 0 [] ∧
    t.lamp l = { s.lamp l with
      testAction := BitVec.ofNat 2 (byteAt m.payload 2), testSeconds := BitVec.ofNat 16 (fieldAt m.payload 4 2) } ∧
    (∀ k, k ≠ l → t.lamp k = s.lamp k) ∧ Only (parts (.lampTest m)) s t) ∧
  (∀ (s : State) (c : Chan), s.serves = true → s.engineWorks = true → s.pair.role ≠ .standby →
    (s.chan c).bellOut.getLsbD 3 = true →
    ∃ t, exec (.doorbellLampTest c) s = .next t ∧ (t.chan c).bellOut = (s.chan c).bellOut &&& 0xF7 ∧
      (∀ l, (t.lamp l).testAction = 0) ∧
      (∀ l, (s.lamp l).testAction = 1 → lampUsed (s.lamp l).row = true → (t.lamp l).testRuns = true ∧
        (t.sluice.alarmWaits = [] → (t.lamp l).state = stDark ∧ (t.lamp l).injected = true)) ∧
      (∀ l, (s.lamp l).testAction = 0 → t.lamp l = s.lamp l) ∧ Only (parts (.doorbellLampTest c)) s t) ∧
  (∀ (s : State) (l : LampNo), s.engineWorks = true → (s.lamp l).lapses = true → s.pair.role ≠ .standby →
    ∃ t, exec (.lampLapse l) s = .next t ∧
      (t.sluice.alarmWaits = [] → (t.lamp l).state = stUnconfirmed ∧ (t.lamp l).held = false ∧
        (t.lamp l).acked = false ∧ (t.lamp l).injected = false ∧ (t.lamp l).changed = s.now ∧
        t.chanN.bellIn.getLsbD 1 = true ∧ t.tag.eventsMade = s.tag.eventsMade + 1) ∧
      (s.sluice.alarmWaits = [] → t.sluice.alarmWaits ≠ [] → (t.lamp l).state = (s.lamp l).state ∧
        ∃ w m, t.sluice.alarmWaits = [w] ∧ w.move = some m ∧ m.lamp = l ∧ m.after.state = stUnconfirmed ∧
            m.time = s.now) ∧
      (∀ k, k ≠ l → t.lamp k = s.lamp k) ∧ Only (parts (.lampLapse l)) s t) ∧
  (∀ (s : State) (l : LampNo), (s.lamp l).lapses = false ∨ s.pair.role = .standby → exec (.lampLapse l) s = .next s) ∧
  (∀ (s : State) (l : LampNo), s.engineWorks = true → (s.lamp l).testRuns = true →
    ∃ t, exec (.lampTestEnd l) s = .next t ∧ t.lamp l = { s.lamp l with testRuns := false } ∧
      (∀ k, k ≠ l → t.lamp k = s.lamp k) ∧ t.buses = s.buses ∧ Only (parts (.lampTestEnd l)) s t) ∧
  (∀ (s : State) (l : LampNo) (b : BusNo) (h : HeadNo), s.engineWorks = true → (s.lamp l).testRuns = false →
      (s.lamp l).offRuns = true → lampBus (s.lamp l).row = b → lampHead (s.lamp l).row = h.val + 1 →
      (s.head b h).state = hsActive →
    ∃ t, exec (.lampTestEnd l) s = .next t ∧ t.lamp l = { s.lamp l with offRuns := false } ∧
      (t.bus b).setLamps = (s.bus b).setLamps ++ [
        hedgeCmd h tySetLamp [BitVec.ofNat 8 (lampNo (s.lamp l).row + 1), 0]] ∧
      Only (parts (.lampTestEnd l)) s t) ∧
  (∀ (s : State) (l : LampNo), s.engineWorks = true → (s.lamp l).active = true → (s.lamp l).acked = false →
    exec (.alarmRepeat l) s = .next (s.placeAlarm {
      payload := s.alrText (s.lamp l).row (s.lamp l).state false (s.lamp l).changed, stamp := s.now, doubt := s.doubtNow
      route := lampRoute (s.lamp l).row, injected := (s.lamp l).injected, move := none })) ∧
  (∀ (s : State) (l : LampNo), (s.lamp l).active = false ∨ (s.lamp l).acked = true →
      exec (.alarmRepeat l) s = .next s)

/-- The assembler takes entries into items; the Sieve decides an ended item; the Weir refills and drains; waiting
items and alarms go on. Where the road runs outside a drain, the assembler of a talking port takes its oldest entry.
In HUNT with nothing due at its boundary, an entry that opens nothing is discarded; an opener on an armed port
begins an item in a free cell with its stamp, storing that one byte, or counts NOCELL with 128 or fewer free. LF
after CR ends the item: it waits for the Sieve whole, with its stamp, port and cells. A decision counts one hit of
the first rule that matches; the item waits no longer; where the rule drops it its cells return, and where the rule
sends it past the Weir to a listener's port with room its link stands there in its class with its stamp. A sixteenth
of a token accrues up to the burst. A token's worth commits the oldest deferred item; a VOID one goes without; a
governor that defers no longer lets its queue go. A lamp alarm that waits is committed with its stamp when its cells
are free, linked on a listener's port of its route with room, and waits otherwise. Items a slot held go on to the
Sieve. The heartbeat makes its sentence where cells are free, else NOCELL counts. -/
def Obligations.AssemblerSieveAndWeirMoveItems : Prop :=
  (∀ (s : State) (p : PortNo) (e : Entry) (r : List Entry), s.roadRuns = true → s.modes.draining = false →
    (s.port p).talks = true → (s.port p).fifo = e :: r →
    ∃ t, exec (.assemblerTake p) s = .next t ∧ ((t.port p).fifo = r ∨ (t.port p).fifo = []) ∧
      Only (parts (.assemblerTake p)) s t) ∧
  (∀ (s : State) (p : PortNo), s.roadRuns = false ∨ s.modes.draining = true ∨ (s.port p).talks = false ∨
    (s.port p).fifo = [] → exec (.assemblerTake p) s = .next s) ∧
  (∀ (s : State) (p : PortNo) (e : Entry) (r : List Entry), s.roadRuns = true → s.modes.draining = false →
    (s.port p).talks = true → (s.port p).fifo = e :: r → (s.port p).asm.state = .hunt → (s.port p).parking = false →
    s.engine.accepted = [] → (s.port p).rxAdopt = false → rowFields (s.port p).rxRow = rowFields (s.portRow p) →
    e.isBreak = true ∨ isOpener e.char = false ∨ (s.port p).armed = false →
    ∃ t, exec (.assemblerTake p) s = .next t ∧ (t.port p).fifo = r ∧ (t.port p).asm = (s.port p).asm ∧
      t.sluice = s.sluice ∧ Only [.ports] s t) ∧
  (∀ (s : State) (p : PortNo) (e : Entry) (r : List Entry), s.roadRuns = true → s.modes.draining = false →
    (s.port p).talks = true → (s.port p).fifo = e :: r → (s.port p).asm.state = .hunt → e.isBreak = false →
    isOpener e.char = true → (s.port p).armed = true → 128 < s.freeCount → MemCanonical s →
    ∃ t, exec (.assemblerTake p) s = .next t ∧ (t.port p).fifo = r ∧ (t.port p).asm.chars = [e.char] ∧
      (t.port p).asm.stamp = e.stamp ∧ (t.port p).asm.doubt = e.doubt ∧
      (t.port p).asm.state = (if e.char = chBack then .tag else .sentence) ∧ t.freeCount + 1 = s.freeCount ∧
      (∃ c, c ∈ s.sluice.free ∧ (t.port p).asm.cells = [c] ∧ Memory.read t.mem (cellAt c + 24) = e.char ∧
        ∀ a, a ≠ cellAt c + 24 → Memory.read t.mem a = Memory.read s.mem a) ∧
      Only (parts (.assemblerTake p)) s t) ∧
  (∀ (s : State) (p : PortNo) (e : Entry) (r : List Entry), s.roadRuns = true → s.modes.draining = false →
    (s.port p).talks = true → (s.port p).fifo = e :: r → (s.port p).asm.state = .hunt → (s.port p).parking = false →
    s.engine.accepted = [] → (s.port p).rxAdopt = false → rowFields (s.port p).rxRow = rowFields (s.portRow p) →
    e.isBreak = false → isOpener e.char = true → (s.port p).armed = true → s.freeCount ≤ 128 →
    ∃ t, exec (.assemblerTake p) s = .next t ∧ (t.port p).fifo = r ∧ (t.port p).asm = Asm.reset ∧
      t.sluice.items = s.sluice.items ∧ t.sluice.noCell = min 0xFFFFFFFF (s.sluice.noCell + 1) ∧
      Only (parts (.assemblerTake p)) s t) ∧
  (∀ (s : State) (p : PortNo) (e : Entry) (r : List Entry), s.roadRuns = true → s.modes.draining = false →
    (s.port p).talks = true → (s.port p).fifo = e :: r → (s.port p).asm.state = .awaitLf →
        (s.port p).asm.void = false →
    e.isBreak = false → e.char = chLf → (s.port p).asm.chars.length ∉ [0, 104, 228] → (s.port p).rx.nocksum = 0 →
    s.injectOn = false → MemCanonical s → (s.port p).rxAdopt = false →
    rowFields (s.port p).rxRow = rowFields (s.portRow p) →
    ∃ t, exec (.assemblerTake p) s = .next t ∧ ((t.port p).fifo = r ∨ (t.port p).fifo = []) ∧
      (t.port p).asm = Asm.reset ∧
      (∃ i, i ∈ t.sluice.items ∧ i.id = s.sluice.nextId ∧ i.payload = (s.port p).asm.chars ++ [e.char] ∧
        i.stamp = (s.port p).asm.stamp ∧ i.source.toNat = p.val ∧ i.cells = (s.port p).asm.cells ∧ i.place = .ended) ∧
      t.sluice.nextId = s.sluice.nextId + 1 ∧
      (t.port p).stats.sentences = min 0xFFFFFFFF ((s.port p).stats.sentences + 1) ∧
      Only (parts (.assemblerTake p)) s t) ∧
  (∀ (s : State) (i : Item), s.roadRuns = true → s.endedItem = some i → s.item? i.id = some i →
    ∃ t, exec .sieveDecision s = .next t ∧ t.sieve.bankB = s.sieve.bankB ∧
      (∀ n : Fin 512, t.sieve.hits.get n =
        if n.val = s.ruleFor i then min 0xFFFFFFFF (s.sieve.hits.get n + 1) else s.sieve.hits.get n) ∧
      ((s.sieveRule s.sieve.bankB (s.ruleFor i)).drop = true → (∀ j, j ∈ t.sluice.items → j.id ≠ i.id) ∧
        t.sluice.free = s.sluice.free ++ i.cells ∧ t.sluice.views = s.sluice.views) ∧
      (∀ p : PortNo, (s.sieveRule s.sieve.bankB (s.ruleFor i)).drop = false →
        (s.sieveRule s.sieve.bankB (s.ruleFor i)).weirOn = false → i.groupOf = none →
        (s.sieveRule s.sieve.bankB (s.ruleFor i)).mask.getLsbD p.val = true → (s.port p).txc.tx = .listener →
        (s.view (portView p)).retired = false → s.mode ≠ .trim →
        (s.sieveRule s.sieve.bankB (s.ruleFor i)).group = false →
        s.used (portView p) + i.cells.length ≤ (s.viewRow (portView p)).credits →
        ∃ l, l ∈ (t.view (portView p)).queue ∧ l.item = i.id ∧ l.order = i.stamp ∧
          l.cls = max 1 (s.sieveRule s.sieve.bankB (s.ruleFor i)).cls) ∧
      (∀ j, j ∈ t.sluice.items → j.id = i.id → j.place ≠ .ended) ∧ Only (parts .sieveDecision) s t) ∧
  (∀ (s : State), s.endedItem = none → exec .sieveDecision s = .next s) ∧
  (∀ (s : State) (g : GovNo), s.alive = true →
    ∃ t, exec (.weirRefill g) s = .next t ∧
      (t.gov g).tokens = (if (s.weirRow g).rate = 0 then (s.gov g).tokens else
        min (s.weirRow g).full ((s.gov g).tokens + 1)) ∧
      (s.queueOf g = [] ∨ s.roadRuns = false ∨ ((s.weirRow g).policy = .defer ∧ (s.weirRow g).burst ≠ 0) →
        t.gov g = { s.gov g with tokens := (t.gov g).tokens } ∧ (∀ k, k ≠ g → t.gov k = s.gov k) ∧ Only [.govs] s t) ∧
      (s.roadRuns = true → (s.weirRow g).policy ≠ .defer ∨ (s.weirRow g).burst = 0 → t.queueOf g = []) ∧
      Only (parts (.weirRefill g)) s t) ∧
  (∀ (s : State) (g : GovNo) (i : Item) (r : List Item), s.roadRuns = true → s.queueOf g = i :: r →
      s.item? i.id = some i →
    (s.weirRow g).policy = .defer → (s.weirRow g).burst ≠ 0 →
    ∃ t, exec (.deferCommit g) s = .next t ∧ Only (parts (.deferCommit g)) s t ∧
      (i.void = true → (t.gov g).tokens = (s.gov g).tokens ∧ (∀ j, j ∈ t.sluice.items → j.id ≠ i.id) ∧
        t.sluice.free = s.sluice.free ++ i.cells) ∧
      (i.void = false → (s.gov g).tokens < 16 → t = s) ∧
      (i.void = false → 16 ≤ (s.gov g).tokens → (t.gov g).tokens + 16 = (s.gov g).tokens ∧
        (∀ j, j ∈ t.sluice.items → j.id = i.id → j.place = .committed) ∧
        (∀ p : PortNo, i.mask.getLsbD p.val = true → (s.port p).txc.tx = .listener → i.group = false →
          (s.view (portView p)).retired = false → s.mode ≠ .trim → i.cls ≠ 0 →
          s.used (portView p) + i.cells.length ≤ (s.viewRow (portView p)).credits →
          ∃ l, l ∈ (t.view (portView p)).queue ∧ l.item = i.id ∧ l.order = i.stamp ∧ l.cls = i.cls))) ∧
  (∀ (s : State) (g : GovNo), s.roadRuns = true → (s.weirRow g).policy ≠ .defer ∨ (s.weirRow g).burst = 0 →
    ∃ t, exec (.deferCommit g) s = .next t ∧ t.queueOf g = [] ∧ (t.gov g).tokens = (s.gov g).tokens ∧
      Only (parts (.deferCommit g)) s t) ∧
  (∀ (s : State) (g : GovNo), s.roadRuns = false ∨ s.queueOf g = [] → exec (.deferCommit g) s = .next s) ∧
  (∀ (s : State) (w : AlarmWait) (r : List AlarmWait), s.engineWorks = true → s.sluice.alarmWaits = w :: r →
    cellsFor w.payload.length ≤ s.freeCount → (∀ j, j ∈ s.sluice.items → j.id < s.sluice.nextId) →
    ∃ t, exec .alarmCellWaitEnd s = .next t ∧ t.sluice.alarmWaits = r.dropWhile (fun x => x.payload.isEmpty) ∧
      (∀ p : PortNo, (s.routeMask w.route).getLsbD p.val = true → (s.port p).txc.tx = .listener →
        (s.view (portView p)).retired = false →
        s.used (portView p) + cellsFor w.payload.length ≤ (s.viewRow (portView p)).credits →
        (∃ l, l ∈ (t.view (portView p)).queue ∧ l.item = s.sluice.nextId ∧ l.order = w.stamp ∧ l.cls = 0) ∧
        ∃ j, j ∈ t.sluice.items ∧ j.id = s.sluice.nextId ∧ j.place = .committed ∧ j.cls = 0 ∧ j.alarm = true ∧
          j.stamp = w.stamp ∧ j.payload = w.payload) ∧ Only (parts .alarmCellWaitEnd) s t) ∧
  (∀ (s : State) (w : AlarmWait) (r : List AlarmWait), s.sluice.alarmWaits = w :: r →
    s.freeCount < cellsFor w.payload.length → exec .alarmCellWaitEnd s = .next s) ∧
  (∀ (s : State), s.engineWorks = false ∨ s.sluice.alarmWaits = [] → exec .alarmCellWaitEnd s = .next s) ∧
  (∀ (s : State) (k : Fin 16), s.roadRuns = true →
    ∃ t, exec (.reorderRelease k) s = .next t ∧ (∀ i, i ∈ t.sluice.items → i.heldBy k = false) ∧
      (∀ i, i ∈ s.sluice.items → i.heldBy k = true → (∀ j, j ∈ s.sluice.items → j.id = i.id → j = i) →
        (i.void = false → { i with place := .ended } ∈ t.sluice.items) ∧
        (i.void = true → ∀ j, j ∈ t.sluice.items → j.id ≠ i.id)) ∧
      (∀ p r, r ∈ (t.port p).tx.reorder → r.1 ≠ k) ∧ Only (parts (.reorderRelease k)) s t) ∧
  (∀ (s : State) (k : Fin 16), s.roadRuns = false → exec (.reorderRelease k) s = .next s) ∧
  (∀ (s : State), s.engineWorks = true → s.settings.heartbeat ≠ 0 → 128 + cellsFor s.pvyshText.length ≤ s.freeCount →
    ∃ t, exec .pvyshInterval s = .next t ∧
      (∃ i, t.sluice.items = s.sluice.items ++ [i] ∧ i.payload = s.pvyshText ∧ i.source = 0x40 ∧ i.stamp = s.now ∧
          i.place = .ended) ∧
      Only (parts .pvyshInterval) s t) ∧
  (∀ (s : State), s.engineWorks = true → s.settings.heartbeat ≠ 0 → s.freeCount ≤ 128 →
    ∃ t, exec .pvyshInterval s = .next t ∧ t.sluice.items = s.sluice.items ∧
      t.sluice.noCell = min 0xFFFFFFFF (s.sluice.noCell + 1) ∧ Only (parts .pvyshInterval) s t) ∧
  (∀ (s : State), s.engineWorks = false ∨ s.settings.heartbeat = 0 → exec .pvyshInterval s = .next s)

/-- Items begin, end, are cut by a breach and resume; groups are abandoned; Silt and the engine take from their
views. Where the Spillway may begin, the next item goes on the line with its bytes and leaves the queue; CTS
asserted lets a waiting character go, and a re-send counts as its first character begins; deasserted, with CTS flow,
the next character waits. At its end the item leaves the line, and its cells with the last reference. A breach, by
an item of a lower class number that the mode and the view let go, before any character, or within the cut limit,
returns the item to the queue, in the second case with a terminator and counted; beyond the limit nothing happens; a
group that waits for its next member is interrupted and the breach counted. A group whose next member does not come
is abandoned and counted. Silt releases an item it skips and counts it, or accepts its record and releases it. An
ACK sentence acknowledges the active alarms of its number, and its item is released. -/
def Obligations.SpillwaySendsCutsAndReleases : Prop :=
  (∀ (s : State) (p : PortNo) (cts : Bool) (i : Item), s.mayBegin p = true → (s.port p).tx.group = none →
      (s.port p).tx.abandoned = [] → s.injectOn = false → s.nextItem p = some i → i.member = none →
    ∃ t, exec (.itemBegin p cts) s = .next t ∧
      (t.port p).tx.sending = some {
        item := i.id, bytes := (sendBytes s.settings.epoch i).1, resend := (s.port p).tx.cut.contains i.id
        begun := !((s.port p).txc.ctsFlow && !cts) } ∧
      (t.port p).tx.ctsWait = ((s.port p).txc.ctsFlow && !cts) ∧ (t.port p).cts = cts ∧
      (t.view (portView p)).inFlight = (s.view (portView p)).inFlight ++
        (s.view (portView p)).queue.filter (fun l => decide (l.item = i.id)) ∧
      (∀ l, l ∈ (t.view (portView p)).queue → l.item ≠ i.id) ∧ (t.port p).tx.markOwed = false ∧
      Only (parts (.itemBegin p cts)) s t) ∧
  (∀ (s : State) (p : PortNo) (cts : Bool), s.mayBegin p = false → (s.port p).tx.group = none →
      (s.port p).tx.abandoned = [] → exec (.itemBegin p cts) s = .next s) ∧
  (∀ (s : State) (p : PortNo) (cts : Bool), s.roadRuns = true →
    (s.port p).tx.sending.isSome = true ∨ (s.port p).tx.terminator = true →
    ∃ t, exec (.ctsResume p cts) s = .next t ∧ (t.port p).cts = cts ∧
      (t.port p).tx.ctsWait = ((s.port p).txc.ctsFlow && !cts) ∧
      ((t.port p).tx.ctsWait = true → (t.port p).tx.sending = (s.port p).tx.sending ∧
        (t.port p).tx.resends = (s.port p).tx.resends) ∧
      (∀ x, (t.port p).tx.ctsWait = false → (s.port p).tx.sending = some x →
        (t.port p).tx.sending = some { x with begun := true } ∧ (t.port p).tx.resends =
          (if x.begun = false ∧ x.resend = true then min 0xFFFFFFFF ((s.port p).tx.resends + 1)
            else (s.port p).tx.resends)) ∧
      (∀ q, q ≠ p → t.port q = s.port q) ∧ Only [.ports, .tx] s t) ∧
  (∀ (s : State) (p : PortNo) (cts : Bool), s.roadRuns = false ∨
    ((s.port p).tx.sending = none ∧ (s.port p).tx.terminator = false) → exec (.ctsResume p cts) s = .next s) ∧
  (∀ (s : State) (p : PortNo) (x : Sending) (i : Item), s.roadRuns = true → (s.port p).tx.ctsWait = false →
      (s.port p).tx.sending = some x → s.item? x.item = some i → (s.port p).tx.group = none →
      s.pair.handover = .none → s.engine.accepted = [] →
    ∃ t, exec (.itemSent p) s = .next t ∧ (t.port p).tx.sending = none ∧
      (t.view (portView p)).inFlight = (s.view (portView p)).inFlight.filter (fun l => decide (l.item ≠ i.id)) ∧
      (t.view (portView p)).queue = (s.view (portView p)).queue ∧
      (i.refs ≤ 1 → (∀ j, j ∈ t.sluice.items → j.id ≠ i.id) ∧ t.sluice.free = s.sluice.free ++ i.cells) ∧
      (1 < i.refs → t.sluice.free = s.sluice.free) ∧ Only (parts (.itemSent p)) s t) ∧
  (∀ (s : State) (p : PortNo) (n : Nat) (x : Sending) (i : Item), s.roadRuns = true → s.mayBreach p = true →
      (s.port p).tx.sending = some x → s.item? x.item = some i → (s.port p).tx.group = none →
      s.pair.handover = .none → s.engine.accepted = [] →
    (s.port p).txAdopt = false → rowFields (s.port p).txRow = rowFields (s.portRow p) →
    (∃ l, l ∈ (s.view (portView p)).inFlight ∧ l.item = i.id) → x.begun = false ∨ n = 0 →
    ∃ t, exec (.breach p n) s = .next t ∧ (t.port p).tx.sending = none ∧
      (t.port p).tx.terminator = (s.port p).tx.terminator ∧ (t.port p).tx.breaches = (s.port p).tx.breaches ∧
      (∃ l, l ∈ (t.view (portView p)).queue ∧ l.item = i.id) ∧ Only (parts (.breach p n)) s t) ∧
  (∀ (s : State) (p : PortNo) (n : Nat) (x : Sending) (i : Item), s.roadRuns = true → s.mayBreach p = true →
      (s.port p).tx.sending = some x → s.item? x.item = some i → (s.port p).tx.group = none →
      s.pair.handover = .none → s.engine.accepted = [] →
    (s.port p).txAdopt = false → rowFields (s.port p).txRow = rowFields (s.portRow p) →
    (∃ l, l ∈ (s.view (portView p)).inFlight ∧ l.item = i.id) → x.begun = true → 0 < n → n ≤ cutLimit x.bytes →
    ∃ t, exec (.breach p n) s = .next t ∧ (t.port p).tx.sending = none ∧ (t.port p).tx.terminator = true ∧
      (t.port p).tx.breaches = min 0xFFFFFFFF ((s.port p).tx.breaches + 1) ∧
      (∃ l, l ∈ (t.view (portView p)).queue ∧ l.item = i.id) ∧ i.id ∈ (t.port p).tx.cut ∧
      Only (parts (.breach p n)) s t) ∧
  (∀ (s : State) (p : PortNo) (n : Nat) (x : Sending), (s.port p).tx.sending = some x → x.begun = true →
      cutLimit x.bytes < n → 0 < n → exec (.breach p n) s = .next s) ∧
  (∀ (s : State) (p : PortNo) (n : Nat), s.roadRuns = false ∨ s.mayBreach p = false →
      exec (.breach p n) s = .next s) ∧
  (∀ (s : State) (p : PortNo) (n : Nat), s.roadRuns = true → s.mayBreach p = true → (s.port p).tx.sending = none →
    ∃ t, exec (.breach p n) s = .next t ∧ (t.port p).tx.group = none ∧
      (t.port p).tx.breaches = min 0xFFFFFFFF ((s.port p).tx.breaches + 1) ∧ Only (parts (.breach p n)) s t) ∧
  (∀ (s : State) (p : PortNo) (g : GroupRun), s.roadRuns = true → (s.port p).tx.group = some g →
      (s.port p).tx.sending = none → s.groupYields p g = false → s.nextItem p = none →
    ∃ t, exec (.groupAbandon p) s = .next t ∧ (t.port p).tx.group = none ∧
      (t.port p).tx.abandoned = g.key :: (s.port p).tx.abandoned ∧
      (t.port p).tx.abandons = min 0xFFFFFFFF ((s.port p).tx.abandons + 1) ∧ Only (parts (.groupAbandon p)) s t) ∧
  (∀ (s : State) (i : Item), s.engineWorks = true → s.tapHead viewJournal = some i → s.siltSkips = true →
    ∃ t, exec .siltTake s = .next t ∧
      t.journal = { s.journal with skipped := min 0xFFFFFFFF (s.journal.skipped + 1) } ∧
      (∀ l, l ∈ (t.view viewJournal).queue → l.item ≠ i.id) ∧ Only (parts .siltTake) s t) ∧
  (∀ (s : State) (i : Item) (j : Journal), s.engineWorks = true → s.tapHead viewJournal = some i →
      s.siltSkips = false → s.siltWorks = true → s.journal.accept (s.sentenceRecord i) = some j →
    ∃ t, exec .siltTake s = .next t ∧ t.journal = j ∧ (∀ l, l ∈ (t.view viewJournal).queue → l.item ≠ i.id) ∧
      Only (parts .siltTake) s t) ∧
  (∀ (s : State) (i : Item), s.engineWorks = true → s.tapHead viewEngine = some i →
    ∃ t, exec .engineViewTake s = .next t ∧ (∀ l, l ∈ (t.view viewEngine).queue → l.item ≠ i.id) ∧
      (i.ackNumber = none → t.lamps = s.lamps) ∧
      (∀ n l, i.ackNumber = some n → s.pair.role ≠ .standby → lampAlarmNo (s.lamp l).row = n →
          (s.lamp l).active = true →
        (t.lamp l).acked = true) ∧ Only (parts .engineViewTake) s t) ∧
  (∀ (s : State), s.tapHead viewJournal = none → exec .siltTake s = .next s) ∧
  (∀ (s : State), s.tapHead viewEngine = none → exec .engineViewTake s = .next s)

/-- Records are accepted in sequence, pages close and become durable, failures move or lose them, and the journal
formats and mounts. An accepted record takes the next SEQ and stands last. The oldest owed record goes before those
that wait, and the count dropped ends as a LOSS record; a page that one does not fit is closed. Closing keeps every
record. A page read back good joins the medium and moves the durable sequence; one that fails moves to the next
block, and after two failures before is lost. An erase that ends well gives a spare back, one that fails marks the
block bad; a change of the bad blocks or the spares is a new generation of their table. A timeout is a failure after
which the target is owed a RESET. A worn page moves its block to a spare. In DOZE only the operation in progress
ends, and nothing follows it; a program that fails there is left to be done again (log entry 166). A mount sets each
target's timing mode, finds state 2 without a device, 3 without a table, 1 with too few blocks, else runs.
JOURNAL-MARK reports its SEQ; JOURNAL-FORMAT is accepted, empties the medium and completes. -/
def Obligations.JournalAcceptsProgramsAndMounts : Prop :=
  (∀ (j k : Journal) (r : Rec), j.accept r = some k → k.accepted = j.nextSeq ∧
    k.nextSeq = (if j.nextSeq = 0xFFFFFFFF then 1 else j.nextSeq + 1) ∧
    ∃ x, k.records = j.records ++ [x] ∧ x.seq = j.nextSeq ∧ x.kind = r.kind ∧ x.stamp = r.stamp ∧ x.body = r.body) ∧
  (∀ (s : State) (x : Rec) (r : List Rec) (j : Journal), s.siltWorks = true → s.journal.owed = x :: r →
      s.journal.accept x = some j →
    ∃ t, exec .recordAccepted s = .next t ∧ t.journal = { j with owed := r } ∧ Only [.journal] s t) ∧
  (∀ (s : State) (x : Rec) (r : List Rec) (j : Journal), s.siltWorks = true → s.journal.owed = [] →
      s.journal.waiting = x :: r → s.journal.accept x = some j →
    ∃ t, exec .recordAccepted s = .next t ∧ t.journal = { j with waiting := r } ∧ Only [.journal] s t) ∧
  (∀ (s : State) (x : Rec) (r : List Rec), s.siltWorks = true →
      s.journal.owed = x :: r ∨ (s.journal.owed = [] ∧ s.journal.waiting = x :: r) → s.journal.accept x = none →
    ∃ t, exec .recordAccepted s = .next t ∧ t.journal = s.journal.close false ∧ Only [.journal] s t) ∧
  (∀ (s : State), s.siltWorks = true → s.journal.owed = [] → s.journal.waiting = [] → 0 < s.journal.dropped →
    ∃ t, exec .recordAccepted s = .next t ∧ t.journal.dropped = 0 ∧
      t.journal.lossRecords = min 0xFFFFFFFF (s.journal.lossRecords + 1) ∧ t.chanN.bellIn.getLsbD 5 = true ∧
      Only (parts .recordAccepted) s t) ∧
  (∀ (s : State), s.siltWorks = true →
    ∃ t, exec .pageClose s = .next t ∧ t.journal.staging = none ∧ t.journal.records = s.journal.records ∧
      Only [.journal] s t) ∧
  (∀ (s : State) (n : Nand) (c : Closing) (r : List Closing) (e : List Nat), s.siltWorks = true →
      correctable e = true → s.journal.nand = some n → s.journal.closed = c :: r →
      n.erasing.contains n.block = false → c.movedFrom = none → n.nextPage + 1 < n.geom.pagesPerBlock →
    ∃ t, exec (.pageProgrammed true e) s = .next t ∧ t.journal.closed = r ∧ t.journal.records = s.journal.records ∧
      t.journal.programmed = min 0xFFFFFFFF (s.journal.programmed + 1) ∧
      (∃ m, t.journal.nand = some m ∧ m.serial = n.serial + 1 ∧ m.nextPage = n.nextPage + 1 ∧ m.pages = n.pages ++ [{
        block := n.block, index := n.nextPage, page := { c.page with serial := n.serial + 1, relocated := false } }]) ∧
      (r = [] → s.journal.staging = none → t.journal.durable = s.journal.accepted) ∧
      (t.journal.durable ≠ s.journal.durable → t.chanN.bellIn.getLsbD 5 = true) ∧
      Only (parts (.pageProgrammed true e)) s t) ∧
  (∀ (s : State) (n m : Nand) (c : Closing) (r : List Closing) (ok : Bool) (e : List Nat), s.siltWorks = true →
    ok = false ∨ correctable e = false → s.journal.nand = some n → s.journal.closed = c :: r →
        n.erasing.contains n.block = false → n.leaveBlock = some m → c.fails < 2 →
    ∃ t, exec (.pageProgrammed ok e) s = .next t ∧
      t.journal.nand = some { m.touch n.block with generation := n.generation + 1 } ∧
      t.journal.closed = { c with fails := c.fails + 1, movedFrom := some n.block } :: r ∧
      t.journal.lossRecords = s.journal.lossRecords ∧ Only (parts (.pageProgrammed ok e)) s t) ∧
  (∀ (s : State) (n m : Nand) (c : Closing) (r : List Closing) (ok : Bool) (e : List Nat), s.siltWorks = true →
    ok = false ∨ correctable e = false → s.journal.nand = some n → s.journal.closed = c :: r →
        n.erasing.contains n.block = false → n.leaveBlock = some m → 2 ≤ c.fails →
    ∃ t, exec (.pageProgrammed ok e) s = .next t ∧
      t.journal.nand = some { m.touch n.block with generation := n.generation + 1 } ∧
      t.journal.lossRecords = min 0xFFFFFFFF (s.journal.lossRecords + 1) ∧ t.chanN.bellIn.getLsbD 5 = true ∧
      Only (parts (.pageProgrammed ok e)) s t) ∧
  (∀ (s : State) (n : Nand) (b : Nat) (r : List Nat), s.siltWorks = true → s.journal.nand = some n →
      n.erasing = b :: r →
    ∃ t, exec (.eraseDone true) s = .next t ∧
      t.journal = { s.journal with nand := some { n.touch b with
        erasing := r, erases := (b, n.eraseCount b + 1) :: n.erases.filter fun e => decide (e.1 ≠ b)
        spares := if n.ring.contains b then n.spares else n.spares ++ [b]
        generation := if n.ring.contains b then n.generation else n.generation + 1 } } ∧ Only [.journal] s t) ∧
  (∀ (s : State) (n : Nand) (b : Nat) (r : List Nat), s.siltWorks = true → s.journal.nand = some n →
      n.erasing = b :: r →
    ∃ t, exec (.eraseDone false) s = .next t ∧ t.journal.retired = min 0xFFFFFFFF (s.journal.retired + 1) ∧
      (∃ m, t.journal.nand = some m ∧ b ∈ m.bad ∧ m.generation = n.generation + 1) ∧
          Only (parts (.eraseDone false)) s t) ∧
  (∀ s : State, s.siltWorks = true →
    (∃ t, exec (.pageProgrammed false []) s = .next t ∧ exec (.nandTimeout .program) s =
      .next ((s.journal.nand.map (·.block)).elim t t.oweReset)) ∧
    (∃ t, exec (.eraseDone false) s = .next t ∧ exec (.nandTimeout .erase) s =
      .next ((s.journal.nand.bind fun n => n.erasing.head?).elim t t.oweReset)) ∧
    (s.journal.closed ≠ [] → ∃ t, exec (.pageProgrammed false []) s = .next t ∧ exec (.nandTimeout .read) s =
      .next ((s.journal.nand.map (·.block)).elim t t.oweReset)) ∧
    (s.journal.closed = [] → ∃ t, exec (.scrubRead [9]) s = .next t ∧ exec (.nandTimeout .read) s =
      .next ((s.journal.nand.bind fun n => n.scrubPage.map (·.block)).elim t t.oweReset))) ∧
  (∀ (t : State) (n : Nand) (b : Nat), t.journal.nand = some n →
    ∃ m, (t.oweReset b).journal.nand = some m ∧ n.targetOf b ∈ m.resets ∧ (m.issues b .program).head? = some 0xFF) ∧
  (∀ (s : State) (n : Nand) (p : NandPage) (e : List Nat), s.siltWorks = true → (∀ k, k ∈ e → k ≤ 4) →
      s.journal.nand = some n → n.scrubPage = some p →
    ∃ t, exec (.scrubRead e) s = .next t ∧
      t.journal = { s.journal with nand := some { n.touch p.block with scrubAt := p.page.serial } } ∧
          Only [.journal] s t) ∧
  (∀ (s : State) (n : Nand) (p : NandPage) (c : Nat) (r : List Nat) (e : List Nat), s.siltWorks = true →
      (∀ k, k ∈ e → k ≤ 8) → (∃ k, k ∈ e ∧ 5 ≤ k) → s.journal.nand = some n → n.scrubPage = some p →
      n.spares = c :: r →
    ∃ t, exec (.scrubRead e) s = .next t ∧
      (∃ m, t.journal.nand = some m ∧ m.spares = r ∧ p.block ∈ m.erasing ∧
        m.pages = n.pages.map fun q => if q.block = p.block then { q with block := c } else q) ∧
      t.journal.scrubs = min 0xFFFFFFFF (s.journal.scrubs + 1) ∧ Only (parts (.scrubRead e)) s t) ∧
  (∀ (s : State) (n : Nand) (p : NandPage) (e : List Nat), s.siltWorks = true → (∃ k, k ∈ e ∧ 9 ≤ k) →
      s.journal.nand = some n → n.scrubPage = some p →
    ∃ t, exec (.scrubRead e) s = .next t ∧
      t.journal.lossRecords = min 0xFFFFFFFF (s.journal.lossRecords + 1) ∧ t.chanN.bellIn.getLsbD 5 = true ∧
      Only (parts (.scrubRead e)) s t) ∧
  (∀ (s : State), s.engineWorks = true → s.journal.mounted = false → s.journal.state ≠ 4 →
    ∃ t, exec .journalMount s = .next t ∧ t.journal.mounted = true ∧ (s.journal.nand = none → t.journal.state = 2) ∧
      (∀ n, s.journal.nand = some n → ∃ m, t.journal.nand = some m ∧ m.timing = n.geom.listed.map topTiming) ∧
      (∀ n, s.journal.nand = some n → n.formatted = false → t.journal.state = 3) ∧
      (∀ n, s.journal.nand = some n → n.formatted = true → n.stock < 16 → t.journal.state = 1) ∧
      (∀ n, s.journal.nand = some n → n.formatted = true → 16 ≤ n.stock → t.journal.state = 0 ∧ t.journal.held = []) ∧
      Only (parts .journalMount) s t) ∧
  (∀ (s : State), s.journal.mounted = true → exec .journalMount s = .next s) ∧
  (∀ (s : State) (n : Nand) (ok : Bool) (e : List Nat), s.siltWorks = false → s.siltDozes = true →
      s.journal.nand = some n →
    n.left = some .program → ∃ t, exec (.pageProgrammed ok e) s = .next t ∧
      (∀ m, t.journal.nand = some m → m.left = none) ∧ (ok = false ∨ correctable e = false →
        t.journal = { s.journal with nand := some { n with left := none } }) ∧
            Only (parts (.pageProgrammed ok e)) s t) ∧
  (∀ (s : State) (ok : Bool) (e : List Nat), s.siltWorks = false →
    s.siltDozes = false ∨ (∀ n, s.journal.nand = some n → n.left = none) →
    exec (.pageProgrammed ok e) s = .next s ∧ exec (.eraseDone ok) s = .next s) ∧
  (∀ (s : State) (m : Msg) (j : Journal), s.offers m 0x0703 inWork markFault → s.formatBusy = false →
      s.siltWorks = true → s.journal.accept {
      kind := 0x09, flags := recFlags false s.takenAt.2, boot := 0, stamp := s.takenAt.1, seq := 0
      body := bytesAt m.payload 2 (byteAt m.payload 0) } = some j → ∃ t, exec (.journalMark m) s = .next t ∧
    t.journal = j ∧ Replied s t m 0x0703 0 (leBytes 4 j.accepted.toNat) ∧ Only (parts (.journalMark m)) s t) ∧
  (∀ (s : State) (m : Msg), s.offers m 0x0703 inWork markFault → s.formatBusy = true →
    exec (.journalMark m) s = .next (s.served.refused m 0x0703 0x0012)) ∧
  (∀ (s : State) (m : Msg), s.offers m 0x0704 inSetup (exactFault []) → s.formatBusy = false →
      s.journal.nand ≠ none → ∃ t, exec (.journalFormat m) s = .next t ∧
    Replied s t m 0x0704 1 [] ∧ t.journal.state = 4 ∧
    t.journal.mounted = false ∧ t.journal.records = [] ∧ t.journal.held = s.journal.held ∧
    t.engine.accepted = s.engine.accepted ++ [{ ch := m.ch, code := 0x0704, tag := m.tag, work := .format }] ∧
        Only (parts (.journalFormat m)) s t) ∧
  (∀ (s : State) (m : Msg), s.offers m 0x0704 inSetup (exactFault []) → s.formatBusy = true →
    exec (.journalFormat m) s = .next (s.served.refused m 0x0704 0x0012)) ∧
  (∀ (s : State) (bad : List Nat) (a : Accepted) (n : Nand), s.serves = true → s.journal.state = 4 →
    s.journal.nand = some n → s.engine.accepted.find? (fun a => decide (a.work = .format)) = some a →
    ∃ t, exec (.journalFormatDone bad) s = .next t ∧
      Replied s t { ch := a.ch, tag := a.tag, payload := [] } a.code.toNat 0 [] ∧
      t.engine.accepted = s.engine.accepted.erase a ∧
      (s.mode ≠ .probe → t.journal.state = 1 ∧ t.journal.nand = some (n.format bad) ∧ t.journal.nextSeq = 1) ∧
      Only (parts (.journalFormatDone bad)) s t)

/-- The Hedge master: rounds, frames, accepted and failed replies, attention, ROLL-CALL and a bus held at space. On
a bus the master runs: a round lists the heads to poll; the next frame is WAKE, then ROLL-CALL, then the repeat
owed, then the next POLL of a grant, a repeat that waited, a join's command, and the next POLL of the round, a
SET-LAMP that waits for the head before its POLL (in place of a SILENT head's: log entry 155). A new command's
toggle is the head's inverted, and 0 after a RESYNC; an attempt goes out as it is while no fault is injected. An
accepted REPORT ends the exchange: a JOINING head is ACTIVE, a SILENT one joins, and each lamp it gives of an ACTIVE
head takes its state once no alarm waits for a cell. No reply, a bad one, a gap, an abandoned frame or a read-back
mismatch fails the attempt: counted, repeated, and after the fourth the head is SILENT; a step in the frame and a
mismatch count a collision. A ROLL-CALL or SLEEP-COMMIT cut is sent again or aborts the sleep. Attention of 1.5 to 6
bit times asks for a ROLL-CALL, after the POLLs of a grant that runs; a shorter space is a glitch, a longer one a
bus fault. After mode 0 the heads that answered are granted POLLs, after mode 1 every expected head joins. A bus at
space is BLIND with its heads until it recovers into a join. -/
def Obligations.HedgeMasterExchanges : Prop :=
  (∀ (s : State) (b : BusNo), s.hedgeOn b = true → (s.bus b).state = .polling → (s.bus b).quiet = true →
    (s.bus b).retry = none → (s.bus b).round = [] →
    exec (.pollingRoundStart b) s = .next (s.updBus b fun v => { v with round := s.roundOf b }) ∧
    ∀ h, h ∈ s.roundOf b ↔ s.pollable b h = true) ∧
  (∀ (s : State) (p : PortNo) (b : BusNo) (pulse : Bool), s.masterBus p = some b → s.maySend b = true →
      (s.bus b).wake = some pulse → s.mayDrive p = true →
    ∃ t, exec (.hedgeCommandSend p) s = .next t ∧ (t.bus b).wake = none ∧ (t.bus b).state = .polling ∧
      (t.bus b).sent = hedgeFrame 4 31 tyWake false [] ∧ (t.bus b).pulse = pulse ∧
      Only (parts (.hedgeCommandSend p)) s t) ∧
  (∀ (s : State) (p : PortNo) (b : BusNo) (mode : Bool), s.masterBus p = some b → s.maySend b = true →
      (s.bus b).wake = none → (s.bus b).rollCall = some mode → s.mayDrive p = true →
    ∃ t, exec (.hedgeCommandSend p) s = .next t ∧ (t.bus b).rollCall = none ∧ (t.bus b).rolling = some mode ∧
      (t.bus b).sent = hedgeFrame 4 31 tyRollCall false [if mode then 1 else 0] ∧
      (t.bus b).retry = none ∧ (t.bus b).parked = (s.bus b).retry.toList ++ (s.bus b).parked ∧
      Only (parts (.hedgeCommandSend p)) s t) ∧
  (∀ (s : State) (p : PortNo) (b : BusNo) (x : Exchange), s.masterBus p = some b → s.maySend b = true →
      (s.bus b).wake = none → (s.bus b).rollCall = none → (s.bus b).retry = some x → s.injectOn = false →
      s.mayDrive p = true →
    ∃ t, exec (.hedgeCommandSend p) s = .next t ∧ (t.bus b).retry = none ∧ (t.bus b).exchange = some x ∧
      (t.bus b).sent = hedgeFrame 0 (x.cmd.head.val + 1) x.cmd.type x.toggle x.cmd.payload ∧
      Only (parts (.hedgeCommandSend p)) s t) ∧
  (∀ (s : State) (p : PortNo) (b : BusNo) (h : HeadNo) (r : List HeadNo), s.masterBus p = some b →
      s.maySend b = true → (s.bus b).wake = none → (s.bus b).rollCall = none → (s.bus b).retry = none →
      (s.bus b).grant = h :: r → s.pollable b h = true → s.injectOn = false →
    ∃ t, exec (.hedgeCommandSend p) s = .next t ∧
      (t.bus b).exchange = some { cmd := (s.pollOrLamp b h).2.1, toggle := (t.head b h).toggle, fails := 0 } ∧
      (t.bus b).grant = (if (s.pollOrLamp b h).2.2 then h :: r else r) ∧
      (t.head b h).toggle = (!(s.head b h).fresh && !(s.head b h).toggle) ∧
      Only (parts (.hedgeCommandSend p)) s t) ∧
  (∀ (s : State) (p : PortNo) (b : BusNo) (x : Exchange) (r : List Exchange), s.masterBus p = some b →
      s.maySend b = true → (s.bus b).wake = none → (s.bus b).rollCall = none → (s.bus b).retry = none →
      (s.bus b).grant = [] → (s.bus b).parked = x :: r → s.injectOn = false → s.mayDrive p = true →
    ∃ t, exec (.hedgeCommandSend p) s = .next t ∧ (t.bus b).parked = r ∧ (t.bus b).exchange = some x ∧
      (t.bus b).sent = hedgeFrame 0 (x.cmd.head.val + 1) x.cmd.type x.toggle x.cmd.payload ∧
      Only (parts (.hedgeCommandSend p)) s t) ∧
  (∀ (s : State) (p : PortNo) (b : BusNo) (c : HedgeCmd) (r : List HedgeCmd), s.masterBus p = some b →
      s.maySend b = true → (s.bus b).wake = none → (s.bus b).rollCall = none → (s.bus b).retry = none →
      (s.bus b).grant = [] → (s.bus b).parked = [] → (s.bus b).queue = c :: r →
      (s.head b c.head).state = hsJoining → s.injectOn = false →
    ∃ t, exec (.hedgeCommandSend p) s = .next t ∧ (t.bus b).queue = r ∧
      (t.bus b).exchange = some { cmd := c, toggle := (t.head b c.head).toggle, fails := 0 } ∧
      (t.head b c.head).toggle = (!(s.head b c.head).fresh && !(s.head b c.head).toggle) ∧
      (t.head b c.head).fresh = decide (c.type = tyResync) ∧ Only (parts (.hedgeCommandSend p)) s t) ∧
  (∀ (s : State) (p : PortNo) (b : BusNo) (h : HeadNo) (r : List HeadNo), s.masterBus p = some b →
      s.maySend b = true → (s.bus b).wake = none → (s.bus b).rollCall = none → (s.bus b).retry = none →
      (s.bus b).grant = [] → (s.bus b).parked = [] → (s.bus b).queue = [] → (s.bus b).round = h :: r →
      s.pollable b h = true → s.injectOn = false →
    ∃ t, exec (.hedgeCommandSend p) s = .next t ∧
      (t.bus b).exchange = some { cmd := (s.pollOrLamp b h).2.1, toggle := (t.head b h).toggle, fails := 0 } ∧
      (t.bus b).round = (if (s.pollOrLamp b h).2.2 then h :: r else r) ∧
      (t.head b h).toggle = (!(s.head b h).fresh && !(s.head b h).toggle) ∧ Only (parts (.hedgeCommandSend p)) s t) ∧
  (∀ (s : State) (b : BusNo) (h : HeadNo), (∀ c, c ∈ (s.bus b).setLamps → c.head ≠ h) →
    (s.pollOrLamp b h).2.1 = hedgeCmd h tyPoll [] ∧ (s.pollOrLamp b h).2.2 = false) ∧
  (∀ (s : State) (b : BusNo) (h : HeadNo) (c : HedgeCmd), (s.bus b).setLamps.find? (fun c => decide (c.head = h)) = some c →
    (s.pollOrLamp b h).2.1 = c ∧ (s.pollOrLamp b h).2.2 = decide ((s.head b h).state ≠ hsSilent)) ∧
  (∀ (s : State) (p : PortNo) (b : BusNo), s.masterBus p = some b → s.maySend b = false →
      exec (.hedgeCommandSend p) s = .next s) ∧
  (∀ (s : State) (b : BusNo) (x : Exchange) (f : List Half) (g : HedgeFrame), s.hedgeOn b = true →
      s.replyStepped b = false → (s.bus b).exchange = some x → (s.head b x.cmd.head).state ≠ hsAbsent →
      (s.head b x.cmd.head).state ≠ hsRetired → (s.bus b).retire = none → readFrame f = some g →
      x.answeredBy g = true → s.injectOn = false →
    ∃ t, exec (.replyAccepted b f) s = .next t ∧ (t.bus b).exchange = none ∧
      (t.head b x.cmd.head).fails = (s.head b x.cmd.head).fails ∧
      (x.cmd.type = tyPoll → (t.head b x.cmd.head).attn = false) ∧
      (x.cmd.type = tyPoll → (s.head b x.cmd.head).state = hsJoining → (t.head b x.cmd.head).state = hsActive) ∧
      (x.cmd.type ≠ tyInventory → (s.head b x.cmd.head).state = hsSilent → (t.head b x.cmd.head).state = hsJoining) ∧
      (x.cmd.type = tyPoll → (s.head b x.cmd.head).state = hsActive → (s.head b x.cmd.head).mismatch = false →
        t.sluice.alarmWaits = [] →
        ∀ l : LampNo, lampUsed (s.lamp l).row = true → lampBus (s.lamp l).row = b →
          lampHead (s.lamp l).row = x.cmd.head.val + 1 → lampNo (s.lamp l).row < byteAt g.payload 1 →
          byteAt g.payload (2 + 4 * lampNo (s.lamp l).row) < 5 → (s.lamp l).testRuns = false →
          (t.lamp l).state.toNat = byteAt g.payload (2 + 4 * lampNo (s.lamp l).row) ∧ (t.lamp l).held = false ∧
          (t.lamp l).injected = false ∧ (t.lamp l).cold = false) ∧ Only (parts (.replyAccepted b f)) s t) ∧
  (∀ (s : State) (b : BusNo) (x : Exchange) (f : List Half), s.hedgeOn b = true → (s.bus b).exchange = some x →
      (s.head b x.cmd.head).state ≠ hsAbsent → (s.head b x.cmd.head).state ≠ hsRetired → (s.bus b).retire = none →
      s.replyStepped b = true ∨ (∀ g, readFrame f = some g → x.answeredBy g = false) →
    ∃ t, exec (.replyAccepted b f) s = .next t ∧ (t.bus b).exchange = none ∧
      (t.bus b).collides = (if s.replyStepped b then min 0xFFFF ((s.bus b).collides + 1) else (s.bus b).collides) ∧
      (t.head b x.cmd.head).fails.toNat = min 255 ((s.head b x.cmd.head).fails.toNat + 1) ∧
      (x.fails < 3 → (s.head b x.cmd.head).state ≠ hsSilent →
          (t.bus b).retry = some { x with fails := x.fails + 1 }) ∧
      (3 ≤ x.fails → (t.head b x.cmd.head).state = hsSilent) ∧ Only (parts (.replyAccepted b f)) s t) ∧
  (∀ (s : State) (b : BusNo) (x : Exchange), s.hedgeOn b = true → (s.bus b).exchange = some x →
      (s.head b x.cmd.head).state ≠ hsAbsent → (s.head b x.cmd.head).state ≠ hsRetired → (s.bus b).retire = none →
    ∃ t, exec (.replyTimeout b) s = .next t ∧ (t.bus b).exchange = none ∧
      (t.head b x.cmd.head).fails.toNat = min 255 ((s.head b x.cmd.head).fails.toNat + 1) ∧
      (x.fails < 3 → (s.head b x.cmd.head).state ≠ hsSilent →
          (t.bus b).retry = some { x with fails := x.fails + 1 }) ∧
      (3 ≤ x.fails → (t.head b x.cmd.head).state = hsSilent) ∧ Only (parts (.replyTimeout b)) s t) ∧
  (∀ (s : State) (b : BusNo), (s.bus b).exchange = none → exec (.replyTimeout b) s = .next s) ∧
  (∀ (s : State) (b : BusNo) (x : Exchange) (p : PortNo), s.masterBus p = some b → s.hedgeOn b = true →
      (s.bus b).exchange = some x → (s.head b x.cmd.head).state ≠ hsAbsent →
      (s.head b x.cmd.head).state ≠ hsRetired → (s.bus b).retire = none →
    ∃ t, exec (.frameGapTimeout p) s = .next t ∧ (t.port p).fifo = [] ∧ (t.bus b).exchange = none ∧
      (t.head b x.cmd.head).fails.toNat = min 255 ((s.head b x.cmd.head).fails.toNat + 1) ∧
      (x.fails < 3 → (s.head b x.cmd.head).state ≠ hsSilent →
          (t.bus b).retry = some { x with fails := x.fails + 1 }) ∧
      (3 ≤ x.fails → (t.head b x.cmd.head).state = hsSilent) ∧ Only (parts (.frameGapTimeout p)) s t) ∧
  (∀ (s : State) (b : BusNo) (x : Exchange) (p : PortNo), s.masterBus p = some b → (s.port p).frameBad = true →
      s.hedgeOn b = true → (s.bus b).exchange = some x → (s.head b x.cmd.head).state ≠ hsAbsent →
      (s.head b x.cmd.head).state ≠ hsRetired → (s.bus b).retire = none →
    ∃ t, exec (.frameAbandoned p) s = .next t ∧ (t.port p).fifo = [] ∧ (t.port p).edge = none ∧
        (t.port p).hold = .character ∧
      (t.bus b).collides = (if (s.port p).amp.stepped then min 0xFFFF ((s.bus b).collides + 1) else (s.bus b).collides) ∧
      (t.bus b).exchange = none ∧
      (t.head b x.cmd.head).fails.toNat = min 255 ((s.head b x.cmd.head).fails.toNat + 1) ∧
      (x.fails < 3 → (s.head b x.cmd.head).state ≠ hsSilent →
          (t.bus b).retry = some { x with fails := x.fails + 1 }) ∧
      (3 ≤ x.fails → (t.head b x.cmd.head).state = hsSilent) ∧ Only (parts (.frameAbandoned p)) s t) ∧
  (∀ (s : State) (p : PortNo), (s.port p).frameBad = false → exec (.frameAbandoned p) s = .next s) ∧
  (∀ (s : State) (b : BusNo) (x : Exchange) (p : PortNo), s.masterBus p = some b → (s.bus b).sent ≠ [] →
      s.hedgeOn b = true → (s.bus b).exchange = some x → (s.head b x.cmd.head).state ≠ hsAbsent →
      (s.head b x.cmd.head).state ≠ hsRetired → (s.bus b).retire = none →
    ∃ t, exec (.readbackMismatch p) s = .next t ∧ (t.bus b).collides = min 0xFFFF ((s.bus b).collides + 1) ∧
      (t.bus b).sent = [] ∧ (t.bus b).exchange = none ∧
      (t.head b x.cmd.head).fails.toNat = min 255 ((s.head b x.cmd.head).fails.toNat + 1) ∧
      (x.fails < 3 → (s.head b x.cmd.head).state ≠ hsSilent →
          (t.bus b).retry = some { x with fails := x.fails + 1 }) ∧
      (3 ≤ x.fails → (t.head b x.cmd.head).state = hsSilent) ∧ Only (parts (.readbackMismatch p)) s t) ∧
  (∀ (s : State) (b : BusNo) (mode : Bool) (p : PortNo), s.masterBus p = some b → (s.bus b).sent ≠ [] →
      s.hedgeOn b = true → (s.bus b).exchange = none → (s.bus b).rolling = some mode →
    ∃ t, exec (.readbackMismatch p) s = .next t ∧ (t.bus b).collides = min 0xFFFF ((s.bus b).collides + 1) ∧
      (t.bus b).sent = [] ∧ (t.bus b).rolling = none ∧ (t.bus b).rollCall = some mode ∧
      Only (parts (.readbackMismatch p)) s t) ∧
  (∀ (s : State) (b : BusNo) (p : PortNo), s.masterBus p = some b → (s.bus b).sent ≠ [] → s.hedgeOn b = true →
      (s.bus b).exchange = none → (s.bus b).rolling = none → (s.bus b).sleep = .committing →
    ∃ t, exec (.readbackMismatch p) s = .next t ∧ (t.bus b).collides = min 0xFFFF ((s.bus b).collides + 1) ∧
      (t.bus b).sent = [] ∧ (t.bus b).sleep = .none ∧ (t.bus b).wake = some false ∧ (t.bus b).rollCall = some false ∧
      (t.bus b).sleepAborts = min 0xFFFF ((s.bus b).sleepAborts + 1) ∧ Only (parts (.readbackMismatch p)) s t) ∧
  (∀ (s : State) (b : BusNo) (p : PortNo), s.masterBus p = some b → (s.bus b).sent = [] →
      exec (.readbackMismatch p) s = .next s) ∧
  (∀ (s : State) (b : BusNo) (n : Nat), s.hedgeOn b = true → (s.bus b).quiet = true →
      (s.bus b).state = .joining ∨ (s.bus b).state = .polling → 15 ≤ n → n ≤ 60 →
    ∃ t, exec (.attentionTaken b n) s = .next t ∧ (t.bus b).attentions = min 0xFFFF ((s.bus b).attentions + 1) ∧
      (if (s.bus b).granting then (t.bus b).again = true ∧ (t.bus b).rollCall = (s.bus b).rollCall
        else (t.bus b).rollCall = some false ∧
          (t.bus b).joinDue = ((s.bus b).joinDue || decide ((s.bus b).rollCall = some true))) ∧
      (∀ k, k ≠ b → t.bus k = s.bus k) ∧ Only (parts (.attentionTaken b n)) s t) ∧
  (∀ (s : State) (b : BusNo) (n : Nat) (p : PortNo), s.hedgeOn b = true → s.hedgePort b = some p →
      (s.bus b).quiet = true → (s.bus b).state = .joining ∨ (s.bus b).state = .polling → n < 15 →
    ∃ t, exec (.attentionTaken b n) s = .next t ∧ t.buses = s.buses ∧
      (t.port p).stats.glitches = satAdd 0xFFFFFFFF (s.port p).stats.glitches 1 ∧ (∀ q, q ≠ p → t.port q = s.port q) ∧
      Only (parts (.attentionTaken b n)) s t) ∧
  (∀ (s : State) (b : BusNo) (n : Nat), s.hedgeOn b = true → (s.bus b).quiet = true →
      (s.bus b).state = .joining ∨ (s.bus b).state = .polling → 60 < n →
    exec (.attentionTaken b n) s = .next (s.updBus b fun v => { v with faults := satAdd 0xFFFFFFFF v.faults 1 })) ∧
  (∀ (s : State) (b : BusNo) (a : List HeadNo), s.hedgeOn b = true → (s.bus b).rolling = some false →
    ∃ t, exec (.rollCallEnd b a) s = .next t ∧ (t.bus b).rolling = none ∧
      (t.bus b).grant = ((s.expected b).filter fun h => a.contains h && s.pollable b h) ∧
      (t.bus b).granting = !(t.bus b).grant.isEmpty ∧
      (∀ h, h ∈ (t.bus b).grant → (t.head b h).attn = true) ∧ Only (parts (.rollCallEnd b a)) s t) ∧
  (∀ (s : State) (b : BusNo) (a : List HeadNo), s.hedgeOn b = true → (s.bus b).rolling = some true →
    ∃ t, exec (.rollCallEnd b a) s = .next t ∧ (t.bus b).rolling = none ∧
      (∀ h, h ∈ s.expected b → (t.head b h).state = hsJoining ∧ hedgeCmd h tyResync [] ∈ (t.bus b).queue ∧
        hedgeCmd h tyInventory [] ∈ (t.bus b).queue) ∧ Only (parts (.rollCallEnd b a)) s t) ∧
  (∀ (s : State) (b : BusNo) (p : PortNo), s.masterBus p = some b → s.hedgeOn b = true →
      (s.bus b).state ≠ .stopped → (s.bus b).state ≠ .blind → (s.bus b).retire = none →
    ∃ t, exec (.busBlind p) s = .next t ∧ (t.bus b).state = .blind ∧ (t.bus b).exchange = none ∧
        (t.port p).fifo = [] ∧
      (∀ h, (s.head b h).state ≠ hsRetired → (s.head b h).state ≠ hsAbsent ∨ (s.headRow b h).configured = true →
        s.headBusy b h = false → (t.head b h).state = hsBlind) ∧
      (∀ h, (s.head b h).state = hsJoining → s.headBusy b h = true → (t.head b h).state = hsSilent) ∧
      (∀ h, (s.head b h).state = hsRetired ∨ ((s.head b h).state = hsAbsent ∧ (s.headRow b h).configured = false) →
        t.head b h = s.head b h) ∧
      Only (parts (.busBlind p)) s t) ∧
  (∀ (s : State) (b : BusNo) (r : Byte), s.hedgeOn b = true → (s.bus b).state = .blind →
    exec (.blindProbe b r) s = .next (s.updBus b fun v => { v with probe := r })) ∧
  (∀ (s : State) (b : BusNo) (p : PortNo), s.masterBus p = some b → s.hedgeOn b = true → (s.bus b).state = .blind →
      (s.bus b).retire = none →
    ∃ t, exec (.busRecovered p) s = .next t ∧ (t.bus b).state = .joining ∧ (t.bus b).rollCall = some true ∧
      (∀ h, h ∈ s.expected b → (t.head b h).wasLost = true) ∧
      (∀ k, k ≠ b → t.bus k = s.bus k) ∧ Only (parts (.busRecovered p)) s t)

/-- The sleep agreement step by step, and a port that answers as a head: replies, repeats, pulses, sleep and a bus
at space. With sleep enabled, nothing waiting and 60 ms left SLEEP-PROPOSE offers its tens of milliseconds; an
objection asks for a ROLL-CALL, else SLEEP-COMMIT follows and the guard puts the bus to sleep. An abort is counted,
wakes without a pulse and asks for a ROLL-CALL; a waking pulse counts as attention, and the master pulses where no
falling edge came in the sleep. A head prepares its reply to a command, the kept one to a repeat, and forgets it at
RESYNC; the reply goes out while the driver may be enabled, and a REPORT clears attention once it is out. A frame in
which a step was met is abandoned, one not accepted does nothing, any other frame of the master leaves the head
awake. It pulses at ROLL-CALL, against SLEEP-PROPOSE and for attention, sleeps once the guard of SLEEP-COMMIT
passes, for the length given, and wakes when it ends. A mismatch cuts its reply; a bus at space hushes it until the
bus is back at mark. A port that is no head changes nothing. -/
def Obligations.HedgeSleepAndTheHeadRole : Prop :=
  (∀ (s : State) (b : BusNo) (n : Nat), s.hedgeOn b = true → (s.busRow b).sleep = true →
      (s.bus b).state = .polling → (s.bus b).idle = true → 60 ≤ n → (∀ p, s.hedgePort b = some p →
      s.mayDrive p = true) →
    ∃ t, exec (.sleepPropose b n) s = .next t ∧ (t.bus b).sleep = .proposed ∧
      (t.bus b).sleepFor.toNat = min 6000 ((n - 2) / 10) ∧
      (t.bus b).sent = hedgeFrame 4 31 tyPropose false (leBytes 2 (min 6000 ((n - 2) / 10))) ∧
      Only (parts (.sleepPropose b n)) s t) ∧
  (∀ (s : State) (b : BusNo) (n : Nat), (s.busRow b).sleep = false ∨ n < 60 ∨ (s.bus b).idle = false →
      exec (.sleepPropose b n) s = .next s) ∧
  (∀ (s : State) (b : BusNo), s.hedgeOn b = true → (s.bus b).sleep = .proposed →
    ∃ t, exec (.objectionWindowEnd b true) s = .next t ∧ (t.bus b).sleep = .none ∧ (t.bus b).rollCall = some false ∧
      Only (parts (.objectionWindowEnd b true)) s t) ∧
  (∀ (s : State) (b : BusNo) (p : PortNo), s.hedgeOn b = true → s.hedgePort b = some p →
      (s.bus b).sleep = .proposed → s.mayDrive p = true →
    ∃ t, exec (.objectionWindowEnd b false) s = .next t ∧ (t.bus b).sleep = .committing ∧
      (t.bus b).sent = hedgeFrame 4 31 tyCommit false (leBytes 2 (s.bus b).sleepFor.toNat) ∧ (t.port p).fell = false ∧
      Only (parts (.objectionWindowEnd b false)) s t) ∧
  (∀ (s : State) (b : BusNo) (p : PortNo), s.masterBus p = some b → s.hedgeOn b = true →
      (s.bus b).sleep = .committing →
    exec (.sleepBegins p) s = .next (s.updBus b fun v => { v with sleep := .none, state := .asleep })) ∧
  (∀ (s : State) (b : BusNo) (onCommit : Bool), s.hedgeOn b = true → (s.bus b).sleep = .committing →
    ∃ t, exec (.sleepAbort b onCommit) s = .next t ∧ (t.bus b).sleep = .none ∧
      (t.bus b).sleepAborts = min 0xFFFF ((s.bus b).sleepAborts + 1) ∧ (t.bus b).wake = some false ∧
      (t.bus b).rollCall = some false ∧
      (t.bus b).collides = (if onCommit then min 0xFFFF ((s.bus b).collides + 1) else (s.bus b).collides) ∧
      Only (parts (.sleepAbort b onCommit)) s t) ∧
  (∀ (s : State) (b : BusNo) (p : PortNo) (byPulse : Bool), s.hedgeOn b = true → s.hedgePort b = some p →
      (s.bus b).state = .asleep → (s.bus b).wake = none →
    ∃ t, exec (.busWake b byPulse) s = .next t ∧ (t.bus b).wake = some (!byPulse && !(s.port p).fell) ∧
      (t.bus b).rollCall = some false ∧
      (t.bus b).attentions = (if byPulse then min 0xFFFF ((s.bus b).attentions + 1) else (s.bus b).attentions) ∧
      Only (parts (.busWake b byPulse)) s t) ∧
  (∀ (s : State) (p : PortNo) (f : List Half) (g : HedgeFrame), s.actsAsHead p = true →
      (s.port p).amp.stepped = false → readFrame f = some g → g.fromMaster = true →
      (s.port p).head.mode ≠ .turnaround → (s.port p).head.mode ≠ .hushed → g.kind = 0 →
      g.addr = (s.port p).rx.myAddr → g.payload = [] → g.type = tyPoll →
      (∀ x, (s.port p).head.kept ≠ some (g.toggle, tyPoll, x)) →
    ∃ t x, exec (.headCommandReceived p f) s = .next t ∧
      x = hedgeFrame 1 (s.port p).rx.myAddr tyReport g.toggle ((s.updRole p HeadRole.settle).reportPayload p) ∧
      (t.port p).head = { (s.port p).head.settle with mode := .turnaround, commit := none, prepared := some x, kept := some (g.toggle, tyPoll, x) } ∧
      (t.port p).fifo = [] ∧ Only (parts (.headCommandReceived p f)) s t) ∧
  (∀ (s : State) (p : PortNo) (f : List Half) (g : HedgeFrame), s.actsAsHead p = true →
      (s.port p).amp.stepped = false → readFrame f = some g → g.fromMaster = true →
      (s.port p).head.mode ≠ .turnaround → (s.port p).head.mode ≠ .hushed → g.kind = 0 →
      g.addr = (s.port p).rx.myAddr → g.payload = [] → g.type = tyInventory →
      (∀ x, (s.port p).head.kept ≠ some (g.toggle, tyInventory, x)) →
    ∃ t x, exec (.headCommandReceived p f) s = .next t ∧
      x = hedgeFrame 1 (s.port p).rx.myAddr tyInventory g.toggle s.inventoryPayload ∧
      (t.port p).head = { (s.port p).head.settle with mode := .turnaround, commit := none, prepared := some x, kept := some (g.toggle, tyInventory, x) } ∧
      (t.port p).fifo = [] ∧ Only (parts (.headCommandReceived p f)) s t) ∧
  (∀ (s : State) (p : PortNo) (f : List Half) (g : HedgeFrame), s.actsAsHead p = true →
      (s.port p).amp.stepped = false → readFrame f = some g → g.fromMaster = true →
      (s.port p).head.mode ≠ .turnaround → (s.port p).head.mode ≠ .hushed → g.kind = 0 →
      g.addr = (s.port p).rx.myAddr → g.payload.length = 2 → g.type = tySetLamp →
      (∀ x, (s.port p).head.kept ≠ some (g.toggle, tySetLamp, x)) →
    ∃ t x, exec (.headCommandReceived p f) s = .next t ∧
      x = hedgeFrame 2 (s.port p).rx.myAddr tySetLamp g.toggle [] ∧
      (t.port p).head = { (s.port p).head.settle with mode := .turnaround, commit := none, prepared := some x, kept := some (g.toggle, tySetLamp, x) } ∧
      (t.port p).fifo = [] ∧ Only (parts (.headCommandReceived p f)) s t) ∧
  (∀ (s : State) (p : PortNo) (f : List Half) (g : HedgeFrame), s.actsAsHead p = true →
      (s.port p).amp.stepped = false → readFrame f = some g → g.fromMaster = true →
      (s.port p).head.mode ≠ .turnaround → (s.port p).head.mode ≠ .hushed → g.kind = 0 →
      g.addr = (s.port p).rx.myAddr → g.payload = [] → g.type = tyResync →
    ∃ t, exec (.headCommandReceived p f) s = .next t ∧
      (t.port p).head = { (s.port p).head.settle with mode := .turnaround, commit := none, kept := none
                                                      prepared := some (hedgeFrame 2 (s.port p).rx.myAddr tyResync g.toggle []) } ∧
      (t.port p).fifo = [] ∧ Only (parts (.headCommandReceived p f)) s t) ∧
  (∀ (s : State) (p : PortNo) (f : List Half) (g : HedgeFrame) (x : List Byte), s.actsAsHead p = true →
      (s.port p).amp.stepped = false → readFrame f = some g → g.fromMaster = true →
      (s.port p).head.mode ≠ .turnaround → (s.port p).head.mode ≠ .hushed → g.kind = 0 →
      g.addr = (s.port p).rx.myAddr → commandLen g.type = some g.payload.length → g.type ≠ tyResync →
      (s.port p).head.kept = some (g.toggle, g.type, x) →
    ∃ t, exec (.headCommandReceived p f) s = .next t ∧
      (t.port p).head = { (s.port p).head.settle with mode := .turnaround, commit := none, prepared := some x } ∧
      (t.port p).fifo = [] ∧ Only (parts (.headCommandReceived p f)) s t) ∧
  (∀ (s : State) (p : PortNo) (f : List Half) (g : HedgeFrame), s.actsAsHead p = true →
      (s.port p).amp.stepped = false → readFrame f = some g → g.fromMaster = true →
      (s.port p).head.mode ≠ .turnaround → (s.port p).head.mode ≠ .hushed → g.kind = 0 →
      g.addr ≠ (s.port p).rx.myAddr ∨ commandLen g.type ≠ some g.payload.length →
    ∃ t, exec (.headCommandReceived p f) s = .next t ∧
      (t.port p).head = { (s.port p).head.settle with mode := .awake, commit := none } ∧ (t.port p).fifo = [] ∧
      Only (parts (.headCommandReceived p f)) s t) ∧
  (∀ (s : State) (p : PortNo) (f : List Half), s.actsAsHead p = true → (s.port p).amp.stepped = false →
      readFrame f = none →
    ∃ t, exec (.headCommandReceived p f) s = .next t ∧ (t.port p).head = (s.port p).head.settle ∧
        (t.port p).fifo = [] ∧
      Only (parts (.headCommandReceived p f)) s t) ∧
  (∀ (s : State) (p : PortNo) (f : List Half), s.actsAsHead p = true → (s.port p).amp.stepped = true →
    ∃ t, exec (.headCommandReceived p f) s = .next t ∧ exec (.headBroadcastReceived p f) s = .next t ∧
      (t.port p).head = (s.port p).head.settle ∧ (t.port p).fifo = [] ∧ (t.port p).edge = none ∧
      (t.port p).hold = .character ∧ Only (parts (.headCommandReceived p f)) s t) ∧
  (∀ (s : State) (p : PortNo) (f : List Half) (g : HedgeFrame), s.actsAsHead p = true →
      (s.port p).amp.stepped = false → readFrame f = some g →
      (s.port p).head.mode = .turnaround ∨ (s.port p).head.mode = .hushed →
    ∃ t, exec (.headCommandReceived p f) s = .next t ∧ exec (.headBroadcastReceived p f) s = .next t ∧
      (t.port p).head = (s.port p).head ∧ (t.port p).fifo = [] ∧ Only (parts (.headCommandReceived p f)) s t) ∧
  (∀ (s : State) (p : PortNo) (f : List Half) (g : HedgeFrame), s.actsAsHead p = true →
      (s.port p).amp.stepped = false → readFrame f = some g → g.fromMaster = true →
      (s.port p).head.mode ≠ .turnaround → (s.port p).head.mode ≠ .hushed → g.kind = 4 →
    (g.type = tyRollCall ∧ (g.payload = [1] ∨ (g.payload = [0] ∧ (s.port p).head.settle.attention = true))) ∨
      (g.type = tyPropose ∧ g.payload.length = 2 ∧ (s.port p).head.settle.attention = true) →
    ∃ t, exec (.headBroadcastReceived p f) s = .next t ∧ (t.port p).head.mode = .awake ∧
        (t.port p).head.commit = none ∧
      (t.port p).head.pulses = (s.port p).head.pulses + (if s.mayDrive p then 1 else 0) ∧
      (t.port p).head.attention = (s.port p).head.settle.attention ∧ Only (parts (.headBroadcastReceived p f)) s t) ∧
  (∀ (s : State) (p : PortNo) (f : List Half) (g : HedgeFrame), s.actsAsHead p = true →
      (s.port p).amp.stepped = false → readFrame f = some g → g.fromMaster = true →
      (s.port p).head.mode ≠ .turnaround → (s.port p).head.mode ≠ .hushed → g.kind = 4 → g.type = tyCommit →
      g.payload.length = 2 →
    ∃ t, exec (.headBroadcastReceived p f) s = .next t ∧
      (t.port p).head = { (s.port p).head.settle with mode := .awake, commit := some (BitVec.ofNat 16 (fieldAt g.payload 0 2)) } ∧
      Only (parts (.headBroadcastReceived p f)) s t) ∧
  (∀ (s : State) (p : PortNo) (f : List Half) (g : HedgeFrame), s.actsAsHead p = true →
      (s.port p).amp.stepped = false → readFrame f = some g → g.fromMaster = true →
      (s.port p).head.mode ≠ .turnaround → (s.port p).head.mode ≠ .hushed → g.kind = 4 → g.type = tyWake →
    ∃ t, exec (.headBroadcastReceived p f) s = .next t ∧
      (t.port p).head = { (s.port p).head.settle with mode := .awake, commit := none } ∧
      Only (parts (.headBroadcastReceived p f)) s t) ∧
  (∀ (s : State) (p : PortNo) (n : Half), s.actsAsHead p = true → (s.port p).head.commit = some n →
    ∃ t, exec (.sleepBegins p) s = .next t ∧
      (t.port p).head = { (s.port p).head with mode := .asleep, commit := none, sleepFor := n } ∧
      Only (parts (.sleepBegins p)) s t) ∧
  (∀ (s : State) (p : PortNo) (x : List Byte), s.actsAsHead p = true → (s.port p).head.mode = .turnaround →
      (s.port p).head.prepared = some x →
    ∃ t, exec (.hedgeCommandSend p) s = .next t ∧
      (t.port p).head = (if s.mayDrive p then { (s.port p).head with mode := .sending, prepared := none, reply := x }
        else { (s.port p).head with mode := .awake, prepared := none, reply := [] }) ∧
      Only (parts (.hedgeCommandSend p)) s t) ∧
  (∀ (s : State) (p : PortNo), s.actsAsHead p = true → (s.port p).head.mode ≠ .turnaround →
    exec (.hedgeCommandSend p) s = .next (s.updRole p HeadRole.settle)) ∧
  (∀ r : HeadRole, r.mode = .sending → sentReport r.reply = true →
      r.settle = { r with mode := .awake, attention := false }) ∧
  (∀ r : HeadRole, r.mode = .sending → sentReport r.reply = false → r.settle = { r with mode := .awake }) ∧
  (∀ r : HeadRole, r.mode ≠ .sending → r.settle = r) ∧
  (∀ (s : State) (p : PortNo), s.actsAsHead p = true → (s.port p).head.settle.mayPulse = true → s.mayDrive p = true →
    ∃ t, exec (.headAttentionPulse p) s = .next t ∧ (t.port p).head.pulses = (s.port p).head.pulses + 1 ∧
      (t.port p).head.attention = true ∧ Only (parts (.headAttentionPulse p)) s t) ∧
  (∀ (s : State) (p : PortNo), s.actsAsHead p = true →
      (s.port p).head.settle.mayPulse = false ∨ s.mayDrive p = false →
    exec (.headAttentionPulse p) s = .next (s.updRole p HeadRole.settle)) ∧
  (∀ (s : State) (p : PortNo), s.actsAsHead p = true → (s.port p).head.mode = .asleep →
    ∃ t, exec (.headSleepEnds p) s = .next t ∧ (t.port p).head = { (s.port p).head with mode := .awake } ∧
      Only (parts (.headSleepEnds p)) s t) ∧
  (∀ (s : State) (p : PortNo), s.actsAsHead p = true → (s.port p).head.mode = .sending →
    exec (.readbackMismatch p) s = .next (s.updRole p fun r => { r with mode := .awake, reply := [] })) ∧
  (∀ (s : State) (p : PortNo), s.actsAsHead p = true →
    ∃ t, exec (.busBlind p) s = .next t ∧ (t.port p).fifo = [] ∧
      (t.port p).head = { (s.port p).head.settle with mode := .hushed, prepared := none, commit := none, reply := [] } ∧
      Only (parts (.busBlind p)) s t) ∧
  (∀ (s : State) (p : PortNo), s.actsAsHead p = true → (s.port p).head.mode = .hushed →
    exec (.busRecovered p) s = .next (s.updRole p fun r => { r with mode := .awake })) ∧
  (∀ (s : State) (p : PortNo), s.alive = true → (s.port p).rx.rx = .head →
    exec (.frameGapTimeout p) s = .next (s.dropFrame p) ∧
    ((s.port p).frameBad = true → exec (.frameAbandoned p) s = .next (s.abandonFrame p))) ∧
  (∀ (s : State) (p : PortNo) (f : List Half), s.actsAsHead p = false → exec (.headCommandReceived p f) s = .next s ∧
    exec (.headBroadcastReceived p f) s = .next s ∧ exec (.headAttentionPulse p) s = .next s ∧
    exec (.headSleepEnds p) s = .next s ∧
    (s.masterBus p = none → exec (.hedgeCommandSend p) s = .next s ∧ exec (.readbackMismatch p) s = .next s ∧
      exec (.sleepBegins p) s = .next s ∧ exec (.busBlind p) s = .next s ∧ exec (.busRecovered p) s = .next s))

/-- PAIR-HANDOVER and its end, claiming and yielding duty, formation, split configuration, take-over, a lost link
and the offset. PAIR-HANDOVER of a duty whose peer is armed is accepted and drains; with nothing on its lines and no
record due it gives duty up at once; after the drain time what is sent is cut. It ends with 0x0000 when PL_DUTY_IN
is high, else the device claims duty again with 0x0014. A device without a role that claims is duty with its drivers
where due, or standby where PL_DUTY_IN is high (log entry 160), and stays without one where a peer has its rank; a
yield or an engine down too long drops duty, its listeners and its buses. A pair that has caught up forms; differing
digests set SPLIT_CONFIG and disarm. An armed standby takes over with numbers 0x1000 above the last mirrored one. A
lost link forgets its frames, not the records that wait for their items. The standby adopts the measured offset and
keeps the difference as skew. -/
def Obligations.PairRolesHandoverAndTakeOver : Prop :=
  (∀ (s : State) (m : Msg), s.offers m 0x0605 inWork (exactFault []) → s.handoverBusy = false →
      s.pair.role = .duty → s.pair.peerArmed = true → s.listening = true → ∃ t, exec (.pairHandover m) s = .next t ∧
    Replied s t m 0x0605 1 [] ∧
    t.pair = { s.pair with handover := .draining } ∧
    t.engine.accepted = s.engine.accepted ++ [{ ch := m.ch, code := 0x0605, tag := m.tag, work := .handover }] ∧
        Only (parts (.pairHandover m)) s t) ∧
  (∀ (s : State) (m : Msg), s.offers m 0x0605 inWork (exactFault []) → s.handoverBusy = false →
      s.pair.role = .duty → s.pair.peerArmed = true → s.listening = false →
    s.deliveredDue = false → ∃ t, exec (.pairHandover m) s = .next t ∧
    Answered s t m 0x0605 1 [] ∧
    t.pair.handover = .waiting ∧ t.pair.role = .standby ∧ t.pair.dutyOut = false ∧
        Only (parts (.pairHandover m)) s t) ∧
  (∀ (s : State) (m : Msg), s.offers m 0x0605 inWork (exactFault []) → s.handoverBusy = true →
    exec (.pairHandover m) s = .next (s.served.refused m 0x0605 0x0012)) ∧
  (∀ (s : State) (m : Msg), s.offers m 0x0605 inWork (exactFault []) → s.handoverBusy = false →
      s.pair.role ≠ .duty ∨ s.pair.peerArmed = false →
    exec (.pairHandover m) s = .next (s.served.refused m 0x0605 0x0014)) ∧
  (∀ (s : State), s.roadRuns = true → s.pair.handover = .draining →
    ∃ t, exec .handoverDrainTimeout s = .next t ∧ (∀ p, (t.port p).tx.sending = none) ∧ t.pair.handover ≠ .draining ∧
      Only (parts .handoverDrainTimeout) s t) ∧
  (∀ (s : State) (a : Accepted), s.serves = true → s.pair.handover = .waiting →
      s.engine.accepted.find? (fun a => decide (a.work = .handover)) = some a →
    ∃ t, exec (.pairHandoverDone true) s = .next t ∧
      Replied s t { ch := a.ch, tag := a.tag, payload := [] } a.code.toNat 0 [] ∧
      t.pair = { s.pair with handover := .none, dutyIn := true } ∧ t.engine.accepted = s.engine.accepted.erase a ∧
      Only (parts (.pairHandoverDone true)) s t) ∧
  (∀ (s : State) (a : Accepted), s.serves = true → s.pair.handover = .waiting →
      s.engine.accepted.find? (fun a => decide (a.work = .handover)) = some a →
    ∃ t, exec (.pairHandoverDone false) s = .next t ∧
      Answered s t { ch := a.ch, tag := a.tag, payload := [] } a.code.toNat 0x0014 [] ∧ t.pair.role = .duty ∧
      t.pair.dutyOut = true ∧ t.pair.dutyIn = false ∧ t.pair.handover = .none ∧
      Only (parts (.pairHandoverDone false)) s t) ∧
  (∀ (s : State), s.engineWorks = true → s.settings.pairEnable = true → s.pair.role = .none →
      s.pair.sameRank = false →
    ∃ t, exec (.dutyClaim false) s = .next t ∧ t.pair.role = .duty ∧ t.pair.dutyOut = true ∧ t.pair.dutyIn = false ∧
      (∀ p, (t.port p).driver = (t.driverDue (s.port p).txc.tx && !(s.port p).hot && decide ((s.port p).loop ≠ .internal))) ∧
      Only (parts (.dutyClaim false)) s t) ∧
  (∀ (s : State), s.engineWorks = true → s.settings.pairEnable = true → s.pair.role = .none →
    ∃ t, exec (.dutyClaim true) s = .next t ∧ t.pair = { s.pair with role := .standby, dutyIn := true } ∧
      t.chanN.bellIn.getLsbD 4 = true ∧ Only (parts (.dutyClaim true)) s t) ∧
  (∀ (s : State), s.engineWorks = true → s.settings.pairEnable = true → s.pair.role = .none → s.pair.sameRank = true →
    exec (.dutyClaim false) s = .next (s.setPair fun p => { p with dutyIn := false })) ∧
  (∀ (s : State) (d : Bool), s.pair.role ≠ .none ∨ s.settings.pairEnable = false → exec (.dutyClaim d) s = .next s) ∧
  (∀ (s : State), s.roadRuns = true → s.pair.dutyOut = true → s.power.rank = false →
    ∃ t, exec .dutyYield s = .next t ∧ t.pair.role = .standby ∧ t.pair.dutyOut = false ∧ t.pair.dutyIn = true ∧
      (∀ b, (t.bus b).state = .stopped) ∧
      (∀ p, (s.port p).txc.tx = .listener → (t.port p).driver = false ∧ (t.port p).tx.sending = none) ∧
      Only (parts .dutyYield) s t) ∧
  (∀ (s : State), s.power.rank = true ∨ s.pair.dutyOut = false → exec .dutyYield s = .next s) ∧
  (∀ (s : State), s.roadRuns = true → s.pair.role = .duty → s.engine.up = false →
    ∃ t, exec .dutyEngineDown s = .next t ∧ t.pair.role = .none ∧ t.pair.dutyOut = false ∧
      (∀ b, (t.bus b).state = .stopped) ∧
      (∀ p, (s.port p).txc.tx = .listener → (t.port p).driver = false ∧ (t.port p).tx.sending = none) ∧
      Only (parts .dutyEngineDown) s t) ∧
  (∀ (s : State), s.engineWorks = true → s.pair.linkUp = true → s.pair.caughtUp = true → s.pair.formed = false →
      s.pair.majorMismatch = false → s.pair.sameRank = false → s.pair.role = .duty ∨ s.pair.role = .standby →
    ∃ t, exec .pairFormed s = .next t ∧ t.pair = { s.pair with formed := true } ∧ t.chanN.bellIn.getLsbD 4 = true ∧
      Only (parts .pairFormed) s t) ∧
  (∀ (s : State), s.engineWorks = true → s.pair.linkUp = true → s.digestsDiffer = true →
    ∃ t, exec .splitConfig s = .next t ∧ t.pair = { s.pair with splitConfig := true, armed := false } ∧
      (s.pair.splitConfig = false → t.chanN.bellIn.getLsbD 4 = true) ∧ Only (parts .splitConfig) s t) ∧
  (∀ (s : State), s.mayTakeOver = true →
    ∃ t, exec .takeOver s = .next t ∧ t.pair.role = .duty ∧ t.pair.dutyOut = true ∧ t.pair.dutyIn = false ∧
      t.pair.armed = false ∧ t.pair.formed = false ∧ t.chanN.bellIn.getLsbD 4 = true ∧
      ((∀ l, (s.lamp l).active = false) → (∀ b, (s.bus b).retire = none) →
          t.pair.nextSeq = s.pair.lastMirrored + 0x1000) ∧
      Only (parts .takeOver) s t) ∧
  (∀ (s : State), s.mayTakeOver = false → exec .takeOver s = .next s) ∧
  (∀ (s : State) (d : Bool), s.linkRuns = true → s.pair.linkUp = true →
    ∃ t, exec (.linkLost d) s = .next t ∧ t.pair.linkUp = false ∧ t.pair.formed = false ∧ t.pair.unacked = [] ∧
      t.pair.waiting = [] ∧ t.pair.beats = 0 ∧ t.pair.nextSeq = s.pair.nextSeq ∧
          t.pair.unmatched = s.pair.unmatched ∧ t.pair.dutyIn = d ∧
      t.pair.role = (if d && s.engine.up && decide (s.pair.role = .none) then .standby else s.pair.role) ∧
      (t.view viewPeer).inFlight = [] ∧ (s.engine.up = true → t.chanN.bellIn.getLsbD 4 = true) ∧
      Only (parts (.linkLost d)) s t) ∧
  (∀ (s : State) (m : Stamp), s.engineWorks = true → s.pair.role = .standby → s.pair.measured = some m →
      s.pair.offset = none →
    ∃ t, exec .offsetAdopt s = .next t ∧ t.pair = { s.pair with offset := some m } ∧ Only (parts .offsetAdopt) s t) ∧
  (∀ (s : State) (m o : Stamp), s.engineWorks = true → s.pair.role = .standby → s.pair.measured = some m →
      s.pair.offset = some o →
    ∃ t, exec .offsetAdopt s = .next t ∧ t.pair.offset = some m ∧ t.pair.skew = (m - o).toInt ∧
      (500 < (m - o).toInt.natAbs → t.pair.timeSkew = true) ∧
      ((m - o).toInt.natAbs ≤ 500 → s.pair.steady < 9 → t.pair.timeSkew = s.pair.timeSkew) ∧
      Only (parts .offsetAdopt) s t)

/-- HEARTBEATs, acknowledgements and sequenced frames: in order once, duplicates counted, and what a standby makes
of each. A HEARTBEAT sent is the one composed, byte for byte; one accepted gives the peer, PL_DUTY_IN, the
mismatches and a standby's measured offset, and the third in a row sets LINK_UP; a duty whose peer stands by forms
the pair; a duty with a peer of the same rank yields. An ACK takes the acknowledged frame off the window. A
sequenced frame next in order is accepted once and acknowledged (log entry 161), with its effect on a standby: a
MIRROR record is matched or waits, DELIVERED takes the matched item out of its view, LAMP sets the lamp bits, at
once while the engine is up, EPOCH the epoch, CATCHUP-END and HANDOVER the last mirrored number; an ITEM is written
with source 0x41 and decided. A duplicate is counted and acknowledged again, one out of order does nothing, one
whose LEN does not fit is dropped and counted, as is a frame that fails the check, which every frame composed
passes. A retransmission sends the window again. Missing and orphan items are counted. -/
def Obligations.PleachFramesActOnceAndInOrder : Prop :=
  (∀ (s : State), s.linkRuns = true → s.injectOn = false →
    ∃ t, exec .heartbeatSend s = .next t ∧ t.pair.beat = some s.heartbeat ∧ t.pair.ackOwed = false ∧
      (s.pair.linkUp = false → s.pair.withheld = none → t.pair.sent = min 0xFFFFFFFF (s.pair.sent + 1) ∧
        t.pair.wire = pleachBytes 0x01 0 s.pair.rxSeq (beatBytes s.heartbeat)) ∧
      Only (parts .heartbeatSend) s t) ∧
  (∀ (s : State) (h : PleachHdr) (b : Heartbeat) (d : Bool), s.linkRuns = true → s.engine.up = true →
      s.pair.handover = .none → b.rank ≠ s.power.rank →
    ∃ t, exec (.heartbeatReceived h b d) s = .next t ∧
      t.pair.peer = some {
        flags := b.flags, rank := b.rank, mode := b.mode, major := b.major, minor := b.minor, patch := b.patch
        digest := b.digest } ∧ t.pair.dutyIn = d ∧ t.pair.beats = min 3 (s.pair.beats + 1) ∧
      t.pair.linkUp = (s.pair.linkUp || decide (2 ≤ s.pair.beats)) ∧ t.pair.sameRank = false ∧
      t.pair.majorMismatch = decide (b.major ≠ s.heartbeat.major) ∧
      t.pair.accepted = min 0xFFFFFFFF (s.pair.accepted + 1) ∧
      (s.pair.role = .none → t.pair.role = (if d then .standby else .none)) ∧
      (s.pair.role ≠ .none → t.pair.role = s.pair.role) ∧
      (s.pair.role = .standby → b.flags.getLsbD 0 = true → t.pair.measured = some (b.elapsed - s.now)) ∧
      (s.pair.role = .duty → s.pair.linkUp = true ∨ 2 ≤ s.pair.beats → s.pair.forming = false →
          b.major = s.heartbeat.major →
        b.flags.getLsbD 0 = false → b.flags.getLsbD 1 = false → t.pair.forming = true ∧ t.pair.caughtUp = true) ∧
      Only (parts (.heartbeatReceived h b d)) s t) ∧
  (∀ (s : State) (h : PleachHdr) (b : Heartbeat) (d : Bool), s.linkRuns = true → s.pair.handover = .none →
      b.rank = s.power.rank →
    ∃ t, exec (.heartbeatReceived h b d) s = .next t ∧ t.pair.sameRank = true ∧ t.pair.dutyIn = d ∧
      (s.pair.role = .duty → s.pair.sameRank = false → t.pair.role = .standby ∧ t.pair.dutyOut = false) ∧
      Only (parts (.heartbeatReceived h b d)) s t) ∧
  (∀ (s : State) (h : PleachHdr) (f : Frame) (r : List (Half × Frame)), s.linkRuns = true →
      s.pair.unacked = (h.ack, f) :: r → s.pair.waiting = [] → (s.view viewPeer).queue = [] →
      s.pair.handover = .none →
    ∃ t, exec (.ackOnly h) s = .next t ∧ t.pair.unacked = r ∧ t.pair.rxSeq = s.pair.rxSeq ∧
      t.pair.accepted = min 0xFFFFFFFF (s.pair.accepted + 1) ∧ Only (parts (.ackOnly h)) s t) ∧
  (∀ (s : State) (h : PleachHdr) (c : Instr) (mr : List MirrorRec) (dr : List DeliveredRec) (ir : ItemRec) (lr : List LampRec)
    (er : Option EpochRec) (n : Word) (d : Bool), c ∈ [Instr.mirrorFrame h mr, .deliveredFrame h dr, .itemFrame h ir, .lampFrame h lr, .epochFrame h er,
      .catchupEnd h n, .handoverFrame h n d] → 1 ≤ mr.length → mr.length ≤ 25 → 1 ≤ dr.length → dr.length ≤ 42 →
      1 ≤ ir.payload.length → ir.payload.length ≤ 240 → 1 ≤ lr.length → lr.length ≤ 21 → s.linkRuns = true →
          h.seq ≠ nextLinkSeq s.pair.rxSeq → h.seq ∈ s.pair.recent → s.pair.unacked = [] → s.pair.waiting = [] →
          (s.view viewPeer).queue = [] → s.pair.handover = .none → s.injectOn = false → s.pair.withheld = none →
    ∃ t, exec c s = .next t ∧
      t.pair = { s.pair with
        duplicates := min 0xFFFFFFFF (s.pair.duplicates + 1), ackOwed := false, sent := min 0xFFFFFFFF (s.pair.sent + 1)
        wire := pleachBytes 0x09 0 s.pair.rxSeq [] } ∧
      Only [.pair] s t) ∧
  (∀ (s : State) (h : PleachHdr) (c : Instr) (mr : List MirrorRec) (dr : List DeliveredRec) (ir : ItemRec) (lr : List LampRec)
    (er : Option EpochRec) (n : Word) (d : Bool), c ∈ [Instr.mirrorFrame h mr, .deliveredFrame h dr, .itemFrame h ir, .lampFrame h lr, .epochFrame h er,
      .catchupEnd h n, .handoverFrame h n d] → 1 ≤ mr.length → mr.length ≤ 25 → 1 ≤ dr.length → dr.length ≤ 42 →
      1 ≤ ir.payload.length → ir.payload.length ≤ 240 → 1 ≤ lr.length → lr.length ≤ 21 →
          h.seq ≠ nextLinkSeq s.pair.rxSeq → h.seq ∉ s.pair.recent → s.pair.unacked = [] → s.pair.waiting = [] →
          (s.view viewPeer).queue = [] → s.pair.handover = .none →
    exec c s = .next s) ∧
  (∀ (s : State) (h : PleachHdr) (mr : List MirrorRec) (dr : List DeliveredRec) (ir : ItemRec) (lr : List LampRec), s.linkRuns = true →
    (mr = [] ∨ 25 < mr.length → exec (.mirrorFrame h mr) s = .next s.countDropped) ∧
    (dr = [] ∨ 42 < dr.length → exec (.deliveredFrame h dr) s = .next s.countDropped) ∧
    (ir.payload = [] ∨ 240 < ir.payload.length → exec (.itemFrame h ir) s = .next s.countDropped) ∧
    (lr = [] ∨ 21 < lr.length → exec (.lampFrame h lr) s = .next s.countDropped)) ∧
  (∀ (s : State) (h : PleachHdr) (mr : List MirrorRec), 1 ≤ mr.length → mr.length ≤ 25 → s.linkRuns = true →
      h.seq = nextLinkSeq s.pair.rxSeq → s.pair.unacked = [] → s.pair.waiting = [] → (s.view viewPeer).queue = [] →
      s.pair.handover = .none → s.pair.role = .standby → s.sluice.items = [] →
    ∃ t, exec (.mirrorFrame h mr) s = .next t ∧ t.pair.rxSeq = h.seq ∧
      t.pair.accepted = min 0xFFFFFFFF (s.pair.accepted + 1) ∧ t.pair.ackOwed = false ∧
          t.pair.unmatched = s.pair.unmatched ++ mr ∧
      (∀ r, mr.getLast? = some r → t.pair.lastMirrored = r.pairSeq) ∧
      (s.injectOn = false → s.pair.withheld = none → t.pair.wire = pleachBytes 0x09 0 h.seq []) ∧
      Only (parts (.mirrorFrame h mr)) s t) ∧
  (∀ (s : State) (h : PleachHdr) (r : MirrorRec) (i : Item), s.linkRuns = true → h.seq = nextLinkSeq s.pair.rxSeq →
      s.pair.unacked = [] → s.pair.waiting = [] → (s.view viewPeer).queue = [] → s.pair.handover = .none →
      s.pair.role = .standby →
      s.sluice.items.find? (fun i => decide (i.place = .committed) && !i.isMatched && i.onPort && recMatches r i &&
      s.inPorts i.id) = some i →
    ∃ t, exec (.mirrorFrame h [r]) s = .next t ∧ t.pair.rxSeq = h.seq ∧
      t.pair.accepted = min 0xFFFFFFFF (s.pair.accepted + 1) ∧ t.pair.ackOwed = false ∧
      (∀ j, j ∈ t.sluice.items → j.id = i.id → j.pairSeq = r.pairSeq ∧ j.isMatched = true) ∧
      t.pair.unmatched = s.pair.unmatched ∧ Only (parts (.mirrorFrame h [r])) s t) ∧
  (∀ (s : State) (h : PleachHdr) (r : DeliveredRec) (l : Link), s.linkRuns = true →
      h.seq = nextLinkSeq s.pair.rxSeq → s.pair.unacked = [] → s.pair.waiting = [] → (s.view viewPeer).queue = [] →
      s.pair.handover = .none → s.pair.role = .standby → (s.view (portView r.view)).queue.find? (fun l =>
      (s.item? l.item).any fun i => i.isMatched && decide (i.pairSeq = r.pairSeq)) = some l →
    ∃ t, exec (.deliveredFrame h [r]) s = .next t ∧ t.pair.rxSeq = h.seq ∧
      t.pair.accepted = min 0xFFFFFFFF (s.pair.accepted + 1) ∧ t.pair.ackOwed = false ∧
      (∀ k, k ∈ (t.view (portView r.view)).queue → k.item ≠ l.item) ∧ Only (parts (.deliveredFrame h [r])) s t) ∧
  (∀ (s : State) (h : PleachHdr) (r : ItemRec), s.linkRuns = true → h.seq = nextLinkSeq s.pair.rxSeq →
      s.pair.unacked = [] → s.pair.waiting = [] → (s.view viewPeer).queue = [] → s.pair.handover = .none →
      1 ≤ r.payload.length → r.payload.length ≤ 240 → 128 + cellsFor r.payload.length ≤ s.freeCount →
      (∀ j, j ∈ s.sluice.items → j.id < s.sluice.nextId) →
    ∃ t, exec (.itemFrame h r) s = .next t ∧ t.pair.rxSeq = h.seq ∧
      t.pair.accepted = min 0xFFFFFFFF (s.pair.accepted + 1) ∧ t.pair.ackOwed = false ∧
          t.sluice.nextId = s.sluice.nextId + 1 ∧
      (∀ j, j ∈ t.sluice.items → j.id = s.sluice.nextId → j.place ≠ .ended ∧ j.source = 0x41 ∧
          j.payload = r.payload) ∧
      Only (parts (.itemFrame h r)) s t) ∧
  (∀ (s : State) (h : PleachHdr) (r : LampRec), s.linkRuns = true → h.seq = nextLinkSeq s.pair.rxSeq →
      s.pair.unacked = [] → s.pair.waiting = [] → (s.view viewPeer).queue = [] → s.pair.handover = .none →
      s.pair.role = .standby → s.engine.up = true → lampUsed (s.lamp r.index).row = true →
    ∃ t, exec (.lampFrame h [r]) s = .next t ∧ t.pair.rxSeq = h.seq ∧
      t.pair.accepted = min 0xFFFFFFFF (s.pair.accepted + 1) ∧ t.pair.ackOwed = false ∧
          (t.lamp r.index).acked = r.row.getLsbD 2 ∧
      (t.sluice.alarmWaits = [] → (t.lamp r.index).state.toNat = bitsOf r.row.toNat 3 3 ∧
        (t.lamp r.index).held = r.row.getLsbD 1 ∧ (t.lamp r.index).injected = r.row.getLsbD 0) ∧
      (∀ l, l ≠ r.index → t.lamp l = s.lamp l) ∧ Only (parts (.lampFrame h [r])) s t) ∧
  (∀ (s : State) (h : PleachHdr) (lr : List LampRec), 1 ≤ lr.length → lr.length ≤ 21 → s.linkRuns = true →
      h.seq = nextLinkSeq s.pair.rxSeq → s.pair.unacked = [] → s.pair.waiting = [] → (s.view viewPeer).queue = [] →
      s.pair.handover = .none → s.pair.role = .standby → s.engine.up = false →
    ∃ t, exec (.lampFrame h lr) s = .next t ∧ t.pair.rxSeq = h.seq ∧
      t.pair.accepted = min 0xFFFFFFFF (s.pair.accepted + 1) ∧ t.pair.ackOwed = false ∧
          t.pair.lampsOwed = s.pair.lampsOwed ++ lr ∧ t.lamps = s.lamps ∧
      Only (parts (.lampFrame h lr)) s t) ∧
  (∀ (s : State) (h : PleachHdr) (e : Option EpochRec), s.linkRuns = true → h.seq = nextLinkSeq s.pair.rxSeq →
      s.pair.unacked = [] → s.pair.waiting = [] → (s.view viewPeer).queue = [] → s.pair.handover = .none →
      s.pair.role = .standby →
    ∃ t, exec (.epochFrame h e) s = .next t ∧ t.pair.rxSeq = h.seq ∧
      t.pair.accepted = min 0xFFFFFFFF (s.pair.accepted + 1) ∧ t.pair.ackOwed = false ∧
      t.settings.epoch = (e.map fun r => {
        seconds := r.seconds, micros := r.micros, instant := s.fromPairTime r.instant }) ∧
      Only (parts (.epochFrame h e)) s t) ∧
  (∀ (s : State) (h : PleachHdr) (n : Word), s.linkRuns = true → h.seq = nextLinkSeq s.pair.rxSeq →
      s.pair.unacked = [] → s.pair.waiting = [] → (s.view viewPeer).queue = [] → s.pair.handover = .none →
      s.pair.role = .standby →
    ∃ t, exec (.catchupEnd h n) s = .next t ∧ t.pair.rxSeq = h.seq ∧
      t.pair.accepted = min 0xFFFFFFFF (s.pair.accepted + 1) ∧ t.pair.ackOwed = false ∧ t.pair.caughtUp = true ∧
          t.pair.lastMirrored = n - 1 ∧
      Only (parts (.catchupEnd h n)) s t) ∧
  (∀ (s : State) (h : PleachHdr) (n : Word), s.linkRuns = true → h.seq = nextLinkSeq s.pair.rxSeq →
      s.pair.unacked = [] → s.pair.waiting = [] → (s.view viewPeer).queue = [] → s.pair.handover = .none →
      s.pair.role = .standby →
    ∃ t, exec (.handoverFrame h n true) s = .next t ∧ t.pair.rxSeq = h.seq ∧
      t.pair.accepted = min 0xFFFFFFFF (s.pair.accepted + 1) ∧ t.pair.ackOwed = false ∧ t.pair.handed = true ∧
          t.pair.lastMirrored = n - 1 ∧
      t.pair.role = .standby ∧ t.pair.dutyIn = true ∧ Only (parts (.handoverFrame h n true)) s t) ∧
  (∀ (s : State) (h : PleachHdr) (n : Word), s.linkRuns = true → h.seq = nextLinkSeq s.pair.rxSeq →
      s.pair.unacked = [] → s.pair.waiting = [] → (s.view viewPeer).queue = [] → s.pair.handover = .none →
      s.mayTakeOver = true →
    ∃ t, exec (.handoverFrame h n false) s = .next t ∧ t.pair.rxSeq = h.seq ∧
      t.pair.accepted = min 0xFFFFFFFF (s.pair.accepted + 1) ∧ t.pair.ackOwed = false ∧ t.pair.role = .duty ∧
          t.pair.dutyOut = true ∧
      Only (parts (.handoverFrame h n false)) s t) ∧
  (∀ (s : State) (l : List Byte), s.linkRuns = true →
    (pleachBad l = true →
        exec (.pleachFrameDropped l) s = .next (s.setPair fun p => { p with dropped := min 0xFFFFFFFF (p.dropped + 1) })) ∧
    (pleachBad l = false → exec (.pleachFrameDropped l) s = .next s)) ∧
  (∀ (k : Nat) (q a : Half) (l : List Byte), lenFits k l.length = true →
      pleachBad ((pleachBytes k q a l).drop 5) = false) ∧
  (∀ (s : State), s.linkRuns = true → s.pair.linkUp = true →
    (s.pair.unacked = [] →
        exec .retransmit s = .next (s.setPair fun p => { p with resent := min 0xFFFFFFFF p.resent })) ∧
    (∀ q f, s.pair.unacked.getLast? = some (q, f) → exec .retransmit s = .next (s.setPair fun p => { p with
      resent := min 0xFFFFFFFF (p.resent + p.unacked.length), wire := pleachBytes f.code q s.pair.rxSeq f.bytes
      ackOwed := false }))) ∧
  (∀ (s : State) (q : Word) (r : MirrorRec), s.roadRuns = true →
    s.pair.unmatched.find? (fun r => decide (r.pairSeq = q)) = some r →
    exec (.missing q) s = .next (s.setPair fun p => { p with
      unmatched := p.unmatched.erase r, missing := min 0xFFFFFFFF (p.missing + 1) })) ∧
  (∀ (s : State) (n : Nat) (i : Item), s.roadRuns = true → s.pair.role = .standby → s.item? n = some i →
      i.place = .committed → i.isMatched = false → s.inPorts n = true →
    ∃ t, exec (.orphan n) s = .next t ∧ t.pair.orphans = min 0xFFFFFFFF (s.pair.orphans + 1) ∧
      (∀ p l, l ∈ (t.view (portView p)).queue → l.item ≠ n) ∧ (t.view viewPeer).queue = (s.view viewPeer).queue ∧
      Only (parts (.orphan n)) s t)

/-- The reader's field and commands, field writes and sessions, and the publishing of region B. A field makes the
tag Ready and recovers a marked write; when it leaves, a write not yet checked leaves nothing and one answered
stands. A heard request of the set is answered: reads give the blocks, or silence while the device programs, or
error 0x10 beyond 64 blocks or the range; a permitted write or lock is taken, or refused with 0x12, 0x11 or 0x13 by
FIELD-LOCK, lock bit, region B or energy; the information commands give the UID and size; any other command gets
0x01. A write done programs its block and the tear row only, sets WROTE, and joins the session, whose end is one
configuration change; with the Option flag its answer comes at the EOF after it (log entry 168). A publish counts,
writes at its end, and answers TAG-PUBLISH. -/
def Obligations.TagCommandsReadWriteAndPublish : Prop :=
  (∀ (s : State), s.tag.field = false →
    ∃ t, exec .fieldArrives s = .next t ∧ t.tag = { s.tag.recover with field := true, iso := .ready } ∧
      (s.released = true → t.irqBit .ctl 9 = true) ∧ Only [.irq, .tag] s t) ∧
  (∀ (s : State), s.tag.field = true → exec .fieldArrives s = .next s) ∧
  (∀ (s : State) (c : Collapse), s.tag.field = true → s.tag.marker = false → s.tag.writes = [] →
    ∃ t, exec (.fieldLeaves c) s = .next t ∧ t.tag = { s.tag with owes := false, field := false, iso := .ready } ∧
      (s.released = true → t.irqBit .ctl 9 = true) ∧ Only (parts (.fieldLeaves c)) s t) ∧
  (∀ (s : State) (w : FieldWrite) (r : List FieldWrite), s.tag.field = true → s.tag.marker = false →
      s.tag.writes = w :: r →
    ∃ t, exec (.fieldLeaves .check) s = .next t ∧ t.tag.blocks = s.tag.blocks ∧ t.tag.writes = [] ∧
      t.tag.field = false ∧ Only (parts (.fieldLeaves .check)) s t) ∧
  (∀ (s : State) (w : FieldWrite) (r : List FieldWrite), s.tag.field = true → s.tag.marker = false →
      s.tag.writes = w :: r →
    ∃ t, exec (.fieldLeaves .answer) s = .next t ∧ t.tag.blocks = (s.tag.commitWrite w).blocks ∧ t.tag.writes = [] ∧
      t.tag.field = false ∧ Only (parts (.fieldLeaves .answer)) s t) ∧
  (∀ (s : State) (q : InventoryReq), s.tag.field = true → s.tag.iso ≠ .quiet → q.sixteen = false → q.afi = none →
      tagUid.toNat % 2 ^ q.maskLen = q.mask.toNat % 2 ^ q.maskLen →
    exec (.inventory q) s = .next (s.answer (.data (0 :: leBytes 8 tagUid.toNat)))) ∧
  (∀ (s : State) (q : InventoryReq), s.tag.field = false ∨ s.tag.iso = .quiet → exec (.inventory q) s = .next s) ∧
  (∀ (s : State) (r : TagReq), s.tag.field = true → r.address = true → r.select = false → r.uid = tagUid →
      r.format = true →
    exec (.stayQuiet r) s = .next ((s.setTag fun t => { t with iso := .quiet }).answer .silent)) ∧
  (∀ (s : State) (r : TagReq), s.tag.field = true → r.address = true → r.select = false → r.uid = tagUid →
      r.format = true →
    exec (.select r) s = .next ((s.setTag fun t => { t with iso := .selected }).answer (.data []))) ∧
  (∀ (s : State) (r : TagReq), s.tag.field = true → r.address = true → r.select = false → r.uid ≠ tagUid →
    s.tag.iso = .selected → exec (.select r) s = .next (s.setTag fun t => { t with iso := .ready })) ∧
  (∀ (s : State) (r : TagReq) (b : Byte), s.tag.field = true → s.tag.hears r = true → r.format = true →
      s.tag.programs = false →
    exec (.readSingleBlock r b) s = .next (s.answer (.data (s.tag.ahead.readOut r.option b.toNat)))) ∧
  (∀ (s : State) (r : TagReq) (b : Half), s.tag.field = true → s.tag.hears r = true → r.format = true →
      s.tag.programs = false → b.toNat < 1792 →
    exec (.extendedReadSingleBlock r b) s = .next (s.answer (.data (s.tag.ahead.readOut r.option b.toNat)))) ∧
  (∀ (s : State) (r : TagReq) (b n : Byte), s.tag.field = true → s.tag.hears r = true → r.format = true →
      s.tag.programs = false → n.toNat < 64 → b.toNat + n.toNat < 256 →
    exec (.readMultipleBlocks r b n) s = .next (s.answer (.data
      ((List.range (n.toNat + 1)).map fun k => s.tag.ahead.readOut r.option (b.toNat + k)).flatten))) ∧
  (∀ (s : State) (r : TagReq) (b n : Half), s.tag.field = true → s.tag.hears r = true → r.format = true →
      s.tag.programs = false → n.toNat < 64 → b.toNat + n.toNat < 1792 →
    exec (.extendedReadMultipleBlocks r b n) s = .next (s.answer (.data
      ((List.range (n.toNat + 1)).map fun k => s.tag.ahead.readOut r.option (b.toNat + k)).flatten))) ∧
  (∀ (s : State) (r : TagReq) (b n : Half), s.tag.field = true → s.tag.hears r = true → r.format = true →
      64 ≤ n.toNat ∨ 1792 ≤ b.toNat + n.toNat →
    exec (.extendedReadMultipleBlocks r b n) s = .next (s.answer (.error 0x10))) ∧
  (∀ (s : State) (r : TagReq) (b : Byte), s.tag.field = true → s.tag.hears r = true → r.format = true →
      s.tag.programs = true →
    exec (.readSingleBlock r b) s = .next (s.answer .silent)) ∧
  (∀ (s : State) (r : TagReq) (b n : Byte), s.tag.field = true → s.tag.hears r = true → r.format = true →
      s.tag.programs = false → n.toNat < 64 → b.toNat + n.toNat < 256 →
    exec (.getMultipleBlockSecurityStatus r b n) s = .next (s.answer (.data
      ((List.range (n.toNat + 1)).map fun k => if s.tag.ahead.locked (b.toNat + k) then 1 else 0)))) ∧
  (∀ (s : State) (r : TagReq), s.tag.field = true → s.tag.hears r = true → r.format = true → r.option = false →
    exec (.getSystemInformation r) s = .next (s.answer (.data ([0x0F] ++ leBytes 8 tagUid.toNat ++ [0, 0, 0xFF, 0x03, 0x30])))) ∧
  (∀ (s : State) (r : TagReq), s.tag.field = true → s.tag.hears r = true → r.format = true → r.option = false →
    exec (.extendedGetSystemInformation r) s = .next (s.answer (.data ([0x0F] ++ leBytes 8 tagUid.toNat ++ [0, 0, 0xFF, 0x07, 0x03, 0x30])))) ∧
  (∀ (s : State) (r : TagReq), s.tag.field = true → s.tag.hears r = true → r.format = true →
    exec (.resetToReady r) s = .next ((s.setTag fun t => { t with iso := .ready }).answer (.data []))) ∧
  (∀ (s : State) (r : TagReq) (k : Byte), s.tag.field = true → (r.address = true ∧ r.select = false ∧
      r.uid = tagUid) ∨ s.tag.iso = .selected →
    exec (.unsupportedTagCommand r k) s = .next (s.answer (.error 0x01))) ∧
  (∀ (s : State) (r : TagReq) (b : Byte) (d : Word), s.tag.field = true → s.tag.hears r = true → r.format = true →
    s.tag.fieldLock = false → s.tag.ahead.locked b.toNat = false →
    exec (.writeSingleBlock r b d true) s = .next (s.setTag fun t => { t with
      writes := t.writes ++ [{ block := b.toNat, data := d, isLock := false, option := r.option }] }) ∧
    exec (.writeSingleBlock r b d false) s = .next (s.answer (.error 0x13)) ∧
    exec (.lockBlock r b true) s = .next (s.setTag fun t => { t with
      writes := t.writes ++ [{ block := b.toNat, data := 0, isLock := true, option := r.option }] })) ∧
  (∀ (s : State) (r : TagReq) (b : Half) (d : Word), s.tag.field = true → s.tag.hears r = true → r.format = true →
    s.tag.fieldLock = false → s.tag.ahead.locked b.toNat = false → b.toNat < 1024 →
    exec (.extendedWriteSingleBlock r b d true) s = .next (s.setTag fun t => { t with
      writes := t.writes ++ [{ block := b.toNat, data := d, isLock := false, option := r.option }] })) ∧
  (∀ (s : State) (r : TagReq) (b : Half) (d : Word) (e : Bool), s.tag.field = true → s.tag.hears r = true →
      r.format = true → s.tag.fieldLock = true ∨ (1024 ≤ b.toNat ∧ b.toNat < 1792) → b.toNat < 1792 →
    exec (.extendedWriteSingleBlock r b d e) s = .next (s.answer (.error 0x12))) ∧
  (∀ (s : State) (r : TagReq) (b : Byte) (e : Bool), s.tag.field = true → s.tag.hears r = true → r.format = true →
      s.tag.fieldLock = false → s.tag.ahead.locked b.toNat = true →
    exec (.lockBlock r b e) s = .next (s.answer (.error 0x11))) ∧
  (∀ (s : State) (c : Instr) (r : TagReq) (b n : Byte) (h k : Half) (d : Word) (e : Bool), c ∈ [Instr.readSingleBlock r b,
      .writeSingleBlock r b d e, .lockBlock r b e, .readMultipleBlocks r b n, .resetToReady r, .getSystemInformation r,
      .getMultipleBlockSecurityStatus r b n, .extendedReadSingleBlock r h, .extendedWriteSingleBlock r h d e,
      .extendedReadMultipleBlocks r h k, .extendedGetSystemInformation r] →
    s.tag.field = false ∨ s.tag.hears r = false → exec c s = .next s) ∧
  (∀ (s : State) (w : FieldWrite) (r : List FieldWrite), s.tag.writes = w :: r → s.tag.field = true →
      s.tag.owes = false → s.tag.hostFirst = false → w.isLock = false → w.block < 1024 →
    ∃ t, exec .fieldWriteDone s = .next t ∧ t.tag.writes = r ∧ t.tag.owes = w.option ∧
      t.tag.answer = (if w.option then s.tag.answer else .data []) ∧
      (s.released = true → t.tag.wrote = true) ∧
      t.tag.session = some (match s.tag.session with
        | some (first, n, _) => (first, n + 1, s.now)
        | none => (w.block, 1, s.now)) ∧ (s.engine.up = true → t.chanN.bellIn.getLsbD 6 = true) ∧
      (s.tag.blocks.Pairwise (fun x y => x.1 < y.1) → t.tag.cell w.block = w.data ∧
        ∀ c, c ≠ w.block → c ≠ 1800 → c ≠ 1801 → t.tag.cell c = s.tag.cell c) ∧
      Only (parts .fieldWriteDone) s t) ∧
  (∀ (s : State), s.tag.owes = true → exec .fieldWriteDone s =
    .next ((s.setTag fun t => { t with owes := false }).answer (.data []))) ∧
  (∀ (s : State), s.tag.owes = false → s.tag.writes = [] → exec .fieldWriteDone s = .next s) ∧
  (∀ (s : State) (first n : Nat) (u : Stamp), s.tag.session = some (first, n, u) →
    ∃ t, exec .fieldSessionEnd s = .next t ∧ t.tag.session = none ∧ t.tag.blocks = s.tag.blocks ∧
      (s.engine.up = true → t.settings.changes = s.settings.changes + 1 ∧ t.settings.lastChange = u ∧
        t.tag.seqLogged = s.tag.fieldSeq) ∧ (s.engine.up = false → t.settings = s.settings) ∧
      Only (parts .fieldSessionEnd) s t) ∧
  (∀ (s : State) (m : Msg), s.offers m 0x0801 inWork (exactFault []) → s.publishBusy = false →
      s.tag.publishing = none → ∃ t, exec (.tagPublish m) s = .next t ∧
    Replied s t m 0x0801 1 [] ∧ t.tag.publishing.isSome = true ∧
    t.tag.publishes = s.tag.publishes + 1 ∧ t.tag.blocks = s.tag.blocks ∧
    t.engine.accepted = s.engine.accepted ++ [{ ch := m.ch, code := 0x0801, tag := m.tag, work := .publish }] ∧
        Only (parts (.tagPublish m)) s t) ∧
  (∀ (s : State) (m : Msg), s.offers m 0x0801 inWork (exactFault []) → s.publishBusy = true →
    exec (.tagPublish m) s = .next (s.served.refused m 0x0801 0x0012)) ∧
  (∀ (s : State) (l : List (Nat × Word)) (a : Accepted), s.engineWorks = true → s.tag.publishing = some l →
      s.engine.accepted.find? (fun a => decide (a.work = .publish)) = some a →
    ∃ t, exec .publishDone s = .next t ∧ t.tag.publishing = none ∧ t.tag.blocks = (s.tag.write l).blocks ∧
      Replied s t { ch := a.ch, tag := a.tag, payload := [] } a.code.toNat 0 [] ∧
      t.engine.accepted = s.engine.accepted.erase a ∧ Only (parts .publishDone) s t) ∧
  (∀ (s : State) (l : List (Nat × Word)), s.engineWorks = true → s.tag.publishing = some l → s.publishBusy = false →
    ∃ t, exec .publishDone s = .next t ∧ t.tag.publishing = none ∧ t.tag.blocks = (s.tag.write l).blocks ∧
      Only [.tag] s t) ∧
  (∀ (s : State), s.engineWorks = true → s.tag.publishing = none → s.publishDue = true →
    ∃ t, exec .autoPublish s = .next t ∧ t.tag.publishing.isSome = true ∧ t.tag.publishes = s.tag.publishes + 1 ∧
      t.tag.blocks = s.tag.blocks ∧ t.publishDue = false ∧ Only [.tag] s t) ∧
  (∀ (s : State), s.publishDue = false → exec .autoPublish s = .next s)

/-- The scan of the management bus: due, ended, stretched, stuck and free again; LOOPBACK and AMP-SWEEP in PROBE. An
enabled entry that falls due starts its transaction when nothing runs, else waits. A transaction ends with status 0,
its bytes and its instant (at most as many as it asked for); with 1 after a NAK; with 2 after a stretch; the last
two keep the bytes, and a change of status rings doorbell 7. A line held low sets MB_STUCK: nothing runs, nothing is
due and every enabled entry reads 3, until a recheck finds both lines high and every enabled entry is due. A
recovery that frees the bus changes nothing. LOOPBACK starts or ends a loop with the receive side armed anew;
AMP-SWEEP is accepted and completes with a mean reading for each step; a busy port refuses both. -/
def Obligations.ManagementBusAndLoopbacks : Prop :=
  (∀ (s : State) (i : Fin 16), s.engineWorks = true → s.mgmt.stuck = false → s.scanOn i = true →
      s.mgmt.active = none → s.mgmt.due = 0 →
    ∃ t, exec (.mgmtEntryDue i) s = .next t ∧ t.mgmt = { s.mgmt with
        active := some i, slots := mgmtTransaction (s.settings.scan.get i), fast := s.settings.mgmtFast } ∧
      Only (parts (.mgmtEntryDue i)) s t) ∧
  (∀ (s : State) (i : Fin 16) (k : Fin 16), s.engineWorks = true → s.mgmt.stuck = false → s.scanOn i = true →
      s.mgmt.active = some k →
    ∃ t, exec (.mgmtEntryDue i) s = .next t ∧
      t.mgmt = { s.mgmt with due := s.mgmt.due ||| BitVec.ofNat 16 (2 ^ i.val) } ∧
          Only (parts (.mgmtEntryDue i)) s t) ∧
  (∀ (s : State) (i : Fin 16), s.scanOn i = false ∨ s.mgmt.stuck = true → exec (.mgmtEntryDue i) s = .next s) ∧
  (∀ (s : State) (i : Fin 16) (d : List Byte), s.engineWorks = true → s.mgmt.active = some i →
      s.mgmt.setWaits = false → s.mgmt.due = 0 →
    ∃ t, exec (.mgmtTransactionEnd (.good d)) s = .next t ∧ t.mgmt.active = none ∧
      (t.mgmt.results.get i).status = 0 ∧ (t.mgmt.results.get i).data = d.take s.mgmt.reads ∧
      (t.mgmt.results.get i).stamp = s.now ∧ (∀ k, k ≠ i → t.mgmt.results.get k = s.mgmt.results.get k) ∧
      ((s.mgmt.results.get i).status ≠ 0 → t.chanN.bellIn.getLsbD 7 = true) ∧
      Only (parts (.mgmtTransactionEnd (.good d))) s t) ∧
  (∀ (s : State) (i : Fin 16), s.engineWorks = true → s.mgmt.active = some i → s.mgmt.setWaits = false →
      s.mgmt.due = 0 →
    ∃ t, exec (.mgmtTransactionEnd .nak) s = .next t ∧ t.mgmt.active = none ∧ (t.mgmt.results.get i).status = 1 ∧
      (t.mgmt.results.get i).data = (s.mgmt.results.get i).data ∧
      (t.mgmt.results.get i).stamp = (s.mgmt.results.get i).stamp ∧
      (∀ k, k ≠ i → t.mgmt.results.get k = s.mgmt.results.get k) ∧
      ((s.mgmt.results.get i).status ≠ 1 → t.chanN.bellIn.getLsbD 7 = true) ∧
      Only (parts (.mgmtTransactionEnd .nak)) s t) ∧
  (∀ (s : State) (i : Fin 16), s.engineWorks = true → s.mgmt.active = some i → s.mgmt.setWaits = false →
      s.mgmt.due = 0 →
    ∃ t, exec .stretchFault s = .next t ∧ t.mgmt.active = none ∧ (t.mgmt.results.get i).status = 2 ∧
      (t.mgmt.results.get i).data = (s.mgmt.results.get i).data ∧
      (t.mgmt.results.get i).stamp = (s.mgmt.results.get i).stamp ∧
      (∀ k, k ≠ i → t.mgmt.results.get k = s.mgmt.results.get k) ∧
      ((s.mgmt.results.get i).status ≠ 2 → t.chanN.bellIn.getLsbD 7 = true) ∧ Only (parts .stretchFault) s t) ∧
  (∀ (s : State) (i : Fin 16) (r : MgmtRecovery), s.engineWorks = true → s.mgmt.active = some i →
      s.mgmt.stuck = false → s.mgmt.setWaits = false → r = .sdaLow ∨ r = .sclLow →
    ∃ t, exec (.busRecovery r) s = .next t ∧ t.mgmt.stuck = true ∧ t.mgmt.active = none ∧ t.mgmt.due = 0 ∧
      (∀ k, s.scanOn k = true → (t.mgmt.results.get k).status = 3) ∧
      (∀ k, s.scanOn k = false → t.mgmt.results.get k = s.mgmt.results.get k) ∧ t.chanN.bellIn.getLsbD 7 = true ∧
      Only (parts (.busRecovery r)) s t) ∧
  (∀ (s : State) (n : Fin 9), exec (.busRecovery (.freed n)) s = .next s) ∧
  (∀ (s : State) (r : MgmtRecheck), s.engineWorks = true → s.mgmt.stuck = true → s.mgmt.active = none →
      r ≠ .stillHeld →
    ∃ t, exec (.mbStuckRecheck r) s = .next t ∧ t.mgmt.stuck = false ∧
      (∀ k, s.scanOn k = true → t.mgmt.due.getLsbD k.val = true ∨ t.mgmt.active = some k) ∧
      t.mgmt.results = s.mgmt.results ∧ t.chanN.bellIn.getLsbD 7 = true ∧ Only (parts (.mbStuckRecheck r)) s t) ∧
  (∀ (s : State), s.mgmt.stuck = true → exec (.mbStuckRecheck .stillHeld) s = .next s) ∧
  (∀ (s : State) (m : Msg) (p : PortNo), s.offers m 0x0904 inProbe s.loopFault → byteAt m.payload 0 = p.val →
      s.portBusy p.val = false → byteAt m.payload 1 ≠ 0 → ∃ t, exec (.loopback m) s = .next t ∧
    Replied s t m 0x0904 0 [] ∧ Counted s t ∧
    (t.port p).loop = (if byteAt m.payload 1 = 1 then .internal else .external) ∧ (t.port p).fifo = [] ∧
    (t.port p).armed = !(s.port p).rxRetired ∧ (t.port p).asm = Asm.reset ∧
    (byteAt m.payload 1 = 1 → (t.port p).driver = false) ∧ Only (parts (.loopback m)) s t) ∧
  (∀ (s : State) (m : Msg) (p : PortNo), s.offers m 0x0904 inProbe s.loopFault → byteAt m.payload 0 = p.val →
      s.portBusy p.val = false → byteAt m.payload 1 = 0 → ∃ t, exec (.loopback m) s = .next t ∧
    Replied s t m 0x0904 0 [] ∧ Counted s t ∧ (t.port p).loop = .off ∧ Only (parts (.loopback m)) s t) ∧
  (∀ (s : State) (m : Msg) (p : PortNo), s.offers m 0x0904 inProbe s.loopFault → byteAt m.payload 0 = p.val →
      s.portBusy p.val = true →
    exec (.loopback m) s = .next (s.served.refused m 0x0904 0x0012)) ∧
  (∀ (s : State) (m : Msg) (p : PortNo), s.offers m 0x0905 inProbe s.sweepFault → byteAt m.payload 0 = p.val →
      s.portBusy p.val = false → ∃ t, exec (.ampSweep m) s = .next t ∧
    Replied s t m 0x0905 1 [] ∧
    t.engine.accepted = s.engine.accepted ++ [{
      ch := m.ch, code := 0x0905, tag := m.tag, work := .sweep p (byteAt m.payload 1) }] ∧
          Only (parts (.ampSweep m)) s t) ∧
  (∀ (s : State) (m : Msg) (p : PortNo), s.offers m 0x0905 inProbe s.sweepFault → byteAt m.payload 0 = p.val →
      s.portBusy p.val = true →
    exec (.ampSweep m) s = .next (s.served.refused m 0x0905 0x0012)) ∧
  (∀ (s : State) (p : PortNo) (l : List (List (List Nat))) (a : Accepted) (n : Nat), s.engineWorks = true →
      s.sweepOf p = some a → a.work = .sweep p n →
    ∃ t, exec (.ampSweepDone p l) s = .next t ∧
      Replied s t { ch := a.ch, tag := a.tag, payload := [] } a.code.toNat 0 ((l.take n).map stepReading) ∧
      t.engine.accepted = s.engine.accepted.erase a ∧ Only (parts (.ampSweepDone p l)) s t)
end

