-- ==== Sys2Proof/Laws/Memory.lean ====
section
/-!
SUPPORT. The fabric memory: every operation keeps the canonical form, a read gives the byte last written, a write leaves
every other byte alone, and equal contents are equal lists.
-/
namespace Sys2Proof.Machine

/-- The canonical form, unfolded. -/
theorem Memory.wf_iff {m : List Host.Cell} : Memory.wf m = true ↔
    (m.Pairwise fun c d => c.1 < d.1) ∧ ∀ c ∈ m, c.1 < 0x100000 ∧ c.2 ≠ 0 := by
  simp [Memory.wf]

theorem Memory.wf_nil : Memory.wf [] = true := by simp [Memory.wf]

theorem Memory.wf_cons {k : Nat} {b : Byte} {r : List Host.Cell} : Memory.wf ((k, b) :: r) = true ↔
    (∀ c ∈ r, k < c.1) ∧ k < 0x100000 ∧ b ≠ 0 ∧ Memory.wf r = true := by
  simp only [Memory.wf_iff, List.pairwise_cons, List.mem_cons, forall_eq_or_imp]
  tauto

/-- A byte below every listed address reads 0. -/
theorem Memory.read_below {m : List Host.Cell} {a : Nat} (h : ∀ c ∈ m, a < c.1) : Memory.read m a = 0 := by
  induction m with
  | nil => rfl
  | cons c r ih =>
    obtain ⟨k, b⟩ := c
    have hk : a < k := h (k, b) (by simp)
    rw [Memory.read, if_neg (by omega)]
    exact ih fun c hc => h c (by simp [hc])

/-- Whatever a write lists was listed before or is the byte written. -/
theorem Memory.mem_write {m : List Host.Cell} {a : Nat} {b : Byte} {c : Host.Cell} (h : c ∈ Memory.write m a b) :
    c ∈ m ∨ (c = (a, b) ∧ b ≠ 0) := by
  induction m with
  | nil =>
    by_cases hb : b = 0 <;> simp_all [Memory.write]
  | cons d r ih =>
    obtain ⟨k, e⟩ := d
    simp only [Memory.write] at h
    split at h
    · rcases List.mem_cons.1 h with rfl | h
      · simp
      · rcases ih h with h | h
        · exact .inl (by simp [h])
        · exact .inr h
    · split at h
      · split at h
        · simp [h]
        · rcases List.mem_cons.1 h with rfl | h <;> simp_all
      · split at h
        · exact .inl h
        · rcases List.mem_cons.1 h with rfl | h <;> simp_all

/-- A write keeps the canonical form. -/
theorem Memory.wf_write {m : List Host.Cell} {a : Nat} {b : Byte} (h : Memory.wf m = true) (ha : a < 0x100000) :
    Memory.wf (Memory.write m a b) = true := by
  induction m with
  | nil =>
    by_cases hb : b = 0 <;> simp_all [Memory.write, Memory.wf]
  | cons d r ih =>
    obtain ⟨k, e⟩ := d
    obtain ⟨hr, hk, he, hw⟩ := Memory.wf_cons.1 h
    simp only [Memory.write]
    split
    · rename_i hlt
      refine Memory.wf_cons.2 ⟨fun c hc => ?_, hk, he, ih hw⟩
      rcases Memory.mem_write hc with hc | ⟨rfl, _⟩
      · exact hr c hc
      · exact hlt
    · split
      · rename_i heq
        subst heq
        split
        · exact hw
        · rename_i hb
          exact Memory.wf_cons.2 ⟨hr, ha, hb, hw⟩
      · split
        · exact h
        · rename_i hlt hne hb
          refine Memory.wf_cons.2 ⟨fun c hc => ?_, ha, hb, h⟩
          rcases List.mem_cons.1 hc with rfl | hc
          · simp only; omega
          · have := hr c hc; omega

theorem Memory.wf_writeList {m : List Host.Cell} {a : Nat} {bs : List Byte} (h : Memory.wf m = true)
    (ha : a + bs.length ≤ 0x100000) : Memory.wf (Memory.writeList m a bs) = true := by
  induction bs generalizing m a with
  | nil => exact h
  | cons b bs ih =>
    simp only [List.length_cons] at ha
    exact ih (Memory.wf_write h (by omega)) (by omega)

/-- Taking bytes away keeps the canonical form. -/
theorem Memory.wf_filter {m : List Host.Cell} {p : Host.Cell → Bool} (h : Memory.wf m = true) :
    Memory.wf (m.filter p) = true := by
  rw [Memory.wf_iff] at h ⊢
  exact ⟨h.1.filter p, fun c hc => h.2 c (List.mem_of_mem_filter hc)⟩

theorem Memory.wf_clear {m : List Host.Cell} {a b : Nat} (h : Memory.wf m = true) : Memory.wf (Memory.clear m a b) = true :=
  Memory.wf_filter h

theorem Memory.wf_keep {m : List Host.Cell} {a b : Nat} (h : Memory.wf m = true) : Memory.wf (Memory.keep m a b) = true :=
  Memory.wf_filter h

/-- A write leaves every other byte alone. -/
theorem Memory.read_write_ne {m : List Host.Cell} {a c : Nat} {b : Byte} (h : c ≠ a) :
    Memory.read (Memory.write m a b) c = Memory.read m c := by
  induction m with
  | nil => unfold Memory.write; split <;> simp [Memory.read, h.symm]
  | cons d r ih =>
    obtain ⟨k, e⟩ := d
    simp only [Memory.write]
    split
    · simp only [Memory.read, ih]
    · split
      · rename_i heq
        subst heq
        split <;> simp [Memory.read, h.symm]
      · split
        · rfl
        · simp [Memory.read, h.symm]

/-- A read gives the byte last written. -/
theorem Memory.read_write_eq {m : List Host.Cell} {a : Nat} {b : Byte} (h : Memory.wf m = true) :
    Memory.read (Memory.write m a b) a = b := by
  induction m with
  | nil =>
    unfold Memory.write
    split
    · rename_i hb; rw [hb]; rfl
    · simp [Memory.read]
  | cons d r ih =>
    obtain ⟨k, e⟩ := d
    obtain ⟨hr, -, -, hw⟩ := Memory.wf_cons.1 h
    simp only [Memory.write]
    split
    · rename_i hlt
      rw [Memory.read, if_neg (by omega)]
      exact ih hw
    · split
      · rename_i heq
        subst heq
        split
        · rename_i hb
          rw [hb]
          exact Memory.read_below hr
        · simp [Memory.read]
      · rename_i hlt hne
        split
        · rename_i hb
          rw [hb]
          refine Memory.read_below fun c hc => ?_
          rcases List.mem_cons.1 hc with rfl | hc
          · simp only; omega
          · have := hr c hc; omega
        · simp [Memory.read]

/-- Clearing: bytes of the span read 0, the others stay. -/
theorem Memory.read_clear {m : List Host.Cell} {a b c : Nat} :
    Memory.read (Memory.clear m a b) c = if a ≤ c ∧ c < b then 0 else Memory.read m c := by
  induction m with
  | nil => simp [Memory.clear, Memory.read]
  | cons d r ih =>
    obtain ⟨k, e⟩ := d
    unfold Memory.clear at ih ⊢
    by_cases hk : a ≤ k ∧ k < b
    · rw [List.filter_cons_of_neg (by simp [hk.1, hk.2]), ih]
      split
      · rfl
      · rename_i hc
        rw [Memory.read, if_neg]
        rintro rfl
        exact hc hk
    · rw [List.filter_cons_of_pos (by simp; omega), Memory.read, Memory.read, ih]
      split
      · rename_i heq
        subst heq
        rw [if_neg hk]
      · rfl

/-- Equal contents are equal lists. -/
theorem Memory.ext_of_wf {m n : List Host.Cell} (hm : Memory.wf m = true) (hn : Memory.wf n = true)
    (h : ∀ a, Memory.read m a = Memory.read n a) : m = n := by
  induction m generalizing n with
  | nil =>
    cases n with
    | nil => rfl
    | cons d r =>
      obtain ⟨k, e⟩ := d
      have := h k
      simp [Memory.read] at this
      exact absurd this.symm (Memory.wf_cons.1 hn).2.2.1
  | cons d r ih =>
    obtain ⟨k, e⟩ := d
    obtain ⟨hr, hk, he, hw⟩ := Memory.wf_cons.1 hm
    cases n with
    | nil =>
      have := h k
      simp [Memory.read] at this
      exact absurd this he
    | cons d' r' =>
      obtain ⟨k', e'⟩ := d'
      obtain ⟨hr', hk', he', hw'⟩ := Memory.wf_cons.1 hn
      have hkk : k = k' := by
        rcases Nat.lt_trichotomy k k' with hlt | heq | hlt
        · have := h k
          rw [Memory.read, if_pos rfl, Memory.read_below (m := (k', e') :: r')] at this
          · exact absurd this he
          · intro c hc
            rcases List.mem_cons.1 hc with rfl | hc
            · exact hlt
            · have := hr' c hc; omega
        · exact heq
        · have := h k'
          rw [Memory.read_below (m := (k, e) :: r), Memory.read, if_pos rfl] at this
          · exact absurd this.symm he'
          · intro c hc
            rcases List.mem_cons.1 hc with rfl | hc
            · exact hlt
            · have := hr c hc; omega
      subst hkk
      have hee : e = e' := by simpa [Memory.read] using h k
      subst hee
      congr 1
      refine ih hw hw' fun a => ?_
      have := h a
      simp only [Memory.read] at this
      split at this
      · rename_i heq
        subst heq
        rw [Memory.read_below hr, Memory.read_below hr']
      · exact this

/-! ### The machine's memory operations -/

theorem State.wf_putByte {s : State} {a : Nat} {b : Byte} (h : Memory.wf s.mem = true) :
    Memory.wf (s.putByte a b).mem = true :=
  Memory.wf_write h (Nat.mod_lt _ (by decide))

theorem State.wf_putBytes {s : State} {a : Nat} {bs : List Byte} (h : Memory.wf s.mem = true) :
    Memory.wf (s.putBytes a bs).mem = true := by
  induction bs generalizing s a with
  | nil => exact h
  | cons b bs ih => exact ih (State.wf_putByte h)

theorem State.wf_putWord {s : State} {a w : Nat} (h : Memory.wf s.mem = true) : Memory.wf (s.putWord a w).mem = true :=
  State.wf_putBytes h

theorem State.wf_clearMem {s : State} {a b : Nat} (h : Memory.wf s.mem = true) : Memory.wf (s.clearMem a b).mem = true :=
  Memory.wf_clear h

/-- The `n` bytes from `a` on, one read each. -/
theorem Memory.slice_eq {m : List Host.Cell} {a n : Nat} (h : Memory.wf m = true) :
    Memory.slice m a n = (List.range n).map fun k => Memory.read m (a + k) := by
  have from_eq : ∀ (n : Nat) (r : List Host.Cell) (a : Nat), Memory.wf r = true → (∀ c ∈ r, a ≤ c.1) →
      Memory.sliceFrom n r a = (List.range n).map fun k => Memory.read r (a + k) := by
    intro n
    induction n with
    | zero => intro r a _ _; simp [Memory.sliceFrom]
    | succ n ih =>
      intro r a hr ha
      rw [List.range_succ_eq_map, List.map_cons, List.map_map]
      cases r with
      | nil =>
        simp only [Memory.sliceFrom, Memory.read]
        rw [ih [] (a + 1) hr (by simp)]
        simp [Memory.read, Function.comp_def]
      | cons d r =>
        obtain ⟨k, e⟩ := d
        obtain ⟨hk, _, _, hw⟩ := Memory.wf_cons.1 hr
        have hak : a ≤ k := ha (k, e) (by simp)
        simp only [Memory.sliceFrom]
        split
        · rename_i heq
          subst heq
          rw [ih r (k + 1) hw (fun c hc => hk c hc)]
          simp only [Memory.read, Function.comp_def]
          rw [if_pos (by omega)]
          congr 1
          refine List.map_congr_left fun j _ => ?_
          rw [if_neg (by omega)]
          congr 1
          omega
        · rename_i hne
          rw [ih ((k, e) :: r) (a + 1) hr]
          · congr 1
            · rw [Memory.read, if_neg (by omega), Nat.add_zero, Memory.read_below]
              intro c hc
              have := hk c hc
              omega
            · refine List.map_congr_left fun j _ => ?_
              simp only [Function.comp_def]
              congr 1
              omega
          · intro c hc
            rcases List.mem_cons.1 hc with rfl | hc
            · simp only; omega
            · have := hk c hc; omega
  have dropped : ∀ r : List Host.Cell, Memory.wf r = true →
      (∀ c ∈ r.dropWhile (fun c => decide (c.1 < a)), a ≤ c.1) ∧
      Memory.wf (r.dropWhile fun c => decide (c.1 < a)) = true ∧
      ∀ k, a ≤ k → Memory.read (r.dropWhile fun c => decide (c.1 < a)) k = Memory.read r k := by
    intro r
    induction r with
    | nil => intro _; simp [Memory.wf]
    | cons d r ih =>
      obtain ⟨k, e⟩ := d
      intro hr
      obtain ⟨hk, hlt, he, hw⟩ := Memory.wf_cons.1 hr
      by_cases hka : k < a
      · rw [List.dropWhile_cons_of_pos (by simpa using hka)]
        obtain ⟨h1, h2, h3⟩ := ih hw
        refine ⟨h1, h2, fun j hj => ?_⟩
        rw [h3 j hj, Memory.read, if_neg (by omega)]
      · rw [List.dropWhile_cons_of_neg (by simpa using hka)]
        refine ⟨fun c hc => ?_, hr, fun _ _ => rfl⟩
        rcases List.mem_cons.1 hc with rfl | hc
        · simp only; omega
        · have := hk c hc; omega
  obtain ⟨h1, h2, h3⟩ := dropped m h
  rw [Memory.slice, from_eq n _ a h2 h1]
  exact List.map_congr_left fun k _ => h3 (a + k) (by omega)

end Sys2Proof.Machine
end

