-- ==== Sys2Proof/Laws/State.lean ====
section
/-!
SUPPORT. One lemma for each field under each update of the state, so that no proof unfolds an update; and what the
indexed reads give after an indexed update.
-/
set_option Elab.async false
namespace Sys2Proof.Machine

@[simp] theorem State.setPower_pending (s : State) (f : Power → Power) : (s.setPower f).pending = s.pending := rfl
@[simp] theorem State.setPower_mem (s : State) (f : Power → Power) : (s.setPower f).mem = s.mem := rfl
@[simp] theorem State.setPower_draws (s : State) (f : Power → Power) : (s.setPower f).draws = s.draws := rfl
@[simp] theorem State.setPower_power (s : State) (f : Power → Power) : (s.setPower f).power = f s.power := rfl
@[simp] theorem State.setPower_modes (s : State) (f : Power → Power) : (s.setPower f).modes = s.modes := rfl
@[simp] theorem State.setPower_culvert (s : State) (f : Power → Power) : (s.setPower f).culvert = s.culvert := rfl
@[simp] theorem State.setPower_chanN (s : State) (f : Power → Power) : (s.setPower f).chanN = s.chanN := rfl
@[simp] theorem State.setPower_chanK (s : State) (f : Power → Power) : (s.setPower f).chanK = s.chanK := rfl
@[simp] theorem State.setPower_engine (s : State) (f : Power → Power) : (s.setPower f).engine = s.engine := rfl
@[simp] theorem State.setPower_settings (s : State) (f : Power → Power) : (s.setPower f).settings = s.settings := rfl
@[simp] theorem State.setPower_counting (s : State) (f : Power → Power) : (s.setPower f).counting = s.counting := rfl
@[simp] theorem State.setPower_ports (s : State) (f : Power → Power) : (s.setPower f).ports = s.ports := rfl
@[simp] theorem State.setPower_sieve (s : State) (f : Power → Power) : (s.setPower f).sieve = s.sieve := rfl
@[simp] theorem State.setPower_govs (s : State) (f : Power → Power) : (s.setPower f).govs = s.govs := rfl
@[simp] theorem State.setPower_sluice (s : State) (f : Power → Power) : (s.setPower f).sluice = s.sluice := rfl
@[simp] theorem State.setPower_lamps (s : State) (f : Power → Power) : (s.setPower f).lamps = s.lamps := rfl
@[simp] theorem State.setPower_buses (s : State) (f : Power → Power) : (s.setPower f).buses = s.buses := rfl
@[simp] theorem State.setPower_heads (s : State) (f : Power → Power) : (s.setPower f).heads = s.heads := rfl
@[simp] theorem State.setPower_pair (s : State) (f : Power → Power) : (s.setPower f).pair = s.pair := rfl
@[simp] theorem State.setPower_journal (s : State) (f : Power → Power) : (s.setPower f).journal = s.journal := rfl
@[simp] theorem State.setPower_tag (s : State) (f : Power → Power) : (s.setPower f).tag = s.tag := rfl
@[simp] theorem State.setPower_mgmt (s : State) (f : Power → Power) : (s.setPower f).mgmt = s.mgmt := rfl
@[simp] theorem State.setPower_inject (s : State) (f : Power → Power) : (s.setPower f).inject = s.inject := rfl
@[simp] theorem State.setPower_jtag (s : State) (f : Power → Power) : (s.setPower f).jtag = s.jtag := rfl
@[simp] theorem State.setPower_dozeEvents (s : State) (f : Power → Power) : (s.setPower f).dozeEvents = s.dozeEvents := rfl

@[simp] theorem State.setModes_pending (s : State) (f : ModeRegs → ModeRegs) : (s.setModes f).pending = s.pending := rfl
@[simp] theorem State.setModes_mem (s : State) (f : ModeRegs → ModeRegs) : (s.setModes f).mem = s.mem := rfl
@[simp] theorem State.setModes_draws (s : State) (f : ModeRegs → ModeRegs) : (s.setModes f).draws = s.draws := rfl
@[simp] theorem State.setModes_power (s : State) (f : ModeRegs → ModeRegs) : (s.setModes f).power = s.power := rfl
@[simp] theorem State.setModes_modes (s : State) (f : ModeRegs → ModeRegs) : (s.setModes f).modes = f s.modes := rfl
@[simp] theorem State.setModes_culvert (s : State) (f : ModeRegs → ModeRegs) : (s.setModes f).culvert = s.culvert := rfl
@[simp] theorem State.setModes_chanN (s : State) (f : ModeRegs → ModeRegs) : (s.setModes f).chanN = s.chanN := rfl
@[simp] theorem State.setModes_chanK (s : State) (f : ModeRegs → ModeRegs) : (s.setModes f).chanK = s.chanK := rfl
@[simp] theorem State.setModes_engine (s : State) (f : ModeRegs → ModeRegs) : (s.setModes f).engine = s.engine := rfl
@[simp] theorem State.setModes_settings (s : State) (f : ModeRegs → ModeRegs) : (s.setModes f).settings = s.settings := rfl
@[simp] theorem State.setModes_counting (s : State) (f : ModeRegs → ModeRegs) : (s.setModes f).counting = s.counting := rfl
@[simp] theorem State.setModes_ports (s : State) (f : ModeRegs → ModeRegs) : (s.setModes f).ports = s.ports := rfl
@[simp] theorem State.setModes_sieve (s : State) (f : ModeRegs → ModeRegs) : (s.setModes f).sieve = s.sieve := rfl
@[simp] theorem State.setModes_govs (s : State) (f : ModeRegs → ModeRegs) : (s.setModes f).govs = s.govs := rfl
@[simp] theorem State.setModes_sluice (s : State) (f : ModeRegs → ModeRegs) : (s.setModes f).sluice = s.sluice := rfl
@[simp] theorem State.setModes_lamps (s : State) (f : ModeRegs → ModeRegs) : (s.setModes f).lamps = s.lamps := rfl
@[simp] theorem State.setModes_buses (s : State) (f : ModeRegs → ModeRegs) : (s.setModes f).buses = s.buses := rfl
@[simp] theorem State.setModes_heads (s : State) (f : ModeRegs → ModeRegs) : (s.setModes f).heads = s.heads := rfl
@[simp] theorem State.setModes_pair (s : State) (f : ModeRegs → ModeRegs) : (s.setModes f).pair = s.pair := rfl
@[simp] theorem State.setModes_journal (s : State) (f : ModeRegs → ModeRegs) : (s.setModes f).journal = s.journal := rfl
@[simp] theorem State.setModes_tag (s : State) (f : ModeRegs → ModeRegs) : (s.setModes f).tag = s.tag := rfl
@[simp] theorem State.setModes_mgmt (s : State) (f : ModeRegs → ModeRegs) : (s.setModes f).mgmt = s.mgmt := rfl
@[simp] theorem State.setModes_inject (s : State) (f : ModeRegs → ModeRegs) : (s.setModes f).inject = s.inject := rfl
@[simp] theorem State.setModes_jtag (s : State) (f : ModeRegs → ModeRegs) : (s.setModes f).jtag = s.jtag := rfl
@[simp] theorem State.setModes_dozeEvents (s : State) (f : ModeRegs → ModeRegs) : (s.setModes f).dozeEvents = s.dozeEvents := rfl

@[simp] theorem State.setCulvert_pending (s : State) (f : Culvert → Culvert) : (s.setCulvert f).pending = s.pending := rfl
@[simp] theorem State.setCulvert_mem (s : State) (f : Culvert → Culvert) : (s.setCulvert f).mem = s.mem := rfl
@[simp] theorem State.setCulvert_draws (s : State) (f : Culvert → Culvert) : (s.setCulvert f).draws = s.draws := rfl
@[simp] theorem State.setCulvert_power (s : State) (f : Culvert → Culvert) : (s.setCulvert f).power = s.power := rfl
@[simp] theorem State.setCulvert_modes (s : State) (f : Culvert → Culvert) : (s.setCulvert f).modes = s.modes := rfl
@[simp] theorem State.setCulvert_culvert (s : State) (f : Culvert → Culvert) : (s.setCulvert f).culvert = f s.culvert := rfl
@[simp] theorem State.setCulvert_chanN (s : State) (f : Culvert → Culvert) : (s.setCulvert f).chanN = s.chanN := rfl
@[simp] theorem State.setCulvert_chanK (s : State) (f : Culvert → Culvert) : (s.setCulvert f).chanK = s.chanK := rfl
@[simp] theorem State.setCulvert_engine (s : State) (f : Culvert → Culvert) : (s.setCulvert f).engine = s.engine := rfl
@[simp] theorem State.setCulvert_settings (s : State) (f : Culvert → Culvert) : (s.setCulvert f).settings = s.settings := rfl
@[simp] theorem State.setCulvert_counting (s : State) (f : Culvert → Culvert) : (s.setCulvert f).counting = s.counting := rfl
@[simp] theorem State.setCulvert_ports (s : State) (f : Culvert → Culvert) : (s.setCulvert f).ports = s.ports := rfl
@[simp] theorem State.setCulvert_sieve (s : State) (f : Culvert → Culvert) : (s.setCulvert f).sieve = s.sieve := rfl
@[simp] theorem State.setCulvert_govs (s : State) (f : Culvert → Culvert) : (s.setCulvert f).govs = s.govs := rfl
@[simp] theorem State.setCulvert_sluice (s : State) (f : Culvert → Culvert) : (s.setCulvert f).sluice = s.sluice := rfl
@[simp] theorem State.setCulvert_lamps (s : State) (f : Culvert → Culvert) : (s.setCulvert f).lamps = s.lamps := rfl
@[simp] theorem State.setCulvert_buses (s : State) (f : Culvert → Culvert) : (s.setCulvert f).buses = s.buses := rfl
@[simp] theorem State.setCulvert_heads (s : State) (f : Culvert → Culvert) : (s.setCulvert f).heads = s.heads := rfl
@[simp] theorem State.setCulvert_pair (s : State) (f : Culvert → Culvert) : (s.setCulvert f).pair = s.pair := rfl
@[simp] theorem State.setCulvert_journal (s : State) (f : Culvert → Culvert) : (s.setCulvert f).journal = s.journal := rfl
@[simp] theorem State.setCulvert_tag (s : State) (f : Culvert → Culvert) : (s.setCulvert f).tag = s.tag := rfl
@[simp] theorem State.setCulvert_mgmt (s : State) (f : Culvert → Culvert) : (s.setCulvert f).mgmt = s.mgmt := rfl
@[simp] theorem State.setCulvert_inject (s : State) (f : Culvert → Culvert) : (s.setCulvert f).inject = s.inject := rfl
@[simp] theorem State.setCulvert_jtag (s : State) (f : Culvert → Culvert) : (s.setCulvert f).jtag = s.jtag := rfl
@[simp] theorem State.setCulvert_dozeEvents (s : State) (f : Culvert → Culvert) : (s.setCulvert f).dozeEvents = s.dozeEvents := rfl

@[simp] theorem State.setEngine_pending (s : State) (f : Engine → Engine) : (s.setEngine f).pending = s.pending := rfl
@[simp] theorem State.setEngine_mem (s : State) (f : Engine → Engine) : (s.setEngine f).mem = s.mem := rfl
@[simp] theorem State.setEngine_draws (s : State) (f : Engine → Engine) : (s.setEngine f).draws = s.draws := rfl
@[simp] theorem State.setEngine_power (s : State) (f : Engine → Engine) : (s.setEngine f).power = s.power := rfl
@[simp] theorem State.setEngine_modes (s : State) (f : Engine → Engine) : (s.setEngine f).modes = s.modes := rfl
@[simp] theorem State.setEngine_culvert (s : State) (f : Engine → Engine) : (s.setEngine f).culvert = s.culvert := rfl
@[simp] theorem State.setEngine_chanN (s : State) (f : Engine → Engine) : (s.setEngine f).chanN = s.chanN := rfl
@[simp] theorem State.setEngine_chanK (s : State) (f : Engine → Engine) : (s.setEngine f).chanK = s.chanK := rfl
@[simp] theorem State.setEngine_engine (s : State) (f : Engine → Engine) : (s.setEngine f).engine = f s.engine := rfl
@[simp] theorem State.setEngine_settings (s : State) (f : Engine → Engine) : (s.setEngine f).settings = s.settings := rfl
@[simp] theorem State.setEngine_counting (s : State) (f : Engine → Engine) : (s.setEngine f).counting = s.counting := rfl
@[simp] theorem State.setEngine_ports (s : State) (f : Engine → Engine) : (s.setEngine f).ports = s.ports := rfl
@[simp] theorem State.setEngine_sieve (s : State) (f : Engine → Engine) : (s.setEngine f).sieve = s.sieve := rfl
@[simp] theorem State.setEngine_govs (s : State) (f : Engine → Engine) : (s.setEngine f).govs = s.govs := rfl
@[simp] theorem State.setEngine_sluice (s : State) (f : Engine → Engine) : (s.setEngine f).sluice = s.sluice := rfl
@[simp] theorem State.setEngine_lamps (s : State) (f : Engine → Engine) : (s.setEngine f).lamps = s.lamps := rfl
@[simp] theorem State.setEngine_buses (s : State) (f : Engine → Engine) : (s.setEngine f).buses = s.buses := rfl
@[simp] theorem State.setEngine_heads (s : State) (f : Engine → Engine) : (s.setEngine f).heads = s.heads := rfl
@[simp] theorem State.setEngine_pair (s : State) (f : Engine → Engine) : (s.setEngine f).pair = s.pair := rfl
@[simp] theorem State.setEngine_journal (s : State) (f : Engine → Engine) : (s.setEngine f).journal = s.journal := rfl
@[simp] theorem State.setEngine_tag (s : State) (f : Engine → Engine) : (s.setEngine f).tag = s.tag := rfl
@[simp] theorem State.setEngine_mgmt (s : State) (f : Engine → Engine) : (s.setEngine f).mgmt = s.mgmt := rfl
@[simp] theorem State.setEngine_inject (s : State) (f : Engine → Engine) : (s.setEngine f).inject = s.inject := rfl
@[simp] theorem State.setEngine_jtag (s : State) (f : Engine → Engine) : (s.setEngine f).jtag = s.jtag := rfl
@[simp] theorem State.setEngine_dozeEvents (s : State) (f : Engine → Engine) : (s.setEngine f).dozeEvents = s.dozeEvents := rfl

@[simp] theorem State.setSettings_pending (s : State) (f : Settings → Settings) : (s.setSettings f).pending = s.pending := rfl
@[simp] theorem State.setSettings_mem (s : State) (f : Settings → Settings) : (s.setSettings f).mem = s.mem := rfl
@[simp] theorem State.setSettings_draws (s : State) (f : Settings → Settings) : (s.setSettings f).draws = s.draws := rfl
@[simp] theorem State.setSettings_power (s : State) (f : Settings → Settings) : (s.setSettings f).power = s.power := rfl
@[simp] theorem State.setSettings_modes (s : State) (f : Settings → Settings) : (s.setSettings f).modes = s.modes := rfl
@[simp] theorem State.setSettings_culvert (s : State) (f : Settings → Settings) : (s.setSettings f).culvert = s.culvert := rfl
@[simp] theorem State.setSettings_chanN (s : State) (f : Settings → Settings) : (s.setSettings f).chanN = s.chanN := rfl
@[simp] theorem State.setSettings_chanK (s : State) (f : Settings → Settings) : (s.setSettings f).chanK = s.chanK := rfl
@[simp] theorem State.setSettings_engine (s : State) (f : Settings → Settings) : (s.setSettings f).engine = s.engine := rfl
@[simp] theorem State.setSettings_settings (s : State) (f : Settings → Settings) : (s.setSettings f).settings = f s.settings := rfl
@[simp] theorem State.setSettings_counting (s : State) (f : Settings → Settings) : (s.setSettings f).counting = s.counting := rfl
@[simp] theorem State.setSettings_ports (s : State) (f : Settings → Settings) : (s.setSettings f).ports = s.ports := rfl
@[simp] theorem State.setSettings_sieve (s : State) (f : Settings → Settings) : (s.setSettings f).sieve = s.sieve := rfl
@[simp] theorem State.setSettings_govs (s : State) (f : Settings → Settings) : (s.setSettings f).govs = s.govs := rfl
@[simp] theorem State.setSettings_sluice (s : State) (f : Settings → Settings) : (s.setSettings f).sluice = s.sluice := rfl
@[simp] theorem State.setSettings_lamps (s : State) (f : Settings → Settings) : (s.setSettings f).lamps = s.lamps := rfl
@[simp] theorem State.setSettings_buses (s : State) (f : Settings → Settings) : (s.setSettings f).buses = s.buses := rfl
@[simp] theorem State.setSettings_heads (s : State) (f : Settings → Settings) : (s.setSettings f).heads = s.heads := rfl
@[simp] theorem State.setSettings_pair (s : State) (f : Settings → Settings) : (s.setSettings f).pair = s.pair := rfl
@[simp] theorem State.setSettings_journal (s : State) (f : Settings → Settings) : (s.setSettings f).journal = s.journal := rfl
@[simp] theorem State.setSettings_tag (s : State) (f : Settings → Settings) : (s.setSettings f).tag = s.tag := rfl
@[simp] theorem State.setSettings_mgmt (s : State) (f : Settings → Settings) : (s.setSettings f).mgmt = s.mgmt := rfl
@[simp] theorem State.setSettings_inject (s : State) (f : Settings → Settings) : (s.setSettings f).inject = s.inject := rfl
@[simp] theorem State.setSettings_jtag (s : State) (f : Settings → Settings) : (s.setSettings f).jtag = s.jtag := rfl
@[simp] theorem State.setSettings_dozeEvents (s : State) (f : Settings → Settings) : (s.setSettings f).dozeEvents = s.dozeEvents := rfl

@[simp] theorem State.setSieve_pending (s : State) (f : Sieve → Sieve) : (s.setSieve f).pending = s.pending := rfl
@[simp] theorem State.setSieve_mem (s : State) (f : Sieve → Sieve) : (s.setSieve f).mem = s.mem := rfl
@[simp] theorem State.setSieve_draws (s : State) (f : Sieve → Sieve) : (s.setSieve f).draws = s.draws := rfl
@[simp] theorem State.setSieve_power (s : State) (f : Sieve → Sieve) : (s.setSieve f).power = s.power := rfl
@[simp] theorem State.setSieve_modes (s : State) (f : Sieve → Sieve) : (s.setSieve f).modes = s.modes := rfl
@[simp] theorem State.setSieve_culvert (s : State) (f : Sieve → Sieve) : (s.setSieve f).culvert = s.culvert := rfl
@[simp] theorem State.setSieve_chanN (s : State) (f : Sieve → Sieve) : (s.setSieve f).chanN = s.chanN := rfl
@[simp] theorem State.setSieve_chanK (s : State) (f : Sieve → Sieve) : (s.setSieve f).chanK = s.chanK := rfl
@[simp] theorem State.setSieve_engine (s : State) (f : Sieve → Sieve) : (s.setSieve f).engine = s.engine := rfl
@[simp] theorem State.setSieve_settings (s : State) (f : Sieve → Sieve) : (s.setSieve f).settings = s.settings := rfl
@[simp] theorem State.setSieve_counting (s : State) (f : Sieve → Sieve) : (s.setSieve f).counting = s.counting := rfl
@[simp] theorem State.setSieve_ports (s : State) (f : Sieve → Sieve) : (s.setSieve f).ports = s.ports := rfl
@[simp] theorem State.setSieve_sieve (s : State) (f : Sieve → Sieve) : (s.setSieve f).sieve = f s.sieve := rfl
@[simp] theorem State.setSieve_govs (s : State) (f : Sieve → Sieve) : (s.setSieve f).govs = s.govs := rfl
@[simp] theorem State.setSieve_sluice (s : State) (f : Sieve → Sieve) : (s.setSieve f).sluice = s.sluice := rfl
@[simp] theorem State.setSieve_lamps (s : State) (f : Sieve → Sieve) : (s.setSieve f).lamps = s.lamps := rfl
@[simp] theorem State.setSieve_buses (s : State) (f : Sieve → Sieve) : (s.setSieve f).buses = s.buses := rfl
@[simp] theorem State.setSieve_heads (s : State) (f : Sieve → Sieve) : (s.setSieve f).heads = s.heads := rfl
@[simp] theorem State.setSieve_pair (s : State) (f : Sieve → Sieve) : (s.setSieve f).pair = s.pair := rfl
@[simp] theorem State.setSieve_journal (s : State) (f : Sieve → Sieve) : (s.setSieve f).journal = s.journal := rfl
@[simp] theorem State.setSieve_tag (s : State) (f : Sieve → Sieve) : (s.setSieve f).tag = s.tag := rfl
@[simp] theorem State.setSieve_mgmt (s : State) (f : Sieve → Sieve) : (s.setSieve f).mgmt = s.mgmt := rfl
@[simp] theorem State.setSieve_inject (s : State) (f : Sieve → Sieve) : (s.setSieve f).inject = s.inject := rfl
@[simp] theorem State.setSieve_jtag (s : State) (f : Sieve → Sieve) : (s.setSieve f).jtag = s.jtag := rfl
@[simp] theorem State.setSieve_dozeEvents (s : State) (f : Sieve → Sieve) : (s.setSieve f).dozeEvents = s.dozeEvents := rfl

@[simp] theorem State.setSluice_pending (s : State) (f : Sluice → Sluice) : (s.setSluice f).pending = s.pending := rfl
@[simp] theorem State.setSluice_mem (s : State) (f : Sluice → Sluice) : (s.setSluice f).mem = s.mem := rfl
@[simp] theorem State.setSluice_draws (s : State) (f : Sluice → Sluice) : (s.setSluice f).draws = s.draws := rfl
@[simp] theorem State.setSluice_power (s : State) (f : Sluice → Sluice) : (s.setSluice f).power = s.power := rfl
@[simp] theorem State.setSluice_modes (s : State) (f : Sluice → Sluice) : (s.setSluice f).modes = s.modes := rfl
@[simp] theorem State.setSluice_culvert (s : State) (f : Sluice → Sluice) : (s.setSluice f).culvert = s.culvert := rfl
@[simp] theorem State.setSluice_chanN (s : State) (f : Sluice → Sluice) : (s.setSluice f).chanN = s.chanN := rfl
@[simp] theorem State.setSluice_chanK (s : State) (f : Sluice → Sluice) : (s.setSluice f).chanK = s.chanK := rfl
@[simp] theorem State.setSluice_engine (s : State) (f : Sluice → Sluice) : (s.setSluice f).engine = s.engine := rfl
@[simp] theorem State.setSluice_settings (s : State) (f : Sluice → Sluice) : (s.setSluice f).settings = s.settings := rfl
@[simp] theorem State.setSluice_counting (s : State) (f : Sluice → Sluice) : (s.setSluice f).counting = s.counting := rfl
@[simp] theorem State.setSluice_ports (s : State) (f : Sluice → Sluice) : (s.setSluice f).ports = s.ports := rfl
@[simp] theorem State.setSluice_sieve (s : State) (f : Sluice → Sluice) : (s.setSluice f).sieve = s.sieve := rfl
@[simp] theorem State.setSluice_govs (s : State) (f : Sluice → Sluice) : (s.setSluice f).govs = s.govs := rfl
@[simp] theorem State.setSluice_sluice (s : State) (f : Sluice → Sluice) : (s.setSluice f).sluice = f s.sluice := rfl
@[simp] theorem State.setSluice_lamps (s : State) (f : Sluice → Sluice) : (s.setSluice f).lamps = s.lamps := rfl
@[simp] theorem State.setSluice_buses (s : State) (f : Sluice → Sluice) : (s.setSluice f).buses = s.buses := rfl
@[simp] theorem State.setSluice_heads (s : State) (f : Sluice → Sluice) : (s.setSluice f).heads = s.heads := rfl
@[simp] theorem State.setSluice_pair (s : State) (f : Sluice → Sluice) : (s.setSluice f).pair = s.pair := rfl
@[simp] theorem State.setSluice_journal (s : State) (f : Sluice → Sluice) : (s.setSluice f).journal = s.journal := rfl
@[simp] theorem State.setSluice_tag (s : State) (f : Sluice → Sluice) : (s.setSluice f).tag = s.tag := rfl
@[simp] theorem State.setSluice_mgmt (s : State) (f : Sluice → Sluice) : (s.setSluice f).mgmt = s.mgmt := rfl
@[simp] theorem State.setSluice_inject (s : State) (f : Sluice → Sluice) : (s.setSluice f).inject = s.inject := rfl
@[simp] theorem State.setSluice_jtag (s : State) (f : Sluice → Sluice) : (s.setSluice f).jtag = s.jtag := rfl
@[simp] theorem State.setSluice_dozeEvents (s : State) (f : Sluice → Sluice) : (s.setSluice f).dozeEvents = s.dozeEvents := rfl

@[simp] theorem State.setPair_pending (s : State) (f : Pair → Pair) : (s.setPair f).pending = s.pending := rfl
@[simp] theorem State.setPair_mem (s : State) (f : Pair → Pair) : (s.setPair f).mem = s.mem := rfl
@[simp] theorem State.setPair_draws (s : State) (f : Pair → Pair) : (s.setPair f).draws = s.draws := rfl
@[simp] theorem State.setPair_power (s : State) (f : Pair → Pair) : (s.setPair f).power = s.power := rfl
@[simp] theorem State.setPair_modes (s : State) (f : Pair → Pair) : (s.setPair f).modes = s.modes := rfl
@[simp] theorem State.setPair_culvert (s : State) (f : Pair → Pair) : (s.setPair f).culvert = s.culvert := rfl
@[simp] theorem State.setPair_chanN (s : State) (f : Pair → Pair) : (s.setPair f).chanN = s.chanN := rfl
@[simp] theorem State.setPair_chanK (s : State) (f : Pair → Pair) : (s.setPair f).chanK = s.chanK := rfl
@[simp] theorem State.setPair_engine (s : State) (f : Pair → Pair) : (s.setPair f).engine = s.engine := rfl
@[simp] theorem State.setPair_settings (s : State) (f : Pair → Pair) : (s.setPair f).settings = s.settings := rfl
@[simp] theorem State.setPair_counting (s : State) (f : Pair → Pair) : (s.setPair f).counting = s.counting := rfl
@[simp] theorem State.setPair_ports (s : State) (f : Pair → Pair) : (s.setPair f).ports = s.ports := rfl
@[simp] theorem State.setPair_sieve (s : State) (f : Pair → Pair) : (s.setPair f).sieve = s.sieve := rfl
@[simp] theorem State.setPair_govs (s : State) (f : Pair → Pair) : (s.setPair f).govs = s.govs := rfl
@[simp] theorem State.setPair_sluice (s : State) (f : Pair → Pair) : (s.setPair f).sluice = s.sluice := rfl
@[simp] theorem State.setPair_lamps (s : State) (f : Pair → Pair) : (s.setPair f).lamps = s.lamps := rfl
@[simp] theorem State.setPair_buses (s : State) (f : Pair → Pair) : (s.setPair f).buses = s.buses := rfl
@[simp] theorem State.setPair_heads (s : State) (f : Pair → Pair) : (s.setPair f).heads = s.heads := rfl
@[simp] theorem State.setPair_pair (s : State) (f : Pair → Pair) : (s.setPair f).pair = f s.pair := rfl
@[simp] theorem State.setPair_journal (s : State) (f : Pair → Pair) : (s.setPair f).journal = s.journal := rfl
@[simp] theorem State.setPair_tag (s : State) (f : Pair → Pair) : (s.setPair f).tag = s.tag := rfl
@[simp] theorem State.setPair_mgmt (s : State) (f : Pair → Pair) : (s.setPair f).mgmt = s.mgmt := rfl
@[simp] theorem State.setPair_inject (s : State) (f : Pair → Pair) : (s.setPair f).inject = s.inject := rfl
@[simp] theorem State.setPair_jtag (s : State) (f : Pair → Pair) : (s.setPair f).jtag = s.jtag := rfl
@[simp] theorem State.setPair_dozeEvents (s : State) (f : Pair → Pair) : (s.setPair f).dozeEvents = s.dozeEvents := rfl

@[simp] theorem State.setJournal_pending (s : State) (f : Journal → Journal) : (s.setJournal f).pending = s.pending := rfl
@[simp] theorem State.setJournal_mem (s : State) (f : Journal → Journal) : (s.setJournal f).mem = s.mem := rfl
@[simp] theorem State.setJournal_draws (s : State) (f : Journal → Journal) : (s.setJournal f).draws = s.draws := rfl
@[simp] theorem State.setJournal_power (s : State) (f : Journal → Journal) : (s.setJournal f).power = s.power := rfl
@[simp] theorem State.setJournal_modes (s : State) (f : Journal → Journal) : (s.setJournal f).modes = s.modes := rfl
@[simp] theorem State.setJournal_culvert (s : State) (f : Journal → Journal) : (s.setJournal f).culvert = s.culvert := rfl
@[simp] theorem State.setJournal_chanN (s : State) (f : Journal → Journal) : (s.setJournal f).chanN = s.chanN := rfl
@[simp] theorem State.setJournal_chanK (s : State) (f : Journal → Journal) : (s.setJournal f).chanK = s.chanK := rfl
@[simp] theorem State.setJournal_engine (s : State) (f : Journal → Journal) : (s.setJournal f).engine = s.engine := rfl
@[simp] theorem State.setJournal_settings (s : State) (f : Journal → Journal) : (s.setJournal f).settings = s.settings := rfl
@[simp] theorem State.setJournal_counting (s : State) (f : Journal → Journal) : (s.setJournal f).counting = s.counting := rfl
@[simp] theorem State.setJournal_ports (s : State) (f : Journal → Journal) : (s.setJournal f).ports = s.ports := rfl
@[simp] theorem State.setJournal_sieve (s : State) (f : Journal → Journal) : (s.setJournal f).sieve = s.sieve := rfl
@[simp] theorem State.setJournal_govs (s : State) (f : Journal → Journal) : (s.setJournal f).govs = s.govs := rfl
@[simp] theorem State.setJournal_sluice (s : State) (f : Journal → Journal) : (s.setJournal f).sluice = s.sluice := rfl
@[simp] theorem State.setJournal_lamps (s : State) (f : Journal → Journal) : (s.setJournal f).lamps = s.lamps := rfl
@[simp] theorem State.setJournal_buses (s : State) (f : Journal → Journal) : (s.setJournal f).buses = s.buses := rfl
@[simp] theorem State.setJournal_heads (s : State) (f : Journal → Journal) : (s.setJournal f).heads = s.heads := rfl
@[simp] theorem State.setJournal_pair (s : State) (f : Journal → Journal) : (s.setJournal f).pair = s.pair := rfl
@[simp] theorem State.setJournal_journal (s : State) (f : Journal → Journal) : (s.setJournal f).journal = f s.journal := rfl
@[simp] theorem State.setJournal_tag (s : State) (f : Journal → Journal) : (s.setJournal f).tag = s.tag := rfl
@[simp] theorem State.setJournal_mgmt (s : State) (f : Journal → Journal) : (s.setJournal f).mgmt = s.mgmt := rfl
@[simp] theorem State.setJournal_inject (s : State) (f : Journal → Journal) : (s.setJournal f).inject = s.inject := rfl
@[simp] theorem State.setJournal_jtag (s : State) (f : Journal → Journal) : (s.setJournal f).jtag = s.jtag := rfl
@[simp] theorem State.setJournal_dozeEvents (s : State) (f : Journal → Journal) : (s.setJournal f).dozeEvents = s.dozeEvents := rfl

@[simp] theorem State.setTag_pending (s : State) (f : Tag → Tag) : (s.setTag f).pending = s.pending := rfl
@[simp] theorem State.setTag_mem (s : State) (f : Tag → Tag) : (s.setTag f).mem = s.mem := rfl
@[simp] theorem State.setTag_draws (s : State) (f : Tag → Tag) : (s.setTag f).draws = s.draws := rfl
@[simp] theorem State.setTag_power (s : State) (f : Tag → Tag) : (s.setTag f).power = s.power := rfl
@[simp] theorem State.setTag_modes (s : State) (f : Tag → Tag) : (s.setTag f).modes = s.modes := rfl
@[simp] theorem State.setTag_culvert (s : State) (f : Tag → Tag) : (s.setTag f).culvert = s.culvert := rfl
@[simp] theorem State.setTag_chanN (s : State) (f : Tag → Tag) : (s.setTag f).chanN = s.chanN := rfl
@[simp] theorem State.setTag_chanK (s : State) (f : Tag → Tag) : (s.setTag f).chanK = s.chanK := rfl
@[simp] theorem State.setTag_engine (s : State) (f : Tag → Tag) : (s.setTag f).engine = s.engine := rfl
@[simp] theorem State.setTag_settings (s : State) (f : Tag → Tag) : (s.setTag f).settings = s.settings := rfl
@[simp] theorem State.setTag_counting (s : State) (f : Tag → Tag) : (s.setTag f).counting = s.counting := rfl
@[simp] theorem State.setTag_ports (s : State) (f : Tag → Tag) : (s.setTag f).ports = s.ports := rfl
@[simp] theorem State.setTag_sieve (s : State) (f : Tag → Tag) : (s.setTag f).sieve = s.sieve := rfl
@[simp] theorem State.setTag_govs (s : State) (f : Tag → Tag) : (s.setTag f).govs = s.govs := rfl
@[simp] theorem State.setTag_sluice (s : State) (f : Tag → Tag) : (s.setTag f).sluice = s.sluice := rfl
@[simp] theorem State.setTag_lamps (s : State) (f : Tag → Tag) : (s.setTag f).lamps = s.lamps := rfl
@[simp] theorem State.setTag_buses (s : State) (f : Tag → Tag) : (s.setTag f).buses = s.buses := rfl
@[simp] theorem State.setTag_heads (s : State) (f : Tag → Tag) : (s.setTag f).heads = s.heads := rfl
@[simp] theorem State.setTag_pair (s : State) (f : Tag → Tag) : (s.setTag f).pair = s.pair := rfl
@[simp] theorem State.setTag_journal (s : State) (f : Tag → Tag) : (s.setTag f).journal = s.journal := rfl
@[simp] theorem State.setTag_tag (s : State) (f : Tag → Tag) : (s.setTag f).tag = f s.tag := rfl
@[simp] theorem State.setTag_mgmt (s : State) (f : Tag → Tag) : (s.setTag f).mgmt = s.mgmt := rfl
@[simp] theorem State.setTag_inject (s : State) (f : Tag → Tag) : (s.setTag f).inject = s.inject := rfl
@[simp] theorem State.setTag_jtag (s : State) (f : Tag → Tag) : (s.setTag f).jtag = s.jtag := rfl
@[simp] theorem State.setTag_dozeEvents (s : State) (f : Tag → Tag) : (s.setTag f).dozeEvents = s.dozeEvents := rfl

@[simp] theorem State.setMgmt_pending (s : State) (f : Mgmt → Mgmt) : (s.setMgmt f).pending = s.pending := rfl
@[simp] theorem State.setMgmt_mem (s : State) (f : Mgmt → Mgmt) : (s.setMgmt f).mem = s.mem := rfl
@[simp] theorem State.setMgmt_draws (s : State) (f : Mgmt → Mgmt) : (s.setMgmt f).draws = s.draws := rfl
@[simp] theorem State.setMgmt_power (s : State) (f : Mgmt → Mgmt) : (s.setMgmt f).power = s.power := rfl
@[simp] theorem State.setMgmt_modes (s : State) (f : Mgmt → Mgmt) : (s.setMgmt f).modes = s.modes := rfl
@[simp] theorem State.setMgmt_culvert (s : State) (f : Mgmt → Mgmt) : (s.setMgmt f).culvert = s.culvert := rfl
@[simp] theorem State.setMgmt_chanN (s : State) (f : Mgmt → Mgmt) : (s.setMgmt f).chanN = s.chanN := rfl
@[simp] theorem State.setMgmt_chanK (s : State) (f : Mgmt → Mgmt) : (s.setMgmt f).chanK = s.chanK := rfl
@[simp] theorem State.setMgmt_engine (s : State) (f : Mgmt → Mgmt) : (s.setMgmt f).engine = s.engine := rfl
@[simp] theorem State.setMgmt_settings (s : State) (f : Mgmt → Mgmt) : (s.setMgmt f).settings = s.settings := rfl
@[simp] theorem State.setMgmt_counting (s : State) (f : Mgmt → Mgmt) : (s.setMgmt f).counting = s.counting := rfl
@[simp] theorem State.setMgmt_ports (s : State) (f : Mgmt → Mgmt) : (s.setMgmt f).ports = s.ports := rfl
@[simp] theorem State.setMgmt_sieve (s : State) (f : Mgmt → Mgmt) : (s.setMgmt f).sieve = s.sieve := rfl
@[simp] theorem State.setMgmt_govs (s : State) (f : Mgmt → Mgmt) : (s.setMgmt f).govs = s.govs := rfl
@[simp] theorem State.setMgmt_sluice (s : State) (f : Mgmt → Mgmt) : (s.setMgmt f).sluice = s.sluice := rfl
@[simp] theorem State.setMgmt_lamps (s : State) (f : Mgmt → Mgmt) : (s.setMgmt f).lamps = s.lamps := rfl
@[simp] theorem State.setMgmt_buses (s : State) (f : Mgmt → Mgmt) : (s.setMgmt f).buses = s.buses := rfl
@[simp] theorem State.setMgmt_heads (s : State) (f : Mgmt → Mgmt) : (s.setMgmt f).heads = s.heads := rfl
@[simp] theorem State.setMgmt_pair (s : State) (f : Mgmt → Mgmt) : (s.setMgmt f).pair = s.pair := rfl
@[simp] theorem State.setMgmt_journal (s : State) (f : Mgmt → Mgmt) : (s.setMgmt f).journal = s.journal := rfl
@[simp] theorem State.setMgmt_tag (s : State) (f : Mgmt → Mgmt) : (s.setMgmt f).tag = s.tag := rfl
@[simp] theorem State.setMgmt_mgmt (s : State) (f : Mgmt → Mgmt) : (s.setMgmt f).mgmt = f s.mgmt := rfl
@[simp] theorem State.setMgmt_inject (s : State) (f : Mgmt → Mgmt) : (s.setMgmt f).inject = s.inject := rfl
@[simp] theorem State.setMgmt_jtag (s : State) (f : Mgmt → Mgmt) : (s.setMgmt f).jtag = s.jtag := rfl
@[simp] theorem State.setMgmt_dozeEvents (s : State) (f : Mgmt → Mgmt) : (s.setMgmt f).dozeEvents = s.dozeEvents := rfl

@[simp] theorem State.setInject_pending (s : State) (f : Inject → Inject) : (s.setInject f).pending = s.pending := rfl
@[simp] theorem State.setInject_mem (s : State) (f : Inject → Inject) : (s.setInject f).mem = s.mem := rfl
@[simp] theorem State.setInject_draws (s : State) (f : Inject → Inject) : (s.setInject f).draws = s.draws := rfl
@[simp] theorem State.setInject_power (s : State) (f : Inject → Inject) : (s.setInject f).power = s.power := rfl
@[simp] theorem State.setInject_modes (s : State) (f : Inject → Inject) : (s.setInject f).modes = s.modes := rfl
@[simp] theorem State.setInject_culvert (s : State) (f : Inject → Inject) : (s.setInject f).culvert = s.culvert := rfl
@[simp] theorem State.setInject_chanN (s : State) (f : Inject → Inject) : (s.setInject f).chanN = s.chanN := rfl
@[simp] theorem State.setInject_chanK (s : State) (f : Inject → Inject) : (s.setInject f).chanK = s.chanK := rfl
@[simp] theorem State.setInject_engine (s : State) (f : Inject → Inject) : (s.setInject f).engine = s.engine := rfl
@[simp] theorem State.setInject_settings (s : State) (f : Inject → Inject) : (s.setInject f).settings = s.settings := rfl
@[simp] theorem State.setInject_counting (s : State) (f : Inject → Inject) : (s.setInject f).counting = s.counting := rfl
@[simp] theorem State.setInject_ports (s : State) (f : Inject → Inject) : (s.setInject f).ports = s.ports := rfl
@[simp] theorem State.setInject_sieve (s : State) (f : Inject → Inject) : (s.setInject f).sieve = s.sieve := rfl
@[simp] theorem State.setInject_govs (s : State) (f : Inject → Inject) : (s.setInject f).govs = s.govs := rfl
@[simp] theorem State.setInject_sluice (s : State) (f : Inject → Inject) : (s.setInject f).sluice = s.sluice := rfl
@[simp] theorem State.setInject_lamps (s : State) (f : Inject → Inject) : (s.setInject f).lamps = s.lamps := rfl
@[simp] theorem State.setInject_buses (s : State) (f : Inject → Inject) : (s.setInject f).buses = s.buses := rfl
@[simp] theorem State.setInject_heads (s : State) (f : Inject → Inject) : (s.setInject f).heads = s.heads := rfl
@[simp] theorem State.setInject_pair (s : State) (f : Inject → Inject) : (s.setInject f).pair = s.pair := rfl
@[simp] theorem State.setInject_journal (s : State) (f : Inject → Inject) : (s.setInject f).journal = s.journal := rfl
@[simp] theorem State.setInject_tag (s : State) (f : Inject → Inject) : (s.setInject f).tag = s.tag := rfl
@[simp] theorem State.setInject_mgmt (s : State) (f : Inject → Inject) : (s.setInject f).mgmt = s.mgmt := rfl
@[simp] theorem State.setInject_inject (s : State) (f : Inject → Inject) : (s.setInject f).inject = f s.inject := rfl
@[simp] theorem State.setInject_jtag (s : State) (f : Inject → Inject) : (s.setInject f).jtag = s.jtag := rfl
@[simp] theorem State.setInject_dozeEvents (s : State) (f : Inject → Inject) : (s.setInject f).dozeEvents = s.dozeEvents := rfl

@[simp] theorem State.setCounting_pending (s : State) (v : Bool) : (s.setCounting v).pending = s.pending := rfl
@[simp] theorem State.setCounting_mem (s : State) (v : Bool) : (s.setCounting v).mem = s.mem := rfl
@[simp] theorem State.setCounting_draws (s : State) (v : Bool) : (s.setCounting v).draws = s.draws := rfl
@[simp] theorem State.setCounting_power (s : State) (v : Bool) : (s.setCounting v).power = s.power := rfl
@[simp] theorem State.setCounting_modes (s : State) (v : Bool) : (s.setCounting v).modes = s.modes := rfl
@[simp] theorem State.setCounting_culvert (s : State) (v : Bool) : (s.setCounting v).culvert = s.culvert := rfl
@[simp] theorem State.setCounting_chanN (s : State) (v : Bool) : (s.setCounting v).chanN = s.chanN := rfl
@[simp] theorem State.setCounting_chanK (s : State) (v : Bool) : (s.setCounting v).chanK = s.chanK := rfl
@[simp] theorem State.setCounting_engine (s : State) (v : Bool) : (s.setCounting v).engine = s.engine := rfl
@[simp] theorem State.setCounting_settings (s : State) (v : Bool) : (s.setCounting v).settings = s.settings := rfl
@[simp] theorem State.setCounting_counting (s : State) (v : Bool) : (s.setCounting v).counting = v := rfl
@[simp] theorem State.setCounting_ports (s : State) (v : Bool) : (s.setCounting v).ports = s.ports := rfl
@[simp] theorem State.setCounting_sieve (s : State) (v : Bool) : (s.setCounting v).sieve = s.sieve := rfl
@[simp] theorem State.setCounting_govs (s : State) (v : Bool) : (s.setCounting v).govs = s.govs := rfl
@[simp] theorem State.setCounting_sluice (s : State) (v : Bool) : (s.setCounting v).sluice = s.sluice := rfl
@[simp] theorem State.setCounting_lamps (s : State) (v : Bool) : (s.setCounting v).lamps = s.lamps := rfl
@[simp] theorem State.setCounting_buses (s : State) (v : Bool) : (s.setCounting v).buses = s.buses := rfl
@[simp] theorem State.setCounting_heads (s : State) (v : Bool) : (s.setCounting v).heads = s.heads := rfl
@[simp] theorem State.setCounting_pair (s : State) (v : Bool) : (s.setCounting v).pair = s.pair := rfl
@[simp] theorem State.setCounting_journal (s : State) (v : Bool) : (s.setCounting v).journal = s.journal := rfl
@[simp] theorem State.setCounting_tag (s : State) (v : Bool) : (s.setCounting v).tag = s.tag := rfl
@[simp] theorem State.setCounting_mgmt (s : State) (v : Bool) : (s.setCounting v).mgmt = s.mgmt := rfl
@[simp] theorem State.setCounting_inject (s : State) (v : Bool) : (s.setCounting v).inject = s.inject := rfl
@[simp] theorem State.setCounting_jtag (s : State) (v : Bool) : (s.setCounting v).jtag = s.jtag := rfl
@[simp] theorem State.setCounting_dozeEvents (s : State) (v : Bool) : (s.setCounting v).dozeEvents = s.dozeEvents := rfl

@[simp] theorem State.setDozeEvents_pending (s : State) (v : List (Nat × Nat × Nat × Nat)) : (s.setDozeEvents v).pending = s.pending := rfl
@[simp] theorem State.setDozeEvents_mem (s : State) (v : List (Nat × Nat × Nat × Nat)) : (s.setDozeEvents v).mem = s.mem := rfl
@[simp] theorem State.setDozeEvents_draws (s : State) (v : List (Nat × Nat × Nat × Nat)) : (s.setDozeEvents v).draws = s.draws := rfl
@[simp] theorem State.setDozeEvents_power (s : State) (v : List (Nat × Nat × Nat × Nat)) : (s.setDozeEvents v).power = s.power := rfl
@[simp] theorem State.setDozeEvents_modes (s : State) (v : List (Nat × Nat × Nat × Nat)) : (s.setDozeEvents v).modes = s.modes := rfl
@[simp] theorem State.setDozeEvents_culvert (s : State) (v : List (Nat × Nat × Nat × Nat)) : (s.setDozeEvents v).culvert = s.culvert := rfl
@[simp] theorem State.setDozeEvents_chanN (s : State) (v : List (Nat × Nat × Nat × Nat)) : (s.setDozeEvents v).chanN = s.chanN := rfl
@[simp] theorem State.setDozeEvents_chanK (s : State) (v : List (Nat × Nat × Nat × Nat)) : (s.setDozeEvents v).chanK = s.chanK := rfl
@[simp] theorem State.setDozeEvents_engine (s : State) (v : List (Nat × Nat × Nat × Nat)) : (s.setDozeEvents v).engine = s.engine := rfl
@[simp] theorem State.setDozeEvents_settings (s : State) (v : List (Nat × Nat × Nat × Nat)) : (s.setDozeEvents v).settings = s.settings := rfl
@[simp] theorem State.setDozeEvents_counting (s : State) (v : List (Nat × Nat × Nat × Nat)) : (s.setDozeEvents v).counting = s.counting := rfl
@[simp] theorem State.setDozeEvents_ports (s : State) (v : List (Nat × Nat × Nat × Nat)) : (s.setDozeEvents v).ports = s.ports := rfl
@[simp] theorem State.setDozeEvents_sieve (s : State) (v : List (Nat × Nat × Nat × Nat)) : (s.setDozeEvents v).sieve = s.sieve := rfl
@[simp] theorem State.setDozeEvents_govs (s : State) (v : List (Nat × Nat × Nat × Nat)) : (s.setDozeEvents v).govs = s.govs := rfl
@[simp] theorem State.setDozeEvents_sluice (s : State) (v : List (Nat × Nat × Nat × Nat)) : (s.setDozeEvents v).sluice = s.sluice := rfl
@[simp] theorem State.setDozeEvents_lamps (s : State) (v : List (Nat × Nat × Nat × Nat)) : (s.setDozeEvents v).lamps = s.lamps := rfl
@[simp] theorem State.setDozeEvents_buses (s : State) (v : List (Nat × Nat × Nat × Nat)) : (s.setDozeEvents v).buses = s.buses := rfl
@[simp] theorem State.setDozeEvents_heads (s : State) (v : List (Nat × Nat × Nat × Nat)) : (s.setDozeEvents v).heads = s.heads := rfl
@[simp] theorem State.setDozeEvents_pair (s : State) (v : List (Nat × Nat × Nat × Nat)) : (s.setDozeEvents v).pair = s.pair := rfl
@[simp] theorem State.setDozeEvents_journal (s : State) (v : List (Nat × Nat × Nat × Nat)) : (s.setDozeEvents v).journal = s.journal := rfl
@[simp] theorem State.setDozeEvents_tag (s : State) (v : List (Nat × Nat × Nat × Nat)) : (s.setDozeEvents v).tag = s.tag := rfl
@[simp] theorem State.setDozeEvents_mgmt (s : State) (v : List (Nat × Nat × Nat × Nat)) : (s.setDozeEvents v).mgmt = s.mgmt := rfl
@[simp] theorem State.setDozeEvents_inject (s : State) (v : List (Nat × Nat × Nat × Nat)) : (s.setDozeEvents v).inject = s.inject := rfl
@[simp] theorem State.setDozeEvents_jtag (s : State) (v : List (Nat × Nat × Nat × Nat)) : (s.setDozeEvents v).jtag = s.jtag := rfl
@[simp] theorem State.setDozeEvents_dozeEvents (s : State) (v : List (Nat × Nat × Nat × Nat)) : (s.setDozeEvents v).dozeEvents = v := rfl

@[simp] theorem State.setPorts_pending (s : State) (v : Vector Port 48) : (s.setPorts v).pending = s.pending := rfl
@[simp] theorem State.setPorts_mem (s : State) (v : Vector Port 48) : (s.setPorts v).mem = s.mem := rfl
@[simp] theorem State.setPorts_draws (s : State) (v : Vector Port 48) : (s.setPorts v).draws = s.draws := rfl
@[simp] theorem State.setPorts_power (s : State) (v : Vector Port 48) : (s.setPorts v).power = s.power := rfl
@[simp] theorem State.setPorts_modes (s : State) (v : Vector Port 48) : (s.setPorts v).modes = s.modes := rfl
@[simp] theorem State.setPorts_culvert (s : State) (v : Vector Port 48) : (s.setPorts v).culvert = s.culvert := rfl
@[simp] theorem State.setPorts_chanN (s : State) (v : Vector Port 48) : (s.setPorts v).chanN = s.chanN := rfl
@[simp] theorem State.setPorts_chanK (s : State) (v : Vector Port 48) : (s.setPorts v).chanK = s.chanK := rfl
@[simp] theorem State.setPorts_engine (s : State) (v : Vector Port 48) : (s.setPorts v).engine = s.engine := rfl
@[simp] theorem State.setPorts_settings (s : State) (v : Vector Port 48) : (s.setPorts v).settings = s.settings := rfl
@[simp] theorem State.setPorts_counting (s : State) (v : Vector Port 48) : (s.setPorts v).counting = s.counting := rfl
@[simp] theorem State.setPorts_ports (s : State) (v : Vector Port 48) : (s.setPorts v).ports = v := rfl
@[simp] theorem State.setPorts_sieve (s : State) (v : Vector Port 48) : (s.setPorts v).sieve = s.sieve := rfl
@[simp] theorem State.setPorts_govs (s : State) (v : Vector Port 48) : (s.setPorts v).govs = s.govs := rfl
@[simp] theorem State.setPorts_sluice (s : State) (v : Vector Port 48) : (s.setPorts v).sluice = s.sluice := rfl
@[simp] theorem State.setPorts_lamps (s : State) (v : Vector Port 48) : (s.setPorts v).lamps = s.lamps := rfl
@[simp] theorem State.setPorts_buses (s : State) (v : Vector Port 48) : (s.setPorts v).buses = s.buses := rfl
@[simp] theorem State.setPorts_heads (s : State) (v : Vector Port 48) : (s.setPorts v).heads = s.heads := rfl
@[simp] theorem State.setPorts_pair (s : State) (v : Vector Port 48) : (s.setPorts v).pair = s.pair := rfl
@[simp] theorem State.setPorts_journal (s : State) (v : Vector Port 48) : (s.setPorts v).journal = s.journal := rfl
@[simp] theorem State.setPorts_tag (s : State) (v : Vector Port 48) : (s.setPorts v).tag = s.tag := rfl
@[simp] theorem State.setPorts_mgmt (s : State) (v : Vector Port 48) : (s.setPorts v).mgmt = s.mgmt := rfl
@[simp] theorem State.setPorts_inject (s : State) (v : Vector Port 48) : (s.setPorts v).inject = s.inject := rfl
@[simp] theorem State.setPorts_jtag (s : State) (v : Vector Port 48) : (s.setPorts v).jtag = s.jtag := rfl
@[simp] theorem State.setPorts_dozeEvents (s : State) (v : Vector Port 48) : (s.setPorts v).dozeEvents = s.dozeEvents := rfl

@[simp] theorem State.setGovs_pending (s : State) (v : Vector Gov 256) : (s.setGovs v).pending = s.pending := rfl
@[simp] theorem State.setGovs_mem (s : State) (v : Vector Gov 256) : (s.setGovs v).mem = s.mem := rfl
@[simp] theorem State.setGovs_draws (s : State) (v : Vector Gov 256) : (s.setGovs v).draws = s.draws := rfl
@[simp] theorem State.setGovs_power (s : State) (v : Vector Gov 256) : (s.setGovs v).power = s.power := rfl
@[simp] theorem State.setGovs_modes (s : State) (v : Vector Gov 256) : (s.setGovs v).modes = s.modes := rfl
@[simp] theorem State.setGovs_culvert (s : State) (v : Vector Gov 256) : (s.setGovs v).culvert = s.culvert := rfl
@[simp] theorem State.setGovs_chanN (s : State) (v : Vector Gov 256) : (s.setGovs v).chanN = s.chanN := rfl
@[simp] theorem State.setGovs_chanK (s : State) (v : Vector Gov 256) : (s.setGovs v).chanK = s.chanK := rfl
@[simp] theorem State.setGovs_engine (s : State) (v : Vector Gov 256) : (s.setGovs v).engine = s.engine := rfl
@[simp] theorem State.setGovs_settings (s : State) (v : Vector Gov 256) : (s.setGovs v).settings = s.settings := rfl
@[simp] theorem State.setGovs_counting (s : State) (v : Vector Gov 256) : (s.setGovs v).counting = s.counting := rfl
@[simp] theorem State.setGovs_ports (s : State) (v : Vector Gov 256) : (s.setGovs v).ports = s.ports := rfl
@[simp] theorem State.setGovs_sieve (s : State) (v : Vector Gov 256) : (s.setGovs v).sieve = s.sieve := rfl
@[simp] theorem State.setGovs_govs (s : State) (v : Vector Gov 256) : (s.setGovs v).govs = v := rfl
@[simp] theorem State.setGovs_sluice (s : State) (v : Vector Gov 256) : (s.setGovs v).sluice = s.sluice := rfl
@[simp] theorem State.setGovs_lamps (s : State) (v : Vector Gov 256) : (s.setGovs v).lamps = s.lamps := rfl
@[simp] theorem State.setGovs_buses (s : State) (v : Vector Gov 256) : (s.setGovs v).buses = s.buses := rfl
@[simp] theorem State.setGovs_heads (s : State) (v : Vector Gov 256) : (s.setGovs v).heads = s.heads := rfl
@[simp] theorem State.setGovs_pair (s : State) (v : Vector Gov 256) : (s.setGovs v).pair = s.pair := rfl
@[simp] theorem State.setGovs_journal (s : State) (v : Vector Gov 256) : (s.setGovs v).journal = s.journal := rfl
@[simp] theorem State.setGovs_tag (s : State) (v : Vector Gov 256) : (s.setGovs v).tag = s.tag := rfl
@[simp] theorem State.setGovs_mgmt (s : State) (v : Vector Gov 256) : (s.setGovs v).mgmt = s.mgmt := rfl
@[simp] theorem State.setGovs_inject (s : State) (v : Vector Gov 256) : (s.setGovs v).inject = s.inject := rfl
@[simp] theorem State.setGovs_jtag (s : State) (v : Vector Gov 256) : (s.setGovs v).jtag = s.jtag := rfl
@[simp] theorem State.setGovs_dozeEvents (s : State) (v : Vector Gov 256) : (s.setGovs v).dozeEvents = s.dozeEvents := rfl

@[simp] theorem State.setLamps_pending (s : State) (v : Vector Lamp 1024) : (s.setLamps v).pending = s.pending := rfl
@[simp] theorem State.setLamps_mem (s : State) (v : Vector Lamp 1024) : (s.setLamps v).mem = s.mem := rfl
@[simp] theorem State.setLamps_draws (s : State) (v : Vector Lamp 1024) : (s.setLamps v).draws = s.draws := rfl
@[simp] theorem State.setLamps_power (s : State) (v : Vector Lamp 1024) : (s.setLamps v).power = s.power := rfl
@[simp] theorem State.setLamps_modes (s : State) (v : Vector Lamp 1024) : (s.setLamps v).modes = s.modes := rfl
@[simp] theorem State.setLamps_culvert (s : State) (v : Vector Lamp 1024) : (s.setLamps v).culvert = s.culvert := rfl
@[simp] theorem State.setLamps_chanN (s : State) (v : Vector Lamp 1024) : (s.setLamps v).chanN = s.chanN := rfl
@[simp] theorem State.setLamps_chanK (s : State) (v : Vector Lamp 1024) : (s.setLamps v).chanK = s.chanK := rfl
@[simp] theorem State.setLamps_engine (s : State) (v : Vector Lamp 1024) : (s.setLamps v).engine = s.engine := rfl
@[simp] theorem State.setLamps_settings (s : State) (v : Vector Lamp 1024) : (s.setLamps v).settings = s.settings := rfl
@[simp] theorem State.setLamps_counting (s : State) (v : Vector Lamp 1024) : (s.setLamps v).counting = s.counting := rfl
@[simp] theorem State.setLamps_ports (s : State) (v : Vector Lamp 1024) : (s.setLamps v).ports = s.ports := rfl
@[simp] theorem State.setLamps_sieve (s : State) (v : Vector Lamp 1024) : (s.setLamps v).sieve = s.sieve := rfl
@[simp] theorem State.setLamps_govs (s : State) (v : Vector Lamp 1024) : (s.setLamps v).govs = s.govs := rfl
@[simp] theorem State.setLamps_sluice (s : State) (v : Vector Lamp 1024) : (s.setLamps v).sluice = s.sluice := rfl
@[simp] theorem State.setLamps_lamps (s : State) (v : Vector Lamp 1024) : (s.setLamps v).lamps = v := rfl
@[simp] theorem State.setLamps_buses (s : State) (v : Vector Lamp 1024) : (s.setLamps v).buses = s.buses := rfl
@[simp] theorem State.setLamps_heads (s : State) (v : Vector Lamp 1024) : (s.setLamps v).heads = s.heads := rfl
@[simp] theorem State.setLamps_pair (s : State) (v : Vector Lamp 1024) : (s.setLamps v).pair = s.pair := rfl
@[simp] theorem State.setLamps_journal (s : State) (v : Vector Lamp 1024) : (s.setLamps v).journal = s.journal := rfl
@[simp] theorem State.setLamps_tag (s : State) (v : Vector Lamp 1024) : (s.setLamps v).tag = s.tag := rfl
@[simp] theorem State.setLamps_mgmt (s : State) (v : Vector Lamp 1024) : (s.setLamps v).mgmt = s.mgmt := rfl
@[simp] theorem State.setLamps_inject (s : State) (v : Vector Lamp 1024) : (s.setLamps v).inject = s.inject := rfl
@[simp] theorem State.setLamps_jtag (s : State) (v : Vector Lamp 1024) : (s.setLamps v).jtag = s.jtag := rfl
@[simp] theorem State.setLamps_dozeEvents (s : State) (v : Vector Lamp 1024) : (s.setLamps v).dozeEvents = s.dozeEvents := rfl

@[simp] theorem State.setBuses_pending (s : State) (v : Vector Bus 8) : (s.setBuses v).pending = s.pending := rfl
@[simp] theorem State.setBuses_mem (s : State) (v : Vector Bus 8) : (s.setBuses v).mem = s.mem := rfl
@[simp] theorem State.setBuses_draws (s : State) (v : Vector Bus 8) : (s.setBuses v).draws = s.draws := rfl
@[simp] theorem State.setBuses_power (s : State) (v : Vector Bus 8) : (s.setBuses v).power = s.power := rfl
@[simp] theorem State.setBuses_modes (s : State) (v : Vector Bus 8) : (s.setBuses v).modes = s.modes := rfl
@[simp] theorem State.setBuses_culvert (s : State) (v : Vector Bus 8) : (s.setBuses v).culvert = s.culvert := rfl
@[simp] theorem State.setBuses_chanN (s : State) (v : Vector Bus 8) : (s.setBuses v).chanN = s.chanN := rfl
@[simp] theorem State.setBuses_chanK (s : State) (v : Vector Bus 8) : (s.setBuses v).chanK = s.chanK := rfl
@[simp] theorem State.setBuses_engine (s : State) (v : Vector Bus 8) : (s.setBuses v).engine = s.engine := rfl
@[simp] theorem State.setBuses_settings (s : State) (v : Vector Bus 8) : (s.setBuses v).settings = s.settings := rfl
@[simp] theorem State.setBuses_counting (s : State) (v : Vector Bus 8) : (s.setBuses v).counting = s.counting := rfl
@[simp] theorem State.setBuses_ports (s : State) (v : Vector Bus 8) : (s.setBuses v).ports = s.ports := rfl
@[simp] theorem State.setBuses_sieve (s : State) (v : Vector Bus 8) : (s.setBuses v).sieve = s.sieve := rfl
@[simp] theorem State.setBuses_govs (s : State) (v : Vector Bus 8) : (s.setBuses v).govs = s.govs := rfl
@[simp] theorem State.setBuses_sluice (s : State) (v : Vector Bus 8) : (s.setBuses v).sluice = s.sluice := rfl
@[simp] theorem State.setBuses_lamps (s : State) (v : Vector Bus 8) : (s.setBuses v).lamps = s.lamps := rfl
@[simp] theorem State.setBuses_buses (s : State) (v : Vector Bus 8) : (s.setBuses v).buses = v := rfl
@[simp] theorem State.setBuses_heads (s : State) (v : Vector Bus 8) : (s.setBuses v).heads = s.heads := rfl
@[simp] theorem State.setBuses_pair (s : State) (v : Vector Bus 8) : (s.setBuses v).pair = s.pair := rfl
@[simp] theorem State.setBuses_journal (s : State) (v : Vector Bus 8) : (s.setBuses v).journal = s.journal := rfl
@[simp] theorem State.setBuses_tag (s : State) (v : Vector Bus 8) : (s.setBuses v).tag = s.tag := rfl
@[simp] theorem State.setBuses_mgmt (s : State) (v : Vector Bus 8) : (s.setBuses v).mgmt = s.mgmt := rfl
@[simp] theorem State.setBuses_inject (s : State) (v : Vector Bus 8) : (s.setBuses v).inject = s.inject := rfl
@[simp] theorem State.setBuses_jtag (s : State) (v : Vector Bus 8) : (s.setBuses v).jtag = s.jtag := rfl
@[simp] theorem State.setBuses_dozeEvents (s : State) (v : Vector Bus 8) : (s.setBuses v).dozeEvents = s.dozeEvents := rfl

@[simp] theorem State.setHeads_pending (s : State) (v : Vector Head 240) : (s.setHeads v).pending = s.pending := rfl
@[simp] theorem State.setHeads_mem (s : State) (v : Vector Head 240) : (s.setHeads v).mem = s.mem := rfl
@[simp] theorem State.setHeads_draws (s : State) (v : Vector Head 240) : (s.setHeads v).draws = s.draws := rfl
@[simp] theorem State.setHeads_power (s : State) (v : Vector Head 240) : (s.setHeads v).power = s.power := rfl
@[simp] theorem State.setHeads_modes (s : State) (v : Vector Head 240) : (s.setHeads v).modes = s.modes := rfl
@[simp] theorem State.setHeads_culvert (s : State) (v : Vector Head 240) : (s.setHeads v).culvert = s.culvert := rfl
@[simp] theorem State.setHeads_chanN (s : State) (v : Vector Head 240) : (s.setHeads v).chanN = s.chanN := rfl
@[simp] theorem State.setHeads_chanK (s : State) (v : Vector Head 240) : (s.setHeads v).chanK = s.chanK := rfl
@[simp] theorem State.setHeads_engine (s : State) (v : Vector Head 240) : (s.setHeads v).engine = s.engine := rfl
@[simp] theorem State.setHeads_settings (s : State) (v : Vector Head 240) : (s.setHeads v).settings = s.settings := rfl
@[simp] theorem State.setHeads_counting (s : State) (v : Vector Head 240) : (s.setHeads v).counting = s.counting := rfl
@[simp] theorem State.setHeads_ports (s : State) (v : Vector Head 240) : (s.setHeads v).ports = s.ports := rfl
@[simp] theorem State.setHeads_sieve (s : State) (v : Vector Head 240) : (s.setHeads v).sieve = s.sieve := rfl
@[simp] theorem State.setHeads_govs (s : State) (v : Vector Head 240) : (s.setHeads v).govs = s.govs := rfl
@[simp] theorem State.setHeads_sluice (s : State) (v : Vector Head 240) : (s.setHeads v).sluice = s.sluice := rfl
@[simp] theorem State.setHeads_lamps (s : State) (v : Vector Head 240) : (s.setHeads v).lamps = s.lamps := rfl
@[simp] theorem State.setHeads_buses (s : State) (v : Vector Head 240) : (s.setHeads v).buses = s.buses := rfl
@[simp] theorem State.setHeads_heads (s : State) (v : Vector Head 240) : (s.setHeads v).heads = v := rfl
@[simp] theorem State.setHeads_pair (s : State) (v : Vector Head 240) : (s.setHeads v).pair = s.pair := rfl
@[simp] theorem State.setHeads_journal (s : State) (v : Vector Head 240) : (s.setHeads v).journal = s.journal := rfl
@[simp] theorem State.setHeads_tag (s : State) (v : Vector Head 240) : (s.setHeads v).tag = s.tag := rfl
@[simp] theorem State.setHeads_mgmt (s : State) (v : Vector Head 240) : (s.setHeads v).mgmt = s.mgmt := rfl
@[simp] theorem State.setHeads_inject (s : State) (v : Vector Head 240) : (s.setHeads v).inject = s.inject := rfl
@[simp] theorem State.setHeads_jtag (s : State) (v : Vector Head 240) : (s.setHeads v).jtag = s.jtag := rfl
@[simp] theorem State.setHeads_dozeEvents (s : State) (v : Vector Head 240) : (s.setHeads v).dozeEvents = s.dozeEvents := rfl

@[simp] theorem State.setJtag_pending (s : State) (v : Jtag) : (s.setJtag v).pending = s.pending := rfl
@[simp] theorem State.setJtag_mem (s : State) (v : Jtag) : (s.setJtag v).mem = s.mem := rfl
@[simp] theorem State.setJtag_draws (s : State) (v : Jtag) : (s.setJtag v).draws = s.draws := rfl
@[simp] theorem State.setJtag_power (s : State) (v : Jtag) : (s.setJtag v).power = s.power := rfl
@[simp] theorem State.setJtag_modes (s : State) (v : Jtag) : (s.setJtag v).modes = s.modes := rfl
@[simp] theorem State.setJtag_culvert (s : State) (v : Jtag) : (s.setJtag v).culvert = s.culvert := rfl
@[simp] theorem State.setJtag_chanN (s : State) (v : Jtag) : (s.setJtag v).chanN = s.chanN := rfl
@[simp] theorem State.setJtag_chanK (s : State) (v : Jtag) : (s.setJtag v).chanK = s.chanK := rfl
@[simp] theorem State.setJtag_engine (s : State) (v : Jtag) : (s.setJtag v).engine = s.engine := rfl
@[simp] theorem State.setJtag_settings (s : State) (v : Jtag) : (s.setJtag v).settings = s.settings := rfl
@[simp] theorem State.setJtag_counting (s : State) (v : Jtag) : (s.setJtag v).counting = s.counting := rfl
@[simp] theorem State.setJtag_ports (s : State) (v : Jtag) : (s.setJtag v).ports = s.ports := rfl
@[simp] theorem State.setJtag_sieve (s : State) (v : Jtag) : (s.setJtag v).sieve = s.sieve := rfl
@[simp] theorem State.setJtag_govs (s : State) (v : Jtag) : (s.setJtag v).govs = s.govs := rfl
@[simp] theorem State.setJtag_sluice (s : State) (v : Jtag) : (s.setJtag v).sluice = s.sluice := rfl
@[simp] theorem State.setJtag_lamps (s : State) (v : Jtag) : (s.setJtag v).lamps = s.lamps := rfl
@[simp] theorem State.setJtag_buses (s : State) (v : Jtag) : (s.setJtag v).buses = s.buses := rfl
@[simp] theorem State.setJtag_heads (s : State) (v : Jtag) : (s.setJtag v).heads = s.heads := rfl
@[simp] theorem State.setJtag_pair (s : State) (v : Jtag) : (s.setJtag v).pair = s.pair := rfl
@[simp] theorem State.setJtag_journal (s : State) (v : Jtag) : (s.setJtag v).journal = s.journal := rfl
@[simp] theorem State.setJtag_tag (s : State) (v : Jtag) : (s.setJtag v).tag = s.tag := rfl
@[simp] theorem State.setJtag_mgmt (s : State) (v : Jtag) : (s.setJtag v).mgmt = s.mgmt := rfl
@[simp] theorem State.setJtag_inject (s : State) (v : Jtag) : (s.setJtag v).inject = s.inject := rfl
@[simp] theorem State.setJtag_jtag (s : State) (v : Jtag) : (s.setJtag v).jtag = v := rfl
@[simp] theorem State.setJtag_dozeEvents (s : State) (v : Jtag) : (s.setJtag v).dozeEvents = s.dozeEvents := rfl

@[simp] theorem State.mapPorts_pending (s : State) (f : Port → Port) : (s.mapPorts f).pending = s.pending := rfl
@[simp] theorem State.mapPorts_mem (s : State) (f : Port → Port) : (s.mapPorts f).mem = s.mem := rfl
@[simp] theorem State.mapPorts_draws (s : State) (f : Port → Port) : (s.mapPorts f).draws = s.draws := rfl
@[simp] theorem State.mapPorts_power (s : State) (f : Port → Port) : (s.mapPorts f).power = s.power := rfl
@[simp] theorem State.mapPorts_modes (s : State) (f : Port → Port) : (s.mapPorts f).modes = s.modes := rfl
@[simp] theorem State.mapPorts_culvert (s : State) (f : Port → Port) : (s.mapPorts f).culvert = s.culvert := rfl
@[simp] theorem State.mapPorts_chanN (s : State) (f : Port → Port) : (s.mapPorts f).chanN = s.chanN := rfl
@[simp] theorem State.mapPorts_chanK (s : State) (f : Port → Port) : (s.mapPorts f).chanK = s.chanK := rfl
@[simp] theorem State.mapPorts_engine (s : State) (f : Port → Port) : (s.mapPorts f).engine = s.engine := rfl
@[simp] theorem State.mapPorts_settings (s : State) (f : Port → Port) : (s.mapPorts f).settings = s.settings := rfl
@[simp] theorem State.mapPorts_counting (s : State) (f : Port → Port) : (s.mapPorts f).counting = s.counting := rfl
@[simp] theorem State.mapPorts_ports (s : State) (f : Port → Port) : (s.mapPorts f).ports = s.ports.map f := rfl
@[simp] theorem State.mapPorts_sieve (s : State) (f : Port → Port) : (s.mapPorts f).sieve = s.sieve := rfl
@[simp] theorem State.mapPorts_govs (s : State) (f : Port → Port) : (s.mapPorts f).govs = s.govs := rfl
@[simp] theorem State.mapPorts_sluice (s : State) (f : Port → Port) : (s.mapPorts f).sluice = s.sluice := rfl
@[simp] theorem State.mapPorts_lamps (s : State) (f : Port → Port) : (s.mapPorts f).lamps = s.lamps := rfl
@[simp] theorem State.mapPorts_buses (s : State) (f : Port → Port) : (s.mapPorts f).buses = s.buses := rfl
@[simp] theorem State.mapPorts_heads (s : State) (f : Port → Port) : (s.mapPorts f).heads = s.heads := rfl
@[simp] theorem State.mapPorts_pair (s : State) (f : Port → Port) : (s.mapPorts f).pair = s.pair := rfl
@[simp] theorem State.mapPorts_journal (s : State) (f : Port → Port) : (s.mapPorts f).journal = s.journal := rfl
@[simp] theorem State.mapPorts_tag (s : State) (f : Port → Port) : (s.mapPorts f).tag = s.tag := rfl
@[simp] theorem State.mapPorts_mgmt (s : State) (f : Port → Port) : (s.mapPorts f).mgmt = s.mgmt := rfl
@[simp] theorem State.mapPorts_inject (s : State) (f : Port → Port) : (s.mapPorts f).inject = s.inject := rfl
@[simp] theorem State.mapPorts_jtag (s : State) (f : Port → Port) : (s.mapPorts f).jtag = s.jtag := rfl
@[simp] theorem State.mapPorts_dozeEvents (s : State) (f : Port → Port) : (s.mapPorts f).dozeEvents = s.dozeEvents := rfl

@[simp] theorem State.mapLamps_pending (s : State) (f : Lamp → Lamp) : (s.mapLamps f).pending = s.pending := rfl
@[simp] theorem State.mapLamps_mem (s : State) (f : Lamp → Lamp) : (s.mapLamps f).mem = s.mem := rfl
@[simp] theorem State.mapLamps_draws (s : State) (f : Lamp → Lamp) : (s.mapLamps f).draws = s.draws := rfl
@[simp] theorem State.mapLamps_power (s : State) (f : Lamp → Lamp) : (s.mapLamps f).power = s.power := rfl
@[simp] theorem State.mapLamps_modes (s : State) (f : Lamp → Lamp) : (s.mapLamps f).modes = s.modes := rfl
@[simp] theorem State.mapLamps_culvert (s : State) (f : Lamp → Lamp) : (s.mapLamps f).culvert = s.culvert := rfl
@[simp] theorem State.mapLamps_chanN (s : State) (f : Lamp → Lamp) : (s.mapLamps f).chanN = s.chanN := rfl
@[simp] theorem State.mapLamps_chanK (s : State) (f : Lamp → Lamp) : (s.mapLamps f).chanK = s.chanK := rfl
@[simp] theorem State.mapLamps_engine (s : State) (f : Lamp → Lamp) : (s.mapLamps f).engine = s.engine := rfl
@[simp] theorem State.mapLamps_settings (s : State) (f : Lamp → Lamp) : (s.mapLamps f).settings = s.settings := rfl
@[simp] theorem State.mapLamps_counting (s : State) (f : Lamp → Lamp) : (s.mapLamps f).counting = s.counting := rfl
@[simp] theorem State.mapLamps_ports (s : State) (f : Lamp → Lamp) : (s.mapLamps f).ports = s.ports := rfl
@[simp] theorem State.mapLamps_sieve (s : State) (f : Lamp → Lamp) : (s.mapLamps f).sieve = s.sieve := rfl
@[simp] theorem State.mapLamps_govs (s : State) (f : Lamp → Lamp) : (s.mapLamps f).govs = s.govs := rfl
@[simp] theorem State.mapLamps_sluice (s : State) (f : Lamp → Lamp) : (s.mapLamps f).sluice = s.sluice := rfl
@[simp] theorem State.mapLamps_lamps (s : State) (f : Lamp → Lamp) : (s.mapLamps f).lamps = s.lamps.map f := rfl
@[simp] theorem State.mapLamps_buses (s : State) (f : Lamp → Lamp) : (s.mapLamps f).buses = s.buses := rfl
@[simp] theorem State.mapLamps_heads (s : State) (f : Lamp → Lamp) : (s.mapLamps f).heads = s.heads := rfl
@[simp] theorem State.mapLamps_pair (s : State) (f : Lamp → Lamp) : (s.mapLamps f).pair = s.pair := rfl
@[simp] theorem State.mapLamps_journal (s : State) (f : Lamp → Lamp) : (s.mapLamps f).journal = s.journal := rfl
@[simp] theorem State.mapLamps_tag (s : State) (f : Lamp → Lamp) : (s.mapLamps f).tag = s.tag := rfl
@[simp] theorem State.mapLamps_mgmt (s : State) (f : Lamp → Lamp) : (s.mapLamps f).mgmt = s.mgmt := rfl
@[simp] theorem State.mapLamps_inject (s : State) (f : Lamp → Lamp) : (s.mapLamps f).inject = s.inject := rfl
@[simp] theorem State.mapLamps_jtag (s : State) (f : Lamp → Lamp) : (s.mapLamps f).jtag = s.jtag := rfl
@[simp] theorem State.mapLamps_dozeEvents (s : State) (f : Lamp → Lamp) : (s.mapLamps f).dozeEvents = s.dozeEvents := rfl

@[simp] theorem State.mapBuses_pending (s : State) (f : Bus → Bus) : (s.mapBuses f).pending = s.pending := rfl
@[simp] theorem State.mapBuses_mem (s : State) (f : Bus → Bus) : (s.mapBuses f).mem = s.mem := rfl
@[simp] theorem State.mapBuses_draws (s : State) (f : Bus → Bus) : (s.mapBuses f).draws = s.draws := rfl
@[simp] theorem State.mapBuses_power (s : State) (f : Bus → Bus) : (s.mapBuses f).power = s.power := rfl
@[simp] theorem State.mapBuses_modes (s : State) (f : Bus → Bus) : (s.mapBuses f).modes = s.modes := rfl
@[simp] theorem State.mapBuses_culvert (s : State) (f : Bus → Bus) : (s.mapBuses f).culvert = s.culvert := rfl
@[simp] theorem State.mapBuses_chanN (s : State) (f : Bus → Bus) : (s.mapBuses f).chanN = s.chanN := rfl
@[simp] theorem State.mapBuses_chanK (s : State) (f : Bus → Bus) : (s.mapBuses f).chanK = s.chanK := rfl
@[simp] theorem State.mapBuses_engine (s : State) (f : Bus → Bus) : (s.mapBuses f).engine = s.engine := rfl
@[simp] theorem State.mapBuses_settings (s : State) (f : Bus → Bus) : (s.mapBuses f).settings = s.settings := rfl
@[simp] theorem State.mapBuses_counting (s : State) (f : Bus → Bus) : (s.mapBuses f).counting = s.counting := rfl
@[simp] theorem State.mapBuses_ports (s : State) (f : Bus → Bus) : (s.mapBuses f).ports = s.ports := rfl
@[simp] theorem State.mapBuses_sieve (s : State) (f : Bus → Bus) : (s.mapBuses f).sieve = s.sieve := rfl
@[simp] theorem State.mapBuses_govs (s : State) (f : Bus → Bus) : (s.mapBuses f).govs = s.govs := rfl
@[simp] theorem State.mapBuses_sluice (s : State) (f : Bus → Bus) : (s.mapBuses f).sluice = s.sluice := rfl
@[simp] theorem State.mapBuses_lamps (s : State) (f : Bus → Bus) : (s.mapBuses f).lamps = s.lamps := rfl
@[simp] theorem State.mapBuses_buses (s : State) (f : Bus → Bus) : (s.mapBuses f).buses = s.buses.map f := rfl
@[simp] theorem State.mapBuses_heads (s : State) (f : Bus → Bus) : (s.mapBuses f).heads = s.heads := rfl
@[simp] theorem State.mapBuses_pair (s : State) (f : Bus → Bus) : (s.mapBuses f).pair = s.pair := rfl
@[simp] theorem State.mapBuses_journal (s : State) (f : Bus → Bus) : (s.mapBuses f).journal = s.journal := rfl
@[simp] theorem State.mapBuses_tag (s : State) (f : Bus → Bus) : (s.mapBuses f).tag = s.tag := rfl
@[simp] theorem State.mapBuses_mgmt (s : State) (f : Bus → Bus) : (s.mapBuses f).mgmt = s.mgmt := rfl
@[simp] theorem State.mapBuses_inject (s : State) (f : Bus → Bus) : (s.mapBuses f).inject = s.inject := rfl
@[simp] theorem State.mapBuses_jtag (s : State) (f : Bus → Bus) : (s.mapBuses f).jtag = s.jtag := rfl
@[simp] theorem State.mapBuses_dozeEvents (s : State) (f : Bus → Bus) : (s.mapBuses f).dozeEvents = s.dozeEvents := rfl

@[simp] theorem State.updPort_pending (s : State) (p : PortNo) (f : Port → Port) : (s.updPort p f).pending = s.pending := rfl
@[simp] theorem State.updPort_mem (s : State) (p : PortNo) (f : Port → Port) : (s.updPort p f).mem = s.mem := rfl
@[simp] theorem State.updPort_draws (s : State) (p : PortNo) (f : Port → Port) : (s.updPort p f).draws = s.draws := rfl
@[simp] theorem State.updPort_power (s : State) (p : PortNo) (f : Port → Port) : (s.updPort p f).power = s.power := rfl
@[simp] theorem State.updPort_modes (s : State) (p : PortNo) (f : Port → Port) : (s.updPort p f).modes = s.modes := rfl
@[simp] theorem State.updPort_culvert (s : State) (p : PortNo) (f : Port → Port) : (s.updPort p f).culvert = s.culvert := rfl
@[simp] theorem State.updPort_chanN (s : State) (p : PortNo) (f : Port → Port) : (s.updPort p f).chanN = s.chanN := rfl
@[simp] theorem State.updPort_chanK (s : State) (p : PortNo) (f : Port → Port) : (s.updPort p f).chanK = s.chanK := rfl
@[simp] theorem State.updPort_engine (s : State) (p : PortNo) (f : Port → Port) : (s.updPort p f).engine = s.engine := rfl
@[simp] theorem State.updPort_settings (s : State) (p : PortNo) (f : Port → Port) : (s.updPort p f).settings = s.settings := rfl
@[simp] theorem State.updPort_counting (s : State) (p : PortNo) (f : Port → Port) : (s.updPort p f).counting = s.counting := rfl
@[simp] theorem State.updPort_ports (s : State) (p : PortNo) (f : Port → Port) : (s.updPort p f).ports = upd s.ports p f := rfl
@[simp] theorem State.updPort_sieve (s : State) (p : PortNo) (f : Port → Port) : (s.updPort p f).sieve = s.sieve := rfl
@[simp] theorem State.updPort_govs (s : State) (p : PortNo) (f : Port → Port) : (s.updPort p f).govs = s.govs := rfl
@[simp] theorem State.updPort_sluice (s : State) (p : PortNo) (f : Port → Port) : (s.updPort p f).sluice = s.sluice := rfl
@[simp] theorem State.updPort_lamps (s : State) (p : PortNo) (f : Port → Port) : (s.updPort p f).lamps = s.lamps := rfl
@[simp] theorem State.updPort_buses (s : State) (p : PortNo) (f : Port → Port) : (s.updPort p f).buses = s.buses := rfl
@[simp] theorem State.updPort_heads (s : State) (p : PortNo) (f : Port → Port) : (s.updPort p f).heads = s.heads := rfl
@[simp] theorem State.updPort_pair (s : State) (p : PortNo) (f : Port → Port) : (s.updPort p f).pair = s.pair := rfl
@[simp] theorem State.updPort_journal (s : State) (p : PortNo) (f : Port → Port) : (s.updPort p f).journal = s.journal := rfl
@[simp] theorem State.updPort_tag (s : State) (p : PortNo) (f : Port → Port) : (s.updPort p f).tag = s.tag := rfl
@[simp] theorem State.updPort_mgmt (s : State) (p : PortNo) (f : Port → Port) : (s.updPort p f).mgmt = s.mgmt := rfl
@[simp] theorem State.updPort_inject (s : State) (p : PortNo) (f : Port → Port) : (s.updPort p f).inject = s.inject := rfl
@[simp] theorem State.updPort_jtag (s : State) (p : PortNo) (f : Port → Port) : (s.updPort p f).jtag = s.jtag := rfl
@[simp] theorem State.updPort_dozeEvents (s : State) (p : PortNo) (f : Port → Port) : (s.updPort p f).dozeEvents = s.dozeEvents := rfl

@[simp] theorem State.updGov_pending (s : State) (g : GovNo) (f : Gov → Gov) : (s.updGov g f).pending = s.pending := rfl
@[simp] theorem State.updGov_mem (s : State) (g : GovNo) (f : Gov → Gov) : (s.updGov g f).mem = s.mem := rfl
@[simp] theorem State.updGov_draws (s : State) (g : GovNo) (f : Gov → Gov) : (s.updGov g f).draws = s.draws := rfl
@[simp] theorem State.updGov_power (s : State) (g : GovNo) (f : Gov → Gov) : (s.updGov g f).power = s.power := rfl
@[simp] theorem State.updGov_modes (s : State) (g : GovNo) (f : Gov → Gov) : (s.updGov g f).modes = s.modes := rfl
@[simp] theorem State.updGov_culvert (s : State) (g : GovNo) (f : Gov → Gov) : (s.updGov g f).culvert = s.culvert := rfl
@[simp] theorem State.updGov_chanN (s : State) (g : GovNo) (f : Gov → Gov) : (s.updGov g f).chanN = s.chanN := rfl
@[simp] theorem State.updGov_chanK (s : State) (g : GovNo) (f : Gov → Gov) : (s.updGov g f).chanK = s.chanK := rfl
@[simp] theorem State.updGov_engine (s : State) (g : GovNo) (f : Gov → Gov) : (s.updGov g f).engine = s.engine := rfl
@[simp] theorem State.updGov_settings (s : State) (g : GovNo) (f : Gov → Gov) : (s.updGov g f).settings = s.settings := rfl
@[simp] theorem State.updGov_counting (s : State) (g : GovNo) (f : Gov → Gov) : (s.updGov g f).counting = s.counting := rfl
@[simp] theorem State.updGov_ports (s : State) (g : GovNo) (f : Gov → Gov) : (s.updGov g f).ports = s.ports := rfl
@[simp] theorem State.updGov_sieve (s : State) (g : GovNo) (f : Gov → Gov) : (s.updGov g f).sieve = s.sieve := rfl
@[simp] theorem State.updGov_govs (s : State) (g : GovNo) (f : Gov → Gov) : (s.updGov g f).govs = upd s.govs g f := rfl
@[simp] theorem State.updGov_sluice (s : State) (g : GovNo) (f : Gov → Gov) : (s.updGov g f).sluice = s.sluice := rfl
@[simp] theorem State.updGov_lamps (s : State) (g : GovNo) (f : Gov → Gov) : (s.updGov g f).lamps = s.lamps := rfl
@[simp] theorem State.updGov_buses (s : State) (g : GovNo) (f : Gov → Gov) : (s.updGov g f).buses = s.buses := rfl
@[simp] theorem State.updGov_heads (s : State) (g : GovNo) (f : Gov → Gov) : (s.updGov g f).heads = s.heads := rfl
@[simp] theorem State.updGov_pair (s : State) (g : GovNo) (f : Gov → Gov) : (s.updGov g f).pair = s.pair := rfl
@[simp] theorem State.updGov_journal (s : State) (g : GovNo) (f : Gov → Gov) : (s.updGov g f).journal = s.journal := rfl
@[simp] theorem State.updGov_tag (s : State) (g : GovNo) (f : Gov → Gov) : (s.updGov g f).tag = s.tag := rfl
@[simp] theorem State.updGov_mgmt (s : State) (g : GovNo) (f : Gov → Gov) : (s.updGov g f).mgmt = s.mgmt := rfl
@[simp] theorem State.updGov_inject (s : State) (g : GovNo) (f : Gov → Gov) : (s.updGov g f).inject = s.inject := rfl
@[simp] theorem State.updGov_jtag (s : State) (g : GovNo) (f : Gov → Gov) : (s.updGov g f).jtag = s.jtag := rfl
@[simp] theorem State.updGov_dozeEvents (s : State) (g : GovNo) (f : Gov → Gov) : (s.updGov g f).dozeEvents = s.dozeEvents := rfl

@[simp] theorem State.updLamp_pending (s : State) (l : LampNo) (f : Lamp → Lamp) : (s.updLamp l f).pending = s.pending := rfl
@[simp] theorem State.updLamp_mem (s : State) (l : LampNo) (f : Lamp → Lamp) : (s.updLamp l f).mem = s.mem := rfl
@[simp] theorem State.updLamp_draws (s : State) (l : LampNo) (f : Lamp → Lamp) : (s.updLamp l f).draws = s.draws := rfl
@[simp] theorem State.updLamp_power (s : State) (l : LampNo) (f : Lamp → Lamp) : (s.updLamp l f).power = s.power := rfl
@[simp] theorem State.updLamp_modes (s : State) (l : LampNo) (f : Lamp → Lamp) : (s.updLamp l f).modes = s.modes := rfl
@[simp] theorem State.updLamp_culvert (s : State) (l : LampNo) (f : Lamp → Lamp) : (s.updLamp l f).culvert = s.culvert := rfl
@[simp] theorem State.updLamp_chanN (s : State) (l : LampNo) (f : Lamp → Lamp) : (s.updLamp l f).chanN = s.chanN := rfl
@[simp] theorem State.updLamp_chanK (s : State) (l : LampNo) (f : Lamp → Lamp) : (s.updLamp l f).chanK = s.chanK := rfl
@[simp] theorem State.updLamp_engine (s : State) (l : LampNo) (f : Lamp → Lamp) : (s.updLamp l f).engine = s.engine := rfl
@[simp] theorem State.updLamp_settings (s : State) (l : LampNo) (f : Lamp → Lamp) : (s.updLamp l f).settings = s.settings := rfl
@[simp] theorem State.updLamp_counting (s : State) (l : LampNo) (f : Lamp → Lamp) : (s.updLamp l f).counting = s.counting := rfl
@[simp] theorem State.updLamp_ports (s : State) (l : LampNo) (f : Lamp → Lamp) : (s.updLamp l f).ports = s.ports := rfl
@[simp] theorem State.updLamp_sieve (s : State) (l : LampNo) (f : Lamp → Lamp) : (s.updLamp l f).sieve = s.sieve := rfl
@[simp] theorem State.updLamp_govs (s : State) (l : LampNo) (f : Lamp → Lamp) : (s.updLamp l f).govs = s.govs := rfl
@[simp] theorem State.updLamp_sluice (s : State) (l : LampNo) (f : Lamp → Lamp) : (s.updLamp l f).sluice = s.sluice := rfl
@[simp] theorem State.updLamp_lamps (s : State) (l : LampNo) (f : Lamp → Lamp) : (s.updLamp l f).lamps = upd s.lamps l f := rfl
@[simp] theorem State.updLamp_buses (s : State) (l : LampNo) (f : Lamp → Lamp) : (s.updLamp l f).buses = s.buses := rfl
@[simp] theorem State.updLamp_heads (s : State) (l : LampNo) (f : Lamp → Lamp) : (s.updLamp l f).heads = s.heads := rfl
@[simp] theorem State.updLamp_pair (s : State) (l : LampNo) (f : Lamp → Lamp) : (s.updLamp l f).pair = s.pair := rfl
@[simp] theorem State.updLamp_journal (s : State) (l : LampNo) (f : Lamp → Lamp) : (s.updLamp l f).journal = s.journal := rfl
@[simp] theorem State.updLamp_tag (s : State) (l : LampNo) (f : Lamp → Lamp) : (s.updLamp l f).tag = s.tag := rfl
@[simp] theorem State.updLamp_mgmt (s : State) (l : LampNo) (f : Lamp → Lamp) : (s.updLamp l f).mgmt = s.mgmt := rfl
@[simp] theorem State.updLamp_inject (s : State) (l : LampNo) (f : Lamp → Lamp) : (s.updLamp l f).inject = s.inject := rfl
@[simp] theorem State.updLamp_jtag (s : State) (l : LampNo) (f : Lamp → Lamp) : (s.updLamp l f).jtag = s.jtag := rfl
@[simp] theorem State.updLamp_dozeEvents (s : State) (l : LampNo) (f : Lamp → Lamp) : (s.updLamp l f).dozeEvents = s.dozeEvents := rfl

@[simp] theorem State.updBus_pending (s : State) (b : BusNo) (f : Bus → Bus) : (s.updBus b f).pending = s.pending := rfl
@[simp] theorem State.updBus_mem (s : State) (b : BusNo) (f : Bus → Bus) : (s.updBus b f).mem = s.mem := rfl
@[simp] theorem State.updBus_draws (s : State) (b : BusNo) (f : Bus → Bus) : (s.updBus b f).draws = s.draws := rfl
@[simp] theorem State.updBus_power (s : State) (b : BusNo) (f : Bus → Bus) : (s.updBus b f).power = s.power := rfl
@[simp] theorem State.updBus_modes (s : State) (b : BusNo) (f : Bus → Bus) : (s.updBus b f).modes = s.modes := rfl
@[simp] theorem State.updBus_culvert (s : State) (b : BusNo) (f : Bus → Bus) : (s.updBus b f).culvert = s.culvert := rfl
@[simp] theorem State.updBus_chanN (s : State) (b : BusNo) (f : Bus → Bus) : (s.updBus b f).chanN = s.chanN := rfl
@[simp] theorem State.updBus_chanK (s : State) (b : BusNo) (f : Bus → Bus) : (s.updBus b f).chanK = s.chanK := rfl
@[simp] theorem State.updBus_engine (s : State) (b : BusNo) (f : Bus → Bus) : (s.updBus b f).engine = s.engine := rfl
@[simp] theorem State.updBus_settings (s : State) (b : BusNo) (f : Bus → Bus) : (s.updBus b f).settings = s.settings := rfl
@[simp] theorem State.updBus_counting (s : State) (b : BusNo) (f : Bus → Bus) : (s.updBus b f).counting = s.counting := rfl
@[simp] theorem State.updBus_ports (s : State) (b : BusNo) (f : Bus → Bus) : (s.updBus b f).ports = s.ports := rfl
@[simp] theorem State.updBus_sieve (s : State) (b : BusNo) (f : Bus → Bus) : (s.updBus b f).sieve = s.sieve := rfl
@[simp] theorem State.updBus_govs (s : State) (b : BusNo) (f : Bus → Bus) : (s.updBus b f).govs = s.govs := rfl
@[simp] theorem State.updBus_sluice (s : State) (b : BusNo) (f : Bus → Bus) : (s.updBus b f).sluice = s.sluice := rfl
@[simp] theorem State.updBus_lamps (s : State) (b : BusNo) (f : Bus → Bus) : (s.updBus b f).lamps = s.lamps := rfl
@[simp] theorem State.updBus_buses (s : State) (b : BusNo) (f : Bus → Bus) : (s.updBus b f).buses = upd s.buses b f := rfl
@[simp] theorem State.updBus_heads (s : State) (b : BusNo) (f : Bus → Bus) : (s.updBus b f).heads = s.heads := rfl
@[simp] theorem State.updBus_pair (s : State) (b : BusNo) (f : Bus → Bus) : (s.updBus b f).pair = s.pair := rfl
@[simp] theorem State.updBus_journal (s : State) (b : BusNo) (f : Bus → Bus) : (s.updBus b f).journal = s.journal := rfl
@[simp] theorem State.updBus_tag (s : State) (b : BusNo) (f : Bus → Bus) : (s.updBus b f).tag = s.tag := rfl
@[simp] theorem State.updBus_mgmt (s : State) (b : BusNo) (f : Bus → Bus) : (s.updBus b f).mgmt = s.mgmt := rfl
@[simp] theorem State.updBus_inject (s : State) (b : BusNo) (f : Bus → Bus) : (s.updBus b f).inject = s.inject := rfl
@[simp] theorem State.updBus_jtag (s : State) (b : BusNo) (f : Bus → Bus) : (s.updBus b f).jtag = s.jtag := rfl
@[simp] theorem State.updBus_dozeEvents (s : State) (b : BusNo) (f : Bus → Bus) : (s.updBus b f).dozeEvents = s.dozeEvents := rfl

@[simp] theorem State.updHead_pending (s : State) (b : BusNo) (h : HeadNo) (f : Head → Head) : (s.updHead b h f).pending = s.pending := rfl
@[simp] theorem State.updHead_mem (s : State) (b : BusNo) (h : HeadNo) (f : Head → Head) : (s.updHead b h f).mem = s.mem := rfl
@[simp] theorem State.updHead_draws (s : State) (b : BusNo) (h : HeadNo) (f : Head → Head) : (s.updHead b h f).draws = s.draws := rfl
@[simp] theorem State.updHead_power (s : State) (b : BusNo) (h : HeadNo) (f : Head → Head) : (s.updHead b h f).power = s.power := rfl
@[simp] theorem State.updHead_modes (s : State) (b : BusNo) (h : HeadNo) (f : Head → Head) : (s.updHead b h f).modes = s.modes := rfl
@[simp] theorem State.updHead_culvert (s : State) (b : BusNo) (h : HeadNo) (f : Head → Head) : (s.updHead b h f).culvert = s.culvert := rfl
@[simp] theorem State.updHead_chanN (s : State) (b : BusNo) (h : HeadNo) (f : Head → Head) : (s.updHead b h f).chanN = s.chanN := rfl
@[simp] theorem State.updHead_chanK (s : State) (b : BusNo) (h : HeadNo) (f : Head → Head) : (s.updHead b h f).chanK = s.chanK := rfl
@[simp] theorem State.updHead_engine (s : State) (b : BusNo) (h : HeadNo) (f : Head → Head) : (s.updHead b h f).engine = s.engine := rfl
@[simp] theorem State.updHead_settings (s : State) (b : BusNo) (h : HeadNo) (f : Head → Head) : (s.updHead b h f).settings = s.settings := rfl
@[simp] theorem State.updHead_counting (s : State) (b : BusNo) (h : HeadNo) (f : Head → Head) : (s.updHead b h f).counting = s.counting := rfl
@[simp] theorem State.updHead_ports (s : State) (b : BusNo) (h : HeadNo) (f : Head → Head) : (s.updHead b h f).ports = s.ports := rfl
@[simp] theorem State.updHead_sieve (s : State) (b : BusNo) (h : HeadNo) (f : Head → Head) : (s.updHead b h f).sieve = s.sieve := rfl
@[simp] theorem State.updHead_govs (s : State) (b : BusNo) (h : HeadNo) (f : Head → Head) : (s.updHead b h f).govs = s.govs := rfl
@[simp] theorem State.updHead_sluice (s : State) (b : BusNo) (h : HeadNo) (f : Head → Head) : (s.updHead b h f).sluice = s.sluice := rfl
@[simp] theorem State.updHead_lamps (s : State) (b : BusNo) (h : HeadNo) (f : Head → Head) : (s.updHead b h f).lamps = s.lamps := rfl
@[simp] theorem State.updHead_buses (s : State) (b : BusNo) (h : HeadNo) (f : Head → Head) : (s.updHead b h f).buses = s.buses := rfl
@[simp] theorem State.updHead_heads (s : State) (b : BusNo) (h : HeadNo) (f : Head → Head) : (s.updHead b h f).heads = upd s.heads (headIx b h) f := rfl
@[simp] theorem State.updHead_pair (s : State) (b : BusNo) (h : HeadNo) (f : Head → Head) : (s.updHead b h f).pair = s.pair := rfl
@[simp] theorem State.updHead_journal (s : State) (b : BusNo) (h : HeadNo) (f : Head → Head) : (s.updHead b h f).journal = s.journal := rfl
@[simp] theorem State.updHead_tag (s : State) (b : BusNo) (h : HeadNo) (f : Head → Head) : (s.updHead b h f).tag = s.tag := rfl
@[simp] theorem State.updHead_mgmt (s : State) (b : BusNo) (h : HeadNo) (f : Head → Head) : (s.updHead b h f).mgmt = s.mgmt := rfl
@[simp] theorem State.updHead_inject (s : State) (b : BusNo) (h : HeadNo) (f : Head → Head) : (s.updHead b h f).inject = s.inject := rfl
@[simp] theorem State.updHead_jtag (s : State) (b : BusNo) (h : HeadNo) (f : Head → Head) : (s.updHead b h f).jtag = s.jtag := rfl
@[simp] theorem State.updHead_dozeEvents (s : State) (b : BusNo) (h : HeadNo) (f : Head → Head) : (s.updHead b h f).dozeEvents = s.dozeEvents := rfl

@[simp] theorem State.updView_pending (s : State) (v : Fin 52) (f : View → View) : (s.updView v f).pending = s.pending := rfl
@[simp] theorem State.updView_mem (s : State) (v : Fin 52) (f : View → View) : (s.updView v f).mem = s.mem := rfl
@[simp] theorem State.updView_draws (s : State) (v : Fin 52) (f : View → View) : (s.updView v f).draws = s.draws := rfl
@[simp] theorem State.updView_power (s : State) (v : Fin 52) (f : View → View) : (s.updView v f).power = s.power := rfl
@[simp] theorem State.updView_modes (s : State) (v : Fin 52) (f : View → View) : (s.updView v f).modes = s.modes := rfl
@[simp] theorem State.updView_culvert (s : State) (v : Fin 52) (f : View → View) : (s.updView v f).culvert = s.culvert := rfl
@[simp] theorem State.updView_chanN (s : State) (v : Fin 52) (f : View → View) : (s.updView v f).chanN = s.chanN := rfl
@[simp] theorem State.updView_chanK (s : State) (v : Fin 52) (f : View → View) : (s.updView v f).chanK = s.chanK := rfl
@[simp] theorem State.updView_engine (s : State) (v : Fin 52) (f : View → View) : (s.updView v f).engine = s.engine := rfl
@[simp] theorem State.updView_settings (s : State) (v : Fin 52) (f : View → View) : (s.updView v f).settings = s.settings := rfl
@[simp] theorem State.updView_counting (s : State) (v : Fin 52) (f : View → View) : (s.updView v f).counting = s.counting := rfl
@[simp] theorem State.updView_ports (s : State) (v : Fin 52) (f : View → View) : (s.updView v f).ports = s.ports := rfl
@[simp] theorem State.updView_sieve (s : State) (v : Fin 52) (f : View → View) : (s.updView v f).sieve = s.sieve := rfl
@[simp] theorem State.updView_govs (s : State) (v : Fin 52) (f : View → View) : (s.updView v f).govs = s.govs := rfl
@[simp] theorem State.updView_sluice (s : State) (v : Fin 52) (f : View → View) : (s.updView v f).sluice = { s.sluice with views := upd s.sluice.views v f } := rfl
@[simp] theorem State.updView_lamps (s : State) (v : Fin 52) (f : View → View) : (s.updView v f).lamps = s.lamps := rfl
@[simp] theorem State.updView_buses (s : State) (v : Fin 52) (f : View → View) : (s.updView v f).buses = s.buses := rfl
@[simp] theorem State.updView_heads (s : State) (v : Fin 52) (f : View → View) : (s.updView v f).heads = s.heads := rfl
@[simp] theorem State.updView_pair (s : State) (v : Fin 52) (f : View → View) : (s.updView v f).pair = s.pair := rfl
@[simp] theorem State.updView_journal (s : State) (v : Fin 52) (f : View → View) : (s.updView v f).journal = s.journal := rfl
@[simp] theorem State.updView_tag (s : State) (v : Fin 52) (f : View → View) : (s.updView v f).tag = s.tag := rfl
@[simp] theorem State.updView_mgmt (s : State) (v : Fin 52) (f : View → View) : (s.updView v f).mgmt = s.mgmt := rfl
@[simp] theorem State.updView_inject (s : State) (v : Fin 52) (f : View → View) : (s.updView v f).inject = s.inject := rfl
@[simp] theorem State.updView_jtag (s : State) (v : Fin 52) (f : View → View) : (s.updView v f).jtag = s.jtag := rfl
@[simp] theorem State.updView_dozeEvents (s : State) (v : Fin 52) (f : View → View) : (s.updView v f).dozeEvents = s.dozeEvents := rfl

@[simp] theorem State.putByte_pending (s : State) (a : Nat) (b : Byte) : (s.putByte a b).pending = s.pending := rfl
@[simp] theorem State.putByte_mem (s : State) (a : Nat) (b : Byte) : (s.putByte a b).mem = Memory.write s.mem (a % 0x100000) b := rfl
@[simp] theorem State.putByte_draws (s : State) (a : Nat) (b : Byte) : (s.putByte a b).draws = s.draws := rfl
@[simp] theorem State.putByte_power (s : State) (a : Nat) (b : Byte) : (s.putByte a b).power = s.power := rfl
@[simp] theorem State.putByte_modes (s : State) (a : Nat) (b : Byte) : (s.putByte a b).modes = s.modes := rfl
@[simp] theorem State.putByte_culvert (s : State) (a : Nat) (b : Byte) : (s.putByte a b).culvert = s.culvert := rfl
@[simp] theorem State.putByte_chanN (s : State) (a : Nat) (b : Byte) : (s.putByte a b).chanN = s.chanN := rfl
@[simp] theorem State.putByte_chanK (s : State) (a : Nat) (b : Byte) : (s.putByte a b).chanK = s.chanK := rfl
@[simp] theorem State.putByte_engine (s : State) (a : Nat) (b : Byte) : (s.putByte a b).engine = s.engine := rfl
@[simp] theorem State.putByte_settings (s : State) (a : Nat) (b : Byte) : (s.putByte a b).settings = s.settings := rfl
@[simp] theorem State.putByte_counting (s : State) (a : Nat) (b : Byte) : (s.putByte a b).counting = s.counting := rfl
@[simp] theorem State.putByte_ports (s : State) (a : Nat) (b : Byte) : (s.putByte a b).ports = s.ports := rfl
@[simp] theorem State.putByte_sieve (s : State) (a : Nat) (b : Byte) : (s.putByte a b).sieve = s.sieve := rfl
@[simp] theorem State.putByte_govs (s : State) (a : Nat) (b : Byte) : (s.putByte a b).govs = s.govs := rfl
@[simp] theorem State.putByte_sluice (s : State) (a : Nat) (b : Byte) : (s.putByte a b).sluice = s.sluice := rfl
@[simp] theorem State.putByte_lamps (s : State) (a : Nat) (b : Byte) : (s.putByte a b).lamps = s.lamps := rfl
@[simp] theorem State.putByte_buses (s : State) (a : Nat) (b : Byte) : (s.putByte a b).buses = s.buses := rfl
@[simp] theorem State.putByte_heads (s : State) (a : Nat) (b : Byte) : (s.putByte a b).heads = s.heads := rfl
@[simp] theorem State.putByte_pair (s : State) (a : Nat) (b : Byte) : (s.putByte a b).pair = s.pair := rfl
@[simp] theorem State.putByte_journal (s : State) (a : Nat) (b : Byte) : (s.putByte a b).journal = s.journal := rfl
@[simp] theorem State.putByte_tag (s : State) (a : Nat) (b : Byte) : (s.putByte a b).tag = s.tag := rfl
@[simp] theorem State.putByte_mgmt (s : State) (a : Nat) (b : Byte) : (s.putByte a b).mgmt = s.mgmt := rfl
@[simp] theorem State.putByte_inject (s : State) (a : Nat) (b : Byte) : (s.putByte a b).inject = s.inject := rfl
@[simp] theorem State.putByte_jtag (s : State) (a : Nat) (b : Byte) : (s.putByte a b).jtag = s.jtag := rfl
@[simp] theorem State.putByte_dozeEvents (s : State) (a : Nat) (b : Byte) : (s.putByte a b).dozeEvents = s.dozeEvents := rfl

@[simp] theorem State.clearMem_pending (s : State) (a b : Nat) : (s.clearMem a b).pending = s.pending := rfl
@[simp] theorem State.clearMem_mem (s : State) (a b : Nat) : (s.clearMem a b).mem = Memory.clear s.mem a b := rfl
@[simp] theorem State.clearMem_draws (s : State) (a b : Nat) : (s.clearMem a b).draws = s.draws := rfl
@[simp] theorem State.clearMem_power (s : State) (a b : Nat) : (s.clearMem a b).power = s.power := rfl
@[simp] theorem State.clearMem_modes (s : State) (a b : Nat) : (s.clearMem a b).modes = s.modes := rfl
@[simp] theorem State.clearMem_culvert (s : State) (a b : Nat) : (s.clearMem a b).culvert = s.culvert := rfl
@[simp] theorem State.clearMem_chanN (s : State) (a b : Nat) : (s.clearMem a b).chanN = s.chanN := rfl
@[simp] theorem State.clearMem_chanK (s : State) (a b : Nat) : (s.clearMem a b).chanK = s.chanK := rfl
@[simp] theorem State.clearMem_engine (s : State) (a b : Nat) : (s.clearMem a b).engine = s.engine := rfl
@[simp] theorem State.clearMem_settings (s : State) (a b : Nat) : (s.clearMem a b).settings = s.settings := rfl
@[simp] theorem State.clearMem_counting (s : State) (a b : Nat) : (s.clearMem a b).counting = s.counting := rfl
@[simp] theorem State.clearMem_ports (s : State) (a b : Nat) : (s.clearMem a b).ports = s.ports := rfl
@[simp] theorem State.clearMem_sieve (s : State) (a b : Nat) : (s.clearMem a b).sieve = s.sieve := rfl
@[simp] theorem State.clearMem_govs (s : State) (a b : Nat) : (s.clearMem a b).govs = s.govs := rfl
@[simp] theorem State.clearMem_sluice (s : State) (a b : Nat) : (s.clearMem a b).sluice = s.sluice := rfl
@[simp] theorem State.clearMem_lamps (s : State) (a b : Nat) : (s.clearMem a b).lamps = s.lamps := rfl
@[simp] theorem State.clearMem_buses (s : State) (a b : Nat) : (s.clearMem a b).buses = s.buses := rfl
@[simp] theorem State.clearMem_heads (s : State) (a b : Nat) : (s.clearMem a b).heads = s.heads := rfl
@[simp] theorem State.clearMem_pair (s : State) (a b : Nat) : (s.clearMem a b).pair = s.pair := rfl
@[simp] theorem State.clearMem_journal (s : State) (a b : Nat) : (s.clearMem a b).journal = s.journal := rfl
@[simp] theorem State.clearMem_tag (s : State) (a b : Nat) : (s.clearMem a b).tag = s.tag := rfl
@[simp] theorem State.clearMem_mgmt (s : State) (a b : Nat) : (s.clearMem a b).mgmt = s.mgmt := rfl
@[simp] theorem State.clearMem_inject (s : State) (a b : Nat) : (s.clearMem a b).inject = s.inject := rfl
@[simp] theorem State.clearMem_jtag (s : State) (a b : Nat) : (s.clearMem a b).jtag = s.jtag := rfl
@[simp] theorem State.clearMem_dozeEvents (s : State) (a b : Nat) : (s.clearMem a b).dozeEvents = s.dozeEvents := rfl

@[simp] theorem State.setChan_pending (s : State) (c : Chan) (f : ChanRegs → ChanRegs) : (s.setChan c f).pending = s.pending := by
  cases c <;> rfl
@[simp] theorem State.setChan_mem (s : State) (c : Chan) (f : ChanRegs → ChanRegs) : (s.setChan c f).mem = s.mem := by
  cases c <;> rfl
@[simp] theorem State.setChan_draws (s : State) (c : Chan) (f : ChanRegs → ChanRegs) : (s.setChan c f).draws = s.draws := by
  cases c <;> rfl
@[simp] theorem State.setChan_power (s : State) (c : Chan) (f : ChanRegs → ChanRegs) : (s.setChan c f).power = s.power := by
  cases c <;> rfl
@[simp] theorem State.setChan_modes (s : State) (c : Chan) (f : ChanRegs → ChanRegs) : (s.setChan c f).modes = s.modes := by
  cases c <;> rfl
@[simp] theorem State.setChan_culvert (s : State) (c : Chan) (f : ChanRegs → ChanRegs) : (s.setChan c f).culvert = s.culvert := by
  cases c <;> rfl
@[simp] theorem State.setChan_engine (s : State) (c : Chan) (f : ChanRegs → ChanRegs) : (s.setChan c f).engine = s.engine := by
  cases c <;> rfl
@[simp] theorem State.setChan_settings (s : State) (c : Chan) (f : ChanRegs → ChanRegs) : (s.setChan c f).settings = s.settings := by
  cases c <;> rfl
@[simp] theorem State.setChan_counting (s : State) (c : Chan) (f : ChanRegs → ChanRegs) : (s.setChan c f).counting = s.counting := by
  cases c <;> rfl
@[simp] theorem State.setChan_ports (s : State) (c : Chan) (f : ChanRegs → ChanRegs) : (s.setChan c f).ports = s.ports := by
  cases c <;> rfl
@[simp] theorem State.setChan_sieve (s : State) (c : Chan) (f : ChanRegs → ChanRegs) : (s.setChan c f).sieve = s.sieve := by
  cases c <;> rfl
@[simp] theorem State.setChan_govs (s : State) (c : Chan) (f : ChanRegs → ChanRegs) : (s.setChan c f).govs = s.govs := by
  cases c <;> rfl
@[simp] theorem State.setChan_sluice (s : State) (c : Chan) (f : ChanRegs → ChanRegs) : (s.setChan c f).sluice = s.sluice := by
  cases c <;> rfl
@[simp] theorem State.setChan_lamps (s : State) (c : Chan) (f : ChanRegs → ChanRegs) : (s.setChan c f).lamps = s.lamps := by
  cases c <;> rfl
@[simp] theorem State.setChan_buses (s : State) (c : Chan) (f : ChanRegs → ChanRegs) : (s.setChan c f).buses = s.buses := by
  cases c <;> rfl
@[simp] theorem State.setChan_heads (s : State) (c : Chan) (f : ChanRegs → ChanRegs) : (s.setChan c f).heads = s.heads := by
  cases c <;> rfl
@[simp] theorem State.setChan_pair (s : State) (c : Chan) (f : ChanRegs → ChanRegs) : (s.setChan c f).pair = s.pair := by
  cases c <;> rfl
@[simp] theorem State.setChan_journal (s : State) (c : Chan) (f : ChanRegs → ChanRegs) : (s.setChan c f).journal = s.journal := by
  cases c <;> rfl
@[simp] theorem State.setChan_tag (s : State) (c : Chan) (f : ChanRegs → ChanRegs) : (s.setChan c f).tag = s.tag := by
  cases c <;> rfl
@[simp] theorem State.setChan_mgmt (s : State) (c : Chan) (f : ChanRegs → ChanRegs) : (s.setChan c f).mgmt = s.mgmt := by
  cases c <;> rfl
@[simp] theorem State.setChan_inject (s : State) (c : Chan) (f : ChanRegs → ChanRegs) : (s.setChan c f).inject = s.inject := by
  cases c <;> rfl
@[simp] theorem State.setChan_jtag (s : State) (c : Chan) (f : ChanRegs → ChanRegs) : (s.setChan c f).jtag = s.jtag := by
  cases c <;> rfl
@[simp] theorem State.setChan_dozeEvents (s : State) (c : Chan) (f : ChanRegs → ChanRegs) : (s.setChan c f).dozeEvents = s.dozeEvents := by
  cases c <;> rfl

@[simp] theorem State.setChan_n_chanN (s : State) (f : ChanRegs → ChanRegs) : (s.setChan .n f).chanN = f s.chanN := rfl
@[simp] theorem State.setChan_n_chanK (s : State) (f : ChanRegs → ChanRegs) : (s.setChan .n f).chanK = s.chanK := rfl
@[simp] theorem State.setChan_k_chanN (s : State) (f : ChanRegs → ChanRegs) : (s.setChan .k f).chanN = s.chanN := rfl
@[simp] theorem State.setChan_k_chanK (s : State) (f : ChanRegs → ChanRegs) : (s.setChan .k f).chanK = f s.chanK := rfl

@[simp] theorem State.setChan_chan (s : State) (c : Chan) (f : ChanRegs → ChanRegs) : (s.setChan c f).chan c = f (s.chan c) := by
  cases c <;> rfl

theorem State.setChan_chan_ne (s : State) {c d : Chan} (f : ChanRegs → ChanRegs) (h : d ≠ c) :
    (s.setChan c f).chan d = s.chan d := by
  cases c <;> cases d <;> first | rfl | exact absurd rfl h

theorem upd_get {α : Type} {n : Nat} (v : Vector α n) (i j : Fin n) (f : α → α) :
    (upd v i f).get j = if j = i then f (v.get i) else v.get j := by
  have e : ∀ (w : Vector α n) (k : Fin n), w.get k = w[k.val] := fun _ _ => rfl
  unfold upd
  simp only [e, Vector.getElem_set]
  by_cases h : j = i
  · subst h; simp
  · have : i.val ≠ j.val := fun e => h (Fin.ext e.symm)
    simp [h, this]

@[simp] theorem upd_get_self {α : Type} {n : Nat} (v : Vector α n) (i : Fin n) (f : α → α) :
    (upd v i f).get i = f (v.get i) := by simp [upd_get]

theorem upd_get_ne {α : Type} {n : Nat} (v : Vector α n) {i j : Fin n} (f : α → α) (h : j ≠ i) :
    (upd v i f).get j = v.get j := by simp [upd_get, h]

end Sys2Proof.Machine
end

