-- ==== Sys2Proof/Laws/Steps.lean ====
section
/-!
SUPPORT. What each operation on the state can change: one lemma `State.<operation>_steps` for every operation that gives
a state. `Steps ps s t` says that `t` differs from `s` at most in the parts `ps` and keeps the memory canonical.
-/
set_option Elab.async false
set_option linter.unusedTactic false
set_option linter.unreachableTactic false
set_option linter.unusedVariables false
set_option linter.unnecessarySeqFocus false
set_option linter.unusedSimpArgs false
namespace Sys2Proof.Machine

/-- `ps` holds every part of `qs`. -/
def covers (ps qs : List Part) : Bool := qs.all fun q => ps.contains q

/-- `t` comes from `s` by changing at most the parts `ps`, and the memory keeps its canonical form. -/
def Steps (ps : List Part) (s t : State) : Prop :=
  Only ps s t ∧ (Memory.wf s.mem = true → Memory.wf t.mem = true)

theorem State.same_refl (p : Part) (s : State) : s.same p s := by
  cases p <;> first | rfl | exact ⟨rfl, rfl⟩ | exact ⟨rfl, rfl, rfl⟩ | exact fun _ => rfl | exact fun _ _ _ => rfl | exact fun _ => ⟨id, id⟩ | exact ⟨List.prefix_rfl, List.prefix_rfl⟩

theorem State.same_trans {p : Part} {s t u : State} (h : s.same p t) (k : t.same p u) : s.same p u := by
  cases p <;> first
    | exact Eq.trans k h
    | exact ⟨Eq.trans k.1 h.1, Eq.trans k.2 h.2⟩
    | exact ⟨k.1.trans h.1, k.2.1.trans h.2.1, k.2.2.trans h.2.2⟩
    | exact fun p => (k p).trans (h p)
    | exact fun a x y => (k a x y).trans (h a x y)
    | exact fun p => ⟨fun q => (k p).1 ((h p).1 q), fun q => (k p).2 ((h p).2 q)⟩
    | exact ⟨h.1.trans k.1, h.2.trans k.2⟩

theorem Steps.refl (ps : List Part) (s : State) : Steps ps s s := ⟨⟨rfl, fun p _ => State.same_refl p s⟩, id⟩

theorem covers_contains {ps qs : List Part} {p : Part} (h : covers ps qs = true) (hp : ps.contains p = false) :
    qs.contains p = false := by
  unfold covers at h
  rw [List.all_eq_true] at h
  by_cases hq : qs.contains p = true
  · have := h p (by simpa using hq)
    simp_all
  · simpa using hq

theorem Steps.step {ps qs : List Part} {s t u : State} (h : Steps ps s t) (k : Steps qs t u)
    (hs : covers ps qs = true) : Steps ps s u :=
  ⟨⟨k.1.1.trans h.1.1, fun p hp => State.same_trans (h.1.2 p hp) (k.1.2 p (covers_contains hs hp))⟩, fun w => k.2 (h.2 w)⟩

theorem Steps.of_parts {ps : List Part} {s t : State} (h : ∀ p, ps.contains p ≠ true → s.same p t)
    (hq : t.pending = s.pending) (hm : ps.contains .mem = false := by rfl) : Steps ps s t :=
  ⟨⟨hq, fun p hp => h p (fun k => Bool.noConfusion (hp.symm.trans k))⟩, fun w => by
    have := h .mem (fun k => Bool.noConfusion (hm.symm.trans k)); simp only [State.same] at this; rw [this]; exact w⟩

theorem Steps.foldl {α : Type} {ps : List Part} {s t : State} {f : State → α → State} {l : List α} (h : Steps ps s t)
    (hf : ∀ u x, Steps ps s u → Steps ps s (f u x)) : Steps ps s (l.foldl f t) := by
  induction l generalizing t with
  | nil => exact h
  | cons x xs ih => exact ih (hf t x h)

theorem Steps.ite {ps : List Part} {s a b : State} {c : Prop} [Decidable c] (ha : Steps ps s a) (hb : Steps ps s b) :
    Steps ps s (if c then a else b) := by
  split <;> assumption

theorem covers_self {ps qs : List Part} (h : covers ps qs = true) : covers ps qs = true := h

theorem covers_trans {ps qs rs : List Part} (h : covers ps qs = true) (k : covers qs rs = true) : covers ps rs = true := by
  unfold covers at *
  rw [List.all_eq_true] at *
  intro x hx
  have := k x hx
  rw [List.contains_iff_mem] at this
  exact h x this

/-! ### The updates -/

theorem State.setCulvert_irq_steps {ps : List Part} {σ τ : State} (f : Culvert → Culvert) (hτ : Steps ps σ τ)
    (hf : ∀ c, (f c).bare = c.bare ∧ ∀ k, (c.irqstat.getLsbD k = true → (f c).irqstat.getLsbD k = true) ∧
      (c.kirqstat.getLsbD k = true → (f c).kirqstat.getLsbD k = true)) (hcov : covers ps [.irq] = true) : Steps ps σ (τ.setCulvert f) :=
  hτ.step (Steps.of_parts (by
    intro p hp
    cases p <;> first | exact (hp rfl).elim | rfl | exact ⟨rfl, rfl⟩ | exact ⟨rfl, rfl, rfl⟩ | exact fun _ => rfl | exact fun _ _ _ => rfl | exact fun _ => ⟨id, id⟩ | exact ⟨List.prefix_rfl, List.prefix_rfl⟩ | skip
    · exact (hf _).2
    · exact (hf _).1) rfl) hcov

theorem State.setCulvert_culvert_steps {ps : List Part} {σ τ : State} (f : Culvert → Culvert) (hτ : Steps ps σ τ)
    (hf : ∀ c, (f c).irqstat = c.irqstat ∧ (f c).kirqstat = c.kirqstat) (hcov : covers ps [.culvert] = true) : Steps ps σ (τ.setCulvert f) :=
  hτ.step (Steps.of_parts (by
    intro p hp
    cases p <;> first | exact (hp rfl).elim | rfl | exact ⟨rfl, rfl⟩ | exact ⟨rfl, rfl, rfl⟩ | exact fun _ => rfl | exact fun _ _ _ => rfl | exact fun _ => ⟨id, id⟩ | exact ⟨List.prefix_rfl, List.prefix_rfl⟩ | skip
    · exact hf _
    · exact fun k => ⟨fun q => (congrArg (fun x => x.getLsbD k) (hf _).1).trans q,
        fun q => (congrArg (fun x => x.getLsbD k) (hf _).2).trans q⟩) rfl) hcov

theorem State.setEngine_work_steps {ps : List Part} {σ τ : State} (f : Engine → Engine) (hτ : Steps ps σ τ)
    (hf : ∀ e, (f e).bare = e.bare ∧ (f e).owedBells = e.owedBells) (hcov : covers ps [.work] = true) : Steps ps σ (τ.setEngine f) :=
  hτ.step (Steps.of_parts (by
    intro p hp
    cases p <;> first | exact (hp rfl).elim | rfl | exact ⟨rfl, rfl⟩ | exact ⟨rfl, rfl, rfl⟩ | exact fun _ => rfl | exact fun _ _ _ => rfl | exact fun _ => ⟨id, id⟩ | exact ⟨List.prefix_rfl, List.prefix_rfl⟩ | skip
    · exact ⟨rfl, rfl, (hf _).2⟩
    · exact (hf _).1) rfl) hcov

theorem State.setEngine_bells_steps {ps : List Part} {σ τ : State} (f : Engine → Engine) (hτ : Steps ps σ τ)
    (hf : ∀ e, (f e).bare = e.bare ∧ (f e).taken = e.taken ∧ (f e).accepted = e.accepted ∧ (f e).lastServed = e.lastServed) (hcov : covers ps [.bells] = true) : Steps ps σ (τ.setEngine f) :=
  hτ.step (Steps.of_parts (by
    intro p hp
    cases p <;> first | exact (hp rfl).elim | rfl | exact ⟨rfl, rfl⟩ | exact ⟨rfl, rfl, rfl⟩ | exact fun _ => rfl | exact fun _ _ _ => rfl | exact fun _ => ⟨id, id⟩ | exact ⟨List.prefix_rfl, List.prefix_rfl⟩ | skip
    · exact (hf _).1
    · exact (hf _).2) rfl) hcov

theorem State.setEngine_engine_steps {ps : List Part} {σ τ : State} (f : Engine → Engine) (hτ : Steps ps σ τ)
    (hf : ∀ e, (f e).taken = e.taken ∧ (f e).accepted = e.accepted ∧ (f e).lastServed = e.lastServed ∧ (f e).owedBells = e.owedBells) (hcov : covers ps [.engine] = true) : Steps ps σ (τ.setEngine f) :=
  hτ.step (Steps.of_parts (by
    intro p hp
    cases p <;> first | exact (hp rfl).elim | rfl | exact ⟨rfl, rfl⟩ | exact ⟨rfl, rfl, rfl⟩ | exact fun _ => rfl | exact fun _ _ _ => rfl | exact fun _ => ⟨id, id⟩ | exact ⟨List.prefix_rfl, List.prefix_rfl⟩ | skip
    · exact ⟨rfl, rfl, (hf _).2.2.2⟩
    · exact ⟨(hf _).1, (hf _).2.1, (hf _).2.2.1⟩) rfl) hcov

theorem State.setSettings_events_steps {ps : List Part} {σ τ : State} (f : Settings → Settings) (hτ : Steps ps σ τ)
    (hf : ∀ g, (f g).bare = g.bare ∧ (f g).changes = g.changes ∧ (f g).lastChange = g.lastChange ∧ (f g).digest = g.digest) (hcov : covers ps [.events] = true) : Steps ps σ (τ.setSettings f) :=
  hτ.step (Steps.of_parts (by
    intro p hp
    cases p <;> first | exact (hp rfl).elim | rfl | exact ⟨rfl, rfl⟩ | exact ⟨rfl, rfl, rfl⟩ | exact fun _ => rfl | exact fun _ _ _ => rfl | exact fun _ => ⟨id, id⟩ | exact ⟨List.prefix_rfl, List.prefix_rfl⟩ | skip
    · exact (hf _).1
    · exact (hf _).2) rfl) hcov

theorem State.setSettings_changes_steps {ps : List Part} {σ τ : State} (f : Settings → Settings) (hτ : Steps ps σ τ)
    (hf : ∀ g, (f g).bare = g.bare ∧ (f g).devFlags = g.devFlags ∧ (f g).portFlags = g.portFlags) (hcov : covers ps [.changes] = true) : Steps ps σ (τ.setSettings f) :=
  hτ.step (Steps.of_parts (by
    intro p hp
    cases p <;> first | exact (hp rfl).elim | rfl | exact ⟨rfl, rfl⟩ | exact ⟨rfl, rfl, rfl⟩ | exact fun _ => rfl | exact fun _ _ _ => rfl | exact fun _ => ⟨id, id⟩ | exact ⟨List.prefix_rfl, List.prefix_rfl⟩ | skip
    · exact (hf _).1
    · exact (hf _).2) rfl) hcov

theorem State.setSettings_settings_steps {ps : List Part} {σ τ : State} (f : Settings → Settings) (hτ : Steps ps σ τ)
    (hf : ∀ g, ((f g).devFlags = g.devFlags ∧ (f g).portFlags = g.portFlags) ∧ (f g).changes = g.changes ∧ (f g).lastChange = g.lastChange ∧ (f g).digest = g.digest) (hcov : covers ps [.settings] = true) : Steps ps σ (τ.setSettings f) :=
  hτ.step (Steps.of_parts (by
    intro p hp
    cases p <;> first | exact (hp rfl).elim | rfl | exact ⟨rfl, rfl⟩ | exact ⟨rfl, rfl, rfl⟩ | exact fun _ => rfl | exact fun _ _ _ => rfl | exact fun _ => ⟨id, id⟩ | exact ⟨List.prefix_rfl, List.prefix_rfl⟩ | skip
    · exact (hf _).1
    · exact (hf _).2) rfl) hcov

theorem State.setChan_bells_steps {ps : List Part} {σ τ : State} (c : Chan) (f : ChanRegs → ChanRegs) (hτ : Steps ps σ τ)
    (hf : ∀ r, ((f r).bare = r.bare ∧ (f r).replies = r.replies) ∧
      ∀ k, r.bellIn.getLsbD k = true → (f r).bellIn.getLsbD k = true) (hcov : covers ps [.bells] = true) : Steps ps σ (τ.setChan c f) := by
  cases c
  · exact hτ.step (Steps.of_parts (by
      intro p hp
      cases p <;> first | exact (hp rfl).elim | rfl | exact ⟨rfl, rfl⟩ | exact ⟨rfl, rfl, rfl⟩ | exact fun _ => rfl | exact fun _ _ _ => rfl | exact fun _ => ⟨id, id⟩ | exact ⟨List.prefix_rfl, List.prefix_rfl⟩ | skip
      · exact fun k => ⟨(hf _).2 k, id⟩
      · exact ⟨(hf _).1.2, rfl⟩
      · exact ⟨(hf _).1.2 ▸ List.prefix_rfl, List.prefix_rfl⟩
      · exact (hf _).1.1) rfl) hcov
  · exact hτ.step (Steps.of_parts (by
      intro p hp
      cases p <;> first | exact (hp rfl).elim | rfl | exact ⟨rfl, rfl⟩ | exact ⟨rfl, rfl, rfl⟩ | exact fun _ => rfl | exact fun _ _ _ => rfl | exact fun _ => ⟨id, id⟩ | exact ⟨List.prefix_rfl, List.prefix_rfl⟩ | skip
      · exact fun k => ⟨id, (hf _).2 k⟩
      · exact ⟨rfl, (hf _).1.2⟩
      · exact ⟨List.prefix_rfl, (hf _).1.2 ▸ List.prefix_rfl⟩
      · exact (hf _).1.1) rfl) hcov

theorem State.setChan_replies_steps {ps : List Part} {σ τ : State} (c : Chan) (f : ChanRegs → ChanRegs) (hτ : Steps ps σ τ)
    (hf : ∀ r, ((f r).bare = r.bare ∧ (f r).bellIn = r.bellIn) ∧ r.replies <+: (f r).replies) (hcov : covers ps [.replies] = true) : Steps ps σ (τ.setChan c f) := by
  cases c
  · exact hτ.step (Steps.of_parts (by
      intro p hp
      cases p <;> first | exact (hp rfl).elim | rfl | exact ⟨rfl, rfl⟩ | exact ⟨rfl, rfl, rfl⟩ | exact fun _ => rfl | exact fun _ _ _ => rfl | exact fun _ => ⟨id, id⟩ | exact ⟨List.prefix_rfl, List.prefix_rfl⟩ | skip
      · exact ⟨(hf _).1.2, rfl, rfl⟩
      · exact fun k => ⟨fun q => (congrArg (fun x => x.getLsbD k) (hf _).1.2).trans q, id⟩
      · exact ⟨(hf _).2, List.prefix_rfl⟩
      · exact (hf _).1.1) rfl) hcov
  · exact hτ.step (Steps.of_parts (by
      intro p hp
      cases p <;> first | exact (hp rfl).elim | rfl | exact ⟨rfl, rfl⟩ | exact ⟨rfl, rfl, rfl⟩ | exact fun _ => rfl | exact fun _ _ _ => rfl | exact fun _ => ⟨id, id⟩ | exact ⟨List.prefix_rfl, List.prefix_rfl⟩ | skip
      · exact ⟨rfl, (hf _).1.2, rfl⟩
      · exact fun k => ⟨id, fun q => (congrArg (fun x => x.getLsbD k) (hf _).1.2).trans q⟩
      · exact ⟨List.prefix_rfl, (hf _).2⟩
      · exact (hf _).1.1) rfl) hcov

theorem State.setChan_chan_steps {ps : List Part} {σ τ : State} (c : Chan) (f : ChanRegs → ChanRegs) (hτ : Steps ps σ τ)
    (hf : ∀ r, (f r).bellIn = r.bellIn ∧ (f r).replies = r.replies) (hcov : covers ps [.chanN, .chanK] = true) : Steps ps σ (τ.setChan c f) := by
  cases c
  · exact hτ.step (Steps.of_parts (by
      intro p hp
      cases p <;> first | exact (hp rfl).elim | rfl | exact ⟨rfl, rfl⟩ | exact ⟨rfl, rfl, rfl⟩ | exact fun _ => rfl | exact fun _ _ _ => rfl | exact fun _ => ⟨id, id⟩ | exact ⟨List.prefix_rfl, List.prefix_rfl⟩ | skip
      · exact ⟨(hf _).1, rfl, rfl⟩
      · exact fun k => ⟨fun q => (congrArg (fun x => x.getLsbD k) (hf _).1).trans q, id⟩
      · exact ⟨(hf _).2, rfl⟩
      · exact ⟨(hf _).2 ▸ List.prefix_rfl, List.prefix_rfl⟩) rfl) hcov
  · exact hτ.step (Steps.of_parts (by
      intro p hp
      cases p <;> first | exact (hp rfl).elim | rfl | exact ⟨rfl, rfl⟩ | exact ⟨rfl, rfl, rfl⟩ | exact fun _ => rfl | exact fun _ _ _ => rfl | exact fun _ => ⟨id, id⟩ | exact ⟨List.prefix_rfl, List.prefix_rfl⟩ | skip
      · exact ⟨rfl, (hf _).1, rfl⟩
      · exact fun k => ⟨id, fun q => (congrArg (fun x => x.getLsbD k) (hf _).1).trans q⟩
      · exact ⟨rfl, (hf _).2⟩
      · exact ⟨List.prefix_rfl, (hf _).2 ▸ List.prefix_rfl⟩) rfl) hcov

theorem State.setChan_n_steps {ps : List Part} {σ τ : State} (f : ChanRegs → ChanRegs) (hτ : Steps ps σ τ)
    (hf : ∀ r, (f r).bellIn = r.bellIn ∧ (f r).replies = r.replies) (hcov : covers ps [.chanN] = true) : Steps ps σ (τ.setChan .n f) := 
  hτ.step (Steps.of_parts (by
    intro p hp
    cases p <;> first | exact (hp rfl).elim | rfl | exact ⟨rfl, rfl⟩ | exact ⟨rfl, rfl, rfl⟩ | exact fun _ => rfl | exact fun _ _ _ => rfl | exact fun _ => ⟨id, id⟩ | exact ⟨List.prefix_rfl, List.prefix_rfl⟩ | skip
    · exact ⟨(hf _).1, rfl, rfl⟩
    · exact fun k => ⟨fun q => (congrArg (fun x => x.getLsbD k) (hf _).1).trans q, id⟩
    · exact ⟨(hf _).2, rfl⟩
    · exact ⟨(hf _).2 ▸ List.prefix_rfl, List.prefix_rfl⟩) rfl) hcov

theorem State.setChan_k_steps {ps : List Part} {σ τ : State} (f : ChanRegs → ChanRegs) (hτ : Steps ps σ τ)
    (hf : ∀ r, (f r).bellIn = r.bellIn ∧ (f r).replies = r.replies) (hcov : covers ps [.chanK] = true) : Steps ps σ (τ.setChan .k f) := 
  hτ.step (Steps.of_parts (by
    intro p hp
    cases p <;> first | exact (hp rfl).elim | rfl | exact ⟨rfl, rfl⟩ | exact ⟨rfl, rfl, rfl⟩ | exact fun _ => rfl | exact fun _ _ _ => rfl | exact fun _ => ⟨id, id⟩ | exact ⟨List.prefix_rfl, List.prefix_rfl⟩ | skip
    · exact ⟨rfl, (hf _).1, rfl⟩
    · exact fun k => ⟨id, fun q => (congrArg (fun x => x.getLsbD k) (hf _).1).trans q⟩
    · exact ⟨rfl, (hf _).2⟩
    · exact ⟨List.prefix_rfl, (hf _).2 ▸ List.prefix_rfl⟩) rfl) hcov

theorem State.setChan_steps {ps : List Part} {σ τ : State} (c : Chan) (f : ChanRegs → ChanRegs) (hτ : Steps ps σ τ)
    (hcov : covers ps [.bells, .hush, .replies, .drops, .chanN, .chanK] = true) : Steps ps σ (τ.setChan c f) := by
  cases c
  · exact hτ.step (Steps.of_parts (by
      intro p hp
      cases p <;> first | exact (hp rfl).elim | rfl | exact ⟨rfl, rfl⟩ | exact ⟨rfl, rfl, rfl⟩ | exact fun _ => rfl | exact fun _ _ _ => rfl | exact fun _ => ⟨id, id⟩ | exact ⟨List.prefix_rfl, List.prefix_rfl⟩) rfl) hcov
  · exact hτ.step (Steps.of_parts (by
      intro p hp
      cases p <;> first | exact (hp rfl).elim | rfl | exact ⟨rfl, rfl⟩ | exact ⟨rfl, rfl, rfl⟩ | exact fun _ => rfl | exact fun _ _ _ => rfl | exact fun _ => ⟨id, id⟩ | exact ⟨List.prefix_rfl, List.prefix_rfl⟩) rfl) hcov

theorem upd_same {α β : Type} {n : Nat} (v : Vector α n) (i j : Fin n) (f : α → α) (g : α → β) (h : ∀ a, g (f a) = g a) :
    g ((upd v i f).get j) = g (v.get j) := by
  rw [upd_get]
  split
  · rename_i e; rw [e]; exact h _
  · rfl

theorem map_same {α β : Type} {n : Nat} (v : Vector α n) (j : Fin n) (f : α → α) (g : α → β) (h : ∀ a, g (f a) = g a) :
    g ((v.map f).get j) = g (v.get j) := by
  have e : (v.map f).get j = f (v.get j) := by
    show (v.map f)[j.val] = f v[j.val]
    simp
  rw [e]; exact h _

theorem State.updPort_tx_steps {ps : List Part} {σ τ : State} (p : PortNo) (f : Port → Port) (hτ : Steps ps σ τ)
    (hf : ∀ q, (f q).bare = q.bare) (hcov : covers ps [.tx] = true) : Steps ps σ (τ.updPort p f) :=
  hτ.step (Steps.of_parts (by
    intro p hp
    cases p <;> first | exact (hp rfl).elim | rfl | exact ⟨rfl, rfl⟩ | exact ⟨rfl, rfl, rfl⟩ | exact fun _ => rfl | exact fun _ _ _ => rfl | exact fun _ => ⟨id, id⟩ | exact ⟨List.prefix_rfl, List.prefix_rfl⟩ | skip
    · exact fun k => upd_same _ _ _ _ _ hf) rfl) hcov

theorem State.updPort_ports_steps {ps : List Part} {σ τ : State} (p : PortNo) (f : Port → Port) (hτ : Steps ps σ τ)
    (hf : ∀ q, (f q).tx = q.tx) (hcov : covers ps [.ports] = true) : Steps ps σ (τ.updPort p f) :=
  hτ.step (Steps.of_parts (by
    intro p hp
    cases p <;> first | exact (hp rfl).elim | rfl | exact ⟨rfl, rfl⟩ | exact ⟨rfl, rfl, rfl⟩ | exact fun _ => rfl | exact fun _ _ _ => rfl | exact fun _ => ⟨id, id⟩ | exact ⟨List.prefix_rfl, List.prefix_rfl⟩ | skip
    · exact fun k => upd_same _ _ _ _ _ hf) rfl) hcov

theorem State.mapPorts_tx_steps {ps : List Part} {σ τ : State} (f : Port → Port) (hτ : Steps ps σ τ)
    (hf : ∀ q, (f q).bare = q.bare) (hcov : covers ps [.tx] = true) : Steps ps σ (τ.mapPorts f) :=
  hτ.step (Steps.of_parts (by
    intro p hp
    cases p <;> first | exact (hp rfl).elim | rfl | exact ⟨rfl, rfl⟩ | exact ⟨rfl, rfl, rfl⟩ | exact fun _ => rfl | exact fun _ _ _ => rfl | exact fun _ => ⟨id, id⟩ | exact ⟨List.prefix_rfl, List.prefix_rfl⟩ | skip
    · exact fun k => map_same _ _ _ _ hf) rfl) hcov

theorem State.mapPorts_ports_steps {ps : List Part} {σ τ : State} (f : Port → Port) (hτ : Steps ps σ τ)
    (hf : ∀ q, (f q).tx = q.tx) (hcov : covers ps [.ports] = true) : Steps ps σ (τ.mapPorts f) :=
  hτ.step (Steps.of_parts (by
    intro p hp
    cases p <;> first | exact (hp rfl).elim | rfl | exact ⟨rfl, rfl⟩ | exact ⟨rfl, rfl, rfl⟩ | exact fun _ => rfl | exact fun _ _ _ => rfl | exact fun _ => ⟨id, id⟩ | exact ⟨List.prefix_rfl, List.prefix_rfl⟩ | skip
    · exact fun k => map_same _ _ _ _ hf) rfl) hcov

/-! ### The port operations that leave the transmit side -/

@[simp] theorem Port.setDozeRts_tx (q : Port) : q.setDozeRts.tx = q.tx := by
  unfold Port.setDozeRts; (repeat' split) <;> rfl

@[simp] theorem Port.join_tx (q : Port) (due : Bool) : (q.join due).tx = q.tx := by
  unfold Port.join; (repeat' split) <;> rfl

@[simp] theorem Port.store_tx (q : Port) (bits : Half) (t : Stamp × Bool) (r : Option Byte) (v : Bool) :
    (q.store bits t r v).tx = q.tx := by
  unfold Port.store; dsimp only; (repeat' split) <;> rfl

@[simp] theorem Port.countFrame_tx (q : Port) (bits : Half) : (q.countFrame bits).tx = q.tx := by
  unfold Port.countFrame; dsimp only; (repeat' split) <;> rfl

@[simp] theorem Port.gate_tx (q : Port) (bits : Half) : (q.gate bits).1.tx = q.tx := by
  unfold Port.gate; (repeat' split) <;> rfl

@[simp] theorem Port.catchEdge_tx (q : Port) (mark : Nat) (t : Stamp × Bool) : (q.catchEdge mark t).tx = q.tx := by
  unfold Port.catchEdge; (repeat' split) <;> rfl

@[simp] theorem Port.wakeUp_tx (q : Port) (t : Stamp × Bool) : (q.wakeUp t).tx = q.tx := by
  unfold Port.wakeUp; (repeat' split) <;> rfl

theorem State.updTx_steps {ps : List Part} {σ τ : State} (p : PortNo) (f : Tx → Tx) (hτ : Steps ps σ τ)
    (hcov : covers ps [.tx] = true) : Steps ps σ (τ.updTx p f) :=
  State.updPort_tx_steps _ _ hτ (fun _ => rfl) hcov

theorem State.updAsm_steps {ps : List Part} {σ τ : State} (p : PortNo) (f : Asm → Asm) (hτ : Steps ps σ τ)
    (hcov : covers ps [.ports] = true) : Steps ps σ (τ.updAsm p f) :=
  State.updPort_ports_steps _ _ hτ (fun _ => rfl) hcov

theorem State.advance_steps {ps : List Part} {σ τ : State} (hτ : Steps ps σ τ) (hcov : covers ps [.culvert] = true) :
    Steps ps σ (τ.setCulvert Culvert.advance) :=
  State.setCulvert_culvert_steps _ hτ (fun c => by
    unfold Culvert.advance
    (repeat' split) <;> exact ⟨rfl, rfl⟩) hcov


theorem State.setCounting_steps {ps : List Part} {σ τ : State} (b : Bool) (hτ : Steps ps σ τ)
    (hcov : covers ps [.counting] = true) : Steps ps σ (State.setCounting τ b) :=
  hτ.step (Steps.of_parts (by intro p hp; cases p <;> first | exact (hp rfl).elim | rfl | exact ⟨rfl, rfl⟩ | exact ⟨rfl, rfl, rfl⟩ | exact fun _ => rfl | exact fun _ _ _ => rfl | exact fun _ => ⟨id, id⟩ | exact ⟨List.prefix_rfl, List.prefix_rfl⟩) rfl) hcov

theorem State.setDozeEvents_steps {ps : List Part} {σ τ : State} (l : List (Nat × Nat × Nat × Nat)) (hτ : Steps ps σ τ)
    (hcov : covers ps [.dozeEvents] = true) : Steps ps σ (State.setDozeEvents τ l) :=
  hτ.step (Steps.of_parts (by intro p hp; cases p <;> first | exact (hp rfl).elim | rfl | exact ⟨rfl, rfl⟩ | exact ⟨rfl, rfl, rfl⟩ | exact fun _ => rfl | exact fun _ _ _ => rfl | exact fun _ => ⟨id, id⟩ | exact ⟨List.prefix_rfl, List.prefix_rfl⟩) rfl) hcov

theorem State.setPorts_steps {ps : List Part} {σ τ : State} (v : Vector Port 48) (hτ : Steps ps σ τ)
    (hcov : covers ps [.ports, .tx] = true) : Steps ps σ (State.setPorts τ v) :=
  hτ.step (Steps.of_parts (by intro p hp; cases p <;> first | exact (hp rfl).elim | rfl | exact ⟨rfl, rfl⟩ | exact ⟨rfl, rfl, rfl⟩ | exact fun _ => rfl | exact fun _ _ _ => rfl | exact fun _ => ⟨id, id⟩ | exact ⟨List.prefix_rfl, List.prefix_rfl⟩) rfl) hcov

theorem State.setGovs_steps {ps : List Part} {σ τ : State} (v : Vector Gov 256) (hτ : Steps ps σ τ)
    (hcov : covers ps [.govs] = true) : Steps ps σ (State.setGovs τ v) :=
  hτ.step (Steps.of_parts (by intro p hp; cases p <;> first | exact (hp rfl).elim | rfl | exact ⟨rfl, rfl⟩ | exact ⟨rfl, rfl, rfl⟩ | exact fun _ => rfl | exact fun _ _ _ => rfl | exact fun _ => ⟨id, id⟩ | exact ⟨List.prefix_rfl, List.prefix_rfl⟩) rfl) hcov

theorem State.setLamps_steps {ps : List Part} {σ τ : State} (v : Vector Lamp 1024) (hτ : Steps ps σ τ)
    (hcov : covers ps [.lamps] = true) : Steps ps σ (State.setLamps τ v) :=
  hτ.step (Steps.of_parts (by intro p hp; cases p <;> first | exact (hp rfl).elim | rfl | exact ⟨rfl, rfl⟩ | exact ⟨rfl, rfl, rfl⟩ | exact fun _ => rfl | exact fun _ _ _ => rfl | exact fun _ => ⟨id, id⟩ | exact ⟨List.prefix_rfl, List.prefix_rfl⟩) rfl) hcov

theorem State.setBuses_steps {ps : List Part} {σ τ : State} (v : Vector Bus 8) (hτ : Steps ps σ τ)
    (hcov : covers ps [.buses] = true) : Steps ps σ (State.setBuses τ v) :=
  hτ.step (Steps.of_parts (by intro p hp; cases p <;> first | exact (hp rfl).elim | rfl | exact ⟨rfl, rfl⟩ | exact ⟨rfl, rfl, rfl⟩ | exact fun _ => rfl | exact fun _ _ _ => rfl | exact fun _ => ⟨id, id⟩ | exact ⟨List.prefix_rfl, List.prefix_rfl⟩) rfl) hcov

theorem State.setHeads_steps {ps : List Part} {σ τ : State} (v : Vector Head 240) (hτ : Steps ps σ τ)
    (hcov : covers ps [.heads] = true) : Steps ps σ (State.setHeads τ v) :=
  hτ.step (Steps.of_parts (by intro p hp; cases p <;> first | exact (hp rfl).elim | rfl | exact ⟨rfl, rfl⟩ | exact ⟨rfl, rfl, rfl⟩ | exact fun _ => rfl | exact fun _ _ _ => rfl | exact fun _ => ⟨id, id⟩ | exact ⟨List.prefix_rfl, List.prefix_rfl⟩) rfl) hcov

theorem State.setJtag_steps {ps : List Part} {σ τ : State} (j : Jtag) (hτ : Steps ps σ τ)
    (hcov : covers ps [.jtag] = true) : Steps ps σ (State.setJtag τ j) :=
  hτ.step (Steps.of_parts (by intro p hp; cases p <;> first | exact (hp rfl).elim | rfl | exact ⟨rfl, rfl⟩ | exact ⟨rfl, rfl, rfl⟩ | exact fun _ => rfl | exact fun _ _ _ => rfl | exact fun _ => ⟨id, id⟩ | exact ⟨List.prefix_rfl, List.prefix_rfl⟩) rfl) hcov

theorem State.mapPorts_steps {ps : List Part} {σ τ : State} (f : Port → Port) (hτ : Steps ps σ τ)
    (hcov : covers ps [.ports, .tx] = true) : Steps ps σ (State.mapPorts τ f) :=
  hτ.step (Steps.of_parts (by intro p hp; cases p <;> first | exact (hp rfl).elim | rfl | exact ⟨rfl, rfl⟩ | exact ⟨rfl, rfl, rfl⟩ | exact fun _ => rfl | exact fun _ _ _ => rfl | exact fun _ => ⟨id, id⟩ | exact ⟨List.prefix_rfl, List.prefix_rfl⟩) rfl) hcov

theorem State.mapLamps_steps {ps : List Part} {σ τ : State} (f : Lamp → Lamp) (hτ : Steps ps σ τ)
    (hcov : covers ps [.lamps] = true) : Steps ps σ (State.mapLamps τ f) :=
  hτ.step (Steps.of_parts (by intro p hp; cases p <;> first | exact (hp rfl).elim | rfl | exact ⟨rfl, rfl⟩ | exact ⟨rfl, rfl, rfl⟩ | exact fun _ => rfl | exact fun _ _ _ => rfl | exact fun _ => ⟨id, id⟩ | exact ⟨List.prefix_rfl, List.prefix_rfl⟩) rfl) hcov

theorem State.mapBuses_steps {ps : List Part} {σ τ : State} (f : Bus → Bus) (hτ : Steps ps σ τ)
    (hcov : covers ps [.buses] = true) : Steps ps σ (State.mapBuses τ f) :=
  hτ.step (Steps.of_parts (by intro p hp; cases p <;> first | exact (hp rfl).elim | rfl | exact ⟨rfl, rfl⟩ | exact ⟨rfl, rfl, rfl⟩ | exact fun _ => rfl | exact fun _ _ _ => rfl | exact fun _ => ⟨id, id⟩ | exact ⟨List.prefix_rfl, List.prefix_rfl⟩) rfl) hcov

theorem State.setPower_steps {ps : List Part} {σ τ : State} (f : Power → Power) (hτ : Steps ps σ τ)
    (hcov : covers ps [.power] = true) : Steps ps σ (State.setPower τ f) :=
  hτ.step (Steps.of_parts (by intro p hp; cases p <;> first | exact (hp rfl).elim | rfl | exact ⟨rfl, rfl⟩ | exact ⟨rfl, rfl, rfl⟩ | exact fun _ => rfl | exact fun _ _ _ => rfl | exact fun _ => ⟨id, id⟩ | exact ⟨List.prefix_rfl, List.prefix_rfl⟩) rfl) hcov

theorem State.setModes_steps {ps : List Part} {σ τ : State} (f : ModeRegs → ModeRegs) (hτ : Steps ps σ τ)
    (hcov : covers ps [.modes] = true) : Steps ps σ (State.setModes τ f) :=
  hτ.step (Steps.of_parts (by intro p hp; cases p <;> first | exact (hp rfl).elim | rfl | exact ⟨rfl, rfl⟩ | exact ⟨rfl, rfl, rfl⟩ | exact fun _ => rfl | exact fun _ _ _ => rfl | exact fun _ => ⟨id, id⟩ | exact ⟨List.prefix_rfl, List.prefix_rfl⟩) rfl) hcov

theorem State.setCulvert_steps {ps : List Part} {σ τ : State} (f : Culvert → Culvert) (hτ : Steps ps σ τ)
    (hcov : covers ps [.irq, .acks, .culvert] = true) : Steps ps σ (State.setCulvert τ f) :=
  hτ.step (Steps.of_parts (by intro p hp; cases p <;> first | exact (hp rfl).elim | rfl | exact ⟨rfl, rfl⟩ | exact ⟨rfl, rfl, rfl⟩ | exact fun _ => rfl | exact fun _ _ _ => rfl | exact fun _ => ⟨id, id⟩ | exact ⟨List.prefix_rfl, List.prefix_rfl⟩) rfl) hcov

theorem State.setEngine_steps {ps : List Part} {σ τ : State} (f : Engine → Engine) (hτ : Steps ps σ τ)
    (hcov : covers ps [.bells, .engine, .work] = true) : Steps ps σ (State.setEngine τ f) :=
  hτ.step (Steps.of_parts (by intro p hp; cases p <;> first | exact (hp rfl).elim | rfl | exact ⟨rfl, rfl⟩ | exact ⟨rfl, rfl, rfl⟩ | exact fun _ => rfl | exact fun _ _ _ => rfl | exact fun _ => ⟨id, id⟩ | exact ⟨List.prefix_rfl, List.prefix_rfl⟩) rfl) hcov

theorem State.setSettings_steps {ps : List Part} {σ τ : State} (f : Settings → Settings) (hτ : Steps ps σ τ)
    (hcov : covers ps [.settings, .events, .changes] = true) : Steps ps σ (State.setSettings τ f) :=
  hτ.step (Steps.of_parts (by intro p hp; cases p <;> first | exact (hp rfl).elim | rfl | exact ⟨rfl, rfl⟩ | exact ⟨rfl, rfl, rfl⟩ | exact fun _ => rfl | exact fun _ _ _ => rfl | exact fun _ => ⟨id, id⟩ | exact ⟨List.prefix_rfl, List.prefix_rfl⟩) rfl) hcov

theorem State.setSieve_steps {ps : List Part} {σ τ : State} (f : Sieve → Sieve) (hτ : Steps ps σ τ)
    (hcov : covers ps [.sieve] = true) : Steps ps σ (State.setSieve τ f) :=
  hτ.step (Steps.of_parts (by intro p hp; cases p <;> first | exact (hp rfl).elim | rfl | exact ⟨rfl, rfl⟩ | exact ⟨rfl, rfl, rfl⟩ | exact fun _ => rfl | exact fun _ _ _ => rfl | exact fun _ => ⟨id, id⟩ | exact ⟨List.prefix_rfl, List.prefix_rfl⟩) rfl) hcov

theorem State.setSluice_steps {ps : List Part} {σ τ : State} (f : Sluice → Sluice) (hτ : Steps ps σ τ)
    (hcov : covers ps [.sluice] = true) : Steps ps σ (State.setSluice τ f) :=
  hτ.step (Steps.of_parts (by intro p hp; cases p <;> first | exact (hp rfl).elim | rfl | exact ⟨rfl, rfl⟩ | exact ⟨rfl, rfl, rfl⟩ | exact fun _ => rfl | exact fun _ _ _ => rfl | exact fun _ => ⟨id, id⟩ | exact ⟨List.prefix_rfl, List.prefix_rfl⟩) rfl) hcov

theorem State.setPair_steps {ps : List Part} {σ τ : State} (f : Pair → Pair) (hτ : Steps ps σ τ)
    (hcov : covers ps [.pair] = true) : Steps ps σ (State.setPair τ f) :=
  hτ.step (Steps.of_parts (by intro p hp; cases p <;> first | exact (hp rfl).elim | rfl | exact ⟨rfl, rfl⟩ | exact ⟨rfl, rfl, rfl⟩ | exact fun _ => rfl | exact fun _ _ _ => rfl | exact fun _ => ⟨id, id⟩ | exact ⟨List.prefix_rfl, List.prefix_rfl⟩) rfl) hcov

theorem State.setJournal_steps {ps : List Part} {σ τ : State} (f : Journal → Journal) (hτ : Steps ps σ τ)
    (hcov : covers ps [.journal] = true) : Steps ps σ (State.setJournal τ f) :=
  hτ.step (Steps.of_parts (by intro p hp; cases p <;> first | exact (hp rfl).elim | rfl | exact ⟨rfl, rfl⟩ | exact ⟨rfl, rfl, rfl⟩ | exact fun _ => rfl | exact fun _ _ _ => rfl | exact fun _ => ⟨id, id⟩ | exact ⟨List.prefix_rfl, List.prefix_rfl⟩) rfl) hcov

theorem State.setTag_steps {ps : List Part} {σ τ : State} (f : Tag → Tag) (hτ : Steps ps σ τ)
    (hcov : covers ps [.tag] = true) : Steps ps σ (State.setTag τ f) :=
  hτ.step (Steps.of_parts (by intro p hp; cases p <;> first | exact (hp rfl).elim | rfl | exact ⟨rfl, rfl⟩ | exact ⟨rfl, rfl, rfl⟩ | exact fun _ => rfl | exact fun _ _ _ => rfl | exact fun _ => ⟨id, id⟩ | exact ⟨List.prefix_rfl, List.prefix_rfl⟩) rfl) hcov

theorem State.setMgmt_steps {ps : List Part} {σ τ : State} (f : Mgmt → Mgmt) (hτ : Steps ps σ τ)
    (hcov : covers ps [.mgmt] = true) : Steps ps σ (State.setMgmt τ f) :=
  hτ.step (Steps.of_parts (by intro p hp; cases p <;> first | exact (hp rfl).elim | rfl | exact ⟨rfl, rfl⟩ | exact ⟨rfl, rfl, rfl⟩ | exact fun _ => rfl | exact fun _ _ _ => rfl | exact fun _ => ⟨id, id⟩ | exact ⟨List.prefix_rfl, List.prefix_rfl⟩) rfl) hcov

theorem State.setInject_steps {ps : List Part} {σ τ : State} (f : Inject → Inject) (hτ : Steps ps σ τ)
    (hcov : covers ps [.inject] = true) : Steps ps σ (State.setInject τ f) :=
  hτ.step (Steps.of_parts (by intro p hp; cases p <;> first | exact (hp rfl).elim | rfl | exact ⟨rfl, rfl⟩ | exact ⟨rfl, rfl, rfl⟩ | exact fun _ => rfl | exact fun _ _ _ => rfl | exact fun _ => ⟨id, id⟩ | exact ⟨List.prefix_rfl, List.prefix_rfl⟩) rfl) hcov

theorem State.updPort_steps {ps : List Part} {σ τ : State} (p : PortNo) (f : Port → Port) (hτ : Steps ps σ τ)
    (hcov : covers ps [.ports, .tx] = true) : Steps ps σ (State.updPort τ p f) :=
  hτ.step (Steps.of_parts (by intro p hp; cases p <;> first | exact (hp rfl).elim | rfl | exact ⟨rfl, rfl⟩ | exact ⟨rfl, rfl, rfl⟩ | exact fun _ => rfl | exact fun _ _ _ => rfl | exact fun _ => ⟨id, id⟩ | exact ⟨List.prefix_rfl, List.prefix_rfl⟩) rfl) hcov

theorem State.updGov_steps {ps : List Part} {σ τ : State} (g : GovNo) (f : Gov → Gov) (hτ : Steps ps σ τ)
    (hcov : covers ps [.govs] = true) : Steps ps σ (State.updGov τ g f) :=
  hτ.step (Steps.of_parts (by intro p hp; cases p <;> first | exact (hp rfl).elim | rfl | exact ⟨rfl, rfl⟩ | exact ⟨rfl, rfl, rfl⟩ | exact fun _ => rfl | exact fun _ _ _ => rfl | exact fun _ => ⟨id, id⟩ | exact ⟨List.prefix_rfl, List.prefix_rfl⟩) rfl) hcov

theorem State.updLamp_steps {ps : List Part} {σ τ : State} (l : LampNo) (f : Lamp → Lamp) (hτ : Steps ps σ τ)
    (hcov : covers ps [.lamps] = true) : Steps ps σ (State.updLamp τ l f) :=
  hτ.step (Steps.of_parts (by intro p hp; cases p <;> first | exact (hp rfl).elim | rfl | exact ⟨rfl, rfl⟩ | exact ⟨rfl, rfl, rfl⟩ | exact fun _ => rfl | exact fun _ _ _ => rfl | exact fun _ => ⟨id, id⟩ | exact ⟨List.prefix_rfl, List.prefix_rfl⟩) rfl) hcov

theorem State.updBus_steps {ps : List Part} {σ τ : State} (b : BusNo) (f : Bus → Bus) (hτ : Steps ps σ τ)
    (hcov : covers ps [.buses] = true) : Steps ps σ (State.updBus τ b f) :=
  hτ.step (Steps.of_parts (by intro p hp; cases p <;> first | exact (hp rfl).elim | rfl | exact ⟨rfl, rfl⟩ | exact ⟨rfl, rfl, rfl⟩ | exact fun _ => rfl | exact fun _ _ _ => rfl | exact fun _ => ⟨id, id⟩ | exact ⟨List.prefix_rfl, List.prefix_rfl⟩) rfl) hcov

theorem State.updHead_steps {ps : List Part} {σ τ : State} (b : BusNo) (h : HeadNo) (f : Head → Head) (hτ : Steps ps σ τ)
    (hcov : covers ps [.heads] = true) : Steps ps σ (State.updHead τ b h f) :=
  hτ.step (Steps.of_parts (by intro p hp; cases p <;> first | exact (hp rfl).elim | rfl | exact ⟨rfl, rfl⟩ | exact ⟨rfl, rfl, rfl⟩ | exact fun _ => rfl | exact fun _ _ _ => rfl | exact fun _ => ⟨id, id⟩ | exact ⟨List.prefix_rfl, List.prefix_rfl⟩) rfl) hcov

theorem State.updView_steps {ps : List Part} {σ τ : State} (v : Fin 52) (f : View → View) (hτ : Steps ps σ τ)
    (hcov : covers ps [.sluice] = true) : Steps ps σ (State.updView τ v f) :=
  hτ.step (Steps.of_parts (by intro p hp; cases p <;> first | exact (hp rfl).elim | rfl | exact ⟨rfl, rfl⟩ | exact ⟨rfl, rfl, rfl⟩ | exact fun _ => rfl | exact fun _ _ _ => rfl | exact fun _ => ⟨id, id⟩ | exact ⟨List.prefix_rfl, List.prefix_rfl⟩) rfl) hcov

theorem State.draw_steps {ps : List Part} {σ τ : State}  (hτ : Steps ps σ τ)
    (hcov : covers ps [.draws] = true) : Steps ps σ (State.draw τ).2 :=
  hτ.step (Steps.of_parts (by intro p hp; cases p <;> first | exact (hp rfl).elim | rfl | exact ⟨rfl, rfl⟩ | exact ⟨rfl, rfl, rfl⟩ | exact fun _ => rfl | exact fun _ _ _ => rfl | exact fun _ => ⟨id, id⟩ | exact ⟨List.prefix_rfl, List.prefix_rfl⟩) rfl) hcov

theorem State.eachPort_steps {ps : List Part} {σ τ : State} (f : State → PortNo → State) (hτ : Steps ps σ τ) (hf : ∀ υ x, Steps ps σ υ → Steps ps σ (f υ x)) :
    Steps ps σ (State.eachPort τ f) := by
  unfold State.eachPort
  (try dsimp only)
  repeat' (first | with_reducible assumption | with_reducible exact Steps.refl _ _ | with_reducible apply hf | with_reducible exact covers_trans hcov rfl | ((with_reducible refine covers_self ?_); rfl) | with_reducible apply Steps.foldl | (intro _ _ _) | (intro _ _) | (dsimp only))

theorem State.eachBus_steps {ps : List Part} {σ τ : State} (f : State → BusNo → State) (hτ : Steps ps σ τ) (hf : ∀ υ x, Steps ps σ υ → Steps ps σ (f υ x)) :
    Steps ps σ (State.eachBus τ f) := by
  unfold State.eachBus
  (try dsimp only)
  repeat' (first | with_reducible assumption | with_reducible exact Steps.refl _ _ | with_reducible apply hf | with_reducible exact covers_trans hcov rfl | ((with_reducible refine covers_self ?_); rfl) | with_reducible apply Steps.foldl | (intro _ _ _) | (intro _ _) | (dsimp only))

theorem State.eachLamp_steps {ps : List Part} {σ τ : State} (f : State → LampNo → State) (hτ : Steps ps σ τ) (hf : ∀ υ x, Steps ps σ υ → Steps ps σ (f υ x)) :
    Steps ps σ (State.eachLamp τ f) := by
  unfold State.eachLamp
  (try dsimp only)
  repeat' (first | with_reducible assumption | with_reducible exact Steps.refl _ _ | with_reducible apply hf | with_reducible exact covers_trans hcov rfl | ((with_reducible refine covers_self ?_); rfl) | with_reducible apply Steps.foldl | (intro _ _ _) | (intro _ _) | (dsimp only))

theorem State.eachView_steps {ps : List Part} {σ τ : State} (f : State → Fin 52 → State) (hτ : Steps ps σ τ) (hf : ∀ υ x, Steps ps σ υ → Steps ps σ (f υ x)) :
    Steps ps σ (State.eachView τ f) := by
  unfold State.eachView
  (try dsimp only)
  repeat' (first | with_reducible assumption | with_reducible exact Steps.refl _ _ | with_reducible apply hf | with_reducible exact covers_trans hcov rfl | ((with_reducible refine covers_self ?_); rfl) | with_reducible apply Steps.foldl | (intro _ _ _) | (intro _ _) | (dsimp only))

theorem State.putByte_steps {ps : List Part} {s t : State} (a : Nat) (b : Byte) (h : Steps ps s t)
    (hs : covers ps [.mem, .code, .pool, .boxes, .rows] = true) : Steps ps s (t.putByte a b) :=
  h.step ⟨⟨rfl, fun p hp => by cases p <;> first | exact Bool.noConfusion hp | exact State.same_refl _ _ | rfl | exact ⟨rfl, rfl⟩ | exact ⟨rfl, rfl, rfl⟩ | exact fun _ => rfl | exact fun _ _ _ => rfl | exact fun _ => ⟨id, id⟩ | exact ⟨List.prefix_rfl, List.prefix_rfl⟩⟩, State.wf_putByte⟩ hs

theorem State.putBytes_steps {ps : List Part} {s t : State} (a : Nat) (bs : List Byte) (h : Steps ps s t)
    (hs : covers ps [.mem, .code, .pool, .boxes, .rows] = true) : Steps ps s (t.putBytes a bs) := by
  induction bs generalizing t a with
  | nil => exact h
  | cons b bs ih => exact ih _ (State.putByte_steps _ _ h hs)

theorem State.putWord_steps {ps : List Part} {s t : State} (a w : Nat) (h : Steps ps s t)
    (hs : covers ps [.mem, .code, .pool, .boxes, .rows] = true) : Steps ps s (t.putWord a w) :=
  State.putBytes_steps _ _ h hs

/-! ### Writes within one region -/

/-- The addresses from `lo` to `hi - 1` all lie in the region of the fabric memory that the part is. -/
def Part.within (lo hi : Nat) : Part → Prop
  | .code => hi ≤ 0x40000
  | .pool => 0x40000 ≤ lo ∧ hi ≤ 0xC0000
  | .boxes => 0xC0000 ≤ lo ∧ hi ≤ 0xF0000
  | .rows => 0xF0000 ≤ lo ∧ hi ≤ 0x100000
  | _ => False

theorem State.putByte_in_steps {ps : List Part} {s t : State} {r : Part} {a : Nat} {b : Byte}
    (hr : r.within a (a + 1)) (h : Steps ps s t) (hs : covers ps [.mem, r] = true) : Steps ps s (t.putByte a b) := by
  refine h.step ⟨⟨rfl, fun p hp => ?_⟩, State.wf_putByte⟩ hs
  have other : ∀ lo hi, (a % 0x100000 < lo ∨ hi ≤ a % 0x100000) → t.sameBytes lo hi (t.putByte a b) :=
    fun lo hi ho c h1 h2 => Memory.read_write_ne (by omega)
  cases r <;> first
    | exact hr.elim
    | (simp only [Part.within] at hr
       cases p <;> first
         | exact Bool.noConfusion hp
         | exact other _ _ (by omega)
         | exact State.same_refl _ _
         | rfl | exact ⟨rfl, rfl⟩ | exact ⟨rfl, rfl, rfl⟩ | exact fun _ => rfl | exact fun _ => ⟨id, id⟩
         | exact ⟨List.prefix_rfl, List.prefix_rfl⟩)

theorem State.putBytes_in_steps {ps : List Part} {s t : State} {r : Part} {a : Nat} {bs : List Byte}
    (hr : r.within a (a + bs.length)) (h : Steps ps s t) (hs : covers ps [.mem, r] = true) :
    Steps ps s (t.putBytes a bs) := by
  induction bs generalizing t a with
  | nil => exact h
  | cons b bs ih =>
    simp only [List.length_cons] at hr
    refine ih ?_ (State.putByte_in_steps (r := r) ?_ h hs)
    · cases r <;> first | exact hr.elim | (simp only [Part.within] at hr ⊢; omega)
    · cases r <;> first | exact hr.elim | (simp only [Part.within] at hr ⊢; omega)

theorem State.putWord_in_steps {ps : List Part} {s t : State} {r : Part} {a w : Nat}
    (hr : r.within a (a + 4)) (h : Steps ps s t) (hs : covers ps [.mem, r] = true) : Steps ps s (t.putWord a w) :=
  State.putBytes_in_steps hr h hs

theorem State.clearMem_in_steps {ps : List Part} {s t : State} {r : Part} {a b : Nat}
    (hr : r.within a b) (h : Steps ps s t) (hs : covers ps [.mem, r] = true) : Steps ps s (t.clearMem a b) := by
  refine h.step ⟨⟨rfl, fun p hp => ?_⟩, State.wf_clearMem⟩ hs
  have other : ∀ lo hi, (hi ≤ a ∨ b ≤ lo) → t.sameBytes lo hi (t.clearMem a b) :=
    fun lo hi ho c h1 h2 => Memory.read_clear.trans (if_neg (by omega))
  cases r <;> first
    | exact hr.elim
    | (simp only [Part.within] at hr
       cases p <;> first
         | exact Bool.noConfusion hp
         | exact other _ _ (by omega)
         | exact State.same_refl _ _
         | rfl | exact ⟨rfl, rfl⟩ | exact ⟨rfl, rfl, rfl⟩ | exact fun _ => rfl | exact fun _ => ⟨id, id⟩
         | exact ⟨List.prefix_rfl, List.prefix_rfl⟩)

theorem payloadAt_range (cells : List Nat) (k : Nat) :
    Part.pool.within (payloadAt cells k) (payloadAt cells k + 1) := by
  show 0x40000 ≤ payloadAt cells k ∧ payloadAt cells k + 1 ≤ 0xC0000
  unfold payloadAt cellAt
  (repeat' split) <;> omega

theorem leBytes_length (n v : Nat) : (leBytes n v).length = n := by
  induction n generalizing v with
  | zero => rfl
  | succ n ih => simp [leBytes, ih]

theorem fromLe_lt (bs : List Byte) : fromLe bs < 256 ^ bs.length := by
  induction bs with
  | nil => simp [fromLe]
  | cons b bs ih =>
    have := b.isLt
    simp only [fromLe, List.length_cons, Nat.pow_succ]
    omega

theorem byteAt_lt (bs : List Byte) (o : Nat) : byteAt bs o < 256 := by
  refine Nat.lt_of_lt_of_le (fromLe_lt _) ?_
  rw [bytesAt, List.length_take]
  exact Nat.le_trans (Nat.pow_le_pow_right (by decide) (Nat.min_le_left 1 _)) (by decide)

theorem Memory.slice_length (m : List Host.Cell) (a n : Nat) : (Memory.slice m a n).length = n := by
  unfold Memory.slice
  generalize m.dropWhile _ = r
  induction n generalizing r a with
  | zero => rfl
  | succ n ih =>
    cases r with
    | nil => simp [Memory.sliceFrom, ih]
    | cons d r => unfold Memory.sliceFrom; split <;> simp [ih]

theorem State.memBytes_length (s : State) (a n : Nat) : (s.memBytes a n).length = n := Memory.slice_length _ _ _

theorem firmArea_range (ch : Chan) : 0xC8000 ≤ firmArea ch ∧ firmArea ch ≤ 0xD8000 := by cases ch <;> decide

theorem State.clearMem_steps {ps : List Part} {s t : State} (a b : Nat) (h : Steps ps s t)
    (hs : covers ps [.mem, .code, .pool, .boxes, .rows] = true) : Steps ps s (t.clearMem a b) :=
  h.step ⟨⟨rfl, fun p hp => by cases p <;> first | exact Bool.noConfusion hp | exact State.same_refl _ _ | rfl | exact ⟨rfl, rfl⟩ | exact ⟨rfl, rfl, rfl⟩ | exact fun _ => rfl | exact fun _ _ _ => rfl | exact fun _ => ⟨id, id⟩ | exact ⟨List.prefix_rfl, List.prefix_rfl⟩⟩, State.wf_clearMem⟩ hs

theorem State.raise_steps {ps : List Part} {σ τ : State} (w : Window) (i : Irq) (hτ : Steps ps σ τ)
    (hcov : covers ps [.irq] = true) : Steps ps σ (State.raise τ w i) := by
  refine hτ.step ?_ hcov
  clear hτ hcov
  unfold State.raise
  (try dsimp only)
  repeat' (first | with_reducible assumption | with_reducible exact Steps.refl _ _ | ((with_reducible refine covers_self ?_); rfl) | ((with_reducible apply State.setCulvert_irq_steps); (rotate_left 1); (focus (intro _; first | rfl | exact ⟨rfl, fun _ => ⟨fun h => by simp [h], fun h => by simp [h]⟩⟩ | exact ⟨⟨rfl, rfl⟩, fun _ h => by simp [h]⟩ | exact ⟨⟨rfl, rfl⟩, List.prefix_append _ _⟩ | exact ⟨rfl, rfl⟩ | exact ⟨rfl, rfl, rfl⟩ | exact ⟨⟨rfl, rfl⟩, rfl, rfl, rfl⟩ | exact ⟨rfl, rfl, rfl, rfl⟩ | ((try dsimp only); (repeat' split) <;> first | rfl | exact ⟨rfl, rfl⟩ | exact ⟨rfl, rfl, rfl⟩ | exact ⟨rfl, rfl, rfl, rfl⟩ | (simp; done)) | (simp; done))); (rotate_left 1)) | (intro _ _ _) | (intro _ _) | split | (dsimp only))

theorem State.culvertFail_steps {ps : List Part} {σ τ : State} (e : ErrCause) (hτ : Steps ps σ τ)
    (hcov : covers ps [.irq, .culvert] = true) : Steps ps σ (State.culvertFail τ e) := by
  refine hτ.step ?_ hcov
  clear hτ hcov
  unfold State.culvertFail
  (try dsimp only)
  repeat' (first | with_reducible assumption | with_reducible exact Steps.refl _ _ | ((with_reducible refine covers_self ?_); rfl) | with_reducible apply State.raise_steps | ((with_reducible apply State.setCulvert_culvert_steps); (rotate_left 1); (focus (intro _; first | rfl | exact ⟨rfl, fun _ => ⟨fun h => by simp [h], fun h => by simp [h]⟩⟩ | exact ⟨⟨rfl, rfl⟩, fun _ h => by simp [h]⟩ | exact ⟨⟨rfl, rfl⟩, List.prefix_append _ _⟩ | exact ⟨rfl, rfl⟩ | exact ⟨rfl, rfl, rfl⟩ | exact ⟨⟨rfl, rfl⟩, rfl, rfl, rfl⟩ | exact ⟨rfl, rfl, rfl, rfl⟩ | ((try dsimp only); (repeat' split) <;> first | rfl | exact ⟨rfl, rfl⟩ | exact ⟨rfl, rfl, rfl⟩ | exact ⟨rfl, rfl, rfl, rfl⟩ | (simp; done)) | (simp; done))); (rotate_left 1)) | with_reducible apply Steps.ite | (intro _ _ _) | (intro _ _) | split | (dsimp only))

theorem State.bellOn_steps {ps : List Part} {σ τ : State} (c : Chan) (bit : Nat) (hτ : Steps ps σ τ)
    (hcov : covers ps [.irq, .bells] = true) : Steps ps σ (State.bellOn τ c bit) := by
  refine hτ.step ?_ hcov
  clear hτ hcov
  unfold State.bellOn
  (try dsimp only)
  repeat' (first | with_reducible assumption | with_reducible exact Steps.refl _ _ | ((with_reducible refine covers_self ?_); rfl) | with_reducible apply State.raise_steps | ((with_reducible apply State.setChan_bells_steps); (rotate_left 1); (focus (intro _; first | rfl | exact ⟨rfl, fun _ => ⟨fun h => by simp [h], fun h => by simp [h]⟩⟩ | exact ⟨⟨rfl, rfl⟩, fun _ h => by simp [h]⟩ | exact ⟨⟨rfl, rfl⟩, List.prefix_append _ _⟩ | exact ⟨rfl, rfl⟩ | exact ⟨rfl, rfl, rfl⟩ | exact ⟨⟨rfl, rfl⟩, rfl, rfl, rfl⟩ | exact ⟨rfl, rfl, rfl, rfl⟩ | ((try dsimp only); (repeat' split) <;> first | rfl | exact ⟨rfl, rfl⟩ | exact ⟨rfl, rfl, rfl⟩ | exact ⟨rfl, rfl, rfl, rfl⟩ | (simp; done)) | (simp; done))); (rotate_left 1)) | with_reducible apply Steps.ite | (intro _ _ _) | (intro _ _) | split | (dsimp only))

theorem State.bellBoth_steps {ps : List Part} {σ τ : State} (bit : Nat) (hτ : Steps ps σ τ)
    (hcov : covers ps [.irq, .bells] = true) : Steps ps σ (State.bellBoth τ bit) := by
  refine hτ.step ?_ hcov
  clear hτ hcov
  unfold State.bellBoth
  (try dsimp only)
  repeat' (first | with_reducible assumption | with_reducible exact Steps.refl _ _ | ((with_reducible refine covers_self ?_); rfl) | with_reducible apply State.bellOn_steps | with_reducible apply Steps.ite | split | (dsimp only))

theorem State.ring_steps {ps : List Part} {σ τ : State} (bit : Nat) (hτ : Steps ps σ τ)
    (hcov : covers ps [.irq, .bells] = true) : Steps ps σ (State.ring τ bit) := by
  refine hτ.step ?_ hcov
  clear hτ hcov
  unfold State.ring
  (try dsimp only)
  repeat' (first | with_reducible assumption | with_reducible exact Steps.refl _ _ | ((with_reducible refine covers_self ?_); rfl) | with_reducible apply State.bellBoth_steps | ((with_reducible apply State.setEngine_bells_steps); (rotate_left 1); (focus (intro _; first | rfl | exact ⟨rfl, fun _ => ⟨fun h => by simp [h], fun h => by simp [h]⟩⟩ | exact ⟨⟨rfl, rfl⟩, fun _ h => by simp [h]⟩ | exact ⟨⟨rfl, rfl⟩, List.prefix_append _ _⟩ | exact ⟨rfl, rfl⟩ | exact ⟨rfl, rfl, rfl⟩ | exact ⟨⟨rfl, rfl⟩, rfl, rfl, rfl⟩ | exact ⟨rfl, rfl, rfl, rfl⟩ | ((try dsimp only); (repeat' split) <;> first | rfl | exact ⟨rfl, rfl⟩ | exact ⟨rfl, rfl, rfl⟩ | exact ⟨rfl, rfl, rfl, rfl⟩ | (simp; done)) | (simp; done))); (rotate_left 1)) | with_reducible apply Steps.ite | (intro _ _ _) | (intro _ _) | split | (dsimp only))

theorem State.ringOwed_steps {ps : List Part} {σ τ : State}  (hτ : Steps ps σ τ)
    (hcov : covers ps [.irq, .bells] = true) : Steps ps σ (State.ringOwed τ) := by
  refine hτ.step ?_ hcov
  clear hτ hcov
  unfold State.ringOwed
  (try dsimp only)
  repeat' (first | with_reducible assumption | with_reducible exact Steps.refl _ _ | ((with_reducible refine covers_self ?_); rfl) | with_reducible apply State.bellBoth_steps | ((with_reducible apply State.setEngine_bells_steps); (rotate_left 1); (focus (intro _; first | rfl | exact ⟨rfl, fun _ => ⟨fun h => by simp [h], fun h => by simp [h]⟩⟩ | exact ⟨⟨rfl, rfl⟩, fun _ h => by simp [h]⟩ | exact ⟨⟨rfl, rfl⟩, List.prefix_append _ _⟩ | exact ⟨rfl, rfl⟩ | exact ⟨rfl, rfl, rfl⟩ | exact ⟨⟨rfl, rfl⟩, rfl, rfl, rfl⟩ | exact ⟨rfl, rfl, rfl, rfl⟩ | ((try dsimp only); (repeat' split) <;> first | rfl | exact ⟨rfl, rfl⟩ | exact ⟨rfl, rfl, rfl⟩ | exact ⟨rfl, rfl, rfl, rfl⟩ | (simp; done)) | (simp; done))); (rotate_left 1)) | with_reducible apply Steps.foldl | with_reducible apply Steps.ite | (intro _ _ _) | (intro _ _) | split | (dsimp only))

theorem State.reply_steps {ps : List Part} {σ τ : State} (c : Chan) (code status : Nat) (tag : Half) (payload : List Byte) (hτ : Steps ps σ τ)
    (hcov : covers ps [.replies] = true) : Steps ps σ (State.reply τ c code status tag payload) := by
  refine hτ.step ?_ hcov
  clear hτ hcov
  unfold State.reply
  (try dsimp only)
  repeat' (first | with_reducible assumption | with_reducible exact Steps.refl _ _ | ((with_reducible refine covers_self ?_); rfl) | ((with_reducible apply State.setChan_replies_steps); (rotate_left 1); (focus (intro _; first | rfl | exact ⟨rfl, fun _ => ⟨fun h => by simp [h], fun h => by simp [h]⟩⟩ | exact ⟨⟨rfl, rfl⟩, fun _ h => by simp [h]⟩ | exact ⟨⟨rfl, rfl⟩, List.prefix_append _ _⟩ | exact ⟨rfl, rfl⟩ | exact ⟨rfl, rfl, rfl⟩ | exact ⟨⟨rfl, rfl⟩, rfl, rfl, rfl⟩ | exact ⟨rfl, rfl, rfl, rfl⟩ | ((try dsimp only); (repeat' split) <;> first | rfl | exact ⟨rfl, rfl⟩ | exact ⟨rfl, rfl, rfl⟩ | exact ⟨rfl, rfl, rfl, rfl⟩ | (simp; done)) | (simp; done))); (rotate_left 1)) | (intro _ _ _) | (intro _ _) | (dsimp only))

theorem State.tick_steps {ps : List Part} {s t : State} (h : Steps ps s t) (hs : covers ps [.power] = true) :
    Steps ps s t.tick := by
  unfold State.tick
  split
  · exact State.setPower_steps _ h hs
  · exact h

theorem State.injectStep_steps {ps : List Part} {σ τ : State} (point target : Nat) (eligible : Nat → Bool) (hτ : Steps ps σ τ)
    (hcov : covers ps [.inject] = true) : Steps ps σ (State.injectStep τ point target eligible) := by
  refine hτ.step ?_ hcov
  clear hτ hcov
  unfold State.injectStep
  (try dsimp only)
  repeat' (first | with_reducible assumption | with_reducible exact Steps.refl _ _ | ((with_reducible refine covers_self ?_); rfl) | with_reducible apply State.setInject_steps | with_reducible apply Steps.ite | (intro _ _ _) | (intro _ _) | split | (dsimp only))

theorem State.injectAt_steps {ps : List Part} {σ τ : State} (point target : Nat) (eligible : Nat → Bool) (hτ : Steps ps σ τ)
    (hcov : covers ps [.inject] = true) : Steps ps σ (State.injectAt τ point target eligible).2 := by
  refine hτ.step ?_ hcov
  clear hτ hcov
  unfold State.injectAt
  (try dsimp only)
  repeat' (first | with_reducible assumption | with_reducible exact Steps.refl _ _ | ((with_reducible refine covers_self ?_); rfl) | with_reducible apply State.injectStep_steps | (dsimp only))

theorem State.injectCount_steps {ps : List Part} {σ τ : State} (i : Fin 16) (hτ : Steps ps σ τ)
    (hcov : covers ps [.inject] = true) : Steps ps σ (State.injectCount τ i) := by
  refine hτ.step ?_ hcov
  clear hτ hcov
  unfold State.injectCount
  (try dsimp only)
  repeat' (first | with_reducible assumption | with_reducible exact Steps.refl _ _ | ((with_reducible refine covers_self ?_); rfl) | with_reducible apply State.setInject_steps | (intro _ _ _) | (intro _ _) | (dsimp only))

theorem State.putLine_steps {ps : List Part} {σ τ : State} (bytes : List Byte) (hτ : Steps ps σ τ)
    (hcov : covers ps [.pair] = true) : Steps ps σ (State.putLine τ bytes) := by
  refine hτ.step ?_ hcov
  clear hτ hcov
  unfold State.putLine
  (try dsimp only)
  repeat' (first | with_reducible assumption | with_reducible exact Steps.refl _ _ | ((with_reducible refine covers_self ?_); rfl) | with_reducible apply State.setPair_steps | with_reducible apply Steps.ite | (intro _ _ _) | (intro _ _) | split | (dsimp only))

theorem State.sendWithheld_steps {ps : List Part} {σ τ : State}  (hτ : Steps ps σ τ)
    (hcov : covers ps [.pair] = true) : Steps ps σ (State.sendWithheld τ) := by
  refine hτ.step ?_ hcov
  clear hτ hcov
  unfold State.sendWithheld
  (try dsimp only)
  repeat' (first | with_reducible assumption | with_reducible exact Steps.refl _ _ | ((with_reducible refine covers_self ?_); rfl) | with_reducible apply State.putLine_steps | with_reducible apply State.setPair_steps | with_reducible apply Steps.ite | (intro _ _ _) | (intro _ _) | split | (dsimp only))

theorem State.withheldCounts_steps {ps : List Part} {σ τ : State}  (hτ : Steps ps σ τ)
    (hcov : covers ps [.pair] = true) : Steps ps σ (State.withheldCounts τ) := by
  refine hτ.step ?_ hcov
  clear hτ hcov
  unfold State.withheldCounts
  (try dsimp only)
  repeat' (first | with_reducible assumption | with_reducible exact Steps.refl _ _ | ((with_reducible refine covers_self ?_); rfl) | with_reducible apply State.sendWithheld_steps | with_reducible apply State.setPair_steps | with_reducible apply Steps.ite | (intro _ _ _) | (intro _ _) | split | (dsimp only))

theorem State.sendPast_steps {ps : List Part} {σ τ : State} (hit : Option (Fin 16)) (bytes : List Byte) (len : Nat) (hτ : Steps ps σ τ)
    (hcov : covers ps [.pair, .inject] = true) : Steps ps σ (State.sendPast τ hit bytes len) := by
  refine hτ.step ?_ hcov
  clear hτ hcov
  unfold State.sendPast
  (try dsimp only)
  repeat' (first | with_reducible assumption | with_reducible exact Steps.refl _ _ | ((with_reducible refine covers_self ?_); rfl) | with_reducible apply State.injectCount_steps | with_reducible apply State.putLine_steps | with_reducible apply State.withheldCounts_steps | with_reducible apply Steps.ite | (intro _ _ _) | (intro _ _) | split | (dsimp only))

theorem State.sendPlain_steps {ps : List Part} {σ τ : State} (code : Nat) (payload : List Byte) (hτ : Steps ps σ τ)
    (hcov : covers ps [.pair, .inject] = true) : Steps ps σ (State.sendPlain τ code payload) := by
  refine hτ.step ?_ hcov
  clear hτ hcov
  unfold State.sendPlain
  (try dsimp only)
  repeat' (first | with_reducible assumption | with_reducible exact Steps.refl _ _ | ((with_reducible refine covers_self ?_); rfl) | with_reducible apply State.injectAt_steps | with_reducible apply State.sendPast_steps | with_reducible apply Steps.ite | (intro _ _ _) | (intro _ _) | split | (dsimp only))

theorem State.sendAck_steps {ps : List Part} {σ τ : State}  (hτ : Steps ps σ τ)
    (hcov : covers ps [.pair, .inject] = true) : Steps ps σ (State.sendAck τ) := by
  refine hτ.step ?_ hcov
  clear hτ hcov
  unfold State.sendAck
  (try dsimp only)
  repeat' (first | with_reducible assumption | with_reducible exact Steps.refl _ _ | ((with_reducible refine covers_self ?_); rfl) | with_reducible apply State.sendPlain_steps | with_reducible apply Steps.ite | (intro _ _ _) | (intro _ _) | split | (dsimp only))

theorem State.launchFrame_steps {ps : List Part} {σ τ : State} (f : Frame) (hτ : Steps ps σ τ)
    (hcov : covers ps [.pair, .inject] = true) : Steps ps σ (State.launchFrame τ f) := by
  refine hτ.step ?_ hcov
  clear hτ hcov
  unfold State.launchFrame
  (try dsimp only)
  repeat' (first | with_reducible assumption | with_reducible exact Steps.refl _ _ | ((with_reducible refine covers_self ?_); rfl) | with_reducible apply State.injectAt_steps | with_reducible apply State.injectCount_steps | with_reducible apply State.sendPast_steps | with_reducible apply State.setPair_steps | with_reducible apply Steps.ite | (intro _ _ _) | (intro _ _) | split | (dsimp only))

theorem State.sendFrame_steps {ps : List Part} {σ τ : State} (f : Frame) (hτ : Steps ps σ τ)
    (hcov : covers ps [.pair, .inject] = true) : Steps ps σ (State.sendFrame τ f) := by
  refine hτ.step ?_ hcov
  clear hτ hcov
  unfold State.sendFrame
  (try dsimp only)
  repeat' (first | with_reducible assumption | with_reducible exact Steps.refl _ _ | ((with_reducible refine covers_self ?_); rfl) | with_reducible apply State.setPair_steps | with_reducible apply State.launchFrame_steps | with_reducible apply Steps.ite | (intro _ _ _) | (intro _ _) | split | (dsimp only))

theorem State.drainFrames_steps {ps : List Part} {s t : State} (n : Nat) (h : Steps ps s t)
    (hs : covers ps [.pair, .inject] = true) : Steps ps s (State.drainFrames n t) := by
  induction n generalizing t with
  | zero => exact h
  | succ n ih =>
    unfold State.drainFrames
    split
    · split
      · apply ih
        refine Steps.step ?_ (qs := [.pair, .inject]) (State.launchFrame_steps _ (State.setPair_steps _ (Steps.refl _ _) rfl) rfl) hs
        exact h
      · exact h
    · exact h

theorem State.sendLamp_steps {ps : List Part} {σ τ : State} (l : LampNo) (hτ : Steps ps σ τ)
    (hcov : covers ps [.pair, .inject] = true) : Steps ps σ (State.sendLamp τ l) := by
  refine hτ.step ?_ hcov
  clear hτ hcov
  unfold State.sendLamp
  (try dsimp only)
  repeat' (first | with_reducible assumption | with_reducible exact Steps.refl _ _ | ((with_reducible refine covers_self ?_); rfl) | with_reducible apply State.sendFrame_steps | with_reducible apply Steps.ite | split | (dsimp only))

theorem State.updItem_steps {ps : List Part} {σ τ : State} (id : Nat) (f : Item → Item) (hτ : Steps ps σ τ)
    (hcov : covers ps [.sluice] = true) : Steps ps σ (State.updItem τ id f) := by
  refine hτ.step ?_ hcov
  clear hτ hcov
  unfold State.updItem
  (try dsimp only)
  repeat' (first | with_reducible assumption | with_reducible exact Steps.refl _ _ | ((with_reducible refine covers_self ?_); rfl) | with_reducible apply State.setSluice_steps | with_reducible apply Steps.ite | (intro _ _ _) | (intro _ _) | split | (dsimp only))

theorem State.popCell_steps {ps : List Part} {s t u : State} {c : Nat} (e : t.popCell = some (c, u)) (h : Steps ps s t)
    (hs : covers ps [.draws, .sluice] = true) : Steps ps s u := by
  refine h.step ?_ hs
  unfold State.popCell at e
  dsimp only at e
  split at e
  · cases e
    exact State.setSluice_steps _ (State.draw_steps (Steps.refl _ _) rfl) rfl
  · cases e

theorem State.takeCell_steps {ps : List Part} {s t u : State} {alarm : Bool} {c : Nat}
    (e : t.takeCell alarm = some (c, u)) (h : Steps ps s t) (hs : covers ps [.draws, .sluice] = true) : Steps ps s u := by
  unfold State.takeCell at e
  split at e
  · exact State.popCell_steps e h hs
  · cases e

theorem State.freeCells_steps {ps : List Part} {σ τ : State} (cells : List Nat) (hτ : Steps ps σ τ)
    (hcov : covers ps [.mem, .pool, .sluice] = true) : Steps ps σ (State.freeCells τ cells) := by
  refine hτ.step ?_ hcov
  clear hτ hcov
  unfold State.freeCells
  (try dsimp only)
  repeat' (first | with_reducible assumption | with_reducible exact Steps.refl _ _ | ((with_reducible refine covers_self ?_); rfl) | with_reducible apply State.setSluice_steps | ((with_reducible refine State.putBytes_in_steps (r := .pool) ?_ ?_ ?_); (focus (simp only [Part.within, portRowAt, viewRowAt, sieveRowAt, weirRowAt, lampRowAt, headRowAt, busRowAt, firstSecondAt, resetStampAt, cellAt, bytesAt, leBytes_length, List.length_take, List.length_drop, List.length_append, List.length_cons, List.length_nil, State.memBytes_length]; (repeat' split) <;> omega))) | with_reducible apply Steps.foldl | (intro _ _ _) | (intro _ _) | (dsimp only))

theorem State.putLinks_steps {ps : List Part} {σ τ : State} (cells : List Nat) (hτ : Steps ps σ τ)
    (hcov : covers ps [.mem, .pool] = true) : Steps ps σ (State.putLinks τ cells) := by
  refine hτ.step ?_ hcov
  clear hτ hcov
  unfold State.putLinks
  (try dsimp only)
  repeat' (first | with_reducible assumption | with_reducible exact Steps.refl _ _ | ((with_reducible refine covers_self ?_); rfl) | ((with_reducible refine State.putWord_in_steps (r := .pool) ?_ ?_ ?_); (focus (simp only [Part.within, portRowAt, viewRowAt, sieveRowAt, weirRowAt, lampRowAt, headRowAt, busRowAt, firstSecondAt, resetStampAt, cellAt, bytesAt, leBytes_length, List.length_take, List.length_drop, List.length_append, List.length_cons, List.length_nil, State.memBytes_length]; (repeat' split) <;> omega))) | split | (dsimp only))

theorem State.takeCells_steps {ps : List Part} {s t u : State} {alarm : Bool} {n : Nat} {got cs : List Nat}
    (e : State.takeCells n t alarm got = some (cs, u)) (h : Steps ps s t) (hs : covers ps [.draws, .sluice] = true) :
    Steps ps s u := by
  induction n generalizing t got with
  | zero =>
    unfold State.takeCells at e
    cases e
    exact h
  | succ n ih =>
    unfold State.takeCells at e
    split at e
    · rename_i e'
      exact ih e (State.takeCell_steps e' h hs)
    · cases e

theorem State.putPayload_steps {ps : List Part} {s t : State} (cells : List Nat) (k : Nat) (bs : List Byte)
    (h : Steps ps s t) (hs : covers ps [.mem, .pool] = true) : Steps ps s (t.putPayload cells k bs) := by
  induction bs generalizing t k with
  | nil => exact h
  | cons b bs ih => exact ih _ (State.putByte_in_steps (r := .pool) (payloadAt_range _ _) h hs)

theorem State.newItem_steps {ps : List Part} {s t u : State} {payload : List Byte} {tagLen : Nat} {source : Byte}
    {stamp : Stamp} {doubt : Bool} {flags : Byte} {alarm : Bool} {c : Nat}
    (e : t.newItem payload tagLen source stamp doubt flags alarm = some (c, u)) (h : Steps ps s t)
    (hs : covers ps [.mem, .pool, .draws, .sluice] = true) : Steps ps s u := by
  refine h.step ?_ hs
  unfold State.newItem at e
  split at e
  · cases e
  · rename_i e'
    dsimp only at e
    cases e
    exact State.setSluice_steps _ (State.putLinks_steps _ (State.putPayload_steps _ _ _
      (State.takeCells_steps e' (Steps.refl _ _) rfl) rfl) rfl) rfl

theorem State.countNoCell_steps {ps : List Part} {σ τ : State}  (hτ : Steps ps σ τ)
    (hcov : covers ps [.sluice] = true) : Steps ps σ (State.countNoCell τ) := by
  refine hτ.step ?_ hcov
  clear hτ hcov
  unfold State.countNoCell
  (try dsimp only)
  repeat' (first | with_reducible assumption | with_reducible exact Steps.refl _ _ | ((with_reducible refine covers_self ?_); rfl) | with_reducible apply State.setSluice_steps | (intro _ _ _) | (intro _ _) | (dsimp only))

theorem State.putHeader_steps {ps : List Part} {σ τ : State} (i : Item) (hτ : Steps ps σ τ)
    (hcov : covers ps [.mem, .pool] = true) : Steps ps σ (State.putHeader τ i) := by
  refine hτ.step ?_ hcov
  clear hτ hcov
  unfold State.putHeader
  (try dsimp only)
  repeat' (first | with_reducible assumption | with_reducible exact Steps.refl _ _ | ((with_reducible refine covers_self ?_); rfl) | ((with_reducible refine State.putWord_in_steps (r := .pool) ?_ ?_ ?_); (focus (simp only [Part.within, portRowAt, viewRowAt, sieveRowAt, weirRowAt, lampRowAt, headRowAt, busRowAt, firstSecondAt, resetStampAt, cellAt, bytesAt, leBytes_length, List.length_take, List.length_drop, List.length_append, List.length_cons, List.length_nil, State.memBytes_length]; (repeat' split) <;> omega))) | with_reducible apply Steps.ite | split | (dsimp only))

theorem State.dropItem_steps {ps : List Part} {σ τ : State} (id : Nat) (hτ : Steps ps σ τ)
    (hcov : covers ps [.mem, .pool, .sluice] = true) : Steps ps σ (State.dropItem τ id) := by
  refine hτ.step ?_ hcov
  clear hτ hcov
  unfold State.dropItem
  (try dsimp only)
  repeat' (first | with_reducible assumption | with_reducible exact Steps.refl _ _ | ((with_reducible refine covers_self ?_); rfl) | with_reducible apply State.setSluice_steps | with_reducible apply State.freeCells_steps | (intro _ _ _) | (intro _ _) | split | (dsimp only))

theorem State.release_steps {ps : List Part} {σ τ : State} (id : Nat) (hτ : Steps ps σ τ)
    (hcov : covers ps [.mem, .pool, .sluice] = true) : Steps ps σ (State.release τ id) := by
  refine hτ.step ?_ hcov
  clear hτ hcov
  unfold State.release
  (try dsimp only)
  repeat' (first | with_reducible assumption | with_reducible exact Steps.refl _ _ | ((with_reducible refine covers_self ?_); rfl) | with_reducible apply State.updItem_steps | with_reducible apply State.dropItem_steps | with_reducible apply Steps.ite | (intro _ _ _) | (intro _ _) | split | (dsimp only))

theorem State.forget_steps {ps : List Part} {σ τ : State} (v : Fin 52) (id : Nat) (hτ : Steps ps σ τ)
    (hcov : covers ps [.tx] = true) : Steps ps σ (State.forget τ v id) := by
  refine hτ.step ?_ hcov
  clear hτ hcov
  unfold State.forget
  (try dsimp only)
  repeat' (first | with_reducible assumption | with_reducible exact Steps.refl _ _ | ((with_reducible refine covers_self ?_); rfl) | with_reducible apply State.updTx_steps | (intro _ _ _) | (intro _ _) | split | (dsimp only))

theorem State.unlink_steps {ps : List Part} {σ τ : State} (v : Fin 52) (id : Nat) (hτ : Steps ps σ τ)
    (hcov : covers ps [.mem, .pool, .tx, .sluice] = true) : Steps ps σ (State.unlink τ v id) := by
  refine hτ.step ?_ hcov
  clear hτ hcov
  unfold State.unlink
  (try dsimp only)
  repeat' (first | with_reducible assumption | with_reducible exact Steps.refl _ _ | ((with_reducible refine covers_self ?_); rfl) | with_reducible apply State.updView_steps | with_reducible apply State.release_steps | with_reducible apply State.forget_steps | (intro _ _ _) | (intro _ _) | (dsimp only))

theorem State.evict_steps {ps : List Part} {σ τ : State} (v : Fin 52) (id : Nat) (hτ : Steps ps σ τ)
    (hcov : covers ps [.mem, .pool, .tx, .sluice] = true) : Steps ps σ (State.evict τ v id) := by
  refine hτ.step ?_ hcov
  clear hτ hcov
  unfold State.evict
  (try dsimp only)
  repeat' (first | with_reducible assumption | with_reducible exact Steps.refl _ _ | ((with_reducible refine covers_self ?_); rfl) | with_reducible apply State.updView_steps | with_reducible apply State.unlink_steps | (intro _ _ _) | (intro _ _) | (dsimp only))

theorem State.refuse_steps {ps : List Part} {σ τ : State} (v : Fin 52) (n : Nat) (hτ : Steps ps σ τ)
    (hcov : covers ps [.sluice] = true) : Steps ps σ (State.refuse τ v n) := by
  refine hτ.step ?_ hcov
  clear hτ hcov
  unfold State.refuse
  (try dsimp only)
  repeat' (first | with_reducible assumption | with_reducible exact Steps.refl _ _ | ((with_reducible refine covers_self ?_); rfl) | with_reducible apply State.updView_steps | (intro _ _ _) | (intro _ _) | (dsimp only))

theorem State.releaseHolds_steps {ps : List Part} {σ τ : State} (v : Fin 52) (hτ : Steps ps σ τ)
    (hcov : covers ps [.mem, .pool, .tx, .sluice] = true) : Steps ps σ (State.releaseHolds τ v) := by
  refine hτ.step ?_ hcov
  clear hτ hcov
  unfold State.releaseHolds
  (try dsimp only)
  repeat' (first | with_reducible assumption | with_reducible exact Steps.refl _ _ | ((with_reducible refine covers_self ?_); rfl) | with_reducible apply State.updTx_steps | with_reducible apply State.release_steps | with_reducible apply Steps.foldl | (intro _ _ _) | (intro _ _) | split | (dsimp only))

theorem State.makeRoom_steps {ps : List Part} {s t : State} (k : Nat) (v : Fin 52) (n : Nat) (h : Steps ps s t)
    (hs : covers ps [.mem, .pool, .tx, .sluice] = true) : Steps ps s (State.makeRoom k t v n) := by
  induction k generalizing t with
  | zero => exact h
  | succ k ih =>
    unfold State.makeRoom
    split
    · exact h
    · split
      · exact ih (State.evict_steps _ _ h hs)
      · exact h

theorem State.roomForAlarm_steps {ps : List Part} {σ τ : State} (v : Fin 52) (n : Nat) (hτ : Steps ps σ τ)
    (hcov : covers ps [.mem, .pool, .tx, .sluice] = true) : Steps ps σ (State.roomForAlarm τ v n) := by
  refine hτ.step ?_ hcov
  clear hτ hcov
  unfold State.roomForAlarm
  (try dsimp only)
  repeat' (first | with_reducible assumption | with_reducible exact Steps.refl _ _ | ((with_reducible refine covers_self ?_); rfl) | with_reducible apply State.releaseHolds_steps | with_reducible apply State.makeRoom_steps | with_reducible apply Steps.ite | split | (dsimp only))

theorem State.poolEvict_steps {ps : List Part} {σ τ : State}  (hτ : Steps ps σ τ)
    (hcov : covers ps [.mem, .pool, .tx, .sluice] = true) : Steps ps σ (State.poolEvict τ) := by
  refine hτ.step ?_ hcov
  clear hτ hcov
  unfold State.poolEvict
  (try dsimp only)
  repeat' (first | with_reducible assumption | with_reducible exact Steps.refl _ _ | ((with_reducible refine covers_self ?_); rfl) | with_reducible apply State.eachView_steps | with_reducible apply State.setSluice_steps | with_reducible apply State.evict_steps | with_reducible apply Steps.ite | (intro _ _ _) | (intro _ _) | split | (dsimp only))

theorem State.letIn_steps {ps : List Part} {σ τ : State} (i : Item) (v : Fin 52) (lw : Option GovNo) (hτ : Steps ps σ τ)
    (hcov : covers ps [.mem, .pool, .tx, .sluice] = true) : Steps ps σ (State.letIn τ i v lw).1 := by
  refine hτ.step ?_ hcov
  clear hτ hcov
  unfold State.letIn
  (try dsimp only)
  repeat' (first | with_reducible assumption | with_reducible exact Steps.refl _ _ | ((with_reducible refine covers_self ?_); rfl) | with_reducible apply State.roomForAlarm_steps | with_reducible apply State.refuse_steps | with_reducible apply Steps.ite | (intro _ _ _) | (intro _ _) | split | (dsimp only))

theorem State.admitAll_steps {ps : List Part} {σ τ : State} (i : Item) (want : BitVec 51) (engine : Bool)
    (lw : BitVec 51) (g : Option GovNo) (hτ : Steps ps σ τ) (hcov : covers ps [.mem, .pool, .tx, .sluice] = true) :
    Steps ps σ (State.admitAll τ i want engine lw g).1 := by
  unfold State.admitAll
  have key : ∀ (l : List (Fin 52)) (a : State × List Admission), Steps ps σ a.1 → Steps ps σ (l.foldl
      (fun (a : State × List Admission) v =>
        if (decide (v.val < 51) && want.getLsbD v.val) || (decide (v = viewEngine) && engine) then
          let got := a.1.letIn i v (if decide (v.val < 51) && lw.getLsbD v.val then g else none)
          let s := got.1
          let r := got.2
          (s, a.2 ++ r.toList)
        else a) a).1 := by
    intro l
    induction l with
    | nil => exact fun _ h => h
    | cons v vs ih =>
      intro a h
      refine ih _ ?_
      dsimp only
      split
      · exact State.letIn_steps _ _ _ h hcov
      · exact h
  exact key _ (τ, []) hτ

theorem State.shadow_steps {ps : List Part} {σ τ : State} (v : Fin 52) (i : Item) (hτ : Steps ps σ τ)
    (hcov : covers ps [.sluice] = true) : Steps ps σ (State.shadow τ v i) := by
  refine hτ.step ?_ hcov
  clear hτ hcov
  unfold State.shadow
  (try dsimp only)
  repeat' (first | with_reducible assumption | with_reducible exact Steps.refl _ _ | ((with_reducible refine covers_self ?_); rfl) | with_reducible apply State.updView_steps | with_reducible apply Steps.ite | (intro _ _ _) | (intro _ _) | split | (dsimp only))

theorem State.makeLink_steps {ps : List Part} {σ τ : State} (i : Item) (a : Admission) (hτ : Steps ps σ τ)
    (hcov : covers ps [.mem, .pool, .tx, .sluice] = true) : Steps ps σ (State.makeLink τ i a) := by
  refine hτ.step ?_ hcov
  clear hτ hcov
  unfold State.makeLink
  (try dsimp only)
  repeat' (first | with_reducible assumption | with_reducible exact Steps.refl _ _ | ((with_reducible refine covers_self ?_); rfl) | with_reducible apply State.shadow_steps | with_reducible apply State.updView_steps | with_reducible apply State.unlink_steps | with_reducible apply State.updTx_steps | with_reducible apply Steps.ite | (intro _ _ _) | (intro _ _) | split | (dsimp only))

theorem State.dropAbandoned_steps {ps : List Part} {σ τ : State} (p : PortNo) (hτ : Steps ps σ τ)
    (hcov : covers ps [.mem, .pool, .tx, .sluice] = true) : Steps ps σ (State.dropAbandoned τ p) := by
  refine hτ.step ?_ hcov
  clear hτ hcov
  unfold State.dropAbandoned
  (try dsimp only)
  repeat' (first | with_reducible assumption | with_reducible exact Steps.refl _ _ | ((with_reducible refine covers_self ?_); rfl) | with_reducible apply State.unlink_steps | with_reducible apply State.refuse_steps | with_reducible apply Steps.foldl | (intro _ _ _) | (intro _ _) | split | (dsimp only))

theorem State.dropLate_steps {ps : List Part} {σ τ : State} (l : List Admission) (hτ : Steps ps σ τ)
    (hcov : covers ps [.mem, .pool, .tx, .sluice] = true) : Steps ps σ (State.dropLate τ l) := by
  refine hτ.step ?_ hcov
  clear hτ hcov
  unfold State.dropLate
  (try dsimp only)
  repeat' (first | with_reducible assumption | with_reducible exact Steps.refl _ _ | ((with_reducible refine covers_self ?_); rfl) | with_reducible apply State.dropAbandoned_steps | with_reducible apply Steps.foldl | (intro _ _ _) | (intro _ _) | split | (dsimp only))

theorem State.matchItem_steps {ps : List Part} {σ τ : State} (id : Nat) (q : Word) (hτ : Steps ps σ τ)
    (hcov : covers ps [.mem, .pool, .sluice] = true) : Steps ps σ (State.matchItem τ id q) := by
  refine hτ.step ?_ hcov
  clear hτ hcov
  unfold State.matchItem
  (try dsimp only)
  repeat' (first | with_reducible assumption | with_reducible exact Steps.refl _ _ | ((with_reducible refine covers_self ?_); rfl) | with_reducible apply State.updItem_steps | ((with_reducible refine State.putWord_in_steps (r := .pool) ?_ ?_ ?_); (focus (simp only [Part.within, portRowAt, viewRowAt, sieveRowAt, weirRowAt, lampRowAt, headRowAt, busRowAt, firstSecondAt, resetStampAt, cellAt, bytesAt, leBytes_length, List.length_take, List.length_drop, List.length_append, List.length_cons, List.length_nil, State.memBytes_length]; (repeat' split) <;> omega))) | (intro _ _ _) | (intro _ _) | split | (dsimp only))

theorem State.commitPair_steps {ps : List Part} {σ τ : State} (i : Item) (hτ : Steps ps σ τ)
    (hcov : covers ps [.mem, .pool, .sluice, .pair, .inject] = true) : Steps ps σ (State.commitPair τ i) := by
  refine hτ.step ?_ hcov
  clear hτ hcov
  unfold State.commitPair
  (try dsimp only)
  repeat' (first | with_reducible assumption | with_reducible exact Steps.refl _ _ | ((with_reducible refine covers_self ?_); rfl) | with_reducible apply State.setPair_steps | with_reducible apply State.sendFrame_steps | with_reducible apply State.matchItem_steps | with_reducible apply Steps.ite | (intro _ _ _) | (intro _ _) | split | (dsimp only))

theorem State.take_steps {ps : List Part} {σ τ : State} (v : Fin 52) (id : Nat) (hτ : Steps ps σ τ)
    (hcov : covers ps [.sluice] = true) : Steps ps σ (State.take τ v id) := by
  refine hτ.step ?_ hcov
  clear hτ hcov
  unfold State.take
  (try dsimp only)
  repeat' (first | with_reducible assumption | with_reducible exact Steps.refl _ _ | ((with_reducible refine covers_self ?_); rfl) | with_reducible apply State.updView_steps | with_reducible apply Steps.ite | (intro _ _ _) | (intro _ _) | split | (dsimp only))

theorem State.letGo_steps {ps : List Part} {σ τ : State} (v : Fin 52) (id : Nat) (hτ : Steps ps σ τ)
    (hcov : covers ps [.mem, .pool, .sluice] = true) : Steps ps σ (State.letGo τ v id) := by
  refine hτ.step ?_ hcov
  clear hτ hcov
  unfold State.letGo
  (try dsimp only)
  repeat' (first | with_reducible assumption | with_reducible exact Steps.refl _ _ | ((with_reducible refine covers_self ?_); rfl) | with_reducible apply State.updView_steps | with_reducible apply State.release_steps | with_reducible apply Steps.ite | (intro _ _ _) | (intro _ _) | split | (dsimp only))

theorem State.pumpPeer_steps {ps : List Part} {s t : State} (n : Nat) (h : Steps ps s t)
    (hs : covers ps [.mem, .pool, .tx, .sluice, .pair, .inject] = true) : Steps ps s (State.pumpPeer n t) := by
  induction n generalizing t with
  | zero => exact h
  | succ n ih =>
    unfold State.pumpPeer
    split
    · exact h
    · split
      · exact h
      · split
        · exact ih (h.step (State.refuse_steps _ _ (State.unlink_steps _ _ (Steps.refl [.mem, .pool, .tx, .sluice, .pair, .inject] _) rfl) rfl) hs)
        · exact ih (h.step (State.sendFrame_steps _ (State.take_steps _ _ (Steps.refl [.mem, .pool, .tx, .sluice, .pair, .inject] _) rfl) rfl) hs)

theorem State.sendPeer_steps {ps : List Part} {σ τ : State}  (hτ : Steps ps σ τ)
    (hcov : covers ps [.mem, .pool, .tx, .sluice, .pair, .inject] = true) : Steps ps σ (State.sendPeer τ) := by
  refine hτ.step ?_ hcov
  clear hτ hcov
  unfold State.sendPeer
  (try dsimp only)
  repeat' (first | with_reducible assumption | with_reducible exact Steps.refl _ _ | ((with_reducible refine covers_self ?_); rfl) | with_reducible apply State.pumpPeer_steps | (dsimp only))

theorem State.commit_steps {ps : List Part} {σ τ : State} (id : Nat) (want : BitVec 51) (engine : Bool) (lw : BitVec 51) (g : Option GovNo) (given : Option Word) (hτ : Steps ps σ τ)
    (hcov : covers ps [.mem, .pool, .tx, .sluice, .pair, .inject] = true) : Steps ps σ (State.commit τ id want engine lw g given).1 := by
  refine hτ.step ?_ hcov
  clear hτ hcov
  unfold State.commit
  (try dsimp only)
  repeat' (first | with_reducible assumption | with_reducible exact Steps.refl _ _ | ((with_reducible refine covers_self ?_); rfl) | with_reducible apply State.setPair_steps | with_reducible apply State.updItem_steps | with_reducible apply State.putHeader_steps | with_reducible apply State.dropItem_steps | with_reducible apply State.admitAll_steps | with_reducible apply State.makeLink_steps | with_reducible apply State.dropLate_steps | with_reducible apply State.commitPair_steps | with_reducible apply State.sendPeer_steps | with_reducible apply Steps.foldl | with_reducible apply Steps.ite | (intro _ _ _) | (intro _ _) | split | (dsimp only))

theorem State.commitAlarm_steps {ps : List Part} {σ τ : State} (id : Nat) (mask : BitVec 51) (hτ : Steps ps σ τ)
    (hcov : covers ps [.mem, .pool, .tx, .sluice, .pair, .inject] = true) : Steps ps σ (State.commitAlarm τ id mask) := by
  refine hτ.step ?_ hcov
  clear hτ hcov
  unfold State.commitAlarm
  (try dsimp only)
  repeat' (first | with_reducible assumption | with_reducible exact Steps.refl _ _ | ((with_reducible refine covers_self ?_); rfl) | with_reducible apply State.updItem_steps | with_reducible apply State.commit_steps | (intro _ _ _) | (intro _ _) | (dsimp only))

theorem State.queueAlarm_steps {ps : List Part} {σ τ : State} (w : AlarmWait) (hτ : Steps ps σ τ)
    (hcov : covers ps [.sluice] = true) : Steps ps σ (State.queueAlarm τ w) := by
  refine hτ.step ?_ hcov
  clear hτ hcov
  unfold State.queueAlarm
  (try dsimp only)
  repeat' (first | with_reducible assumption | with_reducible exact Steps.refl _ _ | ((with_reducible refine covers_self ?_); rfl) | with_reducible apply State.setSluice_steps | with_reducible apply Steps.ite | (intro _ _ _) | (intro _ _) | split | (dsimp only))

theorem State.placeAlarm_steps {ps : List Part} {σ τ : State} (w : AlarmWait) (hτ : Steps ps σ τ)
    (hcov : covers ps [.mem, .pool, .draws, .tx, .sluice, .pair, .inject] = true) : Steps ps σ (State.placeAlarm τ w) := by
  refine hτ.step ?_ hcov
  clear hτ hcov
  unfold State.placeAlarm
  (try dsimp only)
  repeat' (first | with_reducible assumption | with_reducible exact Steps.refl _ _ | ((with_reducible refine covers_self ?_); rfl) | with_reducible apply State.poolEvict_steps | with_reducible apply State.newItem_steps ‹_› | with_reducible apply State.queueAlarm_steps | with_reducible apply State.commitAlarm_steps | with_reducible apply Steps.ite | (intro _ _ _) | (intro _ _) | split | (dsimp only))

theorem State.flushView_steps {ps : List Part} {σ τ : State} (v : Fin 52) (hτ : Steps ps σ τ)
    (hcov : covers ps [.mem, .pool, .tx, .sluice] = true) : Steps ps σ (State.flushView τ v).1 := by
  refine hτ.step ?_ hcov
  clear hτ hcov
  unfold State.flushView
  (try dsimp only)
  repeat' (first | with_reducible assumption | with_reducible exact Steps.refl _ _ | ((with_reducible refine covers_self ?_); rfl) | with_reducible apply State.unlink_steps | with_reducible apply State.releaseHolds_steps | with_reducible apply Steps.foldl | (intro _ _ _) | (intro _ _) | (dsimp only))

theorem State.countHit_steps {ps : List Part} {σ τ : State} (n : Nat) (hτ : Steps ps σ τ)
    (hcov : covers ps [.sieve] = true) : Steps ps σ (State.countHit τ n) := by
  refine hτ.step ?_ hcov
  clear hτ hcov
  unfold State.countHit
  (try dsimp only)
  repeat' (first | with_reducible assumption | with_reducible exact Steps.refl _ _ | ((with_reducible refine covers_self ?_); rfl) | with_reducible apply State.setSieve_steps | (intro _ _ _) | (intro _ _) | (dsimp only))

theorem State.withhold_steps {ps : List Part} {σ τ : State} (g : GovNo) (i : Item) (mask : BitVec 51) (hτ : Steps ps σ τ)
    (hcov : covers ps [.govs] = true) : Steps ps σ (State.withhold τ g i mask) := by
  refine hτ.step ?_ hcov
  clear hτ hcov
  unfold State.withhold
  (try dsimp only)
  repeat' (first | with_reducible assumption | with_reducible exact Steps.refl _ _ | ((with_reducible refine covers_self ?_); rfl) | with_reducible apply State.updGov_steps | with_reducible apply Steps.ite | (intro _ _ _) | (intro _ _) | split | (dsimp only))

theorem State.memberHeld_steps {ps : List Part} {σ τ : State} (i : Item) (hτ : Steps ps σ τ)
    (hcov : covers ps [.govs] = true) : Steps ps σ (State.memberHeld τ i).2 := by
  refine hτ.step ?_ hcov
  clear hτ hcov
  unfold State.memberHeld
  (try dsimp only)
  repeat' (first | with_reducible assumption | with_reducible exact Steps.refl _ _ | ((with_reducible refine covers_self ?_); rfl) | with_reducible apply State.setGovs_steps | with_reducible apply Steps.foldl | with_reducible apply Steps.ite | (intro _ _ _) | (intro _ _) | split | (dsimp only))

theorem State.commitDeferred_steps {ps : List Part} {σ τ : State} (g : GovNo) (i : Item) (hτ : Steps ps σ τ)
    (hcov : covers ps [.mem, .pool, .tx, .sluice, .pair, .inject] = true) : Steps ps σ (State.commitDeferred τ g i) := by
  refine hτ.step ?_ hcov
  clear hτ hcov
  unfold State.commitDeferred
  (try dsimp only)
  repeat' (first | with_reducible assumption | with_reducible exact Steps.refl _ _ | ((with_reducible refine covers_self ?_); rfl) | with_reducible apply State.dropItem_steps | with_reducible apply State.commit_steps | with_reducible apply Steps.ite | (intro _ _ _) | (intro _ _) | split | (dsimp only))

theorem State.releaseQueue_steps {ps : List Part} {σ τ : State} (g : GovNo) (hτ : Steps ps σ τ)
    (hcov : covers ps [.mem, .pool, .tx, .sluice, .pair, .inject] = true) : Steps ps σ (State.releaseQueue τ g) := by
  refine hτ.step ?_ hcov
  clear hτ hcov
  unfold State.releaseQueue
  (try dsimp only)
  repeat' (first | with_reducible assumption | with_reducible exact Steps.refl _ _ | ((with_reducible refine covers_self ?_); rfl) | with_reducible apply State.commitDeferred_steps | with_reducible apply Steps.foldl | (intro _ _ _) | (intro _ _) | (dsimp only))

theorem State.releaseIfDue_steps {ps : List Part} {σ τ : State} (g : GovNo) (hτ : Steps ps σ τ)
    (hcov : covers ps [.mem, .pool, .tx, .sluice, .pair, .inject] = true) : Steps ps σ (State.releaseIfDue τ g) := by
  refine hτ.step ?_ hcov
  clear hτ hcov
  unfold State.releaseIfDue
  (try dsimp only)
  repeat' (first | with_reducible assumption | with_reducible exact Steps.refl _ _ | ((with_reducible refine covers_self ?_); rfl) | with_reducible apply State.releaseQueue_steps | with_reducible apply Steps.ite | split | (dsimp only))

theorem State.drainOne_steps {ps : List Part} {σ τ : State} (g : GovNo) (hτ : Steps ps σ τ)
    (hcov : covers ps [.mem, .pool, .tx, .govs, .sluice, .pair, .inject] = true) : Steps ps σ (State.drainOne τ g) := by
  refine hτ.step ?_ hcov
  clear hτ hcov
  unfold State.drainOne
  (try dsimp only)
  repeat' (first | with_reducible assumption | with_reducible exact Steps.refl _ _ | ((with_reducible refine covers_self ?_); rfl) | with_reducible apply State.updGov_steps | with_reducible apply State.dropItem_steps | with_reducible apply State.commitDeferred_steps | with_reducible apply Steps.ite | (intro _ _ _) | (intro _ _) | split | (dsimp only))

theorem State.drain_steps {ps : List Part} {s t : State} (n : Nat) (g : GovNo) (h : Steps ps s t)
    (hs : covers ps [.mem, .pool, .tx, .govs, .sluice, .pair, .inject] = true) : Steps ps s (State.drain n t g) := by
  induction n generalizing t with
  | zero => exact h
  | succ n ih => exact ih (State.drainOne_steps _ h hs)

theorem State.countPass_steps {ps : List Part} {σ τ : State} (g : GovNo) (hτ : Steps ps σ τ)
    (hcov : covers ps [.govs] = true) : Steps ps σ (State.countPass τ g) := by
  refine hτ.step ?_ hcov
  clear hτ hcov
  unfold State.countPass
  (try dsimp only)
  repeat' (first | with_reducible assumption | with_reducible exact Steps.refl _ _ | ((with_reducible refine covers_self ?_); rfl) | with_reducible apply State.updGov_steps | (intro _ _ _) | (intro _ _) | (dsimp only))

theorem State.countDrop_steps {ps : List Part} {σ τ : State} (g : GovNo) (hτ : Steps ps σ τ)
    (hcov : covers ps [.govs] = true) : Steps ps σ (State.countDrop τ g) := by
  refine hτ.step ?_ hcov
  clear hτ hcov
  unfold State.countDrop
  (try dsimp only)
  repeat' (first | with_reducible assumption | with_reducible exact Steps.refl _ _ | ((with_reducible refine covers_self ?_); rfl) | with_reducible apply State.updGov_steps | (intro _ _ _) | (intro _ _) | (dsimp only))

theorem State.countReplace_steps {ps : List Part} {σ τ : State} (g : GovNo) (hτ : Steps ps σ τ)
    (hcov : covers ps [.govs] = true) : Steps ps σ (State.countReplace τ g) := by
  refine hτ.step ?_ hcov
  clear hτ hcov
  unfold State.countReplace
  (try dsimp only)
  repeat' (first | with_reducible assumption | with_reducible exact Steps.refl _ _ | ((with_reducible refine covers_self ?_); rfl) | with_reducible apply State.updGov_steps | (intro _ _ _) | (intro _ _) | (dsimp only))

theorem State.countDefer_steps {ps : List Part} {σ τ : State} (g : GovNo) (hτ : Steps ps σ τ)
    (hcov : covers ps [.govs] = true) : Steps ps σ (State.countDefer τ g) := by
  refine hτ.step ?_ hcov
  clear hτ hcov
  unfold State.countDefer
  (try dsimp only)
  repeat' (first | with_reducible assumption | with_reducible exact Steps.refl _ _ | ((with_reducible refine covers_self ?_); rfl) | with_reducible apply State.updGov_steps | (intro _ _ _) | (intro _ _) | (dsimp only))

theorem State.enqueue_steps {ps : List Part} {σ τ : State} (g : GovNo) (i : Item) (mask : BitVec 51) (engine : Bool) (given : Option Word) (hτ : Steps ps σ τ)
    (hcov : covers ps [.mem, .pool, .govs, .sluice] = true) : Steps ps σ (State.enqueue τ g i mask engine given).1 := by
  refine hτ.step ?_ hcov
  clear hτ hcov
  unfold State.enqueue
  (try dsimp only)
  repeat' (first | with_reducible assumption | with_reducible exact Steps.refl _ _ | ((with_reducible refine covers_self ?_); rfl) | with_reducible apply State.withhold_steps | with_reducible apply State.dropItem_steps | with_reducible apply State.countDefer_steps | with_reducible apply State.countDrop_steps | with_reducible apply State.setSluice_steps | with_reducible apply Steps.ite | (intro _ _ _) | (intro _ _) | split | (dsimp only))

theorem State.govern_steps {ps : List Part} {σ τ : State} (g : GovNo) (i : Item) (mask : BitVec 51) (held : BitVec 51) (engine : Bool) (given : Option Word) (hτ : Steps ps σ τ)
    (hcov : covers ps [.mem, .pool, .tx, .govs, .sluice, .pair, .inject] = true) : Steps ps σ (State.govern τ g i mask held engine given).1 := by
  refine hτ.step ?_ hcov
  clear hτ hcov
  unfold State.govern
  (try dsimp only)
  repeat' (first | with_reducible assumption | with_reducible exact Steps.refl _ _ | ((with_reducible refine covers_self ?_); rfl) | with_reducible apply State.enqueue_steps | with_reducible apply State.countReplace_steps | with_reducible apply State.withhold_steps | with_reducible apply State.countDrop_steps | with_reducible apply State.releaseIfDue_steps | with_reducible apply State.updGov_steps | with_reducible apply State.drain_steps | with_reducible apply State.commit_steps | with_reducible apply State.countPass_steps | with_reducible apply Steps.ite | (intro _ _ _) | (intro _ _) | split | (dsimp only))

theorem State.decideItem_steps {ps : List Part} {σ τ : State} (id : Nat) (given : Option Word) (hτ : Steps ps σ τ)
    (hcov : covers ps [.mem, .pool, .tx, .sieve, .govs, .sluice, .pair, .inject] = true) : Steps ps σ (State.decideItem τ id given).1 := by
  refine hτ.step ?_ hcov
  clear hτ hcov
  unfold State.decideItem
  (try dsimp only)
  repeat' (first | with_reducible assumption | with_reducible exact Steps.refl _ _ | ((with_reducible refine covers_self ?_); rfl) | with_reducible apply State.updItem_steps | with_reducible apply State.memberHeld_steps | with_reducible apply State.govern_steps | with_reducible apply State.dropItem_steps | with_reducible apply State.countHit_steps | with_reducible apply State.commit_steps | with_reducible apply Steps.ite | (intro _ _ _) | (intro _ _) | split | (dsimp only))

theorem State.decideEnded_steps {ps : List Part} {σ τ : State}  (hτ : Steps ps σ τ)
    (hcov : covers ps [.mem, .pool, .tx, .sieve, .govs, .sluice, .pair, .inject] = true) : Steps ps σ (State.decideEnded τ) := by
  refine hτ.step ?_ hcov
  clear hτ hcov
  unfold State.decideEnded
  (try dsimp only)
  repeat' (first | with_reducible assumption | with_reducible exact Steps.refl _ _ | ((with_reducible refine covers_self ?_); rfl) | with_reducible apply State.decideItem_steps | with_reducible apply Steps.foldl | with_reducible apply Steps.ite | (intro _ _ _) | (intro _ _) | split | (dsimp only))

theorem State.refill_steps {ps : List Part} {σ τ : State} (g : GovNo) (hτ : Steps ps σ τ)
    (hcov : covers ps [.mem, .pool, .tx, .govs, .sluice, .pair, .inject] = true) : Steps ps σ (State.refill τ g) := by
  refine hτ.step ?_ hcov
  clear hτ hcov
  unfold State.refill
  (try dsimp only)
  repeat' (first | with_reducible assumption | with_reducible exact Steps.refl _ _ | ((with_reducible refine covers_self ?_); rfl) | with_reducible apply State.releaseIfDue_steps | with_reducible apply State.updGov_steps | with_reducible apply Steps.ite | (intro _ _ _) | (intro _ _) | split | (dsimp only))

theorem State.makeDevice_steps {ps : List Part} {σ τ : State} (text : List Byte) (hτ : Steps ps σ τ)
    (hcov : covers ps [.mem, .pool, .draws, .sluice] = true) : Steps ps σ (State.makeDevice τ text) := by
  refine hτ.step ?_ hcov
  clear hτ hcov
  unfold State.makeDevice
  (try dsimp only)
  repeat' (first | with_reducible assumption | with_reducible exact Steps.refl _ _ | ((with_reducible refine covers_self ?_); rfl) | with_reducible apply State.newItem_steps ‹_› | with_reducible apply State.countNoCell_steps | split | (dsimp only))

theorem State.noteChange_steps {ps : List Part} {σ τ : State} (t : Stamp) (hτ : Steps ps σ τ)
    (hcov : covers ps [.changes] = true) : Steps ps σ (State.noteChange τ t) := by
  refine hτ.step ?_ hcov
  clear hτ hcov
  unfold State.noteChange
  (try dsimp only)
  repeat' (first | with_reducible assumption | with_reducible exact Steps.refl _ _ | ((with_reducible refine covers_self ?_); rfl) | ((with_reducible apply State.setSettings_changes_steps); (rotate_left 1); (focus (intro _; first | rfl | exact ⟨rfl, fun _ => ⟨fun h => by simp [h], fun h => by simp [h]⟩⟩ | exact ⟨⟨rfl, rfl⟩, fun _ h => by simp [h]⟩ | exact ⟨⟨rfl, rfl⟩, List.prefix_append _ _⟩ | exact ⟨rfl, rfl⟩ | exact ⟨rfl, rfl, rfl⟩ | exact ⟨⟨rfl, rfl⟩, rfl, rfl, rfl⟩ | exact ⟨rfl, rfl, rfl, rfl⟩ | ((try dsimp only); (repeat' split) <;> first | rfl | exact ⟨rfl, rfl⟩ | exact ⟨rfl, rfl, rfl⟩ | exact ⟨rfl, rfl, rfl, rfl⟩ | (simp; done)) | (simp; done))); (rotate_left 1)) | (intro _ _ _) | (intro _ _) | (dsimp only))

theorem State.newDigest_steps {ps : List Part} {σ τ : State}  (hτ : Steps ps σ τ)
    (hcov : covers ps [.changes] = true) : Steps ps σ (State.newDigest τ) := by
  refine hτ.step ?_ hcov
  clear hτ hcov
  unfold State.newDigest
  (try dsimp only)
  repeat' (first | with_reducible assumption | with_reducible exact Steps.refl _ _ | ((with_reducible refine covers_self ?_); rfl) | ((with_reducible apply State.setSettings_changes_steps); (rotate_left 1); (focus (intro _; first | rfl | exact ⟨rfl, fun _ => ⟨fun h => by simp [h], fun h => by simp [h]⟩⟩ | exact ⟨⟨rfl, rfl⟩, fun _ h => by simp [h]⟩ | exact ⟨⟨rfl, rfl⟩, List.prefix_append _ _⟩ | exact ⟨rfl, rfl⟩ | exact ⟨rfl, rfl, rfl⟩ | exact ⟨⟨rfl, rfl⟩, rfl, rfl, rfl⟩ | exact ⟨rfl, rfl, rfl, rfl⟩ | ((try dsimp only); (repeat' split) <;> first | rfl | exact ⟨rfl, rfl⟩ | exact ⟨rfl, rfl, rfl⟩ | exact ⟨rfl, rfl, rfl, rfl⟩ | (simp; done)) | (simp; done))); (rotate_left 1)) | with_reducible apply Steps.ite | (intro _ _ _) | (intro _ _) | split | (dsimp only))

theorem State.oweRecord_steps {ps : List Part} {σ τ : State} (r : Rec) (hτ : Steps ps σ τ)
    (hcov : covers ps [.journal] = true) : Steps ps σ (State.oweRecord τ r) := by
  refine hτ.step ?_ hcov
  clear hτ hcov
  unfold State.oweRecord
  (try dsimp only)
  repeat' (first | with_reducible assumption | with_reducible exact Steps.refl _ _ | ((with_reducible refine covers_self ?_); rfl) | with_reducible apply State.setJournal_steps | with_reducible apply Steps.ite | (intro _ _ _) | (intro _ _) | split | (dsimp only))

theorem State.keepRecord_steps {ps : List Part} {σ τ : State} (kind : Byte) (flags : Byte) (stamp : Stamp) (body : List Byte) (hτ : Steps ps σ τ)
    (hcov : covers ps [.journal] = true) : Steps ps σ (State.keepRecord τ kind flags stamp body) := by
  refine hτ.step ?_ hcov
  clear hτ hcov
  unfold State.keepRecord
  (try dsimp only)
  repeat' (first | with_reducible assumption | with_reducible exact Steps.refl _ _ | ((with_reducible refine covers_self ?_); rfl) | with_reducible apply State.oweRecord_steps | with_reducible apply State.setJournal_steps | with_reducible apply Steps.ite | (intro _ _ _) | (intro _ _) | split | (dsimp only))

theorem State.record_steps {ps : List Part} {σ τ : State} (kind : Byte) (flags : Byte) (stamp : Stamp) (body : List Byte) (hτ : Steps ps σ τ)
    (hcov : covers ps [.journal] = true) : Steps ps σ (State.record τ kind flags stamp body) := by
  refine hτ.step ?_ hcov
  clear hτ hcov
  unfold State.record
  (try dsimp only)
  repeat' (first | with_reducible assumption | with_reducible exact Steps.refl _ _ | ((with_reducible refine covers_self ?_); rfl) | with_reducible apply State.keepRecord_steps | with_reducible apply Steps.ite | split | (dsimp only))

theorem State.configChange_steps {ps : List Part} {σ τ : State} (c : Chan) (code : Nat) (hτ : Steps ps σ τ)
    (hcov : covers ps [.changes, .journal] = true) : Steps ps σ (State.configChange τ c code) := by
  refine hτ.step ?_ hcov
  clear hτ hcov
  unfold State.configChange
  (try dsimp only)
  repeat' (first | with_reducible assumption | with_reducible exact Steps.refl _ _ | ((with_reducible refine covers_self ?_); rfl) | with_reducible apply State.noteChange_steps | with_reducible apply State.newDigest_steps | with_reducible apply State.record_steps | (dsimp only))

theorem State.timeMark_steps {ps : List Part} {σ τ : State} (cause : Nat) (t : Stamp) (hτ : Steps ps σ τ)
    (hcov : covers ps [.journal] = true) : Steps ps σ (State.timeMark τ cause t) := by
  refine hτ.step ?_ hcov
  clear hτ hcov
  unfold State.timeMark
  (try dsimp only)
  repeat' (first | with_reducible assumption | with_reducible exact Steps.refl _ _ | ((with_reducible refine covers_self ?_); rfl) | with_reducible apply State.record_steps | split | (dsimp only))

theorem State.tellEvent_steps {ps : List Part} {σ τ : State} (source : List Byte) (port head code : Nat) (value : Option Nat) (hτ : Steps ps σ τ)
    (hcov : covers ps [.mem, .pool, .draws, .sluice, .journal] = true) : Steps ps σ (State.tellEvent τ source port head code value) := by
  refine hτ.step ?_ hcov
  clear hτ hcov
  unfold State.tellEvent
  (try dsimp only)
  repeat' (first | with_reducible assumption | with_reducible exact Steps.refl _ _ | ((with_reducible refine covers_self ?_); rfl) | with_reducible apply State.makeDevice_steps | with_reducible apply State.record_steps | with_reducible apply Steps.ite | split | (dsimp only))

theorem State.tellOrKeep_steps {ps : List Part} {σ τ : State} (bell : Nat) (source : List Byte) (port head code : Nat) (value : Option Nat) (hτ : Steps ps σ τ)
    (hcov : covers ps [.mem, .pool, .draws, .irq, .bells, .sluice, .journal] = true) : Steps ps σ (State.tellOrKeep τ bell source port head code value) := by
  refine hτ.step ?_ hcov
  clear hτ hcov
  unfold State.tellOrKeep
  (try dsimp only)
  repeat' (first | with_reducible assumption | with_reducible exact Steps.refl _ _ | ((with_reducible refine covers_self ?_); rfl) | with_reducible apply State.ring_steps | with_reducible apply State.tellEvent_steps | with_reducible apply Steps.ite | split | (dsimp only))

theorem State.portEvent_steps {ps : List Part} {σ τ : State} (p : PortNo) (code : Nat) (value : Option Nat) (hτ : Steps ps σ τ)
    (hcov : covers ps [.mem, .pool, .draws, .irq, .bells, .events, .sluice, .journal, .dozeEvents] = true) : Steps ps σ (State.portEvent τ p code value) := by
  refine hτ.step ?_ hcov
  clear hτ hcov
  unfold State.portEvent
  (try dsimp only)
  repeat' (first | with_reducible assumption | with_reducible exact Steps.refl _ _ | ((with_reducible refine covers_self ?_); rfl) | with_reducible apply State.setDozeEvents_steps | with_reducible apply State.tellOrKeep_steps | ((with_reducible apply State.setSettings_events_steps); (rotate_left 1); (focus (intro _; first | rfl | exact ⟨rfl, fun _ => ⟨fun h => by simp [h], fun h => by simp [h]⟩⟩ | exact ⟨⟨rfl, rfl⟩, fun _ h => by simp [h]⟩ | exact ⟨⟨rfl, rfl⟩, List.prefix_append _ _⟩ | exact ⟨rfl, rfl⟩ | exact ⟨rfl, rfl, rfl⟩ | exact ⟨⟨rfl, rfl⟩, rfl, rfl, rfl⟩ | exact ⟨rfl, rfl, rfl, rfl⟩ | ((try dsimp only); (repeat' split) <;> first | rfl | exact ⟨rfl, rfl⟩ | exact ⟨rfl, rfl, rfl⟩ | exact ⟨rfl, rfl, rfl, rfl⟩ | (simp; done)) | (simp; done))); (rotate_left 1)) | with_reducible apply Steps.ite | (intro _ _ _) | (intro _ _) | split | (dsimp only))

theorem State.deviceEvent_steps {ps : List Part} {σ τ : State} (code : Nat) (value : Option Nat) (hτ : Steps ps σ τ)
    (hcov : covers ps [.mem, .pool, .draws, .irq, .bells, .events, .sluice, .journal, .dozeEvents] = true) : Steps ps σ (State.deviceEvent τ code value) := by
  refine hτ.step ?_ hcov
  clear hτ hcov
  unfold State.deviceEvent
  (try dsimp only)
  repeat' (first | with_reducible assumption | with_reducible exact Steps.refl _ _ | ((with_reducible refine covers_self ?_); rfl) | with_reducible apply State.setDozeEvents_steps | with_reducible apply State.tellOrKeep_steps | ((with_reducible apply State.setSettings_events_steps); (rotate_left 1); (focus (intro _; first | rfl | exact ⟨rfl, fun _ => ⟨fun h => by simp [h], fun h => by simp [h]⟩⟩ | exact ⟨⟨rfl, rfl⟩, fun _ h => by simp [h]⟩ | exact ⟨⟨rfl, rfl⟩, List.prefix_append _ _⟩ | exact ⟨rfl, rfl⟩ | exact ⟨rfl, rfl, rfl⟩ | exact ⟨⟨rfl, rfl⟩, rfl, rfl, rfl⟩ | exact ⟨rfl, rfl, rfl, rfl⟩ | ((try dsimp only); (repeat' split) <;> first | rfl | exact ⟨rfl, rfl⟩ | exact ⟨rfl, rfl, rfl⟩ | exact ⟨rfl, rfl, rfl, rfl⟩ | (simp; done)) | (simp; done))); (rotate_left 1)) | with_reducible apply Steps.ite | (intro _ _ _) | (intro _ _) | split | (dsimp only))

theorem State.headEvent_steps {ps : List Part} {σ τ : State} (b : BusNo) (h : HeadNo) (code : Nat) (hτ : Steps ps σ τ)
    (hcov : covers ps [.mem, .pool, .draws, .irq, .bells, .sluice, .journal] = true) : Steps ps σ (State.headEvent τ b h code) := by
  refine hτ.step ?_ hcov
  clear hτ hcov
  unfold State.headEvent
  (try dsimp only)
  repeat' (first | with_reducible assumption | with_reducible exact Steps.refl _ _ | ((with_reducible refine covers_self ?_); rfl) | with_reducible apply State.tellOrKeep_steps | split | (dsimp only))

theorem State.tellDozeEvents_steps {ps : List Part} {σ τ : State}  (hτ : Steps ps σ τ)
    (hcov : covers ps [.mem, .pool, .draws, .irq, .bells, .sluice, .journal, .dozeEvents] = true) : Steps ps σ (State.tellDozeEvents τ) := by
  refine hτ.step ?_ hcov
  clear hτ hcov
  unfold State.tellDozeEvents
  (try dsimp only)
  repeat' (first | with_reducible assumption | with_reducible exact Steps.refl _ _ | ((with_reducible refine covers_self ?_); rfl) | with_reducible apply State.setDozeEvents_steps | with_reducible apply State.tellOrKeep_steps | with_reducible apply Steps.foldl | with_reducible apply Steps.ite | (intro _ _ _) | (intro _ _) | split | (dsimp only))

theorem State.pairRecord_steps {ps : List Part} {σ τ : State}  (hτ : Steps ps σ τ)
    (hcov : covers ps [.journal] = true) : Steps ps σ (State.pairRecord τ) := by
  refine hτ.step ?_ hcov
  clear hτ hcov
  unfold State.pairRecord
  (try dsimp only)
  repeat' (first | with_reducible assumption | with_reducible exact Steps.refl _ _ | ((with_reducible refine covers_self ?_); rfl) | with_reducible apply State.record_steps | with_reducible apply Steps.ite | (intro _ _ _) | (intro _ _) | split | (dsimp only))

theorem State.pairBell_steps {ps : List Part} {σ τ : State}  (hτ : Steps ps σ τ)
    (hcov : covers ps [.irq, .bells, .journal] = true) : Steps ps σ (State.pairBell τ) := by
  refine hτ.step ?_ hcov
  clear hτ hcov
  unfold State.pairBell
  (try dsimp only)
  repeat' (first | with_reducible assumption | with_reducible exact Steps.refl _ _ | ((with_reducible refine covers_self ?_); rfl) | with_reducible apply State.ring_steps | with_reducible apply State.pairRecord_steps | with_reducible apply Steps.ite | (intro _ _ _) | (intro _ _) | split | (dsimp only))

theorem State.tellOwed_steps {ps : List Part} {σ τ : State}  (hτ : Steps ps σ τ)
    (hcov : covers ps [.irq, .bells, .journal] = true) : Steps ps σ (State.tellOwed τ) := by
  refine hτ.step ?_ hcov
  clear hτ hcov
  unfold State.tellOwed
  (try dsimp only)
  repeat' (first | with_reducible assumption | with_reducible exact Steps.refl _ _ | ((with_reducible refine covers_self ?_); rfl) | with_reducible apply State.pairRecord_steps | with_reducible apply State.ringOwed_steps | with_reducible apply Steps.ite | (intro _ _ _) | (intro _ _) | split | (dsimp only))

theorem State.supplyEvent_steps {ps : List Part} {σ τ : State} (bit : Nat) (hτ : Steps ps σ τ)
    (hcov : covers ps [.power, .irq, .bells] = true) : Steps ps σ (State.supplyEvent τ bit) := by
  refine hτ.step ?_ hcov
  clear hτ hcov
  unfold State.supplyEvent
  (try dsimp only)
  repeat' (first | with_reducible assumption | with_reducible exact Steps.refl _ _ | ((with_reducible refine covers_self ?_); rfl) | with_reducible apply State.setPower_steps | with_reducible apply State.raise_steps | with_reducible apply State.ring_steps | (intro _ _ _) | (intro _ _) | (dsimp only))

theorem State.lampRecord_steps {ps : List Part} {σ τ : State} (l : LampNo) (before after : Lamp) (t : Stamp) (hτ : Steps ps σ τ)
    (hcov : covers ps [.journal, .tag] = true) : Steps ps σ (State.lampRecord τ l before after t) := by
  refine hτ.step ?_ hcov
  clear hτ hcov
  unfold State.lampRecord
  (try dsimp only)
  repeat' (first | with_reducible assumption | with_reducible exact Steps.refl _ _ | ((with_reducible refine covers_self ?_); rfl) | with_reducible apply State.setTag_steps | with_reducible apply State.take_steps | with_reducible apply State.record_steps | (intro _ _ _) | (intro _ _) | (dsimp only))

theorem State.makeAlr_steps {ps : List Part} {σ τ : State} (row : Word) (st : BitVec 3) (acked : Bool) (injected : Bool) (t : Stamp) (move : Option LampMove) (hτ : Steps ps σ τ)
    (hcov : covers ps [.mem, .pool, .draws, .tx, .sluice, .pair, .inject] = true) : Steps ps σ (State.makeAlr τ row st acked injected t move) := by
  refine hτ.step ?_ hcov
  clear hτ hcov
  unfold State.makeAlr
  (try dsimp only)
  repeat' (first | with_reducible assumption | with_reducible exact Steps.refl _ _ | ((with_reducible refine covers_self ?_); rfl) | with_reducible apply State.placeAlarm_steps | with_reducible apply Steps.ite | (intro _ _ _) | (intro _ _) | split | (dsimp only))

theorem State.headNotice_steps {ps : List Part} {σ τ : State}  (hτ : Steps ps σ τ)
    (hcov : covers ps [.ports] = true) : Steps ps σ (State.headNotice τ) := by
  refine hτ.step ?_ hcov
  clear hτ hcov
  unfold State.headNotice
  (try dsimp only)
  repeat' (first | with_reducible assumption | with_reducible exact Steps.refl _ _ | ((with_reducible refine covers_self ?_); rfl) | ((with_reducible apply State.mapPorts_ports_steps); (rotate_left 1); (focus (intro _; first | rfl | exact ⟨rfl, fun _ => ⟨fun h => by simp [h], fun h => by simp [h]⟩⟩ | exact ⟨⟨rfl, rfl⟩, fun _ h => by simp [h]⟩ | exact ⟨⟨rfl, rfl⟩, List.prefix_append _ _⟩ | exact ⟨rfl, rfl⟩ | exact ⟨rfl, rfl, rfl⟩ | exact ⟨⟨rfl, rfl⟩, rfl, rfl, rfl⟩ | exact ⟨rfl, rfl, rfl, rfl⟩ | ((try dsimp only); (repeat' split) <;> first | rfl | exact ⟨rfl, rfl⟩ | exact ⟨rfl, rfl, rfl⟩ | exact ⟨rfl, rfl, rfl, rfl⟩ | (simp; done)) | (simp; done))); (rotate_left 1)) | with_reducible apply Steps.ite | (intro _ _ _) | (intro _ _) | split | (dsimp only))

theorem State.finishMove_steps {ps : List Part} {σ τ : State} (m : LampMove) (hτ : Steps ps σ τ)
    (hcov : covers ps [.mem, .pool, .draws, .irq, .bells, .ports, .sluice, .lamps, .pair, .journal, .tag, .inject] = true) : Steps ps σ (State.finishMove τ m) := by
  refine hτ.step ?_ hcov
  clear hτ hcov
  unfold State.finishMove
  (try dsimp only)
  repeat' (first | with_reducible assumption | with_reducible exact Steps.refl _ _ | ((with_reducible refine covers_self ?_); rfl) | with_reducible apply State.sendLamp_steps | with_reducible apply State.ring_steps | with_reducible apply State.updLamp_steps | with_reducible apply State.headNotice_steps | with_reducible apply State.makeDevice_steps | with_reducible apply State.lampRecord_steps | with_reducible apply Steps.ite | (intro _ _ _) | (intro _ _) | split | (dsimp only))

theorem State.afterAlarm_steps {ps : List Part} {σ τ : State} (m : LampMove) (hτ : Steps ps σ τ)
    (hcov : covers ps [.mem, .pool, .draws, .irq, .bells, .ports, .sluice, .lamps, .pair, .journal, .tag, .inject] = true) : Steps ps σ (State.afterAlarm τ m) := by
  refine hτ.step ?_ hcov
  clear hτ hcov
  unfold State.afterAlarm
  (try dsimp only)
  repeat' (first | with_reducible assumption | with_reducible exact Steps.refl _ _ | ((with_reducible refine covers_self ?_); rfl) | with_reducible apply State.finishMove_steps | with_reducible apply Steps.ite | (intro _ _ _) | (intro _ _) | split | (dsimp only))

theorem State.changeLamp_steps {ps : List Part} {σ τ : State} (l : LampNo) (f : Lamp → Lamp) (t : Stamp) (force : Bool) (hτ : Steps ps σ τ)
    (hcov : covers ps [.mem, .pool, .draws, .irq, .bells, .ports, .tx, .sluice, .lamps, .pair, .journal, .tag, .inject] = true) : Steps ps σ (State.changeLamp τ l f t force) := by
  refine hτ.step ?_ hcov
  clear hτ hcov
  unfold State.changeLamp
  (try dsimp only)
  repeat' (first | with_reducible assumption | with_reducible exact Steps.refl _ _ | ((with_reducible refine covers_self ?_); rfl) | with_reducible apply State.sendLamp_steps | with_reducible apply State.updLamp_steps | with_reducible apply State.afterAlarm_steps | with_reducible apply State.headNotice_steps | with_reducible apply State.makeAlr_steps | with_reducible apply State.queueAlarm_steps | with_reducible apply Steps.ite | (intro _ _ _) | (intro _ _) | split | (dsimp only))

theorem State.ackLamp_steps {ps : List Part} {σ τ : State} (l : LampNo) (hτ : Steps ps σ τ)
    (hcov : covers ps [.mem, .pool, .draws, .irq, .bells, .ports, .tx, .sluice, .lamps, .pair, .journal, .tag, .inject] = true) : Steps ps σ (State.ackLamp τ l) := by
  refine hτ.step ?_ hcov
  clear hτ hcov
  unfold State.ackLamp
  (try dsimp only)
  repeat' (first | with_reducible assumption | with_reducible exact Steps.refl _ _ | ((with_reducible refine covers_self ?_); rfl) | with_reducible apply State.updLamp_steps | with_reducible apply State.afterAlarm_steps | with_reducible apply State.makeAlr_steps | with_reducible apply Steps.ite | (intro _ _ _) | (intro _ _) | split | (dsimp only))

theorem State.finishQuiet_steps {ps : List Part} {s t : State} (n : Nat) (h : Steps ps s t)
    (hs : covers ps [.mem, .pool, .draws, .irq, .bells, .ports, .sluice, .lamps, .pair, .journal, .tag, .inject] = true) : Steps ps s (State.finishQuiet n t) := by
  induction n generalizing t with
  | zero => exact h
  | succ n ih =>
    unfold State.finishQuiet
    repeat' (first
      | (with_reducible assumption)
      | ((with_reducible refine covers_self ?_); exact hs)
      | (with_reducible apply ih)
      | (exact State.finishMove_steps _ (State.setSluice_steps _ h (covers_trans hs rfl)) (covers_trans hs rfl))
      | (exact State.setSluice_steps _ h (covers_trans hs rfl))
      | split
      | (dsimp only))

theorem State.placeWaiting_steps {ps : List Part} {σ τ : State}  (hτ : Steps ps σ τ)
    (hcov : covers ps [.mem, .pool, .draws, .irq, .bells, .ports, .tx, .sluice, .lamps, .pair, .journal, .tag, .inject] = true) : Steps ps σ (State.placeWaiting τ) := by
  refine hτ.step ?_ hcov
  clear hτ hcov
  unfold State.placeWaiting
  (try dsimp only)
  repeat' (first | with_reducible assumption | with_reducible exact Steps.refl _ _ | ((with_reducible refine covers_self ?_); rfl) | with_reducible apply State.finishQuiet_steps | with_reducible apply State.newItem_steps ‹_› | with_reducible apply State.finishMove_steps | with_reducible apply State.commitAlarm_steps | with_reducible apply State.setSluice_steps | with_reducible apply Steps.ite | (intro _ _ _) | (intro _ _) | split | (dsimp only))

theorem State.repeatAlr_steps {ps : List Part} {σ τ : State} (l : LampNo) (hτ : Steps ps σ τ)
    (hcov : covers ps [.mem, .pool, .draws, .tx, .sluice, .pair, .inject] = true) : Steps ps σ (State.repeatAlr τ l) := by
  refine hτ.step ?_ hcov
  clear hτ hcov
  unfold State.repeatAlr
  (try dsimp only)
  repeat' (first | with_reducible assumption | with_reducible exact Steps.refl _ _ | ((with_reducible refine covers_self ?_); rfl) | with_reducible apply State.makeAlr_steps | with_reducible apply Steps.ite | (intro _ _ _) | (intro _ _) | split | (dsimp only))

theorem State.endAlarm_steps {ps : List Part} {σ τ : State} (l : LampNo) (hτ : Steps ps σ τ)
    (hcov : covers ps [.mem, .pool, .draws, .irq, .bells, .ports, .tx, .sluice, .lamps, .pair, .journal, .tag, .inject] = true) : Steps ps σ (State.endAlarm τ l) := by
  refine hτ.step ?_ hcov
  clear hτ hcov
  unfold State.endAlarm
  (try dsimp only)
  repeat' (first | with_reducible assumption | with_reducible exact Steps.refl _ _ | ((with_reducible refine covers_self ?_); rfl) | with_reducible apply State.changeLamp_steps | with_reducible apply Steps.ite | (intro _ _ _) | (intro _ _) | split | (dsimp only))

theorem State.takeLampRow_steps {ps : List Part} {σ τ : State} (l : LampNo) (row : Word) (hτ : Steps ps σ τ)
    (hcov : covers ps [.mem, .pool, .draws, .irq, .bells, .ports, .tx, .sluice, .lamps, .pair, .journal, .tag, .inject] = true) : Steps ps σ (State.takeLampRow τ l row) := by
  refine hτ.step ?_ hcov
  clear hτ hcov
  unfold State.takeLampRow
  (try dsimp only)
  repeat' (first | with_reducible assumption | with_reducible exact Steps.refl _ _ | ((with_reducible refine covers_self ?_); rfl) | with_reducible apply State.sendLamp_steps | with_reducible apply State.ring_steps | with_reducible apply State.updLamp_steps | with_reducible apply State.endAlarm_steps | with_reducible apply Steps.ite | (intro _ _ _) | (intro _ _) | split | (dsimp only))

theorem State.takeLampRows_steps {ps : List Part} {σ τ : State}  (hτ : Steps ps σ τ)
    (hcov : covers ps [.mem, .pool, .draws, .irq, .bells, .ports, .tx, .sluice, .lamps, .pair, .journal, .tag, .inject] = true) : Steps ps σ (State.takeLampRows τ) := by
  refine hτ.step ?_ hcov
  clear hτ hcov
  unfold State.takeLampRows
  (try dsimp only)
  repeat' (first | with_reducible assumption | with_reducible exact Steps.refl _ _ | ((with_reducible refine covers_self ?_); rfl) | with_reducible apply State.takeLampRow_steps | with_reducible apply State.eachLamp_steps | with_reducible apply Steps.ite | (intro _ _ _) | (intro _ _) | split | (dsimp only))

theorem State.hostPut_steps {ps : List Part} {σ τ : State} (a : Nat) (b : Byte) (hτ : Steps ps σ τ)
    (hcov : covers ps [.mem, .code, .pool, .boxes, .rows] = true) : Steps ps σ (State.hostPut τ a b) := by
  refine hτ.step ?_ hcov
  clear hτ hcov
  unfold State.hostPut
  (try dsimp only)
  repeat' (first | with_reducible assumption | with_reducible exact Steps.refl _ _ | ((with_reducible refine covers_self ?_); rfl) | with_reducible apply State.putByte_steps | (dsimp only))

theorem State.hostPutWord_steps {ps : List Part} {σ τ : State} (a : Nat) (v : Half) (hτ : Steps ps σ τ)
    (hcov : covers ps [.mem, .code, .pool, .boxes, .rows] = true) : Steps ps σ (State.hostPutWord τ a v) := by
  refine hτ.step ?_ hcov
  clear hτ hcov
  unfold State.hostPutWord
  (try dsimp only)
  repeat' (first | with_reducible assumption | with_reducible exact Steps.refl _ _ | ((with_reducible refine covers_self ?_); rfl) | with_reducible apply State.hostPut_steps | (dsimp only))

theorem State.retireHead_steps {ps : List Part} {σ τ : State} (b : BusNo) (h : HeadNo) (t : Taken) (hτ : Steps ps σ τ)
    (hcov : covers ps [.mem, .pool, .draws, .irq, .bells, .replies, .changes, .ports, .tx, .sluice, .lamps, .buses, .heads, .pair, .journal, .tag, .inject] = true) : Steps ps σ (State.retireHead τ b h t) := by
  refine hτ.step ?_ hcov
  clear hτ hcov
  unfold State.retireHead
  (try dsimp only)
  repeat' (first | with_reducible assumption | with_reducible exact Steps.refl _ _ | ((with_reducible refine covers_self ?_); rfl) | with_reducible apply State.updBus_steps | with_reducible apply State.updHead_steps | with_reducible apply State.eachLamp_steps | with_reducible apply State.reply_steps | with_reducible apply State.configChange_steps | with_reducible apply State.changeLamp_steps | with_reducible apply Steps.ite | (intro _ _ _) | (intro _ _) | split | (dsimp only))

theorem State.endRetire_steps {ps : List Part} {σ τ : State} (b : BusNo) (hτ : Steps ps σ τ)
    (hcov : covers ps [.mem, .pool, .draws, .irq, .bells, .replies, .changes, .ports, .tx, .sluice, .lamps, .buses, .heads, .pair, .journal, .tag, .inject] = true) : Steps ps σ (State.endRetire τ b) := by
  refine hτ.step ?_ hcov
  clear hτ hcov
  unfold State.endRetire
  (try dsimp only)
  repeat' (first | with_reducible assumption | with_reducible exact Steps.refl _ _ | ((with_reducible refine covers_self ?_); rfl) | with_reducible apply State.updBus_steps | with_reducible apply State.retireHead_steps | (intro _ _ _) | (intro _ _) | split | (dsimp only))

theorem State.unattend_steps {ps : List Part} {σ τ : State} (b : BusNo) (hτ : Steps ps σ τ)
    (hcov : covers ps [.heads] = true) : Steps ps σ (State.unattend τ b) := by
  refine hτ.step ?_ hcov
  clear hτ hcov
  unfold State.unattend
  (try dsimp only)
  repeat' (first | with_reducible assumption | with_reducible exact Steps.refl _ _ | ((with_reducible refine covers_self ?_); rfl) | with_reducible apply State.updHead_steps | with_reducible apply Steps.foldl | with_reducible apply Steps.ite | (intro _ _ _) | (intro _ _) | split | (dsimp only))

theorem State.stopBus_steps {ps : List Part} {σ τ : State} (b : BusNo) (hτ : Steps ps σ τ)
    (hcov : covers ps [.mem, .pool, .draws, .irq, .bells, .replies, .changes, .ports, .tx, .sluice, .lamps, .buses, .heads, .pair, .journal, .tag, .inject] = true) : Steps ps σ (State.stopBus τ b) := by
  refine hτ.step ?_ hcov
  clear hτ hcov
  unfold State.stopBus
  (try dsimp only)
  repeat' (first | with_reducible assumption | with_reducible exact Steps.refl _ _ | ((with_reducible refine covers_self ?_); rfl) | with_reducible apply State.updBus_steps | with_reducible apply State.endRetire_steps | with_reducible apply State.unattend_steps | (intro _ _ _) | (intro _ _) | (dsimp only))

theorem State.beginJoin_steps {ps : List Part} {σ τ : State} (b : BusNo) (hτ : Steps ps σ τ)
    (hcov : covers ps [.mem, .pool, .draws, .irq, .bells, .replies, .changes, .ports, .tx, .sluice, .lamps, .buses, .heads, .pair, .journal, .tag, .inject] = true) : Steps ps σ (State.beginJoin τ b) := by
  refine hτ.step ?_ hcov
  clear hτ hcov
  unfold State.beginJoin
  (try dsimp only)
  repeat' (first | with_reducible assumption | with_reducible exact Steps.refl _ _ | ((with_reducible refine covers_self ?_); rfl) | with_reducible apply State.updBus_steps | with_reducible apply State.endRetire_steps | with_reducible apply State.unattend_steps | with_reducible apply State.stopBus_steps | with_reducible apply Steps.ite | (intro _ _ _) | (intro _ _) | split | (dsimp only))

theorem State.joinHead_steps {ps : List Part} {σ τ : State} (b : BusNo) (h : HeadNo) (hτ : Steps ps σ τ)
    (hcov : covers ps [.buses, .heads] = true) : Steps ps σ (State.joinHead τ b h) := by
  refine hτ.step ?_ hcov
  clear hτ hcov
  unfold State.joinHead
  (try dsimp only)
  repeat' (first | with_reducible assumption | with_reducible exact Steps.refl _ _ | ((with_reducible refine covers_self ?_); rfl) | with_reducible apply State.updBus_steps | with_reducible apply State.updHead_steps | (intro _ _ _) | (intro _ _) | (dsimp only))

theorem State.silence_steps {ps : List Part} {σ τ : State} (b : BusNo) (h : HeadNo) (hτ : Steps ps σ τ)
    (hcov : covers ps [.mem, .pool, .draws, .irq, .bells, .sluice, .buses, .heads, .journal] = true) : Steps ps σ (State.silence τ b h) := by
  refine hτ.step ?_ hcov
  clear hτ hcov
  unfold State.silence
  (try dsimp only)
  repeat' (first | with_reducible assumption | with_reducible exact Steps.refl _ _ | ((with_reducible refine covers_self ?_); rfl) | with_reducible apply State.updBus_steps | with_reducible apply State.updHead_steps | with_reducible apply State.headEvent_steps | with_reducible apply Steps.ite | (intro _ _ _) | (intro _ _) | split | (dsimp only))

theorem State.readBack_steps {ps : List Part} {σ τ : State} (p : PortNo) (hτ : Steps ps σ τ)
    (hcov : covers ps [.mem, .pool, .draws, .irq, .bells, .events, .ports, .sluice, .journal, .dozeEvents] = true) : Steps ps σ (State.readBack τ p) := by
  refine hτ.step ?_ hcov
  clear hτ hcov
  unfold State.readBack
  (try dsimp only)
  repeat' (first | with_reducible assumption | with_reducible exact Steps.refl _ _ | ((with_reducible refine covers_self ?_); rfl) | with_reducible apply State.draw_steps | with_reducible apply State.portEvent_steps | ((with_reducible apply State.updPort_ports_steps); (rotate_left 1); (focus (intro _; first | rfl | exact ⟨rfl, fun _ => ⟨fun h => by simp [h], fun h => by simp [h]⟩⟩ | exact ⟨⟨rfl, rfl⟩, fun _ h => by simp [h]⟩ | exact ⟨⟨rfl, rfl⟩, List.prefix_append _ _⟩ | exact ⟨rfl, rfl⟩ | exact ⟨rfl, rfl, rfl⟩ | exact ⟨⟨rfl, rfl⟩, rfl, rfl, rfl⟩ | exact ⟨rfl, rfl, rfl, rfl⟩ | ((try dsimp only); (repeat' split) <;> first | rfl | exact ⟨rfl, rfl⟩ | exact ⟨rfl, rfl, rfl⟩ | exact ⟨rfl, rfl, rfl, rfl⟩ | (simp; done)) | (simp; done))); (rotate_left 1)) | with_reducible apply Steps.ite | (intro _ _ _) | (intro _ _) | split | (dsimp only))

theorem State.readOwn_steps {ps : List Part} {σ τ : State} (p : PortNo) (f : List Byte) (hτ : Steps ps σ τ)
    (hcov : covers ps [.mem, .pool, .draws, .irq, .bells, .events, .ports, .sluice, .journal, .dozeEvents] = true) : Steps ps σ (State.readOwn τ p f) := by
  refine hτ.step ?_ hcov
  clear hτ hcov
  unfold State.readOwn
  (try dsimp only)
  repeat' (first | with_reducible assumption | with_reducible exact Steps.refl _ _ | ((with_reducible refine covers_self ?_); rfl) | with_reducible apply State.readBack_steps | with_reducible apply Steps.foldl | with_reducible apply Steps.ite | (intro _ _ _) | (intro _ _) | split | (dsimp only))

theorem State.driveFrame_steps {ps : List Part} {σ τ : State} (b : BusNo) (f : List Byte) (pulse : Bool) (hτ : Steps ps σ τ)
    (hcov : covers ps [.mem, .pool, .draws, .irq, .bells, .events, .ports, .sluice, .buses, .journal, .dozeEvents] = true) : Steps ps σ (State.driveFrame τ b f pulse) := by
  refine hτ.step ?_ hcov
  clear hτ hcov
  unfold State.driveFrame
  (try dsimp only)
  repeat' (first | with_reducible assumption | with_reducible exact Steps.refl _ _ | ((with_reducible refine covers_self ?_); rfl) | with_reducible apply State.updBus_steps | with_reducible apply State.readOwn_steps | with_reducible apply Steps.ite | (intro _ _ _) | (intro _ _) | split | (dsimp only))

theorem State.newCommand_steps {ps : List Part} {σ τ : State} (b : BusNo) (c : HedgeCmd) (hτ : Steps ps σ τ)
    (hcov : covers ps [.heads] = true) : Steps ps σ (State.newCommand τ b c).1 := by
  refine hτ.step ?_ hcov
  clear hτ hcov
  unfold State.newCommand
  (try dsimp only)
  repeat' (first | with_reducible assumption | with_reducible exact Steps.refl _ _ | ((with_reducible refine covers_self ?_); rfl) | with_reducible apply State.updHead_steps | with_reducible apply Steps.ite | (intro _ _ _) | (intro _ _) | split | (dsimp only))

theorem State.attempt_steps {ps : List Part} {σ τ : State} (b : BusNo) (x : Exchange) (hτ : Steps ps σ τ)
    (hcov : covers ps [.mem, .pool, .draws, .irq, .bells, .events, .ports, .sluice, .buses, .journal, .inject, .dozeEvents] = true) : Steps ps σ (State.attempt τ b x) := by
  refine hτ.step ?_ hcov
  clear hτ hcov
  unfold State.attempt
  (try dsimp only)
  repeat' (first | with_reducible assumption | with_reducible exact Steps.refl _ _ | ((with_reducible refine covers_self ?_); rfl) | with_reducible apply State.updBus_steps | with_reducible apply State.injectAt_steps | with_reducible apply State.injectCount_steps | with_reducible apply State.driveFrame_steps | with_reducible apply Steps.ite | (intro _ _ _) | (intro _ _) | split | (dsimp only))

theorem State.failAttempt_steps {ps : List Part} {σ τ : State} (b : BusNo) (hτ : Steps ps σ τ)
    (hcov : covers ps [.mem, .pool, .draws, .irq, .bells, .replies, .changes, .ports, .tx, .sluice, .lamps, .buses, .heads, .pair, .journal, .tag, .inject] = true) : Steps ps σ (State.failAttempt τ b) := by
  refine hτ.step ?_ hcov
  clear hτ hcov
  unfold State.failAttempt
  (try dsimp only)
  repeat' (first | with_reducible assumption | with_reducible exact Steps.refl _ _ | ((with_reducible refine covers_self ?_); rfl) | with_reducible apply State.silence_steps | with_reducible apply State.endRetire_steps | with_reducible apply State.updBus_steps | with_reducible apply State.updHead_steps | with_reducible apply Steps.ite | (intro _ _ _) | (intro _ _) | split | (dsimp only))

theorem State.collide_steps {ps : List Part} {σ τ : State} (b : BusNo) (hτ : Steps ps σ τ)
    (hcov : covers ps [.irq, .bells, .buses] = true) : Steps ps σ (State.collide τ b) := by
  refine hτ.step ?_ hcov
  clear hτ hcov
  unfold State.collide
  (try dsimp only)
  repeat' (first | with_reducible assumption | with_reducible exact Steps.refl _ _ | ((with_reducible refine covers_self ?_); rfl) | with_reducible apply State.updBus_steps | with_reducible apply State.ring_steps | (intro _ _ _) | (intro _ _) | (dsimp only))

theorem State.pollOrLamp_steps {ps : List Part} {σ τ : State} (b : BusNo) (h : HeadNo) (hτ : Steps ps σ τ)
    (hcov : covers ps [.buses] = true) : Steps ps σ (State.pollOrLamp τ b h).1 := by
  refine hτ.step ?_ hcov
  clear hτ hcov
  unfold State.pollOrLamp
  (try dsimp only)
  repeat' (first | with_reducible assumption | with_reducible exact Steps.refl _ _ | ((with_reducible refine covers_self ?_); rfl) | with_reducible apply State.updBus_steps | with_reducible apply Steps.ite | (intro _ _ _) | (intro _ _) | split | (dsimp only))

theorem State.pickCommand_steps {ps : List Part} {s t : State} (n : Nat) (b : BusNo) (h : Steps ps s t)
    (hs : covers ps [.buses, .heads] = true) : Steps ps s (State.pickCommand n t b).1 := by
  refine h.step ?_ hs
  clear h hs
  induction n generalizing t with
  | zero => exact Steps.refl _ _
  | succ n ih =>
    unfold State.pickCommand
    dsimp only
    repeat' (first
      | (with_reducible exact Steps.refl _ _)
      | ((with_reducible refine covers_self ?_); rfl)
      | (with_reducible apply State.newCommand_steps)
      | (with_reducible apply State.updBus_steps)
      | (with_reducible apply State.pollOrLamp_steps)
      | (with_reducible refine Steps.step ?_ ih ?_)
      | split
      | (dsimp only))

theorem State.broadcast_steps {ps : List Part} {σ τ : State} (b : BusNo) (t : BitVec 7) (payload : List Byte) (pulse : Bool) (hτ : Steps ps σ τ)
    (hcov : covers ps [.mem, .pool, .draws, .irq, .bells, .events, .ports, .sluice, .buses, .journal, .dozeEvents] = true) : Steps ps σ (State.broadcast τ b t payload pulse) := by
  refine hτ.step ?_ hcov
  clear hτ hcov
  unfold State.broadcast
  (try dsimp only)
  repeat' (first | with_reducible assumption | with_reducible exact Steps.refl _ _ | ((with_reducible refine covers_self ?_); rfl) | with_reducible apply State.driveFrame_steps | (dsimp only))

theorem State.sendNext_steps {ps : List Part} {σ τ : State} (b : BusNo) (hτ : Steps ps σ τ)
    (hcov : covers ps [.mem, .pool, .draws, .irq, .bells, .events, .ports, .sluice, .buses, .heads, .journal, .inject, .dozeEvents] = true) : Steps ps σ (State.sendNext τ b) := by
  refine hτ.step ?_ hcov
  clear hτ hcov
  unfold State.sendNext
  (try dsimp only)
  repeat' (first | with_reducible assumption | with_reducible exact Steps.refl _ _ | ((with_reducible refine covers_self ?_); rfl) | with_reducible apply State.updBus_steps | with_reducible apply State.attempt_steps | with_reducible apply State.pickCommand_steps | with_reducible apply State.broadcast_steps | with_reducible apply Steps.ite | (intro _ _ _) | (intro _ _) | split | (dsimp only))

theorem State.confirmLamp_steps {ps : List Part} {σ τ : State} (l : LampNo) (st : Nat) (current : Half) (flashes : Byte) (hτ : Steps ps σ τ)
    (hcov : covers ps [.mem, .pool, .draws, .irq, .bells, .ports, .tx, .sluice, .lamps, .pair, .journal, .tag, .inject] = true) : Steps ps σ (State.confirmLamp τ l st current flashes) := by
  refine hτ.step ?_ hcov
  clear hτ hcov
  unfold State.confirmLamp
  (try dsimp only)
  repeat' (first | with_reducible assumption | with_reducible exact Steps.refl _ _ | ((with_reducible refine covers_self ?_); rfl) | with_reducible apply State.changeLamp_steps | (intro _ _ _) | (intro _ _) | (dsimp only))

theorem State.takeReport_steps {ps : List Part} {σ τ : State} (b : BusNo) (h : HeadNo) (payload : List Byte) (hτ : Steps ps σ τ)
    (hcov : covers ps [.mem, .pool, .draws, .irq, .bells, .ports, .tx, .sluice, .lamps, .pair, .journal, .tag, .inject] = true) : Steps ps σ (State.takeReport τ b h payload) := by
  refine hτ.step ?_ hcov
  clear hτ hcov
  unfold State.takeReport
  (try dsimp only)
  repeat' (first | with_reducible assumption | with_reducible exact Steps.refl _ _ | ((with_reducible refine covers_self ?_); rfl) | with_reducible apply State.eachLamp_steps | with_reducible apply State.confirmLamp_steps | with_reducible apply Steps.foldl | with_reducible apply Steps.ite | (intro _ _ _) | (intro _ _) | split | (dsimp only))

theorem State.acceptReport_steps {ps : List Part} {σ τ : State} (b : BusNo) (h : HeadNo) (payload : List Byte) (hτ : Steps ps σ τ)
    (hcov : covers ps [.mem, .pool, .draws, .irq, .bells, .ports, .tx, .sluice, .lamps, .buses, .heads, .pair, .journal, .tag, .inject] = true) : Steps ps σ (State.acceptReport τ b h payload) := by
  refine hτ.step ?_ hcov
  clear hτ hcov
  unfold State.acceptReport
  (try dsimp only)
  repeat' (first | with_reducible assumption | with_reducible exact Steps.refl _ _ | ((with_reducible refine covers_self ?_); rfl) | with_reducible apply State.updHead_steps | with_reducible apply State.headEvent_steps | with_reducible apply State.joinHead_steps | with_reducible apply State.takeReport_steps | with_reducible apply Steps.ite | (intro _ _ _) | (intro _ _) | split | (dsimp only))

theorem State.acceptInventory_steps {ps : List Part} {σ τ : State} (b : BusNo) (h : HeadNo) (payload : List Byte) (hτ : Steps ps σ τ)
    (hcov : covers ps [.mem, .pool, .draws, .irq, .bells, .sluice, .heads, .journal] = true) : Steps ps σ (State.acceptInventory τ b h payload) := by
  refine hτ.step ?_ hcov
  clear hτ hcov
  unfold State.acceptInventory
  (try dsimp only)
  repeat' (first | with_reducible assumption | with_reducible exact Steps.refl _ _ | ((with_reducible refine covers_self ?_); rfl) | with_reducible apply State.updHead_steps | with_reducible apply State.record_steps | with_reducible apply State.headEvent_steps | with_reducible apply Steps.ite | (intro _ _ _) | (intro _ _) | split | (dsimp only))

theorem State.acceptReply_steps {ps : List Part} {σ τ : State} (b : BusNo) (x : Exchange) (f : HedgeFrame) (hτ : Steps ps σ τ)
    (hcov : covers ps [.mem, .pool, .draws, .irq, .bells, .replies, .changes, .ports, .tx, .sluice, .lamps, .buses, .heads, .pair, .journal, .tag, .inject] = true) : Steps ps σ (State.acceptReply τ b x f) := by
  refine hτ.step ?_ hcov
  clear hτ hcov
  unfold State.acceptReply
  (try dsimp only)
  repeat' (first | with_reducible assumption | with_reducible exact Steps.refl _ _ | ((with_reducible refine covers_self ?_); rfl) | with_reducible apply State.acceptReport_steps | with_reducible apply State.joinHead_steps | with_reducible apply State.endRetire_steps | with_reducible apply State.updBus_steps | with_reducible apply State.acceptInventory_steps | with_reducible apply Steps.ite | (intro _ _ _) | (intro _ _) | split | (dsimp only))

theorem State.takeReply_steps {ps : List Part} {σ τ : State} (b : BusNo) (frame : List Half) (hτ : Steps ps σ τ)
    (hcov : covers ps [.mem, .pool, .draws, .irq, .bells, .replies, .changes, .ports, .tx, .sluice, .lamps, .buses, .heads, .pair, .journal, .tag, .inject] = true) : Steps ps σ (State.takeReply τ b frame) := by
  refine hτ.step ?_ hcov
  clear hτ hcov
  unfold State.takeReply
  (try dsimp only)
  repeat' (first | with_reducible assumption | with_reducible exact Steps.refl _ _ | ((with_reducible refine covers_self ?_); rfl) | with_reducible apply State.injectAt_steps | with_reducible apply State.injectCount_steps | with_reducible apply State.failAttempt_steps | with_reducible apply State.acceptReply_steps | with_reducible apply Steps.ite | (intro _ _ _) | (intro _ _) | split | (dsimp only))

theorem State.headConfigured_steps {ps : List Part} {σ τ : State} (b : BusNo) (h : HeadNo) (hτ : Steps ps σ τ)
    (hcov : covers ps [.buses, .heads] = true) : Steps ps σ (State.headConfigured τ b h) := by
  refine hτ.step ?_ hcov
  clear hτ hcov
  unfold State.headConfigured
  (try dsimp only)
  repeat' (first | with_reducible assumption | with_reducible exact Steps.refl _ _ | ((with_reducible refine covers_self ?_); rfl) | with_reducible apply State.updBus_steps | with_reducible apply State.updHead_steps | with_reducible apply State.joinHead_steps | with_reducible apply Steps.ite | (intro _ _ _) | (intro _ _) | split | (dsimp only))

theorem State.headsConfigured_steps {ps : List Part} {σ τ : State}  (hτ : Steps ps σ τ)
    (hcov : covers ps [.buses, .heads] = true) : Steps ps σ (State.headsConfigured τ) := by
  refine hτ.step ?_ hcov
  clear hτ hcov
  unfold State.headsConfigured
  (try dsimp only)
  repeat' (first | with_reducible assumption | with_reducible exact Steps.refl _ _ | ((with_reducible refine covers_self ?_); rfl) | with_reducible apply State.eachBus_steps | with_reducible apply State.headConfigured_steps | with_reducible apply Steps.foldl | (intro _ _ _) | (intro _ _) | (dsimp only))

theorem State.returnFront_steps {ps : List Part} {σ τ : State} (p : PortNo) (ls : List Link) (hτ : Steps ps σ τ)
    (hcov : covers ps [.sluice] = true) : Steps ps σ (State.returnFront τ p ls) := by
  refine hτ.step ?_ hcov
  clear hτ hcov
  unfold State.returnFront
  (try dsimp only)
  repeat' (first | with_reducible assumption | with_reducible exact Steps.refl _ _ | ((with_reducible refine covers_self ?_); rfl) | with_reducible apply State.updView_steps | with_reducible apply Steps.ite | (intro _ _ _) | (intro _ _) | split | (dsimp only))

theorem State.interruptGroup_steps {ps : List Part} {σ τ : State} (p : PortNo) (hτ : Steps ps σ τ)
    (hcov : covers ps [.tx, .sluice] = true) : Steps ps σ (State.interruptGroup τ p) := by
  refine hτ.step ?_ hcov
  clear hτ hcov
  unfold State.interruptGroup
  (try dsimp only)
  repeat' (first | with_reducible assumption | with_reducible exact Steps.refl _ _ | ((with_reducible refine covers_self ?_); rfl) | with_reducible apply State.returnFront_steps | with_reducible apply State.updTx_steps | with_reducible apply Steps.ite | (intro _ _ _) | (intro _ _) | split | (dsimp only))

theorem State.abandonGroup_steps {ps : List Part} {σ τ : State} (p : PortNo) (hτ : Steps ps σ τ)
    (hcov : covers ps [.mem, .pool, .tx, .sluice] = true) : Steps ps σ (State.abandonGroup τ p) := by
  refine hτ.step ?_ hcov
  clear hτ hcov
  unfold State.abandonGroup
  (try dsimp only)
  repeat' (first | with_reducible assumption | with_reducible exact Steps.refl _ _ | ((with_reducible refine covers_self ?_); rfl) | with_reducible apply State.updTx_steps | with_reducible apply State.release_steps | with_reducible apply State.dropAbandoned_steps | with_reducible apply Steps.foldl | (intro _ _ _) | (intro _ _) | split | (dsimp only))

theorem State.yieldGroup_steps {ps : List Part} {σ τ : State} (p : PortNo) (hτ : Steps ps σ τ)
    (hcov : covers ps [.tx, .sluice] = true) : Steps ps σ (State.yieldGroup τ p) := by
  refine hτ.step ?_ hcov
  clear hτ hcov
  unfold State.yieldGroup
  (try dsimp only)
  repeat' (first | with_reducible assumption | with_reducible exact Steps.refl _ _ | ((with_reducible refine covers_self ?_); rfl) | with_reducible apply State.interruptGroup_steps | with_reducible apply State.updTx_steps | with_reducible apply Steps.ite | (intro _ _ _) | (intro _ _) | split | (dsimp only))

theorem State.yieldGroups_steps {ps : List Part} {σ τ : State}  (hτ : Steps ps σ τ)
    (hcov : covers ps [.tx, .sluice] = true) : Steps ps σ (State.yieldGroups τ) := by
  refine hτ.step ?_ hcov
  clear hτ hcov
  unfold State.yieldGroups
  (try dsimp only)
  repeat' (first | with_reducible assumption | with_reducible exact Steps.refl _ _ | ((with_reducible refine covers_self ?_); rfl) | with_reducible apply State.eachPort_steps | with_reducible apply State.yieldGroup_steps | with_reducible apply Steps.ite | (intro _ _ _) | (intro _ _) | split | (dsimp only))

theorem State.releaseItem_steps {ps : List Part} {σ τ : State} (i : Item) (hτ : Steps ps σ τ)
    (hcov : covers ps [.mem, .pool, .sluice] = true) : Steps ps σ (State.releaseItem τ i) := by
  refine hτ.step ?_ hcov
  clear hτ hcov
  unfold State.releaseItem
  (try dsimp only)
  repeat' (first | with_reducible assumption | with_reducible exact Steps.refl _ _ | ((with_reducible refine covers_self ?_); rfl) | with_reducible apply State.setSluice_steps | with_reducible apply State.dropItem_steps | with_reducible apply Steps.ite | (intro _ _ _) | (intro _ _) | split | (dsimp only))

theorem State.releaseHeld_steps {ps : List Part} {σ τ : State} (k : Fin 16) (hτ : Steps ps σ τ)
    (hcov : covers ps [.mem, .pool, .tx, .sluice] = true) : Steps ps σ (State.releaseHeld τ k) := by
  refine hτ.step ?_ hcov
  clear hτ hcov
  unfold State.releaseHeld
  (try dsimp only)
  repeat' (first | with_reducible assumption | with_reducible exact Steps.refl _ _ | ((with_reducible refine covers_self ?_); rfl) | with_reducible apply State.releaseItem_steps | ((with_reducible apply State.mapPorts_tx_steps); (rotate_left 1); (focus (intro _; first | rfl | exact ⟨rfl, fun _ => ⟨fun h => by simp [h], fun h => by simp [h]⟩⟩ | exact ⟨⟨rfl, rfl⟩, fun _ h => by simp [h]⟩ | exact ⟨⟨rfl, rfl⟩, List.prefix_append _ _⟩ | exact ⟨rfl, rfl⟩ | exact ⟨rfl, rfl, rfl⟩ | exact ⟨⟨rfl, rfl⟩, rfl, rfl, rfl⟩ | exact ⟨rfl, rfl, rfl, rfl⟩ | ((try dsimp only); (repeat' split) <;> first | rfl | exact ⟨rfl, rfl⟩ | exact ⟨rfl, rfl, rfl⟩ | exact ⟨rfl, rfl, rfl, rfl⟩ | (simp; done)) | (simp; done))); (rotate_left 1)) | with_reducible apply Steps.foldl | (intro _ _ _) | (intro _ _) | (dsimp only))

theorem State.clearSlot_steps {ps : List Part} {σ τ : State} (k : Fin 16) (hτ : Steps ps σ τ)
    (hcov : covers ps [.mem, .pool, .tx, .sluice, .pair, .inject] = true) : Steps ps σ (State.clearSlot τ k) := by
  refine hτ.step ?_ hcov
  clear hτ hcov
  unfold State.clearSlot
  (try dsimp only)
  repeat' (first | with_reducible assumption | with_reducible exact Steps.refl _ _ | ((with_reducible refine covers_self ?_); rfl) | with_reducible apply State.sendWithheld_steps | with_reducible apply State.releaseHeld_steps | with_reducible apply State.setInject_steps | with_reducible apply Steps.ite | (intro _ _ _) | (intro _ _) | split | (dsimp only))

theorem State.clearSlots_steps {ps : List Part} {σ τ : State}  (hτ : Steps ps σ τ)
    (hcov : covers ps [.mem, .pool, .tx, .sluice, .pair, .inject] = true) : Steps ps σ (State.clearSlots τ) := by
  refine hτ.step ?_ hcov
  clear hτ hcov
  unfold State.clearSlots
  (try dsimp only)
  repeat' (first | with_reducible assumption | with_reducible exact Steps.refl _ _ | ((with_reducible refine covers_self ?_); rfl) | with_reducible apply State.clearSlot_steps | with_reducible apply Steps.foldl | (intro _ _ _) | (intro _ _) | (dsimp only))

theorem State.cutSending_steps {ps : List Part} {σ τ : State} (p : PortNo) (begun : Bool) (hτ : Steps ps σ τ)
    (hcov : covers ps [.mem, .pool, .tx, .sluice] = true) : Steps ps σ (State.cutSending τ p begun) := by
  refine hτ.step ?_ hcov
  clear hτ hcov
  unfold State.cutSending
  (try dsimp only)
  repeat' (first | with_reducible assumption | with_reducible exact Steps.refl _ _ | ((with_reducible refine covers_self ?_); rfl) | with_reducible apply State.returnFront_steps | with_reducible apply State.abandonGroup_steps | with_reducible apply State.letGo_steps | with_reducible apply State.updTx_steps | with_reducible apply Steps.ite | (intro _ _ _) | (intro _ _) | split | (dsimp only))

theorem State.sendDelivered_steps {ps : List Part} {σ τ : State} (p : PortNo) (seq : Word) (hτ : Steps ps σ τ)
    (hcov : covers ps [.pair, .inject] = true) : Steps ps σ (State.sendDelivered τ p seq) := by
  refine hτ.step ?_ hcov
  clear hτ hcov
  unfold State.sendDelivered
  (try dsimp only)
  repeat' (first | with_reducible assumption | with_reducible exact Steps.refl _ _ | ((with_reducible refine covers_self ?_); rfl) | with_reducible apply State.sendFrame_steps | with_reducible apply Steps.ite | split | (dsimp only))

theorem State.driveAll_steps {ps : List Part} {σ τ : State}  (hτ : Steps ps σ τ)
    (hcov : covers ps [.ports, .tx] = true) : Steps ps σ (State.driveAll τ) := by
  refine hτ.step ?_ hcov
  clear hτ hcov
  unfold State.driveAll
  (try dsimp only)
  repeat' (first | with_reducible assumption | with_reducible exact Steps.refl _ _ | ((with_reducible refine covers_self ?_); rfl) | with_reducible apply State.mapPorts_steps | (intro _ _ _) | (intro _ _) | (dsimp only))

theorem State.setJoins_steps {ps : List Part} {σ τ : State}  (hτ : Steps ps σ τ)
    (hcov : covers ps [.ports] = true) : Steps ps σ (State.setJoins τ) := by
  refine hτ.step ?_ hcov
  clear hτ hcov
  unfold State.setJoins
  (try dsimp only)
  repeat' (first | with_reducible assumption | with_reducible exact Steps.refl _ _ | ((with_reducible refine covers_self ?_); rfl) | ((with_reducible apply State.mapPorts_ports_steps); (rotate_left 1); (focus (intro _; first | rfl | exact ⟨rfl, fun _ => ⟨fun h => by simp [h], fun h => by simp [h]⟩⟩ | exact ⟨⟨rfl, rfl⟩, fun _ h => by simp [h]⟩ | exact ⟨⟨rfl, rfl⟩, List.prefix_append _ _⟩ | exact ⟨rfl, rfl⟩ | exact ⟨rfl, rfl, rfl⟩ | exact ⟨⟨rfl, rfl⟩, rfl, rfl, rfl⟩ | exact ⟨rfl, rfl, rfl, rfl⟩ | ((try dsimp only); (repeat' split) <;> first | rfl | exact ⟨rfl, rfl⟩ | exact ⟨rfl, rfl, rfl⟩ | exact ⟨rfl, rfl, rfl, rfl⟩ | (simp; done)) | (simp; done))); (rotate_left 1)) | with_reducible apply Steps.ite | (intro _ _ _) | (intro _ _) | split | (dsimp only))

theorem State.adoptTx_steps {ps : List Part} {σ τ : State} (p : PortNo) (hτ : Steps ps σ τ)
    (hcov : covers ps [.ports, .tx] = true) : Steps ps σ (State.adoptTx τ p) := by
  refine hτ.step ?_ hcov
  clear hτ hcov
  unfold State.adoptTx
  (try dsimp only)
  repeat' (first | with_reducible assumption | with_reducible exact Steps.refl _ _ | ((with_reducible refine covers_self ?_); rfl) | with_reducible apply State.updPort_steps | ((with_reducible apply State.updPort_ports_steps); (rotate_left 1); (focus (intro _; first | rfl | exact ⟨rfl, fun _ => ⟨fun h => by simp [h], fun h => by simp [h]⟩⟩ | exact ⟨⟨rfl, rfl⟩, fun _ h => by simp [h]⟩ | exact ⟨⟨rfl, rfl⟩, List.prefix_append _ _⟩ | exact ⟨rfl, rfl⟩ | exact ⟨rfl, rfl, rfl⟩ | exact ⟨⟨rfl, rfl⟩, rfl, rfl, rfl⟩ | exact ⟨rfl, rfl, rfl, rfl⟩ | ((try dsimp only); (repeat' split) <;> first | rfl | exact ⟨rfl, rfl⟩ | exact ⟨rfl, rfl, rfl⟩ | exact ⟨rfl, rfl, rfl, rfl⟩ | (simp; done)) | (simp; done))); (rotate_left 1)) | with_reducible apply Steps.ite | (intro _ _ _) | (intro _ _) | split | (dsimp only))

theorem State.settleSent_steps {ps : List Part} {σ τ : State} (p : PortNo) (i : Item) (hτ : Steps ps σ τ)
    (hcov : covers ps [.mem, .pool, .tx, .sluice] = true) : Steps ps σ (State.settleSent τ p i) := by
  refine hτ.step ?_ hcov
  clear hτ hcov
  unfold State.settleSent
  (try dsimp only)
  repeat' (first | with_reducible assumption | with_reducible exact Steps.refl _ _ | ((with_reducible refine covers_self ?_); rfl) | with_reducible apply State.interruptGroup_steps | with_reducible apply State.updView_steps | with_reducible apply State.letGo_steps | with_reducible apply State.updTx_steps | with_reducible apply State.release_steps | with_reducible apply Steps.foldl | with_reducible apply Steps.ite | (intro _ _ _) | (intro _ _) | split | (dsimp only))

theorem State.retireView_steps {ps : List Part} {σ τ : State} (v : Fin 52) (hold : Bool) (hτ : Steps ps σ τ)
    (hcov : covers ps [.mem, .pool, .tx, .sluice] = true) : Steps ps σ (State.retireView τ v hold) := by
  refine hτ.step ?_ hcov
  clear hτ hcov
  unfold State.retireView
  (try dsimp only)
  repeat' (first | with_reducible assumption | with_reducible exact Steps.refl _ _ | ((with_reducible refine covers_self ?_); rfl) | with_reducible apply State.flushView_steps | with_reducible apply State.updView_steps | with_reducible apply State.updTx_steps | with_reducible apply State.yieldGroup_steps | with_reducible apply Steps.ite | (intro _ _ _) | (intro _ _) | split | (dsimp only))

theorem State.txBoundary_steps {ps : List Part} {σ τ : State} (p : PortNo) (hτ : Steps ps σ τ)
    (hcov : covers ps [.mem, .pool, .ports, .tx, .sluice] = true) : Steps ps σ (State.txBoundary τ p) := by
  refine hτ.step ?_ hcov
  clear hτ hcov
  unfold State.txBoundary
  (try dsimp only)
  repeat' (first | with_reducible assumption | with_reducible exact Steps.refl _ _ | ((with_reducible refine covers_self ?_); rfl) | with_reducible apply State.retireView_steps | ((with_reducible apply State.updPort_ports_steps); (rotate_left 1); (focus (intro _; first | rfl | exact ⟨rfl, fun _ => ⟨fun h => by simp [h], fun h => by simp [h]⟩⟩ | exact ⟨⟨rfl, rfl⟩, fun _ h => by simp [h]⟩ | exact ⟨⟨rfl, rfl⟩, List.prefix_append _ _⟩ | exact ⟨rfl, rfl⟩ | exact ⟨rfl, rfl, rfl⟩ | exact ⟨⟨rfl, rfl⟩, rfl, rfl, rfl⟩ | exact ⟨rfl, rfl, rfl, rfl⟩ | ((try dsimp only); (repeat' split) <;> first | rfl | exact ⟨rfl, rfl⟩ | exact ⟨rfl, rfl, rfl⟩ | exact ⟨rfl, rfl, rfl, rfl⟩ | (simp; done)) | (simp; done))); (rotate_left 1)) | with_reducible apply Steps.ite | (intro _ _ _) | (intro _ _) | split | (dsimp only))

theorem State.endSending_steps {ps : List Part} {σ τ : State} (p : PortNo) (hτ : Steps ps σ τ)
    (hcov : covers ps [.mem, .pool, .ports, .tx, .sluice, .pair, .inject] = true) : Steps ps σ (State.endSending τ p) := by
  refine hτ.step ?_ hcov
  clear hτ hcov
  unfold State.endSending
  (try dsimp only)
  repeat' (first | with_reducible assumption | with_reducible exact Steps.refl _ _ | ((with_reducible refine covers_self ?_); rfl) | with_reducible apply State.updTx_steps | with_reducible apply State.sendDelivered_steps | with_reducible apply State.adoptTx_steps | with_reducible apply State.settleSent_steps | with_reducible apply State.txBoundary_steps | (intro _ _ _) | (intro _ _) | split | (dsimp only))

theorem State.skipMembers_steps {ps : List Part} {s t : State} (n : Nat) (p : PortNo) (h : Steps ps s t)
    (hs : covers ps [.mem, .pool, .tx, .sluice] = true) : Steps ps s (State.skipMembers n t p) := by
  induction n generalizing t with
  | zero => exact h
  | succ n ih =>
    unfold State.skipMembers
    split
    · exact h
    · split
      · exact ih (h.step (State.unlink_steps _ _ (State.refuse_steps _ _ (Steps.refl [.mem, .pool, .tx, .sluice] _) rfl) rfl) hs)
      · exact h

theorem State.begin_steps {ps : List Part} {σ τ : State} (p : PortNo) (i : Item) (bytes : List Byte) (cts : Bool) (hτ : Steps ps σ τ)
    (hcov : covers ps [.tx, .sluice] = true) : Steps ps σ (State.begin τ p i bytes cts) := by
  refine hτ.step ?_ hcov
  clear hτ hcov
  unfold State.begin
  (try dsimp only)
  repeat' (first | with_reducible assumption | with_reducible exact Steps.refl _ _ | ((with_reducible refine covers_self ?_); rfl) | with_reducible apply State.take_steps | with_reducible apply State.updView_steps | with_reducible apply State.updTx_steps | with_reducible apply Steps.ite | (intro _ _ _) | (intro _ _) | split | (dsimp only))

theorem State.dropAtListener_steps {ps : List Part} {σ τ : State} (p : PortNo) (i : Item) (hτ : Steps ps σ τ)
    (hcov : covers ps [.mem, .pool, .tx, .sluice] = true) : Steps ps σ (State.dropAtListener τ p i) := by
  refine hτ.step ?_ hcov
  clear hτ hcov
  unfold State.dropAtListener
  (try dsimp only)
  repeat' (first | with_reducible assumption | with_reducible exact Steps.refl _ _ | ((with_reducible refine covers_self ?_); rfl) | with_reducible apply State.updTx_steps | with_reducible apply State.unlink_steps | with_reducible apply State.dropAbandoned_steps | with_reducible apply State.abandonGroup_steps | with_reducible apply Steps.ite | (intro _ _ _) | (intro _ _) | split | (dsimp only))

theorem State.sendItem_steps {ps : List Part} {σ τ : State} (p : PortNo) (i : Item) (cts : Bool) (hτ : Steps ps σ τ)
    (hcov : covers ps [.mem, .pool, .tx, .sluice, .inject] = true) : Steps ps σ (State.sendItem τ p i cts) := by
  refine hτ.step ?_ hcov
  clear hτ hcov
  unfold State.sendItem
  (try dsimp only)
  repeat' (first | with_reducible assumption | with_reducible exact Steps.refl _ _ | ((with_reducible refine covers_self ?_); rfl) | with_reducible apply State.injectAt_steps | with_reducible apply State.injectCount_steps | with_reducible apply State.dropAtListener_steps | with_reducible apply State.refuse_steps | with_reducible apply State.begin_steps | with_reducible apply State.updTx_steps | with_reducible apply Steps.ite | (intro _ _ _) | (intro _ _) | split | (dsimp only))

theorem State.putRts_steps {ps : List Part} {σ τ : State} (p : PortNo) (hτ : Steps ps σ τ)
    (hcov : covers ps [.ports] = true) : Steps ps σ (State.putRts τ p) := by
  refine hτ.step ?_ hcov
  clear hτ hcov
  unfold State.putRts
  (try dsimp only)
  repeat' (first | with_reducible assumption | with_reducible exact Steps.refl _ _ | ((with_reducible refine covers_self ?_); rfl) | ((with_reducible apply State.updPort_ports_steps); (rotate_left 1); (focus (intro _; first | rfl | exact ⟨rfl, fun _ => ⟨fun h => by simp [h], fun h => by simp [h]⟩⟩ | exact ⟨⟨rfl, rfl⟩, fun _ h => by simp [h]⟩ | exact ⟨⟨rfl, rfl⟩, List.prefix_append _ _⟩ | exact ⟨rfl, rfl⟩ | exact ⟨rfl, rfl, rfl⟩ | exact ⟨⟨rfl, rfl⟩, rfl, rfl, rfl⟩ | exact ⟨rfl, rfl, rfl, rfl⟩ | ((try dsimp only); (repeat' split) <;> first | rfl | exact ⟨rfl, rfl⟩ | exact ⟨rfl, rfl, rfl⟩ | exact ⟨rfl, rfl, rfl, rfl⟩ | (simp; done)) | (simp; done))); (rotate_left 1)) | with_reducible apply Steps.ite | (intro _ _ _) | (intro _ _) | split | (dsimp only))

theorem State.fall_steps {ps : List Part} {σ τ : State} (p : PortNo) (hτ : Steps ps σ τ)
    (hcov : covers ps [.mem, .pool, .draws, .irq, .bells, .events, .ports, .sluice, .journal, .dozeEvents] = true) : Steps ps σ (State.fall τ p) := by
  refine hτ.step ?_ hcov
  clear hτ hcov
  unfold State.fall
  (try dsimp only)
  repeat' (first | with_reducible assumption | with_reducible exact Steps.refl _ _ | ((with_reducible refine covers_self ?_); rfl) | with_reducible apply State.portEvent_steps | ((with_reducible apply State.updPort_ports_steps); (rotate_left 1); (focus (intro _; first | rfl | exact ⟨rfl, fun _ => ⟨fun h => by simp [h], fun h => by simp [h]⟩⟩ | exact ⟨⟨rfl, rfl⟩, fun _ h => by simp [h]⟩ | exact ⟨⟨rfl, rfl⟩, List.prefix_append _ _⟩ | exact ⟨rfl, rfl⟩ | exact ⟨rfl, rfl, rfl⟩ | exact ⟨⟨rfl, rfl⟩, rfl, rfl, rfl⟩ | exact ⟨rfl, rfl, rfl, rfl⟩ | ((try dsimp only); (repeat' split) <;> first | rfl | exact ⟨rfl, rfl⟩ | exact ⟨rfl, rfl, rfl⟩ | exact ⟨rfl, rfl, rfl, rfl⟩ | (simp; done)) | (simp; done))); (rotate_left 1)) | with_reducible apply Steps.ite | (intro _ _ _) | (intro _ _) | split | (dsimp only))

theorem State.dropPartial_steps {ps : List Part} {σ τ : State} (p : PortNo) (hτ : Steps ps σ τ)
    (hcov : covers ps [.mem, .pool, .ports, .sluice] = true) : Steps ps σ (State.dropPartial τ p) := by
  refine hτ.step ?_ hcov
  clear hτ hcov
  unfold State.dropPartial
  (try dsimp only)
  repeat' (first | with_reducible assumption | with_reducible exact Steps.refl _ _ | ((with_reducible refine covers_self ?_); rfl) | with_reducible apply State.updAsm_steps | with_reducible apply State.freeCells_steps | (intro _ _ _) | (intro _ _) | (dsimp only))

theorem State.armRx_steps {ps : List Part} {σ τ : State} (p : PortNo) (hτ : Steps ps σ τ)
    (hcov : covers ps [.mem, .pool, .ports, .sluice] = true) : Steps ps σ (State.armRx τ p) := by
  refine hτ.step ?_ hcov
  clear hτ hcov
  unfold State.armRx
  (try dsimp only)
  repeat' (first | with_reducible assumption | with_reducible exact Steps.refl _ _ | ((with_reducible refine covers_self ?_); rfl) | with_reducible apply State.dropPartial_steps | ((with_reducible apply State.updPort_ports_steps); (rotate_left 1); (focus (intro _; first | rfl | exact ⟨rfl, fun _ => ⟨fun h => by simp [h], fun h => by simp [h]⟩⟩ | exact ⟨⟨rfl, rfl⟩, fun _ h => by simp [h]⟩ | exact ⟨⟨rfl, rfl⟩, List.prefix_append _ _⟩ | exact ⟨rfl, rfl⟩ | exact ⟨rfl, rfl, rfl⟩ | exact ⟨⟨rfl, rfl⟩, rfl, rfl, rfl⟩ | exact ⟨rfl, rfl, rfl, rfl⟩ | ((try dsimp only); (repeat' split) <;> first | rfl | exact ⟨rfl, rfl⟩ | exact ⟨rfl, rfl, rfl⟩ | exact ⟨rfl, rfl, rfl, rfl⟩ | (simp; done)) | (simp; done))); (rotate_left 1)) | with_reducible apply Steps.ite | (intro _ _ _) | (intro _ _) | split | (dsimp only))

theorem State.hedgeRole_steps {ps : List Part} {σ τ : State}  (hτ : Steps ps σ τ)
    (hcov : covers ps [.mem, .pool, .draws, .irq, .bells, .replies, .changes, .ports, .tx, .sluice, .lamps, .buses, .heads, .pair, .journal, .tag, .inject] = true) : Steps ps σ (State.hedgeRole τ) := by
  refine hτ.step ?_ hcov
  clear hτ hcov
  unfold State.hedgeRole
  (try dsimp only)
  repeat' (first | with_reducible assumption | with_reducible exact Steps.refl _ _ | ((with_reducible refine covers_self ?_); rfl) | with_reducible apply State.eachBus_steps | with_reducible apply State.stopBus_steps | with_reducible apply State.beginJoin_steps | with_reducible apply Steps.ite | (intro _ _ _) | (intro _ _) | split | (dsimp only))

theorem State.takeRxRow_steps {ps : List Part} {σ τ : State} (p : PortNo) (hτ : Steps ps σ τ)
    (hcov : covers ps [.mem, .pool, .draws, .irq, .bells, .replies, .changes, .ports, .tx, .sluice, .lamps, .buses, .heads, .pair, .journal, .tag, .inject] = true) : Steps ps σ (State.takeRxRow τ p) := by
  refine hτ.step ?_ hcov
  clear hτ hcov
  unfold State.takeRxRow
  (try dsimp only)
  repeat' (first | with_reducible assumption | with_reducible exact Steps.refl _ _ | ((with_reducible refine covers_self ?_); rfl) | with_reducible apply State.headNotice_steps | with_reducible apply State.dropPartial_steps | with_reducible apply State.hedgeRole_steps | ((with_reducible apply State.updPort_ports_steps); (rotate_left 1); (focus (intro _; first | rfl | exact ⟨rfl, fun _ => ⟨fun h => by simp [h], fun h => by simp [h]⟩⟩ | exact ⟨⟨rfl, rfl⟩, fun _ h => by simp [h]⟩ | exact ⟨⟨rfl, rfl⟩, List.prefix_append _ _⟩ | exact ⟨rfl, rfl⟩ | exact ⟨rfl, rfl, rfl⟩ | exact ⟨⟨rfl, rfl⟩, rfl, rfl, rfl⟩ | exact ⟨rfl, rfl, rfl, rfl⟩ | ((try dsimp only); (repeat' split) <;> first | rfl | exact ⟨rfl, rfl⟩ | exact ⟨rfl, rfl, rfl⟩ | exact ⟨rfl, rfl, rfl, rfl⟩ | (simp; done)) | (simp; done))); (rotate_left 1)) | with_reducible apply Steps.ite | (intro _ _ _) | (intro _ _) | split | (dsimp only))

theorem State.rxBoundary_steps {ps : List Part} {σ τ : State} (p : PortNo) (hτ : Steps ps σ τ)
    (hcov : covers ps [.mem, .pool, .draws, .irq, .bells, .replies, .changes, .ports, .tx, .sluice, .lamps, .buses, .heads, .pair, .journal, .tag, .inject] = true) : Steps ps σ (State.rxBoundary τ p) := by
  refine hτ.step ?_ hcov
  clear hτ hcov
  unfold State.rxBoundary
  (try dsimp only)
  repeat' (first | with_reducible assumption | with_reducible exact Steps.refl _ _ | ((with_reducible refine covers_self ?_); rfl) | with_reducible apply State.takeRxRow_steps | ((with_reducible apply State.updPort_ports_steps); (rotate_left 1); (focus (intro _; first | rfl | exact ⟨rfl, fun _ => ⟨fun h => by simp [h], fun h => by simp [h]⟩⟩ | exact ⟨⟨rfl, rfl⟩, fun _ h => by simp [h]⟩ | exact ⟨⟨rfl, rfl⟩, List.prefix_append _ _⟩ | exact ⟨rfl, rfl⟩ | exact ⟨rfl, rfl, rfl⟩ | exact ⟨⟨rfl, rfl⟩, rfl, rfl, rfl⟩ | exact ⟨rfl, rfl, rfl, rfl⟩ | ((try dsimp only); (repeat' split) <;> first | rfl | exact ⟨rfl, rfl⟩ | exact ⟨rfl, rfl, rfl⟩ | exact ⟨rfl, rfl, rfl, rfl⟩ | (simp; done)) | (simp; done))); (rotate_left 1)) | with_reducible apply Steps.ite | (intro _ _ _) | (intro _ _) | split | (dsimp only))

theorem State.park_steps {ps : List Part} {σ τ : State} (p : PortNo) (hτ : Steps ps σ τ)
    (hcov : covers ps [.mem, .pool, .draws, .irq, .bells, .replies, .changes, .ports, .tx, .sluice, .lamps, .buses, .heads, .pair, .journal, .tag, .inject] = true) : Steps ps σ (State.park τ p) := by
  refine hτ.step ?_ hcov
  clear hτ hcov
  unfold State.park
  (try dsimp only)
  repeat' (first | with_reducible assumption | with_reducible exact Steps.refl _ _ | ((with_reducible refine covers_self ?_); rfl) | with_reducible apply State.updView_steps | with_reducible apply State.rxBoundary_steps | with_reducible apply State.yieldGroup_steps | ((with_reducible apply State.updPort_ports_steps); (rotate_left 1); (focus (intro _; first | rfl | exact ⟨rfl, fun _ => ⟨fun h => by simp [h], fun h => by simp [h]⟩⟩ | exact ⟨⟨rfl, rfl⟩, fun _ h => by simp [h]⟩ | exact ⟨⟨rfl, rfl⟩, List.prefix_append _ _⟩ | exact ⟨rfl, rfl⟩ | exact ⟨rfl, rfl, rfl⟩ | exact ⟨⟨rfl, rfl⟩, rfl, rfl, rfl⟩ | exact ⟨rfl, rfl, rfl, rfl⟩ | ((try dsimp only); (repeat' split) <;> first | rfl | exact ⟨rfl, rfl⟩ | exact ⟨rfl, rfl, rfl⟩ | exact ⟨rfl, rfl, rfl, rfl⟩ | (simp; done)) | (simp; done))); (rotate_left 1)) | with_reducible apply Steps.ite | (intro _ _ _) | (intro _ _) | split | (dsimp only))

theorem State.unpark_steps {ps : List Part} {σ τ : State} (p : PortNo) (hτ : Steps ps σ τ)
    (hcov : covers ps [.mem, .pool, .ports, .sluice] = true) : Steps ps σ (State.unpark τ p) := by
  refine hτ.step ?_ hcov
  clear hτ hcov
  unfold State.unpark
  (try dsimp only)
  repeat' (first | with_reducible assumption | with_reducible exact Steps.refl _ _ | ((with_reducible refine covers_self ?_); rfl) | with_reducible apply State.armRx_steps | with_reducible apply State.updView_steps | ((with_reducible apply State.updPort_ports_steps); (rotate_left 1); (focus (intro _; first | rfl | exact ⟨rfl, fun _ => ⟨fun h => by simp [h], fun h => by simp [h]⟩⟩ | exact ⟨⟨rfl, rfl⟩, fun _ h => by simp [h]⟩ | exact ⟨⟨rfl, rfl⟩, List.prefix_append _ _⟩ | exact ⟨rfl, rfl⟩ | exact ⟨rfl, rfl, rfl⟩ | exact ⟨⟨rfl, rfl⟩, rfl, rfl, rfl⟩ | exact ⟨rfl, rfl, rfl, rfl⟩ | ((try dsimp only); (repeat' split) <;> first | rfl | exact ⟨rfl, rfl⟩ | exact ⟨rfl, rfl, rfl⟩ | exact ⟨rfl, rfl, rfl, rfl⟩ | (simp; done)) | (simp; done))); (rotate_left 1)) | with_reducible apply Steps.ite | (intro _ _ _) | (intro _ _) | split | (dsimp only))

theorem State.releaseListeners_steps {ps : List Part} {σ τ : State}  (hτ : Steps ps σ τ)
    (hcov : covers ps [.mem, .pool, .ports, .tx, .sluice] = true) : Steps ps σ (State.releaseListeners τ) := by
  refine hτ.step ?_ hcov
  clear hτ hcov
  unfold State.releaseListeners
  (try dsimp only)
  repeat' (first | with_reducible assumption | with_reducible exact Steps.refl _ _ | ((with_reducible refine covers_self ?_); rfl) | with_reducible apply State.eachPort_steps | with_reducible apply State.cutSending_steps | with_reducible apply State.mapPorts_steps | with_reducible apply Steps.ite | (intro _ _ _) | (intro _ _) | split | (dsimp only))

theorem State.cutAll_steps {ps : List Part} {σ τ : State}  (hτ : Steps ps σ τ)
    (hcov : covers ps [.mem, .pool, .tx, .sluice] = true) : Steps ps σ (State.cutAll τ) := by
  refine hτ.step ?_ hcov
  clear hτ hcov
  unfold State.cutAll
  (try dsimp only)
  repeat' (first | with_reducible assumption | with_reducible exact Steps.refl _ _ | ((with_reducible refine covers_self ?_); rfl) | with_reducible apply State.updTx_steps | with_reducible apply State.eachPort_steps | with_reducible apply State.cutSending_steps | (intro _ _ _) | (intro _ _) | split | (dsimp only))

theorem State.returnPeer_steps {ps : List Part} {σ τ : State}  (hτ : Steps ps σ τ)
    (hcov : covers ps [.sluice] = true) : Steps ps σ (State.returnPeer τ) := by
  refine hτ.step ?_ hcov
  clear hτ hcov
  unfold State.returnPeer
  (try dsimp only)
  repeat' (first | with_reducible assumption | with_reducible exact Steps.refl _ _ | ((with_reducible refine covers_self ?_); rfl) | with_reducible apply State.updView_steps | with_reducible apply Steps.ite | (intro _ _ _) | (intro _ _) | split | (dsimp only))

theorem State.linkDown_steps {ps : List Part} {σ τ : State}  (hτ : Steps ps σ τ)
    (hcov : covers ps [.irq, .bells, .sluice, .pair, .journal] = true) : Steps ps σ (State.linkDown τ) := by
  refine hτ.step ?_ hcov
  clear hτ hcov
  unfold State.linkDown
  (try dsimp only)
  repeat' (first | with_reducible assumption | with_reducible exact Steps.refl _ _ | ((with_reducible refine covers_self ?_); rfl) | with_reducible apply State.setPair_steps | with_reducible apply State.pairBell_steps | with_reducible apply State.returnPeer_steps | with_reducible apply Steps.ite | (intro _ _ _) | (intro _ _) | split | (dsimp only))

theorem State.dropRole_steps {ps : List Part} {σ τ : State} (r : Role) (hτ : Steps ps σ τ)
    (hcov : covers ps [.irq, .bells, .sluice, .pair, .journal] = true) : Steps ps σ (State.dropRole τ r) := by
  refine hτ.step ?_ hcov
  clear hτ hcov
  unfold State.dropRole
  (try dsimp only)
  repeat' (first | with_reducible assumption | with_reducible exact Steps.refl _ _ | ((with_reducible refine covers_self ?_); rfl) | with_reducible apply State.returnPeer_steps | with_reducible apply State.pairBell_steps | with_reducible apply State.setPair_steps | with_reducible apply State.setSluice_steps | with_reducible apply Steps.ite | (intro _ _ _) | (intro _ _) | split | (dsimp only))

theorem State.takeRole_steps {ps : List Part} {σ τ : State}  (hτ : Steps ps σ τ)
    (hcov : covers ps [.irq, .bells, .pair, .journal] = true) : Steps ps σ (State.takeRole τ) := by
  refine hτ.step ?_ hcov
  clear hτ hcov
  unfold State.takeRole
  (try dsimp only)
  repeat' (first | with_reducible assumption | with_reducible exact Steps.refl _ _ | ((with_reducible refine covers_self ?_); rfl) | with_reducible apply State.pairBell_steps | with_reducible apply State.setPair_steps | with_reducible apply Steps.ite | (intro _ _ _) | (intro _ _) | split | (dsimp only))

theorem State.noted_steps {ps : List Part} {σ τ : State} (before : Pair) (hτ : Steps ps σ τ)
    (hcov : covers ps [.irq, .bells, .journal] = true) : Steps ps σ (State.noted τ before) := by
  refine hτ.step ?_ hcov
  clear hτ hcov
  unfold State.noted
  (try dsimp only)
  repeat' (first | with_reducible assumption | with_reducible exact Steps.refl _ _ | ((with_reducible refine covers_self ?_); rfl) | with_reducible apply State.pairBell_steps | with_reducible apply Steps.ite | (intro _ _ _) | (intro _ _) | split | (dsimp only))

theorem State.seeDuty_steps {ps : List Part} {σ τ : State} (level : Bool) (hτ : Steps ps σ τ)
    (hcov : covers ps [.pair] = true) : Steps ps σ (State.seeDuty τ level) := by
  refine hτ.step ?_ hcov
  clear hτ hcov
  unfold State.seeDuty
  (try dsimp only)
  repeat' (first | with_reducible assumption | with_reducible exact Steps.refl _ _ | ((with_reducible refine covers_self ?_); rfl) | with_reducible apply State.setPair_steps | with_reducible apply Steps.ite | (intro _ _ _) | (intro _ _) | split | (dsimp only))

theorem State.becomeDuty_steps {ps : List Part} {σ τ : State}  (hτ : Steps ps σ τ)
    (hcov : covers ps [.mem, .pool, .draws, .irq, .bells, .replies, .changes, .ports, .tx, .sluice, .lamps, .buses, .heads, .pair, .journal, .tag, .inject] = true) : Steps ps σ (State.becomeDuty τ) := by
  refine hτ.step ?_ hcov
  clear hτ hcov
  unfold State.becomeDuty
  (try dsimp only)
  repeat' (first | with_reducible assumption | with_reducible exact Steps.refl _ _ | ((with_reducible refine covers_self ?_); rfl) | with_reducible apply State.setPair_steps | with_reducible apply State.beginJoin_steps | with_reducible apply State.driveAll_steps | with_reducible apply Steps.foldl | with_reducible apply Steps.ite | (intro _ _ _) | (intro _ _) | split | (dsimp only))

theorem State.yieldDuty_steps {ps : List Part} {σ τ : State} (r : Role) (hτ : Steps ps σ τ)
    (hcov : covers ps [.mem, .pool, .draws, .irq, .bells, .replies, .changes, .ports, .tx, .sluice, .lamps, .buses, .heads, .pair, .journal, .tag, .inject] = true) : Steps ps σ (State.yieldDuty τ r) := by
  refine hτ.step ?_ hcov
  clear hτ hcov
  unfold State.yieldDuty
  (try dsimp only)
  repeat' (first | with_reducible assumption | with_reducible exact Steps.refl _ _ | ((with_reducible refine covers_self ?_); rfl) | with_reducible apply State.eachBus_steps | with_reducible apply State.setPair_steps | with_reducible apply State.stopBus_steps | with_reducible apply State.releaseListeners_steps | with_reducible apply Steps.ite | (intro _ _ _) | (intro _ _) | split | (dsimp only))

theorem State.advanceHandover_steps {ps : List Part} {σ τ : State}  (hτ : Steps ps σ τ)
    (hcov : covers ps [.mem, .pool, .draws, .irq, .bells, .replies, .changes, .ports, .tx, .sluice, .lamps, .buses, .heads, .pair, .journal, .tag, .inject] = true) : Steps ps σ (State.advanceHandover τ) := by
  refine hτ.step ?_ hcov
  clear hτ hcov
  unfold State.advanceHandover
  (try dsimp only)
  repeat' (first | with_reducible assumption | with_reducible exact Steps.refl _ _ | ((with_reducible refine covers_self ?_); rfl) | with_reducible apply State.setPair_steps | with_reducible apply State.sendFrame_steps | with_reducible apply State.pairBell_steps | with_reducible apply State.yieldDuty_steps | with_reducible apply Steps.ite | (intro _ _ _) | (intro _ _) | split | (dsimp only))

theorem State.tagRead_steps {ps : List Part} {σ τ : State} (b : Nat) (hτ : Steps ps σ τ)
    (hcov : covers ps [.draws] = true) : Steps ps σ (State.tagRead τ b).2 := by
  refine hτ.step ?_ hcov
  clear hτ hcov
  unfold State.tagRead
  (try dsimp only)
  repeat' (first | with_reducible assumption | with_reducible exact Steps.refl _ _ | ((with_reducible refine covers_self ?_); rfl) | with_reducible apply State.draw_steps | with_reducible apply Steps.ite | split | (dsimp only))

theorem State.raiseTag_steps {ps : List Part} {σ τ : State}  (hτ : Steps ps σ τ)
    (hcov : covers ps [.irq] = true) : Steps ps σ (State.raiseTag τ) := by
  refine hτ.step ?_ hcov
  clear hτ hcov
  unfold State.raiseTag
  (try dsimp only)
  repeat' (first | with_reducible assumption | with_reducible exact Steps.refl _ _ | ((with_reducible refine covers_self ?_); rfl) | with_reducible apply State.raise_steps | with_reducible apply Steps.ite | split | (dsimp only))

theorem State.fieldWrote_steps {ps : List Part} {σ τ : State} (w : FieldWrite) (hτ : Steps ps σ τ)
    (hcov : covers ps [.irq, .bells, .tag] = true) : Steps ps σ (State.fieldWrote τ w) := by
  refine hτ.step ?_ hcov
  clear hτ hcov
  unfold State.fieldWrote
  (try dsimp only)
  repeat' (first | with_reducible assumption | with_reducible exact Steps.refl _ _ | ((with_reducible refine covers_self ?_); rfl) | with_reducible apply State.setTag_steps | with_reducible apply State.ring_steps | with_reducible apply State.raiseTag_steps | with_reducible apply Steps.ite | (intro _ _ _) | (intro _ _) | split | (dsimp only))

theorem State.checkRecord_steps {ps : List Part} {σ τ : State}  (hτ : Steps ps σ τ)
    (hcov : covers ps [.irq, .bells, .tag] = true) : Steps ps σ (State.checkRecord τ) := by
  refine hτ.step ?_ hcov
  clear hτ hcov
  unfold State.checkRecord
  (try dsimp only)
  repeat' (first | with_reducible assumption | with_reducible exact Steps.refl _ _ | ((with_reducible refine covers_self ?_); rfl) | with_reducible apply State.setTag_steps | with_reducible apply State.ring_steps | with_reducible apply Steps.ite | (intro _ _ _) | (intro _ _) | split | (dsimp only))

theorem State.startPublish_steps {ps : List Part} {σ τ : State}  (hτ : Steps ps σ τ)
    (hcov : covers ps [.tag] = true) : Steps ps σ (State.startPublish τ) := by
  refine hτ.step ?_ hcov
  clear hτ hcov
  unfold State.startPublish
  (try dsimp only)
  repeat' (first | with_reducible assumption | with_reducible exact Steps.refl _ _ | ((with_reducible refine covers_self ?_); rfl) | with_reducible apply State.setTag_steps | with_reducible apply Steps.ite | (intro _ _ _) | (intro _ _) | split | (dsimp only))

theorem State.cutPublish_steps {ps : List Part} {σ τ : State}  (hτ : Steps ps σ τ)
    (hcov : covers ps [.draws, .tag] = true) : Steps ps σ (State.cutPublish τ) := by
  refine hτ.step ?_ hcov
  clear hτ hcov
  unfold State.cutPublish
  (try dsimp only)
  repeat' (first | with_reducible assumption | with_reducible exact Steps.refl _ _ | ((with_reducible refine covers_self ?_); rfl) | with_reducible apply State.draw_steps | with_reducible apply State.setTag_steps | (intro _ _ _) | (intro _ _) | split | (dsimp only))

theorem State.undoPublish_steps {ps : List Part} {σ τ : State}  (hτ : Steps ps σ τ)
    (hcov : covers ps [.tag] = true) : Steps ps σ (State.undoPublish τ) := by
  refine hτ.step ?_ hcov
  clear hτ hcov
  unfold State.undoPublish
  (try dsimp only)
  repeat' (first | with_reducible assumption | with_reducible exact Steps.refl _ _ | ((with_reducible refine covers_self ?_); rfl) | with_reducible apply State.setTag_steps | with_reducible apply Steps.ite | (intro _ _ _) | (intro _ _) | split | (dsimp only))

theorem State.readRegionB_steps {ps : List Part} {σ τ : State}  (hτ : Steps ps σ τ)
    (hcov : covers ps [.changes, .journal, .tag] = true) : Steps ps σ (State.readRegionB τ) := by
  refine hτ.step ?_ hcov
  clear hτ hcov
  unfold State.readRegionB
  (try dsimp only)
  repeat' (first | with_reducible assumption | with_reducible exact Steps.refl _ _ | ((with_reducible refine covers_self ?_); rfl) | with_reducible apply State.setTag_steps | with_reducible apply State.take_steps | with_reducible apply State.noteChange_steps | with_reducible apply State.record_steps | with_reducible apply Steps.ite | (intro _ _ _) | (intro _ _) | split | (dsimp only))

theorem State.answer_steps {ps : List Part} {σ τ : State} (a : TagAnswer) (hτ : Steps ps σ τ)
    (hcov : covers ps [.tag] = true) : Steps ps σ (State.answer τ a) := by
  refine hτ.step ?_ hcov
  clear hτ hcov
  unfold State.answer
  (try dsimp only)
  repeat' (first | with_reducible assumption | with_reducible exact Steps.refl _ _ | ((with_reducible refine covers_self ?_); rfl) | with_reducible apply State.setTag_steps | (intro _ _ _) | (intro _ _) | (dsimp only))

theorem State.tagServe_steps {ps : List Part} {σ τ : State} (r : TagReq) (f : State → State) (hτ : Steps ps σ τ) (hf : ∀ υ, Steps ps σ υ → Steps ps σ (f υ)) (hcov : covers ps [.tag] = true) :
    Steps ps σ (State.tagServe τ r f) := by
  unfold State.tagServe
  (try dsimp only)
  repeat' (first | with_reducible assumption | with_reducible exact Steps.refl _ _ | with_reducible apply hf | with_reducible exact covers_trans hcov rfl | ((with_reducible refine covers_self ?_); rfl) | with_reducible apply State.answer_steps | with_reducible apply Steps.ite | split | (dsimp only))

theorem State.fieldRead_steps {ps : List Part} {σ τ : State} (r : TagReq) (b n top : Nat) (hτ : Steps ps σ τ)
    (hcov : covers ps [.tag] = true) : Steps ps σ (State.fieldRead τ r b n top) := by
  refine hτ.step ?_ hcov
  clear hτ hcov
  unfold State.fieldRead
  (try dsimp only)
  repeat' (first | with_reducible assumption | with_reducible exact Steps.refl _ _ | ((with_reducible refine covers_self ?_); rfl) | with_reducible apply State.answer_steps | with_reducible apply State.tagServe_steps | with_reducible apply Steps.ite | (intro _ _ _) | (intro _ _) | split | (dsimp only))

theorem State.fieldWriteStart_steps {ps : List Part} {σ τ : State} (w : FieldWrite) (energy : Bool) (hτ : Steps ps σ τ)
    (hcov : covers ps [.tag] = true) : Steps ps σ (State.fieldWriteStart τ w energy) := by
  refine hτ.step ?_ hcov
  clear hτ hcov
  unfold State.fieldWriteStart
  (try dsimp only)
  repeat' (first | with_reducible assumption | with_reducible exact Steps.refl _ _ | ((with_reducible refine covers_self ?_); rfl) | with_reducible apply State.setTag_steps | with_reducible apply State.answer_steps | with_reducible apply Steps.ite | (intro _ _ _) | (intro _ _) | split | (dsimp only))

theorem State.fieldWrite_steps {ps : List Part} {σ τ : State} (r : TagReq) (b : Nat) (top : Nat) (data : Word) (energy : Bool) (hτ : Steps ps σ τ)
    (hcov : covers ps [.tag] = true) : Steps ps σ (State.fieldWrite τ r b top data energy) := by
  refine hτ.step ?_ hcov
  clear hτ hcov
  unfold State.fieldWrite
  (try dsimp only)
  repeat' (first | with_reducible assumption | with_reducible exact Steps.refl _ _ | ((with_reducible refine covers_self ?_); rfl) | with_reducible apply State.answer_steps | with_reducible apply State.fieldWriteStart_steps | with_reducible apply State.tagServe_steps | with_reducible apply Steps.ite | (intro _ _ _) | (intro _ _) | split | (dsimp only))

theorem State.modeRecord_steps {ps : List Part} {σ τ : State} (w : Window) (m : Mode) (hτ : Steps ps σ τ)
    (hcov : covers ps [.changes, .journal] = true) : Steps ps σ (State.modeRecord τ w m) := by
  refine hτ.step ?_ hcov
  clear hτ hcov
  unfold State.modeRecord
  (try dsimp only)
  repeat' (first | with_reducible assumption | with_reducible exact Steps.refl _ _ | ((with_reducible refine covers_self ?_); rfl) | with_reducible apply State.oweRecord_steps | with_reducible apply State.keepRecord_steps | with_reducible apply State.noteChange_steps | with_reducible apply Steps.ite | (intro _ _ _) | (intro _ _) | split | (dsimp only))

theorem State.modesDone_steps {ps : List Part} {σ τ : State}  (hτ : Steps ps σ τ)
    (hcov : covers ps [.modes, .irq] = true) : Steps ps σ (State.modesDone τ) := by
  refine hτ.step ?_ hcov
  clear hτ hcov
  unfold State.modesDone
  (try dsimp only)
  repeat' (first | with_reducible assumption | with_reducible exact Steps.refl _ _ | ((with_reducible refine covers_self ?_); rfl) | with_reducible apply State.setModes_steps | with_reducible apply State.raise_steps | with_reducible apply Steps.foldl | (intro _ _ _) | (intro _ _) | (dsimp only))

theorem State.emptySluice_steps {ps : List Part} {σ τ : State}  (hτ : Steps ps σ τ)
    (hcov : covers ps [.mem, .pool, .ports, .tx, .sluice] = true) : Steps ps σ (State.emptySluice τ) := by
  refine hτ.step ?_ hcov
  clear hτ hcov
  unfold State.emptySluice
  (try dsimp only)
  repeat' (first | with_reducible assumption | with_reducible exact Steps.refl _ _ | ((with_reducible refine covers_self ?_); rfl) | with_reducible apply State.dropPartial_steps | with_reducible apply State.eachPort_steps | with_reducible apply State.freeCells_steps | with_reducible apply State.setSluice_steps | ((with_reducible apply State.mapPorts_tx_steps); (rotate_left 1); (focus (intro _; first | rfl | exact ⟨rfl, fun _ => ⟨fun h => by simp [h], fun h => by simp [h]⟩⟩ | exact ⟨⟨rfl, rfl⟩, fun _ h => by simp [h]⟩ | exact ⟨⟨rfl, rfl⟩, List.prefix_append _ _⟩ | exact ⟨rfl, rfl⟩ | exact ⟨rfl, rfl, rfl⟩ | exact ⟨⟨rfl, rfl⟩, rfl, rfl, rfl⟩ | exact ⟨rfl, rfl, rfl, rfl⟩ | ((try dsimp only); (repeat' split) <;> first | rfl | exact ⟨rfl, rfl⟩ | exact ⟨rfl, rfl, rfl⟩ | exact ⟨rfl, rfl, rfl, rfl⟩ | (simp; done)) | (simp; done))); (rotate_left 1)) | with_reducible apply Steps.foldl | with_reducible apply Steps.ite | (intro _ _ _) | (intro _ _) | split | (dsimp only))

theorem State.closePorts_steps {ps : List Part} {σ τ : State}  (hτ : Steps ps σ τ)
    (hcov : covers ps [.ports, .tx] = true) : Steps ps σ (State.closePorts τ) := by
  refine hτ.step ?_ hcov
  clear hτ hcov
  unfold State.closePorts
  (try dsimp only)
  repeat' (first | with_reducible assumption | with_reducible exact Steps.refl _ _ | ((with_reducible refine covers_self ?_); rfl) | with_reducible apply State.mapPorts_steps | with_reducible apply Steps.ite | (intro _ _ _) | (intro _ _) | split | (dsimp only))

theorem State.stopBuses_steps {ps : List Part} {σ τ : State}  (hτ : Steps ps σ τ)
    (hcov : covers ps [.mem, .pool, .draws, .irq, .bells, .replies, .changes, .ports, .tx, .sluice, .lamps, .buses, .heads, .pair, .journal, .tag, .inject] = true) : Steps ps σ (State.stopBuses τ) := by
  refine hτ.step ?_ hcov
  clear hτ hcov
  unfold State.stopBuses
  (try dsimp only)
  repeat' (first | with_reducible assumption | with_reducible exact Steps.refl _ _ | ((with_reducible refine covers_self ?_); rfl) | with_reducible apply State.eachBus_steps | with_reducible apply State.stopBus_steps | (intro _ _ _) | (intro _ _) | (dsimp only))

theorem State.startLamps_steps {ps : List Part} {σ τ : State}  (hτ : Steps ps σ τ)
    (hcov : covers ps [.irq, .bells, .sluice, .lamps] = true) : Steps ps σ (State.startLamps τ) := by
  refine hτ.step ?_ hcov
  clear hτ hcov
  unfold State.startLamps
  (try dsimp only)
  repeat' (first | with_reducible assumption | with_reducible exact Steps.refl _ _ | ((with_reducible refine covers_self ?_); rfl) | with_reducible apply State.ring_steps | with_reducible apply State.mapLamps_steps | with_reducible apply State.setSluice_steps | with_reducible apply Steps.ite | (intro _ _ _) | (intro _ _) | split | (dsimp only))

theorem State.joinBuses_steps {ps : List Part} {σ τ : State}  (hτ : Steps ps σ τ)
    (hcov : covers ps [.mem, .pool, .draws, .irq, .bells, .replies, .changes, .ports, .tx, .sluice, .lamps, .buses, .heads, .pair, .journal, .tag, .inject] = true) : Steps ps σ (State.joinBuses τ) := by
  refine hτ.step ?_ hcov
  clear hτ hcov
  unfold State.joinBuses
  (try dsimp only)
  repeat' (first | with_reducible assumption | with_reducible exact Steps.refl _ _ | ((with_reducible refine covers_self ?_); rfl) | with_reducible apply State.eachBus_steps | with_reducible apply State.beginJoin_steps | with_reducible apply Steps.ite | (intro _ _ _) | (intro _ _) | split | (dsimp only))

theorem State.resumeHeads_steps {ps : List Part} {σ τ : State}  (hτ : Steps ps σ τ)
    (hcov : covers ps [.ports] = true) : Steps ps σ (State.resumeHeads τ) := by
  refine hτ.step ?_ hcov
  clear hτ hcov
  unfold State.resumeHeads
  (try dsimp only)
  repeat' (first | with_reducible assumption | with_reducible exact Steps.refl _ _ | ((with_reducible refine covers_self ?_); rfl) | ((with_reducible apply State.mapPorts_ports_steps); (rotate_left 1); (focus (intro _; first | rfl | exact ⟨rfl, fun _ => ⟨fun h => by simp [h], fun h => by simp [h]⟩⟩ | exact ⟨⟨rfl, rfl⟩, fun _ h => by simp [h]⟩ | exact ⟨⟨rfl, rfl⟩, List.prefix_append _ _⟩ | exact ⟨rfl, rfl⟩ | exact ⟨rfl, rfl, rfl⟩ | exact ⟨⟨rfl, rfl⟩, rfl, rfl, rfl⟩ | exact ⟨rfl, rfl, rfl, rfl⟩ | ((try dsimp only); (repeat' split) <;> first | rfl | exact ⟨rfl, rfl⟩ | exact ⟨rfl, rfl, rfl⟩ | exact ⟨rfl, rfl, rfl, rfl⟩ | (simp; done)) | (simp; done))); (rotate_left 1)) | with_reducible apply Steps.ite | (intro _ _ _) | (intro _ _) | split | (dsimp only))

theorem State.wakeHeads_steps {ps : List Part} {σ τ : State}  (hτ : Steps ps σ τ)
    (hcov : covers ps [.ports] = true) : Steps ps σ (State.wakeHeads τ) := by
  refine hτ.step ?_ hcov
  clear hτ hcov
  unfold State.wakeHeads
  (try dsimp only)
  repeat' (first | with_reducible assumption | with_reducible exact Steps.refl _ _ | ((with_reducible refine covers_self ?_); rfl) | ((with_reducible apply State.mapPorts_ports_steps); (rotate_left 1); (focus (intro _; first | rfl | exact ⟨rfl, fun _ => ⟨fun h => by simp [h], fun h => by simp [h]⟩⟩ | exact ⟨⟨rfl, rfl⟩, fun _ h => by simp [h]⟩ | exact ⟨⟨rfl, rfl⟩, List.prefix_append _ _⟩ | exact ⟨rfl, rfl⟩ | exact ⟨rfl, rfl, rfl⟩ | exact ⟨⟨rfl, rfl⟩, rfl, rfl, rfl⟩ | exact ⟨rfl, rfl, rfl, rfl⟩ | ((try dsimp only); (repeat' split) <;> first | rfl | exact ⟨rfl, rfl⟩ | exact ⟨rfl, rfl, rfl⟩ | exact ⟨rfl, rfl, rfl, rfl⟩ | (simp; done)) | (simp; done))); (rotate_left 1)) | with_reducible apply Steps.ite | (intro _ _ _) | (intro _ _) | split | (dsimp only))

theorem State.mgmtStart_steps {ps : List Part} {σ τ : State}  (hτ : Steps ps σ τ)
    (hcov : covers ps [.mgmt] = true) : Steps ps σ (State.mgmtStart τ) := by
  refine hτ.step ?_ hcov
  clear hτ hcov
  unfold State.mgmtStart
  (try dsimp only)
  repeat' (first | with_reducible assumption | with_reducible exact Steps.refl _ _ | ((with_reducible refine covers_self ?_); rfl) | with_reducible apply State.setMgmt_steps | with_reducible apply Steps.ite | (intro _ _ _) | (intro _ _) | split | (dsimp only))

theorem State.dueScan_steps {ps : List Part} {σ τ : State}  (hτ : Steps ps σ τ)
    (hcov : covers ps [.mgmt] = true) : Steps ps σ (State.dueScan τ) := by
  refine hτ.step ?_ hcov
  clear hτ hcov
  unfold State.dueScan
  (try dsimp only)
  repeat' (first | with_reducible assumption | with_reducible exact Steps.refl _ _ | ((with_reducible refine covers_self ?_); rfl) | with_reducible apply State.setMgmt_steps | with_reducible apply State.mgmtStart_steps | with_reducible apply Steps.foldl | with_reducible apply Steps.ite | (intro _ _ _) | (intro _ _) | split | (dsimp only))

theorem State.scanStatus_steps {ps : List Part} {σ τ : State} (i : Fin 16) (status : Byte) (hτ : Steps ps σ τ)
    (hcov : covers ps [.irq, .bells, .mgmt] = true) : Steps ps σ (State.scanStatus τ i status) := by
  refine hτ.step ?_ hcov
  clear hτ hcov
  unfold State.scanStatus
  (try dsimp only)
  repeat' (first | with_reducible assumption | with_reducible exact Steps.refl _ _ | ((with_reducible refine covers_self ?_); rfl) | with_reducible apply State.setMgmt_steps | with_reducible apply State.ring_steps | with_reducible apply Steps.ite | (intro _ _ _) | (intro _ _) | split | (dsimp only))

theorem State.scanSet_steps {ps : List Part} {σ τ : State}  (hτ : Steps ps σ τ)
    (hcov : covers ps [.irq, .bells, .mgmt] = true) : Steps ps σ (State.scanSet τ) := by
  refine hτ.step ?_ hcov
  clear hτ hcov
  unfold State.scanSet
  (try dsimp only)
  repeat' (first | with_reducible assumption | with_reducible exact Steps.refl _ _ | ((with_reducible refine covers_self ?_); rfl) | with_reducible apply State.setMgmt_steps | with_reducible apply State.dueScan_steps | with_reducible apply State.scanStatus_steps | with_reducible apply Steps.foldl | with_reducible apply Steps.ite | (intro _ _ _) | (intro _ _) | split | (dsimp only))

theorem State.mgmtStop_steps {ps : List Part} {σ τ : State}  (hτ : Steps ps σ τ)
    (hcov : covers ps [.irq, .bells, .mgmt] = true) : Steps ps σ (State.mgmtStop τ) := by
  refine hτ.step ?_ hcov
  clear hτ hcov
  unfold State.mgmtStop
  (try dsimp only)
  repeat' (first | with_reducible assumption | with_reducible exact Steps.refl _ _ | ((with_reducible refine covers_self ?_); rfl) | with_reducible apply State.setMgmt_steps | with_reducible apply State.scanSet_steps | with_reducible apply Steps.ite | (intro _ _ _) | (intro _ _) | split | (dsimp only))

theorem State.mgmtPause_steps {ps : List Part} {σ τ : State}  (hτ : Steps ps σ τ)
    (hcov : covers ps [.irq, .bells, .mgmt] = true) : Steps ps σ (State.mgmtPause τ) := by
  refine hτ.step ?_ hcov
  clear hτ hcov
  unfold State.mgmtPause
  (try dsimp only)
  repeat' (first | with_reducible assumption | with_reducible exact Steps.refl _ _ | ((with_reducible refine covers_self ?_); rfl) | with_reducible apply State.setMgmt_steps | with_reducible apply State.mgmtStop_steps | with_reducible apply Steps.ite | (intro _ _ _) | (intro _ _) | split | (dsimp only))

theorem State.enterRoad_steps {ps : List Part} {σ τ : State}  (hτ : Steps ps σ τ)
    (hcov : covers ps [.mem, .pool, .draws, .irq, .bells, .replies, .changes, .ports, .tx, .govs, .sluice, .lamps, .buses, .heads, .pair, .journal, .tag, .mgmt, .inject] = true) : Steps ps σ (State.enterRoad τ) := by
  refine hτ.step ?_ hcov
  clear hτ hcov
  unfold State.enterRoad
  (try dsimp only)
  repeat' (first | with_reducible assumption | with_reducible exact Steps.refl _ _ | ((with_reducible refine covers_self ?_); rfl) | with_reducible apply State.setGovs_steps | with_reducible apply State.armRx_steps | with_reducible apply State.wakeHeads_steps | with_reducible apply State.driveAll_steps | with_reducible apply State.eachPort_steps | with_reducible apply State.takeLampRows_steps | with_reducible apply State.headsConfigured_steps | with_reducible apply State.readRegionB_steps | with_reducible apply State.startLamps_steps | with_reducible apply State.takeRole_steps | with_reducible apply State.joinBuses_steps | with_reducible apply State.dueScan_steps | with_reducible apply State.setPorts_steps | with_reducible apply State.setJoins_steps | with_reducible apply Steps.ite | (intro _ _ _) | (intro _ _) | split | (dsimp only))

theorem State.undoEntry_steps {ps : List Part} {σ τ : State}  (hτ : Steps ps σ τ)
    (hcov : covers ps [.mem, .pool, .draws, .irq, .bells, .replies, .changes, .ports, .tx, .sluice, .lamps, .buses, .heads, .pair, .journal, .tag, .inject] = true) : Steps ps σ (State.undoEntry τ) := by
  refine hτ.step ?_ hcov
  clear hτ hcov
  unfold State.undoEntry
  (try dsimp only)
  repeat' (first | with_reducible assumption | with_reducible exact Steps.refl _ _ | ((with_reducible refine covers_self ?_); rfl) | with_reducible apply State.dropRole_steps | with_reducible apply State.emptySluice_steps | with_reducible apply State.closePorts_steps | with_reducible apply State.stopBuses_steps | (dsimp only))

theorem State.abortOut_steps {ps : List Part} {σ τ : State} (c : Chan) (hτ : Steps ps σ τ)
    (hcov : covers ps [.irq, .chanN, .chanK] = true) : Steps ps σ (State.abortOut τ c) := by
  refine hτ.step ?_ hcov
  clear hτ hcov
  unfold State.abortOut
  (try dsimp only)
  repeat' (first | with_reducible assumption | with_reducible exact Steps.refl _ _ | ((with_reducible refine covers_self ?_); rfl) | with_reducible apply State.raise_steps | ((with_reducible apply State.setChan_chan_steps); (rotate_left 1); (focus (intro _; first | rfl | exact ⟨rfl, fun _ => ⟨fun h => by simp [h], fun h => by simp [h]⟩⟩ | exact ⟨⟨rfl, rfl⟩, fun _ h => by simp [h]⟩ | exact ⟨⟨rfl, rfl⟩, List.prefix_append _ _⟩ | exact ⟨rfl, rfl⟩ | exact ⟨rfl, rfl, rfl⟩ | exact ⟨⟨rfl, rfl⟩, rfl, rfl, rfl⟩ | exact ⟨rfl, rfl, rfl, rfl⟩ | ((try dsimp only); (repeat' split) <;> first | rfl | exact ⟨rfl, rfl⟩ | exact ⟨rfl, rfl, rfl⟩ | exact ⟨rfl, rfl, rfl, rfl⟩ | (simp; done)) | (simp; done))); (rotate_left 1)) | with_reducible apply Steps.ite | (intro _ _ _) | (intro _ _) | split | (dsimp only))

theorem State.forgetCommands_steps {ps : List Part} {σ τ : State}  (hτ : Steps ps σ τ)
    (hcov : covers ps [.bells, .hush, .replies, .drops, .chanN, .chanK, .work, .sieve, .buses] = true) : Steps ps σ (State.forgetCommands τ) := by
  refine hτ.step ?_ hcov
  clear hτ hcov
  unfold State.forgetCommands
  (try dsimp only)
  repeat' (first | with_reducible assumption | with_reducible exact Steps.refl _ _ | ((with_reducible refine covers_self ?_); rfl) | with_reducible apply State.mapBuses_steps | with_reducible apply State.setSieve_steps | ((with_reducible apply State.setEngine_work_steps); (rotate_left 1); (focus (intro _; first | rfl | exact ⟨rfl, fun _ => ⟨fun h => by simp [h], fun h => by simp [h]⟩⟩ | exact ⟨⟨rfl, rfl⟩, fun _ h => by simp [h]⟩ | exact ⟨⟨rfl, rfl⟩, List.prefix_append _ _⟩ | exact ⟨rfl, rfl⟩ | exact ⟨rfl, rfl, rfl⟩ | exact ⟨⟨rfl, rfl⟩, rfl, rfl, rfl⟩ | exact ⟨rfl, rfl, rfl, rfl⟩ | ((try dsimp only); (repeat' split) <;> first | rfl | exact ⟨rfl, rfl⟩ | exact ⟨rfl, rfl, rfl⟩ | exact ⟨rfl, rfl, rfl, rfl⟩ | (simp; done)) | (simp; done))); (rotate_left 1)) | with_reducible apply State.setChan_steps | (intro _ _ _) | (intro _ _) | (dsimp only))

theorem State.clearCounters_steps {ps : List Part} {σ τ : State}  (hτ : Steps ps σ τ)
    (hcov : covers ps [.tx, .govs, .pair, .journal, .inject] = true) : Steps ps σ (State.clearCounters τ) := by
  refine hτ.step ?_ hcov
  clear hτ hcov
  unfold State.clearCounters
  (try dsimp only)
  repeat' (first | with_reducible assumption | with_reducible exact Steps.refl _ _ | ((with_reducible refine covers_self ?_); rfl) | with_reducible apply State.setGovs_steps | with_reducible apply State.setPair_steps | with_reducible apply State.setJournal_steps | with_reducible apply State.setInject_steps | ((with_reducible apply State.mapPorts_tx_steps); (rotate_left 1); (focus (intro _; first | rfl | exact ⟨rfl, fun _ => ⟨fun h => by simp [h], fun h => by simp [h]⟩⟩ | exact ⟨⟨rfl, rfl⟩, fun _ h => by simp [h]⟩ | exact ⟨⟨rfl, rfl⟩, List.prefix_append _ _⟩ | exact ⟨rfl, rfl⟩ | exact ⟨rfl, rfl, rfl⟩ | exact ⟨⟨rfl, rfl⟩, rfl, rfl, rfl⟩ | exact ⟨rfl, rfl, rfl, rfl⟩ | ((try dsimp only); (repeat' split) <;> first | rfl | exact ⟨rfl, rfl⟩ | exact ⟨rfl, rfl, rfl⟩ | exact ⟨rfl, rfl, rfl, rfl⟩ | (simp; done)) | (simp; done))); (rotate_left 1)) | (intro _ _ _) | (intro _ _) | (dsimp only))

theorem State.holdEffects_steps {ps : List Part} {σ τ : State}  (hτ : Steps ps σ τ)
    (hcov : covers ps [.mem, .pool, .draws, .modes, .irq, .bells, .hush, .replies, .drops, .chanN, .chanK, .engine, .work, .settings, .changes, .counting, .ports, .tx, .sieve, .govs, .sluice, .lamps, .buses, .heads, .pair, .journal, .tag, .mgmt, .inject, .dozeEvents] = true) : Steps ps σ (State.holdEffects τ) := by
  refine hτ.step ?_ hcov
  clear hτ hcov
  unfold State.holdEffects
  (try dsimp only)
  repeat' (first | with_reducible assumption | with_reducible exact Steps.refl _ _ | ((with_reducible refine covers_self ?_); rfl) | with_reducible apply State.dropRole_steps | with_reducible apply State.setJournal_steps | with_reducible apply State.setDozeEvents_steps | with_reducible apply State.closePorts_steps | with_reducible apply State.abortOut_steps | with_reducible apply State.setModes_steps | with_reducible apply State.setMgmt_steps | with_reducible apply State.stopBuses_steps | with_reducible apply State.emptySluice_steps | with_reducible apply State.clearCounters_steps | with_reducible apply State.setCounting_steps | with_reducible apply State.cutPublish_steps | with_reducible apply State.forgetCommands_steps | with_reducible apply State.setSluice_steps | with_reducible apply State.setEngine_steps | ((with_reducible apply State.setSettings_settings_steps); (rotate_left 1); (focus (intro _; first | rfl | exact ⟨rfl, fun _ => ⟨fun h => by simp [h], fun h => by simp [h]⟩⟩ | exact ⟨⟨rfl, rfl⟩, fun _ h => by simp [h]⟩ | exact ⟨⟨rfl, rfl⟩, List.prefix_append _ _⟩ | exact ⟨rfl, rfl⟩ | exact ⟨rfl, rfl, rfl⟩ | exact ⟨⟨rfl, rfl⟩, rfl, rfl, rfl⟩ | exact ⟨rfl, rfl, rfl, rfl⟩ | ((try dsimp only); (repeat' split) <;> first | rfl | exact ⟨rfl, rfl⟩ | exact ⟨rfl, rfl, rfl⟩ | exact ⟨rfl, rfl, rfl, rfl⟩ | (simp; done)) | (simp; done))); (rotate_left 1)) | ((with_reducible apply State.setChan_k_steps); (rotate_left 1); (focus (intro _; first | rfl | exact ⟨rfl, fun _ => ⟨fun h => by simp [h], fun h => by simp [h]⟩⟩ | exact ⟨⟨rfl, rfl⟩, fun _ h => by simp [h]⟩ | exact ⟨⟨rfl, rfl⟩, List.prefix_append _ _⟩ | exact ⟨rfl, rfl⟩ | exact ⟨rfl, rfl, rfl⟩ | exact ⟨⟨rfl, rfl⟩, rfl, rfl, rfl⟩ | exact ⟨rfl, rfl, rfl, rfl⟩ | ((try dsimp only); (repeat' split) <;> first | rfl | exact ⟨rfl, rfl⟩ | exact ⟨rfl, rfl, rfl⟩ | exact ⟨rfl, rfl, rfl, rfl⟩ | (simp; done)) | (simp; done))); (rotate_left 1)) | ((with_reducible apply State.setChan_chan_steps); (rotate_left 1); (focus (intro _; first | rfl | exact ⟨rfl, fun _ => ⟨fun h => by simp [h], fun h => by simp [h]⟩⟩ | exact ⟨⟨rfl, rfl⟩, fun _ h => by simp [h]⟩ | exact ⟨⟨rfl, rfl⟩, List.prefix_append _ _⟩ | exact ⟨rfl, rfl⟩ | exact ⟨rfl, rfl, rfl⟩ | exact ⟨⟨rfl, rfl⟩, rfl, rfl, rfl⟩ | exact ⟨rfl, rfl, rfl, rfl⟩ | ((try dsimp only); (repeat' split) <;> first | rfl | exact ⟨rfl, rfl⟩ | exact ⟨rfl, rfl, rfl⟩ | exact ⟨rfl, rfl, rfl, rfl⟩ | (simp; done)) | (simp; done))); (rotate_left 1)) | ((with_reducible apply State.setChan_n_steps); (rotate_left 1); (focus (intro _; first | rfl | exact ⟨rfl, fun _ => ⟨fun h => by simp [h], fun h => by simp [h]⟩⟩ | exact ⟨⟨rfl, rfl⟩, fun _ h => by simp [h]⟩ | exact ⟨⟨rfl, rfl⟩, List.prefix_append _ _⟩ | exact ⟨rfl, rfl⟩ | exact ⟨rfl, rfl, rfl⟩ | exact ⟨⟨rfl, rfl⟩, rfl, rfl, rfl⟩ | exact ⟨rfl, rfl, rfl, rfl⟩ | ((try dsimp only); (repeat' split) <;> first | rfl | exact ⟨rfl, rfl⟩ | exact ⟨rfl, rfl, rfl⟩ | exact ⟨rfl, rfl, rfl, rfl⟩ | (simp; done)) | (simp; done))); (rotate_left 1)) | ((with_reducible apply State.mapPorts_ports_steps); (rotate_left 1); (focus (intro _; first | rfl | exact ⟨rfl, fun _ => ⟨fun h => by simp [h], fun h => by simp [h]⟩⟩ | exact ⟨⟨rfl, rfl⟩, fun _ h => by simp [h]⟩ | exact ⟨⟨rfl, rfl⟩, List.prefix_append _ _⟩ | exact ⟨rfl, rfl⟩ | exact ⟨rfl, rfl, rfl⟩ | exact ⟨⟨rfl, rfl⟩, rfl, rfl, rfl⟩ | exact ⟨rfl, rfl, rfl, rfl⟩ | ((try dsimp only); (repeat' split) <;> first | rfl | exact ⟨rfl, rfl⟩ | exact ⟨rfl, rfl, rfl⟩ | exact ⟨rfl, rfl, rfl, rfl⟩ | (simp; done)) | (simp; done))); (rotate_left 1)) | with_reducible apply Steps.ite | (intro _ _ _) | (intro _ _) | split | (dsimp only))

theorem State.enterProve_steps {ps : List Part} {σ τ : State}  (hτ : Steps ps σ τ)
    (hcov : covers ps [.engine, .counting, .tag] = true) : Steps ps σ (State.enterProve τ) := by
  refine hτ.step ?_ hcov
  clear hτ hcov
  unfold State.enterProve
  (try dsimp only)
  repeat' (first | with_reducible assumption | with_reducible exact Steps.refl _ _ | ((with_reducible refine covers_self ?_); rfl) | with_reducible apply State.setTag_steps | with_reducible apply State.setCounting_steps | ((with_reducible apply State.setEngine_engine_steps); (rotate_left 1); (focus (intro _; first | rfl | exact ⟨rfl, fun _ => ⟨fun h => by simp [h], fun h => by simp [h]⟩⟩ | exact ⟨⟨rfl, rfl⟩, fun _ h => by simp [h]⟩ | exact ⟨⟨rfl, rfl⟩, List.prefix_append _ _⟩ | exact ⟨rfl, rfl⟩ | exact ⟨rfl, rfl, rfl⟩ | exact ⟨⟨rfl, rfl⟩, rfl, rfl, rfl⟩ | exact ⟨rfl, rfl, rfl, rfl⟩ | ((try dsimp only); (repeat' split) <;> first | rfl | exact ⟨rfl, rfl⟩ | exact ⟨rfl, rfl, rfl⟩ | exact ⟨rfl, rfl, rfl, rfl⟩ | (simp; done)) | (simp; done))); (rotate_left 1)) | with_reducible apply Steps.ite | (intro _ _ _) | (intro _ _) | split | (dsimp only))

theorem State.drainForDoze_steps {ps : List Part} {σ τ : State}  (hτ : Steps ps σ τ)
    (hcov : covers ps [.mem, .pool, .draws, .modes, .irq, .bells, .replies, .changes, .ports, .tx, .sluice, .lamps, .buses, .heads, .pair, .journal, .tag, .inject] = true) : Steps ps σ (State.drainForDoze τ) := by
  refine hτ.step ?_ hcov
  clear hτ hcov
  unfold State.drainForDoze
  (try dsimp only)
  repeat' (first | with_reducible assumption | with_reducible exact Steps.refl _ _ | ((with_reducible refine covers_self ?_); rfl) | with_reducible apply State.setModes_steps | with_reducible apply State.dropPartial_steps | with_reducible apply State.eachPort_steps | with_reducible apply State.rxBoundary_steps | ((with_reducible apply State.updPort_ports_steps); (rotate_left 1); (focus (intro _; first | rfl | exact ⟨rfl, fun _ => ⟨fun h => by simp [h], fun h => by simp [h]⟩⟩ | exact ⟨⟨rfl, rfl⟩, fun _ h => by simp [h]⟩ | exact ⟨⟨rfl, rfl⟩, List.prefix_append _ _⟩ | exact ⟨rfl, rfl⟩ | exact ⟨rfl, rfl, rfl⟩ | exact ⟨⟨rfl, rfl⟩, rfl, rfl, rfl⟩ | exact ⟨rfl, rfl, rfl, rfl⟩ | ((try dsimp only); (repeat' split) <;> first | rfl | exact ⟨rfl, rfl⟩ | exact ⟨rfl, rfl, rfl⟩ | exact ⟨rfl, rfl, rfl, rfl⟩ | (simp; done)) | (simp; done))); (rotate_left 1)) | with_reducible apply Steps.ite | (intro _ _ _) | (intro _ _) | split | (dsimp only))

theorem State.enterDoze_steps {ps : List Part} {σ τ : State}  (hτ : Steps ps σ τ)
    (hcov : covers ps [.mem, .pool, .draws, .irq, .bells, .replies, .changes, .ports, .tx, .sluice, .lamps, .buses, .heads, .pair, .journal, .tag, .mgmt, .inject] = true) : Steps ps σ (State.enterDoze τ) := by
  refine hτ.step ?_ hcov
  clear hτ hcov
  unfold State.enterDoze
  (try dsimp only)
  repeat' (first | with_reducible assumption | with_reducible exact Steps.refl _ _ | ((with_reducible refine covers_self ?_); rfl) | with_reducible apply State.dropRole_steps | with_reducible apply State.setJournal_steps | with_reducible apply State.mgmtPause_steps | with_reducible apply State.stopBuses_steps | with_reducible apply State.setPair_steps | with_reducible apply State.cutAll_steps | ((with_reducible apply State.mapPorts_ports_steps); (rotate_left 1); (focus (intro _; first | rfl | exact ⟨rfl, fun _ => ⟨fun h => by simp [h], fun h => by simp [h]⟩⟩ | exact ⟨⟨rfl, rfl⟩, fun _ h => by simp [h]⟩ | exact ⟨⟨rfl, rfl⟩, List.prefix_append _ _⟩ | exact ⟨rfl, rfl⟩ | exact ⟨rfl, rfl, rfl⟩ | exact ⟨⟨rfl, rfl⟩, rfl, rfl, rfl⟩ | exact ⟨rfl, rfl, rfl, rfl⟩ | ((try dsimp only); (repeat' split) <;> first | rfl | exact ⟨rfl, rfl⟩ | exact ⟨rfl, rfl, rfl⟩ | exact ⟨rfl, rfl, rfl, rfl⟩ | (simp; done)) | (simp; done))); (rotate_left 1)) | with_reducible apply Steps.ite | (intro _ _ _) | (intro _ _) | split | (dsimp only))

theorem State.leaveDoze_steps {ps : List Part} {σ τ : State}  (hτ : Steps ps σ τ)
    (hcov : covers ps [.mem, .pool, .draws, .modes, .irq, .bells, .replies, .changes, .ports, .tx, .sluice, .lamps, .buses, .heads, .pair, .journal, .tag, .mgmt, .inject, .dozeEvents] = true) : Steps ps σ (State.leaveDoze τ) := by
  refine hτ.step ?_ hcov
  clear hτ hcov
  unfold State.leaveDoze
  (try dsimp only)
  repeat' (first | with_reducible assumption | with_reducible exact Steps.refl _ _ | ((with_reducible refine covers_self ?_); rfl) | with_reducible apply State.ring_steps | with_reducible apply State.setJournal_steps | with_reducible apply State.setModes_steps | with_reducible apply State.tellDozeEvents_steps | with_reducible apply State.mgmtStart_steps | with_reducible apply State.driveAll_steps | with_reducible apply State.takeLampRows_steps | with_reducible apply State.headsConfigured_steps | with_reducible apply State.startLamps_steps | with_reducible apply State.takeRole_steps | with_reducible apply State.resumeHeads_steps | with_reducible apply State.joinBuses_steps | with_reducible apply State.setPorts_steps | with_reducible apply State.setSluice_steps | with_reducible apply Steps.ite | (intro _ _ _) | (intro _ _) | split | (dsimp only))

theorem State.endLoop_steps {ps : List Part} {σ τ : State} (p : PortNo) (hτ : Steps ps σ τ)
    (hcov : covers ps [.mem, .pool, .ports, .tx, .sluice] = true) : Steps ps σ (State.endLoop τ p) := by
  refine hτ.step ?_ hcov
  clear hτ hcov
  unfold State.endLoop
  (try dsimp only)
  repeat' (first | with_reducible assumption | with_reducible exact Steps.refl _ _ | ((with_reducible refine covers_self ?_); rfl) | with_reducible apply State.armRx_steps | ((with_reducible apply State.updPort_ports_steps); (rotate_left 1); (focus (intro _; first | rfl | exact ⟨rfl, fun _ => ⟨fun h => by simp [h], fun h => by simp [h]⟩⟩ | exact ⟨⟨rfl, rfl⟩, fun _ h => by simp [h]⟩ | exact ⟨⟨rfl, rfl⟩, List.prefix_append _ _⟩ | exact ⟨rfl, rfl⟩ | exact ⟨rfl, rfl, rfl⟩ | exact ⟨⟨rfl, rfl⟩, rfl, rfl, rfl⟩ | exact ⟨rfl, rfl, rfl, rfl⟩ | ((try dsimp only); (repeat' split) <;> first | rfl | exact ⟨rfl, rfl⟩ | exact ⟨rfl, rfl, rfl⟩ | exact ⟨rfl, rfl, rfl, rfl⟩ | (simp; done)) | (simp; done))); (rotate_left 1)) | with_reducible apply State.updPort_steps | with_reducible apply Steps.ite | (intro _ _ _) | (intro _ _) | split | (dsimp only))

theorem State.complete_steps {ps : List Part} {σ τ : State} (a : Accepted) (status : Nat) (payload : List Byte) (hτ : Steps ps σ τ)
    (hcov : covers ps [.replies, .work] = true) : Steps ps σ (State.complete τ a status payload) := by
  refine hτ.step ?_ hcov
  clear hτ hcov
  unfold State.complete
  (try dsimp only)
  repeat' (first | with_reducible assumption | with_reducible exact Steps.refl _ _ | ((with_reducible refine covers_self ?_); rfl) | with_reducible apply State.reply_steps | ((with_reducible apply State.setEngine_work_steps); (rotate_left 1); (focus (intro _; first | rfl | exact ⟨rfl, fun _ => ⟨fun h => by simp [h], fun h => by simp [h]⟩⟩ | exact ⟨⟨rfl, rfl⟩, fun _ h => by simp [h]⟩ | exact ⟨⟨rfl, rfl⟩, List.prefix_append _ _⟩ | exact ⟨rfl, rfl⟩ | exact ⟨rfl, rfl, rfl⟩ | exact ⟨⟨rfl, rfl⟩, rfl, rfl, rfl⟩ | exact ⟨rfl, rfl, rfl, rfl⟩ | ((try dsimp only); (repeat' split) <;> first | rfl | exact ⟨rfl, rfl⟩ | exact ⟨rfl, rfl, rfl⟩ | exact ⟨rfl, rfl, rfl, rfl⟩ | (simp; done)) | (simp; done))); (rotate_left 1)) | (intro _ _ _) | (intro _ _) | (dsimp only))

theorem State.abortWork_steps {ps : List Part} {σ τ : State} (m : Mode) (hτ : Steps ps σ τ)
    (hcov : covers ps [.replies, .work, .ports, .sluice, .heads, .pair, .journal, .tag] = true) : Steps ps σ (State.abortWork τ m) := by
  refine hτ.step ?_ hcov
  clear hτ hcov
  unfold State.abortWork
  (try dsimp only)
  repeat' (first | with_reducible assumption | with_reducible exact Steps.refl _ _ | ((with_reducible refine covers_self ?_); rfl) | with_reducible apply State.setJournal_steps | with_reducible apply State.undoPublish_steps | with_reducible apply State.complete_steps | with_reducible apply State.updView_steps | with_reducible apply State.updHead_steps | with_reducible apply State.setPair_steps | ((with_reducible apply State.updPort_ports_steps); (rotate_left 1); (focus (intro _; first | rfl | exact ⟨rfl, fun _ => ⟨fun h => by simp [h], fun h => by simp [h]⟩⟩ | exact ⟨⟨rfl, rfl⟩, fun _ h => by simp [h]⟩ | exact ⟨⟨rfl, rfl⟩, List.prefix_append _ _⟩ | exact ⟨rfl, rfl⟩ | exact ⟨rfl, rfl, rfl⟩ | exact ⟨⟨rfl, rfl⟩, rfl, rfl, rfl⟩ | exact ⟨rfl, rfl, rfl, rfl⟩ | ((try dsimp only); (repeat' split) <;> first | rfl | exact ⟨rfl, rfl⟩ | exact ⟨rfl, rfl, rfl⟩ | exact ⟨rfl, rfl, rfl, rfl⟩ | (simp; done)) | (simp; done))); (rotate_left 1)) | with_reducible apply Steps.foldl | with_reducible apply Steps.ite | (intro _ _ _) | (intro _ _) | split | (dsimp only))

theorem State.leaveProbe_steps {ps : List Part} {σ τ : State}  (hτ : Steps ps σ τ)
    (hcov : covers ps [.mem, .pool, .ports, .tx, .sluice, .pair, .inject] = true) : Steps ps σ (State.leaveProbe τ) := by
  refine hτ.step ?_ hcov
  clear hτ hcov
  unfold State.leaveProbe
  (try dsimp only)
  repeat' (first | with_reducible assumption | with_reducible exact Steps.refl _ _ | ((with_reducible refine covers_self ?_); rfl) | with_reducible apply State.eachPort_steps | with_reducible apply State.clearSlots_steps | with_reducible apply State.endLoop_steps | with_reducible apply Steps.ite | (intro _ _ _) | (intro _ _) | split | (dsimp only))

theorem State.arrive_steps {ps : List Part} {σ τ : State} (m : Mode) (hτ : Steps ps σ τ)
    (hcov : covers ps [.mem, .pool, .draws, .modes, .irq, .bells, .replies, .work, .changes, .ports, .tx, .sluice, .lamps, .buses, .heads, .pair, .journal, .tag, .mgmt, .inject, .dozeEvents] = true) : Steps ps σ (State.arrive τ m) := by
  refine hτ.step ?_ hcov
  clear hτ hcov
  unfold State.arrive
  (try dsimp only)
  repeat' (first | with_reducible assumption | with_reducible exact Steps.refl _ _ | ((with_reducible refine covers_self ?_); rfl) | with_reducible apply State.yieldGroups_steps | with_reducible apply State.modesDone_steps | with_reducible apply State.setModes_steps | with_reducible apply State.eachPort_steps | with_reducible apply State.enterDoze_steps | with_reducible apply State.unpark_steps | with_reducible apply State.abortWork_steps | with_reducible apply State.leaveDoze_steps | with_reducible apply State.leaveProbe_steps | with_reducible apply State.setJoins_steps | with_reducible apply State.park_steps | ((with_reducible apply State.mapPorts_ports_steps); (rotate_left 1); (focus (intro _; first | rfl | exact ⟨rfl, fun _ => ⟨fun h => by simp [h], fun h => by simp [h]⟩⟩ | exact ⟨⟨rfl, rfl⟩, fun _ h => by simp [h]⟩ | exact ⟨⟨rfl, rfl⟩, List.prefix_append _ _⟩ | exact ⟨rfl, rfl⟩ | exact ⟨rfl, rfl, rfl⟩ | exact ⟨⟨rfl, rfl⟩, rfl, rfl, rfl⟩ | exact ⟨rfl, rfl, rfl, rfl⟩ | ((try dsimp only); (repeat' split) <;> first | rfl | exact ⟨rfl, rfl⟩ | exact ⟨rfl, rfl, rfl⟩ | exact ⟨rfl, rfl, rfl, rfl⟩ | (simp; done)) | (simp; done))); (rotate_left 1)) | with_reducible apply Steps.ite | (intro _ _ _) | (intro _ _) | split | (dsimp only))

theorem State.depart_steps {ps : List Part} {σ τ : State} (m : Mode) (hτ : Steps ps σ τ)
    (hcov : covers ps [.mem, .pool, .draws, .modes, .irq, .bells, .hush, .replies, .drops, .chanN, .chanK, .engine, .work, .settings, .changes, .counting, .ports, .tx, .sieve, .govs, .sluice, .lamps, .buses, .heads, .pair, .journal, .tag, .mgmt, .inject, .dozeEvents] = true) : Steps ps σ (State.depart τ m) := by
  refine hτ.step ?_ hcov
  clear hτ hcov
  unfold State.depart
  (try dsimp only)
  repeat' (first | with_reducible assumption | with_reducible exact Steps.refl _ _ | ((with_reducible refine covers_self ?_); rfl) | with_reducible apply State.enterRoad_steps | with_reducible apply State.holdEffects_steps | with_reducible apply State.enterProve_steps | with_reducible apply State.drainForDoze_steps | with_reducible apply Steps.ite | split | (dsimp only))

theorem State.startMode_steps {ps : List Part} {σ τ : State} (w : Window) (m : Mode) (hτ : Steps ps σ τ)
    (hcov : covers ps [.mem, .pool, .draws, .modes, .irq, .bells, .hush, .replies, .drops, .chanN, .chanK, .engine, .work, .settings, .changes, .counting, .ports, .tx, .sieve, .govs, .sluice, .lamps, .buses, .heads, .pair, .journal, .tag, .mgmt, .inject, .dozeEvents] = true) : Steps ps σ (State.startMode τ w m) := by
  refine hτ.step ?_ hcov
  clear hτ hcov
  unfold State.startMode
  (try dsimp only)
  repeat' (first | with_reducible assumption | with_reducible exact Steps.refl _ _ | ((with_reducible refine covers_self ?_); rfl) | with_reducible apply State.setModes_steps | with_reducible apply State.modeRecord_steps | with_reducible apply State.depart_steps | (intro _ _ _) | (intro _ _) | (dsimp only))

theorem State.modeAtOnce_steps {ps : List Part} {σ τ : State} (w : Window) (c : Cause) (hτ : Steps ps σ τ)
    (hcov : covers ps [.modes, .irq] = true) : Steps ps σ (State.modeAtOnce τ w c) := by
  refine hτ.step ?_ hcov
  clear hτ hcov
  unfold State.modeAtOnce
  (try dsimp only)
  repeat' (first | with_reducible assumption | with_reducible exact Steps.refl _ _ | ((with_reducible refine covers_self ?_); rfl) | with_reducible apply State.setModes_steps | with_reducible apply State.raise_steps | (intro _ _ _) | (intro _ _) | (dsimp only))

theorem State.modeReq_steps {ps : List Part} {σ τ : State} (w : Window) (code : BitVec 4) (hτ : Steps ps σ τ)
    (hcov : covers ps [.mem, .pool, .draws, .modes, .irq, .bells, .hush, .replies, .drops, .chanN, .chanK, .engine, .work, .settings, .changes, .counting, .ports, .tx, .sieve, .govs, .sluice, .lamps, .buses, .heads, .pair, .journal, .tag, .mgmt, .inject, .dozeEvents] = true) : Steps ps σ (State.modeReq τ w code) := by
  refine hτ.step ?_ hcov
  clear hτ hcov
  unfold State.modeReq
  (try dsimp only)
  repeat' (first | with_reducible assumption | with_reducible exact Steps.refl _ _ | ((with_reducible refine covers_self ?_); rfl) | with_reducible apply State.setModes_steps | with_reducible apply State.modeRecord_steps | with_reducible apply State.startMode_steps | with_reducible apply State.modeAtOnce_steps | with_reducible apply Steps.ite | (intro _ _ _) | (intro _ _) | split | (dsimp only))

theorem State.abandonMode_steps {ps : List Part} {σ τ : State}  (hτ : Steps ps σ τ)
    (hcov : covers ps [.mem, .pool, .draws, .modes, .irq, .bells, .replies, .changes, .ports, .tx, .sluice, .lamps, .buses, .heads, .pair, .journal, .tag, .inject] = true) : Steps ps σ (State.abandonMode τ) := by
  refine hτ.step ?_ hcov
  clear hτ hcov
  unfold State.abandonMode
  (try dsimp only)
  repeat' (first | with_reducible assumption | with_reducible exact Steps.refl _ _ | ((with_reducible refine covers_self ?_); rfl) | with_reducible apply State.setModes_steps | with_reducible apply State.modesDone_steps | with_reducible apply State.undoEntry_steps | with_reducible apply Steps.ite | (intro _ _ _) | (intro _ _) | split | (dsimp only))

theorem State.landWrites_steps {ps : List Part} {σ τ : State}  (hτ : Steps ps σ τ)
    (hcov : covers ps [.draws, .tag] = true) : Steps ps σ (State.landWrites τ) := by
  refine hτ.step ?_ hcov
  clear hτ hcov
  unfold State.landWrites
  (try dsimp only)
  repeat' (first | with_reducible assumption | with_reducible exact Steps.refl _ _ | ((with_reducible refine covers_self ?_); rfl) | with_reducible apply State.setTag_steps | with_reducible apply State.cutPublish_steps | with_reducible apply Steps.ite | (intro _ _ _) | (intro _ _) | split | (dsimp only))

theorem State.resetState_steps {ps : List Part} {σ τ : State} (p : Power) (stamp : Stamp) (hτ : Steps ps σ τ)
    (hcov : covers ps [.mem, .code, .pool, .boxes, .rows, .power, .modes, .irq, .acks, .culvert, .bells, .hush, .replies, .drops, .chanN, .chanK, .engine, .work, .settings, .events, .changes, .counting, .ports, .tx, .sieve, .govs, .sluice, .lamps, .buses, .heads, .pair, .journal, .tag, .mgmt, .inject, .dozeEvents] = true) : Steps ps σ (State.resetState τ p stamp) := by
  refine hτ.step ⟨⟨rfl, ?_⟩, fun _ => Memory.wf_writeList Memory.wf_nil (by simp [leBytes, resetStampAt])⟩ hcov
  intro q hq
  cases q <;> first | exact (Bool.noConfusion hq) | rfl | exact ⟨rfl, rfl⟩ | exact ⟨rfl, rfl, rfl⟩ | exact fun _ => rfl | exact fun _ _ _ => rfl | exact fun _ => ⟨id, id⟩ | exact ⟨List.prefix_rfl, List.prefix_rfl⟩

theorem State.afterReset_steps {ps : List Part} {σ τ : State} (p : Power) (stamp : Stamp) (hτ : Steps ps σ τ)
    (hcov : covers ps [.mem, .code, .pool, .boxes, .rows, .draws, .power, .modes, .irq, .acks, .culvert, .bells, .hush, .replies, .drops, .chanN, .chanK, .engine, .work, .settings, .events, .changes, .counting, .ports, .tx, .sieve, .govs, .sluice, .lamps, .buses, .heads, .pair, .journal, .tag, .mgmt, .inject, .dozeEvents] = true) : Steps ps σ (State.afterReset τ p stamp) := by
  refine hτ.step ?_ hcov
  clear hτ hcov
  unfold State.afterReset
  (try dsimp only)
  repeat' (first | with_reducible assumption | with_reducible exact Steps.refl _ _ | ((with_reducible refine covers_self ?_); rfl) | with_reducible apply State.resetState_steps | with_reducible apply State.landWrites_steps | with_reducible apply Steps.ite | (intro _ _ _) | (intro _ _) | split | (dsimp only))

theorem State.dropLine_steps {ps : List Part} {σ τ : State}  (hτ : Steps ps σ τ)
    (hcov : covers ps [.culvert] = true) : Steps ps σ (State.dropLine τ) := by
  refine hτ.step ?_ hcov
  clear hτ hcov
  unfold State.dropLine
  (try dsimp only)
  repeat' (first | with_reducible assumption | with_reducible exact Steps.refl _ _ | ((with_reducible refine covers_self ?_); rfl) | ((with_reducible apply State.setCulvert_culvert_steps); (rotate_left 1); (focus (intro _; first | rfl | exact ⟨rfl, fun _ => ⟨fun h => by simp [h], fun h => by simp [h]⟩⟩ | exact ⟨⟨rfl, rfl⟩, fun _ h => by simp [h]⟩ | exact ⟨⟨rfl, rfl⟩, List.prefix_append _ _⟩ | exact ⟨rfl, rfl⟩ | exact ⟨rfl, rfl, rfl⟩ | exact ⟨⟨rfl, rfl⟩, rfl, rfl, rfl⟩ | exact ⟨rfl, rfl, rfl, rfl⟩ | ((try dsimp only); (repeat' split) <;> first | rfl | exact ⟨rfl, rfl⟩ | exact ⟨rfl, rfl, rfl⟩ | exact ⟨rfl, rfl, rfl, rfl⟩ | (simp; done)) | (simp; done))); (rotate_left 1)) | (intro _ _ _) | (intro _ _) | (dsimp only))

theorem State.give_steps {ps : List Part} {σ τ : State} (v : Half) (hτ : Steps ps σ τ)
    (hcov : covers ps [.culvert] = true) : Steps ps σ (State.give τ v) := by
  refine hτ.step ?_ hcov
  clear hτ hcov
  unfold State.give
  (try dsimp only)
  repeat' (first | with_reducible assumption | with_reducible exact Steps.refl _ _ | ((with_reducible refine covers_self ?_); rfl) | ((with_reducible apply State.setCulvert_culvert_steps); (rotate_left 1); (focus (intro _; first | rfl | exact ⟨rfl, fun _ => ⟨fun h => by simp [h], fun h => by simp [h]⟩⟩ | exact ⟨⟨rfl, rfl⟩, fun _ h => by simp [h]⟩ | exact ⟨⟨rfl, rfl⟩, List.prefix_append _ _⟩ | exact ⟨rfl, rfl⟩ | exact ⟨rfl, rfl, rfl⟩ | exact ⟨⟨rfl, rfl⟩, rfl, rfl, rfl⟩ | exact ⟨rfl, rfl, rfl, rfl⟩ | ((try dsimp only); (repeat' split) <;> first | rfl | exact ⟨rfl, rfl⟩ | exact ⟨rfl, rfl, rfl⟩ | exact ⟨rfl, rfl, rfl, rfl⟩ | (simp; done)) | (simp; done))); (rotate_left 1)) | (intro _ _ _) | (intro _ _) | (dsimp only))

theorem State.windowRead_steps {ps : List Part} {σ τ : State}  (hτ : Steps ps σ τ)
    (hcov : covers ps [.draws, .culvert] = true) : Steps ps σ (State.windowRead τ) := by
  refine hτ.step ?_ hcov
  clear hτ hcov
  unfold State.windowRead
  (try dsimp only)
  repeat' (first | with_reducible assumption | with_reducible exact Steps.refl _ _ | ((with_reducible refine covers_self ?_); rfl) | with_reducible apply State.draw_steps | with_reducible apply State.give_steps | ((with_reducible apply State.setCulvert_culvert_steps); (rotate_left 1); (focus (intro _; first | rfl | exact ⟨rfl, fun _ => ⟨fun h => by simp [h], fun h => by simp [h]⟩⟩ | exact ⟨⟨rfl, rfl⟩, fun _ h => by simp [h]⟩ | exact ⟨⟨rfl, rfl⟩, List.prefix_append _ _⟩ | exact ⟨rfl, rfl⟩ | exact ⟨rfl, rfl, rfl⟩ | exact ⟨⟨rfl, rfl⟩, rfl, rfl, rfl⟩ | exact ⟨rfl, rfl, rfl, rfl⟩ | ((try dsimp only); (repeat' split) <;> first | rfl | exact ⟨rfl, rfl⟩ | exact ⟨rfl, rfl, rfl⟩ | exact ⟨rfl, rfl, rfl, rfl⟩ | (simp; done)) | (simp; done))); (rotate_left 1)) | with_reducible apply Steps.ite | (intro _ _ _) | (intro _ _) | split | (dsimp only))

theorem State.capTokens_steps {ps : List Part} {σ τ : State} (a : Nat) (hτ : Steps ps σ τ)
    (hcov : covers ps [.govs] = true) : Steps ps σ (State.capTokens τ a) := by
  refine hτ.step ?_ hcov
  clear hτ hcov
  unfold State.capTokens
  (try dsimp only)
  repeat' (first | with_reducible assumption | with_reducible exact Steps.refl _ _ | ((with_reducible refine covers_self ?_); rfl) | with_reducible apply State.updGov_steps | with_reducible apply Steps.ite | (intro _ _ _) | (intro _ _) | split | (dsimp only))

theorem State.windowPut_steps {ps : List Part} {σ τ : State} (a : Nat) (v : Half) (hτ : Steps ps σ τ)
    (hcov : covers ps [.mem, .code, .pool, .boxes, .rows, .culvert, .engine, .govs] = true) : Steps ps σ (State.windowPut τ a v) := by
  refine hτ.step ?_ hcov
  clear hτ hcov
  unfold State.windowPut
  (try dsimp only)
  repeat' (first | with_reducible assumption | with_reducible exact Steps.refl _ _ | ((with_reducible refine covers_self ?_); rfl) | with_reducible apply State.capTokens_steps | with_reducible apply State.hostPutWord_steps | ((with_reducible apply State.setEngine_engine_steps); (rotate_left 1); (focus (intro _; first | rfl | exact ⟨rfl, fun _ => ⟨fun h => by simp [h], fun h => by simp [h]⟩⟩ | exact ⟨⟨rfl, rfl⟩, fun _ h => by simp [h]⟩ | exact ⟨⟨rfl, rfl⟩, List.prefix_append _ _⟩ | exact ⟨rfl, rfl⟩ | exact ⟨rfl, rfl, rfl⟩ | exact ⟨⟨rfl, rfl⟩, rfl, rfl, rfl⟩ | exact ⟨rfl, rfl, rfl, rfl⟩ | ((try dsimp only); (repeat' split) <;> first | rfl | exact ⟨rfl, rfl⟩ | exact ⟨rfl, rfl, rfl⟩ | exact ⟨rfl, rfl, rfl, rfl⟩ | (simp; done)) | (simp; done))); (rotate_left 1)) | ((with_reducible apply State.setCulvert_culvert_steps); (rotate_left 1); (focus (intro _; first | rfl | exact ⟨rfl, fun _ => ⟨fun h => by simp [h], fun h => by simp [h]⟩⟩ | exact ⟨⟨rfl, rfl⟩, fun _ h => by simp [h]⟩ | exact ⟨⟨rfl, rfl⟩, List.prefix_append _ _⟩ | exact ⟨rfl, rfl⟩ | exact ⟨rfl, rfl, rfl⟩ | exact ⟨⟨rfl, rfl⟩, rfl, rfl, rfl⟩ | exact ⟨rfl, rfl, rfl, rfl⟩ | ((try dsimp only); (repeat' split) <;> first | rfl | exact ⟨rfl, rfl⟩ | exact ⟨rfl, rfl, rfl⟩ | exact ⟨rfl, rfl, rfl, rfl⟩ | (simp; done)) | (simp; done))); (rotate_left 1)) | with_reducible apply Steps.ite | (intro _ _ _) | (intro _ _) | split | (dsimp only))

theorem State.takeRows_steps {ps : List Part} {σ τ : State}  (hτ : Steps ps σ τ)
    (hcov : covers ps [.mem, .pool, .draws, .irq, .bells, .replies, .changes, .ports, .tx, .sieve, .sluice, .lamps, .buses, .heads, .pair, .journal, .tag, .inject] = true) : Steps ps σ (State.takeRows τ) := by
  refine hτ.step ?_ hcov
  clear hτ hcov
  unfold State.takeRows
  (try dsimp only)
  repeat' (first | with_reducible assumption | with_reducible exact Steps.refl _ _ | ((with_reducible refine covers_self ?_); rfl) | with_reducible apply State.eachPort_steps | with_reducible apply State.setSieve_steps | with_reducible apply State.takeLampRows_steps | with_reducible apply State.headsConfigured_steps | with_reducible apply State.adoptTx_steps | with_reducible apply State.hedgeRole_steps | with_reducible apply State.rxBoundary_steps | with_reducible apply Steps.ite | (intro _ _ _) | (intro _ _) | split | (dsimp only))

theorem State.endSession_steps {ps : List Part} {σ τ : State} (pages : Byte) (broken : Bool) (hτ : Steps ps σ τ)
    (hcov : covers ps [.mem, .pool, .draws, .irq, .culvert, .bells, .replies, .changes, .ports, .tx, .sieve, .sluice, .lamps, .buses, .heads, .pair, .journal, .tag, .inject] = true) : Steps ps σ (State.endSession τ pages broken) := by
  refine hτ.step ?_ hcov
  clear hτ hcov
  unfold State.endSession
  (try dsimp only)
  repeat' (first | with_reducible assumption | with_reducible exact Steps.refl _ _ | ((with_reducible refine covers_self ?_); rfl) | with_reducible apply State.noteChange_steps | with_reducible apply State.newDigest_steps | with_reducible apply State.keepRecord_steps | with_reducible apply State.takeRows_steps | ((with_reducible apply State.setCulvert_culvert_steps); (rotate_left 1); (focus (intro _; first | rfl | exact ⟨rfl, fun _ => ⟨fun h => by simp [h], fun h => by simp [h]⟩⟩ | exact ⟨⟨rfl, rfl⟩, fun _ h => by simp [h]⟩ | exact ⟨⟨rfl, rfl⟩, List.prefix_append _ _⟩ | exact ⟨rfl, rfl⟩ | exact ⟨rfl, rfl, rfl⟩ | exact ⟨⟨rfl, rfl⟩, rfl, rfl, rfl⟩ | exact ⟨rfl, rfl, rfl, rfl⟩ | ((try dsimp only); (repeat' split) <;> first | rfl | exact ⟨rfl, rfl⟩ | exact ⟨rfl, rfl, rfl⟩ | exact ⟨rfl, rfl, rfl, rfl⟩ | (simp; done)) | (simp; done))); (rotate_left 1)) | with_reducible apply Steps.ite | (intro _ _ _) | (intro _ _) | split | (dsimp only))

theorem State.breakLock_steps {ps : List Part} {σ τ : State} (cause : BitVec 2) (hτ : Steps ps σ τ)
    (hcov : covers ps [.mem, .pool, .draws, .irq, .culvert, .bells, .replies, .changes, .ports, .tx, .sieve, .sluice, .lamps, .buses, .heads, .pair, .journal, .tag, .inject] = true) : Steps ps σ (State.breakLock τ cause) := by
  refine hτ.step ?_ hcov
  clear hτ hcov
  unfold State.breakLock
  (try dsimp only)
  repeat' (first | with_reducible assumption | with_reducible exact Steps.refl _ _ | ((with_reducible refine covers_self ?_); rfl) | with_reducible apply State.raise_steps | with_reducible apply State.endSession_steps | ((with_reducible apply State.setCulvert_culvert_steps); (rotate_left 1); (focus (intro _; first | rfl | exact ⟨rfl, fun _ => ⟨fun h => by simp [h], fun h => by simp [h]⟩⟩ | exact ⟨⟨rfl, rfl⟩, fun _ h => by simp [h]⟩ | exact ⟨⟨rfl, rfl⟩, List.prefix_append _ _⟩ | exact ⟨rfl, rfl⟩ | exact ⟨rfl, rfl, rfl⟩ | exact ⟨⟨rfl, rfl⟩, rfl, rfl, rfl⟩ | exact ⟨rfl, rfl, rfl, rfl⟩ | ((try dsimp only); (repeat' split) <;> first | rfl | exact ⟨rfl, rfl⟩ | exact ⟨rfl, rfl, rfl⟩ | exact ⟨rfl, rfl, rfl, rfl⟩ | (simp; done)) | (simp; done))); (rotate_left 1)) | with_reducible apply Steps.ite | (intro _ _ _) | (intro _ _) | split | (dsimp only))

theorem State.lockCtl_steps {ps : List Part} {σ τ : State} (v : Half) (hτ : Steps ps σ τ)
    (hcov : covers ps [.mem, .pool, .draws, .irq, .culvert, .bells, .replies, .changes, .ports, .tx, .sieve, .sluice, .lamps, .buses, .heads, .pair, .journal, .tag, .inject] = true) : Steps ps σ (State.lockCtl τ v) := by
  refine hτ.step ?_ hcov
  clear hτ hcov
  unfold State.lockCtl
  (try dsimp only)
  repeat' (first | with_reducible assumption | with_reducible exact Steps.refl _ _ | ((with_reducible refine covers_self ?_); rfl) | with_reducible apply State.culvertFail_steps | with_reducible apply State.dropLine_steps | with_reducible apply State.endSession_steps | ((with_reducible apply State.setCulvert_culvert_steps); (rotate_left 1); (focus (intro _; first | rfl | exact ⟨rfl, fun _ => ⟨fun h => by simp [h], fun h => by simp [h]⟩⟩ | exact ⟨⟨rfl, rfl⟩, fun _ h => by simp [h]⟩ | exact ⟨⟨rfl, rfl⟩, List.prefix_append _ _⟩ | exact ⟨rfl, rfl⟩ | exact ⟨rfl, rfl, rfl⟩ | exact ⟨⟨rfl, rfl⟩, rfl, rfl, rfl⟩ | exact ⟨rfl, rfl, rfl, rfl⟩ | ((try dsimp only); (repeat' split) <;> first | rfl | exact ⟨rfl, rfl⟩ | exact ⟨rfl, rfl, rfl⟩ | exact ⟨rfl, rfl, rfl, rfl⟩ | (simp; done)) | (simp; done))); (rotate_left 1)) | with_reducible apply Steps.ite | (intro _ _ _) | (intro _ _) | split | (dsimp only))

theorem State.clearMbox_steps {ps : List Part} {σ τ : State} (c : Chan) (v : Half) (hτ : Steps ps σ τ)
    (hcov : covers ps [.irq, .chanN, .chanK] = true) : Steps ps σ (State.clearMbox τ c v) := by
  refine hτ.step ?_ hcov
  clear hτ hcov
  unfold State.clearMbox
  (try dsimp only)
  repeat' (first | with_reducible assumption | with_reducible exact Steps.refl _ _ | ((with_reducible refine covers_self ?_); rfl) | with_reducible apply State.raise_steps | ((with_reducible apply State.setChan_chan_steps); (rotate_left 1); (focus (intro _; first | rfl | exact ⟨rfl, fun _ => ⟨fun h => by simp [h], fun h => by simp [h]⟩⟩ | exact ⟨⟨rfl, rfl⟩, fun _ h => by simp [h]⟩ | exact ⟨⟨rfl, rfl⟩, List.prefix_append _ _⟩ | exact ⟨rfl, rfl⟩ | exact ⟨rfl, rfl, rfl⟩ | exact ⟨⟨rfl, rfl⟩, rfl, rfl, rfl⟩ | exact ⟨rfl, rfl, rfl, rfl⟩ | ((try dsimp only); (repeat' split) <;> first | rfl | exact ⟨rfl, rfl⟩ | exact ⟨rfl, rfl, rfl⟩ | exact ⟨rfl, rfl, rfl, rfl⟩ | (simp; done)) | (simp; done))); (rotate_left 1)) | (intro _ _ _) | (intro _ _) | split | (dsimp only))

theorem State.postOut_steps {ps : List Part} {σ τ : State} (c : Chan) (w : Word) (hτ : Steps ps σ τ)
    (hcov : covers ps [.chanN, .chanK] = true) : Steps ps σ (State.postOut τ c w) := by
  refine hτ.step ?_ hcov
  clear hτ hcov
  unfold State.postOut
  (try dsimp only)
  repeat' (first | with_reducible assumption | with_reducible exact Steps.refl _ _ | ((with_reducible refine covers_self ?_); rfl) | ((with_reducible apply State.setChan_chan_steps); (rotate_left 1); (focus (intro _; first | rfl | exact ⟨rfl, fun _ => ⟨fun h => by simp [h], fun h => by simp [h]⟩⟩ | exact ⟨⟨rfl, rfl⟩, fun _ h => by simp [h]⟩ | exact ⟨⟨rfl, rfl⟩, List.prefix_append _ _⟩ | exact ⟨rfl, rfl⟩ | exact ⟨rfl, rfl, rfl⟩ | exact ⟨⟨rfl, rfl⟩, rfl, rfl, rfl⟩ | exact ⟨rfl, rfl, rfl, rfl⟩ | ((try dsimp only); (repeat' split) <;> first | rfl | exact ⟨rfl, rfl⟩ | exact ⟨rfl, rfl, rfl⟩ | exact ⟨rfl, rfl, rfl, rfl⟩ | (simp; done)) | (simp; done))); (rotate_left 1)) | with_reducible apply Steps.ite | (intro _ _ _) | (intro _ _) | split | (dsimp only))

theorem State.splitLow_steps {ps : List Part} {σ τ : State} (c : Chan) (reg : SplitReg) (v : Half) (hτ : Steps ps σ τ)
    (hcov : covers ps [.chanN, .chanK] = true) : Steps ps σ (State.splitLow τ c reg v) := by
  refine hτ.step ?_ hcov
  clear hτ hcov
  unfold State.splitLow
  (try dsimp only)
  repeat' (first | with_reducible assumption | with_reducible exact Steps.refl _ _ | ((with_reducible refine covers_self ?_); rfl) | ((with_reducible apply State.setChan_chan_steps); (rotate_left 1); (focus (intro _; first | rfl | exact ⟨rfl, fun _ => ⟨fun h => by simp [h], fun h => by simp [h]⟩⟩ | exact ⟨⟨rfl, rfl⟩, fun _ h => by simp [h]⟩ | exact ⟨⟨rfl, rfl⟩, List.prefix_append _ _⟩ | exact ⟨rfl, rfl⟩ | exact ⟨rfl, rfl, rfl⟩ | exact ⟨⟨rfl, rfl⟩, rfl, rfl, rfl⟩ | exact ⟨rfl, rfl, rfl, rfl⟩ | ((try dsimp only); (repeat' split) <;> first | rfl | exact ⟨rfl, rfl⟩ | exact ⟨rfl, rfl, rfl⟩ | exact ⟨rfl, rfl, rfl, rfl⟩ | (simp; done)) | (simp; done))); (rotate_left 1)) | (intro _ _ _) | (intro _ _) | split | (dsimp only))

theorem State.splitHigh_steps {ps : List Part} {σ τ : State} (c : Chan) (reg : SplitReg) (v : Half) (hτ : Steps ps σ τ)
    (hcov : covers ps [.bells, .hush, .replies, .drops, .chanN, .chanK] = true) : Steps ps σ (State.splitHigh τ c reg v) := by
  refine hτ.step ?_ hcov
  clear hτ hcov
  unfold State.splitHigh
  (try dsimp only)
  repeat' (first | with_reducible assumption | with_reducible exact Steps.refl _ _ | ((with_reducible refine covers_self ?_); rfl) | with_reducible apply State.postOut_steps | ((with_reducible apply State.setChan_chan_steps); (rotate_left 1); (focus (intro _; first | rfl | exact ⟨rfl, fun _ => ⟨fun h => by simp [h], fun h => by simp [h]⟩⟩ | exact ⟨⟨rfl, rfl⟩, fun _ h => by simp [h]⟩ | exact ⟨⟨rfl, rfl⟩, List.prefix_append _ _⟩ | exact ⟨rfl, rfl⟩ | exact ⟨rfl, rfl, rfl⟩ | exact ⟨⟨rfl, rfl⟩, rfl, rfl, rfl⟩ | exact ⟨rfl, rfl, rfl, rfl⟩ | ((try dsimp only); (repeat' split) <;> first | rfl | exact ⟨rfl, rfl⟩ | exact ⟨rfl, rfl, rfl⟩ | exact ⟨rfl, rfl, rfl, rfl⟩ | (simp; done)) | (simp; done))); (rotate_left 1)) | with_reducible apply State.setChan_steps | with_reducible apply Steps.ite | (intro _ _ _) | (intro _ _) | split | (dsimp only))

theorem State.done_steps {ps : List Part} {σ τ : State} (m : Msg) (code : Nat) (payload : List Byte) (hτ : Steps ps σ τ)
    (hcov : covers ps [.replies] = true) : Steps ps σ (State.done τ m code payload) := by
  refine hτ.step ?_ hcov
  clear hτ hcov
  unfold State.done
  (try dsimp only)
  repeat' (first | with_reducible assumption | with_reducible exact Steps.refl _ _ | ((with_reducible refine covers_self ?_); rfl) | with_reducible apply State.reply_steps | (dsimp only))

theorem State.refused_steps {ps : List Part} {σ τ : State} (m : Msg) (code status : Nat) (hτ : Steps ps σ τ)
    (hcov : covers ps [.replies] = true) : Steps ps σ (State.refused τ m code status) := by
  refine hτ.step ?_ hcov
  clear hτ hcov
  unfold State.refused
  (try dsimp only)
  repeat' (first | with_reducible assumption | with_reducible exact Steps.refl _ _ | ((with_reducible refine covers_self ?_); rfl) | with_reducible apply State.reply_steps | (dsimp only))

theorem State.badAt_steps {ps : List Part} {σ τ : State} (m : Msg) (code offset : Nat) (hτ : Steps ps σ τ)
    (hcov : covers ps [.replies] = true) : Steps ps σ (State.badAt τ m code offset) := by
  refine hτ.step ?_ hcov
  clear hτ hcov
  unfold State.badAt
  (try dsimp only)
  repeat' (first | with_reducible assumption | with_reducible exact Steps.refl _ _ | ((with_reducible refine covers_self ?_); rfl) | with_reducible apply State.reply_steps | (dsimp only))

theorem State.changed_steps {ps : List Part} {σ τ : State} (m : Msg) (code : Nat) (payload : List Byte) (hτ : Steps ps σ τ)
    (hcov : covers ps [.replies, .changes, .journal] = true) : Steps ps σ (State.changed τ m code payload) := by
  refine hτ.step ?_ hcov
  clear hτ hcov
  unfold State.changed
  (try dsimp only)
  repeat' (first | with_reducible assumption | with_reducible exact Steps.refl _ _ | ((with_reducible refine covers_self ?_); rfl) | with_reducible apply State.configChange_steps | with_reducible apply State.done_steps | (dsimp only))

theorem State.answerMalformed_steps {ps : List Part} {σ τ : State}  (hτ : Steps ps σ τ)
    (hcov : covers ps [.replies, .work] = true) : Steps ps σ (State.answerMalformed τ) := by
  refine hτ.step ?_ hcov
  clear hτ hcov
  unfold State.answerMalformed
  (try dsimp only)
  repeat' (first | with_reducible assumption | with_reducible exact Steps.refl _ _ | ((with_reducible refine covers_self ?_); rfl) | with_reducible apply State.reply_steps | ((with_reducible apply State.setEngine_work_steps); (rotate_left 1); (focus (intro _; first | rfl | exact ⟨rfl, fun _ => ⟨fun h => by simp [h], fun h => by simp [h]⟩⟩ | exact ⟨⟨rfl, rfl⟩, fun _ h => by simp [h]⟩ | exact ⟨⟨rfl, rfl⟩, List.prefix_append _ _⟩ | exact ⟨rfl, rfl⟩ | exact ⟨rfl, rfl, rfl⟩ | exact ⟨⟨rfl, rfl⟩, rfl, rfl, rfl⟩ | exact ⟨rfl, rfl, rfl, rfl⟩ | ((try dsimp only); (repeat' split) <;> first | rfl | exact ⟨rfl, rfl⟩ | exact ⟨rfl, rfl, rfl⟩ | exact ⟨rfl, rfl, rfl, rfl⟩ | (simp; done)) | (simp; done))); (rotate_left 1)) | with_reducible apply Steps.foldl | with_reducible apply Steps.ite | (intro _ _ _) | (intro _ _) | split | (dsimp only))

theorem State.serve_steps {ps : List Part} {σ τ : State} (m : Msg) (code : Nat) (modes : State → Bool) (check : List Byte → Option Nat) (f : State → List Byte → State) (hτ : Steps ps σ τ) (hf : ∀ υ x, Steps ps σ υ → Steps ps σ (f υ x)) (hcov : covers ps [.replies, .work] = true) :
    Steps ps σ (State.serve τ m code modes check f) := by
  unfold State.serve
  (try dsimp only)
  repeat' (first | with_reducible assumption | with_reducible exact Steps.refl _ _ | with_reducible apply hf | with_reducible exact covers_trans hcov rfl | ((with_reducible refine covers_self ?_); rfl) | with_reducible apply State.answerMalformed_steps | with_reducible apply State.refused_steps | with_reducible apply State.badAt_steps | ((with_reducible apply State.setEngine_work_steps); (rotate_left 1); (focus (intro _; first | rfl | exact ⟨rfl, fun _ => ⟨fun h => by simp [h], fun h => by simp [h]⟩⟩ | exact ⟨⟨rfl, rfl⟩, fun _ h => by simp [h]⟩ | exact ⟨⟨rfl, rfl⟩, List.prefix_append _ _⟩ | exact ⟨rfl, rfl⟩ | exact ⟨rfl, rfl, rfl⟩ | exact ⟨⟨rfl, rfl⟩, rfl, rfl, rfl⟩ | exact ⟨rfl, rfl, rfl, rfl⟩ | ((try dsimp only); (repeat' split) <;> first | rfl | exact ⟨rfl, rfl⟩ | exact ⟨rfl, rfl, rfl⟩))); (rotate_left 1)) | with_reducible apply Steps.ite | (intro _ _ _) | (intro _ _) | split | (dsimp only))

theorem State.accept_steps {ps : List Part} {σ τ : State} (m : Msg) (code : Nat) (w : Work) (hτ : Steps ps σ τ)
    (hcov : covers ps [.replies, .work] = true) : Steps ps σ (State.accept τ m code w) := by
  refine hτ.step ?_ hcov
  clear hτ hcov
  unfold State.accept
  (try dsimp only)
  repeat' (first | with_reducible assumption | with_reducible exact Steps.refl _ _ | ((with_reducible refine covers_self ?_); rfl) | with_reducible apply State.reply_steps | ((with_reducible apply State.setEngine_work_steps); (rotate_left 1); (focus (intro _; first | rfl | exact ⟨rfl, fun _ => ⟨fun h => by simp [h], fun h => by simp [h]⟩⟩ | exact ⟨⟨rfl, rfl⟩, fun _ h => by simp [h]⟩ | exact ⟨⟨rfl, rfl⟩, List.prefix_append _ _⟩ | exact ⟨rfl, rfl⟩ | exact ⟨rfl, rfl, rfl⟩ | exact ⟨⟨rfl, rfl⟩, rfl, rfl, rfl⟩ | exact ⟨rfl, rfl, rfl, rfl⟩ | ((try dsimp only); (repeat' split) <;> first | rfl | exact ⟨rfl, rfl⟩ | exact ⟨rfl, rfl, rfl⟩ | exact ⟨rfl, rfl, rfl, rfl⟩ | (simp; done)) | (simp; done))); (rotate_left 1)) | (intro _ _ _) | (intro _ _) | (dsimp only))

theorem State.settle_steps {ps : List Part} {σ τ : State}  (hτ : Steps ps σ τ)
    (hcov : covers ps [.irq, .bells, .journal] = true) : Steps ps σ (State.settle τ) := by
  refine hτ.step ?_ hcov
  clear hτ hcov
  unfold State.settle
  (try dsimp only)
  repeat' (first | with_reducible assumption | with_reducible exact Steps.refl _ _ | ((with_reducible refine covers_self ?_); rfl) | with_reducible apply State.setJournal_steps | with_reducible apply State.ring_steps | with_reducible apply Steps.ite | (intro _ _ _) | (intro _ _) | split | (dsimp only))

theorem State.writeRecord_steps {ps : List Part} {σ τ : State} (r : Rec) (hτ : Steps ps σ τ)
    (hcov : covers ps [.journal] = true) : Steps ps σ (State.writeRecord τ r) := by
  refine hτ.step ?_ hcov
  clear hτ hcov
  unfold State.writeRecord
  (try dsimp only)
  repeat' (first | with_reducible assumption | with_reducible exact Steps.refl _ _ | ((with_reducible refine covers_self ?_); rfl) | with_reducible apply State.setJournal_steps | (intro _ _ _) | (intro _ _) | split | (dsimp only))

theorem State.siltRecord_steps {ps : List Part} {σ τ : State} (kind : Byte) (body : List Byte) (hτ : Steps ps σ τ)
    (hcov : covers ps [.journal] = true) : Steps ps σ (State.siltRecord τ kind body) := by
  refine hτ.step ?_ hcov
  clear hτ hcov
  unfold State.siltRecord
  (try dsimp only)
  repeat' (first | with_reducible assumption | with_reducible exact Steps.refl _ _ | ((with_reducible refine covers_self ?_); rfl) | with_reducible apply State.writeRecord_steps | (dsimp only))

theorem State.lossRecord_steps {ps : List Part} {σ τ : State} (first last : Word) (dropped cause : Nat) (hτ : Steps ps σ τ)
    (hcov : covers ps [.irq, .bells, .journal] = true) : Steps ps σ (State.lossRecord τ first last dropped cause) := by
  refine hτ.step ?_ hcov
  clear hτ hcov
  unfold State.lossRecord
  (try dsimp only)
  repeat' (first | with_reducible assumption | with_reducible exact Steps.refl _ _ | ((with_reducible refine covers_self ?_); rfl) | with_reducible apply State.setJournal_steps | with_reducible apply State.ring_steps | with_reducible apply State.siltRecord_steps | (intro _ _ _) | (intro _ _) | (dsimp only))

theorem State.putNand_steps {ps : List Part} {σ τ : State} (n : Nand) (hτ : Steps ps σ τ)
    (hcov : covers ps [.journal] = true) : Steps ps σ (State.putNand τ n) := by
  refine hτ.step ?_ hcov
  clear hτ hcov
  unfold State.putNand
  (try dsimp only)
  repeat' (first | with_reducible assumption | with_reducible exact Steps.refl _ _ | ((with_reducible refine covers_self ?_); rfl) | with_reducible apply State.setJournal_steps | with_reducible apply Steps.ite | (intro _ _ _) | (intro _ _) | split | (dsimp only))

theorem State.oweReset_steps {ps : List Part} {σ τ : State} (b : Nat) (hτ : Steps ps σ τ)
    (hcov : covers ps [.journal] = true) : Steps ps σ (State.oweReset τ b) := by
  refine hτ.step ?_ hcov
  clear hτ hcov
  unfold State.oweReset
  (try dsimp only)
  repeat' (first | with_reducible assumption | with_reducible exact Steps.refl _ _ | ((with_reducible refine covers_self ?_); rfl) | with_reducible apply State.setJournal_steps | with_reducible apply Steps.ite | (intro _ _ _) | (intro _ _) | split | (dsimp only))

theorem State.checkStock_steps {ps : List Part} {σ τ : State}  (hτ : Steps ps σ τ)
    (hcov : covers ps [.irq, .bells, .journal] = true) : Steps ps σ (State.checkStock τ) := by
  refine hτ.step ?_ hcov
  clear hτ hcov
  unfold State.checkStock
  (try dsimp only)
  repeat' (first | with_reducible assumption | with_reducible exact Steps.refl _ _ | ((with_reducible refine covers_self ?_); rfl) | with_reducible apply State.setJournal_steps | with_reducible apply State.ring_steps | with_reducible apply Steps.ite | (intro _ _ _) | (intro _ _) | split | (dsimp only))

theorem State.siltRests_steps {ps : List Part} {σ τ : State}  (hτ : Steps ps σ τ)
    (hcov : covers ps [.journal] = true) : Steps ps σ (State.siltRests τ) := by
  refine hτ.step ?_ hcov
  clear hτ hcov
  unfold State.siltRests
  (try dsimp only)
  repeat' (first | with_reducible assumption | with_reducible exact Steps.refl _ _ | ((with_reducible refine covers_self ?_); rfl) | with_reducible apply State.setJournal_steps | with_reducible apply Steps.ite | (intro _ _ _) | (intro _ _) | split | (dsimp only))

theorem State.pageDurable_steps {ps : List Part} {σ τ : State} (n : Nand) (c : Closing) (rest : List Closing) (hτ : Steps ps σ τ)
    (hcov : covers ps [.irq, .bells, .journal] = true) : Steps ps σ (State.pageDurable τ n c rest) := by
  refine hτ.step ?_ hcov
  clear hτ hcov
  unfold State.pageDurable
  (try dsimp only)
  repeat' (first | with_reducible assumption | with_reducible exact Steps.refl _ _ | ((with_reducible refine covers_self ?_); rfl) | with_reducible apply State.ring_steps | with_reducible apply State.setJournal_steps | with_reducible apply State.putNand_steps | with_reducible apply State.siltRecord_steps | with_reducible apply State.settle_steps | with_reducible apply Steps.ite | (intro _ _ _) | (intro _ _) | split | (dsimp only))

theorem State.giveUp_steps {ps : List Part} {σ τ : State} (c : Closing) (rest : List Closing) (hτ : Steps ps σ τ)
    (hcov : covers ps [.irq, .bells, .journal] = true) : Steps ps σ (State.giveUp τ c rest) := by
  refine hτ.step ?_ hcov
  clear hτ hcov
  unfold State.giveUp
  (try dsimp only)
  repeat' (first | with_reducible assumption | with_reducible exact Steps.refl _ _ | ((with_reducible refine covers_self ?_); rfl) | with_reducible apply State.setJournal_steps | with_reducible apply State.lossRecord_steps | (intro _ _ _) | (intro _ _) | (dsimp only))

theorem State.pageFailed_steps {ps : List Part} {σ τ : State} (n : Nand) (c : Closing) (rest : List Closing) (hτ : Steps ps σ τ)
    (hcov : covers ps [.irq, .bells, .journal] = true) : Steps ps σ (State.pageFailed τ n c rest) := by
  refine hτ.step ?_ hcov
  clear hτ hcov
  unfold State.pageFailed
  (try dsimp only)
  repeat' (first | with_reducible assumption | with_reducible exact Steps.refl _ _ | ((with_reducible refine covers_self ?_); rfl) | with_reducible apply State.setJournal_steps | with_reducible apply State.putNand_steps | with_reducible apply State.settle_steps | with_reducible apply State.giveUp_steps | with_reducible apply State.checkStock_steps | with_reducible apply Steps.ite | (intro _ _ _) | (intro _ _) | split | (dsimp only))

theorem State.programEnds_steps {ps : List Part} {σ τ : State} (ok : Bool) (hτ : Steps ps σ τ)
    (hcov : covers ps [.irq, .bells, .journal] = true) : Steps ps σ (State.programEnds τ ok) := by
  refine hτ.step ?_ hcov
  clear hτ hcov
  unfold State.programEnds
  (try dsimp only)
  repeat' (first | with_reducible assumption | with_reducible exact Steps.refl _ _ | ((with_reducible refine covers_self ?_); rfl) | with_reducible apply State.pageFailed_steps | with_reducible apply State.pageDurable_steps | with_reducible apply Steps.ite | (intro _ _ _) | (intro _ _) | split | (dsimp only))

theorem State.eraseEnds_steps {ps : List Part} {σ τ : State} (ok : Bool) (hτ : Steps ps σ τ)
    (hcov : covers ps [.irq, .bells, .journal] = true) : Steps ps σ (State.eraseEnds τ ok) := by
  refine hτ.step ?_ hcov
  clear hτ hcov
  unfold State.eraseEnds
  (try dsimp only)
  repeat' (first | with_reducible assumption | with_reducible exact Steps.refl _ _ | ((with_reducible refine covers_self ?_); rfl) | with_reducible apply State.setJournal_steps | with_reducible apply State.putNand_steps | with_reducible apply State.siltRecord_steps | with_reducible apply State.checkStock_steps | with_reducible apply Steps.ite | (intro _ _ _) | (intro _ _) | split | (dsimp only))

theorem State.moveBlock_steps {ps : List Part} {σ τ : State} (n : Nand) (b : Nat) (hτ : Steps ps σ τ)
    (hcov : covers ps [.journal] = true) : Steps ps σ (State.moveBlock τ n b) := by
  refine hτ.step ?_ hcov
  clear hτ hcov
  unfold State.moveBlock
  (try dsimp only)
  repeat' (first | with_reducible assumption | with_reducible exact Steps.refl _ _ | ((with_reducible refine covers_self ?_); rfl) | with_reducible apply State.setJournal_steps | with_reducible apply State.putNand_steps | with_reducible apply State.siltRecord_steps | with_reducible apply Steps.ite | (intro _ _ _) | (intro _ _) | split | (dsimp only))

theorem State.checkPage_steps {ps : List Part} {σ τ : State} (serial : Nat) (r : ScrubResult) (hτ : Steps ps σ τ)
    (hcov : covers ps [.irq, .bells, .journal] = true) : Steps ps σ (State.checkPage τ serial r) := by
  refine hτ.step ?_ hcov
  clear hτ hcov
  unfold State.checkPage
  (try dsimp only)
  repeat' (first | with_reducible assumption | with_reducible exact Steps.refl _ _ | ((with_reducible refine covers_self ?_); rfl) | with_reducible apply State.putNand_steps | with_reducible apply State.moveBlock_steps | with_reducible apply State.lossRecord_steps | with_reducible apply Steps.ite | (intro _ _ _) | (intro _ _) | split | (dsimp only))

theorem State.scrubEnds_steps {ps : List Part} {σ τ : State} (r : ScrubResult) (hτ : Steps ps σ τ)
    (hcov : covers ps [.irq, .bells, .journal] = true) : Steps ps σ (State.scrubEnds τ r) := by
  refine hτ.step ?_ hcov
  clear hτ hcov
  unfold State.scrubEnds
  (try dsimp only)
  repeat' (first | with_reducible assumption | with_reducible exact Steps.refl _ _ | ((with_reducible refine covers_self ?_); rfl) | with_reducible apply State.putNand_steps | with_reducible apply State.checkPage_steps | with_reducible apply Steps.ite | (intro _ _ _) | (intro _ _) | split | (dsimp only))

theorem State.resetRecord_steps {ps : List Part} {σ τ : State}  (hτ : Steps ps σ τ)
    (hcov : covers ps [.journal] = true) : Steps ps σ (State.resetRecord τ) := by
  refine hτ.step ?_ hcov
  clear hτ hcov
  unfold State.resetRecord
  (try dsimp only)
  repeat' (first | with_reducible assumption | with_reducible exact Steps.refl _ _ | ((with_reducible refine covers_self ?_); rfl) | with_reducible apply State.setJournal_steps | with_reducible apply State.writeRecord_steps | with_reducible apply Steps.ite | (intro _ _ _) | (intro _ _) | split | (dsimp only))

theorem State.mountOn_steps {ps : List Part} {σ τ : State} (n : Nand) (hτ : Steps ps σ τ)
    (hcov : covers ps [.irq, .bells, .journal] = true) : Steps ps σ (State.mountOn τ n) := by
  refine hτ.step ?_ hcov
  clear hτ hcov
  unfold State.mountOn
  (try dsimp only)
  repeat' (first | with_reducible assumption | with_reducible exact Steps.refl _ _ | ((with_reducible refine covers_self ?_); rfl) | with_reducible apply State.writeRecord_steps | with_reducible apply State.setJournal_steps | with_reducible apply State.siltRecord_steps | with_reducible apply State.resetRecord_steps | with_reducible apply State.lossRecord_steps | with_reducible apply Steps.foldl | with_reducible apply Steps.ite | (intro _ _ _) | (intro _ _) | split | (dsimp only))

theorem State.mount_steps {ps : List Part} {σ τ : State}  (hτ : Steps ps σ τ)
    (hcov : covers ps [.irq, .bells, .journal] = true) : Steps ps σ (State.mount τ) := by
  refine hτ.step ?_ hcov
  clear hτ hcov
  unfold State.mount
  (try dsimp only)
  repeat' (first | with_reducible assumption | with_reducible exact Steps.refl _ _ | ((with_reducible refine covers_self ?_); rfl) | with_reducible apply State.mountOn_steps | with_reducible apply State.ring_steps | with_reducible apply State.setJournal_steps | with_reducible apply Steps.ite | (intro _ _ _) | (intro _ _) | split | (dsimp only))

theorem State.checkPages_steps {ps : List Part} {σ τ : State} (first : Nat) (errors : List (List Nat)) (hτ : Steps ps σ τ)
    (hcov : covers ps [.irq, .bells, .journal] = true) : Steps ps σ (State.checkPages τ first errors) := by
  refine hτ.step ?_ hcov
  clear hτ hcov
  unfold State.checkPages
  (try dsimp only)
  repeat' (first | with_reducible assumption | with_reducible exact Steps.refl _ _ | ((with_reducible refine covers_self ?_); rfl) | with_reducible apply State.checkPage_steps | with_reducible apply Steps.foldl | with_reducible apply Steps.ite | (intro _ _ _) | (intro _ _) | split | (dsimp only))

theorem State.pageFull_steps {ps : List Part} {σ τ : State}  (hτ : Steps ps σ τ)
    (hcov : covers ps [.journal] = true) : Steps ps σ (State.pageFull τ) := by
  refine hτ.step ?_ hcov
  clear hτ hcov
  unfold State.pageFull
  (try dsimp only)
  repeat' (first | with_reducible assumption | with_reducible exact Steps.refl _ _ | ((with_reducible refine covers_self ?_); rfl) | with_reducible apply State.setJournal_steps | with_reducible apply Steps.ite | (intro _ _ _) | (intro _ _) | split | (dsimp only))

theorem State.failOp_steps {ps : List Part} {σ τ : State} (op : NandOp) (hτ : Steps ps σ τ)
    (hcov : covers ps [.irq, .bells, .journal] = true) : Steps ps σ (State.failOp τ op) := by
  refine hτ.step ?_ hcov
  clear hτ hcov
  unfold State.failOp
  (try dsimp only)
  repeat' (first | with_reducible assumption | with_reducible exact Steps.refl _ _ | ((with_reducible refine covers_self ?_); rfl) | with_reducible apply State.eraseEnds_steps | with_reducible apply State.scrubEnds_steps | with_reducible apply State.programEnds_steps | with_reducible apply Steps.ite | (intro _ _ _) | (intro _ _) | split | (dsimp only))

theorem State.firstFlag_steps {ps : List Part} {σ τ : State} (p : PortNo) (bit : Nat) (hτ : Steps ps σ τ)
    (hcov : covers ps [.mem, .rows] = true) : Steps ps σ (State.firstFlag τ p bit) := by
  refine hτ.step ?_ hcov
  clear hτ hcov
  unfold State.firstFlag
  (try dsimp only)
  repeat' (first | with_reducible assumption | with_reducible exact Steps.refl _ _ | ((with_reducible refine covers_self ?_); rfl) | ((with_reducible refine State.putByte_in_steps (r := .rows) ?_ ?_ ?_); (focus (simp only [Part.within, portRowAt, viewRowAt, sieveRowAt, weirRowAt, lampRowAt, headRowAt, busRowAt, firstSecondAt, resetStampAt, cellAt, bytesAt, leBytes_length, List.length_take, List.length_drop, List.length_append, List.length_cons, List.length_nil, State.memBytes_length]; (repeat' split) <;> omega))) | (dsimp only))

theorem State.countFirst_steps {ps : List Part} {σ τ : State} (p : PortNo) (o : Nat) (hτ : Steps ps σ τ)
    (hcov : covers ps [.mem, .rows] = true) : Steps ps σ (State.countFirst τ p o) := by
  refine hτ.step ?_ hcov
  clear hτ hcov
  unfold State.countFirst
  (try dsimp only)
  repeat' (first | with_reducible assumption | with_reducible exact Steps.refl _ _ | ((with_reducible refine covers_self ?_); rfl) | with_reducible apply State.firstFlag_steps | ((with_reducible refine State.putBytes_in_steps (r := .rows) ?_ ?_ ?_); (focus (simp only [Part.within, portRowAt, viewRowAt, sieveRowAt, weirRowAt, lampRowAt, headRowAt, busRowAt, firstSecondAt, resetStampAt, cellAt, bytesAt, leBytes_length, List.length_take, List.length_drop, List.length_append, List.length_cons, List.length_nil, State.memBytes_length]; (repeat' split) <;> omega))) | with_reducible apply Steps.ite | split | (dsimp only))

theorem State.ampRead_steps {ps : List Part} {σ τ : State} (p : PortNo) (r : Byte) (hτ : Steps ps σ τ)
    (hcov : covers ps [.mem, .pool, .draws, .irq, .bells, .events, .ports, .sluice, .journal, .dozeEvents] = true) : Steps ps σ (State.ampRead τ p r) := by
  refine hτ.step ?_ hcov
  clear hτ hcov
  unfold State.ampRead
  (try dsimp only)
  repeat' (first | with_reducible assumption | with_reducible exact Steps.refl _ _ | ((with_reducible refine covers_self ?_); rfl) | with_reducible apply State.portEvent_steps | ((with_reducible apply State.updPort_ports_steps); (rotate_left 1); (focus (intro _; first | rfl | exact ⟨rfl, fun _ => ⟨fun h => by simp [h], fun h => by simp [h]⟩⟩ | exact ⟨⟨rfl, rfl⟩, fun _ h => by simp [h]⟩ | exact ⟨⟨rfl, rfl⟩, List.prefix_append _ _⟩ | exact ⟨rfl, rfl⟩ | exact ⟨rfl, rfl, rfl⟩ | exact ⟨⟨rfl, rfl⟩, rfl, rfl, rfl⟩ | exact ⟨rfl, rfl, rfl, rfl⟩ | ((try dsimp only); (repeat' split) <;> first | rfl | exact ⟨rfl, rfl⟩ | exact ⟨rfl, rfl, rfl⟩ | exact ⟨rfl, rfl, rfl, rfl⟩ | (simp; done)) | (simp; done))); (rotate_left 1)) | with_reducible apply Steps.ite | (intro _ _ _) | (intro _ _) | split | (dsimp only))

theorem State.ampFrame_steps {ps : List Part} {σ τ : State} (p : PortNo) (bits : Half) (r : Byte) (hτ : Steps ps σ τ)
    (hcov : covers ps [.ports] = true) : Steps ps σ (State.ampFrame τ p bits r) := by
  refine hτ.step ?_ hcov
  clear hτ hcov
  unfold State.ampFrame
  (try dsimp only)
  repeat' (first | with_reducible assumption | with_reducible exact Steps.refl _ _ | ((with_reducible refine covers_self ?_); rfl) | ((with_reducible apply State.updPort_ports_steps); (rotate_left 1); (focus (intro _; first | rfl | exact ⟨rfl, fun _ => ⟨fun h => by simp [h], fun h => by simp [h]⟩⟩ | exact ⟨⟨rfl, rfl⟩, fun _ h => by simp [h]⟩ | exact ⟨⟨rfl, rfl⟩, List.prefix_append _ _⟩ | exact ⟨rfl, rfl⟩ | exact ⟨rfl, rfl, rfl⟩ | exact ⟨⟨rfl, rfl⟩, rfl, rfl, rfl⟩ | exact ⟨rfl, rfl, rfl, rfl⟩ | ((try dsimp only); (repeat' split) <;> first | rfl | exact ⟨rfl, rfl⟩ | exact ⟨rfl, rfl, rfl⟩ | exact ⟨rfl, rfl, rfl, rfl⟩ | (simp; done)) | (simp; done))); (rotate_left 1)) | with_reducible apply Steps.ite | (intro _ _ _) | (intro _ _) | split | (dsimp only))

theorem State.lineEdge_steps {ps : List Part} {σ τ : State} (p : PortNo) (mark : Nat) (hτ : Steps ps σ τ)
    (hcov : covers ps [.mem, .pool, .draws, .modes, .irq, .bells, .events, .ports, .sluice, .journal, .dozeEvents] = true) : Steps ps σ (State.lineEdge τ p mark) := by
  refine hτ.step ?_ hcov
  clear hτ hcov
  unfold State.lineEdge
  (try dsimp only)
  repeat' (first | with_reducible assumption | with_reducible exact Steps.refl _ _ | ((with_reducible refine covers_self ?_); rfl) | with_reducible apply State.fall_steps | with_reducible apply State.setModes_steps | with_reducible apply State.raise_steps | ((with_reducible apply State.updPort_ports_steps); (rotate_left 1); (focus (intro _; first | rfl | exact ⟨rfl, fun _ => ⟨fun h => by simp [h], fun h => by simp [h]⟩⟩ | exact ⟨⟨rfl, rfl⟩, fun _ h => by simp [h]⟩ | exact ⟨⟨rfl, rfl⟩, List.prefix_append _ _⟩ | exact ⟨rfl, rfl⟩ | exact ⟨rfl, rfl, rfl⟩ | exact ⟨⟨rfl, rfl⟩, rfl, rfl, rfl⟩ | exact ⟨rfl, rfl, rfl, rfl⟩ | ((try dsimp only); (repeat' split) <;> first | rfl | exact ⟨rfl, rfl⟩ | exact ⟨rfl, rfl, rfl⟩ | exact ⟨rfl, rfl, rfl, rfl⟩ | (simp; done)) | (simp; done))); (rotate_left 1)) | with_reducible apply Steps.ite | (intro _ _ _) | (intro _ _) | split | (dsimp only))

theorem State.takeCharacter_steps {ps : List Part} {σ τ : State} (p : PortNo) (samples : List Samples) (r : Byte) (t : Stamp × Bool) (hτ : Steps ps σ τ)
    (hcov : covers ps [.mem, .pool, .draws, .irq, .bells, .events, .ports, .sluice, .journal, .dozeEvents] = true) : Steps ps σ (State.takeCharacter τ p samples r t) := by
  refine hτ.step ?_ hcov
  clear hτ hcov
  unfold State.takeCharacter
  (try dsimp only)
  repeat' (first | with_reducible assumption | with_reducible exact Steps.refl _ _ | ((with_reducible refine covers_self ?_); rfl) | with_reducible apply State.ampFrame_steps | with_reducible apply State.ampRead_steps | ((with_reducible apply State.updPort_ports_steps); (rotate_left 1); (focus (intro _; first | rfl | exact ⟨rfl, fun _ => ⟨fun h => by simp [h], fun h => by simp [h]⟩⟩ | exact ⟨⟨rfl, rfl⟩, fun _ h => by simp [h]⟩ | exact ⟨⟨rfl, rfl⟩, List.prefix_append _ _⟩ | exact ⟨rfl, rfl⟩ | exact ⟨rfl, rfl, rfl⟩ | exact ⟨⟨rfl, rfl⟩, rfl, rfl, rfl⟩ | exact ⟨rfl, rfl, rfl, rfl⟩ | ((try dsimp only); (repeat' split) <;> first | rfl | exact ⟨rfl, rfl⟩ | exact ⟨rfl, rfl, rfl⟩ | exact ⟨rfl, rfl, rfl, rfl⟩ | (simp; done)) | (simp; done))); (rotate_left 1)) | with_reducible apply Steps.ite | (intro _ _ _) | (intro _ _) | split | (dsimp only))

theorem State.recognise_steps {ps : List Part} {σ τ : State} (p : PortNo) (b : Byte) (rate : Nat) (r : Byte) (t : Stamp × Bool) (hτ : Steps ps σ τ)
    (hcov : covers ps [.mem, .pool, .draws, .irq, .bells, .events, .ports, .sluice, .journal, .dozeEvents] = true) : Steps ps σ (State.recognise τ p b rate r t) := by
  refine hτ.step ?_ hcov
  clear hτ hcov
  unfold State.recognise
  (try dsimp only)
  repeat' (first | with_reducible assumption | with_reducible exact Steps.refl _ _ | ((with_reducible refine covers_self ?_); rfl) | with_reducible apply State.ampRead_steps | ((with_reducible apply State.updPort_ports_steps); (rotate_left 1); (focus (intro _; first | rfl | exact ⟨rfl, fun _ => ⟨fun h => by simp [h], fun h => by simp [h]⟩⟩ | exact ⟨⟨rfl, rfl⟩, fun _ h => by simp [h]⟩ | exact ⟨⟨rfl, rfl⟩, List.prefix_append _ _⟩ | exact ⟨rfl, rfl⟩ | exact ⟨rfl, rfl, rfl⟩ | exact ⟨⟨rfl, rfl⟩, rfl, rfl, rfl⟩ | exact ⟨rfl, rfl, rfl, rfl⟩ | ((try dsimp only); (repeat' split) <;> first | rfl | exact ⟨rfl, rfl⟩ | exact ⟨rfl, rfl, rfl⟩ | exact ⟨rfl, rfl, rfl, rfl⟩ | (simp; done)) | (simp; done))); (rotate_left 1)) | with_reducible apply Steps.ite | (intro _ _ _) | (intro _ _) | split | (dsimp only))

theorem State.firstRecognise_steps {ps : List Part} {σ τ : State} (p : PortNo) (edges : Edges) (hτ : Steps ps σ τ)
    (hcov : covers ps [.mem, .rows, .ports] = true) : Steps ps σ (State.firstRecognise τ p edges) := by
  refine hτ.step ?_ hcov
  clear hτ hcov
  unfold State.firstRecognise
  (try dsimp only)
  repeat' (first | with_reducible assumption | with_reducible exact Steps.refl _ _ | ((with_reducible refine covers_self ?_); rfl) | with_reducible apply State.countFirst_steps | ((with_reducible apply State.updPort_ports_steps); (rotate_left 1); (focus (intro _; first | rfl | exact ⟨rfl, fun _ => ⟨fun h => by simp [h], fun h => by simp [h]⟩⟩ | exact ⟨⟨rfl, rfl⟩, fun _ h => by simp [h]⟩ | exact ⟨⟨rfl, rfl⟩, List.prefix_append _ _⟩ | exact ⟨rfl, rfl⟩ | exact ⟨rfl, rfl, rfl⟩ | exact ⟨⟨rfl, rfl⟩, rfl, rfl, rfl⟩ | exact ⟨rfl, rfl, rfl, rfl⟩ | ((try dsimp only); (repeat' split) <;> first | rfl | exact ⟨rfl, rfl⟩ | exact ⟨rfl, rfl, rfl⟩ | exact ⟨rfl, rfl, rfl, rfl⟩ | (simp; done)) | (simp; done))); (rotate_left 1)) | ((with_reducible refine State.putBytes_in_steps (r := .rows) ?_ ?_ ?_); (focus (simp only [Part.within, portRowAt, viewRowAt, sieveRowAt, weirRowAt, lampRowAt, headRowAt, busRowAt, firstSecondAt, resetStampAt, cellAt, bytesAt, leBytes_length, List.length_take, List.length_drop, List.length_append, List.length_cons, List.length_nil, State.memBytes_length]; (repeat' split) <;> omega))) | with_reducible apply Steps.ite | (intro _ _ _) | (intro _ _) | split | (dsimp only))

theorem State.loadIr_steps {ps : List Part} {σ τ : State} (ir : BitVec 4) (sampled : Bool) (hτ : Steps ps σ τ)
    (hcov : covers ps [.jtag] = true) : Steps ps σ (State.loadIr τ ir sampled) := by
  refine hτ.step ?_ hcov
  clear hτ hcov
  unfold State.loadIr
  (try dsimp only)
  repeat' (first | with_reducible assumption | with_reducible exact Steps.refl _ _ | ((with_reducible refine covers_self ?_); rfl) | with_reducible apply State.setJtag_steps | with_reducible apply Steps.ite | (intro _ _ _) | (intro _ _) | split | (dsimp only))

theorem State.scan_steps {ps : List Part} {σ τ : State} (shift : Option ScanOut) (balls : ScanIn) (hτ : Steps ps σ τ)
    (hcov : covers ps [.jtag] = true) : Steps ps σ (State.scan τ shift balls) := by
  refine hτ.step ?_ hcov
  clear hτ hcov
  unfold State.scan
  (try dsimp only)
  repeat' (first | with_reducible assumption | with_reducible exact Steps.refl _ _ | ((with_reducible refine covers_self ?_); rfl) | with_reducible apply State.setJtag_steps | with_reducible apply Steps.ite | (intro _ _ _) | (intro _ _) | split | (dsimp only))

theorem State.updStats_steps {ps : List Part} {σ τ : State} (p : PortNo) (f : PortStats → PortStats) (hτ : Steps ps σ τ)
    (hcov : covers ps [.ports] = true) : Steps ps σ (τ.updStats p f) :=
  State.updPort_ports_steps _ _ hτ (fun _ => rfl) hcov

theorem State.countHeld_steps {ps : List Part} {σ τ : State} (p : PortNo) (id : Nat) (hτ : Steps ps σ τ)
    (hcov : covers ps [.mem, .pool, .sluice] = true) : Steps ps σ (State.countHeld τ p id) := by
  refine hτ.step ?_ hcov
  clear hτ hcov
  unfold State.countHeld
  (try dsimp only)
  repeat' (first | with_reducible assumption | with_reducible exact Steps.refl _ _ | ((with_reducible refine covers_self ?_); rfl) | with_reducible apply State.updItem_steps | with_reducible apply State.releaseItem_steps | with_reducible apply Steps.foldl | with_reducible apply Steps.ite | (intro _ _ _) | (intro _ _) | split | (dsimp only))

theorem State.injectEnd_steps {ps : List Part} {σ τ : State} (p : PortNo) (struck : Bool) (hτ : Steps ps σ τ)
    (hcov : covers ps [.inject] = true) : Steps ps σ (State.injectEnd τ p struck).1 := by
  refine hτ.step ?_ hcov
  clear hτ hcov
  unfold State.injectEnd
  (try dsimp only)
  repeat' (first | with_reducible assumption | with_reducible exact Steps.refl _ _ | ((with_reducible refine covers_self ?_); rfl) | with_reducible apply State.injectAt_steps | with_reducible apply State.injectCount_steps | with_reducible apply Steps.ite | (intro _ _ _) | (intro _ _) | split | (dsimp only))

theorem State.huntAgain_steps {ps : List Part} {σ τ : State} (p : PortNo) (hτ : Steps ps σ τ)
    (hcov : covers ps [.mem, .pool, .draws, .irq, .bells, .replies, .changes, .ports, .tx, .sluice, .lamps, .buses, .heads, .pair, .journal, .tag, .inject] = true) : Steps ps σ (State.huntAgain τ p) := by
  refine hτ.step ?_ hcov
  clear hτ hcov
  unfold State.huntAgain
  (try dsimp only)
  repeat' (first | with_reducible assumption | with_reducible exact Steps.refl _ _ | ((with_reducible refine covers_self ?_); rfl) | with_reducible apply State.updAsm_steps | with_reducible apply State.rxBoundary_steps | (intro _ _ _) | (intro _ _) | (dsimp only))

theorem State.addItem_steps {ps : List Part} {σ τ : State} (a : Asm) (source : Byte) (flags : Byte) (place : Place) (hτ : Steps ps σ τ)
    (hcov : covers ps [.sluice] = true) : Steps ps σ (State.addItem τ a source flags place) := by
  refine hτ.step ?_ hcov
  clear hτ hcov
  unfold State.addItem
  (try dsimp only)
  repeat' (first | with_reducible assumption | with_reducible exact Steps.refl _ _ | ((with_reducible refine covers_self ?_); rfl) | with_reducible apply State.setSluice_steps | (intro _ _ _) | (intro _ _) | (dsimp only))

theorem State.endFragment_steps {ps : List Part} {σ τ : State} (p : PortNo) (hτ : Steps ps σ τ)
    (hcov : covers ps [.mem, .pool, .draws, .irq, .bells, .replies, .changes, .ports, .tx, .sluice, .lamps, .buses, .heads, .pair, .journal, .tag, .inject] = true) : Steps ps σ (State.endFragment τ p) := by
  refine hτ.step ?_ hcov
  clear hτ hcov
  unfold State.endFragment
  (try dsimp only)
  repeat' (first | with_reducible assumption | with_reducible exact Steps.refl _ _ | ((with_reducible refine covers_self ?_); rfl) | with_reducible apply State.freeCells_steps | with_reducible apply State.updStats_steps | with_reducible apply State.huntAgain_steps | (intro _ _ _) | (intro _ _) | (dsimp only))

theorem State.endItem_steps {ps : List Part} {σ τ : State} (p : PortNo) (cut : Bool) (hτ : Steps ps σ τ)
    (hcov : covers ps [.mem, .pool, .draws, .irq, .bells, .replies, .changes, .ports, .tx, .sluice, .lamps, .buses, .heads, .pair, .journal, .tag, .inject] = true) : Steps ps σ (State.endItem τ p cut) := by
  refine hτ.step ?_ hcov
  clear hτ hcov
  unfold State.endItem
  (try dsimp only)
  repeat' (first | with_reducible assumption | with_reducible exact Steps.refl _ _ | ((with_reducible refine covers_self ?_); rfl) | with_reducible apply State.injectAt_steps | with_reducible apply State.injectCount_steps | with_reducible apply State.freeCells_steps | with_reducible apply State.updStats_steps | with_reducible apply State.countHeld_steps | with_reducible apply State.injectEnd_steps | with_reducible apply State.huntAgain_steps | with_reducible apply State.addItem_steps | with_reducible apply Steps.ite | (intro _ _ _) | (intro _ _) | split | (dsimp only))

theorem State.failCell_steps {ps : List Part} {σ τ : State} (p : PortNo) (hτ : Steps ps σ τ)
    (hcov : covers ps [.mem, .pool, .draws, .irq, .bells, .replies, .changes, .ports, .tx, .sluice, .lamps, .buses, .heads, .pair, .journal, .tag, .inject] = true) : Steps ps σ (State.failCell τ p) := by
  refine hτ.step ?_ hcov
  clear hτ hcov
  unfold State.failCell
  (try dsimp only)
  repeat' (first | with_reducible assumption | with_reducible exact Steps.refl _ _ | ((with_reducible refine covers_self ?_); rfl) | with_reducible apply State.freeCells_steps | with_reducible apply State.countNoCell_steps | with_reducible apply State.updStats_steps | with_reducible apply State.huntAgain_steps | (intro _ _ _) | (intro _ _) | (dsimp only))

theorem State.storeChar_steps {ps : List Part} {s t u : State} {p : PortNo} {e : Entry} {b : Byte}
    (he : t.storeChar p e b = some u) (h : Steps ps s t) (hs : covers ps [.mem, .pool, .draws, .ports, .sluice] = true) : Steps ps s u := by
  refine h.step ?_ hs
  clear h hs
  unfold State.storeChar at he
  dsimp only at he
  split at he
  · cases he
  · rename_i v hv
    cases he
    have hw : Steps [.mem, .pool, .draws, .ports, .sluice] t v := by
      split at hv
      · split at hv
        · cases hv
        · rename_i e'
          cases hv
          refine State.updAsm_steps _ _ ?_ rfl
          split
          · exact State.takeCell_steps e' (Steps.refl _ _) rfl
          · exact State.putLinks_steps _ (State.takeCell_steps e' (Steps.refl _ _) rfl) rfl
      · cases hv
        exact Steps.refl _ _
    exact State.putByte_in_steps (r := .pool) (payloadAt_range _ _) (State.updPort_ports_steps _ _ (State.updAsm_steps _ _ hw rfl) (fun _ => rfl) rfl) rfl

theorem State.storeTo_steps {ps : List Part} {σ τ : State} (p : PortNo) (e : Entry) (b : Byte) (st : AsmState) (hτ : Steps ps σ τ)
    (hcov : covers ps [.mem, .pool, .draws, .irq, .bells, .replies, .changes, .ports, .tx, .sluice, .lamps, .buses, .heads, .pair, .journal, .tag, .inject] = true) : Steps ps σ (State.storeTo τ p e b st) := by
  refine hτ.step ?_ hcov
  clear hτ hcov
  unfold State.storeTo
  (try dsimp only)
  repeat' (first | with_reducible assumption | with_reducible exact Steps.refl _ _ | ((with_reducible refine covers_self ?_); rfl) | with_reducible apply State.updAsm_steps | with_reducible apply State.failCell_steps | with_reducible apply State.storeChar_steps ‹_› | (intro _ _ _) | (intro _ _) | split | (dsimp only))

theorem State.beginItem_steps {ps : List Part} {σ τ : State} (p : PortNo) (e : Entry) (b : Byte) (hτ : Steps ps σ τ)
    (hcov : covers ps [.mem, .pool, .draws, .irq, .bells, .replies, .changes, .ports, .tx, .sluice, .lamps, .buses, .heads, .pair, .journal, .tag, .inject] = true) : Steps ps σ (State.beginItem τ p e b) := by
  refine hτ.step ?_ hcov
  clear hτ hcov
  unfold State.beginItem
  (try dsimp only)
  repeat' (first | with_reducible assumption | with_reducible exact Steps.refl _ _ | ((with_reducible refine covers_self ?_); rfl) | with_reducible apply State.updAsm_steps | with_reducible apply State.storeTo_steps | with_reducible apply Steps.ite | (intro _ _ _) | (intro _ _) | split | (dsimp only))

theorem State.takeTag_steps {ps : List Part} {σ τ : State} (p : PortNo) (e : Entry) (b : Byte) (hτ : Steps ps σ τ)
    (hcov : covers ps [.mem, .pool, .draws, .irq, .bells, .replies, .changes, .ports, .tx, .sluice, .lamps, .buses, .heads, .pair, .journal, .tag, .inject] = true) : Steps ps σ (State.takeTag τ p e b) := by
  refine hτ.step ?_ hcov
  clear hτ hcov
  unfold State.takeTag
  (try dsimp only)
  repeat' (first | with_reducible assumption | with_reducible exact Steps.refl _ _ | ((with_reducible refine covers_self ?_); rfl) | with_reducible apply State.updAsm_steps | with_reducible apply State.endFragment_steps | with_reducible apply State.storeTo_steps | with_reducible apply State.beginItem_steps | with_reducible apply Steps.ite | (intro _ _ _) | (intro _ _) | split | (dsimp only))

theorem State.takeSentence_steps {ps : List Part} {σ τ : State} (p : PortNo) (e : Entry) (b : Byte) (hτ : Steps ps σ τ)
    (hcov : covers ps [.mem, .pool, .draws, .irq, .bells, .replies, .changes, .ports, .tx, .sluice, .lamps, .buses, .heads, .pair, .journal, .tag, .inject] = true) : Steps ps σ (State.takeSentence τ p e b) := by
  refine hτ.step ?_ hcov
  clear hτ hcov
  unfold State.takeSentence
  (try dsimp only)
  repeat' (first | with_reducible assumption | with_reducible exact Steps.refl _ _ | ((with_reducible refine covers_self ?_); rfl) | with_reducible apply State.updAsm_steps | with_reducible apply State.endItem_steps | with_reducible apply State.failCell_steps | with_reducible apply State.storeChar_steps ‹_› | with_reducible apply State.beginItem_steps | with_reducible apply Steps.ite | (intro _ _ _) | (intro _ _) | split | (dsimp only))

theorem State.takeAwait_steps {ps : List Part} {σ τ : State} (p : PortNo) (e : Entry) (b : Byte) (hτ : Steps ps σ τ)
    (hcov : covers ps [.mem, .pool, .draws, .irq, .bells, .replies, .changes, .ports, .tx, .sluice, .lamps, .buses, .heads, .pair, .journal, .tag, .inject] = true) : Steps ps σ (State.takeAwait τ p e b) := by
  refine hτ.step ?_ hcov
  clear hτ hcov
  unfold State.takeAwait
  (try dsimp only)
  repeat' (first | with_reducible assumption | with_reducible exact Steps.refl _ _ | ((with_reducible refine covers_self ?_); rfl) | with_reducible apply State.endItem_steps | with_reducible apply State.failCell_steps | with_reducible apply State.storeChar_steps ‹_› | with_reducible apply State.beginItem_steps | with_reducible apply Steps.ite | split | (dsimp only))

theorem State.assemble_steps {ps : List Part} {σ τ : State} (p : PortNo) (e : Entry) (b : Byte) (hτ : Steps ps σ τ)
    (hcov : covers ps [.mem, .pool, .draws, .irq, .bells, .replies, .changes, .ports, .tx, .sluice, .lamps, .buses, .heads, .pair, .journal, .tag, .inject] = true) : Steps ps σ (State.assemble τ p e b) := by
  refine hτ.step ?_ hcov
  clear hτ hcov
  unfold State.assemble
  (try dsimp only)
  repeat' (first | with_reducible assumption | with_reducible exact Steps.refl _ _ | ((with_reducible refine covers_self ?_); rfl) | with_reducible apply State.endFragment_steps | with_reducible apply State.endItem_steps | with_reducible apply State.storeTo_steps | with_reducible apply State.beginItem_steps | with_reducible apply State.takeTag_steps | with_reducible apply State.takeSentence_steps | with_reducible apply State.takeAwait_steps | with_reducible apply Steps.ite | split | (dsimp only))

theorem State.assembleOne_steps {ps : List Part} {σ τ : State} (p : PortNo) (hτ : Steps ps σ τ)
    (hcov : covers ps [.mem, .pool, .draws, .irq, .bells, .replies, .changes, .ports, .tx, .sluice, .lamps, .buses, .heads, .pair, .journal, .tag, .inject] = true) : Steps ps σ (State.assembleOne τ p) := by
  refine hτ.step ?_ hcov
  clear hτ hcov
  unfold State.assembleOne
  (try dsimp only)
  repeat' (first | with_reducible assumption | with_reducible exact Steps.refl _ _ | ((with_reducible refine covers_self ?_); rfl) | with_reducible apply State.assemble_steps | with_reducible apply State.updAsm_steps | with_reducible apply State.rxBoundary_steps | ((with_reducible apply State.updPort_ports_steps); (rotate_left 1); (focus (intro _; first | rfl | exact ⟨rfl, fun _ => ⟨fun h => by simp [h], fun h => by simp [h]⟩⟩ | exact ⟨⟨rfl, rfl⟩, fun _ h => by simp [h]⟩ | exact ⟨⟨rfl, rfl⟩, List.prefix_append _ _⟩ | exact ⟨rfl, rfl⟩ | exact ⟨rfl, rfl, rfl⟩ | exact ⟨⟨rfl, rfl⟩, rfl, rfl, rfl⟩ | exact ⟨rfl, rfl, rfl, rfl⟩ | ((try dsimp only); (repeat' split) <;> first | rfl | exact ⟨rfl, rfl⟩ | exact ⟨rfl, rfl, rfl⟩ | exact ⟨rfl, rfl, rfl, rfl⟩ | (simp; done)) | (simp; done))); (rotate_left 1)) | with_reducible apply Steps.ite | (intro _ _ _) | (intro _ _) | split | (dsimp only))

theorem State.tagEnd_steps {ps : List Part} {σ τ : State} (err : BitVec 4) (hτ : Steps ps σ τ)
    (hcov : covers ps [.irq, .tag] = true) : Steps ps σ (State.tagEnd τ err) := by
  refine hτ.step ?_ hcov
  clear hτ hcov
  unfold State.tagEnd
  (try dsimp only)
  repeat' (first | with_reducible assumption | with_reducible exact Steps.refl _ _ | ((with_reducible refine covers_self ?_); rfl) | with_reducible apply State.setTag_steps | with_reducible apply State.raiseTag_steps | (intro _ _ _) | (intro _ _) | (dsimp only))

theorem State.tagGo_steps {ps : List Part} {σ τ : State} (op : BitVec 3) (hτ : Steps ps σ τ)
    (hcov : covers ps [.irq, .tag] = true) : Steps ps σ (State.tagGo τ op) := by
  refine hτ.step ?_ hcov
  clear hτ hcov
  unfold State.tagGo
  (try dsimp only)
  repeat' (first | with_reducible assumption | with_reducible exact Steps.refl _ _ | ((with_reducible refine covers_self ?_); rfl) | with_reducible apply State.setTag_steps | with_reducible apply State.tagEnd_steps | with_reducible apply Steps.ite | (intro _ _ _) | (intro _ _) | split | (dsimp only))

theorem State.tagWriteEnd_steps {ps : List Part} {σ τ : State} (b : Nat) (data : Word) (verified : Bool) (hτ : Steps ps σ τ)
    (hcov : covers ps [.draws, .irq, .bells, .tag] = true) : Steps ps σ (State.tagWriteEnd τ b data verified) := by
  refine hτ.step ?_ hcov
  clear hτ hcov
  unfold State.tagWriteEnd
  (try dsimp only)
  repeat' (first | with_reducible assumption | with_reducible exact Steps.refl _ _ | ((with_reducible refine covers_self ?_); rfl) | with_reducible apply State.draw_steps | with_reducible apply State.setTag_steps | with_reducible apply State.checkRecord_steps | with_reducible apply State.tagEnd_steps | with_reducible apply Steps.ite | (intro _ _ _) | (intro _ _) | split | (dsimp only))

theorem State.onBus_steps {ps : List Part} {σ τ : State} (f : State → State) (hτ : Steps ps σ τ) (hf : ∀ υ, Steps ps σ υ → Steps ps σ (f υ)) :
    Steps ps σ (State.onBus τ f) := by
  unfold State.onBus
  (try dsimp only)
  repeat' (first | with_reducible assumption | with_reducible exact Steps.refl _ _ | with_reducible apply hf | with_reducible exact covers_trans hcov rfl | ((with_reducible refine covers_self ?_); rfl) | with_reducible apply Steps.ite | split | (dsimp only))

theorem State.hostReset_steps {ps : List Part} {σ τ : State}  (hτ : Steps ps σ τ)
    (hcov : covers ps [.mem, .pool, .draws, .irq, .culvert, .bells, .replies, .chanN, .chanK, .changes, .ports, .tx, .sieve, .sluice, .lamps, .buses, .heads, .pair, .journal, .tag, .inject] = true) : Steps ps σ (State.hostReset τ) := by
  refine hτ.step ?_ hcov
  clear hτ hcov
  unfold State.hostReset
  (try dsimp only)
  repeat' (first | with_reducible assumption | with_reducible exact Steps.refl _ _ | ((with_reducible refine covers_self ?_); rfl) | with_reducible apply State.raise_steps | with_reducible apply State.breakLock_steps | ((with_reducible apply State.setCulvert_culvert_steps); (rotate_left 1); (focus (intro _; first | rfl | exact ⟨rfl, fun _ => ⟨fun h => by simp [h], fun h => by simp [h]⟩⟩ | exact ⟨⟨rfl, rfl⟩, fun _ h => by simp [h]⟩ | exact ⟨⟨rfl, rfl⟩, List.prefix_append _ _⟩ | exact ⟨rfl, rfl⟩ | exact ⟨rfl, rfl, rfl⟩ | exact ⟨⟨rfl, rfl⟩, rfl, rfl, rfl⟩ | exact ⟨rfl, rfl, rfl, rfl⟩ | ((try dsimp only); (repeat' split) <;> first | rfl | exact ⟨rfl, rfl⟩ | exact ⟨rfl, rfl, rfl⟩ | exact ⟨rfl, rfl, rfl, rfl⟩ | (simp; done)) | (simp; done))); (rotate_left 1)) | ((with_reducible apply State.setChan_chan_steps); (rotate_left 1); (focus (intro _; first | rfl | exact ⟨rfl, fun _ => ⟨fun h => by simp [h], fun h => by simp [h]⟩⟩ | exact ⟨⟨rfl, rfl⟩, fun _ h => by simp [h]⟩ | exact ⟨⟨rfl, rfl⟩, List.prefix_append _ _⟩ | exact ⟨rfl, rfl⟩ | exact ⟨rfl, rfl, rfl⟩ | exact ⟨⟨rfl, rfl⟩, rfl, rfl, rfl⟩ | exact ⟨rfl, rfl, rfl, rfl⟩ | ((try dsimp only); (repeat' split) <;> first | rfl | exact ⟨rfl, rfl⟩ | exact ⟨rfl, rfl, rfl⟩ | exact ⟨rfl, rfl, rfl, rfl⟩ | (simp; done)) | (simp; done))); (rotate_left 1)) | with_reducible apply Steps.ite | (intro _ _ _) | (intro _ _) | split | (dsimp only))

theorem State.clearIrq_steps {ps : List Part} {σ τ : State} (v : Half) (hτ : Steps ps σ τ)
    (hcov : covers ps [.irq, .acks, .culvert] = true) : Steps ps σ (State.clearIrq τ v) := by
  refine hτ.step ?_ hcov
  clear hτ hcov
  unfold State.clearIrq
  (try dsimp only)
  repeat' (first | with_reducible assumption | with_reducible exact Steps.refl _ _ | ((with_reducible refine covers_self ?_); rfl) | with_reducible apply State.setCulvert_steps | with_reducible apply Steps.ite | (intro _ _ _) | (intro _ _) | split | (dsimp only))

theorem State.chanWrite_steps {ps : List Part} {σ τ : State} (c : Chan) (off : Nat) (v : Half) (hτ : Steps ps σ τ)
    (hcov : covers ps [.irq, .bells, .hush, .replies, .drops, .chanN, .chanK] = true) : Steps ps σ (State.chanWrite τ c off v) := by
  refine hτ.step ?_ hcov
  clear hτ hcov
  unfold State.chanWrite
  (try dsimp only)
  repeat' (first | with_reducible assumption | with_reducible exact Steps.refl _ _ | ((with_reducible refine covers_self ?_); rfl) | with_reducible apply State.clearMbox_steps | with_reducible apply State.splitLow_steps | with_reducible apply State.splitHigh_steps | split | (dsimp only))

theorem State.loadCtl_steps {ps : List Part} {σ τ : State} (v : Half) (hτ : Steps ps σ τ)
    (hcov : covers ps [.engine] = true) : Steps ps σ (State.loadCtl τ v) := by
  refine hτ.step ?_ hcov
  clear hτ hcov
  unfold State.loadCtl
  (try dsimp only)
  repeat' (first | with_reducible assumption | with_reducible exact Steps.refl _ _ | ((with_reducible refine covers_self ?_); rfl) | ((with_reducible apply State.setEngine_engine_steps); (rotate_left 1); (focus (intro _; first | rfl | exact ⟨rfl, fun _ => ⟨fun h => by simp [h], fun h => by simp [h]⟩⟩ | exact ⟨⟨rfl, rfl⟩, fun _ h => by simp [h]⟩ | exact ⟨⟨rfl, rfl⟩, List.prefix_append _ _⟩ | exact ⟨rfl, rfl⟩ | exact ⟨rfl, rfl, rfl⟩ | exact ⟨⟨rfl, rfl⟩, rfl, rfl, rfl⟩ | exact ⟨rfl, rfl, rfl, rfl⟩ | ((try dsimp only); (repeat' split) <;> first | rfl | exact ⟨rfl, rfl⟩ | exact ⟨rfl, rfl, rfl⟩ | exact ⟨rfl, rfl, rfl, rfl⟩ | (simp; done)) | (simp; done))); (rotate_left 1)) | with_reducible apply Steps.ite | (intro _ _ _) | (intro _ _) | split | (dsimp only))

theorem State.tagCtl_steps {ps : List Part} {σ τ : State} (v : Half) (hτ : Steps ps σ τ)
    (hcov : covers ps [.irq, .tag] = true) : Steps ps σ (State.tagCtl τ v) := by
  refine hτ.step ?_ hcov
  clear hτ hcov
  unfold State.tagCtl
  (try dsimp only)
  repeat' (first | with_reducible assumption | with_reducible exact Steps.refl _ _ | ((with_reducible refine covers_self ?_); rfl) | with_reducible apply State.setTag_steps | with_reducible apply State.tagGo_steps | with_reducible apply Steps.ite | (intro _ _ _) | (intro _ _) | split | (dsimp only))

theorem State.pageWrite_steps {ps : List Part} {σ τ : State} (v : Half) (hτ : Steps ps σ τ)
    (hcov : covers ps [.culvert] = true) : Steps ps σ (State.pageWrite τ v) := by
  refine hτ.step ?_ hcov
  clear hτ hcov
  unfold State.pageWrite
  (try dsimp only)
  repeat' (first | with_reducible assumption | with_reducible exact Steps.refl _ _ | ((with_reducible refine covers_self ?_); rfl) | ((with_reducible apply State.setCulvert_culvert_steps); (rotate_left 1); (focus (intro _; first | rfl | exact ⟨rfl, fun _ => ⟨fun h => by simp [h], fun h => by simp [h]⟩⟩ | exact ⟨⟨rfl, rfl⟩, fun _ h => by simp [h]⟩ | exact ⟨⟨rfl, rfl⟩, List.prefix_append _ _⟩ | exact ⟨rfl, rfl⟩ | exact ⟨rfl, rfl, rfl⟩ | exact ⟨⟨rfl, rfl⟩, rfl, rfl, rfl⟩ | exact ⟨rfl, rfl, rfl, rfl⟩ | ((try dsimp only); (repeat' split) <;> first | rfl | exact ⟨rfl, rfl⟩ | exact ⟨rfl, rfl, rfl⟩ | exact ⟨rfl, rfl, rfl, rfl⟩ | (simp; done)) | (simp; done))); (rotate_left 1)) | (intro _ _ _) | (intro _ _) | (dsimp only))

theorem State.addrWrite_steps {ps : List Part} {σ τ : State} (v : Half) (hτ : Steps ps σ τ)
    (hcov : covers ps [.culvert] = true) : Steps ps σ (State.addrWrite τ v) := by
  refine hτ.step ?_ hcov
  clear hτ hcov
  unfold State.addrWrite
  (try dsimp only)
  repeat' (first | with_reducible assumption | with_reducible exact Steps.refl _ _ | ((with_reducible refine covers_self ?_); rfl) | ((with_reducible apply State.setCulvert_culvert_steps); (rotate_left 1); (focus (intro _; first | rfl | exact ⟨rfl, fun _ => ⟨fun h => by simp [h], fun h => by simp [h]⟩⟩ | exact ⟨⟨rfl, rfl⟩, fun _ h => by simp [h]⟩ | exact ⟨⟨rfl, rfl⟩, List.prefix_append _ _⟩ | exact ⟨rfl, rfl⟩ | exact ⟨rfl, rfl, rfl⟩ | exact ⟨⟨rfl, rfl⟩, rfl, rfl, rfl⟩ | exact ⟨rfl, rfl, rfl, rfl⟩ | ((try dsimp only); (repeat' split) <;> first | rfl | exact ⟨rfl, rfl⟩ | exact ⟨rfl, rfl, rfl⟩ | exact ⟨rfl, rfl, rfl, rfl⟩ | (simp; done)) | (simp; done))); (rotate_left 1)) | (intro _ _ _) | (intro _ _) | (dsimp only))

theorem State.ctlWrite_steps {ps : List Part} {σ τ : State} (v : Half) (hτ : Steps ps σ τ)
    (hcov : covers ps [.culvert] = true) : Steps ps σ (State.ctlWrite τ v) := by
  refine hτ.step ?_ hcov
  clear hτ hcov
  unfold State.ctlWrite
  (try dsimp only)
  repeat' (first | with_reducible assumption | with_reducible exact Steps.refl _ _ | ((with_reducible refine covers_self ?_); rfl) | ((with_reducible apply State.setCulvert_culvert_steps); (rotate_left 1); (focus (intro _; first | rfl | exact ⟨rfl, fun _ => ⟨fun h => by simp [h], fun h => by simp [h]⟩⟩ | exact ⟨⟨rfl, rfl⟩, fun _ h => by simp [h]⟩ | exact ⟨⟨rfl, rfl⟩, List.prefix_append _ _⟩ | exact ⟨rfl, rfl⟩ | exact ⟨rfl, rfl, rfl⟩ | exact ⟨⟨rfl, rfl⟩, rfl, rfl, rfl⟩ | exact ⟨rfl, rfl, rfl, rfl⟩ | ((try dsimp only); (repeat' split) <;> first | rfl | exact ⟨rfl, rfl⟩ | exact ⟨rfl, rfl, rfl⟩ | exact ⟨rfl, rfl, rfl, rfl⟩ | (simp; done)) | (simp; done))); (rotate_left 1)) | (intro _ _ _) | (intro _ _) | (dsimp only))

theorem State.dataRead_steps {ps : List Part} {σ τ : State}  (hτ : Steps ps σ τ)
    (hcov : covers ps [.draws, .irq, .culvert] = true) : Steps ps σ (State.dataRead τ) := by
  refine hτ.step ?_ hcov
  clear hτ hcov
  unfold State.dataRead
  (try dsimp only)
  repeat' (first | with_reducible assumption | with_reducible exact Steps.refl _ _ | ((with_reducible refine covers_self ?_); rfl) | with_reducible apply State.culvertFail_steps | with_reducible apply State.give_steps | with_reducible apply State.windowRead_steps | ((with_reducible apply State.setCulvert_culvert_steps); (rotate_left 1); (focus (intro _; first | rfl | exact ⟨rfl, fun _ => ⟨fun h => by simp [h], fun h => by simp [h]⟩⟩ | exact ⟨⟨rfl, rfl⟩, fun _ h => by simp [h]⟩ | exact ⟨⟨rfl, rfl⟩, List.prefix_append _ _⟩ | exact ⟨rfl, rfl⟩ | exact ⟨rfl, rfl, rfl⟩ | exact ⟨⟨rfl, rfl⟩, rfl, rfl, rfl⟩ | exact ⟨rfl, rfl, rfl, rfl⟩ | ((try dsimp only); (repeat' split) <;> first | rfl | exact ⟨rfl, rfl⟩ | exact ⟨rfl, rfl, rfl⟩ | exact ⟨rfl, rfl, rfl, rfl⟩ | (simp; done)) | (simp; done))); (rotate_left 1)) | with_reducible apply State.advance_steps | with_reducible apply Steps.ite | split | (dsimp only))

theorem State.dataWrite_steps {ps : List Part} {σ τ : State} (v : Half) (hτ : Steps ps σ τ)
    (hcov : covers ps [.mem, .code, .pool, .boxes, .rows, .irq, .culvert, .engine, .govs] = true) : Steps ps σ (State.dataWrite τ v) := by
  refine hτ.step ?_ hcov
  clear hτ hcov
  unfold State.dataWrite
  (try dsimp only)
  repeat' (first | with_reducible assumption | with_reducible exact Steps.refl _ _ | ((with_reducible refine covers_self ?_); rfl) | with_reducible apply State.culvertFail_steps | with_reducible apply State.dropLine_steps | with_reducible apply State.windowPut_steps | ((with_reducible apply State.setCulvert_culvert_steps); (rotate_left 1); (focus (intro _; first | rfl | exact ⟨rfl, fun _ => ⟨fun h => by simp [h], fun h => by simp [h]⟩⟩ | exact ⟨⟨rfl, rfl⟩, fun _ h => by simp [h]⟩ | exact ⟨⟨rfl, rfl⟩, List.prefix_append _ _⟩ | exact ⟨rfl, rfl⟩ | exact ⟨rfl, rfl, rfl⟩ | exact ⟨⟨rfl, rfl⟩, rfl, rfl, rfl⟩ | exact ⟨rfl, rfl, rfl, rfl⟩ | ((try dsimp only); (repeat' split) <;> first | rfl | exact ⟨rfl, rfl⟩ | exact ⟨rfl, rfl, rfl⟩ | exact ⟨rfl, rfl, rfl, rfl⟩ | (simp; done)) | (simp; done))); (rotate_left 1)) | with_reducible apply State.advance_steps | with_reducible apply Steps.ite | split | (dsimp only))

theorem State.ctlRegWrite_steps {ps : List Part} {σ τ : State} (off : Nat) (v : Half) (hτ : Steps ps σ τ)
    (hcov : covers ps [.mem, .code, .pool, .boxes, .rows, .draws, .power, .modes, .irq, .acks, .culvert, .bells, .hush, .replies, .drops, .chanN, .chanK, .engine, .work, .settings, .events, .changes, .counting, .ports, .tx, .sieve, .govs, .sluice, .lamps, .buses, .heads, .pair, .journal, .tag, .mgmt, .inject, .dozeEvents] = true) : Steps ps σ (State.ctlRegWrite τ off v) := by
  refine hτ.step ?_ hcov
  clear hτ hcov
  unfold State.ctlRegWrite
  (try dsimp only)
  repeat' (first | with_reducible assumption | with_reducible exact Steps.refl _ _ | ((with_reducible refine covers_self ?_); rfl) | with_reducible apply State.setPower_steps | with_reducible apply State.setTag_steps | with_reducible apply State.headNotice_steps | with_reducible apply State.modeReq_steps | with_reducible apply State.afterReset_steps | with_reducible apply State.lockCtl_steps | with_reducible apply State.clearIrq_steps | with_reducible apply State.chanWrite_steps | with_reducible apply State.loadCtl_steps | with_reducible apply State.tagCtl_steps | with_reducible apply State.pageWrite_steps | with_reducible apply State.addrWrite_steps | with_reducible apply State.ctlWrite_steps | with_reducible apply State.dataWrite_steps | ((with_reducible apply State.setCulvert_culvert_steps); (rotate_left 1); (focus (intro _; first | rfl | exact ⟨rfl, fun _ => ⟨fun h => by simp [h], fun h => by simp [h]⟩⟩ | exact ⟨⟨rfl, rfl⟩, fun _ h => by simp [h]⟩ | exact ⟨⟨rfl, rfl⟩, List.prefix_append _ _⟩ | exact ⟨rfl, rfl⟩ | exact ⟨rfl, rfl, rfl⟩ | exact ⟨⟨rfl, rfl⟩, rfl, rfl, rfl⟩ | exact ⟨rfl, rfl, rfl, rfl⟩ | ((try dsimp only); (repeat' split) <;> first | rfl | exact ⟨rfl, rfl⟩ | exact ⟨rfl, rfl, rfl⟩ | exact ⟨rfl, rfl, rfl, rfl⟩ | (simp; done)) | (simp; done))); (rotate_left 1)) | ((with_reducible apply State.setCulvert_irq_steps); (rotate_left 1); (focus (intro _; first | rfl | exact ⟨rfl, fun _ => ⟨fun h => by simp [h], fun h => by simp [h]⟩⟩ | exact ⟨⟨rfl, rfl⟩, fun _ h => by simp [h]⟩ | exact ⟨⟨rfl, rfl⟩, List.prefix_append _ _⟩ | exact ⟨rfl, rfl⟩ | exact ⟨rfl, rfl, rfl⟩ | exact ⟨⟨rfl, rfl⟩, rfl, rfl, rfl⟩ | exact ⟨rfl, rfl, rfl, rfl⟩ | ((try dsimp only); (repeat' split) <;> first | rfl | exact ⟨rfl, rfl⟩ | exact ⟨rfl, rfl, rfl⟩ | exact ⟨rfl, rfl, rfl, rfl⟩ | (simp; done)) | (simp; done))); (rotate_left 1)) | with_reducible apply Steps.ite | (intro _ _ _) | (intro _ _) | split | (dsimp only))

theorem State.keyRegWrite_steps {ps : List Part} {σ τ : State} (off : Nat) (v : Half) (hτ : Steps ps σ τ)
    (hcov : covers ps [.mem, .pool, .draws, .modes, .irq, .acks, .culvert, .bells, .hush, .replies, .drops, .chanN, .chanK, .engine, .work, .settings, .changes, .counting, .ports, .tx, .sieve, .govs, .sluice, .lamps, .buses, .heads, .pair, .journal, .tag, .mgmt, .inject, .dozeEvents] = true) : Steps ps σ (State.keyRegWrite τ off v) := by
  refine hτ.step ?_ hcov
  clear hτ hcov
  unfold State.keyRegWrite
  (try dsimp only)
  repeat' (first | with_reducible assumption | with_reducible exact Steps.refl _ _ | ((with_reducible refine covers_self ?_); rfl) | with_reducible apply State.modeReq_steps | with_reducible apply State.chanWrite_steps | ((with_reducible apply State.setCulvert_culvert_steps); (rotate_left 1); (focus (intro _; first | rfl | exact ⟨rfl, fun _ => ⟨fun h => by simp [h], fun h => by simp [h]⟩⟩ | exact ⟨⟨rfl, rfl⟩, fun _ h => by simp [h]⟩ | exact ⟨⟨rfl, rfl⟩, List.prefix_append _ _⟩ | exact ⟨rfl, rfl⟩ | exact ⟨rfl, rfl, rfl⟩ | exact ⟨⟨rfl, rfl⟩, rfl, rfl, rfl⟩ | exact ⟨rfl, rfl, rfl, rfl⟩ | ((try dsimp only); (repeat' split) <;> first | rfl | exact ⟨rfl, rfl⟩ | exact ⟨rfl, rfl, rfl⟩ | exact ⟨rfl, rfl, rfl, rfl⟩ | (simp; done)) | (simp; done))); (rotate_left 1)) | with_reducible apply State.setCulvert_steps | (intro _ _ _) | (intro _ _) | split | (dsimp only))

theorem State.splitRead_steps {ps : List Part} {σ τ : State} (ch : Chan) (reg : SplitReg) (hτ : Steps ps σ τ)
    (hcov : covers ps [.culvert, .chanN, .chanK] = true) : Steps ps σ (State.splitRead τ ch reg) := by
  refine hτ.step ?_ hcov
  clear hτ hcov
  unfold State.splitRead
  (try dsimp only)
  repeat' (first | with_reducible assumption | with_reducible exact Steps.refl _ _ | ((with_reducible refine covers_self ?_); rfl) | with_reducible apply State.give_steps | ((with_reducible apply State.setChan_chan_steps); (rotate_left 1); (focus (intro _; first | rfl | exact ⟨rfl, fun _ => ⟨fun h => by simp [h], fun h => by simp [h]⟩⟩ | exact ⟨⟨rfl, rfl⟩, fun _ h => by simp [h]⟩ | exact ⟨⟨rfl, rfl⟩, List.prefix_append _ _⟩ | exact ⟨rfl, rfl⟩ | exact ⟨rfl, rfl, rfl⟩ | exact ⟨⟨rfl, rfl⟩, rfl, rfl, rfl⟩ | exact ⟨rfl, rfl, rfl, rfl⟩ | ((try dsimp only); (repeat' split) <;> first | rfl | exact ⟨rfl, rfl⟩ | exact ⟨rfl, rfl, rfl⟩ | exact ⟨rfl, rfl, rfl, rfl⟩ | (simp; done)) | (simp; done))); (rotate_left 1)) | with_reducible apply Steps.ite | (intro _ _ _) | (intro _ _) | split | (dsimp only))

theorem State.beginLoop_steps {ps : List Part} {σ τ : State} (p : PortNo) (l : Loop) (hτ : Steps ps σ τ)
    (hcov : covers ps [.mem, .pool, .ports, .tx, .sluice] = true) : Steps ps σ (State.beginLoop τ p l) := by
  refine hτ.step ?_ hcov
  clear hτ hcov
  unfold State.beginLoop
  (try dsimp only)
  repeat' (first | with_reducible assumption | with_reducible exact Steps.refl _ _ | ((with_reducible refine covers_self ?_); rfl) | with_reducible apply State.armRx_steps | ((with_reducible apply State.updPort_ports_steps); (rotate_left 1); (focus (intro _; first | rfl | exact ⟨rfl, fun _ => ⟨fun h => by simp [h], fun h => by simp [h]⟩⟩ | exact ⟨⟨rfl, rfl⟩, fun _ h => by simp [h]⟩ | exact ⟨⟨rfl, rfl⟩, List.prefix_append _ _⟩ | exact ⟨rfl, rfl⟩ | exact ⟨rfl, rfl, rfl⟩ | exact ⟨⟨rfl, rfl⟩, rfl, rfl, rfl⟩ | exact ⟨rfl, rfl, rfl, rfl⟩ | ((try dsimp only); (repeat' split) <;> first | rfl | exact ⟨rfl, rfl⟩ | exact ⟨rfl, rfl, rfl⟩ | exact ⟨rfl, rfl, rfl, rfl⟩ | (simp; done)) | (simp; done))); (rotate_left 1)) | with_reducible apply State.updPort_steps | (intro _ _ _) | (intro _ _) | (dsimp only))

theorem State.clearGroup_steps {ps : List Part} {σ τ : State} (g : Nat) (hτ : Steps ps σ τ)
    (hcov : covers ps [.tx, .govs, .pair, .journal, .inject] = true) : Steps ps σ (State.clearGroup τ g) := by
  refine hτ.step ?_ hcov
  clear hτ hcov
  unfold State.clearGroup
  (try dsimp only)
  repeat' (first | with_reducible assumption | with_reducible exact Steps.refl _ _ | ((with_reducible refine covers_self ?_); rfl) | with_reducible apply State.setGovs_steps | with_reducible apply State.setPair_steps | with_reducible apply State.setJournal_steps | with_reducible apply State.setInject_steps | ((with_reducible apply State.mapPorts_tx_steps); (rotate_left 1); (focus (intro _; first | rfl | exact ⟨rfl, fun _ => ⟨fun h => by simp [h], fun h => by simp [h]⟩⟩ | exact ⟨⟨rfl, rfl⟩, fun _ h => by simp [h]⟩ | exact ⟨⟨rfl, rfl⟩, List.prefix_append _ _⟩ | exact ⟨rfl, rfl⟩ | exact ⟨rfl, rfl, rfl⟩ | exact ⟨⟨rfl, rfl⟩, rfl, rfl, rfl⟩ | exact ⟨rfl, rfl, rfl, rfl⟩ | ((try dsimp only); (repeat' split) <;> first | rfl | exact ⟨rfl, rfl⟩ | exact ⟨rfl, rfl, rfl⟩ | exact ⟨rfl, rfl, rfl, rfl⟩ | (simp; done)) | (simp; done))); (rotate_left 1)) | with_reducible apply Steps.ite | (intro _ _ _) | (intro _ _) | split | (dsimp only))

theorem State.keepBusRate_steps {ps : List Part} {σ τ : State} (p : PortNo) (hτ : Steps ps σ τ)
    (hcov : covers ps [.mem, .rows] = true) : Steps ps σ (State.keepBusRate τ p) := by
  refine hτ.step ?_ hcov
  clear hτ hcov
  unfold State.keepBusRate
  (try dsimp only)
  repeat' (first | with_reducible assumption | with_reducible exact Steps.refl _ _ | ((with_reducible refine covers_self ?_); rfl) | ((with_reducible refine State.putBytes_in_steps (r := .rows) ?_ ?_ ?_); (focus (simp only [Part.within, portRowAt, viewRowAt, sieveRowAt, weirRowAt, lampRowAt, headRowAt, busRowAt, firstSecondAt, resetStampAt, cellAt, bytesAt, leBytes_length, List.length_take, List.length_drop, List.length_append, List.length_cons, List.length_nil, State.memBytes_length]; (repeat' split) <;> omega))) | with_reducible apply Steps.ite | split | (dsimp only))

theorem State.busChanged_steps {ps : List Part} {σ τ : State} (b : BusNo) (hτ : Steps ps σ τ)
    (hcov : covers ps [.mem, .pool, .draws, .irq, .bells, .replies, .changes, .ports, .tx, .sluice, .lamps, .buses, .heads, .pair, .journal, .tag, .inject] = true) : Steps ps σ (State.busChanged τ b) := by
  refine hτ.step ?_ hcov
  clear hτ hcov
  unfold State.busChanged
  (try dsimp only)
  repeat' (first | with_reducible assumption | with_reducible exact Steps.refl _ _ | ((with_reducible refine covers_self ?_); rfl) | with_reducible apply State.stopBus_steps | with_reducible apply State.beginJoin_steps | with_reducible apply Steps.ite | split | (dsimp only))

theorem State.graceLamps_steps {ps : List Part} {σ τ : State} (b : BusNo) (h : HeadNo) (hτ : Steps ps σ τ)
    (hcov : covers ps [.mem, .pool, .draws, .irq, .bells, .ports, .tx, .sluice, .lamps, .pair, .journal, .tag, .inject] = true) : Steps ps σ (State.graceLamps τ b h) := by
  refine hτ.step ?_ hcov
  clear hτ hcov
  unfold State.graceLamps
  (try dsimp only)
  repeat' (first | with_reducible assumption | with_reducible exact Steps.refl _ _ | ((with_reducible refine covers_self ?_); rfl) | with_reducible apply State.eachLamp_steps | with_reducible apply State.changeLamp_steps | with_reducible apply Steps.ite | (intro _ _ _) | (intro _ _) | split | (dsimp only))

theorem State.dropFrame_steps {ps : List Part} {σ τ : State} (p : PortNo) (hτ : Steps ps σ τ)
    (hcov : covers ps [.ports] = true) : Steps ps σ (State.dropFrame τ p) := by
  refine hτ.step ?_ hcov
  clear hτ hcov
  unfold State.dropFrame
  (try dsimp only)
  repeat' (first | with_reducible assumption | with_reducible exact Steps.refl _ _ | ((with_reducible refine covers_self ?_); rfl) | ((with_reducible apply State.updPort_ports_steps); (rotate_left 1); (focus (intro _; first | rfl | exact ⟨rfl, fun _ => ⟨fun h => by simp [h], fun h => by simp [h]⟩⟩ | exact ⟨⟨rfl, rfl⟩, fun _ h => by simp [h]⟩ | exact ⟨⟨rfl, rfl⟩, List.prefix_append _ _⟩ | exact ⟨rfl, rfl⟩ | exact ⟨rfl, rfl, rfl⟩ | exact ⟨⟨rfl, rfl⟩, rfl, rfl, rfl⟩ | exact ⟨rfl, rfl, rfl, rfl⟩ | ((try dsimp only); (repeat' split) <;> first | rfl | exact ⟨rfl, rfl⟩ | exact ⟨rfl, rfl, rfl⟩ | exact ⟨rfl, rfl, rfl, rfl⟩ | (simp; done)) | (simp; done))); (rotate_left 1)) | (intro _ _ _) | (intro _ _) | (dsimp only))

theorem State.dropReply_steps {ps : List Part} {σ τ : State} (b : BusNo) (hτ : Steps ps σ τ)
    (hcov : covers ps [.ports] = true) : Steps ps σ (State.dropReply τ b) := by
  refine hτ.step ?_ hcov
  clear hτ hcov
  unfold State.dropReply
  (try dsimp only)
  repeat' (first | with_reducible assumption | with_reducible exact Steps.refl _ _ | ((with_reducible refine covers_self ?_); rfl) | with_reducible apply State.dropFrame_steps | split | (dsimp only))

theorem State.abandonFrame_steps {ps : List Part} {σ τ : State} (p : PortNo) (hτ : Steps ps σ τ)
    (hcov : covers ps [.ports] = true) : Steps ps σ (State.abandonFrame τ p) := by
  refine hτ.step ?_ hcov
  clear hτ hcov
  unfold State.abandonFrame
  (try dsimp only)
  repeat' (first | with_reducible assumption | with_reducible exact Steps.refl _ _ | ((with_reducible refine covers_self ?_); rfl) | with_reducible apply State.dropFrame_steps | ((with_reducible apply State.updPort_ports_steps); (rotate_left 1); (focus (intro _; first | rfl | exact ⟨rfl, fun _ => ⟨fun h => by simp [h], fun h => by simp [h]⟩⟩ | exact ⟨⟨rfl, rfl⟩, fun _ h => by simp [h]⟩ | exact ⟨⟨rfl, rfl⟩, List.prefix_append _ _⟩ | exact ⟨rfl, rfl⟩ | exact ⟨rfl, rfl, rfl⟩ | exact ⟨⟨rfl, rfl⟩, rfl, rfl, rfl⟩ | exact ⟨rfl, rfl, rfl, rfl⟩ | ((try dsimp only); (repeat' split) <;> first | rfl | exact ⟨rfl, rfl⟩ | exact ⟨rfl, rfl, rfl⟩ | exact ⟨rfl, rfl, rfl, rfl⟩ | (simp; done)) | (simp; done))); (rotate_left 1)) | with_reducible apply Steps.ite | (intro _ _ _) | (intro _ _) | split | (dsimp only))

theorem State.abandonReply_steps {ps : List Part} {σ τ : State} (b : BusNo) (hτ : Steps ps σ τ)
    (hcov : covers ps [.mem, .pool, .draws, .irq, .bells, .replies, .changes, .ports, .tx, .sluice, .lamps, .buses, .heads, .pair, .journal, .tag, .inject] = true) : Steps ps σ (State.abandonReply τ b) := by
  refine hτ.step ?_ hcov
  clear hτ hcov
  unfold State.abandonReply
  (try dsimp only)
  repeat' (first | with_reducible assumption | with_reducible exact Steps.refl _ _ | ((with_reducible refine covers_self ?_); rfl) | with_reducible apply State.abandonFrame_steps | with_reducible apply State.failAttempt_steps | with_reducible apply State.collide_steps | with_reducible apply Steps.ite | (intro _ _ _) | (intro _ _) | split | (dsimp only))

theorem State.abortSleep_steps {ps : List Part} {σ τ : State} (b : BusNo) (hτ : Steps ps σ τ)
    (hcov : covers ps [.buses] = true) : Steps ps σ (State.abortSleep τ b) := by
  refine hτ.step ?_ hcov
  clear hτ hcov
  unfold State.abortSleep
  (try dsimp only)
  repeat' (first | with_reducible assumption | with_reducible exact Steps.refl _ _ | ((with_reducible refine covers_self ?_); rfl) | with_reducible apply State.updBus_steps | (intro _ _ _) | (intro _ _) | (dsimp only))

theorem State.cutFrame_steps {ps : List Part} {σ τ : State} (b : BusNo) (hτ : Steps ps σ τ)
    (hcov : covers ps [.mem, .pool, .draws, .irq, .bells, .replies, .changes, .ports, .tx, .sluice, .lamps, .buses, .heads, .pair, .journal, .tag, .inject] = true) : Steps ps σ (State.cutFrame τ b) := by
  refine hτ.step ?_ hcov
  clear hτ hcov
  unfold State.cutFrame
  (try dsimp only)
  repeat' (first | with_reducible assumption | with_reducible exact Steps.refl _ _ | ((with_reducible refine covers_self ?_); rfl) | with_reducible apply State.failAttempt_steps | with_reducible apply State.collide_steps | with_reducible apply State.updBus_steps | with_reducible apply State.abortSleep_steps | with_reducible apply Steps.ite | (intro _ _ _) | (intro _ _) | split | (dsimp only))

theorem State.countStrangers_steps {ps : List Part} {σ τ : State} (b : BusNo) (answers : List HeadNo) (hτ : Steps ps σ τ)
    (hcov : covers ps [.irq, .bells, .buses] = true) : Steps ps σ (State.countStrangers τ b answers) := by
  refine hτ.step ?_ hcov
  clear hτ hcov
  unfold State.countStrangers
  (try dsimp only)
  repeat' (first | with_reducible assumption | with_reducible exact Steps.refl _ _ | ((with_reducible refine covers_self ?_); rfl) | with_reducible apply State.updBus_steps | with_reducible apply State.ring_steps | with_reducible apply Steps.foldl | with_reducible apply Steps.ite | (intro _ _ _) | (intro _ _) | split | (dsimp only))

theorem State.blindHead_steps {ps : List Part} {σ τ : State} (b : BusNo) (h : HeadNo) (hτ : Steps ps σ τ)
    (hcov : covers ps [.mem, .pool, .draws, .irq, .bells, .sluice, .buses, .heads, .journal] = true) : Steps ps σ (State.blindHead τ b h) := by
  refine hτ.step ?_ hcov
  clear hτ hcov
  unfold State.blindHead
  (try dsimp only)
  repeat' (first | with_reducible assumption | with_reducible exact Steps.refl _ _ | ((with_reducible refine covers_self ?_); rfl) | with_reducible apply State.silence_steps | with_reducible apply State.headEvent_steps | with_reducible apply State.updHead_steps | with_reducible apply Steps.ite | (intro _ _ _) | (intro _ _) | split | (dsimp only))

theorem State.blindBus_steps {ps : List Part} {σ τ : State} (b : BusNo) (hτ : Steps ps σ τ)
    (hcov : covers ps [.mem, .pool, .draws, .irq, .bells, .replies, .changes, .ports, .tx, .sluice, .lamps, .buses, .heads, .pair, .journal, .tag, .inject] = true) : Steps ps σ (State.blindBus τ b) := by
  refine hτ.step ?_ hcov
  clear hτ hcov
  unfold State.blindBus
  (try dsimp only)
  repeat' (first | with_reducible assumption | with_reducible exact Steps.refl _ _ | ((with_reducible refine covers_self ?_); rfl) | with_reducible apply State.endRetire_steps | with_reducible apply State.dropReply_steps | with_reducible apply State.blindHead_steps | with_reducible apply State.updBus_steps | with_reducible apply Steps.foldl | with_reducible apply Steps.ite | (intro _ _ _) | (intro _ _) | split | (dsimp only))

theorem State.recoverBus_steps {ps : List Part} {σ τ : State} (b : BusNo) (hτ : Steps ps σ τ)
    (hcov : covers ps [.mem, .pool, .draws, .irq, .bells, .replies, .changes, .ports, .tx, .sluice, .lamps, .buses, .heads, .pair, .journal, .tag, .inject] = true) : Steps ps σ (State.recoverBus τ b) := by
  refine hτ.step ?_ hcov
  clear hτ hcov
  unfold State.recoverBus
  (try dsimp only)
  repeat' (first | with_reducible assumption | with_reducible exact Steps.refl _ _ | ((with_reducible refine covers_self ?_); rfl) | with_reducible apply State.updHead_steps | with_reducible apply State.beginJoin_steps | with_reducible apply Steps.foldl | with_reducible apply Steps.ite | (intro _ _ _) | (intro _ _) | split | (dsimp only))

theorem State.updRole_steps {ps : List Part} {σ τ : State} (p : PortNo) (f : HeadRole → HeadRole) (hτ : Steps ps σ τ)
    (hcov : covers ps [.ports] = true) : Steps ps σ (State.updRole τ p f) := by
  refine hτ.step ?_ hcov
  clear hτ hcov
  unfold State.updRole
  (try dsimp only)
  repeat' (first | with_reducible assumption | with_reducible exact Steps.refl _ _ | ((with_reducible refine covers_self ?_); rfl) | ((with_reducible apply State.updPort_ports_steps); (rotate_left 1); (focus (intro _; first | rfl | exact ⟨rfl, fun _ => ⟨fun h => by simp [h], fun h => by simp [h]⟩⟩ | exact ⟨⟨rfl, rfl⟩, fun _ h => by simp [h]⟩ | exact ⟨⟨rfl, rfl⟩, List.prefix_append _ _⟩ | exact ⟨rfl, rfl⟩ | exact ⟨rfl, rfl, rfl⟩ | exact ⟨⟨rfl, rfl⟩, rfl, rfl, rfl⟩ | exact ⟨rfl, rfl, rfl, rfl⟩ | ((try dsimp only); (repeat' split) <;> first | rfl | exact ⟨rfl, rfl⟩ | exact ⟨rfl, rfl, rfl⟩ | exact ⟨rfl, rfl, rfl, rfl⟩ | (simp; done)) | (simp; done))); (rotate_left 1)) | (intro _ _ _) | (intro _ _) | (dsimp only))

theorem State.headSend_steps {ps : List Part} {σ τ : State} (p : PortNo) (hτ : Steps ps σ τ)
    (hcov : covers ps [.mem, .pool, .draws, .irq, .bells, .events, .ports, .sluice, .journal, .dozeEvents] = true) : Steps ps σ (State.headSend τ p) := by
  refine hτ.step ?_ hcov
  clear hτ hcov
  unfold State.headSend
  (try dsimp only)
  repeat' (first | with_reducible assumption | with_reducible exact Steps.refl _ _ | ((with_reducible refine covers_self ?_); rfl) | with_reducible apply State.updRole_steps | with_reducible apply State.readOwn_steps | with_reducible apply Steps.ite | (intro _ _ _) | (intro _ _) | split | (dsimp only))

theorem State.headPulse_steps {ps : List Part} {σ τ : State} (p : PortNo) (hτ : Steps ps σ τ)
    (hcov : covers ps [.ports] = true) : Steps ps σ (State.headPulse τ p) := by
  refine hτ.step ?_ hcov
  clear hτ hcov
  unfold State.headPulse
  (try dsimp only)
  repeat' (first | with_reducible assumption | with_reducible exact Steps.refl _ _ | ((with_reducible refine covers_self ?_); rfl) | with_reducible apply State.updRole_steps | with_reducible apply Steps.ite | (intro _ _ _) | (intro _ _) | split | (dsimp only))

theorem State.headExecute_steps {ps : List Part} {σ τ : State} (p : PortNo) (addr : Nat) (f : HedgeFrame) (hτ : Steps ps σ τ)
    (hcov : covers ps [.ports] = true) : Steps ps σ (State.headExecute τ p addr f) := by
  refine hτ.step ?_ hcov
  clear hτ hcov
  unfold State.headExecute
  (try dsimp only)
  repeat' (first | with_reducible assumption | with_reducible exact Steps.refl _ _ | ((with_reducible refine covers_self ?_); rfl) | with_reducible apply State.updRole_steps | with_reducible apply Steps.ite | (intro _ _ _) | (intro _ _) | split | (dsimp only))

theorem State.headBroadcast_steps {ps : List Part} {σ τ : State} (p : PortNo) (f : HedgeFrame) (hτ : Steps ps σ τ)
    (hcov : covers ps [.ports] = true) : Steps ps σ (State.headBroadcast τ p f) := by
  refine hτ.step ?_ hcov
  clear hτ hcov
  unfold State.headBroadcast
  (try dsimp only)
  repeat' (first | with_reducible assumption | with_reducible exact Steps.refl _ _ | ((with_reducible refine covers_self ?_); rfl) | with_reducible apply State.headPulse_steps | with_reducible apply State.updRole_steps | with_reducible apply Steps.ite | (intro _ _ _) | (intro _ _) | split | (dsimp only))

theorem State.headFrame_steps {ps : List Part} {σ τ : State} (p : PortNo) (f : HedgeFrame) (hτ : Steps ps σ τ)
    (hcov : covers ps [.ports] = true) : Steps ps σ (State.headFrame τ p f) := by
  refine hτ.step ?_ hcov
  clear hτ hcov
  unfold State.headFrame
  (try dsimp only)
  repeat' (first | with_reducible assumption | with_reducible exact Steps.refl _ _ | ((with_reducible refine covers_self ?_); rfl) | with_reducible apply State.headBroadcast_steps | with_reducible apply State.updRole_steps | with_reducible apply State.headExecute_steps | with_reducible apply Steps.ite | (intro _ _ _) | (intro _ _) | split | (dsimp only))

theorem State.headHears_steps {ps : List Part} {σ τ : State} (p : PortNo) (frame : List Half) (hτ : Steps ps σ τ)
    (hcov : covers ps [.ports] = true) : Steps ps σ (State.headHears τ p frame) := by
  refine hτ.step ?_ hcov
  clear hτ hcov
  unfold State.headHears
  (try dsimp only)
  repeat' (first | with_reducible assumption | with_reducible exact Steps.refl _ _ | ((with_reducible refine covers_self ?_); rfl) | with_reducible apply State.dropFrame_steps | with_reducible apply State.headFrame_steps | with_reducible apply State.abandonFrame_steps | with_reducible apply State.updRole_steps | with_reducible apply Steps.ite | (intro _ _ _) | (intro _ _) | split | (dsimp only))

theorem State.readMessage_steps {ps : List Part} {σ τ : State} (c : Chan) (w : Word) (hτ : Steps ps σ τ)
    (hcov : covers ps [.replies, .work] = true) : Steps ps σ (State.readMessage τ c w) := by
  refine hτ.step ?_ hcov
  clear hτ hcov
  unfold State.readMessage
  (try dsimp only)
  repeat' (first | with_reducible assumption | with_reducible exact Steps.refl _ _ | ((with_reducible refine covers_self ?_); rfl) | with_reducible apply State.answerMalformed_steps | ((with_reducible apply State.setEngine_work_steps); (rotate_left 1); (focus (intro _; first | rfl | exact ⟨rfl, fun _ => ⟨fun h => by simp [h], fun h => by simp [h]⟩⟩ | exact ⟨⟨rfl, rfl⟩, fun _ h => by simp [h]⟩ | exact ⟨⟨rfl, rfl⟩, List.prefix_append _ _⟩ | exact ⟨rfl, rfl⟩ | exact ⟨rfl, rfl, rfl⟩ | exact ⟨⟨rfl, rfl⟩, rfl, rfl, rfl⟩ | exact ⟨rfl, rfl, rfl, rfl⟩ | ((try dsimp only); (repeat' split) <;> first | rfl | exact ⟨rfl, rfl⟩ | exact ⟨rfl, rfl, rfl⟩ | exact ⟨rfl, rfl, rfl, rfl⟩ | (simp; done)) | (simp; done))); (rotate_left 1)) | with_reducible apply Steps.ite | (intro _ _ _) | (intro _ _) | split | (dsimp only))

theorem State.takeBell_steps {ps : List Part} {σ τ : State} (c : Chan) (bit : Nat) (f : State → State) (hτ : Steps ps σ τ) (hf : ∀ υ, Steps ps σ υ → Steps ps σ (f υ)) (hcov : covers ps [.chanN, .chanK] = true) :
    Steps ps σ (State.takeBell τ c bit f) := by
  unfold State.takeBell
  (try dsimp only)
  repeat' (first | with_reducible assumption | with_reducible exact Steps.refl _ _ | with_reducible apply hf | with_reducible exact covers_trans hcov rfl | ((with_reducible refine covers_self ?_); rfl) | ((with_reducible apply State.setChan_chan_steps); (rotate_left 1); (focus (intro _; first | rfl | exact ⟨rfl, fun _ => ⟨fun h => by simp [h], fun h => by simp [h]⟩⟩ | exact ⟨⟨rfl, rfl⟩, fun _ h => by simp [h]⟩ | exact ⟨⟨rfl, rfl⟩, List.prefix_append _ _⟩ | exact ⟨rfl, rfl⟩ | exact ⟨rfl, rfl, rfl⟩ | exact ⟨⟨rfl, rfl⟩, rfl, rfl, rfl⟩ | exact ⟨rfl, rfl, rfl, rfl⟩ | ((try dsimp only); (repeat' split) <;> first | rfl | exact ⟨rfl, rfl⟩ | exact ⟨rfl, rfl, rfl⟩))); (rotate_left 1)) | with_reducible apply Steps.ite | (intro _ _ _) | (intro _ _) | split | (dsimp only))

theorem State.sieveLoad_steps {ps : List Part} {σ τ : State} (m : Msg) (hτ : Steps ps σ τ)
    (hcov : covers ps [.mem, .rows, .replies] = true) : Steps ps σ (State.sieveLoad τ m) := by
  refine hτ.step ?_ hcov
  clear hτ hcov
  unfold State.sieveLoad
  (try dsimp only)
  repeat' (first | with_reducible assumption | with_reducible exact Steps.refl _ _ | ((with_reducible refine covers_self ?_); rfl) | with_reducible apply State.take_steps | with_reducible apply State.done_steps | with_reducible apply State.refused_steps | ((with_reducible refine State.putBytes_in_steps (r := .rows) ?_ ?_ ?_); (focus (simp only [Part.within, portRowAt, viewRowAt, sieveRowAt, weirRowAt, lampRowAt, headRowAt, busRowAt, firstSecondAt, resetStampAt, cellAt, bytesAt, leBytes_length, List.length_take, List.length_drop, List.length_append, List.length_cons, List.length_nil, State.memBytes_length]; (repeat' split) <;> omega))) | with_reducible apply Steps.ite | (intro _ _ _) | (intro _ _) | split | (dsimp only))

theorem State.sieveCommit_steps {ps : List Part} {σ τ : State} (m : Msg) (hτ : Steps ps σ τ)
    (hcov : covers ps [.mem, .pool, .replies, .tx, .sieve, .govs, .sluice, .pair, .inject] = true) : Steps ps σ (State.sieveCommit τ m) := by
  refine hτ.step ?_ hcov
  clear hτ hcov
  unfold State.sieveCommit
  (try dsimp only)
  repeat' (first | with_reducible assumption | with_reducible exact Steps.refl _ _ | ((with_reducible refine covers_self ?_); rfl) | with_reducible apply State.refused_steps | with_reducible apply State.setSieve_steps | with_reducible apply State.decideEnded_steps | with_reducible apply State.badAt_steps | with_reducible apply Steps.ite | (intro _ _ _) | (intro _ _) | split | (dsimp only))

theorem State.sieveRun_steps {ps : List Part} {σ τ : State} (w : SieveWait) (hτ : Steps ps σ τ)
    (hcov : covers ps [.mem, .pool, .rows, .replies, .tx, .sieve, .govs, .sluice, .pair, .inject] = true) : Steps ps σ (State.sieveRun τ w) := by
  refine hτ.step ?_ hcov
  clear hτ hcov
  unfold State.sieveRun
  (try dsimp only)
  repeat' (first | with_reducible assumption | with_reducible exact Steps.refl _ _ | ((with_reducible refine covers_self ?_); rfl) | with_reducible apply State.setSieve_steps | with_reducible apply State.sieveLoad_steps | with_reducible apply State.sieveCommit_steps | with_reducible apply Steps.ite | (intro _ _ _) | (intro _ _) | split | (dsimp only))

theorem State.weirWrite_steps {ps : List Part} {σ τ : State} (g : GovNo) (row : List Byte) (hτ : Steps ps σ τ)
    (hcov : covers ps [.mem, .pool, .rows, .tx, .govs, .sluice, .pair, .inject] = true) : Steps ps σ (State.weirWrite τ g row) := by
  refine hτ.step ?_ hcov
  clear hτ hcov
  unfold State.weirWrite
  (try dsimp only)
  repeat' (first | with_reducible assumption | with_reducible exact Steps.refl _ _ | ((with_reducible refine covers_self ?_); rfl) | with_reducible apply State.updGov_steps | with_reducible apply State.releaseIfDue_steps | ((with_reducible refine State.putBytes_in_steps (r := .rows) ?_ ?_ ?_); (focus (simp only [Part.within, portRowAt, viewRowAt, sieveRowAt, weirRowAt, lampRowAt, headRowAt, busRowAt, firstSecondAt, resetStampAt, cellAt, bytesAt, leBytes_length, List.length_take, List.length_drop, List.length_append, List.length_cons, List.length_nil, State.memBytes_length]; (repeat' split) <;> omega))) | (intro _ _ _) | (intro _ _) | (dsimp only))

theorem State.ackAll_steps {ps : List Part} {σ τ : State} (f : LampNo → Lamp → Bool) (hτ : Steps ps σ τ)
    (hcov : covers ps [.mem, .pool, .draws, .irq, .bells, .ports, .tx, .sluice, .lamps, .pair, .journal, .tag, .inject] = true) : Steps ps σ (State.ackAll τ f).1 := by
  refine hτ.step ?_ hcov
  clear hτ hcov
  unfold State.ackAll
  (try dsimp only)
  repeat' (first | with_reducible assumption | with_reducible exact Steps.refl _ _ | ((with_reducible refine covers_self ?_); rfl) | with_reducible apply State.ackLamp_steps | with_reducible apply Steps.foldl | with_reducible apply Steps.ite | (intro _ _ _) | (intro _ _) | split | (dsimp only))

theorem State.commandLamp_steps {ps : List Part} {σ τ : State} (w : Word) (off : Byte) (hτ : Steps ps σ τ)
    (hcov : covers ps [.buses] = true) : Steps ps σ (State.commandLamp τ w off) := by
  refine hτ.step ?_ hcov
  clear hτ hcov
  unfold State.commandLamp
  (try dsimp only)
  repeat' (first | with_reducible assumption | with_reducible exact Steps.refl _ _ | ((with_reducible refine covers_self ?_); rfl) | with_reducible apply State.updBus_steps | with_reducible apply Steps.ite | (intro _ _ _) | (intro _ _) | split | (dsimp only))

theorem State.startTest_steps {ps : List Part} {σ τ : State} (l : LampNo) (hτ : Steps ps σ τ)
    (hcov : covers ps [.mem, .pool, .draws, .irq, .bells, .ports, .tx, .sluice, .lamps, .buses, .pair, .journal, .tag, .inject] = true) : Steps ps σ (State.startTest τ l) := by
  refine hτ.step ?_ hcov
  clear hτ hcov
  unfold State.startTest
  (try dsimp only)
  repeat' (first | with_reducible assumption | with_reducible exact Steps.refl _ _ | ((with_reducible refine covers_self ?_); rfl) | with_reducible apply State.commandLamp_steps | with_reducible apply State.updLamp_steps | with_reducible apply State.changeLamp_steps | with_reducible apply Steps.ite | (intro _ _ _) | (intro _ _) | split | (dsimp only))

theorem State.mgmtEnd_steps {ps : List Part} {σ τ : State} (i : Fin 16) (status : Byte) (hτ : Steps ps σ τ)
    (hcov : covers ps [.irq, .bells, .mgmt] = true) : Steps ps σ (State.mgmtEnd τ i status) := by
  refine hτ.step ?_ hcov
  clear hτ hcov
  unfold State.mgmtEnd
  (try dsimp only)
  repeat' (first | with_reducible assumption | with_reducible exact Steps.refl _ _ | ((with_reducible refine covers_self ?_); rfl) | with_reducible apply State.setMgmt_steps | with_reducible apply State.mgmtStart_steps | with_reducible apply State.scanStatus_steps | with_reducible apply State.mgmtStop_steps | (intro _ _ _) | (intro _ _) | (dsimp only))

theorem State.mgmtStuck_steps {ps : List Part} {σ τ : State}  (hτ : Steps ps σ τ)
    (hcov : covers ps [.irq, .bells, .mgmt] = true) : Steps ps σ (State.mgmtStuck τ) := by
  refine hτ.step ?_ hcov
  clear hτ hcov
  unfold State.mgmtStuck
  (try dsimp only)
  repeat' (first | with_reducible assumption | with_reducible exact Steps.refl _ _ | ((with_reducible refine covers_self ?_); rfl) | with_reducible apply State.setMgmt_steps | with_reducible apply State.ring_steps | with_reducible apply State.scanStatus_steps | with_reducible apply State.mgmtStop_steps | with_reducible apply Steps.foldl | with_reducible apply Steps.ite | (intro _ _ _) | (intro _ _) | split | (dsimp only))

theorem State.defaultRows_steps {ps : List Part} {σ τ : State}  (hτ : Steps ps σ τ)
    (hcov : covers ps [.mem, .rows] = true) : Steps ps σ (State.defaultRows τ) := by
  refine hτ.step ?_ hcov
  clear hτ hcov
  unfold State.defaultRows
  (try dsimp only)
  repeat' (first | with_reducible assumption | with_reducible exact Steps.refl _ _ | ((with_reducible refine covers_self ?_); rfl) | with_reducible apply State.eachPort_steps | with_reducible apply State.eachBus_steps | with_reducible apply State.eachView_steps | ((with_reducible refine State.putByte_in_steps (r := .rows) ?_ ?_ ?_); (focus (simp only [Part.within, portRowAt, viewRowAt, sieveRowAt, weirRowAt, lampRowAt, headRowAt, busRowAt, firstSecondAt, resetStampAt, cellAt, bytesAt, leBytes_length, List.length_take, List.length_drop, List.length_append, List.length_cons, List.length_nil, State.memBytes_length]; (repeat' split) <;> omega))) | ((with_reducible refine State.putBytes_in_steps (r := .rows) ?_ ?_ ?_); (focus (simp only [Part.within, portRowAt, viewRowAt, sieveRowAt, weirRowAt, lampRowAt, headRowAt, busRowAt, firstSecondAt, resetStampAt, cellAt, bytesAt, leBytes_length, List.length_take, List.length_drop, List.length_append, List.length_cons, List.length_nil, State.memBytes_length]; (repeat' split) <;> omega))) | ((with_reducible refine State.clearMem_in_steps (r := .rows) ?_ ?_ ?_); (focus (simp only [Part.within, portRowAt, viewRowAt, sieveRowAt, weirRowAt, lampRowAt, headRowAt, busRowAt, firstSecondAt, resetStampAt, cellAt, bytesAt, leBytes_length, List.length_take, List.length_drop, List.length_append, List.length_cons, List.length_nil, State.memBytes_length]; (repeat' split) <;> omega))) | with_reducible apply Steps.ite | (intro _ _ _) | (intro _ _) | split | (dsimp only))

theorem State.defaultMaintained_steps {ps : List Part} {σ τ : State}  (hτ : Steps ps σ τ)
    (hcov : covers ps [.ports, .tx, .sieve, .govs, .sluice, .lamps, .buses, .heads] = true) : Steps ps σ (State.defaultMaintained τ) := by
  refine hτ.step ?_ hcov
  clear hτ hcov
  unfold State.defaultMaintained
  (try dsimp only)
  repeat' (first | with_reducible assumption | with_reducible exact Steps.refl _ _ | ((with_reducible refine covers_self ?_); rfl) | with_reducible apply State.setGovs_steps | with_reducible apply State.setLamps_steps | with_reducible apply State.setBuses_steps | with_reducible apply State.setHeads_steps | with_reducible apply State.setSieve_steps | with_reducible apply State.setSluice_steps | with_reducible apply State.mapPorts_steps | (intro _ _ _) | (intro _ _) | (dsimp only))

theorem State.defaultSettings_steps {ps : List Part} {σ τ : State}  (hτ : Steps ps σ τ)
    (hcov : covers ps [.settings, .events, .changes, .mgmt, .inject] = true) : Steps ps σ (State.defaultSettings τ) := by
  refine hτ.step ?_ hcov
  clear hτ hcov
  unfold State.defaultSettings
  (try dsimp only)
  repeat' (first | with_reducible assumption | with_reducible exact Steps.refl _ _ | ((with_reducible refine covers_self ?_); rfl) | with_reducible apply State.setMgmt_steps | with_reducible apply State.setInject_steps | ((with_reducible apply State.setSettings_changes_steps); (rotate_left 1); (focus (intro _; first | rfl | exact ⟨rfl, fun _ => ⟨fun h => by simp [h], fun h => by simp [h]⟩⟩ | exact ⟨⟨rfl, rfl⟩, fun _ h => by simp [h]⟩ | exact ⟨⟨rfl, rfl⟩, List.prefix_append _ _⟩ | exact ⟨rfl, rfl⟩ | exact ⟨rfl, rfl, rfl⟩ | exact ⟨⟨rfl, rfl⟩, rfl, rfl, rfl⟩ | exact ⟨rfl, rfl, rfl, rfl⟩ | ((try dsimp only); (repeat' split) <;> first | rfl | exact ⟨rfl, rfl⟩ | exact ⟨rfl, rfl, rfl⟩ | exact ⟨rfl, rfl, rfl, rfl⟩ | (simp; done)) | (simp; done))); (rotate_left 1)) | with_reducible apply State.setSettings_steps | (intro _ _ _) | (intro _ _) | (dsimp only))

theorem State.loseDevices_steps {ps : List Part} {σ τ : State}  (hτ : Steps ps σ τ)
    (hcov : covers ps [.mem, .pool, .sluice] = true) : Steps ps σ (State.loseDevices τ) := by
  refine hτ.step ?_ hcov
  clear hτ hcov
  unfold State.loseDevices
  (try dsimp only)
  repeat' (first | with_reducible assumption | with_reducible exact Steps.refl _ _ | ((with_reducible refine covers_self ?_); rfl) | with_reducible apply State.dropItem_steps | with_reducible apply Steps.foldl | with_reducible apply Steps.ite | (intro _ _ _) | (intro _ _) | split | (dsimp only))

theorem State.loseWork_steps {ps : List Part} {σ τ : State}  (hτ : Steps ps σ τ)
    (hcov : covers ps [.mem, .pool, .draws, .irq, .bells, .hush, .replies, .drops, .chanN, .chanK, .work, .ports, .sieve, .sluice, .lamps, .buses, .heads, .pair, .journal, .tag, .mgmt] = true) : Steps ps σ (State.loseWork τ) := by
  refine hτ.step ?_ hcov
  clear hτ hcov
  unfold State.loseWork
  (try dsimp only)
  repeat' (first | with_reducible assumption | with_reducible exact Steps.refl _ _ | ((with_reducible refine covers_self ?_); rfl) | with_reducible apply State.setJournal_steps | with_reducible apply State.setHeads_steps | with_reducible apply State.mapBuses_steps | with_reducible apply State.setTag_steps | with_reducible apply State.loseDevices_steps | with_reducible apply State.mgmtStop_steps | with_reducible apply State.cutPublish_steps | with_reducible apply State.forgetCommands_steps | with_reducible apply State.mapLamps_steps | with_reducible apply State.setPair_steps | with_reducible apply State.setSluice_steps | ((with_reducible apply State.mapPorts_ports_steps); (rotate_left 1); (focus (intro _; first | rfl | exact ⟨rfl, fun _ => ⟨fun h => by simp [h], fun h => by simp [h]⟩⟩ | exact ⟨⟨rfl, rfl⟩, fun _ h => by simp [h]⟩ | exact ⟨⟨rfl, rfl⟩, List.prefix_append _ _⟩ | exact ⟨rfl, rfl⟩ | exact ⟨rfl, rfl, rfl⟩ | exact ⟨⟨rfl, rfl⟩, rfl, rfl, rfl⟩ | exact ⟨rfl, rfl, rfl, rfl⟩ | ((try dsimp only); (repeat' split) <;> first | rfl | exact ⟨rfl, rfl⟩ | exact ⟨rfl, rfl, rfl⟩ | exact ⟨rfl, rfl, rfl, rfl⟩ | (simp; done)) | (simp; done))); (rotate_left 1)) | with_reducible apply Steps.ite | (intro _ _ _) | (intro _ _) | split | (dsimp only))

theorem State.beginRestart_steps {ps : List Part} {σ τ : State} (cause : BitVec 4) (hτ : Steps ps σ τ)
    (hcov : covers ps [.mem, .pool, .draws, .modes, .irq, .culvert, .bells, .hush, .replies, .drops, .chanN, .chanK, .engine, .work, .changes, .ports, .tx, .sieve, .sluice, .lamps, .buses, .heads, .pair, .journal, .tag, .mgmt, .inject] = true) : Steps ps σ (State.beginRestart τ cause) := by
  refine hτ.step ?_ hcov
  clear hτ hcov
  unfold State.beginRestart
  (try dsimp only)
  repeat' (first | with_reducible assumption | with_reducible exact Steps.refl _ _ | ((with_reducible refine covers_self ?_); rfl) | with_reducible apply State.abortOut_steps | with_reducible apply State.loseWork_steps | with_reducible apply State.headNotice_steps | with_reducible apply State.raise_steps | with_reducible apply State.abandonMode_steps | with_reducible apply State.breakLock_steps | ((with_reducible apply State.setEngine_engine_steps); (rotate_left 1); (focus (intro _; first | rfl | exact ⟨rfl, fun _ => ⟨fun h => by simp [h], fun h => by simp [h]⟩⟩ | exact ⟨⟨rfl, rfl⟩, fun _ h => by simp [h]⟩ | exact ⟨⟨rfl, rfl⟩, List.prefix_append _ _⟩ | exact ⟨rfl, rfl⟩ | exact ⟨rfl, rfl, rfl⟩ | exact ⟨⟨rfl, rfl⟩, rfl, rfl, rfl⟩ | exact ⟨rfl, rfl, rfl, rfl⟩ | ((try dsimp only); (repeat' split) <;> first | rfl | exact ⟨rfl, rfl⟩ | exact ⟨rfl, rfl, rfl⟩ | exact ⟨rfl, rfl, rfl, rfl⟩ | (simp; done)) | (simp; done))); (rotate_left 1)) | ((with_reducible apply State.setChan_k_steps); (rotate_left 1); (focus (intro _; first | rfl | exact ⟨rfl, fun _ => ⟨fun h => by simp [h], fun h => by simp [h]⟩⟩ | exact ⟨⟨rfl, rfl⟩, fun _ h => by simp [h]⟩ | exact ⟨⟨rfl, rfl⟩, List.prefix_append _ _⟩ | exact ⟨rfl, rfl⟩ | exact ⟨rfl, rfl, rfl⟩ | exact ⟨⟨rfl, rfl⟩, rfl, rfl, rfl⟩ | exact ⟨rfl, rfl, rfl, rfl⟩ | ((try dsimp only); (repeat' split) <;> first | rfl | exact ⟨rfl, rfl⟩ | exact ⟨rfl, rfl, rfl⟩ | exact ⟨rfl, rfl, rfl, rfl⟩ | (simp; done)) | (simp; done))); (rotate_left 1)) | ((with_reducible apply State.setChan_chan_steps); (rotate_left 1); (focus (intro _; first | rfl | exact ⟨rfl, fun _ => ⟨fun h => by simp [h], fun h => by simp [h]⟩⟩ | exact ⟨⟨rfl, rfl⟩, fun _ h => by simp [h]⟩ | exact ⟨⟨rfl, rfl⟩, List.prefix_append _ _⟩ | exact ⟨rfl, rfl⟩ | exact ⟨rfl, rfl, rfl⟩ | exact ⟨⟨rfl, rfl⟩, rfl, rfl, rfl⟩ | exact ⟨rfl, rfl, rfl, rfl⟩ | ((try dsimp only); (repeat' split) <;> first | rfl | exact ⟨rfl, rfl⟩ | exact ⟨rfl, rfl, rfl⟩ | exact ⟨rfl, rfl, rfl, rfl⟩ | (simp; done)) | (simp; done))); (rotate_left 1)) | ((with_reducible apply State.setChan_n_steps); (rotate_left 1); (focus (intro _; first | rfl | exact ⟨rfl, fun _ => ⟨fun h => by simp [h], fun h => by simp [h]⟩⟩ | exact ⟨⟨rfl, rfl⟩, fun _ h => by simp [h]⟩ | exact ⟨⟨rfl, rfl⟩, List.prefix_append _ _⟩ | exact ⟨rfl, rfl⟩ | exact ⟨rfl, rfl, rfl⟩ | exact ⟨⟨rfl, rfl⟩, rfl, rfl, rfl⟩ | exact ⟨rfl, rfl, rfl, rfl⟩ | ((try dsimp only); (repeat' split) <;> first | rfl | exact ⟨rfl, rfl⟩ | exact ⟨rfl, rfl, rfl⟩ | exact ⟨rfl, rfl, rfl, rfl⟩ | (simp; done)) | (simp; done))); (rotate_left 1)) | with_reducible apply Steps.ite | (intro _ _ _) | (intro _ _) | split | (dsimp only))

theorem State.rejoin_steps {ps : List Part} {σ τ : State}  (hτ : Steps ps σ τ)
    (hcov : covers ps [.mem, .pool, .draws, .irq, .bells, .replies, .changes, .ports, .tx, .sluice, .lamps, .buses, .heads, .pair, .journal, .tag, .inject] = true) : Steps ps σ (State.rejoin τ) := by
  refine hτ.step ?_ hcov
  clear hτ hcov
  unfold State.rejoin
  (try dsimp only)
  repeat' (first | with_reducible assumption | with_reducible exact Steps.refl _ _ | ((with_reducible refine covers_self ?_); rfl) | with_reducible apply State.eachBus_steps | with_reducible apply State.beginJoin_steps | with_reducible apply State.joinHead_steps | with_reducible apply Steps.foldl | with_reducible apply Steps.ite | (intro _ _ _) | (intro _ _) | split | (dsimp only))

theorem State.repeatAll_steps {ps : List Part} {σ τ : State}  (hτ : Steps ps σ τ)
    (hcov : covers ps [.mem, .pool, .draws, .tx, .sluice, .pair, .inject] = true) : Steps ps σ (State.repeatAll τ) := by
  refine hτ.step ?_ hcov
  clear hτ hcov
  unfold State.repeatAll
  (try dsimp only)
  repeat' (first | with_reducible assumption | with_reducible exact Steps.refl _ _ | ((with_reducible refine covers_self ?_); rfl) | with_reducible apply State.eachLamp_steps | with_reducible apply State.repeatAlr_steps | with_reducible apply Steps.ite | (intro _ _ _) | (intro _ _) | split | (dsimp only))

theorem State.lampRec_steps {ps : List Part} {σ τ : State} (r : LampRec) (hτ : Steps ps σ τ)
    (hcov : covers ps [.mem, .pool, .draws, .irq, .bells, .ports, .tx, .sluice, .lamps, .pair, .journal, .tag, .inject] = true) : Steps ps σ (State.lampRec τ r) := by
  refine hτ.step ?_ hcov
  clear hτ hcov
  unfold State.lampRec
  (try dsimp only)
  repeat' (first | with_reducible assumption | with_reducible exact Steps.refl _ _ | ((with_reducible refine covers_self ?_); rfl) | with_reducible apply State.updLamp_steps | with_reducible apply State.headNotice_steps | with_reducible apply State.changeLamp_steps | with_reducible apply Steps.ite | (intro _ _ _) | (intro _ _) | split | (dsimp only))

theorem State.lampsCaughtUp_steps {ps : List Part} {σ τ : State}  (hτ : Steps ps σ τ)
    (hcov : covers ps [.mem, .pool, .draws, .irq, .bells, .ports, .tx, .sluice, .lamps, .pair, .journal, .tag, .inject] = true) : Steps ps σ (State.lampsCaughtUp τ) := by
  refine hτ.step ?_ hcov
  clear hτ hcov
  unfold State.lampsCaughtUp
  (try dsimp only)
  repeat' (first | with_reducible assumption | with_reducible exact Steps.refl _ _ | ((with_reducible refine covers_self ?_); rfl) | with_reducible apply State.lampRec_steps | with_reducible apply State.setPair_steps | with_reducible apply Steps.foldl | with_reducible apply Steps.ite | (intro _ _ _) | (intro _ _) | split | (dsimp only))

theorem State.pairEnabled_steps {ps : List Part} {σ τ : State} (on : Bool) (dutyIn : Bool) (hτ : Steps ps σ τ)
    (hcov : covers ps [.mem, .pool, .draws, .irq, .bells, .replies, .changes, .ports, .tx, .sluice, .lamps, .buses, .heads, .pair, .journal, .tag, .inject] = true) : Steps ps σ (State.pairEnabled τ on dutyIn) := by
  refine hτ.step ?_ hcov
  clear hτ hcov
  unfold State.pairEnabled
  (try dsimp only)
  repeat' (first | with_reducible assumption | with_reducible exact Steps.refl _ _ | ((with_reducible refine covers_self ?_); rfl) | with_reducible apply State.dropRole_steps | with_reducible apply State.noted_steps | with_reducible apply State.driveAll_steps | with_reducible apply State.yieldDuty_steps | with_reducible apply State.takeRole_steps | with_reducible apply State.seeDuty_steps | with_reducible apply State.beginJoin_steps | with_reducible apply Steps.foldl | with_reducible apply Steps.ite | (intro _ _ _) | (intro _ _) | split | (dsimp only))

theorem State.takeOver_steps {ps : List Part} {σ τ : State}  (hτ : Steps ps σ τ)
    (hcov : covers ps [.mem, .pool, .draws, .irq, .bells, .replies, .changes, .ports, .tx, .sluice, .lamps, .buses, .heads, .pair, .journal, .tag, .inject] = true) : Steps ps σ (State.takeOver τ) := by
  refine hτ.step ?_ hcov
  clear hτ hcov
  unfold State.takeOver
  (try dsimp only)
  repeat' (first | with_reducible assumption | with_reducible exact Steps.refl _ _ | ((with_reducible refine covers_self ?_); rfl) | with_reducible apply State.pairBell_steps | with_reducible apply State.becomeDuty_steps | with_reducible apply State.timeMark_steps | with_reducible apply State.repeatAll_steps | with_reducible apply State.tellEvent_steps | with_reducible apply State.setPair_steps | with_reducible apply Steps.ite | (intro _ _ _) | (intro _ _) | split | (dsimp only))

theorem State.ackFrame_steps {ps : List Part} {σ τ : State} (f : Frame) (hτ : Steps ps σ τ)
    (hcov : covers ps [.mem, .pool, .sluice] = true) : Steps ps σ (State.ackFrame τ f) := by
  refine hτ.step ?_ hcov
  clear hτ hcov
  unfold State.ackFrame
  (try dsimp only)
  repeat' (first | with_reducible assumption | with_reducible exact Steps.refl _ _ | ((with_reducible refine covers_self ?_); rfl) | with_reducible apply State.letGo_steps | with_reducible apply Steps.ite | (intro _ _ _) | (intro _ _) | split | (dsimp only))

theorem State.takeAck_steps {ps : List Part} {σ τ : State} (ack : Half) (hτ : Steps ps σ τ)
    (hcov : covers ps [.mem, .pool, .draws, .irq, .bells, .replies, .changes, .ports, .tx, .sluice, .lamps, .buses, .heads, .pair, .journal, .tag, .inject] = true) : Steps ps σ (State.takeAck τ ack) := by
  refine hτ.step ?_ hcov
  clear hτ hcov
  unfold State.takeAck
  (try dsimp only)
  repeat' (first | with_reducible assumption | with_reducible exact Steps.refl _ _ | ((with_reducible refine covers_self ?_); rfl) | with_reducible apply State.setPair_steps | with_reducible apply State.drainFrames_steps | with_reducible apply State.sendPeer_steps | with_reducible apply State.advanceHandover_steps | with_reducible apply State.ackFrame_steps | with_reducible apply Steps.foldl | (intro _ _ _) | (intro _ _) | split | (dsimp only))

theorem State.heard_steps {ps : List Part} {σ τ : State} (hdr : PleachHdr) (hτ : Steps ps σ τ)
    (hcov : covers ps [.mem, .pool, .draws, .irq, .bells, .replies, .changes, .ports, .tx, .sluice, .lamps, .buses, .heads, .pair, .journal, .tag, .inject] = true) : Steps ps σ (State.heard τ hdr) := by
  refine hτ.step ?_ hcov
  clear hτ hcov
  unfold State.heard
  (try dsimp only)
  repeat' (first | with_reducible assumption | with_reducible exact Steps.refl _ _ | ((with_reducible refine covers_self ?_); rfl) | with_reducible apply State.takeAck_steps | (dsimp only))

theorem State.countAccepted_steps {ps : List Part} {σ τ : State}  (hτ : Steps ps σ τ)
    (hcov : covers ps [.pair] = true) : Steps ps σ (State.countAccepted τ) := by
  refine hτ.step ?_ hcov
  clear hτ hcov
  unfold State.countAccepted
  (try dsimp only)
  repeat' (first | with_reducible assumption | with_reducible exact Steps.refl _ _ | ((with_reducible refine covers_self ?_); rfl) | with_reducible apply State.setPair_steps | (intro _ _ _) | (intro _ _) | (dsimp only))

theorem State.countDropped_steps {ps : List Part} {σ τ : State}  (hτ : Steps ps σ τ)
    (hcov : covers ps [.pair] = true) : Steps ps σ (State.countDropped τ) := by
  refine hτ.step ?_ hcov
  clear hτ hcov
  unfold State.countDropped
  (try dsimp only)
  repeat' (first | with_reducible assumption | with_reducible exact Steps.refl _ _ | ((with_reducible refine covers_self ?_); rfl) | with_reducible apply State.setPair_steps | with_reducible apply Steps.ite | (intro _ _ _) | (intro _ _) | split | (dsimp only))

theorem State.receive_steps {ps : List Part} {σ τ : State} (hdr : PleachHdr) (x : Frame) (f : State → State) (hτ : Steps ps σ τ) (hf : ∀ υ, Steps ps σ υ → Steps ps σ (f υ)) (hcov : covers ps [.mem, .pool, .draws, .irq, .bells, .replies, .changes, .ports, .tx, .sluice, .lamps, .buses, .heads, .pair, .journal, .tag, .inject] = true) :
    Steps ps σ (State.receive τ hdr x f) := by
  unfold State.receive
  (try dsimp only)
  repeat' (first | with_reducible assumption | with_reducible exact Steps.refl _ _ | with_reducible apply hf | with_reducible exact covers_trans hcov rfl | ((with_reducible refine covers_self ?_); rfl) | with_reducible apply State.setPair_steps | with_reducible apply State.sendAck_steps | with_reducible apply State.countDropped_steps | with_reducible apply State.heard_steps | with_reducible apply State.countAccepted_steps | with_reducible apply Steps.ite | (intro _ _ _) | (intro _ _) | split | (dsimp only))

theorem State.form_steps {ps : List Part} {σ τ : State}  (hτ : Steps ps σ τ)
    (hcov : covers ps [.pair, .inject] = true) : Steps ps σ (State.form τ) := by
  refine hτ.step ?_ hcov
  clear hτ hcov
  unfold State.form
  (try dsimp only)
  repeat' (first | with_reducible assumption | with_reducible exact Steps.refl _ _ | ((with_reducible refine covers_self ?_); rfl) | with_reducible apply State.sendLamp_steps | with_reducible apply State.sendFrame_steps | with_reducible apply State.eachLamp_steps | with_reducible apply State.setPair_steps | with_reducible apply Steps.ite | (intro _ _ _) | (intro _ _) | split | (dsimp only))

theorem State.compare_steps {ps : List Part} {σ τ : State} (b : Heartbeat) (hτ : Steps ps σ τ)
    (hcov : covers ps [.pair] = true) : Steps ps σ (State.compare τ b) := by
  refine hτ.step ?_ hcov
  clear hτ hcov
  unfold State.compare
  (try dsimp only)
  repeat' (first | with_reducible assumption | with_reducible exact Steps.refl _ _ | ((with_reducible refine covers_self ?_); rfl) | with_reducible apply State.setPair_steps | with_reducible apply Steps.ite | (intro _ _ _) | (intro _ _) | split | (dsimp only))

theorem State.rankClash_steps {ps : List Part} {σ τ : State} (b : Heartbeat) (hτ : Steps ps σ τ)
    (hcov : covers ps [.mem, .pool, .draws, .irq, .bells, .replies, .changes, .ports, .tx, .sluice, .lamps, .buses, .heads, .pair, .journal, .tag, .inject] = true) : Steps ps σ (State.rankClash τ b) := by
  refine hτ.step ?_ hcov
  clear hτ hcov
  unfold State.rankClash
  (try dsimp only)
  repeat' (first | with_reducible assumption | with_reducible exact Steps.refl _ _ | ((with_reducible refine covers_self ?_); rfl) | with_reducible apply State.yieldDuty_steps | with_reducible apply State.setPair_steps | with_reducible apply Steps.ite | (intro _ _ _) | (intro _ _) | split | (dsimp only))

theorem State.mirrorRec_steps {ps : List Part} {σ τ : State} (r : MirrorRec) (hτ : Steps ps σ τ)
    (hcov : covers ps [.mem, .pool, .sluice, .pair] = true) : Steps ps σ (State.mirrorRec τ r) := by
  refine hτ.step ?_ hcov
  clear hτ hcov
  unfold State.mirrorRec
  (try dsimp only)
  repeat' (first | with_reducible assumption | with_reducible exact Steps.refl _ _ | ((with_reducible refine covers_self ?_); rfl) | with_reducible apply State.setPair_steps | with_reducible apply State.matchItem_steps | (intro _ _ _) | (intro _ _) | split | (dsimp only))

theorem State.deliveredRec_steps {ps : List Part} {σ τ : State} (r : DeliveredRec) (hτ : Steps ps σ τ)
    (hcov : covers ps [.mem, .pool, .tx, .sluice] = true) : Steps ps σ (State.deliveredRec τ r) := by
  refine hτ.step ?_ hcov
  clear hτ hcov
  unfold State.deliveredRec
  (try dsimp only)
  repeat' (first | with_reducible assumption | with_reducible exact Steps.refl _ _ | ((with_reducible refine covers_self ?_); rfl) | with_reducible apply State.updView_steps | with_reducible apply State.unlink_steps | with_reducible apply Steps.ite | (intro _ _ _) | (intro _ _) | split | (dsimp only))

theorem State.takeItem_steps {ps : List Part} {σ τ : State} (r : ItemRec) (hτ : Steps ps σ τ)
    (hcov : covers ps [.mem, .pool, .draws, .tx, .sieve, .govs, .sluice, .pair, .inject] = true) : Steps ps σ (State.takeItem τ r) := by
  refine hτ.step ?_ hcov
  clear hτ hcov
  unfold State.takeItem
  (try dsimp only)
  repeat' (first | with_reducible assumption | with_reducible exact Steps.refl _ _ | ((with_reducible refine covers_self ?_); rfl) | with_reducible apply State.newItem_steps ‹_› | with_reducible apply State.countNoCell_steps | with_reducible apply State.decideItem_steps | with_reducible apply Steps.ite | split | (dsimp only))

theorem State.adoptOffset_steps {ps : List Part} {σ τ : State} (new : Stamp) (hτ : Steps ps σ τ)
    (hcov : covers ps [.pair] = true) : Steps ps σ (State.adoptOffset τ new) := by
  refine hτ.step ?_ hcov
  clear hτ hcov
  unfold State.adoptOffset
  (try dsimp only)
  repeat' (first | with_reducible assumption | with_reducible exact Steps.refl _ _ | ((with_reducible refine covers_self ?_); rfl) | with_reducible apply State.setPair_steps | with_reducible apply Steps.ite | (intro _ _ _) | (intro _ _) | split | (dsimp only))

theorem State.sendEpoch_steps {ps : List Part} {σ τ : State}  (hτ : Steps ps σ τ)
    (hcov : covers ps [.pair, .inject] = true) : Steps ps σ (State.sendEpoch τ) := by
  refine hτ.step ?_ hcov
  clear hτ hcov
  unfold State.sendEpoch
  (try dsimp only)
  repeat' (first | with_reducible assumption | with_reducible exact Steps.refl _ _ | ((with_reducible refine covers_self ?_); rfl) | with_reducible apply State.sendFrame_steps | with_reducible apply Steps.ite | (intro _ _ _) | (intro _ _) | split | (dsimp only))

theorem State.endPublish_steps {ps : List Part} {σ τ : State}  (hτ : Steps ps σ τ)
    (hcov : covers ps [.tag] = true) : Steps ps σ (State.endPublish τ) := by
  refine hτ.step ?_ hcov
  clear hτ hcov
  unfold State.endPublish
  (try dsimp only)
  repeat' (first | with_reducible assumption | with_reducible exact Steps.refl _ _ | ((with_reducible refine covers_self ?_); rfl) | with_reducible apply State.setTag_steps | (intro _ _ _) | (intro _ _) | split | (dsimp only))

theorem State.collapseWrite_steps {ps : List Part} {σ τ : State} (w : FieldWrite) (c : Collapse) (hτ : Steps ps σ τ)
    (hcov : covers ps [.draws, .irq, .bells, .tag] = true) : Steps ps σ (State.collapseWrite τ w c) := by
  refine hτ.step ?_ hcov
  clear hτ hcov
  unfold State.collapseWrite
  (try dsimp only)
  repeat' (first | with_reducible assumption | with_reducible exact Steps.refl _ _ | ((with_reducible refine covers_self ?_); rfl) | with_reducible apply State.draw_steps | with_reducible apply State.setTag_steps | with_reducible apply State.fieldWrote_steps | (intro _ _ _) | (intro _ _) | split | (dsimp only))

theorem State.systemInfo_steps {ps : List Part} {σ τ : State} (r : TagReq) (size : List Byte) (hτ : Steps ps σ τ)
    (hcov : covers ps [.tag] = true) : Steps ps σ (State.systemInfo τ r size) := by
  refine hτ.step ?_ hcov
  clear hτ hcov
  unfold State.systemInfo
  (try dsimp only)
  repeat' (first | with_reducible assumption | with_reducible exact Steps.refl _ _ | ((with_reducible refine covers_self ?_); rfl) | with_reducible apply State.answer_steps | with_reducible apply State.tagServe_steps | with_reducible apply Steps.ite | (intro _ _ _) | (intro _ _) | split | (dsimp only))

theorem State.voidItem_steps {ps : List Part} {σ τ : State} (i : Item) (hτ : Steps ps σ τ)
    (hcov : covers ps [.mem, .pool, .sluice] = true) : Steps ps σ (State.voidItem τ i) := by
  refine hτ.step ?_ hcov
  clear hτ hcov
  unfold State.voidItem
  (try dsimp only)
  repeat' (first | with_reducible assumption | with_reducible exact Steps.refl _ _ | ((with_reducible refine covers_self ?_); rfl) | with_reducible apply State.updItem_steps | with_reducible apply State.dropItem_steps | ((with_reducible refine State.putByte_in_steps (r := .pool) ?_ ?_ ?_); (focus (simp only [Part.within, portRowAt, viewRowAt, sieveRowAt, weirRowAt, lampRowAt, headRowAt, busRowAt, firstSecondAt, resetStampAt, cellAt, bytesAt, leBytes_length, List.length_take, List.length_drop, List.length_append, List.length_cons, List.length_nil, State.memBytes_length]; (repeat' split) <;> omega))) | (intro _ _ _) | (intro _ _) | split | (dsimp only))

theorem State.voidPartial_steps {ps : List Part} {σ τ : State} (p : PortNo) (hτ : Steps ps σ τ)
    (hcov : covers ps [.mem, .pool, .ports] = true) : Steps ps σ (State.voidPartial τ p) := by
  refine hτ.step ?_ hcov
  clear hτ hcov
  unfold State.voidPartial
  (try dsimp only)
  repeat' (first | with_reducible assumption | with_reducible exact Steps.refl _ _ | ((with_reducible refine covers_self ?_); rfl) | with_reducible apply State.updAsm_steps | ((with_reducible refine State.putByte_in_steps (r := .pool) ?_ ?_ ?_); (focus (simp only [Part.within, portRowAt, viewRowAt, sieveRowAt, weirRowAt, lampRowAt, headRowAt, busRowAt, firstSecondAt, resetStampAt, cellAt, bytesAt, leBytes_length, List.length_take, List.length_drop, List.length_append, List.length_cons, List.length_nil, State.memBytes_length]; (repeat' split) <;> omega))) | (intro _ _ _) | (intro _ _) | split | (dsimp only))

theorem State.tapItems_steps {ps : List Part} {s t : State} (n most : Nat) (out : List Byte) (h : Steps ps s t)
    (hs : covers ps [.mem, .pool, .tx, .sluice] = true) : Steps ps s (State.tapItems n t most out).1 := by
  induction n generalizing t out with
  | zero => exact h
  | succ n ih =>
    unfold State.tapItems
    split
    · exact h
    · dsimp only
      split
      · exact h
      · exact ih _ (State.unlink_steps _ _ h hs)

end Sys2Proof.Machine
end

