-- ==== Sys2Proof/Laws/Exec.lean ====
section
/-!
SUPPORT. What each command can change: one lemma `exec<Command>_steps` for every meaning, and the same of `exec` and of
`step` as a whole.
-/
set_option Elab.async false
set_option linter.unusedTactic false
set_option linter.unreachableTactic false
set_option linter.unusedVariables false
set_option linter.unnecessarySeqFocus false
set_option linter.unusedSimpArgs false
namespace Sys2Proof.Machine

/-- `o` is a next state that `s` reaches by changing at most the parts `ps`. -/
def Answers (ps : List Part) (s : State) (o : Host.Outcome State Fault Refusal) : Prop :=
  ∃ t, o = .next t ∧ Steps ps s t

theorem Answers.next {ps : List Part} {s t : State} (h : Steps ps s t) : Answers ps s (.next t) := ⟨t, rfl, h⟩

theorem Answers.ite {ps : List Part} {s : State} {a b : Host.Outcome State Fault Refusal} {c : Prop} [Decidable c]
    (ha : Answers ps s a) (hb : Answers ps s b) : Answers ps s (if c then a else b) := by
  split <;> assumption

theorem execJournalStatus_steps {σ : State} (msg : Msg) : Answers [.replies, .work] σ (execJournalStatus msg σ) := by
  unfold execJournalStatus
  (try dsimp only)
  repeat' (first | with_reducible assumption | with_reducible exact Steps.refl _ _ | ((with_reducible refine covers_self ?_); rfl) | with_reducible apply Answers.next | with_reducible apply State.done_steps | with_reducible apply State.serve_steps | with_reducible apply Answers.ite | with_reducible apply Steps.ite | (intro _ _ _) | (intro _ _) | split | (dsimp only [id]))

theorem execJournalRead_steps {σ : State} (msg : Msg) (errors : List (List Nat)) : Answers [.irq, .bells, .replies, .work, .journal] σ (execJournalRead msg errors σ) := by
  unfold execJournalRead
  (try dsimp only)
  repeat' (first | with_reducible assumption | with_reducible exact Steps.refl _ _ | ((with_reducible refine covers_self ?_); rfl) | with_reducible apply Answers.next | with_reducible apply State.reply_steps | with_reducible apply State.serve_steps | with_reducible apply State.refused_steps | with_reducible apply State.done_steps | with_reducible apply State.checkPages_steps | with_reducible apply Answers.ite | with_reducible apply Steps.ite | (intro _ _ _) | (intro _ _) | split | (dsimp only [id]))

theorem execJournalMark_steps {σ : State} (msg : Msg) : Answers [.replies, .work, .journal] σ (execJournalMark msg σ) := by
  unfold execJournalMark
  (try dsimp only)
  repeat' (first | with_reducible assumption | with_reducible exact Steps.refl _ _ | ((with_reducible refine covers_self ?_); rfl) | with_reducible apply Answers.next | with_reducible apply State.setJournal_steps | with_reducible apply State.serve_steps | with_reducible apply State.refused_steps | with_reducible apply State.done_steps | with_reducible apply Answers.ite | with_reducible apply Steps.ite | (intro _ _ _) | (intro _ _) | split | (dsimp only [id]))

theorem execJournalFormat_steps {σ : State} (msg : Msg) : Answers [.replies, .work, .journal] σ (execJournalFormat msg σ) := by
  unfold execJournalFormat
  (try dsimp only)
  repeat' (first | with_reducible assumption | with_reducible exact Steps.refl _ _ | ((with_reducible refine covers_self ?_); rfl) | with_reducible apply Answers.next | with_reducible apply State.setJournal_steps | with_reducible apply State.refused_steps | with_reducible apply State.serve_steps | with_reducible apply State.accept_steps | with_reducible apply Answers.ite | with_reducible apply Steps.ite | (intro _ _ _) | (intro _ _) | split | (dsimp only [id]))

theorem execJournalFormatDone_steps {σ : State} (bad : List Nat) : Answers [.irq, .bells, .replies, .work, .journal] σ (execJournalFormatDone bad σ) := by
  unfold execJournalFormatDone
  (try dsimp only)
  repeat' (first | with_reducible assumption | with_reducible exact Steps.refl _ _ | ((with_reducible refine covers_self ?_); rfl) | with_reducible apply Answers.next | with_reducible apply State.setJournal_steps | with_reducible apply State.complete_steps | with_reducible apply State.mount_steps | with_reducible apply Answers.ite | with_reducible apply Steps.ite | (intro _ _ _) | (intro _ _) | split | (dsimp only [id]))

theorem execJournalKinds_steps {σ : State} (msg : Msg) : Answers [.replies, .work, .settings, .changes, .journal] σ (execJournalKinds msg σ) := by
  unfold execJournalKinds
  (try dsimp only)
  repeat' (first | with_reducible assumption | with_reducible exact Steps.refl _ _ | ((with_reducible refine covers_self ?_); rfl) | with_reducible apply Answers.next | with_reducible apply State.changed_steps | with_reducible apply State.serve_steps | ((with_reducible apply State.setSettings_settings_steps); (rotate_left 1); (focus (intro _; first | rfl | exact ⟨rfl, fun _ => ⟨fun h => by simp [h], fun h => by simp [h]⟩⟩ | exact ⟨⟨rfl, rfl⟩, fun _ h => by simp [h]⟩ | exact ⟨⟨rfl, rfl⟩, List.prefix_append _ _⟩ | exact ⟨rfl, rfl⟩ | exact ⟨rfl, rfl, rfl⟩ | exact ⟨⟨rfl, rfl⟩, rfl, rfl, rfl⟩ | exact ⟨rfl, rfl, rfl, rfl⟩ | ((try dsimp only); (repeat' split) <;> first | rfl | exact ⟨rfl, rfl⟩ | exact ⟨rfl, rfl, rfl⟩ | exact ⟨rfl, rfl, rfl, rfl⟩ | (simp; done)) | (simp; done))); (rotate_left 1)) | (intro _ _ _) | (intro _ _) | (dsimp only [id]))

theorem execSiltTake_steps {σ : State}  : Answers [.mem, .pool, .tx, .sluice, .journal] σ (execSiltTake σ) := by
  unfold execSiltTake
  (try dsimp only)
  repeat' (first | with_reducible assumption | with_reducible exact Steps.refl _ _ | ((with_reducible refine covers_self ?_); rfl) | with_reducible apply Answers.next | with_reducible apply State.setJournal_steps | with_reducible apply State.pageFull_steps | with_reducible apply State.unlink_steps | with_reducible apply Answers.ite | with_reducible apply Steps.ite | (intro _ _ _) | (intro _ _) | split | (dsimp only [id]))

theorem execRecordAccepted_steps {σ : State}  : Answers [.irq, .bells, .journal] σ (execRecordAccepted σ) := by
  unfold execRecordAccepted
  (try dsimp only)
  repeat' (first | with_reducible assumption | with_reducible exact Steps.refl _ _ | ((with_reducible refine covers_self ?_); rfl) | with_reducible apply Answers.next | with_reducible apply State.setJournal_steps | with_reducible apply State.pageFull_steps | with_reducible apply State.lossRecord_steps | with_reducible apply Answers.ite | with_reducible apply Steps.ite | (intro _ _ _) | (intro _ _) | split | (dsimp only [id]))

theorem execPageClose_steps {σ : State}  : Answers [.journal] σ (execPageClose σ) := by
  unfold execPageClose
  (try dsimp only)
  repeat' (first | with_reducible assumption | with_reducible exact Steps.refl _ _ | ((with_reducible refine covers_self ?_); rfl) | with_reducible apply Answers.next | with_reducible apply State.setJournal_steps | with_reducible apply Answers.ite | with_reducible apply Steps.ite | (intro _ _ _) | (intro _ _) | split | (dsimp only [id]))

theorem execPageProgrammed_steps {σ : State} (pass : Bool) (errors : List Nat) : Answers [.irq, .bells, .journal] σ (execPageProgrammed pass errors σ) := by
  unfold execPageProgrammed
  (try dsimp only)
  repeat' (first | with_reducible assumption | with_reducible exact Steps.refl _ _ | ((with_reducible refine covers_self ?_); rfl) | with_reducible apply Answers.next | with_reducible apply State.programEnds_steps | with_reducible apply State.siltRests_steps | with_reducible apply Answers.ite | with_reducible apply Steps.ite | (intro _ _ _) | (intro _ _) | split | (dsimp only [id]))

theorem execEraseDone_steps {σ : State} (ok : Bool) : Answers [.irq, .bells, .journal] σ (execEraseDone ok σ) := by
  unfold execEraseDone
  (try dsimp only)
  repeat' (first | with_reducible assumption | with_reducible exact Steps.refl _ _ | ((with_reducible refine covers_self ?_); rfl) | with_reducible apply Answers.next | with_reducible apply State.eraseEnds_steps | with_reducible apply State.siltRests_steps | with_reducible apply Answers.ite | with_reducible apply Steps.ite | (intro _ _ _) | (intro _ _) | split | (dsimp only [id]))

theorem execNandTimeout_steps {σ : State} (op : NandOp) : Answers [.irq, .bells, .journal] σ (execNandTimeout op σ) := by
  unfold execNandTimeout
  (try dsimp only)
  repeat' (first | with_reducible assumption | with_reducible exact Steps.refl _ _ | ((with_reducible refine covers_self ?_); rfl) | with_reducible apply Answers.next | with_reducible apply State.failOp_steps | with_reducible apply State.oweReset_steps | with_reducible apply State.siltRests_steps | with_reducible apply Answers.ite | with_reducible apply Steps.ite | (intro _ _ _) | (intro _ _) | split | (dsimp only [id]))

theorem execScrubRead_steps {σ : State} (errors : List Nat) : Answers [.irq, .bells, .journal] σ (execScrubRead errors σ) := by
  unfold execScrubRead
  (try dsimp only)
  repeat' (first | with_reducible assumption | with_reducible exact Steps.refl _ _ | ((with_reducible refine covers_self ?_); rfl) | with_reducible apply Answers.next | with_reducible apply State.scrubEnds_steps | with_reducible apply Answers.ite | with_reducible apply Steps.ite | (intro _ _ _) | (intro _ _) | split | (dsimp only [id]))

theorem execJournalMount_steps {σ : State}  : Answers [.irq, .bells, .journal] σ (execJournalMount σ) := by
  unfold execJournalMount
  (try dsimp only)
  repeat' (first | with_reducible assumption | with_reducible exact Steps.refl _ _ | ((with_reducible refine covers_self ?_); rfl) | with_reducible apply Answers.next | with_reducible apply State.mount_steps | with_reducible apply Answers.ite | with_reducible apply Steps.ite | (intro _ _ _) | (intro _ _) | split | (dsimp only [id]))

theorem execStartEdge_steps {σ : State} (port : PortNo) (mark : Nat) : Answers [.mem, .pool, .rows, .draws, .modes, .irq, .bells, .events, .ports, .sluice, .journal, .dozeEvents] σ (execStartEdge port mark σ) := by
  unfold execStartEdge
  (try dsimp only)
  repeat' (first | with_reducible assumption | with_reducible exact Steps.refl _ _ | ((with_reducible refine covers_self ?_); rfl) | with_reducible apply Answers.next | with_reducible apply State.lineEdge_steps | with_reducible apply State.countFirst_steps | ((with_reducible apply State.updPort_ports_steps); (rotate_left 1); (focus (intro _; first | rfl | exact ⟨rfl, fun _ => ⟨fun h => by simp [h], fun h => by simp [h]⟩⟩ | exact ⟨⟨rfl, rfl⟩, fun _ h => by simp [h]⟩ | exact ⟨⟨rfl, rfl⟩, List.prefix_append _ _⟩ | exact ⟨rfl, rfl⟩ | exact ⟨rfl, rfl, rfl⟩ | exact ⟨⟨rfl, rfl⟩, rfl, rfl, rfl⟩ | exact ⟨rfl, rfl, rfl, rfl⟩ | ((try dsimp only); (repeat' split) <;> first | rfl | exact ⟨rfl, rfl⟩ | exact ⟨rfl, rfl, rfl⟩ | exact ⟨rfl, rfl, rfl, rfl⟩ | (simp; done)) | (simp; done))); (rotate_left 1)) | with_reducible apply Answers.ite | with_reducible apply Steps.ite | (intro _ _ _) | (intro _ _) | split | (dsimp only [id]))

theorem execWakeEdge_steps {σ : State} (port : PortNo) (mark : Nat) : Answers [.mem, .pool, .draws, .modes, .irq, .bells, .events, .ports, .sluice, .journal, .dozeEvents] σ (execWakeEdge port mark σ) := by
  unfold execWakeEdge
  (try dsimp only)
  repeat' (first | with_reducible assumption | with_reducible exact Steps.refl _ _ | ((with_reducible refine covers_self ?_); rfl) | with_reducible apply Answers.next | with_reducible apply State.lineEdge_steps | with_reducible apply Answers.ite | with_reducible apply Steps.ite | (intro _ _ _) | (intro _ _) | split | (dsimp only [id]))

theorem execCharacterStored_steps {σ : State} (port : PortNo) (samples : List Samples) (volts : List Nat) : Answers [.mem, .pool, .rows, .draws, .irq, .bells, .events, .ports, .sluice, .journal, .dozeEvents] σ (execCharacterStored port samples volts σ) := by
  unfold execCharacterStored
  (try dsimp only)
  repeat' (first | with_reducible assumption | with_reducible exact Steps.refl _ _ | ((with_reducible refine covers_self ?_); rfl) | with_reducible apply Answers.next | with_reducible apply State.takeCharacter_steps | with_reducible apply State.countFirst_steps | ((with_reducible apply State.updPort_ports_steps); (rotate_left 1); (focus (intro _; first | rfl | exact ⟨rfl, fun _ => ⟨fun h => by simp [h], fun h => by simp [h]⟩⟩ | exact ⟨⟨rfl, rfl⟩, fun _ h => by simp [h]⟩ | exact ⟨⟨rfl, rfl⟩, List.prefix_append _ _⟩ | exact ⟨rfl, rfl⟩ | exact ⟨rfl, rfl, rfl⟩ | exact ⟨⟨rfl, rfl⟩, rfl, rfl, rfl⟩ | exact ⟨rfl, rfl, rfl, rfl⟩ | ((try dsimp only); (repeat' split) <;> first | rfl | exact ⟨rfl, rfl⟩ | exact ⟨rfl, rfl, rfl⟩ | exact ⟨rfl, rfl, rfl, rfl⟩ | (simp; done)) | (simp; done))); (rotate_left 1)) | with_reducible apply Answers.ite | with_reducible apply Steps.ite | (intro _ _ _) | (intro _ _) | split | (dsimp only [id]))

theorem execAutobaudAccept_steps {σ : State} (port : PortNo) (edges : Edges) (volts : List Nat) : Answers [.mem, .pool, .rows, .draws, .irq, .bells, .events, .ports, .sluice, .journal, .dozeEvents] σ (execAutobaudAccept port edges volts σ) := by
  unfold execAutobaudAccept
  (try dsimp only)
  repeat' (first | with_reducible assumption | with_reducible exact Steps.refl _ _ | ((with_reducible refine covers_self ?_); rfl) | with_reducible apply Answers.next | with_reducible apply State.recognise_steps | with_reducible apply State.firstRecognise_steps | with_reducible apply Answers.ite | with_reducible apply Steps.ite | (intro _ _ _) | (intro _ _) | split | (dsimp only [id]))

theorem execBreakSeen_steps {σ : State} (port : PortNo) : Answers [.mem, .rows, .ports] σ (execBreakSeen port σ) := by
  unfold execBreakSeen
  (try dsimp only)
  repeat' (first | with_reducible assumption | with_reducible exact Steps.refl _ _ | ((with_reducible refine covers_self ?_); rfl) | with_reducible apply Answers.next | with_reducible apply State.firstFlag_steps | ((with_reducible apply State.updPort_ports_steps); (rotate_left 1); (focus (intro _; first | rfl | exact ⟨rfl, fun _ => ⟨fun h => by simp [h], fun h => by simp [h]⟩⟩ | exact ⟨⟨rfl, rfl⟩, fun _ h => by simp [h]⟩ | exact ⟨⟨rfl, rfl⟩, List.prefix_append _ _⟩ | exact ⟨rfl, rfl⟩ | exact ⟨rfl, rfl, rfl⟩ | exact ⟨⟨rfl, rfl⟩, rfl, rfl, rfl⟩ | exact ⟨rfl, rfl, rfl, rfl⟩ | ((try dsimp only); (repeat' split) <;> first | rfl | exact ⟨rfl, rfl⟩ | exact ⟨rfl, rfl, rfl⟩ | exact ⟨rfl, rfl, rfl, rfl⟩ | (simp; done)) | (simp; done))); (rotate_left 1)) | with_reducible apply Answers.ite | with_reducible apply Steps.ite | (intro _ _ _) | (intro _ _) | split | (dsimp only [id]))

theorem execStuckSeen_steps {σ : State} (port : PortNo) : Answers [.mem, .rows, .ports] σ (execStuckSeen port σ) := by
  unfold execStuckSeen
  (try dsimp only)
  repeat' (first | with_reducible assumption | with_reducible exact Steps.refl _ _ | ((with_reducible refine covers_self ?_); rfl) | with_reducible apply Answers.next | with_reducible apply State.firstFlag_steps | ((with_reducible apply State.updPort_ports_steps); (rotate_left 1); (focus (intro _; first | rfl | exact ⟨rfl, fun _ => ⟨fun h => by simp [h], fun h => by simp [h]⟩⟩ | exact ⟨⟨rfl, rfl⟩, fun _ h => by simp [h]⟩ | exact ⟨⟨rfl, rfl⟩, List.prefix_append _ _⟩ | exact ⟨rfl, rfl⟩ | exact ⟨rfl, rfl, rfl⟩ | exact ⟨⟨rfl, rfl⟩, rfl, rfl, rfl⟩ | exact ⟨rfl, rfl, rfl, rfl⟩ | ((try dsimp only); (repeat' split) <;> first | rfl | exact ⟨rfl, rfl⟩ | exact ⟨rfl, rfl, rfl⟩ | exact ⟨rfl, rfl, rfl, rfl⟩ | (simp; done)) | (simp; done))); (rotate_left 1)) | with_reducible apply Answers.ite | with_reducible apply Steps.ite | (intro _ _ _) | (intro _ _) | split | (dsimp only [id]))

theorem execPortStuck_steps {σ : State} (port : PortNo) : Answers [.mem, .pool, .draws, .irq, .bells, .events, .ports, .sluice, .journal, .dozeEvents] σ (execPortStuck port σ) := by
  unfold execPortStuck
  (try dsimp only)
  repeat' (first | with_reducible assumption | with_reducible exact Steps.refl _ _ | ((with_reducible refine covers_self ?_); rfl) | with_reducible apply Answers.next | with_reducible apply State.putRts_steps | with_reducible apply State.portEvent_steps | ((with_reducible apply State.updPort_ports_steps); (rotate_left 1); (focus (intro _; first | rfl | exact ⟨rfl, fun _ => ⟨fun h => by simp [h], fun h => by simp [h]⟩⟩ | exact ⟨⟨rfl, rfl⟩, fun _ h => by simp [h]⟩ | exact ⟨⟨rfl, rfl⟩, List.prefix_append _ _⟩ | exact ⟨rfl, rfl⟩ | exact ⟨rfl, rfl, rfl⟩ | exact ⟨⟨rfl, rfl⟩, rfl, rfl, rfl⟩ | exact ⟨rfl, rfl, rfl, rfl⟩ | ((try dsimp only); (repeat' split) <;> first | rfl | exact ⟨rfl, rfl⟩ | exact ⟨rfl, rfl, rfl⟩ | exact ⟨rfl, rfl, rfl, rfl⟩ | (simp; done)) | (simp; done))); (rotate_left 1)) | with_reducible apply Answers.ite | with_reducible apply Steps.ite | (intro _ _ _) | (intro _ _) | split | (dsimp only [id]))

theorem execPortRearmed_steps {σ : State} (port : PortNo) : Answers [.mem, .pool, .draws, .irq, .bells, .events, .ports, .sluice, .journal, .dozeEvents] σ (execPortRearmed port σ) := by
  unfold execPortRearmed
  (try dsimp only)
  repeat' (first | with_reducible assumption | with_reducible exact Steps.refl _ _ | ((with_reducible refine covers_self ?_); rfl) | with_reducible apply Answers.next | with_reducible apply State.putRts_steps | with_reducible apply State.portEvent_steps | ((with_reducible apply State.updPort_ports_steps); (rotate_left 1); (focus (intro _; first | rfl | exact ⟨rfl, fun _ => ⟨fun h => by simp [h], fun h => by simp [h]⟩⟩ | exact ⟨⟨rfl, rfl⟩, fun _ h => by simp [h]⟩ | exact ⟨⟨rfl, rfl⟩, List.prefix_append _ _⟩ | exact ⟨rfl, rfl⟩ | exact ⟨rfl, rfl, rfl⟩ | exact ⟨⟨rfl, rfl⟩, rfl, rfl, rfl⟩ | exact ⟨rfl, rfl, rfl, rfl⟩ | ((try dsimp only); (repeat' split) <;> first | rfl | exact ⟨rfl, rfl⟩ | exact ⟨rfl, rfl, rfl⟩ | exact ⟨rfl, rfl, rfl, rfl⟩ | (simp; done)) | (simp; done))); (rotate_left 1)) | with_reducible apply Answers.ite | with_reducible apply Steps.ite | (intro _ _ _) | (intro _ _) | split | (dsimp only [id]))

theorem execSilenceLapse_steps {σ : State} (port : PortNo) : Answers [.mem, .pool, .draws, .irq, .bells, .events, .ports, .sluice, .journal, .dozeEvents] σ (execSilenceLapse port σ) := by
  unfold execSilenceLapse
  (try dsimp only)
  repeat' (first | with_reducible assumption | with_reducible exact Steps.refl _ _ | ((with_reducible refine covers_self ?_); rfl) | with_reducible apply Answers.next | with_reducible apply State.portEvent_steps | with_reducible apply State.silence_steps | ((with_reducible apply State.updPort_ports_steps); (rotate_left 1); (focus (intro _; first | rfl | exact ⟨rfl, fun _ => ⟨fun h => by simp [h], fun h => by simp [h]⟩⟩ | exact ⟨⟨rfl, rfl⟩, fun _ h => by simp [h]⟩ | exact ⟨⟨rfl, rfl⟩, List.prefix_append _ _⟩ | exact ⟨rfl, rfl⟩ | exact ⟨rfl, rfl, rfl⟩ | exact ⟨⟨rfl, rfl⟩, rfl, rfl, rfl⟩ | exact ⟨rfl, rfl, rfl, rfl⟩ | ((try dsimp only); (repeat' split) <;> first | rfl | exact ⟨rfl, rfl⟩ | exact ⟨rfl, rfl, rfl⟩ | exact ⟨rfl, rfl, rfl, rfl⟩ | (simp; done)) | (simp; done))); (rotate_left 1)) | with_reducible apply Answers.ite | with_reducible apply Steps.ite | (intro _ _ _) | (intro _ _) | split | (dsimp only [id]))

theorem execDriverHot_steps {σ : State} (port : PortNo) : Answers [.mem, .pool, .draws, .irq, .bells, .events, .ports, .tx, .sluice, .journal, .dozeEvents] σ (execDriverHot port σ) := by
  unfold execDriverHot
  (try dsimp only)
  repeat' (first | with_reducible assumption | with_reducible exact Steps.refl _ _ | ((with_reducible refine covers_self ?_); rfl) | with_reducible apply Answers.next | with_reducible apply State.cutSending_steps | with_reducible apply State.adoptTx_steps | with_reducible apply State.txBoundary_steps | with_reducible apply State.portEvent_steps | with_reducible apply State.updPort_steps | with_reducible apply Answers.ite | with_reducible apply Steps.ite | (intro _ _ _) | (intro _ _) | split | (dsimp only [id]))

theorem execDriverOk_steps {σ : State} (port : PortNo) : Answers [.mem, .pool, .draws, .irq, .bells, .events, .ports, .tx, .sluice, .journal, .dozeEvents] σ (execDriverOk port σ) := by
  unfold execDriverOk
  (try dsimp only)
  repeat' (first | with_reducible assumption | with_reducible exact Steps.refl _ _ | ((with_reducible refine covers_self ?_); rfl) | with_reducible apply Answers.next | with_reducible apply State.portEvent_steps | with_reducible apply State.updPort_steps | with_reducible apply Answers.ite | with_reducible apply Steps.ite | (intro _ _ _) | (intro _ _) | split | (dsimp only [id]))

theorem execExtest_steps {σ : State} (shift : Option ScanOut) (balls : ScanIn) : Answers [.jtag] σ (execExtest shift balls σ) := by
  unfold execExtest
  (try dsimp only)
  repeat' (first | with_reducible assumption | with_reducible exact Steps.refl _ _ | ((with_reducible refine covers_self ?_); rfl) | with_reducible apply Answers.next | with_reducible apply State.loadIr_steps | with_reducible apply State.scan_steps | with_reducible apply Answers.ite | with_reducible apply Steps.ite | (intro _ _ _) | (intro _ _) | split | (dsimp only [id]))

theorem execHighz_steps {σ : State}  : Answers [.jtag] σ (execHighz σ) := by
  unfold execHighz
  (try dsimp only)
  repeat' (first | with_reducible assumption | with_reducible exact Steps.refl _ _ | ((with_reducible refine covers_self ?_); rfl) | with_reducible apply Answers.next | with_reducible apply State.loadIr_steps | (intro _ _ _) | (intro _ _) | (dsimp only [id]))

theorem execIdcode_steps {σ : State}  : Answers [.jtag] σ (execIdcode σ) := by
  unfold execIdcode
  (try dsimp only)
  repeat' (first | with_reducible assumption | with_reducible exact Steps.refl _ _ | ((with_reducible refine covers_self ?_); rfl) | with_reducible apply Answers.next | with_reducible apply State.loadIr_steps | (intro _ _ _) | (intro _ _) | (dsimp only [id]))

theorem execSamplePreload_steps {σ : State} (shift : ScanOut) (balls : ScanIn) : Answers [.jtag] σ (execSamplePreload shift balls σ) := by
  unfold execSamplePreload
  (try dsimp only)
  repeat' (first | with_reducible assumption | with_reducible exact Steps.refl _ _ | ((with_reducible refine covers_self ?_); rfl) | with_reducible apply Answers.next | with_reducible apply State.loadIr_steps | with_reducible apply State.scan_steps | with_reducible apply Answers.ite | with_reducible apply Steps.ite | (intro _ _ _) | (intro _ _) | split | (dsimp only [id]))

theorem execBypass_steps {σ : State} (code : BitVec 4) : Answers [.jtag] σ (execBypass code σ) := by
  unfold execBypass
  (try dsimp only)
  repeat' (first | with_reducible assumption | with_reducible exact Steps.refl _ _ | ((with_reducible refine covers_self ?_); rfl) | with_reducible apply Answers.next | with_reducible apply State.loadIr_steps | with_reducible apply Answers.ite | with_reducible apply Steps.ite | (intro _ _ _) | (intro _ _) | split | (dsimp only [id]))

theorem execTestLogicReset_steps {σ : State}  : Answers [.jtag] σ (execTestLogicReset σ) := by
  unfold execTestLogicReset
  (try dsimp only)
  repeat' (first | with_reducible assumption | with_reducible exact Steps.refl _ _ | ((with_reducible refine covers_self ?_); rfl) | with_reducible apply Answers.next | with_reducible apply State.loadIr_steps | (intro _ _ _) | (intro _ _) | (dsimp only [id]))

theorem execAssemblerTake_steps {σ : State} (port : PortNo) : Answers [.mem, .pool, .draws, .irq, .bells, .replies, .changes, .ports, .tx, .sluice, .lamps, .buses, .heads, .pair, .journal, .tag, .inject] σ (execAssemblerTake port σ) := by
  unfold execAssemblerTake
  (try dsimp only)
  repeat' (first | with_reducible assumption | with_reducible exact Steps.refl _ _ | ((with_reducible refine covers_self ?_); rfl) | with_reducible apply Answers.next | with_reducible apply State.assembleOne_steps | with_reducible apply Answers.ite | with_reducible apply Steps.ite | (intro _ _ _) | (intro _ _) | split | (dsimp only [id]))

theorem execHostInject_steps {σ : State} (msg : Msg) : Answers [.mem, .pool, .draws, .replies, .work, .tx, .sieve, .govs, .sluice, .pair, .inject] σ (execHostInject msg σ) := by
  unfold execHostInject
  (try dsimp only)
  repeat' (first | with_reducible assumption | with_reducible exact Steps.refl _ _ | ((with_reducible refine covers_self ?_); rfl) | with_reducible apply Answers.next | with_reducible apply State.serve_steps | with_reducible apply State.newItem_steps ‹_› | with_reducible apply State.refused_steps | with_reducible apply State.decideItem_steps | with_reducible apply State.done_steps | with_reducible apply Answers.ite | with_reducible apply Steps.ite | (intro _ _ _) | (intro _ _) | split | (dsimp only [id]))

theorem execTagHostRead_steps {σ : State}  : Answers [.irq, .tag] σ (execTagHostRead σ) := by
  unfold execTagHostRead
  (try dsimp only)
  repeat' (first | with_reducible assumption | with_reducible exact Steps.refl _ _ | ((with_reducible refine covers_self ?_); rfl) | with_reducible apply Answers.next | with_reducible apply State.tagGo_steps | (intro _ _ _) | (intro _ _) | (dsimp only [id]))

theorem execTagHostWrite_steps {σ : State}  : Answers [.irq, .tag] σ (execTagHostWrite σ) := by
  unfold execTagHostWrite
  (try dsimp only)
  repeat' (first | with_reducible assumption | with_reducible exact Steps.refl _ _ | ((with_reducible refine covers_self ?_); rfl) | with_reducible apply Answers.next | with_reducible apply State.tagGo_steps | (intro _ _ _) | (intro _ _) | (dsimp only [id]))

theorem execTagLock_steps {σ : State}  : Answers [.irq, .tag] σ (execTagLock σ) := by
  unfold execTagLock
  (try dsimp only)
  repeat' (first | with_reducible assumption | with_reducible exact Steps.refl _ _ | ((with_reducible refine covers_self ?_); rfl) | with_reducible apply Answers.next | with_reducible apply State.tagGo_steps | (intro _ _ _) | (intro _ _) | (dsimp only [id]))

theorem execTagUnlock_steps {σ : State}  : Answers [.irq, .tag] σ (execTagUnlock σ) := by
  unfold execTagUnlock
  (try dsimp only)
  repeat' (first | with_reducible assumption | with_reducible exact Steps.refl _ _ | ((with_reducible refine covers_self ?_); rfl) | with_reducible apply Answers.next | with_reducible apply State.tagGo_steps | (intro _ _ _) | (intro _ _) | (dsimp only [id]))

theorem execTagBadOp_steps {σ : State} (op : BitVec 3) : Answers [.irq, .tag] σ (execTagBadOp op σ) := by
  unfold execTagBadOp
  (try dsimp only)
  repeat' (first | with_reducible assumption | with_reducible exact Steps.refl _ _ | ((with_reducible refine covers_self ?_); rfl) | with_reducible apply Answers.next | with_reducible apply State.tagGo_steps | (intro _ _ _) | (intro _ _) | (dsimp only [id]))

theorem execTagHostOpDone_steps {σ : State} (verified : Bool) : Answers [.draws, .irq, .bells, .tag] σ (execTagHostOpDone verified σ) := by
  unfold execTagHostOpDone
  (try dsimp only)
  repeat' (first | with_reducible assumption | with_reducible exact Steps.refl _ _ | ((with_reducible refine covers_self ?_); rfl) | with_reducible apply Answers.next | with_reducible apply State.setTag_steps | with_reducible apply State.tagRead_steps | with_reducible apply State.tagEnd_steps | with_reducible apply State.tagWriteEnd_steps | with_reducible apply Answers.ite | with_reducible apply Steps.ite | (intro _ _ _) | (intro _ _) | split | (dsimp only [id]))

theorem execHresetAssert_steps {σ : State}  : Answers [.mem, .pool, .draws, .irq, .culvert, .bells, .replies, .chanN, .chanK, .changes, .ports, .tx, .sieve, .sluice, .lamps, .buses, .heads, .pair, .journal, .tag, .inject] σ (execHresetAssert σ) := by
  unfold execHresetAssert
  (try dsimp only)
  repeat' (first | with_reducible assumption | with_reducible exact Steps.refl _ _ | ((with_reducible refine covers_self ?_); rfl) | with_reducible apply Answers.next | with_reducible apply State.hostReset_steps | ((with_reducible apply State.setCulvert_culvert_steps); (rotate_left 1); (focus (intro _; first | rfl | exact ⟨rfl, fun _ => ⟨fun h => by simp [h], fun h => by simp [h]⟩⟩ | exact ⟨⟨rfl, rfl⟩, fun _ h => by simp [h]⟩ | exact ⟨⟨rfl, rfl⟩, List.prefix_append _ _⟩ | exact ⟨rfl, rfl⟩ | exact ⟨rfl, rfl, rfl⟩ | exact ⟨⟨rfl, rfl⟩, rfl, rfl, rfl⟩ | exact ⟨rfl, rfl, rfl, rfl⟩ | ((try dsimp only); (repeat' split) <;> first | rfl | exact ⟨rfl, rfl⟩ | exact ⟨rfl, rfl, rfl⟩ | exact ⟨rfl, rfl, rfl, rfl⟩ | (simp; done)) | (simp; done))); (rotate_left 1)) | with_reducible apply Answers.ite | with_reducible apply Steps.ite | (intro _ _ _) | (intro _ _) | split | (dsimp only [id]))

theorem execHresetRelease_steps {σ : State}  : Answers [.culvert] σ (execHresetRelease σ) := by
  unfold execHresetRelease
  (try dsimp only)
  repeat' (first | with_reducible assumption | with_reducible exact Steps.refl _ _ | ((with_reducible refine covers_self ?_); rfl) | with_reducible apply Answers.next | ((with_reducible apply State.setCulvert_culvert_steps); (rotate_left 1); (focus (intro _; first | rfl | exact ⟨rfl, fun _ => ⟨fun h => by simp [h], fun h => by simp [h]⟩⟩ | exact ⟨⟨rfl, rfl⟩, fun _ h => by simp [h]⟩ | exact ⟨⟨rfl, rfl⟩, List.prefix_append _ _⟩ | exact ⟨rfl, rfl⟩ | exact ⟨rfl, rfl, rfl⟩ | exact ⟨⟨rfl, rfl⟩, rfl, rfl, rfl⟩ | exact ⟨rfl, rfl, rfl, rfl⟩ | ((try dsimp only); (repeat' split) <;> first | rfl | exact ⟨rfl, rfl⟩ | exact ⟨rfl, rfl, rfl⟩ | exact ⟨rfl, rfl, rfl, rfl⟩ | (simp; done)) | (simp; done))); (rotate_left 1)) | (intro _ _ _) | (intro _ _) | (dsimp only [id]))

theorem execCulvertTimeout_steps {σ : State} (kind : AccessKind) : Answers [.irq, .culvert] σ (execCulvertTimeout kind σ) := by
  unfold execCulvertTimeout
  (try dsimp only)
  repeat' (first | with_reducible assumption | with_reducible exact Steps.refl _ _ | ((with_reducible refine covers_self ?_); rfl) | with_reducible apply Answers.next | with_reducible apply State.culvertFail_steps | with_reducible apply State.dropLine_steps | with_reducible apply State.give_steps | with_reducible apply State.onBus_steps | with_reducible apply State.dataRead_steps | with_reducible apply State.dataWrite_steps | ((with_reducible apply State.setCulvert_culvert_steps); (rotate_left 1); (focus (intro _; first | rfl | exact ⟨rfl, fun _ => ⟨fun h => by simp [h], fun h => by simp [h]⟩⟩ | exact ⟨⟨rfl, rfl⟩, fun _ h => by simp [h]⟩ | exact ⟨⟨rfl, rfl⟩, List.prefix_append _ _⟩ | exact ⟨rfl, rfl⟩ | exact ⟨rfl, rfl, rfl⟩ | exact ⟨⟨rfl, rfl⟩, rfl, rfl, rfl⟩ | exact ⟨rfl, rfl, rfl, rfl⟩ | ((try dsimp only); (repeat' split) <;> first | rfl | exact ⟨rfl, rfl⟩ | exact ⟨rfl, rfl, rfl⟩ | exact ⟨rfl, rfl, rfl, rfl⟩ | (simp; done)) | (simp; done))); (rotate_left 1)) | with_reducible apply State.advance_steps | (intro _ _ _) | (intro _ _) | split | (dsimp only [id]))

theorem execClash_steps {σ : State} (kind : ClashKind) : Answers [.irq, .culvert] σ (execClash kind σ) := by
  unfold execClash
  (try dsimp only)
  repeat' (first | with_reducible assumption | with_reducible exact Steps.refl _ _ | ((with_reducible refine covers_self ?_); rfl) | with_reducible apply Answers.next | with_reducible apply State.culvertFail_steps | with_reducible apply State.give_steps | with_reducible apply State.onBus_steps | (intro _ _ _) | (intro _ _) | split | (dsimp only [id]))

theorem execAccessAbandoned_steps {σ : State} (_kind : AccessKind) : Answers [] σ (execAccessAbandoned _kind σ) := by
  unfold execAccessAbandoned
  (try dsimp only)
  repeat' (first | with_reducible assumption | with_reducible exact Steps.refl _ _ | ((with_reducible refine covers_self ?_); rfl) | with_reducible apply Answers.next | (intro _ _ _) | (intro _ _) | (dsimp only [id]))

theorem execRegisterWrite_steps {σ : State} (win : Window) (offset : BitVec 7) (value : Half) : Answers [.mem, .code, .pool, .boxes, .rows, .draws, .power, .modes, .irq, .acks, .culvert, .bells, .hush, .replies, .drops, .chanN, .chanK, .engine, .work, .settings, .events, .changes, .counting, .ports, .tx, .sieve, .govs, .sluice, .lamps, .buses, .heads, .pair, .journal, .tag, .mgmt, .inject, .dozeEvents] σ (execRegisterWrite win offset value σ) := by
  unfold execRegisterWrite
  (try dsimp only)
  repeat' (first | with_reducible assumption | with_reducible exact Steps.refl _ _ | ((with_reducible refine covers_self ?_); rfl) | with_reducible apply Answers.next | with_reducible apply State.onBus_steps | with_reducible apply State.ctlRegWrite_steps | with_reducible apply State.keyRegWrite_steps | (intro _ _ _) | (intro _ _) | split | (dsimp only [id]))

theorem execSplitLowWrite_steps {σ : State} (ch : Chan) (reg : SplitReg) (value : Half) : Answers [.chanN, .chanK] σ (execSplitLowWrite ch reg value σ) := by
  unfold execSplitLowWrite
  (try dsimp only)
  repeat' (first | with_reducible assumption | with_reducible exact Steps.refl _ _ | ((with_reducible refine covers_self ?_); rfl) | with_reducible apply Answers.next | with_reducible apply State.splitLow_steps | with_reducible apply State.onBus_steps | (intro _ _ _) | (intro _ _) | (dsimp only [id]))

theorem execSplitHighWrite_steps {σ : State} (ch : Chan) (reg : SplitReg) (value : Half) : Answers [.bells, .hush, .replies, .drops, .chanN, .chanK] σ (execSplitHighWrite ch reg value σ) := by
  unfold execSplitHighWrite
  (try dsimp only)
  repeat' (first | with_reducible assumption | with_reducible exact Steps.refl _ _ | ((with_reducible refine covers_self ?_); rfl) | with_reducible apply Answers.next | with_reducible apply State.splitHigh_steps | with_reducible apply State.onBus_steps | (intro _ _ _) | (intro _ _) | (dsimp only [id]))

theorem execElapsed0Read_steps {σ : State} (reg : Option (Chan × SplitReg)) : Answers [.culvert, .chanN, .chanK] σ (execElapsed0Read reg σ) := by
  unfold execElapsed0Read
  (try dsimp only)
  repeat' (first | with_reducible assumption | with_reducible exact Steps.refl _ _ | ((with_reducible refine covers_self ?_); rfl) | with_reducible apply Answers.next | with_reducible apply State.onBus_steps | with_reducible apply State.splitRead_steps | with_reducible apply State.give_steps | ((with_reducible apply State.setCulvert_culvert_steps); (rotate_left 1); (focus (intro _; first | rfl | exact ⟨rfl, fun _ => ⟨fun h => by simp [h], fun h => by simp [h]⟩⟩ | exact ⟨⟨rfl, rfl⟩, fun _ h => by simp [h]⟩ | exact ⟨⟨rfl, rfl⟩, List.prefix_append _ _⟩ | exact ⟨rfl, rfl⟩ | exact ⟨rfl, rfl, rfl⟩ | exact ⟨⟨rfl, rfl⟩, rfl, rfl, rfl⟩ | exact ⟨rfl, rfl, rfl, rfl⟩ | ((try dsimp only); (repeat' split) <;> first | rfl | exact ⟨rfl, rfl⟩ | exact ⟨rfl, rfl, rfl⟩ | exact ⟨rfl, rfl, rfl, rfl⟩ | (simp; done)) | (simp; done))); (rotate_left 1)) | with_reducible apply Answers.ite | with_reducible apply Steps.ite | (intro _ _ _) | (intro _ _) | split | (dsimp only [id]))

theorem execIrqstatWrite_steps {σ : State} (value : Half) : Answers [.irq, .acks, .culvert] σ (execIrqstatWrite value σ) := by
  unfold execIrqstatWrite
  (try dsimp only)
  repeat' (first | with_reducible assumption | with_reducible exact Steps.refl _ _ | ((with_reducible refine covers_self ?_); rfl) | with_reducible apply Answers.next | with_reducible apply State.onBus_steps | with_reducible apply State.clearIrq_steps | (intro _ _ _) | (intro _ _) | (dsimp only [id]))

theorem execIrqforceWrite_steps {σ : State} (value : Half) : Answers [.irq] σ (execIrqforceWrite value σ) := by
  unfold execIrqforceWrite
  (try dsimp only)
  repeat' (first | with_reducible assumption | with_reducible exact Steps.refl _ _ | ((with_reducible refine covers_self ?_); rfl) | with_reducible apply Answers.next | with_reducible apply State.onBus_steps | ((with_reducible apply State.setCulvert_irq_steps); (rotate_left 1); (focus (intro _; first | rfl | exact ⟨rfl, fun _ => ⟨fun h => by simp [h], fun h => by simp [h]⟩⟩ | exact ⟨⟨rfl, rfl⟩, fun _ h => by simp [h]⟩ | exact ⟨⟨rfl, rfl⟩, List.prefix_append _ _⟩ | exact ⟨rfl, rfl⟩ | exact ⟨rfl, rfl, rfl⟩ | exact ⟨⟨rfl, rfl⟩, rfl, rfl, rfl⟩ | exact ⟨rfl, rfl, rfl, rfl⟩ | ((try dsimp only); (repeat' split) <;> first | rfl | exact ⟨rfl, rfl⟩ | exact ⟨rfl, rfl, rfl⟩ | exact ⟨rfl, rfl, rfl, rfl⟩ | (simp; done)) | (simp; done))); (rotate_left 1)) | (intro _ _ _) | (intro _ _) | (dsimp only [id]))

theorem execWinpageWrite_steps {σ : State} (value : Half) : Answers [.culvert] σ (execWinpageWrite value σ) := by
  unfold execWinpageWrite
  (try dsimp only)
  repeat' (first | with_reducible assumption | with_reducible exact Steps.refl _ _ | ((with_reducible refine covers_self ?_); rfl) | with_reducible apply Answers.next | with_reducible apply State.onBus_steps | with_reducible apply State.pageWrite_steps | (intro _ _ _) | (intro _ _) | (dsimp only [id]))

theorem execWinaddrWrite_steps {σ : State} (value : Half) : Answers [.culvert] σ (execWinaddrWrite value σ) := by
  unfold execWinaddrWrite
  (try dsimp only)
  repeat' (first | with_reducible assumption | with_reducible exact Steps.refl _ _ | ((with_reducible refine covers_self ?_); rfl) | with_reducible apply Answers.next | with_reducible apply State.onBus_steps | with_reducible apply State.addrWrite_steps | (intro _ _ _) | (intro _ _) | (dsimp only [id]))

theorem execWinctlWrite_steps {σ : State} (value : Half) : Answers [.culvert] σ (execWinctlWrite value σ) := by
  unfold execWinctlWrite
  (try dsimp only)
  repeat' (first | with_reducible assumption | with_reducible exact Steps.refl _ _ | ((with_reducible refine covers_self ?_); rfl) | with_reducible apply Answers.next | with_reducible apply State.onBus_steps | with_reducible apply State.ctlWrite_steps | (intro _ _ _) | (intro _ _) | (dsimp only [id]))

theorem execWindataRead_steps {σ : State}  : Answers [.draws, .irq, .culvert] σ (execWindataRead σ) := by
  unfold execWindataRead
  (try dsimp only)
  repeat' (first | with_reducible assumption | with_reducible exact Steps.refl _ _ | ((with_reducible refine covers_self ?_); rfl) | with_reducible apply Answers.next | with_reducible apply State.onBus_steps | with_reducible apply State.dataRead_steps | (intro _ _ _) | (intro _ _) | (dsimp only [id]))

theorem execWindataWrite_steps {σ : State} (value : Half) : Answers [.mem, .code, .pool, .boxes, .rows, .irq, .culvert, .engine, .govs] σ (execWindataWrite value σ) := by
  unfold execWindataWrite
  (try dsimp only)
  repeat' (first | with_reducible assumption | with_reducible exact Steps.refl _ _ | ((with_reducible refine covers_self ?_); rfl) | with_reducible apply Answers.next | with_reducible apply State.onBus_steps | with_reducible apply State.dataWrite_steps | (intro _ _ _) | (intro _ _) | (dsimp only [id]))

theorem execReadaheadExpire_steps {σ : State}  : Answers [.culvert] σ (execReadaheadExpire σ) := by
  unfold execReadaheadExpire
  (try dsimp only)
  repeat' (first | with_reducible assumption | with_reducible exact Steps.refl _ _ | ((with_reducible refine covers_self ?_); rfl) | with_reducible apply Answers.next | with_reducible apply State.dropLine_steps | (intro _ _ _) | (intro _ _) | (dsimp only [id]))

theorem execLockRequest_steps {σ : State} (value : Half) : Answers [.mem, .pool, .draws, .irq, .culvert, .bells, .replies, .changes, .ports, .tx, .sieve, .sluice, .lamps, .buses, .heads, .pair, .journal, .tag, .inject] σ (execLockRequest value σ) := by
  unfold execLockRequest
  (try dsimp only)
  repeat' (first | with_reducible assumption | with_reducible exact Steps.refl _ _ | ((with_reducible refine covers_self ?_); rfl) | with_reducible apply Answers.next | with_reducible apply State.lockCtl_steps | with_reducible apply State.onBus_steps | (intro _ _ _) | (intro _ _) | (dsimp only [id]))

theorem execLockGrant_steps {σ : State}  : Answers [.culvert] σ (execLockGrant σ) := by
  unfold execLockGrant
  (try dsimp only)
  repeat' (first | with_reducible assumption | with_reducible exact Steps.refl _ _ | ((with_reducible refine covers_self ?_); rfl) | with_reducible apply Answers.next | ((with_reducible apply State.setCulvert_culvert_steps); (rotate_left 1); (focus (intro _; first | rfl | exact ⟨rfl, fun _ => ⟨fun h => by simp [h], fun h => by simp [h]⟩⟩ | exact ⟨⟨rfl, rfl⟩, fun _ h => by simp [h]⟩ | exact ⟨⟨rfl, rfl⟩, List.prefix_append _ _⟩ | exact ⟨rfl, rfl⟩ | exact ⟨rfl, rfl, rfl⟩ | exact ⟨⟨rfl, rfl⟩, rfl, rfl, rfl⟩ | exact ⟨rfl, rfl, rfl, rfl⟩ | ((try dsimp only); (repeat' split) <;> first | rfl | exact ⟨rfl, rfl⟩ | exact ⟨rfl, rfl, rfl⟩ | exact ⟨rfl, rfl, rfl, rfl⟩ | (simp; done)) | (simp; done))); (rotate_left 1)) | with_reducible apply Answers.ite | with_reducible apply Steps.ite | (intro _ _ _) | (intro _ _) | split | (dsimp only [id]))

theorem execLockRelease_steps {σ : State}  : Answers [.mem, .pool, .draws, .irq, .culvert, .bells, .replies, .changes, .ports, .tx, .sieve, .sluice, .lamps, .buses, .heads, .pair, .journal, .tag, .inject] σ (execLockRelease σ) := by
  unfold execLockRelease
  (try dsimp only)
  repeat' (first | with_reducible assumption | with_reducible exact Steps.refl _ _ | ((with_reducible refine covers_self ?_); rfl) | with_reducible apply Answers.next | with_reducible apply State.lockCtl_steps | with_reducible apply State.onBus_steps | (intro _ _ _) | (intro _ _) | (dsimp only [id]))

theorem execLockTimeout_steps {σ : State}  : Answers [.mem, .pool, .draws, .irq, .culvert, .bells, .replies, .changes, .ports, .tx, .sieve, .sluice, .lamps, .buses, .heads, .pair, .journal, .tag, .inject] σ (execLockTimeout σ) := by
  unfold execLockTimeout
  (try dsimp only)
  repeat' (first | with_reducible assumption | with_reducible exact Steps.refl _ _ | ((with_reducible refine covers_self ?_); rfl) | with_reducible apply Answers.next | with_reducible apply State.breakLock_steps | with_reducible apply Answers.ite | with_reducible apply Steps.ite | (intro _ _ _) | (intro _ _) | split | (dsimp only [id]))

theorem execLoadStart_steps {σ : State}  : Answers [.engine] σ (execLoadStart σ) := by
  unfold execLoadStart
  (try dsimp only)
  repeat' (first | with_reducible assumption | with_reducible exact Steps.refl _ _ | ((with_reducible refine covers_self ?_); rfl) | with_reducible apply Answers.next | with_reducible apply State.onBus_steps | with_reducible apply State.loadCtl_steps | (intro _ _ _) | (intro _ _) | (dsimp only [id]))

theorem execLoadCheckEnd_steps {σ : State}  : Answers [.engine] σ (execLoadCheckEnd σ) := by
  unfold execLoadCheckEnd
  (try dsimp only)
  repeat' (first | with_reducible assumption | with_reducible exact Steps.refl _ _ | ((with_reducible refine covers_self ?_); rfl) | with_reducible apply Answers.next | ((with_reducible apply State.setEngine_engine_steps); (rotate_left 1); (focus (intro _; first | rfl | exact ⟨rfl, fun _ => ⟨fun h => by simp [h], fun h => by simp [h]⟩⟩ | exact ⟨⟨rfl, rfl⟩, fun _ h => by simp [h]⟩ | exact ⟨⟨rfl, rfl⟩, List.prefix_append _ _⟩ | exact ⟨rfl, rfl⟩ | exact ⟨rfl, rfl, rfl⟩ | exact ⟨⟨rfl, rfl⟩, rfl, rfl, rfl⟩ | exact ⟨rfl, rfl, rfl, rfl⟩ | ((try dsimp only); (repeat' split) <;> first | rfl | exact ⟨rfl, rfl⟩ | exact ⟨rfl, rfl, rfl⟩ | exact ⟨rfl, rfl, rfl, rfl⟩ | (simp; done)) | (simp; done))); (rotate_left 1)) | with_reducible apply Answers.ite | with_reducible apply Steps.ite | (intro _ _ _) | (intro _ _) | split | (dsimp only [id]))

theorem execInjectEnable_steps {σ : State} (msg : Msg) : Answers [.mem, .pool, .replies, .work, .changes, .tx, .sluice, .pair, .journal, .inject] σ (execInjectEnable msg σ) := by
  unfold execInjectEnable
  (try dsimp only)
  repeat' (first | with_reducible assumption | with_reducible exact Steps.refl _ _ | ((with_reducible refine covers_self ?_); rfl) | with_reducible apply Answers.next | with_reducible apply State.setInject_steps | with_reducible apply State.clearSlots_steps | with_reducible apply State.changed_steps | with_reducible apply State.serve_steps | with_reducible apply Answers.ite | with_reducible apply Steps.ite | (intro _ _ _) | (intro _ _) | split | (dsimp only [id]))

theorem execInjectSet_steps {σ : State} (msg : Msg) : Answers [.mem, .pool, .replies, .work, .changes, .tx, .sluice, .pair, .journal, .inject] σ (execInjectSet msg σ) := by
  unfold execInjectSet
  (try dsimp only)
  repeat' (first | with_reducible assumption | with_reducible exact Steps.refl _ _ | ((with_reducible refine covers_self ?_); rfl) | with_reducible apply Answers.next | with_reducible apply State.setInject_steps | with_reducible apply State.clearSlot_steps | with_reducible apply State.changed_steps | with_reducible apply State.serve_steps | (intro _ _ _) | (intro _ _) | (dsimp only [id]))

theorem execInjectClear_steps {σ : State} (msg : Msg) : Answers [.mem, .pool, .replies, .work, .changes, .tx, .sluice, .pair, .journal, .inject] σ (execInjectClear msg σ) := by
  unfold execInjectClear
  (try dsimp only)
  repeat' (first | with_reducible assumption | with_reducible exact Steps.refl _ _ | ((with_reducible refine covers_self ?_); rfl) | with_reducible apply Answers.next | with_reducible apply State.clearSlot_steps | with_reducible apply State.clearSlots_steps | with_reducible apply State.changed_steps | with_reducible apply State.serve_steps | with_reducible apply Answers.ite | with_reducible apply Steps.ite | (intro _ _ _) | (intro _ _) | split | (dsimp only [id]))

theorem execLoopback_steps {σ : State} (msg : Msg) : Answers [.mem, .pool, .replies, .work, .changes, .ports, .tx, .sluice, .journal] σ (execLoopback msg σ) := by
  unfold execLoopback
  (try dsimp only)
  repeat' (first | with_reducible assumption | with_reducible exact Steps.refl _ _ | ((with_reducible refine covers_self ?_); rfl) | with_reducible apply Answers.next | with_reducible apply State.endLoop_steps | with_reducible apply State.refused_steps | with_reducible apply State.changed_steps | with_reducible apply State.serve_steps | with_reducible apply State.beginLoop_steps | with_reducible apply Answers.ite | with_reducible apply Steps.ite | (intro _ _ _) | (intro _ _) | split | (dsimp only [id]))

theorem execAmpSweep_steps {σ : State} (msg : Msg) : Answers [.replies, .work] σ (execAmpSweep msg σ) := by
  unfold execAmpSweep
  (try dsimp only)
  repeat' (first | with_reducible assumption | with_reducible exact Steps.refl _ _ | ((with_reducible refine covers_self ?_); rfl) | with_reducible apply Answers.next | with_reducible apply State.refused_steps | with_reducible apply State.serve_steps | with_reducible apply State.accept_steps | with_reducible apply Answers.ite | with_reducible apply Steps.ite | (intro _ _ _) | (intro _ _) | split | (dsimp only [id]))

theorem execAmpSweepDone_steps {σ : State} (port : PortNo) (volts : List (List (List Nat))) : Answers [.replies, .work] σ (execAmpSweepDone port volts σ) := by
  unfold execAmpSweepDone
  (try dsimp only)
  repeat' (first | with_reducible assumption | with_reducible exact Steps.refl _ _ | ((with_reducible refine covers_self ?_); rfl) | with_reducible apply Answers.next | with_reducible apply State.complete_steps | with_reducible apply Answers.ite | with_reducible apply Steps.ite | (intro _ _ _) | (intro _ _) | split | (dsimp only [id]))

theorem execCounters_steps {σ : State} (msg : Msg) : Answers [.replies, .work, .tx, .govs, .pair, .journal, .inject] σ (execCounters msg σ) := by
  unfold execCounters
  (try dsimp only)
  repeat' (first | with_reducible assumption | with_reducible exact Steps.refl _ _ | ((with_reducible refine covers_self ?_); rfl) | with_reducible apply Answers.next | with_reducible apply State.done_steps | with_reducible apply State.serve_steps | with_reducible apply State.clearGroup_steps | with_reducible apply Answers.ite | with_reducible apply Steps.ite | (intro _ _ _) | (intro _ _) | split | (dsimp only [id]))

theorem execPortSet_steps {σ : State} (msg : Msg) : Answers [.mem, .pool, .rows, .draws, .irq, .bells, .replies, .work, .changes, .ports, .tx, .sluice, .lamps, .buses, .heads, .pair, .journal, .tag, .inject] σ (execPortSet msg σ) := by
  unfold execPortSet
  (try dsimp only)
  repeat' (first | with_reducible assumption | with_reducible exact Steps.refl _ _ | ((with_reducible refine covers_self ?_); rfl) | with_reducible apply Answers.next | with_reducible apply State.adoptTx_steps | with_reducible apply State.rxBoundary_steps | with_reducible apply State.refused_steps | with_reducible apply State.changed_steps | with_reducible apply State.serve_steps | with_reducible apply State.keepBusRate_steps | ((with_reducible refine State.putBytes_in_steps (r := .rows) ?_ ?_ ?_); (focus (simp only [Part.within, portRowAt, viewRowAt, sieveRowAt, weirRowAt, lampRowAt, headRowAt, busRowAt, firstSecondAt, resetStampAt, cellAt, bytesAt, leBytes_length, List.length_take, List.length_drop, List.length_append, List.length_cons, List.length_nil, State.memBytes_length]; (repeat' split) <;> omega))) | ((with_reducible apply State.updPort_ports_steps); (rotate_left 1); (focus (intro _; first | rfl | exact ⟨rfl, fun _ => ⟨fun h => by simp [h], fun h => by simp [h]⟩⟩ | exact ⟨⟨rfl, rfl⟩, fun _ h => by simp [h]⟩ | exact ⟨⟨rfl, rfl⟩, List.prefix_append _ _⟩ | exact ⟨rfl, rfl⟩ | exact ⟨rfl, rfl, rfl⟩ | exact ⟨⟨rfl, rfl⟩, rfl, rfl, rfl⟩ | exact ⟨rfl, rfl, rfl, rfl⟩ | ((try dsimp only); (repeat' split) <;> first | rfl | exact ⟨rfl, rfl⟩ | exact ⟨rfl, rfl, rfl⟩ | exact ⟨rfl, rfl, rfl, rfl⟩ | (simp; done)) | (simp; done))); (rotate_left 1)) | with_reducible apply Answers.ite | with_reducible apply Steps.ite | (intro _ _ _) | (intro _ _) | split | (dsimp only [id]))

theorem execPortGet_steps {σ : State} (msg : Msg) : Answers [.replies, .work] σ (execPortGet msg σ) := by
  unfold execPortGet
  (try dsimp only)
  repeat' (first | with_reducible assumption | with_reducible exact Steps.refl _ _ | ((with_reducible refine covers_self ?_); rfl) | with_reducible apply Answers.next | with_reducible apply State.done_steps | with_reducible apply State.serve_steps | (intro _ _ _) | (intro _ _) | (dsimp only [id]))

theorem execPortRetire_steps {σ : State} (msg : Msg) : Answers [.mem, .pool, .draws, .irq, .bells, .replies, .work, .changes, .ports, .tx, .sluice, .lamps, .buses, .heads, .pair, .journal, .tag, .inject] σ (execPortRetire msg σ) := by
  unfold execPortRetire
  (try dsimp only)
  repeat' (first | with_reducible assumption | with_reducible exact Steps.refl _ _ | ((with_reducible refine covers_self ?_); rfl) | with_reducible apply Answers.next | with_reducible apply State.txBoundary_steps | with_reducible apply State.rxBoundary_steps | with_reducible apply State.refused_steps | with_reducible apply State.changed_steps | with_reducible apply State.serve_steps | with_reducible apply State.accept_steps | with_reducible apply Answers.ite | with_reducible apply Steps.ite | (intro _ _ _) | (intro _ _) | split | (dsimp only [id]))

theorem execPortRetireDone_steps {σ : State} (port : PortNo) : Answers [.mem, .pool, .draws, .irq, .bells, .replies, .work, .changes, .ports, .tx, .sluice, .lamps, .buses, .heads, .pair, .journal, .tag, .inject] σ (execPortRetireDone port σ) := by
  unfold execPortRetireDone
  (try dsimp only)
  repeat' (first | with_reducible assumption | with_reducible exact Steps.refl _ _ | ((with_reducible refine covers_self ?_); rfl) | with_reducible apply Answers.next | with_reducible apply State.configChange_steps | with_reducible apply State.complete_steps | with_reducible apply State.txBoundary_steps | with_reducible apply State.rxBoundary_steps | with_reducible apply Answers.ite | with_reducible apply Steps.ite | (intro _ _ _) | (intro _ _) | split | (dsimp only [id]))

theorem execPortReturn_steps {σ : State} (msg : Msg) : Answers [.mem, .pool, .replies, .work, .changes, .ports, .sluice, .journal] σ (execPortReturn msg σ) := by
  unfold execPortReturn
  (try dsimp only)
  repeat' (first | with_reducible assumption | with_reducible exact Steps.refl _ _ | ((with_reducible refine covers_self ?_); rfl) | with_reducible apply Answers.next | with_reducible apply State.updView_steps | with_reducible apply State.armRx_steps | with_reducible apply State.refused_steps | with_reducible apply State.changed_steps | with_reducible apply State.serve_steps | ((with_reducible apply State.updPort_ports_steps); (rotate_left 1); (focus (intro _; first | rfl | exact ⟨rfl, fun _ => ⟨fun h => by simp [h], fun h => by simp [h]⟩⟩ | exact ⟨⟨rfl, rfl⟩, fun _ h => by simp [h]⟩ | exact ⟨⟨rfl, rfl⟩, List.prefix_append _ _⟩ | exact ⟨rfl, rfl⟩ | exact ⟨rfl, rfl, rfl⟩ | exact ⟨⟨rfl, rfl⟩, rfl, rfl, rfl⟩ | exact ⟨rfl, rfl, rfl, rfl⟩ | ((try dsimp only); (repeat' split) <;> first | rfl | exact ⟨rfl, rfl⟩ | exact ⟨rfl, rfl, rfl⟩ | exact ⟨rfl, rfl, rfl, rfl⟩ | (simp; done)) | (simp; done))); (rotate_left 1)) | with_reducible apply Answers.ite | with_reducible apply Steps.ite | (intro _ _ _) | (intro _ _) | split | (dsimp only [id]))

theorem execPortStats_steps {σ : State} (msg : Msg) : Answers [.replies, .work, .ports] σ (execPortStats msg σ) := by
  unfold execPortStats
  (try dsimp only)
  repeat' (first | with_reducible assumption | with_reducible exact Steps.refl _ _ | ((with_reducible refine covers_self ?_); rfl) | with_reducible apply Answers.next | with_reducible apply State.done_steps | with_reducible apply State.serve_steps | ((with_reducible apply State.updPort_ports_steps); (rotate_left 1); (focus (intro _; first | rfl | exact ⟨rfl, fun _ => ⟨fun h => by simp [h], fun h => by simp [h]⟩⟩ | exact ⟨⟨rfl, rfl⟩, fun _ h => by simp [h]⟩ | exact ⟨⟨rfl, rfl⟩, List.prefix_append _ _⟩ | exact ⟨rfl, rfl⟩ | exact ⟨rfl, rfl, rfl⟩ | exact ⟨⟨rfl, rfl⟩, rfl, rfl, rfl⟩ | exact ⟨rfl, rfl, rfl, rfl⟩ | ((try dsimp only); (repeat' split) <;> first | rfl | exact ⟨rfl, rfl⟩ | exact ⟨rfl, rfl, rfl⟩ | exact ⟨rfl, rfl, rfl, rfl⟩ | (simp; done)) | (simp; done))); (rotate_left 1)) | with_reducible apply Answers.ite | with_reducible apply Steps.ite | (intro _ _ _) | (intro _ _) | split | (dsimp only [id]))

theorem execHedgeSet_steps {σ : State} (msg : Msg) : Answers [.mem, .pool, .rows, .draws, .irq, .bells, .replies, .work, .changes, .ports, .tx, .sluice, .lamps, .buses, .heads, .pair, .journal, .tag, .inject] σ (execHedgeSet msg σ) := by
  unfold execHedgeSet
  (try dsimp only)
  repeat' (first | with_reducible assumption | with_reducible exact Steps.refl _ _ | ((with_reducible refine covers_self ?_); rfl) | with_reducible apply Answers.next | with_reducible apply State.adoptTx_steps | with_reducible apply State.rxBoundary_steps | with_reducible apply State.refused_steps | with_reducible apply State.changed_steps | with_reducible apply State.serve_steps | with_reducible apply State.busChanged_steps | ((with_reducible refine State.putBytes_in_steps (r := .rows) ?_ ?_ ?_); (focus (simp only [Part.within, portRowAt, viewRowAt, sieveRowAt, weirRowAt, lampRowAt, headRowAt, busRowAt, firstSecondAt, resetStampAt, cellAt, bytesAt, leBytes_length, List.length_take, List.length_drop, List.length_append, List.length_cons, List.length_nil, State.memBytes_length]; (repeat' split) <;> omega))) | ((with_reducible apply State.updPort_ports_steps); (rotate_left 1); (focus (intro _; first | rfl | exact ⟨rfl, fun _ => ⟨fun h => by simp [h], fun h => by simp [h]⟩⟩ | exact ⟨⟨rfl, rfl⟩, fun _ h => by simp [h]⟩ | exact ⟨⟨rfl, rfl⟩, List.prefix_append _ _⟩ | exact ⟨rfl, rfl⟩ | exact ⟨rfl, rfl, rfl⟩ | exact ⟨⟨rfl, rfl⟩, rfl, rfl, rfl⟩ | exact ⟨rfl, rfl, rfl, rfl⟩ | ((try dsimp only); (repeat' split) <;> first | rfl | exact ⟨rfl, rfl⟩ | exact ⟨rfl, rfl, rfl⟩ | exact ⟨rfl, rfl, rfl, rfl⟩ | (simp; done)) | (simp; done))); (rotate_left 1)) | with_reducible apply Answers.ite | with_reducible apply Steps.ite | (intro _ _ _) | (intro _ _) | split | (dsimp only [id]))

theorem execHeadSet_steps {σ : State} (msg : Msg) : Answers [.mem, .rows, .replies, .work, .changes, .buses, .heads, .journal] σ (execHeadSet msg σ) := by
  unfold execHeadSet
  (try dsimp only)
  repeat' (first | with_reducible assumption | with_reducible exact Steps.refl _ _ | ((with_reducible refine covers_self ?_); rfl) | with_reducible apply Answers.next | with_reducible apply State.headConfigured_steps | with_reducible apply State.refused_steps | with_reducible apply State.badAt_steps | with_reducible apply State.changed_steps | with_reducible apply State.serve_steps | ((with_reducible refine State.putBytes_in_steps (r := .rows) ?_ ?_ ?_); (focus (simp only [Part.within, portRowAt, viewRowAt, sieveRowAt, weirRowAt, lampRowAt, headRowAt, busRowAt, firstSecondAt, resetStampAt, cellAt, bytesAt, leBytes_length, List.length_take, List.length_drop, List.length_append, List.length_cons, List.length_nil, State.memBytes_length]; (repeat' split) <;> omega))) | with_reducible apply Answers.ite | with_reducible apply Steps.ite | (intro _ _ _) | (intro _ _) | split | (dsimp only [id]))

theorem execHeadGet_steps {σ : State} (msg : Msg) : Answers [.replies, .work] σ (execHeadGet msg σ) := by
  unfold execHeadGet
  (try dsimp only)
  repeat' (first | with_reducible assumption | with_reducible exact Steps.refl _ _ | ((with_reducible refine covers_self ?_); rfl) | with_reducible apply Answers.next | with_reducible apply State.done_steps | with_reducible apply State.badAt_steps | with_reducible apply State.serve_steps | (intro _ _ _) | (intro _ _) | split | (dsimp only [id]))

theorem execHeadRetire_steps {σ : State} (msg : Msg) : Answers [.mem, .pool, .draws, .irq, .bells, .replies, .work, .changes, .ports, .tx, .sluice, .lamps, .buses, .heads, .pair, .journal, .tag, .inject] σ (execHeadRetire msg σ) := by
  unfold execHeadRetire
  (try dsimp only)
  repeat' (first | with_reducible assumption | with_reducible exact Steps.refl _ _ | ((with_reducible refine covers_self ?_); rfl) | with_reducible apply Answers.next | with_reducible apply State.retireHead_steps | with_reducible apply State.serve_steps | with_reducible apply State.refused_steps | with_reducible apply State.updBus_steps | with_reducible apply State.badAt_steps | with_reducible apply Answers.ite | with_reducible apply Steps.ite | (intro _ _ _) | (intro _ _) | split | (dsimp only [id]))

theorem execHeadReturn_steps {σ : State} (msg : Msg) : Answers [.mem, .pool, .draws, .irq, .bells, .replies, .work, .sluice, .buses, .heads, .journal] σ (execHeadReturn msg σ) := by
  unfold execHeadReturn
  (try dsimp only)
  repeat' (first | with_reducible assumption | with_reducible exact Steps.refl _ _ | ((with_reducible refine covers_self ?_); rfl) | with_reducible apply Answers.next | with_reducible apply State.silence_steps | with_reducible apply State.serve_steps | with_reducible apply State.joinHead_steps | with_reducible apply State.refused_steps | with_reducible apply State.updBus_steps | with_reducible apply State.accept_steps | with_reducible apply State.badAt_steps | with_reducible apply Answers.ite | with_reducible apply Steps.ite | (intro _ _ _) | (intro _ _) | split | (dsimp only [id]))

theorem execHeadReturnDone_steps {σ : State} (bus : BusNo) (head : HeadNo) (silent : Bool) : Answers [.mem, .pool, .draws, .irq, .bells, .replies, .work, .changes, .ports, .tx, .sluice, .lamps, .pair, .journal, .tag, .inject] σ (execHeadReturnDone bus head silent σ) := by
  unfold execHeadReturnDone
  (try dsimp only)
  repeat' (first | with_reducible assumption | with_reducible exact Steps.refl _ _ | ((with_reducible refine covers_self ?_); rfl) | with_reducible apply Answers.next | with_reducible apply State.configChange_steps | with_reducible apply State.graceLamps_steps | with_reducible apply State.complete_steps | with_reducible apply Answers.ite | with_reducible apply Steps.ite | (intro _ _ _) | (intro _ _) | split | (dsimp only [id]))

theorem execPollingRoundStart_steps {σ : State} (bus : BusNo) : Answers [.buses] σ (execPollingRoundStart bus σ) := by
  unfold execPollingRoundStart
  (try dsimp only)
  repeat' (first | with_reducible assumption | with_reducible exact Steps.refl _ _ | ((with_reducible refine covers_self ?_); rfl) | with_reducible apply Answers.next | with_reducible apply State.updBus_steps | with_reducible apply Answers.ite | with_reducible apply Steps.ite | (intro _ _ _) | (intro _ _) | split | (dsimp only [id]))

theorem execReplyAccepted_steps {σ : State} (bus : BusNo) (frame : List Half) : Answers [.mem, .pool, .draws, .irq, .bells, .replies, .changes, .ports, .tx, .sluice, .lamps, .buses, .heads, .pair, .journal, .tag, .inject] σ (execReplyAccepted bus frame σ) := by
  unfold execReplyAccepted
  (try dsimp only)
  repeat' (first | with_reducible assumption | with_reducible exact Steps.refl _ _ | ((with_reducible refine covers_self ?_); rfl) | with_reducible apply Answers.next | with_reducible apply State.takeReply_steps | with_reducible apply State.dropReply_steps | with_reducible apply State.abandonReply_steps | with_reducible apply Answers.ite | with_reducible apply Steps.ite | (intro _ _ _) | (intro _ _) | split | (dsimp only [id]))

theorem execReplyTimeout_steps {σ : State} (bus : BusNo) : Answers [.mem, .pool, .draws, .irq, .bells, .replies, .changes, .ports, .tx, .sluice, .lamps, .buses, .heads, .pair, .journal, .tag, .inject] σ (execReplyTimeout bus σ) := by
  unfold execReplyTimeout
  (try dsimp only)
  repeat' (first | with_reducible assumption | with_reducible exact Steps.refl _ _ | ((with_reducible refine covers_self ?_); rfl) | with_reducible apply Answers.next | with_reducible apply State.failAttempt_steps | with_reducible apply Answers.ite | with_reducible apply Steps.ite | (intro _ _ _) | (intro _ _) | split | (dsimp only [id]))

theorem execFrameGapTimeout_steps {σ : State} (port : PortNo) : Answers [.mem, .pool, .draws, .irq, .bells, .replies, .changes, .ports, .tx, .sluice, .lamps, .buses, .heads, .pair, .journal, .tag, .inject] σ (execFrameGapTimeout port σ) := by
  unfold execFrameGapTimeout
  (try dsimp only)
  repeat' (first | with_reducible assumption | with_reducible exact Steps.refl _ _ | ((with_reducible refine covers_self ?_); rfl) | with_reducible apply Answers.next | with_reducible apply State.failAttempt_steps | with_reducible apply State.dropFrame_steps | with_reducible apply Answers.ite | with_reducible apply Steps.ite | (intro _ _ _) | (intro _ _) | split | (dsimp only [id]))

theorem execFrameAbandoned_steps {σ : State} (port : PortNo) : Answers [.mem, .pool, .draws, .irq, .bells, .replies, .changes, .ports, .tx, .sluice, .lamps, .buses, .heads, .pair, .journal, .tag, .inject] σ (execFrameAbandoned port σ) := by
  unfold execFrameAbandoned
  (try dsimp only)
  repeat' (first | with_reducible assumption | with_reducible exact Steps.refl _ _ | ((with_reducible refine covers_self ?_); rfl) | with_reducible apply Answers.next | with_reducible apply State.abandonFrame_steps | with_reducible apply State.abandonReply_steps | with_reducible apply Answers.ite | with_reducible apply Steps.ite | (intro _ _ _) | (intro _ _) | split | (dsimp only [id]))

theorem execAttentionTaken_steps {σ : State} (bus : BusNo) (tenths : Nat) : Answers [.ports, .buses] σ (execAttentionTaken bus tenths σ) := by
  unfold execAttentionTaken
  (try dsimp only)
  repeat' (first | with_reducible assumption | with_reducible exact Steps.refl _ _ | ((with_reducible refine covers_self ?_); rfl) | with_reducible apply Answers.next | with_reducible apply State.updBus_steps | ((with_reducible apply State.updPort_ports_steps); (rotate_left 1); (focus (intro _; first | rfl | exact ⟨rfl, fun _ => ⟨fun h => by simp [h], fun h => by simp [h]⟩⟩ | exact ⟨⟨rfl, rfl⟩, fun _ h => by simp [h]⟩ | exact ⟨⟨rfl, rfl⟩, List.prefix_append _ _⟩ | exact ⟨rfl, rfl⟩ | exact ⟨rfl, rfl, rfl⟩ | exact ⟨⟨rfl, rfl⟩, rfl, rfl, rfl⟩ | exact ⟨rfl, rfl, rfl, rfl⟩ | ((try dsimp only); (repeat' split) <;> first | rfl | exact ⟨rfl, rfl⟩ | exact ⟨rfl, rfl, rfl⟩ | exact ⟨rfl, rfl, rfl, rfl⟩ | (simp; done)) | (simp; done))); (rotate_left 1)) | with_reducible apply Answers.ite | with_reducible apply Steps.ite | (intro _ _ _) | (intro _ _) | split | (dsimp only [id]))

theorem execRollCallEnd_steps {σ : State} (bus : BusNo) (answers : List HeadNo) : Answers [.irq, .bells, .buses, .heads] σ (execRollCallEnd bus answers σ) := by
  unfold execRollCallEnd
  (try dsimp only)
  repeat' (first | with_reducible assumption | with_reducible exact Steps.refl _ _ | ((with_reducible refine covers_self ?_); rfl) | with_reducible apply Answers.next | with_reducible apply State.countStrangers_steps | with_reducible apply State.joinHead_steps | with_reducible apply State.updBus_steps | with_reducible apply State.updHead_steps | with_reducible apply Steps.foldl | with_reducible apply Answers.ite | with_reducible apply Steps.ite | (intro _ _ _) | (intro _ _) | split | (dsimp only [id]))

theorem execSleepPropose_steps {σ : State} (bus : BusNo) (msLeft : Nat) : Answers [.mem, .pool, .draws, .irq, .bells, .events, .ports, .sluice, .buses, .journal, .dozeEvents] σ (execSleepPropose bus msLeft σ) := by
  unfold execSleepPropose
  (try dsimp only)
  repeat' (first | with_reducible assumption | with_reducible exact Steps.refl _ _ | ((with_reducible refine covers_self ?_); rfl) | with_reducible apply Answers.next | with_reducible apply State.updBus_steps | with_reducible apply State.broadcast_steps | with_reducible apply Answers.ite | with_reducible apply Steps.ite | (intro _ _ _) | (intro _ _) | split | (dsimp only [id]))

theorem execObjectionWindowEnd_steps {σ : State} (bus : BusNo) (objected : Bool) : Answers [.mem, .pool, .draws, .irq, .bells, .events, .ports, .sluice, .buses, .journal, .dozeEvents] σ (execObjectionWindowEnd bus objected σ) := by
  unfold execObjectionWindowEnd
  (try dsimp only)
  repeat' (first | with_reducible assumption | with_reducible exact Steps.refl _ _ | ((with_reducible refine covers_self ?_); rfl) | with_reducible apply Answers.next | with_reducible apply State.broadcast_steps | with_reducible apply State.updBus_steps | ((with_reducible apply State.updPort_ports_steps); (rotate_left 1); (focus (intro _; first | rfl | exact ⟨rfl, fun _ => ⟨fun h => by simp [h], fun h => by simp [h]⟩⟩ | exact ⟨⟨rfl, rfl⟩, fun _ h => by simp [h]⟩ | exact ⟨⟨rfl, rfl⟩, List.prefix_append _ _⟩ | exact ⟨rfl, rfl⟩ | exact ⟨rfl, rfl, rfl⟩ | exact ⟨⟨rfl, rfl⟩, rfl, rfl, rfl⟩ | exact ⟨rfl, rfl, rfl, rfl⟩ | ((try dsimp only); (repeat' split) <;> first | rfl | exact ⟨rfl, rfl⟩ | exact ⟨rfl, rfl, rfl⟩ | exact ⟨rfl, rfl, rfl, rfl⟩ | (simp; done)) | (simp; done))); (rotate_left 1)) | with_reducible apply Answers.ite | with_reducible apply Steps.ite | (intro _ _ _) | (intro _ _) | split | (dsimp only [id]))

theorem execSleepAbort_steps {σ : State} (bus : BusNo) (onCommit : Bool) : Answers [.irq, .bells, .buses] σ (execSleepAbort bus onCommit σ) := by
  unfold execSleepAbort
  (try dsimp only)
  repeat' (first | with_reducible assumption | with_reducible exact Steps.refl _ _ | ((with_reducible refine covers_self ?_); rfl) | with_reducible apply Answers.next | with_reducible apply State.collide_steps | with_reducible apply State.abortSleep_steps | with_reducible apply Answers.ite | with_reducible apply Steps.ite | (intro _ _ _) | (intro _ _) | split | (dsimp only [id]))

theorem execBusWake_steps {σ : State} (bus : BusNo) (byPulse : Bool) : Answers [.buses] σ (execBusWake bus byPulse σ) := by
  unfold execBusWake
  (try dsimp only)
  repeat' (first | with_reducible assumption | with_reducible exact Steps.refl _ _ | ((with_reducible refine covers_self ?_); rfl) | with_reducible apply Answers.next | with_reducible apply State.updBus_steps | with_reducible apply Answers.ite | with_reducible apply Steps.ite | (intro _ _ _) | (intro _ _) | split | (dsimp only [id]))

theorem execBlindProbe_steps {σ : State} (bus : BusNo) (reading : Byte) : Answers [.buses] σ (execBlindProbe bus reading σ) := by
  unfold execBlindProbe
  (try dsimp only)
  repeat' (first | with_reducible assumption | with_reducible exact Steps.refl _ _ | ((with_reducible refine covers_self ?_); rfl) | with_reducible apply Answers.next | with_reducible apply State.updBus_steps | with_reducible apply Answers.ite | with_reducible apply Steps.ite | (intro _ _ _) | (intro _ _) | split | (dsimp only [id]))

theorem execHeadCommandReceived_steps {σ : State} (port : PortNo) (frame : List Half) : Answers [.ports] σ (execHeadCommandReceived port frame σ) := by
  unfold execHeadCommandReceived
  (try dsimp only)
  repeat' (first | with_reducible assumption | with_reducible exact Steps.refl _ _ | ((with_reducible refine covers_self ?_); rfl) | with_reducible apply Answers.next | with_reducible apply State.headHears_steps | with_reducible apply Answers.ite | with_reducible apply Steps.ite | (intro _ _ _) | (intro _ _) | split | (dsimp only [id]))

theorem execHeadBroadcastReceived_steps {σ : State} (port : PortNo) (frame : List Half) : Answers [.ports] σ (execHeadBroadcastReceived port frame σ) := by
  unfold execHeadBroadcastReceived
  (try dsimp only)
  repeat' (first | with_reducible assumption | with_reducible exact Steps.refl _ _ | ((with_reducible refine covers_self ?_); rfl) | with_reducible apply Answers.next | with_reducible apply State.headHears_steps | with_reducible apply Answers.ite | with_reducible apply Steps.ite | (intro _ _ _) | (intro _ _) | split | (dsimp only [id]))

theorem execHeadAttentionPulse_steps {σ : State} (port : PortNo) : Answers [.ports] σ (execHeadAttentionPulse port σ) := by
  unfold execHeadAttentionPulse
  (try dsimp only)
  repeat' (first | with_reducible assumption | with_reducible exact Steps.refl _ _ | ((with_reducible refine covers_self ?_); rfl) | with_reducible apply Answers.next | with_reducible apply State.headPulse_steps | with_reducible apply State.updRole_steps | with_reducible apply Answers.ite | with_reducible apply Steps.ite | (intro _ _ _) | (intro _ _) | split | (dsimp only [id]))

theorem execHeadSleepEnds_steps {σ : State} (port : PortNo) : Answers [.ports] σ (execHeadSleepEnds port σ) := by
  unfold execHeadSleepEnds
  (try dsimp only)
  repeat' (first | with_reducible assumption | with_reducible exact Steps.refl _ _ | ((with_reducible refine covers_self ?_); rfl) | with_reducible apply Answers.next | with_reducible apply State.updRole_steps | with_reducible apply Answers.ite | with_reducible apply Steps.ite | (intro _ _ _) | (intro _ _) | split | (dsimp only [id]))

theorem execHedgeCommandSend_steps {σ : State} (port : PortNo) : Answers [.mem, .pool, .draws, .irq, .bells, .events, .ports, .sluice, .buses, .heads, .journal, .inject, .dozeEvents] σ (execHedgeCommandSend port σ) := by
  unfold execHedgeCommandSend
  (try dsimp only)
  repeat' (first | with_reducible assumption | with_reducible exact Steps.refl _ _ | ((with_reducible refine covers_self ?_); rfl) | with_reducible apply Answers.next | with_reducible apply State.sendNext_steps | with_reducible apply State.headSend_steps | with_reducible apply State.updRole_steps | with_reducible apply Answers.ite | with_reducible apply Steps.ite | (intro _ _ _) | (intro _ _) | split | (dsimp only [id]))

theorem execReadbackMismatch_steps {σ : State} (port : PortNo) : Answers [.mem, .pool, .draws, .irq, .bells, .replies, .changes, .ports, .tx, .sluice, .lamps, .buses, .heads, .pair, .journal, .tag, .inject] σ (execReadbackMismatch port σ) := by
  unfold execReadbackMismatch
  (try dsimp only)
  repeat' (first | with_reducible assumption | with_reducible exact Steps.refl _ _ | ((with_reducible refine covers_self ?_); rfl) | with_reducible apply Answers.next | with_reducible apply State.cutFrame_steps | with_reducible apply State.updRole_steps | with_reducible apply Answers.ite | with_reducible apply Steps.ite | (intro _ _ _) | (intro _ _) | split | (dsimp only [id]))

theorem execSleepBegins_steps {σ : State} (port : PortNo) : Answers [.ports, .buses] σ (execSleepBegins port σ) := by
  unfold execSleepBegins
  (try dsimp only)
  repeat' (first | with_reducible assumption | with_reducible exact Steps.refl _ _ | ((with_reducible refine covers_self ?_); rfl) | with_reducible apply Answers.next | with_reducible apply State.updRole_steps | with_reducible apply State.updBus_steps | with_reducible apply Answers.ite | with_reducible apply Steps.ite | (intro _ _ _) | (intro _ _) | split | (dsimp only [id]))

theorem execBusBlind_steps {σ : State} (port : PortNo) : Answers [.mem, .pool, .draws, .irq, .bells, .replies, .changes, .ports, .tx, .sluice, .lamps, .buses, .heads, .pair, .journal, .tag, .inject] σ (execBusBlind port σ) := by
  unfold execBusBlind
  (try dsimp only)
  repeat' (first | with_reducible assumption | with_reducible exact Steps.refl _ _ | ((with_reducible refine covers_self ?_); rfl) | with_reducible apply Answers.next | with_reducible apply State.dropFrame_steps | with_reducible apply State.blindBus_steps | with_reducible apply State.updRole_steps | with_reducible apply Answers.ite | with_reducible apply Steps.ite | (intro _ _ _) | (intro _ _) | split | (dsimp only [id]))

theorem execBusRecovered_steps {σ : State} (port : PortNo) : Answers [.mem, .pool, .draws, .irq, .bells, .replies, .changes, .ports, .tx, .sluice, .lamps, .buses, .heads, .pair, .journal, .tag, .inject] σ (execBusRecovered port σ) := by
  unfold execBusRecovered
  (try dsimp only)
  repeat' (first | with_reducible assumption | with_reducible exact Steps.refl _ _ | ((with_reducible refine covers_self ?_); rfl) | with_reducible apply Answers.next | with_reducible apply State.recoverBus_steps | with_reducible apply State.updRole_steps | with_reducible apply Answers.ite | with_reducible apply Steps.ite | (intro _ _ _) | (intro _ _) | split | (dsimp only [id]))

theorem execMboxPost_steps {σ : State} (ch : Chan) (value : Half) : Answers [.bells, .hush, .replies, .drops, .chanN, .chanK] σ (execMboxPost ch value σ) := by
  unfold execMboxPost
  (try dsimp only)
  repeat' (first | with_reducible assumption | with_reducible exact Steps.refl _ _ | ((with_reducible refine covers_self ?_); rfl) | with_reducible apply Answers.next | with_reducible apply State.splitHigh_steps | with_reducible apply Answers.ite | with_reducible apply Steps.ite | (intro _ _ _) | (intro _ _) | split | (dsimp only [id]))

theorem execMboxTake_steps {σ : State} (ch : Chan) : Answers [.irq, .replies, .chanN, .chanK, .work] σ (execMboxTake ch σ) := by
  unfold execMboxTake
  (try dsimp only)
  repeat' (first | with_reducible assumption | with_reducible exact Steps.refl _ _ | ((with_reducible refine covers_self ?_); rfl) | with_reducible apply Answers.next | with_reducible apply State.raise_steps | with_reducible apply State.readMessage_steps | ((with_reducible apply State.setEngine_work_steps); (rotate_left 1); (focus (intro _; first | rfl | exact ⟨rfl, fun _ => ⟨fun h => by simp [h], fun h => by simp [h]⟩⟩ | exact ⟨⟨rfl, rfl⟩, fun _ h => by simp [h]⟩ | exact ⟨⟨rfl, rfl⟩, List.prefix_append _ _⟩ | exact ⟨rfl, rfl⟩ | exact ⟨rfl, rfl, rfl⟩ | exact ⟨⟨rfl, rfl⟩, rfl, rfl, rfl⟩ | exact ⟨rfl, rfl, rfl, rfl⟩ | ((try dsimp only); (repeat' split) <;> first | rfl | exact ⟨rfl, rfl⟩ | exact ⟨rfl, rfl, rfl⟩ | exact ⟨rfl, rfl, rfl, rfl⟩ | (simp; done)) | (simp; done))); (rotate_left 1)) | ((with_reducible apply State.setChan_chan_steps); (rotate_left 1); (focus (intro _; first | rfl | exact ⟨rfl, fun _ => ⟨fun h => by simp [h], fun h => by simp [h]⟩⟩ | exact ⟨⟨rfl, rfl⟩, fun _ h => by simp [h]⟩ | exact ⟨⟨rfl, rfl⟩, List.prefix_append _ _⟩ | exact ⟨rfl, rfl⟩ | exact ⟨rfl, rfl, rfl⟩ | exact ⟨⟨rfl, rfl⟩, rfl, rfl, rfl⟩ | exact ⟨rfl, rfl, rfl, rfl⟩ | ((try dsimp only); (repeat' split) <;> first | rfl | exact ⟨rfl, rfl⟩ | exact ⟨rfl, rfl, rfl⟩ | exact ⟨rfl, rfl, rfl, rfl⟩ | (simp; done)) | (simp; done))); (rotate_left 1)) | with_reducible apply Answers.ite | with_reducible apply Steps.ite | (intro _ _ _) | (intro _ _) | split | (dsimp only [id]))

theorem execReplyPost_steps {σ : State} (ch : Chan) : Answers [.mem, .boxes, .draws, .irq, .bells, .hush, .replies, .drops, .chanN, .chanK, .work] σ (execReplyPost ch σ) := by
  unfold execReplyPost
  (try dsimp only)
  repeat' (first | with_reducible assumption | with_reducible exact Steps.refl _ _ | ((with_reducible refine covers_self ?_); rfl) | with_reducible apply Answers.next | with_reducible apply State.draw_steps | with_reducible apply State.bellOn_steps | with_reducible apply State.raise_steps | with_reducible apply State.answerMalformed_steps | with_reducible apply State.setChan_steps | ((with_reducible refine State.putBytes_in_steps (r := .boxes) ?_ ?_ ?_); (focus ((have := firmArea_range ch); simp only [Part.within, portRowAt, viewRowAt, sieveRowAt, weirRowAt, lampRowAt, headRowAt, busRowAt, firstSecondAt, resetStampAt, cellAt, bytesAt, leBytes_length, List.length_take, List.length_drop, List.length_append, List.length_cons, List.length_nil, State.memBytes_length]; (repeat' split) <;> omega))) | with_reducible apply Answers.ite | with_reducible apply Steps.ite | (intro _ _ _) | (intro _ _) | split | (dsimp only [id]))

theorem execMboxRead_steps {σ : State} (ch : Chan) : Answers [.culvert, .chanN, .chanK] σ (execMboxRead ch σ) := by
  unfold execMboxRead
  (try dsimp only)
  repeat' (first | with_reducible assumption | with_reducible exact Steps.refl _ _ | ((with_reducible refine covers_self ?_); rfl) | with_reducible apply Answers.next | with_reducible apply State.give_steps | ((with_reducible apply State.setChan_chan_steps); (rotate_left 1); (focus (intro _; first | rfl | exact ⟨rfl, fun _ => ⟨fun h => by simp [h], fun h => by simp [h]⟩⟩ | exact ⟨⟨rfl, rfl⟩, fun _ h => by simp [h]⟩ | exact ⟨⟨rfl, rfl⟩, List.prefix_append _ _⟩ | exact ⟨rfl, rfl⟩ | exact ⟨rfl, rfl, rfl⟩ | exact ⟨⟨rfl, rfl⟩, rfl, rfl, rfl⟩ | exact ⟨rfl, rfl, rfl, rfl⟩ | ((try dsimp only); (repeat' split) <;> first | rfl | exact ⟨rfl, rfl⟩ | exact ⟨rfl, rfl, rfl⟩ | exact ⟨rfl, rfl, rfl, rfl⟩ | (simp; done)) | (simp; done))); (rotate_left 1)) | with_reducible apply Answers.ite | with_reducible apply Steps.ite | (intro _ _ _) | (intro _ _) | split | (dsimp only [id]))

theorem execInAbortedClear_steps {σ : State} (ch : Chan) : Answers [.irq, .chanN, .chanK] σ (execInAbortedClear ch σ) := by
  unfold execInAbortedClear
  (try dsimp only)
  repeat' (first | with_reducible assumption | with_reducible exact Steps.refl _ _ | ((with_reducible refine covers_self ?_); rfl) | with_reducible apply Answers.next | with_reducible apply State.clearMbox_steps | with_reducible apply Answers.ite | with_reducible apply Steps.ite | (intro _ _ _) | (intro _ _) | split | (dsimp only [id]))

theorem execAttend_steps {σ : State} (ch : Chan) : Answers [.irq, .bells, .chanN, .chanK] σ (execAttend ch σ) := by
  unfold execAttend
  (try dsimp only)
  repeat' (first | with_reducible assumption | with_reducible exact Steps.refl _ _ | ((with_reducible refine covers_self ?_); rfl) | with_reducible apply Answers.next | with_reducible apply State.bellOn_steps | with_reducible apply State.takeBell_steps | with_reducible apply Steps.foldl | with_reducible apply Answers.ite | with_reducible apply Steps.ite | (intro _ _ _) | (intro _ _) | split | (dsimp only [id]))

theorem execFlushDone_steps {σ : State} (ch : Chan) : Answers [.chanN, .chanK, .journal] σ (execFlushDone ch σ) := by
  unfold execFlushDone
  (try dsimp only)
  repeat' (first | with_reducible assumption | with_reducible exact Steps.refl _ _ | ((with_reducible refine covers_self ?_); rfl) | with_reducible apply Answers.next | with_reducible apply State.record_steps | with_reducible apply State.takeBell_steps | (intro _ _ _) | (intro _ _) | (dsimp only [id]))

theorem execTimeMark_steps {σ : State} (ch : Chan) : Answers [.chanN, .chanK, .journal] σ (execTimeMark ch σ) := by
  unfold execTimeMark
  (try dsimp only)
  repeat' (first | with_reducible assumption | with_reducible exact Steps.refl _ _ | ((with_reducible refine covers_self ?_); rfl) | with_reducible apply Answers.next | with_reducible apply State.timeMark_steps | with_reducible apply State.takeBell_steps | (intro _ _ _) | (intro _ _) | (dsimp only [id]))

theorem execDoorbellRelease_steps {σ : State} (ch : Chan) : Answers [.chanN, .chanK] σ (execDoorbellRelease ch σ) := by
  unfold execDoorbellRelease
  (try dsimp only)
  repeat' (first | with_reducible assumption | with_reducible exact Steps.refl _ _ | ((with_reducible refine covers_self ?_); rfl) | with_reducible apply Answers.next | with_reducible apply State.takeBell_steps | ((with_reducible apply State.setChan_chan_steps); (rotate_left 1); (focus (intro _; first | rfl | exact ⟨rfl, fun _ => ⟨fun h => by simp [h], fun h => by simp [h]⟩⟩ | exact ⟨⟨rfl, rfl⟩, fun _ h => by simp [h]⟩ | exact ⟨⟨rfl, rfl⟩, List.prefix_append _ _⟩ | exact ⟨rfl, rfl⟩ | exact ⟨rfl, rfl, rfl⟩ | exact ⟨⟨rfl, rfl⟩, rfl, rfl, rfl⟩ | exact ⟨rfl, rfl, rfl, rfl⟩ | ((try dsimp only); (repeat' split) <;> first | rfl | exact ⟨rfl, rfl⟩ | exact ⟨rfl, rfl, rfl⟩ | exact ⟨rfl, rfl, rfl, rfl⟩ | (simp; done)) | (simp; done))); (rotate_left 1)) | with_reducible apply Answers.ite | with_reducible apply Steps.ite | (intro _ _ _) | (intro _ _) | split | (dsimp only [id]))

theorem execHostAlive_steps {σ : State} (ch : Chan) : Answers [.chanN, .chanK] σ (execHostAlive ch σ) := by
  unfold execHostAlive
  (try dsimp only)
  repeat' (first | with_reducible assumption | with_reducible exact Steps.refl _ _ | ((with_reducible refine covers_self ?_); rfl) | with_reducible apply Answers.next | with_reducible apply State.takeBell_steps | (intro _ _ _) | (intro _ _) | (dsimp only [id]))

theorem execJournalSync_steps {σ : State} (ch : Chan) : Answers [.chanN, .chanK, .journal] σ (execJournalSync ch σ) := by
  unfold execJournalSync
  (try dsimp only)
  repeat' (first | with_reducible assumption | with_reducible exact Steps.refl _ _ | ((with_reducible refine covers_self ?_); rfl) | with_reducible apply Answers.next | with_reducible apply State.setJournal_steps | with_reducible apply State.takeBell_steps | with_reducible apply Answers.ite | with_reducible apply Steps.ite | (intro _ _ _) | (intro _ _) | split | (dsimp only [id]))

theorem execAuditRecheck_steps {σ : State} (ch : Chan) (stands : BitVec 3) : Answers [.power, .irq, .bells, .chanN, .chanK, .ports] σ (execAuditRecheck ch stands σ) := by
  unfold execAuditRecheck
  (try dsimp only)
  repeat' (first | with_reducible assumption | with_reducible exact Steps.refl _ _ | ((with_reducible refine covers_self ?_); rfl) | with_reducible apply Answers.next | with_reducible apply State.headNotice_steps | with_reducible apply State.bellBoth_steps | with_reducible apply State.takeBell_steps | with_reducible apply State.setPower_steps | with_reducible apply Answers.ite | with_reducible apply Steps.ite | (intro _ _ _) | (intro _ _) | split | (dsimp only [id]))

theorem execHostWatchLapse_steps {σ : State}  : Answers [.mem, .pool, .draws, .irq, .bells, .events, .sluice, .journal, .dozeEvents] σ (execHostWatchLapse σ) := by
  unfold execHostWatchLapse
  (try dsimp only)
  repeat' (first | with_reducible assumption | with_reducible exact Steps.refl _ _ | ((with_reducible refine covers_self ?_); rfl) | with_reducible apply Answers.next | with_reducible apply State.deviceEvent_steps | with_reducible apply Answers.ite | with_reducible apply Steps.ite | (intro _ _ _) | (intro _ _) | split | (dsimp only [id]))

theorem execSieveLoad_steps {σ : State} (msg : Msg) : Answers [.mem, .pool, .rows, .replies, .work, .tx, .sieve, .govs, .sluice, .pair, .inject] σ (execSieveLoad msg σ) := by
  unfold execSieveLoad
  (try dsimp only)
  repeat' (first | with_reducible assumption | with_reducible exact Steps.refl _ _ | ((with_reducible refine covers_self ?_); rfl) | with_reducible apply Answers.next | with_reducible apply State.serve_steps | with_reducible apply State.sieveRun_steps | (intro _ _ _) | (intro _ _) | (dsimp only [id]))

theorem execSieveCommit_steps {σ : State} (msg : Msg) : Answers [.mem, .pool, .rows, .replies, .work, .tx, .sieve, .govs, .sluice, .pair, .inject] σ (execSieveCommit msg σ) := by
  unfold execSieveCommit
  (try dsimp only)
  repeat' (first | with_reducible assumption | with_reducible exact Steps.refl _ _ | ((with_reducible refine covers_self ?_); rfl) | with_reducible apply Answers.next | with_reducible apply State.serve_steps | with_reducible apply State.sieveRun_steps | (intro _ _ _) | (intro _ _) | (dsimp only [id]))

theorem execSieveCopyDone_steps {σ : State}  : Answers [.mem, .pool, .rows, .replies, .work, .changes, .tx, .sieve, .govs, .sluice, .pair, .journal, .inject] σ (execSieveCopyDone σ) := by
  unfold execSieveCopyDone
  (try dsimp only)
  repeat' (first | with_reducible assumption | with_reducible exact Steps.refl _ _ | ((with_reducible refine covers_self ?_); rfl) | with_reducible apply Answers.next | with_reducible apply State.reply_steps | with_reducible apply State.configChange_steps | with_reducible apply State.setSieve_steps | with_reducible apply State.answerMalformed_steps | with_reducible apply State.sieveRun_steps | ((with_reducible refine State.putBytes_in_steps (r := .rows) ?_ ?_ ?_); (focus (simp only [Part.within, portRowAt, viewRowAt, sieveRowAt, weirRowAt, lampRowAt, headRowAt, busRowAt, firstSecondAt, resetStampAt, cellAt, bytesAt, leBytes_length, List.length_take, List.length_drop, List.length_append, List.length_cons, List.length_nil, State.memBytes_length]; (repeat' split) <;> omega))) | with_reducible apply Steps.foldl | with_reducible apply Answers.ite | with_reducible apply Steps.ite | (intro _ _ _) | (intro _ _) | split | (dsimp only [id]))

theorem execSieveGet_steps {σ : State} (msg : Msg) : Answers [.replies, .work] σ (execSieveGet msg σ) := by
  unfold execSieveGet
  (try dsimp only)
  repeat' (first | with_reducible assumption | with_reducible exact Steps.refl _ _ | ((with_reducible refine covers_self ?_); rfl) | with_reducible apply Answers.next | with_reducible apply State.done_steps | with_reducible apply State.serve_steps | with_reducible apply Answers.ite | with_reducible apply Steps.ite | (intro _ _ _) | (intro _ _) | split | (dsimp only [id]))

theorem execSieveHits_steps {σ : State} (msg : Msg) : Answers [.replies, .work, .sieve] σ (execSieveHits msg σ) := by
  unfold execSieveHits
  (try dsimp only)
  repeat' (first | with_reducible assumption | with_reducible exact Steps.refl _ _ | ((with_reducible refine covers_self ?_); rfl) | with_reducible apply Answers.next | with_reducible apply State.setSieve_steps | with_reducible apply State.done_steps | with_reducible apply State.serve_steps | with_reducible apply Answers.ite | with_reducible apply Steps.ite | (intro _ _ _) | (intro _ _) | split | (dsimp only [id]))

theorem execWeirSet_steps {σ : State} (msg : Msg) : Answers [.mem, .pool, .rows, .replies, .work, .changes, .tx, .govs, .sluice, .pair, .journal, .inject] σ (execWeirSet msg σ) := by
  unfold execWeirSet
  (try dsimp only)
  repeat' (first | with_reducible assumption | with_reducible exact Steps.refl _ _ | ((with_reducible refine covers_self ?_); rfl) | with_reducible apply Answers.next | with_reducible apply State.refused_steps | with_reducible apply State.changed_steps | with_reducible apply State.serve_steps | with_reducible apply State.weirWrite_steps | with_reducible apply Steps.foldl | with_reducible apply Answers.ite | with_reducible apply Steps.ite | (intro _ _ _) | (intro _ _) | split | (dsimp only [id]))

theorem execWeirGet_steps {σ : State} (msg : Msg) : Answers [.replies, .work] σ (execWeirGet msg σ) := by
  unfold execWeirGet
  (try dsimp only)
  repeat' (first | with_reducible assumption | with_reducible exact Steps.refl _ _ | ((with_reducible refine covers_self ?_); rfl) | with_reducible apply Answers.next | with_reducible apply State.done_steps | with_reducible apply State.serve_steps | (intro _ _ _) | (intro _ _) | (dsimp only [id]))

theorem execLampSet_steps {σ : State} (msg : Msg) : Answers [.mem, .pool, .rows, .draws, .irq, .bells, .replies, .work, .changes, .ports, .tx, .sluice, .lamps, .pair, .journal, .tag, .inject] σ (execLampSet msg σ) := by
  unfold execLampSet
  (try dsimp only)
  repeat' (first | with_reducible assumption | with_reducible exact Steps.refl _ _ | ((with_reducible refine covers_self ?_); rfl) | with_reducible apply Answers.next | with_reducible apply State.takeLampRow_steps | with_reducible apply State.refused_steps | with_reducible apply State.changed_steps | with_reducible apply State.serve_steps | ((with_reducible refine State.putBytes_in_steps (r := .rows) ?_ ?_ ?_); (focus (simp only [Part.within, portRowAt, viewRowAt, sieveRowAt, weirRowAt, lampRowAt, headRowAt, busRowAt, firstSecondAt, resetStampAt, cellAt, bytesAt, leBytes_length, List.length_take, List.length_drop, List.length_append, List.length_cons, List.length_nil, State.memBytes_length]; (repeat' split) <;> omega))) | with_reducible apply Steps.foldl | with_reducible apply Answers.ite | with_reducible apply Steps.ite | (intro _ _ _) | (intro _ _) | split | (dsimp only [id]))

theorem execLampGet_steps {σ : State} (msg : Msg) : Answers [.replies, .work] σ (execLampGet msg σ) := by
  unfold execLampGet
  (try dsimp only)
  repeat' (first | with_reducible assumption | with_reducible exact Steps.refl _ _ | ((with_reducible refine covers_self ?_); rfl) | with_reducible apply Answers.next | with_reducible apply State.done_steps | with_reducible apply State.serve_steps | (intro _ _ _) | (intro _ _) | (dsimp only [id]))

theorem execAlarmAck_steps {σ : State} (msg : Msg) : Answers [.mem, .pool, .draws, .irq, .bells, .replies, .work, .ports, .tx, .sluice, .lamps, .pair, .journal, .tag, .inject] σ (execAlarmAck msg σ) := by
  unfold execAlarmAck
  (try dsimp only)
  repeat' (first | with_reducible assumption | with_reducible exact Steps.refl _ _ | ((with_reducible refine covers_self ?_); rfl) | with_reducible apply Answers.next | with_reducible apply State.done_steps | with_reducible apply State.serve_steps | with_reducible apply State.ackAll_steps | (intro _ _ _) | (intro _ _) | (dsimp only [id]))

theorem execEngineViewTake_steps {σ : State}  : Answers [.mem, .pool, .draws, .irq, .bells, .ports, .tx, .sluice, .lamps, .pair, .journal, .tag, .inject] σ (execEngineViewTake σ) := by
  unfold execEngineViewTake
  (try dsimp only)
  repeat' (first | with_reducible assumption | with_reducible exact Steps.refl _ _ | ((with_reducible refine covers_self ?_); rfl) | with_reducible apply Answers.next | with_reducible apply State.unlink_steps | with_reducible apply State.ackAll_steps | with_reducible apply Answers.ite | with_reducible apply Steps.ite | (intro _ _ _) | (intro _ _) | split | (dsimp only [id]))

theorem execAlarmSet_steps {σ : State} (msg : Msg) : Answers [.replies, .work, .settings, .changes, .journal] σ (execAlarmSet msg σ) := by
  unfold execAlarmSet
  (try dsimp only)
  repeat' (first | with_reducible assumption | with_reducible exact Steps.refl _ _ | ((with_reducible refine covers_self ?_); rfl) | with_reducible apply Answers.next | with_reducible apply State.changed_steps | with_reducible apply State.serve_steps | ((with_reducible apply State.setSettings_settings_steps); (rotate_left 1); (focus (intro _; first | rfl | exact ⟨rfl, fun _ => ⟨fun h => by simp [h], fun h => by simp [h]⟩⟩ | exact ⟨⟨rfl, rfl⟩, fun _ h => by simp [h]⟩ | exact ⟨⟨rfl, rfl⟩, List.prefix_append _ _⟩ | exact ⟨rfl, rfl⟩ | exact ⟨rfl, rfl, rfl⟩ | exact ⟨⟨rfl, rfl⟩, rfl, rfl, rfl⟩ | exact ⟨rfl, rfl, rfl, rfl⟩ | ((try dsimp only); (repeat' split) <;> first | rfl | exact ⟨rfl, rfl⟩ | exact ⟨rfl, rfl, rfl⟩ | exact ⟨rfl, rfl, rfl, rfl⟩ | (simp; done)) | (simp; done))); (rotate_left 1)) | (intro _ _ _) | (intro _ _) | (dsimp only [id]))

theorem execLampLapse_steps {σ : State} (lamp : LampNo) : Answers [.mem, .pool, .draws, .irq, .bells, .ports, .tx, .sluice, .lamps, .pair, .journal, .tag, .inject] σ (execLampLapse lamp σ) := by
  unfold execLampLapse
  (try dsimp only)
  repeat' (first | with_reducible assumption | with_reducible exact Steps.refl _ _ | ((with_reducible refine covers_self ?_); rfl) | with_reducible apply Answers.next | with_reducible apply State.changeLamp_steps | with_reducible apply Answers.ite | with_reducible apply Steps.ite | (intro _ _ _) | (intro _ _) | split | (dsimp only [id]))

theorem execAlarmRepeat_steps {σ : State} (lamp : LampNo) : Answers [.mem, .pool, .draws, .tx, .sluice, .pair, .inject] σ (execAlarmRepeat lamp σ) := by
  unfold execAlarmRepeat
  (try dsimp only)
  repeat' (first | with_reducible assumption | with_reducible exact Steps.refl _ _ | ((with_reducible refine covers_self ?_); rfl) | with_reducible apply Answers.next | with_reducible apply State.repeatAlr_steps | with_reducible apply Answers.ite | with_reducible apply Steps.ite | (intro _ _ _) | (intro _ _) | split | (dsimp only [id]))

theorem execLampTest_steps {σ : State} (msg : Msg) : Answers [.replies, .work, .lamps] σ (execLampTest msg σ) := by
  unfold execLampTest
  (try dsimp only)
  repeat' (first | with_reducible assumption | with_reducible exact Steps.refl _ _ | ((with_reducible refine covers_self ?_); rfl) | with_reducible apply Answers.next | with_reducible apply State.updLamp_steps | with_reducible apply State.done_steps | with_reducible apply State.serve_steps | (intro _ _ _) | (intro _ _) | (dsimp only [id]))

theorem execDoorbellLampTest_steps {σ : State} (ch : Chan) : Answers [.mem, .pool, .draws, .irq, .bells, .chanN, .chanK, .ports, .tx, .sluice, .lamps, .buses, .pair, .journal, .tag, .inject] σ (execDoorbellLampTest ch σ) := by
  unfold execDoorbellLampTest
  (try dsimp only)
  repeat' (first | with_reducible assumption | with_reducible exact Steps.refl _ _ | ((with_reducible refine covers_self ?_); rfl) | with_reducible apply Answers.next | with_reducible apply State.eachLamp_steps | with_reducible apply State.takeBell_steps | with_reducible apply State.startTest_steps | with_reducible apply Answers.ite | with_reducible apply Steps.ite | (intro _ _ _) | (intro _ _) | split | (dsimp only [id]))

theorem execLampTestEnd_steps {σ : State} (lamp : LampNo) : Answers [.lamps, .buses] σ (execLampTestEnd lamp σ) := by
  unfold execLampTestEnd
  (try dsimp only)
  repeat' (first | with_reducible assumption | with_reducible exact Steps.refl _ _ | ((with_reducible refine covers_self ?_); rfl) | with_reducible apply Answers.next | with_reducible apply State.updLamp_steps | with_reducible apply State.commandLamp_steps | with_reducible apply Answers.ite | with_reducible apply Steps.ite | (intro _ _ _) | (intro _ _) | split | (dsimp only [id]))

theorem execMgmtSet_steps {σ : State} (msg : Msg) : Answers [.irq, .bells, .replies, .work, .settings, .changes, .journal, .mgmt] σ (execMgmtSet msg σ) := by
  unfold execMgmtSet
  (try dsimp only)
  repeat' (first | with_reducible assumption | with_reducible exact Steps.refl _ _ | ((with_reducible refine covers_self ?_); rfl) | with_reducible apply Answers.next | with_reducible apply State.setMgmt_steps | with_reducible apply State.scanSet_steps | with_reducible apply State.changed_steps | with_reducible apply State.serve_steps | ((with_reducible apply State.setSettings_settings_steps); (rotate_left 1); (focus (intro _; first | rfl | exact ⟨rfl, fun _ => ⟨fun h => by simp [h], fun h => by simp [h]⟩⟩ | exact ⟨⟨rfl, rfl⟩, fun _ h => by simp [h]⟩ | exact ⟨⟨rfl, rfl⟩, List.prefix_append _ _⟩ | exact ⟨rfl, rfl⟩ | exact ⟨rfl, rfl, rfl⟩ | exact ⟨⟨rfl, rfl⟩, rfl, rfl, rfl⟩ | exact ⟨rfl, rfl, rfl, rfl⟩ | ((try dsimp only); (repeat' split) <;> first | rfl | exact ⟨rfl, rfl⟩ | exact ⟨rfl, rfl, rfl⟩ | exact ⟨rfl, rfl, rfl, rfl⟩ | (simp; done)) | (simp; done))); (rotate_left 1)) | with_reducible apply Answers.ite | with_reducible apply Steps.ite | (intro _ _ _) | (intro _ _) | split | (dsimp only [id]))

theorem execMgmtRead_steps {σ : State} (msg : Msg) : Answers [.replies, .work] σ (execMgmtRead msg σ) := by
  unfold execMgmtRead
  (try dsimp only)
  repeat' (first | with_reducible assumption | with_reducible exact Steps.refl _ _ | ((with_reducible refine covers_self ?_); rfl) | with_reducible apply Answers.next | with_reducible apply State.done_steps | with_reducible apply State.serve_steps | (intro _ _ _) | (intro _ _) | (dsimp only [id]))

theorem execMgmtEntryDue_steps {σ : State} (entry : Fin 16) : Answers [.mgmt] σ (execMgmtEntryDue entry σ) := by
  unfold execMgmtEntryDue
  (try dsimp only)
  repeat' (first | with_reducible assumption | with_reducible exact Steps.refl _ _ | ((with_reducible refine covers_self ?_); rfl) | with_reducible apply Answers.next | with_reducible apply State.setMgmt_steps | with_reducible apply State.mgmtStart_steps | with_reducible apply Answers.ite | with_reducible apply Steps.ite | (intro _ _ _) | (intro _ _) | split | (dsimp only [id]))

theorem execMgmtTransactionEnd_steps {σ : State} (result : MgmtResult) : Answers [.irq, .bells, .mgmt] σ (execMgmtTransactionEnd result σ) := by
  unfold execMgmtTransactionEnd
  (try dsimp only)
  repeat' (first | with_reducible assumption | with_reducible exact Steps.refl _ _ | ((with_reducible refine covers_self ?_); rfl) | with_reducible apply Answers.next | with_reducible apply State.setMgmt_steps | with_reducible apply State.mgmtEnd_steps | with_reducible apply Answers.ite | with_reducible apply Steps.ite | (intro _ _ _) | (intro _ _) | split | (dsimp only [id]))

theorem execStretchFault_steps {σ : State}  : Answers [.irq, .bells, .mgmt] σ (execStretchFault σ) := by
  unfold execStretchFault
  (try dsimp only)
  repeat' (first | with_reducible assumption | with_reducible exact Steps.refl _ _ | ((with_reducible refine covers_self ?_); rfl) | with_reducible apply Answers.next | with_reducible apply State.mgmtEnd_steps | with_reducible apply Answers.ite | with_reducible apply Steps.ite | (intro _ _ _) | (intro _ _) | split | (dsimp only [id]))

theorem execBusRecovery_steps {σ : State} (result : MgmtRecovery) : Answers [.irq, .bells, .mgmt] σ (execBusRecovery result σ) := by
  unfold execBusRecovery
  (try dsimp only)
  repeat' (first | with_reducible assumption | with_reducible exact Steps.refl _ _ | ((with_reducible refine covers_self ?_); rfl) | with_reducible apply Answers.next | with_reducible apply State.mgmtStuck_steps | with_reducible apply Answers.ite | with_reducible apply Steps.ite | (intro _ _ _) | (intro _ _) | split | (dsimp only [id]))

theorem execMbStuckRecheck_steps {σ : State} (result : MgmtRecheck) : Answers [.irq, .bells, .mgmt] σ (execMbStuckRecheck result σ) := by
  unfold execMbStuckRecheck
  (try dsimp only)
  repeat' (first | with_reducible assumption | with_reducible exact Steps.refl _ _ | ((with_reducible refine covers_self ?_); rfl) | with_reducible apply Answers.next | with_reducible apply State.setMgmt_steps | with_reducible apply State.ring_steps | with_reducible apply State.dueScan_steps | with_reducible apply Answers.ite | with_reducible apply Steps.ite | (intro _ _ _) | (intro _ _) | split | (dsimp only [id]))

theorem execRequestHold_steps {σ : State} (win : Window) : Answers [.mem, .pool, .draws, .modes, .irq, .bells, .hush, .replies, .drops, .chanN, .chanK, .engine, .work, .settings, .changes, .counting, .ports, .tx, .sieve, .govs, .sluice, .lamps, .buses, .heads, .pair, .journal, .tag, .mgmt, .inject, .dozeEvents] σ (execRequestHold win σ) := by
  unfold execRequestHold
  (try dsimp only)
  repeat' (first | with_reducible assumption | with_reducible exact Steps.refl _ _ | ((with_reducible refine covers_self ?_); rfl) | with_reducible apply Answers.next | with_reducible apply State.modeReq_steps | (intro _ _ _) | (intro _ _) | (dsimp only [id]))

theorem execRequestLoad_steps {σ : State} (win : Window) : Answers [.mem, .pool, .draws, .modes, .irq, .bells, .hush, .replies, .drops, .chanN, .chanK, .engine, .work, .settings, .changes, .counting, .ports, .tx, .sieve, .govs, .sluice, .lamps, .buses, .heads, .pair, .journal, .tag, .mgmt, .inject, .dozeEvents] σ (execRequestLoad win σ) := by
  unfold execRequestLoad
  (try dsimp only)
  repeat' (first | with_reducible assumption | with_reducible exact Steps.refl _ _ | ((with_reducible refine covers_self ?_); rfl) | with_reducible apply Answers.next | with_reducible apply State.modeReq_steps | (intro _ _ _) | (intro _ _) | (dsimp only [id]))

theorem execRequestProve_steps {σ : State} (win : Window) : Answers [.mem, .pool, .draws, .modes, .irq, .bells, .hush, .replies, .drops, .chanN, .chanK, .engine, .work, .settings, .changes, .counting, .ports, .tx, .sieve, .govs, .sluice, .lamps, .buses, .heads, .pair, .journal, .tag, .mgmt, .inject, .dozeEvents] σ (execRequestProve win σ) := by
  unfold execRequestProve
  (try dsimp only)
  repeat' (first | with_reducible assumption | with_reducible exact Steps.refl _ _ | ((with_reducible refine covers_self ?_); rfl) | with_reducible apply Answers.next | with_reducible apply State.modeReq_steps | (intro _ _ _) | (intro _ _) | (dsimp only [id]))

theorem execRequestRun_steps {σ : State} (win : Window) : Answers [.mem, .pool, .draws, .modes, .irq, .bells, .hush, .replies, .drops, .chanN, .chanK, .engine, .work, .settings, .changes, .counting, .ports, .tx, .sieve, .govs, .sluice, .lamps, .buses, .heads, .pair, .journal, .tag, .mgmt, .inject, .dozeEvents] σ (execRequestRun win σ) := by
  unfold execRequestRun
  (try dsimp only)
  repeat' (first | with_reducible assumption | with_reducible exact Steps.refl _ _ | ((with_reducible refine covers_self ?_); rfl) | with_reducible apply Answers.next | with_reducible apply State.modeReq_steps | (intro _ _ _) | (intro _ _) | (dsimp only [id]))

theorem execRequestTrim_steps {σ : State} (win : Window) : Answers [.mem, .pool, .draws, .modes, .irq, .bells, .hush, .replies, .drops, .chanN, .chanK, .engine, .work, .settings, .changes, .counting, .ports, .tx, .sieve, .govs, .sluice, .lamps, .buses, .heads, .pair, .journal, .tag, .mgmt, .inject, .dozeEvents] σ (execRequestTrim win σ) := by
  unfold execRequestTrim
  (try dsimp only)
  repeat' (first | with_reducible assumption | with_reducible exact Steps.refl _ _ | ((with_reducible refine covers_self ?_); rfl) | with_reducible apply Answers.next | with_reducible apply State.modeReq_steps | (intro _ _ _) | (intro _ _) | (dsimp only [id]))

theorem execRequestVigil_steps {σ : State} (win : Window) : Answers [.mem, .pool, .draws, .modes, .irq, .bells, .hush, .replies, .drops, .chanN, .chanK, .engine, .work, .settings, .changes, .counting, .ports, .tx, .sieve, .govs, .sluice, .lamps, .buses, .heads, .pair, .journal, .tag, .mgmt, .inject, .dozeEvents] σ (execRequestVigil win σ) := by
  unfold execRequestVigil
  (try dsimp only)
  repeat' (first | with_reducible assumption | with_reducible exact Steps.refl _ _ | ((with_reducible refine covers_self ?_); rfl) | with_reducible apply Answers.next | with_reducible apply State.modeReq_steps | (intro _ _ _) | (intro _ _) | (dsimp only [id]))

theorem execRequestDoze_steps {σ : State} (win : Window) : Answers [.mem, .pool, .draws, .modes, .irq, .bells, .hush, .replies, .drops, .chanN, .chanK, .engine, .work, .settings, .changes, .counting, .ports, .tx, .sieve, .govs, .sluice, .lamps, .buses, .heads, .pair, .journal, .tag, .mgmt, .inject, .dozeEvents] σ (execRequestDoze win σ) := by
  unfold execRequestDoze
  (try dsimp only)
  repeat' (first | with_reducible assumption | with_reducible exact Steps.refl _ _ | ((with_reducible refine covers_self ?_); rfl) | with_reducible apply Answers.next | with_reducible apply State.modeReq_steps | (intro _ _ _) | (intro _ _) | (dsimp only [id]))

theorem execRequestProbe_steps {σ : State} (win : Window) : Answers [.mem, .pool, .draws, .modes, .irq, .bells, .hush, .replies, .drops, .chanN, .chanK, .engine, .work, .settings, .changes, .counting, .ports, .tx, .sieve, .govs, .sluice, .lamps, .buses, .heads, .pair, .journal, .tag, .mgmt, .inject, .dozeEvents] σ (execRequestProbe win σ) := by
  unfold execRequestProbe
  (try dsimp only)
  repeat' (first | with_reducible assumption | with_reducible exact Steps.refl _ _ | ((with_reducible refine covers_self ?_); rfl) | with_reducible apply Answers.next | with_reducible apply State.modeReq_steps | (intro _ _ _) | (intro _ _) | (dsimp only [id]))

theorem execModereqUnknown_steps {σ : State} (win : Window) (code : BitVec 4) : Answers [.mem, .pool, .draws, .modes, .irq, .bells, .hush, .replies, .drops, .chanN, .chanK, .engine, .work, .settings, .changes, .counting, .ports, .tx, .sieve, .govs, .sluice, .lamps, .buses, .heads, .pair, .journal, .tag, .mgmt, .inject, .dozeEvents] σ (execModereqUnknown win code σ) := by
  unfold execModereqUnknown
  (try dsimp only)
  repeat' (first | with_reducible assumption | with_reducible exact Steps.refl _ _ | ((with_reducible refine covers_self ?_); rfl) | with_reducible apply Answers.next | with_reducible apply State.modeReq_steps | (intro _ _ _) | (intro _ _) | (dsimp only [id]))

theorem execDozeDrainTimeout_steps {σ : State}  : Answers [.mem, .pool, .tx, .sluice] σ (execDozeDrainTimeout σ) := by
  unfold execDozeDrainTimeout
  (try dsimp only)
  repeat' (first | with_reducible assumption | with_reducible exact Steps.refl _ _ | ((with_reducible refine covers_self ?_); rfl) | with_reducible apply Answers.next | with_reducible apply State.cutAll_steps | with_reducible apply Answers.ite | with_reducible apply Steps.ite | (intro _ _ _) | (intro _ _) | split | (dsimp only [id]))

theorem execSelfTestEnd_steps {σ : State} (result : ProveResult) : Answers [.mem, .pool, .rows, .draws, .modes, .irq, .bells, .replies, .chanN, .chanK, .engine, .work, .settings, .events, .changes, .ports, .tx, .sieve, .govs, .sluice, .lamps, .buses, .heads, .pair, .journal, .tag, .mgmt, .inject, .dozeEvents] σ (execSelfTestEnd result σ) := by
  unfold execSelfTestEnd
  (try dsimp only)
  repeat' (first | with_reducible assumption | with_reducible exact Steps.refl _ _ | ((with_reducible refine covers_self ?_); rfl) | with_reducible apply Answers.next | with_reducible apply State.defaultRows_steps | with_reducible apply State.setJournal_steps | with_reducible apply State.checkRecord_steps | with_reducible apply State.arrive_steps | with_reducible apply State.defaultSettings_steps | with_reducible apply State.defaultMaintained_steps | ((with_reducible apply State.setEngine_engine_steps); (rotate_left 1); (focus (intro _; first | rfl | exact ⟨rfl, fun _ => ⟨fun h => by simp [h], fun h => by simp [h]⟩⟩ | exact ⟨⟨rfl, rfl⟩, fun _ h => by simp [h]⟩ | exact ⟨⟨rfl, rfl⟩, List.prefix_append _ _⟩ | exact ⟨rfl, rfl⟩ | exact ⟨rfl, rfl, rfl⟩ | exact ⟨⟨rfl, rfl⟩, rfl, rfl, rfl⟩ | exact ⟨rfl, rfl, rfl, rfl⟩ | ((try dsimp only); (repeat' split) <;> first | rfl | exact ⟨rfl, rfl⟩ | exact ⟨rfl, rfl, rfl⟩ | exact ⟨rfl, rfl, rfl, rfl⟩ | (simp; done)) | (simp; done))); (rotate_left 1)) | ((with_reducible apply State.setChan_k_steps); (rotate_left 1); (focus (intro _; first | rfl | exact ⟨rfl, fun _ => ⟨fun h => by simp [h], fun h => by simp [h]⟩⟩ | exact ⟨⟨rfl, rfl⟩, fun _ h => by simp [h]⟩ | exact ⟨⟨rfl, rfl⟩, List.prefix_append _ _⟩ | exact ⟨rfl, rfl⟩ | exact ⟨rfl, rfl, rfl⟩ | exact ⟨⟨rfl, rfl⟩, rfl, rfl, rfl⟩ | exact ⟨rfl, rfl, rfl, rfl⟩ | ((try dsimp only); (repeat' split) <;> first | rfl | exact ⟨rfl, rfl⟩ | exact ⟨rfl, rfl, rfl⟩ | exact ⟨rfl, rfl, rfl, rfl⟩ | (simp; done)) | (simp; done))); (rotate_left 1)) | ((with_reducible apply State.setChan_chan_steps); (rotate_left 1); (focus (intro _; first | rfl | exact ⟨rfl, fun _ => ⟨fun h => by simp [h], fun h => by simp [h]⟩⟩ | exact ⟨⟨rfl, rfl⟩, fun _ h => by simp [h]⟩ | exact ⟨⟨rfl, rfl⟩, List.prefix_append _ _⟩ | exact ⟨rfl, rfl⟩ | exact ⟨rfl, rfl, rfl⟩ | exact ⟨⟨rfl, rfl⟩, rfl, rfl, rfl⟩ | exact ⟨rfl, rfl, rfl, rfl⟩ | ((try dsimp only); (repeat' split) <;> first | rfl | exact ⟨rfl, rfl⟩ | exact ⟨rfl, rfl, rfl⟩ | exact ⟨rfl, rfl, rfl, rfl⟩ | (simp; done)) | (simp; done))); (rotate_left 1)) | ((with_reducible apply State.setChan_n_steps); (rotate_left 1); (focus (intro _; first | rfl | exact ⟨rfl, fun _ => ⟨fun h => by simp [h], fun h => by simp [h]⟩⟩ | exact ⟨⟨rfl, rfl⟩, fun _ h => by simp [h]⟩ | exact ⟨⟨rfl, rfl⟩, List.prefix_append _ _⟩ | exact ⟨rfl, rfl⟩ | exact ⟨rfl, rfl, rfl⟩ | exact ⟨⟨rfl, rfl⟩, rfl, rfl, rfl⟩ | exact ⟨rfl, rfl, rfl, rfl⟩ | ((try dsimp only); (repeat' split) <;> first | rfl | exact ⟨rfl, rfl⟩ | exact ⟨rfl, rfl, rfl⟩ | exact ⟨rfl, rfl, rfl, rfl⟩ | (simp; done)) | (simp; done))); (rotate_left 1)) | ((with_reducible apply State.setEngine_engine_steps); (rotate_left 1); (focus (intro e; unfold Engine.tested; (repeat' split) <;> exact ⟨rfl, rfl, rfl, rfl⟩)); (rotate_left 1)) | with_reducible apply Answers.ite | with_reducible apply Steps.ite | (intro _ _ _) | (intro _ _) | split | (dsimp only [id]))

theorem execModeTransitionComplete_steps {σ : State} (dutyIn : Bool) : Answers [.mem, .pool, .draws, .modes, .irq, .bells, .replies, .work, .changes, .ports, .tx, .sluice, .lamps, .buses, .heads, .pair, .journal, .tag, .mgmt, .inject, .dozeEvents] σ (execModeTransitionComplete dutyIn σ) := by
  unfold execModeTransitionComplete
  (try dsimp only)
  repeat' (first | with_reducible assumption | with_reducible exact Steps.refl _ _ | ((with_reducible refine covers_self ?_); rfl) | with_reducible apply Answers.next | with_reducible apply State.noted_steps | with_reducible apply State.arrive_steps | with_reducible apply State.seeDuty_steps | with_reducible apply Answers.ite | with_reducible apply Steps.ite | (intro _ _ _) | (intro _ _) | split | (dsimp only [id]))

theorem execWatchdogExpire_steps {σ : State}  : Answers [.mem, .pool, .draws, .modes, .irq, .culvert, .bells, .hush, .replies, .drops, .chanN, .chanK, .engine, .work, .changes, .ports, .tx, .sieve, .sluice, .lamps, .buses, .heads, .pair, .journal, .tag, .mgmt, .inject] σ (execWatchdogExpire σ) := by
  unfold execWatchdogExpire
  (try dsimp only)
  repeat' (first | with_reducible assumption | with_reducible exact Steps.refl _ _ | ((with_reducible refine covers_self ?_); rfl) | with_reducible apply Answers.next | with_reducible apply State.beginRestart_steps | with_reducible apply Answers.ite | with_reducible apply Steps.ite | (intro _ _ _) | (intro _ _) | split | (dsimp only [id]))

theorem execEngineFault_steps {σ : State}  : Answers [.mem, .pool, .draws, .modes, .irq, .culvert, .bells, .hush, .replies, .drops, .chanN, .chanK, .engine, .work, .changes, .ports, .tx, .sieve, .sluice, .lamps, .buses, .heads, .pair, .journal, .tag, .mgmt, .inject] σ (execEngineFault σ) := by
  unfold execEngineFault
  (try dsimp only)
  repeat' (first | with_reducible assumption | with_reducible exact Steps.refl _ _ | ((with_reducible refine covers_self ?_); rfl) | with_reducible apply Answers.next | with_reducible apply State.beginRestart_steps | with_reducible apply Answers.ite | with_reducible apply Steps.ite | (intro _ _ _) | (intro _ _) | split | (dsimp only [id]))

theorem execEngineRestartDone_steps {σ : State}  : Answers [.mem, .pool, .draws, .irq, .bells, .replies, .engine, .events, .changes, .ports, .tx, .sieve, .sluice, .lamps, .buses, .heads, .pair, .journal, .tag, .mgmt, .inject, .dozeEvents] σ (execEngineRestartDone σ) := by
  unfold execEngineRestartDone
  (try dsimp only)
  repeat' (first | with_reducible assumption | with_reducible exact Steps.refl _ _ | ((with_reducible refine covers_self ?_); rfl) | with_reducible apply Answers.next | with_reducible apply State.tellOwed_steps | with_reducible apply State.repeatAll_steps | with_reducible apply State.mgmtStart_steps | with_reducible apply State.lampsCaughtUp_steps | with_reducible apply State.headNotice_steps | with_reducible apply State.rejoin_steps | with_reducible apply State.takeRows_steps | with_reducible apply State.deviceEvent_steps | with_reducible apply State.newDigest_steps | ((with_reducible apply State.setEngine_engine_steps); (rotate_left 1); (focus (intro _; first | rfl | exact ⟨rfl, fun _ => ⟨fun h => by simp [h], fun h => by simp [h]⟩⟩ | exact ⟨⟨rfl, rfl⟩, fun _ h => by simp [h]⟩ | exact ⟨⟨rfl, rfl⟩, List.prefix_append _ _⟩ | exact ⟨rfl, rfl⟩ | exact ⟨rfl, rfl, rfl⟩ | exact ⟨⟨rfl, rfl⟩, rfl, rfl, rfl⟩ | exact ⟨rfl, rfl, rfl, rfl⟩ | ((try dsimp only); (repeat' split) <;> first | rfl | exact ⟨rfl, rfl⟩ | exact ⟨rfl, rfl, rfl⟩ | exact ⟨rfl, rfl, rfl, rfl⟩ | (simp; done)) | (simp; done))); (rotate_left 1)) | with_reducible apply Answers.ite | with_reducible apply Steps.ite | (intro _ _ _) | (intro _ _) | split | (dsimp only [id]))

theorem execBodycrcRecheck_steps {σ : State}  : Answers [.mem, .pool, .draws, .modes, .irq, .culvert, .bells, .hush, .replies, .drops, .chanN, .chanK, .engine, .work, .changes, .ports, .tx, .sieve, .sluice, .lamps, .buses, .heads, .pair, .journal, .tag, .mgmt, .inject] σ (execBodycrcRecheck σ) := by
  unfold execBodycrcRecheck
  (try dsimp only)
  repeat' (first | with_reducible assumption | with_reducible exact Steps.refl _ _ | ((with_reducible refine covers_self ?_); rfl) | with_reducible apply Answers.next | with_reducible apply State.beginRestart_steps | with_reducible apply Answers.ite | with_reducible apply Steps.ite | (intro _ _ _) | (intro _ _) | split | (dsimp only [id]))

theorem execPairSet_steps {σ : State} (msg : Msg) (dutyIn : Bool) : Answers [.mem, .pool, .draws, .irq, .bells, .replies, .work, .settings, .changes, .ports, .tx, .sluice, .lamps, .buses, .heads, .pair, .journal, .tag, .inject] σ (execPairSet msg dutyIn σ) := by
  unfold execPairSet
  (try dsimp only)
  repeat' (first | with_reducible assumption | with_reducible exact Steps.refl _ _ | ((with_reducible refine covers_self ?_); rfl) | with_reducible apply Answers.next | with_reducible apply State.serve_steps | with_reducible apply State.refused_steps | with_reducible apply State.changed_steps | with_reducible apply State.pairEnabled_steps | with_reducible apply State.setPair_steps | ((with_reducible apply State.setSettings_settings_steps); (rotate_left 1); (focus (intro _; first | rfl | exact ⟨rfl, fun _ => ⟨fun h => by simp [h], fun h => by simp [h]⟩⟩ | exact ⟨⟨rfl, rfl⟩, fun _ h => by simp [h]⟩ | exact ⟨⟨rfl, rfl⟩, List.prefix_append _ _⟩ | exact ⟨rfl, rfl⟩ | exact ⟨rfl, rfl, rfl⟩ | exact ⟨⟨rfl, rfl⟩, rfl, rfl, rfl⟩ | exact ⟨rfl, rfl, rfl, rfl⟩ | ((try dsimp only); (repeat' split) <;> first | rfl | exact ⟨rfl, rfl⟩ | exact ⟨rfl, rfl, rfl⟩ | exact ⟨rfl, rfl, rfl, rfl⟩ | (simp; done)) | (simp; done))); (rotate_left 1)) | with_reducible apply Answers.ite | with_reducible apply Steps.ite | (intro _ _ _) | (intro _ _) | split | (dsimp only [id]))

theorem execPairArm_steps {σ : State} (msg : Msg) : Answers [.replies, .work, .changes, .pair, .journal] σ (execPairArm msg σ) := by
  unfold execPairArm
  (try dsimp only)
  repeat' (first | with_reducible assumption | with_reducible exact Steps.refl _ _ | ((with_reducible refine covers_self ?_); rfl) | with_reducible apply Answers.next | with_reducible apply State.setPair_steps | with_reducible apply State.refused_steps | with_reducible apply State.changed_steps | with_reducible apply State.serve_steps | with_reducible apply Answers.ite | with_reducible apply Steps.ite | (intro _ _ _) | (intro _ _) | split | (dsimp only [id]))

theorem execPairDisarm_steps {σ : State} (msg : Msg) : Answers [.replies, .work, .changes, .pair, .journal] σ (execPairDisarm msg σ) := by
  unfold execPairDisarm
  (try dsimp only)
  repeat' (first | with_reducible assumption | with_reducible exact Steps.refl _ _ | ((with_reducible refine covers_self ?_); rfl) | with_reducible apply Answers.next | with_reducible apply State.setPair_steps | with_reducible apply State.changed_steps | with_reducible apply State.serve_steps | (intro _ _ _) | (intro _ _) | (dsimp only [id]))

theorem execPairStatus_steps {σ : State} (msg : Msg) : Answers [.replies, .work] σ (execPairStatus msg σ) := by
  unfold execPairStatus
  (try dsimp only)
  repeat' (first | with_reducible assumption | with_reducible exact Steps.refl _ _ | ((with_reducible refine covers_self ?_); rfl) | with_reducible apply Answers.next | with_reducible apply State.done_steps | with_reducible apply State.serve_steps | (intro _ _ _) | (intro _ _) | split | (dsimp only [id]))

theorem execPairHandover_steps {σ : State} (msg : Msg) : Answers [.mem, .pool, .draws, .irq, .bells, .replies, .work, .changes, .ports, .tx, .sluice, .lamps, .buses, .heads, .pair, .journal, .tag, .inject] σ (execPairHandover msg σ) := by
  unfold execPairHandover
  (try dsimp only)
  repeat' (first | with_reducible assumption | with_reducible exact Steps.refl _ _ | ((with_reducible refine covers_self ?_); rfl) | with_reducible apply Answers.next | with_reducible apply State.setPair_steps | with_reducible apply State.advanceHandover_steps | with_reducible apply State.refused_steps | with_reducible apply State.serve_steps | with_reducible apply State.accept_steps | with_reducible apply Answers.ite | with_reducible apply Steps.ite | (intro _ _ _) | (intro _ _) | split | (dsimp only [id]))

theorem execHandoverDrainTimeout_steps {σ : State}  : Answers [.mem, .pool, .draws, .irq, .bells, .replies, .changes, .ports, .tx, .sluice, .lamps, .buses, .heads, .pair, .journal, .tag, .inject] σ (execHandoverDrainTimeout σ) := by
  unfold execHandoverDrainTimeout
  (try dsimp only)
  repeat' (first | with_reducible assumption | with_reducible exact Steps.refl _ _ | ((with_reducible refine covers_self ?_); rfl) | with_reducible apply Answers.next | with_reducible apply State.cutAll_steps | with_reducible apply State.advanceHandover_steps | with_reducible apply Answers.ite | with_reducible apply Steps.ite | (intro _ _ _) | (intro _ _) | split | (dsimp only [id]))

theorem execPairHandoverDone_steps {σ : State} (dutyIn : Bool) : Answers [.mem, .pool, .draws, .irq, .bells, .replies, .work, .changes, .ports, .tx, .sluice, .lamps, .buses, .heads, .pair, .journal, .tag, .inject] σ (execPairHandoverDone dutyIn σ) := by
  unfold execPairHandoverDone
  (try dsimp only)
  repeat' (first | with_reducible assumption | with_reducible exact Steps.refl _ _ | ((with_reducible refine covers_self ?_); rfl) | with_reducible apply Answers.next | with_reducible apply State.setPair_steps | with_reducible apply State.pairBell_steps | with_reducible apply State.becomeDuty_steps | with_reducible apply State.complete_steps | with_reducible apply Answers.ite | with_reducible apply Steps.ite | (intro _ _ _) | (intro _ _) | split | (dsimp only [id]))

theorem execDutyClaim_steps {σ : State} (dutyIn : Bool) : Answers [.mem, .pool, .draws, .irq, .bells, .replies, .changes, .ports, .tx, .sluice, .lamps, .buses, .heads, .pair, .journal, .tag, .inject] σ (execDutyClaim dutyIn σ) := by
  unfold execDutyClaim
  (try dsimp only)
  repeat' (first | with_reducible assumption | with_reducible exact Steps.refl _ _ | ((with_reducible refine covers_self ?_); rfl) | with_reducible apply Answers.next | with_reducible apply State.pairBell_steps | with_reducible apply State.becomeDuty_steps | with_reducible apply State.noted_steps | with_reducible apply State.seeDuty_steps | with_reducible apply Answers.ite | with_reducible apply Steps.ite | (intro _ _ _) | (intro _ _) | split | (dsimp only [id]))

theorem execDutyYield_steps {σ : State}  : Answers [.mem, .pool, .draws, .irq, .bells, .replies, .changes, .ports, .tx, .sluice, .lamps, .buses, .heads, .pair, .journal, .tag, .inject] σ (execDutyYield σ) := by
  unfold execDutyYield
  (try dsimp only)
  repeat' (first | with_reducible assumption | with_reducible exact Steps.refl _ _ | ((with_reducible refine covers_self ?_); rfl) | with_reducible apply Answers.next | with_reducible apply State.setPair_steps | with_reducible apply State.pairBell_steps | with_reducible apply State.yieldDuty_steps | with_reducible apply Answers.ite | with_reducible apply Steps.ite | (intro _ _ _) | (intro _ _) | split | (dsimp only [id]))

theorem execDutyEngineDown_steps {σ : State}  : Answers [.mem, .pool, .draws, .irq, .bells, .replies, .changes, .ports, .tx, .sluice, .lamps, .buses, .heads, .pair, .journal, .tag, .inject] σ (execDutyEngineDown σ) := by
  unfold execDutyEngineDown
  (try dsimp only)
  repeat' (first | with_reducible assumption | with_reducible exact Steps.refl _ _ | ((with_reducible refine covers_self ?_); rfl) | with_reducible apply Answers.next | with_reducible apply State.pairBell_steps | with_reducible apply State.yieldDuty_steps | with_reducible apply Answers.ite | with_reducible apply Steps.ite | (intro _ _ _) | (intro _ _) | split | (dsimp only [id]))

theorem execPairFormed_steps {σ : State}  : Answers [.irq, .bells, .pair, .journal] σ (execPairFormed σ) := by
  unfold execPairFormed
  (try dsimp only)
  repeat' (first | with_reducible assumption | with_reducible exact Steps.refl _ _ | ((with_reducible refine covers_self ?_); rfl) | with_reducible apply Answers.next | with_reducible apply State.setPair_steps | with_reducible apply State.pairBell_steps | with_reducible apply Answers.ite | with_reducible apply Steps.ite | (intro _ _ _) | (intro _ _) | split | (dsimp only [id]))

theorem execSplitConfig_steps {σ : State}  : Answers [.irq, .bells, .pair, .journal] σ (execSplitConfig σ) := by
  unfold execSplitConfig
  (try dsimp only)
  repeat' (first | with_reducible assumption | with_reducible exact Steps.refl _ _ | ((with_reducible refine covers_self ?_); rfl) | with_reducible apply Answers.next | with_reducible apply State.setPair_steps | with_reducible apply State.noted_steps | with_reducible apply Answers.ite | with_reducible apply Steps.ite | (intro _ _ _) | (intro _ _) | split | (dsimp only [id]))

theorem execTakeOver_steps {σ : State}  : Answers [.mem, .pool, .draws, .irq, .bells, .replies, .changes, .ports, .tx, .sluice, .lamps, .buses, .heads, .pair, .journal, .tag, .inject] σ (execTakeOver σ) := by
  unfold execTakeOver
  (try dsimp only)
  repeat' (first | with_reducible assumption | with_reducible exact Steps.refl _ _ | ((with_reducible refine covers_self ?_); rfl) | with_reducible apply Answers.next | with_reducible apply State.takeOver_steps | with_reducible apply Answers.ite | with_reducible apply Steps.ite | (intro _ _ _) | (intro _ _) | split | (dsimp only [id]))

theorem execAckOnly_steps {σ : State} (hdr : PleachHdr) : Answers [.mem, .pool, .draws, .irq, .bells, .replies, .changes, .ports, .tx, .sluice, .lamps, .buses, .heads, .pair, .journal, .tag, .inject] σ (execAckOnly hdr σ) := by
  unfold execAckOnly
  (try dsimp only)
  repeat' (first | with_reducible assumption | with_reducible exact Steps.refl _ _ | ((with_reducible refine covers_self ?_); rfl) | with_reducible apply Answers.next | with_reducible apply State.heard_steps | with_reducible apply State.countAccepted_steps | with_reducible apply Answers.ite | with_reducible apply Steps.ite | (intro _ _ _) | (intro _ _) | split | (dsimp only [id]))

theorem execPleachFrameDropped_steps {σ : State} (bytes : List Byte) : Answers [.pair] σ (execPleachFrameDropped bytes σ) := by
  unfold execPleachFrameDropped
  (try dsimp only)
  repeat' (first | with_reducible assumption | with_reducible exact Steps.refl _ _ | ((with_reducible refine covers_self ?_); rfl) | with_reducible apply Answers.next | with_reducible apply State.countDropped_steps | with_reducible apply Answers.ite | with_reducible apply Steps.ite | (intro _ _ _) | (intro _ _) | split | (dsimp only [id]))

theorem execRetransmit_steps {σ : State}  : Answers [.pair] σ (execRetransmit σ) := by
  unfold execRetransmit
  (try dsimp only)
  repeat' (first | with_reducible assumption | with_reducible exact Steps.refl _ _ | ((with_reducible refine covers_self ?_); rfl) | with_reducible apply Answers.next | with_reducible apply State.setPair_steps | with_reducible apply Answers.ite | with_reducible apply Steps.ite | (intro _ _ _) | (intro _ _) | split | (dsimp only [id]))

theorem execHeartbeatSend_steps {σ : State}  : Answers [.mem, .pool, .tx, .sluice, .pair, .inject] σ (execHeartbeatSend σ) := by
  unfold execHeartbeatSend
  (try dsimp only)
  repeat' (first | with_reducible assumption | with_reducible exact Steps.refl _ _ | ((with_reducible refine covers_self ?_); rfl) | with_reducible apply Answers.next | with_reducible apply State.sendPeer_steps | with_reducible apply State.sendPlain_steps | with_reducible apply State.setPair_steps | with_reducible apply Answers.ite | with_reducible apply Steps.ite | (intro _ _ _) | (intro _ _) | split | (dsimp only [id]))

theorem execHeartbeatReceived_steps {σ : State} (hdr : PleachHdr) (beat : Heartbeat) (dutyIn : Bool) : Answers [.mem, .pool, .draws, .irq, .bells, .replies, .changes, .ports, .tx, .sluice, .lamps, .buses, .heads, .pair, .journal, .tag, .inject] σ (execHeartbeatReceived hdr beat dutyIn σ) := by
  unfold execHeartbeatReceived
  (try dsimp only)
  repeat' (first | with_reducible assumption | with_reducible exact Steps.refl _ _ | ((with_reducible refine covers_self ?_); rfl) | with_reducible apply Answers.next | with_reducible apply State.compare_steps | with_reducible apply State.noted_steps | with_reducible apply State.form_steps | with_reducible apply State.sendPeer_steps | with_reducible apply State.countAccepted_steps | with_reducible apply State.heard_steps | with_reducible apply State.seeDuty_steps | with_reducible apply State.setPair_steps | with_reducible apply State.rankClash_steps | with_reducible apply Answers.ite | with_reducible apply Steps.ite | (intro _ _ _) | (intro _ _) | split | (dsimp only [id]))

theorem execLinkLost_steps {σ : State} (dutyIn : Bool) : Answers [.irq, .bells, .sluice, .pair, .journal] σ (execLinkLost dutyIn σ) := by
  unfold execLinkLost
  (try dsimp only)
  repeat' (first | with_reducible assumption | with_reducible exact Steps.refl _ _ | ((with_reducible refine covers_self ?_); rfl) | with_reducible apply Answers.next | with_reducible apply State.linkDown_steps | with_reducible apply State.noted_steps | with_reducible apply State.seeDuty_steps | with_reducible apply Answers.ite | with_reducible apply Steps.ite | (intro _ _ _) | (intro _ _) | split | (dsimp only [id]))

theorem execMirrorFrame_steps {σ : State} (hdr : PleachHdr) (records : List MirrorRec) : Answers [.mem, .pool, .draws, .irq, .bells, .replies, .changes, .ports, .tx, .sluice, .lamps, .buses, .heads, .pair, .journal, .tag, .inject] σ (execMirrorFrame hdr records σ) := by
  unfold execMirrorFrame
  (try dsimp only)
  repeat' (first | with_reducible assumption | with_reducible exact Steps.refl _ _ | ((with_reducible refine covers_self ?_); rfl) | with_reducible apply Answers.next | with_reducible apply State.receive_steps | with_reducible apply State.mirrorRec_steps | with_reducible apply Steps.foldl | with_reducible apply Answers.ite | with_reducible apply Steps.ite | (intro _ _ _) | (intro _ _) | split | (dsimp only [id]))

theorem execMissing_steps {σ : State} (pairSeq : Word) : Answers [.pair] σ (execMissing pairSeq σ) := by
  unfold execMissing
  (try dsimp only)
  repeat' (first | with_reducible assumption | with_reducible exact Steps.refl _ _ | ((with_reducible refine covers_self ?_); rfl) | with_reducible apply Answers.next | with_reducible apply State.setPair_steps | with_reducible apply Answers.ite | with_reducible apply Steps.ite | (intro _ _ _) | (intro _ _) | split | (dsimp only [id]))

theorem execOrphan_steps {σ : State} (item : Nat) : Answers [.mem, .pool, .tx, .sluice, .pair] σ (execOrphan item σ) := by
  unfold execOrphan
  (try dsimp only)
  repeat' (first | with_reducible assumption | with_reducible exact Steps.refl _ _ | ((with_reducible refine covers_self ?_); rfl) | with_reducible apply Answers.next | with_reducible apply State.eachPort_steps | with_reducible apply State.setPair_steps | with_reducible apply State.unlink_steps | with_reducible apply Answers.ite | with_reducible apply Steps.ite | (intro _ _ _) | (intro _ _) | split | (dsimp only [id]))

theorem execDeliveredFrame_steps {σ : State} (hdr : PleachHdr) (records : List DeliveredRec) : Answers [.mem, .pool, .draws, .irq, .bells, .replies, .changes, .ports, .tx, .sluice, .lamps, .buses, .heads, .pair, .journal, .tag, .inject] σ (execDeliveredFrame hdr records σ) := by
  unfold execDeliveredFrame
  (try dsimp only)
  repeat' (first | with_reducible assumption | with_reducible exact Steps.refl _ _ | ((with_reducible refine covers_self ?_); rfl) | with_reducible apply Answers.next | with_reducible apply State.receive_steps | with_reducible apply State.deliveredRec_steps | with_reducible apply Steps.foldl | with_reducible apply Answers.ite | with_reducible apply Steps.ite | (intro _ _ _) | (intro _ _) | split | (dsimp only [id]))

theorem execItemFrame_steps {σ : State} (hdr : PleachHdr) (item : ItemRec) : Answers [.mem, .pool, .draws, .irq, .bells, .replies, .changes, .ports, .tx, .sieve, .govs, .sluice, .lamps, .buses, .heads, .pair, .journal, .tag, .inject] σ (execItemFrame hdr item σ) := by
  unfold execItemFrame
  (try dsimp only)
  repeat' (first | with_reducible assumption | with_reducible exact Steps.refl _ _ | ((with_reducible refine covers_self ?_); rfl) | with_reducible apply Answers.next | with_reducible apply State.receive_steps | with_reducible apply State.takeItem_steps | with_reducible apply Answers.ite | with_reducible apply Steps.ite | (intro _ _ _) | (intro _ _) | split | (dsimp only [id]))

theorem execLampFrame_steps {σ : State} (hdr : PleachHdr) (records : List LampRec) : Answers [.mem, .pool, .draws, .irq, .bells, .replies, .changes, .ports, .tx, .sluice, .lamps, .buses, .heads, .pair, .journal, .tag, .inject] σ (execLampFrame hdr records σ) := by
  unfold execLampFrame
  (try dsimp only)
  repeat' (first | with_reducible assumption | with_reducible exact Steps.refl _ _ | ((with_reducible refine covers_self ?_); rfl) | with_reducible apply Answers.next | with_reducible apply State.receive_steps | with_reducible apply State.lampRec_steps | with_reducible apply State.setPair_steps | with_reducible apply Steps.foldl | with_reducible apply Answers.ite | with_reducible apply Steps.ite | (intro _ _ _) | (intro _ _) | split | (dsimp only [id]))

theorem execEpochFrame_steps {σ : State} (hdr : PleachHdr) (epoch : Option EpochRec) : Answers [.mem, .pool, .draws, .irq, .bells, .replies, .settings, .changes, .ports, .tx, .sluice, .lamps, .buses, .heads, .pair, .journal, .tag, .inject] σ (execEpochFrame hdr epoch σ) := by
  unfold execEpochFrame
  (try dsimp only)
  repeat' (first | with_reducible assumption | with_reducible exact Steps.refl _ _ | ((with_reducible refine covers_self ?_); rfl) | with_reducible apply Answers.next | with_reducible apply State.receive_steps | ((with_reducible apply State.setSettings_settings_steps); (rotate_left 1); (focus (intro _; first | rfl | exact ⟨rfl, fun _ => ⟨fun h => by simp [h], fun h => by simp [h]⟩⟩ | exact ⟨⟨rfl, rfl⟩, fun _ h => by simp [h]⟩ | exact ⟨⟨rfl, rfl⟩, List.prefix_append _ _⟩ | exact ⟨rfl, rfl⟩ | exact ⟨rfl, rfl, rfl⟩ | exact ⟨⟨rfl, rfl⟩, rfl, rfl, rfl⟩ | exact ⟨rfl, rfl, rfl, rfl⟩ | ((try dsimp only); (repeat' split) <;> first | rfl | exact ⟨rfl, rfl⟩ | exact ⟨rfl, rfl, rfl⟩ | exact ⟨rfl, rfl, rfl, rfl⟩ | (simp; done)) | (simp; done))); (rotate_left 1)) | with_reducible apply Answers.ite | with_reducible apply Steps.ite | (intro _ _ _) | (intro _ _) | split | (dsimp only [id]))

theorem execCatchupEnd_steps {σ : State} (hdr : PleachHdr) (nextSeq : Word) : Answers [.mem, .pool, .draws, .irq, .bells, .replies, .changes, .ports, .tx, .sluice, .lamps, .buses, .heads, .pair, .journal, .tag, .inject] σ (execCatchupEnd hdr nextSeq σ) := by
  unfold execCatchupEnd
  (try dsimp only)
  repeat' (first | with_reducible assumption | with_reducible exact Steps.refl _ _ | ((with_reducible refine covers_self ?_); rfl) | with_reducible apply Answers.next | with_reducible apply State.receive_steps | with_reducible apply State.setPair_steps | with_reducible apply Answers.ite | with_reducible apply Steps.ite | (intro _ _ _) | (intro _ _) | split | (dsimp only [id]))

theorem execHandoverFrame_steps {σ : State} (hdr : PleachHdr) (nextSeq : Word) (dutyIn : Bool) : Answers [.mem, .pool, .draws, .irq, .bells, .replies, .changes, .ports, .tx, .sluice, .lamps, .buses, .heads, .pair, .journal, .tag, .inject] σ (execHandoverFrame hdr nextSeq dutyIn σ) := by
  unfold execHandoverFrame
  (try dsimp only)
  repeat' (first | with_reducible assumption | with_reducible exact Steps.refl _ _ | ((with_reducible refine covers_self ?_); rfl) | with_reducible apply Answers.next | with_reducible apply State.takeOver_steps | with_reducible apply State.receive_steps | with_reducible apply State.setPair_steps | with_reducible apply Answers.ite | with_reducible apply Steps.ite | (intro _ _ _) | (intro _ _) | split | (dsimp only [id]))

theorem execOffsetAdopt_steps {σ : State}  : Answers [.irq, .bells, .pair, .journal] σ (execOffsetAdopt σ) := by
  unfold execOffsetAdopt
  (try dsimp only)
  repeat' (first | with_reducible assumption | with_reducible exact Steps.refl _ _ | ((with_reducible refine covers_self ?_); rfl) | with_reducible apply Answers.next | with_reducible apply State.noted_steps | with_reducible apply State.adoptOffset_steps | with_reducible apply Answers.ite | with_reducible apply Steps.ite | (intro _ _ _) | (intro _ _) | split | (dsimp only [id]))

theorem execPowerOnResetRelease_steps {σ : State} (rank : Bool) (waitOd : Bool) (orderMet : Bool) : Answers [.mem, .code, .pool, .boxes, .rows, .draws, .power, .modes, .irq, .acks, .culvert, .bells, .hush, .replies, .drops, .chanN, .chanK, .engine, .work, .settings, .events, .changes, .counting, .ports, .tx, .sieve, .govs, .sluice, .lamps, .buses, .heads, .pair, .journal, .tag, .mgmt, .inject, .dozeEvents] σ (execPowerOnResetRelease rank waitOd orderMet σ) := by
  unfold execPowerOnResetRelease
  (try dsimp only)
  repeat' (first | with_reducible assumption | with_reducible exact Steps.refl _ _ | ((with_reducible refine covers_self ?_); rfl) | with_reducible apply Answers.next | with_reducible apply State.afterReset_steps | with_reducible apply Answers.ite | with_reducible apply Steps.ite | (intro _ _ _) | (intro _ _) | split | (dsimp only [id]))

theorem execResetComplete_steps {σ : State}  : Answers [.mem, .rows, .power, .modes, .irq, .counting, .tag] σ (execResetComplete σ) := by
  unfold execResetComplete
  (try dsimp only)
  repeat' (first | with_reducible assumption | with_reducible exact Steps.refl _ _ | ((with_reducible refine covers_self ?_); rfl) | with_reducible apply Answers.next | with_reducible apply State.setCounting_steps | with_reducible apply State.setPower_steps | with_reducible apply State.setModes_steps | with_reducible apply State.setTag_steps | with_reducible apply State.modesDone_steps | ((with_reducible refine State.clearMem_in_steps (r := .rows) ?_ ?_ ?_); (focus (simp only [Part.within, portRowAt, viewRowAt, sieveRowAt, weirRowAt, lampRowAt, headRowAt, busRowAt, firstSecondAt, resetStampAt, cellAt, bytesAt, leBytes_length, List.length_take, List.length_drop, List.length_append, List.length_cons, List.length_nil, State.memBytes_length]; (repeat' split) <;> omega))) | with_reducible apply Answers.ite | with_reducible apply Steps.ite | (intro _ _ _) | (intro _ _) | split | (dsimp only [id]))

theorem execSupplyCollapse_steps {σ : State}  : Answers [.mem, .code, .pool, .boxes, .rows, .draws, .power, .modes, .irq, .acks, .culvert, .bells, .hush, .replies, .drops, .chanN, .chanK, .engine, .work, .settings, .events, .changes, .counting, .ports, .tx, .sieve, .govs, .sluice, .lamps, .buses, .heads, .pair, .journal, .tag, .mgmt, .inject, .dozeEvents] σ (execSupplyCollapse σ) := by
  unfold execSupplyCollapse
  (try dsimp only)
  repeat' (first | with_reducible assumption | with_reducible exact Steps.refl _ _ | ((with_reducible refine covers_self ?_); rfl) | with_reducible apply Answers.next | with_reducible apply State.afterReset_steps | with_reducible apply Answers.ite | with_reducible apply Steps.ite | (intro _ _ _) | (intro _ _) | split | (dsimp only [id]))

theorem execOrderFault_steps {σ : State}  : Answers [.power] σ (execOrderFault σ) := by
  unfold execOrderFault
  (try dsimp only)
  repeat' (first | with_reducible assumption | with_reducible exact Steps.refl _ _ | ((with_reducible refine covers_self ?_); rfl) | with_reducible apply Answers.next | with_reducible apply State.setPower_steps | (intro _ _ _) | (intro _ _) | (dsimp only [id]))

theorem execVanaLost_steps {σ : State}  : Answers [.mem, .pool, .draws, .power, .irq, .bells, .events, .ports, .tx, .sluice, .journal, .dozeEvents] σ (execVanaLost σ) := by
  unfold execVanaLost
  (try dsimp only)
  repeat' (first | with_reducible assumption | with_reducible exact Steps.refl _ _ | ((with_reducible refine covers_self ?_); rfl) | with_reducible apply Answers.next | with_reducible apply State.cutSending_steps | with_reducible apply State.eachPort_steps | with_reducible apply State.deviceEvent_steps | with_reducible apply State.supplyEvent_steps | with_reducible apply State.setPower_steps | with_reducible apply State.setJoins_steps | with_reducible apply State.mapPorts_steps | with_reducible apply Answers.ite | with_reducible apply Steps.ite | (intro _ _ _) | (intro _ _) | split | (dsimp only [id]))

theorem execVanaBack_steps {σ : State}  : Answers [.mem, .pool, .draws, .power, .irq, .bells, .events, .ports, .tx, .sluice, .journal, .dozeEvents] σ (execVanaBack σ) := by
  unfold execVanaBack
  (try dsimp only)
  repeat' (first | with_reducible assumption | with_reducible exact Steps.refl _ _ | ((with_reducible refine covers_self ?_); rfl) | with_reducible apply Answers.next | with_reducible apply State.setPower_steps | with_reducible apply State.deviceEvent_steps | with_reducible apply State.supplyEvent_steps | with_reducible apply State.driveAll_steps | with_reducible apply Answers.ite | with_reducible apply Steps.ite | (intro _ _ _) | (intro _ _) | split | (dsimp only [id]))

theorem execVanaGood_steps {σ : State}  : Answers [.power, .ports] σ (execVanaGood σ) := by
  unfold execVanaGood
  (try dsimp only)
  repeat' (first | with_reducible assumption | with_reducible exact Steps.refl _ _ | ((with_reducible refine covers_self ?_); rfl) | with_reducible apply Answers.next | with_reducible apply State.setPower_steps | with_reducible apply State.setJoins_steps | with_reducible apply Answers.ite | with_reducible apply Steps.ite | (intro _ _ _) | (intro _ _) | split | (dsimp only [id]))

theorem execNresetAssert_steps {σ : State}  : Answers [.mem, .code, .pool, .boxes, .rows, .draws, .power, .modes, .irq, .acks, .culvert, .bells, .hush, .replies, .drops, .chanN, .chanK, .engine, .work, .settings, .events, .changes, .counting, .ports, .tx, .sieve, .govs, .sluice, .lamps, .buses, .heads, .pair, .journal, .tag, .mgmt, .inject, .dozeEvents] σ (execNresetAssert σ) := by
  unfold execNresetAssert
  (try dsimp only)
  repeat' (first | with_reducible assumption | with_reducible exact Steps.refl _ _ | ((with_reducible refine covers_self ?_); rfl) | with_reducible apply Answers.next | with_reducible apply State.setPower_steps | with_reducible apply State.afterReset_steps | with_reducible apply Answers.ite | with_reducible apply Steps.ite | (intro _ _ _) | (intro _ _) | split | (dsimp only [id]))

theorem execNresetRelease_steps {σ : State} (rank : Bool) (waitOd : Bool) : Answers [.power] σ (execNresetRelease rank waitOd σ) := by
  unfold execNresetRelease
  (try dsimp only)
  repeat' (first | with_reducible assumption | with_reducible exact Steps.refl _ _ | ((with_reducible refine covers_self ?_); rfl) | with_reducible apply Answers.next | with_reducible apply State.setPower_steps | with_reducible apply Answers.ite | with_reducible apply Steps.ite | (intro _ _ _) | (intro _ _) | split | (dsimp only [id]))

theorem execDeviceReset_steps {σ : State}  : Answers [.mem, .code, .pool, .boxes, .rows, .draws, .power, .modes, .irq, .acks, .culvert, .bells, .hush, .replies, .drops, .chanN, .chanK, .engine, .work, .settings, .events, .changes, .counting, .ports, .tx, .sieve, .govs, .sluice, .lamps, .buses, .heads, .pair, .journal, .tag, .mgmt, .inject, .dozeEvents] σ (execDeviceReset σ) := by
  unfold execDeviceReset
  (try dsimp only)
  repeat' (first | with_reducible assumption | with_reducible exact Steps.refl _ _ | ((with_reducible refine covers_self ?_); rfl) | with_reducible apply Answers.next | with_reducible apply State.afterReset_steps | with_reducible apply Answers.ite | with_reducible apply Steps.ite | (intro _ _ _) | (intro _ _) | split | (dsimp only [id]))

theorem execTallyLost_steps {σ : State}  : Answers [.mem, .pool, .draws, .power, .irq, .bells, .events, .sluice, .journal, .dozeEvents] σ (execTallyLost σ) := by
  unfold execTallyLost
  (try dsimp only)
  repeat' (first | with_reducible assumption | with_reducible exact Steps.refl _ _ | ((with_reducible refine covers_self ?_); rfl) | with_reducible apply Answers.next | with_reducible apply State.setPower_steps | with_reducible apply State.deviceEvent_steps | with_reducible apply Answers.ite | with_reducible apply Steps.ite | (intro _ _ _) | (intro _ _) | split | (dsimp only [id]))

theorem execTallyBack_steps {σ : State}  : Answers [.mem, .pool, .draws, .power, .irq, .bells, .events, .sluice, .journal, .dozeEvents] σ (execTallyBack σ) := by
  unfold execTallyBack
  (try dsimp only)
  repeat' (first | with_reducible assumption | with_reducible exact Steps.refl _ _ | ((with_reducible refine covers_self ?_); rfl) | with_reducible apply Answers.next | with_reducible apply State.setPower_steps | with_reducible apply State.deviceEvent_steps | with_reducible apply Answers.ite | with_reducible apply Steps.ite | (intro _ _ _) | (intro _ _) | split | (dsimp only [id]))

theorem execPaceUpdate_steps {σ : State} (count : Nat) : Answers [.mem, .pool, .draws, .power, .irq, .bells, .events, .ports, .sluice, .journal, .dozeEvents] σ (execPaceUpdate count σ) := by
  unfold execPaceUpdate
  (try dsimp only)
  repeat' (first | with_reducible assumption | with_reducible exact Steps.refl _ _ | ((with_reducible refine covers_self ?_); rfl) | with_reducible apply Answers.next | with_reducible apply State.setPower_steps | with_reducible apply State.deviceEvent_steps | with_reducible apply State.supplyEvent_steps | with_reducible apply State.headNotice_steps | with_reducible apply Answers.ite | with_reducible apply Steps.ite | (intro _ _ _) | (intro _ _) | split | (dsimp only [id]))

theorem execTempConversion_steps {σ : State} (reading : Half) : Answers [.power] σ (execTempConversion reading σ) := by
  unfold execTempConversion
  (try dsimp only)
  repeat' (first | with_reducible assumption | with_reducible exact Steps.refl _ _ | ((with_reducible refine covers_self ?_); rfl) | with_reducible apply Answers.next | with_reducible apply State.setPower_steps | with_reducible apply Answers.ite | with_reducible apply Steps.ite | (intro _ _ _) | (intro _ _) | split | (dsimp only [id]))

theorem execAuditSet_steps {σ : State} (bit : Fin 8) : Answers [.power, .irq, .bells, .ports] σ (execAuditSet bit σ) := by
  unfold execAuditSet
  (try dsimp only)
  repeat' (first | with_reducible assumption | with_reducible exact Steps.refl _ _ | ((with_reducible refine covers_self ?_); rfl) | with_reducible apply Answers.next | with_reducible apply State.setPower_steps | with_reducible apply State.bellBoth_steps | with_reducible apply State.headNotice_steps | with_reducible apply Answers.ite | with_reducible apply Steps.ite | (intro _ _ _) | (intro _ _) | split | (dsimp only [id]))

theorem execSieveDecision_steps {σ : State}  : Answers [.mem, .pool, .tx, .sieve, .govs, .sluice, .pair, .inject] σ (execSieveDecision σ) := by
  unfold execSieveDecision
  (try dsimp only)
  repeat' (first | with_reducible assumption | with_reducible exact Steps.refl _ _ | ((with_reducible refine covers_self ?_); rfl) | with_reducible apply Answers.next | with_reducible apply State.decideItem_steps | with_reducible apply Answers.ite | with_reducible apply Steps.ite | (intro _ _ _) | (intro _ _) | split | (dsimp only [id]))

theorem execWeirRefill_steps {σ : State} (gov : GovNo) : Answers [.mem, .pool, .tx, .govs, .sluice, .pair, .inject] σ (execWeirRefill gov σ) := by
  unfold execWeirRefill
  (try dsimp only)
  repeat' (first | with_reducible assumption | with_reducible exact Steps.refl _ _ | ((with_reducible refine covers_self ?_); rfl) | with_reducible apply Answers.next | with_reducible apply State.refill_steps | with_reducible apply Answers.ite | with_reducible apply Steps.ite | (intro _ _ _) | (intro _ _) | split | (dsimp only [id]))

theorem execDeferCommit_steps {σ : State} (gov : GovNo) : Answers [.mem, .pool, .tx, .govs, .sluice, .pair, .inject] σ (execDeferCommit gov σ) := by
  unfold execDeferCommit
  (try dsimp only)
  repeat' (first | with_reducible assumption | with_reducible exact Steps.refl _ _ | ((with_reducible refine covers_self ?_); rfl) | with_reducible apply Answers.next | with_reducible apply State.releaseIfDue_steps | with_reducible apply State.drainOne_steps | with_reducible apply Answers.ite | with_reducible apply Steps.ite | (intro _ _ _) | (intro _ _) | split | (dsimp only [id]))

theorem execAlarmCellWaitEnd_steps {σ : State}  : Answers [.mem, .pool, .draws, .irq, .bells, .ports, .tx, .sluice, .lamps, .pair, .journal, .tag, .inject] σ (execAlarmCellWaitEnd σ) := by
  unfold execAlarmCellWaitEnd
  (try dsimp only)
  repeat' (first | with_reducible assumption | with_reducible exact Steps.refl _ _ | ((with_reducible refine covers_self ?_); rfl) | with_reducible apply Answers.next | with_reducible apply State.placeWaiting_steps | with_reducible apply Answers.ite | with_reducible apply Steps.ite | (intro _ _ _) | (intro _ _) | split | (dsimp only [id]))

theorem execReorderRelease_steps {σ : State} (slot : Fin 16) : Answers [.mem, .pool, .tx, .sluice] σ (execReorderRelease slot σ) := by
  unfold execReorderRelease
  (try dsimp only)
  repeat' (first | with_reducible assumption | with_reducible exact Steps.refl _ _ | ((with_reducible refine covers_self ?_); rfl) | with_reducible apply Answers.next | with_reducible apply State.releaseHeld_steps | with_reducible apply Answers.ite | with_reducible apply Steps.ite | (intro _ _ _) | (intro _ _) | split | (dsimp only [id]))

theorem execItemBegin_steps {σ : State} (port : PortNo) (cts : Bool) : Answers [.mem, .pool, .ports, .tx, .sluice, .inject] σ (execItemBegin port cts σ) := by
  unfold execItemBegin
  (try dsimp only)
  repeat' (first | with_reducible assumption | with_reducible exact Steps.refl _ _ | ((with_reducible refine covers_self ?_); rfl) | with_reducible apply Answers.next | with_reducible apply State.dropAbandoned_steps | with_reducible apply State.skipMembers_steps | with_reducible apply State.sendItem_steps | with_reducible apply State.yieldGroup_steps | ((with_reducible apply State.updPort_ports_steps); (rotate_left 1); (focus (intro _; first | rfl | exact ⟨rfl, fun _ => ⟨fun h => by simp [h], fun h => by simp [h]⟩⟩ | exact ⟨⟨rfl, rfl⟩, fun _ h => by simp [h]⟩ | exact ⟨⟨rfl, rfl⟩, List.prefix_append _ _⟩ | exact ⟨rfl, rfl⟩ | exact ⟨rfl, rfl, rfl⟩ | exact ⟨⟨rfl, rfl⟩, rfl, rfl, rfl⟩ | exact ⟨rfl, rfl, rfl, rfl⟩ | ((try dsimp only); (repeat' split) <;> first | rfl | exact ⟨rfl, rfl⟩ | exact ⟨rfl, rfl, rfl⟩ | exact ⟨rfl, rfl, rfl, rfl⟩ | (simp; done)) | (simp; done))); (rotate_left 1)) | with_reducible apply Answers.ite | with_reducible apply Steps.ite | (intro _ _ _) | (intro _ _) | split | (dsimp only [id]))

theorem execCtsResume_steps {σ : State} (port : PortNo) (cts : Bool) : Answers [.ports, .tx] σ (execCtsResume port cts σ) := by
  unfold execCtsResume
  (try dsimp only)
  repeat' (first | with_reducible assumption | with_reducible exact Steps.refl _ _ | ((with_reducible refine covers_self ?_); rfl) | with_reducible apply Answers.next | with_reducible apply State.updPort_steps | with_reducible apply Answers.ite | with_reducible apply Steps.ite | (intro _ _ _) | (intro _ _) | split | (dsimp only [id]))

theorem execItemSent_steps {σ : State} (port : PortNo) : Answers [.mem, .pool, .draws, .irq, .bells, .replies, .changes, .ports, .tx, .sluice, .lamps, .buses, .heads, .pair, .journal, .tag, .inject] σ (execItemSent port σ) := by
  unfold execItemSent
  (try dsimp only)
  repeat' (first | with_reducible assumption | with_reducible exact Steps.refl _ _ | ((with_reducible refine covers_self ?_); rfl) | with_reducible apply Answers.next | with_reducible apply State.endSending_steps | with_reducible apply State.advanceHandover_steps | with_reducible apply Answers.ite | with_reducible apply Steps.ite | (intro _ _ _) | (intro _ _) | split | (dsimp only [id]))

theorem execBreach_steps {σ : State} (port : PortNo) (sent : Nat) : Answers [.mem, .pool, .draws, .irq, .bells, .replies, .changes, .ports, .tx, .sluice, .lamps, .buses, .heads, .pair, .journal, .tag, .inject] σ (execBreach port sent σ) := by
  unfold execBreach
  (try dsimp only)
  repeat' (first | with_reducible assumption | with_reducible exact Steps.refl _ _ | ((with_reducible refine covers_self ?_); rfl) | with_reducible apply Answers.next | with_reducible apply State.cutSending_steps | with_reducible apply State.advanceHandover_steps | with_reducible apply State.adoptTx_steps | with_reducible apply State.txBoundary_steps | with_reducible apply State.updTx_steps | with_reducible apply State.yieldGroup_steps | with_reducible apply Answers.ite | with_reducible apply Steps.ite | (intro _ _ _) | (intro _ _) | split | (dsimp only [id]))

theorem execGroupAbandon_steps {σ : State} (port : PortNo) : Answers [.mem, .pool, .tx, .sluice] σ (execGroupAbandon port σ) := by
  unfold execGroupAbandon
  (try dsimp only)
  repeat' (first | with_reducible assumption | with_reducible exact Steps.refl _ _ | ((with_reducible refine covers_self ?_); rfl) | with_reducible apply Answers.next | with_reducible apply State.abandonGroup_steps | with_reducible apply State.yieldGroup_steps | with_reducible apply Answers.ite | with_reducible apply Steps.ite | (intro _ _ _) | (intro _ _) | split | (dsimp only [id]))

theorem execUnknownCommand_steps {σ : State} (code : Half) (msg : Msg) : Answers [.replies, .work] σ (execUnknownCommand code msg σ) := by
  unfold execUnknownCommand
  (try dsimp only)
  repeat' (first | with_reducible assumption | with_reducible exact Steps.refl _ _ | ((with_reducible refine covers_self ?_); rfl) | with_reducible apply Answers.next | with_reducible apply State.badAt_steps | with_reducible apply State.serve_steps | with_reducible apply Answers.ite | with_reducible apply Steps.ite | (intro _ _ _) | (intro _ _) | split | (dsimp only [id]))

theorem execVersion_steps {σ : State} (msg : Msg) : Answers [.replies, .work] σ (execVersion msg σ) := by
  unfold execVersion
  (try dsimp only)
  repeat' (first | with_reducible assumption | with_reducible exact Steps.refl _ _ | ((with_reducible refine covers_self ?_); rfl) | with_reducible apply Answers.next | with_reducible apply State.done_steps | with_reducible apply State.serve_steps | (intro _ _ _) | (intro _ _) | (dsimp only [id]))

theorem execSetEpoch_steps {σ : State} (msg : Msg) : Answers [.replies, .work, .settings, .changes, .pair, .journal, .inject] σ (execSetEpoch msg σ) := by
  unfold execSetEpoch
  (try dsimp only)
  repeat' (first | with_reducible assumption | with_reducible exact Steps.refl _ _ | ((with_reducible refine covers_self ?_); rfl) | with_reducible apply Answers.next | with_reducible apply State.serve_steps | with_reducible apply State.timeMark_steps | with_reducible apply State.refused_steps | with_reducible apply State.changed_steps | with_reducible apply State.sendEpoch_steps | ((with_reducible apply State.setSettings_settings_steps); (rotate_left 1); (focus (intro _; first | rfl | exact ⟨rfl, fun _ => ⟨fun h => by simp [h], fun h => by simp [h]⟩⟩ | exact ⟨⟨rfl, rfl⟩, fun _ h => by simp [h]⟩ | exact ⟨⟨rfl, rfl⟩, List.prefix_append _ _⟩ | exact ⟨rfl, rfl⟩ | exact ⟨rfl, rfl, rfl⟩ | exact ⟨⟨rfl, rfl⟩, rfl, rfl, rfl⟩ | exact ⟨rfl, rfl, rfl, rfl⟩ | ((try dsimp only); (repeat' split) <;> first | rfl | exact ⟨rfl, rfl⟩ | exact ⟨rfl, rfl, rfl⟩ | exact ⟨rfl, rfl, rfl, rfl⟩ | (simp; done)) | (simp; done))); (rotate_left 1)) | with_reducible apply Answers.ite | with_reducible apply Steps.ite | (intro _ _ _) | (intro _ _) | split | (dsimp only [id]))

theorem execGetTime_steps {σ : State} (msg : Msg) : Answers [.replies, .work] σ (execGetTime msg σ) := by
  unfold execGetTime
  (try dsimp only)
  repeat' (first | with_reducible assumption | with_reducible exact Steps.refl _ _ | ((with_reducible refine covers_self ?_); rfl) | with_reducible apply Answers.next | with_reducible apply State.done_steps | with_reducible apply State.serve_steps | (intro _ _ _) | (intro _ _) | split | (dsimp only [id]))

theorem execDigest_steps {σ : State} (msg : Msg) : Answers [.draws, .replies, .work] σ (execDigest msg σ) := by
  unfold execDigest
  (try dsimp only)
  repeat' (first | with_reducible assumption | with_reducible exact Steps.refl _ _ | ((with_reducible refine covers_self ?_); rfl) | with_reducible apply Answers.next | with_reducible apply State.draw_steps | with_reducible apply State.done_steps | with_reducible apply State.serve_steps | with_reducible apply Answers.ite | with_reducible apply Steps.ite | (intro _ _ _) | (intro _ _) | split | (dsimp only [id]))

theorem execHostWatch_steps {σ : State} (msg : Msg) : Answers [.replies, .work, .settings, .changes, .journal] σ (execHostWatch msg σ) := by
  unfold execHostWatch
  (try dsimp only)
  repeat' (first | with_reducible assumption | with_reducible exact Steps.refl _ _ | ((with_reducible refine covers_self ?_); rfl) | with_reducible apply Answers.next | with_reducible apply State.changed_steps | with_reducible apply State.serve_steps | ((with_reducible apply State.setSettings_settings_steps); (rotate_left 1); (focus (intro _; first | rfl | exact ⟨rfl, fun _ => ⟨fun h => by simp [h], fun h => by simp [h]⟩⟩ | exact ⟨⟨rfl, rfl⟩, fun _ h => by simp [h]⟩ | exact ⟨⟨rfl, rfl⟩, List.prefix_append _ _⟩ | exact ⟨rfl, rfl⟩ | exact ⟨rfl, rfl, rfl⟩ | exact ⟨⟨rfl, rfl⟩, rfl, rfl, rfl⟩ | exact ⟨rfl, rfl, rfl, rfl⟩ | ((try dsimp only); (repeat' split) <;> first | rfl | exact ⟨rfl, rfl⟩ | exact ⟨rfl, rfl, rfl⟩ | exact ⟨rfl, rfl, rfl, rfl⟩ | (simp; done)) | (simp; done))); (rotate_left 1)) | (intro _ _ _) | (intro _ _) | (dsimp only [id]))

theorem execHeartbeat_steps {σ : State} (msg : Msg) : Answers [.replies, .work, .settings, .changes, .journal] σ (execHeartbeat msg σ) := by
  unfold execHeartbeat
  (try dsimp only)
  repeat' (first | with_reducible assumption | with_reducible exact Steps.refl _ _ | ((with_reducible refine covers_self ?_); rfl) | with_reducible apply Answers.next | with_reducible apply State.changed_steps | with_reducible apply State.serve_steps | ((with_reducible apply State.setSettings_settings_steps); (rotate_left 1); (focus (intro _; first | rfl | exact ⟨rfl, fun _ => ⟨fun h => by simp [h], fun h => by simp [h]⟩⟩ | exact ⟨⟨rfl, rfl⟩, fun _ h => by simp [h]⟩ | exact ⟨⟨rfl, rfl⟩, List.prefix_append _ _⟩ | exact ⟨rfl, rfl⟩ | exact ⟨rfl, rfl, rfl⟩ | exact ⟨⟨rfl, rfl⟩, rfl, rfl, rfl⟩ | exact ⟨rfl, rfl, rfl, rfl⟩ | ((try dsimp only); (repeat' split) <;> first | rfl | exact ⟨rfl, rfl⟩ | exact ⟨rfl, rfl, rfl⟩ | exact ⟨rfl, rfl, rfl, rfl⟩ | (simp; done)) | (simp; done))); (rotate_left 1)) | (intro _ _ _) | (intro _ _) | (dsimp only [id]))

theorem execPvyshInterval_steps {σ : State}  : Answers [.mem, .pool, .draws, .sluice] σ (execPvyshInterval σ) := by
  unfold execPvyshInterval
  (try dsimp only)
  repeat' (first | with_reducible assumption | with_reducible exact Steps.refl _ _ | ((with_reducible refine covers_self ?_); rfl) | with_reducible apply Answers.next | with_reducible apply State.makeDevice_steps | with_reducible apply Answers.ite | with_reducible apply Steps.ite | (intro _ _ _) | (intro _ _) | split | (dsimp only [id]))

theorem execEvents_steps {σ : State} (msg : Msg) : Answers [.replies, .work, .events] σ (execEvents msg σ) := by
  unfold execEvents
  (try dsimp only)
  repeat' (first | with_reducible assumption | with_reducible exact Steps.refl _ _ | ((with_reducible refine covers_self ?_); rfl) | with_reducible apply Answers.next | with_reducible apply State.done_steps | with_reducible apply State.serve_steps | ((with_reducible apply State.setSettings_events_steps); (rotate_left 1); (focus (intro _; first | rfl | exact ⟨rfl, fun _ => ⟨fun h => by simp [h], fun h => by simp [h]⟩⟩ | exact ⟨⟨rfl, rfl⟩, fun _ h => by simp [h]⟩ | exact ⟨⟨rfl, rfl⟩, List.prefix_append _ _⟩ | exact ⟨rfl, rfl⟩ | exact ⟨rfl, rfl, rfl⟩ | exact ⟨⟨rfl, rfl⟩, rfl, rfl, rfl⟩ | exact ⟨rfl, rfl, rfl, rfl⟩ | ((try dsimp only); (repeat' split) <;> first | rfl | exact ⟨rfl, rfl⟩ | exact ⟨rfl, rfl, rfl⟩ | exact ⟨rfl, rfl, rfl, rfl⟩ | (simp; done)) | (simp; done))); (rotate_left 1)) | (intro _ _ _) | (intro _ _) | (dsimp only [id]))

theorem execTagPublish_steps {σ : State} (msg : Msg) : Answers [.replies, .work, .tag] σ (execTagPublish msg σ) := by
  unfold execTagPublish
  (try dsimp only)
  repeat' (first | with_reducible assumption | with_reducible exact Steps.refl _ _ | ((with_reducible refine covers_self ?_); rfl) | with_reducible apply Answers.next | with_reducible apply State.startPublish_steps | with_reducible apply State.refused_steps | with_reducible apply State.serve_steps | with_reducible apply State.accept_steps | with_reducible apply State.endPublish_steps | with_reducible apply Answers.ite | with_reducible apply Steps.ite | (intro _ _ _) | (intro _ _) | split | (dsimp only [id]))

theorem execPublishDone_steps {σ : State}  : Answers [.replies, .work, .tag] σ (execPublishDone σ) := by
  unfold execPublishDone
  (try dsimp only)
  repeat' (first | with_reducible assumption | with_reducible exact Steps.refl _ _ | ((with_reducible refine covers_self ?_); rfl) | with_reducible apply Answers.next | with_reducible apply State.complete_steps | with_reducible apply State.endPublish_steps | with_reducible apply Answers.ite | with_reducible apply Steps.ite | (intro _ _ _) | (intro _ _) | split | (dsimp only [id]))

theorem execAutoPublish_steps {σ : State}  : Answers [.tag] σ (execAutoPublish σ) := by
  unfold execAutoPublish
  (try dsimp only)
  repeat' (first | with_reducible assumption | with_reducible exact Steps.refl _ _ | ((with_reducible refine covers_self ?_); rfl) | with_reducible apply Answers.next | with_reducible apply State.startPublish_steps | with_reducible apply Answers.ite | with_reducible apply Steps.ite | (intro _ _ _) | (intro _ _) | split | (dsimp only [id]))

theorem execTagRecord_steps {σ : State} (msg : Msg) : Answers [.replies, .work] σ (execTagRecord msg σ) := by
  unfold execTagRecord
  (try dsimp only)
  repeat' (first | with_reducible assumption | with_reducible exact Steps.refl _ _ | ((with_reducible refine covers_self ?_); rfl) | with_reducible apply Answers.next | with_reducible apply State.done_steps | with_reducible apply State.refused_steps | with_reducible apply State.serve_steps | (intro _ _ _) | (intro _ _) | split | (dsimp only [id]))

theorem execTagInfo_steps {σ : State} (msg : Msg) : Answers [.replies, .work] σ (execTagInfo msg σ) := by
  unfold execTagInfo
  (try dsimp only)
  repeat' (first | with_reducible assumption | with_reducible exact Steps.refl _ _ | ((with_reducible refine covers_self ?_); rfl) | with_reducible apply Answers.next | with_reducible apply State.done_steps | with_reducible apply State.serve_steps | (intro _ _ _) | (intro _ _) | (dsimp only [id]))

theorem execFieldArrives_steps {σ : State}  : Answers [.irq, .tag] σ (execFieldArrives σ) := by
  unfold execFieldArrives
  (try dsimp only)
  repeat' (first | with_reducible assumption | with_reducible exact Steps.refl _ _ | ((with_reducible refine covers_self ?_); rfl) | with_reducible apply Answers.next | with_reducible apply State.setTag_steps | with_reducible apply State.raiseTag_steps | with_reducible apply Answers.ite | with_reducible apply Steps.ite | (intro _ _ _) | (intro _ _) | split | (dsimp only [id]))

theorem execFieldLeaves_steps {σ : State} (collapse : Collapse) : Answers [.draws, .irq, .bells, .tag] σ (execFieldLeaves collapse σ) := by
  unfold execFieldLeaves
  (try dsimp only)
  repeat' (first | with_reducible assumption | with_reducible exact Steps.refl _ _ | ((with_reducible refine covers_self ?_); rfl) | with_reducible apply Answers.next | with_reducible apply State.setTag_steps | with_reducible apply State.collapseWrite_steps | with_reducible apply State.raiseTag_steps | with_reducible apply Answers.ite | with_reducible apply Steps.ite | (intro _ _ _) | (intro _ _) | split | (dsimp only [id]))

theorem execInventory_steps {σ : State} (req : InventoryReq) : Answers [.tag] σ (execInventory req σ) := by
  unfold execInventory
  (try dsimp only)
  repeat' (first | with_reducible assumption | with_reducible exact Steps.refl _ _ | ((with_reducible refine covers_self ?_); rfl) | with_reducible apply Answers.next | with_reducible apply State.answer_steps | with_reducible apply Answers.ite | with_reducible apply Steps.ite | (intro _ _ _) | (intro _ _) | split | (dsimp only [id]))

theorem execStayQuiet_steps {σ : State} (req : TagReq) : Answers [.tag] σ (execStayQuiet req σ) := by
  unfold execStayQuiet
  (try dsimp only)
  repeat' (first | with_reducible assumption | with_reducible exact Steps.refl _ _ | ((with_reducible refine covers_self ?_); rfl) | with_reducible apply Answers.next | with_reducible apply State.setTag_steps | with_reducible apply State.answer_steps | with_reducible apply Answers.ite | with_reducible apply Steps.ite | (intro _ _ _) | (intro _ _) | split | (dsimp only [id]))

theorem execReadSingleBlock_steps {σ : State} (req : TagReq) (block : Byte) : Answers [.tag] σ (execReadSingleBlock req block σ) := by
  unfold execReadSingleBlock
  (try dsimp only)
  repeat' (first | with_reducible assumption | with_reducible exact Steps.refl _ _ | ((with_reducible refine covers_self ?_); rfl) | with_reducible apply Answers.next | with_reducible apply State.fieldRead_steps | (intro _ _ _) | (intro _ _) | (dsimp only [id]))

theorem execWriteSingleBlock_steps {σ : State} (req : TagReq) (block : Byte) (data : Word) (energy : Bool) : Answers [.tag] σ (execWriteSingleBlock req block data energy σ) := by
  unfold execWriteSingleBlock
  (try dsimp only)
  repeat' (first | with_reducible assumption | with_reducible exact Steps.refl _ _ | ((with_reducible refine covers_self ?_); rfl) | with_reducible apply Answers.next | with_reducible apply State.fieldWrite_steps | (intro _ _ _) | (intro _ _) | (dsimp only [id]))

theorem execLockBlock_steps {σ : State} (req : TagReq) (block : Byte) (energy : Bool) : Answers [.tag] σ (execLockBlock req block energy σ) := by
  unfold execLockBlock
  (try dsimp only)
  repeat' (first | with_reducible assumption | with_reducible exact Steps.refl _ _ | ((with_reducible refine covers_self ?_); rfl) | with_reducible apply Answers.next | with_reducible apply State.answer_steps | with_reducible apply State.fieldWriteStart_steps | with_reducible apply State.tagServe_steps | with_reducible apply Answers.ite | with_reducible apply Steps.ite | (intro _ _ _) | (intro _ _) | split | (dsimp only [id]))

theorem execReadMultipleBlocks_steps {σ : State} (req : TagReq) (first : Byte) (count : Byte) : Answers [.tag] σ (execReadMultipleBlocks req first count σ) := by
  unfold execReadMultipleBlocks
  (try dsimp only)
  repeat' (first | with_reducible assumption | with_reducible exact Steps.refl _ _ | ((with_reducible refine covers_self ?_); rfl) | with_reducible apply Answers.next | with_reducible apply State.fieldRead_steps | (intro _ _ _) | (intro _ _) | (dsimp only [id]))

theorem execSelect_steps {σ : State} (req : TagReq) : Answers [.tag] σ (execSelect req σ) := by
  unfold execSelect
  (try dsimp only)
  repeat' (first | with_reducible assumption | with_reducible exact Steps.refl _ _ | ((with_reducible refine covers_self ?_); rfl) | with_reducible apply Answers.next | with_reducible apply State.setTag_steps | with_reducible apply State.answer_steps | with_reducible apply Answers.ite | with_reducible apply Steps.ite | (intro _ _ _) | (intro _ _) | split | (dsimp only [id]))

theorem execResetToReady_steps {σ : State} (req : TagReq) : Answers [.tag] σ (execResetToReady req σ) := by
  unfold execResetToReady
  (try dsimp only)
  repeat' (first | with_reducible assumption | with_reducible exact Steps.refl _ _ | ((with_reducible refine covers_self ?_); rfl) | with_reducible apply Answers.next | with_reducible apply State.setTag_steps | with_reducible apply State.answer_steps | with_reducible apply State.tagServe_steps | (intro _ _ _) | (intro _ _) | (dsimp only [id]))

theorem execGetSystemInformation_steps {σ : State} (req : TagReq) : Answers [.tag] σ (execGetSystemInformation req σ) := by
  unfold execGetSystemInformation
  (try dsimp only)
  repeat' (first | with_reducible assumption | with_reducible exact Steps.refl _ _ | ((with_reducible refine covers_self ?_); rfl) | with_reducible apply Answers.next | with_reducible apply State.systemInfo_steps | (intro _ _ _) | (intro _ _) | (dsimp only [id]))

theorem execGetMultipleBlockSecurityStatus_steps {σ : State} (req : TagReq) (first : Byte) (count : Byte) : Answers [.tag] σ (execGetMultipleBlockSecurityStatus req first count σ) := by
  unfold execGetMultipleBlockSecurityStatus
  (try dsimp only)
  repeat' (first | with_reducible assumption | with_reducible exact Steps.refl _ _ | ((with_reducible refine covers_self ?_); rfl) | with_reducible apply Answers.next | with_reducible apply State.answer_steps | with_reducible apply State.tagServe_steps | with_reducible apply Answers.ite | with_reducible apply Steps.ite | (intro _ _ _) | (intro _ _) | split | (dsimp only [id]))

theorem execExtendedReadSingleBlock_steps {σ : State} (req : TagReq) (block : Half) : Answers [.tag] σ (execExtendedReadSingleBlock req block σ) := by
  unfold execExtendedReadSingleBlock
  (try dsimp only)
  repeat' (first | with_reducible assumption | with_reducible exact Steps.refl _ _ | ((with_reducible refine covers_self ?_); rfl) | with_reducible apply Answers.next | with_reducible apply State.fieldRead_steps | (intro _ _ _) | (intro _ _) | (dsimp only [id]))

theorem execExtendedWriteSingleBlock_steps {σ : State} (req : TagReq) (block : Half) (data : Word) (energy : Bool) : Answers [.tag] σ (execExtendedWriteSingleBlock req block data energy σ) := by
  unfold execExtendedWriteSingleBlock
  (try dsimp only)
  repeat' (first | with_reducible assumption | with_reducible exact Steps.refl _ _ | ((with_reducible refine covers_self ?_); rfl) | with_reducible apply Answers.next | with_reducible apply State.fieldWrite_steps | (intro _ _ _) | (intro _ _) | (dsimp only [id]))

theorem execExtendedReadMultipleBlocks_steps {σ : State} (req : TagReq) (first : Half) (count : Half) : Answers [.tag] σ (execExtendedReadMultipleBlocks req first count σ) := by
  unfold execExtendedReadMultipleBlocks
  (try dsimp only)
  repeat' (first | with_reducible assumption | with_reducible exact Steps.refl _ _ | ((with_reducible refine covers_self ?_); rfl) | with_reducible apply Answers.next | with_reducible apply State.fieldRead_steps | (intro _ _ _) | (intro _ _) | (dsimp only [id]))

theorem execExtendedGetSystemInformation_steps {σ : State} (req : TagReq) : Answers [.tag] σ (execExtendedGetSystemInformation req σ) := by
  unfold execExtendedGetSystemInformation
  (try dsimp only)
  repeat' (first | with_reducible assumption | with_reducible exact Steps.refl _ _ | ((with_reducible refine covers_self ?_); rfl) | with_reducible apply Answers.next | with_reducible apply State.systemInfo_steps | (intro _ _ _) | (intro _ _) | (dsimp only [id]))

theorem execUnsupportedTagCommand_steps {σ : State} (req : TagReq) (_code : Byte) : Answers [.tag] σ (execUnsupportedTagCommand req _code σ) := by
  unfold execUnsupportedTagCommand
  (try dsimp only)
  repeat' (first | with_reducible assumption | with_reducible exact Steps.refl _ _ | ((with_reducible refine covers_self ?_); rfl) | with_reducible apply Answers.next | with_reducible apply State.answer_steps | with_reducible apply Answers.ite | with_reducible apply Steps.ite | (intro _ _ _) | (intro _ _) | split | (dsimp only [id]))

theorem execFieldWriteDone_steps {σ : State}  : Answers [.irq, .bells, .tag] σ (execFieldWriteDone σ) := by
  unfold execFieldWriteDone
  (try dsimp only)
  repeat' (first | with_reducible assumption | with_reducible exact Steps.refl _ _ | ((with_reducible refine covers_self ?_); rfl) | with_reducible apply Answers.next | with_reducible apply State.answer_steps | with_reducible apply State.fieldWrote_steps | with_reducible apply State.setTag_steps | with_reducible apply Answers.ite | with_reducible apply Steps.ite | (intro _ _ _) | (intro _ _) | split | (dsimp only [id]))

theorem execFieldSessionEnd_steps {σ : State}  : Answers [.irq, .bells, .changes, .journal, .tag] σ (execFieldSessionEnd σ) := by
  unfold execFieldSessionEnd
  (try dsimp only)
  repeat' (first | with_reducible assumption | with_reducible exact Steps.refl _ _ | ((with_reducible refine covers_self ?_); rfl) | with_reducible apply Answers.next | with_reducible apply State.setTag_steps | with_reducible apply State.noteChange_steps | with_reducible apply State.record_steps | with_reducible apply State.checkRecord_steps | with_reducible apply Answers.ite | with_reducible apply Steps.ite | (intro _ _ _) | (intro _ _) | split | (dsimp only [id]))

theorem execViewSet_steps {σ : State} (msg : Msg) : Answers [.mem, .rows, .replies, .work, .changes, .journal] σ (execViewSet msg σ) := by
  unfold execViewSet
  (try dsimp only)
  repeat' (first | with_reducible assumption | with_reducible exact Steps.refl _ _ | ((with_reducible refine covers_self ?_); rfl) | with_reducible apply Answers.next | with_reducible apply State.refused_steps | with_reducible apply State.changed_steps | with_reducible apply State.serve_steps | ((with_reducible refine State.putBytes_in_steps (r := .rows) ?_ ?_ ?_); (focus ((have := byteAt_lt ‹List Byte› 0); simp only [Part.within, portRowAt, viewRowAt, sieveRowAt, weirRowAt, lampRowAt, headRowAt, busRowAt, firstSecondAt, resetStampAt, cellAt, bytesAt, leBytes_length, List.length_take, List.length_drop, List.length_append, List.length_cons, List.length_nil, State.memBytes_length]; (repeat' split) <;> omega))) | with_reducible apply Answers.ite | with_reducible apply Steps.ite | (intro _ _ _) | (intro _ _) | split | (dsimp only [id]))

theorem execViewGet_steps {σ : State} (msg : Msg) : Answers [.replies, .work] σ (execViewGet msg σ) := by
  unfold execViewGet
  (try dsimp only)
  repeat' (first | with_reducible assumption | with_reducible exact Steps.refl _ _ | ((with_reducible refine covers_self ?_); rfl) | with_reducible apply Answers.next | with_reducible apply State.done_steps | with_reducible apply State.serve_steps | (intro _ _ _) | (intro _ _) | (dsimp only [id]))

theorem execViewFlush_steps {σ : State} (msg : Msg) : Answers [.mem, .pool, .replies, .work, .tx, .sluice] σ (execViewFlush msg σ) := by
  unfold execViewFlush
  (try dsimp only)
  repeat' (first | with_reducible assumption | with_reducible exact Steps.refl _ _ | ((with_reducible refine covers_self ?_); rfl) | with_reducible apply Answers.next | with_reducible apply State.flushView_steps | with_reducible apply State.done_steps | with_reducible apply State.refused_steps | with_reducible apply State.serve_steps | with_reducible apply Answers.ite | with_reducible apply Steps.ite | (intro _ _ _) | (intro _ _) | split | (dsimp only [id]))

theorem execIngressFlush_steps {σ : State} (msg : Msg) : Answers [.mem, .pool, .draws, .irq, .bells, .replies, .work, .changes, .ports, .tx, .sluice, .lamps, .buses, .heads, .pair, .journal, .tag, .inject] σ (execIngressFlush msg σ) := by
  unfold execIngressFlush
  (try dsimp only)
  repeat' (first | with_reducible assumption | with_reducible exact Steps.refl _ _ | ((with_reducible refine covers_self ?_); rfl) | with_reducible apply Answers.next | with_reducible apply State.dropItem_steps | with_reducible apply State.dropPartial_steps | with_reducible apply State.rxBoundary_steps | with_reducible apply State.done_steps | with_reducible apply State.refused_steps | with_reducible apply State.serve_steps | with_reducible apply Steps.foldl | with_reducible apply Answers.ite | with_reducible apply Steps.ite | (intro _ _ _) | (intro _ _) | split | (dsimp only [id]))

theorem execSluiceFlush_steps {σ : State} (msg : Msg) : Answers [.mem, .pool, .replies, .work, .ports, .tx, .sluice] σ (execSluiceFlush msg σ) := by
  unfold execSluiceFlush
  (try dsimp only)
  repeat' (first | with_reducible assumption | with_reducible exact Steps.refl _ _ | ((with_reducible refine covers_self ?_); rfl) | with_reducible apply Answers.next | with_reducible apply State.eachPort_steps | with_reducible apply State.eachView_steps | with_reducible apply State.flushView_steps | with_reducible apply State.done_steps | with_reducible apply State.serve_steps | with_reducible apply State.voidItem_steps | with_reducible apply State.voidPartial_steps | with_reducible apply Steps.foldl | (intro _ _ _) | (intro _ _) | (dsimp only [id]))

theorem execViewRetire_steps {σ : State} (msg : Msg) : Answers [.mem, .pool, .rows, .replies, .work, .changes, .ports, .tx, .sluice, .journal] σ (execViewRetire msg σ) := by
  unfold execViewRetire
  (try dsimp only)
  repeat' (first | with_reducible assumption | with_reducible exact Steps.refl _ _ | ((with_reducible refine covers_self ?_); rfl) | with_reducible apply Answers.next | with_reducible apply State.interruptGroup_steps | with_reducible apply State.retireView_steps | with_reducible apply State.refused_steps | with_reducible apply State.changed_steps | with_reducible apply State.serve_steps | ((with_reducible refine State.putByte_in_steps (r := .rows) ?_ ?_ ?_); (focus (simp only [Part.within, portRowAt, viewRowAt, sieveRowAt, weirRowAt, lampRowAt, headRowAt, busRowAt, firstSecondAt, resetStampAt, cellAt, bytesAt, leBytes_length, List.length_take, List.length_drop, List.length_append, List.length_cons, List.length_nil, State.memBytes_length]; (repeat' split) <;> omega))) | ((with_reducible apply State.updPort_ports_steps); (rotate_left 1); (focus (intro _; first | rfl | exact ⟨rfl, fun _ => ⟨fun h => by simp [h], fun h => by simp [h]⟩⟩ | exact ⟨⟨rfl, rfl⟩, fun _ h => by simp [h]⟩ | exact ⟨⟨rfl, rfl⟩, List.prefix_append _ _⟩ | exact ⟨rfl, rfl⟩ | exact ⟨rfl, rfl, rfl⟩ | exact ⟨⟨rfl, rfl⟩, rfl, rfl, rfl⟩ | exact ⟨rfl, rfl, rfl, rfl⟩ | ((try dsimp only); (repeat' split) <;> first | rfl | exact ⟨rfl, rfl⟩ | exact ⟨rfl, rfl, rfl⟩ | exact ⟨rfl, rfl, rfl, rfl⟩ | (simp; done)) | (simp; done))); (rotate_left 1)) | with_reducible apply Answers.ite | with_reducible apply Steps.ite | (intro _ _ _) | (intro _ _) | split | (dsimp only [id]))

theorem execViewReturn_steps {σ : State} (msg : Msg) : Answers [.replies, .work, .changes, .ports, .sluice, .journal] σ (execViewReturn msg σ) := by
  unfold execViewReturn
  (try dsimp only)
  repeat' (first | with_reducible assumption | with_reducible exact Steps.refl _ _ | ((with_reducible refine covers_self ?_); rfl) | with_reducible apply Answers.next | with_reducible apply State.updView_steps | with_reducible apply State.refused_steps | with_reducible apply State.changed_steps | with_reducible apply State.serve_steps | ((with_reducible apply State.updPort_ports_steps); (rotate_left 1); (focus (intro _; first | rfl | exact ⟨rfl, fun _ => ⟨fun h => by simp [h], fun h => by simp [h]⟩⟩ | exact ⟨⟨rfl, rfl⟩, fun _ h => by simp [h]⟩ | exact ⟨⟨rfl, rfl⟩, List.prefix_append _ _⟩ | exact ⟨rfl, rfl⟩ | exact ⟨rfl, rfl, rfl⟩ | exact ⟨⟨rfl, rfl⟩, rfl, rfl, rfl⟩ | exact ⟨rfl, rfl, rfl, rfl⟩ | ((try dsimp only); (repeat' split) <;> first | rfl | exact ⟨rfl, rfl⟩ | exact ⟨rfl, rfl, rfl⟩ | exact ⟨rfl, rfl, rfl, rfl⟩ | (simp; done)) | (simp; done))); (rotate_left 1)) | with_reducible apply Answers.ite | with_reducible apply Steps.ite | (intro _ _ _) | (intro _ _) | split | (dsimp only [id]))

theorem execDesignate_steps {σ : State} (msg : Msg) : Answers [.mem, .pool, .draws, .irq, .bells, .replies, .work, .settings, .changes, .ports, .tx, .sluice, .lamps, .buses, .heads, .pair, .journal, .tag, .inject] σ (execDesignate msg σ) := by
  unfold execDesignate
  (try dsimp only)
  repeat' (first | with_reducible assumption | with_reducible exact Steps.refl _ _ | ((with_reducible refine covers_self ?_); rfl) | with_reducible apply Answers.next | with_reducible apply State.eachPort_steps | with_reducible apply State.park_steps | with_reducible apply State.unpark_steps | with_reducible apply State.changed_steps | with_reducible apply State.serve_steps | ((with_reducible apply State.setSettings_settings_steps); (rotate_left 1); (focus (intro _; first | rfl | exact ⟨rfl, fun _ => ⟨fun h => by simp [h], fun h => by simp [h]⟩⟩ | exact ⟨⟨rfl, rfl⟩, fun _ h => by simp [h]⟩ | exact ⟨⟨rfl, rfl⟩, List.prefix_append _ _⟩ | exact ⟨rfl, rfl⟩ | exact ⟨rfl, rfl, rfl⟩ | exact ⟨⟨rfl, rfl⟩, rfl, rfl, rfl⟩ | exact ⟨rfl, rfl, rfl, rfl⟩ | ((try dsimp only); (repeat' split) <;> first | rfl | exact ⟨rfl, rfl⟩ | exact ⟨rfl, rfl, rfl⟩ | exact ⟨rfl, rfl, rfl, rfl⟩ | (simp; done)) | (simp; done))); (rotate_left 1)) | with_reducible apply Answers.ite | with_reducible apply Steps.ite | (intro _ _ _) | (intro _ _) | split | (dsimp only [id]))

theorem execTapRead_steps {σ : State} (msg : Msg) : Answers [.mem, .pool, .replies, .work, .tx, .sluice] σ (execTapRead msg σ) := by
  unfold execTapRead
  (try dsimp only)
  repeat' (first | with_reducible assumption | with_reducible exact Steps.refl _ _ | ((with_reducible refine covers_self ?_); rfl) | with_reducible apply Answers.next | with_reducible apply State.done_steps | with_reducible apply State.serve_steps | with_reducible apply State.tapItems_steps | (intro _ _ _) | (intro _ _) | (dsimp only [id]))

theorem execBooks_steps {σ : State} (msg : Msg) : Answers [.replies, .work] σ (execBooks msg σ) := by
  unfold execBooks
  (try dsimp only)
  repeat' (first | with_reducible assumption | with_reducible exact Steps.refl _ _ | ((with_reducible refine covers_self ?_); rfl) | with_reducible apply Answers.next | with_reducible apply State.done_steps | with_reducible apply State.serve_steps | (intro _ _ _) | (intro _ _) | (dsimp only [id]))

/-- Every command completes, changing at most the parts that `parts` names for it. -/
theorem exec_answers (c : Instr) (s : State) : Answers (parts c) s (exec c s) := by
  cases c with
  | powerOnResetRelease rank waitOd orderMet => exact execPowerOnResetRelease_steps rank waitOd orderMet
  | resetComplete => exact execResetComplete_steps
  | supplyCollapse => exact execSupplyCollapse_steps
  | orderFault => exact execOrderFault_steps
  | vanaLost => exact execVanaLost_steps
  | vanaBack => exact execVanaBack_steps
  | nresetAssert => exact execNresetAssert_steps
  | nresetRelease rank waitOd => exact execNresetRelease_steps rank waitOd
  | deviceReset => exact execDeviceReset_steps
  | hresetAssert => exact execHresetAssert_steps
  | hresetRelease => exact execHresetRelease_steps
  | tallyLost => exact execTallyLost_steps
  | tallyBack => exact execTallyBack_steps
  | paceUpdate count => exact execPaceUpdate_steps count
  | tempConversion reading => exact execTempConversion_steps reading
  | auditSet bit => exact execAuditSet_steps bit
  | requestHold win => exact execRequestHold_steps win
  | requestLoad win => exact execRequestLoad_steps win
  | requestProve win => exact execRequestProve_steps win
  | requestRun win => exact execRequestRun_steps win
  | requestTrim win => exact execRequestTrim_steps win
  | requestVigil win => exact execRequestVigil_steps win
  | requestDoze win => exact execRequestDoze_steps win
  | requestProbe win => exact execRequestProbe_steps win
  | modereqUnknown win code => exact execModereqUnknown_steps win code
  | dozeDrainTimeout => exact execDozeDrainTimeout_steps
  | selfTestEnd result => exact execSelfTestEnd_steps result
  | modeTransitionComplete dutyIn => exact execModeTransitionComplete_steps dutyIn
  | wakeEdge port mark => exact execWakeEdge_steps port mark
  | culvertTimeout kind => exact execCulvertTimeout_steps kind
  | clash kind => exact execClash_steps kind
  | accessAbandoned kind => exact execAccessAbandoned_steps kind
  | registerWrite win offset value => exact execRegisterWrite_steps win offset value
  | splitLowWrite ch reg value => exact execSplitLowWrite_steps ch reg value
  | elapsed0Read reg => exact execElapsed0Read_steps reg
  | irqstatWrite value => exact execIrqstatWrite_steps value
  | irqforceWrite value => exact execIrqforceWrite_steps value
  | winpageWrite value => exact execWinpageWrite_steps value
  | winaddrWrite value => exact execWinaddrWrite_steps value
  | winctlWrite value => exact execWinctlWrite_steps value
  | windataRead => exact execWindataRead_steps
  | windataWrite value => exact execWindataWrite_steps value
  | readaheadExpire => exact execReadaheadExpire_steps
  | lockRequest value => exact execLockRequest_steps value
  | lockGrant => exact execLockGrant_steps
  | lockRelease => exact execLockRelease_steps
  | lockTimeout => exact execLockTimeout_steps
  | loadStart => exact execLoadStart_steps
  | loadCheckEnd => exact execLoadCheckEnd_steps
  | mboxPost ch value => exact execMboxPost_steps ch value
  | mboxTake ch => exact execMboxTake_steps ch
  | replyPost ch => exact execReplyPost_steps ch
  | mboxRead ch => exact execMboxRead_steps ch
  | inAbortedClear ch => exact execInAbortedClear_steps ch
  | attend ch => exact execAttend_steps ch
  | flushDone ch => exact execFlushDone_steps ch
  | timeMark ch => exact execTimeMark_steps ch
  | doorbellLampTest ch => exact execDoorbellLampTest_steps ch
  | doorbellRelease ch => exact execDoorbellRelease_steps ch
  | hostAlive ch => exact execHostAlive_steps ch
  | journalSync ch => exact execJournalSync_steps ch
  | auditRecheck ch stands => exact execAuditRecheck_steps ch stands
  | hostWatchLapse => exact execHostWatchLapse_steps
  | tagHostRead => exact execTagHostRead_steps
  | tagHostWrite => exact execTagHostWrite_steps
  | tagLock => exact execTagLock_steps
  | tagUnlock => exact execTagUnlock_steps
  | tagBadOp op => exact execTagBadOp_steps op
  | tagHostOpDone verified => exact execTagHostOpDone_steps verified
  | watchdogExpire => exact execWatchdogExpire_steps
  | engineFault => exact execEngineFault_steps
  | engineRestartDone => exact execEngineRestartDone_steps
  | bodycrcRecheck => exact execBodycrcRecheck_steps
  | unknownCommand code msg => exact execUnknownCommand_steps code msg
  | version msg => exact execVersion_steps msg
  | setEpoch msg => exact execSetEpoch_steps msg
  | getTime msg => exact execGetTime_steps msg
  | digest msg => exact execDigest_steps msg
  | hostWatch msg => exact execHostWatch_steps msg
  | heartbeat msg => exact execHeartbeat_steps msg
  | pvyshInterval => exact execPvyshInterval_steps
  | mgmtSet msg => exact execMgmtSet_steps msg
  | mgmtRead msg => exact execMgmtRead_steps msg
  | events msg => exact execEvents_steps msg
  | portSet msg => exact execPortSet_steps msg
  | portGet msg => exact execPortGet_steps msg
  | portRetire msg => exact execPortRetire_steps msg
  | portRetireDone port => exact execPortRetireDone_steps port
  | portReturn msg => exact execPortReturn_steps msg
  | portStats msg => exact execPortStats_steps msg
  | sieveLoad msg => exact execSieveLoad_steps msg
  | sieveCommit msg => exact execSieveCommit_steps msg
  | sieveCopyDone => exact execSieveCopyDone_steps
  | sieveGet msg => exact execSieveGet_steps msg
  | sieveHits msg => exact execSieveHits_steps msg
  | weirSet msg => exact execWeirSet_steps msg
  | weirGet msg => exact execWeirGet_steps msg
  | viewSet msg => exact execViewSet_steps msg
  | viewGet msg => exact execViewGet_steps msg
  | viewFlush msg => exact execViewFlush_steps msg
  | ingressFlush msg => exact execIngressFlush_steps msg
  | sluiceFlush msg => exact execSluiceFlush_steps msg
  | viewRetire msg => exact execViewRetire_steps msg
  | viewReturn msg => exact execViewReturn_steps msg
  | designate msg => exact execDesignate_steps msg
  | tapRead msg => exact execTapRead_steps msg
  | hostInject msg => exact execHostInject_steps msg
  | books msg => exact execBooks_steps msg
  | hedgeSet msg => exact execHedgeSet_steps msg
  | headSet msg => exact execHeadSet_steps msg
  | headGet msg => exact execHeadGet_steps msg
  | headRetire msg => exact execHeadRetire_steps msg
  | headReturn msg => exact execHeadReturn_steps msg
  | headReturnDone bus head silent => exact execHeadReturnDone_steps bus head silent
  | lampSet msg => exact execLampSet_steps msg
  | lampGet msg => exact execLampGet_steps msg
  | alarmAck msg => exact execAlarmAck_steps msg
  | alarmSet msg => exact execAlarmSet_steps msg
  | lampTest msg => exact execLampTest_steps msg
  | pairSet msg dutyIn => exact execPairSet_steps msg dutyIn
  | pairArm msg => exact execPairArm_steps msg
  | pairDisarm msg => exact execPairDisarm_steps msg
  | pairStatus msg => exact execPairStatus_steps msg
  | pairHandover msg => exact execPairHandover_steps msg
  | pairHandoverDone dutyIn => exact execPairHandoverDone_steps dutyIn
  | journalStatus msg => exact execJournalStatus_steps msg
  | journalRead msg errors => exact execJournalRead_steps msg errors
  | journalMark msg => exact execJournalMark_steps msg
  | journalFormat msg => exact execJournalFormat_steps msg
  | journalFormatDone bad => exact execJournalFormatDone_steps bad
  | journalKinds msg => exact execJournalKinds_steps msg
  | tagPublish msg => exact execTagPublish_steps msg
  | publishDone => exact execPublishDone_steps
  | autoPublish => exact execAutoPublish_steps
  | tagRecord msg => exact execTagRecord_steps msg
  | tagInfo msg => exact execTagInfo_steps msg
  | injectEnable msg => exact execInjectEnable_steps msg
  | injectSet msg => exact execInjectSet_steps msg
  | injectClear msg => exact execInjectClear_steps msg
  | loopback msg => exact execLoopback_steps msg
  | ampSweep msg => exact execAmpSweep_steps msg
  | ampSweepDone port volts => exact execAmpSweepDone_steps port volts
  | counters msg => exact execCounters_steps msg
  | startEdge port mark => exact execStartEdge_steps port mark
  | characterStored port samples volts => exact execCharacterStored_steps port samples volts
  | autobaudAccept port edges volts => exact execAutobaudAccept_steps port edges volts
  | breakSeen port => exact execBreakSeen_steps port
  | stuckSeen port => exact execStuckSeen_steps port
  | portStuck port => exact execPortStuck_steps port
  | portRearmed port => exact execPortRearmed_steps port
  | silenceLapse port => exact execSilenceLapse_steps port
  | driverHot port => exact execDriverHot_steps port
  | driverOk port => exact execDriverOk_steps port
  | assemblerTake port => exact execAssemblerTake_steps port
  | sieveDecision => exact execSieveDecision_steps
  | weirRefill gov => exact execWeirRefill_steps gov
  | deferCommit gov => exact execDeferCommit_steps gov
  | alarmCellWaitEnd => exact execAlarmCellWaitEnd_steps
  | itemBegin port cts => exact execItemBegin_steps port cts
  | ctsResume port cts => exact execCtsResume_steps port cts
  | itemSent port => exact execItemSent_steps port
  | breach port sent => exact execBreach_steps port sent
  | groupAbandon port => exact execGroupAbandon_steps port
  | siltTake => exact execSiltTake_steps
  | recordAccepted => exact execRecordAccepted_steps
  | pageClose => exact execPageClose_steps
  | pageProgrammed pass errors => exact execPageProgrammed_steps pass errors
  | eraseDone ok => exact execEraseDone_steps ok
  | nandTimeout op => exact execNandTimeout_steps op
  | scrubRead errors => exact execScrubRead_steps errors
  | journalMount => exact execJournalMount_steps
  | engineViewTake => exact execEngineViewTake_steps
  | pollingRoundStart bus => exact execPollingRoundStart_steps bus
  | hedgeCommandSend port => exact execHedgeCommandSend_steps port
  | replyAccepted bus frame => exact execReplyAccepted_steps bus frame
  | replyTimeout bus => exact execReplyTimeout_steps bus
  | frameGapTimeout port => exact execFrameGapTimeout_steps port
  | frameAbandoned port => exact execFrameAbandoned_steps port
  | readbackMismatch port => exact execReadbackMismatch_steps port
  | attentionTaken bus tenths => exact execAttentionTaken_steps bus tenths
  | rollCallEnd bus answers => exact execRollCallEnd_steps bus answers
  | sleepPropose bus msLeft => exact execSleepPropose_steps bus msLeft
  | objectionWindowEnd bus objected => exact execObjectionWindowEnd_steps bus objected
  | sleepAbort bus onCommit => exact execSleepAbort_steps bus onCommit
  | busWake bus byPulse => exact execBusWake_steps bus byPulse
  | busBlind port => exact execBusBlind_steps port
  | blindProbe bus reading => exact execBlindProbe_steps bus reading
  | busRecovered port => exact execBusRecovered_steps port
  | headCommandReceived port frame => exact execHeadCommandReceived_steps port frame
  | lampLapse lamp => exact execLampLapse_steps lamp
  | alarmRepeat lamp => exact execAlarmRepeat_steps lamp
  | lampTestEnd lamp => exact execLampTestEnd_steps lamp
  | heartbeatSend => exact execHeartbeatSend_steps
  | heartbeatReceived hdr beat dutyIn => exact execHeartbeatReceived_steps hdr beat dutyIn
  | mirrorFrame hdr records => exact execMirrorFrame_steps hdr records
  | deliveredFrame hdr records => exact execDeliveredFrame_steps hdr records
  | itemFrame hdr item => exact execItemFrame_steps hdr item
  | lampFrame hdr records => exact execLampFrame_steps hdr records
  | epochFrame hdr epoch => exact execEpochFrame_steps hdr epoch
  | handoverFrame hdr nextSeq dutyIn => exact execHandoverFrame_steps hdr nextSeq dutyIn
  | catchupEnd hdr nextSeq => exact execCatchupEnd_steps hdr nextSeq
  | ackOnly hdr => exact execAckOnly_steps hdr
  | pleachFrameDropped bytes => exact execPleachFrameDropped_steps bytes
  | retransmit => exact execRetransmit_steps
  | linkLost dutyIn => exact execLinkLost_steps dutyIn
  | missing pairSeq => exact execMissing_steps pairSeq
  | orphan item => exact execOrphan_steps item
  | dutyClaim dutyIn => exact execDutyClaim_steps dutyIn
  | dutyYield => exact execDutyYield_steps
  | dutyEngineDown => exact execDutyEngineDown_steps
  | offsetAdopt => exact execOffsetAdopt_steps
  | pairFormed => exact execPairFormed_steps
  | splitConfig => exact execSplitConfig_steps
  | takeOver => exact execTakeOver_steps
  | fieldArrives => exact execFieldArrives_steps
  | fieldLeaves collapse => exact execFieldLeaves_steps collapse
  | inventory req => exact execInventory_steps req
  | stayQuiet req => exact execStayQuiet_steps req
  | readSingleBlock req block => exact execReadSingleBlock_steps req block
  | writeSingleBlock req block data energy => exact execWriteSingleBlock_steps req block data energy
  | lockBlock req block energy => exact execLockBlock_steps req block energy
  | readMultipleBlocks req first count => exact execReadMultipleBlocks_steps req first count
  | select req => exact execSelect_steps req
  | resetToReady req => exact execResetToReady_steps req
  | getSystemInformation req => exact execGetSystemInformation_steps req
  | getMultipleBlockSecurityStatus req first count => exact execGetMultipleBlockSecurityStatus_steps req first count
  | extendedReadSingleBlock req block => exact execExtendedReadSingleBlock_steps req block
  | extendedWriteSingleBlock req block data energy => exact execExtendedWriteSingleBlock_steps req block data energy
  | extendedReadMultipleBlocks req first count => exact execExtendedReadMultipleBlocks_steps req first count
  | extendedGetSystemInformation req => exact execExtendedGetSystemInformation_steps req
  | unsupportedTagCommand req code => exact execUnsupportedTagCommand_steps req code
  | fieldWriteDone => exact execFieldWriteDone_steps
  | fieldSessionEnd => exact execFieldSessionEnd_steps
  | mgmtEntryDue entry => exact execMgmtEntryDue_steps entry
  | mgmtTransactionEnd result => exact execMgmtTransactionEnd_steps result
  | stretchFault => exact execStretchFault_steps
  | busRecovery result => exact execBusRecovery_steps result
  | mbStuckRecheck result => exact execMbStuckRecheck_steps result
  | reorderRelease slot => exact execReorderRelease_steps slot
  | extest shift balls => exact execExtest_steps shift balls
  | highz => exact execHighz_steps
  | idcode => exact execIdcode_steps
  | samplePreload shift balls => exact execSamplePreload_steps shift balls
  | bypass code => exact execBypass_steps code
  | testLogicReset => exact execTestLogicReset_steps
  | splitHighWrite ch reg value => exact execSplitHighWrite_steps ch reg value
  | vanaGood => exact execVanaGood_steps
  | handoverDrainTimeout => exact execHandoverDrainTimeout_steps
  | sleepBegins port => exact execSleepBegins_steps port
  | headBroadcastReceived port frame => exact execHeadBroadcastReceived_steps port frame
  | headAttentionPulse port => exact execHeadAttentionPulse_steps port
  | headSleepEnds port => exact execHeadSleepEnds_steps port

/-- The front command of the queue is executed on the rest. -/
theorem step_cons {s : State} {c : Instr} {rest : List Instr} (h : s.pending = c :: rest) :
    step s = exec c { s with pending := rest } := by
  unfold step; rw [h]

/-- An empty queue lets a microsecond pass. -/
theorem step_nil {s : State} (h : s.pending = []) : step s = .next s.tick := by
  unfold step; rw [h]

/-- A step keeps the memory canonical. -/
theorem step_wf {s t : State} (h : step s = .next t) (hw : Memory.wf s.mem = true) : Memory.wf t.mem = true := by
  cases hp : s.pending with
  | nil =>
    rw [step_nil hp] at h
    cases h
    exact (State.tick_steps (ps := [.power]) (Steps.refl _ _) rfl).2 hw
  | cons c rest =>
    rw [step_cons hp] at h
    obtain ⟨u, hu, hs⟩ := exec_answers c { s with pending := rest }
    rw [hu] at h
    cases h
    exact hs.2 hw

end Sys2Proof.Machine
end

