-- ==== Sys2Proof/WellFormed.lean ====
section
/-!
DEFINITION. Which commands are well formed: the lengths and ranges that the wire or the bus gives an operand whatever the
device holds (06 Table - Message header, 17 Table - Pleach frame types, 15 R440 and Table - Frame, 19 R578).
-/
namespace Sys2Proof

/-- A message's payload: 0 to 4088 bytes (06 Table - Message header). -/
def Msg.wf (m : Msg) : Bool := decide (m.payload.length ≤ 4088)

/-- The message of a catalogue command. -/
def Instr.msg? : Instr → Option Msg
  | .unknownCommand _ m => some m
  | .version m | .setEpoch m | .getTime m | .digest m | .hostWatch m | .heartbeat m | .mgmtSet m | .mgmtRead m
  | .events m | .portSet m | .portGet m | .portRetire m | .portReturn m | .portStats m | .sieveLoad m | .sieveCommit m
  | .sieveGet m | .sieveHits m | .weirSet m | .weirGet m | .viewSet m | .viewGet m | .viewFlush m | .ingressFlush m
  | .sluiceFlush m | .viewRetire m | .viewReturn m | .designate m | .tapRead m | .hostInject m | .books m | .hedgeSet m
  | .headSet m | .headGet m | .headRetire m | .headReturn m | .lampSet m | .lampGet m | .alarmAck m | .alarmSet m
  | .lampTest m | .pairSet m _ | .pairArm m | .pairDisarm m | .pairStatus m | .pairHandover m | .journalStatus m
  | .journalRead m _ | .journalMark m | .journalFormat m | .journalKinds m | .tagPublish m | .tagRecord m | .tagInfo m
  | .injectEnable m | .injectSet m | .injectClear m | .loopback m | .ampSweep m | .counters m => some m
  | _ => none

/-- A 9-bit character: the FIFO entry's bits above 8 are not on the line (15 R436). -/
def lineFrame (f : List Half) : Bool := decide (1 ≤ f.length) && f.all fun x => decide (x.toNat < 512)

/-- The checks on a command's operands. -/
def Instr.wf (i : Instr) : Bool :=
  (match i.msg? with
    | some m => m.wf
    | none => true) &&
  match i with
  | .modereqUnknown _ c => decide (8 ≤ c.toNat)
  | .registerWrite _ o _ => decide (o.toNat % 2 = 0)
  | .characterStored _ l _ => decide (9 ≤ l.length) && decide (l.length ≤ 13)
  | .ampSweepDone _ l => decide (1 ≤ l.length) && decide (l.length ≤ 64) && l.all fun x => decide (x.length = 16)
  | .replyAccepted _ f => lineFrame f
  | .headCommandReceived _ f => lineFrame f
  | .headBroadcastReceived _ f => lineFrame f
  | .mirrorFrame _ l => decide (1 ≤ l.length) && decide (l.length ≤ 25)
  | .deliveredFrame _ l => decide (1 ≤ l.length) && decide (l.length ≤ 42)
  | .itemFrame _ i => decide (1 ≤ i.payload.length) && decide (i.payload.length ≤ 240)
  | .lampFrame _ l => decide (1 ≤ l.length) && decide (l.length ≤ 21)
  | .inventory q => decide (q.maskLen ≤ 64)
  | _ => true

end Sys2Proof
end

