-- ==== Sys2Proof/Tests/Slice0.lean ====
section
/-!
SUPPORT. Tests: witnesses that the hypotheses of each statement can be met, the well-formedness smoke test, and small
checks on fixed values.
-/
set_option linter.unusedVariables false

namespace Sys2Proof.Tests
-- One theorem after the other: the witnesses' checks side by side need a thread each, and their stacks fill the memory limit.
set_option Elab.async false
open Sys2Proof Sys2Proof.Machine

/-! ### Small states -/

/-- Reset completion is over, in a mode with the engine up and the supplies good. -/
def live (m : Mode) : State :=
  let s := State.reset.setPower fun w =>
    { w with completing := false, vanaGood := true, vanaSettled := true, tallyLost := false, elapsed := 1000 }
  let s := s.setModes fun r => { r with mode := m, target := m, busy := false }
  (s.setEngine fun e => { e with up := true, image := .checked, testEnded := true }).setCounting !m.working

/-- The same with the engine stopped. -/
def still (m : Mode) : State := (live m).setEngine fun e => { e with up := false, image := .none, testEnded := false }

/-- A command message on CTL with the tag 7. -/
def msg (bs : List Byte) : Msg := { ch := .n, tag := 7, payload := bs }

/-- A state whose firmware has taken one message. -/
def offer (s : State) (code : Half) (bs : List Byte) : State :=
  s.setEngine fun e => { e with
    taken := [{ ch := .n, code := code, tag := 7, payload := bs, malformed := false, stamp := 1000, doubt := false }] }

/-- The command accepted before, on CTL with the tag 7. -/
def owing (s : State) (code : Half) (w : Work) : State :=
  s.setEngine fun e => { e with accepted := [{ ch := .n, code := code, tag := 7, work := w }] }

/-- A port row: talker and listener at 4800 Bd. -/
def talkRow : BitVec 128 := BitVec.ofNat 128 (PortRow.default.toNat + 0x5000)

/-- A port row of a hedge port at 19200 Bd: `role` 2 is the master, 3 a head with address 5. -/
def hedgeRow (role : Nat) : BitVec 128 :=
  BitVec.ofNat 128 (0x2000 + role * 0x4000 + 5 * 2 ^ 16 + 2 ^ 24 + 19200 * 2 ^ 32 + 0x3010 * 2 ^ 64 + 200 * 2 ^ 80)

/-- Port 3 with a row in force on both sides and in the table, armed, with its driver enabled. -/
def withRow (s : State) (r : BitVec 128) : State :=
  (s.putBytes (portRowAt 3) (leBytes 16 r.toNat)).updPort 3 fun q =>
    { q with rxRow := r, txRow := r, armed := true, driver := true }

/-- The lone device in RUN with port 3 the master of bus slot 0, polling, and head 5 configured and active. -/
def hedged : State :=
  ((((withRow (live .run) (hedgeRow 2)).putBytes (busRowAt 0) [3, 0, 10, 0, 3, 1]).putBytes (busRowAt 1)
    (List.replicate 7 0xFF)).putBytes (headRowAt 0 4) [0, 0x80]).updHead 0 4 (fun h => { h with state := hsActive })
    |>.updBus 0 fun b => { b with state := .polling }

/-- An item of three characters in cell 9. -/
def item (n : Nat) : Item :=
  { id := n, cells := [9], payload := [0x21, 0x41, 0x42], tagLen := 0, source := 3, stamp := 5, doubt := false, flags := 0,
    place := .committed, void := false, alarm := false, cls := 4, rule := 511, breach := false, group := false,
    stampAct := 0, mask := 0, engine := false, pairSeq := 0, gov := none, refs := 1, isMatched := false }

/-- That item on the road, linked to one view. -/
def linked (s : State) (v : Fin 52) (i : Item) : State :=
  (s.setSluice fun d => { d with free := d.free.erase 9, items := [i], nextId := i.id + 1 }).updView v fun w =>
    { w with queue := [{ item := i.id, cls := 4, order := 5, source := 3, front := false }] }

/-- A link of that item, and the item on a listener's line, with its first character begun or not. -/
def link6 : Link := { item := 6, cls := 4, order := 5, source := 3, front := false }
def sent6 (begun : Bool) : Sending :=
  { item := 6, bytes := [0x21, 0x41, 0x42, 13, 10], resend := false, begun := begun }
def onAir (begun : Bool) : State :=
  ((linked (withRow (live .run) talkRow) 3 { item 6 with mask := 8 }).updView 3 fun v =>
    { v with queue := [], inFlight := [link6] }).updTx 3 fun x => { x with sending := some (sent6 begun) }

/-- The same with an alarm, item 8, that waits to breach it. -/
def breached (begun : Bool) : State :=
  ((onAir begun).setSluice fun d => { d with
    items := d.items ++ [{ item 8 with cells := [10], cls := 0, mask := 8, breach := true }], nextId := 9 }).updTx 3
    fun x => { x with breachers := [8] }

/-- One character in a receive FIFO. -/
def entry (bits : Half) : Entry := { bits := bits, stamp := 5, doubt := false, reading := none, valid := false }

/-- A talker in RUN that holds these characters. -/
def talking (l : List Entry) : State := (withRow (live .run) talkRow).updPort 3 fun q => { q with fifo := l }

/-- The samples of '$' at 8N1, and the same with a space for the stop bit. -/
def dollar (stop : Bool) : List Samples :=
  [false, false, false, true, false, false, true, false, false, stop].map fun b => ⟨b, b, b⟩

/-- A lamp alarm of one character that waits for a cell. -/
def wait1 : AlarmWait := { payload := [65], stamp := 5, doubt := false, route := 255, injected := false, move := none }

/-- A NAND medium of three ring blocks and one spare, formatted and empty. -/
def nand0 : Nand :=
  { geom := { pageSize := 2048, spareSize := 128, pagesPerBlock := 64, blocks := 8, factoryBad := [], listed := [1] },
    timing := [0], formatted := true, bad := [], tables := [0, 1], tableBase := 1, spares := [5], ring := [2, 3, 4],
    generation := 1, erases := [], pages := [], block := 2, nextPage := 0, serial := 0, scrubAt := 0, fresh := false,
    erasing := [], left := none, resets := [] }

/-- A page of one record, a closed staging page that has failed so often, and the medium with that page on it. -/
def page9 (serial : Nat) : Page :=
  { boot := 4, records := [{ kind := 9, flags := 0, boot := 4, stamp := 5, seq := 8, body := [65] }], serial := serial,
    relocated := false, early := false }
def closing (fails : Nat) : Closing := { staging := 3, page := page9 0, fails := fails, movedFrom := none }
def paged : Nand := { nand0 with pages := [{ block := 2, index := 0, page := page9 1 }], serial := 1, nextPage := 1 }

/-- A mounted journal on that medium. -/
def journalled (s : State) (n : Nand) : State :=
  s.setJournal fun j => { j with mounted := true, state := 0, boot := 4, nextSeq := 9, nand := some n }

/-- The characters of a Hedge frame as the receive FIFO holds them: bit 8 on the address. -/
def onLine (bs : List Byte) : List Half :=
  match bs with
  | [] => []
  | a :: r => (a.setWidth 16 ||| 0x100) :: r.map fun b => b.setWidth 16

/-- One POLL of head 5 outstanding on bus slot 0, its first attempt. -/
def polled : State :=
  hedged.updBus 0 fun b => { b with exchange := some { cmd := hedgeCmd 4 tyPoll [], toggle := true, fails := 0 } }

/-- A master that sends one POLL's bytes on port 3. -/
def POLL : Exchange := { cmd := hedgeCmd 4 tyPoll [], toggle := true, fails := 0 }

/-- Port 3 is head 5 of a bus, its driver settled. -/
def heading : State := withRow (live .run) (hedgeRow 3)
def asHead (f : HeadRole → HeadRole) : State := heading.updRole 3 f

/-- The engine of a paired device in RUN with its link up. -/
def paired (r : Role) : State :=
  ((live .run).setSettings fun g => { g with pairEnable := true }).setPair fun p =>
    { p with role := r, linkUp := true, dutyOut := decide (r = .duty), dutyIn := decide (r = .standby) }

/-- A request that the tag hears. -/
def req : TagReq := { select := false, address := false, uid := 0, option := false, format := true }

/-- A field is on the tag. -/
def fielded : State := (live .run).setTag fun t => { t with field := true }

def row0 : MirrorRec := { pairSeq := 9, source := 3, length := 3, crc := 0 }
def beat0 : Heartbeat :=
  { flags := 1, rank := true, mode := 3, major := 1, minor := 0, patch := 0, digest := 0, elapsed := 900 }

/-- A commissioning record of generation 1 with the one byte 65 in the first slot. -/
def tagDemo : List (Nat × Word) :=
  [(0, 0x52435156), (1, 0x10001), (2, 65), (3, crc32 [0x56, 0x51, 0x43, 0x52, 1, 0, 1, 0, 65, 0, 0, 0])]

/-- The six edges of '$' at 4800 Bd. -/
def EDG : Edges := { e2 := 625000, e3 := 833333, e4 := 1250000, e5 := 1458333, e6 := 1875000, markAfter := true }

/-- Scan entry 15 enabled: address 0x50, one byte, every second. -/
def scanning : State :=
  (live .run).setSettings fun g => { g with scan := g.scan.set 15 (BitVec.ofNat 64 (10 * 2 ^ 48 + 2 ^ 32 + 0x350)) }

def nextOf (o : Host.Outcome State Fault Refusal) : State :=
  match o with
  | .next t => t
  | .fault _ | .refused _ => State.reset

def jOf (o : Option Journal) : Journal := o.getD Journal.reset
def nOf (o : Option Nand) : Nand := o.getD nand0

/-- No UID is the only one. -/
theorem other_uid (u : BitVec 64) : ∃ v : BitVec 64, v ≠ u := by
  refine ⟨u + 1, fun h => ?_⟩
  have := congrArg BitVec.toNat h
  have l := u.isLt
  simp at this
  omega

/-- The empty mask selects every tag. -/
theorem some_mask (n : Nat) : ∃ (k : Nat) (m : BitVec 64), n % 2 ^ k = m.toNat % 2 ^ k := ⟨0, 0, by simp [Nat.mod_one]⟩

/-! ### The hypotheses of each statement can be met -/

/-- States that meet the hypotheses of StepRunsTheFrontCommand. -/
theorem test_meets_StepRunsTheFrontCommand :
    (∃ (s : State) (c : Instr) (rest : List Instr), s.pending = c :: rest) :=
  ⟨{ State.reset with pending := [.orderFault] }, .orderFault, [], by decide +kernel⟩

/-- States that meet the hypotheses of EmptyQueueCountsAMicrosecond. -/
theorem test_meets_EmptyQueueCountsAMicrosecond :
    (∃ (s : State), s.pending = []) :=
  ⟨State.reset, by decide +kernel⟩

/-- States that meet the hypotheses of MemoryStaysCanonical. -/
theorem test_meets_MemoryStaysCanonical :
    (∃ (s : State) (t : State), MemCanonical s ∧ step s = .next t) :=
  ⟨State.reset, State.reset.tick, ⟨by unfold MemCanonical; decide, rfl⟩⟩

/-- States that meet the hypotheses of TapCommandsAloneReachTheTestPort, clause by clause. -/
theorem test_meets_TapCommandsAloneReachTheTestPort :
    (∃ (s : State) (sh : Option ScanOut) (balls : ScanIn), s.power.running = true) ∧
    (∃ (s : State) (sh : ScanOut) (balls : ScanIn), s.power.running = true) ∧
    (∃ (s : State), s.power.running = true) ∧
    (∃ (s : State) (k : BitVec 4), s.power.running = true ∧ 4 ≤ k.toNat) ∧
    (∃ (s : State) (p : PortNo) (x : TxPhase), s.jtag.ir = 3) ∧
    (∃ (s : State) (p : PortNo) (x : TxPhase), s.jtag.ir = 0) ∧
    (∃ (s : State), (s.jtag.ir = 0 ∨ s.jtag.ir = 3)) ∧
    (∃ (c : Instr) (s : State) (t : State), exec c s = .next t ∧ t.jtag ≠ s.jtag) :=
  ⟨⟨State.reset, none, State.reset.jtag.seen, by decide +kernel⟩,
   ⟨State.reset, State.reset.jtag.out, State.reset.jtag.seen, by decide +kernel⟩,
   ⟨State.reset, by decide +kernel⟩,
   ⟨State.reset, 4, by decide +kernel⟩,
   ⟨State.reset.setJtag { State.reset.jtag with ir := 3 }, 47, .before, by decide +kernel⟩,
   ⟨State.reset.setJtag { State.reset.jtag with ir := 0 }, 47, .rest, by decide +kernel⟩,
   ⟨State.reset.setJtag { State.reset.jtag with ir := 0 }, by decide +kernel⟩,
   ⟨.highz, State.reset, State.reset.setJtag { State.reset.jtag with ir := 3 }, ⟨rfl, by decide⟩⟩⟩

/-- States that meet the hypotheses of ResetsLeaveHoldAndKeepTheTag, clause by clause. -/
theorem test_meets_ResetsLeaveHoldAndKeepTheTag :
    (∃ (s : State) (rank : Bool) (od : Bool) (met : Bool), s.power.running = false) ∧
    (∃ (s : State), s.power.running = true) ∧
    (∃ (s : State), s.power.running = true ∧ s.power.nresetLow = false) ∧
    (∃ (s : State), s.busServed = true) :=
  ⟨⟨(State.reset.setPower fun w => { w with running := false, orderFault := true }), true, false, true, by decide +kernel⟩,
   ⟨(((live .run).setTag fun t => { t with blocks := [(3, 5)] }).setPair fun p => { p with dutyOut := true }), by decide +kernel⟩,
   ⟨(((live .run).setTag fun t => { t with blocks := [(3, 5)] }).setPair fun p => { p with dutyOut := true }), by decide +kernel⟩,
   ⟨(((live .run).setTag fun t => { t with blocks := [(3, 5)] }).setPair fun p => { p with dutyOut := true }), by decide +kernel⟩⟩

/-- States that meet the hypotheses of ResetCompletionClearsBusy. -/
theorem test_meets_ResetCompletionClearsBusy :
    (∃ (s : State), s.released = true ∧ s.power.completing = true) :=
  ⟨((State.reset.setModes fun r => { r with owed := [.ctl] }).putByte 0xF7C05 7), by decide +kernel⟩

/-- States that meet the hypotheses of SupplyPinsStrapsAndPace, clause by clause. -/
theorem test_meets_SupplyPinsStrapsAndPace :
    (∃ (s : State) (rank : Bool) (od : Bool), s.power.nresetLow = true ∧ s.power.running = true) ∧
    (∃ (s : State), s.power.vanaGood = false) ∧
    (∃ (s : State) (v : Half), s.alive = true) ∧
    (∃ (s : State) (n : Nat), s.alive = true ∧ s.mode ≠ .doze ∧ n / 1000 < 65536) ∧
    (∃ (s : State) (n : Nat), s.mode = .doze) :=
  ⟨⟨(State.reset.setPower fun w => { w with nresetLow := true }), true, true, by decide +kernel⟩,
   ⟨State.reset, by decide +kernel⟩,
   ⟨live .run, 0x0123, by decide +kernel⟩,
   ⟨(live .run).setPower fun w => { w with paceLow := true, paceGood := 9 }, 450000, by decide +kernel⟩,
   ⟨live .doze, 1, by decide +kernel⟩⟩

/-- States that meet the hypotheses of SupplyLossAndReturn, clause by clause. -/
theorem test_meets_SupplyLossAndReturn :
    (∃ (s : State), s.released = true ∧ s.power.vanaGood = true) ∧
    (∃ (s : State), s.released = true ∧ s.power.vanaGood = true ∧ s.power.vanaSettled = false ∧ s.power.vanaWasLost =
      true) ∧
    (∃ (s : State), s.power.running = true ∧ s.power.tallyLost = false) ∧
    (∃ (s : State), s.power.running = true ∧ s.power.tallyLost = true ∧ s.power.tallyWasLost = true) :=
  ⟨⟨withRow (live .run) talkRow, by decide +kernel⟩,
   ⟨(withRow (live .run) talkRow).setPower fun w => { w with vanaSettled := false, vanaWasLost := true }, by decide +kernel⟩,
   ⟨live .run, by decide +kernel⟩,
   ⟨(live .run).setPower fun w => { w with tallyLost := true, tallyWasLost := true }, by decide +kernel⟩⟩

/-- States that meet the hypotheses of AuditBitsRingDoorbellEight, clause by clause. -/
theorem test_meets_AuditBitsRingDoorbellEight :
    (∃ (s : State) (b : Fin 8), s.roadRuns = true ∧ (s.engine.up = true ∨ b.val < 4 ∨ b.val = 7)) ∧
    (∃ (s : State) (c : Chan) (x : BitVec 3), s.serves = true ∧ (s.chan c).bellOut.getLsbD 7 = true) :=
  ⟨⟨still .run, 7, by decide +kernel⟩,
   ⟨(live .run).setChan .n fun r => { r with bellOut := 0xFF }, .n, 7, by decide +kernel⟩⟩

/-- States that meet the hypotheses of HostResetClearsTheHostSide. -/
theorem test_meets_HostResetClearsTheHostSide :
    (∃ (s : State), s.released = true ∧ s.culvert.hreset = false) :=
  ⟨(live .run).setCulvert fun c => { c with lock := .granted, irqmask := 3 }, by decide +kernel⟩

/-- States that meet the hypotheses of IrqstatClearsAndIrqforceSets, clause by clause. -/
theorem test_meets_IrqstatClearsAndIrqforceSets :
    (∃ (s : State) (v : Half), s.busServed = true) ∧
    (∃ (s : State) (v : Half), s.busServed = true) :=
  ⟨⟨(live .run).setCulvert fun c => { c with irqstat := 0x30, errcause := .edge, more := true }, 0x0010, by decide +kernel⟩,
   ⟨(live .run).setCulvert fun c => { c with irqstat := 0x30, errcause := .edge, more := true }, 0x0010, by decide +kernel⟩⟩

/-- States that meet the hypotheses of WindowRegistersTakeTheirFields, clause by clause. -/
theorem test_meets_WindowRegistersTakeTheirFields :
    (∃ (s : State) (v : Half), s.busServed = true) ∧
    (∃ (s : State) (v : Half), s.busServed = true) ∧
    (∃ (s : State) (v : Half), s.busServed = true) :=
  ⟨⟨live .run, 0xFFFF, by decide +kernel⟩,
   ⟨live .run, 0xFFFF, by decide +kernel⟩,
   ⟨live .run, 0xFFFF, by decide +kernel⟩⟩

/-- States that meet the hypotheses of WindataReadGivesTheFabricWord, clause by clause. -/
theorem test_meets_WindataReadGivesTheFabricWord :
    (∃ (s : State), s.busServed = true ∧ s.culvert.winEdge = false ∧ s.culvert.line = none) ∧
    (∃ (s : State), s.busServed = true ∧ s.culvert.winEdge = true) :=
  ⟨⟨(live .run).setCulvert fun c => { c with winaddr := 0xFFE, winpage := 0xFF }, by decide +kernel⟩,
   ⟨(live .run).setCulvert fun c => { c with winEdge := true }, by decide +kernel⟩⟩

/-- States that meet the hypotheses of WindataWriteStoresOneWord, clause by clause. -/
theorem test_meets_WindataWriteStoresOneWord :
    (∃ (s : State) (v : Half), s.busServed = true ∧ s.culvert.winEdge = false ∧ s.culvert.autoinc = false ∧
      MemCanonical s ∧ s.culvert.address + 1 < 0x100000 ∧ s.writeFault s.culvert.address = none) ∧
    (∃ (s : State) (v : Half) (e : ErrCause), s.busServed = true ∧ s.culvert.winEdge = false ∧ s.culvert.autoinc =
      false ∧ s.writeFault s.culvert.address = some e) :=
  ⟨⟨(still .hold).setCulvert fun c => { c with winpage := 0x3F, winaddr := 0xFFE, autoinc := false }, 0x1234, by unfold MemCanonical; decide +kernel⟩,
   ⟨(live .run).setCulvert fun c => { c with winpage := 0x40, winaddr := 0, autoinc := false }, 0x1234, .refused, by decide +kernel⟩⟩

/-- States that meet the hypotheses of TablesNeedALock, clause by clause. -/
theorem test_meets_TablesNeedALock :
    (∃ (s : State) (a : Nat), 0xF0000 ≤ a ∧ a < 0xF8000 ∧ (s.culvert.lock ≠ .granted ∨ s.culvert.pages.getLsbD ((a -
      0xF0000) / 4096) = false)) ∧
    (∃ (s : State) (t : State) (v : Half), 0xF0000 ≤ s.culvert.address ∧ s.culvert.address < 0xF8000 ∧
      (s.culvert.lock ≠ .granted ∨ s.culvert.pages.getLsbD ((s.culvert.address - 0xF0000) / 4096) = false) ∧ exec
      (.windataWrite v) s = .next t) :=
  ⟨⟨live .run, 0xF0000, by decide +kernel⟩,
   ⟨(live .run).setCulvert fun c => { c with winpage := 0xF7, winaddr := 0xFFE, pages := 0x7F, lock := .granted },
     nextOf (exec (.windataWrite 7) ((live .run).setCulvert fun c =>
     { c with winpage := 0xF7, winaddr := 0xFFE, pages := 0x7F, lock := .granted })), 7, ⟨by decide, by decide, by
     decide, rfl⟩⟩⟩

/-- States that meet the hypotheses of FailedAccessesAndTheElapsedLatch, clause by clause. -/
theorem test_meets_FailedAccessesAndTheElapsedLatch :
    (∃ (s : State) (k : AccessKind), s.busServed = true) ∧
    (∃ (s : State) (k : ClashKind), s.busServed = true) ∧
    (∃ (s : State), s.busServed = true) ∧
    (∃ (s : State) (c : Chan) (r : SplitReg), s.busServed = true) :=
  ⟨⟨live .run, .dataRead, by decide +kernel⟩,
   ⟨live .run, .strobes, by decide +kernel⟩,
   ⟨live .run, by decide +kernel⟩,
   ⟨live .run, .k, .mboxOut, by decide +kernel⟩⟩

/-- States that meet the hypotheses of LockRequestsAndReleases, clause by clause. -/
theorem test_meets_LockRequestsAndReleases :
    (∃ (s : State) (v : Half), s.busServed = true ∧ s.culvert.lock = .idle ∧ v.getLsbD 14 = false ∧ v.toNat % 256 ≠ 0) ∧
    (∃ (s : State) (v : Half), s.busServed = true ∧ (s.culvert.lock ≠ .idle ∨ v.getLsbD 14 = true ∨ v.toNat % 256 =
      0)) ∧
    (∃ (s : State), s.released = true ∧ s.culvert.lock = .pending) ∧
    (∃ (s : State), s.busServed = true) :=
  ⟨⟨live .run, 0x8081, by decide +kernel⟩,
   ⟨live .run, 0x8000, by decide +kernel⟩,
   ⟨(live .run).setCulvert fun c => { c with lock := .pending }, by decide +kernel⟩,
   ⟨(live .run).setCulvert fun c => { c with lock := .granted, sessionWords := 1, pages := 2 }, by decide +kernel⟩⟩

/-- States that meet the hypotheses of LockTimeoutBreaksTheLock. -/
theorem test_meets_LockTimeoutBreaksTheLock :
    (∃ (s : State), s.released = true ∧ s.culvert.lock = .granted) ∧
    (∃ (s : State), s.culvert.lock ≠ .granted) :=
  ⟨⟨(still .hold).setCulvert fun c => { c with lock := .granted, pages := 2, sessionWords := 65535 },
     by decide +kernel⟩,
   ⟨(live .run).setCulvert fun c => { c with lock := .pending }, by decide +kernel⟩⟩

/-- States that meet the hypotheses of RegisterWritesReachTheirRegister, clause by clause. -/
theorem test_meets_RegisterWritesReachTheirRegister :
    (∃ (s : State) (v : Half), s.busServed = true) ∧
    (∃ (s : State) (v : Half), s.busServed = true) ∧
    (∃ (s : State) (v : Half), s.busServed = true) ∧
    (∃ (s : State) (o : BitVec 7) (v : Half), s.busServed = true ∧ (0x54 ≤ o.toNat ∨ o = 0 ∨ o = 2 ∨ o = 6 ∨ o = 8)) :=
  ⟨⟨live .run, 0xFFFF, by decide +kernel⟩,
   ⟨live .run, 0xFFFF, by decide +kernel⟩,
   ⟨live .run, 0xFFFF, by decide +kernel⟩,
   ⟨live .run, 0x54, 0xFFFF, by decide +kernel⟩⟩

/-- States that meet the hypotheses of SplitRegistersStageAndCommit, clause by clause. -/
theorem test_meets_SplitRegistersStageAndCommit :
    (∃ (s : State) (c : Chan) (v : Half), s.busServed = true) ∧
    (∃ (s : State) (c : Chan) (v : Half), s.busServed = true) ∧
    (∃ (s : State) (c : Chan) (v : Half), s.busServed = true ∧ (s.chan c).outFull = false ∧ s.engineOff = false) ∧
    (∃ (s : State) (c : Chan) (v : Half), s.busServed = true ∧ ((s.chan c).outFull = true ∨ s.engineOff = true)) :=
  ⟨⟨live .run, .n, 0xFFFF, by decide +kernel⟩,
   ⟨live .run, .k, 0x8000, by decide +kernel⟩,
   ⟨(live .run).setChan .n fun r => { r with stMboxOut := 0x48 }, .n, 1, by decide +kernel⟩,
   ⟨(live .run).setChan .n fun r => { r with outFull := true }, .n, 1, by decide +kernel⟩⟩

/-- States that meet the hypotheses of ImageLoadAndCheck, clause by clause. -/
theorem test_meets_ImageLoadAndCheck :
    (∃ (s : State), s.busServed = true ∧ s.mode = .load ∧ s.holding = false ∧ s.engine.image ≠ .checking) ∧
    (∃ (s : State), (s.mode ≠ .load ∨ s.holding = true ∨ s.engine.image = .checking)) ∧
    (∃ (s : State) (h : List Byte), s.engine.image = .checking ∧ s.engine.header = some h) ∧
    (∃ (s : State) (h : List Byte), h.take 4 ≠ [0x42, 0x4C, 0x54, 0x4E]) :=
  ⟨⟨(still .load).setModes fun r => { r with busy := true, target := .prove }, by decide +kernel⟩,
   ⟨(still .load).setModes fun r => { r with busy := true, target := .hold }, by decide +kernel⟩,
   ⟨(still .load).setEngine fun e => { e with image := .checking, header := some [1, 2, 3, 4] }, [1, 2, 3, 4],
     by decide +kernel⟩,
   ⟨still .load, [1, 2, 3, 4], by decide +kernel⟩⟩

/-- States that meet the hypotheses of MailboxTakeReadsOrRefusesTheMessage, clause by clause. -/
theorem test_meets_MailboxTakeReadsOrRefusesTheMessage :
    (∃ (s : State) (c : Chan) (a : Nat) (len : Nat), s.serves = true ∧ (s.chan c).outFull = true ∧ ((s.chan (otherChan
      c)).outFull = false ∨ s.engine.lastServed ≠ c) ∧ a = (s.chan c).mboxOut.toNat / 8 % 2 ^ 17 * 8 ∧ len =
      s.memField (a + 2) 2) ∧
    (∃ (s : State) (c : Chan), (s.serves = false ∨ (s.chan c).outFull = false ∨ ((s.chan (otherChan c)).outFull = true
      ∧ s.engine.lastServed = c))) :=
  ⟨⟨(((live .run).setChan .n fun r => { r with outFull := true, mboxOut := 0x48 }).putBytes 0x48 [1, 1, 0, 0, 7, 0, 0,
     0]), .n, 0x48, 0, by decide +kernel⟩,
   ⟨live .run, .n, by decide +kernel⟩⟩

/-- States that meet the hypotheses of RepliesArePostedIntoAFreeSlot, clause by clause. -/
theorem test_meets_RepliesArePostedIntoAFreeSlot :
    (∃ (s : State) (c : Chan) (m : Reply) (rest : List Reply), s.serves = true ∧ MemCanonical s ∧ (s.chan c).inFull
      = false ∧ (s.chan c).repost = none ∧ (s.engine.taken.head?.all fun x => !x.malformed) = true ∧ (s.chan
      c).replies = m :: rest ∧ m.payload.length ≤ 4088 ∧ (∃ k, (s.chan c).slots.get k = .free)) ∧
    (∃ (s : State) (c : Chan), (s.serves = false ∨ ((s.engine.taken.head?.all fun x => !x.malformed) = true ∧
      ((s.chan c).replies = [] ∨ (s.chan c).inFull = true ∨ (s.chan c).repost ≠ none ∨ (∀ k, (s.chan c).slots.get k
      ≠ .free))))) :=
  ⟨⟨(live .run).setChan .n fun r =>
     { r with replies := [{ code := 0x0101, status := 0, tag := 7, payload := [1] }] }, .n,
     { code := 0x0101, status := 0, tag := 7, payload := [1] }, [], by unfold MemCanonical; decide +kernel⟩,
   ⟨live .run, .n, by decide +kernel⟩⟩

/-- States that meet the hypotheses of ReadingMboxinTakesTheMessage, clause by clause. -/
theorem test_meets_ReadingMboxinTakesTheMessage :
    (∃ (s : State) (c : Chan), s.busServed = true ∧ (s.chan c).inFull = true) ∧
    (∃ (s : State) (c : Chan), s.busServed = true ∧ (s.chan c).inFull = false) ∧
    (∃ (s : State) (c : Chan) (w : Word), s.busServed = true ∧ (s.chan c).inAborted = true ∧ (s.chan c).repost = some
      w) :=
  ⟨⟨(live .run).setChan .n fun r =>
     { r with inFull := true, mboxIn := 0x30010, inSlot := some 2, slots := r.slots.set 2 .posted }, .n, by decide +kernel⟩,
   ⟨live .run, .n, by decide +kernel⟩,
   ⟨(live .run).setChan .n fun r =>
     { r with inAborted := true, repost := some 0x30010, inSlot := some 2, slots := r.slots.set 2 .posted }, .n,
     0x30010, by decide +kernel⟩⟩

/-- States that meet the hypotheses of DoorbellsAreClearedAndActOncePerTake, clause by clause. -/
theorem test_meets_DoorbellsAreClearedAndActOncePerTake :
    (∃ (s : State) (c : Chan), s.serves = true ∧ (s.chan c).bellOut.getLsbD 4 = true) ∧
    (∃ (s : State) (c : Chan), s.serves = true ∧ (s.chan c).bellOut.getLsbD 5 = true) ∧
    (∃ (s : State) (c : Chan), s.serves = true ∧ (s.chan c).bellOut.getLsbD 0 = true) ∧
    (∃ (s : State) (c : Chan), s.serves = true ∧ (s.chan c).bellOut.getLsbD 1 = true ∧ s.mode.working = true ∧
      (s.journal.mounted = false ∨ s.journal.state = 0) ∧ s.journal.waiting.length < 64) ∧
    (∃ (s : State) (c : Chan), s.serves = true ∧ (s.chan c).bellOut.getLsbD 2 = true ∧ s.mode = .prove ∧
      s.journal.held.length < 128) ∧
    (∃ (s : State) (c : Chan), s.serves = true ∧ (s.chan c).bellOut.getLsbD 6 = true ∧ s.siltRuns = true) ∧
    (∃ (s : State) (c : Chan), (s.chan c).bellOut = 0) ∧
    (∃ (s : State), s.serves = true ∧ s.settings.hostWatch ≠ 0) :=
  ⟨⟨(live .run).setChan .n fun r => { r with bellOut := 0xFF }, .n, by decide +kernel⟩,
   ⟨(live .run).setChan .n fun r => { r with bellOut := 0xFF }, .n, by decide +kernel⟩,
   ⟨(live .run).setChan .n fun r => { r with bellOut := 0xFF }, .n, by decide +kernel⟩,
   ⟨(live .run).setChan .n fun r => { r with bellOut := 0xFF }, .n, by decide +kernel⟩,
   ⟨(live .prove).setChan .n fun r => { r with bellOut := 0xFF }, .n, by decide +kernel⟩,
   ⟨((((live .run).setChan .n fun r => { r with bellOut := 0xFF }).setJournal fun j =>
     { j with mounted := true, state := 0, boot := 4, nextSeq := 9, nand := some nand0 })), .n, by decide +kernel⟩,
   ⟨live .run, .n, by decide +kernel⟩,
   ⟨(live .run).setSettings fun g => { g with hostWatch := 5 }, by decide +kernel⟩⟩

/-- States that meet the hypotheses of TagHostPortStarts, clause by clause. -/
theorem test_meets_TagHostPortStarts :
    (∃ (s : State), s.busServed = true ∧ s.tag.busy = false) ∧
    (∃ (s : State), s.busServed = true ∧ s.tag.busy = false) ∧
    (∃ (s : State), s.busServed = true ∧ s.tag.busy = true) ∧
    (∃ (s : State) (op : BitVec 3), s.busServed = true ∧ s.tag.busy = false ∧ 4 ≤ op.toNat) :=
  ⟨⟨live .run, by decide +kernel⟩,
   ⟨live .run, by decide +kernel⟩,
   ⟨(live .run).setTag fun t => { t with busy := true }, by decide +kernel⟩,
   ⟨live .run, 4, by decide +kernel⟩⟩

/-- States that meet the hypotheses of TagHostPortEnds, clause by clause. -/
theorem test_meets_TagHostPortEnds :
    (∃ (s : State) (v : Bool) (b : Nat), s.released = true ∧ s.tag.hostOp = some (.read b) ∧ b < 1805 ∧ (s.tag.waited
      = false ∨ s.tag.writes = [])) ∧
    (∃ (s : State) (v : Bool) (b : Nat) (d : Word), s.released = true ∧ s.tag.hostOp = some (.write b d) ∧
      (s.tag.waited = false ∨ s.tag.writes = [])) ∧
    (∃ (s : State) (v : Bool), (s.tag.hostOp = none ∨ (s.tag.waited = true ∧ s.tag.writes ≠ []))) :=
  ⟨⟨(live .run).setTag fun t => { t with busy := true, hostOp := some (.read 1804) }, true, 1804, by decide +kernel⟩,
   ⟨(live .run).setTag fun t => { t with busy := true, hostOp := some (.write 1023 77) }, true, 1023, 77, by decide +kernel⟩,
   ⟨live .run, true, by decide +kernel⟩⟩

/-- States that meet the hypotheses of EngineRestartsBegin, clause by clause. -/
theorem test_meets_EngineRestartsBegin :
    (∃ (s : State), s.alive = true ∧ s.engine.up = true ∧ s.mode ≠ .doze) ∧
    (∃ (s : State), s.alive = true ∧ (s.engine.up = true ∨ s.engine.restarting = true)) ∧
    (∃ (s : State), s.engineWorks = true ∧ s.programBad = true) ∧
    (∃ (s : State), s.programBad = false) :=
  ⟨⟨live .run, by decide +kernel⟩,
   ⟨live .run, by decide +kernel⟩,
   ⟨live .run, by decide +kernel⟩,
   ⟨(live .run).setEngine fun e => { e with header := some [1, 2, 3, 4] }, by decide +kernel⟩⟩

/-- States that meet the hypotheses of EngineRestartEnds, clause by clause. -/
theorem test_meets_EngineRestartEnds :
    (∃ (s : State), s.alive = true ∧ s.engine.restarting = true ∧ s.mode.stopped = true ∧ (s.programBad = false ∨
      s.engine.header = none)) ∧
    (∃ (s : State), s.alive = true ∧ s.engine.restarting = true ∧ (s.mode.stopped = false ∨ s.engine.header ≠ none)
      ∧ s.programBad = true) ∧
    (∃ (s : State), s.alive = true ∧ s.engine.restarting = true ∧ s.mode.stopped = false ∧ s.programBad = false) :=
  ⟨⟨(still .hold).setEngine fun e => { e with restarting := true }, by decide +kernel⟩,
   ⟨(live .run).setEngine fun e => { e with up := false, restarting := true }, by decide +kernel⟩,
   ⟨(live .run).setEngine fun e => { e with up := false, restarting := true, header := some [1, 2, 3, 4] },
     by decide +kernel⟩⟩

/-- States that meet the hypotheses of AcceptedModeRequestsStartTheirTransition. -/
theorem test_meets_AcceptedModeRequestsStartTheirTransition :
    (∃ (s : State) (w : Window) (c : Instr) (m : Mode), (c, m) ∈ [(Instr.requestHold w, Mode.hold), (.requestLoad w,
      .load), (.requestProve w, .prove), (.requestRun w, .run), (.requestTrim w, .trim), (.requestVigil w, .vigil),
      (.requestDoze w, .doze), (.requestProbe w, .probe)] ∧ s.busServed = true ∧ s.power.completing = false ∧
      s.modes.busy = false ∧ moves s.modes.mode m = true ∧ (m = .prove → s.engine.image = .checked) ∧ (m = .run ∨ m =
      .trim ∨ m = .vigil → s.engine.prove ≠ 3) ∧ (m = .vigil → s.settings.designated ≠ []) ∧ (m = .doze →
      s.pair.formed = false)) :=
  ⟨(live .run).setSettings fun g => { g with designated := [3] }, .key, .requestVigil .key, .vigil, by decide +kernel⟩

/-- States that meet the hypotheses of RefusedModeRequestsEndAtOnce, clause by clause. -/
theorem test_meets_RefusedModeRequestsEndAtOnce :
    (∃ (s : State) (w : Window) (code : BitVec 4), s.busServed = true ∧ s.power.completing = false ∧ s.modes.busy =
      false ∧ 8 ≤ code.toNat) ∧
    (∃ (s : State) (w : Window) (c : Instr) (m : Mode) (e : Cause), (c, m) ∈ [(Instr.requestHold w, Mode.hold),
      (.requestLoad w, .load), (.requestProve w, .prove), (.requestRun w, .run), (.requestTrim w, .trim),
      (.requestVigil w, .vigil), (.requestDoze w, .doze), (.requestProbe w, .probe)] ∧ s.busServed = true ∧
      s.power.completing = false ∧ s.modes.busy = false ∧ m ≠ s.modes.mode ∧ ((moves s.modes.mode m = false ∧ e =
      .illegal) ∨ (moves s.modes.mode m = true ∧ ((m = .prove ∧ s.engine.image ≠ .checked ∧ e = .noImage) ∨ ((m = .run
      ∨ m = .trim ∨ m = .vigil) ∧ s.engine.prove = 3 ∧ e = .proveFailed) ∨ (m = .vigil ∧ s.engine.prove ≠ 3 ∧
      s.settings.designated = [] ∧ e = .noVigilList) ∨ (m = .doze ∧ s.pair.formed = true ∧ e = .pairFormed))))) ∧
    (∃ (s : State) (w : Window) (c : Instr) (m : Mode), (c, m) ∈ [(Instr.requestHold w, Mode.hold), (.requestLoad w,
      .load), (.requestProve w, .prove), (.requestRun w, .run), (.requestTrim w, .trim), (.requestVigil w, .vigil),
      (.requestDoze w, .doze), (.requestProbe w, .probe)] ∧ s.busServed = true ∧ s.power.completing = false ∧
      s.modes.busy = false ∧ m = s.modes.mode) :=
  ⟨⟨live .run, .ctl, 8, by decide +kernel⟩,
   ⟨live .run, .ctl, .requestVigil .ctl, .vigil, .noVigilList, by decide +kernel⟩,
   ⟨live .run, .ctl, .requestRun .ctl, .run, by decide +kernel⟩⟩

/-- States that meet the hypotheses of RequestsDuringATransition, clause by clause. -/
theorem test_meets_RequestsDuringATransition :
    (∃ (s : State) (w : Window) (c : Instr) (m : Mode), (c, m) ∈ [(Instr.requestHold w, Mode.hold), (.requestLoad w,
      .load), (.requestProve w, .prove), (.requestRun w, .run), (.requestTrim w, .trim), (.requestVigil w, .vigil),
      (.requestDoze w, .doze), (.requestProbe w, .probe)] ∧ s.busServed = true ∧ s.power.completing = false ∧
      s.modes.busy = true ∧ m ≠ .hold) ∧
    (∃ (s : State) (w : Window) (code : BitVec 4), s.busServed = true ∧ s.power.completing = false ∧ s.modes.busy =
      true ∧ 8 ≤ code.toNat) ∧
    (∃ (s : State) (w : Window), s.busServed = true ∧ s.power.completing = false ∧ s.modes.busy = true ∧
      s.modes.target ≠ .hold) ∧
    (∃ (s : State) (w : Window) (c : Instr) (m : Mode), (c, m) ∈ [(Instr.requestHold w, Mode.hold), (.requestLoad w,
      .load), (.requestProve w, .prove), (.requestRun w, .run), (.requestTrim w, .trim), (.requestVigil w, .vigil),
      (.requestDoze w, .doze), (.requestProbe w, .probe)] ∧ s.busServed = true ∧ s.power.completing = true) :=
  ⟨⟨(live .run).setModes fun r => { r with busy := true, target := .trim }, .ctl, .requestVigil .ctl, .vigil, by decide +kernel⟩,
   ⟨(live .run).setModes fun r => { r with busy := true, target := .trim }, .ctl, 15, by decide +kernel⟩,
   ⟨(live .run).setModes fun r => { r with busy := true, target := .trim }, .ctl, by decide +kernel⟩,
   ⟨State.reset, .key, .requestRun .key, .run, by decide +kernel⟩⟩

/-- States that meet the hypotheses of TransitionsComplete, clause by clause. -/
theorem test_meets_TransitionsComplete :
    (∃ (s : State) (d : Bool), s.alive = true ∧ s.modes.busy = true ∧ s.modes.target ≠ .prove) ∧
    (∃ (s : State), s.modes.draining = true) :=
  ⟨⟨(live .run).setModes fun r => { r with busy := true, target := .trim, owed := [.ctl] }, true, by decide +kernel⟩,
   ⟨((linked (withRow (live .run) talkRow) 3 (item 6)).updTx 3 fun x => { x with
       sending := some { item := 6, bytes := (item 6).payload ++ [13, 10], resend := false, begun := true } }).setModes
     fun r => { r with busy := true, target := .doze, draining := true }, by decide +kernel⟩⟩

/-- States that meet the hypotheses of SelfTestEndFillsTheTables. -/
theorem test_meets_SelfTestEndFillsTheTables :
    (∃ (s : State) (r : ProveResult), s.alive = true ∧ MemCanonical s ∧ s.modes.busy = true ∧ s.modes.target =
      .prove ∧ s.modes.mode = .load ∧ s.engine.up = true) :=
  ⟨(live .load).setModes fun r => { r with busy := true, target := .prove }, .passedNoNand,
    by unfold MemCanonical; decide +kernel⟩

/-- States that meet the hypotheses of WakeEdgesRaiseWake, clause by clause. -/
theorem test_meets_WakeEdgesRaiseWake :
    (∃ (s : State) (p : PortNo) (m : Nat) (h : Bool), s.alive = true ∧ s.mode = .doze ∧ (s.port p).rx.wakeArm = true
      ∧ (s.port p).stuck = false ∧ (s.port p).armed = false ∧ h = ((s.port p).hunting || ((s.port p).rx.autobaud &&
      (s.port p).parked))) ∧
    (∃ (s : State) (p : PortNo) (m : Nat), s.alive = true ∧ s.mode = .doze ∧ (s.port p).rx.wakeArm = true ∧ (s.port
      p).stuck = false ∧ (s.port p).armed = true ∧ ((s.port p).hunting = true ∨ (s.port p).starts m s.power.elapsed
      = true)) ∧
    (∃ (s : State) (p : PortNo) (m : Nat), (s.mode ≠ .doze ∨ (s.port p).rx.wakeArm = false ∨ (s.port p).stuck =
      true)) :=
  ⟨⟨(live .doze).updPort 3 fun q => { q with rxRow := BitVec.ofNat 128 (talkRow.toNat + 2048) }, 3, 16, false,
     by decide +kernel⟩,
   ⟨(live .doze).updPort 3 fun q =>
     { q with rxRow := BitVec.ofNat 128 (talkRow.toNat + 2048), armed := true, hunting := true }, 3, 0,
     by decide +kernel⟩,
   ⟨(live .doze).updPort 3 fun q => { q with rxRow := BitVec.ofNat 128 (talkRow.toNat + 2048), stuck := true }, 3,
     16, by decide +kernel⟩⟩

/-- States that meet the hypotheses of CommandsRunInTurnInTheirModeSets, clause by clause. -/
theorem test_meets_CommandsRunInTurnInTheirModeSets :
    (∃ (s : State) (m : Msg) (e : List (List Nat)) (x : Instr × Nat × (State → Bool) × (List Byte → Option Nat)), x ∈
      catalogue s m e ∧ s.serves = true ∧ s.replyHeld = false ∧ (s.engine.taken.head?.any fun a => a.asks m x.2.1) = true) ∧
    (∃ (s : State) (m : Msg) (e : List (List Nat)) (x : Instr × Nat × (State → Bool) × (List Byte → Option Nat)), x ∈
      catalogue s m e ∧ (s.serves = false ∨ ((s.engine.taken.head?.all fun a => !a.malformed) = true ∧ (s.replyHeld = true ∨
      (s.engine.taken.head?.any fun a => a.asks m x.2.1) = false)))) ∧
    (∃ (s : State) (m : Msg) (code : Half), s.offers m code.toNat inAll (fun _ => none) ∧ (∀ x, x ∈ catalogue s m [] →
      x.2.1 ≠ code.toNat)) :=
  ⟨⟨offer (live .run) 0x0101 [], msg [], [], (.version (msg []), 0x0101, inAll, exactFault []), ⟨.head _, by decide, by
     decide, by decide⟩⟩,
   ⟨live .run, msg [], [], (.version (msg []), 0x0101, inAll, exactFault []), ⟨.head _, by decide⟩⟩,
   ⟨offer (live .run) 0x0999 [], msg [], 0x0999, ⟨⟨by decide, rfl, rfl, by decide⟩, by decide +kernel⟩⟩⟩

/-- States that meet the hypotheses of QueriesReportTheTablesAndTheSystem, clause by clause. -/
theorem test_meets_QueriesReportTheTablesAndTheSystem :
    (∃ (s : State) (m : Msg), s.offers m 0x0101 inAll (exactFault [])) ∧
    (∃ (s : State) (m : Msg), s.offers m 0x0103 inAll (exactFault []) ∧ s.settings.epoch = none) ∧
    (∃ (e : Epoch) (s : State) (m : Msg), s.offers m 0x0103 inAll (exactFault []) ∧ s.settings.epoch = some e) ∧
    (∃ (s : State) (m : Msg), s.offers m 0x0104 inAll (exactFault []) ∧ s.settings.changes < 65536) ∧
    (∃ (s : State) (m : Msg), s.offers m 0x0108 inAll (exactFault [])) ∧
    (∃ (s : State) (m : Msg), s.offers m 0x0202 inAll (exactFault [upTo 1 47, anyFld 1])) ∧
    (∃ (s : State) (m : Msg), s.offers m 0x0303 inAll sieveGetFault) ∧
    (∃ (s : State) (m : Msg), s.offers m 0x0306 inAll weirGetFault) ∧
    (∃ (v : Fin 52) (s : State) (m : Msg), s.offers m 0x0402 inAll (exactFault [upTo 1 0x33, anyFld 1]) ∧ byteAt
      m.payload 0 = v.val) ∧
    (∃ (b : BusNo) (h : HeadNo) (s : State) (m : Msg), s.offers m 0x0503 inAll (exactFault [upTo 1 47, range 1 1 30])
      ∧ s.headNamed m.payload = some (b, h)) ∧
    (∃ (s : State) (m : Msg), s.offers m 0x0507 inAll lampGetFault) ∧
    (∃ (g : Half) (body : List Byte) (s : State) (m : Msg), s.offers m 0x0802 inAll (exactFault []) ∧ s.tag.current =
      some (g, body)) ∧
    (∃ (s : State) (m : Msg), s.offers m 0x0802 inAll (exactFault []) ∧ s.tag.current = none) ∧
    (∃ (s : State) (m : Msg), s.offers m 0x0803 inAll (exactFault [])) :=
  ⟨⟨offer (live .run) 0x0101 ([]), msg [], by unfold State.offers; decide +kernel⟩,
   ⟨offer (live .run) 0x0103 ([]), msg [], by unfold State.offers; decide +kernel⟩,
   ⟨{ seconds := 5, micros := 6, instant := 7 }, offer ((live .run).setSettings fun g =>
     { g with epoch := some { seconds := 5, micros := 6, instant := 7 } }) 0x0103 ([]), msg [], by unfold State.offers; decide +kernel⟩,
   ⟨offer (live .run) 0x0104 ([]), msg [], by unfold State.offers; decide +kernel⟩,
   ⟨offer (live .run) 0x0108 ([]), msg [], by unfold State.offers; decide +kernel⟩,
   ⟨offer (live .run) 0x0202 ([47, 0]), msg [47, 0], by unfold State.offers; decide +kernel⟩,
   ⟨offer (live .run) 0x0303 ([0, 0, 0xFF, 1, 1, 0]), msg [0, 0, 0xFF, 1, 1, 0], by unfold State.offers; decide +kernel⟩,
   ⟨offer (live .run) 0x0306 ([1, 0, 0xFF, 0]), msg [1, 0, 0xFF, 0], by unfold State.offers; decide +kernel⟩,
   ⟨51, offer (live .run) 0x0402 ([0x33, 0]), msg [0x33, 0], by unfold State.offers; decide +kernel⟩,
   ⟨0, 4, offer (hedged) 0x0503 ([3, 5]), msg [3, 5], by unfold State.offers; decide +kernel⟩,
   ⟨offer (live .run) 0x0507 ([0xFF, 3, 1, 0]), msg [0xFF, 3, 1, 0], by unfold State.offers; decide +kernel⟩,
   ⟨1, [65], offer ((live .run).setTag fun t => { t with blocks := tagDemo }) 0x0802 ([]), msg [], by unfold State.offers; decide +kernel⟩,
   ⟨offer (live .run) 0x0802 ([]), msg [], by unfold State.offers; decide +kernel⟩,
   ⟨offer (live .run) 0x0803 ([]), msg [], by unfold State.offers; decide +kernel⟩⟩

/-- States that meet the hypotheses of QueriesReportTheRoadAndClearWhatTheyMay, clause by clause. -/
theorem test_meets_QueriesReportTheRoadAndClearWhatTheyMay :
    (∃ (s : State) (m : Msg), s.offers m 0x040B inAll (exactFault [])) ∧
    (∃ (s : State) (m : Msg), s.offers m 0x0604 inAll (exactFault []) ∧ s.pair.peer = none) ∧
    (∃ (s : State) (m : Msg), s.offers m 0x0604 inAll (exactFault [])) ∧
    (∃ (s : State) (m : Msg), s.offers m 0x0701 inAll (exactFault [])) ∧
    (∃ (s : State) (m : Msg), s.offers m 0x0702 inWork (exactFault [anyFld 4, range 2 64 4080, anyFld 2]) ∧
      s.formatBusy = false ∧ (∀ r, r ∈ s.journal.records → r.seq.toNat < fieldAt m.payload 0 4)) ∧
    (∃ (s : State) (m : Msg) (r : Rec) (rest : List Rec), s.offers m 0x0702 inWork (exactFault [anyFld 4, range 2 64
      4080, anyFld 2]) ∧ s.formatBusy = false ∧ s.journal.records.dropWhile (fun r => decide (r.seq.toNat < fieldAt
      m.payload 0 4)) = r :: rest ∧ r.bytes.length ≤ fieldAt m.payload 4 2) ∧
    (∃ (s : State) (m : Msg) (e : List (List Nat)), s.offers m 0x0702 inWork (exactFault [anyFld 4, range 2 64 4080,
      anyFld 2]) ∧ s.formatBusy = false) ∧
    (∃ (s : State) (m : Msg), s.offers m 0x0109 inAll (exactFault [])) ∧
    (∃ (s : State) (m : Msg) (p : PortNo), s.offers m 0x0205 inAll (exactFault [upTo 1 47, anyFld 1]) ∧ byteAt
      m.payload 0 = p.val) ∧
    (∃ (s : State) (m : Msg), s.offers m 0x0304 inAll sieveHitsFault) ∧
    (∃ (s : State) (m : Msg), s.offers m 0x0906 inAll (exactFault [upTo 1 5, anyFld 1])) ∧
    (∃ (s : State) (m : Msg), s.offers m 0x0409 inWork (exactFault [range 2 376 4088]) ∧ s.tapHead viewHost = none) ∧
    (∃ (s : State) (m : Msg) (i : Item), s.offers m 0x0409 inWork (exactFault [range 2 376 4088]) ∧ s.tapHead viewHost
      = some i ∧ 24 + (pad4 i.payload).length ≤ fieldAt m.payload 0 2) :=
  ⟨⟨offer (live .run) 0x040B ([]), msg [], by unfold State.offers; decide +kernel⟩,
   ⟨offer (live .run) 0x0604 ([]), msg [], by unfold State.offers; decide +kernel⟩,
   ⟨offer (live .run) 0x0604 ([]), msg [], by unfold State.offers; decide +kernel⟩,
   ⟨offer (live .run) 0x0701 ([]), msg [], by unfold State.offers; decide +kernel⟩,
   ⟨offer (live .run) 0x0702 ([9, 0, 0, 0, 64, 0, 0, 0]), msg [9, 0, 0, 0, 64, 0, 0, 0], by unfold State.offers; decide +kernel⟩,
   ⟨offer ((journalled (live .run)
     { nand0 with pages := [{ block := 2, index := 0, page := { boot := 4, records := [{ kind := 9, flags := 0, boot := 4, stamp := 5, seq := 8, body := [65] }], serial := 1, relocated := false, early := false } }] }))
     0x0702 ([8, 0, 0, 0, 64, 0, 0, 0]), msg [8, 0, 0, 0, 64, 0, 0, 0],
     { kind := 9, flags := 0, boot := 4, stamp := 5, seq := 8, body := [65] }, [], by unfold State.offers; decide +kernel⟩,
   ⟨offer (journalled (live .run) paged) 0x0702 ([8, 0, 0, 0, 64, 0, 0, 0]), msg [8, 0, 0, 0, 64, 0, 0, 0], [[5, 9]],
     by unfold State.offers; decide +kernel⟩,
   ⟨offer (live .run) 0x0109 ([]), msg [], by unfold State.offers; decide +kernel⟩,
   ⟨offer ((live .run).updPort 47 fun q => { q with stats := { q.stats with characters := 5 } }) 0x0205 ([47, 0]), msg
     [47, 0], 47, by unfold State.offers; decide +kernel⟩,
   ⟨offer ((live .run).setSieve fun v => { v with hits := v.hits.set 511 7 }) 0x0304 ([0xFF, 1, 1, 0, 1, 0]), msg
     [0xFF, 1, 1, 0, 1, 0], by unfold State.offers; decide +kernel⟩,
   ⟨offer (live .run) 0x0906 ([5, 1]), msg [5, 1], by unfold State.offers; decide +kernel⟩,
   ⟨offer (live .run) 0x0409 ([0x78, 1]), msg [0x78, 1], by unfold State.offers; decide +kernel⟩,
   ⟨offer (linked (live .run) viewHost { item 6 with mask := BitVec.ofNat 51 (2 ^ 48) }) 0x0409 ([0x78, 1]), msg [0x78,
     1], { item 6 with mask := BitVec.ofNat 51 (2 ^ 48) }, by unfold State.offers; decide +kernel⟩⟩

/-- States that meet the hypotheses of SettingsCommandsStoreTheirFields, clause by clause. -/
theorem test_meets_SettingsCommandsStoreTheirFields :
    (∃ (s : State) (m : Msg), s.offers m 0x0102 inAll (epochFault s.takenAt.1) ∧ s.pair.role ≠ .standby) ∧
    (∃ (s : State) (m : Msg), s.offers m 0x0102 inAll (epochFault s.takenAt.1) ∧ s.pair.role = .standby) ∧
    (∃ (s : State) (m : Msg), s.offers m 0x0105 inAll (exactFault [upTo 2 600])) ∧
    (∃ (s : State) (m : Msg), s.offers m 0x0106 inAll (exactFault [upTo 2 3600])) ∧
    (∃ (s : State) (m : Msg), s.offers m 0x0509 inAll alarmSetFault) ∧
    (∃ (s : State) (m : Msg), s.offers m 0x0705 inAll (exactFault [anyFld 2])) ∧
    (∃ (s : State) (m : Msg), s.offers m 0x0107 inAll scanSetFault) ∧
    (∃ (s : State) (m : Msg), s.offers m 0x0408 inAll s.designateFault) :=
  ⟨⟨offer (live .run) 0x0102 [1, 0, 0, 0, 0x3F, 0x42, 0x0F, 0, 0xE8, 3, 0, 0, 0, 0, 0, 0], msg [1, 0, 0, 0, 0x3F,
     0x42, 0x0F, 0, 0xE8, 3, 0, 0, 0, 0, 0, 0], by unfold State.offers; decide +kernel⟩,
   ⟨offer (paired .standby) 0x0102 [1, 0, 0, 0, 0x3F, 0x42, 0x0F, 0, 0xE8, 3, 0, 0, 0, 0, 0, 0], msg [1, 0, 0, 0,
     0x3F, 0x42, 0x0F, 0, 0xE8, 3, 0, 0, 0, 0, 0, 0], by unfold State.offers; decide +kernel⟩,
   ⟨offer (live .run) 0x0105 ([0x58, 2]), msg [0x58, 2], by unfold State.offers; decide +kernel⟩,
   ⟨offer (live .run) 0x0106 ([0x10, 0x0E]), msg [0x10, 0x0E], by unfold State.offers; decide +kernel⟩,
   ⟨offer (live .run) 0x0509 ([0x49, 0x49, 0x58, 2]), msg [0x49, 0x49, 0x58, 2],
     by unfold State.offers; decide +kernel⟩,
   ⟨offer (live .run) 0x0705 ([1, 0]), msg [1, 0], by unfold State.offers; decide +kernel⟩,
   ⟨offer (live .run) 0x0107 ([1, 0] ++ List.replicate 128 0), msg ([1, 0] ++ List.replicate 128 0),
     by unfold State.offers; decide +kernel⟩,
   ⟨offer (withRow (live .vigil) talkRow) 0x0408 ([1, 3]), msg [1, 3], by unfold State.offers; decide +kernel⟩⟩

/-- States that meet the hypotheses of PairAndInjectionCommandsStoreTheirFields, clause by clause. -/
theorem test_meets_PairAndInjectionCommandsStoreTheirFields :
    (∃ (s : State) (m : Msg) (d : Bool), s.offers m 0x0601 inAll (exactFault [upTo 1 1, anyFld 1, range 2 2 100]) ∧
      ¬(byteAt m.payload 0 = 0 ∧ s.pair.role = .standby ∧ d = true)) ∧
    (∃ (s : State) (m : Msg), s.offers m 0x0601 inAll (exactFault [upTo 1 1, anyFld 1, range 2 2 100]) ∧ byteAt
      m.payload 0 = 0 ∧ s.pair.role = .standby) ∧
    (∃ (s : State) (m : Msg), s.offers m 0x0602 inWork (exactFault []) ∧ s.pair.formed = true ∧ s.pair.splitConfig =
      false) ∧
    (∃ (s : State) (m : Msg), s.offers m 0x0602 inWork (exactFault []) ∧ (s.pair.formed = false ∨ s.pair.splitConfig
      = true)) ∧
    (∃ (s : State) (m : Msg), s.offers m 0x0603 inAll (exactFault [])) ∧
    (∃ (s : State) (m : Msg), s.offers m 0x0901 inWork (exactFault [upTo 1 1, anyFld 1])) ∧
    (∃ (s : State) (m : Msg) (k : Fin 16), s.offers m 0x0902 inDiag injectFault ∧ byteAt m.payload 0 = k.val) ∧
    (∃ (s : State) (m : Msg) (k : Fin 16), s.offers m 0x0903 inAll clearFault ∧ byteAt m.payload 0 = k.val) ∧
    (∃ (s : State) (m : Msg), s.offers m 0x0903 inAll clearFault ∧ byteAt m.payload 0 = 0xFF) :=
  ⟨⟨offer (paired .standby) 0x0601 [0, 0, 2, 0], msg [0, 0, 2, 0], false, by unfold State.offers; decide +kernel⟩,
   ⟨offer (paired .standby) 0x0601 [0, 0, 100, 0], msg [0, 0, 100, 0], by unfold State.offers; decide +kernel⟩,
   ⟨offer ((paired .duty).setPair fun p => { p with formed := true }) 0x0602 ([]), msg [],
     by unfold State.offers; decide +kernel⟩,
   ⟨offer (live .run) 0x0602 ([]), msg [], by unfold State.offers; decide +kernel⟩,
   ⟨offer ((paired .duty).setPair fun p => { p with formed := true, armed := true }) 0x0603 ([]), msg [],
     by unfold State.offers; decide +kernel⟩,
   ⟨offer ((live .run).setInject fun i => { i with enabled := true }) 0x0901 ([0, 0]), msg [0, 0],
     by unfold State.offers; decide +kernel⟩,
   ⟨offer (live .probe) 0x0902 ([15, 0, 47, 0, 7, 16, 1, 0, 1, 0, 0, 0]), msg [15, 0, 47, 0, 7, 16, 1, 0, 1, 0, 0,
     0], 15, by unfold State.offers; decide +kernel⟩,
   ⟨offer (live .run) 0x0903 ([15, 0]), msg [15, 0], 15, by unfold State.offers; decide +kernel⟩,
   ⟨offer ((live .probe).setInject fun i =>
     { i with slots := i.slots.set 4 { Slot16.reset with used := true, count := 9 } }) 0x0903 ([0xFF, 0]), msg
     [0xFF, 0], by unfold State.offers; decide +kernel⟩⟩

/-- States that meet the hypotheses of PortCommandsActOnTheirPort, clause by clause. -/
theorem test_meets_PortCommandsActOnTheirPort :
    (∃ (s : State) (m : Msg) (p : PortNo), s.offers m 0x0201 inAll portSetFault ∧ byteAt m.payload 0 = p.val ∧
      s.portBusy p.val = false ∧ s.lockedAt (portRowAt p.val) = false ∧ MemCanonical s) ∧
    (∃ (s : State) (m : Msg) (p : PortNo), s.offers m 0x0201 inAll portSetFault ∧ byteAt m.payload 0 = p.val ∧
      s.portBusy p.val = true) ∧
    (∃ (s : State) (m : Msg) (p : PortNo), s.offers m 0x0201 inAll portSetFault ∧ byteAt m.payload 0 = p.val ∧
      s.portBusy p.val = false ∧ s.lockedAt (portRowAt p.val) = true) ∧
    (∃ (s : State) (m : Msg) (p : PortNo), s.offers m 0x0203 inWork sidesFault ∧ byteAt m.payload 0 = p.val ∧
      s.portBusy p.val = false ∧ ((byteAt m.payload 1 % 2 = 1 ∧ (s.port p).rxRetired = false) ∨ (byteAt m.payload 1 /
      2 % 2 = 1 ∧ (s.view (portView p)).retired = false))) ∧
    (∃ (s : State) (m : Msg) (p : PortNo), s.offers m 0x0203 inWork sidesFault ∧ byteAt m.payload 0 = p.val ∧
      s.portBusy p.val = false ∧ (byteAt m.payload 1 % 2 = 1 → (s.port p).rxRetired = true) ∧ (byteAt m.payload 1 / 2
      % 2 = 1 → (s.view (portView p)).retired = true)) ∧
    (∃ (s : State) (p : PortNo) (a : Accepted) (rx : Bool) (tx : Bool), s.serves = true ∧ a ∈ s.engine.accepted ∧
      a.work = .portRetire p rx tx ∧ (∀ b, b ∈ s.engine.accepted → (∃ x y, b.work = .portRetire p x y) → b = a) ∧ (rx
      = true → (s.port p).rxRetired = true) ∧ (tx = true → (s.view (portView p)).retired = true)) ∧
    (∃ (s : State) (m : Msg) (p : PortNo), s.offers m 0x0204 inWork sidesFault ∧ byteAt m.payload 0 = p.val ∧
      s.portBusy p.val = false) ∧
    (∃ (s : State) (m : Msg) (p : PortNo), s.offers m 0x0204 inWork sidesFault ∧ byteAt m.payload 0 = p.val ∧
      s.portBusy p.val = true) :=
  ⟨⟨offer (live .run) 0x0201 ([47, 0, 0, 0] ++ leBytes 16 talkRow.toNat ++ List.replicate 16 0), msg ([47, 0, 0, 0] ++
     leBytes 16 talkRow.toNat ++ List.replicate 16 0), 47, by unfold State.offers MemCanonical; decide +kernel⟩,
   ⟨offer (owing (live .probe) 0x0905 (.sweep 47 2)) 0x0201 ([47, 0, 0, 0] ++ leBytes 16 talkRow.toNat ++
     List.replicate 16 0), msg ([47, 0, 0, 0] ++ leBytes 16 talkRow.toNat ++ List.replicate 16 0), 47, by unfold State.offers; decide +kernel⟩,
   ⟨offer ((live .run).setCulvert fun c => { c with lock := .granted, pages := 0xFF }) 0x0201 ([47, 0, 0, 0] ++ leBytes
     16 talkRow.toNat ++ List.replicate 16 0), msg ([47, 0, 0, 0] ++ leBytes 16 talkRow.toNat ++ List.replicate 16 0),
     47, by unfold State.offers; decide +kernel⟩,
   ⟨offer ((live .run).updPort 47 fun q =>
     { q with rxRow := talkRow, txRow := talkRow, armed := true, driver := true, asm := { q.asm with state := .sentence } })
     0x0203 ([47, 3]), msg [47, 3], 47, by unfold State.offers; decide +kernel⟩,
   ⟨offer ((live .run).updPort 47 fun q => { q with rxRetired := true }) 0x0203 ([47, 1]), msg [47, 1], 47, by unfold State.offers; decide +kernel⟩,
   ⟨owing ((live .run).updPort 3 fun q => { q with rxRetired := true }) 0x0203 (.portRetire 3 true false), 3,
     { ch := .n, code := 0x0203, tag := 7, work := .portRetire 3 true false }, true, false, by decide +kernel⟩,
   ⟨offer (((withRow (live .run) talkRow).updPort 3 fun q =>
     { q with rxRetired := true, driver := false, armed := false }).updView 3 fun v => { v with retired := true })
     0x0204 ([3, 3]), msg [3, 3], 3, by unfold State.offers; decide +kernel⟩,
   ⟨offer (owing (live .probe) 0x0905 (.sweep 3 2)) 0x0204 ([3, 3]), msg [3, 3], 3, by unfold State.offers; decide +kernel⟩⟩

/-- States that meet the hypotheses of SluiceCommandsActOnTheirViews, clause by clause. -/
theorem test_meets_SluiceCommandsActOnTheirViews :
    (∃ (s : State) (m : Msg) (v : Fin 52), s.offers m 0x0401 inAll viewSetFault ∧ byteAt m.payload 0 = v.val ∧
      s.viewBusy v.val = false ∧ s.lockedAt (viewRowAt v.val) = false ∧ MemCanonical s) ∧
    (∃ (s : State) (m : Msg) (v : Fin 52), s.offers m 0x0403 inAll (exactFault [upTo 1 0x33, anyFld 1]) ∧ byteAt
      m.payload 0 = v.val ∧ s.viewBusy v.val = false) ∧
    (∃ (s : State) (m : Msg) (p : PortNo), s.offers m 0x0404 inWork (exactFault [upTo 1 47, anyFld 1]) ∧ byteAt
      m.payload 0 = p.val ∧ s.portBusy p.val = false) ∧
    (∃ (s : State) (m : Msg), s.offers m 0x0405 inWork (exactFault [])) ∧
    (∃ (s : State) (m : Msg) (v : Fin 52), s.offers m 0x0406 inWork viewRetireFault ∧ byteAt m.payload 0 = v.val ∧
      s.viewBusy v.val = false ∧ s.lockedAt (viewRowAt v.val + 1) = false ∧ MemCanonical s) ∧
    (∃ (s : State) (m : Msg) (v : Fin 52), s.offers m 0x0407 inWork (exactFault [upTo 1 0x33, anyFld 1]) ∧ byteAt
      m.payload 0 = v.val ∧ s.viewBusy v.val = false) ∧
    (∃ (s : State) (m : Msg) (v : Fin 52), s.offers m 0x0401 inAll viewSetFault ∧ byteAt m.payload 0 = v.val ∧
      s.viewBusy v.val = true) ∧
    (∃ (s : State) (m : Msg) (v : Fin 52), s.offers m 0x0406 inWork viewRetireFault ∧ byteAt m.payload 0 = v.val ∧
      s.viewBusy v.val = true) ∧
    (∃ (s : State) (m : Msg) (p : PortNo), s.offers m 0x0404 inWork (exactFault [upTo 1 47, anyFld 1]) ∧ byteAt
      m.payload 0 = p.val ∧ s.portBusy p.val = true) ∧
    (∃ (s : State) (m : Msg) (v : Fin 52), s.offers m 0x0403 inAll (exactFault [upTo 1 0x33, anyFld 1]) ∧ byteAt
      m.payload 0 = v.val ∧ s.viewBusy v.val = true) ∧
    (∃ (s : State) (m : Msg) (v : Fin 52), s.offers m 0x0407 inWork (exactFault [upTo 1 0x33, anyFld 1]) ∧ byteAt
      m.payload 0 = v.val ∧ s.viewBusy v.val = true) ∧
    (∃ (s : State) (m : Msg) (v : Fin 52), s.offers m 0x0401 inAll viewSetFault ∧ byteAt m.payload 0 = v.val ∧
      s.viewBusy v.val = false ∧ s.lockedAt (viewRowAt v.val) = true) ∧
    (∃ (s : State) (m : Msg) (v : Fin 52), s.offers m 0x0406 inWork viewRetireFault ∧ byteAt m.payload 0 = v.val ∧
      s.viewBusy v.val = false ∧ s.lockedAt (viewRowAt v.val + 1) = true) :=
  ⟨⟨offer (live .run) 0x0401 ([0x33, 0, 0, 0, 0, 0, 0, 2, 0, 0, 0, 0, 0, 0, 0, 0, 0, 0, 0, 0]), msg ([0x33, 0, 0, 0,
     0, 0, 0, 2, 0, 0, 0, 0, 0, 0, 0, 0, 0, 0, 0, 0]), 51, by unfold State.offers MemCanonical; decide +kernel⟩,
   ⟨offer (linked (withRow (live .run) talkRow) 3 { item 6 with mask := 8 }) 0x0403 ([3, 0]), msg [3, 0], 3,
     by unfold State.offers; decide +kernel⟩,
   ⟨offer ((withRow (live .run) talkRow).updAsm 3 fun a =>
     { a with state := .sentence, chars := [0x24], cells := [] }) 0x0404 ([3, 0]), msg [3, 0], 3,
     by unfold State.offers; decide +kernel⟩,
   ⟨offer (linked (withRow (live .run) talkRow) 3 { item 6 with mask := 8 }) 0x0405 ([]), msg [],
     by unfold State.offers; decide +kernel⟩,
   ⟨offer (linked (withRow (live .run) talkRow) 3 { item 6 with mask := 8 }) 0x0406 ([3, 1]), msg [3, 1], 3,
     by unfold State.offers MemCanonical; decide +kernel⟩,
   ⟨offer ((linked (withRow (live .run) talkRow) 3 { item 6 with mask := 8 }).updView 3 fun v =>
     { v with retired := true }) 0x0407 ([3, 0]), msg [3, 0], 3, by unfold State.offers; decide +kernel⟩,
   ⟨offer (owing (live .probe) 0x0905 (.sweep 3 2)) 0x0401 ([3, 0, 0, 0, 0, 0, 16, 0, 0, 0, 0, 0, 0, 0, 0, 0, 0, 0,
     0, 0]), msg ([3, 0, 0, 0, 0, 0, 16, 0, 0, 0, 0, 0, 0, 0, 0, 0, 0, 0, 0, 0]), 3,
     by unfold State.offers; decide +kernel⟩,
   ⟨offer (owing (live .probe) 0x0905 (.sweep 3 2)) 0x0406 ([3, 0]), msg [3, 0], 3,
     by unfold State.offers; decide +kernel⟩,
   ⟨offer (owing (live .probe) 0x0905 (.sweep 3 2)) 0x0404 ([3, 0]), msg [3, 0], 3,
     by unfold State.offers; decide +kernel⟩,
   ⟨offer (owing (live .probe) 0x0905 (.sweep 3 2)) 0x0403 [3, 0], msg [3, 0], 3,
     by unfold State.offers; decide +kernel⟩,
   ⟨offer (owing (live .probe) 0x0905 (.sweep 3 2)) 0x0407 [3, 0], msg [3, 0], 3,
     by unfold State.offers; decide +kernel⟩,
   ⟨offer ((live .run).setCulvert fun c => { c with lock := .granted, pages := 0xFF }) 0x0401 [0x33, 0, 0, 0, 0, 0,
     0, 2, 0, 0, 0, 0, 0, 0, 0, 0, 0, 0, 0, 0], msg [0x33, 0, 0, 0, 0, 0, 0, 2, 0, 0, 0, 0, 0, 0, 0, 0, 0, 0, 0, 0],
     51, by unfold State.offers; decide +kernel⟩,
   ⟨offer ((live .run).setCulvert fun c => { c with lock := .granted, pages := 0xFF }) 0x0406 [50, 1], msg [50, 1],
     50, by unfold State.offers; decide +kernel⟩⟩

/-- States that meet the hypotheses of SieveAndWeirCommandsActOnTheirRows, clause by clause. -/
theorem test_meets_SieveAndWeirCommandsActOnTheirRows :
    (∃ (s : State) (m : Msg), s.offers m 0x0301 inAll sieveLoadFault ∧ s.sieve.copying = false ∧ MemCanonical s ∧ (∀
      i, i < fieldAt m.payload 2 2 → s.lockedAt (sieveRowAt (!s.sieve.bankB) (fieldAt m.payload 0 2 + i)) = false)) ∧
    (∃ (s : State) (m : Msg), s.sieve.copying = true) ∧
    (∃ (s : State) (m : Msg), s.offers m 0x0302 inAll (exactFault [anyFld 4]) ∧ s.sieve.copying = false ∧ (∀ k : Fin
      4, s.lockedAt (0xF1000 + 0x1000 * k.val) = false) ∧ (fieldAt m.payload 0 4 = 0 ∨ fieldAt m.payload 0 4 =
      (crc32 (s.memBytes (sieveRowAt (!s.sieve.bankB) 0) 8192)).toNat)) ∧
    (∃ (s : State), s.alive = true ∧ s.sieve.copying = true ∧ MemCanonical s ∧ s.sieve.answer = none ∧
      s.sieve.waiting = []) ∧
    (∃ (s : State) (a : Taken), s.alive = true ∧ s.engine.up = true ∧ s.sieve.copying = true ∧ s.sieve.answer = some
      a ∧ s.sieve.waiting = [] ∧ (s.engine.taken.head?.all fun x => !x.malformed) = true) ∧
    (∃ (s : State) (m : Msg), s.offers m 0x0305 inAll (rowsCommandFault 256 16 0 fun _ _ row => weirFault row) ∧
      s.lockedAt (weirRowAt (fieldAt m.payload 0 2)) = false ∧ MemCanonical s) ∧
    (∃ (s : State) (m : Msg), s.offers m 0x0305 inAll (rowsCommandFault 256 16 0 fun _ _ row => weirFault row) ∧
      s.lockedAt (weirRowAt (fieldAt m.payload 0 2)) = true) ∧
    (∃ (s : State) (m : Msg), s.offers m 0x040A inWork (fun bs => if bs = [] then some 0 else if 352 < bs.length
      then some 352 else none) ∧ ¬(s.pair.formed = true ∧ s.pair.role = .standby) ∧ 128 + cellsFor m.payload.length
      ≤ s.freeCount) ∧
    (∃ (s : State) (m : Msg), s.offers m 0x040A inWork (fun bs => if bs = [] then some 0 else if 352 < bs.length
      then some 352 else none) ∧ ¬(s.pair.formed = true ∧ s.pair.role = .standby) ∧ s.freeCount ≤ 128) ∧
    (∃ (s : State) (m : Msg), s.offers m 0x040A inWork (fun bs => if bs = [] then some 0 else if 352 < bs.length
      then some 352 else none) ∧ s.pair.formed = true ∧ s.pair.role = .standby) :=
  ⟨⟨offer (live .run) 0x0301 ([0xFF, 1, 1, 0, 0, 0x80, 0xFF, 0, 0, 0, 0, 0, 0, 0, 0, 0, 0, 0, 0, 0x80]), msg ([0xFF,
     1, 1, 0, 0, 0x80, 0xFF, 0, 0, 0, 0, 0, 0, 0, 0, 0, 0, 0, 0, 0x80]),
     by unfold State.offers MemCanonical; decide +kernel⟩,
   ⟨(live .run).setSieve fun v => { v with copying := true }, msg [], by decide +kernel⟩,
   ⟨offer ((live .run).putByte 0xF3005 7) 0x0302 ([0, 0, 0, 0]), msg [0, 0, 0, 0],
     by unfold State.offers; decide +kernel⟩,
   ⟨((live .run).putByte 0xF3005 7).setSieve fun v => { v with copying := true, bankB := true, answer := none },
     by unfold MemCanonical; decide +kernel⟩,
   ⟨((live .run).putByte 0xF3005 7).setSieve fun v => { v with
       copying := true, bankB := true,
       answer := some { ch := .n, code := 0x0302, tag := 7, payload := [0, 0, 0, 0], malformed := false, stamp := 5, doubt := false } },
     {
       ch := .n, code := 0x0302, tag := 7, payload := [0, 0, 0, 0], malformed := false, stamp := 5,
       doubt := false }, by decide +kernel⟩,
   ⟨offer (live .run) 0x0305 ([0xFF, 0, 1, 0, 5, 0, 0xFF, 0x0F, 0, 0, 0, 0, 0, 0, 0, 0, 0, 0, 0, 0]), msg ([0xFF, 0,
     1, 0, 5, 0, 0xFF, 0x0F, 0, 0, 0, 0, 0, 0, 0, 0, 0, 0, 0, 0]),
     by unfold State.offers MemCanonical; decide +kernel⟩,
   ⟨offer ((live .run).setCulvert fun c => { c with lock := .granted, pages := 0xFF }) 0x0305 ([0xFF, 0, 1, 0, 5, 0,
     0xFF, 0x0F, 0, 0, 0, 0, 0, 0, 0, 0, 0, 0, 0, 0]), msg ([0xFF, 0, 1, 0, 5, 0, 0xFF, 0x0F, 0, 0, 0, 0, 0, 0, 0,
     0, 0, 0, 0, 0]), by unfold State.offers; decide +kernel⟩,
   ⟨offer (live .run) 0x040A [65], msg [65], by unfold State.offers; decide +kernel⟩,
   ⟨offer ((live .run).setSluice fun d => { d with free := List.range 128 }) 0x040A [65], msg [65],
     by unfold State.offers; decide +kernel⟩,
   ⟨offer ((paired .standby).setPair fun p => { p with formed := true }) 0x040A ([65]), msg [65],
     by unfold State.offers; decide +kernel⟩⟩

/-- States that meet the hypotheses of HedgeCommandsActOnTheirBus, clause by clause. -/
theorem test_meets_HedgeCommandsActOnTheirBus :
    (∃ (s : State) (m : Msg) (p : PortNo) (b : BusNo), s.offers m 0x0501 inAll (exactFault [upTo 1 47, upTo 1 3,
      range 2 10 10000, range 1 3 20, anyFld 1]) ∧ byteAt m.payload 0 = p.val ∧ s.slotFor p = some b ∧ s.portBusy
      p.val = false ∧ s.lockedAt (busRowAt b.val) = false ∧ s.lockedAt (portRowAt p.val) = false ∧ MemCanonical s) ∧
    (∃ (s : State) (m : Msg) (p : PortNo), s.offers m 0x0501 inAll (exactFault [upTo 1 47, upTo 1 3, range 2 10
      10000, range 1 3 20, anyFld 1]) ∧ byteAt m.payload 0 = p.val ∧ s.slotFor p = none) ∧
    (∃ (s : State) (m : Msg) (b : BusNo) (h : HeadNo), s.offers m 0x0502 inAll (exactFault [upTo 1 47, range 1 1 30,
      anyFld 2, anyFld 8]) ∧ s.headNamed m.payload = some (b, h) ∧ s.headBusy b h = false ∧ s.lockedAt (headRowAt
      b.val h.val) = false ∧ MemCanonical s) ∧
    (∃ (s : State) (m : Msg) (b : BusNo) (h : HeadNo), s.offers m 0x0504 inWork (exactFault [upTo 1 47, range 1 1
      30]) ∧ s.headNamed m.payload = some (b, h) ∧ (s.headRow b h).configured = true ∧ s.headBusy b h = false ∧ (∀
      x, (s.bus b).exchange = some x → x.cmd.head ≠ h)) ∧
    (∃ (s : State) (m : Msg) (b : BusNo) (h : HeadNo) (x : Exchange), s.offers m 0x0504 inWork (exactFault [upTo 1
      47, range 1 1 30]) ∧ s.headNamed m.payload = some (b, h) ∧ (s.headRow b h).configured = true ∧ s.headBusy b h
      = false ∧ (s.bus b).exchange = some x ∧ x.cmd.head = h) ∧
    (∃ (s : State) (m : Msg) (b : BusNo) (h : HeadNo), s.offers m 0x0505 inWork (exactFault [upTo 1 47, range 1 1
      30]) ∧ s.headNamed m.payload = some (b, h) ∧ (s.headRow b h).configured = true ∧ s.headBusy b h = false) ∧
    (∃ (s : State) (b : BusNo) (h : HeadNo) (silent : Bool) (a : Accepted) (x : BitVec 3), s.serves = true ∧ a ∈
      s.engine.accepted ∧ a.work = .headReturn b h x ∧ (∀ c, c ∈ s.engine.accepted → (∃ y, c.work = .headReturn b h
      y) → c = a) ∧ (silent = true → (s.head b h).state = hsSilent) ∧ (silent = false → s.rejoined b h = true)) ∧
    (∃ (s : State) (m : Msg), s.offers m 0x0502 inAll (exactFault [upTo 1 47, range 1 1 30, anyFld 2, anyFld 8]) ∧
      s.headNamed m.payload = none) ∧
    (∃ (s : State) (m : Msg), s.offers m 0x0504 inWork (exactFault [upTo 1 47, range 1 1 30]) ∧ s.headNamed
      m.payload = none) ∧
    (∃ (s : State) (m : Msg), s.offers m 0x0505 inWork (exactFault [upTo 1 47, range 1 1 30]) ∧ s.headNamed
      m.payload = none) ∧
    (∃ (s : State) (m : Msg) (b : BusNo) (h : HeadNo), s.offers m 0x0504 inWork (exactFault [upTo 1 47, range 1 1
      30]) ∧ s.headNamed m.payload = some (b, h) ∧ (s.headRow b h).configured = false) ∧
    (∃ (s : State) (m : Msg) (b : BusNo) (h : HeadNo), s.offers m 0x0505 inWork (exactFault [upTo 1 47, range 1 1
      30]) ∧ s.headNamed m.payload = some (b, h) ∧ (s.headRow b h).configured = false) :=
  ⟨⟨offer (hedged) 0x0501 ([3, 3, 0x10, 0x27, 20, 0]), msg [3, 3, 0x10, 0x27, 20, 0], 3, 0,
     by unfold State.offers MemCanonical; decide +kernel⟩,
   ⟨offer (live .run) 0x0501 ([3, 3, 0x10, 0x27, 20, 0]), msg [3, 3, 0x10, 0x27, 20, 0], 3,
     by unfold State.offers; decide +kernel⟩,
   ⟨offer (hedged) 0x0502 ([3, 5, 0, 0x80, 0, 0, 0, 0, 0, 0, 0, 0]), msg [3, 5, 0, 0x80, 0, 0, 0, 0, 0, 0, 0, 0], 0,
     4, by unfold State.offers MemCanonical; decide +kernel⟩,
   ⟨offer (hedged) 0x0504 ([3, 5]), msg [3, 5], 0, 4, by unfold State.offers; decide +kernel⟩,
   ⟨offer (polled) 0x0504 ([3, 5]), msg [3, 5], 0, 4, { cmd := hedgeCmd 4 tyPoll [], toggle := true, fails := 0 },
     by unfold State.offers; decide +kernel⟩,
   ⟨offer ((hedged.updHead 0 4 fun h => { h with state := hsRetired })) 0x0505 ([3, 5]), msg [3, 5], 0, 4,
     by unfold State.offers; decide +kernel⟩,
   ⟨owing hedged 0x0505 (.headReturn 0 4 5), 0, 4, false,
     { ch := .n, code := 0x0505, tag := 7, work := .headReturn 0 4 5 }, 5, ⟨by decide +kernel, by decide +kernel,
     rfl, fun c h _ => List.mem_singleton.mp h, nofun, by decide +kernel⟩⟩,
   ⟨offer (live .run) 0x0502 ([4, 30, 0, 0x80, 0, 0, 0, 0, 0, 0, 0, 0]), msg [4, 30, 0, 0x80, 0, 0, 0, 0, 0, 0, 0,
     0], by unfold State.offers; decide +kernel⟩,
   ⟨offer (live .run) 0x0504 ([4, 30]), msg [4, 30], by unfold State.offers; decide +kernel⟩,
   ⟨offer (live .run) 0x0505 ([4, 1]), msg [4, 1], by unfold State.offers; decide +kernel⟩,
   ⟨offer (hedged) 0x0504 ([3, 6]), msg [3, 6], 0, 5, by unfold State.offers; decide +kernel⟩,
   ⟨offer (hedged) 0x0505 ([3, 30]), msg [3, 30], 0, 29, by unfold State.offers; decide +kernel⟩⟩

/-- States that meet the hypotheses of PortLinesBeforeRun, clause by clause. -/
theorem test_meets_PortLinesBeforeRun :
    (∃ (s : State) (p : PortNo) (m : Nat), s.watches = true ∧ MemCanonical s) ∧
    (∃ (s : State) (p : PortNo) (l : List Samples) (r : List Nat) (x : Samples) (y : Samples), s.watches = true ∧
      MemCanonical s ∧ (s.port p).firstRate ≠ 0 ∧ (s.port p).counted = false ∧ l[0]? = some x ∧ x.b = false ∧ l[9]?
      = some y ∧ y.b = true) ∧
    (∃ (s : State) (p : PortNo) (e : Edges) (r : List Nat), s.watches = true ∧ MemCanonical s ∧ edgesCharacter e ≠
      none) ∧
    (∃ (s : State) (p : PortNo) (l : List Samples) (r : List Nat), s.watches = true ∧ (s.port p).counted = true) ∧
    (∃ (s : State) (p : PortNo), s.watches = true ∧ MemCanonical s) ∧
    (∃ (s : State) (p : PortNo), s.watches = true ∧ MemCanonical s) ∧
    (∃ (s : State) (p : PortNo), s.watches = false) ∧
    (∃ (s : State) (p : PortNo), s.watches = false) ∧
    (∃ (e : Edges) (r : Nat), r ∈ ratePresets ∧ 97 * 9000000000 ≤ 100 * r * e.e6 ∧ 100 * r * e.e6 ≤ 103 *
      9000000000) :=
  ⟨⟨still .hold, 47, 16, by unfold MemCanonical; decide +kernel⟩,
   ⟨(still .hold).updPort 47 fun q => { q with firstRate := 4800, counted := false }, 47, dollar true, [], ⟨false,
     false, false⟩, ⟨true, true, true⟩, by unfold MemCanonical; decide +kernel⟩,
   ⟨still .hold, 47, EDG, [], by unfold MemCanonical; decide +kernel⟩,
   ⟨(still .hold).updPort 47 fun q => { q with counted := true }, 47, dollar true, [], by decide +kernel⟩,
   ⟨still .hold, 47, by unfold MemCanonical; decide +kernel⟩,
   ⟨still .hold, 47, by unfold MemCanonical; decide +kernel⟩,
   ⟨live .run, 3, by decide +kernel⟩,
   ⟨live .run, 3, by decide +kernel⟩,
   ⟨EDG, 4800, by decide +kernel⟩⟩

/-- States that meet the hypotheses of PortLinesInTheWorkingModes, clause by clause. -/
theorem test_meets_PortLinesInTheWorkingModes :
    (∃ (s : State) (p : PortNo) (m : Nat), s.watches = false ∧ s.alive = true ∧ (s.roadRuns = true ∨ s.mode = .doze)
      ∧ (s.port p).armed = true ∧ (s.port p).stuck = false) ∧
    (∃ (s : State) (p : PortNo) (l : List Samples) (r : List Nat) (x : Samples) (st : Stamp × Bool), s.watches =
      false ∧ s.receives p = true ∧ (s.port p).edge = some st ∧ (s.port p).hunting = false ∧ l.head? = some x ∧
      sampleBit x (s.port p).rx.spot = false ∧ (s.port p).rx.mute = false ∧ (s.port p).fifo.length < 64) ∧
    (∃ (s : State) (p : PortNo) (l : List Samples) (r : List Nat) (x : Samples) (st : Stamp × Bool), s.watches =
      false ∧ s.receives p = true ∧ (s.port p).edge = some st ∧ (s.port p).hunting = false ∧ l.head? = some x ∧
      sampleBit x (s.port p).rx.spot = false ∧ (s.port p).rx.mute = false ∧ 64 ≤ (s.port p).fifo.length) ∧
    (∃ (s : State) (p : PortNo) (l : List Samples) (r : List Nat) (x : Samples) (st : Stamp × Bool), s.watches =
      false ∧ s.receives p = true ∧ (s.port p).edge = some st ∧ (s.port p).hunting = false ∧ l.head? = some x ∧
      sampleBit x (s.port p).rx.spot = true) ∧
    (∃ (s : State) (p : PortNo) (l : List Samples) (r : List Nat) (x : Samples) (st : Stamp × Bool), s.watches =
      false ∧ s.receives p = true ∧ (s.port p).edge = some st ∧ (s.port p).hunting = false ∧ l.head? = some x ∧
      (s.port p).rx.mute = true ∧ (s.port p).unmuted = false ∧ (decidedEntry (s.port p).rx s.power.vanaGood
      l).getLsbD 8 = false) ∧
    (∃ (s : State) (p : PortNo) (e : Edges) (r : List Nat), s.watches = false ∧ (s.port p).falls[2]? = none) ∧
    (∃ (s : State) (p : PortNo) (l : List Samples) (r : List Nat), s.watches = false ∧ (s.port p).edge = none) ∧
    (∃ (s : State) (p : PortNo) (e : Edges) (r : List Nat) (c : Byte) (st : Stamp × Bool), s.watches = false ∧
      s.receives p = true ∧ (s.port p).hunting = true ∧ s.mode ≠ .doze ∧ edgesCharacter e = some c ∧ (s.port
      p).falls[2]? = some st ∧ (s.port p).fifo.length < 64) ∧
    (∃ (s : State) (p : PortNo) (e : Edges) (r : List Nat), edgesCharacter e = none) :=
  ⟨⟨withRow (live .run) talkRow, 3, 16, by decide +kernel⟩,
   ⟨(withRow (live .run) talkRow).updPort 3 fun q => { q with edge := some (9, false), fifo := [] }, 3, dollar true,
     [], ⟨false, false, false⟩, (9, false), by decide +kernel⟩,
   ⟨(withRow (live .run) talkRow).updPort 3 fun q =>
     { q with edge := some (9, false), fifo := List.replicate 64 (entry 65) }, 3, dollar true, [], ⟨false, false,
     false⟩, (9, false), by decide +kernel⟩,
   ⟨(withRow (live .run) talkRow).updPort 3 fun q => { q with edge := some (9, false) }, 3, [⟨true, true, true⟩],
     [], ⟨true, true, true⟩, (9, false), by decide +kernel⟩,
   ⟨(withRow (live .run) talkRow).updPort 3 fun q =>
     { q with edge := some (9, false), rxRow := BitVec.ofNat 128 (talkRow.toNat + 2 ^ 23 + 2 ^ 24) }, 3, dollar
     false, [], ⟨false, false, false⟩, (9, false), by decide +kernel⟩,
   ⟨withRow (live .run) talkRow, 3, EDG, [], by decide +kernel⟩,
   ⟨withRow (live .run) talkRow, 3, dollar true, [], by decide +kernel⟩,
   ⟨(withRow (live .run) (BitVec.ofNat 128 (talkRow.toNat + 64))).updPort 3 fun q =>
     { q with hunting := true, falls := [(9, false), (8, false), (7, false)] }, 3, EDG, [], 0x24, (7, false),
     by decide +kernel⟩,
   ⟨withRow (live .run) talkRow, 3, { e2 := 1, e3 := 2, e4 := 3, e5 := 4, e6 := 5, markAfter := true }, [],
     by decide +kernel⟩⟩

/-- States that meet the hypotheses of PortConditionsAndTheirEvents, clause by clause. -/
theorem test_meets_PortConditionsAndTheirEvents :
    (∃ (s : State) (p : PortNo), s.stuckTimed p = true ∧ (s.port p).stuck = false) ∧
    (∃ (s : State) (p : PortNo), s.stuckTimed p = true ∧ (s.port p).stuck = true) ∧
    (∃ (s : State) (p : PortNo), s.roadRuns = true ∧ (s.port p).isTalker = true ∧ (s.port p).rx.silence ≠ 0 ∧
      (s.port p).parked = false ∧ (s.port p).rxRetired = false ∧ (s.port p).silent = false) ∧
    (∃ (s : State) (p : PortNo), s.alive = true ∧ ((s.port p).driver = true ∨ s.mayDrive p = true) ∧ (s.port
      p).txc.bypass = false ∧ (s.port p).hot = false) ∧
    (∃ (s : State) (p : PortNo), s.alive = true ∧ (s.port p).hot = true) ∧
    (∃ (s : State) (p : PortNo), s.stuckTimed p = false) ∧
    (∃ (s : State) (p : PortNo), s.roadRuns = false) ∧
    (∃ (s : State) (p : PortNo), (s.port p).hot = false) ∧
    (∃ (s : State) (p : PortNo), (s.port p).txc.bypass = true) :=
  ⟨⟨withRow (live .run) talkRow, 3, by decide +kernel⟩,
   ⟨(withRow (live .run) talkRow).updPort 3 fun q => { q with stuck := true }, 3, by decide +kernel⟩,
   ⟨withRow (live .run) (BitVec.ofNat 128 (talkRow.toNat + 10 * 2 ^ 96)), 3, by decide +kernel⟩,
   ⟨withRow (live .run) talkRow, 3, by decide +kernel⟩,
   ⟨(withRow (live .run) talkRow).updPort 3 fun q => { q with hot := true, driver := false }, 3, by decide +kernel⟩,
   ⟨live .run, 47, by decide +kernel⟩,
   ⟨live .doze, 3, by decide +kernel⟩,
   ⟨withRow (live .run) talkRow, 3, by decide +kernel⟩,
   ⟨withRow (live .run) (BitVec.ofNat 128 (talkRow.toNat + 1024)), 3, by decide +kernel⟩⟩

/-- States that meet the hypotheses of LampsAreSetAcknowledgedTestedAndLapse, clause by clause. -/
theorem test_meets_LampsAreSetAcknowledgedTestedAndLapse :
    (∃ (s : State) (m : Msg), s.offers m 0x0506 inAll s.lampSetFault ∧ s.lockedAt (lampRowAt (fieldAt m.payload 0 2))
      = false) ∧
    (∃ (s : State) (m : Msg), s.offers m 0x0506 inAll s.lampSetFault ∧ s.lockedAt (lampRowAt (fieldAt m.payload 0 2))
      = true) ∧
    (∃ (s : State) (m : Msg), s.offers m 0x0508 inWork alarmAckFault ∧ s.pair.role ≠ .standby) ∧
    (∃ (s : State) (m : Msg), s.offers m 0x0508 inWork alarmAckFault ∧ s.pair.role = .standby) ∧
    (∃ (s : State) (m : Msg) (l : LampNo), s.offers m 0x050A inAll s.lampTestFault ∧ fieldAt m.payload 0 2 = l.val) ∧
    (∃ (s : State) (c : Chan), s.serves = true ∧ s.engineWorks = true ∧ s.pair.role ≠ .standby ∧ (s.chan
      c).bellOut.getLsbD 3 = true) ∧
    (∃ (s : State) (l : LampNo), s.engineWorks = true ∧ (s.lamp l).lapses = true ∧ s.pair.role ≠ .standby) ∧
    (∃ (s : State) (l : LampNo), ((s.lamp l).lapses = false ∨ s.pair.role = .standby)) ∧
    (∃ (s : State) (l : LampNo), s.engineWorks = true ∧ (s.lamp l).testRuns = true) ∧
    (∃ (s : State) (l : LampNo) (b : BusNo) (h : HeadNo), s.engineWorks = true ∧ (s.lamp l).testRuns = false ∧ (s.lamp
      l).offRuns = true ∧ lampBus (s.lamp l).row = b ∧ lampHead (s.lamp l).row = h.val + 1 ∧ (s.head b h).state =
      hsActive) ∧
    (∃ (s : State) (l : LampNo), s.engineWorks = true ∧ (s.lamp l).active = true ∧ (s.lamp l).acked = false) ∧
    (∃ (s : State) (l : LampNo), ((s.lamp l).active = false ∨ (s.lamp l).acked = true)) :=
  ⟨⟨offer (hedged.putByte (routeRowAt 0) 8) 0x0506 ([0xFF, 3, 1, 0, 0, 2, 0x10, 5]), msg [0xFF, 3, 1, 0, 0, 2, 0x10, 5], by unfold State.offers; decide +kernel⟩,
   ⟨offer ((hedged.putByte (routeRowAt 0) 8).setCulvert fun c => { c with lock := .granted, pages := 0xFF }) 0x0506
     ([0xFF, 3, 1, 0, 0, 0, 0, 0]), msg [0xFF, 3, 1, 0, 0, 0, 0, 0], by unfold State.offers; decide +kernel⟩,
   ⟨offer ((hedged).updLamp 0 fun _ =>
     { Lamp.reset with row := BitVec.ofNat 32 (5 * 2 ^ 24 + 2 ^ 12 + 2 ^ 9), state := stDark }) 0x0508 ([0xFF, 0xFF]),
     msg [0xFF, 0xFF], by unfold State.offers; decide +kernel⟩,
   ⟨offer ((paired .standby).updLamp 0 fun _ =>
     { Lamp.reset with row := BitVec.ofNat 32 (5 * 2 ^ 24 + 2 ^ 12 + 2 ^ 9), state := stDark }) 0x0508 ([0, 0]), msg
     [0, 0], by unfold State.offers; decide +kernel⟩,
   ⟨offer ((hedged).updLamp 0 fun _ =>
     { Lamp.reset with row := BitVec.ofNat 32 (5 * 2 ^ 24 + 2 ^ 12 + 2 ^ 9), state := stDark }) 0x050A ([0, 0, 2, 0,
     0x58, 2]), msg [0, 0, 2, 0, 0x58, 2], 0, by unfold State.offers; decide +kernel⟩,
   ⟨((hedged).updLamp 0 fun _ =>
     { Lamp.reset with row := BitVec.ofNat 32 (5 * 2 ^ 24 + 2 ^ 12 + 2 ^ 9), state := stDark, testAction := 1, testSeconds := 5 }).setChan
     .n fun r => { r with bellOut := 0xFF }, .n, by decide +kernel⟩,
   ⟨(hedged).updLamp 0 fun _ =>
     { Lamp.reset with row := BitVec.ofNat 32 (5 * 2 ^ 24 + 2 ^ 12 + 2 ^ 9), state := stLit }, 0, by decide +kernel⟩,
   ⟨(hedged).updLamp 0 fun _ =>
     { Lamp.reset with row := BitVec.ofNat 32 (5 * 2 ^ 24 + 2 ^ 12 + 2 ^ 9), state := stUnconfirmed }, 0, by decide +kernel⟩,
   ⟨(hedged).updLamp 0 fun _ =>
     { Lamp.reset with row := BitVec.ofNat 32 (5 * 2 ^ 24 + 2 ^ 12 + 2 ^ 9), state := stLit, testRuns := true }, 0, by decide +kernel⟩,
   ⟨(hedged).updLamp 0 fun _ =>
     { Lamp.reset with row := BitVec.ofNat 32 (5 * 2 ^ 24 + 2 ^ 12 + 2 ^ 9), state := stLit, offRuns := true }, 0, 0,
     4, by decide +kernel⟩,
   ⟨(hedged).updLamp 0 fun _ =>
     { Lamp.reset with row := BitVec.ofNat 32 (5 * 2 ^ 24 + 2 ^ 12 + 2 ^ 9), state := stDark }, 0, by decide +kernel⟩,
   ⟨(hedged).updLamp 0 fun _ =>
     { Lamp.reset with row := BitVec.ofNat 32 (5 * 2 ^ 24 + 2 ^ 12 + 2 ^ 9), state := stLit }, 0, by decide +kernel⟩⟩

/-- States that meet the hypotheses of AssemblerSieveAndWeirMoveItems, clause by clause. -/
theorem test_meets_AssemblerSieveAndWeirMoveItems :
    (∃ (s : State) (p : PortNo) (e : Entry) (r : List Entry), s.roadRuns = true ∧ s.modes.draining = false ∧ (s.port
      p).talks = true ∧ (s.port p).fifo = e :: r) ∧
    (∃ (s : State) (p : PortNo), (s.roadRuns = false ∨ s.modes.draining = true ∨ (s.port p).talks = false ∨ (s.port
      p).fifo = [])) ∧
    (∃ (s : State) (p : PortNo) (e : Entry) (r : List Entry), s.roadRuns = true ∧ s.modes.draining = false ∧ (s.port
      p).talks = true ∧ (s.port p).fifo = e :: r ∧ (s.port p).asm.state = .hunt ∧ (s.port p).parking = false ∧
      s.engine.accepted = [] ∧ (s.port p).rxAdopt = false ∧ rowFields (s.port p).rxRow = rowFields (s.portRow p) ∧
      (e.isBreak = true ∨ isOpener e.char = false ∨ (s.port p).armed = false)) ∧
    (∃ (s : State) (p : PortNo) (e : Entry) (r : List Entry), s.roadRuns = true ∧ s.modes.draining = false ∧ (s.port
      p).talks = true ∧ (s.port p).fifo = e :: r ∧ (s.port p).asm.state = .hunt ∧ e.isBreak = false ∧ isOpener
      e.char = true ∧ (s.port p).armed = true ∧ 128 < s.freeCount ∧ MemCanonical s) ∧
    (∃ (s : State) (p : PortNo) (e : Entry) (r : List Entry), s.roadRuns = true ∧ s.modes.draining = false ∧ (s.port
      p).talks = true ∧ (s.port p).fifo = e :: r ∧ (s.port p).asm.state = .hunt ∧ (s.port p).parking = false ∧
      s.engine.accepted = [] ∧ (s.port p).rxAdopt = false ∧ rowFields (s.port p).rxRow = rowFields (s.portRow p) ∧
      e.isBreak = false ∧ isOpener e.char = true ∧ (s.port p).armed = true ∧ s.freeCount ≤ 128) ∧
    (∃ (s : State) (p : PortNo) (e : Entry) (r : List Entry), s.roadRuns = true ∧ s.modes.draining = false ∧ (s.port
      p).talks = true ∧ (s.port p).fifo = e :: r ∧ (s.port p).asm.state = .awaitLf ∧ (s.port p).asm.void = false ∧
      e.isBreak = false ∧ e.char = chLf ∧ (s.port p).asm.chars.length ∉ [0, 104, 228] ∧ (s.port p).rx.nocksum = 0 ∧
      s.injectOn = false ∧ MemCanonical s ∧ (s.port p).rxAdopt = false ∧ rowFields (s.port p).rxRow = rowFields
      (s.portRow p)) ∧
    (∃ (s : State) (i : Item), s.roadRuns = true ∧ s.endedItem = some i ∧ s.item? i.id = some i) ∧
    (∃ (s : State), s.endedItem = none) ∧
    (∃ (s : State) (g : GovNo), s.alive = true) ∧
    (∃ (s : State) (g : GovNo) (i : Item) (r : List Item), s.roadRuns = true ∧ s.queueOf g = i :: r ∧ s.item? i.id =
      some i ∧ (s.weirRow g).policy = .defer ∧ (s.weirRow g).burst ≠ 0) ∧
    (∃ (s : State) (g : GovNo), s.roadRuns = true ∧ ((s.weirRow g).policy ≠ .defer ∨ (s.weirRow g).burst = 0)) ∧
    (∃ (s : State) (g : GovNo), (s.roadRuns = false ∨ s.queueOf g = [])) ∧
    (∃ (s : State) (w : AlarmWait) (r : List AlarmWait), s.engineWorks = true ∧ s.sluice.alarmWaits = w :: r ∧
      cellsFor w.payload.length ≤ s.freeCount ∧ (∀ j, j ∈ s.sluice.items → j.id < s.sluice.nextId)) ∧
    (∃ (s : State) (w : AlarmWait) (r : List AlarmWait), s.sluice.alarmWaits = w :: r ∧ s.freeCount < cellsFor
      w.payload.length) ∧
    (∃ (s : State), (s.engineWorks = false ∨ s.sluice.alarmWaits = [])) ∧
    (∃ (s : State) (k : Fin 16), s.roadRuns = true) ∧
    (∃ (s : State) (k : Fin 16), s.roadRuns = false) ∧
    (∃ (s : State), s.engineWorks = true ∧ s.settings.heartbeat ≠ 0 ∧ 128 + cellsFor s.pvyshText.length ≤
      s.freeCount) ∧
    (∃ (s : State), s.engineWorks = true ∧ s.settings.heartbeat ≠ 0 ∧ s.freeCount ≤ 128) ∧
    (∃ (s : State), (s.engineWorks = false ∨ s.settings.heartbeat = 0)) :=
  ⟨⟨talking [entry 65], 3, entry 65, [], by decide +kernel⟩,
   ⟨talking [], 3, by decide +kernel⟩,
   ⟨talking [entry 65], 3, entry 65, [], by decide +kernel⟩,
   ⟨(withRow (live .run) talkRow).updPort 3 fun q =>
     { q with fifo := [{ bits := 0x24, stamp := 5, doubt := false, reading := none, valid := false }] }, 3,
     { bits := 0x24, stamp := 5, doubt := false, reading := none, valid := false }, [],
     by unfold MemCanonical; decide +kernel⟩,
   ⟨(talking [entry 0x24]).setSluice fun d => { d with free := List.range 128 }, 3, entry 0x24, [],
     by decide +kernel⟩,
   ⟨(withRow (live .run) (talkRow - 8)).updPort 3 fun q => { q with
       fifo := [entry 10], asm := { q.asm with state := .awaitLf, chars := [0x24, 0x41, 0x0D], cells := [9] } }, 3,
     entry 10, [], by unfold MemCanonical; decide +kernel⟩,
   ⟨linked (live .run) 3 { item 6 with place := .ended }, { item 6 with place := .ended }, by decide +kernel⟩,
   ⟨live .run, by decide +kernel⟩,
   ⟨(live .run).updGov 255 fun g => { g with tokens := 5 }, 255, by decide +kernel⟩,
   ⟨(((linked (withRow (live .run) talkRow) 3
     { item 6 with place := .deferred 255, gov := some 255, mask := 8 }).updView 3 fun v =>
     { v with queue := [] }).putBytes (weirRowAt 255) [5, 0, 2, 0, 0, 0x81]).updGov 255 fun g =>
     { g with tokens := 16 }, 255, { item 6 with place := .deferred 255, gov := some 255, mask := 8 }, [],
     by decide +kernel⟩,
   ⟨live .run, 255, by decide +kernel⟩,
   ⟨live .run, 0, by decide +kernel⟩,
   ⟨(live .run).setSluice fun d => { d with alarmWaits := [wait1] }, wait1, [], by decide +kernel⟩,
   ⟨(live .run).setSluice fun d => { d with alarmWaits := [wait1], free := [] }, wait1, [], by decide +kernel⟩,
   ⟨live .run, by decide +kernel⟩,
   ⟨linked (withRow (live .run) talkRow) 3 { item 6 with place := .reorder 15 2 }, 15, by decide +kernel⟩,
   ⟨live .doze, 15, by decide +kernel⟩,
   ⟨(live .run).setSettings fun g => { g with heartbeat := 10 }, by decide +kernel⟩,
   ⟨((live .run).setSettings fun g => { g with heartbeat := 10 }).setSluice fun d =>
     { d with free := List.range 128 }, by decide +kernel⟩,
   ⟨still .run, by decide +kernel⟩⟩

/-- States that meet the hypotheses of SpillwaySendsCutsAndReleases, clause by clause. -/
theorem test_meets_SpillwaySendsCutsAndReleases :
    (∃ (s : State) (p : PortNo) (cts : Bool) (i : Item), s.mayBegin p = true ∧ (s.port p).tx.group = none ∧ (s.port
      p).tx.abandoned = [] ∧ s.injectOn = false ∧ s.nextItem p = some i ∧ i.member = none) ∧
    (∃ (s : State) (p : PortNo) (cts : Bool), s.mayBegin p = false ∧ (s.port p).tx.group = none ∧ (s.port
      p).tx.abandoned = []) ∧
    (∃ (s : State) (p : PortNo) (cts : Bool), s.roadRuns = true ∧ ((s.port p).tx.sending.isSome = true ∨ (s.port
      p).tx.terminator = true)) ∧
    (∃ (s : State) (p : PortNo) (cts : Bool), (s.roadRuns = false ∨ ((s.port p).tx.sending = none ∧ (s.port
      p).tx.terminator = false))) ∧
    (∃ (s : State) (p : PortNo) (x : Sending) (i : Item), s.roadRuns = true ∧ (s.port p).tx.ctsWait = false ∧
      (s.port p).tx.sending = some x ∧ s.item? x.item = some i ∧ (s.port p).tx.group = none ∧ s.pair.handover =
      .none ∧ s.engine.accepted = []) ∧
    (∃ (s : State) (p : PortNo) (n : Nat) (x : Sending) (i : Item), s.roadRuns = true ∧ s.mayBreach p = true ∧
      (s.port p).tx.sending = some x ∧ s.item? x.item = some i ∧ (s.port p).tx.group = none ∧ s.pair.handover =
      .none ∧ s.engine.accepted = [] ∧ (s.port p).txAdopt = false ∧ rowFields (s.port p).txRow = rowFields
      (s.portRow p) ∧ (∃ l, l ∈ (s.view (portView p)).inFlight ∧ l.item = i.id) ∧ (x.begun = false ∨ n = 0)) ∧
    (∃ (s : State) (p : PortNo) (n : Nat) (x : Sending) (i : Item), s.roadRuns = true ∧ s.mayBreach p = true ∧
      (s.port p).tx.sending = some x ∧ s.item? x.item = some i ∧ (s.port p).tx.group = none ∧ s.pair.handover =
      .none ∧ s.engine.accepted = [] ∧ (s.port p).txAdopt = false ∧ rowFields (s.port p).txRow = rowFields
      (s.portRow p) ∧ (∃ l, l ∈ (s.view (portView p)).inFlight ∧ l.item = i.id) ∧ x.begun = true ∧ 0 < n ∧ n ≤
      cutLimit x.bytes) ∧
    (∃ (s : State) (p : PortNo) (n : Nat) (x : Sending), (s.port p).tx.sending = some x ∧ x.begun = true ∧ cutLimit
      x.bytes < n ∧ 0 < n) ∧
    (∃ (s : State) (p : PortNo) (n : Nat), (s.roadRuns = false ∨ s.mayBreach p = false)) ∧
    (∃ (s : State) (p : PortNo) (n : Nat), s.roadRuns = true ∧ s.mayBreach p = true ∧ (s.port p).tx.sending = none) ∧
    (∃ (s : State) (p : PortNo) (g : GroupRun), s.roadRuns = true ∧ (s.port p).tx.group = some g ∧ (s.port
      p).tx.sending = none ∧ s.groupYields p g = false ∧ s.nextItem p = none) ∧
    (∃ (s : State) (i : Item), s.engineWorks = true ∧ s.tapHead viewJournal = some i ∧ s.siltSkips = true) ∧
    (∃ (s : State) (i : Item) (j : Journal), s.engineWorks = true ∧ s.tapHead viewJournal = some i ∧ s.siltSkips =
      false ∧ s.siltWorks = true ∧ s.journal.accept (s.sentenceRecord i) = some j) ∧
    (∃ (s : State) (i : Item), s.engineWorks = true ∧ s.tapHead viewEngine = some i) ∧
    (∃ (s : State), s.tapHead viewJournal = none) ∧
    (∃ (s : State), s.tapHead viewEngine = none) :=
  ⟨⟨linked (withRow (live .run) talkRow) 3 { item 6 with mask := 8 }, 3, true, { item 6 with mask := 8 },
     by decide +kernel⟩,
   ⟨live .run, 3, true, by decide +kernel⟩,
   ⟨(onAir false).updTx 3 fun x => { x with ctsWait := true }, 3, true, by decide +kernel⟩,
   ⟨live .run, 3, true, by decide +kernel⟩,
   ⟨((linked (withRow (live .run) talkRow) 3 { item 6 with mask := 8 }).updView 3 fun v =>
     { v with queue := [], inFlight := [link6] }).updTx 3 fun x =>
     { x with sending := some { item := 6, bytes := [0x21, 0x41, 0x42, 13, 10], resend := false, begun := true } },
     3, { item := 6, bytes := [0x21, 0x41, 0x42, 13, 10], resend := false, begun := true },
     { item 6 with mask := 8 }, by decide +kernel⟩,
   ⟨breached false, 3, 2, sent6 false, { item 6 with mask := 8 }, by decide +kernel⟩,
   ⟨breached true, 3, cutLimit [0x21, 0x41, 0x42, 13, 10], sent6 true, { item 6 with mask := 8 }, by decide +kernel⟩,
   ⟨onAir true, 3, 1 + cutLimit [0x21, 0x41, 0x42, 13, 10], sent6 true, by decide +kernel⟩,
   ⟨onAir true, 3, 1, by decide +kernel⟩,
   ⟨(breached true).updTx 3 fun x => { x with
       sending := none,
       group := some { key := .byTag 3 2 3, count := 3, next := 2, cls := 4, held := [], released := true, yields := false } },
     3, 0, by decide +kernel⟩,
   ⟨(withRow (live .run) talkRow).updTx 3 fun x => { x with
       group := some { key := .byTag 3 2 3, count := 3, next := 2, cls := 4, held := [], released := false, yields := false } },
     3, { key := .byTag 3 2 3, count := 3, next := 2, cls := 4, held := [], released := false, yields := false },
     by decide +kernel⟩,
   ⟨(linked (live .run) viewJournal { item 6 with mask := BitVec.ofNat 51 (2 ^ 49) }).setSettings fun g =>
     { g with sentences := false }, { item 6 with mask := BitVec.ofNat 51 (2 ^ 49) }, by decide +kernel⟩,
   ⟨linked (journalled (live .run) nand0) viewJournal { item 6 with mask := BitVec.ofNat 51 (2 ^ 49) },
     { item 6 with mask := BitVec.ofNat 51 (2 ^ 49) }, jOf ((linked (journalled (live .run) nand0) viewJournal
     { item 6 with mask := BitVec.ofNat 51 (2 ^ 49) }).journal.accept ((linked (journalled (live .run) nand0)
     viewJournal { item 6 with mask := BitVec.ofNat 51 (2 ^ 49) }).sentenceRecord
     ({ item 6 with mask := BitVec.ofNat 51 (2 ^ 49) }))), by decide +kernel⟩,
   ⟨linked (live .run) viewEngine { item 6 with engine := true }, { item 6 with engine := true }, by decide +kernel⟩,
   ⟨live .run, by decide +kernel⟩,
   ⟨live .run, by decide +kernel⟩⟩

/-- States that meet the hypotheses of JournalAcceptsProgramsAndMounts, clause by clause. -/
theorem test_meets_JournalAcceptsProgramsAndMounts :
    (∃ (j : Journal) (k : Journal) (r : Rec), j.accept r = some k) ∧
    (∃ (s : State) (x : Rec) (r : List Rec) (j : Journal), s.siltWorks = true ∧ s.journal.owed = x :: r ∧
      s.journal.accept x = some j) ∧
    (∃ (s : State) (x : Rec) (r : List Rec) (j : Journal), s.siltWorks = true ∧ s.journal.owed = [] ∧
      s.journal.waiting = x :: r ∧ s.journal.accept x = some j) ∧
    (∃ (s : State) (x : Rec) (r : List Rec), s.siltWorks = true ∧ (s.journal.owed = x :: r ∨ (s.journal.owed = [] ∧
      s.journal.waiting = x :: r)) ∧ s.journal.accept x = none) ∧
    (∃ (s : State), s.siltWorks = true ∧ s.journal.owed = [] ∧ s.journal.waiting = [] ∧ 0 < s.journal.dropped) ∧
    (∃ (s : State), s.siltWorks = true) ∧
    (∃ (s : State) (n : Nand) (c : Closing) (r : List Closing) (e : List Nat), s.siltWorks = true ∧ correctable e =
      true ∧ s.journal.nand = some n ∧ s.journal.closed = c :: r ∧ n.erasing.contains n.block = false ∧ c.movedFrom
      = none ∧ n.nextPage + 1 < n.geom.pagesPerBlock) ∧
    (∃ (s : State) (n : Nand) (m : Nand) (c : Closing) (r : List Closing) (ok : Bool) (e : List Nat), s.siltWorks =
      true ∧ (ok = false ∨ correctable e = false) ∧ s.journal.nand = some n ∧ s.journal.closed = c :: r ∧
      n.erasing.contains n.block = false ∧ n.leaveBlock = some m ∧ c.fails < 2) ∧
    (∃ (s : State) (n : Nand) (m : Nand) (c : Closing) (r : List Closing) (ok : Bool) (e : List Nat), s.siltWorks =
      true ∧ (ok = false ∨ correctable e = false) ∧ s.journal.nand = some n ∧ s.journal.closed = c :: r ∧
      n.erasing.contains n.block = false ∧ n.leaveBlock = some m ∧ 2 ≤ c.fails) ∧
    (∃ (s : State) (n : Nand) (b : Nat) (r : List Nat), s.siltWorks = true ∧ s.journal.nand = some n ∧ n.erasing = b
      :: r) ∧
    (∃ (s : State) (n : Nand) (b : Nat) (r : List Nat), s.siltWorks = true ∧ s.journal.nand = some n ∧ n.erasing = b
      :: r) ∧
    (∃ (s : State), s.siltWorks = true) ∧
    (∃ (t : State) (n : Nand) (b : Nat), t.journal.nand = some n) ∧
    (∃ (s : State) (n : Nand) (p : NandPage) (e : List Nat), s.siltWorks = true ∧ (∀ k, k ∈ e → k ≤ 4) ∧
      s.journal.nand = some n ∧ n.scrubPage = some p) ∧
    (∃ (s : State) (n : Nand) (p : NandPage) (c : Nat) (r : List Nat) (e : List Nat), s.siltWorks = true ∧ (∀ k, k ∈
      e → k ≤ 8) ∧ (∃ k, k ∈ e ∧ 5 ≤ k) ∧ s.journal.nand = some n ∧ n.scrubPage = some p ∧ n.spares = c :: r) ∧
    (∃ (s : State) (n : Nand) (p : NandPage) (e : List Nat), s.siltWorks = true ∧ (∃ k, k ∈ e ∧ 9 ≤ k) ∧
      s.journal.nand = some n ∧ n.scrubPage = some p) ∧
    (∃ (s : State), s.engineWorks = true ∧ s.journal.mounted = false ∧ s.journal.state ≠ 4) ∧
    (∃ (s : State), s.journal.mounted = true) ∧
    (∃ (s : State) (n : Nand) (ok : Bool) (e : List Nat), s.siltWorks = false ∧ s.siltDozes = true ∧ s.journal.nand
      = some n ∧ n.left = some .program) ∧
    (∃ (s : State) (ok : Bool) (e : List Nat), s.siltWorks = false ∧ (s.siltDozes = false ∨ (∀ n, s.journal.nand =
      some n → n.left = none))) ∧
    (∃ (s : State) (m : Msg) (j : Journal), s.offers m 0x0703 inWork markFault ∧ s.formatBusy = false ∧ s.siltWorks
      = true ∧ s.journal.accept {
        kind := 0x09, flags := recFlags false s.takenAt.2, boot := 0, stamp := s.takenAt.1, seq := 0,
        body := bytesAt m.payload 2 (byteAt m.payload 0) } = some j) ∧
    (∃ (s : State) (m : Msg), s.offers m 0x0703 inWork markFault ∧ s.formatBusy = true) ∧
    (∃ (s : State) (m : Msg), s.offers m 0x0704 inSetup (exactFault []) ∧ s.formatBusy = false ∧ s.journal.nand ≠
      none) ∧
    (∃ (s : State) (m : Msg), s.offers m 0x0704 inSetup (exactFault []) ∧ s.formatBusy = true) ∧
    (∃ (s : State) (bad : List Nat) (a : Accepted) (n : Nand), s.serves = true ∧ s.journal.state = 4 ∧
      s.journal.nand = some n ∧ s.engine.accepted.find? (fun a => decide (a.work = .format)) = some a) :=
  ⟨⟨(journalled (live .run) nand0).journal, jOf ((journalled (live .run) nand0).journal.accept
     { kind := 9, flags := 0, boot := 0, stamp := 5, seq := 0, body := [65] }),
     { kind := 9, flags := 0, boot := 0, stamp := 5, seq := 0, body := [65] }, by decide +kernel⟩,
   ⟨(journalled (live .run) nand0).setJournal fun j =>
     { j with owed := [{ kind := 9, flags := 0, boot := 0, stamp := 5, seq := 0, body := [65] }] },
     { kind := 9, flags := 0, boot := 0, stamp := 5, seq := 0, body := [65] }, [], jOf ((((journalled (live .run)
     nand0).setJournal fun j =>
     { j with owed := [{ kind := 9, flags := 0, boot := 0, stamp := 5, seq := 0, body := [65] }] })).journal.accept
     { kind := 9, flags := 0, boot := 0, stamp := 5, seq := 0, body := [65] }), by decide +kernel⟩,
   ⟨(journalled (live .run) nand0).setJournal fun j =>
     { j with waiting := [{ kind := 9, flags := 0, boot := 0, stamp := 5, seq := 0, body := [65] }] },
     { kind := 9, flags := 0, boot := 0, stamp := 5, seq := 0, body := [65] }, [], jOf ((((journalled (live .run)
     nand0).setJournal fun j => { j with
       waiting := [{ kind := 9, flags := 0, boot := 0, stamp := 5, seq := 0, body := [65] }] })).journal.accept
     { kind := 9, flags := 0, boot := 0, stamp := 5, seq := 0, body := [65] }), by decide +kernel⟩,
   ⟨(journalled (live .run) nand0).setJournal fun j => { j with
       closed := (List.range 16).map (fun k => { staging := Fin.ofNat 16 k, page := page9 0, fails := 0, movedFrom := none })
       owed := [{ kind := 9, flags := 0, boot := 0, stamp := 5, seq := 0, body := [65] }] },
     { kind := 9, flags := 0, boot := 0, stamp := 5, seq := 0, body := [65] }, [], by decide +kernel⟩,
   ⟨(journalled (live .run) nand0).setJournal fun j => { j with dropped := 2 }, by decide +kernel⟩,
   ⟨(journalled (live .run) nand0).setJournal fun j => { j with
       staging := some (3, { boot := 4, records := [{ kind := 9, flags := 0, boot := 4, stamp := 5, seq := 8, body := [65] }], serial := 0, relocated := false, early := false }) },
     by decide +kernel⟩,
   ⟨(journalled (live .run) { nand0 with nextPage := 62 }).setJournal fun j => { j with closed := [closing 0] },
     { nand0 with nextPage := 62 }, closing 0, [], [8, 0], by decide +kernel⟩,
   ⟨(journalled (live .run) nand0).setJournal fun j => { j with closed := [closing 1] }, nand0, nOf
     nand0.leaveBlock, closing 1, [], true, [9], by decide +kernel⟩,
   ⟨(journalled (live .run) nand0).setJournal fun j => { j with closed := [closing 2] }, nand0, nOf
     nand0.leaveBlock, closing 2, [], false, [], by decide +kernel⟩,
   ⟨journalled (live .run) { nand0 with erasing := [3] }, { nand0 with erasing := [3] }, 3, [], by decide +kernel⟩,
   ⟨journalled (live .run) { nand0 with erasing := [3] }, { nand0 with erasing := [3] }, 3, [], by decide +kernel⟩,
   ⟨journalled (live .run) nand0, by decide +kernel⟩,
   ⟨journalled (live .run) nand0, nand0, 7, by decide +kernel⟩,
   ⟨journalled (live .run) paged, paged, { block := 2, index := 0, page := page9 1 }, [4], by decide +kernel⟩,
   ⟨journalled (live .run) paged, paged, { block := 2, index := 0, page := page9 1 }, 5, [], [0, 5, 8],
     by decide +kernel⟩,
   ⟨journalled (live .run) paged, paged, { block := 2, index := 0, page := page9 1 }, [9], by decide +kernel⟩,
   ⟨live .run, by decide +kernel⟩,
   ⟨journalled (live .run) nand0, by decide +kernel⟩,
   ⟨journalled (live .doze) { nand0 with left := some .program }, { nand0 with left := some .program }, false, [],
     by decide +kernel⟩,
   ⟨live .run, true, [], ⟨by decide +kernel, .inl (by decide +kernel)⟩⟩,
   ⟨offer (journalled (live .run) nand0) 0x0703 [1, 0, 65], msg [1, 0, 65], jOf ((offer (journalled (live .run)
     nand0) 0x0703 [1, 0, 65]).journal.accept
     { kind := 0x09, flags := recFlags false false, boot := 0, stamp := 1000, seq := 0, body := [65] }),
     by unfold State.offers; decide +kernel⟩,
   ⟨offer (owing (journalled (live .run) nand0) 0x0704 .format) 0x0703 ([1, 0, 65]), msg [1, 0, 65],
     by unfold State.offers; decide +kernel⟩,
   ⟨offer (journalled (live .prove) nand0) 0x0704 ([]), msg [], by unfold State.offers; decide +kernel⟩,
   ⟨offer (owing (journalled (live .prove) nand0) 0x0704 .format) 0x0704 ([]), msg [],
     by unfold State.offers; decide +kernel⟩,
   ⟨(owing (journalled (live .prove) nand0) 0x0704 .format).setJournal fun j => { j with state := 4 }, [4],
     { ch := .n, code := 0x0704, tag := 7, work := .format }, nand0, by decide +kernel⟩⟩

/-- States that meet the hypotheses of HedgeMasterExchanges, clause by clause. -/
theorem test_meets_HedgeMasterExchanges :
    (∃ (s : State) (b : BusNo), s.hedgeOn b = true ∧ (s.bus b).state = .polling ∧ (s.bus b).quiet = true ∧ (s.bus
      b).retry = none ∧ (s.bus b).round = []) ∧
    (∃ (s : State) (p : PortNo) (b : BusNo) (pulse : Bool), s.masterBus p = some b ∧ s.maySend b = true ∧ (s.bus
      b).wake = some pulse ∧ s.mayDrive p = true) ∧
    (∃ (s : State) (p : PortNo) (b : BusNo) (mode : Bool), s.masterBus p = some b ∧ s.maySend b = true ∧ (s.bus
      b).wake = none ∧ (s.bus b).rollCall = some mode ∧ s.mayDrive p = true) ∧
    (∃ (s : State) (p : PortNo) (b : BusNo) (x : Exchange), s.masterBus p = some b ∧ s.maySend b = true ∧ (s.bus
      b).wake = none ∧ (s.bus b).rollCall = none ∧ (s.bus b).retry = some x ∧ s.injectOn = false ∧ s.mayDrive p =
      true) ∧
    (∃ (s : State) (p : PortNo) (b : BusNo) (h : HeadNo) (r : List HeadNo), s.masterBus p = some b ∧ s.maySend b =
      true ∧ (s.bus b).wake = none ∧ (s.bus b).rollCall = none ∧ (s.bus b).retry = none ∧ (s.bus b).grant = h :: r ∧
      s.pollable b h = true ∧ s.injectOn = false) ∧
    (∃ (s : State) (p : PortNo) (b : BusNo) (x : Exchange) (r : List Exchange), s.masterBus p = some b ∧ s.maySend b
      = true ∧ (s.bus b).wake = none ∧ (s.bus b).rollCall = none ∧ (s.bus b).retry = none ∧ (s.bus b).grant = [] ∧
      (s.bus b).parked = x :: r ∧ s.injectOn = false ∧ s.mayDrive p = true) ∧
    (∃ (s : State) (p : PortNo) (b : BusNo) (c : HedgeCmd) (r : List HedgeCmd), s.masterBus p = some b ∧ s.maySend b
      = true ∧ (s.bus b).wake = none ∧ (s.bus b).rollCall = none ∧ (s.bus b).retry = none ∧ (s.bus b).grant = [] ∧
      (s.bus b).parked = [] ∧ (s.bus b).queue = c :: r ∧ (s.head b c.head).state = hsJoining ∧ s.injectOn = false) ∧
    (∃ (s : State) (p : PortNo) (b : BusNo) (h : HeadNo) (r : List HeadNo), s.masterBus p = some b ∧ s.maySend b =
      true ∧ (s.bus b).wake = none ∧ (s.bus b).rollCall = none ∧ (s.bus b).retry = none ∧ (s.bus b).grant = [] ∧
      (s.bus b).parked = [] ∧ (s.bus b).queue = [] ∧ (s.bus b).round = h :: r ∧ s.pollable b h = true ∧ s.injectOn =
      false) ∧
    (∃ (s : State) (b : BusNo) (h : HeadNo), (∀ c, c ∈ (s.bus b).setLamps → c.head ≠ h)) ∧
    (∃ (s : State) (b : BusNo) (h : HeadNo) (c : HedgeCmd), (s.bus b).setLamps.find? (fun c => decide (c.head = h))
      = some c) ∧
    (∃ (s : State) (p : PortNo) (b : BusNo), s.masterBus p = some b ∧ s.maySend b = false) ∧
    (∃ (s : State) (b : BusNo) (x : Exchange) (f : List Half) (g : HedgeFrame), s.hedgeOn b = true ∧ s.replyStepped
      b = false ∧ (s.bus b).exchange = some x ∧ (s.head b x.cmd.head).state ≠ hsAbsent ∧ (s.head b x.cmd.head).state
      ≠ hsRetired ∧ (s.bus b).retire = none ∧ readFrame f = some g ∧ x.answeredBy g = true ∧ s.injectOn = false) ∧
    (∃ (s : State) (b : BusNo) (x : Exchange) (f : List Half), s.hedgeOn b = true ∧ (s.bus b).exchange = some x ∧
      (s.head b x.cmd.head).state ≠ hsAbsent ∧ (s.head b x.cmd.head).state ≠ hsRetired ∧ (s.bus b).retire = none ∧
      (s.replyStepped b = true ∨ (∀ g, readFrame f = some g → x.answeredBy g = false))) ∧
    (∃ (s : State) (b : BusNo) (x : Exchange), s.hedgeOn b = true ∧ (s.bus b).exchange = some x ∧ (s.head b
      x.cmd.head).state ≠ hsAbsent ∧ (s.head b x.cmd.head).state ≠ hsRetired ∧ (s.bus b).retire = none) ∧
    (∃ (s : State) (b : BusNo), (s.bus b).exchange = none) ∧
    (∃ (s : State) (b : BusNo) (x : Exchange) (p : PortNo), s.masterBus p = some b ∧ s.hedgeOn b = true ∧ (s.bus
      b).exchange = some x ∧ (s.head b x.cmd.head).state ≠ hsAbsent ∧ (s.head b x.cmd.head).state ≠ hsRetired ∧
      (s.bus b).retire = none) ∧
    (∃ (s : State) (b : BusNo) (x : Exchange) (p : PortNo), s.masterBus p = some b ∧ (s.port p).frameBad = true ∧
      s.hedgeOn b = true ∧ (s.bus b).exchange = some x ∧ (s.head b x.cmd.head).state ≠ hsAbsent ∧ (s.head b
      x.cmd.head).state ≠ hsRetired ∧ (s.bus b).retire = none) ∧
    (∃ (s : State) (p : PortNo), (s.port p).frameBad = false) ∧
    (∃ (s : State) (b : BusNo) (x : Exchange) (p : PortNo), s.masterBus p = some b ∧ (s.bus b).sent ≠ [] ∧ s.hedgeOn
      b = true ∧ (s.bus b).exchange = some x ∧ (s.head b x.cmd.head).state ≠ hsAbsent ∧ (s.head b x.cmd.head).state
      ≠ hsRetired ∧ (s.bus b).retire = none) ∧
    (∃ (s : State) (b : BusNo) (mode : Bool) (p : PortNo), s.masterBus p = some b ∧ (s.bus b).sent ≠ [] ∧ s.hedgeOn
      b = true ∧ (s.bus b).exchange = none ∧ (s.bus b).rolling = some mode) ∧
    (∃ (s : State) (b : BusNo) (p : PortNo), s.masterBus p = some b ∧ (s.bus b).sent ≠ [] ∧ s.hedgeOn b = true ∧
      (s.bus b).exchange = none ∧ (s.bus b).rolling = none ∧ (s.bus b).sleep = .committing) ∧
    (∃ (s : State) (b : BusNo) (p : PortNo), s.masterBus p = some b ∧ (s.bus b).sent = []) ∧
    (∃ (s : State) (b : BusNo) (n : Nat), s.hedgeOn b = true ∧ (s.bus b).quiet = true ∧ ((s.bus b).state = .joining
      ∨ (s.bus b).state = .polling) ∧ 15 ≤ n ∧ n ≤ 60) ∧
    (∃ (s : State) (b : BusNo) (n : Nat) (p : PortNo), s.hedgeOn b = true ∧ s.hedgePort b = some p ∧ (s.bus b).quiet
      = true ∧ ((s.bus b).state = .joining ∨ (s.bus b).state = .polling) ∧ n < 15) ∧
    (∃ (s : State) (b : BusNo) (n : Nat), s.hedgeOn b = true ∧ (s.bus b).quiet = true ∧ ((s.bus b).state = .joining
      ∨ (s.bus b).state = .polling) ∧ 60 < n) ∧
    (∃ (s : State) (b : BusNo) (a : List HeadNo), s.hedgeOn b = true ∧ (s.bus b).rolling = some false) ∧
    (∃ (s : State) (b : BusNo) (a : List HeadNo), s.hedgeOn b = true ∧ (s.bus b).rolling = some true) ∧
    (∃ (s : State) (b : BusNo) (p : PortNo), s.masterBus p = some b ∧ s.hedgeOn b = true ∧ (s.bus b).state ≠
      .stopped ∧ (s.bus b).state ≠ .blind ∧ (s.bus b).retire = none) ∧
    (∃ (s : State) (b : BusNo) (r : Byte), s.hedgeOn b = true ∧ (s.bus b).state = .blind) ∧
    (∃ (s : State) (b : BusNo) (p : PortNo), s.masterBus p = some b ∧ s.hedgeOn b = true ∧ (s.bus b).state = .blind
      ∧ (s.bus b).retire = none) :=
  ⟨⟨hedged, 0, by decide +kernel⟩,
   ⟨hedged.updBus 0 fun b => { b with state := .asleep, wake := some true }, 3, 0, true, by decide +kernel⟩,
   ⟨hedged.updBus 0 fun b => { b with state := .joining, rollCall := some true }, 3, 0, true, by decide +kernel⟩,
   ⟨hedged.updBus 0 fun b => { b with retry := some POLL }, 3, 0, POLL, by decide +kernel⟩,
   ⟨hedged.updBus 0 fun b => { b with grant := [4] }, 3, 0, 4, [], by decide +kernel⟩,
   ⟨hedged.updBus 0 fun b => { b with parked := [POLL] }, 3, 0, POLL, [], by decide +kernel⟩,
   ⟨(hedged.updHead 0 4 fun h => { h with state := hsJoining }).updBus 0 fun b =>
     { b with queue := [hedgeCmd 4 tyInventory []] }, 3, 0, hedgeCmd 4 tyInventory [], [], by decide +kernel⟩,
   ⟨hedged.updBus 0 fun b => { b with round := [4] }, 3, 0, 4, [], by decide +kernel⟩,
   ⟨hedged, 0, 4, by decide +kernel⟩,
   ⟨hedged.updBus 0 fun b => { b with setLamps := [hedgeCmd 4 tySetLamp [1, 0]] }, 0, 4, hedgeCmd 4 tySetLamp [1,
     0], by decide +kernel⟩,
   ⟨polled, 3, 0, by decide +kernel⟩,
   ⟨polled.updLamp 0 fun _ =>
     { Lamp.reset with row := BitVec.ofNat 32 (5 * 2 ^ 24 + 2 ^ 12 + 2 ^ 9), state := stLit }, 0, POLL, onLine
     (hedgeFrame 1 5 tyReport true [0, 1, 1, 0, 0, 0]),
     { kind := 1, addr := 5, toggle := true, type := tyReport, payload := [0, 1, 1, 0, 0, 0] }, by decide +kernel⟩,
   ⟨polled, 0, POLL, [], by decide +kernel⟩,
   ⟨polled, 0, { cmd := hedgeCmd 4 tyPoll [], toggle := true, fails := 0 }, by decide +kernel⟩,
   ⟨hedged, 0, by decide +kernel⟩,
   ⟨polled, 0, POLL, 3, by decide +kernel⟩,
   ⟨polled.updPort 3 fun q => { q with amp := { q.amp with stepped := true } }, 0, POLL, 3, by decide +kernel⟩,
   ⟨hedged, 3, by decide +kernel⟩,
   ⟨polled.updBus 0 fun b => { b with sent := [5] }, 0, POLL, 3, by decide +kernel⟩,
   ⟨hedged.updBus 0 fun b => { b with sent := [5], rolling := some true }, 0, true, 3, by decide +kernel⟩,
   ⟨hedged.updBus 0 fun b => { b with sent := [5], sleep := .committing }, 0, 3, by decide +kernel⟩,
   ⟨hedged, 0, 3, by decide +kernel⟩,
   ⟨hedged, 0, 60, by decide +kernel⟩,
   ⟨hedged, 0, 14, 3, by decide +kernel⟩,
   ⟨hedged, 0, 61, by decide +kernel⟩,
   ⟨hedged.updBus 0 fun b => { b with rolling := some false }, 0, [4], by decide +kernel⟩,
   ⟨hedged.updBus 0 fun b => { b with rolling := some true }, 0, [4], by decide +kernel⟩,
   ⟨hedged, 0, 3, by decide +kernel⟩,
   ⟨hedged.updBus 0 fun b => { b with state := .blind }, 0, 7, by decide +kernel⟩,
   ⟨hedged.updBus 0 fun b => { b with state := .blind }, 0, 3, by decide +kernel⟩⟩

/-- States that meet the hypotheses of HedgeSleepAndTheHeadRole, clause by clause. -/
theorem test_meets_HedgeSleepAndTheHeadRole :
    (∃ (s : State) (b : BusNo) (n : Nat), s.hedgeOn b = true ∧ (s.busRow b).sleep = true ∧ (s.bus b).state =
      .polling ∧ (s.bus b).idle = true ∧ 60 ≤ n ∧ (∀ p, s.hedgePort b = some p → s.mayDrive p = true)) ∧
    (∃ (s : State) (b : BusNo) (n : Nat), ((s.busRow b).sleep = false ∨ n < 60 ∨ (s.bus b).idle = false)) ∧
    (∃ (s : State) (b : BusNo), s.hedgeOn b = true ∧ (s.bus b).sleep = .proposed) ∧
    (∃ (s : State) (b : BusNo) (p : PortNo), s.hedgeOn b = true ∧ s.hedgePort b = some p ∧ (s.bus b).sleep =
      .proposed ∧ s.mayDrive p = true) ∧
    (∃ (s : State) (b : BusNo) (p : PortNo), s.masterBus p = some b ∧ s.hedgeOn b = true ∧ (s.bus b).sleep =
      .committing) ∧
    (∃ (s : State) (b : BusNo) (onCommit : Bool), s.hedgeOn b = true ∧ (s.bus b).sleep = .committing) ∧
    (∃ (s : State) (b : BusNo) (p : PortNo) (byPulse : Bool), s.hedgeOn b = true ∧ s.hedgePort b = some p ∧ (s.bus
      b).state = .asleep ∧ (s.bus b).wake = none) ∧
    (∃ (s : State) (p : PortNo) (f : List Half) (g : HedgeFrame), s.actsAsHead p = true ∧ (s.port p).amp.stepped =
      false ∧ readFrame f = some g ∧ g.fromMaster = true ∧ (s.port p).head.mode ≠ .turnaround ∧ (s.port p).head.mode
      ≠ .hushed ∧ g.kind = 0 ∧ g.addr = (s.port p).rx.myAddr ∧ g.payload = [] ∧ g.type = tyPoll ∧ (∀ x, (s.port
      p).head.kept ≠ some (g.toggle, tyPoll, x))) ∧
    (∃ (s : State) (p : PortNo) (f : List Half) (g : HedgeFrame), s.actsAsHead p = true ∧ (s.port p).amp.stepped =
      false ∧ readFrame f = some g ∧ g.fromMaster = true ∧ (s.port p).head.mode ≠ .turnaround ∧ (s.port p).head.mode
      ≠ .hushed ∧ g.kind = 0 ∧ g.addr = (s.port p).rx.myAddr ∧ g.payload = [] ∧ g.type = tyInventory ∧ (∀ x, (s.port
      p).head.kept ≠ some (g.toggle, tyInventory, x))) ∧
    (∃ (s : State) (p : PortNo) (f : List Half) (g : HedgeFrame), s.actsAsHead p = true ∧ (s.port p).amp.stepped =
      false ∧ readFrame f = some g ∧ g.fromMaster = true ∧ (s.port p).head.mode ≠ .turnaround ∧ (s.port p).head.mode
      ≠ .hushed ∧ g.kind = 0 ∧ g.addr = (s.port p).rx.myAddr ∧ g.payload.length = 2 ∧ g.type = tySetLamp ∧ (∀ x,
      (s.port p).head.kept ≠ some (g.toggle, tySetLamp, x))) ∧
    (∃ (s : State) (p : PortNo) (f : List Half) (g : HedgeFrame), s.actsAsHead p = true ∧ (s.port p).amp.stepped =
      false ∧ readFrame f = some g ∧ g.fromMaster = true ∧ (s.port p).head.mode ≠ .turnaround ∧ (s.port p).head.mode
      ≠ .hushed ∧ g.kind = 0 ∧ g.addr = (s.port p).rx.myAddr ∧ g.payload = [] ∧ g.type = tyResync) ∧
    (∃ (s : State) (p : PortNo) (f : List Half) (g : HedgeFrame) (x : List Byte), s.actsAsHead p = true ∧ (s.port
      p).amp.stepped = false ∧ readFrame f = some g ∧ g.fromMaster = true ∧ (s.port p).head.mode ≠ .turnaround ∧
      (s.port p).head.mode ≠ .hushed ∧ g.kind = 0 ∧ g.addr = (s.port p).rx.myAddr ∧ commandLen g.type = some
      g.payload.length ∧ g.type ≠ tyResync ∧ (s.port p).head.kept = some (g.toggle, g.type, x)) ∧
    (∃ (s : State) (p : PortNo) (f : List Half) (g : HedgeFrame), s.actsAsHead p = true ∧ (s.port p).amp.stepped =
      false ∧ readFrame f = some g ∧ g.fromMaster = true ∧ (s.port p).head.mode ≠ .turnaround ∧ (s.port p).head.mode
      ≠ .hushed ∧ g.kind = 0 ∧ (g.addr ≠ (s.port p).rx.myAddr ∨ commandLen g.type ≠ some g.payload.length)) ∧
    (∃ (s : State) (p : PortNo) (f : List Half), s.actsAsHead p = true ∧ (s.port p).amp.stepped = false ∧ readFrame
      f = none) ∧
    (∃ (s : State) (p : PortNo) (f : List Half), s.actsAsHead p = true ∧ (s.port p).amp.stepped = true) ∧
    (∃ (s : State) (p : PortNo) (f : List Half) (g : HedgeFrame), s.actsAsHead p = true ∧ (s.port p).amp.stepped =
      false ∧ readFrame f = some g ∧ ((s.port p).head.mode = .turnaround ∨ (s.port p).head.mode = .hushed)) ∧
    (∃ (s : State) (p : PortNo) (f : List Half) (g : HedgeFrame), s.actsAsHead p = true ∧ (s.port p).amp.stepped =
      false ∧ readFrame f = some g ∧ g.fromMaster = true ∧ (s.port p).head.mode ≠ .turnaround ∧ (s.port p).head.mode
      ≠ .hushed ∧ g.kind = 4 ∧ ((g.type = tyRollCall ∧ (g.payload = [1] ∨ (g.payload = [0] ∧ (s.port
      p).head.settle.attention = true))) ∨ (g.type = tyPropose ∧ g.payload.length = 2 ∧ (s.port
      p).head.settle.attention = true))) ∧
    (∃ (s : State) (p : PortNo) (f : List Half) (g : HedgeFrame), s.actsAsHead p = true ∧ (s.port p).amp.stepped =
      false ∧ readFrame f = some g ∧ g.fromMaster = true ∧ (s.port p).head.mode ≠ .turnaround ∧ (s.port p).head.mode
      ≠ .hushed ∧ g.kind = 4 ∧ g.type = tyCommit ∧ g.payload.length = 2) ∧
    (∃ (s : State) (p : PortNo) (f : List Half) (g : HedgeFrame), s.actsAsHead p = true ∧ (s.port p).amp.stepped =
      false ∧ readFrame f = some g ∧ g.fromMaster = true ∧ (s.port p).head.mode ≠ .turnaround ∧ (s.port p).head.mode
      ≠ .hushed ∧ g.kind = 4 ∧ g.type = tyWake) ∧
    (∃ (s : State) (p : PortNo) (n : Half), s.actsAsHead p = true ∧ (s.port p).head.commit = some n) ∧
    (∃ (s : State) (p : PortNo) (x : List Byte), s.actsAsHead p = true ∧ (s.port p).head.mode = .turnaround ∧
      (s.port p).head.prepared = some x) ∧
    (∃ (s : State) (p : PortNo), s.actsAsHead p = true ∧ (s.port p).head.mode ≠ .turnaround) ∧
    (∃ (r : HeadRole), r.mode = .sending ∧ sentReport r.reply = true) ∧
    (∃ (r : HeadRole), r.mode = .sending ∧ sentReport r.reply = false) ∧
    (∃ (r : HeadRole), r.mode ≠ .sending) ∧
    (∃ (s : State) (p : PortNo), s.actsAsHead p = true ∧ (s.port p).head.settle.mayPulse = true ∧ s.mayDrive p =
      true) ∧
    (∃ (s : State) (p : PortNo), s.actsAsHead p = true ∧ ((s.port p).head.settle.mayPulse = false ∨ s.mayDrive p =
      false)) ∧
    (∃ (s : State) (p : PortNo), s.actsAsHead p = true ∧ (s.port p).head.mode = .asleep) ∧
    (∃ (s : State) (p : PortNo), s.actsAsHead p = true ∧ (s.port p).head.mode = .sending) ∧
    (∃ (s : State) (p : PortNo), s.actsAsHead p = true) ∧
    (∃ (s : State) (p : PortNo), s.actsAsHead p = true ∧ (s.port p).head.mode = .hushed) ∧
    (∃ (s : State) (p : PortNo), s.alive = true ∧ (s.port p).rx.rx = .head) ∧
    (∃ (s : State) (p : PortNo) (f : List Half), s.actsAsHead p = false) :=
  ⟨⟨hedged, 0, 60, by decide +kernel⟩,
   ⟨hedged, 0, 59, by decide +kernel⟩,
   ⟨hedged.updBus 0 fun b => { b with sleep := .proposed }, 0, by decide +kernel⟩,
   ⟨hedged.updBus 0 fun b => { b with sleep := .proposed, sleepFor := 6000 }, 0, 3, by decide +kernel⟩,
   ⟨hedged.updBus 0 fun b => { b with sleep := .committing }, 0, 3, by decide +kernel⟩,
   ⟨hedged.updBus 0 fun b => { b with sleep := .committing }, 0, true, by decide +kernel⟩,
   ⟨hedged.updBus 0 fun b => { b with state := .asleep }, 0, 3, true, by decide +kernel⟩,
   ⟨heading, 3, onLine (hedgeFrame 0 5 tyPoll true []),
     { kind := 0, addr := 5, toggle := true, type := tyPoll, payload := [] }, ⟨by decide +kernel, by decide +kernel,
     by decide +kernel, by decide +kernel, by decide +kernel, by decide +kernel, rfl, by decide +kernel, rfl, rfl,
     by intro x h; exact nomatch (show (none : Option (Bool × BitVec 7 × List Byte)) = some _ from h)⟩⟩,
   ⟨heading, 3, onLine (hedgeFrame 0 5 tyInventory true []),
     { kind := 0, addr := 5, toggle := true, type := tyInventory, payload := [] }, ⟨by decide +kernel,
     by decide +kernel, by decide +kernel, by decide +kernel, by decide +kernel, by decide +kernel, rfl,
     by decide +kernel, rfl, rfl,
     by intro x h; exact nomatch (show (none : Option (Bool × BitVec 7 × List Byte)) = some _ from h)⟩⟩,
   ⟨heading, 3, onLine (hedgeFrame 0 5 tySetLamp true [1, 0]),
     { kind := 0, addr := 5, toggle := true, type := tySetLamp, payload := [1, 0] }, ⟨by decide +kernel,
     by decide +kernel, by decide +kernel, by decide +kernel, by decide +kernel, by decide +kernel, rfl,
     by decide +kernel, rfl, rfl,
     by intro x h; exact nomatch (show (none : Option (Bool × BitVec 7 × List Byte)) = some _ from h)⟩⟩,
   ⟨asHead fun r => { r with kept := some (true, tyPoll, [1, 2]) }, 3, onLine (hedgeFrame 0 5 tyResync false []),
     { kind := 0, addr := 5, toggle := false, type := tyResync, payload := [] }, by decide +kernel⟩,
   ⟨asHead fun r => { r with kept := some (true, tyPoll, [1, 2]) }, 3, onLine (hedgeFrame 0 5 tyPoll true []),
     { kind := 0, addr := 5, toggle := true, type := tyPoll, payload := [] }, [1, 2], by decide +kernel⟩,
   ⟨heading, 3, onLine (hedgeFrame 0 6 tyPoll true []),
     { kind := 0, addr := 6, toggle := true, type := tyPoll, payload := [] }, by decide +kernel⟩,
   ⟨heading, 3, [], by decide +kernel⟩,
   ⟨heading.updPort 3 fun q => { q with amp := { q.amp with stepped := true } }, 3, [], by decide +kernel⟩,
   ⟨asHead fun r => { r with mode := .hushed }, 3, onLine (hedgeFrame 0 5 tyPoll true []),
     { kind := 0, addr := 5, toggle := true, type := tyPoll, payload := [] }, by decide +kernel⟩,
   ⟨heading, 3, onLine (hedgeFrame 4 31 tyRollCall false [1]),
     { kind := 4, addr := 31, toggle := false, type := tyRollCall, payload := [1] }, by decide +kernel⟩,
   ⟨heading, 3, onLine (hedgeFrame 4 31 tyCommit false [5, 0]),
     { kind := 4, addr := 31, toggle := false, type := tyCommit, payload := [5, 0] }, by decide +kernel⟩,
   ⟨heading, 3, onLine (hedgeFrame 4 31 tyWake false []),
     { kind := 4, addr := 31, toggle := false, type := tyWake, payload := [] }, by decide +kernel⟩,
   ⟨asHead fun r => { r with commit := some 5 }, 3, 5, by decide +kernel⟩,
   ⟨asHead fun r => { r with mode := .turnaround, prepared := some [5, 1] }, 3, [5, 1], by decide +kernel⟩,
   ⟨heading, 3, by decide +kernel⟩,
   ⟨{ (heading.port 3).head with mode := .sending, reply := hedgeFrame 1 5 tyReport true [0, 1, 1, 0, 0, 0] },
     by decide +kernel⟩,
   ⟨{ (heading.port 3).head with mode := .sending, reply := [] }, by decide +kernel⟩,
   ⟨{ (heading.port 3).head with mode := .asleep, reply := [] }, by decide +kernel⟩,
   ⟨asHead fun r => { r with mode := .asleep, attention := true }, 3, by decide +kernel⟩,
   ⟨heading, 3, by decide +kernel⟩,
   ⟨(withRow (live .run) (hedgeRow 3)).updPort 3 fun q => { q with head := { q.head with mode := .asleep } }, 3,
     by decide +kernel⟩,
   ⟨asHead fun r => { r with mode := .sending }, 3, by decide +kernel⟩,
   ⟨heading, 3, by decide +kernel⟩,
   ⟨asHead fun r => { r with mode := .hushed }, 3, by decide +kernel⟩,
   ⟨heading, 3, by decide +kernel⟩,
   ⟨live .run, 3, [], by decide +kernel⟩⟩

/-- States that meet the hypotheses of PairRolesHandoverAndTakeOver, clause by clause. -/
theorem test_meets_PairRolesHandoverAndTakeOver :
    (∃ (s : State) (m : Msg), s.offers m 0x0605 inWork (exactFault []) ∧ s.handoverBusy = false ∧ s.pair.role =
      .duty ∧ s.pair.peerArmed = true ∧ s.listening = true) ∧
    (∃ (s : State) (m : Msg), s.offers m 0x0605 inWork (exactFault []) ∧ s.handoverBusy = false ∧ s.pair.role =
      .duty ∧ s.pair.peerArmed = true ∧ s.listening = false ∧ s.deliveredDue = false) ∧
    (∃ (s : State) (m : Msg), s.offers m 0x0605 inWork (exactFault []) ∧ s.handoverBusy = true) ∧
    (∃ (s : State) (m : Msg), s.offers m 0x0605 inWork (exactFault []) ∧ s.handoverBusy = false ∧ (s.pair.role ≠
      .duty ∨ s.pair.peerArmed = false)) ∧
    (∃ (s : State), s.roadRuns = true ∧ s.pair.handover = .draining) ∧
    (∃ (s : State) (a : Accepted), s.serves = true ∧ s.pair.handover = .waiting ∧ s.engine.accepted.find? (fun a =>
      decide (a.work = .handover)) = some a) ∧
    (∃ (s : State) (a : Accepted), s.serves = true ∧ s.pair.handover = .waiting ∧ s.engine.accepted.find? (fun a =>
      decide (a.work = .handover)) = some a) ∧
    (∃ (s : State), s.engineWorks = true ∧ s.settings.pairEnable = true ∧ s.pair.role = .none ∧ s.pair.sameRank =
      false) ∧
    (∃ (s : State), s.engineWorks = true ∧ s.settings.pairEnable = true ∧ s.pair.role = .none) ∧
    (∃ (s : State), s.engineWorks = true ∧ s.settings.pairEnable = true ∧ s.pair.role = .none ∧ s.pair.sameRank =
      true) ∧
    (∃ (s : State) (d : Bool), (s.pair.role ≠ .none ∨ s.settings.pairEnable = false)) ∧
    (∃ (s : State), s.roadRuns = true ∧ s.pair.dutyOut = true ∧ s.power.rank = false) ∧
    (∃ (s : State), (s.power.rank = true ∨ s.pair.dutyOut = false)) ∧
    (∃ (s : State), s.roadRuns = true ∧ s.pair.role = .duty ∧ s.engine.up = false) ∧
    (∃ (s : State), s.engineWorks = true ∧ s.pair.linkUp = true ∧ s.pair.caughtUp = true ∧ s.pair.formed = false ∧
      s.pair.majorMismatch = false ∧ s.pair.sameRank = false ∧ (s.pair.role = .duty ∨ s.pair.role = .standby)) ∧
    (∃ (s : State), s.engineWorks = true ∧ s.pair.linkUp = true ∧ s.digestsDiffer = true) ∧
    (∃ (s : State), s.mayTakeOver = true) ∧
    (∃ (s : State), s.mayTakeOver = false) ∧
    (∃ (s : State) (d : Bool), s.linkRuns = true ∧ s.pair.linkUp = true) ∧
    (∃ (s : State) (m : Stamp), s.engineWorks = true ∧ s.pair.role = .standby ∧ s.pair.measured = some m ∧
      s.pair.offset = none) ∧
    (∃ (s : State) (m : Stamp) (o : Stamp), s.engineWorks = true ∧ s.pair.role = .standby ∧ s.pair.measured = some m
      ∧ s.pair.offset = some o) :=
  ⟨⟨offer ((linked ((paired .duty).setPair fun p => { p with
       peer := some { flags := 0xFF, rank := false, mode := 3, major := 1, minor := 0, patch := 0, digest := 0 } })
     3 { item 6 with mask := 8 } |>.updPort 3 fun q =>
     { q with rxRow := talkRow, txRow := talkRow, armed := true, driver := true }).updTx 3 fun x =>
     { x with sending := some { item := 6, bytes := [65, 13, 10], resend := false, begun := true } }) 0x0605 ([]),
     msg [], by unfold State.offers; decide +kernel⟩,
   ⟨offer (((paired .duty).setPair fun p => { p with
       peer := some { flags := 0xFF, rank := false, mode := 3, major := 1, minor := 0, patch := 0, digest := 0 } }))
     0x0605 ([]), msg [], by unfold State.offers; decide +kernel⟩,
   ⟨offer (owing (paired .duty) 0x0605 .handover) 0x0605 ([]), msg [], by unfold State.offers; decide +kernel⟩,
   ⟨offer (paired .standby) 0x0605 ([]), msg [], by unfold State.offers; decide +kernel⟩,
   ⟨(paired .duty).setPair fun p => { p with handover := .draining }, by decide +kernel⟩,
   ⟨(owing (paired .standby) 0x0605 .handover).setPair fun p => { p with handover := .waiting },
     { ch := .n, code := 0x0605, tag := 7, work := .handover }, by decide +kernel⟩,
   ⟨(owing (paired .standby) 0x0605 .handover).setPair fun p => { p with handover := .waiting },
     { ch := .n, code := 0x0605, tag := 7, work := .handover }, by decide +kernel⟩,
   ⟨paired .none, by decide +kernel⟩,
   ⟨paired .none, by decide +kernel⟩,
   ⟨(paired .none).setPair fun p => { p with sameRank := true }, by decide +kernel⟩,
   ⟨paired .duty, true, by decide +kernel⟩,
   ⟨paired .duty, by decide +kernel⟩,
   ⟨(paired .duty).setPower fun x => { x with rank := true }, by decide +kernel⟩,
   ⟨(paired .duty).setEngine fun e => { e with up := false }, by decide +kernel⟩,
   ⟨(paired .duty).setPair fun p => { p with caughtUp := true }, by decide +kernel⟩,
   ⟨(paired .duty).setPair fun p => { p with
       peer := some { flags := 0, rank := false, mode := 3, major := 1, minor := 0, patch := 0, digest := 5 } },
     by decide +kernel⟩,
   ⟨(paired .standby).setPair fun p => { p with armed := true, lastMirrored := 0xFFFFFFF0 }, by decide +kernel⟩,
   ⟨paired .standby, by decide +kernel⟩,
   ⟨paired .duty, false, by decide +kernel⟩,
   ⟨(paired .standby).setPair fun p => { p with measured := some 5 }, 5, by decide +kernel⟩,
   ⟨(paired .standby).setPair fun p => { p with measured := some 506, offset := some 5 }, 506, 5, by decide +kernel⟩⟩

/-- States that meet the hypotheses of PleachFramesActOnceAndInOrder, clause by clause. -/
theorem test_meets_PleachFramesActOnceAndInOrder :
    (∃ (s : State), s.linkRuns = true ∧ s.injectOn = false) ∧
    (∃ (s : State) (h : PleachHdr) (b : Heartbeat) (d : Bool), s.linkRuns = true ∧ s.engine.up = true ∧
      s.pair.handover = .none ∧ b.rank ≠ s.power.rank) ∧
    (∃ (s : State) (h : PleachHdr) (b : Heartbeat) (d : Bool), s.linkRuns = true ∧ s.pair.handover = .none ∧ b.rank
      = s.power.rank) ∧
    (∃ (s : State) (h : PleachHdr) (f : Frame) (r : List (Half × Frame)), s.linkRuns = true ∧ s.pair.unacked =
      (h.ack, f) :: r ∧ s.pair.waiting = [] ∧ (s.view viewPeer).queue = [] ∧ s.pair.handover = .none) ∧
    (∃ (s : State) (h : PleachHdr) (c : Instr) (mr : List MirrorRec) (dr : List DeliveredRec) (ir : ItemRec) (lr :
      List LampRec) (er : Option EpochRec) (n : Word) (d : Bool), c ∈ [Instr.mirrorFrame h mr, .deliveredFrame h dr,
      .itemFrame h ir, .lampFrame h lr, .epochFrame h er, .catchupEnd h n, .handoverFrame h n d] ∧ 1 ≤ mr.length ∧
      mr.length ≤ 25 ∧ 1 ≤ dr.length ∧ dr.length ≤ 42 ∧ 1 ≤ ir.payload.length ∧ ir.payload.length ≤ 240 ∧ 1 ≤
      lr.length ∧ lr.length ≤ 21 ∧ s.linkRuns = true ∧ h.seq ≠ nextLinkSeq s.pair.rxSeq ∧ h.seq ∈ s.pair.recent ∧
      s.pair.unacked = [] ∧ s.pair.waiting = [] ∧ (s.view viewPeer).queue = [] ∧ s.pair.handover = .none ∧
      s.injectOn = false ∧ s.pair.withheld = none) ∧
    (∃ (s : State) (h : PleachHdr) (c : Instr) (mr : List MirrorRec) (dr : List DeliveredRec) (ir : ItemRec) (lr :
      List LampRec) (er : Option EpochRec) (n : Word) (d : Bool), c ∈ [Instr.mirrorFrame h mr, .deliveredFrame h dr,
      .itemFrame h ir, .lampFrame h lr, .epochFrame h er, .catchupEnd h n, .handoverFrame h n d] ∧ 1 ≤ mr.length ∧
      mr.length ≤ 25 ∧ 1 ≤ dr.length ∧ dr.length ≤ 42 ∧ 1 ≤ ir.payload.length ∧ ir.payload.length ≤ 240 ∧ 1 ≤
      lr.length ∧ lr.length ≤ 21 ∧ h.seq ≠ nextLinkSeq s.pair.rxSeq ∧ h.seq ∉ s.pair.recent ∧ s.pair.unacked = [] ∧
      s.pair.waiting = [] ∧ (s.view viewPeer).queue = [] ∧ s.pair.handover = .none) ∧
    (∃ (s : State) (h : PleachHdr) (mr : List MirrorRec) (dr : List DeliveredRec) (ir : ItemRec) (lr : List
      LampRec), s.linkRuns = true) ∧
    (∃ (s : State) (h : PleachHdr) (mr : List MirrorRec), 1 ≤ mr.length ∧ mr.length ≤ 25 ∧ s.linkRuns = true ∧ h.seq
      = nextLinkSeq s.pair.rxSeq ∧ s.pair.unacked = [] ∧ s.pair.waiting = [] ∧ (s.view viewPeer).queue = [] ∧
      s.pair.handover = .none ∧ s.pair.role = .standby ∧ s.sluice.items = []) ∧
    (∃ (s : State) (h : PleachHdr) (r : MirrorRec) (i : Item), s.linkRuns = true ∧ h.seq = nextLinkSeq s.pair.rxSeq
      ∧ s.pair.unacked = [] ∧ s.pair.waiting = [] ∧ (s.view viewPeer).queue = [] ∧ s.pair.handover = .none ∧
      s.pair.role = .standby ∧ s.sluice.items.find? (fun i => decide (i.place = .committed) && !i.isMatched &&
      i.onPort && recMatches r i && s.inPorts i.id) = some i) ∧
    (∃ (s : State) (h : PleachHdr) (r : DeliveredRec) (l : Link), s.linkRuns = true ∧ h.seq = nextLinkSeq
      s.pair.rxSeq ∧ s.pair.unacked = [] ∧ s.pair.waiting = [] ∧ (s.view viewPeer).queue = [] ∧ s.pair.handover =
      .none ∧ s.pair.role = .standby ∧ (s.view (portView r.view)).queue.find? (fun l => (s.item? l.item).any fun i
      => i.isMatched && decide (i.pairSeq = r.pairSeq)) = some l) ∧
    (∃ (s : State) (h : PleachHdr) (r : ItemRec), s.linkRuns = true ∧ h.seq = nextLinkSeq s.pair.rxSeq ∧
      s.pair.unacked = [] ∧ s.pair.waiting = [] ∧ (s.view viewPeer).queue = [] ∧ s.pair.handover = .none ∧ 1 ≤
      r.payload.length ∧ r.payload.length ≤ 240 ∧ 128 + cellsFor r.payload.length ≤ s.freeCount ∧ (∀ j, j ∈
      s.sluice.items → j.id < s.sluice.nextId)) ∧
    (∃ (s : State) (h : PleachHdr) (r : LampRec), s.linkRuns = true ∧ h.seq = nextLinkSeq s.pair.rxSeq ∧
      s.pair.unacked = [] ∧ s.pair.waiting = [] ∧ (s.view viewPeer).queue = [] ∧ s.pair.handover = .none ∧
      s.pair.role = .standby ∧ s.engine.up = true ∧ lampUsed (s.lamp r.index).row = true) ∧
    (∃ (s : State) (h : PleachHdr) (lr : List LampRec), 1 ≤ lr.length ∧ lr.length ≤ 21 ∧ s.linkRuns = true ∧ h.seq =
      nextLinkSeq s.pair.rxSeq ∧ s.pair.unacked = [] ∧ s.pair.waiting = [] ∧ (s.view viewPeer).queue = [] ∧
      s.pair.handover = .none ∧ s.pair.role = .standby ∧ s.engine.up = false) ∧
    (∃ (s : State) (h : PleachHdr) (e : Option EpochRec), s.linkRuns = true ∧ h.seq = nextLinkSeq s.pair.rxSeq ∧
      s.pair.unacked = [] ∧ s.pair.waiting = [] ∧ (s.view viewPeer).queue = [] ∧ s.pair.handover = .none ∧
      s.pair.role = .standby) ∧
    (∃ (s : State) (h : PleachHdr) (n : Word), s.linkRuns = true ∧ h.seq = nextLinkSeq s.pair.rxSeq ∧ s.pair.unacked
      = [] ∧ s.pair.waiting = [] ∧ (s.view viewPeer).queue = [] ∧ s.pair.handover = .none ∧ s.pair.role = .standby) ∧
    (∃ (s : State) (h : PleachHdr) (n : Word), s.linkRuns = true ∧ h.seq = nextLinkSeq s.pair.rxSeq ∧ s.pair.unacked
      = [] ∧ s.pair.waiting = [] ∧ (s.view viewPeer).queue = [] ∧ s.pair.handover = .none ∧ s.pair.role = .standby) ∧
    (∃ (s : State) (h : PleachHdr) (n : Word), s.linkRuns = true ∧ h.seq = nextLinkSeq s.pair.rxSeq ∧ s.pair.unacked
      = [] ∧ s.pair.waiting = [] ∧ (s.view viewPeer).queue = [] ∧ s.pair.handover = .none ∧ s.mayTakeOver = true) ∧
    (∃ (s : State) (l : List Byte), s.linkRuns = true) ∧
    (∃ (k : Nat) (q : Half) (a : Half) (l : List Byte), lenFits k l.length = true) ∧
    (∃ (s : State), s.linkRuns = true ∧ s.pair.linkUp = true) ∧
    (∃ (s : State) (q : Word) (r : MirrorRec), s.roadRuns = true ∧ s.pair.unmatched.find? (fun r => decide
      (r.pairSeq = q)) = some r) ∧
    (∃ (s : State) (n : Nat) (i : Item), s.roadRuns = true ∧ s.pair.role = .standby ∧ s.item? n = some i ∧ i.place =
      .committed ∧ i.isMatched = false ∧ s.inPorts n = true) :=
  ⟨⟨paired .duty, by decide +kernel⟩,
   ⟨paired .standby, { seq := 1, ack := 0 }, beat0, true, by decide +kernel⟩,
   ⟨paired .standby, { seq := 1, ack := 0 }, { beat0 with rank := false }, true, by decide +kernel⟩,
   ⟨(paired .duty).setPair fun p => { p with unacked := [(0, .epoch none)] }, { seq := 1, ack := 0 }, .epoch none,
     [], by decide +kernel⟩,
   ⟨(paired .standby).setPair fun p => { p with rxSeq := 1, recent := [1] }, { seq := 1, ack := 0 }, .mirrorFrame
     { seq := 1, ack := 0 } [row0], [row0], [{ view := 3, pairSeq := 9 }],
     { pairSeq := 9, stamp := 5, source := 3, flags := 0, cls := 4, payload := [65] },
     [{ index := 0, row := 5, time := 5 }], none, 9, true, by decide +kernel⟩,
   ⟨paired .standby, { seq := 5, ack := 0 }, .handoverFrame { seq := 5, ack := 0 } 9 true, [row0],
     [{ view := 3, pairSeq := 9 }],
     { pairSeq := 9, stamp := 5, source := 3, flags := 0, cls := 4, payload := [65] },
     [{ index := 0, row := 5, time := 5 }], none, 9, true, by decide +kernel⟩,
   ⟨paired .duty, { seq := 1, ack := 0 }, List.replicate 26 row0, [],
     { pairSeq := 9, stamp := 5, source := 3, flags := 0, cls := 4, payload := [] }, [], by decide +kernel⟩,
   ⟨paired .standby, { seq := 1, ack := 0 }, [row0], by decide +kernel⟩,
   ⟨linked (paired .standby) 3 { item 6 with mask := 8 }, { seq := 1, ack := 0 },
     { row0 with crc := crc16 [0x21, 0x41, 0x42] }, { item 6 with mask := 8 }, by decide +kernel⟩,
   ⟨linked (paired .standby) 3 { item 6 with mask := 8, isMatched := true, pairSeq := 9 }, { seq := 1, ack := 0 },
     { view := 3, pairSeq := 9 }, { item := 6, cls := 4, order := 5, source := 3, front := false },
     by decide +kernel⟩,
   ⟨paired .standby, { seq := 1, ack := 0 },
     { pairSeq := 9, stamp := 5, source := 3, flags := 0, cls := 4, payload := [0x21, 65] }, by decide +kernel⟩,
   ⟨(paired .standby).updLamp 0 fun _ =>
     { Lamp.reset with row := BitVec.ofNat 32 (5 * 2 ^ 24 + 2 ^ 12 + 2 ^ 9), state := stDark },
     { seq := 1, ack := 0 }, { index := 0, row := 5, time := 5 }, by decide +kernel⟩,
   ⟨(paired .standby).setEngine fun e => { e with up := false }, { seq := 1, ack := 0 },
     [{ index := 0, row := 5, time := 5 }], by decide +kernel⟩,
   ⟨paired .standby, { seq := 1, ack := 0 }, some { seconds := 5, micros := 6, instant := 7 }, by decide +kernel⟩,
   ⟨paired .standby, { seq := 1, ack := 0 }, 0, by decide +kernel⟩,
   ⟨paired .standby, { seq := 1, ack := 0 }, 9, by decide +kernel⟩,
   ⟨((paired .standby).setPair fun p => { p with armed := true, lastMirrored := 0xFFFFFFF0 }).setPair fun p =>
     { p with dutyIn := false }, { seq := 1, ack := 0 }, 9, by decide +kernel⟩,
   ⟨paired .duty, [], by decide +kernel⟩,
   ⟨0x02, 5, 4, List.replicate 250 0, by decide +kernel⟩,
   ⟨paired .duty, by decide +kernel⟩,
   ⟨(paired .standby).setPair fun p => { p with unmatched := [row0] }, 9, row0, by decide +kernel⟩,
   ⟨linked (paired .standby) 3 { item 6 with mask := 8 }, 6, { item 6 with mask := 8 }, by decide +kernel⟩⟩

/-- States that meet the hypotheses of TagCommandsReadWriteAndPublish, clause by clause. -/
theorem test_meets_TagCommandsReadWriteAndPublish :
    (∃ (s : State), s.tag.field = false) ∧
    (∃ (s : State), s.tag.field = true) ∧
    (∃ (s : State) (c : Collapse), s.tag.field = true ∧ s.tag.marker = false ∧ s.tag.writes = []) ∧
    (∃ (s : State) (w : FieldWrite) (r : List FieldWrite), s.tag.field = true ∧ s.tag.marker = false ∧ s.tag.writes =
      w :: r) ∧
    (∃ (s : State) (w : FieldWrite) (r : List FieldWrite), s.tag.field = true ∧ s.tag.marker = false ∧ s.tag.writes =
      w :: r) ∧
    (∃ (s : State) (q : InventoryReq), s.tag.field = true ∧ s.tag.iso ≠ .quiet ∧ q.sixteen = false ∧ q.afi = none ∧
      tagUid.toNat % 2 ^ q.maskLen = q.mask.toNat % 2 ^ q.maskLen) ∧
    (∃ (s : State) (q : InventoryReq), (s.tag.field = false ∨ s.tag.iso = .quiet)) ∧
    (∃ (s : State) (r : TagReq), s.tag.field = true ∧ r.address = true ∧ r.select = false ∧ r.uid = tagUid ∧ r.format
      = true) ∧
    (∃ (s : State) (r : TagReq), s.tag.field = true ∧ r.address = true ∧ r.select = false ∧ r.uid = tagUid ∧ r.format
      = true) ∧
    (∃ (s : State) (r : TagReq), s.tag.field = true ∧ r.address = true ∧ r.select = false ∧ r.uid ≠ tagUid ∧ s.tag.iso
      = .selected) ∧
    (∃ (s : State) (r : TagReq) (b : Byte), s.tag.field = true ∧ s.tag.hears r = true ∧ r.format = true ∧
      s.tag.programs = false) ∧
    (∃ (s : State) (r : TagReq) (b : Half), s.tag.field = true ∧ s.tag.hears r = true ∧ r.format = true ∧
      s.tag.programs = false ∧ b.toNat < 1792) ∧
    (∃ (s : State) (r : TagReq) (b : Byte) (n : Byte), s.tag.field = true ∧ s.tag.hears r = true ∧ r.format = true ∧
      s.tag.programs = false ∧ n.toNat < 64 ∧ b.toNat + n.toNat < 256) ∧
    (∃ (s : State) (r : TagReq) (b : Half) (n : Half), s.tag.field = true ∧ s.tag.hears r = true ∧ r.format = true ∧
      s.tag.programs = false ∧ n.toNat < 64 ∧ b.toNat + n.toNat < 1792) ∧
    (∃ (s : State) (r : TagReq) (b : Half) (n : Half), s.tag.field = true ∧ s.tag.hears r = true ∧ r.format = true ∧
      (64 ≤ n.toNat ∨ 1792 ≤ b.toNat + n.toNat)) ∧
    (∃ (s : State) (r : TagReq) (b : Byte), s.tag.field = true ∧ s.tag.hears r = true ∧ r.format = true ∧
      s.tag.programs = true) ∧
    (∃ (s : State) (r : TagReq) (b : Byte) (n : Byte), s.tag.field = true ∧ s.tag.hears r = true ∧ r.format = true ∧
      s.tag.programs = false ∧ n.toNat < 64 ∧ b.toNat + n.toNat < 256) ∧
    (∃ (s : State) (r : TagReq), s.tag.field = true ∧ s.tag.hears r = true ∧ r.format = true ∧ r.option = false) ∧
    (∃ (s : State) (r : TagReq), s.tag.field = true ∧ s.tag.hears r = true ∧ r.format = true ∧ r.option = false) ∧
    (∃ (s : State) (r : TagReq), s.tag.field = true ∧ s.tag.hears r = true ∧ r.format = true) ∧
    (∃ (s : State) (r : TagReq) (k : Byte), s.tag.field = true ∧ ((r.address = true ∧ r.select = false ∧ r.uid =
      tagUid) ∨ s.tag.iso = .selected)) ∧
    (∃ (s : State) (r : TagReq) (b : Byte) (d : Word), s.tag.field = true ∧ s.tag.hears r = true ∧ r.format = true ∧
      s.tag.fieldLock = false ∧ s.tag.ahead.locked b.toNat = false) ∧
    (∃ (s : State) (r : TagReq) (b : Half) (d : Word), s.tag.field = true ∧ s.tag.hears r = true ∧ r.format = true ∧
      s.tag.fieldLock = false ∧ s.tag.ahead.locked b.toNat = false ∧ b.toNat < 1024) ∧
    (∃ (s : State) (r : TagReq) (b : Half) (d : Word) (e : Bool), s.tag.field = true ∧ s.tag.hears r = true ∧ r.format
      = true ∧ (s.tag.fieldLock = true ∨ (1024 ≤ b.toNat ∧ b.toNat < 1792)) ∧ b.toNat < 1792) ∧
    (∃ (s : State) (r : TagReq) (b : Byte) (e : Bool), s.tag.field = true ∧ s.tag.hears r = true ∧ r.format = true ∧
      s.tag.fieldLock = false ∧ s.tag.ahead.locked b.toNat = true) ∧
    (∃ (s : State) (c : Instr) (r : TagReq) (b : Byte) (n : Byte) (h : Half) (k : Half) (d : Word) (e : Bool), c ∈
      [Instr.readSingleBlock r b, .writeSingleBlock r b d e, .lockBlock r b e, .readMultipleBlocks r b n,
      .resetToReady r, .getSystemInformation r, .getMultipleBlockSecurityStatus r b n, .extendedReadSingleBlock r h,
      .extendedWriteSingleBlock r h d e, .extendedReadMultipleBlocks r h k, .extendedGetSystemInformation r] ∧
      (s.tag.field = false ∨ s.tag.hears r = false)) ∧
    (∃ (s : State) (w : FieldWrite) (r : List FieldWrite), s.tag.writes = w :: r ∧ s.tag.field = true ∧ s.tag.owes =
      false ∧ s.tag.hostFirst = false ∧ w.isLock = false ∧ w.block < 1024) ∧
    (∃ (s : State), s.tag.owes = true) ∧
    (∃ (s : State), s.tag.owes = false ∧ s.tag.writes = []) ∧
    (∃ (s : State) (first : Nat) (n : Nat) (u : Stamp), s.tag.session = some (first, n, u)) ∧
    (∃ (s : State) (m : Msg), s.offers m 0x0801 inWork (exactFault []) ∧ s.publishBusy = false ∧ s.tag.publishing =
      none) ∧
    (∃ (s : State) (m : Msg), s.offers m 0x0801 inWork (exactFault []) ∧ s.publishBusy = true) ∧
    (∃ (s : State) (l : List (Nat × Word)) (a : Accepted), s.engineWorks = true ∧ s.tag.publishing = some l ∧
      s.engine.accepted.find? (fun a => decide (a.work = .publish)) = some a) ∧
    (∃ (s : State) (l : List (Nat × Word)), s.engineWorks = true ∧ s.tag.publishing = some l ∧ s.publishBusy = false) ∧
    (∃ (s : State), s.engineWorks = true ∧ s.tag.publishing = none ∧ s.publishDue = true) ∧
    (∃ (s : State), s.publishDue = false) :=
  ⟨⟨live .run, by decide +kernel⟩,
   ⟨fielded, by decide +kernel⟩,
   ⟨fielded, .check, by decide +kernel⟩,
   ⟨fielded.setTag fun t => { t with writes := [{ block := 1023, data := 77, isLock := false, option := false }] },
     { block := 1023, data := 77, isLock := false, option := false }, [], by decide +kernel⟩,
   ⟨fielded.setTag fun t => { t with writes := [{ block := 1023, data := 77, isLock := false, option := false }] },
     { block := 1023, data := 77, isLock := false, option := false }, [], by decide +kernel⟩,
   by
      obtain ⟨k, m, h⟩ := some_mask tagUid.toNat
      exact ⟨fielded, { sixteen := false, slot := 0, afi := none, maskLen := k, mask := m }, rfl, by decide, rfl, rfl, h⟩,
   ⟨live .run, { sixteen := false, slot := 0, afi := none, maskLen := 0, mask := 0 }, by decide +kernel⟩,
   by
      generalize tagUid = u
      exact ⟨fielded, { req with address := true, uid := u }, rfl, rfl, rfl, rfl, rfl⟩,
   by
      generalize tagUid = u
      exact ⟨fielded, { req with address := true, uid := u }, rfl, rfl, rfl, rfl, rfl⟩,
   by
      obtain ⟨v, hv⟩ : ∃ v : BitVec 64, v ≠ tagUid := other_uid tagUid
      exact ⟨fielded.setTag fun t => { t with iso := .selected }, { req with address := true, uid := v }, rfl, rfl, rfl, hv, rfl⟩,
   ⟨fielded, req, 255, by decide +kernel⟩,
   ⟨fielded, req, 1791, by decide +kernel⟩,
   ⟨fielded, req, 255, 0, by decide +kernel⟩,
   ⟨fielded, req, 1728, 63, by decide +kernel⟩,
   ⟨fielded, req, 1791, 1, by decide +kernel⟩,
   ⟨fielded.setTag fun t =>
     { t with writes := [{ block := 1023, data := 77, isLock := false, option := false }], hostOp := some (.write 5 6), busy := true },
     req, 3, by decide +kernel⟩,
   ⟨fielded, req, 0, 63, by decide +kernel⟩,
   ⟨fielded, req, by decide +kernel⟩,
   ⟨fielded, req, by decide +kernel⟩,
   ⟨fielded.setTag fun t => { t with iso := .selected }, { req with select := true }, by decide +kernel⟩,
   by
      generalize tagUid = u
      exact ⟨fielded, { req with address := true, uid := u }, 0x99, rfl, .inl ⟨rfl, rfl, rfl⟩⟩,
   ⟨fielded, req, 255, 77, by decide +kernel⟩,
   ⟨fielded, req, 1023, 77, by decide +kernel⟩,
   ⟨fielded, req, 1024, 77, true, by decide +kernel⟩,
   ⟨fielded.setTag fun t => { t with blocks := [(1792, 8)] }, req, 3, true, by decide +kernel⟩,
   ⟨live .run, .resetToReady req, req, 0, 0, 0, 0, 0, true, by decide +kernel⟩,
   ⟨fielded.setTag fun t => { t with writes := [{ block := 1023, data := 77, isLock := false, option := false }] },
     { block := 1023, data := 77, isLock := false, option := false }, [], by decide +kernel⟩,
   ⟨fielded.setTag fun t => { t with owes := true }, by decide +kernel⟩,
   ⟨fielded, by decide +kernel⟩,
   ⟨(live .run).setTag fun t => { t with session := some (3, 2, 900) }, 3, 2, 900, by decide +kernel⟩,
   ⟨offer (live .run) 0x0801 ([]), msg [], by unfold State.offers; decide +kernel⟩,
   ⟨offer (owing (live .run) 0x0801 .publish) 0x0801 ([]), msg [], by unfold State.offers; decide +kernel⟩,
   ⟨owing ((live .run).setTag fun t => { t with publishing := some [(1024, 5)] }) 0x0801 .publish, [(1024, 5)],
     { ch := .n, code := 0x0801, tag := 7, work := .publish }, by decide +kernel⟩,
   ⟨(live .run).setTag fun t => { t with publishing := some [(1024, 5)] }, [(1024, 5)], by decide +kernel⟩,
   ⟨live .run, by decide +kernel⟩,
   ⟨(live .run).setTag fun t => { t with lastPublish := some (0, (live .run).alarmStat, t.fieldSeq, 0) }, by decide +kernel⟩⟩

/-- States that meet the hypotheses of ManagementBusAndLoopbacks, clause by clause. -/
theorem test_meets_ManagementBusAndLoopbacks :
    (∃ (s : State) (i : Fin 16), s.engineWorks = true ∧ s.mgmt.stuck = false ∧ s.scanOn i = true ∧ s.mgmt.active =
      none ∧ s.mgmt.due = 0) ∧
    (∃ (s : State) (i : Fin 16) (k : Fin 16), s.engineWorks = true ∧ s.mgmt.stuck = false ∧ s.scanOn i = true ∧
      s.mgmt.active = some k) ∧
    (∃ (s : State) (i : Fin 16), (s.scanOn i = false ∨ s.mgmt.stuck = true)) ∧
    (∃ (s : State) (i : Fin 16) (d : List Byte), s.engineWorks = true ∧ s.mgmt.active = some i ∧ s.mgmt.setWaits =
      false ∧ s.mgmt.due = 0) ∧
    (∃ (s : State) (i : Fin 16), s.engineWorks = true ∧ s.mgmt.active = some i ∧ s.mgmt.setWaits = false ∧ s.mgmt.due
      = 0) ∧
    (∃ (s : State) (i : Fin 16), s.engineWorks = true ∧ s.mgmt.active = some i ∧ s.mgmt.setWaits = false ∧ s.mgmt.due
      = 0) ∧
    (∃ (s : State) (i : Fin 16) (r : MgmtRecovery), s.engineWorks = true ∧ s.mgmt.active = some i ∧ s.mgmt.stuck =
      false ∧ s.mgmt.setWaits = false ∧ (r = .sdaLow ∨ r = .sclLow)) ∧
    (∃ (s : State) (r : MgmtRecheck), s.engineWorks = true ∧ s.mgmt.stuck = true ∧ s.mgmt.active = none ∧ r ≠
      .stillHeld) ∧
    (∃ (s : State), s.mgmt.stuck = true) ∧
    (∃ (s : State) (m : Msg) (p : PortNo), s.offers m 0x0904 inProbe s.loopFault ∧ byteAt m.payload 0 = p.val ∧
      s.portBusy p.val = false ∧ byteAt m.payload 1 ≠ 0) ∧
    (∃ (s : State) (m : Msg) (p : PortNo), s.offers m 0x0904 inProbe s.loopFault ∧ byteAt m.payload 0 = p.val ∧
      s.portBusy p.val = false ∧ byteAt m.payload 1 = 0) ∧
    (∃ (s : State) (m : Msg) (p : PortNo), s.offers m 0x0904 inProbe s.loopFault ∧ byteAt m.payload 0 = p.val ∧
      s.portBusy p.val = true) ∧
    (∃ (s : State) (m : Msg) (p : PortNo), s.offers m 0x0905 inProbe s.sweepFault ∧ byteAt m.payload 0 = p.val ∧
      s.portBusy p.val = false) ∧
    (∃ (s : State) (m : Msg) (p : PortNo), s.offers m 0x0905 inProbe s.sweepFault ∧ byteAt m.payload 0 = p.val ∧
      s.portBusy p.val = true) ∧
    (∃ (s : State) (p : PortNo) (l : List (List (List Nat))) (a : Accepted) (n : Nat), s.engineWorks = true ∧ s.sweepOf p = some a
      ∧ a.work = .sweep p n) :=
  ⟨⟨scanning, 15, by decide +kernel⟩,
   ⟨scanning.setMgmt fun m => { m with active := some 3 }, 15, 3, by decide +kernel⟩,
   ⟨live .run, 15, by decide +kernel⟩,
   ⟨(live .run).setMgmt fun m => { m with active := some 15 }, 15, [1, 2], by decide +kernel⟩,
   ⟨(live .run).setMgmt fun m => { m with active := some 15 }, 15, by decide +kernel⟩,
   ⟨(live .run).setMgmt fun m => { m with active := some 15 }, 15, by decide +kernel⟩,
   ⟨(live .run).setMgmt fun m => { m with active := some 15 }, 15, .sclLow, by decide +kernel⟩,
   ⟨scanning.setMgmt fun m => { m with stuck := true }, .recovered, by decide +kernel⟩,
   ⟨scanning.setMgmt fun m => { m with stuck := true }, by decide +kernel⟩,
   ⟨offer (withRow (live .probe) talkRow) 0x0904 ([3, 1]), msg [3, 1], 3, by unfold State.offers; decide +kernel⟩,
   ⟨offer ((withRow (live .probe) talkRow).updPort 3 fun q => { q with loop := .external }) 0x0904 ([3, 0]), msg [3,
     0], 3, by unfold State.offers; decide +kernel⟩,
   ⟨offer (owing ((withRow (live .probe) talkRow).updPort 3 fun q => { q with loop := .external }) 0x0905 (.sweep 3 2))
     0x0904 ([3, 2]), msg [3, 2], 3, by unfold State.offers; decide +kernel⟩,
   ⟨offer ((withRow (live .probe) talkRow).updPort 3 fun q => { q with loop := .external }) 0x0905 ([3, 64]), msg [3,
     64], 3, by unfold State.offers; decide +kernel⟩,
   ⟨offer (owing ((withRow (live .probe) talkRow).updPort 3 fun q => { q with loop := .external }) 0x0905 (.sweep 3 2))
     0x0905 ([3, 1]), msg [3, 1], 3, by unfold State.offers; decide +kernel⟩,
   ⟨owing (withRow (live .probe) talkRow) 0x0905 (.sweep 3 2), 3, [[[100]], [[180]]],
     { ch := .n, code := 0x0905, tag := 7, work := .sweep 3 2 }, 2, by decide +kernel⟩⟩

/-! ### Ill-formed commands are refused, one per check of `Instr.wf` -/

/-- 06 Table - Message header: at most 4088 payload bytes. -/
theorem test_wf_message : (Instr.version (msg (List.replicate 4089 0))).wf = false := by decide +kernel
/-- 03 R64: codes 0x8 to 0xF. -/
theorem test_wf_modereqUnknown : (Instr.modereqUnknown .ctl 7).wf = false := by decide
/-- 05 R149: registers lie at even offsets. -/
theorem test_wf_registerWrite : (Instr.registerWrite .ctl 0x35 1).wf = false := by decide
/-- 10 Table - Character formats: 9 to 13 bits with the start and stop bits. -/
theorem test_wf_characterStored : (Instr.characterStored 3 (List.replicate 8 ⟨true, true, true⟩) []).wf = false := by decide
/-- 08 AMP-SWEEP: 1 to 64 readings. -/
theorem test_wf_ampSweepDone : (Instr.ampSweepDone 3 []).wf = false := by decide
/-- 15 R436: nine bits a character. -/
theorem test_wf_replyAccepted : (Instr.replyAccepted 0 [0x200]).wf = false := by decide
theorem test_wf_headCommandReceived : (Instr.headCommandReceived 3 []).wf = false := by decide
theorem test_wf_headBroadcastReceived : (Instr.headBroadcastReceived 3 [0x105, 0x3FF]).wf = false := by decide
/-- 17 Table - Pleach frame types: 1 to 25 records. -/
theorem test_wf_mirrorFrame : (Instr.mirrorFrame ⟨0, 0⟩ (List.replicate 26 row0)).wf = false := by decide
theorem test_wf_deliveredFrame : (Instr.deliveredFrame ⟨0, 0⟩ []).wf = false := by decide
theorem test_wf_itemFrame :
    (Instr.itemFrame ⟨0, 0⟩
      { pairSeq := 1, stamp := 0, source := 3, flags := 0, cls := 4, payload := List.replicate 241 0x41 }).wf = false := by
  decide +kernel
theorem test_wf_lampFrame :
    (Instr.lampFrame ⟨0, 0⟩ (List.replicate 22 { index := 0, row := 0, time := 0 })).wf = false := by decide
/-- 19 R578: a mask of at most 64 bits. -/
theorem test_wf_inventory :
    (Instr.inventory { sixteen := false, slot := 0, afi := none, maskLen := 65, mask := 0 }).wf = false := by decide
theorem test_wf_accepts : (Instr.portSet (msg [3, 0, 0, 0])).wf = true := by decide

/-! ### Worked examples of the spec -/

/-- 07 R207: the check value of the CRC-32. -/
theorem test_crc32_check : crc32 (ascii "123456789") = 0xCBF43926 := by decide +kernel
/-- 15 R442: the check value of the CRC-16. -/
theorem test_crc16_check : crc16 (ascii "123456789") = 0x29B1 := by decide +kernel
/-- 15 "A POLL and its CRC". -/
theorem test_poll_of_head_12 : hedgeFrame 0 12 tyPoll true [] = [0x0C, 0x81, 0x00, 0x91, 0x54] := by decide +kernel
/-- 04 "Reading a head cell's header in one piece". -/
theorem test_cell_1000 : cellAt 1000 = 0x5F400 := by decide
/-- The item of 13 "The header of an RMC item". -/
def rmc : Item :=
  { item 1 with cells := [1000], payload := List.replicate 78 0x41, source := 0, stamp := 0x10B98DC90, flags := 0x40,
                cls := 3, rule := 3, stampAct := 2, mask := 0x2000F00000000, pairSeq := 0x2F41 }

/-- 13 "The header of an RMC item": the six words at cell 1000. -/
theorem test_rmc_header :
    (((live .run).putHeader rmc).memBytes 0x5F400 24) =
      [0x40, 0x00, 0x4E, 0x13, 0x90, 0xDC, 0x98, 0x0B, 0x03, 0x10, 0x01, 0x00, 0, 0, 0, 0, 0x0F, 0x00, 0x02, 0x00, 0x41,
       0x2F, 0, 0] := by decide +kernel

/-- 11 "The checksum of a device alarm". -/
theorem test_alarm_checksum :
    makeSentence [ascii "IIALR", [], ascii "001", ascii "A", ascii "V", ascii "P07-H12-L3 DARK"] =
      ascii "$IIALR,,001,A,V,P07-H12-L3 DARK*0A" ++ [0x0D, 0x0A] := by decide +kernel
/-- 11 "An r: block". -/
theorem test_r_block : tagBlock [ascii "r:4482284608"] = ascii "\\r:4482284608*42\\" := by decide +kernel
/-- 08 "Setting the epoch": the talker item at 0x1_0B98_DC90. -/
theorem test_utc_of_stamp :
    utcSeconds { seconds := 2050760256, micros := 250000, instant := 0x10B2A3C40 } 0x10B98DC90 = 2050760263 ∧
    utcFraction { seconds := 2050760256, micros := 250000, instant := 0x10B2A3C40 } 0x10B98DC90 = 500000 := by
  decide +kernel
/-- 09 "A capture threshold in steps": from 45, 90 is a step at 6 dB and 89 is none; at 3 dB it is 64 and 63. -/
theorem test_capture_threshold :
    stepMet 45 90 6 = true ∧ stepMet 45 89 6 = false ∧ stepMet 45 64 3 = true ∧ stepMet 45 63 3 = false := by
  decide +kernel
/-- 10 "Locking onto a 4800 Bd talker". -/
theorem test_lock_at_4800 :
    edgesCharacter { e2 := 627400, e3 := 825900, e4 := 1246900, e5 := 1445400, e6 := 1866300, markAfter := true } =
      some 0x24 ∧
    edgesRate { e2 := 627400, e3 := 825900, e4 := 1246900, e5 := 1445400, e6 := 1866300, markAfter := true } = 4800 := by
  decide +kernel
/-- 02 Table - Counters read at 1.000 s: T of 4800 Bd is 3333 Tally periods. -/
theorem test_ratehint_4800 : edgesHint EDG = 3333 := by decide
/-- 21 "A one-in-eight drop": the register after the first two steps from 0xACE1. -/
theorem test_lfsr : lfsrNext 0xACE1 = 0xE270 ∧ lfsrNext 0xE270 = 0x7138 := by decide
/-- 02 R55: the first-second block is clear at the release of power-on reset. -/
theorem test_fsec_clear : State.reset.memBytes 0xF7C00 8 = List.replicate 8 0 := by decide +kernel

/-- 09 R271: the mean in steps of 20 mV, the nearest one, saturating at 255. -/
theorem test_reading : readingOf [908, 908] = 45 ∧ readingOf [900, 920, 940] = 46 ∧ readingOf [6000] = 255 := by decide
/-- 15 R443: an address character in the middle abandons the frame and begins a new one; the frame is that of 15 "A POLL and
its CRC". -/
theorem test_address_restarts_the_frame :
    readFrame (onLine [0x0C, 0x81] ++ onLine [0x0C, 0x81, 0x00, 0x91, 0x54]) =
      some { kind := 0, addr := 12, toggle := true, type := tyPoll, payload := [] } := by decide +kernel
/-- 17 Table - Pleach frame: the fields before the CRC of an ACK-ONLY that acknowledges 5. -/
theorem test_ack_only_bytes :
    (pleachBytes 0x09 0 5 []).take 12 = [0x55, 0x55, 0x55, 0x55, 0xD5, 9, 0, 0, 5, 0, 0, 0] := by decide +kernel
/-- 17 R510: a frame that fits is kept, and one with a bit wrong is dropped. -/
theorem test_pleach_crc :
    pleachBad ((pleachBytes 0x09 0 5 []).drop 5) = false ∧ pleachBad [9, 0, 0, 4, 0, 0, 0, 0, 0, 0, 0] = true := by
  decide +kernel

/-! ### Registers on small states -/

/-- 05 "Reading elapsed time": the latched parts. -/
theorem test_elapsed_latch :
    let s := (live .run).setPower fun w => { w with elapsed := 0x10B2A3C40 }
    let t := nextOf (execElapsed0Read none s)
    s.readReg .ctl 0x30 = 0x3C40 ∧ t.readReg .ctl 0x32 = 0x0B2A ∧ t.readReg .ctl 0x34 = 0x0001 := by decide +kernel

/-- 03 R64: an unknown code is refused ILLEGAL and the mode stays. -/
theorem test_modereq_unknown :
    let t := nextOf (execModereqUnknown .ctl 9 (still .hold))
    t.mode = .hold ∧ t.modes.cause = .illegal := by decide +kernel

/-- 10 R294, R296: 0x55 in eight-bit samples with a good stop bit is stored bare. -/
theorem test_decide_0x55 :
    decidedEntry (portCfg talkRow) true
      ([false, true, false, true, false, true, false, true, false, true].map fun b => ⟨b, b, b⟩) = 0x0055 := by
  decide +kernel

/-- 20 "A temperature sensor entry": address 0x48, an 8-bit pointer 0x00, two bytes read. -/
theorem test_mgmt_temperature_sensor :
    mgmtTransaction 0x03E8000200000148 = [.start, .send 0x90, .send 0, .start, .send 0x91, .receive true,
      .receive false, .stop] := by decide +kernel

/-- 18 R544: the bad block table begins with "SBBT" and its generation, has the main area's size, and shows block 2 bad
and block 5 a spare. -/
theorem test_bad_block_table :
    let p := ({ nand0 with bad := [2] }).tablePage
    p.take 12 = [0x53, 0x42, 0x42, 0x54, 1, 0, 0, 0, 8, 0, 0xFB, 0x20] ∧ p.length = 2048 := by decide +kernel

/-- 21 R625: the reading of a sweep step is the rounded mean of its characters' readings. -/
theorem test_sweep_step : stepReading [[20], [20], [20], [40]] = 1 ∧ stepReading [[20], [40]] = 2 := by decide +kernel

/-- 21 R636: after Test-Logic-Reset the port reads 0x26A3_06B5. -/
theorem test_idcode : (nextOf (execTestLogicReset (live .hold))).jtag.idcode? = some 0x26A306B5 := by decide +kernel

/-- No row has bits, so no word is a command. -/
theorem test_no_words (n w : Nat) : decodeTableWord n w = none := rfl

end Sys2Proof.Tests
end

section
/-!
PROOFS. The fabric memory's form is kept by every step and holds after reset (01 R25); the pins of the supplies and of
Tally, TEMP and PACE (01 R29-R36, 02 R42-R55). What a supply event and a device event leave as they were is read off the
parts that `Laws/Steps.lean` gives them.
-/
namespace Sys2Proof.Machine

/-! ### The fabric memory -/

/-- Settles O4: the step law of the canonical form, which holds through every update a command makes. -/
theorem memoryStaysCanonical : Obligations.MemoryStaysCanonical :=
  fun _ _ hw hstep => step_wf hstep hw

/-- Settles O5: no byte is listed after reset. -/
theorem resetMemoryIsCanonical : Obligations.ResetMemoryIsCanonical :=
  Memory.wf_nil

/-! ### Reading a field off the parts that changed -/

/-- The next state of a command differs only in the command's parts. -/
theorem only_parts_of_exec {c : Instr} {s t : State} (h : exec c s = .next t) : Only (parts c) s t := by
  obtain ⟨u, hu, hs⟩ := exec_answers c s
  rw [hu] at h
  cases h
  exact hs.1

theorem Only.same {ps : List Part} {s t : State} (h : Only ps s t) (p : Part) (hp : ps.contains p = false := by rfl) :
    s.same p t :=
  h.2 p hp

theorem Steps.same {ps : List Part} {s t : State} (h : Steps ps s t) (p : Part) (hp : ps.contains p = false := by rfl) :
    s.same p t :=
  h.1.same p hp

/-- A port is its transmit side and the rest. -/
theorem Port.eq_of_bare_tx {q r : Port} (hb : q.bare = r.bare) (ht : q.tx = r.tx) : q = r := by
  cases q; cases r
  simp_all [Port.bare]

/-- Where neither half of the ports changes, every port is the same. -/
theorem Steps.port_eq {ps : List Part} {s t : State} (h : Steps ps s t) (p : PortNo)
    (hb : ps.contains .ports = false := by rfl) (ht : ps.contains .tx = false := by rfl) : t.port p = s.port p :=
  Port.eq_of_bare_tx (h.same .ports hb p) (h.same .tx ht p)

@[simp] theorem State.mapPorts_port (s : State) (f : Port → Port) (p : PortNo) : (s.mapPorts f).port p = f (s.port p) := by
  show (s.ports.map f)[p.val] = f s.ports[p.val]
  simp

/-! ### SUPPLY events and device events -/

section supplyEvent
variable (s : State) (bit : Nat)

/-- What follows a SUPPLY event's two bits is the doorbell. -/
theorem State.supplyEvent_rings : Steps [.irq, .bells]
    ((s.setPower fun p => { p with supplyEvents := p.supplyEvents ||| BitVec.ofNat 4 (2 ^ bit) }).raise .ctl .supply)
    (s.supplyEvent bit) :=
  State.ring_steps bellSupply (Steps.refl _ _) rfl

@[simp] theorem State.supplyEvent_power : (s.supplyEvent bit).power =
    { s.power with supplyEvents := s.power.supplyEvents ||| BitVec.ofNat 4 (2 ^ bit) } :=
  (s.supplyEvent_rings bit).same .power

@[simp] theorem State.supplyEvent_modes : (s.supplyEvent bit).modes = s.modes :=
  (s.supplyEvent_rings bit).same .modes

@[simp] theorem State.supplyEvent_pair : (s.supplyEvent bit).pair = s.pair :=
  (s.supplyEvent_rings bit).same .pair

@[simp] theorem State.supplyEvent_port (p : PortNo) : (s.supplyEvent bit).port p = s.port p :=
  (s.supplyEvent_rings bit).port_eq p

theorem State.supplyEvent_irq : (s.supplyEvent bit).culvert.irqstat.getLsbD 7 = true :=
  ((s.supplyEvent_rings bit).same .acks rfl 7).1 (by simp [State.raise, Irq.bit])

end supplyEvent

section deviceEvent
variable (s : State) (code : Nat) (value : Option Nat)

/-- The bit of a device event in the device flags of EVENTS (08 R240). -/
def deviceFlag (code : Nat) : Nat :=
  if code = evTallyLost then 1 else if code = evTallyBack then 2 else if code = evHostSilent then 4
  else if code = evPaceLow then 8 else 0

/-- A device event marks its flag; what it tells leaves the flags. -/
theorem State.deviceEvent_tells : Steps [.mem, .pool, .draws, .irq, .bells, .sluice, .journal, .dozeEvents]
    (s.setSettings fun t => { t with devFlags := t.devFlags ||| BitVec.ofNat 4 (deviceFlag code) })
    (s.deviceEvent code value) := by
  refine Steps.ite ?_ ?_
  · exact State.setDozeEvents_steps _ (Steps.refl _ _) rfl
  · exact State.tellOrKeep_steps _ _ _ _ _ _ (Steps.refl _ _) rfl

@[simp] theorem State.deviceEvent_power : (s.deviceEvent code value).power = s.power :=
  (s.deviceEvent_tells code value).same .power

@[simp] theorem State.deviceEvent_modes : (s.deviceEvent code value).modes = s.modes :=
  (s.deviceEvent_tells code value).same .modes

@[simp] theorem State.deviceEvent_pair : (s.deviceEvent code value).pair = s.pair :=
  (s.deviceEvent_tells code value).same .pair

@[simp] theorem State.deviceEvent_port (p : PortNo) : (s.deviceEvent code value).port p = s.port p :=
  (s.deviceEvent_tells code value).port_eq p

theorem State.deviceEvent_devFlags : (s.deviceEvent code value).settings.devFlags =
    s.settings.devFlags ||| BitVec.ofNat 4 (deviceFlag code) :=
  ((s.deviceEvent_tells code value).same .events).1

theorem State.deviceEvent_irq {s : State} {k : Nat} (h : s.culvert.irqstat.getLsbD k = true) :
    (s.deviceEvent code value).culvert.irqstat.getLsbD k = true :=
  ((s.deviceEvent_tells code value).same .acks rfl k).1 h

end deviceEvent

/-! ### The drivers and joins of the ports -/

@[simp] theorem Port.join_joined (q : Port) (due : Bool) : (q.join due).joined = due := by
  unfold Port.join
  split
  · assumption
  · rfl

@[simp] theorem Port.join_driver (q : Port) (due : Bool) : (q.join due).driver = q.driver := by
  unfold Port.join; split <;> rfl

@[simp] theorem Port.join_amp (q : Port) (due : Bool) : (q.join due).amp = q.amp := by
  unfold Port.join; split <;> rfl

@[simp] theorem Port.drive_driver (q : Port) (on : Bool) : (q.drive on).driver = (on && decide (q.loop ≠ .internal)) := rfl

/-- Whether a driver is due does not depend on the SUPPLY event bits. -/
theorem State.driverDue_congr {s t : State} {e : BitVec 4} (hp : t.power = { s.power with supplyEvents := e })
    (hm : t.modes = s.modes) (hr : t.pair = s.pair) (tx : TxRole) : t.driverDue tx = s.driverDue tx := by
  cases s; cases t
  dsimp only at hp hm hr
  subst hp hm hr
  rfl

/-! ### PACE -/

theorem Power.paceStep_pace (p : Power) (v : Nat) : (p.paceStep v).pace = BitVec.ofNat 16 v := rfl

theorem Power.paceStep_slow (p : Power) {v : Nat} (h : v < 450) :
    (p.paceStep v).paceLow = true ∧ (p.paceStep v).paceGood = 0 := by
  simp [Power.paceStep, h]

theorem Power.paceStep_good_paceLow (p : Power) {v : Nat} (h : 450 ≤ v) :
    (p.paceStep v).paceLow = (p.paceLow && decide (p.paceGood < 9)) := by
  have count : p.paceGood + 1 < 10 ↔ p.paceGood < 9 := by omega
  simp [Power.paceStep, Nat.not_lt.2 h, count]

theorem Power.paceStep_good_paceGood (p : Power) {v : Nat} (h : 450 ≤ v) (hl : p.paceLow = true) (hg : p.paceGood < 9) :
    (p.paceStep v).paceGood = p.paceGood + 1 := by
  simp [Power.paceStep, Nat.not_lt.2 h, hl]
  omega

/-- A change of PACE_LOW is told (01 R31). -/
def State.tellPace (s : State) (bit code v : Nat) : State := (s.supplyEvent bit).headNotice.deviceEvent code (some v)

theorem State.tellPace_power (s : State) (bit code v : Nat) : (s.tellPace bit code v).power =
    { s.power with supplyEvents := s.power.supplyEvents ||| BitVec.ofNat 4 (2 ^ bit) } := by
  simp [State.tellPace, State.headNotice]

theorem State.tellPace_irq (s : State) (bit code v : Nat) : (s.tellPace bit code v).culvert.irqstat.getLsbD 7 = true :=
  State.deviceEvent_irq _ _ (s.supplyEvent_irq bit)

/-- The device after an update of PACE to `v`, outside DOZE. -/
def State.paceUpdated (s : State) (v : Nat) : State :=
  let u := s.setPower fun p => p.paceStep v
  if u.power.paceLow && !s.power.paceLow then u.tellPace 1 evPaceLow v
  else if s.power.paceLow && !u.power.paceLow then u.tellPace 0 evPaceOk v
  else u

theorem exec_paceUpdate {s : State} {n : Nat} (ha : s.alive = true) (hm : s.mode ≠ .doze) (hn : n / 1000 < 65536) :
    exec (.paceUpdate n) s = .next (s.paceUpdated (n / 1000)) := by
  have hv : min 0xFFFF (n / 1000) = n / 1000 := by omega
  show execPaceUpdate n s = _
  simp only [execPaceUpdate, State.paceUpdated, State.tellPace, ha, hm, hv, Bool.not_true, decide_false, Bool.or_self,
    Bool.false_eq_true, if_false]
  split
  · rfl
  · split <;> rfl

theorem exec_paceUpdate_doze {s : State} (n : Nat) (hm : s.mode = .doze) : exec (.paceUpdate n) s = .next s := by
  show execPaceUpdate n s = _
  simp [execPaceUpdate, hm]

/-- The update of PACE changes the power fields as `paceStep` gives, and SUPPLY event bits. -/
theorem State.paceUpdated_power (s : State) (v : Nat) :
    ∃ e, (s.paceUpdated v).power = { s.power.paceStep v with supplyEvents := e } := by
  unfold State.paceUpdated
  dsimp only
  split
  · exact ⟨_, State.tellPace_power _ _ _ _⟩
  · split
    · exact ⟨_, State.tellPace_power _ _ _ _⟩
    · exact ⟨_, rfl⟩

/-- As PACE falls below 450 with the indication clear, SUPPLY is raised with PACE_LOW_SET. -/
theorem State.paceUpdated_falls {s : State} {v : Nat} (hv : v < 450) (hl : s.power.paceLow = false) :
    (s.paceUpdated v).culvert.irqstat.getLsbD 7 = true ∧ (s.paceUpdated v).power.supplyEvents.getLsbD 1 = true := by
  have told : s.paceUpdated v = (s.setPower fun p => p.paceStep v).tellPace 1 evPaceLow v := by
    simp [State.paceUpdated, hl, (s.power.paceStep_slow hv).1]
  rw [told, State.tellPace_power]
  exact ⟨State.tellPace_irq _ _ _ _, by simp⟩

/-! ### VANA and Tally -/

theorem exec_vanaGood {s : State} (hv : s.power.vanaGood = false) :
    exec .vanaGood s = .next (s.setPower fun p => { p with
      vanaGood := true, vanaSettled := !p.vanaWasLost && !s.roadRuns && decide (s.mode ≠ .doze) }).setJoins := by
  show execVanaGood s = _
  simp [execVanaGood, hv]

/-- The supply registers of a released device as VANA is lost (02 R46). -/
def State.vanaGone (s : State) : State :=
  s.setPower fun p => { p with vanaGood := false, vanaSettled := false, vanaWasLost := true }

/-- The items on the lines are kept, every driver is high-impedance, and amplitude readings start anew (02 R42, R46;
09 R273). -/
def State.linesDark (s : State) : State :=
  ((s.eachPort fun s p => s.cutSending p true).mapPorts fun (q : Port) =>
    { q.drive false with amp := { q.amp with seen := 0 } }).setJoins

@[simp] theorem State.linesDark_power (s : State) : s.linesDark.power = s.power := by
  have cut : Steps [.mem, .pool, .tx, .sluice] s (s.eachPort fun s p => s.cutSending p true) :=
    State.eachPort_steps _ (Steps.refl _ _) fun _ _ h => State.cutSending_steps _ _ h rfl
  have kept : (s.eachPort fun s p => s.cutSending p true).power = s.power := cut.same .power
  simp [State.linesDark, State.setJoins, kept]

@[simp] theorem State.linesDark_driver (s : State) (p : PortNo) : (s.linesDark.port p).driver = false := by
  simp [State.linesDark, State.setJoins]

@[simp] theorem State.linesDark_seen (s : State) (p : PortNo) : (s.linesDark.port p).amp.seen = 0 := by
  simp [State.linesDark, State.setJoins]

theorem exec_vanaLost {s : State} (hr : s.released = true) (hv : s.power.vanaGood = true) :
    exec .vanaLost s = .next ((s.vanaGone.linesDark.supplyEvent 3).deviceEvent evVanaLost none) := by
  have hr' : (s.setPower fun p => { p with vanaGood := false, vanaSettled := false }).released = true := hr
  show execVanaLost s = _
  simp only [execVanaLost, hv, hr']
  rfl

theorem exec_vanaBack {s : State} (hr : s.released = true) (hv : s.power.vanaGood = true)
    (hs : s.power.vanaSettled = false) (hl : s.power.vanaWasLost = true) :
    exec .vanaBack s = .next (((s.setPower fun p => { p with vanaSettled := true, vanaWasLost := false
      }).driveAll.supplyEvent 2).deviceEvent evVanaBack none) := by
  have hr' : (s.setPower fun p => { p with vanaSettled := true, vanaWasLost := false }).driveAll.released = true := hr
  show execVanaBack s = _
  simp [execVanaBack, hv, hs, hl, hr']

theorem exec_tallyLost {s : State} (hr : s.power.running = true) (hl : s.power.tallyLost = false) :
    exec .tallyLost s =
      .next ((s.setPower fun p => { p with tallyLost := true, tallyWasLost := true }).deviceEvent evTallyLost none) := by
  show execTallyLost s = _
  simp [execTallyLost, hr, hl]

theorem exec_tallyBack {s : State} (hr : s.power.running = true) (hl : s.power.tallyLost = true)
    (hw : s.power.tallyWasLost = true) :
    exec .tallyBack s =
      .next ((s.setPower fun p => { p with tallyLost := false, tallyWasLost := false }).deviceEvent evTallyBack none) := by
  show execTallyBack s = _
  simp [execTallyBack, hr, hl, hw]

theorem exec_nresetRelease {s : State} (rank od : Bool) (hl : s.power.nresetLow = true) (hr : s.power.running = true) :
    exec (.nresetRelease rank od) s =
      .next (s.setPower fun p => { p with nresetLow := false, rank := rank, waitOd := od }) := by
  show execNresetRelease rank od s = _
  simp [execNresetRelease, hl, hr]

theorem exec_tempConversion {s : State} (v : Half) (ha : s.alive = true) :
    exec (.tempConversion v) s = .next (s.setPower fun p => { p with temp := v }) := by
  show execTempConversion v s = _
  simp [execTempConversion, ha]

/-! ### The statements -/

/-- Settles O10: each command's next state, and for PACE what `paceStep` does on either side of 450. -/
theorem supplyPinsStrapsAndPace : Obligations.SupplyPinsStrapsAndPace := by
  refine ⟨fun s => ?_, fun s rank od hl hr => ?_, fun s hv => ?_, fun s v ha => ?_, fun s n ha hm hn => ?_,
    fun s n hm => exec_paceUpdate_doze n hm⟩
  · exact ⟨_, rfl, rfl, only_parts_of_exec (c := .orderFault) rfl⟩
  · have h := exec_nresetRelease rank od hl hr
    exact ⟨_, h, rfl, only_parts_of_exec h⟩
  · have h := exec_vanaGood hv
    refine ⟨_, h, rfl, rfl, only_parts_of_exec h, fun p => ?_⟩
    rw [State.setJoins, State.mapPorts_port, Port.join_joined]
    rfl
  · have h := exec_tempConversion v ha
    exact ⟨_, h, rfl, only_parts_of_exec h⟩
  · have h := exec_paceUpdate ha hm hn
    obtain ⟨e, he⟩ := s.paceUpdated_power (n / 1000)
    refine ⟨_, h, ?_, fun hv => ⟨?_, ?_, State.paceUpdated_falls hv⟩, fun hv => ?_, fun hv hl hg => ?_,
      only_parts_of_exec h⟩ <;> rw [he]
    · exact s.power.paceStep_pace _
    · exact (s.power.paceStep_slow hv).1
    · exact (s.power.paceStep_slow hv).2
    · exact s.power.paceStep_good_paceLow hv
    · exact s.power.paceStep_good_paceGood hv hl hg

/-- Settles O11: the state in which each loss or return leaves supply, ports and Tally, carried through the events that
tell of it. -/
theorem supplyLossAndReturn : Obligations.SupplyLossAndReturn := by
  refine ⟨fun s hr hv => ?_, fun s hr hv hs hl => ?_, fun s hr hl => ?_, fun s hr hl hw => ?_⟩
  · have h := exec_vanaLost hr hv
    have only := only_parts_of_exec h
    exact ⟨_, h, by simp [State.vanaGone], by simp [State.vanaGone], fun p => by simp, by simp,
      State.deviceEvent_irq _ _ (State.supplyEvent_irq _ 3), only.same .modes, only⟩
  · have h := exec_vanaBack hr hv hs hl
    have only := only_parts_of_exec h
    refine ⟨_, h, by simp [State.driveAll], by simp [State.driveAll], fun p => ?_, by simp,
      State.deviceEvent_irq _ _ (State.supplyEvent_irq _ 2), only.same .modes, only⟩
    rw [State.driverDue_congr (s := s.setPower fun p => { p with vanaSettled := true, vanaWasLost := false })
      (by simp [State.driveAll]; rfl) (by simp [State.driveAll]) (by simp [State.driveAll])]
    simp [State.driveAll]
    rfl
  · have h := exec_tallyLost hr hl
    exact ⟨_, h, by simp, by simp [State.doubtNow], by simp [State.deviceEvent_devFlags, deviceFlag],
      only_parts_of_exec h⟩
  · have h := exec_tallyBack hr hl hw
    exact ⟨_, h, by simp, by simp [State.doubtNow],
      by simp [State.deviceEvent_devFlags, deviceFlag, evTallyLost, evTallyBack], only_parts_of_exec h⟩

end Sys2Proof.Machine
end

section
/-!
PROOFS. The four resets and their end (02 R40-R51, R57; 05 R153, R178, R179), MODEREQ writes while a transition or reset
completion runs (03 R65-R73), and the first-second counter blocks (02 R55, R56; 10 R308-R310).
-/
namespace Sys2Proof.Machine

/-! ### Runs of bytes in the fabric memory -/

theorem Memory.read_writeList_of_outside {m : List Host.Cell} {a c : Nat} {bs : List Byte}
    (h : c < a ∨ a + bs.length ≤ c) : Memory.read (Memory.writeList m a bs) c = Memory.read m c := by
  induction bs generalizing m a with
  | nil => rfl
  | cons b bs ih =>
    rw [List.length_cons] at h
    rw [Memory.writeList, ih (by omega), Memory.read_write_ne (by omega)]

theorem Memory.read_writeList_getElem {m : List Host.Cell} {a k : Nat} {bs : List Byte} (hw : Memory.wf m = true)
    (ha : a + bs.length ≤ 0x100000) (hk : k < bs.length) :
    Memory.read (Memory.writeList m a bs) (a + k) = bs[k] := by
  induction bs generalizing m a k with
  | nil => exact absurd hk (Nat.not_lt_zero k)
  | cons b bs ih =>
    rw [List.length_cons] at ha hk
    cases k with
    | zero =>
      rw [Memory.writeList, Memory.read_writeList_of_outside (by omega)]
      exact Memory.read_write_eq hw
    | succ k =>
      have next := ih (m := Memory.write m a b) (a := a + 1) (k := k) (Memory.wf_write hw (by omega)) (by omega) (by omega)
      rwa [Nat.add_right_comm] at next

theorem leBytes_getElem {n v k : Nat} (h : k < (leBytes n v).length) : (leBytes n v)[k] = nthByte v k := by
  induction n generalizing v k with
  | zero => exact absurd h (Nat.not_lt_zero k)
  | succ n ih =>
    cases k with
    | zero => simp [leBytes, nthByte]
    | succ k =>
      simp only [leBytes, List.getElem_cons_succ, ih, nthByte]
      rw [Nat.div_div_eq_div_mul, Nat.pow_succ']

theorem fromLe_leBytes (n v : Nat) : fromLe (leBytes n v) = v % 256 ^ n := by
  induction n generalizing v with
  | zero => simp [leBytes, fromLe, Nat.mod_one]
  | succ n ih => rw [leBytes, fromLe, ih, BitVec.toNat_ofNat, Nat.pow_succ' (m := 256), Nat.mod_mul]

theorem State.putBytes_mem {s : State} {a : Nat} {bs : List Byte} (ha : a + bs.length ≤ 0x100000) :
    (s.putBytes a bs).mem = Memory.writeList s.mem a bs := by
  induction bs generalizing s a with
  | nil => rfl
  | cons b bs ih =>
    rw [List.length_cons] at ha
    rw [State.putBytes, ih (by omega), State.putByte_mem, Nat.mod_eq_of_lt (by omega), Memory.writeList]

/-- A field is the same where its bytes are. -/
theorem State.memField_congr {s t : State} {a n : Nat} (hs : MemCanonical s) (ht : MemCanonical t)
    (h : ∀ k, k < n → Memory.read t.mem (a + k) = Memory.read s.mem (a + k)) : t.memField a n = s.memField a n := by
  have bytes : Memory.slice t.mem a n = Memory.slice s.mem a n := by
    rw [Memory.slice_eq ht, Memory.slice_eq hs]
    exact List.map_congr_left fun k hk => h k (List.mem_range.1 hk)
  exact congrArg fromLe bytes

theorem State.memField_putBytes {s : State} {a n v : Nat} (hs : MemCanonical s) (ha : a + n ≤ 0x100000) :
    (s.putBytes a (leBytes n v)).memField a n = v % 256 ^ n := by
  have len : a + (leBytes n v).length ≤ 0x100000 := by rwa [leBytes_length]
  have bytes : Memory.slice (s.putBytes a (leBytes n v)).mem a n = leBytes n v := by
    rw [Memory.slice_eq (State.wf_putBytes hs), State.putBytes_mem len]
    refine List.ext_getElem (by simp [leBytes_length]) fun k _ hk => ?_
    rw [List.getElem_map, List.getElem_range, Memory.read_writeList_getElem hs len hk]
  rw [← fromLe_leBytes]
  exact congrArg fromLe bytes

/-! ### Parts and interrupt bits -/

theorem Only.of_covers {ps qs : List Part} {s t : State} (h : Only qs s t) (hs : covers ps qs = true) : Only ps s t :=
  ⟨h.1, fun p hp => h.2 p (covers_contains hs hp)⟩

/-- What clears no interrupt bit keeps each bit that stands. -/
theorem Steps.irqBit {ps : List Part} {s t : State} {w : Window} {k : Nat} (h : Steps ps s t) (hb : s.irqBit w k = true)
    (hp : ps.contains .acks = false := by rfl) : t.irqBit w k = true := by
  have kept := h.same .acks hp k
  cases w with
  | ctl => exact kept.1 hb
  | key => exact kept.2 hb

theorem State.raise_irqBit (s : State) (w : Window) (i : Irq) : (s.raise w i).irqBit w i.bit = true := by
  cases w <;> cases i <;> simp [State.raise, State.irqBit, Irq.bit]

/-- One interrupt raised in each of some windows. -/
theorem State.foldl_raise_steps (s : State) (i : Irq) (l : List Window) :
    Steps [.irq] s (l.foldl (fun s w => s.raise w i) s) :=
  Steps.foldl (Steps.refl _ _) fun _ w h => State.raise_steps w i h rfl

theorem State.foldl_raise_irqBit {s : State} {i : Irq} {l : List Window} {w : Window} (hw : w ∈ l) :
    (l.foldl (fun s w => s.raise w i) s).irqBit w i.bit = true := by
  induction l generalizing s with
  | nil => exact absurd hw (List.not_mem_nil)
  | cons x xs ih =>
    rcases List.mem_cons.1 hw with rfl | hw
    · exact (State.foldl_raise_steps _ i xs).irqBit (s.raise_irqBit w i)
    · exact ih hw

@[simp] theorem State.modesDone_modes (s : State) : s.modesDone.modes =
    { s.modes with owed := [], busy := false, draining := false, target := s.modes.mode } := by
  have kept : (s.modes.owed.foldl (fun s w => s.raise w .modeDone) s).modes = s.modes :=
    (s.foldl_raise_steps .modeDone s.modes.owed).same .modes
  rw [State.modesDone, State.setModes_modes, kept]

theorem State.modesDone_irqBit {s : State} {w : Window} (hw : w ∈ s.modes.owed) : s.modesDone.irqBit w 6 = true :=
  (State.setModes_steps (ps := [.modes]) _ (Steps.refl _ _) rfl).irqBit (State.foldl_raise_irqBit (i := .modeDone) hw)

/-! ### Resets -/

theorem State.landWrites_only (s : State) : Steps [.draws, .tag] s s.landWrites :=
  State.landWrites_steps (Steps.refl _ _) rfl

/-- Without a publish or a host WRITE in progress no device-side write has begun. -/
theorem State.landWrites_of_idle {s : State} (hp : s.tag.publishing = none)
    (hw : ∀ b d, s.tag.hostOp ≠ some (.write b d)) : s.landWrites = s := by
  have cut : s.cutPublish = s := by simp [State.cutPublish, hp]
  unfold State.landWrites
  rw [cut]
  dsimp only
  split
  · next b d h => exact absurd h (hw b d)
  · rfl
  · rfl

/-- The ports after a reset: only the lines and CTS stay. -/
theorem State.resetState_port (s : State) (p : Power) (stamp : Stamp) (k : PortNo) :
    (s.resetState p stamp).port k = { Port.reset with space := (s.port k).space, cts := (s.port k).cts } := by
  show ((Vector.finRange 48).map fun k => { Port.reset with space := (s.port k).space, cts := (s.port k).cts })[k.val] = _
  simp

theorem read_stampCells (stamp : Stamp) {k : Nat} (hk : k < 6) :
    Memory.read (stampCells stamp) (resetStampAt + k) = nthByte stamp.toNat k := by
  have len : (leBytes 6 stamp.toNat).length = 6 := leBytes_length _ _
  rw [stampCells, Memory.read_writeList_getElem Memory.wf_nil (by rw [len]; decide) (by rwa [len]), leBytes_getElem]

/-- What every reset leaves, whatever its power block. -/
theorem State.afterReset_resetFrom (s : State) (p : Power) (stamp : Stamp) : ResetFrom s (s.afterReset p stamp) stamp := by
  have lines : ∀ k, s.landWrites.port k = s.port k := fun k => s.landWrites_only.port_eq k
  have medium : s.landWrites.journal = s.journal := s.landWrites_only.same .journal
  refine ⟨rfl, rfl, rfl, rfl, rfl, rfl, rfl, rfl, rfl, rfl, fun k => ?_, rfl, fun hp hw => ?_, ?_,
    fun k hk => read_stampCells stamp hk, (State.afterReset_steps p stamp (Steps.refl _ s) rfl).1⟩
  · rw [State.afterReset, State.resetState_port, lines]
    exact ⟨rfl, rfl, rfl, rfl⟩
  · show s.landWrites.tag.blocks = _
    rw [State.landWrites_of_idle hp hw]
  · show (s.landWrites.journal.nand.map _).map _ = _
    rw [medium, Option.map_map]
    rfl

theorem exec_powerOnResetRelease {s : State} (rank od met : Bool) (hr : s.power.running = false) :
    exec (.powerOnResetRelease rank od met) s = .next (s.afterReset { Power.reset with
      nresetLow := s.power.nresetLow, vanaGood := s.power.vanaGood, vanaSettled := s.power.vanaGood
      orderFault := s.power.orderFault && !met, rank := rank, waitOd := od } 0) := by
  show execPowerOnResetRelease rank od met s = _
  simp [execPowerOnResetRelease, hr]

theorem exec_supplyCollapse {s : State} (hr : s.power.running = true) :
    exec .supplyCollapse s = .next (s.afterReset { s.power.afterReset 1 with running := false } 0) := by
  show execSupplyCollapse s = _
  rw [execSupplyCollapse, if_pos hr]

theorem exec_nresetAssert {s : State} (hr : s.power.running = true) (hl : s.power.nresetLow = false) :
    exec .nresetAssert s = .next (s.afterReset { s.power.afterReset 2 with nresetLow := true } s.now) := by
  show execNresetAssert s = _
  simp [execNresetAssert, hr, hl]

theorem exec_deviceReset {s : State} (hb : s.busServed = true) :
    exec .deviceReset s = .next (s.afterReset (s.power.afterReset 3) s.now) := by
  show execDeviceReset s = _
  rw [execDeviceReset, if_pos hb]

/-- Settles O8: each reset answers `afterReset`, with a power block of its own. -/
theorem resetsLeaveHoldAndKeepTheTag : Obligations.ResetsLeaveHoldAndKeepTheTag :=
  ⟨fun s rank od met hr => ⟨_, exec_powerOnResetRelease rank od met hr, rfl, rfl, rfl, rfl, rfl, rfl, rfl,
      s.afterReset_resetFrom _ _⟩,
    fun s hr => ⟨_, exec_supplyCollapse hr, rfl, rfl, s.afterReset_resetFrom _ _⟩,
    fun s hr hl => ⟨_, exec_nresetAssert hr hl, rfl, rfl, rfl, s.afterReset_resetFrom _ _⟩,
    fun s hb => ⟨_, exec_deviceReset hb, rfl, rfl, rfl, rfl, s.afterReset_resetFrom _ _⟩⟩

/-! ### The end of reset completion -/

/-- The device as reset completion ends, before the owed MODE_DONEs are raised. -/
def State.resetDone (s : State) : State :=
  ((((s.setPower fun p => { p with completing := false }).setModes fun m => { m with
    cause := if m.owed.isEmpty then .none else .busy }).clearMem (firstSecondAt 0) resetStampAt).setTag
      Tag.recover).setCounting true

theorem exec_resetComplete {s : State} (hr : s.released = true) (hc : s.power.completing = true) :
    exec .resetComplete s = .next s.resetDone.modesDone := by
  show execResetComplete s = _
  simp only [execResetComplete, hr, hc]
  rfl

/-- Settles O9: the completion's own changes, and those of the busy state's end. -/
theorem resetCompletionClearsBusy : Obligations.ResetCompletionClearsBusy := by
  intro s hr hc
  have h := exec_resetComplete hr hc
  have done : Steps [.modes, .irq] s.resetDone s.resetDone.modesDone := State.modesDone_steps (Steps.refl _ _) rfl
  have mem : s.resetDone.modesDone.mem = Memory.clear s.mem (firstSecondAt 0) resetStampAt := done.same .mem
  refine ⟨_, h, done.same .power, by simp [State.resetDone], by simp, by simp, ?_, done.same .counting,
    fun hw => State.modesDone_irqBit (w := .ctl) hw, fun hw => State.modesDone_irqBit (w := .key) hw, fun a => ?_,
    (only_parts_of_exec h).of_covers rfl⟩
  · rw [State.modesDone_modes]
    show (if s.modes.owed.isEmpty = true then Cause.none else .busy) = _
    cases s.modes.owed <;> rfl
  · rw [mem, Memory.read_clear]

/-! ### MODEREQ writes while the device is busy -/

/-- The eight mode requests of a window, each with its mode. -/
def modeRequests (w : Window) : List (Instr × Mode) :=
  [(.requestHold w, .hold), (.requestLoad w, .load), (.requestProve w, .prove), (.requestRun w, .run),
    (.requestTrim w, .trim), (.requestVigil w, .vigil), (.requestDoze w, .doze), (.requestProbe w, .probe)]

theorem exec_modeRequest {w : Window} {c : Instr} {m : Mode} (h : (c, m) ∈ modeRequests w) (s : State) :
    exec c s = .next (s.modeReq w (BitVec.ofNat 4 m.code)) := by
  simp only [modeRequests, List.mem_cons, Prod.mk.injEq, List.not_mem_nil, or_false] at h
  rcases h with ⟨rfl, rfl⟩ | ⟨rfl, rfl⟩ | ⟨rfl, rfl⟩ | ⟨rfl, rfl⟩ | ⟨rfl, rfl⟩ | ⟨rfl, rfl⟩ | ⟨rfl, rfl⟩ | ⟨rfl, rfl⟩ <;> rfl

theorem modeOf_code (m : Mode) : modeOf (BitVec.ofNat 4 m.code).toNat = some m := by cases m <;> rfl

theorem modeOf_of_unknown {n : Nat} (h : 8 ≤ n) : modeOf n = none := by
  obtain ⟨k, rfl⟩ := Nat.exists_eq_add_of_le' h
  rfl

section modeReq
variable {s : State} {w : Window} {code : BitVec 4}

/-- 02 R41: while reset completion runs a request only waits for its end. -/
theorem State.modeReq_of_completing (hb : s.busServed = true) (hc : s.power.completing = true) :
    s.modeReq w code = s.setModes fun r => { r with request := code, owed := r.owed ++ [w] } := by
  simp [State.modeReq, hb, hc]
  rfl

/-- 03 R67: during a transition every write but HOLD's is refused with BUSY. -/
theorem State.modeReq_of_busy (hb : s.busServed = true) (hc : s.power.completing = false) (hy : s.modes.busy = true)
    (hm : modeOf code.toNat ≠ some .hold) : s.modeReq w code = s.setModes fun r => { r with
      request := code, cause := .busy, late := true, owed := r.owed ++ [w] } := by
  cases h : modeOf code.toNat with
  | none =>
    simp [State.modeReq, hb, hc, hy, h]
    rfl
  | some m =>
    have hne : m ≠ .hold := fun e => hm (e ▸ h)
    simp [State.modeReq, hb, hc, hy, h, hne]
    rfl

/-- 03 R69: HOLD abandons a transition to another mode. -/
theorem State.modeReq_hold_of_busy (hb : s.busServed = true) (hc : s.power.completing = false)
    (hy : s.modes.busy = true) (ht : s.modes.target ≠ .hold) (hm : modeOf code.toNat = some .hold) :
    s.modeReq w code = (s.setModes fun r => { r with request := code }).startMode w .hold := by
  simp [State.modeReq, hb, hc, hy, ht, hm, State.holding]

end modeReq

/-! ### The effects of a requested HOLD -/

/-- The engine stops: pending pointers, commands, host doorbells and the image are gone (03 R73). -/
def State.holdEngine (s : State) : State :=
  let s := (s.abortOut .n).abortOut .k
  let s := s.cutPublish.forgetCommands
  let s := (s.setChan .n fun r => { r with bellOut := 0 }).setChan .k fun r => { r with bellOut := 0 }
  s.setEngine fun e => { e with
    up := false, restarting := false, pmFail := false, image := .none, loadErr := 0, header := none, testEnded := false
    owedBells := 0, shown := none }

/-- The road is empty, its ports and buses are at rest and the device has no role (03 R73). -/
def State.holdRoad (s : State) : State := (s.emptySluice.closePorts.stopBuses).dropRole .lone

/-- Ports, views, settings, counters, journal and management bus as HOLD leaves them (03 R73-R75). -/
def State.holdRest (s : State) : State :=
  let s : State := s.mapPorts fun q => { q with
    rxRetired := false, txRetired := false, parked := false, loop := .off }
  let s := s.setSluice fun l => { l with views := l.views.map fun v => { v with retired := false, parked := false } }
  let s := (s.setSettings fun t => { t with epoch := none }).clearCounters
  let s := s.setJournal Journal.stop
  s.setMgmt fun m => { m with active := none, due := 0, setWaits := false, stuck := false }

theorem State.holdEffects_eq (s : State) : s.holdEffects =
    ((s.holdEngine.holdRoad.holdRest.setModes fun m => { m with draining := false, wokeBell := false }).setCounting
      false).setDozeEvents [] := rfl

theorem State.holdEngine_steps (s : State) : Steps [.draws, .irq, .bells, .hush, .replies, .drops, .chanN, .chanK, .engine,
    .work, .sieve, .buses, .tag] s s.holdEngine := by
  refine State.setEngine_steps _ (State.setChan_steps .k _ (State.setChan_steps .n _ ?_ rfl) rfl) rfl
  refine State.forgetCommands_steps (State.cutPublish_steps ?_ rfl) rfl
  exact State.abortOut_steps .k (State.abortOut_steps .n (Steps.refl _ s) rfl) rfl

theorem State.holdEngine_up (s : State) : s.holdEngine.engine.up = false := rfl

/-- No HEAD-RETIRE waits on any bus. -/
def State.NoRetire (s : State) : Prop := ∀ b, (s.bus b).retire = none

theorem State.holdEngine_noRetire (s : State) : s.holdEngine.NoRetire := by
  intro b
  show (((((s.abortOut .n).abortOut .k).cutPublish).buses.map fun (v : Bus) => { v with retire := none })[b.val]).retire =
    none
  simp

/-- Where no HEAD-RETIRE waits, the stop of a bus leaves only the bus and its heads changed. -/
theorem State.stopBus_of_noRetire {s : State} (h : s.NoRetire) (b : BusNo) :
    s.stopBus b = (s.unattend b).updBus b fun v => { v.clear with state := .stopped, setLamps := [] } := by
  have same : (s.unattend b).buses = s.buses := (State.unattend_steps b (Steps.refl [.heads] s) rfl).same .buses
  have none : (((s.unattend b).updBus b fun v => { v.clear with state := .stopped, setLamps := [] }).bus b).retire =
      none := by
    simpa [State.bus, State.updBus, same, Bus.clear] using h b
  rw [State.stopBus, State.endRetire, none]

theorem State.stopBus_steps_of_noRetire {s : State} (h : s.NoRetire) (b : BusNo) :
    Steps [.buses, .heads] s (s.stopBus b) := by
  rw [State.stopBus_of_noRetire h]
  exact State.updBus_steps b _ (State.unattend_steps b (Steps.refl _ s) rfl) rfl

theorem State.stopBus_noRetire {s : State} (h : s.NoRetire) (b : BusNo) : (s.stopBus b).NoRetire := by
  intro c
  have same : (s.unattend b).buses = s.buses := (State.unattend_steps b (Steps.refl [.heads] s) rfl).same .buses
  rw [State.stopBus_of_noRetire h, State.bus, State.updBus_buses, same, upd_get]
  split
  · exact h b
  · exact h c

theorem State.stopBuses_steps_of_noRetire {s : State} (h : s.NoRetire) : Steps [.buses, .heads] s s.stopBuses := by
  unfold State.stopBuses State.eachBus
  induction List.finRange 8 generalizing s with
  | nil => exact Steps.refl _ _
  | cons b bs ih =>
    have rest := ih (State.stopBus_noRetire h b)
    rw [List.foldl_cons]
    exact (State.stopBus_steps_of_noRetire h b).step rest rfl

@[simp] theorem State.pairBell_sluice (s : State) : s.pairBell.sluice = s.sluice :=
  (State.pairBell_steps (Steps.refl [.irq, .bells, .journal] s) rfl).same .sluice

theorem State.dropRole_items (s : State) (r : Role) : (s.dropRole r).sluice.items = s.sluice.items := by
  unfold State.dropRole
  dsimp only
  split
  · rw [State.pairBell_sluice]
    rfl
  · rfl

theorem State.holdRoad_items {s : State} (h : s.NoRetire) : s.holdRoad.sluice.items = [] := by
  have buses : s.emptySluice.closePorts.buses = s.buses :=
    (State.closePorts_steps (State.emptySluice_steps (Steps.refl [.mem, .pool, .ports, .tx, .sluice] s) rfl) rfl).same
      .buses
  have free : s.emptySluice.closePorts.NoRetire := fun b => (congrArg (fun v => (v.get b).retire) buses).trans (h b)
  have stopped : s.emptySluice.closePorts.stopBuses.sluice = s.emptySluice.closePorts.sluice :=
    (State.stopBuses_steps_of_noRetire free).same .sluice
  rw [State.holdRoad, State.dropRole_items, stopped]
  rfl

theorem State.holdRoad_steps (s : State) : Steps [.mem, .pool, .draws, .irq, .bells, .replies, .changes, .ports, .tx, .sluice,
    .lamps, .buses, .heads, .pair, .journal, .tag, .inject] s s.holdRoad := by
  refine State.dropRole_steps .lone (State.stopBuses_steps ?_ rfl) rfl
  exact State.closePorts_steps (State.emptySluice_steps (Steps.refl _ s) rfl) rfl

@[simp] theorem State.clearCounters_sluice (s : State) : s.clearCounters.sluice = s.sluice :=
  (State.clearCounters_steps (Steps.refl [.tx, .govs, .pair, .journal, .inject] s) rfl).same .sluice

theorem State.holdRest_items (s : State) : s.holdRest.sluice.items = s.sluice.items := by
  simp [State.holdRest]

theorem State.holdRest_steps (s : State) : Steps [.settings, .events, .changes, .ports, .tx, .govs, .sluice, .pair, .journal,
    .mgmt, .inject] s s.holdRest := by
  refine State.setMgmt_steps _ (State.setJournal_steps _ (State.clearCounters_steps ?_ rfl) rfl) rfl
  refine State.setSettings_steps _ (State.setSluice_steps _ ?_ rfl) rfl
  exact State.mapPorts_steps _ (Steps.refl _ s) rfl

theorem State.holdEffects_modes (s : State) :
    s.holdEffects.modes = { s.modes with draining := false, wokeBell := false } := by
  have engine : s.holdEngine.modes = s.modes := s.holdEngine_steps.same .modes
  have road : s.holdEngine.holdRoad.modes = s.holdEngine.modes := s.holdEngine.holdRoad_steps.same .modes
  have rest : s.holdEngine.holdRoad.holdRest.modes = s.holdEngine.holdRoad.modes :=
    s.holdEngine.holdRoad.holdRest_steps.same .modes
  rw [State.holdEffects_eq]
  simp only [State.setDozeEvents_modes, State.setCounting_modes, State.setModes_modes, rest, road, engine]

theorem Engine.bare_up (e : Engine) : e.bare.up = e.up := rfl

theorem State.holdEffects_up (s : State) : s.holdEffects.engine.up = false := by
  have road : s.holdEngine.holdRoad.engine.bare = s.holdEngine.engine.bare := s.holdEngine.holdRoad_steps.same .engine
  have rest : s.holdEngine.holdRoad.holdRest.engine.bare = s.holdEngine.holdRoad.engine.bare :=
    s.holdEngine.holdRoad.holdRest_steps.same .engine
  rw [State.holdEffects_eq]
  simp only [State.setDozeEvents_engine, State.setCounting_engine, State.setModes_engine]
  rw [← Engine.bare_up, rest, road, Engine.bare_up, State.holdEngine_up]

theorem State.holdEffects_items (s : State) : s.holdEffects.sluice.items = [] := by
  rw [State.holdEffects_eq]
  simp only [State.setDozeEvents_sluice, State.setCounting_sluice, State.setModes_sluice, State.holdRest_items,
    State.holdRoad_items s.holdEngine_noRetire]

/-- The modes as a HOLD request is accepted. -/
theorem State.startMode_hold_modes (s : State) (w : Window) : (s.startMode w .hold).modes = { s.modes with
    busy := true, target := .hold, late := false, owed := s.modes.owed ++ [w], draining := false, wokeBell := false } := by
  have record : (s.modeRecord w .hold).modes = s.modes :=
    (State.modeRecord_steps w .hold (Steps.refl [.changes, .journal] s) rfl).same .modes
  simp only [State.startMode, State.depart, State.holdEffects_modes, State.setModes_modes, record]

theorem State.startMode_hold_up (s : State) (w : Window) : (s.startMode w .hold).engine.up = false := by
  simp only [State.startMode, State.depart, State.holdEffects_up]

theorem State.startMode_hold_items (s : State) (w : Window) : (s.startMode w .hold).sluice.items = [] := by
  simp only [State.startMode, State.depart, State.holdEffects_items]

/-- Settles O35: what a MODEREQ write comes to in each case, and what HOLD does at once. -/
theorem requestsDuringATransition : Obligations.RequestsDuringATransition := by
  refine ⟨fun s w c m hcm hb hc hy hm => ?_, fun s w code hb hc hy hk => ?_, fun s w hb hc hy ht => ?_,
    fun s w c m hcm hb hc => ?_⟩
  · rw [exec_modeRequest hcm, State.modeReq_of_busy hb hc hy (by rw [modeOf_code]; simpa using hm)]
  · show Host.Outcome.next (s.modeReq w code) = _
    rw [State.modeReq_of_busy hb hc hy (by simp [modeOf_of_unknown hk])]
  · have h : exec (.requestHold w) s = .next ((s.setModes fun r => { r with request := 0 }).startMode w .hold) :=
      congrArg Host.Outcome.next (State.modeReq_hold_of_busy hb hc hy ht rfl)
    refine ⟨_, h, ?_, ?_, ?_, ?_, ?_, State.startMode_hold_up _ _, State.startMode_hold_items _ _, only_parts_of_exec h⟩ <;>
      rw [State.startMode_hold_modes] <;> rfl
  · rw [exec_modeRequest hcm, State.modeReq_of_completing hb hc]

/-! ### The first-second counter blocks -/

@[simp] theorem State.updPort_port_same (s : State) (p : PortNo) (f : Port → Port) :
    (s.updPort p f).port p = f (s.port p) := upd_get_self _ _ _

theorem firstSecondAt_lt (p : PortNo) : firstSecondAt p.val + 8 ≤ 0x100000 := by
  have := p.isLt
  unfold firstSecondAt
  omega

section firstSecond
variable {s : State} {p : PortNo}

@[simp] theorem State.countFirst_port (o : Nat) (q : PortNo) : (s.countFirst p o).port q = s.port q :=
  (State.countFirst_steps p o (Steps.refl [.mem, .rows] s) rfl).port_eq q

theorem State.firstFlag_mem (bit : Nat) : (s.firstFlag p bit).mem = Memory.write s.mem (firstSecondAt p.val + 6)
    (Memory.read s.mem (firstSecondAt p.val + 6) ||| BitVec.ofNat 8 (2 ^ bit)) := by
  have := firstSecondAt_lt p
  rw [State.firstFlag, State.putByte_mem, Nat.mod_eq_of_lt (by omega)]

theorem State.read_firstFlag (hs : MemCanonical s) (bit : Nat) :
    Memory.read (s.firstFlag p bit).mem (firstSecondAt p.val + 6) =
      Memory.read s.mem (firstSecondAt p.val + 6) ||| BitVec.ofNat 8 (2 ^ bit) := by
  rw [State.firstFlag_mem, Memory.read_write_eq hs]

theorem State.read_firstFlag_ne (bit : Nat) {a : Nat} (h : a ≠ firstSecondAt p.val + 6) :
    Memory.read (s.firstFlag p bit).mem a = Memory.read s.mem a := by
  rw [State.firstFlag_mem, Memory.read_write_ne h]

/-- The count that a first-second counter of offset `o` comes to. -/
def State.firstCount (s : State) (p : PortNo) (o : Nat) : Nat := min 65535 (s.memField (firstSecondAt p.val + o) 2 + 1)

/-- The state with the new count written, its flag apart. -/
def State.putCount (s : State) (p : PortNo) (o : Nat) : State :=
  s.putBytes (firstSecondAt p.val + o) (leBytes 2 (s.firstCount p o))

theorem State.countFirst_eq {o : Nat} (ho : o < 8) :
    s.countFirst p o = if s.firstCount p o = 0xFFFF then (s.putCount p o).firstFlag p 2 else s.putCount p o := by
  unfold State.countFirst
  rw [Nat.mod_eq_of_lt ho]
  rfl

theorem State.countFirst_canonical {o : Nat} (hs : MemCanonical s) : MemCanonical (s.countFirst p o) :=
  (State.countFirst_steps p o (Steps.refl [.mem, .rows] s) rfl).2 hs

/-- Beside the flag byte a count changes nothing that its bytes do not. -/
theorem State.read_countFirst {o a : Nat} (ho : o < 8) (h : a ≠ firstSecondAt p.val + 6) :
    Memory.read (s.countFirst p o).mem a = Memory.read (s.putCount p o).mem a := by
  rw [State.countFirst_eq ho]
  split
  · exact State.read_firstFlag_ne 2 h
  · rfl

theorem State.read_putBytes_of_outside {a c : Nat} {bs : List Byte} (ha : a + bs.length ≤ 0x100000)
    (h : c < a ∨ a + bs.length ≤ c) : Memory.read (s.putBytes a bs).mem c = Memory.read s.mem c := by
  rw [State.putBytes_mem ha, Memory.read_writeList_of_outside h]

theorem State.read_countFirst_of_outside {o a : Nat} (ho : o ≤ 4)
    (h : a < firstSecondAt p.val + o ∨ firstSecondAt p.val + o + 2 ≤ a) (hf : a ≠ firstSecondAt p.val + 6) :
    Memory.read (s.countFirst p o).mem a = Memory.read s.mem a := by
  have := firstSecondAt_lt p
  rw [State.read_countFirst (by omega) hf]
  exact State.read_putBytes_of_outside (by rw [leBytes_length]; omega) (by rwa [leBytes_length])

theorem State.memField_countFirst {o : Nat} (ho : o ≤ 4) (hs : MemCanonical s) :
    (s.countFirst p o).memField (firstSecondAt p.val + o) 2 =
      min 65535 (s.memField (firstSecondAt p.val + o) 2 + 1) := by
  have := firstSecondAt_lt p
  have hs' : MemCanonical (s.putCount p o) := State.wf_putBytes hs
  rw [State.memField_congr hs' (State.countFirst_canonical hs) fun k hk => State.read_countFirst (by omega) (by omega),
    State.putCount, State.memField_putBytes hs (by omega), State.firstCount]
  omega

end firstSecond

theorem exec_startEdge_of_watches {s : State} (hw : s.watches = true) (p : PortNo) (mark : Nat) :
    exec (.startEdge p mark) s =
      .next ((s.updPort p fun q => { q with space := true, counted := false }).countFirst p 0) := by
  show execStartEdge p mark s = _
  rw [execStartEdge, if_pos hw]

/-- Before RUN a framed character at a known rate, not yet counted. -/
theorem exec_characterStored_of_framed {s : State} {p : PortNo} {l : List Samples} {x y : Samples} (r : List Nat)
    (hw : s.watches = true) (hr : (s.port p).firstRate ≠ 0) (hc : (s.port p).counted = false) (hx : l[0]? = some x)
    (hxb : x.b = false) (hy : l[9]? = some y) (hyb : y.b = true) :
    exec (.characterStored p l r) s =
      .next ((s.updPort p fun q => { q with space := false, counted := true }).countFirst p 2) := by
  show execCharacterStored p l r s = _
  simp [execCharacterStored, hw, hr, hc, List.getD, hx, hy, hxb, hyb]

theorem exec_characterStored_of_counted {s : State} {p : PortNo} (l : List Samples) (r : List Nat)
    (hw : s.watches = true) (hc : (s.port p).counted = true) : exec (.characterStored p l r) s = .next s := by
  show execCharacterStored p l r s = _
  simp [execCharacterStored, hw, hc]

theorem exec_autobaudAccept_of_watches {s : State} {e : Edges} (p : PortNo) (r : List Nat) (hw : s.watches = true)
    (he : edgesCharacter e ≠ none) : exec (.autobaudAccept p e r) s = .next (s.firstRecognise p e) := by
  obtain ⟨b, hb⟩ := Option.ne_none_iff_exists'.1 he
  show execAutobaudAccept p e r s = _
  simp [execAutobaudAccept, hb, hw]

theorem exec_breakSeen_of_watches {s : State} (hw : s.watches = true) (p : PortNo) :
    exec (.breakSeen p) s = .next ((s.updPort p fun q => { q with space := true }).firstFlag p 0) := by
  show execBreakSeen p s = _
  rw [execBreakSeen, if_pos hw]

theorem exec_stuckSeen_of_watches {s : State} (hw : s.watches = true) (p : PortNo) :
    exec (.stuckSeen p) s = .next ((s.updPort p fun q => { q with space := true }).firstFlag p 1) := by
  show execStuckSeen p s = _
  rw [execStuckSeen, if_pos hw]

section firstRecognise
variable {s : State} {p : PortNo} {e : Edges}

/-- The rate hint is written. -/
def State.putHint (s : State) (p : PortNo) (e : Edges) : State :=
  s.putBytes (firstSecondAt p.val + 4) (leBytes 2 (edgesHint e))

/-- The hint is written and the character counted, unless it was counted already at the same rate (02 R56). -/
def State.hintAndCount (s : State) (p : PortNo) (e : Edges) : State :=
  if (s.port p).counted = true ∧ (s.port p).firstRate = edgesRate e then s.putHint p e
  else (s.putHint p e).countFirst p 2

theorem State.firstRecognise_eq : s.firstRecognise p e = (s.hintAndCount p e).updPort p fun q => { q with
    firstRate := edgesRate e, space := false, counted := true } := by
  simp only [State.firstRecognise, State.hintAndCount, Bool.and_eq_true, decide_eq_true_eq]
  rfl

theorem State.hintAndCount_port : (s.hintAndCount p e).port p = s.port p := by
  have hint : Steps [.mem, .rows] s (s.putHint p e) := by
    have := p.isLt
    refine State.putBytes_in_steps (r := .rows) ?_ (Steps.refl _ _) rfl
    simp only [Part.within, leBytes_length, firstSecondAt]
    omega
  exact (Steps.ite hint (State.countFirst_steps p 2 hint rfl)).port_eq p

theorem State.read_putHint_of_outside {a : Nat} (h : a < firstSecondAt p.val + 4 ∨ firstSecondAt p.val + 6 ≤ a) :
    Memory.read (s.putHint p e).mem a = Memory.read s.mem a := by
  have := firstSecondAt_lt p
  exact State.read_putBytes_of_outside (by rw [leBytes_length]; omega) (by rwa [leBytes_length])

theorem State.memField_hint (hs : MemCanonical s) :
    (s.hintAndCount p e).memField (firstSecondAt p.val + 4) 2 = edgesHint e % 65536 := by
  have := firstSecondAt_lt p
  have hs' : MemCanonical (s.putHint p e) := State.wf_putBytes hs
  have hint : (s.putHint p e).memField (firstSecondAt p.val + 4) 2 = edgesHint e % 65536 :=
    State.memField_putBytes hs (by omega)
  unfold State.hintAndCount
  split
  · exact hint
  · exact (State.memField_congr hs' (State.countFirst_canonical hs') fun k hk =>
      State.read_countFirst_of_outside (by omega) (by omega) (by omega)).trans hint

theorem State.memField_count (hs : MemCanonical s) : (s.hintAndCount p e).memField (firstSecondAt p.val + 2) 2 =
    if (s.port p).counted = true ∧ (s.port p).firstRate = edgesRate e then s.memField (firstSecondAt p.val + 2) 2
    else min 65535 (s.memField (firstSecondAt p.val + 2) 2 + 1) := by
  have hs' : MemCanonical (s.putHint p e) := State.wf_putBytes hs
  have count : (s.putHint p e).memField (firstSecondAt p.val + 2) 2 = s.memField (firstSecondAt p.val + 2) 2 :=
    State.memField_congr hs hs' fun k hk => State.read_putHint_of_outside (by omega)
  unfold State.hintAndCount
  split
  · exact count
  · rw [State.memField_countFirst (by omega) hs', count]

end firstRecognise

/-- No two presets lie within 3 % of one rate. -/
theorem ratePresets_apart : ∀ p ∈ ratePresets, ∀ r ∈ ratePresets, 97 * p ≤ 103 * r → 97 * r ≤ 103 * p → p = r := by
  decide

/-- Two rates that are both within 3 % of the measured one lie within 103/97 of each other. -/
theorem ratio_of_near {a b n : Nat} (ha : 97 * 9000000000 ≤ 100 * a * n) (hb : 100 * b * n ≤ 103 * 9000000000) :
    97 * b ≤ 103 * a := by
  have pos : 0 < n := Nat.pos_of_ne_zero fun h => by simp [h] at ha
  refine Nat.le_of_mul_le_mul_right (c := 100 * n) ?_ (by omega)
  linarith

/-- 10 R310: a preset within 3 % of the measured rate is the rate. -/
theorem edgesRate_of_near {e : Edges} {r : Nat} (hr : r ∈ ratePresets) (lo : 97 * 9000000000 ≤ 100 * r * e.e6)
    (hi : 100 * r * e.e6 ≤ 103 * 9000000000) : edgesRate e = r := by
  unfold edgesRate
  dsimp only
  split
  · next p found =>
    have near := List.find?_some found
    simp only [Bool.and_eq_true, decide_eq_true_eq] at near
    obtain ⟨plo, phi⟩ := near
    exact ratePresets_apart p (List.mem_of_find?_eq_some found) r hr (ratio_of_near lo phi) (ratio_of_near plo hi)
  · next missed => exact absurd (List.find?_eq_none.1 missed r hr) (by simp [lo, hi])

/-- Settles O48: the counts and flags that each line event leaves in its port's block. -/
theorem portLinesBeforeRun : Obligations.PortLinesBeforeRun := by
  refine ⟨fun s p m hw hs => ?_, fun s p l r x y hw hs hr hc hx hxb hy hyb => ?_, fun s p e r hw hs he => ?_,
    fun s p l r hw hc => exec_characterStored_of_counted l r hw hc, fun s p hw hs => ?_, fun s p hw hs => ?_,
    fun s p hw => ?_, fun s p hw => ?_, fun e r hr lo hi => edgesRate_of_near hr lo hi⟩
  · have h := exec_startEdge_of_watches hw p m
    exact ⟨_, h, State.memField_countFirst (o := 0) (by decide) hs, by simp, by simp, by simp,
      fun a ha => State.read_countFirst_of_outside (o := 0) (by decide) (by omega) (by omega), only_parts_of_exec h⟩
  · have h := exec_characterStored_of_framed r hw hr hc hx hxb hy hyb
    exact ⟨_, h, State.memField_countFirst (o := 2) (by decide) hs, by simp, by simp,
      fun a ha => State.read_countFirst_of_outside (o := 2) (by decide) (by omega) (by omega), only_parts_of_exec h⟩
  · have h := exec_autobaudAccept_of_watches p r hw he
    have only := only_parts_of_exec h
    rw [State.firstRecognise_eq] at h only
    exact ⟨_, h, by simp, State.memField_hint hs, by simp, State.memField_count hs, by simp [State.hintAndCount_port],
      only⟩
  · have h := exec_breakSeen_of_watches hw p
    exact ⟨_, h, State.read_firstFlag (s := s.updPort p _) hs 0, fun a ha => State.read_firstFlag_ne 0 ha,
      only_parts_of_exec h⟩
  · have h := exec_stuckSeen_of_watches hw p
    exact ⟨_, h, State.read_firstFlag (s := s.updPort p _) hs 1, fun a ha => State.read_firstFlag_ne 1 ha,
      only_parts_of_exec h⟩
  · show execBreakSeen p s = _
    simp [execBreakSeen, hw]
  · show execStuckSeen p s = _
    simp [execStuckSeen, hw]

end Sys2Proof.Machine
end

section
/-!
PROOFS. Mode requests that no transition delays: what refuses them, and how they end (03 R64, R66, R68, R71).
-/
set_option Elab.async false
namespace Sys2Proof.Machine

theorem Steps.widen {ps qs : List Part} {s t : State} (h : Steps qs s t) (hs : covers ps qs = true) : Steps ps s t :=
  (Steps.refl ps s).step h hs

/-! ### MODEREQ writes while no transition runs (03 R64, R65, R70, R71) -/

theorem moves_eq_legalMove (a b : Mode) : moves a b = (legalMove a b && decide (a ≠ b)) := by
  cases a <;> cases b <;> rfl

theorem State.refusal_illegal {s : State} {m : Mode} (hne : m ≠ s.modes.mode) (h : moves s.modes.mode m = false) :
    s.refusal m = some .illegal := by
  have illegal : legalMove s.mode m = false := by
    simpa [moves_eq_legalMove, State.mode, Ne.symm hne] using h
  rw [State.refusal, illegal]
  rfl

/-- What a move of the table is refused for, the first cause that applies (log entry 11). -/
theorem State.refusal_of_moves {s : State} {m : Mode} (h : moves s.modes.mode m = true) : s.refusal m =
    if m = .prove ∧ s.engine.image ≠ .checked then some .noImage
    else if (m = .run ∨ m = .trim ∨ m = .vigil) ∧ s.engine.prove = 3 then some .proveFailed
    else if m = .vigil ∧ s.settings.designated = [] then some .noVigilList
    else if m = .doze ∧ s.pair.formed then some .pairFormed
    else none := by
  rw [moves_eq_legalMove, Bool.and_eq_true] at h
  obtain ⟨legal, -⟩ := h
  rw [State.refusal, State.mode, legal]
  rfl

@[simp] theorem State.raise_modes (s : State) (w : Window) (i : Irq) : (s.raise w i).modes = s.modes := by
  cases w <;> rfl

@[simp] theorem State.modeAtOnce_modes (s : State) (w : Window) (e : Cause) :
    (s.modeAtOnce w e).modes = { s.modes with cause := e } := by
  simp [State.modeAtOnce]

theorem State.modeAtOnce_irqBit (s : State) (w : Window) (e : Cause) : (s.modeAtOnce w e).irqBit w 6 = true :=
  State.raise_irqBit _ w .modeDone

/-- The CONFIG record of a MODEREQ write is owed or kept once its change is counted. -/
theorem State.modeRecord_keeps (s : State) (w : Window) (m : Mode) :
    Steps [.journal] (s.noteChange s.now) (s.modeRecord w m) := by
  unfold State.modeRecord
  exact Steps.ite (State.keepRecord_steps _ _ _ _ (Steps.refl _ _) rfl) (State.oweRecord_steps _ (Steps.refl _ _) rfl)

section modeReq
variable {s : State} {w : Window} {code : BitVec 4} {m : Mode}

/-- MODEREQ as the host has just written it. -/
def State.requested (s : State) (code : BitVec 4) : State := s.setModes fun r => { r with request := code }

theorem State.modeReq_unknown (hb : s.busServed = true) (hc : s.power.completing = false) (hy : s.modes.busy = false)
    (hm : modeOf code.toNat = none) : s.modeReq w code = (s.requested code).modeAtOnce w .illegal := by
  simp [State.modeReq, State.requested, hb, hc, hy, hm]

theorem State.modeReq_in_force (hb : s.busServed = true) (hc : s.power.completing = false) (hy : s.modes.busy = false)
    (hm : modeOf code.toNat = some s.modes.mode) :
    s.modeReq w code = ((s.requested code).modeRecord w s.modes.mode).modeAtOnce w .none := by
  simp [State.modeReq, State.requested, State.mode, hb, hc, hy, hm]

theorem State.modeReq_refused {e : Cause} (hb : s.busServed = true) (hc : s.power.completing = false)
    (hy : s.modes.busy = false) (hm : modeOf code.toNat = some m) (hne : m ≠ s.modes.mode)
    (hr : s.refusal m = some e) : s.modeReq w code = (s.requested code).modeAtOnce w e := by
  have refused : (s.requested code).refusal m = some e := hr
  unfold State.requested at *
  simp [State.modeReq, State.mode, hb, hc, hy, hm, hne, refused]

theorem State.modeReq_accepted (hb : s.busServed = true) (hc : s.power.completing = false)
    (hy : s.modes.busy = false) (hm : modeOf code.toNat = some m) (hne : m ≠ s.modes.mode)
    (hr : s.refusal m = none) : s.modeReq w code = (s.requested code).startMode w m := by
  have accepted : (s.requested code).refusal m = none := hr
  unfold State.requested at *
  simp [State.modeReq, State.mode, hb, hc, hy, hm, hne, accepted]

end modeReq

/-- A request that ends at once with cause `e` changes MODEREQ, the cause and MODE_DONE. -/
theorem State.requested_atOnce (s : State) (w : Window) (code : BitVec 4) (e : Cause) :
    ((s.requested code).modeAtOnce w e).modes = { s.modes with request := code, cause := e } ∧
      ((s.requested code).modeAtOnce w e).irqBit w 6 = true ∧
      Only [.modes, .irq] s ((s.requested code).modeAtOnce w e) :=
  ⟨State.modeAtOnce_modes _ w e, State.modeAtOnce_irqBit _ w e,
    (State.modeAtOnce_steps w e (State.setModes_steps _ (Steps.refl _ s) rfl) rfl).1⟩

/-- Settles O34: each refusal is `modeAtOnce` with its cause; the mode in force is recorded first. -/
theorem refusedModeRequestsEndAtOnce : Obligations.RefusedModeRequestsEndAtOnce := by
  refine ⟨fun s w code hb hc hy hk => ?_, fun s w c m e hcm hb hc hy hne cause => ?_,
    fun s w c m hcm hb hc hy heq => ?_⟩
  · have h : exec (.modereqUnknown w code) s = .next ((s.requested code).modeAtOnce w .illegal) :=
      congrArg Host.Outcome.next (State.modeReq_unknown hb hc hy (modeOf_of_unknown hk))
    exact ⟨_, h, s.requested_atOnce w code .illegal⟩
  · have refused : s.refusal m = some e := by
      rcases cause with ⟨illegal, rfl⟩ | ⟨legal, ⟨rfl, image, rfl⟩ | ⟨work, failed, rfl⟩ | ⟨rfl, passed, none, rfl⟩ |
        ⟨rfl, formed, rfl⟩⟩
      · exact State.refusal_illegal hne illegal
      · simp [State.refusal_of_moves legal, image]
      · have notProve : m ≠ .prove := by rintro rfl; simp at work
        simp [State.refusal_of_moves legal, notProve, work, failed]
      · have passed' : ¬ s.engine.prove = 3#4 := passed
        simp [State.refusal_of_moves legal, passed', none]
      · simp [State.refusal_of_moves legal, formed]
    exact ⟨_, (exec_modeRequest hcm s).trans (congrArg _ (State.modeReq_refused hb hc hy (modeOf_code m) hne refused)),
      s.requested_atOnce w _ e⟩
  · subst heq
    have h := (exec_modeRequest hcm s).trans (congrArg _ (State.modeReq_in_force hb hc hy (modeOf_code _)))
    have record := (s.requested (BitVec.ofNat 4 s.modes.mode.code)).modeRecord_keeps w s.modes.mode
    obtain ⟨changes, last, -⟩ :=
      (State.modeAtOnce_steps (ps := [.modes, .irq, .journal]) w .none (record.widen rfl) rfl).same .changes
    refine ⟨_, h, ?_, State.modeAtOnce_irqBit _ w .none, changes, last, ?_⟩
    · rw [State.modeAtOnce_modes, record.same .modes]
      rfl
    · exact (State.modeAtOnce_steps w .none (State.modeRecord_steps w _
        (State.setModes_steps _ (Steps.refl _ s) rfl) rfl) rfl).1

end Sys2Proof.Machine
end

section
/-!
PROOFS. Edges on the line of a port that is armed for wake in DOZE (03 R88, R89, R91).
-/
set_option Elab.async false
namespace Sys2Proof.Machine

/-! ### Edges on the line of a port that is armed for wake (03 R88, R89, R91) -/

theorem State.updPort_port_ne (s : State) {p q : PortNo} (f : Port → Port) (h : q ≠ p) :
    (s.updPort p f).port q = s.port q := upd_get_ne _ _ h

/-- The port as a falling edge on its sensed pair leaves it, before its receive side looks at the edge. -/
def Port.fallen (q : Port) : Port :=
  { q with space := true, silent := false, fell := true, head := { q.head with commit := none } }

section fall
variable (s : State) (p : PortNo)

/-- What an edge tells leaves the ports. -/
theorem State.fall_tells : Steps [.mem, .pool, .draws, .irq, .bells, .events, .sluice, .journal, .dozeEvents]
    (s.updPort p Port.fallen) (s.fall p) :=
  Steps.ite (State.portEvent_steps _ _ _ (Steps.refl _ _) rfl) (Steps.refl _ _)

@[simp] theorem State.fall_modes : (s.fall p).modes = s.modes := (s.fall_tells p).same .modes

@[simp] theorem State.fall_port_same : (s.fall p).port p = (s.port p).fallen :=
  ((s.fall_tells p).port_eq p).trans (s.updPort_port_same p _)

theorem State.fall_port_ne {q : PortNo} (h : q ≠ p) : (s.fall p).port q = s.port q :=
  ((s.fall_tells p).port_eq q).trans (s.updPort_port_ne _ h)

end fall

/-- The port as an edge of the instant `t` in DOZE leaves it. -/
def Port.dozeEdge (q : Port) (mark : Nat) (t : Stamp × Bool) : Port := (q.fallen.wakeUp t).catchEdge mark t

/-- The device as such an edge leaves it, WAKE apart. -/
def State.dozeEdge (s : State) (p : PortNo) (mark : Nat) : State :=
  (s.fall p).updPort p fun q => (q.wakeUp (s.now, s.doubtNow)).catchEdge mark (s.now, s.doubtNow)

/-- WAKE is raised; doorbell 9 rings after the return. -/
def State.raiseWake (s : State) : State := (s.setModes fun m => { m with wokeBell := true }).raise .ctl .wake

section dozeEdge
variable (s : State) (p : PortNo) (mark : Nat)

theorem State.dozeEdge_port : (s.dozeEdge p mark).port p = (s.port p).dozeEdge mark (s.power.elapsed, s.doubtNow) := by
  rw [State.dozeEdge, State.updPort_port_same, State.fall_port_same]
  rfl

theorem State.dozeEdge_port_ne {q : PortNo} (h : q ≠ p) : (s.dozeEdge p mark).port q = s.port q := by
  rw [State.dozeEdge, State.updPort_port_ne _ _ h, State.fall_port_ne _ _ h]

theorem State.raiseWake_port (q : PortNo) : s.raiseWake.port q = s.port q := rfl

theorem State.raiseWake_irq : s.raiseWake.culvert.irqstat.getLsbD 10 = true := State.raise_irqBit _ .ctl .wake

end dozeEdge

/-- A start edge in DOZE: the first one on the port, one that begins a character, or any while the port hunts. -/
theorem exec_wakeEdge_of_doze {s : State} {p : PortNo} {mark : Nat} (ha : s.alive = true) (hm : s.mode = .doze)
    (hw : (s.port p).wakes = true)
    (hon : (!(s.port p).armed || (s.port p).hunting || (s.port p).starts mark s.power.elapsed) = true) :
    exec (.wakeEdge p mark) s = .next (s.dozeEdge p mark).raiseWake := by
  have doze : (s.fall p).mode = .doze := by simpa [State.mode] using hm
  have wakes : (s.port p).fallen.wakes = true := hw
  have on : (!(s.port p).fallen.armed || (s.port p).fallen.hunting || (s.port p).fallen.starts mark s.now) = true := hon
  show execWakeEdge p mark s = _
  simp only [execWakeEdge, ha, hm, hw, State.lineEdge, State.fall_port_same, doze, wakes, on]
  rfl

/-- Past the stopwatch, an edge that begins a character latches its instant, and every other leaves what was latched. -/
theorem Port.catchEdge_eq (q : Port) (mark : Nat) (t : Stamp × Bool) : ∃ falls hold, q.catchEdge mark t = { q with
    falls := falls, hold := hold, edge := if q.armed && !q.stuck && q.starts mark t.1 then some t else q.edge } := by
  have ignored : (!q.armed || q.stuck) = !(q.armed && !q.stuck) := by simp
  rw [Port.catchEdge, ignored]
  cases q.armed && !q.stuck
  · exact ⟨q.falls, q.hold, rfl⟩
  · exact ⟨_, _, rfl⟩

/-- The first edge of a DOZE meets a port that is not armed. -/
theorem Port.wakeUp_of_unarmed {q : Port} (h : q.armed = false) (t : Stamp × Bool) (hunts fast : Bool)
    (hh : hunts = (q.hunting || (q.rx.autobaud && q.parked))) (hf : fast = (!hunts && decide (115200 < q.rateNow))) :
    q.fallen.wakeUp t = { q.fallen with
      armed := q.talks && !q.rxRetired, wokeNext := true, hunting := hunts, afterLoss := q.afterLoss || fast
      wokeEdge := if fast then some t else none, hold := if fast then .waking else q.hold } := by
  have unarmed : ¬ q.fallen.armed = true := by simp [Port.fallen, h]
  subst hf hh
  rw [Port.wakeUp, if_neg unarmed]
  rfl

/-- What the first edge of a DOZE leaves on its port: `hunts` says that it hunts then, `fast` that the waking character is
not caught. -/
theorem Port.dozeEdge_of_unarmed {q : Port} (h : q.armed = false) (hs : q.stuck = false) (mark : Nat) (t : Stamp × Bool)
    (hunts fast : Bool) (hh : hunts = (q.hunting || (q.rx.autobaud && q.parked)))
    (hf : fast = (!hunts && decide (115200 < q.rateNow))) :
    ∃ falls hold, q.dozeEdge mark t = { q.fallen with
      armed := q.talks && !q.rxRetired, wokeNext := true, hunting := hunts, afterLoss := q.afterLoss || fast
      wokeEdge := if fast then some t else none, falls := falls, hold := hold
      edge := if q.talks && !q.rxRetired && (q.fallen.wakeUp t).starts mark t.1 then some t else q.edge } := by
  obtain ⟨falls, hold, caught⟩ := (q.fallen.wakeUp t).catchEdge_eq mark t
  have stuck : q.fallen.stuck = false := hs
  have woken := Port.wakeUp_of_unarmed h t hunts fast hh hf
  refine ⟨falls, hold, ?_⟩
  rw [Port.dozeEdge, caught, woken]
  simp only [stuck, Bool.not_false, Bool.and_true]
  rfl

/-- A slow edge on a free line begins a character. -/
theorem Port.starts_of_slow {q : Port} (h : q.armed = false) (mark : Nat) (t : Stamp × Bool)
    (hh : false = (q.hunting || (q.rx.autobaud && q.parked))) (hr : q.rateNow ≤ 115200) (he : q.edge = none)
    (hl : q.hold = .free) : (q.fallen.wakeUp t).starts mark t.1 = true := by
  rw [Port.wakeUp_of_unarmed h t false false hh (by simpa using hr)]
  simp [Port.starts, Port.accepts, Port.fallen, he, hl]

theorem PortCfg.charBits_ge (c : PortCfg) : 10 ≤ c.charBits := by
  unfold PortCfg.charBits
  split
  · decide
  · split <;> split <;> decide

/-- 03 R89: above 115,200 Bd the edge begins no character, for the waking one still lasts. -/
theorem Port.starts_of_fast {q : Port} (h : q.armed = false) (mark : Nat) (t : Stamp × Bool)
    (hh : false = (q.hunting || (q.rx.autobaud && q.parked))) (hr : 115200 < q.rateNow) (hm : q.rateNow ≤ 1000000) :
    (q.fallen.wakeUp t).starts mark t.1 = false := by
  have bits := PortCfg.charBits_ge q.rx
  have lasts : ¬ (2 * q.rx.charBits - 1) * 1000000 ≤ ((t.1 - t.1).toNat + 1) * 2 * q.rateNow := by
    simp only [BitVec.sub_self, BitVec.toNat_zero]
    omega
  have woken := Port.wakeUp_of_unarmed h t false true hh (by simpa using hr)
  have accepts : (q.fallen.wakeUp t).accepts mark t.1 = false := by
    rw [woken]
    exact decide_eq_false lasts
  simp [Port.starts, accepts]

/-- A later edge of a DOZE changes at most what is latched. -/
theorem Port.dozeEdge_of_armed {q : Port} (h : q.armed = true) (hs : q.stuck = false) (mark : Nat) (t : Stamp × Bool) :
    ∃ falls hold, q.dozeEdge mark t = { q.fallen with
      falls := falls, hold := hold, edge := if q.starts mark t.1 then some t else q.edge } := by
  obtain ⟨falls, hold, caught⟩ := q.fallen.catchEdge_eq mark t
  have armed : q.fallen.armed = true := h
  have stuck : q.fallen.stuck = false := hs
  have woken : q.fallen.wakeUp t = q.fallen := by rw [Port.wakeUp, if_pos armed]
  refine ⟨falls, hold, ?_⟩
  rw [Port.dozeEdge, woken, caught]
  simp only [armed, stuck, Bool.not_false, Bool.true_and]
  rfl

/-- An edge that raises WAKE keeps DOZE, and beside its own port every port. -/
theorem State.raiseWake_dozeEdge {s : State} (p : PortNo) (mark : Nat) (hd : s.mode = .doze) :
    (s.dozeEdge p mark).raiseWake.culvert.irqstat.getLsbD 10 = true ∧
      (s.dozeEdge p mark).raiseWake.modes.mode = .doze ∧ (s.dozeEdge p mark).raiseWake.modes.wokeBell = true ∧
      ∀ q, q ≠ p → (s.dozeEdge p mark).raiseWake.port q = s.port q :=
  ⟨State.raiseWake_irq _, (congrArg ModeRegs.mode (s.fall_modes p)).trans hd, rfl, fun _ hq => s.dozeEdge_port_ne p mark hq⟩

/-- Settles O38: the first edge wakes the port, every later one only latches; WAKE follows both. -/
theorem wakeEdgesRaiseWake : Obligations.WakeEdgesRaiseWake := by
  refine ⟨fun s p m hunts ha hd hw hs hu hh => ?_, fun s p m ha hd hw hs hu hon => ?_, fun s p m hno => ?_⟩
  · have wakes : (s.port p).wakes = true := by simp [Port.wakes, hw, hs]
    have h := exec_wakeEdge_of_doze (mark := m) ha hd wakes (by simp [hu])
    obtain ⟨irq, mode, bell, others⟩ := s.raiseWake_dozeEdge p m hd
    obtain ⟨falls, hold, woken⟩ := Port.dozeEdge_of_unarmed hu hs m (s.power.elapsed, s.doubtNow) hunts _ hh rfl
    have port := (s.dozeEdge_port p m).trans woken
    refine ⟨_, h, irq, mode, bell, congrArg Port.space port, congrArg Port.wokeNext port, congrArg Port.hunting port,
      congrArg Port.armed port, (congrArg Port.fifo port).trans rfl, fun ht hr slow hf he hl => ?_, fun slow => ?_,
      fun fast hm hf => ?_, others, only_parts_of_exec h⟩ <;> rw [State.raiseWake_port, port]
    · have starts := Port.starts_of_slow hu m (s.power.elapsed, s.doubtNow) (hf ▸ hh) slow he hl
      simp only [ht, hr, starts]
      rfl
    · have caught : (!hunts && decide (115200 < (s.port p).rateNow)) = false := by
        rcases slow with slow | hunting
        · simp [Nat.not_lt.2 slow]
        · simp [hunting]
      simp [caught]
    · have starts := Port.starts_of_fast hu m (s.power.elapsed, s.doubtNow) (hf ▸ hh) fast hm
      simp [starts, hf, fast]
  · have wakes : (s.port p).wakes = true := by simp [Port.wakes, hw, hs]
    have h := exec_wakeEdge_of_doze (mark := m) ha hd wakes (by simpa [hu] using hon)
    obtain ⟨irq, mode, bell, others⟩ := s.raiseWake_dozeEdge p m hd
    obtain ⟨falls, hold, woken⟩ := Port.dozeEdge_of_armed hu hs m (s.power.elapsed, s.doubtNow)
    have port := (s.dozeEdge_port p m).trans woken
    refine ⟨_, h, irq, mode, bell, (congrArg Port.wokeNext port).trans rfl, ?_, others, only_parts_of_exec h⟩
    rw [State.raiseWake_port, port]
    cases hunts : (s.port p).hunting
    · have starts : (s.port p).starts m s.power.elapsed = true := by simpa [hunts] using hon
      simp [starts]
    · simp [Port.starts, hunts]
  · have asleep : (s.alive && decide (s.mode = .doze) && (s.port p).wakes) = false := by
      rcases hno with hd | hw | hs
      · simp [hd]
      · simp [Port.wakes, hw]
      · simp [Port.wakes, hs]
    show execWakeEdge p m s = _
    rw [execWakeEdge, asleep]
    rfl

end Sys2Proof.Machine
end

section
/-!
PROOFS. A mode comes into force, and the end of the self-test (03 R66, R76-R78, 08 R231).
-/
set_option Elab.async false
namespace Sys2Proof.Machine

/-! ### A walk over distinct places -/

section walk
variable {σ α β : Type} {f : σ → α → σ} {I : σ → Prop} {key : σ → α → β}

theorem foldl_key_of_notMem {l : List α} {x : α} {s : σ} (keeps : ∀ t y, I t → I (f t y))
    (others : ∀ t y z, I t → z ≠ y → key (f t y) z = key t z) (hs : I s) (hx : x ∉ l) :
    key (l.foldl f s) x = key s x := by
  induction l generalizing s with
  | nil => rfl
  | cons y ys ih =>
    rw [List.mem_cons, not_or] at hx
    obtain ⟨hy, hx⟩ := hx
    exact (ih (keeps s y hs) hx).trans (others s y x hs hy)

/-- Where each turn leaves what the other places show, a place shows at the end what its own turn left, and met there what
it showed at the start. -/
theorem foldl_key_of_mem {l : List α} {x : α} {s : σ} (keeps : ∀ t y, I t → I (f t y))
    (others : ∀ t y z, I t → z ≠ y → key (f t y) z = key t z) (hs : I s) (hl : l.Nodup) (hx : x ∈ l) :
    ∃ t, I t ∧ key t x = key s x ∧ key (l.foldl f s) x = key (f t x) x := by
  induction l generalizing s with
  | nil => exact absurd hx List.not_mem_nil
  | cons y ys ih =>
    obtain ⟨hy, hys⟩ := List.nodup_cons.1 hl
    rcases List.mem_cons.1 hx with rfl | hx
    · exact ⟨s, hs, rfl, foldl_key_of_notMem keeps others (keeps s x hs) hy⟩
    · obtain ⟨t, ht, met, left⟩ := ih (keeps s y hs) hys hx
      exact ⟨t, ht, met.trans (others s y x hs fun h => hy (h ▸ hx)), left⟩

end walk

/-- What a walk over every port leaves on each. -/
theorem State.eachPort_key {β : Type} {f : State → PortNo → State} {I : State → Prop} {key : State → PortNo → β}
    {s : State} (keeps : ∀ t p, I t → I (f t p)) (others : ∀ t p q, I t → q ≠ p → key (f t p) q = key t q) (hs : I s)
    (p : PortNo) : ∃ t, I t ∧ key t p = key s p ∧ key (s.eachPort f) p = key (f t p) p :=
  foldl_key_of_mem keeps others hs (List.nodup_finRange 48) (List.mem_finRange p)

/-! ### The default rows (08 R231, 03 R77) -/

/-- The tables region is cleared, the first-second block and the reset stamp apart. -/
def State.clearedRows (s : State) : State := (s.clearMem 0xF0000 (firstSecondAt 0)).clearMem (resetStampAt + 6) 0xF8000

/-- One port row is the default row. -/
def State.putDefaultRow (s : State) (p : PortNo) : State := s.putBytes (portRowAt p.val) (leBytes 16 PortRow.default.toNat)

/-- The last row of each Sieve bank drops what no other row takes. -/
def State.dropRest (s : State) : State :=
  (s.putByte (sieveRowAt false 511 + 15) 0x80).putByte (sieveRowAt true 511 + 15) 0x80

/-- The view rows and bus rows have their fields that are not 0. -/
def State.viewsAndBuses (s : State) : State :=
  (s.eachView fun s v => s.putBytes (viewRowAt v.val + 2) (leBytes 2 (if v.val < 48 then 256 else 512))).eachBus
    fun s b => s.putByte (busRowAt b.val) 0xFF

theorem State.defaultRows_eq (s : State) :
    s.defaultRows = (s.clearedRows.eachPort State.putDefaultRow).dropRest.viewsAndBuses := rfl

theorem State.read_foldl {α : Type} {f : State → α → State} {a : Nat} (l : List α) (s : State)
    (h : ∀ t x, Memory.read (f t x).mem a = Memory.read t.mem a) :
    Memory.read (l.foldl f s).mem a = Memory.read s.mem a := by
  induction l generalizing s with
  | nil => rfl
  | cons x xs ih => exact (ih (f s x)).trans (h s x)

theorem State.read_putByte_ne {s : State} {a c : Nat} {b : Byte} (ha : a < 0x100000) (h : c ≠ a) :
    Memory.read (s.putByte a b).mem c = Memory.read s.mem c := by
  rw [State.putByte_mem, Nat.mod_eq_of_lt ha, Memory.read_write_ne h]

theorem State.read_putByte_same {s : State} {a : Nat} {b : Byte} (hs : MemCanonical s) (ha : a < 0x100000) :
    Memory.read (s.putByte a b).mem a = b := by
  rw [State.putByte_mem, Nat.mod_eq_of_lt ha, Memory.read_write_eq hs]

theorem State.read_clearedRows {s : State} {a : Nat} (lo : firstSecondAt 0 ≤ a) (hi : a < resetStampAt + 6) :
    Memory.read s.clearedRows.mem a = Memory.read s.mem a := by
  rw [State.clearedRows, State.clearMem_mem, State.clearMem_mem, Memory.read_clear, if_neg (by omega), Memory.read_clear,
    if_neg (by omega)]

section putDefaultRow
variable {s : State} {p : PortNo}

theorem portRowAt_le (p : PortNo) : 0xF0000 ≤ portRowAt p.val ∧ portRowAt p.val + 32 ≤ 0xF0600 := by
  have := p.isLt
  unfold portRowAt
  omega

theorem State.read_putDefaultRow {a : Nat} (h : a < portRowAt p.val ∨ portRowAt p.val + 16 ≤ a) :
    Memory.read (s.putDefaultRow p).mem a = Memory.read s.mem a := by
  have := portRowAt_le p
  exact State.read_putBytes_of_outside (by rw [leBytes_length]; omega) (by rwa [leBytes_length])

theorem State.portRow_congr {t : State} (hs : MemCanonical s) (ht : MemCanonical t)
    (h : ∀ k, k < 16 → Memory.read t.mem (portRowAt p.val + k) = Memory.read s.mem (portRowAt p.val + k)) :
    t.portRow p = s.portRow p :=
  congrArg (BitVec.ofNat 128) (State.memField_congr hs ht h)

theorem State.portRow_putDefaultRow (hs : MemCanonical s) : (s.putDefaultRow p).portRow p = PortRow.default := by
  have := portRowAt_le p
  rw [State.portRow, State.putDefaultRow, State.memField_putBytes hs (by omega)]
  decide

theorem State.portRow_putDefaultRow_ne (hs : MemCanonical s) {q : PortNo} (h : q ≠ p) :
    (s.putDefaultRow p).portRow q = s.portRow q := by
  have apart : q.val ≠ p.val := fun e => h (Fin.ext e)
  refine State.portRow_congr hs (State.wf_putBytes hs) fun k hk => State.read_putDefaultRow ?_
  unfold portRowAt
  omega

end putDefaultRow

theorem State.read_viewsAndBuses {s : State} {a : Nat} (h : a < 0xF0800 ∨ (0xF1000 ≤ a ∧ a < 0xF7000) ∨ 0xF7C00 ≤ a) :
    Memory.read s.viewsAndBuses.mem a = Memory.read s.mem a := by
  have bus : ∀ (t : State) (b : BusNo), Memory.read (t.putByte (busRowAt b.val) 0xFF).mem a = Memory.read t.mem a := by
    intro t b
    have := b.isLt
    unfold busRowAt
    exact State.read_putByte_ne (by omega) (by omega)
  have view : ∀ (t : State) (v : Fin 52), Memory.read (t.putBytes (viewRowAt v.val + 2)
      (leBytes 2 (if v.val < 48 then 256 else 512))).mem a = Memory.read t.mem a := by
    intro t v
    have := v.isLt
    unfold viewRowAt
    exact State.read_putBytes_of_outside (by rw [leBytes_length]; omega) (by rw [leBytes_length]; omega)
  exact (State.read_foldl _ _ bus).trans (State.read_foldl _ _ view)

theorem State.read_dropRest {s : State} {a : Nat} (hf : a ≠ 0xF2FFF) (ht : a ≠ 0xF4FFF) :
    Memory.read s.dropRest.mem a = Memory.read s.mem a :=
  (State.read_putByte_ne (by decide) ht).trans (State.read_putByte_ne (by decide) hf)

section defaultRows
variable {s : State}

theorem State.eachPort_putDefaultRow_canonical (hs : MemCanonical s) :
    MemCanonical (s.clearedRows.eachPort State.putDefaultRow) := by
  have cleared : MemCanonical s.clearedRows := State.wf_clearMem (State.wf_clearMem hs)
  exact (State.eachPort_steps (ps := [.mem, .code, .pool, .boxes, .rows]) _ (Steps.refl _ _)
    fun _ _ h => State.putBytes_steps _ _ h rfl).2 cleared

theorem State.defaultRows_canonical (hs : MemCanonical s) : MemCanonical s.defaultRows :=
  (State.defaultRows_steps (ps := [.mem, .rows]) (Steps.refl _ s) rfl).2 hs

theorem State.defaultRows_portRow (hs : MemCanonical s) (p : PortNo) : s.defaultRows.portRow p = PortRow.default := by
  have at' := portRowAt_le p
  have rest : s.defaultRows.portRow p = (s.clearedRows.eachPort State.putDefaultRow).portRow p := by
    refine State.portRow_congr (State.eachPort_putDefaultRow_canonical hs) (State.defaultRows_canonical hs) fun k hk => ?_
    rw [State.defaultRows_eq, State.read_viewsAndBuses (by omega), State.read_dropRest (by omega) (by omega)]
  have cleared : MemCanonical s.clearedRows := State.wf_clearMem (State.wf_clearMem hs)
  obtain ⟨t, ht, -, own⟩ := State.eachPort_key (f := State.putDefaultRow) (I := MemCanonical) (key := State.portRow)
    (fun t p ht => State.wf_putBytes ht) (fun t p q ht h => State.portRow_putDefaultRow_ne ht h) cleared p
  rw [rest, own, State.portRow_putDefaultRow ht]

theorem State.defaultRows_sieve (hs : MemCanonical s) (bankB : Bool) :
    Memory.read s.defaultRows.mem (sieveRowAt bankB 511 + 15) = 0x80 := by
  have filled := State.eachPort_putDefaultRow_canonical hs
  rw [State.defaultRows_eq]
  cases bankB
  · rw [State.read_viewsAndBuses (by decide), State.dropRest, State.read_putByte_ne (by decide) (by decide),
      State.read_putByte_same filled (by decide)]
  · rw [State.read_viewsAndBuses (by decide), State.dropRest, State.read_putByte_same (State.wf_putByte filled) (by decide)]

theorem State.read_defaultRows {a : Nat} (lo : firstSecondAt 0 ≤ a) (hi : a < resetStampAt + 6) :
    Memory.read s.defaultRows.mem a = Memory.read s.mem a := by
  have lo' : 0xF7C00 ≤ a := lo
  have row : ∀ (t : State) (p : PortNo), Memory.read (t.putDefaultRow p).mem a = Memory.read t.mem a := fun t p => by
    have := portRowAt_le p
    exact State.read_putDefaultRow (by omega)
  have rows : Memory.read (s.clearedRows.eachPort State.putDefaultRow).mem a = Memory.read s.clearedRows.mem a :=
    State.read_foldl _ _ row
  rw [State.defaultRows_eq, State.read_viewsAndBuses (by omega), State.read_dropRest (by omega) (by omega), rows,
    State.read_clearedRows lo hi]

end defaultRows

/-! ### A mode comes into force -/

/-- The mode register as a mode comes into force; its cause is NONE unless a later write was refused (03 R66). -/
def State.inForce (s : State) (m : Mode) : State :=
  s.setModes fun r => { r with mode := m, cause := if r.late then r.cause else .none }

/-- Commands end that the mode does not allow, and with PROBE its loopbacks and injections. -/
def State.endWork (s : State) (m : Mode) : State :=
  let t := if m = .hold then s.inForce m else (s.inForce m).abortWork m
  if s.mode = .probe ∧ m ≠ .hold then t.leaveProbe else t

/-- DOZE is left, or entered. -/
def State.wakeOrDoze (s : State) (old m : Mode) : State :=
  let s := if old = .doze ∧ m.working then s.leaveDoze else s
  if m = .doze then s.enterDoze else s

/-- A port parks or returns as VIGIL has it. -/
def State.parkByVigil (s : State) (p : PortNo) : State :=
  if s.parks p then (if (s.port p).parked then s else s.park p) else if (s.port p).parked then s.unpark p else s

/-- A parked port returns. -/
def State.unparkIfParked (s : State) (p : PortNo) : State := if (s.port p).parked then s.unpark p else s

/-- The ports park or return as the mode has it. -/
def State.parkAll (s : State) (m : Mode) : State :=
  if m = .vigil then s.eachPort State.parkByVigil
  else if m = .run ∨ m = .trim then s.eachPort State.unparkIfParked else s

/-- A MUTE that VIGIL opened closes. -/
def State.closeMute (s : State) (old m : Mode) : State :=
  if old = .vigil ∧ m ≠ .vigil then s.mapPorts fun q => { q with unmuted := false } else s

/-- The device as a mode comes into force, before the busy state clears. -/
def State.arriving (s : State) (m : Mode) : State :=
  ((((s.endWork m).wakeOrDoze s.mode m).parkAll m).closeMute s.mode m).setJoins.yieldGroups

theorem State.arrive_eq (s : State) (m : Mode) : s.arrive m = (s.arriving m).modesDone := rfl

theorem State.endWork_steps (s : State) (m : Mode) : Steps [.mem, .pool, .replies, .work, .ports, .tx, .sluice, .heads,
    .pair, .journal, .tag, .inject] (s.inForce m) (s.endWork m) := by
  have work : Steps [.mem, .pool, .replies, .work, .ports, .tx, .sluice, .heads, .pair, .journal, .tag, .inject]
      (s.inForce m) (if m = .hold then s.inForce m else (s.inForce m).abortWork m) :=
    Steps.ite (Steps.refl _ _) (State.abortWork_steps m (Steps.refl _ _) rfl)
  exact Steps.ite (State.leaveProbe_steps work rfl) work

theorem State.parkAll_steps (s : State) (m : Mode) : Steps [.mem, .pool, .draws, .irq, .bells, .replies, .changes, .ports,
    .tx, .sluice, .lamps, .buses, .heads, .pair, .journal, .tag, .inject] s (s.parkAll m) := by
  have vigil := State.eachPort_steps (ps := [.mem, .pool, .draws, .irq, .bells, .replies, .changes, .ports, .tx, .sluice,
    .lamps, .buses, .heads, .pair, .journal, .tag, .inject]) State.parkByVigil (Steps.refl _ s) fun t p h =>
      Steps.ite (Steps.ite h (State.park_steps p h rfl)) (Steps.ite (State.unpark_steps p h rfl) h)
  have back := State.eachPort_steps (ps := [.mem, .pool, .draws, .irq, .bells, .replies, .changes, .ports, .tx, .sluice,
    .lamps, .buses, .heads, .pair, .journal, .tag, .inject]) State.unparkIfParked (Steps.refl _ s) fun t p h =>
      Steps.ite (State.unpark_steps p h rfl) h
  exact Steps.ite vigil (Steps.ite back (Steps.refl _ s))

theorem State.closeMute_steps (s : State) (old m : Mode) : Steps [.ports, .tx] s (s.closeMute old m) :=
  Steps.ite (State.mapPorts_steps _ (Steps.refl _ s) rfl) (Steps.refl _ s)

/-- The receive sides after DOZE; unless the return is to VIGIL no port is parked any longer (03 R92, R93). -/
def State.portsAfterDoze (s : State) : State :=
  let s := s.setJournal fun j => { j with nand := j.nand.map fun n => { n with left := none } }
  let vigil := decide (s.mode = .vigil)
  let s := s.setPorts ((Vector.finRange 48).map fun p => (s.port p).afterDoze vigil (s.parks p))
  if vigil then s else s.setSluice fun l => { l with views := l.views.map fun v => { v with parked := false } }

/-- The lamps, drivers, buses, heads and the management bus start again. -/
def State.roadAfterDoze (s : State) : State :=
  ((s.startLamps.driveAll.headsConfigured.joinBuses).resumeHeads).mgmtStart

/-- Doorbell 9 rings where WAKE was raised (06 R194). -/
def State.tellWake (s : State) : State :=
  if s.modes.wokeBell then (s.ring bellWake).setModes fun m => { m with wokeBell := false } else s

theorem State.leaveDoze_eq (s : State) :
    s.leaveDoze = s.takeRole.takeLampRows.portsAfterDoze.roadAfterDoze.tellWake.tellDozeEvents := by
  unfold State.leaveDoze State.portsAfterDoze State.roadAfterDoze State.tellWake
  rfl

theorem State.portsAfterDoze_steps (s : State) : Steps [.ports, .tx, .sluice, .journal] s s.portsAfterDoze := by
  unfold State.portsAfterDoze
  exact Steps.ite (State.setPorts_steps _ (State.setJournal_steps _ (Steps.refl _ s) rfl) rfl)
    (State.setSluice_steps _ (State.setPorts_steps _ (State.setJournal_steps _ (Steps.refl _ s) rfl) rfl) rfl)

theorem State.roadAfterDoze_steps (s : State) : Steps [.mem, .pool, .draws, .irq, .bells, .replies, .changes, .ports, .tx,
    .sluice, .lamps, .buses, .heads, .pair, .journal, .tag, .mgmt, .inject] s s.roadAfterDoze := by
  refine State.mgmtStart_steps (State.resumeHeads_steps (State.joinBuses_steps ?_ rfl) rfl) rfl
  exact State.headsConfigured_steps (State.driveAll_steps (State.startLamps_steps (Steps.refl _ s) rfl) rfl) rfl

theorem State.roadAfterDoze_modes (s : State) :
    s.takeRole.takeLampRows.portsAfterDoze.roadAfterDoze.modes = s.modes := by
  have rows : Steps [.mem, .pool, .draws, .irq, .bells, .ports, .tx, .sluice, .lamps, .pair, .journal, .tag, .inject] s
      s.takeRole.takeLampRows :=
    State.takeLampRows_steps (State.takeRole_steps (Steps.refl _ s) rfl) rfl
  rw [(State.roadAfterDoze_steps _).same .modes, (State.portsAfterDoze_steps _).same .modes, rows.same .modes]

theorem State.tellWake_modes (s : State) : ∃ woke, s.tellWake.modes = { s.modes with wokeBell := woke } := by
  unfold State.tellWake
  split
  · have rung : (s.ring bellWake).modes = s.modes :=
      (State.ring_steps (ps := [.irq, .bells]) bellWake (Steps.refl _ _) rfl).same .modes
    exact ⟨false, by rw [State.setModes_modes, rung]⟩
  · exact ⟨s.modes.wokeBell, rfl⟩

theorem State.leaveDoze_modes (s : State) : ∃ woke, s.leaveDoze.modes = { s.modes with wokeBell := woke } := by
  have told (t : State) : t.tellDozeEvents.modes = t.modes :=
    (State.tellDozeEvents_steps (ps := [.mem, .pool, .draws, .irq, .bells, .sluice, .journal, .dozeEvents])
      (Steps.refl _ _) rfl).same .modes
  obtain ⟨woke, rung⟩ := State.tellWake_modes s.takeRole.takeLampRows.portsAfterDoze.roadAfterDoze
  exact ⟨woke, by rw [s.leaveDoze_eq, told, rung, s.roadAfterDoze_modes]⟩

theorem State.wakeOrDoze_modes (s : State) (old m : Mode) :
    ∃ woke, (s.wakeOrDoze old m).modes = { s.modes with wokeBell := woke } := by
  have dozed : ∀ t : State, (if m = .doze then t.enterDoze else t).modes = t.modes := fun t =>
    (Steps.ite (State.enterDoze_steps (ps := [.mem, .pool, .draws, .irq, .bells, .replies, .changes, .ports, .tx, .sluice,
      .lamps, .buses, .heads, .pair, .journal, .tag, .mgmt, .inject]) (Steps.refl _ t) rfl) (Steps.refl _ t)).same .modes
  rw [State.wakeOrDoze, dozed]
  split
  · exact s.leaveDoze_modes
  · exact ⟨s.modes.wokeBell, rfl⟩

theorem State.arriving_modes (s : State) (m : Mode) : ∃ woke, (s.arriving m).modes = { s.modes with
    mode := m, cause := if s.modes.late then s.modes.cause else .none, wokeBell := woke } := by
  obtain ⟨woke, modes⟩ := (s.endWork m).wakeOrDoze_modes s.mode m
  have parked := ((s.endWork m).wakeOrDoze s.mode m).parkAll_steps m
  have muted := (((s.endWork m).wakeOrDoze s.mode m).parkAll m).closeMute_steps s.mode m
  have joined : (s.arriving m).modes = ((((s.endWork m).wakeOrDoze s.mode m).parkAll m).closeMute s.mode m).modes :=
    (State.yieldGroups_steps (State.setJoins_steps (Steps.refl [.ports, .tx, .sluice] _) rfl) rfl).same .modes
  refine ⟨woke, ?_⟩
  rw [joined, muted.same .modes, parked.same .modes, modes, (s.endWork_steps m).same .modes]
  rfl

/-- 03 R66: the mode register as the busy state clears. -/
theorem State.arrive_modes (s : State) (m : Mode) : ∃ woke, (s.arrive m).modes = { s.modes with
    mode := m, cause := if s.modes.late then s.modes.cause else .none, wokeBell := woke, owed := [], busy := false
    draining := false, target := m } := by
  obtain ⟨woke, modes⟩ := s.arriving_modes m
  refine ⟨woke, ?_⟩
  rw [State.arrive_eq, State.modesDone_modes, modes]

/-! ### The end of the self-test (03 R76-R78, 08 R231) -/

/-- The device as the self-test ends, PROVE apart: its result, the default rows and settings, both channels anew. -/
def State.selfTested (s : State) (r : ProveResult) : State :=
  ((((s.setEngine fun e => e.tested r).setJournal fun j => j.probed r).defaultRows.defaultMaintained.defaultSettings.setChan
    .n ChanRegs.begin).setChan .k ChanRegs.begin)

theorem exec_selfTestEnd {s : State} (r : ProveResult) (ha : s.alive = true) (hp : s.proving = true)
    (hu : s.engine.up = true) :
    exec (.selfTestEnd r) s = .next ((s.selfTested r).arrive .prove).checkRecord := by
  show execSelfTestEnd r s = _
  simp only [execSelfTestEnd, ha, hp, hu]
  rfl

/-- What PROVE coming into force leaves of the self-test's end. -/
theorem State.provedFrom (s : State) : Steps [.mem, .pool, .draws, .modes, .irq, .bells, .replies, .work, .changes, .ports,
    .tx, .sluice, .lamps, .buses, .heads, .pair, .journal, .tag, .mgmt, .inject, .dozeEvents] s
    (s.arrive .prove).checkRecord :=
  State.checkRecord_steps (State.arrive_steps .prove (Steps.refl _ s) rfl) rfl

theorem Engine.tested_testEnded (e : Engine) (r : ProveResult) : (e.tested r).testEnded = true := by
  unfold Engine.tested
  split
  · rfl
  · cases r <;> rfl

theorem Engine.tested_of_failed {e : Engine} (r : ProveResult) (h : e.prove = 3) :
    (e.tested r).prove = 3 ∧ (e.tested r).provePart = e.provePart := by
  simp [Engine.tested, h]

/-- LOADSTAT PROVE of a result that no failure preceded. -/
theorem Engine.tested_of_first {e : Engine} (r : ProveResult) (h : e.prove ≠ 3) :
    (e.tested r).prove = (match r with
      | .passed _ _ => 2
      | .passedNoNand => 4
      | .failed _ => 3) ∧ ∀ part, r = .failed part → (e.tested r).provePart = provePartCode part := by
  cases r with
  | passed a b => exact ⟨by rw [Engine.tested, if_neg h], fun part hr => nomatch hr⟩
  | passedNoNand => exact ⟨by rw [Engine.tested, if_neg h], fun part hr => nomatch hr⟩
  | failed part =>
    rw [Engine.tested, if_neg h]
    refine ⟨rfl, fun other hr => ?_⟩
    cases hr
    rfl

theorem Engine.result_of_bare {e f : Engine} (h : e.bare = f.bare) :
    e.testEnded = f.testEnded ∧ e.prove = f.prove ∧ e.provePart = f.provePart :=
  ⟨(congrArg Engine.testEnded h :), (congrArg Engine.prove h :), (congrArg Engine.provePart h :)⟩

theorem ChanRegs.begin_of_bare {r q : ChanRegs} (h : r.bare = q.begin.bare) : r.seq = 0 ∧ r.bellOut = 0 :=
  ⟨congrArg ChanRegs.seq h, congrArg ChanRegs.bellOut h⟩

theorem Settings.designated_of_bare {g f : Settings} (h : g.bare = f.bare) : g.designated = f.designated :=
  (congrArg Settings.designated h :)

/-- The device with the self-test's result, before the tables are filled. -/
def State.withResult (s : State) (r : ProveResult) : State :=
  (s.setEngine fun e => e.tested r).setJournal fun j => j.probed r

/-- What follows the filling of the tables leaves their bytes, the engine's registers and more. -/
theorem State.afterFill (s : State) (r : ProveResult) : Steps [.mem, .pool, .draws, .modes, .irq, .bells, .hush, .replies,
    .drops, .chanN, .chanK, .work, .settings, .events, .changes, .ports, .tx, .sieve, .govs, .sluice, .lamps, .buses, .heads,
    .pair, .journal, .tag, .mgmt, .inject, .dozeEvents] (s.withResult r).defaultRows
    ((s.selfTested r).arrive .prove).checkRecord := by
  refine State.checkRecord_steps (State.arrive_steps .prove ?_ rfl) rfl
  refine State.setChan_steps .k _ (State.setChan_steps .n _ ?_ rfl) rfl
  exact State.defaultSettings_steps (State.defaultMaintained_steps (Steps.refl _ _) rfl) rfl

/-- Settles O37: the fill is `selfTested`; PROVE coming into force leaves the tables, the result and the channels. -/
theorem selfTestEndFillsTheTables : Obligations.SelfTestEndFillsTheTables := by
  intro s r ha hs hy ht hm hu
  have h := exec_selfTestEnd r ha (by simp [State.proving, hy, ht]) hu
  have proved := (s.selfTested r).provedFrom
  have filled := s.afterFill r
  have canonical : MemCanonical (s.withResult r).defaultRows := State.defaultRows_canonical (s := s.withResult r) hs
  have rows {a : Nat} (lo : 0xF0000 ≤ a) (hi : a < 0x100000) := filled.same .rows rfl a lo hi
  obtain ⟨testEnded, prove, provePart⟩ := Engine.result_of_bare ((filled.same .engine).trans
    ((State.defaultRows_steps (ps := [.mem, .rows]) (Steps.refl _ (s.withResult r)) rfl).same .engine))
  obtain ⟨seqN, outN⟩ := ChanRegs.begin_of_bare (proved.same .chanN)
  obtain ⟨seqK, outK⟩ := ChanRegs.begin_of_bare (proved.same .chanK)
  obtain ⟨woke, arrived⟩ := (s.selfTested r).arrive_modes .prove
  have modes := ((State.checkRecord_steps (ps := [.irq, .bells, .tag]) (Steps.refl _ ((s.selfTested r).arrive .prove))
    rfl).same .modes).trans arrived
  refine ⟨_, h, congrArg ModeRegs.mode modes, congrArg ModeRegs.busy modes, testEnded.trans (s.engine.tested_testEnded r),
    fun failed => ?_, fun first => ?_, fun p => ?_, ?_, ?_, fun a lo hi => ?_, seqN, seqK, outN, outK,
    Settings.designated_of_bare (proved.same .settings), only_parts_of_exec h⟩
  · obtain ⟨result, part⟩ := Engine.tested_of_failed r failed
    exact ⟨prove.trans result, provePart.trans part⟩
  · obtain ⟨result, part⟩ := Engine.tested_of_first r first
    exact ⟨prove.trans result, fun x hx => provePart.trans (part x hx)⟩
  · have at' := portRowAt_le p
    exact (State.portRow_congr canonical (filled.2 canonical) fun k hk => rows (by omega) (by omega)).trans
      (State.defaultRows_portRow (s := s.withResult r) hs p)
  · exact (rows (by decide) (by decide)).trans (State.defaultRows_sieve (s := s.withResult r) hs false)
  · exact (rows (by decide) (by decide)).trans (State.defaultRows_sieve (s := s.withResult r) hs true)
  · have lo' : 0xF7C00 ≤ a := lo
    have hi' : a < 0xF7D86 := hi
    exact (rows (by omega) (by omega)).trans (State.read_defaultRows (s := s.withResult r) lo hi)

end Sys2Proof.Machine
end

section
/-!
PROOFS. What the Sluice, the lamps and the hedge buses leave of a port, and of the time of the last configuration change.
-/
set_option Elab.async false
namespace Sys2Proof.Machine

/-! ### What reaches the ports from the Sluice, the lamps and the hedge buses -/

/-- `key` of every port is as it was. -/
def SameOn {κ : Type} (key : Port → κ) (s t : State) : Prop := ∀ p, key (t.port p) = key (s.port p)

section sameOn
variable {κ : Type} {key : Port → κ} {s t u : State}

theorem SameOn.refl (key : Port → κ) (s : State) : SameOn key s s := fun _ => rfl

theorem SameOn.trans (h : SameOn key s t) (k : SameOn key t u) : SameOn key s u := fun p => (k p).trans (h p)

theorem SameOn.steps {ps : List Part} (h : SameOn key s t) (k : Steps ps t u)
    (hb : ps.contains .ports = false := by rfl) (ht : ps.contains .tx = false := by rfl) : SameOn key s u :=
  h.trans fun p => congrArg key (k.port_eq p hb ht)

theorem SameOn.updPort (h : SameOn key s t) (p : PortNo) {f : Port → Port} (hf : ∀ q, key (f q) = key q) :
    SameOn key s (t.updPort p f) :=
  h.trans fun q => upd_same t.ports p q f key hf

theorem SameOn.mapPorts (h : SameOn key s t) {f : Port → Port} (hf : ∀ q, key (f q) = key q) :
    SameOn key s (t.mapPorts f) :=
  h.trans fun q => map_same t.ports q f key hf

end sameOn

/-- Reset state and time stand, and a configuration change, where there is one, is of this instant. -/
structure Dated (s t : State) : Prop where
  power : t.power = s.power
  last : s.settings.lastChange = s.now → t.settings.lastChange = t.now

theorem Dated.refl (s : State) : Dated s s := ⟨rfl, id⟩

theorem Dated.steps {ps : List Part} {s t u : State} (h : Dated s t) (k : Steps ps t u)
    (hc : ps.contains .changes = false := by rfl) (hp : ps.contains .power = false := by rfl) : Dated s u := by
  have power : u.power = t.power := k.same .power hp
  have now : u.now = t.now := congrArg Power.elapsed power
  obtain ⟨-, last, -⟩ := k.same .changes hc
  exact ⟨power.trans h.power, fun hs => last.trans ((h.last hs).trans now.symm)⟩

theorem Dated.trans {s t u : State} (h : Dated s t) (k : Dated t u) : Dated s u :=
  ⟨k.power.trans h.power, fun hs => k.last (h.last hs)⟩

/-- What the Sluice, the lamps and the buses leave of a port: its rows, its parking and what is on its line. -/
def Port.line (q : Port) : BitVec 128 × BitVec 128 × Bool × Option Sending × Bool :=
  (q.rxRow, q.txRow, q.parked, q.tx.sending, q.tx.terminator)

/-- Every port's line stands, and a configuration change is of this instant. -/
structure Quiet (s t : State) : Prop where
  line : SameOn Port.line s t
  dated : Dated s t

/-- The parts that hold neither ports nor configuration changes nor the time. -/
def quietParts : List Part := [.mem, .pool, .draws, .modes, .irq, .bells, .replies, .work, .lamps, .buses, .heads, .sluice,
  .pair, .journal, .tag, .mgmt, .inject, .govs, .dozeEvents]

section quiet
variable {s t u : State}

theorem Quiet.refl (s : State) : Quiet s s := ⟨SameOn.refl _ s, Dated.refl s⟩

theorem Quiet.steps (h : Quiet s t) (k : Steps quietParts t u) : Quiet s u := ⟨h.line.steps k, h.dated.steps k⟩

theorem Quiet.updPort (h : Quiet s t) (p : PortNo) {f : Port → Port} (hf : ∀ q, (f q).line = q.line) :
    Quiet s (t.updPort p f) :=
  ⟨h.line.updPort p hf, h.dated.steps (State.updPort_steps (ps := [.ports, .tx]) p f (Steps.refl _ t) rfl)⟩

theorem Quiet.mapPorts (h : Quiet s t) {f : Port → Port} (hf : ∀ q, (f q).line = q.line) : Quiet s (t.mapPorts f) :=
  ⟨h.line.mapPorts hf, h.dated.steps (State.mapPorts_steps (ps := [.ports, .tx]) f (Steps.refl _ t) rfl)⟩

theorem Quiet.updTx (h : Quiet s t) (p : PortNo) {f : Tx → Tx}
    (hf : ∀ x, (f x).sending = x.sending ∧ (f x).terminator = x.terminator) : Quiet s (t.updTx p f) :=
  h.updPort p fun q => by
    obtain ⟨sending, terminator⟩ := hf q.tx
    simp only [Port.line, sending, terminator]

theorem Quiet.foldl {α : Type} {f : State → α → State} (l : List α) (h : Quiet s t)
    (hf : ∀ u x, Quiet s u → Quiet s (f u x)) : Quiet s (l.foldl f t) := by
  induction l generalizing t with
  | nil => exact h
  | cons x xs ih => exact ih (hf t x h)

/-! #### Links and commits -/

theorem Quiet.forget (h : Quiet s t) (v : Fin 52) (id : Nat) : Quiet s (t.forget v id) := by
  unfold State.forget
  cases viewPort v with
  | none => exact h
  | some p => exact h.updTx p fun _ => ⟨rfl, rfl⟩

theorem Quiet.unlink (h : Quiet s t) (v : Fin 52) (id : Nat) : Quiet s (t.unlink v id) :=
  ((h.steps (State.updView_steps v _ (Steps.refl _ t) rfl)).forget v id).steps
    (State.release_steps id (Steps.refl _ _) rfl)

theorem Quiet.evict (h : Quiet s t) (v : Fin 52) (id : Nat) : Quiet s (t.evict v id) :=
  (h.steps (State.updView_steps v _ (Steps.refl _ t) rfl)).unlink v id

theorem Quiet.refuse (h : Quiet s t) (v : Fin 52) (n : Nat) : Quiet s (t.refuse v n) :=
  h.steps (State.refuse_steps v n (Steps.refl _ t) rfl)

theorem Quiet.release (h : Quiet s t) (id : Nat) : Quiet s (t.release id) :=
  h.steps (State.release_steps id (Steps.refl _ t) rfl)

theorem Quiet.releaseHolds (h : Quiet s t) (v : Fin 52) : Quiet s (t.releaseHolds v) := by
  unfold State.releaseHolds
  cases viewPort v with
  | none => exact h
  | some p => exact Quiet.foldl _ (h.updTx p fun _ => ⟨rfl, rfl⟩) fun _ id hu => hu.release id

theorem Quiet.makeRoom (h : Quiet s t) (k : Nat) (v : Fin 52) (n : Nat) : Quiet s (State.makeRoom k t v n) := by
  induction k generalizing t with
  | zero => exact h
  | succ k ih =>
    unfold State.makeRoom
    split
    · exact h
    · split
      · exact ih (h.evict v _)
      · exact h

theorem Quiet.roomForAlarm (h : Quiet s t) (v : Fin 52) (n : Nat) : Quiet s (t.roomForAlarm v n) := by
  have room := h.makeRoom (t.view v).queue.length v n
  unfold State.roomForAlarm
  dsimp only
  split
  · exact room
  · exact (room.releaseHolds v).makeRoom _ v n

/-- A view's answer at a commit: the state as it was, one more refusal, or the room made. -/
theorem Quiet.letIn (h : Quiet s t) (i : Item) (v : Fin 52) (lw : Option GovNo) : Quiet s (t.letIn i v lw).1 := by
  have refused := h.refuse v 1
  have room := h.roomForAlarm v i.cells.length
  unfold State.letIn
  dsimp only
  (repeat' split) <;> assumption

theorem Quiet.admitAll (h : Quiet s t) (i : Item) (want : BitVec 51) (engine : Bool) (lw : BitVec 51) (g : Option GovNo) :
    Quiet s (t.admitAll i want engine lw g).1 := by
  unfold State.admitAll
  refine List.foldlRecOn (motive := fun (a : State × List Admission) => Quiet s a.1) _ _ h fun a ha v _ => ?_
  split
  · exact Quiet.letIn ha i v _
  · exact ha

theorem Quiet.noteBreach (h : Quiet s t) (p : PortNo) (i : Item) : Quiet s
    (if t.breaches p i then t.updTx p fun x => { x with breachers := x.breachers ++ [i.id] } else t) := by
  split
  · exact h.updTx p fun _ => ⟨rfl, rfl⟩
  · exact h

theorem Quiet.makeLink (h : Quiet s t) (i : Item) (a : Admission) : Quiet s (t.makeLink i a) := by
  refine (Quiet.steps ?_ (State.updView_steps a.view _ (Steps.refl _ _) rfl)).steps
    (State.shadow_steps a.view i (Steps.refl _ _) rfl)
  cases a.old with
  | none =>
    cases viewPort a.view with
    | none => exact h
    | some p => exact h.noteBreach p i
  | some o =>
    cases viewPort a.view with
    | none => exact h.unlink a.view o
    | some p => exact (h.unlink a.view o).noteBreach p i

theorem Quiet.dropAbandoned (h : Quiet s t) (p : PortNo) : Quiet s (t.dropAbandoned p) :=
  Quiet.foldl _ h fun _ i hu => (hu.refuse (portView p) 1).unlink (portView p) i.id

theorem Quiet.dropLate (h : Quiet s t) (l : List Admission) : Quiet s (t.dropLate l) :=
  Quiet.foldl l h fun u a hu => by
    cases viewPort a.view with
    | none => exact hu
    | some p => exact hu.dropAbandoned p

theorem Quiet.pumpPeer (h : Quiet s t) (n : Nat) : Quiet s (State.pumpPeer n t) := by
  induction n generalizing t with
  | zero => exact h
  | succ n ih =>
    unfold State.pumpPeer
    split
    · exact h
    · split
      · exact h
      · split
        · exact ih ((h.unlink viewPeer _).refuse viewPeer 1)
        · exact ih (h.steps (State.sendFrame_steps _ (State.take_steps viewPeer _ (Steps.refl _ t) rfl) rfl))

theorem Quiet.commit (h : Quiet s t) (id : Nat) (want : BitVec 51) (engine : Bool) (lw : BitVec 51) (g : Option GovNo)
    (given : Option Word) : Quiet s (t.commit id want engine lw g given).1 := by
  unfold State.commit
  cases t.item? id with
  | none => exact h
  | some i =>
    have admitted := h.admitAll i want engine lw g
    dsimp only
    split
    · exact admitted.steps (State.dropItem_steps id (Steps.refl _ _) rfl)
    · refine Quiet.pumpPeer (Quiet.dropLate (Quiet.steps ?_ (State.commitPair_steps _ (Steps.refl _ _) rfl)) _) _
      refine Quiet.foldl _ (Quiet.steps ?_ (State.putHeader_steps _ (State.updItem_steps id _ (Steps.refl _ _) rfl) rfl))
        fun _ a hu => hu.makeLink _ a
      split
      · exact admitted.steps (State.setPair_steps _ (Steps.refl _ _) rfl)
      · exact admitted

/-! #### Lamp alarms -/

theorem Quiet.commitAlarm (h : Quiet s t) (id : Nat) (mask : BitVec 51) : Quiet s (t.commitAlarm id mask) :=
  (h.steps (State.updItem_steps id _ (Steps.refl _ t) rfl)).commit id mask false 0 none none

theorem Quiet.poolEvict (h : Quiet s t) : Quiet s t.poolEvict := by
  unfold State.poolEvict
  split
  · exact h
  · split
    · exact h
    · refine Quiet.steps (Quiet.foldl _ h fun u v hu => ?_) (State.setSluice_steps _ (Steps.refl _ _) rfl)
      split
      · exact hu.evict v _
      · exact hu

theorem Quiet.queueAlarm (h : Quiet s t) (w : AlarmWait) : Quiet s (t.queueAlarm w) :=
  h.steps (State.queueAlarm_steps w (Steps.refl _ t) rfl)

theorem Quiet.placeAlarm (h : Quiet s t) (w : AlarmWait) : Quiet s (t.placeAlarm w) := by
  have evicted : Quiet s (if t.sluice.alarmWaits.isEmpty then t.poolEvict else t) := by
    split
    · exact h.poolEvict
    · exact h
  unfold State.placeAlarm
  dsimp only
  generalize (if t.sluice.alarmWaits.isEmpty then t.poolEvict else t) = u at evicted
  split
  · split
    · next id v made => exact Quiet.commitAlarm (evicted.steps (State.newItem_steps made (Steps.refl _ u) rfl)) id _
    · exact evicted.queueAlarm w
  · exact evicted.queueAlarm w

theorem Quiet.headNotice (h : Quiet s t) : Quiet s t.headNotice :=
  h.mapPorts fun q => by split <;> rfl

theorem Quiet.finishMove (h : Quiet s t) (m : LampMove) : Quiet s (t.finishMove m) := by
  have written : Quiet s (if m.writes then
      ((t.makeDevice (t.pvyslText m.after.row m.after.state m.after.report m.time)).updLamp m.lamp fun p =>
        if sameLamp p.row m.after.row then p.take m.after else p).headNotice else t) := by
    split
    · exact Quiet.headNotice (h.steps (State.updLamp_steps _ _ (State.makeDevice_steps _ (Steps.refl _ t) rfl) rfl))
    · exact h
  unfold State.finishMove
  dsimp only
  generalize (if m.writes then _ else t) = u at written
  refine Quiet.steps ?_ (State.lampRecord_steps _ _ _ _ (State.ring_steps _ (Steps.refl _ _) rfl) rfl)
  split
  · exact written.steps (State.sendLamp_steps _ (Steps.refl _ _) rfl)
  · exact written

theorem Quiet.afterAlarm (h : Quiet s t) (m : LampMove) : Quiet s (t.afterAlarm m) := by
  unfold State.afterAlarm
  split
  · exact h.finishMove m
  · exact h

theorem Quiet.updLamp (h : Quiet s t) (l : LampNo) (f : Lamp → Lamp) : Quiet s (t.updLamp l f) :=
  h.steps (State.updLamp_steps l f (Steps.refl _ t) rfl)

theorem Quiet.sendLamp (h : Quiet s t) (l : LampNo) : Quiet s (t.sendLamp l) :=
  h.steps (State.sendLamp_steps l (Steps.refl _ t) rfl)

theorem Quiet.changeLamp (h : Quiet s t) (l : LampNo) (f : Lamp → Lamp) (now : Stamp) (force : Bool) :
    Quiet s (t.changeLamp l f now force) := by
  unfold State.changeLamp
  dsimp only
  split
  · refine Quiet.afterAlarm ?_ _
    split
    · exact (h.updLamp l _).placeAlarm _
    · split
      · exact h.updLamp l _
      · exact (h.updLamp l _).queueAlarm _
  · split
    · exact (h.updLamp l _).headNotice.sendLamp l
    · exact (h.updLamp l _).headNotice

theorem Quiet.takeLampRow (h : Quiet s t) (l : LampNo) (row : Word) : Quiet s (t.takeLampRow l row) := by
  have ended : Quiet s (if lampUsed (t.lamp l).row then t.endAlarm l else t) := by
    split
    · unfold State.endAlarm
      split
      · exact h.changeLamp l _ _ false
      · exact h
    · exact h
  unfold State.takeLampRow
  dsimp only
  split
  · exact h.updLamp l _
  · generalize (if lampUsed (t.lamp l).row then t.endAlarm l else t) = u at ended
    have rung (v : State) (hv : Quiet s v) (c : Bool) : Quiet s (if c then v.ring bellLamp else v) := by
      split
      · exact hv.steps (State.ring_steps bellLamp (Steps.refl _ v) rfl)
      · exact hv
    split
    · exact Quiet.sendLamp (rung _ (ended.updLamp l _) _) l
    · exact rung _ (ended.updLamp l _) _

theorem Quiet.takeLampRows (h : Quiet s t) : Quiet s t.takeLampRows :=
  Quiet.foldl _ h fun u l hu => by
    dsimp only
    split
    · exact hu
    · exact hu.takeLampRow l _

/-! #### Hedge buses -/

theorem State.configChange_lastChange (s : State) (c : Chan) (code : Nat) :
    (s.configChange c code).settings.lastChange = s.now := by
  have recorded (u : State) (kind flags : Byte) (now : Stamp) (body : List Byte) :
      (u.record kind flags now body).settings.lastChange = u.settings.lastChange :=
    ((State.record_steps (ps := [.journal]) kind flags now body (Steps.refl _ u) rfl).same .changes).2.1
  have digested (u : State) : u.newDigest.settings.lastChange = u.settings.lastChange := by
    unfold State.newDigest
    split <;> rfl
  rw [State.configChange, recorded, digested]
  rfl

theorem Quiet.configChange (h : Quiet s t) (c : Chan) (code : Nat) : Quiet s (t.configChange c code) := by
  have noted : Steps [.journal, .changes] t (t.configChange c code) := State.configChange_steps c code (Steps.refl _ t) rfl
  have power : (t.configChange c code).power = t.power := noted.same .power
  exact ⟨h.line.steps noted, power.trans h.dated.power, fun _ =>
    (t.configChange_lastChange c code).trans (congrArg Power.elapsed power).symm⟩

theorem Quiet.retireHead (h : Quiet s t) (b : BusNo) (d : HeadNo) (x : Taken) : Quiet s (t.retireHead b d x) := by
  unfold State.retireHead
  dsimp only
  refine Quiet.steps (Quiet.configChange ?_ _ _) (State.reply_steps _ _ _ _ _ (Steps.refl _ _) rfl)
  have dropped := h.steps (u := ((t.updHead b d fun d => { d with state := hsRetired, attn := false }).updBus b fun v =>
    v.dropHead d).updBus b fun v => { v with setLamps := v.setLamps.filter fun c => decide (c.head ≠ d) })
    (State.updBus_steps b _ (State.updBus_steps b _ (State.updHead_steps b d _ (Steps.refl _ t) rfl) rfl) rfl)
  split
  · exact dropped
  · refine Quiet.foldl _ dropped fun u l hu => ?_
    split
    · exact hu.changeLamp l _ _ false
    · exact hu

theorem Quiet.endRetire (h : Quiet s t) (b : BusNo) : Quiet s (t.endRetire b) := by
  unfold State.endRetire
  split
  · exact Quiet.retireHead (h.steps (State.updBus_steps b _ (Steps.refl _ t) rfl)) b _ _
  · exact h

theorem Quiet.stopBus (h : Quiet s t) (b : BusNo) : Quiet s (t.stopBus b) :=
  Quiet.endRetire (h.steps (State.updBus_steps b _ (State.unattend_steps b (Steps.refl _ t) rfl) rfl)) b

theorem Quiet.beginJoin (h : Quiet s t) (b : BusNo) : Quiet s (t.beginJoin b) := by
  unfold State.beginJoin
  split
  · exact Quiet.endRetire (h.steps (State.updBus_steps b _ (State.unattend_steps b (Steps.refl _ t) rfl) rfl)) b
  · exact h.stopBus b

theorem Quiet.stopBuses (h : Quiet s t) : Quiet s t.stopBuses := Quiet.foldl _ h fun _ b hu => hu.stopBus b

theorem Quiet.joinBuses (h : Quiet s t) : Quiet s t.joinBuses :=
  Quiet.foldl _ h fun u b hu => by
    split
    · exact hu.beginJoin b
    · exact hu

theorem Quiet.hedgeRole (h : Quiet s t) : Quiet s t.hedgeRole :=
  Quiet.foldl _ h fun u b hu => by
    dsimp only
    split
    · exact hu.stopBus b
    · split
      · exact hu.beginJoin b
      · exact hu

/-! #### Groups and arming -/

theorem Quiet.interruptGroup (h : Quiet s t) (p : PortNo) : Quiet s (t.interruptGroup p) := by
  unfold State.interruptGroup
  split
  · exact h
  · refine Quiet.steps (h.updTx p ?_) (State.returnFront_steps p _ (Steps.refl _ _) rfl)
    exact fun _ => ⟨rfl, rfl⟩

theorem Quiet.yieldGroup (h : Quiet s t) (p : PortNo) : Quiet s (t.yieldGroup p) := by
  unfold State.yieldGroup
  dsimp only
  split
  · exact h
  · split
    · exact h
    · split
      · refine Quiet.interruptGroup (h.updTx p ?_) p
        exact fun _ => ⟨rfl, rfl⟩
      · split
        · exact h.updTx p fun _ => ⟨rfl, rfl⟩
        · exact h

theorem Quiet.yieldGroups (h : Quiet s t) : Quiet s t.yieldGroups := Quiet.foldl _ h fun _ p hu => hu.yieldGroup p

theorem Quiet.dropPartial (h : Quiet s t) (p : PortNo) : Quiet s (t.dropPartial p) :=
  Quiet.updPort (h.steps (State.freeCells_steps _ (Steps.refl _ t) rfl)) p fun _ => rfl

@[simp] theorem Port.join_line (q : Port) (due : Bool) : (q.join due).line = q.line := by
  unfold Port.join
  split <;> rfl

theorem Quiet.armRx (h : Quiet s t) (p : PortNo) : Quiet s (t.armRx p) :=
  (h.dropPartial p).updPort p fun q => by split <;> rfl

theorem Quiet.setJoins (h : Quiet s t) : Quiet s t.setJoins := h.mapPorts fun q => q.join_line _

end quiet

end Sys2Proof.Machine
end

section
/-!
PROOFS. Transitions complete: the lines DOZE cuts and the ports that park or return (03 R65, R66, R82, R86).
-/
set_option Elab.async false
namespace Sys2Proof.Machine

/-! ### Items on the lines are cut (03 R86) -/

theorem Port.of_line {q r : Port} (h : q.line = r.line) : q.rxRow = r.rxRow ∧ q.txRow = r.txRow ∧ q.parked = r.parked ∧
    q.tx.sending = r.tx.sending ∧ q.tx.terminator = r.tx.terminator := by
  simpa only [Port.line, Prod.mk.injEq] using h

section cut
variable {s t : State}

theorem Quiet.abandonGroup (h : Quiet s t) (p : PortNo) : Quiet s (t.abandonGroup p) := by
  unfold State.abandonGroup
  split
  · exact h
  · refine Quiet.dropAbandoned (Quiet.foldl _ (h.updTx p ?_) fun _ id hu => hu.release id) p
    exact fun _ => ⟨rfl, rfl⟩

theorem Quiet.returnFront (h : Quiet s t) (p : PortNo) (ls : List Link) : Quiet s (t.returnFront p ls) :=
  h.steps (State.returnFront_steps p ls (Steps.refl _ t) rfl)

/-- The line of a port is free. -/
def State.freeLine (s : State) (p : PortNo) : State := s.updTx p fun t => { t with sending := none, ctsWait := false }

/-- Past the line itself a cut only returns or releases items. -/
theorem State.cutSending_quiet {p : PortNo} {x : Sending} (hx : (s.port p).tx.sending = some x) (begun : Bool) :
    Quiet (s.freeLine p) (s.cutSending p begun) := by
  have free := Quiet.refl (s.freeLine p)
  unfold State.cutSending
  rw [hx]
  change Quiet (s.freeLine p) (match ((s.freeLine p).port p).tx.group with
    | some g =>
      if g.released && begun then ((s.freeLine p).abandonGroup p).letGo (portView p) x.item
      else ((s.freeLine p).updTx p fun t => { t with
          group := none, cut := t.cut ++ g.held.map (·.item) ++ if begun then [x.item] else [] }).returnFront p
        (g.held ++ (s.freeLine p).inFlightLink p x.item)
    | none =>
      let s := if begun then (s.freeLine p).updTx p fun t => { t with cut := t.cut ++ [x.item] } else s.freeLine p
      s.returnFront p (s.inFlightLink p x.item))
  split
  · split
    · exact (free.abandonGroup p).steps (State.letGo_steps _ _ (Steps.refl _ _) rfl)
    · refine Quiet.returnFront (free.updTx p ?_) p _
      exact fun _ => ⟨rfl, rfl⟩
  · refine Quiet.returnFront ?_ p _
    split
    · exact free.updTx p fun _ => ⟨rfl, rfl⟩
    · exact free

/-- A port's turn as every item on a line is cut. -/
def State.cutTurn (s : State) (p : PortNo) : State :=
  match (s.port p).tx.sending with
  | none => s
  | some _ => (s.cutSending p true).updTx p fun t => { t with terminator := true }

theorem State.cutAll_eq (s : State) : s.cutAll = s.eachPort State.cutTurn := rfl

theorem State.cutTurn_line_ne {p q : PortNo} (h : q ≠ p) : ((s.cutTurn p).port q).line = (s.port q).line := by
  unfold State.cutTurn
  split
  · rfl
  · next x hx =>
    rw [State.updTx, State.updPort_port_ne _ _ h, (State.cutSending_quiet hx true).line q, State.freeLine, State.updTx,
      State.updPort_port_ne _ _ h]

/-- What a port's own turn leaves on its line. -/
theorem State.cutTurn_own (p : PortNo) : ((s.cutTurn p).port p).tx.sending = none ∧
    ((s.port p).tx.sending ≠ none → ((s.cutTurn p).port p).tx.terminator = true) := by
  unfold State.cutTurn
  split
  · next free => exact ⟨free, fun busy => absurd free busy⟩
  · next x hx =>
    obtain ⟨-, -, -, sending, -⟩ := Port.of_line ((State.cutSending_quiet hx true).line p)
    rw [State.updTx, State.updPort_port_same]
    refine ⟨sending.trans ?_, fun _ => rfl⟩
    rw [State.freeLine, State.updTx, State.updPort_port_same]

theorem State.cutAll_port (s : State) (p : PortNo) : (s.cutAll.port p).tx.sending = none ∧
    ((s.port p).tx.sending ≠ none → (s.cutAll.port p).tx.terminator = true) := by
  obtain ⟨t, -, met, left⟩ := State.eachPort_key (f := State.cutTurn) (I := fun _ => True)
    (key := fun t p => (t.port p).line) (s := s) (fun _ _ _ => trivial) (fun t p q _ h => State.cutTurn_line_ne h) trivial p
  obtain ⟨-, -, -, sendingMet, -⟩ := Port.of_line met
  obtain ⟨-, -, -, sendingLeft, terminatorLeft⟩ := Port.of_line left
  obtain ⟨none, term⟩ := State.cutTurn_own (s := t) p
  rw [State.cutAll_eq, sendingLeft, terminatorLeft, ← sendingMet]
  exact ⟨none, term⟩

end cut

/-! ### DOZE comes into force -/

/-- A port's receive side as DOZE has it. -/
def Port.inDoze (q : Port) : Port :=
  { q with edge := none, falls := [], hold := .free, parking := false, keep := 0, armed := false }.setDozeRts

theorem Port.setDozeRts_line (q : Port) : q.setDozeRts.line = q.line := by
  unfold Port.setDozeRts
  split <;> rfl

theorem Port.inDoze_line (q : Port) : q.inDoze.line = q.line := Port.setDozeRts_line _

theorem State.pairBell_pair (s : State) : s.pairBell.pair = s.pair :=
  (State.pairBell_steps (ps := [.irq, .bells, .journal]) (Steps.refl _ s) rfl).same .pair

theorem State.dropRole_role (s : State) (r : Role) : (s.dropRole r).pair.role = r := by
  unfold State.dropRole
  dsimp only
  split
  · rw [State.pairBell_pair]
    rfl
  · rfl

/-- The device gives up its role, and remembers whether it drove its outputs. -/
def State.giveUpRole (s : State) (drives : Bool) : State :=
  (s.dropRole .none).setPair fun p => { p with dozeDrives := drives }

/-- The management bus and the journal pause. -/
def State.pauseRest (s : State) : State := s.mgmtPause.setJournal fun j => j.doze.close true

/-- The device as DOZE has it, the ports' receive sides apart. -/
def State.roleless (s : State) : State :=
  (s.cutAll.stopBuses.giveUpRole (decide (s.pair.role = .lone) || decide (s.pair.role = .duty))).pauseRest

theorem State.pauseRest_steps (s : State) : Steps [.irq, .bells, .mgmt, .journal] s s.pauseRest :=
  State.setJournal_steps _ (State.mgmtPause_steps (Steps.refl _ s) rfl) rfl

theorem State.giveUpRole_steps (s : State) (drives : Bool) :
    Steps [.irq, .bells, .sluice, .pair, .journal] s (s.giveUpRole drives) :=
  State.setPair_steps _ (State.dropRole_steps .none (Steps.refl _ s) rfl) rfl

theorem State.enterDoze_eq (s : State) : s.enterDoze = s.roleless.mapPorts Port.inDoze := rfl

theorem State.roleless_quiet (s : State) : Quiet s.cutAll s.roleless :=
  ((Quiet.stopBuses (Quiet.refl s.cutAll)).steps ((State.giveUpRole_steps _ _).widen rfl)).steps
    ((State.pauseRest_steps _).widen rfl)

theorem State.roleless_role (s : State) : s.roleless.pair.role = .none := by
  have paused (t : State) : t.pauseRest.pair = t.pair := t.pauseRest_steps.same .pair
  have given (t : State) (drives : Bool) : (t.giveUpRole drives).pair.role = .none := t.dropRole_role .none
  rw [State.roleless, paused, given]

/-- In DOZE the device has no role, and no item is on a line. -/
theorem State.enterDoze_silent (s : State) :
    s.enterDoze.pair.role = .none ∧ ∀ p, (s.enterDoze.port p).tx.sending = none := by
  rw [State.enterDoze_eq]
  refine ⟨by rw [State.mapPorts_pair, s.roleless_role], fun p => ?_⟩
  have dozed : SameOn Port.line s.cutAll (s.roleless.mapPorts Port.inDoze) :=
    s.roleless_quiet.line.mapPorts Port.inDoze_line
  obtain ⟨-, -, -, sending, -⟩ := Port.of_line (dozed p)
  exact sending.trans (s.cutAll_port p).1

/-! ### Parking (03 R82, R92, R93) -/

/-- Every port but `p` keeps its line, `p` stays parked or not, and a configuration change is of this instant. -/
structure Apart (p : PortNo) (s t : State) : Prop where
  others : ∀ q, q ≠ p → (t.port q).line = (s.port q).line
  own : (t.port p).parked = (s.port p).parked
  dated : Dated s t

section apart
variable {p : PortNo} {s t u : State}

theorem Quiet.apart (h : Quiet s t) : Apart p s t where
  others q _ := h.line q
  own := by
    obtain ⟨-, -, parked, -, -⟩ := Port.of_line (h.line p)
    exact parked
  dated := h.dated

theorem Apart.trans (h : Apart p s t) (k : Apart p t u) : Apart p s u where
  others q hq := (k.others q hq).trans (h.others q hq)
  own := k.own.trans h.own
  dated := h.dated.trans k.dated

theorem State.updPort_apart {f : Port → Port} (hf : (f (s.port p)).parked = (s.port p).parked) :
    Apart p s (s.updPort p f) where
  others q hq := by rw [State.updPort_port_ne _ _ hq]
  own := by rw [State.updPort_port_same, hf]
  dated := (Dated.refl s).steps (State.updPort_steps (ps := [.ports, .tx]) p f (Steps.refl _ s) rfl)

/-- A port has a receive row. -/
def Port.withRow (row : BitVec 128) (q : Port) : Port :=
  let seen := if rowFlag row 10 = rowFlag q.rxRow 10 then q.amp.seen else 0
  let q : Port := { q with rxRow := row, rxAdopt := false, amp := { q.amp with seen := seen } }
  { q with stuck := q.stuck && q.isTalker, rateNow := if q.rx.autobaud then q.rateNow else q.rx.rate }

/-- A port begins to receive by its row, or stops. -/
def Port.hear (runs hunts : Bool) (q : Port) : Port :=
  if runs && q.hears && !q.rxRetired && !q.parked then
    { q with armed := true, hunting := hunts, frameRun := 0 }.setRts
  else { q.disarm with hunting := hunts }

/-- A port takes a receive row. -/
def Port.takeRow (row : BitVec 128) (runs : Bool) (q : Port) : Port :=
  (q.withRow row).hear runs (q.withRow row).rx.autobaud

theorem Port.takeRow_parked (row : BitVec 128) (runs : Bool) (q : Port) : (q.takeRow row runs).parked = q.parked := by
  unfold Port.takeRow Port.hear
  split <;> rfl

theorem State.takeRxRow_eq (s : State) (p : PortNo) : s.takeRxRow p =
    (if ((s.updPort p (Port.takeRow (s.portRow p) s.roadRuns)).port p).armed then
      s.updPort p (Port.takeRow (s.portRow p) s.roadRuns)
    else (s.updPort p (Port.takeRow (s.portRow p) s.roadRuns)).dropPartial p).hedgeRole.headNotice := rfl

theorem State.takeRxRow_apart (s : State) (p : PortNo) : Apart p s (s.takeRxRow p) := by
  rw [State.takeRxRow_eq]
  refine (State.updPort_apart (f := Port.takeRow (s.portRow p) s.roadRuns) (Port.takeRow_parked _ _ _)).trans
    (Quiet.apart (Quiet.headNotice (Quiet.hedgeRole ?_)))
  split
  · exact Quiet.refl _
  · exact (Quiet.refl _).dropPartial p

/-- Parking takes hold at a boundary of the receive side. -/
def State.disarmParking (s : State) (p : PortNo) : State :=
  if (s.port p).parking && decide ((s.port p).keep = 0) then s.updPort p Port.disarm else s

theorem State.disarmParking_apart (s : State) (p : PortNo) : Apart p s (s.disarmParking p) := by
  unfold State.disarmParking
  split
  · exact State.updPort_apart rfl
  · exact (Quiet.refl s).apart

/-- A retirement that waits for the boundary takes hold. -/
def State.retireHere (s : State) (p : PortNo) (retires : Bool) : State :=
  if retires && !(s.port p).rxRetired then s.updPort p fun q => { q.disarm with rxRetired := true } else s

theorem State.retireHere_apart (s : State) (p : PortNo) (retires : Bool) : Apart p s (s.retireHere p retires) := by
  unfold State.retireHere
  split
  · exact State.updPort_apart rfl
  · exact (Quiet.refl s).apart

/-- A receive row that waits for the boundary is taken. -/
def State.adoptHere (s : State) (p : PortNo) : State :=
  let q := s.port p
  if s.rowsInForce && (q.rxAdopt || decide (rowFields q.rxRow ≠ rowFields (s.portRow p))) && q.edge.isNone &&
      (q.fifo.isEmpty || s.modes.draining) then s.takeRxRow p
  else s

theorem State.adoptHere_apart (s : State) (p : PortNo) : Apart p s (s.adoptHere p) := by
  unfold State.adoptHere
  dsimp only
  split
  · exact s.takeRxRow_apart p
  · exact (Quiet.refl s).apart

theorem State.rxBoundary_eq (s : State) (p : PortNo) : ∃ retires, s.rxBoundary p =
    if !(s.port p).asm.idle then s else ((s.disarmParking p).retireHere p retires).adoptHere p := ⟨_, rfl⟩

theorem State.rxBoundary_apart (s : State) (p : PortNo) : Apart p s (s.rxBoundary p) := by
  obtain ⟨retires, boundary⟩ := s.rxBoundary_eq p
  rw [boundary]
  split
  · exact (Quiet.refl s).apart
  · exact ((s.disarmParking_apart p).trans (State.retireHere_apart _ p retires)).trans (State.adoptHere_apart _ p)

/-- The port is marked as parked. -/
def State.markParked (s : State) (p : PortNo) : State :=
  s.updPort p fun q => { q with parked := true, parking := true }

theorem State.park_apart (s : State) (p : PortNo) : Apart p (s.markParked p) (s.park p) :=
  have shown := (Quiet.refl (s.markParked p)).steps (State.updView_steps (portView p) _ (Steps.refl _ _) rfl)
  (shown.yieldGroup p).apart.trans (State.rxBoundary_apart _ p)

theorem State.park_parked (s : State) (p : PortNo) : ((s.park p).port p).parked = true := by
  rw [(s.park_apart p).own, State.markParked, State.updPort_port_same]

theorem State.park_line_ne {q : PortNo} (h : q ≠ p) : ((s.park p).port q).line = (s.port q).line := by
  rw [(s.park_apart p).others q h, State.markParked, State.updPort_port_ne _ _ h]

/-- The port is marked as not parked. -/
def State.markUnparked (s : State) (p : PortNo) : State :=
  s.updPort p fun q => { q with parked := false, parking := false, keep := 0 }

theorem State.unpark_quiet (s : State) (p : PortNo) : Quiet (s.markUnparked p) (s.unpark p) := by
  have shown := (Quiet.refl (s.markUnparked p)).steps
    (State.updView_steps (portView p) (fun v => { v with parked := false }) (Steps.refl _ _) rfl)
  unfold State.unpark
  dsimp only
  split
  · exact shown
  · exact shown.armRx p

theorem State.unpark_parked (s : State) (p : PortNo) : ((s.unpark p).port p).parked = false := by
  rw [((s.unpark_quiet p).apart (p := p)).own, State.markUnparked, State.updPort_port_same]

theorem State.unpark_line_ne {q : PortNo} (h : q ≠ p) : ((s.unpark p).port q).line = (s.port q).line := by
  rw [(s.unpark_quiet p).line q, State.markUnparked, State.updPort_port_ne _ _ h]

theorem State.unparkIfParked_own (s : State) (p : PortNo) : ((s.unparkIfParked p).port p).parked = false := by
  unfold State.unparkIfParked
  split
  · exact s.unpark_parked p
  · next off => exact Bool.eq_false_iff.2 off

theorem State.unparkIfParked_line_ne {q : PortNo} (h : q ≠ p) :
    ((s.unparkIfParked p).port q).line = (s.port q).line := by
  unfold State.unparkIfParked
  split
  · exact State.unpark_line_ne h
  · rfl

theorem State.parkByVigil_own (s : State) (p : PortNo) : ((s.parkByVigil p).port p).parked = s.parks p := by
  unfold State.parkByVigil
  split
  · next parks =>
    rw [parks]
    split
    · assumption
    · exact s.park_parked p
  · next stays =>
    rw [Bool.eq_false_iff.2 stays]
    exact s.unparkIfParked_own p

theorem State.parkByVigil_line_ne {q : PortNo} (h : q ≠ p) : ((s.parkByVigil p).port q).line = (s.port q).line := by
  unfold State.parkByVigil
  split
  · split
    · rfl
    · exact State.park_line_ne h
  · exact State.unparkIfParked_line_ne h

theorem State.parks_congr (row : (t.port p).rxRow = (s.port p).rxRow)
    (named : t.settings.designated = s.settings.designated) : t.parks p = s.parks p := by
  unfold State.parks Port.rx
  dsimp only
  rw [row, named]

theorem State.eachPort_unparkIfParked (s : State) (p : PortNo) :
    ((s.eachPort State.unparkIfParked).port p).parked = false := by
  obtain ⟨t, -, -, left⟩ := State.eachPort_key (f := State.unparkIfParked) (I := fun _ => True)
    (key := fun t p => (t.port p).line) (s := s) (fun _ _ _ => trivial) (fun _ _ _ _ h => State.unparkIfParked_line_ne h)
    trivial p
  obtain ⟨-, -, parked, -, -⟩ := Port.of_line left
  exact parked.trans (t.unparkIfParked_own p)

theorem State.parkByVigil_designated (s : State) (p : PortNo) :
    (s.parkByVigil p).settings.designated = s.settings.designated := by
  have kept : Steps [.mem, .pool, .draws, .irq, .bells, .replies, .changes, .ports, .tx, .sluice, .lamps, .buses, .heads,
      .pair, .journal, .tag, .inject] s (s.parkByVigil p) :=
    Steps.ite (Steps.ite (Steps.refl _ s) (State.park_steps p (Steps.refl _ s) rfl))
      (Steps.ite (State.unpark_steps p (Steps.refl _ s) rfl) (Steps.refl _ s))
  exact Settings.designated_of_bare (kept.same .settings)

theorem State.eachPort_parkByVigil (s : State) (p : PortNo) :
    ((s.eachPort State.parkByVigil).port p).parked = s.parks p := by
  obtain ⟨t, named, met, left⟩ := State.eachPort_key (f := State.parkByVigil)
    (I := fun t => t.settings.designated = s.settings.designated) (key := fun t p => (t.port p).line) (s := s)
    (fun t p named => (t.parkByVigil_designated p).trans named) (fun _ _ _ _ h => State.parkByVigil_line_ne h) rfl p
  obtain ⟨row, -, -, -, -⟩ := Port.of_line met
  obtain ⟨-, -, parked, -, -⟩ := Port.of_line left
  rw [parked, t.parkByVigil_own p, State.parks_congr row named]

end apart

/-! ### The receive rows as a mode comes into force -/

section rows
variable {s t : State}

theorem Quiet.rxRow (h : Quiet s t) : SameOn Port.rxRow s t := fun p => by
  obtain ⟨row, -, -, -, -⟩ := Port.of_line (h.line p)
  exact row

theorem SameOn.foldl {κ α : Type} {key : Port → κ} {f : State → α → State} (l : List α) (h : SameOn key s t)
    (hf : ∀ u x, SameOn key s u → SameOn key s (f u x)) : SameOn key s (l.foldl f t) := by
  induction l generalizing t with
  | nil => exact h
  | cons x xs ih => exact ih (hf t x h)

/-- Work that the mode does not allow is undone. -/
def State.undoWork (s : State) (work : Work) : State :=
  match work with
  | .portRetire p rx tx =>
    let s := s.updPort p fun q => { q with rxRetired := q.rxRetired && !rx, txRetired := q.txRetired && !tx }
    if tx then s.updView (portView p) fun v => { v with retired := false } else s
  | .headReturn b h before => s.updHead b h fun d => { d with state := before }
  | .handover => s.setPair fun p => { p with handover := .none }
  | .format => s.setJournal fun j => { j with state := 3 }
  | .publish => s.undoPublish
  | .sweep _ _ => s

theorem State.undoWork_rxRow (s : State) (work : Work) : SameOn Port.rxRow s (s.undoWork work) := by
  have stand := SameOn.refl Port.rxRow s
  cases work with
  | portRetire p rx tx =>
    have undone := stand.updPort p (f := fun q =>
      { q with rxRetired := q.rxRetired && !rx, txRetired := q.txRetired && !tx }) fun _ => rfl
    unfold State.undoWork
    dsimp only
    split
    · exact undone.steps (State.updView_steps (ps := [.sluice]) _ _ (Steps.refl _ _) rfl)
    · exact undone
  | headReturn b h before => exact stand.steps (State.updHead_steps (ps := [.heads]) b h _ (Steps.refl _ s) rfl)
  | handover => exact stand.steps (State.setPair_steps (ps := [.pair]) _ (Steps.refl _ s) rfl)
  | format => exact stand.steps (State.setJournal_steps (ps := [.journal]) _ (Steps.refl _ s) rfl)
  | publish => exact stand.steps (State.undoPublish_steps (ps := [.tag]) (Steps.refl _ s) rfl)
  | sweep _ _ => exact stand

theorem State.abortWork_rxRow (s : State) (m : Mode) : SameOn Port.rxRow s (s.abortWork m) := by
  refine SameOn.foldl _ (SameOn.refl _ s) fun u a hu => ?_
  split
  · exact hu
  · exact (hu.trans (u.undoWork_rxRow a.work)).steps
      (State.complete_steps (ps := [.replies, .work]) a 0x00FF [] (Steps.refl _ _) rfl)

theorem State.endLoop_rxRow (s : State) (p : PortNo) : SameOn Port.rxRow s (s.endLoop p) := by
  unfold State.endLoop
  split
  · exact SameOn.refl _ s
  · have off := (SameOn.refl Port.rxRow s).updPort p (f := fun q => { q with loop := .off }) fun _ => rfl
    refine SameOn.updPort (SameOn.trans off ?_) p fun _ => rfl
    split
    · exact (SameOn.refl _ _).updPort p fun _ => rfl
    · exact ((Quiet.refl _).armRx p).rxRow

theorem Port.rxRow_of_bare {q r : Port} (h : q.bare = r.bare) : q.rxRow = r.rxRow := (congrArg Port.rxRow h :)

theorem State.clearSlots_rxRow (s : State) : SameOn Port.rxRow s s.clearSlots := fun p =>
  Port.rxRow_of_bare ((State.clearSlots_steps (ps := [.mem, .pool, .tx, .sluice, .pair, .inject]) (Steps.refl _ s)
    rfl).same .ports rfl p)

theorem State.leaveProbe_rxRow (s : State) : SameOn Port.rxRow s s.leaveProbe := by
  have ended : SameOn Port.rxRow s (s.eachPort State.endLoop) :=
    SameOn.foldl _ (SameOn.refl _ s) fun u p hu => hu.trans (u.endLoop_rxRow p)
  unfold State.leaveProbe
  dsimp only
  split
  · exact ended
  · exact ended.trans (State.clearSlots_rxRow _)

theorem State.endWork_rxRow (s : State) (m : Mode) : SameOn Port.rxRow s (s.endWork m) := by
  have worked : SameOn Port.rxRow s (if m = .hold then s.inForce m else (s.inForce m).abortWork m) := by
    have force : SameOn Port.rxRow s (s.inForce m) :=
      (SameOn.refl _ s).steps (State.setModes_steps (ps := [.modes]) _ (Steps.refl _ s) rfl)
    split
    · exact force
    · exact force.trans ((s.inForce m).abortWork_rxRow m)
  unfold State.endWork
  dsimp only
  split
  · exact worked.trans (State.leaveProbe_rxRow _)
  · exact worked

theorem Port.afterDoze_rxRow (q : Port) (vigil parks : Bool) : (q.afterDoze vigil parks).rxRow = q.rxRow := by
  unfold Port.afterDoze
  dsimp only
  split <;> rfl

/-- Each port of a vector that is made port by port. -/
theorem get_map_finRange (f : PortNo → Port) (p : PortNo) : ((Vector.finRange 48).map f).get p = f p := by
  show ((Vector.finRange 48).map f)[p.val] = f p
  rw [Vector.getElem_map, Vector.finRange, Vector.getElem_ofFn]

theorem State.portsAfterDoze_rxRow (s : State) : SameOn Port.rxRow s s.portsAfterDoze := fun p => by
  have ports : s.portsAfterDoze.ports =
      (Vector.finRange 48).map fun p => (s.port p).afterDoze (decide (s.mode = .vigil)) (s.parks p) := by
    unfold State.portsAfterDoze
    dsimp only
    split <;> rfl
  rw [State.port, ports, get_map_finRange, Port.afterDoze_rxRow]

theorem State.roadAfterDoze_rxRow (s : State) : SameOn Port.rxRow s s.roadAfterDoze := by
  have driven : SameOn Port.rxRow s s.startLamps.driveAll :=
    ((SameOn.refl _ s).steps (State.startLamps_steps (ps := [.irq, .bells, .sluice, .lamps]) (Steps.refl _ s) rfl)).mapPorts
      fun _ => rfl
  have joined : SameOn Port.rxRow s s.startLamps.driveAll.headsConfigured.joinBuses :=
    (driven.steps (State.headsConfigured_steps (ps := [.buses, .heads]) (Steps.refl _ _) rfl)).trans
      (Quiet.refl _).joinBuses.rxRow
  refine SameOn.steps (SameOn.mapPorts joined ?_) (State.mgmtStart_steps (ps := [.mgmt]) (Steps.refl _ _) rfl)
  intro q
  split <;> rfl

theorem State.tellWake_rxRow (s : State) : SameOn Port.rxRow s s.tellWake := by
  unfold State.tellWake
  split
  · exact (SameOn.refl _ s).steps (State.setModes_steps (ps := [.modes, .irq, .bells]) _
      (State.ring_steps bellWake (Steps.refl _ s) rfl) rfl)
  · exact SameOn.refl _ s

theorem State.leaveDoze_rxRow (s : State) : SameOn Port.rxRow s s.leaveDoze := by
  have taken : SameOn Port.rxRow s s.takeRole.takeLampRows :=
    (Quiet.takeLampRows ((Quiet.refl s).steps (State.takeRole_steps (Steps.refl _ s) rfl))).rxRow
  rw [s.leaveDoze_eq]
  exact (((taken.trans (State.portsAfterDoze_rxRow _)).trans (State.roadAfterDoze_rxRow _)).trans
    (State.tellWake_rxRow _)).steps (State.tellDozeEvents_steps (ps := [.mem, .pool, .draws, .irq, .bells, .sluice,
      .journal, .dozeEvents]) (Steps.refl _ _) rfl)

/-- VIGIL finds the rows as they were, and the same ports park. -/
theorem State.parks_before_vigil (s : State) (p : PortNo) :
    ((s.endWork .vigil).wakeOrDoze s.mode .vigil).parks p = s.parks p := by
  have ended : Steps [.mem, .pool, .draws, .modes, .irq, .bells, .replies, .work, .changes, .ports, .tx, .sluice, .lamps,
      .buses, .heads, .pair, .journal, .tag, .mgmt, .inject, .dozeEvents] s (s.endWork .vigil) :=
    Steps.step (State.setModes_steps _ (Steps.refl _ s) rfl) (s.endWork_steps .vigil) rfl
  have kept : Steps [.mem, .pool, .draws, .modes, .irq, .bells, .replies, .work, .changes, .ports, .tx, .sluice, .lamps,
      .buses, .heads, .pair, .journal, .tag, .mgmt, .inject, .dozeEvents] s
      ((s.endWork .vigil).wakeOrDoze s.mode .vigil) :=
    Steps.ite (State.leaveDoze_steps ended rfl) ended
  refine State.parks_congr ((s.endWork_rxRow .vigil).trans ?_ p) (Settings.designated_of_bare (kept.same .settings))
  show SameOn Port.rxRow (s.endWork .vigil) (if _ then _ else _)
  split
  · exact State.leaveDoze_rxRow _
  · exact SameOn.refl _ _

end rows

/-! ### A transition completes (03 R65, R66, R82, R86) -/

section arrive
variable (s : State) (m : Mode)

/-- Once the ports have parked or returned, the lines stand. -/
theorem State.arrive_line : SameOn Port.line (((s.endWork m).wakeOrDoze s.mode m).parkAll m) (s.arrive m) := by
  have muted (t : State) : SameOn Port.line t (t.closeMute s.mode m) := by
    unfold State.closeMute
    split
    · exact (SameOn.refl _ t).mapPorts fun _ => rfl
    · exact SameOn.refl _ t
  have joined : SameOn Port.line _ (s.arriving m) := (muted _).trans (Quiet.refl _).setJoins.yieldGroups.line
  rw [State.arrive_eq]
  exact joined.steps (State.modesDone_steps (ps := [.modes, .irq]) (Steps.refl _ _) rfl)

/-- What a mode in force leaves once the ports have parked or returned. -/
theorem State.arrive_steps_of_parked : Steps [.modes, .irq, .ports, .tx, .sluice]
    (((s.endWork m).wakeOrDoze s.mode m).parkAll m) (s.arrive m) :=
  State.modesDone_steps (State.yieldGroups_steps (State.setJoins_steps ((State.closeMute_steps _ s.mode m).widen rfl) rfl)
    rfl) rfl

theorem State.arrive_irqBit {w : Window} (hw : w ∈ s.modes.owed) : (s.arrive m).irqBit w 6 = true := by
  obtain ⟨woke, modes⟩ := s.arriving_modes m
  rw [State.arrive_eq]
  refine State.modesDone_irqBit ?_
  rw [modes]
  exact hw

end arrive

section arrived
variable (s : State)

theorem State.arrive_doze : (s.arrive .doze).pair.role = .none ∧ ∀ p, ((s.arrive .doze).port p).tx.sending = none := by
  have dozed : ((s.endWork .doze).wakeOrDoze s.mode .doze).parkAll .doze = (s.endWork .doze).enterDoze := by
    simp [State.parkAll, State.wakeOrDoze, Mode.working]
  have line := s.arrive_line .doze
  have steps := s.arrive_steps_of_parked .doze
  rw [dozed] at line steps
  obtain ⟨role, silent⟩ := (s.endWork .doze).enterDoze_silent
  refine ⟨(congrArg Pair.role (steps.same .pair)).trans role, fun p => ?_⟩
  obtain ⟨-, -, -, sending, -⟩ := Port.of_line (line p)
  exact sending.trans (silent p)

theorem State.arrive_unparked {m : Mode} (hm : m = .run ∨ m = .trim) (p : PortNo) :
    ((s.arrive m).port p).parked = false := by
  have parkAll : ((s.endWork m).wakeOrDoze s.mode m).parkAll m =
      ((s.endWork m).wakeOrDoze s.mode m).eachPort State.unparkIfParked := by
    rcases hm with rfl | rfl <;> rfl
  obtain ⟨-, -, parked, -, -⟩ := Port.of_line (s.arrive_line m p)
  rw [parked, parkAll, State.eachPort_unparkIfParked]

theorem State.arrive_vigil (p : PortNo) : ((s.arrive .vigil).port p).parked = s.parks p := by
  obtain ⟨-, -, parked, -, -⟩ := Port.of_line (s.arrive_line .vigil p)
  rw [parked, State.parkAll, if_pos rfl, State.eachPort_parkByVigil, s.parks_before_vigil p]

end arrived

/-- In DOZE PL_DUTY_IN gives no role. -/
theorem State.seeDuty_role_of_doze {s : State} (d : Bool) (hb : s.modes.busy = false) (hm : s.modes.mode = .doze) :
    (s.seeDuty d).pair.role = s.pair.role := by
  have off : s.engineWorks = false := by
    simp [State.engineWorks, State.roadRuns, State.roadMode, State.entering, State.mode, hb, hm, Mode.working]
  simp [State.seeDuty, off]

/-- The device after a transition: what the command brings of PL_DUTY_IN, and a bell for the pair state (log entry 160). -/
def State.completed (s : State) (d : Bool) : State :=
  ((s.arrive s.modes.target).seeDuty d).noted (s.arrive s.modes.target).pair

section completed
variable {s : State} (d : Bool)

theorem exec_modeTransitionComplete (ha : s.alive = true) (hb : s.modes.busy = true) (ht : s.modes.target ≠ .prove) :
    exec (.modeTransitionComplete d) s = .next (s.completed d) := by
  show execModeTransitionComplete d s = _
  simp only [execModeTransitionComplete, ha, hb, ht, ne_eq, not_false_eq_true, decide_true, Bool.and_self, if_true]
  rfl

theorem State.completed_steps (s : State) (d : Bool) :
    Steps [.irq, .bells, .pair, .journal] (s.arrive s.modes.target) (s.completed d) :=
  State.noted_steps _ (State.seeDuty_steps d (Steps.refl _ _) rfl) rfl

theorem State.completed_pair (s : State) (d : Bool) :
    (s.completed d).pair = ((s.arrive s.modes.target).seeDuty d).pair :=
  (State.noted_steps (ps := [.irq, .bells, .journal]) _ (Steps.refl _ _) rfl).same .pair

theorem State.completed_port (s : State) (d : Bool) (p : PortNo) :
    (s.completed d).port p = (s.arrive s.modes.target).port p :=
  (s.completed_steps d).port_eq p

theorem State.completed_doze (doze : s.modes.target = .doze) :
    (s.completed d).pair.role = .none ∧ ∀ p, ((s.completed d).port p).tx.sending = none := by
  obtain ⟨role, silent⟩ := s.arrive_doze
  obtain ⟨woke, arrived⟩ := s.arrive_modes .doze
  refine ⟨?_, fun p => ?_⟩
  · rw [s.completed_pair d, doze,
      State.seeDuty_role_of_doze d (congrArg ModeRegs.busy arrived) (congrArg ModeRegs.mode arrived), role]
  · rw [s.completed_port d p, doze, silent p]

end completed

theorem exec_dozeDrainTimeout {s : State} (hd : s.modes.draining = true) : exec .dozeDrainTimeout s = .next s.cutAll := by
  show execDozeDrainTimeout s = _
  rw [execDozeDrainTimeout, if_pos hd]

/-- Settles O36: the mode register by `arrive_modes`, the ports by the walk that parks them or cuts their lines. -/
theorem transitionsComplete : Obligations.TransitionsComplete := by
  refine ⟨fun s d ha hb ht => ?_, fun s hd => ?_⟩
  · have h := exec_modeTransitionComplete d ha hb ht
    obtain ⟨woke, arrived⟩ := s.arrive_modes s.modes.target
    have modes := ((s.completed_steps d).same .modes).trans arrived
    refine ⟨s.completed d, h, congrArg ModeRegs.mode modes, congrArg ModeRegs.busy modes, congrArg ModeRegs.owed modes,
      congrArg ModeRegs.draining modes, congrArg ModeRegs.cause modes,
      fun w hw => (s.completed_steps d).irqBit (s.arrive_irqBit s.modes.target hw), fun doze => ?_, fun back p => ?_,
      fun vigil p => ?_, congrArg Pair.dutyIn (s.completed_pair d), only_parts_of_exec h⟩
    · exact s.completed_doze d doze
    · rw [s.completed_port d p, s.arrive_unparked back p]
    · rw [s.completed_port d p, vigil, s.arrive_vigil p]
  · have h := exec_dozeDrainTimeout hd
    exact ⟨_, h, s.cutAll_port, only_parts_of_exec h⟩

end Sys2Proof.Machine
end

section
/-!
PROOFS. Transitions start: the record a request owes and its effects (03 R65, R70, R73, R76, R86).
-/
set_option Elab.async false
namespace Sys2Proof.Machine

/-! ### The effects of a request on what the host reads of a change (03 R70, R71, 08 R230) -/

section dated
variable {s t u : State}

theorem Dated.noteChange (h : Dated s t) : Dated s (t.noteChange t.now) := h.trans ⟨rfl, fun _ => rfl⟩

theorem Dated.foldl {α : Type} {f : State → α → State} (l : List α) (h : Dated s t)
    (hf : ∀ u x, Dated s u → Dated s (f u x)) : Dated s (l.foldl f t) := by
  induction l generalizing t with
  | nil => exact h
  | cons x xs ih => exact ih (hf t x h)

theorem Dated.readRegionB (h : Dated s t) : Dated s t.readRegionB := by
  have read (f : Tag → Tag) : Dated s (t.setTag f) := h.steps (State.setTag_steps (ps := [.tag]) f (Steps.refl _ t) rfl)
  unfold State.readRegionB
  split
  · exact h
  · dsimp only
    split
    · exact (read _).noteChange.steps (State.record_steps (ps := [.journal]) _ _ _ _ (Steps.refl _ _) rfl)
    · exact read _

end dated

/-! ### HOLD (03 R73-R75) -/

section hold
variable (s : State)

/-- What of a port's receive side HOLD turns off. -/
def Port.live (q : Port) : Bool × Bool × List Entry := (q.armed, q.driver, q.fifo)

theorem Port.live_of_bare {q r : Port} (h : q.bare = r.bare) : q.live = r.live := (congrArg Port.live h :)

theorem State.closePorts_live (p : PortNo) : (s.closePorts.port p).live = (false, false, []) := by
  have closed (q : Port) : ((q.disarm.drive false).join false).live = (false, false, []) := by
    unfold Port.join
    split <;> rfl
  rw [State.closePorts, State.mapPorts_port, closed]

/-- The Sluice is empty and the ports are at rest. -/
def State.closeRoad : State := s.emptySluice.closePorts

theorem State.holdRoad_eq : s.holdRoad = s.closeRoad.stopBuses.dropRole .lone := rfl

theorem State.closeRoad_steps : Steps [.mem, .pool, .ports, .tx, .sluice] s s.closeRoad :=
  State.closePorts_steps (State.emptySluice_steps (Steps.refl _ s) rfl) rfl

theorem State.closeRoad_noRetire {s : State} (h : s.NoRetire) : s.closeRoad.NoRetire := fun b =>
  (congrArg (fun v => (v.get b).retire) (s.closeRoad_steps.same .buses)).trans (h b)

/-- Where no HEAD-RETIRE waits, the road's rest changes no port and no configuration. -/
theorem State.holdRoad_rest {s : State} (h : s.NoRetire) :
    Steps [.irq, .bells, .sluice, .pair, .journal, .buses, .heads] s.closeRoad s.holdRoad := by
  rw [State.holdRoad_eq]
  exact State.dropRole_steps .lone ((State.stopBuses_steps_of_noRetire (State.closeRoad_noRetire h)).widen rfl) rfl

/-- With the engine stopped the loss of the role is not recorded. -/
theorem State.dropRole_journal {s : State} (r : Role) (h : s.engine.up = false) : (s.dropRole r).journal = s.journal := by
  have bell (t : State) (ht : t.engine.up = false) : t.pairBell.journal = t.journal := by
    have rung : Steps [.irq, .bells] t (t.ring bellPair) := State.ring_steps bellPair (Steps.refl _ t) rfl
    have down : (t.ring bellPair).engine.up = false := (congrArg Engine.up (rung.same .engine) :).trans ht
    rw [State.pairBell, State.pairRecord, State.record, down]
    exact rung.same .journal
  unfold State.dropRole
  dsimp only
  split
  · exact bell _ h
  · rfl

/-- What HOLD leaves of the rest of the device. -/
def State.held (s : State) : State :=
  ((s.holdRest.setModes fun m => { m with draining := false, wokeBell := false }).setCounting false).setDozeEvents []

theorem State.holdEffects_eq_held : s.holdEffects = s.holdEngine.holdRoad.held := rfl

theorem State.held_journal : s.held.journal.owed = s.journal.owed ∧ s.held.journal.mounted = false := ⟨rfl, rfl⟩

theorem State.held_engine : s.held.engine.bare = s.engine.bare := s.holdRest_steps.same .engine

theorem State.held_live (p : PortNo) : (s.held.port p).live = (s.port p).live := by
  show (s.holdRest.port p).live = _
  simp [State.holdRest, State.clearCounters, Port.live, State.port]

/-- Up to there HOLD changes no configuration. -/
theorem State.holdEngine_holdRoad_steps : Steps [.draws, .irq, .bells, .hush, .replies, .drops, .chanN, .chanK, .engine,
    .work, .sieve, .buses, .tag, .mem, .pool, .ports, .tx, .sluice, .pair, .journal, .heads] s s.holdEngine.holdRoad :=
  Steps.step (Steps.step (s.holdEngine_steps.widen rfl) s.holdEngine.closeRoad_steps rfl)
    (State.holdRoad_rest s.holdEngine_noRetire) rfl

theorem State.held_dated : Dated s s.held :=
  ⟨s.holdRest_steps.same .power, fun h => h.trans (congrArg Power.elapsed (s.holdRest_steps.same .power)).symm⟩

theorem State.holdEffects_dated : Dated s s.holdEffects := by
  rw [State.holdEffects_eq_held]
  exact ((Dated.refl s).steps s.holdEngine_holdRoad_steps).trans (State.held_dated _)

theorem State.holdRoad_engine {s : State} (h : s.NoRetire) : s.holdRoad.engine.bare = s.engine.bare :=
  ((State.holdRoad_rest h).same .engine).trans (s.closeRoad_steps.same .engine)

theorem Engine.image_of_bare {e f : Engine} (h : e.bare = f.bare) : e.up = f.up ∧ e.image = f.image ∧ e.header = f.header :=
  ⟨(congrArg Engine.up h :), (congrArg Engine.image h :), (congrArg Engine.header h :)⟩

theorem State.holdEngine_image : s.holdEngine.engine.image = .none ∧ s.holdEngine.engine.header = none := ⟨rfl, rfl⟩

theorem State.holdEffects_engine : s.holdEffects.engine.image = .none ∧ s.holdEffects.engine.header = none := by
  obtain ⟨-, image, header⟩ :=
    Engine.image_of_bare ((State.held_engine _).trans (State.holdRoad_engine s.holdEngine_noRetire))
  rw [State.holdEffects_eq_held, image, header]
  exact s.holdEngine_image

theorem State.holdRoad_journal {s : State} (h : s.NoRetire) (down : s.engine.up = false) :
    s.holdRoad.journal = s.journal := by
  have stopped := State.stopBuses_steps_of_noRetire (State.closeRoad_noRetire h)
  have kept : s.closeRoad.stopBuses.engine.bare = s.engine.bare :=
    (stopped.same .engine).trans (s.closeRoad_steps.same .engine)
  obtain ⟨up, -, -⟩ := Engine.image_of_bare kept
  rw [State.holdRoad_eq, State.dropRole_journal .lone (up.trans down), stopped.same .journal,
    s.closeRoad_steps.same .journal]

theorem State.holdEffects_owed : s.holdEffects.journal.owed = s.journal.owed := by
  obtain ⟨owed, -⟩ := s.holdEngine.holdRoad.held_journal
  rw [State.holdEffects_eq_held, owed, State.holdRoad_journal s.holdEngine_noRetire s.holdEngine_up,
    s.holdEngine_steps.same .journal]

theorem State.holdRoad_live {s : State} (h : s.NoRetire) (p : PortNo) : (s.holdRoad.port p).live = (false, false, []) :=
  (Port.live_of_bare ((State.holdRoad_rest h).same .ports rfl p)).trans (s.emptySluice.closePorts_live p)

theorem State.holdEffects_live (p : PortNo) : (s.holdEffects.port p).live = (false, false, []) := by
  rw [State.holdEffects_eq_held, State.held_live, State.holdRoad_live s.holdEngine_noRetire]

end hold

/-! ### RUN and PROBE from PROVE (02 R57-R62, 03 R76) -/

/-- Both rows of a port. -/
def Port.rows (q : Port) : BitVec 128 × BitVec 128 := (q.rxRow, q.txRow)

/-- Every port keeps its rows, and a configuration change is of this instant. -/
structure Rowed (s t : State) : Prop where
  rows : SameOn Port.rows s t
  dated : Dated s t

section rowed
variable {s t : State}

theorem Quiet.rowed (h : Quiet s t) : Rowed s t where
  rows p := by
    obtain ⟨rx, tx, -, -, -⟩ := Port.of_line (h.line p)
    rw [Port.rows, Port.rows, rx, tx]
  dated := h.dated

theorem Rowed.trans {u : State} (h : Rowed s t) (k : Rowed t u) : Rowed s u :=
  ⟨h.rows.trans k.rows, h.dated.trans k.dated⟩

theorem State.mapPorts_rowed (s : State) {f : Port → Port} (hf : ∀ q, (f q).rows = q.rows) : Rowed s (s.mapPorts f) :=
  ⟨(SameOn.refl _ s).mapPorts hf, (Dated.refl s).steps (State.mapPorts_steps (ps := [.ports, .tx]) f (Steps.refl _ s) rfl)⟩

theorem State.wakeHeads_rowed (s : State) : Rowed s s.wakeHeads :=
  s.mapPorts_rowed fun q => by split <;> rfl

theorem State.driveAll_rowed (s : State) : Rowed s s.driveAll := s.mapPorts_rowed fun _ => rfl

theorem State.readRegionB_rowed (s : State) : Rowed s s.readRegionB :=
  ⟨(SameOn.refl _ s).steps (State.readRegionB_steps (ps := [.changes, .journal, .tag]) (Steps.refl _ s) rfl),
    (Dated.refl s).readRegionB⟩

end rowed

/-- Every port has its row of the tables. -/
def State.takePortRows (s : State) : State :=
  s.setPorts ((Vector.finRange 48).map fun p =>
    let q := s.port p
    { q with rxRow := s.portRow p, txRow := s.portRow p, rxAdopt := false, txAdopt := false,
             amp := { q.amp with seen := 0 } })

/-- The role is known, the receive sides are armed and the Governors are full. -/
def State.armRoad (s : State) : State :=
  let s := (s.takeRole.eachPort State.armRx).setJoins
  s.setGovs ((Vector.finRange 256).map fun g => { s.gov g with tokens := (s.weirRow g).full, withheld := [] })

/-- The lamps, drivers, buses, heads and the management bus start. -/
def State.startRoad (s : State) : State :=
  ((s.takeLampRows.startLamps.driveAll.headsConfigured.joinBuses).wakeHeads).dueScan.readRegionB

theorem State.enterRoad_eq (s : State) : s.enterRoad = s.takePortRows.armRoad.startRoad := rfl

theorem State.takePortRows_rows (s : State) (p : PortNo) : (s.takePortRows.port p).rows = (s.portRow p, s.portRow p) :=
  congrArg Port.rows (get_map_finRange _ p)

theorem State.armRoad_quiet (s : State) : Quiet s s.armRoad := by
  unfold State.armRoad
  have role : Quiet s s.takeRole := (Quiet.refl s).steps (State.takeRole_steps (Steps.refl _ s) rfl)
  have armed : Quiet s (s.takeRole.eachPort State.armRx) := Quiet.foldl _ role fun _ p hu => hu.armRx p
  exact armed.setJoins.steps (State.setGovs_steps _ (Steps.refl _ _) rfl)

theorem State.startRoad_rowed (s : State) : Rowed s s.startRoad := by
  have lamps : Quiet s s.takeLampRows.startLamps :=
    (Quiet.refl s).takeLampRows.steps (State.startLamps_steps (Steps.refl _ _) rfl)
  have driven : Rowed s s.takeLampRows.startLamps.driveAll := lamps.rowed.trans (State.driveAll_rowed _)
  have heads : Quiet s.takeLampRows.startLamps.driveAll s.takeLampRows.startLamps.driveAll.headsConfigured.joinBuses :=
    Quiet.joinBuses ((Quiet.refl _).steps (State.headsConfigured_steps (Steps.refl _ _) rfl))
  have woken : Rowed s s.takeLampRows.startLamps.driveAll.headsConfigured.joinBuses.wakeHeads :=
    (driven.trans heads.rowed).trans (State.wakeHeads_rowed _)
  exact (woken.trans ((Quiet.refl _).steps (State.dueScan_steps (Steps.refl _ _) rfl)).rowed).trans
    (State.readRegionB_rowed _)

theorem State.enterRoad_rows (s : State) (p : PortNo) : (s.enterRoad.port p).rows = (s.portRow p, s.portRow p) := by
  rw [State.enterRoad_eq, (State.startRoad_rowed _).rows p, (State.armRoad_quiet _).rowed.rows p, State.takePortRows_rows]

theorem State.takePortRows_steps (s : State) : Steps [.ports, .tx] s s.takePortRows := by
  unfold State.takePortRows
  exact State.setPorts_steps _ (Steps.refl _ s) rfl

theorem State.enterRoad_dated (s : State) : Dated s s.enterRoad := by
  rw [State.enterRoad_eq]
  exact (((Dated.refl s).steps s.takePortRows_steps).trans (State.armRoad_quiet _).dated).trans
    (State.startRoad_rowed _).dated

/-! ### DOZE (03 R86) -/

/-- A port's turn as the drain to DOZE starts. -/
def State.drainPort (s : State) (p : PortNo) : State :=
  ((s.dropPartial p).updPort p fun q => { q with edge := none }).rxBoundary p

theorem State.drainForDoze_eq (s : State) :
    s.drainForDoze = (s.setModes fun m => { m with draining := true }).eachPort State.drainPort := rfl

theorem State.drainForDoze_dated (s : State) : Dated s s.drainForDoze := by
  rw [State.drainForDoze_eq]
  have draining (f : ModeRegs → ModeRegs) : Dated s (s.setModes f) :=
    (Dated.refl s).steps (State.setModes_steps (ps := [.modes]) f (Steps.refl _ s) rfl)
  refine Dated.foldl _ (draining _) fun u p hu => ?_
  exact ((hu.trans ((Quiet.refl u).dropPartial p).dated).trans (State.updPort_apart (p := p) rfl).dated).trans
    (State.rxBoundary_apart _ p).dated

theorem State.drainForDoze_modes (s : State) : s.drainForDoze.modes = { s.modes with draining := true } := by
  have drained : Steps [.mem, .pool, .draws, .irq, .bells, .replies, .changes, .ports, .tx, .sluice, .lamps, .buses, .heads,
      .pair, .journal, .tag, .inject] (s.setModes fun m => { m with draining := true }) s.drainForDoze :=
    State.eachPort_steps State.drainPort (Steps.refl _ _) fun _ p h =>
      State.rxBoundary_steps p (State.updPort_steps p _ (State.dropPartial_steps p h rfl) rfl) rfl
  exact drained.same .modes

/-! ### A transition starts (03 R65, R70, R73, R76, R86) -/

section depart
variable (s : State) (m : Mode)

/-- The busy state and what it owes, before the effects of the request. -/
def State.underWay (s : State) (w : Window) (m : Mode) : State :=
  (s.modeRecord w m).setModes fun r => { r with busy := true, target := m, late := false, owed := r.owed ++ [w] }

theorem State.depart_doze : s.depart .doze = s.drainForDoze := rfl

/-- Departure to RUN or PROBE enters the road from PROVE alone. -/
theorem State.depart_road {m : Mode} (h : m = .run ∨ m = .probe) :
    s.depart m = if s.mode = .prove then s.enterRoad else s := by
  rcases h with rfl | rfl <;> rfl

/-- The effects of a request leave the mode register but for the drain and a WAKE bell owed. -/
theorem State.depart_modes :
    ∃ draining woke, (s.depart m).modes = { s.modes with draining := draining, wokeBell := woke } := by
  have road : (if s.mode = .prove then s.enterRoad else s).modes = s.modes :=
    (Steps.ite (State.enterRoad_steps (ps := [.mem, .pool, .draws, .irq, .bells, .replies, .changes, .ports, .tx, .govs,
      .sluice, .lamps, .buses, .heads, .pair, .journal, .tag, .mgmt, .inject]) (Steps.refl _ s) rfl)
      (Steps.refl _ s)).same .modes
  have prove : s.enterProve.modes = s.modes :=
    (State.enterProve_steps (ps := [.engine, .counting, .tag]) (Steps.refl _ s) rfl).same .modes
  cases m with
  | hold => exact ⟨false, false, s.holdEffects_modes⟩
  | prove => exact ⟨_, _, prove⟩
  | run => exact ⟨_, _, road⟩
  | probe => exact ⟨_, _, road⟩
  | doze => exact ⟨true, _, s.drainForDoze_modes⟩
  | load => exact ⟨_, _, rfl⟩
  | trim => exact ⟨_, _, rfl⟩
  | vigil => exact ⟨_, _, rfl⟩

theorem State.depart_dated : Dated s (s.depart m) := by
  have road : Dated s (if s.mode = .prove then s.enterRoad else s) := by
    split
    · exact s.enterRoad_dated
    · exact Dated.refl s
  cases m with
  | hold => exact s.holdEffects_dated
  | prove => exact (Dated.refl s).steps (State.enterProve_steps (ps := [.engine, .counting, .tag]) (Steps.refl _ s) rfl)
  | run => exact road
  | probe => exact road
  | doze => exact s.drainForDoze_dated
  | load => exact Dated.refl s
  | trim => exact Dated.refl s
  | vigil => exact Dated.refl s

end depart

section underWay
variable {s : State} {w : Window} {m : Mode}

theorem State.underWay_steps (s : State) (w : Window) (m : Mode) :
    Steps [.modes, .changes, .journal] s (s.underWay w m) := by
  unfold State.underWay
  exact State.setModes_steps _ (State.modeRecord_steps w m (Steps.refl _ s) rfl) rfl

theorem State.underWay_modes (s : State) (w : Window) (m : Mode) : (s.underWay w m).modes =
    { s.modes with busy := true, target := m, late := false, owed := s.modes.owed ++ [w] } := by
  have record : Steps [.changes, .journal] s (s.modeRecord w m) := State.modeRecord_steps w m (Steps.refl _ s) rfl
  rw [State.underWay, State.setModes_modes, record.same .modes]

theorem State.underWay_lastChange (s : State) (w : Window) (m : Mode) :
    (s.underWay w m).settings.lastChange = (s.underWay w m).now := by
  obtain ⟨-, last, -⟩ := (s.modeRecord_keeps w m).same .changes
  exact last.trans (congrArg Power.elapsed ((s.underWay_steps w m).same .power)).symm

/-- The CONFIG record of a MODEREQ write (18 R547). -/
def State.modeRec (s : State) (w : Window) (m : Mode) : Rec :=
  { kind := kConfig, flags := recFlags false s.doubtNow, boot := 0, stamp := s.now, seq := 0
    body := configBody (windowCode w) 1 m.code 0 false 0 s.settings.digest }

/-- HOLD owes its record, and LOAD, which starts in HOLD. -/
theorem State.underWay_owed (h : moves s.modes.mode m = true) (hm : m = .load ∨ m = .hold) :
    (s.underWay w m).journal.owed = s.journal.owed ++ [s.modeRec w m] := by
  have owes : s.modeRecord w m = (s.noteChange s.now).oweRecord (s.modeRec w m) := by
    unfold State.modeRecord
    dsimp only
    split
    · next keeps =>
      rcases hm with rfl | rfl
      · have stopped : (s.noteChange s.now).mode.stopped = true := by
          show s.modes.mode.stopped = true
          revert h
          cases s.modes.mode <;> decide
        rw [State.keepRecord, stopped]
        rfl
      · simp at keeps
    · rfl
  rw [State.underWay, owes]
  rfl

end underWay

section request
variable {s : State} {w : Window} {c : Instr} {m : Mode}

/-- The device as a legal request that nothing refuses has changed it. -/
def State.begun (s : State) (w : Window) (m : Mode) : State :=
  ((s.requested (BitVec.ofNat 4 m.code)).underWay w m).depart m

theorem State.begun_owed (h : moves s.modes.mode m = true) (hm : m = .load ∨ m = .hold) :
    (s.begun w m).journal.owed = s.journal.owed ++ [s.modeRec w m] := by
  have owed := State.underWay_owed (s := s.requested (BitVec.ofNat 4 m.code)) (w := w) h hm
  rcases hm with rfl | rfl
  · exact owed
  · exact (State.holdEffects_owed _).trans owed

theorem State.begun_modes (s : State) (w : Window) (m : Mode) : ∃ draining woke, (s.begun w m).modes = { s.modes with
    request := BitVec.ofNat 4 m.code, busy := true, target := m, late := false, owed := s.modes.owed ++ [w]
    draining := draining, wokeBell := woke } := by
  obtain ⟨draining, woke, modes⟩ := ((s.requested (BitVec.ofNat 4 m.code)).underWay w m).depart_modes m
  refine ⟨draining, woke, ?_⟩
  rw [State.begun, modes, State.underWay_modes]
  rfl

theorem State.begun_lastChange (s : State) (w : Window) (m : Mode) :
    (s.begun w m).settings.lastChange = s.power.elapsed := by
  have begun := ((s.requested (BitVec.ofNat 4 m.code)).underWay w m).depart_dated m
  have noted := (s.requested (BitVec.ofNat 4 m.code)).underWay_steps w m
  have power : (s.begun w m).power = s.power := begun.power.trans (noted.same .power)
  exact (begun.last (State.underWay_lastChange _ w m)).trans (congrArg Power.elapsed power)

theorem Port.of_live {q : Port} {armed driver : Bool} {fifo : List Entry} (h : q.live = (armed, driver, fifo)) :
    q.armed = armed ∧ q.driver = driver ∧ q.fifo = fifo := by
  simpa only [Port.live, Prod.mk.injEq] using h

theorem State.begun_hold (s : State) (w : Window) :
    (s.begun w .hold).engine.up = false ∧ (s.begun w .hold).engine.image = .none ∧ (s.begun w .hold).engine.header = none ∧
      (s.begun w .hold).settings.epoch = none ∧ (s.begun w .hold).sluice.items = [] ∧
      (s.begun w .hold).journal.mounted = false ∧ (s.begun w .hold).counting = false ∧
      ∀ p, ((s.begun w .hold).port p).armed = false ∧ ((s.begun w .hold).port p).driver = false ∧
        ((s.begun w .hold).port p).fifo = [] := by
  obtain ⟨image, header⟩ := ((s.requested (BitVec.ofNat 4 Mode.hold.code)).underWay w .hold).holdEffects_engine
  refine ⟨State.holdEffects_up _, image, header, rfl, State.holdEffects_items _, rfl, rfl, fun p => ?_⟩
  exact Port.of_live (State.holdEffects_live _ p)

/-- The engine as PROVE starts it. -/
theorem State.enterProve_engine (s : State) : s.enterProve.engine.up = (!s.engine.restarting && !s.engine.pmFail) ∧
    s.enterProve.engine.testEnded = false ∧ s.enterProve.counting = false ∧
    s.enterProve.engine.prove = if s.engine.prove = 3 then 3 else 1 :=
  ⟨rfl, rfl, rfl, rfl⟩

theorem Engine.health_of_bare {e f : Engine} (h : e.bare = f.bare) :
    e.restarting = f.restarting ∧ e.pmFail = f.pmFail ∧ e.prove = f.prove :=
  ⟨(congrArg Engine.restarting h :), (congrArg Engine.pmFail h :), (congrArg Engine.prove h :)⟩

theorem State.begun_prove (s : State) (w : Window) :
    (s.begun w .prove).engine.up = (!s.engine.restarting && !s.engine.pmFail) ∧
      (s.begun w .prove).engine.testEnded = false ∧ (s.begun w .prove).counting = false ∧
      (s.begun w .prove).engine.prove = if s.engine.prove = 3 then 3 else 1 := by
  have noted := (s.requested (BitVec.ofNat 4 Mode.prove.code)).underWay_steps w .prove
  obtain ⟨restarting, pmFail, prove⟩ := Engine.health_of_bare (noted.same .engine)
  have entered := ((s.requested (BitVec.ofNat 4 Mode.prove.code)).underWay w .prove).enterProve_engine
  rw [restarting, pmFail, prove] at entered
  exact entered

theorem State.begun_rows (hp : s.modes.mode = .prove) (hm : m = .run ∨ m = .probe) (p : PortNo) :
    ((s.begun w m).port p).rows = (s.portRow p, s.portRow p) := by
  have noted := (s.requested (BitVec.ofNat 4 m.code)).underWay_steps w m
  have inProve : ((s.requested (BitVec.ofNat 4 m.code)).underWay w m).mode = .prove :=
    (congrArg ModeRegs.mode (State.underWay_modes _ w m)).trans hp
  have row : ((s.requested (BitVec.ofNat 4 m.code)).underWay w m).portRow p = s.portRow p :=
    congrArg (fun a => State.portRow { s with mem := a } p) (noted.same .mem)
  rw [State.begun, State.depart_road _ hm, if_pos inProve, State.enterRoad_rows, row]

theorem State.begun_doze (s : State) (w : Window) : (s.begun w .doze).modes.draining = true := by
  rw [State.begun, State.depart_doze, State.drainForDoze_modes]

theorem exec_acceptedMode (hcm : (c, m) ∈ modeRequests w) (hb : s.busServed = true) (hc : s.power.completing = false)
    (hy : s.modes.busy = false) (hmv : moves s.modes.mode m = true) (hr : s.refusal m = none) :
    exec c s = .next (s.begun w m) := by
  have hne : m ≠ s.modes.mode := by
    rw [moves_eq_legalMove, Bool.and_eq_true, decide_eq_true_eq] at hmv
    exact Ne.symm hmv.2
  exact (exec_modeRequest hcm s).trans (congrArg _ (State.modeReq_accepted hb hc hy (modeOf_code m) hne hr))

theorem Mode.toNat_code (m : Mode) : (BitVec.ofNat 4 m.code).toNat = m.code := by cases m <;> rfl

end request

/-- Settles O33: the busy state and its record by `underWay`, the effects of each request by `depart`. -/
theorem acceptedModeRequestsStartTheirTransition : Obligations.AcceptedModeRequestsStartTheirTransition := by
  intro s w c m hcm hb hc hy hmv image passed named formed
  have accepted : s.refusal m = none := by
    rw [State.refusal_of_moves hmv, if_neg fun h => h.2 (image h.1), if_neg fun h => passed h.1 h.2,
      if_neg fun h => named h.1 h.2, if_neg fun h => ?_]
    rw [formed h.1] at h
    exact absurd h.2 Bool.false_ne_true
  have h := exec_acceptedMode hcm hb hc hy hmv accepted
  obtain ⟨draining, woke, modes⟩ := s.begun_modes w m
  refine ⟨_, h, (congrArg ModeRegs.mode modes :), congrArg ModeRegs.busy modes, congrArg ModeRegs.target modes,
    congrArg ModeRegs.owed modes, ?_, (congrArg ModeRegs.cause modes :), s.begun_lastChange w m,
    fun hm => ⟨_, State.begun_owed hmv hm, rfl, rfl, rfl⟩, ?_, ?_, fun hp hm p => ?_, ?_, only_parts_of_exec h⟩
  · exact (congrArg (fun r => (ModeRegs.request r).toNat) modes).trans m.toNat_code
  · rintro rfl
    exact s.begun_hold w
  · rintro rfl
    exact s.begun_prove w
  · exact Prod.mk.inj (State.begun_rows hp hm p)
  · rintro rfl
    exact s.begun_doze w

end Sys2Proof.Machine
end

section
/-!
PROOFS. Host accesses to the registers (04 R108-R116, R119-R124; 05 R143, R146): their reset values, the window's fields,
failed accesses and split reads.
-/
set_option Elab.async false
namespace Sys2Proof.Machine

/-! ### The Culvert's shared acts -/

theorem State.onBus_of_served {s : State} (hb : s.busServed = true) (f : State → State) : s.onBus f = f s := if_pos hb

theorem State.onBus_of_cut {s : State} (hb : s.busServed = false) (f : State → State) : s.onBus f = s :=
  if_neg (by simp [hb])

/-- A failure keeps the first cause, and a further one sets MORE (04 R112, R113). -/
theorem State.culvertFail_eq (s : State) (e : ErrCause) : s.culvertFail e = s.setCulvert fun c => { c with
    errcause := if c.errcause = .none then e else c.errcause, more := c.more || decide (c.errcause ≠ .none)
    irqstat := c.irqstat ||| 0x0010 } := by
  unfold State.culvertFail State.raise State.setCulvert
  by_cases h : s.culvert.errcause = .none <;> simp [h, Irq.bit]

theorem State.culvertFail_only (s : State) (e : ErrCause) : Steps [.irq, .culvert] s (s.culvertFail e) :=
  State.culvertFail_steps e (Steps.refl _ s) rfl

/-- CULVERT_ERR stands with its cause and MORE, as a failure `e` of `s` leaves them. -/
def Failed (s t : State) (e : ErrCause) : Prop :=
  t.culvert.irqstat.getLsbD 4 = true ∧
    t.culvert.errcause = (if s.culvert.errcause = .none then e else s.culvert.errcause) ∧
    t.culvert.more = (s.culvert.more || decide (s.culvert.errcause ≠ .none))

theorem State.culvertFail_failed (s : State) (e : ErrCause) : Failed s (s.culvertFail e) e := by
  rw [State.culvertFail_eq]
  exact ⟨by simp, rfl, rfl⟩

/-- What leaves the interrupt bits, the cause and MORE leaves a failure as it stands. -/
theorem Failed.setCulvert {s t : State} {e : ErrCause} (h : Failed s t e) {f : Culvert → Culvert}
    (hf : (f t.culvert).irqstat = t.culvert.irqstat ∧ (f t.culvert).errcause = t.culvert.errcause ∧
      (f t.culvert).more = t.culvert.more) : Failed s (t.setCulvert f) e := by
  obtain ⟨irq, cause, more⟩ := hf
  obtain ⟨hirq, hcause, hmore⟩ := h
  exact ⟨(congrArg (·.getLsbD 4) irq).trans hirq, cause.trans hcause, more.trans hmore⟩

theorem Culvert.advance_of_still {c : Culvert} (h : c.autoinc = false) : c.advance = c := by
  simp [Culvert.advance, h]

theorem Culvert.advance_at_edge {c : Culvert} (h : c.autoinc = true) (he : c.winaddr = 0xFFE) :
    c.advance = { c with winEdge := true } := by
  simp [Culvert.advance, h, he]

theorem Culvert.advance_inside {c : Culvert} (h : c.autoinc = true) (he : c.winaddr ≠ 0xFFE) :
    c.advance = { c with winaddr := c.winaddr + 2 } := by
  rw [Culvert.advance, h, if_neg (by simp), if_neg he]

/-- Auto-increment moves only the window's address and WIN_EDGE (04 R120, R121). -/
theorem Culvert.advance_eq (c : Culvert) : ∃ addr edge, c.advance = { c with winaddr := addr, winEdge := edge } := by
  unfold Culvert.advance
  split
  · exact ⟨_, _, rfl⟩
  · split <;> exact ⟨_, _, rfl⟩

/-- What does not look at the window's address or WIN_EDGE does not see auto-increment. -/
theorem Culvert.advance_keeps {β : Type} (g : Culvert → β)
    (hg : ∀ c a e, g { c with winaddr := a, winEdge := e } = g c) (c : Culvert) : g c.advance = g c := by
  obtain ⟨addr, edge, ha⟩ := c.advance_eq
  rw [ha, hg]

@[simp] theorem Culvert.advance_hostData (c : Culvert) : c.advance.hostData = c.hostData :=
  c.advance_keeps Culvert.hostData fun _ _ _ => rfl

@[simp] theorem Culvert.advance_winpage (c : Culvert) : c.advance.winpage = c.winpage :=
  c.advance_keeps Culvert.winpage fun _ _ _ => rfl

@[simp] theorem Culvert.advance_irqstat (c : Culvert) : c.advance.irqstat = c.irqstat :=
  c.advance_keeps Culvert.irqstat fun _ _ _ => rfl

/-! ### Reset values (05) -/

/-- Settles O7: each register of `State.reset` is the reset value of its block. -/
theorem resetValuesOfTheRegisters : Obligations.ResetValuesOfTheRegisters := by
  have channels (c : Chan) : State.reset.chan c = ChanRegs.reset := by cases c <;> rfl
  have cells : State.reset.freeCount = 4096 := by
    simp only [State.freeCount, State.reset, Sluice.reset, List.length_range]
  refine ⟨rfl, rfl, rfl, rfl, rfl, rfl, rfl, rfl, rfl, fun c => ?_, rfl, rfl, rfl, rfl, rfl, cells, rfl, rfl, rfl⟩
  rw [channels c]
  exact ⟨rfl, rfl, rfl, rfl, rfl⟩

/-! ### The window registers (04 R119-R124) -/

/-- WINADDR takes its field with bit 0 as 0. -/
theorem winaddr_field (v : Half) : v.setWidth 12 &&& 0xFFE = BitVec.ofNat 12 (v.toNat % 4096 / 2 * 2) := by
  have mask : (0xFFE : BitVec 12) = BitVec.allOnes 12 <<< 1 := rfl
  rw [mask, ← BitVec.shiftLeft_ushiftRight]
  apply BitVec.eq_of_toNat_eq
  simp only [BitVec.toNat_shiftLeft, BitVec.toNat_ushiftRight, BitVec.toNat_setWidth, BitVec.toNat_ofNat,
    Nat.shiftRight_eq_div_pow, Nat.shiftLeft_eq]

/-- Settles O15: each write is its register's field, the held line dropped. -/
theorem windowRegistersTakeTheirFields : Obligations.WindowRegistersTakeTheirFields := by
  refine ⟨fun s v hb => ?_, fun s v hb => ?_, fun s v hb => ?_, fun s => rfl⟩
  · have h : exec (.winpageWrite v) s = .next (s.pageWrite v) := congrArg _ (State.onBus_of_served hb _)
    rw [h, State.pageWrite, ← BitVec.ofNat_toNat]
  · have h : exec (.winaddrWrite v) s = .next (s.addrWrite v) := congrArg _ (State.onBus_of_served hb _)
    rw [h, State.addrWrite, winaddr_field]
  · have h : exec (.winctlWrite v) s = .next (s.ctlWrite v) := congrArg _ (State.onBus_of_served hb _)
    rw [h, State.ctlWrite]

/-! ### Register writes (05 R143) -/

theorem State.ctlRegWrite_beyond (s : State) (k : Nat) (v : Half) : s.ctlRegWrite (k + 0x54) v = s := rfl

theorem exec_registerWrite {s : State} (hb : s.busServed = true) (o : BitVec 7) (v : Half) :
    exec (.registerWrite .ctl o v) s = .next (s.ctlRegWrite o.toNat v) ∧
    exec (.registerWrite .key o v) s = .next (s.keyRegWrite o.toNat v) :=
  ⟨congrArg _ (State.onBus_of_served hb _), congrArg _ (State.onBus_of_served hb _)⟩

/-- Settles O22: at each listed offset the write is that register's row, or nothing. -/
theorem registerWritesReachTheirRegister : Obligations.RegisterWritesReachTheirRegister := by
  refine ⟨fun s v hb => (exec_registerWrite hb _ v).1, fun s v hb => ⟨rfl, rfl, rfl, rfl, rfl, rfl⟩,
    fun s v hb => ⟨(exec_registerWrite hb _ v).2, (exec_registerWrite hb _ v).2⟩, fun s o v hb ho => ?_⟩
  rw [(exec_registerWrite hb o v).1]
  rcases ho with beyond | rfl | rfl | rfl | rfl
  · rw [← Nat.sub_add_cancel beyond, State.ctlRegWrite_beyond]
  all_goals rfl

/-! ### Failed accesses and latched reads (04 R108-R114, 05 R146) -/

/-- The device after a timed-out access (04 R111, R112). -/
def State.timedOut (s : State) (k : AccessKind) : State :=
  let s := s.culvertFail .timeout
  match k with
  | .regRead => s.give 0xFFFF
  | .dataRead => ((s.give 0xFFFF).dropLine).setCulvert Culvert.advance
  | .dataWrite => s.dropLine.setCulvert Culvert.advance
  | .regWrite | .lockWrite => s

theorem exec_culvertTimeout {s : State} (hb : s.busServed = true) (k : AccessKind) :
    exec (.culvertTimeout k) s = .next (s.timedOut k) := congrArg _ (State.onBus_of_served hb _)

theorem Failed.advance {s t : State} {e : ErrCause} (h : Failed s t e) : Failed s (t.setCulvert Culvert.advance) e := by
  obtain ⟨addr, edge, ha⟩ := t.culvert.advance_eq
  exact h.setCulvert (by rw [ha]; exact ⟨rfl, rfl, rfl⟩)

theorem State.timedOut_failed (s : State) (k : AccessKind) : Failed s (s.timedOut k) .timeout := by
  have failed := s.culvertFail_failed .timeout
  cases k with
  | regRead => exact failed.setCulvert ⟨rfl, rfl, rfl⟩
  | dataRead => exact ((failed.setCulvert ⟨rfl, rfl, rfl⟩).setCulvert ⟨rfl, rfl, rfl⟩).advance
  | dataWrite => exact (failed.setCulvert ⟨rfl, rfl, rfl⟩).advance
  | regWrite => exact failed
  | lockWrite => exact failed

theorem State.timedOut_hostData (s : State) {k : AccessKind} (h : k = .regRead ∨ k = .dataRead) :
    (s.timedOut k).culvert.hostData = 0xFFFF := by
  rcases h with rfl | rfl
  · rfl
  · obtain ⟨addr, edge, ha⟩ := (((s.culvertFail .timeout).give 0xFFFF).dropLine).culvert.advance_eq
    exact congrArg Culvert.hostData ha

/-- The device after a clash (04 R114). -/
def State.clashed (s : State) (k : ClashKind) : State :=
  let s := s.culvertFail .clash
  match k with
  | .selectsRead => s.give 0xFFFF
  | .selectsWrite | .strobes => s

theorem exec_clash {s : State} (hb : s.busServed = true) (k : ClashKind) :
    exec (.clash k) s = .next (s.clashed k) := congrArg _ (State.onBus_of_served hb _)

theorem State.clashed_failed (s : State) (k : ClashKind) : Failed s (s.clashed k) .clash := by
  have failed := s.culvertFail_failed .clash
  cases k with
  | selectsRead => exact failed.setCulvert ⟨rfl, rfl, rfl⟩
  | selectsWrite => exact failed
  | strobes => exact failed

theorem exec_splitRead {s : State} (hb : s.busServed = true) (c : Chan) (r : SplitReg) :
    exec (.elapsed0Read (some (c, r))) s = .next (s.splitRead c r) := congrArg _ (State.onBus_of_served hb _)

theorem loHalf_toNat (w : Word) : (loHalf w).toNat = w.toNat % 65536 := BitVec.toNat_setWidth ..

theorem hiHalf_toNat (w : Word) : (hiHalf w).toNat = w.toNat / 65536 := by
  have := w.isLt
  simp only [hiHalf, BitVec.toNat_setWidth, BitVec.toNat_ushiftRight, Nat.shiftRight_eq_div_pow]
  omega

/-- A split register's read gives its low part and latches its high part, in its own channel. -/
theorem State.splitRead_chan (s : State) (c : Chan) (r : SplitReg) :
    ((s.splitRead c r).chan c = match r with
      | .bellOut => { s.chan c with laBellOut := 0 }
      | .bellIn => { s.chan c with laBellIn := hiHalf (s.chan c).bellIn }
      | .bellMsk => { s.chan c with laBellMsk := hiHalf (s.chan c).bellMsk }
      | .mboxOut => { s.chan c with laMboxOut := hiHalf (s.chan c).mboxOut }) ∧
    (s.splitRead c r).chan (otherChan c) = s.chan (otherChan c) := by
  cases c <;> cases r <;> exact ⟨rfl, rfl⟩

/-- Settles O19: a failure's cause through what the access does besides, and each split register's read. -/
theorem failedAccessesAndTheElapsedLatch : Obligations.FailedAccessesAndTheElapsedLatch := by
  refine ⟨fun s k hb => ?_, fun s k hb => ?_, fun s k => rfl, fun s hb => ?_, fun s c r hb => ?_⟩
  · have h := exec_culvertTimeout hb k
    obtain ⟨irq, cause, more⟩ := s.timedOut_failed k
    exact ⟨_, h, irq, cause, more, s.timedOut_hostData, only_parts_of_exec h⟩
  · have h := exec_clash hb k
    obtain ⟨irq, cause, more⟩ := s.clashed_failed k
    refine ⟨_, h, irq, cause, more, ?_, only_parts_of_exec h⟩
    rintro rfl
    rfl
  · exact congrArg _ (State.onBus_of_served hb _)
  · have h := exec_splitRead hb c r
    obtain ⟨own, other⟩ := s.splitRead_chan c r
    refine ⟨_, h, only_parts_of_exec h, other, ?_, ?_, ?_, ?_⟩ <;> (rintro rfl; rw [own])
    · exact ⟨rfl, rfl⟩
    · exact ⟨loHalf_toNat _, hiHalf_toNat _⟩
    · exact ⟨loHalf_toNat _, hiHalf_toNat _⟩
    · exact ⟨loHalf_toNat _, hiHalf_toNat _⟩

end Sys2Proof.Machine
end

section
/-!
PROOFS. The memory window's reads and writes (04 R119-R124, R128, R680; 01 R34).
-/
set_option Elab.async false
namespace Sys2Proof.Machine

/-! ### The host's writes to the tables (04 R128) -/

theorem exec_windataWrite {s : State} (hb : s.busServed = true) (v : Half) :
    exec (.windataWrite v) s = .next (s.dataWrite v) := congrArg _ (State.onBus_of_served hb _)

/-- A page that no granted lock covers is not locked at any of its addresses. -/
theorem Culvert.locks_of_uncovered {c : Culvert} {a : Nat}
    (h : c.lock ≠ .granted ∨ c.pages.getLsbD ((a - 0xF0000) / 4096) = false) : c.locks a = false := by
  rcases h with h | h <;> simp [Culvert.locks, h]

theorem State.writeFault_of_uncovered {s : State} {a : Nat} (lo : 0xF0000 ≤ a) (hi : a < 0xF8000)
    (h : s.culvert.lock ≠ .granted ∨ s.culvert.pages.getLsbD ((a - 0xF0000) / 4096) = false) :
    s.writeFault a = some .noLock := by
  rw [State.writeFault, if_neg (by omega), if_neg (by omega), if_pos ⟨lo, hi⟩, Culvert.locks_of_uncovered h]
  simp

/-- A refused WINDATA write fails with its cause, then moves the window on as any other (04 R120, R128). -/
theorem State.dataWrite_of_fault {s : State} {e : ErrCause} (hw : s.culvert.winEdge = false)
    (hf : s.writeFault s.culvert.address = some e) (v : Half) :
    s.dataWrite v = (s.dropLine.culvertFail e).setCulvert Culvert.advance := by
  have edge : s.dropLine.culvert.winEdge = false := hw
  have fault : s.dropLine.writeFault s.dropLine.culvert.address = some e := hf
  simp only [State.dataWrite, edge, fault, Bool.false_eq_true, if_false]

theorem State.dataWrite_of_permitted {s : State} (hw : s.culvert.winEdge = false)
    (hf : s.writeFault s.culvert.address = none) (v : Half) :
    s.dataWrite v = (s.dropLine.windowPut s.culvert.address v).setCulvert Culvert.advance := by
  have edge : s.dropLine.culvert.winEdge = false := hw
  have fault : s.dropLine.writeFault s.dropLine.culvert.address = none := hf
  simp only [State.dataWrite, edge, fault, Bool.false_eq_true, if_false]
  rfl

theorem State.culvertFail_mem (s : State) (e : ErrCause) : (s.culvertFail e).mem = s.mem :=
  (s.culvertFail_only e).same .mem

/-- Settles O18: outside the pages of a granted lock the map refuses the write, and a refused write stores nothing. -/
theorem tablesNeedALock : Obligations.TablesNeedALock := by
  refine ⟨fun s a lo hi h => State.writeFault_of_uncovered lo hi h, fun s t v lo hi h ht => ?_⟩
  cases hb : s.busServed with
  | false =>
    have idle : exec (.windataWrite v) s = .next s := congrArg _ (State.onBus_of_cut hb _)
    rw [idle] at ht
    cases ht
    rfl
  | true =>
    rw [exec_windataWrite hb] at ht
    cases ht
    cases hw : s.culvert.winEdge with
    | true =>
      have edge : s.dropLine.culvert.winEdge = true := hw
      simp only [State.dataWrite, edge, if_true]
      exact State.culvertFail_mem _ _
    | false =>
      rw [State.dataWrite_of_fault hw (State.writeFault_of_uncovered lo hi h)]
      exact State.culvertFail_mem _ .noLock

/-! ### WINDATA reads (04 R119-R124, 01 R34) -/

theorem exec_windataRead {s : State} (hb : s.busServed = true) : exec .windataRead s = .next s.dataRead :=
  congrArg _ (State.onBus_of_served hb _)

/-- A read of the firmware data region draws its content anew (01 R34). -/
def State.readDraw (s : State) : State := if 0xF8000 ≤ s.culvert.address then s.draw.2 else s

theorem State.readDraw_culvert (s : State) : s.readDraw.culvert = s.culvert := by
  unfold State.readDraw
  split <;> rfl

theorem State.readDraw_of_below {s : State} (h : s.culvert.address < 0xF8000) : s.readDraw = s := if_neg (by omega)

theorem State.readDraw_steps (s : State) : Steps [.draws] s s.readDraw :=
  Steps.ite (State.draw_steps (Steps.refl _ s) rfl) (Steps.refl _ s)

/-- The Culvert with a word read onto HD and the line that its read leaves held (04 R122). -/
def Culvert.took (c : Culvert) (line : Option (Nat × List Half)) (v : Half) : Culvert :=
  { c with line := line, hostData := v }

theorem State.dataRead_fresh {s : State} (hw : s.culvert.winEdge = false) (hl : s.culvert.line = none) : ∃ line,
    s.dataRead = (s.readDraw.setCulvert fun c => c.took line (s.fabricWord s.culvert.address)).setCulvert
      Culvert.advance := by
  rw [State.dataRead, hw, if_neg (by simp), State.windowRead, hl]
  exact ⟨_, rfl⟩

theorem State.advanced_steps {ps : List Part} {s t : State} (h : Steps ps s t) (hs : covers ps [.culvert] = true) :
    Steps ps s (t.setCulvert Culvert.advance) :=
  State.setCulvert_culvert_steps _ h (fun c => ⟨c.advance_irqstat, c.advance_keeps Culvert.kirqstat fun _ _ _ => rfl⟩) hs

/-- Settles O16: the word at the window address, then auto-increment; at WIN_EDGE a failure. -/
theorem windataReadGivesTheFabricWord : Obligations.WindataReadGivesTheFabricWord := by
  refine ⟨fun s hb hw hl => ?_, fun s hb hw => ?_⟩
  · obtain ⟨line, read⟩ := State.dataRead_fresh hw hl
    have h := exec_windataRead hb
    rw [read] at h
    generalize word : s.fabricWord s.culvert.address = w at h
    have kept {ps : List Part} (drawn : Steps ps s s.readDraw) (hs : covers ps [.culvert] = true) :=
      State.advanced_steps (State.setCulvert_culvert_steps (fun c => c.took line w) drawn (fun _ => ⟨rfl, rfl⟩) hs) hs
    have after : ((s.readDraw.setCulvert fun c => c.took line w).setCulvert Culvert.advance).culvert =
        (s.culvert.took line w).advance := by
      rw [State.setCulvert_culvert, State.setCulvert_culvert, State.readDraw_culvert]
    refine ⟨_, h, ?_, ?_, ?_, fun still => ?_, fun inc edge => ?_, fun inc inside => ?_,
      (kept (s.readDraw_steps.widen rfl) rfl).1, fun below => (kept ?_ rfl).1⟩
    · rw [after, Culvert.advance_hostData]
      exact word.symm
    · rw [after, Culvert.advance_winpage]
      rfl
    · rw [after, Culvert.advance_irqstat]
      rfl
    · rw [after, Culvert.advance_of_still (c := s.culvert.took line w) still]
      exact ⟨rfl, hw⟩
    · rw [after, Culvert.advance_at_edge (c := s.culvert.took line w) inc edge]
      exact ⟨edge, rfl⟩
    · rw [after, Culvert.advance_inside (c := s.culvert.took line w) inc inside]
      exact ⟨rfl, hw⟩
    · rw [State.readDraw_of_below below]
      exact Steps.refl _ s
  · have h := exec_windataRead hb
    have read : s.dataRead = (s.culvertFail .edge).give 0xFFFF := if_pos hw
    rw [read] at h
    obtain ⟨irq, cause, more⟩ := (s.culvertFail_failed .edge).setCulvert (f := fun c => { c with hostData := 0xFFFF })
      ⟨rfl, rfl, rfl⟩
    refine ⟨_, h, rfl, irq, cause, more, ?_, ?_⟩
    · rw [State.culvertFail_eq]
      rfl
    · exact (State.give_steps _ (s.culvertFail_only .edge) rfl).1

/-! ### WINDATA writes (04 R119-R124, R128, R680) -/

/-- Which bits the GX-48 maintains at an address does not depend on the state. -/
theorem State.maintained_mask (s t : State) (a : Nat) : (s.maintained a).1 = (t.maintained a).1 := by
  unfold State.maintained
  simp only [apply_ite Prod.fst]

theorem State.hostPutWord_mem (s : State) {a : Nat} (ha : a + 1 < 0x100000) (v : Half) : (s.hostPutWord a v).mem =
    Memory.write (Memory.write s.mem a (v.setWidth 8 &&& ~~~(s.maintained a).1)) (a + 1)
      ((v >>> 8).setWidth 8 &&& ~~~(s.maintained (a + 1)).1) := by
  rw [State.hostPutWord, State.hostPut, State.putByte_mem, State.maintained_mask _ s, State.hostPut, State.putByte_mem,
    Nat.mod_eq_of_lt ha, Nat.mod_eq_of_lt (by omega)]

theorem State.read_hostPutWord {s : State} (hs : MemCanonical s) {a : Nat} (ha : a + 1 < 0x100000) (v : Half) :
    Memory.read (s.hostPutWord a v).mem a = v.setWidth 8 &&& ~~~(s.maintained a).1 ∧
    Memory.read (s.hostPutWord a v).mem (a + 1) = (v >>> 8).setWidth 8 &&& ~~~(s.maintained (a + 1)).1 ∧
    ∀ c, c ≠ a → c ≠ a + 1 → Memory.read (s.hostPutWord a v).mem c = Memory.read s.mem c := by
  rw [State.hostPutWord_mem s ha v]
  refine ⟨?_, Memory.read_write_eq (Memory.wf_write hs (by omega)), fun c low high => ?_⟩
  · rw [Memory.read_write_ne (by omega), Memory.read_write_eq hs]
  · rw [Memory.read_write_ne high, Memory.read_write_ne low]

theorem State.capTokens_only (s : State) (a : Nat) : Steps [.govs] s (s.capTokens a) :=
  State.capTokens_steps a (Steps.refl _ s) rfl

/-- Beyond the word a host write reaches the tokens, the image and the session's count, no other register. -/
theorem State.windowPut_stores (s : State) (a : Nat) (v : Half) : (s.windowPut a v).mem = (s.hostPutWord a v).mem ∧
    ∃ n, (s.windowPut a v).culvert = { s.culvert with sessionWords := n } := by
  have mem : ((s.hostPutWord a v).capTokens a).mem = (s.hostPutWord a v).mem := (State.capTokens_only _ a).same .mem
  have culvert : ((s.hostPutWord a v).capTokens a).culvert = s.culvert := by
    unfold State.capTokens
    split <;> rfl
  unfold State.windowPut
  dsimp only
  split
  · exact ⟨mem, s.culvert.sessionWords, culvert⟩
  · split
    · exact ⟨mem, s.culvert.sessionWords + 1, by rw [State.setCulvert_culvert, culvert]⟩
    · exact ⟨mem, s.culvert.sessionWords, culvert⟩

/-- Settles O17: the permitted word is `hostPutWord`'s; a refused one is a failure of its cause. -/
theorem windataWriteStoresOneWord : Obligations.WindataWriteStoresOneWord := by
  refine ⟨fun s v hb hw hi hs ha hf => ?_, fun s v e hb hw hi hf => ?_⟩
  · have h := exec_windataWrite hb v
    rw [State.dataWrite_of_permitted hw hf v] at h
    obtain ⟨mem, n, culvert⟩ := s.dropLine.windowPut_stores s.culvert.address v
    have still : (s.dropLine.windowPut s.culvert.address v).culvert.autoinc = false :=
      (congrArg Culvert.autoinc culvert).trans hi
    have after : ((s.dropLine.windowPut s.culvert.address v).setCulvert Culvert.advance).culvert = _ :=
      (Culvert.advance_of_still still).trans culvert
    obtain ⟨low, high, others⟩ := State.read_hostPutWord (s := s.dropLine) hs ha v
    rw [← mem, State.maintained_mask _ s] at low high
    rw [← mem] at others
    refine ⟨_, h, low, high, others, (congrArg Culvert.winaddr after :), (congrArg Culvert.winEdge after :).trans hw,
      (congrArg Culvert.line after :), (congrArg Culvert.irqstat after :), ?_⟩
    exact (State.advanced_steps (State.windowPut_steps _ v (State.dropLine_steps (Steps.refl _ s) rfl) rfl) rfl).1
  · have h := exec_windataWrite hb v
    rw [State.dataWrite_of_fault hw hf v] at h
    have still : Culvert.advance (s.dropLine.culvertFail e).culvert = (s.dropLine.culvertFail e).culvert := by
      rw [Culvert.advance_of_still]
      rw [State.culvertFail_eq]
      exact hi
    obtain ⟨irq, cause, -⟩ := (s.dropLine.culvertFail_failed e).advance
    refine ⟨_, h, irq, cause, ?_, ?_⟩
    · rw [State.setCulvert_culvert, still, State.culvertFail_eq]
      rfl
    · exact (State.advanced_steps (State.culvertFail_steps e (State.dropLine_steps (Steps.refl _ s) rfl) rfl) rfl).1

end Sys2Proof.Machine
end

section
/-!
PROOFS. The lock (04 R126-R133, R141; 05 R163-R165): LOCKCTL writes, the end of a session, and what breaking a lock
leaves.
-/
set_option Elab.async false
namespace Sys2Proof.Machine

/-! ### The end of a lock session (04 R131-R133, R141) -/

/-- What the end of a session reaches beyond its own count of words. -/
def sessionParts : List Part := [.mem, .pool, .draws, .irq, .bells, .replies, .changes, .ports, .tx, .sieve, .sluice,
  .lamps, .buses, .heads, .pair, .journal, .tag, .inject]

/-- The count of the session's words at 0 (04 R141). -/
def State.closeSession (s : State) : State := s.setCulvert fun c => { c with sessionWords := 0 }

theorem State.endSession_rest (s : State) (pages : Byte) (broken : Bool) :
    Steps sessionParts s.closeSession (s.endSession pages broken) := by
  unfold State.endSession
  dsimp only
  split
  · exact Steps.refl _ _
  · have noted : Steps sessionParts s.closeSession (s.closeSession.noteChange s.closeSession.now) :=
      State.noteChange_steps _ (Steps.refl _ _) rfl
    refine State.keepRecord_steps _ _ _ _ (Steps.ite noted ?_) rfl
    exact State.newDigest_steps (State.takeRows_steps noted rfl) rfl

theorem State.endSession_bare (s : State) (pages : Byte) (broken : Bool) :
    (s.endSession pages broken).culvert.bare = { s.culvert with sessionWords := 0 }.bare :=
  (s.endSession_rest pages broken).same .culvert

/-! ### LOCKCTL (04 R126, R127, 05 R163-R165) -/

/-- The fields of a LOCKCTL word that has REQUEST set. -/
theorem request_fields (v : Half) : (v ||| 0x8000).getLsbD 15 = true ∧ (v ||| 0x8000).getLsbD 14 = v.getLsbD 14 ∧
    ((v ||| 0x8000).setWidth 8 : Byte) = v.setWidth 8 ∧
    (((v ||| 0x8000) >>> 8).setWidth 2 : BitVec 2) = (v >>> 8).setWidth 2 := by
  refine ⟨by simp, by simp, ?_, ?_⟩
  · simp [BitVec.setWidth_or]
  · simp [BitVec.setWidth_or, BitVec.ushiftRight_or_distrib]

theorem pages_toNat (v : Half) : (v.setWidth 8 : Byte).toNat = v.toNat % 256 := BitVec.toNat_setWidth ..

theorem timeout_toNat (v : Half) : ((v >>> 8).setWidth 2 : BitVec 2).toNat = v.toNat / 256 % 4 := by
  simp [Nat.shiftRight_eq_div_pow]

theorem no_pages (v : Half) : (v.setWidth 8 : Byte) = 0 ↔ v.toNat % 256 = 0 := by
  rw [← pages_toNat]
  exact ⟨fun h => congrArg BitVec.toNat h, fun h => BitVec.eq_of_toNat_eq h⟩

/-- A request that is granted later takes its page set (04 R126). -/
def Culvert.requested (c : Culvert) (v : Half) : Culvert :=
  { c with
    line := none, lock := .pending, pages := v.setWidth 8, timeout := (v >>> 8).setWidth 2, brk := 0, sessionWords := 0 }

section lockCtl
variable {s : State} (v : Half)

theorem State.lockCtl_request (hl : s.culvert.lock = .idle) (hr : v.getLsbD 14 = false) (hp : v.toNat % 256 ≠ 0) :
    s.lockCtl (v ||| 0x8000) = s.setCulvert fun c => c.requested v := by
  obtain ⟨request, release, pages, timeout⟩ := request_fields v
  have some_page : (v.setWidth 8 : Byte) ≠ 0 := fun h => hp ((no_pages v).1 h)
  have idle : s.dropLine.culvert.lock = .idle := hl
  simp only [State.lockCtl, request, release, pages, timeout, hr, some_page, idle]
  rfl

theorem State.lockCtl_refused (h : s.culvert.lock ≠ .idle ∨ v.getLsbD 14 = true ∨ v.toNat % 256 = 0) :
    s.lockCtl (v ||| 0x8000) = s.dropLine.culvertFail .lockState := by
  obtain ⟨request, release, pages, -⟩ := request_fields v
  have refused : (v.getLsbD 14 || decide ((v.setWidth 8 : Byte) = 0) ||
      decide (s.dropLine.culvert.lock ≠ .idle)) = true := by
    rw [← no_pages] at h
    rcases h with h | h | h
    · have held : s.dropLine.culvert.lock ≠ .idle := h
      simp [held]
    · simp [h]
    · simp [h]
  simp only [State.lockCtl, request, release, pages, refused, if_true]

/-- LOCKCTL with only RELEASE set. -/
theorem release_fields : (0x4000 : Half).getLsbD 15 = false ∧ (0x4000 : Half).getLsbD 14 = true := by decide

theorem State.lockCtl_release_idle (hl : s.culvert.lock = .idle) :
    s.lockCtl 0x4000 = s.dropLine.culvertFail .lockState := by
  have idle : s.dropLine.culvert.lock = .idle := hl
  simp only [State.lockCtl, release_fields, idle]
  rfl

theorem State.lockCtl_release_pending (hl : s.culvert.lock = .pending) :
    s.lockCtl 0x4000 = s.setCulvert fun c => { c with line := none, lock := .idle } := by
  have pending : s.dropLine.culvert.lock = .pending := hl
  simp only [State.lockCtl, release_fields, pending]
  rfl

theorem State.lockCtl_release_granted (hl : s.culvert.lock = .granted) : s.lockCtl 0x4000 =
    (s.setCulvert fun c => { c with line := none, lock := .idle }).endSession s.culvert.pages false := by
  have granted : s.dropLine.culvert.lock = .granted := hl
  simp only [State.lockCtl, release_fields, granted]
  rfl

end lockCtl

theorem State.setCulvert_only {s : State} {f : Culvert → Culvert}
    (hf : ∀ c, (f c).irqstat = c.irqstat ∧ (f c).kirqstat = c.kirqstat) : Only [.culvert] s (s.setCulvert f) :=
  (State.setCulvert_culvert_steps f (Steps.refl _ s) hf rfl).1

/-- A refused LOCKCTL write drops the held line and fails, no more. -/
theorem State.lockState_fails (s : State) : Failed s (s.dropLine.culvertFail .lockState) .lockState ∧
    Only [.irq, .culvert] s (s.dropLine.culvertFail .lockState) ∧
    (s.dropLine.culvertFail .lockState).culvert.lock = s.culvert.lock ∧
    (s.dropLine.culvertFail .lockState).culvert.pages = s.culvert.pages ∧
    (s.dropLine.culvertFail .lockState).culvert.timeout = s.culvert.timeout ∧
    (s.dropLine.culvertFail .lockState).culvert.brk = s.culvert.brk := by
  refine ⟨s.dropLine.culvertFail_failed .lockState,
    (State.culvertFail_steps .lockState (State.dropLine_steps (Steps.refl _ s) rfl) rfl).1, ?_⟩
  rw [State.culvertFail_eq]
  exact ⟨rfl, rfl, rfl, rfl⟩

theorem exec_lockRequest {s : State} (hb : s.busServed = true) (v : Half) :
    exec (.lockRequest v) s = .next (s.lockCtl (v ||| 0x8000)) := congrArg _ (State.onBus_of_served hb _)

theorem exec_lockRelease {s : State} (hb : s.busServed = true) : exec .lockRelease s = .next (s.lockCtl 0x4000) :=
  congrArg _ (State.onBus_of_served hb _)

theorem exec_lockGrant {s : State} (hr : s.released = true) (hl : s.culvert.lock = .pending) :
    exec .lockGrant s = .next (s.setCulvert fun c => { c with lock := .granted }) := by
  show execLockGrant s = _
  simp [execLockGrant, hr, hl]

/-- Settles O20: each LOCKCTL write's branch, and what a failure or the end of a session leaves of the lock's fields. -/
theorem lockRequestsAndReleases : Obligations.LockRequestsAndReleases := by
  refine ⟨fun s v hb hl hr hp => ?_, fun s v hb hx => ?_, fun s hr hl => exec_lockGrant hr hl, fun s hb => ?_⟩
  · have h := exec_lockRequest hb v
    rw [State.lockCtl_request v hl hr hp] at h
    exact ⟨_, h, rfl, pages_toNat v, timeout_toNat v, rfl, rfl, State.setCulvert_only fun _ => ⟨rfl, rfl⟩⟩
  · have h := exec_lockRequest hb v
    rw [State.lockCtl_refused v hx] at h
    obtain ⟨⟨irq, cause, -⟩, only, lock, pages, timeout, brk⟩ := s.lockState_fails
    exact ⟨_, h, lock, pages, timeout, brk, irq, cause, only⟩
  · have h := exec_lockRelease hb
    cases hl : s.culvert.lock with
    | idle =>
      rw [State.lockCtl_release_idle hl] at h
      obtain ⟨⟨irq, cause, -⟩, -, lock, pages, timeout, brk⟩ := s.lockState_fails
      exact ⟨_, h, lock.trans hl, pages, timeout, brk, fun _ => ⟨irq, cause⟩, nofun, only_parts_of_exec h⟩
    | pending =>
      rw [State.lockCtl_release_pending hl] at h
      exact ⟨_, h, rfl, rfl, rfl, rfl, nofun, fun _ => ⟨rfl, State.setCulvert_only fun _ => ⟨rfl, rfl⟩⟩,
        only_parts_of_exec h⟩
    | granted =>
      rw [State.lockCtl_release_granted hl] at h
      have kept := (s.setCulvert fun c => { c with line := none, lock := .idle }).endSession_bare s.culvert.pages false
      exact ⟨_, h, (congrArg Culvert.lock kept :), (congrArg Culvert.pages kept :), (congrArg Culvert.timeout kept :),
        (congrArg Culvert.brk kept :), nofun, nofun, only_parts_of_exec h⟩

/-! ### A lock is broken (04 R131, R132) -/

section breakLock
variable {s : State} (cause : BitVec 2)

theorem State.breakLock_of_idle (hl : s.culvert.lock = .idle) : s.breakLock cause = s := if_pos hl

theorem State.breakLock_of_held (hl : s.culvert.lock ≠ .idle) : s.breakLock cause =
    ((s.setCulvert fun c => { c with lock := .idle, brk := cause }).raise .ctl .lockBroken).endSession
      s.culvert.pages true := if_neg hl

theorem State.breakLock_bare (hl : s.culvert.lock ≠ .idle) : (s.breakLock cause).culvert.bare =
    { s.culvert with lock := .idle, brk := cause, sessionWords := 0 }.bare := by
  rw [State.breakLock_of_held cause hl, State.endSession_bare]
  rfl

theorem State.breakLock_irqBit (hl : s.culvert.lock ≠ .idle) : (s.breakLock cause).irqBit .ctl 5 = true := by
  rw [State.breakLock_of_held cause hl]
  refine (State.endSession_rest _ _ _).irqBit ?_
  exact State.raise_irqBit (s.setCulvert fun c => { c with lock := .idle, brk := cause }) .ctl .lockBroken

theorem State.breakLock_chan (c : Chan) : ((s.breakLock cause).chan c).bare = (s.chan c).bare := by
  have broken : Steps (.culvert :: sessionParts) s (s.breakLock cause) := State.breakLock_steps cause (Steps.refl _ s) rfl
  cases c with
  | n => exact broken.same .chanN
  | k => exact broken.same .chanK

end breakLock

end Sys2Proof.Machine
end

section
/-!
PROOFS. The assertion of HRESET (04 R137, R138; 05 R148, R165; 06 R201).
-/
set_option Elab.async false
namespace Sys2Proof.Machine

/-! ### HRESET (04 R137, R138, 05 R148, R165, 06 R201) -/

/-- The Culvert's host-facing registers as HRESET leaves them. -/
def Culvert.hostCleared (c : Culvert) : Culvert :=
  { c with
    irqmask := 0, kirqmask := 0, winpage := 0, winaddr := 0, autoinc := true, readahead := false, winEdge := false
    more := false, errcause := .none, line := none, pages := 0, timeout := 0, elapsedLatch := 0
    brk := if c.brk = 2 then 2 else 0, hreset := true }

/-- A channel's mask, stagings and latches at 0. -/
def ChanRegs.hostCleared (r : ChanRegs) : ChanRegs :=
  { r with
    bellMsk := 0, stBellOut := 0, stBellIn := 0, stBellMsk := 0, stMboxOut := 0, laBellOut := 0, laBellIn := 0
    laBellMsk := 0, laMboxOut := 0, laMboxIn := 0 }

/-- A waiting inbound message in the re-post holder (06 R201). -/
def ChanRegs.withdrawn (r : ChanRegs) : ChanRegs :=
  { r with repost := some r.mboxIn, mboxIn := 0, inFull := false, inAborted := true }

/-- A channel after the assertion of HRESET. -/
def ChanRegs.hostReset (r : ChanRegs) : ChanRegs := if r.inFull then r.hostCleared.withdrawn else r.hostCleared

def State.resetSide (s : State) (c : Chan) : State :=
  let s := s.setChan c ChanRegs.hostCleared
  if (s.chan c).inFull then (s.setChan c ChanRegs.withdrawn).raise (chanWindow c) .mboxAbort else s

theorem State.hostReset_eq (s : State) :
    s.hostReset = (((s.breakLock 2).setCulvert Culvert.hostCleared).resetSide .n).resetSide .k := rfl

section resetSide
variable (s : State) (c : Chan)

theorem State.raise_chan (w : Window) (i : Irq) : (s.raise w i).chan c = s.chan c := by cases w <;> cases c <;> rfl

theorem State.resetSide_chan : (s.resetSide c).chan c = (s.chan c).hostReset := by
  have cleared : ((s.setChan c ChanRegs.hostCleared).chan c).inFull = (s.chan c).inFull := by
    rw [State.setChan_chan]
    rfl
  unfold State.resetSide ChanRegs.hostReset
  dsimp only
  rw [cleared]
  split
  · rw [State.raise_chan, State.setChan_chan, State.setChan_chan]
  · rw [State.setChan_chan]

theorem State.resetSide_chan_ne {d : Chan} (h : d ≠ c) : (s.resetSide c).chan d = s.chan d := by
  unfold State.resetSide
  dsimp only
  split
  · rw [State.raise_chan, State.setChan_chan_ne _ _ h, State.setChan_chan_ne _ _ h]
  · rw [State.setChan_chan_ne _ _ h]

theorem State.resetSide_steps : Steps [.irq, .chanN, .chanK] s (s.resetSide c) := by
  have cleared : Steps [.irq, .chanN, .chanK] s (s.setChan c ChanRegs.hostCleared) :=
    State.setChan_chan_steps c _ (Steps.refl _ s) (fun _ => ⟨rfl, rfl⟩) rfl
  exact Steps.ite (State.raise_steps _ _ (State.setChan_chan_steps c _ cleared (fun _ => ⟨rfl, rfl⟩) rfl) rfl) cleared

end resetSide

theorem State.hostReset_steps_of_cleared (s : State) :
    Steps [.irq, .chanN, .chanK] ((s.breakLock 2).setCulvert Culvert.hostCleared) s.hostReset := by
  rw [State.hostReset_eq]
  exact ((State.resetSide_steps _ .n).step (State.resetSide_steps _ .k) rfl)

theorem State.hostReset_bare (s : State) : s.hostReset.culvert.bare = (s.breakLock 2).culvert.hostCleared.bare :=
  s.hostReset_steps_of_cleared.same .culvert

theorem State.hostReset_chan (s : State) (c : Chan) : (s.hostReset).chan c = ((s.breakLock 2).chan c).hostReset := by
  rw [State.hostReset_eq]
  cases c with
  | n => rw [State.resetSide_chan_ne _ _ (by decide), State.resetSide_chan]; rfl
  | k => rw [State.resetSide_chan, State.resetSide_chan_ne _ _ (by decide)]; rfl

/-- What the assertion of HRESET leaves of a channel whose lasting registers are those of `r`. -/
theorem ChanRegs.hostReset_of_bare {r q : ChanRegs} (h : q.bare = r.bare) :
    q.hostReset.bellMsk = 0 ∧ q.hostReset.inFull = false ∧ q.hostReset.stBellOut = 0 ∧ q.hostReset.stBellIn = 0 ∧
      q.hostReset.stBellMsk = 0 ∧ q.hostReset.stMboxOut = 0 ∧ q.hostReset.laBellOut = 0 ∧ q.hostReset.laBellIn = 0 ∧
      q.hostReset.laBellMsk = 0 ∧ q.hostReset.laMboxOut = 0 ∧ q.hostReset.laMboxIn = 0 ∧
      q.hostReset.inAborted = (r.inAborted || r.inFull) ∧
      q.hostReset.repost = (if r.inFull then some r.mboxIn else r.repost) ∧
      q.hostReset.outFull = r.outFull ∧ q.hostReset.bellOut = r.bellOut := by
  have full : q.inFull = r.inFull := (congrArg ChanRegs.inFull h :)
  have aborted : q.inAborted = r.inAborted := (congrArg ChanRegs.inAborted h :)
  have repost : q.repost = r.repost := (congrArg ChanRegs.repost h :)
  have pointer : q.mboxIn = r.mboxIn := (congrArg ChanRegs.mboxIn h :)
  have outFull : q.outFull = r.outFull := (congrArg ChanRegs.outFull h :)
  have bellOut : q.bellOut = r.bellOut := (congrArg ChanRegs.bellOut h :)
  rw [← full, ← aborted, ← repost, ← pointer, ← outFull, ← bellOut, ChanRegs.hostReset]
  cases waits : q.inFull <;> simp [ChanRegs.hostCleared, ChanRegs.withdrawn, waits]

/-- BREAK of an older break is cleared where HRESET finds no lock (05 R165). -/
def State.staleBreakCleared (s : State) : State :=
  if s.culvert.lock = .idle then s.setCulvert fun c => { c with brk := 0 } else s

theorem exec_hresetAssert {s : State} (hr : s.released = true) (hh : s.culvert.hreset = false) :
    exec .hresetAssert s = .next s.staleBreakCleared.hostReset := by
  show execHresetAssert s = _
  simp only [execHresetAssert, hh, hr, Bool.false_eq_true, if_false, if_true]
  rfl

/-- The lock's end under HRESET. -/
theorem State.hresetBreak (s : State) : ((s.staleBreakCleared).breakLock 2).culvert.lock = .idle ∧
    ((s.staleBreakCleared).breakLock 2).culvert.brk = (if s.culvert.lock = .idle then 0 else 2) ∧
    (s.culvert.lock ≠ .idle → ((s.staleBreakCleared).breakLock 2).irqBit .ctl 5 = true) ∧
    ∀ c, (((s.staleBreakCleared).breakLock 2).chan c).bare = (s.chan c).bare := by
  by_cases hl : s.culvert.lock = .idle
  · have cleared : s.staleBreakCleared = s.setCulvert fun c => { c with brk := 0 } := if_pos hl
    have idle : s.staleBreakCleared.culvert.lock = .idle := by rw [cleared]; exact hl
    rw [State.breakLock_of_idle 2 idle, cleared, if_pos hl]
    exact ⟨hl, rfl, fun h => absurd hl h, fun c => by cases c <;> rfl⟩
  · have same : s.staleBreakCleared = s := if_neg hl
    have broken := State.breakLock_bare 2 hl
    rw [same, if_neg hl]
    exact ⟨(congrArg Culvert.lock broken :), (congrArg Culvert.brk broken :), fun _ => State.breakLock_irqBit 2 hl,
      State.breakLock_chan 2⟩

/-- Settles O13: the lock by `breakLock`, the registers by `hostCleared`, each channel by `ChanRegs.hostReset`. -/
theorem hostResetClearsTheHostSide : Obligations.HostResetClearsTheHostSide := by
  refine ⟨fun s hr hh => ?_, fun s => rfl⟩
  have h := exec_hresetAssert hr hh
  obtain ⟨lock, brk, raised, chans⟩ := s.hresetBreak
  have regs := s.staleBreakCleared.hostReset_bare
  have cut : s.staleBreakCleared.hostReset.culvert.hreset = true := (congrArg Culvert.hreset regs :)
  refine ⟨_, h, ?_, (congrArg Culvert.irqmask regs :), (congrArg Culvert.kirqmask regs :),
    (congrArg Culvert.winpage regs :), (congrArg Culvert.winaddr regs :), (congrArg Culvert.autoinc regs :),
    (congrArg Culvert.readahead regs :),
    (congrArg Culvert.winEdge regs :), (congrArg Culvert.errcause regs :), (congrArg Culvert.more regs :),
    (congrArg Culvert.line regs :), (congrArg Culvert.lock regs).trans lock, ?_, fun held => ?_, fun c => ?_,
    only_parts_of_exec h⟩
  · simp [State.busServed, cut]
  · refine (congrArg Culvert.brk regs).trans ?_
    show (if (s.staleBreakCleared.breakLock 2).culvert.brk = 2 then 2 else 0) = _
    rw [brk]
    split <;> rfl
  · exact s.staleBreakCleared.hostReset_steps_of_cleared.irqBit (w := .ctl) (raised held)
  · rw [State.hostReset_chan]
    exact ChanRegs.hostReset_of_bare (chans c)

end Sys2Proof.Machine
end

section
/-!
PROOFS. A lock that times out (04 R131, R141): its session need not be the only configuration change, since the rows
written under it may stop a hedge bus on which a HEAD-RETIRE waits (15 R461, R482).
-/
set_option Elab.async false
namespace Sys2Proof.Machine

/-! ### Configuration changes that a bus stop counts (15 R482, 08 R230) -/

theorem State.newDigest_changes (s : State) : s.newDigest.settings.changes = s.settings.changes := by
  unfold State.newDigest
  split <;> rfl

theorem Steps.changes {ps : List Part} {s t : State} (h : Steps ps s t) (hc : ps.contains .changes = false := by rfl) :
    t.settings.changes = s.settings.changes :=
  (h.same .changes hc).1

theorem State.configChange_changes (s : State) (c : Chan) (code : Nat) :
    (s.configChange c code).settings.changes = s.settings.changes + 1 := by
  have recorded : Steps [.journal] (s.noteChange s.now).newDigest (s.configChange c code) :=
    State.record_steps _ _ _ _ (Steps.refl _ _) rfl
  rw [recorded.changes, State.newDigest_changes]
  rfl

/-- A HEAD-RETIRE that takes effect is one configuration change. -/
theorem State.retireHead_changes (s : State) (b : BusNo) (d : HeadNo) (x : Taken) :
    (s.retireHead b d x).settings.changes = s.settings.changes + 1 := by
  unfold State.retireHead
  dsimp only
  have replied (u : State) (c : Chan) (n m : Nat) (g : Half) (l : List Byte) :
      (u.reply c n m g l).settings.changes = u.settings.changes :=
    (State.reply_steps (ps := [.replies]) c n m g l (Steps.refl _ u) rfl).changes
  rw [replied, State.configChange_changes]
  refine congrArg (· + 1) ?_
  have dropped : Steps [.mem, .pool, .draws, .irq, .bells, .ports, .tx, .sluice, .lamps, .buses, .heads, .pair, .journal,
      .tag, .inject] s (((s.updHead b d fun d => { d with state := hsRetired, attn := false }).updBus b fun v =>
        v.dropHead d).updBus b fun v => { v with setLamps := v.setLamps.filter fun c => decide (c.head ≠ d) }) :=
    State.updBus_steps b _ (State.updBus_steps b _ (State.updHead_steps b d _ (Steps.refl _ s) rfl) rfl) rfl
  refine (Steps.ite dropped (State.eachLamp_steps _ dropped fun u l hu => ?_)).changes
  exact Steps.ite (State.changeLamp_steps l _ _ _ hu rfl) hu

section stopBus
variable (s : State) (b : BusNo)

theorem State.endRetire_changes_ge : s.settings.changes ≤ (s.endRetire b).settings.changes := by
  unfold State.endRetire
  split
  · rw [State.retireHead_changes]
    exact Nat.le_succ _
  · exact Nat.le_refl _

theorem State.endRetire_changes {x : HeadNo × Taken} (hr : (s.bus b).retire = some x) (he : (s.bus b).exchange = none) :
    (s.endRetire b).settings.changes = s.settings.changes + 1 := by
  rw [State.endRetire, hr, he]
  exact State.retireHead_changes _ _ _ _

/-- The bus with its commands forgotten, in the state in which it goes on. -/
def State.forgetBus (f : Bus → Bus) : State := (s.unattend b).updBus b f

theorem State.forgetBus_steps (f : Bus → Bus) : Steps [.buses, .heads] s (s.forgetBus b f) :=
  State.updBus_steps b _ (State.unattend_steps b (Steps.refl _ s) rfl) rfl

theorem State.forgetBus_bus (f : Bus → Bus) : (s.forgetBus b f).bus b = f (s.bus b) := by
  have kept : (s.unattend b).buses = s.buses := (State.unattend_steps (ps := [.heads]) b (Steps.refl _ s) rfl).same .buses
  show (upd (s.unattend b).buses b f).get b = f (s.buses.get b)
  rw [upd_get_self, kept]

/-- A bus that stops, and one that begins its join (03 Table - Modes, 15 R461). -/
def Bus.stop (v : Bus) : Bus := { v.clear with state := .stopped, setLamps := [] }
def Bus.join (v : Bus) : Bus := { v.clear with state := .joining, rollCall := some true }

theorem State.stopBus_eq : s.stopBus b = (s.forgetBus b Bus.stop).endRetire b := rfl

theorem State.beginJoin_eq : s.beginJoin b =
    if (s.hedgePort b).isSome then (s.forgetBus b Bus.join).endRetire b else s.stopBus b := rfl

theorem State.stopBus_changes_ge : s.settings.changes ≤ (s.stopBus b).settings.changes := by
  rw [State.stopBus_eq, ← (s.forgetBus_steps b Bus.stop).changes]
  exact State.endRetire_changes_ge _ b

/-- Stopping a bus on which a HEAD-RETIRE waits is one configuration change. -/
theorem State.stopBus_changes {x : HeadNo × Taken} (hr : (s.bus b).retire = some x) :
    (s.stopBus b).settings.changes = s.settings.changes + 1 := by
  have bus := s.forgetBus_bus b Bus.stop
  rw [State.stopBus_eq, State.endRetire_changes _ b ((congrArg Bus.retire bus).trans hr) (congrArg Bus.exchange bus),
    (s.forgetBus_steps b Bus.stop).changes]

theorem State.beginJoin_changes_ge : s.settings.changes ≤ (s.beginJoin b).settings.changes := by
  rw [State.beginJoin_eq]
  split
  · rw [← (s.forgetBus_steps b Bus.join).changes]
    exact State.endRetire_changes_ge _ b
  · exact s.stopBus_changes_ge b

end stopBus

/-- One bus as a row makes or unmakes its master (15 R461). -/
def State.hedgeRoleOf (s : State) (b : BusNo) : State :=
  if !(s.hedgePort b).isSome && decide ((s.bus b).state ≠ .stopped) then s.stopBus b
  else if (s.hedgePort b).isSome && decide ((s.bus b).state = .stopped) && s.hedgeOn b then s.beginJoin b
  else s

theorem State.hedgeRole_eq (s : State) : s.hedgeRole = s.eachBus State.hedgeRoleOf := rfl

theorem State.hedgeRoleOf_changes_ge (s : State) (b : BusNo) :
    s.settings.changes ≤ (s.hedgeRoleOf b).settings.changes := by
  unfold State.hedgeRoleOf
  split
  · exact s.stopBus_changes_ge b
  · split
    · exact s.beginJoin_changes_ge b
    · exact Nat.le_refl _

theorem State.foldl_hedgeRoleOf_changes_ge (s : State) (l : List BusNo) :
    s.settings.changes ≤ (l.foldl State.hedgeRoleOf s).settings.changes := by
  induction l generalizing s with
  | nil => exact Nat.le_refl _
  | cons b l ih => exact (s.hedgeRoleOf_changes_ge b).trans (ih _)

/-- A bus slot 0 without a master, on which a HEAD-RETIRE waits, is stopped with one configuration change. -/
theorem State.hedgeRole_changes {s : State} {x : HeadNo × Taken} (hm : s.hedgePort 0 = none)
    (hs : (s.bus 0).state ≠ .stopped) (hr : (s.bus 0).retire = some x) :
    s.settings.changes + 1 ≤ s.hedgeRole.settings.changes := by
  have stops : s.hedgeRoleOf 0 = s.stopBus 0 := by simp [State.hedgeRoleOf, hm, hs]
  rw [State.hedgeRole_eq, State.eachBus, List.finRange_succ, List.foldl_cons, stops, ← s.stopBus_changes 0 hr]
  exact State.foldl_hedgeRoleOf_changes_ge _ _

/-! ### Rows that are in force already -/

theorem State.takeLampRows_of_taken {s : State}
    (h : ∀ l : LampNo, (s.lamp l).row.toNat = s.memField (lampRowAt l.val) 4 / 64 * 64) : s.takeLampRows = s := by
  unfold State.takeLampRows State.eachLamp
  refine List.foldl_fixed' (fun l => ?_) _
  exact if_pos (.inl (h l))

theorem State.rxBoundary_of_taken {s : State} {p : PortNo} (hw : s.engine.accepted = []) (hp : (s.port p).parking = false)
    (ha : (s.port p).rxAdopt = false) (hr : rowFields (s.port p).rxRow = rowFields (s.portRow p)) :
    s.rxBoundary p = s := by
  simp [State.rxBoundary, hw, hp, ha, hr]

theorem State.adoptTx_of_taken {s : State} {p : PortNo} (ha : (s.port p).txAdopt = false)
    (hr : rowFields (s.port p).txRow = rowFields (s.portRow p)) : s.adoptTx p = s := by
  simp [State.adoptTx, ha, hr]

theorem State.memField_of_empty {s : State} (h : s.mem = []) (a n : Nat) : s.memField a n = 0 := by
  have zeros (n : Nat) : fromLe (List.replicate n (0 : Byte)) = 0 := by
    induction n with
    | zero => rfl
    | succ n ih => rw [List.replicate_succ, fromLe, ih]; rfl
  have bytes : Memory.slice [] a n = List.replicate n (0 : Byte) := by
    rw [Memory.slice_eq Memory.wf_nil]
    exact (List.map_const' ..).trans (by rw [List.length_range]; rfl)
  rw [State.memField, State.memBytes, h, bytes, zeros]

theorem State.hedgePort_of_no_master {s : State} (h : ∀ p, (s.port p).rx.rx ≠ .master) (b : BusNo) :
    s.hedgePort b = none := by
  unfold State.hedgePort
  split
  · rfl
  · exact if_neg fun master => h _ master.1

/-- Every row of the tables is 0 and in force, and no command is accepted. -/
structure State.ZeroRows (s : State) : Prop where
  mem : s.mem = []
  accepted : s.engine.accepted = []
  port : ∀ p, s.port p = { Port.reset with rxRow := 0, txRow := 0 }
  lamp : ∀ l, s.lamp l = Lamp.reset

section zeroRows
variable {s : State} (h : s.ZeroRows)
include h

theorem State.ZeroRows.portRow (p : PortNo) : s.portRow p = 0 := by
  rw [State.portRow, State.memField_of_empty h.mem]
  rfl

theorem State.ZeroRows.takeLampRows : s.takeLampRows = s :=
  State.takeLampRows_of_taken fun l => by rw [State.memField_of_empty h.mem, h.lamp]; rfl

theorem State.ZeroRows.takePort (p : PortNo) : (s.rxBoundary p).adoptTx p = s := by
  have row := h.portRow p
  have port := h.port p
  rw [State.rxBoundary_of_taken h.accepted (by rw [port]; rfl) (by rw [port]; rfl) (by rw [port, row]),
    State.adoptTx_of_taken (by rw [port]; rfl) (by rw [port, row])]

theorem State.ZeroRows.takePorts :
    (s.eachPort fun s p => if s.rowsInForce then (s.rxBoundary p).adoptTx p else s) = s := by
  unfold State.eachPort
  refine List.foldl_fixed' (fun p => ?_) _
  rw [h.takePort p, ite_self]

theorem State.ZeroRows.hedgePort (b : BusNo) : s.hedgePort b = none :=
  State.hedgePort_of_no_master (fun p => by rw [h.port p]; decide) b

end zeroRows

/-- Where the rows are in force already, taking them comes down to the buses and heads. -/
theorem State.takeRows_of_zeroRows {s : State} (h : s.ZeroRows) (up : s.engine.up = true) (hd : s.mode ≠ .doze) :
    ∃ f, s.takeRows = (s.setSieve f).hedgeRole.headsConfigured := by
  refine ⟨fun v => { v with activeCrc := crc32 (s.memBytes (sieveRowAt v.bankB 0) 8192) }, ?_⟩
  generalize sieve : s.setSieve (fun v => { v with activeCrc := crc32 (s.memBytes (sieveRowAt v.bankB 0) 8192) }) = t
  have zero : t.ZeroRows := by
    rw [← sieve]
    exact ⟨h.mem, h.accepted, h.port, h.lamp⟩
  have runs : (t.engine.up && decide (t.mode ≠ .doze)) = true := by
    rw [← sieve, Bool.and_eq_true, decide_eq_true_eq]
    exact ⟨up, hd⟩
  rw [State.takeRows]
  simp only [sieve, runs, if_true]
  rw [zero.takeLampRows, zero.takePorts]

/-! ### The session that a timeout ends (04 R131, R141) -/

theorem exec_lockTimeout {s : State} (hr : s.released = true) (hl : s.culvert.lock = .granted) :
    exec .lockTimeout s = .next (s.breakLock 1) := by
  show execLockTimeout s = _
  simp [execLockTimeout, hr, hl]

/-- A session in which a write took effect counts one change, and then what its rows count as they are taken. -/
theorem State.endSession_changes {s : State} (pages : Byte) (broken : Bool) (hw : s.culvert.sessionWords ≠ 0)
    (hm : s.mode.stopped = false) : (s.endSession pages broken).settings.changes =
      (s.closeSession.noteChange s.now).takeRows.settings.changes := by
  unfold State.endSession
  dsimp only
  rw [if_neg hw]
  have running : ((s.setCulvert fun c => { c with sessionWords := 0 }).noteChange
      (s.setCulvert fun c => { c with sessionWords := 0 }).now).mode.stopped = false := hm
  have recorded (u : State) (kind flags : Byte) (now : Stamp) (body : List Byte) :
      (u.keepRecord kind flags now body).settings.changes = u.settings.changes :=
    (State.keepRecord_steps (ps := [.journal]) kind flags now body (Steps.refl _ u) rfl).changes
  rw [running, if_neg Bool.false_ne_true, recorded, State.newDigest_changes]
  rfl

/-- RUN with every row of the tables 0 and in force, bus slot 0 without a master but still polling, a POLL outstanding
and a HEAD-RETIRE that waits for its end (15 R482), and a granted lock under which one word was written. -/
def retireWaits : State :=
  { State.reset with
    power := { Power.reset with completing := false }
    modes := { ModeRegs.reset with mode := .run, target := .run, busy := false }
    culvert := { Culvert.reset with lock := .granted, pages := 0x80, sessionWords := 1 }
    engine := { Engine.reset with up := true }
    ports := Vector.replicate 48 { Port.reset with rxRow := 0, txRow := 0 }
    buses := upd (Vector.replicate 8 Bus.reset) 0 fun v => { v with
      state := .polling
      exchange := some { cmd := hedgeCmd 4 tyPoll [], toggle := true, fails := 0 }
      retire := some (4, { ch := .n, code := 0x0504, tag := 7, payload := [0, 5], malformed := false, stamp := 0
                           doubt := false }) } }

theorem get_replicate {α : Type} {n : Nat} (a : α) (i : Fin n) : (Vector.replicate n a).get i = a := by
  show (Vector.replicate n a)[i.val] = a
  simp

/-- The stop of bus slot 0 is a second change beside the session's. -/
theorem retireWaits_changes : retireWaits.settings.changes + 2 ≤ (retireWaits.breakLock 1).settings.changes := by
  rw [State.breakLock_of_held 1 (by decide), State.endSession_changes _ _ (by decide) rfl]
  generalize ended : State.noteChange _ _ = s
  have zero : s.ZeroRows := by
    rw [← ended]
    exact ⟨rfl, rfl, get_replicate _, get_replicate _⟩
  have counted : s.settings.changes = retireWaits.settings.changes + 1 := by rw [← ended]; rfl
  have bus : s.bus 0 = retireWaits.bus 0 := by rw [← ended]; rfl
  obtain ⟨f, rows⟩ := State.takeRows_of_zeroRows zero (by rw [← ended]; rfl) (by rw [← ended]; decide)
  have configured (u : State) : u.headsConfigured.settings.changes = u.settings.changes :=
    (State.headsConfigured_steps (ps := [.buses, .heads]) (Steps.refl _ u) rfl).changes
  have stopped : s.settings.changes + 1 ≤ (s.setSieve f).hedgeRole.settings.changes :=
    State.hedgeRole_changes (s := s.setSieve f) (zero.hedgePort 0) (by show (s.bus 0).state ≠ _; rw [bus]; decide)
      (by show (s.bus 0).retire = _; rw [bus]; rfl)
  rw [counted] at stopped
  rw [rows, configured]
  exact stopped

/-- Refutes O21: in `retireWaits` the rows written under the lock stop a bus as the session ends, so that the HEAD-RETIRE
that waits there completes and counts a second configuration change. -/
theorem not_lockTimeoutBreaksTheLock : ¬ Obligations.LockTimeoutBreaksTheLock := by
  rintro ⟨broken, -⟩
  obtain ⟨t, h, -, -, -, -, -, -, -, one, -⟩ := broken retireWaits rfl rfl
  rw [exec_lockTimeout rfl rfl] at h
  have ended : retireWaits.breakLock 1 = t := Host.Outcome.next.inj h
  obtain ⟨counted, -⟩ := one (by decide)
  have two := retireWaits_changes
  rw [ended, counted] at two
  omega

end Sys2Proof.Machine
end

section
/-!
PROOFS. Host writes and reads of the status, split, load and mailbox registers (05 R147, R157-R161, R168; 06 R187, R202;
07 R208, R209).
-/
set_option Elab.async false
namespace Sys2Proof.Machine

/-! ### IRQSTAT and IRQFORCE (05 R157, R158) -/

theorem exec_irqstatWrite {s : State} (hb : s.busServed = true) (v : Half) :
    exec (.irqstatWrite v) s = .next (s.clearIrq v) := congrArg _ (State.onBus_of_served hb _)

theorem exec_irqforceWrite {s : State} (hb : s.busServed = true) (v : Half) : exec (.irqforceWrite v) s =
    .next (s.setCulvert fun c => { c with irqstat := c.irqstat ||| (v &&& 0x07FF) }) :=
  congrArg _ (State.onBus_of_served hb _)

/-- MORE goes with the cause where CULVERT_ERR is written as 1. -/
theorem State.clearIrq_eq (s : State) (v : Half) : s.clearIrq v = s.setCulvert fun c => { c with
    irqstat := c.irqstat &&& ~~~v, errcause := if v.getLsbD 4 then .none else c.errcause
    more := if v.getLsbD 4 then false else c.more } := by
  unfold State.clearIrq
  cases v.getLsbD 4 <;> simp

/-- Settles O14: the two writes as the register's rows have them. -/
theorem irqstatClearsAndIrqforceSets : Obligations.IrqstatClearsAndIrqforceSets :=
  ⟨fun s v hb => (exec_irqstatWrite hb v).trans (congrArg Host.Outcome.next (s.clearIrq_eq v)),
    fun _ v hb => exec_irqforceWrite hb v⟩

/-! ### Updates of a channel -/

theorem State.setChan_congr {s : State} {c : Chan} {f g : ChanRegs → ChanRegs} (h : f (s.chan c) = g (s.chan c)) :
    s.setChan c f = s.setChan c g := by
  cases c with
  | n => exact congrArg (fun r => { s with chanN := r }) h
  | k => exact congrArg (fun r => { s with chanK := r }) h

theorem State.setChan_setChan (s : State) (c : Chan) (f g : ChanRegs → ChanRegs) :
    (s.setChan c f).setChan c g = s.setChan c fun r => g (f r) := by
  cases c <;> rfl

theorem otherChan_ne (c : Chan) : otherChan c ≠ c := by cases c <;> decide

@[simp] theorem State.setChan_otherChan (s : State) (c : Chan) (f : ChanRegs → ChanRegs) :
    (s.setChan c f).chan (otherChan c) = s.chan (otherChan c) := s.setChan_chan_ne f (otherChan_ne c)

/-! ### Split registers (05 R147, R159, R161) -/

/-- The committed value: the written high part above the staged low part. -/
theorem splitWord_eq (v low : Half) : (v ++ low : Word) = BitVec.ofNat 32 (65536 * v.toNat + low.toNat) := by
  apply BitVec.eq_of_toNat_eq
  have := v.isLt
  have := low.isLt
  rw [BitVec.toNat_append, ← Nat.shiftLeft_add_eq_or_of_lt low.isLt, BitVec.toNat_ofNat, Nat.shiftLeft_eq]
  omega

theorem exec_splitLowWrite {s : State} (hb : s.busServed = true) (c : Chan) (r : SplitReg) (v : Half) :
    exec (.splitLowWrite c r v) s = .next (s.splitLow c r v) := congrArg _ (State.onBus_of_served hb _)

theorem exec_splitHighWrite {s : State} (hb : s.busServed = true) (c : Chan) (r : SplitReg) (v : Half) :
    exec (.splitHighWrite c r v) s = .next (s.splitHigh c r v) := congrArg _ (State.onBus_of_served hb _)

theorem exec_mboxPost {s : State} (hb : s.busServed = true) (c : Chan) (v : Half) :
    exec (.mboxPost c v) s = .next (s.splitHigh c .mboxOut v) := if_pos hb

section splitHigh
variable (s : State) (c : Chan) (v : Half)

theorem State.splitHigh_bellOut : s.splitHigh c .bellOut v = s.setChan c fun r => { r with
    bellOut := r.bellOut ||| BitVec.ofNat 8 r.stBellOut.toNat, stBellOut := 0
    slots := if r.stBellOut.getLsbD 4 then r.slots.map fun x => if x = .taken then .rung else x else r.slots } := by
  simp only [State.splitHigh, BitVec.ofNat_toNat]

theorem State.splitHigh_bellIn : s.splitHigh c .bellIn v = s.setChan c fun r => { r with
    bellIn := r.bellIn &&& ~~~(BitVec.ofNat 32 (65536 * v.toNat + r.stBellIn.toNat)), stBellIn := 0 } := by
  simp only [State.splitHigh, splitWord_eq]

theorem State.splitHigh_bellMsk : s.splitHigh c .bellMsk v = s.setChan c fun r => { r with
    bellMsk := BitVec.ofNat 32 (65536 * v.toNat + r.stBellMsk.toNat), stBellMsk := 0 } := by
  simp only [State.splitHigh, splitWord_eq]

variable {s c}

theorem State.splitHigh_posts (hf : (s.chan c).outFull = false) (he : s.engineOff = false) :
    s.splitHigh c .mboxOut v = s.setChan c fun r => { r with
      mboxOut := BitVec.ofNat 32 (65536 * v.toNat + r.stMboxOut.toNat), outFull := true, stMboxOut := 0 } := by
  rw [State.splitHigh, State.postOut, State.setChan_setChan]
  apply State.setChan_congr
  simp only [hf, he, splitWord_eq]
  rfl

theorem State.splitHigh_refuses (h : (s.chan c).outFull = true ∨ s.engineOff = true) :
    s.splitHigh c .mboxOut v = s.setChan c fun r => { r with outRefused := true, stMboxOut := 0 } := by
  have refused : ((s.chan c).outFull || s.engineOff) = true := by simpa using h
  rw [State.splitHigh, State.postOut, State.setChan_setChan]
  apply State.setChan_congr
  rw [if_pos refused]

end splitHigh

/-- Settles O23: the low parts by `splitLow`, the commits by the equation of each register. -/
theorem splitRegistersStageAndCommit : Obligations.SplitRegistersStageAndCommit := by
  refine ⟨fun s c v hb => ?_, fun s c v hb => ?_, fun s c v hb hf he => ?_, fun s c v hb h => ?_⟩
  · have staged (r : SplitReg) := exec_splitLowWrite hb c r v
    exact ⟨staged .bellOut, staged .bellIn, staged .bellMsk, staged .mboxOut⟩
  · simp only [exec_splitHighWrite hb, State.splitHigh_bellOut, State.splitHigh_bellIn, State.splitHigh_bellMsk, and_self]
  · rw [exec_splitHighWrite hb, exec_mboxPost hb, State.splitHigh_posts v hf he]
    exact ⟨rfl, rfl⟩
  · rw [exec_mboxPost hb, State.splitHigh_refuses v h]

/-! ### The load check (05 R168, 07 R208, R209) -/

theorem exec_loadStart {s : State} (hb : s.busServed = true) : exec .loadStart s = .next (s.loadCtl 1) :=
  congrArg _ (State.onBus_of_served hb _)

theorem State.loadCtl_starts {s : State} (hm : s.mode = .load) (hh : s.holding = false) (hi : s.engine.image ≠ .checking) :
    s.loadCtl 1 = s.setEngine fun e => { e with image := .checking, header := some (s.memBytes 0xC0000 64) } := by
  simp [State.loadCtl, hm, hh, hi]

theorem State.loadCtl_ignored {s : State} (v : Half)
    (h : s.mode ≠ .load ∨ s.holding = true ∨ s.engine.image = .checking) : s.loadCtl v = s := by
  unfold State.loadCtl
  rcases h with h | h | h <;> simp [h]

theorem exec_loadStart_ignored {s : State} (h : s.mode ≠ .load ∨ s.holding = true ∨ s.engine.image = .checking) :
    exec .loadStart s = .next s := by
  cases hb : s.busServed with
  | true => rw [exec_loadStart hb, State.loadCtl_ignored 1 h]
  | false => exact congrArg _ (State.onBus_of_cut hb _)

theorem exec_loadCheckEnd {s : State} {h : List Byte} (hi : s.engine.image = .checking) (hh : s.engine.header = some h) :
    exec .loadCheckEnd s = .next (s.setEngine fun e => { e with
      image := if s.loadError h = 0 then .checked else .failed, loadErr := s.loadError h }) := by
  show execLoadCheckEnd s = _
  rw [execLoadCheckEnd, hi, hh]

/-- Settles O24: START and the end of the check, and the check that comes first. -/
theorem imageLoadAndCheck : Obligations.ImageLoadAndCheck :=
  ⟨fun _ hb hm hh hi => (exec_loadStart hb).trans (congrArg Host.Outcome.next (State.loadCtl_starts hm hh hi)),
    fun _ h => exec_loadStart_ignored h, fun _ _ hi hh => exec_loadCheckEnd hi hh, fun _ _ magic => if_pos magic⟩

/-! ### The inbound mailbox (05 R160, 06 R187, R202) -/

/-- A channel whose message the host has read. -/
def ChanRegs.messageRead (r : ChanRegs) : ChanRegs := { r with
  inFull := false, laMboxIn := hiHalf r.mboxIn, inSlot := none
  slots := match r.inSlot with
    | some k => r.slots.set k.val .taken k.isLt
    | none => r.slots }

theorem exec_mboxRead_full {s : State} {c : Chan} (hb : s.busServed = true) (hf : (s.chan c).inFull = true) :
    exec (.mboxRead c) s = .next ((s.setChan c ChanRegs.messageRead).give (loHalf (s.chan c).mboxIn)) := by
  show execMboxRead c s = _
  simp only [execMboxRead, hb, hf]
  rfl

theorem exec_mboxRead_empty {s : State} {c : Chan} (hb : s.busServed = true) (hf : (s.chan c).inFull = false) :
    exec (.mboxRead c) s = .next ((s.setChan c fun r => { r with laMboxIn := 0 }).give 0) := by
  show execMboxRead c s = _
  simp only [execMboxRead, hb, hf]
  rfl

@[simp] theorem State.give_chan (s : State) (v : Half) (c : Chan) : (s.give v).chan c = s.chan c := by cases c <;> rfl

theorem ChanRegs.messageRead_slot {r : ChanRegs} {k : Fin 8} (h : r.inSlot = some k) :
    r.messageRead.slots.get k = .taken := by
  simp only [ChanRegs.messageRead, h]
  show (r.slots.set k.val Slot.taken k.isLt)[k.val] = _
  rw [Vector.getElem_set_self]

theorem ChanRegs.messageRead_slot_ne {r : ChanRegs} {k : Fin 8} (h : r.inSlot ≠ some k) :
    r.messageRead.slots.get k = r.slots.get k := by
  unfold ChanRegs.messageRead
  cases held : r.inSlot with
  | none => rfl
  | some j =>
    have other : j.val ≠ k.val := fun e => h (held.trans (congrArg some (Fin.ext e)))
    show (r.slots.set j.val Slot.taken j.isLt)[k.val] = r.slots[k.val]
    rw [Vector.getElem_set_ne _ _ other]

/-- A channel as the host clears IN_ABORTED and the pointer `w` held for it is posted again (06 R202). -/
def ChanRegs.reposted (r : ChanRegs) (w : Word) : ChanRegs :=
  { r with inAborted := false, mboxIn := w, inFull := true, repost := none }

theorem exec_inAbortedClear {s : State} {c : Chan} {w : Word} (hb : s.busServed = true)
    (ha : (s.chan c).inAborted = true) (hr : (s.chan c).repost = some w) :
    exec (.inAbortedClear c) s =
      .next ((s.setChan c fun r => r.reposted w).raise (chanWindow c) .mboxFull) := by
  have written : (0x1000 : Half).getLsbD 12 = true ∧ (0x1000 : Half).getLsbD 13 = false ∧
    (0x1000 : Half).getLsbD 11 = false := by decide
  obtain ⟨inAborted, outAborted, outRefused⟩ := written
  show execInAbortedClear c s = _
  rw [execInAbortedClear, if_pos hb, State.clearMbox]
  simp only [inAborted, outAborted, outRefused, State.setChan_chan, ha, hr, State.setChan_setChan, Bool.not_false,
    Bool.and_true, Bool.not_true, Bool.and_false]
  rfl

/-- Settles O27: the read of a message by `messageRead`, the empty read, and the pointer posted again. -/
theorem readingMboxinTakesTheMessage : Obligations.ReadingMboxinTakesTheMessage := by
  refine ⟨fun s c hb hf => ?_, fun s c hb hf => ?_, fun s c w hb ha hr => ?_⟩
  · have h := exec_mboxRead_full hb hf
    have read : ((s.setChan c ChanRegs.messageRead).give (loHalf (s.chan c).mboxIn)).chan c =
        (s.chan c).messageRead := by rw [State.give_chan, State.setChan_chan]
    refine ⟨_, h, loHalf_toNat _, ?_, (congrArg ChanRegs.inFull read :), (congrArg ChanRegs.inSlot read :),
      fun k hk => ?_, fun k hk => ?_, (congrArg ChanRegs.mboxIn read :), ?_, only_parts_of_exec h⟩
    · rw [read]
      exact hiHalf_toNat _
    · rw [read]
      exact ChanRegs.messageRead_slot hk
    · rw [read]
      exact ChanRegs.messageRead_slot_ne hk
    · rw [State.give_chan, State.setChan_otherChan]
  · have h := exec_mboxRead_empty hb hf
    have read : ((s.setChan c fun r => { r with laMboxIn := 0 }).give 0).chan c = { s.chan c with laMboxIn := 0 } := by
      rw [State.give_chan, State.setChan_chan]
    exact ⟨_, h, rfl, (congrArg ChanRegs.laMboxIn read :), (congrArg ChanRegs.slots read :), only_parts_of_exec h⟩
  · have h := exec_inAbortedClear hb ha hr
    have posted : ((s.setChan c fun r => r.reposted w).raise (chanWindow c) .mboxFull).chan c =
        (s.chan c).reposted w := by rw [State.raise_chan, State.setChan_chan]
    refine ⟨_, h, (congrArg ChanRegs.mboxIn posted :), (congrArg ChanRegs.inFull posted :),
      (congrArg ChanRegs.repost posted :), (congrArg ChanRegs.inAborted posted :), (congrArg ChanRegs.slots posted :),
      State.raise_irqBit _ _ .mboxFull, ?_, only_parts_of_exec h⟩
    rw [State.raise_chan, State.setChan_otherChan]

end Sys2Proof.Machine
end

section
/-!
PROOFS. The Quickset tag's host port (05 R170-R173; 19 R595-R598): what GO starts, and what the end of a host operation
leaves in the array.
-/
set_option Elab.async false
namespace Sys2Proof.Machine

/-! ### The array's blocks (19 R584) -/

/-- The word that a list of blocks holds for block `b`. -/
def blockWord (l : List (Nat × Word)) (b : Nat) : Word := ((l.find? fun x => decide (x.1 = b)).map Prod.snd).getD 0

theorem Tag.cell_eq (t : Tag) (b : Nat) : t.cell b = blockWord t.blocks b := by
  unfold Tag.cell blockWord
  cases t.blocks.find? fun x => decide (x.1 = b) <;> rfl

theorem blockWord_cons (k : Nat) (v : Word) (r : List (Nat × Word)) (b : Nat) :
    blockWord ((k, v) :: r) b = if k = b then v else blockWord r b := by
  unfold blockWord
  by_cases h : k = b <;> simp [h]

/-- A block below every listed one holds 0. -/
theorem blockWord_below {l : List (Nat × Word)} {b : Nat} (h : ∀ x ∈ l, b < x.1) : blockWord l b = 0 := by
  have none : l.find? (fun x => decide (x.1 = b)) = none :=
    List.find?_eq_none.2 fun x hx => by have := h x hx; simp; omega
  rw [blockWord, none]
  rfl

/-- Inserting a block leaves every other block as it is. -/
theorem blockWord_putBlock_ne {b c : Nat} (w : Word) (l : List (Nat × Word)) (h : c ≠ b) :
    blockWord (putBlock b w l) c = blockWord l c := by
  induction l with
  | nil =>
    rw [putBlock]
    split
    · rfl
    · rw [blockWord_cons, if_neg h.symm]
  | cons x r ih =>
    obtain ⟨k, v⟩ := x
    rw [putBlock]
    by_cases below : k < b
    · rw [if_pos below, blockWord_cons, blockWord_cons, ih]
    · rw [if_neg below]
      by_cases here : k = b
      · have other : ¬k = c := fun e => h (e.symm.trans here)
        rw [if_pos here, blockWord_cons, if_neg other]
        split
        · rfl
        · rw [blockWord_cons, if_neg h.symm]
      · rw [if_neg here]
        split
        · rfl
        · rw [blockWord_cons b, if_neg h.symm]

/-- In an ascending list the inserted block holds its new word. -/
theorem blockWord_putBlock_same {b : Nat} (w : Word) {l : List (Nat × Word)} (h : l.Pairwise fun x y => x.1 < y.1) :
    blockWord (putBlock b w l) b = w := by
  induction l with
  | nil =>
    rw [putBlock]
    split
    · next zero => rw [zero]; rfl
    · rw [blockWord_cons, if_pos rfl]
  | cons x r ih =>
    obtain ⟨k, v⟩ := x
    obtain ⟨above, rest⟩ := List.pairwise_cons.1 h
    rw [putBlock]
    by_cases below : k < b
    · rw [if_pos below, blockWord_cons, if_neg (by omega), ih rest]
    · rw [if_neg below]
      by_cases here : k = b
      · rw [if_pos here]
        split
        · next zero => rw [zero, ← here]; exact blockWord_below above
        · rw [blockWord_cons, if_pos rfl]
      · rw [if_neg here]
        split
        · next zero =>
          rw [zero]
          refine blockWord_below fun x hx => ?_
          rcases List.mem_cons.1 hx with rfl | hx
          · exact Nat.lt_of_le_of_ne (Nat.not_lt.1 below) (Ne.symm here)
          · have : k < x.1 := above x hx
            omega
        · rw [blockWord_cons, if_pos rfl]

theorem Tag.put_cell_ne (t : Tag) {b c : Nat} (w : Word) (h : c ≠ b) : (t.put b w).cell c = t.cell c := by
  rw [Tag.cell_eq, Tag.cell_eq]
  exact blockWord_putBlock_ne w t.blocks h

theorem Tag.put_cell_same {t : Tag} (b : Nat) (w : Word) (h : t.blocks.Pairwise fun x y => x.1 < y.1) :
    (t.put b w).cell b = w := by
  rw [Tag.cell_eq]
  exact blockWord_putBlock_same w h

/-! ### An operation ends (05 R170) -/

@[simp] theorem State.raiseTag_tag (s : State) : s.raiseTag.tag = s.tag :=
  (State.raiseTag_steps (ps := [.irq]) (Steps.refl _ s) rfl).same .tag

theorem State.raiseTag_irqBit {s : State} (hr : s.released = true) : s.raiseTag.irqBit .ctl 9 = true := by
  rw [State.raiseTag, if_pos hr]
  exact s.raise_irqBit .ctl .tagField

@[simp] theorem State.tagEnd_tag (s : State) (err : BitVec 4) : (s.tagEnd err).tag =
    { s.tag with busy := false, done := true, waited := false, err := err, hostOp := none } := by
  rw [State.tagEnd, State.raiseTag_tag, State.setTag_tag]

theorem State.tagEnd_irqBit {s : State} (hr : s.released = true) (err : BitVec 4) :
    (s.tagEnd err).irqBit .ctl 9 = true := State.raiseTag_irqBit hr

theorem State.setTag_released {s : State} (hr : s.released = true) (f : Tag → Tag) : (s.setTag f).released = true := hr

/-- The check of the record changes the tag only in the generation last reported. -/
theorem State.checkRecord_tag (s : State) : ∃ g, s.checkRecord.tag = { s.tag with reported := g } := by
  have rung (u : State) : (u.ring bellTag).tag = u.tag :=
    (State.ring_steps (ps := [.irq, .bells]) bellTag (Steps.refl _ u) rfl).same .tag
  unfold State.checkRecord
  split
  · split
    · exact ⟨_, rfl⟩
    · split
      · exact ⟨_, rfl⟩
      · exact ⟨_, rung _⟩
  · exact ⟨_, rfl⟩

theorem State.checkRecord_irqBit {s : State} {w : Window} {k : Nat} (h : s.irqBit w k = true) :
    s.checkRecord.irqBit w k = true :=
  (State.checkRecord_steps (ps := [.irq, .bells, .tag]) (Steps.refl _ s) rfl).irqBit h

/-! ### GO (05 R170, R171, R173, 19 R596) -/

/-- What GO starts in an idle port whose OP field is already stored. -/
def State.tagStart (s : State) : BitVec 3 → State
  | 0 => s.setTag fun t => { t with
      busy := true, err := 0, waited := !s.tag.writes.isEmpty, hostOp := some (.read t.block.toNat) }
  | 1 => s.setTag fun t => { t with
      busy := true, err := 0, waited := !s.tag.writes.isEmpty, hostOp := some (.write t.block.toNat t.buffer) }
  | 2 => (s.setTag fun t => { t with fieldLock := true }).tagEnd 0
  | 3 => (s.setTag fun t => { t with fieldLock := false }).tagEnd 0
  | _ => s.tagEnd 4

theorem State.tagStart_reserved (s : State) {op : BitVec 3} (ho : 4 ≤ op.toNat) : s.tagStart op = s.tagEnd 4 := by
  unfold State.tagStart
  split
  case h_5 => rfl
  all_goals exact absurd ho (by decide)

section tagGo
variable {s : State} (hb : s.busServed = true)
include hb

theorem State.released_of_busServed : s.released = true := by
  simp only [State.busServed, Bool.and_eq_true] at hb
  exact hb.1.1

theorem State.tagGo_of_busy (hy : s.tag.busy = true) (op : BitVec 3) :
    s.tagGo op = s.setTag fun t => { t with op := op } := by
  simp [State.tagGo, hb, hy]

theorem State.tagGo_of_idle (hi : s.tag.busy = false) (op : BitVec 3) :
    s.tagGo op = (s.setTag fun t => { t with op := op }).tagStart op := by
  simp only [State.tagGo, hb, State.setTag_tag, hi]
  rfl

end tagGo

/-- Settles O29: each operation code's branch of `tagStart`, and GO while BUSY. -/
theorem tagHostPortStarts : Obligations.TagHostPortStarts := by
  refine ⟨fun s hb hi => ?_, fun s hb hi => ?_, fun s hb hy => ?_⟩
  · have started (op : BitVec 3) := State.tagGo_of_idle hb hi op
    exact ⟨congrArg Host.Outcome.next (started 0), congrArg Host.Outcome.next (started 1)⟩
  · have ends (f : Tag → Tag) (err : BitVec 4) : ((s.setTag f).tagEnd err).irqBit .ctl 9 = true :=
      State.tagEnd_irqBit (State.setTag_released (State.released_of_busServed hb) f) err
    have lock : exec .tagLock s = .next ((s.setTag fun t => { t with op := 2, fieldLock := true }).tagEnd 0) :=
      congrArg Host.Outcome.next (State.tagGo_of_idle hb hi 2)
    have unlock : exec .tagUnlock s = .next ((s.setTag fun t => { t with op := 3, fieldLock := false }).tagEnd 0) :=
      congrArg Host.Outcome.next (State.tagGo_of_idle hb hi 3)
    refine ⟨⟨_, lock, State.tagEnd_tag _ _, ends _ _, only_parts_of_exec lock⟩,
      ⟨_, unlock, State.tagEnd_tag _ _, ends _ _, only_parts_of_exec unlock⟩, fun op ho => ?_⟩
    have reserved : exec (.tagBadOp op) s = .next ((s.setTag fun t => { t with op := op }).tagEnd 4) :=
      congrArg Host.Outcome.next ((State.tagGo_of_idle hb hi op).trans (State.tagStart_reserved _ ho))
    exact ⟨_, reserved, State.tagEnd_tag _ _, ends _ _, only_parts_of_exec reserved⟩
  · have stored (op : BitVec 3) := State.tagGo_of_busy hb hy op
    exact ⟨congrArg Host.Outcome.next (stored 0), congrArg Host.Outcome.next (stored 1),
      congrArg Host.Outcome.next (stored 2), congrArg Host.Outcome.next (stored 3)⟩

/-! ### The end of a host operation (05 R170-R172, 19 R595, R598) -/

/-- The array after a WRITE that the port lets through, with the word that the block then holds. -/
def State.blockWritten (s : State) (b : Nat) (w : Word) (err : BitVec 4) : State :=
  ((s.setTag fun t => t.put b w).tagEnd err).checkRecord

section tagWriteEnd
variable (s : State) {b : Nat} (d : Word)

theorem State.tagWriteEnd_region (v : Bool) (hb : 1024 ≤ b) : s.tagWriteEnd b d v = s.tagEnd 1 := if_pos hb

variable {s}

theorem State.tagWriteEnd_locked (v : Bool) (hb : b < 1024) (hl : s.tag.locked b = true) :
    s.tagWriteEnd b d v = s.tagEnd 2 := by
  rw [State.tagWriteEnd, if_neg (by omega), if_pos hl]

theorem State.tagWriteEnd_verified (hb : b < 1024) (hl : s.tag.locked b = false) :
    s.tagWriteEnd b d true = s.blockWritten b d 0 := by
  rw [State.tagWriteEnd, if_neg (by omega), hl]
  rfl

theorem State.tagWriteEnd_mismatch (hb : b < 1024) (hl : s.tag.locked b = false) :
    s.tagWriteEnd b d false = s.draw.2.blockWritten b (BitVec.ofNat 32 s.draw.1) 3 := by
  rw [State.tagWriteEnd, if_neg (by omega), hl]
  rfl

end tagWriteEnd

/-- The host port's operation has ended with `err`, and TAG_FIELD stands. -/
def TagOpEnded (t : State) (err : BitVec 4) : Prop :=
  t.tag.busy = false ∧ t.tag.done = true ∧ t.tag.err = err ∧ t.irqBit .ctl 9 = true

theorem State.tagEnd_ended {s : State} (hr : s.released = true) (err : BitVec 4) : TagOpEnded (s.tagEnd err) err := by
  rw [TagOpEnded, State.tagEnd_tag]
  exact ⟨rfl, rfl, rfl, State.tagEnd_irqBit hr err⟩

theorem State.blockWritten_ended {s : State} (hr : s.released = true) (b : Nat) (w : Word) (err : BitVec 4) :
    TagOpEnded (s.blockWritten b w err) err := by
  obtain ⟨g, checked⟩ := ((s.setTag fun t => t.put b w).tagEnd err).checkRecord_tag
  have raised : ((s.setTag fun t => t.put b w).tagEnd err).irqBit .ctl 9 = true :=
    State.tagEnd_irqBit (State.setTag_released hr _) err
  rw [TagOpEnded, State.blockWritten, checked, State.tagEnd_tag]
  exact ⟨rfl, rfl, rfl, State.checkRecord_irqBit raised⟩

theorem State.blockWritten_cell (s : State) (b : Nat) (w : Word) (err : BitVec 4) (c : Nat) :
    (s.blockWritten b w err).tag.cell c = (s.tag.put b w).cell c := by
  obtain ⟨g, checked⟩ := ((s.setTag fun t => t.put b w).tagEnd err).checkRecord_tag
  rw [State.blockWritten, checked, State.tagEnd_tag]
  rfl

/-- The port ends a WRITE with one of its four errors. -/
theorem State.tagWriteEnd_ended {s : State} (hr : s.released = true) (b : Nat) (d : Word) (v : Bool) :
    ∃ err, TagOpEnded (s.tagWriteEnd b d v) err := by
  by_cases hb : 1024 ≤ b
  · exact ⟨1, s.tagWriteEnd_region d v hb ▸ State.tagEnd_ended hr 1⟩
  · have hb : b < 1024 := by omega
    cases hl : s.tag.locked b with
    | true => exact ⟨2, State.tagWriteEnd_locked d v hb hl ▸ State.tagEnd_ended hr 2⟩
    | false =>
      cases v with
      | true => exact ⟨0, State.tagWriteEnd_verified d hb hl ▸ State.blockWritten_ended hr b d 0⟩
      | false => exact ⟨3, State.tagWriteEnd_mismatch d hb hl ▸ State.blockWritten_ended (s := s.draw.2) hr b _ 3⟩

/-- The effect of the end of an operation that nothing holds up. -/
def State.hostOpEnd (s : State) (v : Bool) : HostTagOp → State
  | .read b => ((s.tagRead b).2.setTag fun t => { t with buffer := (s.tagRead b).1 }).tagEnd 0
  | .write b d => s.tagWriteEnd b d v

theorem exec_tagHostOpDone {s : State} {op : HostTagOp} (v : Bool) (ho : s.tag.hostOp = some op)
    (hw : s.tag.waited = false ∨ s.tag.writes = []) :
    exec (.tagHostOpDone v) s = .next ((s.hostOpEnd v op).setTag fun t => { t with waited := s.tag.waited }) := by
  have free : (s.tag.waited && !s.tag.writes.isEmpty) = false := by rcases hw with h | h <;> simp [h]
  show execTagHostOpDone v s = _
  simp only [execTagHostOpDone, ho, free]
  cases op <;> rfl

theorem exec_tagHostOpDone_idle {s : State} (v : Bool)
    (h : s.tag.hostOp = none ∨ (s.tag.waited = true ∧ s.tag.writes ≠ [])) : exec (.tagHostOpDone v) s = .next s := by
  show execTagHostOpDone v s = _
  unfold execTagHostOpDone
  rcases h with idle | ⟨waited, writes⟩
  · rw [idle]
  · split
    · rfl
    · simp [waited, writes]

theorem State.hostOpEnd_read (s : State) (v : Bool) {b : Nat} (hb : b < 1805) : s.hostOpEnd v (.read b) =
    (s.setTag fun t => { t with buffer := s.tag.get b }).tagEnd 0 := by
  have own : s.tagRead b = (s.tag.get b, s) := if_neg (by omega)
  rw [State.hostOpEnd, own]

theorem exec_tagHostOpDone_read {s : State} {b : Nat} (v : Bool) (hr : s.released = true)
    (ho : s.tag.hostOp = some (.read b)) (hb : b < 1805) (hw : s.tag.waited = false ∨ s.tag.writes = []) :
    ∃ t, exec (.tagHostOpDone v) s = .next t ∧ t.tag = { s.tag with
        buffer := s.tag.get b, busy := false, done := true, err := 0, hostOp := none } ∧
      t.irqBit .ctl 9 = true ∧ Only [.irq, .tag] s t := by
  have h := exec_tagHostOpDone v ho hw
  rw [s.hostOpEnd_read v hb] at h
  refine ⟨_, h, ?_, State.tagEnd_irqBit (State.setTag_released hr fun t => { t with buffer := s.tag.get b }) 0,
    (State.setTag_steps _ (State.tagEnd_steps _ (State.setTag_steps _ (Steps.refl _ s) rfl) rfl) rfl).1⟩
  rw [State.setTag_tag, State.tagEnd_tag]
  rfl

/-- Settles O30: the end of a READ, and the four ends of a WRITE with the array that each leaves. -/
theorem tagHostPortEnds : Obligations.TagHostPortEnds := by
  refine ⟨fun s v b hr ho hb hw => ?_, fun s v b d hr ho hw => ?_, fun s v h => exec_tagHostOpDone_idle v h⟩
  · obtain ⟨t, h, tag, irq, only⟩ := exec_tagHostOpDone_read v hr ho hb hw
    exact ⟨t, h, congrArg Tag.buffer tag, congrArg Tag.busy tag, congrArg Tag.done tag, congrArg Tag.err tag,
      (congrArg Tag.blocks tag :), irq, only⟩
  · have h := exec_tagHostOpDone v ho hw
    obtain ⟨-, busy, done, -, irq⟩ := State.tagWriteEnd_ended hr b d v
    refine ⟨_, h, busy, done, irq, fun outside => ?_, fun inside locked => ?_, fun inside free verified => ?_,
      fun inside free mismatch => ?_, only_parts_of_exec h⟩
    · have ends : s.hostOpEnd v (.write b d) = s.tagEnd 1 := s.tagWriteEnd_region d v outside
      rw [ends, State.setTag_tag, State.tagEnd_tag]
      exact ⟨rfl, rfl⟩
    · have ends : s.hostOpEnd v (.write b d) = s.tagEnd 2 := State.tagWriteEnd_locked d v inside locked
      rw [ends, State.setTag_tag, State.tagEnd_tag]
      exact ⟨rfl, rfl⟩
    · have ends : s.hostOpEnd v (.write b d) = s.blockWritten b d 0 := by
        rw [verified]
        exact State.tagWriteEnd_verified d inside free
      obtain ⟨-, -, err, -⟩ := State.blockWritten_ended hr b d 0
      rw [ends]
      exact ⟨err, fun ascending => ⟨(s.blockWritten_cell b d 0 b).trans (Tag.put_cell_same b d ascending),
        fun c other => (s.blockWritten_cell b d 0 c).trans (s.tag.put_cell_ne d other)⟩⟩
    · have ends : s.hostOpEnd v (.write b d) = s.draw.2.blockWritten b (BitVec.ofNat 32 s.draw.1) 3 := by
        rw [mismatch]
        exact State.tagWriteEnd_mismatch d inside free
      obtain ⟨-, -, err, -⟩ := State.blockWritten_ended (s := s.draw.2) hr b (BitVec.ofNat 32 s.draw.1) 3
      rw [ends]
      exact ⟨err, fun _ c other => (s.draw.2.blockWritten_cell b _ 3 c).trans (s.tag.put_cell_ne _ other)⟩

end Sys2Proof.Machine
end

section
/-!
PROOFS. The mailboxes (06 R182-R193): the take of a posted pointer, the answer to a malformed message, and the post of a
reply into a free slot.
-/
set_option Elab.async false
namespace Sys2Proof.Machine

/-! ### Malformed messages in their turn (06 R189, R190) -/

section answerMalformed
variable {s : State}

theorem State.setEngine_congr {f g : Engine → Engine} (h : f s.engine = g s.engine) : s.setEngine f = s.setEngine g :=
  congrArg (fun e => { s with engine := e }) h

theorem State.answerMalformed_of_unserved (h : s.serves = false) : s.answerMalformed = s := by
  simp [State.answerMalformed, h]

theorem State.answerMalformed_of_held (h : s.replyHeld = true) : s.answerMalformed = s := by
  simp [State.answerMalformed, h]

theorem State.answerMalformed_of_wellFormed (h : (s.engine.taken.head?.all fun x => !x.malformed) = true) :
    s.answerMalformed = s := by
  have first : (s.engine.taken.takeWhile fun x => x.malformed) = [] ∧
      (s.engine.taken.dropWhile fun x => x.malformed) = s.engine.taken := by
    cases taken : s.engine.taken with
    | nil => exact ⟨rfl, rfl⟩
    | cons x xs =>
      have good : x.malformed = false := by simpa [taken] using h
      simp [good]
  unfold State.answerMalformed
  split
  · rfl
  · obtain ⟨none, all⟩ := first
    simp only [none, List.foldl_nil]
    exact State.setEngine_congr (g := id) (by rw [all]; rfl)

theorem State.answerMalformed_of_single {m : Taken} (hs : s.serves = true) (hf : s.replyHeld = false)
    (ht : s.engine.taken = [m]) (hm : m.malformed = true) :
    s.answerMalformed = (s.setEngine fun e => { e with taken := [] }).reply m.ch 0 0x0010 0 [] := by
  have turn : (!s.serves || s.replyHeld) = false := by simp [hs, hf]
  have alone : (s.engine.taken.takeWhile fun x => x.malformed) = [m] ∧
      (s.engine.taken.dropWhile fun x => x.malformed) = [] := by simp [ht, hm]
  obtain ⟨one, none⟩ := alone
  unfold State.answerMalformed
  rw [turn, if_neg Bool.false_ne_true, one]
  exact congrArg (fun u => State.reply u m.ch 0 0x0010 0 []) (State.setEngine_congr (by rw [none]))

end answerMalformed

/-! ### A pointer is taken (06 R182, R184, R190) -/

section message
variable {s : State} {c : Chan} {w : Word} {a len : Nat}

theorem State.badPointer_iff (ha : a = w.toNat / 8 % 2 ^ 17 * 8) (hl : len = s.memField (a + 2) 2) :
    s.badPointer c w = true ↔ a < hostArea c ∨ hostArea c + 0x8000 ≤ a ∨ 4096 < a % 4096 + 8 + len := by
  subst ha hl
  show decide _ = true ↔ _
  rw [decide_eq_true_iff]
  simp only [bitsOf, Nat.reducePow]
  omega

theorem State.message_of_bad (h : s.badPointer c w = true) : s.message c w = {
    ch := c, code := 0, tag := 0, payload := [], malformed := true, stamp := s.power.elapsed, doubt := s.doubtNow } :=
  if_pos h

theorem State.message_of_good (h : s.badPointer c w = false) (ha : a = w.toNat / 8 % 2 ^ 17 * 8)
    (hl : len = s.memField (a + 2) 2) : s.message c w = {
      ch := c, code := BitVec.ofNat 16 (s.memField a 2), tag := BitVec.ofNat 16 (s.memField (a + 4) 2)
      payload := s.memBytes (a + 8) len, malformed := false, stamp := s.power.elapsed, doubt := s.doubtNow } := by
  subst ha hl
  exact if_neg (by simp [h])

end message

/-- A message joins the commands taken. -/
def State.join (s : State) (m : Taken) : State := s.setEngine fun e => { e with taken := e.taken ++ [m] }

/-- The pointer of a channel is taken: OUT_FULL cleared, MBOX_EMPTY raised (06 R184). -/
def State.pointerTaken (s : State) (c : Chan) : State :=
  ((s.setEngine fun e => { e with lastServed := c }).setChan c fun r => { r with outFull := false }).raise
    (chanWindow c) .mboxEmpty

section take
variable (s : State) (c : Chan)

theorem State.readMessage_eq (w : Word) : s.readMessage c w = (s.join (s.message c w)).answerMalformed := rfl

theorem State.pointerTaken_outFull : ((s.pointerTaken c).chan c).outFull = false := by
  rw [State.pointerTaken, State.raise_chan, State.setChan_chan]

theorem State.pointerTaken_irqBit : (s.pointerTaken c).irqBit (chanWindow c) 0 = true :=
  State.raise_irqBit _ _ .mboxEmpty

theorem State.pointerTaken_taken : (s.pointerTaken c).engine.taken = s.engine.taken := by
  cases c <;> rfl

theorem State.pointerTaken_replies (d : Chan) : ((s.pointerTaken c).chan d).replies = (s.chan d).replies := by
  cases c <;> cases d <;> rfl

theorem State.join_replies (m : Taken) (d : Chan) : ((s.join m).chan d).replies = (s.chan d).replies := by
  cases d <;> rfl

variable {s c}

theorem exec_mboxTake (hs : s.serves = true) (ho : (s.chan c).outFull = true)
    (ht : (s.chan (otherChan c)).outFull = false ∨ s.engine.lastServed ≠ c) :
    exec (.mboxTake c) s = .next ((s.readMessage c (s.chan c).mboxOut).pointerTaken c) :=
  if_pos (by rcases ht with h | h <;> simp [hs, ho, h])

theorem exec_mboxTake_idle (h : s.serves = false ∨ (s.chan c).outFull = false ∨
    ((s.chan (otherChan c)).outFull = true ∧ s.engine.lastServed = c)) : exec (.mboxTake c) s = .next s :=
  if_neg (by rcases h with h | h | ⟨other, last⟩ <;> simp [*])

/-- A message that nothing answers waits at the end of those taken. -/
theorem State.readMessage_waits {w : Word} (h : (s.join (s.message c w)).answerMalformed = s.join (s.message c w)) :
    ((s.readMessage c w).pointerTaken c).engine.taken = s.engine.taken ++ [s.message c w] ∧
      ∀ d, (((s.readMessage c w).pointerTaken c).chan d).replies = (s.chan d).replies := by
  rw [State.readMessage_eq, h]
  exact ⟨State.pointerTaken_taken _ c, fun d => (State.pointerTaken_replies _ c d).trans (s.join_replies _ d)⟩

/-- Behind a well-formed message none is answered. -/
theorem State.join_wellFormed {m : Taken} (h : ((s.engine.taken ++ [m]).head?.all fun x => !x.malformed) = true) :
    (s.join m).answerMalformed = s.join m :=
  State.answerMalformed_of_wellFormed h

/-- A message that joins others, or joins while a reply is held back, waits for its turn. -/
theorem State.join_waits {m : Taken}
    (h : s.replyHeld = true ∨ (s.engine.taken.head?.any fun x => !x.malformed) = true) :
    (s.join m).answerMalformed = s.join m := by
  rcases h with held | first
  · exact State.answerMalformed_of_held held
  · refine State.join_wellFormed ?_
    cases taken : s.engine.taken with
    | nil => simp [taken] at first
    | cons x xs => simpa [taken] using first

/-- A malformed message that finds nothing before it is answered at once (06 R190). -/
theorem State.readMessage_refused {w : Word} (hs : s.serves = true) (hf : s.replyHeld = false)
    (ht : s.engine.taken = []) (hb : s.badPointer c w = true) :
    ((s.readMessage c w).pointerTaken c).engine.taken = [] ∧
      (((s.readMessage c w).pointerTaken c).chan c).replies =
        (s.chan c).replies ++ [{ code := 0, status := 0x0010, tag := 0, payload := [] }] := by
  have alone : (s.join (s.message c w)).engine.taken = [s.message c w] := by
    show s.engine.taken ++ _ = _
    rw [ht, List.nil_append]
  have answered := State.answerMalformed_of_single (s := s.join (s.message c w)) hs hf alone
    (by rw [State.message_of_bad hb])
  have channel : (s.message c w).ch = c := by rw [State.message_of_bad hb]
  rw [State.pointerTaken_taken, State.pointerTaken_replies, State.readMessage_eq, answered, channel]
  cases c <;> exact ⟨rfl, rfl⟩

end take

/-- Settles O25: a message joins those taken, where `answerMalformed` leaves it unless it is a malformed one alone. -/
theorem mailboxTakeReadsOrRefusesTheMessage : Obligations.MailboxTakeReadsOrRefusesTheMessage := by
  refine ⟨fun s c a len hs ho ht ha hl => ?_, fun s c h => exec_mboxTake_idle h⟩
  have h := exec_mboxTake hs ho ht
  refine ⟨_, h, State.pointerTaken_outFull _ c, State.pointerTaken_irqBit _ c, fun hw lo hi page => ?_, fun out => ?_,
    only_parts_of_exec h⟩
  · have good : s.badPointer c (s.chan c).mboxOut = false := by
      rw [← Bool.not_eq_true, State.badPointer_iff ha hl]
      omega
    have message := State.message_of_good good ha hl
    rw [← message]
    refine State.readMessage_waits (State.join_wellFormed ?_)
    cases taken : s.engine.taken with
    | nil => simp [message]
    | cons x xs => simpa [taken] using hw
  · have bad := (State.badPointer_iff ha hl).2 out
    refine ⟨fun alone free => State.readMessage_refused hs free alone bad, fun waits => ?_⟩
    rw [← State.message_of_bad bad]
    exact State.readMessage_waits (State.join_waits waits)

/-! ### Bells (06 R194) -/

section bellOn
variable (s : State) (c : Chan) (bit : Nat)

theorem State.bellOn_chan : (s.bellOn c bit).chan c =
    if (s.chan c).bellIn.getLsbD bit then s.chan c
    else { s.chan c with bellIn := (s.chan c).bellIn ||| BitVec.ofNat 32 (2 ^ bit) } := by
  unfold State.bellOn
  dsimp only
  split
  · rfl
  · split
    · rw [State.raise_chan, State.setChan_chan]
    · rw [State.setChan_chan]

theorem State.bellOn_bare : ((s.bellOn c bit).chan c).bare = (s.chan c).bare := by
  rw [State.bellOn_chan]
  split <;> rfl

theorem State.bellOn_replies : ((s.bellOn c bit).chan c).replies = (s.chan c).replies := by
  rw [State.bellOn_chan]
  split <;> rfl

theorem State.bellOn_reply : ((s.bellOn c bellReply).chan c).bellIn.getLsbD 0 = true := by
  rw [State.bellOn_chan]
  split
  · assumption
  · simp [bellReply]

end bellOn

/-! ### A reply is posted (06 R186-R188, R192, R193) -/

/-- A channel whose pointer to the message at `a`, in slot `k`, has been posted. -/
def ChanRegs.posting (r : ChanRegs) (a : Nat) (k : Fin 8) (rest : List Reply) : ChanRegs := { r with
  replies := rest, mboxIn := BitVec.ofNat 32 (r.seq.toNat * 2 ^ 20 + a), inFull := true, inSlot := some k
  slots := r.slots.set k.val .posted k.isLt, seq := r.seq + 1 }

/-- Where slot `k` of a channel lies. -/
def slotAt (c : Chan) (k : Fin 8) : Nat := firmArea c + 0x1000 * k.val

/-- The reply `m` posted in slot `k`, the replies `rest` still waiting. -/
def State.replyPosted (s : State) (c : Chan) (k : Fin 8) (m : Reply) (rest : List Reply) : State :=
  (((s.putBytes (slotAt c k) (m.bytes.take 0x1000)).setChan c fun r => r.posting (slotAt c k) k rest).raise
    (chanWindow c) .mboxFull).bellOn c bellReply

/-- No reply can be posted on a channel now (06 R186, R192). -/
def State.postShut (s : State) (c : Chan) : Bool :=
  !s.serves || (s.chan c).inFull || (s.chan c).repost.isSome || (s.chan c).freeSlots.isEmpty

/-- The slot that the draw picks among the free ones. -/
def State.drawnSlot (s : State) (c : Chan) : Fin 8 :=
  (s.chan c).freeSlots.getD (s.draw.1 % (s.chan c).freeSlots.length) 0

theorem ChanRegs.mem_freeSlots {r : ChanRegs} {k : Fin 8} : k ∈ r.freeSlots ↔ r.slots.get k = .free := by
  simp [ChanRegs.freeSlots]

section replyPost
variable {s : State} {c : Chan} {m : Reply} {rest : List Reply}

theorem exec_replyPost_of_none (hn : (s.answerMalformed.chan c).replies = []) :
    exec (.replyPost c) s = .next s.answerMalformed := by
  show execReplyPost c s = _
  unfold execReplyPost
  dsimp only
  rw [hn]

theorem exec_replyPost_of_waiting (hm : (s.answerMalformed.chan c).replies = m :: rest) : exec (.replyPost c) s =
    if s.answerMalformed.postShut c then .next s.answerMalformed
    else .next (s.answerMalformed.draw.2.replyPosted c (s.answerMalformed.drawnSlot c) m rest) := by
  show execReplyPost c s = _
  unfold execReplyPost
  dsimp only
  rw [hm]
  rfl

/-- The drawn slot is a free one. -/
theorem State.drawnSlot_free (hp : s.postShut c = false) : (s.chan c).slots.get (s.drawnSlot c) = .free := by
  have some_free : (s.chan c).freeSlots ≠ [] := by
    intro none
    simp [State.postShut, none] at hp
  have least : s.draw.1 % (s.chan c).freeSlots.length < (s.chan c).freeSlots.length :=
    Nat.mod_lt _ (List.length_pos_of_ne_nil some_free)
  rw [← ChanRegs.mem_freeSlots, State.drawnSlot, List.getD_eq_getElem _ _ least]
  exact List.getElem_mem _

theorem State.postShut_of_free (hs : s.serves = true) (hi : (s.chan c).inFull = false) (hr : (s.chan c).repost = none)
    (hf : ∃ k, (s.chan c).slots.get k = .free) : s.postShut c = false := by
  obtain ⟨k, free⟩ := hf
  have some_free : (s.chan c).freeSlots ≠ [] := List.ne_nil_of_mem (ChanRegs.mem_freeSlots.2 free)
  simp [State.postShut, hs, hi, hr, some_free]

theorem State.postShut_of_blocked (h : s.serves = false ∨ (s.chan c).inFull = true ∨ (s.chan c).repost ≠ none ∨
    ∀ k, (s.chan c).slots.get k ≠ .free) : s.postShut c = true := by
  rcases h with h | h | h | h
  · simp [State.postShut, h]
  · simp [State.postShut, h]
  · simp [State.postShut, Option.isSome_iff_ne_none.2 h]
  · have none : (s.chan c).freeSlots = [] :=
      List.eq_nil_iff_forall_not_mem.2 fun k hk => h k (ChanRegs.mem_freeSlots.1 hk)
    simp [State.postShut, none]

theorem exec_replyPost_idle (h : s.serves = false ∨ ((s.engine.taken.head?.all fun x => !x.malformed) = true ∧
    ((s.chan c).replies = [] ∨ (s.chan c).inFull = true ∨ (s.chan c).repost ≠ none ∨
      ∀ k, (s.chan c).slots.get k ≠ .free))) : exec (.replyPost c) s = .next s := by
  have unanswered : s.answerMalformed = s := by
    rcases h with h | ⟨h, -⟩
    · exact State.answerMalformed_of_unserved h
    · exact State.answerMalformed_of_wellFormed h
  cases waiting : (s.chan c).replies with
  | nil => rw [exec_replyPost_of_none (by rw [unanswered, waiting]), unanswered]
  | cons m rest =>
    have shut : s.postShut c = true := State.postShut_of_blocked (by simpa [waiting] using h.imp_right And.right)
    rw [exec_replyPost_of_waiting (by rw [unanswered, waiting]), unanswered, if_pos shut]

theorem Reply.length_bytes (m : Reply) : m.bytes.length = 8 + m.payload.length := by
  simp only [Reply.bytes, List.length_append, leBytes_length]

theorem slotAt_le (c : Chan) (k : Fin 8) : slotAt c k + 0x1000 ≤ 0x100000 := by
  have := k.isLt
  cases c <;> simp only [slotAt, firmArea] <;> omega

variable (s c m rest) (k : Fin 8)

theorem State.replyPosted_after : Steps [.irq, .bells]
    ((s.putBytes (slotAt c k) (m.bytes.take 0x1000)).setChan c fun r => r.posting (slotAt c k) k rest)
    (s.replyPosted c k m rest) :=
  State.bellOn_steps c bellReply (State.raise_steps _ _ (Steps.refl _ _) rfl) rfl

theorem State.replyPosted_irqBit : (s.replyPosted c k m rest).irqBit (chanWindow c) 1 = true :=
  (State.bellOn_steps (ps := [.irq, .bells]) c bellReply (Steps.refl _ _) rfl).irqBit (State.raise_irqBit _ _ .mboxFull)

theorem State.putBytes_chan (a : Nat) (bs : List Byte) : (s.putBytes a bs).chan c = s.chan c := by
  induction bs generalizing s a with
  | nil => rfl
  | cons b bs ih => rw [State.putBytes, ih]; cases c <;> rfl

theorem State.replyPosted_chan :
    ((s.replyPosted c k m rest).chan c).bare = ((s.chan c).posting (slotAt c k) k rest).bare ∧
    ((s.replyPosted c k m rest).chan c).replies = rest := by
  rw [State.replyPosted, State.bellOn_bare, State.bellOn_replies, State.raise_chan, State.setChan_chan,
    State.putBytes_chan]
  exact ⟨rfl, rfl⟩

variable {m} (hl : m.payload.length ≤ 4088)
include hl

theorem State.replyPosted_mem : (s.replyPosted c k m rest).mem = Memory.writeList s.mem (slotAt c k) m.bytes := by
  have whole : m.bytes.take 0x1000 = m.bytes := List.take_of_length_le (by rw [Reply.length_bytes]; omega)
  have := slotAt_le c k
  have kept : (s.replyPosted c k m rest).mem = _ := (s.replyPosted_after c m rest k).same .mem
  rw [kept, State.setChan_mem, whole, State.putBytes_mem (by rw [Reply.length_bytes]; omega)]

end replyPost

theorem ChanRegs.posting_slot (r : ChanRegs) (a : Nat) (k : Fin 8) (rest : List Reply) :
    (r.posting a k rest).slots.get k = .posted := by
  show (r.slots.set k.val Slot.posted k.isLt)[k.val] = _
  rw [Vector.getElem_set_self]

theorem ChanRegs.posting_slot_ne (r : ChanRegs) (a : Nat) {k j : Fin 8} (rest : List Reply) (h : j ≠ k) :
    (r.posting a k rest).slots.get j = r.slots.get j := by
  have other : k.val ≠ j.val := fun e => h (Fin.ext e.symm)
  show (r.slots.set k.val Slot.posted k.isLt)[j.val] = r.slots[j.val]
  rw [Vector.getElem_set_ne _ _ other]

theorem ChanRegs.posting_mboxIn (r : ChanRegs) (k : Fin 8) (rest : List Reply) (c : Chan) :
    (r.posting (slotAt c k) k rest).mboxIn.toNat = r.seq.toNat * 2 ^ 20 + slotAt c k := by
  have := r.seq.isLt
  have := slotAt_le c k
  show (BitVec.ofNat 32 (r.seq.toNat * 2 ^ 20 + slotAt c k)).toNat = _
  rw [BitVec.toNat_ofNat, Nat.mod_eq_of_lt (by omega)]

/-- Settles O26: the slot that the draw picks among the free ones, the channel by `posting`, and the bytes in memory. -/
theorem repliesArePostedIntoAFreeSlot : Obligations.RepliesArePostedIntoAFreeSlot := by
  refine ⟨fun s c m rest hs hw hi hr ht hm hl hf => ?_, fun s c h => exec_replyPost_idle h⟩
  have unanswered := State.answerMalformed_of_wellFormed ht
  have posts := State.postShut_of_free hs hi hr hf
  have free := State.drawnSlot_free posts
  have h := exec_replyPost_of_waiting (s := s) (c := c) (by rw [unanswered, hm])
  rw [unanswered, posts, if_neg Bool.false_ne_true] at h
  generalize s.drawnSlot c = k at free h
  have drawn : s.draw.2.chan c = s.chan c := by cases c <;> rfl
  obtain ⟨regs, replies⟩ := s.draw.2.replyPosted_chan c m rest k
  rw [drawn] at regs
  have slots : ((s.draw.2.replyPosted c k m rest).chan c).slots = ((s.chan c).posting (slotAt c k) k rest).slots :=
    (congrArg ChanRegs.slots regs :)
  have pointer : ((s.draw.2.replyPosted c k m rest).chan c).mboxIn = ((s.chan c).posting (slotAt c k) k rest).mboxIn :=
    (congrArg ChanRegs.mboxIn regs :)
  have mem : (s.draw.2.replyPosted c k m rest).mem = Memory.writeList s.mem (slotAt c k) m.bytes :=
    s.draw.2.replyPosted_mem c rest k hl
  have room : slotAt c k + m.bytes.length ≤ 0x100000 := by
    have := slotAt_le c k
    rw [Reply.length_bytes]
    omega
  refine ⟨_, k, h, free, ?_, fun j hj => ?_, replies, (congrArg ChanRegs.inFull regs :),
    (congrArg ChanRegs.inSlot regs :), (congrArg ChanRegs.seq regs :), ?_, fun i hb => ?_, fun a ha => ?_,
    State.replyPosted_irqBit _ _ _ _ _, State.bellOn_reply _ _, only_parts_of_exec h⟩
  · rw [slots, ChanRegs.posting_slot]
  · rw [slots, ChanRegs.posting_slot_ne _ _ _ hj]
  · rw [pointer, ChanRegs.posting_mboxIn, Nat.add_assoc]
    rfl
  · rw [mem, List.getD_eq_getElem _ _ hb]
    exact Memory.read_writeList_getElem hw room hb
  · rw [mem]
    exact Memory.read_writeList_of_outside ha

end Sys2Proof.Machine
end

section
/-!
PROOFS. The host-to-firmware doorbells (06 R195): a mark made while a HOLD is on its way is not recorded (18 R570), so
that FLUSH-DONE has no record to show for every state in a working mode.
-/
set_option Elab.async false
namespace Sys2Proof.Machine

theorem State.record_of_holding {s : State} {kind : Byte} (hh : s.holding = true) (hk : kind ≠ kConfig) (flags : Byte)
    (stamp : Stamp) (body : List Byte) : s.record kind flags stamp body = s := by
  simp [State.record, State.keepRecord, hh, hk]

theorem State.takeBell_of_rung {s : State} {c : Chan} {bit : Nat} (hs : s.serves = true)
    (hb : (s.chan c).bellOut.getLsbD bit = true) (f : State → State) : s.takeBell c bit f =
      f (s.setChan c fun r => { r with bellOut := r.bellOut &&& ~~~(BitVec.ofNat 8 (2 ^ bit)) }) :=
  if_pos (by rw [hs, hb]; rfl)

/-- While a HOLD is on its way FLUSH-DONE clears its bell and makes no record. -/
theorem exec_flushDone_of_holding {s : State} {c : Chan} (hs : s.serves = true)
    (hb : (s.chan c).bellOut.getLsbD 1 = true) (hh : s.holding = true) : exec (.flushDone c) s =
      .next (s.setChan c fun r => { r with bellOut := r.bellOut &&& ~~~(BitVec.ofNat 8 (2 ^ 1)) }) := by
  have holding : (s.setChan c fun r => { r with bellOut := r.bellOut &&& ~~~(BitVec.ofNat 8 (2 ^ 1)) }).holding =
      true := by cases c <;> exact hh
  show Host.Outcome.next (s.takeBell c 1 _) = _
  rw [State.takeBell_of_rung hs hb, State.record_of_holding holding (by decide)]

/-- RUN with HOLD as the target of a transition under way, the engine up all the same, and FLUSH-DONE rung on channel N.
A HOLD request takes the engine down (`State.startMode_hold_up`), but the statement takes every state. -/
def flushInHold : State :=
  { State.reset with
    power := { Power.reset with completing := false }
    modes := { ModeRegs.reset with mode := .run, target := .hold, busy := true }
    engine := { Engine.reset with up := true }
    chanN := { ChanRegs.reset with bellOut := 2 } }

/-- Refutes O28: in `flushInHold` the firmware serves in RUN with no record waiting, and FLUSH-DONE makes none, since
the premises do not exclude a HOLD on its way. -/
theorem not_doorbellsAreClearedAndActOncePerTake : ¬ Obligations.DoorbellsAreClearedAndActOncePerTake := by
  rintro ⟨-, -, -, flush, -⟩
  obtain ⟨t, h, -, recorded, -⟩ := flush flushInHold .n rfl rfl rfl (.inl rfl) (by decide)
  rw [exec_flushDone_of_holding rfl rfl rfl] at h
  cases h
  exact absurd (congrArg (fun j => j.waiting.length) recorded) (by decide)

end Sys2Proof.Machine
end

section
/-!
PROOFS. An engine restart begins (06 R197-R200; 07 R216-R221).
-/
set_option Elab.async false
namespace Sys2Proof.Machine

/-! ### The steps of a restart -/

/-- The engine as a restart takes it down, with both WATCHDOG bits raised (07 R216). -/
def State.engineFalls (s : State) (cause : BitVec 4) : State :=
  let held := (s.alarmStat, s.pairStat)
  let s := s.setEngine fun e => { e with
    restarting := true, up := false, lastCause := cause, count := BitVec.ofNat 8 (satAdd 255 e.count.toNat 1)
    shown := some (e.shown.getD held) }
  (s.raise .ctl .watchdog).raise .key .watchdog

/-- Both mailbox channels as a restart leaves them (06 R193, R198, R199). -/
def State.mailboxesCut (s : State) : State :=
  (((s.abortOut .n).abortOut .k).setChan .n ChanRegs.restarted).setChan .k ChanRegs.restarted

/-- The engine has fallen and the lock is broken (04 R132). -/
def State.halted (s : State) (cause : BitVec 4) : State := (s.engineFalls cause).breakLock 3

/-- What a restart leaves of a state whose engine has fallen and whose lock is broken. -/
def State.restartFrom (s : State) : State := s.mailboxesCut.loseWork.abandonMode.headNotice

theorem State.beginRestart_eq (s : State) (cause : BitVec 4) :
    s.beginRestart cause = (s.halted cause).restartFrom := rfl

/-! ### The lock is broken with the engine down (04 R131, R132) -/

theorem State.newDigest_of_down {s : State} (hd : s.engine.up = false) : s.newDigest = s := by
  simp [State.newDigest, hd]

theorem State.takeRows_steps_of_down {s : State} (hd : s.engine.up = false) : Steps [.sieve] s s.takeRows := by
  have same : s.takeRows = s.setSieve fun v => { v with
      activeCrc := crc32 (s.memBytes (sieveRowAt v.bankB 0) 8192) } := by
    simp [State.takeRows, hd]
  rw [same]
  exact State.setSieve_steps _ (Steps.refl _ s) rfl

/-- With the engine down the end of a session takes no rows. -/
theorem State.endSession_steps_of_down {s : State} (hd : s.engine.up = false) (pages : Byte) (broken : Bool) :
    Steps [.culvert, .changes, .sieve, .journal] s (s.endSession pages broken) := by
  have closed : Steps [.culvert, .changes, .sieve, .journal] s s.closeSession :=
    State.setCulvert_culvert_steps _ (Steps.refl _ s) (fun _ => ⟨rfl, rfl⟩) rfl
  unfold State.endSession
  refine Steps.ite closed ?_
  have noted := State.noteChange_steps s.now closed rfl
  have down : (s.closeSession.noteChange s.now).engine.up = false := hd
  have rows := State.takeRows_steps_of_down down
  have still : (s.closeSession.noteChange s.now).takeRows.engine.up = false :=
    (congrArg Engine.up (rows.same .engine) :).trans down
  refine State.keepRecord_steps _ _ _ _ (Steps.ite noted ?_) rfl
  exact (State.newDigest_of_down still).symm ▸ noted.step rows rfl

theorem State.breakLock_steps_of_down {s : State} (hd : s.engine.up = false) (cause : BitVec 2) :
    Steps [.irq, .culvert, .changes, .sieve, .journal] s (s.breakLock cause) := by
  unfold State.breakLock
  have raised : Steps [.irq, .culvert, .changes, .sieve, .journal] s
      ((s.setCulvert fun c => { c with lock := .idle, brk := cause }).raise .ctl .lockBroken) :=
    State.raise_steps _ _ (State.setCulvert_culvert_steps _ (Steps.refl _ s) (fun _ => ⟨rfl, rfl⟩) rfl) rfl
  have down : ((s.setCulvert fun c => { c with lock := .idle, brk := cause }).raise .ctl .lockBroken).engine.up =
      false := hd
  exact Steps.ite (Steps.refl _ s) (raised.step (State.endSession_steps_of_down down _ _) rfl)

theorem State.breakLock_lock (s : State) (cause : BitVec 2) : (s.breakLock cause).culvert.lock = .idle ∧
    (s.breakLock cause).culvert.brk = if s.culvert.lock = .idle then s.culvert.brk else cause := by
  by_cases hl : s.culvert.lock = .idle
  · rw [State.breakLock_of_idle cause hl, if_pos hl]
    exact ⟨hl, rfl⟩
  · have broken := State.breakLock_bare cause hl
    rw [if_neg hl]
    exact ⟨(congrArg Culvert.lock broken :), (congrArg Culvert.brk broken :)⟩

section halted
variable (s : State) (cause : BitVec 4)

theorem State.engineFalls_chan (c : Chan) : (s.engineFalls cause).chan c = s.chan c := by
  rw [State.engineFalls, State.raise_chan, State.raise_chan]
  cases c <;> rfl

theorem State.engineFalls_irqBit :
    (s.engineFalls cause).irqBit .ctl 8 = true ∧ (s.engineFalls cause).irqBit .key 8 = true :=
  ⟨(State.raise_steps .key .watchdog (Steps.refl [.irq] _) rfl).irqBit (State.raise_irqBit _ .ctl .watchdog),
    State.raise_irqBit _ .key .watchdog⟩

theorem State.halted_steps :
    Steps [.irq, .culvert, .changes, .sieve, .journal] (s.engineFalls cause) (s.halted cause) :=
  State.breakLock_steps_of_down rfl 3

theorem State.halted_chan (c : Chan) : ((s.halted cause).chan c).bare = (s.chan c).bare := by
  rw [State.halted, State.breakLock_chan, State.engineFalls_chan]

end halted

/-! ### The mailbox channels (06 R193, R198, R199) -/

/-- A channel whose pending pointer is discarded (06 R198). -/
def ChanRegs.outAbort (r : ChanRegs) : ChanRegs :=
  if r.outFull then { r with outFull := false, outAborted := true } else r

section abortOut
variable (s : State) (c : Chan)

theorem State.abortOut_chan : (s.abortOut c).chan c = (s.chan c).outAbort := by
  unfold State.abortOut ChanRegs.outAbort
  split
  · rw [State.raise_chan, State.setChan_chan]
  · rfl

theorem State.abortOut_chan_ne {d : Chan} (h : d ≠ c) : (s.abortOut c).chan d = s.chan d := by
  unfold State.abortOut
  split
  · rw [State.raise_chan, State.setChan_chan_ne _ _ h]
  · rfl

theorem State.mailboxesCut_chan : s.mailboxesCut.chan c = (s.chan c).outAbort.restarted := by
  unfold State.mailboxesCut
  cases c with
  | n => rw [State.setChan_chan_ne _ _ (by decide), State.setChan_chan, State.abortOut_chan_ne _ _ (by decide),
      State.abortOut_chan]
  | k => rw [State.setChan_chan, State.setChan_chan_ne _ _ (by decide), State.abortOut_chan,
      State.abortOut_chan_ne _ _ (by decide)]

theorem State.mailboxesCut_steps : Steps [.irq, .chanN, .chanK] s s.mailboxesCut := by
  have cut := State.abortOut_steps .k (State.abortOut_steps .n (Steps.refl [.irq, .chanN, .chanK] s) rfl) rfl
  exact State.setChan_chan_steps .k _ (State.setChan_chan_steps .n _ cut (fun _ => ⟨rfl, rfl⟩) rfl)
    (fun _ => ⟨rfl, rfl⟩) rfl

end abortOut

/-- No slot of a channel is free after a restart (06 R193). -/
theorem ChanRegs.restarted_slot (r : ChanRegs) (k : Fin 8) : r.restarted.slots.get k ≠ .free := by
  show (r.slots.map fun x => if x = .free then .taken else x)[k.val] ≠ _
  rw [Vector.getElem_map]
  split
  · decide
  · assumption

theorem ChanRegs.outAbort_restarted_bare (r : ChanRegs) : r.outAbort.restarted.bare = r.bare.outAbort.restarted := by
  have full : r.bare.outFull = r.outFull := rfl
  unfold ChanRegs.outAbort
  rw [full]
  split <;> rfl

/-- What a restart leaves of a channel whose lasting registers were those of `r`. -/
theorem ChanRegs.restarted_of_bare {r q : ChanRegs} (h : q.bare = r.outAbort.restarted.bare) :
    q.outFull = false ∧ q.outAborted = (r.outAborted || r.outFull) ∧ q.bellOut = r.bellOut ∧ q.mboxIn = r.mboxIn ∧
      q.inFull = r.inFull ∧ q.seq = 0 ∧ ∀ k, q.slots.get k ≠ .free := by
  have outFull : q.outFull = r.outAbort.outFull := (congrArg ChanRegs.outFull h :)
  have outAborted : q.outAborted = r.outAbort.outAborted := (congrArg ChanRegs.outAborted h :)
  have bellOut : q.bellOut = r.outAbort.bellOut := (congrArg ChanRegs.bellOut h :)
  have mboxIn : q.mboxIn = r.outAbort.mboxIn := (congrArg ChanRegs.mboxIn h :)
  have inFull : q.inFull = r.outAbort.inFull := (congrArg ChanRegs.inFull h :)
  have slots : q.slots = r.outAbort.restarted.slots := (congrArg ChanRegs.slots h :)
  rw [outFull, outAborted, bellOut, mboxIn, inFull, slots]
  have aborted : r.outAbort.outFull = false ∧ r.outAbort.outAborted = (r.outAborted || r.outFull) ∧
      r.outAbort.bellOut = r.bellOut ∧ r.outAbort.mboxIn = r.mboxIn ∧ r.outAbort.inFull = r.inFull := by
    unfold ChanRegs.outAbort
    cases hf : r.outFull <;> simp [hf]
  obtain ⟨full, lost, bells, pointer, waits⟩ := aborted
  exact ⟨full, lost, bells, pointer, waits, (congrArg ChanRegs.seq h :), r.outAbort.restarted_slot⟩

/-! ### The work in progress is lost (06 R198, R200) -/

/-- What the engine took, accepted and had to answer is forgotten. -/
def State.workForgotten (s : State) : State := s.cutPublish.forgetCommands

theorem State.workForgotten_chan (s : State) (c : Chan) : (s.workForgotten.chan c).bare = (s.chan c).bare ∧
    (s.workForgotten.chan c).replies = [] := by
  have cut : Steps [.draws, .tag] s s.cutPublish := State.cutPublish_steps (Steps.refl _ s) rfl
  rw [State.workForgotten]
  generalize s.cutPublish = u at cut
  cases c with
  | n => exact ⟨cut.same .chanN, rfl⟩
  | k => exact ⟨cut.same .chanK, rfl⟩

theorem State.workForgotten_steps (s : State) : Steps [.draws, .bells, .hush, .replies, .drops, .chanN, .chanK, .work,
    .sieve, .buses, .tag] s s.workForgotten :=
  State.forgetCommands_steps (State.cutPublish_steps (Steps.refl _ s) rfl) rfl

theorem State.workForgotten_noRetire (s : State) : s.workForgotten.NoRetire := by
  intro b
  show (s.cutPublish.buses.map fun (v : Bus) => { v with retire := none })[b.val].retire = none
  simp

theorem Tag.put_fieldLock (t : Tag) (b : Nat) (w : Word) : (t.put b w).fieldLock = t.fieldLock := rfl

theorem Tag.write_fieldLock (t : Tag) (l : List (Nat × Word)) : (t.write l).fieldLock = t.fieldLock := by
  unfold Tag.write
  induction l generalizing t with
  | nil => rfl
  | cons x xs ih => rw [List.foldl_cons, ih, Tag.put_fieldLock]

theorem State.cutPublish_fieldLock (s : State) : s.cutPublish.tag.fieldLock = s.tag.fieldLock := by
  unfold State.cutPublish
  split
  · rfl
  · exact Tag.write_fieldLock _ _

/-- The parts that the rest of the engine's work lies in. -/
def workParts : List Part :=
  [.mem, .pool, .irq, .bells, .ports, .tx, .sluice, .lamps, .buses, .heads, .pair, .journal, .tag, .mgmt]

theorem State.loseWork_rest (s : State) : Steps workParts s.workForgotten s.loseWork := by
  unfold State.loseWork
  dsimp only
  have lost : Steps workParts s.workForgotten s.workForgotten := Steps.refl _ _
  refine Steps.ite (State.setJournal_steps _ ?_ rfl) ?_
  all_goals
    refine State.mgmtStop_steps (State.setPair_steps _ (State.loseDevices_steps ?_ rfl) rfl) rfl
    refine State.setSluice_steps _ (State.mapLamps_steps _ (State.mapPorts_steps _ ?_ rfl) rfl) rfl
    exact State.setHeads_steps _ (State.mapBuses_steps _ (State.setTag_steps _ lost rfl) rfl) rfl

theorem State.loseWork_fieldLock (s : State) : s.loseWork.tag.fieldLock = s.tag.fieldLock := by
  have devices (u : State) : u.loseDevices.tag = u.tag :=
    (State.loseDevices_steps (ps := [.mem, .pool, .sluice]) (Steps.refl _ u) rfl).same .tag
  have stopped (u : State) : u.mgmtStop.tag = u.tag :=
    (State.mgmtStop_steps (ps := [.irq, .bells, .mgmt]) (Steps.refl _ u) rfl).same .tag
  rw [← s.cutPublish_fieldLock]
  unfold State.loseWork
  dsimp only
  split
  all_goals
    simp only [State.setJournal_tag, stopped, State.setPair_tag, devices]
    rfl

theorem State.loseWork_noRetire (s : State) : s.loseWork.NoRetire := by
  have devices (u : State) : u.loseDevices.buses = u.buses :=
    (State.loseDevices_steps (ps := [.mem, .pool, .sluice]) (Steps.refl _ u) rfl).same .buses
  have stopped (u : State) : u.mgmtStop.buses = u.buses :=
    (State.mgmtStop_steps (ps := [.irq, .bells, .mgmt]) (Steps.refl _ u) rfl).same .buses
  have same : ∃ f : Bus → Bus, (∀ v, (f v).retire = v.retire) ∧ s.loseWork.buses = s.workForgotten.buses.map f := by
    unfold State.loseWork
    dsimp only
    refine ⟨fun v => { v with
      exchange := none, retry := none, parked := [], grant := [], queue := [], setLamps := [], round := []
      rollCall := none, rolling := none, granting := false, again := false, joinDue := false, wake := none
      sleep := .none }, fun _ => rfl, ?_⟩
    split
    all_goals
      simp only [State.setJournal_buses, stopped, State.setPair_buses, devices]
      rfl
  obtain ⟨f, kept, buses⟩ := same
  intro b
  show s.loseWork.buses[b.val].retire = none
  rw [buses, Vector.getElem_map, kept]
  exact s.workForgotten_noRetire b

/-! ### The transition under way (07 R221) -/

/-- What the end of RUN entry reaches where no HEAD-RETIRE waits. -/
def roadParts : List Part :=
  [.mem, .pool, .irq, .bells, .ports, .tx, .sluice, .buses, .heads, .pair, .journal]

theorem State.undoEntry_steps_of_noRetire {s : State} (h : s.NoRetire) : Steps roadParts s s.undoEntry := by
  have closed : Steps [.mem, .pool, .ports, .tx, .sluice] s s.emptySluice.closePorts :=
    State.closePorts_steps (State.emptySluice_steps (Steps.refl _ s) rfl) rfl
  have buses : s.emptySluice.closePorts.buses = s.buses := closed.same .buses
  have free : s.emptySluice.closePorts.NoRetire := fun b => (congrArg (fun v => (v.get b).retire) buses).trans (h b)
  exact State.dropRole_steps .lone ((closed.widen rfl).step (State.stopBuses_steps_of_noRetire free) rfl) rfl

theorem State.abandonMode_steps_of_noRetire {s : State} (h : s.NoRetire) :
    Steps (.modes :: roadParts) s s.abandonMode := by
  have undone : Steps (.modes :: roadParts) s s.undoEntry := (State.undoEntry_steps_of_noRetire h).widen rfl
  unfold State.abandonMode
  refine Steps.ite (State.modesDone_steps (State.setModes_steps _ ?_ rfl) rfl) (Steps.refl _ s)
  exact Steps.ite undone (Steps.refl _ s)

theorem State.abandonMode_mode {s : State} (h : s.NoRetire) : s.abandonMode.modes.mode = s.modes.mode := by
  have undone : s.undoEntry.modes = s.modes := (State.undoEntry_steps_of_noRetire h).same .modes
  unfold State.abandonMode
  split
  · rw [State.modesDone_modes, State.setModes_modes]
    split
    · rw [undone]
    · rfl
  · rfl

/-! ### The restart as a whole -/

/-- What a restart reaches after the engine's commands are forgotten. -/
def tailParts : List Part := .modes :: workParts

/-- What a restart reaches after the lock is broken. -/
def cutParts : List Part :=
  [.draws, .hush, .replies, .drops, .chanN, .chanK, .work, .sieve] ++ tailParts

section restartFrom
variable (s : State)

theorem State.restartFrom_tail : Steps tailParts s.mailboxesCut.workForgotten s.restartFrom := by
  have lost : Steps tailParts s.mailboxesCut.workForgotten s.mailboxesCut.loseWork :=
    s.mailboxesCut.loseWork_rest.widen rfl
  have abandoned := lost.step (State.abandonMode_steps_of_noRetire s.mailboxesCut.loseWork_noRetire) rfl
  exact State.headNotice_steps abandoned rfl

theorem State.restartFrom_steps : Steps cutParts s s.restartFrom := by
  have forgotten : Steps cutParts s s.mailboxesCut.workForgotten :=
    (s.mailboxesCut_steps.widen rfl).step s.mailboxesCut.workForgotten_steps rfl
  exact forgotten.step s.restartFrom_tail rfl

theorem State.restartFrom_work : s.restartFrom.engine.taken = [] ∧ s.restartFrom.engine.accepted = [] := by
  obtain ⟨taken, accepted, -⟩ := s.restartFrom_tail.same .work
  exact ⟨taken, accepted⟩

theorem State.restartFrom_mode : s.restartFrom.modes.mode = s.modes.mode := by
  have cut : s.mailboxesCut.modes = s.modes := s.mailboxesCut_steps.same .modes
  have forgotten : s.mailboxesCut.workForgotten.modes = s.mailboxesCut.modes :=
    s.mailboxesCut.workForgotten_steps.same .modes
  have lost : s.mailboxesCut.loseWork.modes = s.mailboxesCut.workForgotten.modes :=
    s.mailboxesCut.loseWork_rest.same .modes
  have noticed (u : State) : u.headNotice.modes = u.modes :=
    (State.headNotice_steps (Steps.refl [.ports] u) rfl).same .modes
  rw [State.restartFrom, noticed, State.abandonMode_mode s.mailboxesCut.loseWork_noRetire, lost, forgotten, cut]

theorem State.restartFrom_fieldLock : s.restartFrom.tag.fieldLock = s.tag.fieldLock := by
  have noticed : s.restartFrom.tag = s.mailboxesCut.loseWork.abandonMode.tag :=
    (State.headNotice_steps (Steps.refl [.ports] _) rfl).same .tag
  have abandoned : s.mailboxesCut.loseWork.abandonMode.tag = s.mailboxesCut.loseWork.tag :=
    (State.abandonMode_steps_of_noRetire s.mailboxesCut.loseWork_noRetire).same .tag
  have cut : s.mailboxesCut.tag = s.tag := s.mailboxesCut_steps.same .tag
  rw [noticed, abandoned, State.loseWork_fieldLock, cut]

theorem State.restartFrom_chan (c : Chan) : (s.restartFrom.chan c).bare = (s.chan c).outAbort.restarted.bare ∧
    (s.restartFrom.chan c).replies = [] := by
  obtain ⟨bare, none⟩ := s.mailboxesCut.workForgotten_chan c
  have tail := s.restartFrom_tail
  obtain ⟨repliesN, repliesK⟩ := tail.same .replies
  rw [State.mailboxesCut_chan] at bare
  cases c with
  | n => exact ⟨(tail.same .chanN).trans bare, repliesN.trans none⟩
  | k => exact ⟨(tail.same .chanK).trans bare, repliesK.trans none⟩

end restartFrom

theorem State.beginRestart_restarted (s : State) (cause : BitVec 4) : Restarted s (s.beginRestart cause) cause := by
  have halted := s.halted_steps cause
  have kept : Steps (.culvert :: .changes :: cutParts) (s.engineFalls cause) (s.halted cause).restartFrom :=
    (halted.widen rfl).step (s.halted cause).restartFrom_steps rfl
  have engine : (s.halted cause).restartFrom.engine.bare = (s.engineFalls cause).engine.bare := kept.same .engine
  have count : (s.halted cause).restartFrom.engine.count = BitVec.ofNat 8 (satAdd 255 s.engine.count.toNat 1) :=
    (congrArg Engine.count engine :)
  have culvert : (s.halted cause).restartFrom.culvert.bare = (s.halted cause).culvert.bare :=
    (s.halted cause).restartFrom_steps.same .culvert
  have modes : (s.halted cause).modes = s.modes := halted.same .modes
  have tag : (s.halted cause).tag = s.tag := halted.same .tag
  obtain ⟨lock, brk⟩ := (s.engineFalls cause).breakLock_lock 3
  obtain ⟨taken, accepted⟩ := (s.halted cause).restartFrom_work
  obtain ⟨ctl, key⟩ := s.engineFalls_irqBit cause
  rw [State.beginRestart_eq]
  refine ⟨(congrArg Engine.restarting engine :), (congrArg Engine.up engine :),
    (congrArg Engine.lastCause engine :), ?_, taken, accepted, kept.irqBit ctl, kept.irqBit key,
    (congrArg Culvert.lock culvert).trans lock, (congrArg Culvert.brk culvert).trans brk, ?_, ?_, fun c => ?_⟩
  · rw [count, satAdd, BitVec.toNat_ofNat, Nat.mod_eq_of_lt (by omega)]
  · rw [State.restartFrom_mode, modes]
  · rw [State.restartFrom_fieldLock, tag]
  · obtain ⟨bare, none⟩ := (s.halted cause).restartFrom_chan c
    rw [ChanRegs.outAbort_restarted_bare, s.halted_chan, ← ChanRegs.outAbort_restarted_bare] at bare
    obtain ⟨full, aborted, bells, pointer, waits, seq, slots⟩ := ChanRegs.restarted_of_bare bare
    exact ⟨full, aborted, bells, pointer, waits, none, seq, slots⟩

/-! ### The three causes (07 R216, R219, R220) -/

theorem exec_watchdogExpire {s : State} (ha : s.alive = true) (up : s.engine.up = true) (hm : s.mode ≠ .doze) :
    exec .watchdogExpire s = .next (s.beginRestart 1) := if_pos (by simp [ha, up, hm])

theorem exec_engineFault {s : State} (ha : s.alive = true) (he : s.engine.up = true ∨ s.engine.restarting = true) :
    exec .engineFault s = .next (s.beginRestart 2) := if_pos (by simp [ha, he])

theorem exec_bodycrcRecheck_bad {s : State} (hw : s.engineWorks = true) (hb : s.programBad = true) :
    exec .bodycrcRecheck s = .next (s.beginRestart 2) := if_pos (by simp [hw, hb])

theorem exec_bodycrcRecheck_good {s : State} (hb : s.programBad = false) : exec .bodycrcRecheck s = .next s :=
  if_neg (by simp [hb])

/-- Settles O31: each cause begins the restart, which leaves what `Restarted` says. -/
theorem engineRestartsBegin : Obligations.EngineRestartsBegin := by
  refine ⟨fun s ha up hm => ?_, fun s ha he => ?_, fun s hw hb => ?_, fun s hb => exec_bodycrcRecheck_good hb⟩
  · have h := exec_watchdogExpire ha up hm
    exact ⟨_, h, s.beginRestart_restarted 1, only_parts_of_exec h⟩
  · have h := exec_engineFault ha he
    exact ⟨_, h, s.beginRestart_restarted 2, only_parts_of_exec h⟩
  · have h := exec_bodycrcRecheck_bad hw hb
    exact ⟨_, h, s.beginRestart_restarted 2, only_parts_of_exec h⟩

end Sys2Proof.Machine
end

section
/-!
PROOFS. An engine restart ends (07 R217, R218, R221; 16 R503).
-/
set_option Elab.async false
namespace Sys2Proof.Machine

/-! ### The check of program memory (07 R218) -/

section restartFails
variable {s : State}

/-- In HOLD and LOAD an empty header store does not fail the check (log entry 145). -/
theorem State.restartFails_of_stopped (hm : s.mode.stopped = true) (hp : s.programBad = false ∨ s.engine.header = none) :
    s.restartFails = false := by
  rcases hp with good | empty
  · simp [State.restartFails, good]
  · simp [State.restartFails, hm, empty]

theorem State.restartFails_of_good (hp : s.programBad = false) : s.restartFails = false := by
  simp [State.restartFails, hp]

theorem State.restartFails_of_bad (hm : s.mode.stopped = false ∨ s.engine.header ≠ none) (hp : s.programBad = true) :
    s.restartFails = true := by
  rcases hm with runs | held
  · simp [State.restartFails, hp, runs]
  · simp [State.restartFails, hp, Option.isSome_iff_ne_none.2 held]

end restartFails

/-! ### The two ends of a restart (07 R217, R218, R221) -/

/-- The engine as a check that passes leaves it: up, except in HOLD and LOAD where PROVE was not requested since. -/
def State.engineStarts (s : State) : State := s.setEngine fun e => { e with
  restarting := false, pmFail := false, up := !s.mode.stopped || s.proving, shown := none }

/-- What an engine that is up again does outside HOLD and LOAD: rows, hedge buses and lamps are taken up again, and the
restart is told (16 R503). -/
def State.worksAgain (s : State) : State :=
  let s := s.takeRows.rejoin.headNotice.mgmtStart.newDigest
  let s := if s.roadRuns then s.lampsCaughtUp.repeatAll else s
  (s.deviceEvent evEngineRestart (some s.engine.count.toNat)).tellOwed

/-- The parts that `worksAgain` reaches: the modes and the engine's own registers are not among them. -/
def againParts : List Part :=
  [.mem, .pool, .draws, .irq, .bells, .replies, .events, .changes, .ports, .tx, .sieve, .sluice, .lamps, .buses, .heads,
    .pair, .journal, .tag, .mgmt, .inject, .dozeEvents]

theorem State.worksAgain_steps (s : State) : Steps againParts s s.worksAgain := by
  have rows : Steps againParts s s.takeRows.rejoin.headNotice :=
    State.headNotice_steps (State.rejoin_steps (State.takeRows_steps (Steps.refl _ s) rfl) rfl) rfl
  have digest : Steps againParts s s.takeRows.rejoin.headNotice.mgmtStart.newDigest :=
    State.newDigest_steps (State.mgmtStart_steps rows rfl) rfl
  have lamps := State.repeatAll_steps (State.lampsCaughtUp_steps digest rfl) rfl
  exact State.tellOwed_steps (State.deviceEvent_steps _ _ (Steps.ite lamps digest) rfl) rfl

section restartDone
variable {s : State} (ha : s.alive = true) (hr : s.engine.restarting = true)
include ha hr

theorem exec_engineRestartDone_of_fails (hf : s.restartFails = true) : exec .engineRestartDone s =
    .next (s.setEngine fun e => { e with restarting := false, pmFail := true }) := by
  show execEngineRestartDone s = _
  simp [execEngineRestartDone, ha, hr, hf]

theorem exec_engineRestartDone_of_passes (hf : s.restartFails = false) : exec .engineRestartDone s =
    if s.mode.stopped then .next s.engineStarts else .next s.engineStarts.worksAgain := by
  show execEngineRestartDone s = _
  rw [execEngineRestartDone, if_neg (by simp [ha, hr]), if_neg (by simp [hf])]
  rfl

end restartDone

/-- Settles O32: in HOLD and LOAD the check decides alone; in the other modes `worksAgain` follows a check that passes,
and leaves the engine and the mode as they are. -/
theorem engineRestartEnds : Obligations.EngineRestartEnds := by
  refine ⟨fun s ha hr hm hp => ?_, fun s ha hr hm hp => ?_, fun s ha hr hm hp => ?_⟩
  · have starts : s.engineStarts = s.setEngine fun e => { e with
        restarting := false, pmFail := false, up := s.proving, shown := none } := by
      rw [State.engineStarts, hm]
      rfl
    rw [exec_engineRestartDone_of_passes ha hr (State.restartFails_of_stopped hm hp), if_pos hm, starts]
  · exact exec_engineRestartDone_of_fails ha hr (State.restartFails_of_bad hm hp)
  · have h := exec_engineRestartDone_of_passes ha hr (State.restartFails_of_good hp)
    rw [if_neg (by simp [hm])] at h
    have again := s.engineStarts.worksAgain_steps
    have engine : s.engineStarts.worksAgain.engine.bare = s.engineStarts.engine.bare := again.same .engine
    have modes : s.engineStarts.worksAgain.modes = s.modes := again.same .modes
    have up : s.engineStarts.engine.up = true := by simp [State.engineStarts, hm]
    exact ⟨_, h, (congrArg Engine.up engine).trans up, (congrArg Engine.restarting engine :),
      (congrArg Engine.pmFail engine :), (congrArg Engine.count engine :), (congrArg Engine.lastCause engine :), modes,
      only_parts_of_exec h⟩

end Sys2Proof.Machine
end

section
/-!
PROOFS. How a command of the catalogue is served (06 R189, 08 R222-R224, R227), and the queries that report the tables
and the system.
-/
set_option Elab.async false
namespace Sys2Proof.Machine

/-! ### How a command of the catalogue is served (06 R189, 08 R222, R223) -/

section serve
variable {s : State} {m : Msg} {code : Nat} {modes : State → Bool} {check : List Byte → Option Nat}
  {f : State → List Byte → State}

theorem Taken.asks_wellFormed {a : Taken} (h : a.asks m code = true) : a.malformed = false := by
  simp only [Taken.asks, Bool.and_eq_true, Bool.not_eq_true'] at h
  obtain ⟨⟨⟨⟨good, _⟩, _⟩, _⟩, _⟩ := h
  exact good

/-- A command is served: its mode set, its fields, then its effect. -/
def State.serveNow (s : State) (m : Msg) (code : Nat) (modes : State → Bool) (check : List Byte → Option Nat)
    (f : State → List Byte → State) : State :=
  if !modes s then s.refused m code 0x0011
  else match check m.payload with
    | some o => s.badAt m code o
    | none => f s m.payload

/-- The message that is next is served on the state without it. -/
theorem State.serve_of_next (hs : s.serves = true) (hr : s.replyHeld = false)
    (hn : (s.engine.taken.head?.any fun a => a.asks m code) = true) :
    s.serve m code modes check f = s.served.serveNow m code modes check f := by
  cases taken : s.engine.taken with
  | nil => simp [taken] at hn
  | cons a rest =>
    have asks : a.asks m code = true := by simpa [taken] using hn
    have quiet : s.answerMalformed = s :=
      State.answerMalformed_of_wellFormed (by simp [taken, Taken.asks_wellFormed asks])
    have served : (s.setEngine fun e => { e with taken := rest }) = s.served :=
      State.setEngine_congr (by rw [taken]; rfl)
    simp only [State.serve, quiet, taken, hs, hr, asks, Bool.not_false, Bool.and_self, if_true, served]
    rfl

theorem State.serve_of_offers (h : s.offers m code modes check) (hm : modes s.served = modes s := by rfl) :
    s.serve m code modes check f = f s.served m.payload := by
  obtain ⟨serves, mode, good, free, next⟩ := h
  rw [State.serve_of_next serves free next, State.serveNow, hm, mode, good]
  rfl

theorem State.serve_of_wrongMode (hs : s.serves = true) (hr : s.replyHeld = false)
    (hn : (s.engine.taken.head?.any fun a => a.asks m code) = true) (hm : modes s.served = false) :
    s.serve m code modes check f = s.served.refused m code 0x0011 := by
  rw [State.serve_of_next hs hr hn, State.serveNow, hm]
  rfl

theorem State.serve_of_badField {o : Nat} (hs : s.serves = true) (hr : s.replyHeld = false)
    (hn : (s.engine.taken.head?.any fun a => a.asks m code) = true) (hm : modes s.served = true)
    (ho : check m.payload = some o) : s.serve m code modes check f = s.served.badAt m code o := by
  rw [State.serve_of_next hs hr hn, State.serveNow, hm, ho]
  rfl

theorem State.serve_of_waiting (h : s.serves = false ∨ ((s.engine.taken.head?.all fun a => !a.malformed) = true ∧
    (s.replyHeld = true ∨ (s.engine.taken.head?.any fun a => a.asks m code) = false))) :
    s.serve m code modes check f = s := by
  have quiet : s.answerMalformed = s := by
    rcases h with h | ⟨first, _⟩
    · exact State.answerMalformed_of_unserved h
    · exact State.answerMalformed_of_wellFormed first
  have shut (a : Taken) (rest : List Taken) (taken : s.engine.taken = a :: rest) :
      (s.serves && !s.replyHeld && a.asks m code) = false := by
    rcases h with h | ⟨_, h | h⟩
    · simp [h]
    · simp [h]
    · simp [show a.asks m code = false by simpa [taken] using h]
  cases taken : s.engine.taken with
  | nil => simp only [State.serve, quiet, taken]
  | cons a rest => simp only [State.serve, quiet, taken, shut a rest taken, Bool.false_eq_true, if_false]

end serve


/-! ### What the served state reads

The proofs that a reading is the same are `(rfl)`, not `rfl`: `simp` then rewrites with them, where a definitional check
would have the kernel unfold the address comparisons of `State.maintained`. -/

section served
variable (s : State)

theorem State.served_stagingPage (k : Nat) : s.served.stagingPage k = s.stagingPage k := (rfl)
theorem State.served_portTail (p : PortNo) : s.served.portTail p = s.portTail p := (rfl)
theorem State.served_sieveStatus : s.served.sieveStatus = s.sieveStatus := (rfl)
theorem State.served_viewFlags (v : Fin 52) : s.served.viewFlags v = s.viewFlags v := (rfl)
theorem State.served_viewTail (v : Fin 52) : s.served.viewTail v = s.viewTail v := (rfl)
theorem State.served_sluiceStatus : s.served.sluiceStatus = s.sluiceStatus := (rfl)
theorem State.served_ampBlock (p : PortNo) : s.served.ampBlock p = s.ampBlock p := (rfl)

theorem State.served_gov (g : GovNo) : s.served.gov g = s.gov g := (rfl)
theorem State.served_lamp (l : LampNo) : s.served.lamp l = s.lamp l := (rfl)
theorem State.served_heads : s.served.heads = s.heads := (rfl)
theorem State.served_buses : s.served.buses = s.buses := (rfl)
theorem State.served_draws : s.served.draws = s.draws := (rfl)

/-- What the GX-48 maintains does not depend on the messages taken. -/
theorem State.served_maintained (a : Nat) : s.served.maintained a = s.maintained a := by
  unfold State.maintained
  rw [s.served_sieveStatus, s.served_sluiceStatus]
  simp only [s.served_stagingPage, s.served_portTail, s.served_viewFlags, s.served_viewTail, s.served_ampBlock,
    s.served_gov, s.served_lamp, s.served_heads, s.served_buses, s.served_draws]

theorem State.served_fabricByte (a : Nat) : s.served.fabricByte a = s.fabricByte a := by
  unfold State.fabricByte
  rw [s.served_maintained]
  rfl

theorem State.served_fabricBytes (a n : Nat) : s.served.fabricBytes a n = s.fabricBytes a n :=
  List.map_congr_left fun k _ => s.served_fabricByte (a + k)

end served

/-! ### The queries (08 R234, R238, R241, R243, R248) -/

theorem leBytes_flag (b : Bool) : leBytes 1 (flag b 0) = [if b then 1 else 0] := by cases b <;> rfl

section getTime
variable {s : State} {m : Msg} (h : s.offers m 0x0103 inAll (exactFault []))
include h

theorem exec_getTime_none (he : s.settings.epoch = none) : exec (.getTime m) s = .next (s.served.done m 0x0103
    (leBytes 6 s.power.elapsed.toNat ++ [0, if s.pair.timeSkew then 1 else 0] ++ List.replicate 8 0)) := by
  have epoch : s.served.settings.epoch = none := he
  refine (congrArg Host.Outcome.next (State.serve_of_offers h)).trans ?_
  simp only [epoch, leBytes_flag, List.append_assoc]
  rfl

theorem exec_getTime_some {e : Epoch} (he : s.settings.epoch = some e) :
    exec (.getTime m) s = .next (s.served.done m 0x0103
      (leBytes 6 s.power.elapsed.toNat ++ [1, if s.pair.timeSkew then 1 else 0] ++
        leBytes 4 (utcSeconds e s.power.elapsed) ++ leBytes 4 (utcFraction e s.power.elapsed))) := by
  have epoch : s.served.settings.epoch = some e := he
  refine (congrArg Host.Outcome.next (State.serve_of_offers h)).trans ?_
  simp only [epoch, leBytes_flag, List.append_assoc]
  rfl

end getTime

/-- Settles O40: each query is served on the state without its message, and reads there what it reads of `s`. -/
theorem queriesReportTheTablesAndTheSystem : Obligations.QueriesReportTheTablesAndTheSystem := by
  refine ⟨fun s m h => ?_, fun s m h he => ?_, fun e s m h he => ?_, fun s m h hn => ?_, fun s m h => ?_, fun s m h => ?_,
    fun s m h => ?_, fun s m h => ?_, fun v s m h hv => ?_, fun b k s m h hk => ?_, fun s m h => ?_,
    fun g body s m h hc => ?_, fun s m h hc => ?_, fun s m h => ?_⟩
  · exact congrArg Host.Outcome.next (State.serve_of_offers h)
  · exact exec_getTime_none h he
  · exact exec_getTime_some h he
  · refine (congrArg Host.Outcome.next (State.serve_of_offers h)).trans ?_
    simp only [show s.served.settings.changes = s.settings.changes from rfl, hn, if_true]
    rfl
  · exact congrArg Host.Outcome.next (State.serve_of_offers h)
  · rw [← portRowAt, ← s.served_fabricBytes]
    exact congrArg Host.Outcome.next (State.serve_of_offers h)
  · exact congrArg Host.Outcome.next (State.serve_of_offers h)
  · rw [← weirRowAt, ← s.served_fabricBytes]
    exact congrArg Host.Outcome.next (State.serve_of_offers h)
  · have view : viewOf (byteAt m.payload 0) = v := by rw [hv]; exact Fin.ofNat_val_eq_self v
    rw [← view, ← s.served_fabricBytes]
    exact congrArg Host.Outcome.next (State.serve_of_offers h)
  · rw [← s.served_fabricBytes]
    refine (congrArg Host.Outcome.next (State.serve_of_offers h)).trans ?_
    simp only [show s.served.headNamed m.payload = some (b, k) from hk]
  · rw [← lampRowAt, ← s.served_fabricBytes]
    exact congrArg Host.Outcome.next (State.serve_of_offers h)
  · refine (congrArg Host.Outcome.next (State.serve_of_offers h)).trans ?_
    simp only [show s.served.tag.current = some (g, body) from hc]
  · refine (congrArg Host.Outcome.next (State.serve_of_offers h)).trans ?_
    simp only [show s.served.tag.current = none from hc]
  · refine (congrArg Host.Outcome.next (State.serve_of_offers h)).trans ?_
    rw [leBytes_flag, List.append_assoc]
    rfl
/-! ### The catalogue (08) -/

/-- An instruction of the catalogue is served under its code, in its mode set and with its field check; the mode set does
not depend on the messages taken. -/
structure Catalogued (s : State) (m : Msg) (x : Instr × Nat × (State → Bool) × (List Byte → Option Nat)) : Prop where
  mode : x.2.2.1 s.served = x.2.2.1 s
  exec_eq : ∃ f, exec x.1 s = .next (s.serve m x.2.1 x.2.2.1 x.2.2.2 f)

theorem catalogue_catalogued (s : State) (m : Msg) (e : List (List Nat)) : ∀ x ∈ catalogue s m e, Catalogued s m x := by
  simp only [catalogue, List.forall_mem_append, List.forall_mem_cons, List.not_mem_nil, false_implies, implies_true,
    and_true]
  and_intros
  all_goals exact ⟨rfl, _, rfl⟩

/-- The codes of the catalogue, group by group. -/
def catalogueCodes : List Nat :=
  List.range' 0x0101 9 ++ List.range' 0x0201 5 ++ List.range' 0x0301 6 ++ List.range' 0x0401 11 ++
    List.range' 0x0501 10 ++ List.range' 0x0601 5 ++ List.range' 0x0701 5 ++ List.range' 0x0801 3 ++ List.range' 0x0901 6

theorem mem_catalogueCodes {c : Nat} (h : catalogued c = true) : c ∈ catalogueCodes := by
  simp only [catalogued, Bool.or_eq_true, Bool.and_eq_true, decide_eq_true_eq] at h
  simp only [catalogueCodes, List.mem_append, List.mem_range'_1]
  omega

theorem catalogue_codes (s : State) (m : Msg) (e : List (List Nat)) :
    ((catalogue s m e).map fun x => x.2.1).dedup = catalogueCodes := by
  simp only [catalogue, List.map_append, List.map_cons, List.map_nil]
  decide

theorem exists_mem_catalogue (s : State) (m : Msg) (e : List (List Nat)) {c : Nat} (h : catalogued c = true) :
    ∃ x ∈ catalogue s m e, x.2.1 = c := by
  have listed := mem_catalogueCodes h
  rwa [← catalogue_codes s m e, List.mem_dedup, List.mem_map] at listed

theorem exec_unknownCommand {s : State} {m : Msg} {code : Half} (h : catalogued code.toNat = false) :
    exec (.unknownCommand code m) s = .next (s.serve m code.toNat inAll (fun _ => none) fun s _ =>
      s.badAt m code.toNat 0xFFFF) :=
  if_neg (by simp [h])

/-- Settles O39: every command of the catalogue is a `serve`, whose first step is to refuse or to wait. -/
theorem commandsRunInTurnInTheirModeSets : Obligations.CommandsRunInTurnInTheirModeSets := by
  refine ⟨fun s m e x hx hs hr hn => ?_, fun s m e x hx h => ?_, fun s m code h hc => ?_⟩
  · obtain ⟨mode, f, exec_eq⟩ := catalogue_catalogued s m e x hx
    rw [exec_eq]
    exact ⟨fun hm => congrArg _ (State.serve_of_wrongMode hs hr hn (mode.trans hm)),
      fun o hm ho => congrArg _ (State.serve_of_badField hs hr hn (mode.trans hm) ho)⟩
  · obtain ⟨-, f, exec_eq⟩ := catalogue_catalogued s m e x hx
    rw [exec_eq, State.serve_of_waiting h]
  · have unlisted : catalogued code.toNat = false := by
      rw [← Bool.not_eq_true]
      intro listed
      obtain ⟨x, hx, same⟩ := exists_mem_catalogue s m [] listed
      exact hc x hx same
    rw [exec_unknownCommand unlisted, State.serve_of_offers h]

end Sys2Proof.Machine
end

section
/-!
PROOFS. What a change command leaves behind (08 R230, R232, R233), and the settings commands (08 R234, R235, R245, R248,
R253; 20 R611, R613).
-/
set_option Elab.async false
namespace Sys2Proof.Machine

/-! ### Fields of a payload (08 R222, R223) -/

theorem fieldsFault_cons_none {pos : Nat} {f : Fld} {l : List Fld} {bs : List Byte}
    (h : fieldsFault pos (f :: l) bs = none) :
    pos + f.size ≤ bs.length ∧ fieldAt bs pos f.size ≤ f.high ∧ f.low ≤ fieldAt bs pos f.size ∧
      fieldsFault (pos + f.size) l bs = none := by
  unfold fieldsFault at h
  split at h
  · cases h
  · split at h
    · cases h
    · exact ⟨by omega, by omega, by omega, h⟩

theorem exactFault_none {l : List Fld} {bs : List Byte} (h : exactFault l bs = none) :
    fieldsFault 0 l bs = none ∧ bs.length ≤ fieldsSize l := by
  unfold exactFault at h
  split at h
  · cases h
  · next good =>
    split at h
    · cases h
    · exact ⟨good, by omega⟩

theorem fieldAt_lt (bs : List Byte) (o n : Nat) : fieldAt bs o n < 256 ^ n := by
  refine Nat.lt_of_lt_of_le (fromLe_lt _) (Nat.pow_le_pow_right (by decide) ?_)
  rw [bytesAt, List.length_take]
  exact Nat.min_le_left _ _

theorem fieldAt_two_toNat (bs : List Byte) (o : Nat) : (BitVec.ofNat 16 (fieldAt bs o 2)).toNat = fieldAt bs o 2 :=
  BitVec.toNat_ofNat _ _ |>.trans (Nat.mod_eq_of_lt (fieldAt_lt bs o 2))

theorem bitsOf_zero_one (v : Nat) : bitsOf v 0 1 = v % 2 := by simp [bitsOf]

/-! ### A change that is counted -/

theorem State.up_of_serves {s : State} (h : s.serves = true) : s.engine.up = true := by
  simp only [State.serves, Bool.and_eq_true] at h
  obtain ⟨⟨_, up⟩, _⟩ := h
  exact up

theorem State.serves_of_offers {s : State} {m : Msg} {code : Nat} {modes : State → Bool}
    {check : List Byte → Option Nat} (h : s.offers m code modes check) : s.serves = true := h.1

theorem State.check_of_offers {s : State} {m : Msg} {code : Nat} {modes : State → Bool}
    {check : List Byte → Option Nat} (h : s.offers m code modes check) : check m.payload = none := h.2.2.1

/-- The digest is taken over the memory, the active bank and the settings but what counts changes. -/
theorem State.digestBytes_congr {s t : State} (hm : t.mem = s.mem) (hb : t.sieve.bankB = s.sieve.bankB)
    (hg : t.settings.bare = s.settings.bare) : t.digestBytes = s.digestBytes := by
  have block : t.settings.block = s.settings.block := (congrArg Settings.block hg :)
  unfold State.digestBytes State.memBytes
  rw [hm, hb, block]

theorem Steps.digestBytes {ps : List Part} {s t : State} (h : Steps ps s t) (hm : ps.contains .mem = false := by rfl)
    (hs : ps.contains .sieve = false := by rfl) (hg : ps.contains .settings = false := by rfl) :
    t.digestBytes = s.digestBytes :=
  State.digestBytes_congr (h.same .mem hm) (congrArg Sieve.bankB (h.same .sieve hs)) (h.same .settings hg)

section configChange
variable {s u : State} {m : Msg} {code : Nat} {payload : List Byte}

/-- A configuration change is stamped, and its digest is that of what is in force. -/
theorem State.configChange_digest (hu : u.engine.up = true) (c : Chan) (code : Nat) :
    (u.configChange c code).settings.digest = crc32 (u.configChange c code).digestBytes := by
  have recorded : Steps [.journal] (u.noteChange u.now).newDigest (u.configChange c code) :=
    State.record_steps _ _ _ _ (Steps.refl _ _) rfl
  obtain ⟨_, _, digest⟩ := recorded.same .changes
  have noted : (u.noteChange u.now).newDigest =
      (u.noteChange u.now).setSettings fun g => { g with digest := crc32 (u.noteChange u.now).digestBytes } := if_pos hu
  rw [digest, recorded.digestBytes, (State.newDigest_steps (ps := [.changes]) (Steps.refl _ _) rfl).digestBytes, noted]
  rfl

variable (u m code payload)

/-- What the completion of a change command touches. -/
theorem State.changed_keeps : Steps [.replies, .changes, .journal] u (u.changed m code payload) :=
  State.changed_steps m code payload (Steps.refl _ u) rfl

theorem State.done_keeps : Steps [.replies] u (u.done m code payload) := State.done_steps m code payload (Steps.refl _ u) rfl

theorem State.reply_chan_replies (c : Chan) (status : Nat) (tag : Half) (d : Chan) :
    ((u.reply c code status tag payload).chan d).replies = (u.chan d).replies ++
      if d = c then [{ code := BitVec.ofNat 16 code, status := BitVec.ofNat 16 status, tag := tag, payload := payload }]
      else [] := by
  show ((State.setChan _ _ _).chan d).replies = _
  split
  · next same =>
    subst same
    rw [State.setChan_chan]
  · next other =>
    rw [State.setChan_chan_ne _ _ other, List.append_nil]

theorem State.done_chan_replies (c : Chan) : ((u.done m code payload).chan c).replies = (u.chan c).replies ++
    if c = m.ch then [{ code := BitVec.ofNat 16 code, status := 0, tag := m.tag, payload := payload }] else [] :=
  State.reply_chan_replies u code payload m.ch 0 m.tag c

theorem State.changed_chan_replies (c : Chan) : ((u.changed m code payload).chan c).replies = (u.chan c).replies ++
    if c = m.ch then [{ code := BitVec.ofNat 16 code, status := 0, tag := m.tag, payload := payload }] else [] := by
  have kept := (State.configChange_steps (ps := [.changes, .journal]) m.ch code (Steps.refl _ u) rfl).same .replies
  rw [State.changed, State.done_chan_replies]
  cases c
  · rw [show ((u.configChange m.ch code).chan .n).replies = (u.chan .n).replies from kept.1]
  · rw [show ((u.configChange m.ch code).chan .k).replies = (u.chan .k).replies from kept.2]

theorem State.changed_changes : (u.changed m code payload).settings.changes = u.settings.changes + 1 :=
  (State.done_keeps _ m code payload).changes.trans (State.configChange_changes u m.ch code)

theorem State.changed_lastChange : (u.changed m code payload).settings.lastChange = u.now := by
  obtain ⟨_, stamped, _⟩ := (State.done_keeps (u.configChange m.ch code) m code payload).same .changes
  exact stamped.trans (State.configChange_lastChange u m.ch code)

variable {u}

theorem State.changed_digest (hu : u.engine.up = true) :
    (u.changed m code payload).settings.digest = crc32 (u.changed m code payload).digestBytes := by
  have answered := State.done_keeps (u.configChange m.ch code) m code payload
  obtain ⟨_, _, digest⟩ := answered.same .changes
  rw [State.changed, digest, answered.digestBytes, State.configChange_digest hu]

variable {m code payload}

/-- Answering a state that has kept the replies answers the message alone. -/
theorem State.done_replied (h : ∀ c, (u.chan c).replies = (s.chan c).replies) :
    Replied s (u.done m code payload) m code 0 payload := fun c => by
  rw [State.done_chan_replies, h c]
  rfl

theorem Steps.replies {ps : List Part} (h : Steps ps s u) (hr : ps.contains .replies = false := by rfl) (c : Chan) :
    (u.chan c).replies = (s.chan c).replies := by
  obtain ⟨n, k⟩ := h.same .replies hr
  cases c
  · exact n
  · exact k

theorem Steps.up {ps : List Part} (h : Steps ps s u) (he : ps.contains .engine = false := by rfl) :
    u.engine.up = s.engine.up :=
  (congrArg Engine.up (h.same .engine he) :)

theorem Steps.now {ps : List Part} (h : Steps ps s u) (hp : ps.contains .power = false := by rfl) : u.now = s.now :=
  congrArg Power.elapsed (h.same .power hp)

/-- A change command that has kept the count so far is counted once. -/
theorem State.changed_counted {ps : List Part} (hs : s.serves = true) (h : Steps ps s u)
    (hc : ps.contains .changes = false := by rfl) (he : ps.contains .engine = false := by rfl)
    (hp : ps.contains .power = false := by rfl) : Counted s (u.changed m code payload) :=
  ⟨by rw [State.changed_changes, h.changes hc], by rw [State.changed_lastChange, h.now hp],
    State.changed_digest m code payload ((h.up he).trans (State.up_of_serves hs))⟩

theorem State.changed_replied {ps : List Part} (h : Steps ps s u) (hr : ps.contains .replies = false := by rfl) :
    Replied s (u.changed m code payload) m code 0 payload := fun c => by
  rw [State.changed_chan_replies, h.replies hr c]
  rfl

/-- A change command whose effect counts changes of its own is noted with them. -/
theorem State.changed_noted {ps : List Part} (hs : s.serves = true) (h : Steps ps s u)
    (hc : s.settings.changes ≤ u.settings.changes) (he : ps.contains .engine = false := by rfl)
    (hp : ps.contains .power = false := by rfl) : Noted s (u.changed m code payload) :=
  ⟨by rw [State.changed_changes]; omega, by rw [State.changed_lastChange, h.now hp],
    State.changed_digest m code payload ((h.up he).trans (State.up_of_serves hs))⟩

theorem State.changed_answered {ps : List Part} (h : Steps ps s u) (hd : ps.contains .drops = false := by rfl) :
    Answered s (u.changed m code payload) m code 0 payload := by
  have kept : (s.chan m.ch).replies <+: (u.chan m.ch).replies := by
    obtain ⟨n, k⟩ := h.same .drops hd
    cases m.ch
    · exact n
    · exact k
  obtain ⟨x, more⟩ := kept
  refine ⟨x, [], ?_⟩
  rw [State.changed_chan_replies, if_pos rfl, more, List.append_nil]
  rfl

end configChange

/-! ### Accepted commands (06 R189) -/

section accepted
variable (u : State)

theorem State.accept_replied (m : Msg) (code : Nat) (w : Work) : Replied u (u.accept m code w) m code 1 [] :=
  fun c => (State.reply_chan_replies _ code [] m.ch 1 m.tag c).trans (by cases c <;> rfl)

theorem State.accept_accepted (m : Msg) (code : Nat) (w : Work) : (u.accept m code w).engine.accepted =
    u.engine.accepted ++ [{ ch := m.ch, code := BitVec.ofNat 16 code, tag := m.tag, work := w }] := by
  unfold State.accept State.reply
  cases m.ch <;> rfl

theorem State.complete_replied (a : Accepted) (status : Nat) (payload : List Byte) :
    Replied u (u.complete a status payload) { ch := a.ch, tag := a.tag, payload := [] } a.code.toNat status payload :=
  fun c => (State.reply_chan_replies _ a.code.toNat payload a.ch status a.tag c).trans (by cases c <;> rfl)

theorem State.complete_accepted (a : Accepted) (status : Nat) (payload : List Byte) :
    (u.complete a status payload).engine.accepted = u.engine.accepted.erase a := by
  unfold State.complete State.reply
  cases a.ch <;> rfl

end accepted

/-- A message leaves the list of those taken. -/
theorem State.served_steps (s : State) : Steps [.work] s s.served :=
  State.setEngine_work_steps _ (Steps.refl _ s) (fun _ => ⟨rfl, rfl⟩) rfl

end Sys2Proof.Machine
end

section
/-!
PROOFS. The count of configuration changes never goes down (08 R230), and the settings commands (08 R234, R235, R245,
R248, R253; 20 R611, R613).
-/
set_option Elab.async false
namespace Sys2Proof.Machine

/-! ### What counts changes of its own -/

/-- The count of configuration changes has not gone down. -/
def Grows (s t : State) : Prop := s.settings.changes ≤ t.settings.changes

section grows
variable {ps : List Part} {s t u : State}

theorem Grows.refl (s : State) : Grows s s := Nat.le_refl _

theorem Grows.trans (h : Grows s t) (k : Grows t u) : Grows s u := Nat.le_trans h k

theorem Steps.grows (h : Steps ps s t) (hc : ps.contains .changes = false := by rfl) : Grows s t :=
  Nat.le_of_eq (h.changes hc).symm

theorem Grows.foldl {α : Type} {f : State → α → State} (hf : ∀ t x, Grows t (f t x)) (l : List α) (s : State) :
    Grows s (l.foldl f s) := by
  induction l generalizing s with
  | nil => exact Grows.refl s
  | cons x l ih => exact (hf s x).trans (ih _)

theorem Grows.ite {c : Prop} [Decidable c] (ht : Grows s t) (hu : Grows s u) : Grows s (if c then t else u) := by
  split <;> assumption

theorem State.hedgeRole_grows (s : State) : Grows s s.hedgeRole := by
  rw [State.hedgeRole_eq, State.eachBus]
  exact Grows.foldl (fun t b => t.hedgeRoleOf_changes_ge b) _ s

theorem State.takeRxRow_grows (s : State) (p : PortNo) : Grows s (s.takeRxRow p) := by
  rw [State.takeRxRow_eq]
  have taken : Steps [.mem, .pool, .ports, .tx, .sluice] s (s.updPort p (Port.takeRow (s.portRow p) s.roadRuns)) :=
    State.updPort_steps p _ (Steps.refl _ s) rfl
  refine Grows.trans ?_ ((State.hedgeRole_grows _).trans
    (State.headNotice_steps (ps := [.ports]) (Steps.refl _ _) rfl).grows)
  exact (Steps.ite taken (State.dropPartial_steps p taken rfl)).grows

theorem State.adoptHere_grows (s : State) (p : PortNo) : Grows s (s.adoptHere p) := by
  unfold State.adoptHere
  exact Grows.ite (s.takeRxRow_grows p) (Grows.refl s)

theorem State.disarmParking_steps (s : State) (p : PortNo) : Steps [.ports, .tx] s (s.disarmParking p) :=
  Steps.ite (State.updPort_steps p _ (Steps.refl _ s) rfl) (Steps.refl _ s)

theorem State.retireHere_steps (s : State) (p : PortNo) (retires : Bool) : Steps [.ports, .tx] s (s.retireHere p retires) :=
  Steps.ite (State.updPort_steps p _ (Steps.refl _ s) rfl) (Steps.refl _ s)

theorem State.rxBoundary_grows (s : State) (p : PortNo) : Grows s (s.rxBoundary p) := by
  obtain ⟨retires, boundary⟩ := s.rxBoundary_eq p
  rw [boundary]
  refine Grows.ite (Grows.refl s) ?_
  exact ((s.disarmParking_steps p).grows.trans (State.retireHere_steps _ p retires).grows).trans
    (State.adoptHere_grows _ p)

theorem State.park_grows (s : State) (p : PortNo) : Grows s (s.park p) := by
  refine Grows.trans ?_ (State.rxBoundary_grows _ p)
  have shown : Steps [.ports, .tx, .sluice] s ((s.markParked p).updView (portView p) fun v => { v with parked := true }) :=
    State.updView_steps _ _ (State.updPort_steps p _ (Steps.refl _ s) rfl) rfl
  exact (State.yieldGroup_steps p shown rfl).grows

theorem State.parkByVigil_grows (s : State) (p : PortNo) : Grows s (s.parkByVigil p) :=
  Grows.ite (Grows.ite (Grows.refl s) (s.park_grows p))
    (Grows.ite (State.unpark_steps (ps := [.mem, .pool, .ports, .sluice]) p (Steps.refl _ s) rfl).grows (Grows.refl s))

end grows

/-! ### Commands that store one setting (08 R234, R248, R253) -/

section settings
variable {s : State} {m : Msg}

/-- A command whose whole effect is to store settings: answered, counted, and what it stored stays stored. -/
theorem settings_stored {f : Settings → Settings} {code : Nat} {c : Instr} (hs : s.serves = true)
    (hx : exec c s = .next ((s.served.setSettings f).changed m code []))
    (hf : ∀ g, ((f g).devFlags = g.devFlags ∧ (f g).portFlags = g.portFlags) ∧
      (f g).changes = g.changes ∧ (f g).lastChange = g.lastChange ∧ (f g).digest = g.digest) :
    ∃ t, exec c s = .next t ∧ Replied s t m code 0 [] ∧ Counted s t ∧ t.settings.bare = (f s.settings).bare ∧
      Only (parts c) s t := by
  have stored : Steps [.work, .settings] s (s.served.setSettings f) :=
    State.setSettings_settings_steps f (s.served_steps.widen rfl) hf rfl
  exact ⟨_, hx, State.changed_replied stored, State.changed_counted hs stored,
    (State.changed_keeps _ m code []).same .settings, only_parts_of_exec hx⟩

theorem exec_hostWatch (h : s.offers m 0x0105 inAll (exactFault [upTo 2 600])) :
    exec (.hostWatch m) s = .next ((s.served.setSettings fun g => { g with
      hostWatch := BitVec.ofNat 16 (fieldAt m.payload 0 2) }).changed m 0x0105 []) :=
  congrArg Host.Outcome.next (State.serve_of_offers h)

theorem exec_heartbeat (h : s.offers m 0x0106 inAll (exactFault [upTo 2 3600])) :
    exec (.heartbeat m) s = .next ((s.served.setSettings fun g => { g with
      heartbeat := BitVec.ofNat 16 (fieldAt m.payload 0 2) }).changed m 0x0106 []) :=
  congrArg Host.Outcome.next (State.serve_of_offers h)

theorem exec_alarmSet (h : s.offers m 0x0509 inAll alarmSetFault) :
    exec (.alarmSet m) s = .next ((s.served.setSettings fun g => { g with
      alrTalker0 := m.payload.getD 0 0, alrTalker1 := m.payload.getD 1 0
      alrRepeat := BitVec.ofNat 16 (fieldAt m.payload 2 2) }).changed m 0x0509 []) :=
  congrArg Host.Outcome.next (State.serve_of_offers h)

theorem exec_journalKinds (h : s.offers m 0x0705 inAll (exactFault [anyFld 2])) :
    exec (.journalKinds m) s = .next ((s.served.setSettings fun g => { g with
      sentences := bitsOf (fieldAt m.payload 0 2) 0 1 = 1 }).changed m 0x0705 []) :=
  congrArg Host.Outcome.next (State.serve_of_offers h)

theorem two_le_of_alarmSetFault {bs : List Byte} (h : alarmSetFault bs = none) : 2 ≤ bs.length := by
  unfold alarmSetFault at h
  dsimp only at h
  split at h
  · cases h
  · obtain ⟨good, -⟩ := exactFault_none h
    obtain ⟨enough, -, -, -⟩ := fieldsFault_cons_none good
    exact enough

theorem take_two {bs : List Byte} (h : 2 ≤ bs.length) : [bs.getD 0 0, bs.getD 1 0] = bs.take 2 := by
  match bs with
  | a :: b :: _ => rfl

end settings

/-! ### SET-EPOCH (08 R235) -/

section epoch
variable {s : State} {m : Msg} (h : s.offers m 0x0102 inAll (epochFault s.takenAt.1))

/-- The epoch that a SET-EPOCH payload carries, none with CLEAR. -/
def epochOf (bs : List Byte) : Option Epoch :=
  if bitsOf (fieldAt bs 14 2) 0 1 = 1 then none else some {
    seconds := BitVec.ofNat 32 (fieldAt bs 0 4), micros := BitVec.ofNat 32 (fieldAt bs 4 4)
    instant := BitVec.ofNat 48 (fieldAt bs 8 6) }

/-- The state with the epoch of the payload, its time mark made and the standby told. -/
def State.withEpoch (s : State) (bs : List Byte) (at_ : Stamp) : State :=
  ((s.setSettings fun g => { g with epoch := epochOf bs }).timeMark
    (if bitsOf (fieldAt bs 14 2) 0 1 = 1 then 2 else 1) at_).sendEpoch

include h

theorem exec_setEpoch (hr : s.pair.role ≠ .standby) :
    exec (.setEpoch m) s = .next ((s.served.withEpoch m.payload s.takenAt.1).changed m 0x0102 []) := by
  refine (congrArg Host.Outcome.next (State.serve_of_offers h)).trans ?_
  exact congrArg Host.Outcome.next (if_neg hr)

theorem exec_setEpoch_standby (hr : s.pair.role = .standby) :
    exec (.setEpoch m) s = .next (s.served.refused m 0x0102 0x0014) := by
  refine (congrArg Host.Outcome.next (State.serve_of_offers h)).trans ?_
  exact congrArg Host.Outcome.next (if_pos hr)

theorem setEpoch_stores (hr : s.pair.role ≠ .standby) : ∃ t, exec (.setEpoch m) s = .next t ∧
    Replied s t m 0x0102 0 [] ∧ Counted s t ∧ t.settings.epoch = epochOf m.payload ∧ Only (parts (.setEpoch m)) s t := by
  have hx := exec_setEpoch h hr
  have stored : Steps [.work, .settings] s (s.served.setSettings fun g => { g with epoch := epochOf m.payload }) :=
    State.setSettings_settings_steps _ (s.served_steps.widen rfl) (fun _ => ⟨⟨rfl, rfl⟩, rfl, rfl, rfl⟩) rfl
  have told : Steps [.journal, .pair, .inject] (s.served.setSettings fun g => { g with epoch := epochOf m.payload })
      (s.served.withEpoch m.payload s.takenAt.1) :=
    State.sendEpoch_steps (State.timeMark_steps _ _ (Steps.refl _ _) rfl) rfl
  have all : Steps [.work, .settings, .journal, .pair, .inject] s (s.served.withEpoch m.payload s.takenAt.1) :=
    (stored.widen rfl).step told rfl
  exact ⟨_, hx, State.changed_replied all, State.changed_counted (State.serves_of_offers h) all,
    congrArg Settings.epoch (((State.changed_keeps _ m 0x0102 []).same .settings).trans (told.same .settings)),
    only_parts_of_exec hx⟩

end epoch

/-! ### MGMT-SET (20 R611, R613) -/

section scan

theorem State.scanStatus_settings (s : State) (i : Fin 16) (x : Byte) :
    (s.scanStatus i x).settings.bare = s.settings.bare :=
  (State.scanStatus_steps (ps := [.irq, .bells, .mgmt]) i x (Steps.refl _ s) rfl).same .settings

theorem State.scanOn_congr {s t : State} (h : t.settings.bare = s.settings.bare) (i : Fin 16) :
    t.scanOn i = s.scanOn i :=
  (congrArg (fun g : Settings => (g.scan.get i).getLsbD 8) h :)

theorem State.ring_mgmt (s : State) (bit : Nat) : (s.ring bit).mgmt = s.mgmt :=
  (State.ring_steps (ps := [.irq, .bells]) bit (Steps.refl _ s) rfl).same .mgmt

/-- Only the status of its entry changes. -/
theorem State.scanStatus_mgmt (s : State) (i : Fin 16) (x : Byte) :
    (s.scanStatus i x).mgmt = { s.mgmt with results := upd s.mgmt.results i fun r => { r with status := x } } := by
  unfold State.scanStatus
  split
  · next same =>
    have kept : (upd s.mgmt.results i fun r => { r with status := x }) = s.mgmt.results := by
      ext j hj
      show ((upd s.mgmt.results i _).get ⟨j, hj⟩) = s.mgmt.results.get ⟨j, hj⟩
      rw [upd_get]
      split
      · next e => rw [e, ← same]
      · rfl
    rw [kept]
  · rw [State.ring_mgmt]
    rfl

theorem State.scanStatus_results (s : State) (i j : Fin 16) (x : Byte) :
    ((s.scanStatus i x).mgmt.results.get j).status = if j = i then x else (s.mgmt.results.get j).status := by
  rw [State.scanStatus_mgmt, upd_get]
  split <;> rfl

/-- One entry as a MGMT-SET takes effect: disabled ones read 4, and on a stuck bus enabled ones 3. -/
def State.showOff (s : State) (i : Fin 16) : State := if s.scanOn i then s else s.scanStatus i 4
def State.showStuck (s : State) (i : Fin 16) : State := if s.scanOn i then s.scanStatus i 3 else s

/-- The settings, and the scan but its results, are as in `s`. -/
structure ScanKept (s t : State) : Prop where
  settings : t.settings.bare = s.settings.bare
  mgmt : t.mgmt = { s.mgmt with results := t.mgmt.results }

theorem ScanKept.refl (s : State) : ScanKept s s := ⟨rfl, rfl⟩

theorem ScanKept.scanStatus {s t : State} (h : ScanKept s t) (i : Fin 16) (x : Byte) : ScanKept s (t.scanStatus i x) where
  settings := (t.scanStatus_settings i x).trans h.settings
  mgmt := by
    rw [State.scanStatus_mgmt, h.mgmt]

theorem ScanKept.showOff {s t : State} (h : ScanKept s t) (i : Fin 16) : ScanKept s (t.showOff i) := by
  unfold State.showOff
  split
  · exact h
  · exact h.scanStatus i 4

theorem ScanKept.showStuck {s t : State} (h : ScanKept s t) (i : Fin 16) : ScanKept s (t.showStuck i) := by
  unfold State.showStuck
  split
  · exact h.scanStatus i 3
  · exact h

theorem ScanKept.scanOn {s t : State} (h : ScanKept s t) (i : Fin 16) : t.scanOn i = s.scanOn i := State.scanOn_congr h.settings i

theorem ScanKept.setWaits {s t : State} (h : ScanKept s t) : t.mgmt.setWaits = s.mgmt.setWaits :=
  (congrArg Mgmt.setWaits h.mgmt :)

theorem ScanKept.foldl {f : State → Fin 16 → State} (hf : ∀ s t i, ScanKept s t → ScanKept s (f t i)) {s t : State}
    (h : ScanKept s t) : ScanKept s ((List.finRange 16).foldl f t) :=
  List.foldlRecOn _ _ h fun t h i _ => hf s t i h

theorem State.mgmtStart_results (s : State) : s.mgmtStart.mgmt.results = s.mgmt.results := by
  unfold State.mgmtStart
  split
  · rfl
  · split <;> rfl

theorem State.mgmtStart_setWaits (s : State) : s.mgmtStart.mgmt.setWaits = s.mgmt.setWaits := by
  unfold State.mgmtStart
  split
  · rfl
  · split <;> rfl

theorem State.dueScan_results (s : State) : s.dueScan.mgmt.results = s.mgmt.results := State.mgmtStart_results _
theorem State.dueScan_setWaits (s : State) : s.dueScan.mgmt.setWaits = s.mgmt.setWaits := State.mgmtStart_setWaits _

/-- No MGMT-SET waits any more. -/
def State.scanTaken (s : State) : State := s.setMgmt fun m => { m with setWaits := false }

/-- The disabled entries have been shown as such. -/
def State.scanShown (s : State) : State := (List.finRange 16).foldl State.showOff s.scanTaken

theorem State.scanSet_eq (s : State) : s.scanSet =
    if s.scanShown.mgmt.stuck then (List.finRange 16).foldl State.showStuck s.scanShown else s.scanShown.dueScan := rfl

theorem State.scanShown_kept (s : State) : ScanKept s.scanTaken s.scanShown :=
  (ScanKept.refl _).foldl fun _ _ i h => h.showOff i

theorem State.scanSet_setWaits (s : State) : s.scanSet.mgmt.setWaits = false := by
  rw [State.scanSet_eq]
  split
  · have kept : ScanKept s.scanTaken ((List.finRange 16).foldl State.showStuck s.scanShown) :=
      s.scanShown_kept.foldl fun _ _ i h => h.showStuck i
    exact kept.setWaits
  · rw [State.dueScan_setWaits]
    exact s.scanShown_kept.setWaits

theorem State.showOff_status_ne (t : State) {i j : Fin 16} (h : j ≠ i) :
    ((t.showOff i).mgmt.results.get j).status = (t.mgmt.results.get j).status := by
  unfold State.showOff
  split
  · rfl
  · rw [State.scanStatus_results, if_neg h]

theorem State.showStuck_status_ne (t : State) {i j : Fin 16} (h : j ≠ i) :
    ((t.showStuck i).mgmt.results.get j).status = (t.mgmt.results.get j).status := by
  unfold State.showStuck
  split
  · rw [State.scanStatus_results, if_neg h]
  · rfl

theorem State.scanShown_off {s : State} {i : Fin 16} (h : s.scanOn i = false) :
    (s.scanShown.mgmt.results.get i).status = 4 := by
  obtain ⟨t, kept, -, left⟩ := foldl_key_of_mem (f := State.showOff) (I := ScanKept s.scanTaken)
    (key := fun t i => (t.mgmt.results.get i).status) (s := s.scanTaken) (fun _ i h => h.showOff i)
    (fun t _ _ _ ne => t.showOff_status_ne ne) (ScanKept.refl _) (List.nodup_finRange 16) (List.mem_finRange i)
  have off : t.scanOn i = false := (kept.scanOn i).trans h
  refine left.trans ?_
  show ((t.showOff i).mgmt.results.get i).status = 4
  rw [State.showOff, off, if_neg Bool.false_ne_true, State.scanStatus_results, if_pos rfl]

/-- A MGMT-SET that takes effect shows status 4 for its disabled entries. -/
theorem State.scanSet_off {s : State} {i : Fin 16} (h : s.scanOn i = false) :
    (s.scanSet.mgmt.results.get i).status = 4 := by
  rw [State.scanSet_eq]
  split
  · obtain ⟨t, kept, met, left⟩ := foldl_key_of_mem (f := State.showStuck) (I := ScanKept s.scanTaken)
      (key := fun t i => (t.mgmt.results.get i).status) (s := s.scanShown) (fun _ i h => h.showStuck i)
      (fun t _ _ _ ne => t.showStuck_status_ne ne) s.scanShown_kept (List.nodup_finRange 16) (List.mem_finRange i)
    have off : t.scanOn i = false := (kept.scanOn i).trans h
    refine left.trans ?_
    show ((t.showStuck i).mgmt.results.get i).status = 4
    rw [State.showStuck, off, if_neg Bool.false_ne_true]
    exact met.trans (State.scanShown_off h)
  · rw [State.dueScan_results]
    exact State.scanShown_off h

end scan

section mgmtSet
variable {s : State} {m : Msg}

/-- The scan settings that a MGMT-SET payload carries. -/
def Settings.withScan (bs : List Byte) (g : Settings) : Settings :=
  { g with mgmtFast := decide (byteAt bs 0 = 1), scan := (Vector.finRange 16).map fun i => scanEntryOf bs i }

/-- A MGMT-SET takes effect at once, or waits for the transaction in progress. -/
def State.scanDue (s : State) : State :=
  if s.mgmt.active.isSome then s.setMgmt fun m => { m with setWaits := true } else s.scanSet

theorem State.scanDue_steps (s : State) : Steps [.irq, .bells, .mgmt] s s.scanDue :=
  Steps.ite (State.setMgmt_steps _ (Steps.refl _ s) rfl) (State.scanSet_steps (Steps.refl _ s) rfl)

theorem exec_mgmtSet (h : s.offers m 0x0107 inAll scanSetFault) :
    exec (.mgmtSet m) s =
      .next (((s.served.setSettings (Settings.withScan m.payload)).scanDue).changed m 0x0107 []) :=
  congrArg Host.Outcome.next (State.serve_of_offers h)

theorem Settings.withScan_scan (bs : List Byte) (g : Settings) (i : Fin 16) :
    ((g.withScan bs).scan.get i).toNat = fieldAt bs (2 + 8 * i.val) 8 := by
  have entry : (g.withScan bs).scan.get i = scanEntryOf bs i := by
    show ((Vector.finRange 16).map fun i => scanEntryOf bs i)[i.val] = _
    rw [Vector.getElem_map, Vector.finRange, Vector.getElem_ofFn]
  rw [entry, scanEntryOf, BitVec.toNat_ofNat]
  exact Nat.mod_eq_of_lt (fieldAt_lt bs _ 8)

theorem mgmtSet_stores (h : s.offers m 0x0107 inAll scanSetFault) : ∃ t, exec (.mgmtSet m) s = .next t ∧
    Replied s t m 0x0107 0 [] ∧ Counted s t ∧ t.settings.mgmtFast = decide (byteAt m.payload 0 = 1) ∧
    (∀ i : Fin 16, (t.settings.scan.get i).toNat = fieldAt m.payload (2 + 8 * i.val) 8) ∧
    (s.mgmt.active = none → t.mgmt.setWaits = false ∧
      ∀ i : Fin 16, (t.settings.scan.get i).getLsbD 8 = false → (t.mgmt.results.get i).status = 4) ∧
    (s.mgmt.active ≠ none → t.mgmt = { s.mgmt with setWaits := true }) ∧ Only (parts (.mgmtSet m)) s t := by
  have hx := exec_mgmtSet h
  have stored : Steps [.work, .settings] s (s.served.setSettings (Settings.withScan m.payload)) :=
    State.setSettings_settings_steps _ (s.served_steps.widen rfl) (fun _ => ⟨⟨rfl, rfl⟩, rfl, rfl, rfl⟩) rfl
  have all : Steps [.work, .settings, .irq, .bells, .mgmt] s
      (s.served.setSettings (Settings.withScan m.payload)).scanDue :=
    (stored.widen rfl).step (State.scanDue_steps _) rfl
  generalize hu : s.served.setSettings (Settings.withScan m.payload) = u at hx stored all
  have settings : u.settings = s.settings.withScan m.payload := by rw [← hu]; rfl
  have mgmt : u.mgmt = s.mgmt := stored.same .mgmt
  have done := State.changed_keeps u.scanDue m 0x0107 []
  have bare : (u.scanDue.changed m 0x0107 []).settings.bare = (s.settings.withScan m.payload).bare :=
    ((done.same .settings).trans (u.scanDue_steps.same .settings)).trans (congrArg Settings.bare settings)
  have scan : (u.scanDue.changed m 0x0107 []).settings.scan = (s.settings.withScan m.payload).scan :=
    (congrArg Settings.scan bare :)
  have shown : (u.scanDue.changed m 0x0107 []).mgmt = u.scanDue.mgmt := done.same .mgmt
  refine ⟨_, hx, State.changed_replied all, State.changed_counted (State.serves_of_offers h) all,
    (congrArg Settings.mgmtFast bare :), fun i => ?_, fun idle => ?_, fun busy => ?_, only_parts_of_exec hx⟩
  · rw [scan]
    exact Settings.withScan_scan _ _ i
  · have now : u.scanDue = u.scanSet := by
      rw [State.scanDue, mgmt, idle]
      rfl
    rw [shown, now]
    refine ⟨u.scanSet_setWaits, fun i off => State.scanSet_off ?_⟩
    rw [← now, scan] at off
    rw [State.scanOn, settings]
    exact off
  · have later : u.scanDue = u.setMgmt fun m => { m with setWaits := true } := by
      rw [State.scanDue, mgmt, if_pos (Option.isSome_iff_ne_none.2 busy)]
    rw [shown, later, ← mgmt]
    rfl

end mgmtSet

/-! ### DESIGNATE (08 R245) -/

section designate
variable {s : State} {m : Msg}

/-- In VIGIL a new list takes effect at once. -/
def State.parkNow (s : State) : State := if s.mode = .vigil then s.eachPort State.parkByVigil else s

theorem exec_designate (h : s.offers m 0x0408 inAll s.designateFault) : exec (.designate m) s =
    .next (((s.served.setSettings fun g => { g with designated := (designated m.payload).map portOf }).parkNow).changed m
      0x0408 []) :=
  congrArg Host.Outcome.next (State.serve_of_offers h)

theorem State.parkByVigil_steps (s : State) (p : PortNo) : Steps [.mem, .pool, .draws, .irq, .bells, .replies, .changes,
    .ports, .tx, .sluice, .lamps, .buses, .heads, .pair, .journal, .tag, .inject] s (s.parkByVigil p) :=
  Steps.ite (Steps.ite (Steps.refl _ s) (State.park_steps p (Steps.refl _ s) rfl))
    (Steps.ite (State.unpark_steps p (Steps.refl _ s) rfl) (Steps.refl _ s))

theorem State.parkNow_steps (s : State) : Steps [.mem, .pool, .draws, .irq, .bells, .replies, .changes, .ports, .tx,
    .sluice, .lamps, .buses, .heads, .pair, .journal, .tag, .inject] s s.parkNow :=
  Steps.ite (State.eachPort_steps _ (Steps.refl _ s) fun _ p h => h.step (State.parkByVigil_steps _ p) rfl)
    (Steps.refl _ s)

theorem State.parkNow_grows (s : State) : Grows s s.parkNow :=
  Grows.ite (Grows.foldl State.parkByVigil_grows _ s) (Grows.refl s)

theorem designated_of_fault {bs : List Byte} (h : s.designateFault bs = none) :
    ((designated bs).map portOf).map (fun p => p.val) = (bs.drop 1).map fun b => b.toNat := by
  have ports : ∀ n ∈ designated bs, n ≤ 47 := by
    unfold State.designateFault at h
    split at h
    · cases h
    · split at h
      · cases h
      · intro n hn
        obtain ⟨i, hi⟩ := List.mem_iff_getElem?.1 hn
        have good := List.findSome?_eq_none_iff.1 h _ (List.mk_mem_zipIdx_iff_getElem?.2 hi)
        have inside := (ite_eq_right_iff.1 good).mt (Option.some_ne_none _)
        omega
  rw [List.map_map]
  refine Eq.trans (List.map_congr_left (g := id) fun n hn => ?_) (List.map_id _)
  exact Nat.mod_eq_of_lt (Nat.lt_succ_of_le (ports n hn))

theorem designate_stores (h : s.offers m 0x0408 inAll s.designateFault) : ∃ t, exec (.designate m) s = .next t ∧
    Answered s t m 0x0408 0 [] ∧ Noted s t ∧
    t.settings.designated.map (fun p => p.val) = (m.payload.drop 1).map (fun b => b.toNat) ∧
    Only (parts (.designate m)) s t := by
  have hx := exec_designate h
  have stored : Steps [.work, .settings] s
      (s.served.setSettings fun g => { g with designated := (designated m.payload).map portOf }) :=
    State.setSettings_settings_steps _ (s.served_steps.widen rfl) (fun _ => ⟨⟨rfl, rfl⟩, rfl, rfl, rfl⟩) rfl
  generalize hu : (s.served.setSettings fun g => { g with designated := (designated m.payload).map portOf }) = u at hx stored
  have all : Steps [.work, .settings, .mem, .pool, .draws, .irq, .bells, .replies, .changes, .ports, .tx, .sluice, .lamps,
      .buses, .heads, .pair, .journal, .tag, .inject] s u.parkNow := (stored.widen rfl).step u.parkNow_steps rfl
  have bare := ((State.changed_keeps u.parkNow m 0x0408 []).same .settings).trans (u.parkNow_steps.same .settings)
  have listed : (u.parkNow.changed m 0x0408 []).settings.designated = (designated m.payload).map portOf := by
    rw [Settings.designated_of_bare bare, ← hu]
    rfl
  refine ⟨_, hx, State.changed_answered all,
    State.changed_noted (State.serves_of_offers h) all (stored.grows.trans u.parkNow_grows), ?_, only_parts_of_exec hx⟩
  rw [listed]
  exact designated_of_fault (State.check_of_offers h)

end designate

/-- Settles O42: each command stores its fields, then `changed` counts and answers. -/
theorem settingsCommandsStoreTheirFields : Obligations.SettingsCommandsStoreTheirFields := by
  refine ⟨fun s m h hr => ?_, fun s m h hr => exec_setEpoch_standby h hr, fun s m h => ?_, fun s m h => ?_, fun s m h => ?_,
    fun s m h => ?_, fun s m h => mgmtSet_stores h, fun s m h => designate_stores h⟩
  · obtain ⟨t, hx, replied, counted, stored, only⟩ := setEpoch_stores h hr
    rw [epochOf, bitsOf_zero_one] at stored
    exact ⟨t, hx, replied, counted, stored, only⟩
  · obtain ⟨t, hx, replied, counted, stored, only⟩ := settings_stored (State.serves_of_offers h) (exec_hostWatch h)
      fun _ => ⟨⟨rfl, rfl⟩, rfl, rfl, rfl⟩
    have field : t.settings.hostWatch = BitVec.ofNat 16 (fieldAt m.payload 0 2) := (congrArg Settings.hostWatch stored :)
    exact ⟨t, hx, replied, counted, field ▸ fieldAt_two_toNat _ 0, only⟩
  · obtain ⟨t, hx, replied, counted, stored, only⟩ := settings_stored (State.serves_of_offers h) (exec_heartbeat h)
      fun _ => ⟨⟨rfl, rfl⟩, rfl, rfl, rfl⟩
    have field : t.settings.heartbeat = BitVec.ofNat 16 (fieldAt m.payload 0 2) := (congrArg Settings.heartbeat stored :)
    exact ⟨t, hx, replied, counted, field ▸ fieldAt_two_toNat _ 0, only⟩
  · obtain ⟨t, hx, replied, counted, stored, only⟩ := settings_stored (State.serves_of_offers h) (exec_alarmSet h)
      fun _ => ⟨⟨rfl, rfl⟩, rfl, rfl, rfl⟩
    have talker0 : t.settings.alrTalker0 = m.payload.getD 0 0 := (congrArg Settings.alrTalker0 stored :)
    have talker1 : t.settings.alrTalker1 = m.payload.getD 1 0 := (congrArg Settings.alrTalker1 stored :)
    have again : t.settings.alrRepeat = BitVec.ofNat 16 (fieldAt m.payload 2 2) := (congrArg Settings.alrRepeat stored :)
    refine ⟨t, hx, replied, counted, ?_, again ▸ fieldAt_two_toNat _ 2, only⟩
    rw [talker0, talker1, take_two (two_le_of_alarmSetFault (State.check_of_offers h))]
  · obtain ⟨t, hx, replied, counted, stored, only⟩ := settings_stored (State.serves_of_offers h) (exec_journalKinds h)
      fun _ => ⟨⟨rfl, rfl⟩, rfl, rfl, rfl⟩
    rw [← bitsOf_zero_one]
    exact ⟨t, hx, replied, counted, (congrArg Settings.sentences stored :), only⟩

end Sys2Proof.Machine
end

section
/-!
PROOFS. The pair and injection commands that store their fields (08 R230, R251, R252, R255, R256; 17 R534; 21 R627, R629,
R633).
-/
set_option Elab.async false
namespace Sys2Proof.Machine

/-! ### PAIR-SET (08 R251, 17 R516, R534) -/

section pairSet

theorem State.yieldDuty_grows (s : State) (r : Role) : Grows s (s.yieldDuty r) := by
  have released : Steps [.mem, .pool, .ports, .tx, .sluice, .pair] s
      ((s.setPair fun p => { p with role := r, dutyOut := false, forming := false, caughtUp := false }).releaseListeners) :=
    State.releaseListeners_steps (State.setPair_steps _ (Steps.refl _ s) rfl) rfl
  refine released.grows.trans ?_
  unfold State.yieldDuty State.eachBus
  exact Grows.foldl (fun t b => Grows.ite (Grows.refl t) (t.stopBus_changes_ge b)) _ _

theorem State.pairEnabled_grows (s : State) (on level : Bool) : Grows s (s.pairEnabled on level) := by
  unfold State.pairEnabled
  dsimp only
  refine Grows.ite (Grows.refl s) (Grows.trans ?_ (State.noted_steps (ps := [.irq, .bells, .journal]) _ (Steps.refl _ _) rfl).grows)
  refine Grows.ite ?_ ?_
  · have unpaired : Steps [.irq, .bells, .sluice, .pair, .journal] s (s.dropRole .none).takeRole :=
      State.takeRole_steps (State.dropRole_steps _ (Steps.refl _ s) rfl) rfl
    exact (unpaired.grows.trans (State.yieldDuty_grows _ _)).trans
      (State.seeDuty_steps (ps := [.pair]) _ (Steps.refl _ _) rfl).grows
  · have alone : Steps [.irq, .bells, .sluice, .pair, .journal, .ports, .tx] s (s.dropRole .lone).driveAll :=
      State.driveAll_steps (State.dropRole_steps _ (Steps.refl _ s) rfl) rfl
    exact alone.grows.trans (Grows.foldl (fun t b => Grows.ite (t.beginJoin_changes_ge b) (Grows.refl t)) _ _)

variable {s : State} {m : Msg} {d : Bool} (h : s.offers m 0x0601 inAll (exactFault [upTo 1 1, anyFld 1, range 2 2 100]))

/-- The settings that a PAIR-SET payload carries. -/
def Settings.withPair (bs : List Byte) (g : Settings) : Settings :=
  { g with pairEnable := decide (byteAt bs 0 = 1), takeover := BitVec.ofNat 16 (fieldAt bs 2 2) }

/-- The level that the command finds on PL_DUTY_IN. -/
def State.dutySeen (s : State) (d : Bool) : State := s.setPair fun p => { p with dutyIn := d }

/-- A changed enable takes the pair apart or makes it. -/
def State.pairMoved (s : State) (moved on d : Bool) : State := if moved then s.pairEnabled on d else s

theorem enable_le (h : s.offers m 0x0601 inAll (exactFault [upTo 1 1, anyFld 1, range 2 2 100])) :
    byteAt m.payload 0 ≤ 1 := by
  obtain ⟨good, -⟩ := exactFault_none (State.check_of_offers h)
  obtain ⟨-, enable, -, -⟩ := fieldsFault_cons_none good
  exact enable

include h

theorem exec_pairSet_refused (h0 : byteAt m.payload 0 = 0) (hr : s.pair.role = .standby) :
    exec (.pairSet m true) s = .next ((s.served.dutySeen true).refused m 0x0601 0x0014) := by
  refine (congrArg Host.Outcome.next (State.serve_of_offers h)).trans (congrArg Host.Outcome.next (if_pos ?_))
  have role : (s.served.dutySeen true).pair.role = .standby := hr
  show (!decide (byteAt m.payload 0 = 1) && decide ((s.served.dutySeen true).pair.role = .standby) && true) = true
  rw [role, h0]
  rfl

theorem exec_pairSet (hd : ¬(byteAt m.payload 0 = 0 ∧ s.pair.role = .standby ∧ d = true)) :
    exec (.pairSet m d) s = .next ((((s.served.dutySeen d).setSettings (Settings.withPair m.payload)).pairMoved
      (s.settings.pairEnable != decide (byteAt m.payload 0 = 1)) (decide (byteAt m.payload 0 = 1)) d).changed m 0x0601 []) := by
  refine (congrArg Host.Outcome.next (State.serve_of_offers h)).trans (congrArg Host.Outcome.next (if_neg ?_))
  have enable := enable_le h
  have role : (s.served.dutySeen d).pair.role = s.pair.role := rfl
  show ¬(!decide (byteAt m.payload 0 = 1) && decide ((s.served.dutySeen d).pair.role = .standby) && d) = true
  rw [role]
  simp only [Bool.and_eq_true, Bool.not_eq_true', decide_eq_false_iff_not, decide_eq_true_eq]
  rintro ⟨⟨off, standby⟩, high⟩
  exact hd ⟨by omega, standby, high⟩

theorem pairSet_stores (hd : ¬(byteAt m.payload 0 = 0 ∧ s.pair.role = .standby ∧ d = true)) :
    ∃ t, exec (.pairSet m d) s = .next t ∧ Answered s t m 0x0601 0 [] ∧ Noted s t ∧
      t.settings.pairEnable = decide (byteAt m.payload 0 = 1) ∧ t.settings.takeover.toNat = fieldAt m.payload 2 2 ∧
      Only (parts (.pairSet m d)) s t := by
  have hx := exec_pairSet h hd
  generalize (s.settings.pairEnable != decide (byteAt m.payload 0 = 1)) = moved at hx
  have stored : Steps [.work, .settings, .pair] s ((s.served.dutySeen d).setSettings (Settings.withPair m.payload)) :=
    State.setSettings_settings_steps _ (State.setPair_steps _ (s.served_steps.widen rfl) rfl)
      (fun _ => ⟨⟨rfl, rfl⟩, rfl, rfl, rfl⟩) rfl
  have settings : ((s.served.dutySeen d).setSettings (Settings.withPair m.payload)).settings =
      s.settings.withPair m.payload := rfl
  generalize (s.served.dutySeen d).setSettings (Settings.withPair m.payload) = u at hx stored settings
  have moves : Steps [.mem, .pool, .draws, .irq, .bells, .replies, .changes, .ports, .tx, .sluice, .lamps, .buses, .heads,
      .pair, .journal, .tag, .inject] u (u.pairMoved moved (decide (byteAt m.payload 0 = 1)) d) :=
    Steps.ite (State.pairEnabled_steps _ _ (Steps.refl _ u) rfl) (Steps.refl _ u)
  have grows : Grows u (u.pairMoved moved (decide (byteAt m.payload 0 = 1)) d) :=
    Grows.ite (u.pairEnabled_grows _ _) (Grows.refl u)
  generalize u.pairMoved moved (decide (byteAt m.payload 0 = 1)) d = v at hx moves grows
  have all : Steps [.work, .settings, .mem, .pool, .draws, .irq, .bells, .replies, .changes, .ports, .tx, .sluice, .lamps,
      .buses, .heads, .pair, .journal, .tag, .inject] s v := (stored.widen rfl).step moves rfl
  have bare : (v.changed m 0x0601 []).settings.bare = (s.settings.withPair m.payload).bare :=
    (((State.changed_keeps v m 0x0601 []).same .settings).trans (moves.same .settings)).trans
      (congrArg Settings.bare settings)
  have takeover : (v.changed m 0x0601 []).settings.takeover = BitVec.ofNat 16 (fieldAt m.payload 2 2) :=
    (congrArg Settings.takeover bare :)
  exact ⟨_, hx, State.changed_answered all, State.changed_noted (State.serves_of_offers h) all (stored.grows.trans grows),
    (congrArg Settings.pairEnable bare :), takeover ▸ fieldAt_two_toNat _ 2, only_parts_of_exec hx⟩

end pairSet

/-! ### PAIR-ARM and PAIR-DISARM (08 R251, R252) -/

section arm
variable {s : State} {m : Msg}

/-- A command whose whole effect is on the pair. -/
theorem pair_stored {f : Pair → Pair} {code : Nat} {c : Instr} (hs : s.serves = true)
    (hx : exec c s = .next ((s.served.setPair f).changed m code [])) :
    ∃ t, exec c s = .next t ∧ Replied s t m code 0 [] ∧ Counted s t ∧ t.pair = f s.pair ∧ Only (parts c) s t := by
  have stored : Steps [.work, .pair] s (s.served.setPair f) := State.setPair_steps f (s.served_steps.widen rfl) rfl
  exact ⟨_, hx, State.changed_replied stored, State.changed_counted hs stored,
    (State.changed_keeps _ m code []).same .pair, only_parts_of_exec hx⟩

theorem exec_pairArm (h : s.offers m 0x0602 inWork (exactFault [])) (hf : s.pair.formed = true)
    (hc : s.pair.splitConfig = false) :
    exec (.pairArm m) s = .next ((s.served.setPair fun p => { p with armed := true }).changed m 0x0602 []) := by
  refine (congrArg Host.Outcome.next (State.serve_of_offers h)).trans (congrArg Host.Outcome.next (if_neg ?_))
  show ¬(!s.pair.formed || s.pair.splitConfig) = true
  simp [hf, hc]

theorem exec_pairArm_refused (h : s.offers m 0x0602 inWork (exactFault []))
    (hn : s.pair.formed = false ∨ s.pair.splitConfig = true) :
    exec (.pairArm m) s = .next (s.served.refused m 0x0602 0x0014) := by
  refine (congrArg Host.Outcome.next (State.serve_of_offers h)).trans (congrArg Host.Outcome.next (if_pos ?_))
  show (!s.pair.formed || s.pair.splitConfig) = true
  simpa using hn

theorem exec_pairDisarm (h : s.offers m 0x0603 inAll (exactFault [])) :
    exec (.pairDisarm m) s = .next ((s.served.setPair fun p => { p with armed := false }).changed m 0x0603 []) :=
  congrArg Host.Outcome.next (State.serve_of_offers h)

end arm

/-! ### What clearing a slot leaves (21 R633) -/

section slots
variable (s : State) (k : Fin 16)

/-- A slot cleared: its count stays. -/
def Slot16.cleared (x : Slot16) : Slot16 := { Slot16.reset with count := x.count }

/-- What a slot holds is let go. -/
def State.unloadSlot (s : State) (k : Fin 16) : State :=
  match (s.releaseHeld k).pair.withheld with
  | some (j, _, _, _) => if j = k then (s.releaseHeld k).sendWithheld else s.releaseHeld k
  | none => s.releaseHeld k

theorem State.unloadSlot_steps : Steps [.mem, .pool, .tx, .sluice, .pair] s (s.unloadSlot k) := by
  have released : Steps [.mem, .pool, .tx, .sluice, .pair] s (s.releaseHeld k) :=
    State.releaseHeld_steps k (Steps.refl _ s) rfl
  unfold State.unloadSlot
  split
  · exact Steps.ite (State.sendWithheld_steps released rfl) released
  · exact released

theorem State.clearSlot_eq : s.clearSlot k =
    (s.unloadSlot k).setInject fun j => { j with slots := upd j.slots k Slot16.cleared } := rfl

theorem State.clearSlot_inject :
    (s.clearSlot k).inject = { s.inject with slots := upd s.inject.slots k Slot16.cleared } := by
  have kept : (s.unloadSlot k).inject = s.inject := (s.unloadSlot_steps k).same .inject
  rw [State.clearSlot_eq, ← kept]
  rfl

theorem State.clearSlot_unused : ((s.clearSlot k).inject.slots.get k).used = false := by
  rw [State.clearSlot_inject, upd_get_self]
  rfl

variable {k}

theorem State.clearSlot_slot_ne {j : Fin 16} (h : j ≠ k) : (s.clearSlot k).inject.slots.get j = s.inject.slots.get j := by
  rw [State.clearSlot_inject, upd_get_ne _ _ h]

theorem State.clearSlots_unused (k : Fin 16) : ((s.clearSlots).inject.slots.get k).used = false := by
  obtain ⟨t, -, -, left⟩ := foldl_key_of_mem (f := State.clearSlot) (I := fun _ => True)
    (key := fun t k => t.inject.slots.get k) (s := s) (fun _ _ _ => trivial) (fun t _ _ _ h => t.clearSlot_slot_ne h) trivial
    (List.nodup_finRange 16) (List.mem_finRange k)
  rw [State.clearSlots, left]
  exact t.clearSlot_unused k

theorem State.clearSlots_enabled : s.clearSlots.inject.enabled = s.inject.enabled :=
  List.foldlRecOn _ _ (motive := fun t : State => t.inject.enabled = s.inject.enabled) rfl fun t h k _ => by
    rw [State.clearSlot_inject]
    exact h

end slots

/-! ### The injection commands (08 R255, R256; 21 R627, R629, R633) -/

section inject
variable {s u : State} {m : Msg}

/-- A change command that has kept all but the slots and what they hold. -/
theorem inject_stored {code : Nat} {payload : List Byte} {c : Instr} (hs : s.serves = true)
    (hu : Steps [.mem, .pool, .tx, .sluice, .pair, .inject] s.served u) (hx : exec c s = .next (u.changed m code payload)) :
    ∃ t, exec c s = .next t ∧ Replied s t m code 0 payload ∧ Counted s t ∧ t.inject = u.inject ∧ Only (parts c) s t := by
  have all : Steps [.work, .mem, .pool, .tx, .sluice, .pair, .inject] s u := (s.served_steps.widen rfl).step hu rfl
  exact ⟨_, hx, State.changed_replied all, State.changed_counted hs all, (State.changed_keeps u m code payload).same .inject,
    only_parts_of_exec hx⟩

/-- The state with run-time injection enabled or not. -/
def State.withInject (s : State) (on : Bool) : State :=
  if on || decide (s.mode = .probe) then s.setInject fun j => { j with enabled := on }
  else (s.setInject fun j => { j with enabled := on }).clearSlots

theorem exec_injectEnable (h : s.offers m 0x0901 inWork (exactFault [upTo 1 1, anyFld 1])) :
    exec (.injectEnable m) s = .next ((s.served.withInject (decide (byteAt m.payload 0 = 1))).changed m 0x0901 []) :=
  congrArg Host.Outcome.next (State.serve_of_offers h)

theorem State.withInject_steps (s : State) (on : Bool) : Steps [.mem, .pool, .tx, .sluice, .pair, .inject] s (s.withInject on) :=
  Steps.ite (State.setInject_steps _ (Steps.refl _ s) rfl)
    (State.clearSlots_steps (State.setInject_steps _ (Steps.refl _ s) rfl) rfl)

theorem State.withInject_enabled (s : State) (on : Bool) : (s.withInject on).inject.enabled = on := by
  unfold State.withInject
  split
  · rfl
  · rw [State.clearSlots_enabled]
    rfl

theorem State.withInject_kept {on : Bool} (h : on = true ∨ s.mode = .probe) :
    (s.withInject on).inject.slots = s.inject.slots := by
  rw [State.withInject, if_pos (by simpa using h)]
  rfl

theorem State.withInject_cleared (h : s.mode ≠ .probe) (k : Fin 16) :
    ((s.withInject false).inject.slots.get k).used = false := by
  rw [State.withInject, if_neg (by simpa using h)]
  exact State.clearSlots_unused _ k

/-- The slot that an INJECT-SET payload carries, with the count of the slot before. -/
def slotOf (bs : List Byte) (x : Slot16) : Slot16 := {
  used := true, point := BitVec.ofNat 8 (byteAt bs 1), target := BitVec.ofNat 8 (byteAt bs 2)
  fault := BitVec.ofNat 8 (byteAt bs 3), bit := BitVec.ofNat 8 (byteAt bs 4), k := BitVec.ofNat 8 (byteAt bs 5)
  every := BitVec.ofNat 16 (fieldAt bs 6 2), lfsr := BitVec.ofNat 16 (fieldAt bs 8 2)
  prob := BitVec.ofNat 16 (fieldAt bs 10 2), steps := 0, count := x.count }

/-- The state with slot `k` written anew. -/
def State.withSlot (s : State) (k : Fin 16) (bs : List Byte) : State :=
  (s.clearSlot k).setInject fun j => { j with slots := upd j.slots k (slotOf bs) }

theorem slotNamed {bs : List Byte} {k : Fin 16} (hk : byteAt bs 0 = k.val) : Fin.ofNat 16 (byteAt bs 0) = k := by
  rw [hk]
  exact Fin.ofNat_val_eq_self k

theorem exec_injectSet {k : Fin 16} (h : s.offers m 0x0902 inDiag injectFault) (hk : byteAt m.payload 0 = k.val) :
    exec (.injectSet m) s = .next ((s.served.withSlot k m.payload).changed m 0x0902 []) := by
  rw [← slotNamed hk]
  exact congrArg Host.Outcome.next (State.serve_of_offers h)

theorem State.withSlot_slot (s : State) (k : Fin 16) (bs : List Byte) :
    (s.withSlot k bs).inject.slots.get k = slotOf bs (s.inject.slots.get k) := by
  show (upd (s.clearSlot k).inject.slots k (slotOf bs)).get k = _
  rw [upd_get_self, State.clearSlot_inject, upd_get_self]
  rfl

theorem State.withSlot_slot_ne (s : State) {j k : Fin 16} (bs : List Byte) (h : j ≠ k) :
    (s.withSlot k bs).inject.slots.get j = s.inject.slots.get j := by
  show (upd (s.clearSlot k).inject.slots k (slotOf bs)).get j = _
  rw [upd_get_ne _ _ h, State.clearSlot_slot_ne _ h]

theorem exec_injectClear {k : Fin 16} (h : s.offers m 0x0903 inAll clearFault) (hk : byteAt m.payload 0 = k.val) :
    exec (.injectClear m) s =
      .next ((s.served.clearSlot k).changed m 0x0903 (leBytes 4 (s.inject.slots.get k).count)) := by
  have one : byteAt m.payload 0 ≠ 0xFF := by omega
  rw [← slotNamed hk]
  exact (congrArg Host.Outcome.next (State.serve_of_offers h)).trans (congrArg Host.Outcome.next (if_neg one))

theorem exec_injectClear_all (h : s.offers m 0x0903 inAll clearFault) (hk : byteAt m.payload 0 = 0xFF) :
    exec (.injectClear m) s = .next (s.served.clearSlots.changed m 0x0903
      (leBytes 4 (min top32 (sumOf (fun x : Slot16 => x.count) s.inject.slots.toList)))) :=
  (congrArg Host.Outcome.next (State.serve_of_offers h)).trans (congrArg Host.Outcome.next (if_pos hk))

end inject

/-- Settles O43: PAIR-SET by `pairSet_stores`, the others by what each stores before `changed`. -/
theorem pairAndInjectionCommandsStoreTheirFields : Obligations.PairAndInjectionCommandsStoreTheirFields := by
  refine ⟨fun s m d h hd => pairSet_stores h hd, fun s m h h0 hr => exec_pairSet_refused h h0 hr,
    fun s m h hf hc => pair_stored (State.serves_of_offers h) (exec_pairArm h hf hc),
    fun s m h hn => exec_pairArm_refused h hn, fun s m h => pair_stored (State.serves_of_offers h) (exec_pairDisarm h),
    fun s m h => ?_, fun s m k h hk => ?_, fun s m k h hk => ?_, fun s m h hk => ?_⟩
  · obtain ⟨t, hx, replied, counted, inject, only⟩ :=
      inject_stored (State.serves_of_offers h) (State.withInject_steps _ _) (exec_injectEnable h)
    rw [← State.withInject_enabled s.served (decide (byteAt m.payload 0 = 1))]
    refine ⟨t, hx, replied, counted, congrArg Inject.enabled inject, fun off probe k => ?_, fun kept => ?_, only⟩
    · rw [inject, off]
      exact State.withInject_cleared (s := s.served) probe k
    · rw [inject]
      exact State.withInject_kept (s := s.served) (kept.imp_left fun on => decide_eq_true on)
  · obtain ⟨t, hx, replied, counted, inject, only⟩ := inject_stored (State.serves_of_offers h)
      (State.setInject_steps _ (State.clearSlot_steps k (Steps.refl _ _) rfl) rfl) (exec_injectSet h hk)
    refine ⟨t, hx, replied, counted, ?_, fun j hj => ?_, only⟩
    · rw [inject]
      exact State.withSlot_slot s.served k m.payload
    · rw [inject]
      exact State.withSlot_slot_ne s.served m.payload hj
  · obtain ⟨t, hx, replied, counted, inject, only⟩ := inject_stored (State.serves_of_offers h)
      (State.clearSlot_steps k (Steps.refl _ _) rfl) (exec_injectClear h hk)
    refine ⟨t, hx, replied, counted, ?_, fun j hj => ?_, only⟩
    · rw [inject]
      exact State.clearSlot_unused s.served k
    · rw [inject]
      exact State.clearSlot_slot_ne s.served hj
  · obtain ⟨t, hx, replied, counted, inject, only⟩ := inject_stored (State.serves_of_offers h)
      (State.clearSlots_steps (Steps.refl _ _) rfl) (exec_injectClear_all h hk)
    refine ⟨t, hx, ⟨_, replied⟩, counted, fun k => ⟨?_, only⟩⟩
    rw [inject]
    exact State.clearSlots_unused s.served k

end Sys2Proof.Machine
end

section
/-!
PROOFS. The scan of the management bus (20 R610-R622), LOOPBACK and AMP-SWEEP (08 R255; 21 R621-R626).
-/
set_option Elab.async false
namespace Sys2Proof.Machine

/-! ### Bells (06 R194) -/

section bell
variable {s t : State}

theorem State.bellOn_bell (s : State) (c : Chan) {bit : Nat} (h : bit < 32) :
    ((s.bellOn c bit).chan c).bellIn.getLsbD bit = true := by
  rw [State.bellOn_chan]
  split
  · assumption
  · rw [BitVec.getLsbD_or, BitVec.getLsbD_ofNat]
    simp [h, Nat.testBit_two_pow_self]

theorem State.ring_bell (hu : s.engine.up = true) {bit : Nat} (h : bit < 32) :
    (s.ring bit).chanN.bellIn.getLsbD bit = true := by
  have first := s.bellOn_bell .n h
  rw [State.ring, if_pos hu]
  unfold State.bellBoth
  dsimp only
  split
  · exact ((State.bellOn_steps (ps := [.irq, .bells]) .k bit (Steps.refl _ _) rfl).same .hush rfl bit).1 first
  · exact first

/-- A bell that rings goes on ringing where no BELLIN bit is cleared. -/
theorem Steps.bell {ps : List Part} (h : Steps ps s t) {bit : Nat} (hb : s.chanN.bellIn.getLsbD bit = true)
    (hp : ps.contains .hush = false := by rfl) : t.chanN.bellIn.getLsbD bit = true :=
  (h.same .hush hp bit).1 hb

theorem State.up_of_works (h : s.engineWorks = true) : s.engine.up = true := by
  rw [State.engineWorks, Bool.and_eq_true] at h
  exact h.2

end bell

/-! ### A transaction of the scan starts and ends (20 R610, R612-R617) -/

section scan
variable {s : State} {i : Fin 16}

/-- With nothing due, nothing starts. -/
theorem State.mgmtStart_idle (h : s.mgmt.due = 0) : s.mgmtStart = s := by
  unfold State.mgmtStart
  split
  · rfl
  · have none : (List.finRange 16).find? (fun i : Fin 16 => s.mgmt.due.getLsbD i.val && s.scanOn i) = none := by
      simp [h]
    rw [none]

theorem State.mgmtStop_eq (h : s.mgmt.setWaits = false) : s.mgmtStop = s.setMgmt fun m => { m with active := none } := by
  unfold State.mgmtStop
  exact if_neg (by simp [h])

/-- A transaction ends where no MGMT-SET waits and nothing is due. -/
theorem State.mgmtEnd_mgmt {x : Byte} (hw : s.mgmt.setWaits = false) (hd : s.mgmt.due = 0) : (s.mgmtEnd i x).mgmt =
    { s.mgmt with active := none, results := upd s.mgmt.results i fun r => { r with status := x } } := by
  have shown := (s.setMgmt fun m => { m with active := none }).scanStatus_mgmt i x
  have stopped := State.mgmtStop_eq (s := (s.setMgmt fun m => { m with active := none }).scanStatus i x)
    (by rw [shown]; exact hw)
  rw [State.mgmtEnd, stopped, State.mgmtStart_idle]
  · show { ((s.setMgmt _).scanStatus i x).mgmt with active := none } = _
    rw [shown]
    rfl
  · show ((s.setMgmt _).scanStatus i x).mgmt.due = 0
    rw [shown]
    exact hd

/-- A changed status rings doorbell 7. -/
theorem State.mgmtEnd_bell {x : Byte} (hu : s.engine.up = true)
    (hx : (s.mgmt.results.get i).status ≠ x) : (s.mgmtEnd i x).chanN.bellIn.getLsbD 7 = true := by
  have rings : ((s.setMgmt fun m => { m with active := none }).scanStatus i x).chanN.bellIn.getLsbD 7 = true := by
    unfold State.scanStatus
    split
    · next same => exact absurd same hx
    · refine State.ring_bell (bit := bellMgmt) ?_ (by decide)
      exact hu
  have after : Steps [.irq, .bells, .mgmt] ((s.setMgmt fun m => { m with active := none }).scanStatus i x) (s.mgmtEnd i x) :=
    State.mgmtStart_steps (State.mgmtStop_steps (Steps.refl _ _) rfl) rfl
  exact after.bell rings

/-- What the end of a transaction with status `x` leaves, other fields of its result being `r`'s. -/
structure TransactionEnded (s t : State) (i : Fin 16) (x : Byte) (r : ScanResult) : Prop where
  active : t.mgmt.active = none
  status : (t.mgmt.results.get i).status = x
  data : (t.mgmt.results.get i).data = r.data
  stamp : (t.mgmt.results.get i).stamp = r.stamp
  others : ∀ k, k ≠ i → t.mgmt.results.get k = s.mgmt.results.get k
  bell : (s.mgmt.results.get i).status ≠ x → t.chanN.bellIn.getLsbD 7 = true

theorem State.mgmtEnd_ended {x : Byte} (hu : s.engine.up = true) (hw : s.mgmt.setWaits = false) (hd : s.mgmt.due = 0) :
    TransactionEnded s (s.mgmtEnd i x) i x (s.mgmt.results.get i) := by
  have mgmt := State.mgmtEnd_mgmt (i := i) (x := x) hw hd
  refine ⟨by rw [mgmt], ?_, ?_, ?_, fun k hk => ?_, State.mgmtEnd_bell hu⟩
  · rw [mgmt, upd_get_self]
  · rw [mgmt, upd_get_self]
  · rw [mgmt, upd_get_self]
  · rw [mgmt, upd_get_ne _ _ hk]

/-- The bytes read and the instant enter the entry's result. -/
def State.mgmtRead (s : State) (i : Fin 16) (d : List Byte) : State :=
  s.setMgmt fun m => { m with results := upd m.results i fun r => { r with data := d.take s.mgmt.reads, stamp := s.now } }

section exec
variable (hw : s.engineWorks = true) (ha : s.mgmt.active = some i)
include hw ha

theorem exec_mgmtTransactionEnd_good (d : List Byte) :
    exec (.mgmtTransactionEnd (.good d)) s = .next ((s.mgmtRead i d).mgmtEnd i 0) := by
  show execMgmtTransactionEnd (.good d) s = _
  simp only [execMgmtTransactionEnd, hw, ha]
  rfl

theorem exec_mgmtTransactionEnd_nak : exec (.mgmtTransactionEnd .nak) s = .next (s.mgmtEnd i 1) := by
  show execMgmtTransactionEnd .nak s = _
  simp only [execMgmtTransactionEnd, hw, ha]
  rfl

theorem exec_stretchFault : exec .stretchFault s = .next (s.mgmtEnd i 2) := by
  show execStretchFault s = _
  simp only [execStretchFault, hw, ha]
  rfl

end exec

theorem State.mgmtRead_ended {d : List Byte} (hu : s.engine.up = true) (hw : s.mgmt.setWaits = false)
    (hd : s.mgmt.due = 0) : TransactionEnded s ((s.mgmtRead i d).mgmtEnd i 0) i 0
      { s.mgmt.results.get i with data := d.take s.mgmt.reads, stamp := s.now } := by
  have ended := State.mgmtEnd_ended (s := s.mgmtRead i d) (i := i) (x := 0) hu hw hd
  have result : (s.mgmtRead i d).mgmt.results.get i =
      { s.mgmt.results.get i with data := d.take s.mgmt.reads, stamp := s.now } := upd_get_self _ _ _
  rw [result] at ended
  exact { ended with
    others := fun k hk => (ended.others k hk).trans (upd_get_ne _ _ hk)
    bell := fun changed => ended.bell (by rw [result]; exact changed) }

/-- An entry falls due. -/
def State.scanDueNow (s : State) (i : Fin 16) : State :=
  s.setMgmt fun m => { m with due := m.due ||| BitVec.ofNat 16 (2 ^ i.val) }

theorem exec_mgmtEntryDue (hw : s.engineWorks = true) (hs : s.mgmt.stuck = false) (hi : s.scanOn i = true) :
    exec (.mgmtEntryDue i) s = .next (s.scanDueNow i).mgmtStart :=
  if_pos (by simp [hw, hs, hi])

theorem exec_mgmtEntryDue_ignored (h : s.scanOn i = false ∨ s.mgmt.stuck = true) :
    exec (.mgmtEntryDue i) s = .next s :=
  if_neg (by rcases h with h | h <;> simp [h])

theorem State.mgmtStart_busy (h : s.mgmt.active ≠ none) : s.mgmtStart = s := by
  unfold State.mgmtStart
  exact if_pos (by simp [Option.isSome_iff_ne_none, h])

theorem entryBit (i k : Fin 16) : (BitVec.ofNat 16 (2 ^ i.val)).getLsbD k.val = decide (k = i) := by
  revert i k
  decide

theorem find?_entry : ∀ i : Fin 16, (List.finRange 16).find? (fun k => decide (k = i)) = some i := by decide

/-- The entry that falls due alone is the next one that starts. -/
theorem State.scanDueNow_start (hw : s.engineWorks = true) (hs : s.mgmt.stuck = false) (hi : s.scanOn i = true)
    (ha : s.mgmt.active = none) (hd : s.mgmt.due = 0) : (s.scanDueNow i).mgmtStart.mgmt = { s.mgmt with
      active := some i, slots := mgmtTransaction (s.settings.scan.get i), fast := s.settings.mgmtFast } := by
  have idle : (!(s.scanDueNow i).engineWorks || (s.scanDueNow i).mgmt.stuck || (s.scanDueNow i).mgmt.active.isSome) = false := by
    show (!s.engineWorks || s.mgmt.stuck || s.mgmt.active.isSome) = false
    simp [hw, hs, ha]
  have due : (s.scanDueNow i).mgmt.due = BitVec.ofNat 16 (2 ^ i.val) := by
    show s.mgmt.due ||| _ = _
    simp [hd]
  have alone : (fun k : Fin 16 => (s.scanDueNow i).mgmt.due.getLsbD k.val && (s.scanDueNow i).scanOn k) =
      fun k => decide (k = i) := by
    funext k
    rw [due, entryBit]
    by_cases same : k = i
    · subst same
      simpa using (show (s.scanDueNow k).scanOn k = true from hi)
    · simp [same]
  rw [State.mgmtStart, idle, if_neg Bool.false_ne_true, alone, find?_entry]
  have cleared : (s.scanDueNow i).mgmt.due &&& ~~~BitVec.ofNat 16 (2 ^ i.val) = s.mgmt.due := by
    rw [due, BitVec.and_not_self, hd]
  exact congrArg (fun d : BitVec 16 => ({ s.mgmt with
    active := some i, due := d, slots := mgmtTransaction (s.settings.scan.get i), fast := s.settings.mgmtFast } : Mgmt)) cleared

/-! ### A line held low, and its end (20 R616-R619) -/

/-- MB_STUCK is set and rung, the scan broken off. -/
def State.stuckRung (s : State) : State :=
  (s.setMgmt fun m => { m with stuck := true, active := none, due := 0 }).ring bellMgmt

/-- Every enabled entry reads 3. -/
def State.stuckShown (s : State) : State := (List.finRange 16).foldl State.showStuck s.stuckRung

theorem State.mgmtStuck_eq (s : State) : s.mgmtStuck = s.stuckShown.mgmtStop := rfl

theorem exec_busRecovery {r : MgmtRecovery} (hw : s.engineWorks = true) (ha : s.mgmt.active = some i)
    (hs : s.mgmt.stuck = false) (hr : r = .sdaLow ∨ r = .sclLow) : exec (.busRecovery r) s = .next s.mgmtStuck := by
  have checks : (s.engineWorks && s.mgmt.active.isSome && !s.mgmt.stuck) = true := by simp [hw, ha, hs]
  rcases hr with rfl | rfl
  · exact if_pos checks
  · exact if_pos checks

theorem exec_busRecovery_freed (n : Fin 9) : exec (.busRecovery (.freed n)) s = .next s := by
  show execBusRecovery (.freed n) s = _
  exact ite_self _

theorem State.stuckRung_mgmt (s : State) : s.stuckRung.mgmt = { s.mgmt with stuck := true, active := none, due := 0 } :=
  State.ring_mgmt _ _

theorem State.stuckRung_bell (hu : s.engine.up = true) : s.stuckRung.chanN.bellIn.getLsbD 7 = true := by
  unfold State.stuckRung
  refine State.ring_bell (bit := bellMgmt) ?_ (by decide)
  exact hu

theorem State.stuckRung_kept (s : State) : s.stuckRung.settings.bare = s.settings.bare :=
  (State.ring_steps (ps := [.mgmt, .irq, .bells]) bellMgmt (State.setMgmt_steps _ (Steps.refl _ s) rfl) rfl).same .settings

theorem State.stuckShown_kept (s : State) : ScanKept s.stuckRung s.stuckShown :=
  (ScanKept.refl _).foldl fun _ _ i h => h.showStuck i

theorem State.showStuck_result_ne (t : State) {i j : Fin 16} (h : j ≠ i) :
    (t.showStuck i).mgmt.results.get j = t.mgmt.results.get j := by
  unfold State.showStuck
  split
  · rw [State.scanStatus_mgmt, upd_get_ne _ _ h]
  · rfl

theorem State.stuckShown_result (s : State) (k : Fin 16) : ∃ t : State, t.scanOn k = s.scanOn k ∧
    t.mgmt.results.get k = s.mgmt.results.get k ∧ s.stuckShown.mgmt.results.get k = (t.showStuck k).mgmt.results.get k := by
  obtain ⟨t, kept, met, left⟩ := foldl_key_of_mem (f := State.showStuck) (I := ScanKept s.stuckRung)
    (key := fun t k => t.mgmt.results.get k) (s := s.stuckRung) (fun _ i h => h.showStuck i)
    (fun t _ _ _ h => t.showStuck_result_ne h) (ScanKept.refl _) (List.nodup_finRange 16) (List.mem_finRange k)
  refine ⟨t, (kept.scanOn k).trans (State.scanOn_congr s.stuckRung_kept k), met.trans ?_, left⟩
  rw [State.stuckRung_mgmt]

theorem State.mgmtStuck_state (s : State) (hw : s.mgmt.setWaits = false) :
    s.mgmtStuck = s.stuckShown.setMgmt fun m => { m with active := none } := by
  rw [State.mgmtStuck_eq, State.mgmtStop_eq]
  rw [s.stuckShown_kept.setWaits, State.stuckRung_mgmt]
  exact hw

theorem State.mgmtStuck_steps' (s : State) : Steps [.irq, .bells, .mgmt] s.stuckRung s.mgmtStuck := by
  rw [State.mgmtStuck_eq]
  refine State.mgmtStop_steps (Steps.foldl (Steps.refl _ _) fun t i h => ?_) rfl
  exact Steps.ite (State.scanStatus_steps i 3 h rfl) h

theorem exec_mbStuckRecheck {r : MgmtRecheck} (hw : s.engineWorks = true) (hs : s.mgmt.stuck = true)
    (hr : r ≠ .stillHeld) : exec (.mbStuckRecheck r) s =
      .next ((s.setMgmt fun m => { m with stuck := false }).ring bellMgmt).dueScan := by
  have checks : (s.engineWorks && s.mgmt.stuck) = true := by simp [hw, hs]
  cases r with
  | stillHeld => exact absurd rfl hr
  | bothHigh => exact if_pos checks
  | recovered => exact if_pos checks

theorem exec_mbStuckRecheck_held : exec (.mbStuckRecheck .stillHeld) s = .next s := by
  show execMbStuckRecheck .stillHeld s = _
  exact ite_self _

/-- The entries enabled, as a mask. -/
def State.scanMask (s : State) : BitVec 16 :=
  (List.finRange 16).foldl (fun (d : BitVec 16) (i : Fin 16) => if s.scanOn i then d ||| BitVec.ofNat 16 (2 ^ i.val) else d) 0

theorem State.scanMask_bit (h : s.scanOn i = true) : s.scanMask.getLsbD i.val = true := by
  obtain ⟨d, -, -, left⟩ := foldl_key_of_mem
    (f := fun (d : BitVec 16) (i : Fin 16) => if s.scanOn i then d ||| BitVec.ofNat 16 (2 ^ i.val) else d)
    (I := fun _ => True) (key := fun d k => d.getLsbD k.val) (s := 0) (fun _ _ _ => trivial)
    (fun d j k _ ne => by
      split
      · rw [BitVec.getLsbD_or, entryBit, decide_eq_false ne, Bool.or_false]
      · rfl) trivial (List.nodup_finRange 16) (List.mem_finRange i)
  refine left.trans ?_
  simp only [h, if_true, BitVec.getLsbD_or, entryBit, decide_true, Bool.or_true]

theorem State.dueScan_eq (s : State) : s.dueScan = (s.setMgmt fun m => { m with due := s.scanMask }).mgmtStart := rfl

/-- What is due goes on being due, or starts. -/
theorem State.mgmtStart_due (h : s.mgmt.due.getLsbD i.val = true) :
    s.mgmtStart.mgmt.due.getLsbD i.val = true ∨ s.mgmtStart.mgmt.active = some i := by
  unfold State.mgmtStart
  split
  · exact .inl h
  · split
    · next k _ =>
      by_cases same : i = k
      · exact .inr (congrArg some same.symm)
      · refine .inl ?_
        show (s.mgmt.due &&& ~~~BitVec.ofNat 16 (2 ^ k.val)).getLsbD i.val = true
        rw [BitVec.getLsbD_and, BitVec.getLsbD_not, entryBit, h, decide_eq_false same]
        simp
    · exact .inl h

theorem State.mgmtStart_stuck (s : State) : s.mgmtStart.mgmt.stuck = s.mgmt.stuck := by
  unfold State.mgmtStart
  split
  · rfl
  · split <;> rfl

end scan

/-! ### LOOPBACK and AMP-SWEEP (21 R621-R626) -/

section loop
variable {s : State} {p : PortNo}

/-- The receive side of a port armed anew, or stopped where the port does not receive. -/
def Port.arm (q : Port) : Port :=
  if q.hears && !q.rxRetired then
    { q.disarm with
      armed := true, hunting := q.rx.autobaud, frameRun := 0, afterLoss := q.afterLoss && q.wokeNext
      hold := if q.space then .bit else .free
      rateNow := if q.rx.autobaud then q.rateNow else q.rx.rate }.setRts
  else q.disarm

theorem State.armRx_eq (s : State) (p : PortNo) : s.armRx p = (s.dropPartial p).updPort p Port.arm := rfl

theorem State.dropPartial_port (s : State) (p : PortNo) :
    (s.dropPartial p).port p = { s.port p with asm := Asm.reset } := by
  have freed : Steps [.mem, .pool, .sluice] s (s.freeCells (s.port p).asm.cells) :=
    State.freeCells_steps _ (Steps.refl _ s) rfl
  rw [State.dropPartial, State.updAsm, State.updPort_port_same, freed.port_eq]

theorem State.armRx_port (s : State) (p : PortNo) : (s.armRx p).port p = { s.port p with asm := Asm.reset }.arm := by
  rw [State.armRx_eq, State.updPort_port_same, State.dropPartial_port]

theorem Port.arm_fifo (q : Port) : q.arm.fifo = [] := by
  unfold Port.arm
  split <;> rfl

theorem Port.arm_asm (q : Port) : q.arm.asm = q.asm := by
  unfold Port.arm
  split <;> rfl

theorem Port.arm_loop (q : Port) : q.arm.loop = q.loop := by
  unfold Port.arm
  split <;> rfl

theorem Port.arm_armed (q : Port) : q.arm.armed = (q.hears && !q.rxRetired) := by
  unfold Port.arm
  split
  · next on => exact on.symm
  · next off => exact (Bool.eq_false_iff.2 off).symm

/-- A port that enters a loopback, before its driver is set. -/
def Port.looped (q : Port) (l : Loop) : Port := { q with loop := l, asm := Asm.reset }.arm

theorem State.beginLoop_port (s : State) (p : PortNo) (l : Loop) :
    ∃ on, (s.beginLoop p l).port p = ((s.port p).looped l).drive on := by
  refine ⟨_, (State.updPort_port_same _ p _).trans (congrArg (fun q : Port => q.drive _) ?_)⟩
  rw [State.armRx_port, State.updPort_port_same]
  rfl

theorem Port.looped_armed {q : Port} {l : Loop} (h : l ≠ .off) : (q.looped l).armed = !q.rxRetired := by
  rw [Port.looped, Port.arm_armed]
  show ((decide (q.rx.rx ≠ .off) || decide (l ≠ .off)) && !q.rxRetired) = _
  simp [h]

theorem State.endLoop_loop (s : State) (p : PortNo) : ((s.endLoop p).port p).loop = .off := by
  unfold State.endLoop
  split
  · assumption
  · dsimp only
    rw [State.updPort_port_same]
    show (State.port _ p).loop = .off
    split
    · rw [State.updPort_port_same, State.updPort_port_same]
      rfl
    · rw [State.armRx_port, State.updPort_port_same]
      exact Port.arm_loop _

/-- The loop that LOOPBACK asks for begins, or the loop ends. -/
def State.loopedBy (s : State) (p : PortNo) (n : Nat) : State :=
  match n with
  | 0 => s.endLoop p
  | 1 => s.beginLoop p .internal
  | _ => s.beginLoop p .external

theorem State.loopedBy_steps (s : State) (p : PortNo) (n : Nat) :
    Steps [.mem, .pool, .ports, .tx, .sluice] s (s.loopedBy p n) := by
  unfold State.loopedBy
  split
  · exact State.endLoop_steps p (Steps.refl _ s) rfl
  · exact State.beginLoop_steps p _ (Steps.refl _ s) rfl
  · exact State.beginLoop_steps p _ (Steps.refl _ s) rfl

theorem State.loopedBy_begins {n : Nat} (h : n ≠ 0) :
    s.loopedBy p n = s.beginLoop p (if n = 1 then .internal else .external) := by
  match n with
  | 1 => rfl
  | n + 2 => rfl

theorem portOf_val {n : Nat} (h : n = p.val) : portOf n = p := by
  rw [h]
  exact Fin.ofNat_val_eq_self p

section exec
variable {m : Msg} (hp : byteAt m.payload 0 = p.val)
include hp

theorem exec_loopback (h : s.offers m 0x0904 inProbe s.loopFault) (free : s.portBusy p.val = false) :
    exec (.loopback m) s = .next ((s.served.loopedBy p (byteAt m.payload 1)).changed m 0x0904 []) := by
  have quiet : ¬s.served.portBusy (portOf (byteAt m.payload 0)).val = true := by
    rw [portOf_val hp]
    exact Bool.eq_false_iff.1 free
  refine (congrArg Host.Outcome.next (State.serve_of_offers h)).trans ?_
  refine (congrArg Host.Outcome.next (if_neg quiet)).trans ?_
  rw [portOf_val hp]
  rfl

theorem exec_loopback_busy (h : s.offers m 0x0904 inProbe s.loopFault) (busy : s.portBusy p.val = true) :
    exec (.loopback m) s = .next (s.served.refused m 0x0904 0x0012) := by
  have busy' : s.served.portBusy (portOf (byteAt m.payload 0)).val = true := by
    rw [portOf_val hp]
    exact busy
  exact (congrArg Host.Outcome.next (State.serve_of_offers h)).trans (congrArg Host.Outcome.next (if_pos busy'))

theorem exec_ampSweep (h : s.offers m 0x0905 inProbe s.sweepFault) (free : s.portBusy p.val = false) :
    exec (.ampSweep m) s = .next (s.served.accept m 0x0905 (.sweep p (byteAt m.payload 1))) := by
  have quiet : ¬s.served.portBusy (portOf (byteAt m.payload 0)).val = true := by
    rw [portOf_val hp]
    exact Bool.eq_false_iff.1 free
  refine (congrArg Host.Outcome.next (State.serve_of_offers h)).trans ?_
  refine (congrArg Host.Outcome.next (if_neg quiet)).trans ?_
  rw [portOf_val hp]

theorem exec_ampSweep_busy (h : s.offers m 0x0905 inProbe s.sweepFault) (busy : s.portBusy p.val = true) :
    exec (.ampSweep m) s = .next (s.served.refused m 0x0905 0x0012) := by
  have busy' : s.served.portBusy (portOf (byteAt m.payload 0)).val = true := by
    rw [portOf_val hp]
    exact busy
  exact (congrArg Host.Outcome.next (State.serve_of_offers h)).trans (congrArg Host.Outcome.next (if_pos busy'))

end exec

theorem exec_ampSweepDone {l : List (List (List Nat))} {a : Accepted} {n : Nat} (hw : s.engineWorks = true)
    (hs : s.sweepOf p = some a) (ha : a.work = .sweep p n) :
    exec (.ampSweepDone p l) s = .next (s.complete a 0 ((l.take n).map stepReading)) := by
  show execAmpSweepDone p l s = _
  simp only [execAmpSweepDone, hw, hs, ha]
  rfl

end loop

/-- Settles O60: the scan by the equations of `mgmtEnd`, `mgmtStart` and `mgmtStuck`, the loops by what `beginLoop` and
`endLoop` leave on the port. -/
theorem managementBusAndLoopbacks : Obligations.ManagementBusAndLoopbacks := by
  refine ⟨fun s i hw hs hi ha hd => ?_, fun s i k hw hs hi ha => ?_, fun s i h => exec_mgmtEntryDue_ignored h,
    fun s i d hw ha hn hd => ?_, fun s i hw ha hn hd => ?_, fun s i hw ha hn hd => ?_, fun s i r hw ha hs hn hr => ?_,
    fun s n => exec_busRecovery_freed n, fun s r hw hs ha hr => ?_, fun s _ => exec_mbStuckRecheck_held,
    fun s m p h hp free hn => ?_, fun s m p h hp free hn => ?_, fun s m p h hp busy => exec_loopback_busy hp h busy,
    fun s m p h hp free => ?_, fun s m p h hp busy => exec_ampSweep_busy hp h busy, fun s p l a n hw hs ha => ?_⟩
  · have hx := exec_mgmtEntryDue hw hs hi
    exact ⟨_, hx, State.scanDueNow_start hw hs hi ha hd, only_parts_of_exec hx⟩
  · have hx := exec_mgmtEntryDue hw hs hi
    have busy : (s.scanDueNow i).mgmt.active ≠ none := by
      show s.mgmt.active ≠ none
      simp [ha]
    refine ⟨_, hx, ?_, only_parts_of_exec hx⟩
    rw [State.mgmtStart_busy busy]
    rfl
  · have hx := exec_mgmtTransactionEnd_good hw ha d
    obtain ⟨active, status, data, stamp, others, bell⟩ := State.mgmtRead_ended (d := d) (i := i) (State.up_of_works hw) hn hd
    exact ⟨_, hx, active, status, data, stamp, others, bell, only_parts_of_exec hx⟩
  · have hx := exec_mgmtTransactionEnd_nak hw ha
    obtain ⟨active, status, data, stamp, others, bell⟩ := State.mgmtEnd_ended (i := i) (x := 1) (State.up_of_works hw) hn hd
    exact ⟨_, hx, active, status, data, stamp, others, bell, only_parts_of_exec hx⟩
  · have hx := exec_stretchFault hw ha
    obtain ⟨active, status, data, stamp, others, bell⟩ := State.mgmtEnd_ended (i := i) (x := 2) (State.up_of_works hw) hn hd
    exact ⟨_, hx, active, status, data, stamp, others, bell, only_parts_of_exec hx⟩
  · have hx := exec_busRecovery hw ha hs hr
    have mgmt : s.mgmtStuck.mgmt = { s.stuckRung.mgmt with results := s.stuckShown.mgmt.results } := by
      rw [s.mgmtStuck_state hn]
      show ({ s.stuckShown.mgmt with active := none } : Mgmt) = _
      rw [s.stuckShown_kept.mgmt, State.stuckRung_mgmt]
    have bell : s.stuckRung.chanN.bellIn.getLsbD 7 = true := State.stuckRung_bell (State.up_of_works hw)
    rw [State.stuckRung_mgmt] at mgmt
    refine ⟨_, hx, ?_, ?_, ?_, fun k on => ?_, fun k off => ?_, s.mgmtStuck_steps'.bell bell, only_parts_of_exec hx⟩
    · rw [mgmt]
    · rw [mgmt]
    · rw [mgmt]
    · obtain ⟨t, same, -, left⟩ := s.stuckShown_result k
      rw [mgmt]
      show (s.stuckShown.mgmt.results.get k).status = 3
      rw [left, State.showStuck, same, on, if_pos rfl, State.scanStatus_results, if_pos rfl]
    · obtain ⟨t, same, met, left⟩ := s.stuckShown_result k
      rw [mgmt]
      show s.stuckShown.mgmt.results.get k = _
      rw [left, State.showStuck, same, off, if_neg Bool.false_ne_true, met]
  · have hx := exec_mbStuckRecheck hw hs hr
    have rings : Steps [.irq, .bells, .mgmt] s ((s.setMgmt fun m => { m with stuck := false }).ring bellMgmt) :=
      State.ring_steps _ (State.setMgmt_steps _ (Steps.refl _ s) rfl) rfl
    have bell : ((s.setMgmt fun m => { m with stuck := false }).ring bellMgmt).chanN.bellIn.getLsbD 7 = true := by
      refine State.ring_bell (bit := bellMgmt) ?_ (by decide)
      exact State.up_of_works hw
    have mgmt : ((s.setMgmt fun m => { m with stuck := false }).ring bellMgmt).mgmt = { s.mgmt with stuck := false } :=
      State.ring_mgmt _ _
    generalize (s.setMgmt fun m => { m with stuck := false }).ring bellMgmt = u at hx rings bell mgmt
    refine ⟨_, hx, ?_, fun k on => ?_, ?_,
      (State.dueScan_steps (ps := [.mgmt]) (Steps.refl _ u) rfl).bell bell, only_parts_of_exec hx⟩
    · rw [State.dueScan_eq, State.mgmtStart_stuck]
      show u.mgmt.stuck = false
      rw [mgmt]
    · rw [State.dueScan_eq]
      exact State.mgmtStart_due (State.scanMask_bit ((State.scanOn_congr (rings.same .settings) k).trans on))
    · rw [State.dueScan_results, mgmt]
  · have hx := exec_loopback hp h free
    have all : Steps [.work, .mem, .pool, .ports, .tx, .sluice] s (s.served.loopedBy p (byteAt m.payload 1)) :=
      (s.served_steps.widen rfl).step (State.loopedBy_steps _ _ _) rfl
    have kept := (State.changed_keeps (s.served.loopedBy p (byteAt m.payload 1)) m 0x0904 []).port_eq p
    obtain ⟨on, port⟩ := s.served.beginLoop_port p (if byteAt m.payload 1 = 1 then .internal else .external)
    rw [← State.loopedBy_begins hn, ← kept] at port
    have loop : (if byteAt m.payload 1 = 1 then Loop.internal else Loop.external) ≠ .off := by split <;> decide
    refine ⟨_, hx, State.changed_replied all, State.changed_counted (State.serves_of_offers h) all, ?_, ?_, ?_, ?_,
      fun one => ?_, only_parts_of_exec hx⟩
    · rw [port]
      exact Port.arm_loop _
    · rw [port]
      exact Port.arm_fifo _
    · rw [port]
      exact Port.looped_armed (q := s.served.port p) loop
    · rw [port]
      exact Port.arm_asm _
    · rw [port, if_pos one, Port.drive_driver, show ((s.served.port p).looped .internal).loop = .internal from Port.arm_loop _]
      exact Bool.and_false on
  · have hx := exec_loopback hp h free
    have all : Steps [.work, .mem, .pool, .ports, .tx, .sluice] s (s.served.loopedBy p (byteAt m.payload 1)) :=
      (s.served_steps.widen rfl).step (State.loopedBy_steps _ _ _) rfl
    have kept := (State.changed_keeps (s.served.loopedBy p (byteAt m.payload 1)) m 0x0904 []).port_eq p
    refine ⟨_, hx, State.changed_replied all, State.changed_counted (State.serves_of_offers h) all, ?_, only_parts_of_exec hx⟩
    rw [kept, hn]
    exact State.endLoop_loop _ p
  · have hx := exec_ampSweep hp h free
    exact ⟨_, hx, State.accept_replied _ m 0x0905 _, State.accept_accepted _ m 0x0905 _, only_parts_of_exec hx⟩
  · have hx := exec_ampSweepDone (l := l) hw hs ha
    exact ⟨_, hx, State.complete_replied s a 0 _, State.complete_accepted s a 0 _, only_parts_of_exec hx⟩

end Sys2Proof.Machine
end

section
/-!
PROOFS. The Quickset tag's field side and the publishing of region B (19 R577-R605; 08 R254).
-/
set_option Elab.async false
namespace Sys2Proof.Machine

/-! ### The field comes and goes (19 R577, R602, R603) -/

section field
variable {s : State}

theorem exec_fieldArrives (h : s.tag.field = false) :
    exec .fieldArrives s = .next (s.setTag fun t => { t.recover with field := true, iso := .ready }).raiseTag :=
  if_neg (by simp [h])

theorem Tag.recover_of_clear {t : Tag} (h : t.marker = false) : t.recover = t := by
  rw [Tag.recover, h, if_neg Bool.false_ne_true]

theorem State.recovered_of_clear (h : s.tag.marker = false) :
    (if s.power.running then s.setTag Tag.recover else s) = s := by
  split
  · exact congrArg (fun t => { s with tag := t }) (Tag.recover_of_clear h)
  · rfl

/-- The tag without a field: nothing in progress, nothing owed. -/
def Tag.unpowered (t : Tag) : Tag := { t with writes := [], owes := false, field := false, iso := .ready }

/-- What the collapse of the field leaves of the write in progress. -/
def State.collapsed (s : State) (c : Collapse) : State :=
  match s.tag.writes with
  | w :: _ => s.collapseWrite w c
  | [] => s

theorem State.collapsed_of_write {w : FieldWrite} {r : List FieldWrite} (h : s.tag.writes = w :: r) (c : Collapse) :
    s.collapsed c = s.collapseWrite w c := by
  rw [State.collapsed, h]

/-- A field that leaves an unmarked array. -/
theorem exec_fieldLeaves {c : Collapse} (hf : s.tag.field = true) (hm : (s.collapsed c).tag.marker = false) :
    exec (.fieldLeaves c) s = .next ((s.collapsed c).setTag Tag.unpowered).raiseTag := by
  have leaves : exec (.fieldLeaves c) s = .next (if ((s.collapsed c).setTag Tag.unpowered).power.running then
      ((s.collapsed c).setTag Tag.unpowered).setTag Tag.recover else (s.collapsed c).setTag Tag.unpowered).raiseTag :=
    if_neg (by simp [hf])
  rw [leaves, State.recovered_of_clear]
  exact hm

end field

/-! ### A field write ends (19 R601) -/

section fieldWrote
variable (s : State) (w : FieldWrite)

/-- The session with the write of block `b` at `now` in it. -/
def joinSession (x : Option (Nat × Nat × Stamp)) (b : Nat) (now : Stamp) : Nat × Nat × Stamp :=
  match x with
  | some (first, n, _) => (first, n + 1, now)
  | none => (b, 1, now)

/-- The tag after a write of region A: its steps carried through, FIELD_WROTE and the session. -/
def Tag.wroteBlock (t : Tag) (w : FieldWrite) (released : Bool) (now : Stamp) : Tag :=
  { t.commitWrite w with
    wrote := (t.commitWrite w).wrote || released, session := some (joinSession (t.commitWrite w).session w.block now) }

theorem State.ring_tag (bit : Nat) : (s.ring bit).tag = s.tag :=
  (State.ring_steps (ps := [.irq, .bells]) bit (Steps.refl _ s) rfl).same .tag

theorem some_joinSession (x : Option (Nat × Nat × Stamp)) (b : Nat) (now : Stamp) : (match x with
    | some (first, n, _) => some (first, n + 1, now)
    | none => some (b, 1, now)) = some (joinSession x b now) := by
  rcases x with _ | ⟨first, n, _⟩ <;> rfl

variable {w}

theorem State.fieldWrote_tag (hl : w.isLock = false) : (s.fieldWrote w).tag = s.tag.wroteBlock w s.released s.now := by
  unfold State.fieldWrote
  rw [hl, if_neg Bool.false_ne_true, State.ring_tag, State.raiseTag_tag]
  exact congrArg (fun x => ({ s.tag.commitWrite w with wrote := (s.tag.commitWrite w).wrote || s.released, session := x } : Tag))
    (some_joinSession _ _ _)

theorem State.fieldWrote_blocks (w : FieldWrite) : (s.fieldWrote w).tag.blocks = (s.tag.commitWrite w).blocks ∧
    (s.fieldWrote w).tag.marker = s.tag.marker := by
  cases hl : w.isLock with
  | true =>
    have lock : s.fieldWrote w = s.setTag fun t => t.commitWrite w := if_pos hl
    rw [lock]
    exact ⟨rfl, rfl⟩
  | false =>
    rw [s.fieldWrote_tag hl]
    exact ⟨rfl, rfl⟩

/-- A write of region A rings doorbell 6. -/
theorem State.fieldWrote_bell (hl : w.isLock = false) (hu : s.engine.up = true) :
    (s.fieldWrote w).chanN.bellIn.getLsbD 6 = true := by
  unfold State.fieldWrote
  rw [hl, if_neg Bool.false_ne_true]
  refine State.ring_bell (bit := bellTag) ?_ (by decide)
  exact (State.raiseTag_steps (ps := [.irq]) (Steps.refl _ _) rfl).up.trans hu

/-- The blocks listed after an insertion are the one inserted and some of those before. -/
theorem mem_putBlock {b : Nat} {x : Word} {l : List (Nat × Word)} {y : Nat × Word} (h : y ∈ putBlock b x l) :
    y.1 = b ∨ y ∈ l := by
  induction l with
  | nil =>
    rw [putBlock] at h
    split at h
    · cases h
    · exact .inl (congrArg Prod.fst (List.mem_singleton.1 h))
  | cons z r ih =>
    obtain ⟨k, v⟩ := z
    rw [putBlock] at h
    split at h
    · rcases List.mem_cons.1 h with rfl | h
      · exact .inr List.mem_cons_self
      · exact (ih h).imp_right (List.mem_cons_of_mem _)
    · split at h
      · split at h
        · exact .inr (List.mem_cons_of_mem _ h)
        · rcases List.mem_cons.1 h with rfl | h
          · exact .inl rfl
          · exact .inr (List.mem_cons_of_mem _ h)
      · split at h
        · exact .inr h
        · rcases List.mem_cons.1 h with rfl | h
          · exact .inl rfl
          · exact .inr h

/-- Inserting a block keeps the list ascending. -/
theorem putBlock_ascending (b : Nat) (x : Word) {l : List (Nat × Word)} (h : l.Pairwise fun y z => y.1 < z.1) :
    (putBlock b x l).Pairwise fun y z => y.1 < z.1 := by
  induction l with
  | nil =>
    rw [putBlock]
    split
    · exact List.Pairwise.nil
    · exact List.pairwise_singleton _ _
  | cons y r ih =>
    obtain ⟨k, v⟩ := y
    obtain ⟨above, rest⟩ := List.pairwise_cons.1 h
    rw [putBlock]
    split
    · next below =>
      refine List.pairwise_cons.2 ⟨fun z hz => ?_, ih rest⟩
      rcases mem_putBlock hz with here | hz
      · rw [here]
        exact below
      · exact above z hz
    · next notBelow =>
      split
      · next here =>
        split
        · exact rest
        · exact List.pairwise_cons.2 ⟨here ▸ above, rest⟩
      · next other =>
        split
        · exact h
        · refine List.pairwise_cons.2 ⟨fun z hz => ?_, h⟩
          have less : b < k := Nat.lt_of_le_of_ne (Nat.not_lt.1 notBelow) (Ne.symm other)
          rcases List.mem_cons.1 hz with rfl | hz
          · exact less
          · exact less.trans (above z hz)

/-- What a write of region A leaves in the array: its block, and the tear row (19 R601). -/
theorem Tag.commitWrite_cell {t : Tag} {w : FieldWrite} (hl : w.isLock = false)
    (ascending : t.blocks.Pairwise fun y z => y.1 < z.1) : (t.commitWrite w).cell w.block = w.data ∧
      ∀ c, c ≠ w.block → c ≠ 1800 → c ≠ 1801 → (t.commitWrite w).cell c = t.cell c := by
  have home : t.homeOf w = (w.block, w.data) := if_neg (by simp [hl])
  have steps : ∃ v i, t.commitWrite w = ((t.put 1800 v).put 1801 i).put w.block w.data := by
    rw [Tag.commitWrite, Tag.tearRow, home]
    exact ⟨_, _, rfl⟩
  obtain ⟨v, i, steps⟩ := steps
  rw [steps]
  refine ⟨Tag.put_cell_same _ _ (putBlock_ascending _ _ (putBlock_ascending _ _ ascending)), fun c here data info => ?_⟩
  rw [Tag.put_cell_ne _ _ here, Tag.put_cell_ne _ _ info, Tag.put_cell_ne _ _ data]

end fieldWrote

/-! ### Requests (19 R578, R579, R583) -/

section requests
variable {s : State} {r : TagReq}

/-- A heard request whose format fits is served. -/
theorem State.tagServe_heard {f : State → State} (hf : s.tag.field = true) (hh : s.tag.hears r = true)
    (hr : r.format = true) : s.tagServe r f = f s := by
  simp [State.tagServe, hf, hh, hr]

theorem State.tagServe_unheard {f : State → State} (h : s.tag.field = false ∨ s.tag.hears r = false) :
    s.tagServe r f = s := by
  unfold State.tagServe
  exact if_pos (by rcases h with h | h <;> simp [h])

section heard
variable (hf : s.tag.field = true) (hh : s.tag.hears r = true) (hr : r.format = true)
include hf hh hr

theorem State.fieldRead_reads {b n top : Nat} (hp : s.tag.programs = false) (hn : n ≤ 64) (hb : b + n ≤ top + 1) :
    s.fieldRead r b n top =
      s.answer (.data (((List.range n).map fun k => s.tag.ahead.readOut r.option (b + k)).flatten)) := by
  rw [State.fieldRead, State.tagServe_heard hf hh hr, if_neg (by omega), hp]
  rfl

theorem State.fieldRead_out {b n top : Nat} (h : 64 < n ∨ top < b + n - 1) :
    s.fieldRead r b n top = s.answer (.error 0x10) := by
  rw [State.fieldRead, State.tagServe_heard hf hh hr, if_pos h]

theorem State.fieldRead_silent {b n top : Nat} (hp : s.tag.programs = true) (hn : n ≤ 64) (hb : b + n ≤ top + 1) :
    s.fieldRead r b n top = s.answer .silent := by
  rw [State.fieldRead, State.tagServe_heard hf hh hr, if_neg (by omega), hp]
  rfl

theorem State.fieldRead_one {b top : Nat} (hp : s.tag.programs = false) (hb : b ≤ top) :
    s.fieldRead r b 1 top = s.answer (.data (s.tag.ahead.readOut r.option b)) := by
  rw [State.fieldRead_reads hf hh hr hp (by decide) (by omega)]
  simp

theorem State.fieldWrite_starts {b top : Nat} {d : Word} {e : Bool} (hl : s.tag.fieldLock = false)
    (hk : s.tag.ahead.locked b = false) (hb : b ≤ top) (hr' : ¬(1024 ≤ b ∧ b < 1792)) : s.fieldWrite r b top d e =
      s.fieldWriteStart { block := b, data := d, isLock := false, option := r.option } e := by
  rw [State.fieldWrite, State.tagServe_heard hf hh hr, if_neg hr', if_neg (by omega), hl, hk]
  rfl

theorem State.fieldWrite_refused {b top : Nat} {d : Word} {e : Bool} (hb : b < 1024 → b ≤ top) (ht : b < 1792)
    (hl : s.tag.fieldLock = true ∨ 1024 ≤ b ∧ b < 1792) : s.fieldWrite r b top d e = s.answer (.error 0x12) := by
  rw [State.fieldWrite, State.tagServe_heard hf hh hr]
  by_cases region : 1024 ≤ b ∧ b < 1792
  · rw [if_pos region]
  · have lock := hl.resolve_right region
    have reach := hb (by omega)
    rw [if_neg region, if_neg (by omega), lock]
    rfl

end heard

/-- A request addressed to this tag, or heard while it is selected. -/
theorem exec_unsupportedTagCommand {k : Byte} (hf : s.tag.field = true)
    (h : (r.address = true ∧ r.select = false ∧ r.uid = tagUid) ∨ s.tag.iso = .selected) :
    exec (.unsupportedTagCommand r k) s = .next (s.answer (.error 0x01)) :=
  if_pos (by rcases h with ⟨address, select, uid⟩ | selected <;> simp [*])

end requests

/-! ### The field write in progress ends (19 R601, R582; log entry 168) -/

section writeDone
variable {s : State}

/-- The write at the front has ended; with the Option flag its answer is owed. -/
def State.writeEnded (s : State) (w : FieldWrite) (r : List FieldWrite) : State :=
  (s.fieldWrote w).setTag fun t => { t with writes := r, owes := w.option }

theorem exec_fieldWriteDone {w : FieldWrite} {r : List FieldWrite} (hw : s.tag.writes = w :: r)
    (hf : s.tag.field = true) (ho : s.tag.owes = false) (hh : s.tag.hostFirst = false) : exec .fieldWriteDone s =
      .next (if w.option then s.writeEnded w r else (s.writeEnded w r).answer (.data [])) := by
  show execFieldWriteDone s = _
  simp only [execFieldWriteDone, ho, hw, hf, hh]
  rfl

theorem exec_fieldWriteDone_owed (ho : s.tag.owes = true) : exec .fieldWriteDone s =
    .next ((s.setTag fun t => { t with owes := false }).answer (.data [])) :=
  if_pos ho

theorem exec_fieldWriteDone_idle (ho : s.tag.owes = false) (hw : s.tag.writes = []) : exec .fieldWriteDone s = .next s := by
  show execFieldWriteDone s = _
  simp only [execFieldWriteDone, ho, hw]
  rfl

/-- The tag as a write of region A ends. -/
def Tag.writeEnded (t : Tag) (w : FieldWrite) (r : List FieldWrite) (released : Bool) (now : Stamp) : Tag :=
  { t.wroteBlock w released now with
    writes := r, owes := w.option, answer := if w.option then t.answer else .data [] }

theorem State.writeEnded_tag {w : FieldWrite} {r : List FieldWrite} (hl : w.isLock = false) :
    (if w.option then s.writeEnded w r else (s.writeEnded w r).answer (.data [])).tag =
      s.tag.writeEnded w r s.released s.now := by
  have wrote := s.fieldWrote_tag hl
  cases ho : w.option with
  | true =>
    show ({ (s.fieldWrote w).tag with writes := r, owes := w.option } : Tag) = _
    rw [wrote, Tag.writeEnded, ho]
    rfl
  | false =>
    show ({ (s.fieldWrote w).tag with writes := r, owes := w.option, answer := .data [] } : Tag) = _
    rw [wrote, Tag.writeEnded, ho]
    rfl

theorem State.writeEnded_steps (s : State) (w : FieldWrite) (r : List FieldWrite) : Steps [.tag] (s.fieldWrote w)
    (if w.option then s.writeEnded w r else (s.writeEnded w r).answer (.data [])) :=
  Steps.ite (State.setTag_steps _ (Steps.refl _ _) rfl)
    (State.answer_steps _ (State.setTag_steps _ (Steps.refl _ _) rfl) rfl)

end writeDone

/-! ### A session ends (19 R605, R594) -/

section session
variable {s : State} {first n : Nat} {u : Stamp}

/-- The session that has ended, counted and recorded. -/
def State.sessionLogged (s : State) (first n : Nat) (u : Stamp) : State :=
  ((s.setTag fun g => { g with session := none }).noteChange u).record kConfig (recFlags false s.doubtNow) u
    (configBody 3 4 first 0 false (2 * n) s.settings.digest)

theorem exec_fieldSessionEnd (h : s.tag.session = some (first, n, u)) : exec .fieldSessionEnd s =
    if s.engine.up then .next ((s.sessionLogged first n u).setTag fun g => { g with seqLogged := g.fieldSeq }).checkRecord
    else .next (s.setTag fun g => { g with session := none }) := by
  show execFieldSessionEnd s = _
  simp only [execFieldSessionEnd, h]
  rfl

theorem fieldSessionEnds (h : s.tag.session = some (first, n, u)) : ∃ t, exec .fieldSessionEnd s = .next t ∧
    t.tag.session = none ∧ t.tag.blocks = s.tag.blocks ∧
    (s.engine.up = true → t.settings.changes = s.settings.changes + 1 ∧ t.settings.lastChange = u ∧
      t.tag.seqLogged = s.tag.fieldSeq) ∧ (s.engine.up = false → t.settings = s.settings) ∧
    Only (parts .fieldSessionEnd) s t := by
  have hx := exec_fieldSessionEnd h
  cases up : s.engine.up with
  | false =>
    rw [up, if_neg Bool.false_ne_true] at hx
    exact ⟨_, hx, rfl, rfl, fun no => Bool.noConfusion no, fun _ => rfl, only_parts_of_exec hx⟩
  | true =>
    rw [up, if_pos rfl] at hx
    have recorded : Steps [.journal] ((s.setTag fun g => { g with session := none }).noteChange u)
        (s.sessionLogged first n u) := State.record_steps _ _ _ _ (Steps.refl _ _) rfl
    have tag : (s.sessionLogged first n u).tag = { s.tag with session := none } := recorded.same .tag
    obtain ⟨changes, stamp, -⟩ := recorded.same .changes
    obtain ⟨g, checked⟩ := ((s.sessionLogged first n u).setTag fun g => { g with seqLogged := g.fieldSeq }).checkRecord_tag
    obtain ⟨changes', stamp', -⟩ := (State.checkRecord_steps (ps := [.irq, .bells, .tag]) (Steps.refl _
      ((s.sessionLogged first n u).setTag fun g => { g with seqLogged := g.fieldSeq })) rfl).same .changes
    rw [State.setTag_tag, tag] at checked
    refine ⟨_, hx, ?_, ?_, fun _ => ⟨changes'.trans changes, stamp'.trans stamp, ?_⟩, fun no => Bool.noConfusion no,
      only_parts_of_exec hx⟩
    · rw [checked]
    · rw [checked]
    · rw [checked]
      rfl

end session

/-! ### Publishing (19 R589, R590) -/

section publish
variable {s : State}

theorem State.endPublish_eq {l : List (Nat × Word)} (h : s.tag.publishing = some l) :
    s.endPublish = s.setTag fun t => { t.write l with publishing := none, whole := false } := by
  rw [State.endPublish, h]

theorem State.endPublish_idle (h : s.tag.publishing = none) : s.endPublish = s := by
  rw [State.endPublish, h]

theorem exec_tagPublish {m : Msg} (h : s.offers m 0x0801 inWork (exactFault [])) (hb : s.publishBusy = false)
    (hn : s.tag.publishing = none) :
    exec (.tagPublish m) s = .next (s.served.startPublish.accept m 0x0801 .publish) := by
  have idle : s.served.endPublish = s.served := State.endPublish_idle hn
  refine (congrArg Host.Outcome.next (State.serve_of_offers h)).trans (congrArg Host.Outcome.next ?_)
  refine (if_neg (show ¬s.served.publishBusy = true from Bool.eq_false_iff.1 hb)).trans ?_
  rw [idle]

theorem exec_tagPublish_busy {m : Msg} (h : s.offers m 0x0801 inWork (exactFault [])) (hb : s.publishBusy = true) :
    exec (.tagPublish m) s = .next (s.served.refused m 0x0801 0x0012) :=
  (congrArg Host.Outcome.next (State.serve_of_offers h)).trans (congrArg Host.Outcome.next (if_pos hb))

theorem exec_publishDone_answers {l : List (Nat × Word)} {a : Accepted} (hw : s.engineWorks = true)
    (hl : s.tag.publishing = some l) (ha : s.engine.accepted.find? (fun a => decide (a.work = .publish)) = some a) :
    exec .publishDone s = .next (s.endPublish.complete a 0 []) := by
  have due : (s.engineWorks && s.tag.publishing.isSome) = true := by simp [hw, hl]
  have waits : s.endPublish.working? (fun w => decide (w = .publish)) = some a := by
    rw [State.endPublish_eq hl]
    exact ha
  show execPublishDone s = _
  simp only [execPublishDone, due, waits]
  rfl

theorem exec_publishDone_own {l : List (Nat × Word)} (hw : s.engineWorks = true) (hl : s.tag.publishing = some l)
    (hb : s.publishBusy = false) : exec .publishDone s = .next s.endPublish := by
  have due : (s.engineWorks && s.tag.publishing.isSome) = true := by simp [hw, hl]
  have waits : s.endPublish.working? (fun w => decide (w = .publish)) = none := by
    rw [State.endPublish_eq hl]
    exact Option.not_isSome_iff_eq_none.1 (Bool.eq_false_iff.1 hb)
  show execPublishDone s = _
  simp only [execPublishDone, due, waits]
  rfl

/-- What a publish reports is what it shows. -/
theorem State.startPublish_notDue (s : State) : s.startPublish.publishDue = false :=
  decide_eq_false (not_not.2 rfl)

theorem exec_autoPublish (hw : s.engineWorks = true) (hn : s.tag.publishing = none) (hd : s.publishDue = true) :
    exec .autoPublish s = .next s.startPublish :=
  if_pos (by simp [hw, hn, hd])

end publish

/-- Settles O59: the field by `exec_fieldLeaves` and `fieldWrote`, the requests by what `fieldRead` and `fieldWrite` answer,
the publishes by `startPublish` and `endPublish`. -/
theorem tagCommandsReadWriteAndPublish : Obligations.TagCommandsReadWriteAndPublish := by
  refine ⟨fun s hf => ?_, fun s hf => if_pos hf, fun s c hf hm hw => ?_, fun s w r hf hm hw => ?_,
    fun s w r hf hm hw => ?_, fun s q hf hi h16 ha hu => ?_, fun s q h => ?_, fun s r hf ha hs hu hr => ?_,
    fun s r hf ha hs hu hr => ?_, fun s r hf ha hs hu hi => ?_, fun s r b hf hh hr hp => ?_, fun s r b hf hh hr hp hb => ?_,
    fun s r b n hf hh hr hp hn hb => ?_, fun s r b n hf hh hr hp hn hb => ?_, fun s r b n hf hh hr h => ?_,
    fun s r b hf hh hr hp => ?_, fun s r b n hf hh hr hp hn hb => ?_, fun s r hf hh hr ho => ?_, fun s r hf hh hr ho => ?_,
    fun s r hf hh hr => ?_, fun s r k hf h => exec_unsupportedTagCommand hf h, fun s r b d hf hh hr hl hk => ⟨?_, ?_, ?_⟩,
    fun s r b d hf hh hr hl hk hb => ?_, fun s r b d e hf hh hr hl hb => ?_, fun s r b e hf hh hr hl hk => ?_,
    fun s c r b n h k d e hc hu => ?_, fun s w r hw hf ho hh hl hb => ?_, fun s ho => ?_, fun s ho hw => ?_,
    fun s first n u hs => ?_, fun s m h hb hn => ?_, fun s m h hb => exec_tagPublish_busy h hb, fun s l a hw hl ha => ?_,
    fun s l hw hl hb => ?_, fun s hw hn hd => ?_, fun s hd => ?_⟩
  · have hx := exec_fieldArrives hf
    refine ⟨_, hx, State.raiseTag_tag _, fun out => State.raiseTag_irqBit (State.setTag_released out _), ?_⟩
    exact only_parts_of_exec hx
  · have still : s.collapsed c = s := by rw [State.collapsed, hw]
    have hx := exec_fieldLeaves (c := c) hf (by rw [still]; exact hm)
    rw [still] at hx
    refine ⟨_, hx, ?_, fun out => State.raiseTag_irqBit (State.setTag_released out _), only_parts_of_exec hx⟩
    rw [State.raiseTag_tag, State.setTag_tag]
    exact congrArg (fun l => ({ s.tag with writes := l, owes := false, field := false, iso := .ready } : Tag)) hw.symm
  · have still : s.collapsed .check = s := s.collapsed_of_write hw .check
    have hx := exec_fieldLeaves (c := .check) hf (by rw [still]; exact hm)
    rw [still] at hx
    refine ⟨_, hx, ?_, ?_, ?_, only_parts_of_exec hx⟩
    all_goals
      rw [State.raiseTag_tag]
      rfl
  · have wrote : s.collapsed .answer = s.fieldWrote w := s.collapsed_of_write hw .answer
    obtain ⟨blocks, marker⟩ := s.fieldWrote_blocks w
    have hx := exec_fieldLeaves (c := .answer) hf (by rw [wrote, marker]; exact hm)
    rw [wrote] at hx
    refine ⟨_, hx, ?_, ?_, ?_, only_parts_of_exec hx⟩
    · rw [State.raiseTag_tag]
      exact blocks
    all_goals
      rw [State.raiseTag_tag]
      rfl
  · exact if_pos (by simp [hf, hi, h16, ha, hu])
  · exact if_neg (by rcases h with h | h <;> simp [h])
  · exact (if_pos (by simp [hf, ha, hs, hu])).trans (if_pos hr)
  · exact (if_neg (by simp [hf, ha, hs])).trans ((if_pos hu).trans (if_pos hr))
  · refine (if_neg (by simp [hf, ha, hs])).trans ((if_neg hu).trans ?_)
    exact congrArg (fun i => Host.Outcome.next { s with tag := { s.tag with iso := i } }) (if_pos hi)
  · exact congrArg _ (State.fieldRead_one hf hh hr hp (by have := b.isLt; omega))
  · exact congrArg _ (State.fieldRead_one hf hh hr hp (by omega))
  · exact congrArg _ (State.fieldRead_reads hf hh hr hp (by omega) (by omega))
  · exact congrArg _ (State.fieldRead_reads hf hh hr hp (by omega) (by omega))
  · exact congrArg _ (State.fieldRead_out hf hh hr (by omega))
  · exact congrArg _ (State.fieldRead_silent hf hh hr hp (by decide) (by have := b.isLt; omega))
  · refine congrArg _ ((State.tagServe_heard hf hh hr).trans ?_)
    rw [if_neg (by omega), hp]
    rfl
  · refine congrArg _ ((State.tagServe_heard hf hh hr).trans ?_)
    rw [ho]
    rfl
  · refine congrArg _ ((State.tagServe_heard hf hh hr).trans ?_)
    rw [ho]
    rfl
  · exact congrArg _ (State.tagServe_heard hf hh hr)
  · exact congrArg _ (State.fieldWrite_starts hf hh hr hl hk (by have := b.isLt; omega) (by have := b.isLt; omega))
  · exact congrArg _ (State.fieldWrite_starts hf hh hr hl hk (by have := b.isLt; omega) (by have := b.isLt; omega))
  · refine congrArg _ ((State.tagServe_heard hf hh hr).trans ?_)
    rw [hl, hk]
    rfl
  · exact congrArg _ (State.fieldWrite_starts hf hh hr hl hk (by omega) (by omega))
  · exact congrArg _ (State.fieldWrite_refused hf hh hr (fun _ => by omega) hb hl)
  · refine congrArg _ ((State.tagServe_heard hf hh hr).trans ?_)
    rw [hl, hk]
    rfl
  · simp only [List.mem_cons, List.not_mem_nil, or_false] at hc
    rcases hc with rfl | rfl | rfl | rfl | rfl | rfl | rfl | rfl | rfl | rfl | rfl
    all_goals exact congrArg Host.Outcome.next (State.tagServe_unheard hu)
  · have hx := exec_fieldWriteDone hw hf ho hh
    have tag := s.writeEnded_tag (r := r) hl
    have after := s.writeEnded_steps w r
    refine ⟨_, hx, ?_, ?_, ?_, fun out => ?_, ?_, fun up => after.bell (s.fieldWrote_bell hl up), fun ascending => ?_,
      only_parts_of_exec hx⟩
    · rw [tag]
      rfl
    · rw [tag]
      rfl
    · rw [tag]
      rfl
    · rw [tag]
      show (_ || s.released) = true
      rw [out, Bool.or_true]
    · rw [tag]
      show some (joinSession s.tag.session w.block s.now) = _
      rcases s.tag.session with _ | ⟨first, n, u⟩ <;> rfl
    · rw [tag]
      exact Tag.commitWrite_cell hl ascending
  · exact exec_fieldWriteDone_owed ho
  · exact exec_fieldWriteDone_idle ho hw
  · exact fieldSessionEnds hs
  · have hx := exec_tagPublish h hb hn
    have started : Steps [.work, .tag] s s.served.startPublish :=
      State.startPublish_steps (s.served_steps.widen rfl) rfl
    have accepted := (State.accept_steps (ps := [.replies, .work]) m 0x0801 .publish (Steps.refl _ s.served.startPublish) rfl)
    have tag := accepted.same .tag
    refine ⟨_, hx, fun c => ?_, ?_, ?_, ?_, State.accept_accepted _ m 0x0801 _, only_parts_of_exec hx⟩
    · rw [State.accept_replied _ m 0x0801 _ c, started.replies rfl c]
    all_goals
      rw [tag]
      rfl
  · have hx := exec_publishDone_answers hw hl ha
    have tag := (State.complete_steps (ps := [.replies, .work]) a 0 [] (Steps.refl _ s.endPublish) rfl).same .tag
    have ended := State.endPublish_eq hl
    have kept : Steps [.tag] s s.endPublish := State.endPublish_steps (Steps.refl _ s) rfl
    refine ⟨_, hx, ?_, ?_, fun c => ?_, ?_, only_parts_of_exec hx⟩
    · rw [tag, ended]
      rfl
    · rw [tag, ended]
      rfl
    · rw [State.complete_replied _ a 0 [] c, kept.replies rfl c]
    · rw [State.complete_accepted, ended]
      rfl
  · have hx := exec_publishDone_own hw hl hb
    rw [State.endPublish_eq hl] at hx
    exact ⟨_, hx, rfl, rfl, (State.setTag_steps _ (Steps.refl _ s) rfl).1⟩
  · have hx := exec_autoPublish hw hn hd
    exact ⟨_, hx, rfl, rfl, rfl, s.startPublish_notDue, only_parts_of_exec hx⟩
  · exact if_neg (by simp [hd])

end Sys2Proof.Machine
end

section
/-!
PROOFS. The queries of the road and those that clear what they report (08 R240, R244, R246, R251, R253; 12 R359; 18 R573;
21 R634).
-/
set_option Elab.async false
namespace Sys2Proof.Machine

/-! ### BOOKS, EVENTS, PAIR-STATUS and JOURNAL-STATUS -/

section status
variable {s : State} {m : Msg}

theorem exec_books (h : s.offers m 0x040B inAll (exactFault [])) : exec (.books m) s = .next (s.served.done m 0x040B
    (leBytes 2 s.freeCount ++ leBytes 2 s.reservedCount ++ leBytes 2 s.heldCount ++ leBytes 2 s.voidedCount ++
      leBytes 2 (min s.freeCount 128) ++ leBytes 2 s.power.audit.toNat)) :=
  congrArg Host.Outcome.next (State.serve_of_offers h)

theorem exec_events (h : s.offers m 0x0109 inAll (exactFault [])) :
    exec (.events m) s = .next ((s.served.setSettings fun g => { g with devFlags := 0, portFlags := 0 }).done m 0x0109
      (leBytes 2 s.settings.devFlags.toNat ++ leBytes 8 s.settings.portFlags.toNat)) :=
  congrArg Host.Outcome.next (State.serve_of_offers h)

/-- A query that only answers: its reply, and nothing else changed. -/
theorem query_answered {c : Instr} {code : Nat} {p : List Byte} (hx : exec c s = .next (s.served.done m code p)) :
    ∃ t, exec c s = .next t ∧ Replied s t m code 0 p ∧ Only [.replies, .work] s t :=
  ⟨_, hx, State.done_replied fun c => s.served_steps.replies rfl c,
    (State.done_steps m code p (s.served_steps.widen rfl) rfl).1⟩

/-- What PAIR-STATUS gives of the peer: its versions and its digest, 0 without one. -/
def peerOf (x : Option Peer) : List Byte × Nat :=
  match x with
  | some q => (leBytes 2 q.major.toNat ++ leBytes 2 q.minor.toNat ++ leBytes 2 q.patch.toNat, q.digest.toNat)
  | none => (leBytes 6 0, 0)

theorem exec_pairStatus (h : s.offers m 0x0604 inAll (exactFault [])) : exec (.pairStatus m) s =
    .next (s.served.done m 0x0604 (leBytes 2 s.pairStat.toNat ++ (peerOf s.pair.peer).1 ++
      leBytes 4 s.settings.digest.toNat ++ leBytes 4 (peerOf s.pair.peer).2 ++
      leBytes 4 (BitVec.ofInt 32 s.pair.skew).toNat ++ leBytes 4 s.pair.lastMirrored.toNat)) :=
  congrArg Host.Outcome.next (State.serve_of_offers h)

theorem peerOf_length (x : Option Peer) : (peerOf x).1.length = 6 := by
  cases x <;> rfl

theorem pairStatus_reports (h : s.offers m 0x0604 inAll (exactFault [])) : ∃ t, exec (.pairStatus m) s = .next t ∧
    (∃ p, Replied s t m 0x0604 0 p ∧ p.length = 24 ∧ p.take 2 = leBytes 2 s.pairStat.toNat) ∧
    Only [.replies, .work] s t := by
  obtain ⟨t, hx, replied, only⟩ := query_answered (exec_pairStatus h)
  refine ⟨t, hx, ⟨_, replied, ?_, rfl⟩, only⟩
  simp only [List.length_append, leBytes_length, peerOf_length]

/-- What JOURNAL-STATUS gives of the medium: its oldest record, and its good and bad blocks. -/
theorem exec_journalStatus (h : s.offers m 0x0701 inAll (exactFault [])) : ∃ oldest good bad losses : Nat,
    exec (.journalStatus m) s = .next (s.served.done m 0x0701 (leBytes 4 s.journal.accepted.toNat ++
      leBytes 4 s.journal.durable.toNat ++ leBytes 4 oldest ++ leBytes 2 s.journal.boot.toNat ++
      leBytes 2 s.journal.state ++ leBytes 2 good ++ leBytes 2 bad ++ leBytes 4 losses)) :=
  ⟨_, _, _, _, congrArg Host.Outcome.next (State.serve_of_offers h)⟩

theorem journalStatus_reports (h : s.offers m 0x0701 inAll (exactFault [])) : ∃ t, exec (.journalStatus m) s = .next t ∧
    (∃ p, Replied s t m 0x0701 0 p ∧ p.length = 24 ∧
      p.take 8 = leBytes 4 s.journal.accepted.toNat ++ leBytes 4 s.journal.durable.toNat ∧
      bytesAt p 12 4 = leBytes 2 s.journal.boot.toNat ++ leBytes 2 s.journal.state) ∧ Only [.replies, .work] s t := by
  obtain ⟨oldest, good, bad, losses, hx⟩ := exec_journalStatus h
  obtain ⟨t, hx, replied, only⟩ := query_answered hx
  exact ⟨t, hx, ⟨_, replied, rfl, rfl, rfl⟩, only⟩

end status

/-! ### JOURNAL-READ (18 R573, R567) -/

section journalRead
variable {s : State} {m : Msg}

/-- The records from number `first` on. -/
def Journal.recordsFrom (j : Journal) (first : Nat) : List Rec :=
  j.records.dropWhile fun r => decide (r.seq.toNat < first)

/-- JOURNAL-READ answered from the records `l`: none, the length of one that does not fit, or whole records. -/
def State.readAnswer (s : State) (m : Msg) (room : Nat) (l : List Rec) : State :=
  match l with
  | [] => s.done m 0x0702 []
  | r :: rest =>
    if room < r.bytes.length then s.reply m.ch 0x0702 0x0015 m.tag (leBytes 2 r.bytes.length)
    else s.done m 0x0702 (recordsWithin room (r :: rest))

/-- The pages that a JOURNAL-READ reads have been checked. -/
def State.pagesRead (s : State) (m : Msg) (e : List (List Nat)) : State := s.served.checkPages (fieldAt m.payload 0 4) e

theorem exec_journalRead {e : List (List Nat)}
    (h : s.offers m 0x0702 inWork (exactFault [anyFld 4, range 2 64 4080, anyFld 2])) (hf : s.formatBusy = false) :
    exec (.journalRead m e) s = .next ((s.pagesRead m e).readAnswer m (fieldAt m.payload 4 2)
      ((s.pagesRead m e).journal.recordsFrom (fieldAt m.payload 0 4))) := by
  refine (congrArg Host.Outcome.next (State.serve_of_offers h)).trans (congrArg Host.Outcome.next ?_)
  exact if_neg (show ¬s.served.formatBusy = true from Bool.eq_false_iff.1 hf)

theorem State.readAnswer_reply (s : State) (m : Msg) (room : Nat) (l : List Rec) :
    ∃ c p, (c = 0 ∨ c = 0x0015) ∧ s.readAnswer m room l = s.reply m.ch 0x0702 c m.tag p := by
  cases l with
  | nil => exact ⟨0, [], .inl rfl, rfl⟩
  | cons r rest =>
    by_cases fits : room < r.bytes.length
    · exact ⟨0x0015, _, .inr rfl, if_pos fits⟩
    · exact ⟨0, _, .inl rfl, if_neg fits⟩

theorem State.checkPages_none (s : State) (first : Nat) : s.checkPages first [] = s := by
  rw [State.checkPages, List.zip_nil_right]
  exact ite_self _

theorem Journal.readPages_none {j : Journal} {first : Nat} (h : ∀ r ∈ j.records, r.seq.toNat < first) :
    j.readPages first = [] := by
  unfold Journal.readPages
  split
  · next n medium =>
    have out : n.pages.filter (fun p => p.page.records.any fun r => decide (first ≤ r.seq.toNat)) = [] := by
      refine List.filter_eq_nil_iff.2 fun p hp => ?_
      rw [Bool.not_eq_true, List.any_eq_false]
      intro r hr
      have listed : r ∈ j.records := by
        simp only [Journal.records, medium, List.mem_append, List.mem_flatten, List.mem_map]
        exact .inl (.inl ⟨_, ⟨p, hp, rfl⟩, hr⟩)
      have := h r listed
      simpa using this
    rw [out]
    rfl
  · rfl

theorem State.checkPages_before {first : Nat} (h : ∀ r ∈ s.journal.records, r.seq.toNat < first) (e : List (List Nat)) :
    s.checkPages first e = s := by
  rw [State.checkPages, Journal.readPages_none h, List.zip_nil_left]
  exact ite_self _

theorem recordsWithin_length (room : Nat) (l : List Rec) : (recordsWithin room l).length ≤ room := by
  induction l generalizing room with
  | nil => exact Nat.zero_le _
  | cons r l ih =>
    rw [recordsWithin]
    split
    · next fits =>
      rw [List.length_append]
      have := ih (room - r.bytes.length)
      omega
    · exact Nat.zero_le _

end journalRead

/-! ### Counts that a CLEAR flag clears (08 R238; 12 R359; 21 R634) -/

section clear
variable {s : State} {m : Msg}

/-- The counts of a port cleared where the flag asks for it. -/
def State.statsCleared (s : State) (p : PortNo) (clear : Prop) [Decidable clear] : State :=
  if clear then s.updPort p fun q => { q with stats := PortStats.reset } else s

/-- The rest of what PORT-STATS gives of a port: the counts behind the first four, the rate and the condition. -/
def State.statsRest (s : State) (p : PortNo) : List Byte :=
  leBytes 4 (s.port p).stats.afterLoss ++ leBytes 4 (s.port p).stats.glitches ++ leBytes 4 (s.port p).stats.noise ++
    leBytes 4 (s.port p).stats.breaks ++ leBytes 4 (if (s.port p).hunting then 0 else (s.port p).rateNow) ++
    leBytes 2 (s.condition p % 32) ++ leBytes 2 0

theorem exec_portStats {p : PortNo} (h : s.offers m 0x0205 inAll (exactFault [upTo 1 47, anyFld 1]))
    (hp : byteAt m.payload 0 = p.val) : exec (.portStats m) s =
      .next ((s.served.statsCleared p (bitsOf (byteAt m.payload 1) 0 1 = 1)).done m 0x0205
        (leBytes 4 (s.port p).stats.sentences ++ leBytes 4 (s.port p).stats.characters ++
          leBytes 4 (s.port p).stats.flawed ++ leBytes 4 (s.port p).stats.checksum ++ s.statsRest p)) := by
  refine (congrArg Host.Outcome.next (State.serve_of_offers h)).trans ?_
  rw [portOf_val hp, State.statsRest]
  simp only [← List.append_assoc]
  rfl

theorem State.statsCleared_port (s : State) (p : PortNo) (clear : Prop) [Decidable clear] :
    ((s.statsCleared p clear).port p).stats = if clear then PortStats.reset else (s.port p).stats := by
  unfold State.statsCleared
  split
  · rw [State.updPort_port_same]
  · rfl

theorem State.statsCleared_port_ne (s : State) {p q : PortNo} (clear : Prop) [Decidable clear] (h : q ≠ p) :
    (s.statsCleared p clear).port q = s.port q := by
  unfold State.statsCleared
  split
  · exact State.updPort_port_ne _ _ h
  · rfl

theorem State.statsCleared_steps (s : State) (p : PortNo) (clear : Prop) [Decidable clear] :
    Steps [.ports] s (s.statsCleared p clear) :=
  Steps.ite (State.updPort_ports_steps p _ (Steps.refl _ s) (fun _ => rfl) rfl) (Steps.refl _ s)

/-- Clearing a run of rules clears those and no other. -/
theorem clearHits_get (hits : Vector Nat 512) (first n : Nat) (h : first + n ≤ 512) (r : Fin 512) :
    (clearHits hits first n).get r = if first ≤ r.val ∧ r.val < first + n then 0 else hits.get r := by
  induction n with
  | zero =>
    rw [if_neg (by omega)]
    rfl
  | succ n ih =>
    have more : clearHits hits first (n + 1) = upd (clearHits hits first n) (Fin.ofNat 512 (first + n)) fun _ => 0 := by
      rw [clearHits, List.range_succ, List.foldl_append]
      rfl
    have place : (Fin.ofNat 512 (first + n)).val = first + n := Nat.mod_eq_of_lt (by omega)
    rw [more, upd_get]
    by_cases here : r = Fin.ofNat 512 (first + n)
    · rw [if_pos here, if_pos (by rw [here, place]; omega)]
    · have other : r.val ≠ first + n := fun e => here (Fin.ext (e.trans place.symm))
      rw [if_neg here, ih (by omega)]
      refine if_congr ?_ rfl rfl
      omega

theorem span_of_sieveHitsFault {bs : List Byte} (h : sieveHitsFault bs = none) : fieldAt bs 0 2 + fieldAt bs 2 2 ≤ 512 := by
  unfold sieveHitsFault spanFault at h
  split at h
  · cases h
  · split at h
    · cases h
    · split at h
      · cases h
      · next within => exact Nat.not_lt.1 within

/-- The hit counts of a run of rules. -/
def State.hitBytes (s : State) (first n : Nat) : List Byte :=
  ((List.range n).map fun i => leBytes 4 (s.sieve.hits.get (Fin.ofNat 512 (first + i)))).flatten

/-- Those counts cleared where the flag asks for it. -/
def State.hitsCleared (s : State) (first n : Nat) (clear : Prop) [Decidable clear] : State :=
  if clear then s.setSieve fun v => { v with hits := clearHits v.hits first n } else s

theorem exec_sieveHits (h : s.offers m 0x0304 inAll sieveHitsFault) : exec (.sieveHits m) s =
    .next ((s.served.hitsCleared (fieldAt m.payload 0 2) (fieldAt m.payload 2 2)
      (bitsOf (byteAt m.payload 4) 0 1 = 1)).done m 0x0304 (s.hitBytes (fieldAt m.payload 0 2) (fieldAt m.payload 2 2))) :=
  congrArg Host.Outcome.next (State.serve_of_offers h)

theorem State.hitsCleared_get (s : State) {first n : Nat} (clear : Prop) [Decidable clear] (h : first + n ≤ 512)
    (r : Fin 512) : (s.hitsCleared first n clear).sieve.hits.get r =
      if clear ∧ first ≤ r.val ∧ r.val < first + n then 0 else s.sieve.hits.get r := by
  unfold State.hitsCleared
  by_cases asked : clear
  · rw [if_pos asked]
    refine (clearHits_get s.sieve.hits first n h r).trans (if_congr ?_ rfl rfl)
    simp [asked]
  · rw [if_neg asked, if_neg fun both => asked both.1]

theorem State.hitsCleared_steps (s : State) (first n : Nat) (clear : Prop) [Decidable clear] :
    Steps [.sieve] s (s.hitsCleared first n clear) :=
  Steps.ite (State.setSieve_steps _ (Steps.refl _ s) rfl) (Steps.refl _ s)

/-- A counter group cleared where the flag asks for it. -/
def State.groupCleared (s : State) (g : Nat) (clear : Prop) [Decidable clear] : State := if clear then s.clearGroup g else s

theorem State.groupCleared_steps (s : State) (g : Nat) (clear : Prop) [Decidable clear] :
    Steps [.tx, .govs, .pair, .journal, .inject] s (s.groupCleared g clear) :=
  Steps.ite (State.clearGroup_steps g (Steps.refl _ s) rfl) (Steps.refl _ s)

theorem exec_counters (h : s.offers m 0x0906 inAll (exactFault [upTo 1 5, anyFld 1])) : exec (.counters m) s =
    .next ((s.served.groupCleared (byteAt m.payload 0) (bitsOf (byteAt m.payload 1) 0 1 = 1)).done m 0x0906
      ([BitVec.ofNat 8 (byteAt m.payload 0), 0] ++
        ((s.counterGroup (byteAt m.payload 0)).map fun v => leBytes 4 (min 0xFFFFFFFF v)).flatten)) :=
  congrArg Host.Outcome.next (State.serve_of_offers h)

theorem mem_drop_take {α : Type} {n a k : Nat} {v : Vector α n} {x : α} (h : x ∈ (v.toList.drop a).take k) :
    ∃ i : Fin n, a ≤ i.val ∧ i.val < a + k ∧ v.get i = x := by
  obtain ⟨i, hi, rfl⟩ := List.mem_iff_getElem.1 h
  rw [List.length_take, List.length_drop, Vector.length_toList] at hi
  refine ⟨⟨a + i, by omega⟩, Nat.le_add_right _ _, Nat.add_lt_add_left (by omega) _, ?_⟩
  rw [List.getElem_take, List.getElem_drop]
  rfl

/-- The counts of 128 governors that are cleared read 0. -/
theorem govCounts_zero {v : Vector Gov 256} {a : Nat}
    (h : ∀ k : GovNo, a ≤ k.val → k.val < a + 128 → ∃ g : Gov, v.get k = g.clear) :
    ∀ x ∈ ((v.toList.drop a).take 128).flatMap (fun g : Gov => [g.passes, g.drops, g.replaced, g.deferrals]), x = 0 := by
  intro x hx
  obtain ⟨g, hg, hx⟩ := List.mem_flatMap.1 hx
  obtain ⟨k, low, high, rfl⟩ := mem_drop_take hg
  obtain ⟨g, cleared⟩ := h k low high
  rw [cleared] at hx
  simpa [Gov.clear] using hx

theorem get_map_govs (f : GovNo → Gov) (k : GovNo) : ((Vector.finRange 256).map f).get k = f k := by
  show ((Vector.finRange 256).map f)[k.val] = f k
  rw [Vector.getElem_map, Vector.finRange, Vector.getElem_ofFn]

/-- A latched group reads 0 as it is cleared. -/
theorem State.clearGroup_counterGroup (s : State) (g : Nat) : ∀ v ∈ (s.clearGroup g).counterGroup g, v = 0 := by
  match g with
  | 0 => simp [State.counterGroup, State.clearGroup]
  | 1 => simp [State.counterGroup, State.clearGroup, State.mapPorts]
  | 2 =>
    refine govCounts_zero fun k _ high => ⟨s.gov k, ?_⟩
    exact (get_map_govs _ k).trans (if_pos (by omega))
  | 3 =>
    refine govCounts_zero fun k low _ => ⟨s.gov k, ?_⟩
    exact (get_map_govs _ k).trans (if_neg (by omega))
  | 4 => simp [State.counterGroup, State.clearGroup]
  | g + 5 => simp [State.counterGroup, State.clearGroup]

/-- What a counter group reads is kept by an answer. -/
theorem State.done_counterGroup (s : State) (m : Msg) (code : Nat) (p : List Byte) (g : Nat) :
    (s.done m code p).counterGroup g = s.counterGroup g := by
  unfold State.done State.reply State.setChan
  cases m.ch <;> rfl

end clear

/-! ### TAP-READ (08 R246) -/

section tap
variable {s : State}

theorem State.freeCells_views (s : State) (cells : List Nat) : (s.freeCells cells).sluice.views = s.sluice.views := by
  have cleared : Steps [.mem, .code, .pool, .boxes, .rows] s
      (cells.foldl (fun s c => s.putBytes (cellAt c) [0, 0, 0, 0]) s) :=
    Steps.foldl (Steps.refl _ s) fun _ _ h => State.putBytes_steps _ _ h rfl
  exact (congrArg Sluice.views (cleared.same .sluice) :)

theorem State.release_views (s : State) (id : Nat) : (s.release id).sluice.views = s.sluice.views := by
  unfold State.release
  split
  · rfl
  · split
    · unfold State.dropItem
      split
      · rfl
      · exact State.freeCells_views _ _
    · rfl

theorem State.forget_views (s : State) (v : Fin 52) (id : Nat) : (s.forget v id).sluice.views = s.sluice.views := by
  unfold State.forget
  split <;> rfl

/-- An unlinked item leaves the view's queue, and nothing joins it. -/
theorem State.unlink_queue (s : State) (v : Fin 52) (id : Nat) :
    ((s.unlink v id).view v).queue = (s.view v).queue.filter fun l => decide (l.item ≠ id) := by
  show ((s.unlink v id).sluice.views.get v).queue = _
  rw [State.unlink, State.release_views, State.forget_views]
  show ((upd s.sluice.views v _).get v).queue = _
  rw [upd_get_self]
  rfl

/-- What is read of the head item. -/
def State.tapOne (s : State) (i : Item) : List Byte := s.memBytes (cellAt (i.cells.getD 0 0)) 24 ++ pad4 i.payload

theorem State.tapItems_none {n most : Nat} {out : List Byte} (h : s.tapHead viewHost = none) :
    State.tapItems (n + 1) s most out = (s, if out.length + 4 ≤ most then out ++ [0, 0, 0, 0xFF] else out) := by
  rw [State.tapItems, h]

theorem State.tapItems_some {n most : Nat} {out : List Byte} {i : Item} (h : s.tapHead viewHost = some i) :
    State.tapItems (n + 1) s most out = if most < out.length + (s.tapOne i).length then (s, out)
      else State.tapItems n (s.unlink viewHost i.id) most (out ++ s.tapOne i) := by
  rw [State.tapItems, h]
  rfl

/-- A read goes on behind what it has, and no item joins the queue. -/
theorem State.tapItems_extends (n most : Nat) (s : State) (out : List Byte) :
    (∃ p, (State.tapItems n s most out).2 = out ++ p) ∧
      ∀ l, l ∈ ((State.tapItems n s most out).1.view viewHost).queue → l ∈ (s.view viewHost).queue := by
  induction n generalizing s out with
  | zero => exact ⟨⟨[], (List.append_nil out).symm⟩, fun _ h => h⟩
  | succ n ih =>
    cases head : s.tapHead viewHost with
    | none =>
      rw [State.tapItems_none head]
      refine ⟨?_, fun _ h => h⟩
      dsimp only
      split
      · exact ⟨_, rfl⟩
      · exact ⟨[], (List.append_nil out).symm⟩
    | some i =>
      rw [State.tapItems_some head]
      split
      · exact ⟨⟨[], (List.append_nil out).symm⟩, fun _ h => h⟩
      · obtain ⟨⟨p, more⟩, fewer⟩ := ih (s.unlink viewHost i.id) (out ++ s.tapOne i)
        refine ⟨⟨s.tapOne i ++ p, by rw [more, List.append_assoc]⟩, fun l hl => ?_⟩
        have kept := fewer l hl
        rw [State.unlink_queue] at kept
        exact List.mem_of_mem_filter kept

variable {m : Msg}

/-- A TAP-READ of the state: what it leaves and what it reads. -/
def State.tapped (s : State) (most : Nat) : State × List Byte :=
  State.tapItems ((s.view viewHost).queue.length + 1) s most []

theorem exec_tapRead (h : s.offers m 0x0409 inWork (exactFault [range 2 376 4088])) : exec (.tapRead m) s =
    .next ((s.served.tapped (fieldAt m.payload 0 2)).1.done m 0x0409 (s.served.tapped (fieldAt m.payload 0 2)).2) :=
  congrArg Host.Outcome.next (State.serve_of_offers h)

theorem exec_tapRead_empty (h : s.offers m 0x0409 inWork (exactFault [range 2 376 4088]))
    (hn : s.tapHead viewHost = none) : exec (.tapRead m) s = .next (s.served.done m 0x0409 [0, 0, 0, 0xFF]) := by
  have most : 376 ≤ fieldAt m.payload 0 2 := by
    obtain ⟨good, -⟩ := exactFault_none (State.check_of_offers h)
    obtain ⟨-, -, low, -⟩ := fieldsFault_cons_none good
    exact low
  have head : s.served.tapHead viewHost = none := hn
  rw [exec_tapRead h, State.tapped, State.tapItems_none head, if_pos (by simp; omega)]
  rfl

/-- What a TAP-READ of a view with an item reads first, and that the item has left the view. -/
theorem State.tapped_some {most : Nat} {i : Item} (hi : s.tapHead viewHost = some i)
    (fits : 24 + (pad4 i.payload).length ≤ most) : (∃ p, (s.tapped most).2 = s.tapOne i ++ p) ∧
      ∀ l, l ∈ ((s.tapped most).1.view viewHost).queue → l.item ≠ i.id := by
  have length : (s.tapOne i).length = 24 + (pad4 i.payload).length := by
    rw [State.tapOne, List.length_append, State.memBytes_length]
  have room : ¬most < ([] : List Byte).length + (s.tapOne i).length := by
    rw [length, List.length_nil]
    omega
  rw [State.tapped, State.tapItems_some hi, if_neg room]
  obtain ⟨read, fewer⟩ := State.tapItems_extends (s.view viewHost).queue.length most (s.unlink viewHost i.id) ([] ++ s.tapOne i)
  refine ⟨read, fun l hl => ?_⟩
  have kept := fewer l hl
  rw [State.unlink_queue] at kept
  simpa using List.of_mem_filter kept

end tap

/-- Settles O41: each query by its equation, and the clears by what they leave. -/
theorem queriesReportTheRoadAndClearWhatTheyMay : Obligations.QueriesReportTheRoadAndClearWhatTheyMay := by
  refine ⟨fun s m h => exec_books h, fun s m h hn => ?_, fun s m h => pairStatus_reports h,
    fun s m h => journalStatus_reports h, fun s m h hf hb e => ?_, fun s m r rest h hf hr fits => ?_, fun s m e h hf => ?_,
    fun s m h => exec_events h, fun s m p h hp => ?_, fun s m h => ?_, fun s m h => ?_, fun s m h hn => exec_tapRead_empty h hn,
    fun s m i h hi fits => ?_⟩
  · rw [exec_pairStatus h, hn]
    rfl
  · have still : s.pagesRead m e = s.served := State.checkPages_before (s := s.served) hb e
    have none : s.served.journal.recordsFrom (fieldAt m.payload 0 4) = [] :=
      List.dropWhile_eq_nil_iff.2 fun r hr => decide_eq_true (hb r hr)
    rw [exec_journalRead h hf, still, none]
    rfl
  · have hx := exec_journalRead (e := []) h hf
    have still : s.pagesRead m [] = s.served := State.checkPages_none _ _
    have some : s.served.journal.recordsFrom (fieldAt m.payload 0 4) = r :: rest := hr
    have read : s.served.readAnswer m (fieldAt m.payload 4 2) (r :: rest) =
        s.served.done m 0x0702 (recordsWithin (fieldAt m.payload 4 2) (r :: rest)) := if_neg (Nat.not_lt.2 fits)
    rw [still, some, read] at hx
    obtain ⟨t, hx, replied, only⟩ := query_answered hx
    have whole : recordsWithin (fieldAt m.payload 4 2) (r :: rest) =
        r.bytes ++ recordsWithin (fieldAt m.payload 4 2 - r.bytes.length) rest := if_pos fits
    have bound := recordsWithin_length (fieldAt m.payload 4 2) (r :: rest)
    rw [whole] at replied bound
    exact ⟨t, hx, ⟨_, replied, bound⟩, only⟩
  · have hx := exec_journalRead (e := e) h hf
    obtain ⟨c, p, hc, read⟩ := (s.pagesRead m e).readAnswer_reply m (fieldAt m.payload 4 2)
      ((s.pagesRead m e).journal.recordsFrom (fieldAt m.payload 0 4))
    rw [read] at hx
    refine ⟨_, c, p, hx, hc, fun d => State.reply_chan_replies _ _ _ _ _ _ d, ?_, only_parts_of_exec hx⟩
    exact (State.reply_steps (ps := [.replies]) m.ch 0x0702 c m.tag p (Steps.refl _ _) rfl).same .journal
  · have hx := exec_portStats h hp
    rw [bitsOf_zero_one] at hx
    have cleared := s.served.statsCleared_steps p (byteAt m.payload 1 % 2 = 1)
    have all : Steps [.work, .ports] s (s.served.statsCleared p (byteAt m.payload 1 % 2 = 1)) :=
      (s.served_steps.widen rfl).step cleared rfl
    have port (q : PortNo) := (State.done_keeps (s.served.statsCleared p (byteAt m.payload 1 % 2 = 1)) m 0x0205
      (leBytes 4 (s.port p).stats.sentences ++ leBytes 4 (s.port p).stats.characters ++
          leBytes 4 (s.port p).stats.flawed ++ leBytes 4 (s.port p).stats.checksum ++ s.statsRest p)).port_eq q
    refine ⟨_, hx, ⟨_, State.done_replied (all.replies rfl), rfl, rfl⟩, ?_, fun q hq => ?_,
      (State.done_steps m 0x0205 _ (all.widen rfl) rfl).1⟩
    · rw [port]
      exact s.served.statsCleared_port p _
    · rw [port]
      exact s.served.statsCleared_port_ne _ hq
  · have hx := exec_sieveHits h
    rw [bitsOf_zero_one] at hx
    have span := span_of_sieveHitsFault (State.check_of_offers h)
    have all : Steps [.work, .sieve] s (s.served.hitsCleared (fieldAt m.payload 0 2) (fieldAt m.payload 2 2)
        (byteAt m.payload 4 % 2 = 1)) :=
      (s.served_steps.widen rfl).step (State.hitsCleared_steps _ _ _ _) rfl
    refine ⟨_, hx, State.done_replied (all.replies rfl), fun r => ?_, (State.done_steps m 0x0304 _ (all.widen rfl) rfl).1⟩
    rw [(State.done_keeps _ m 0x0304 _).same .sieve]
    exact s.served.hitsCleared_get _ span r
  · have hx := exec_counters h
    rw [bitsOf_zero_one] at hx
    have replies (c : Chan) := (State.groupCleared_steps s.served (byteAt m.payload 0) (byteAt m.payload 1 % 2 = 1)).replies rfl c
    refine ⟨_, hx, State.done_replied replies, fun asked => ?_, fun kept => ?_, only_parts_of_exec hx⟩
    · rw [State.done_counterGroup, State.groupCleared, if_pos asked]
      exact State.clearGroup_counterGroup _ _
    · rw [State.groupCleared, if_neg (by omega)]
      exact (State.done_steps m 0x0906 _ (s.served_steps.widen rfl) rfl).1
  · have hx := exec_tapRead h
    obtain ⟨⟨p, read⟩, gone⟩ := State.tapped_some (s := s.served) hi fits
    have taken : Steps [.work, .mem, .pool, .tx, .sluice] s (s.served.tapped (fieldAt m.payload 0 2)).1 :=
      State.tapItems_steps _ _ _ (s.served_steps.widen rfl) rfl
    rw [read] at hx
    refine ⟨_, hx, ⟨p, State.done_replied (taken.replies rfl)⟩, ?_, only_parts_of_exec hx⟩
    rw [show State.view (State.done _ m 0x0409 _) viewHost = State.view _ viewHost from
      congrArg (fun l : Sluice => l.views.get viewHost) ((State.done_keeps _ m 0x0409 _).same .sluice)]
    exact gone

end Sys2Proof.Machine
end

section
/-!
PROOFS. The Sieve and Weir commands and HOST-INJECT (08 R241-R243, R247; 12 R362-R364, R378).
-/
set_option Elab.async false
namespace Sys2Proof.Machine

/-! ### The fabric memory outside the cell pool -/

/-- Beyond the 1 MiB space nothing is listed. -/
theorem Memory.read_beyond {m : List Host.Cell} {a : Nat} (h : Memory.wf m = true) (ha : 0x100000 ≤ a) :
    Memory.read m a = 0 := by
  induction m with
  | nil => rfl
  | cons c r ih =>
    obtain ⟨k, b⟩ := c
    obtain ⟨_, hk, _, hw⟩ := Memory.wf_cons.1 h
    rw [Memory.read, if_neg (by omega), ih hw]

/-- What touches neither the mailboxes nor the tables leaves every byte above the cell pool. -/
theorem Steps.read_upper {ps : List Part} {s t : State} (h : Steps ps s t) (hs : MemCanonical s) {a : Nat}
    (ha : 0xC0000 ≤ a) (hb : ps.contains .boxes = false := by rfl) (hr : ps.contains .rows = false := by rfl) :
    Memory.read t.mem a = Memory.read s.mem a := by
  by_cases low : a < 0xF0000
  · exact h.same .boxes hb a ha low
  · by_cases inside : a < 0x100000
    · exact h.same .rows hr a (by omega) inside
    · rw [Memory.read_beyond hs (by omega), Memory.read_beyond (h.2 hs) (by omega)]

/-- Each byte of a run that was stored. -/
theorem State.read_putBytes_getD {s : State} {a k : Nat} {bs : List Byte} (hs : MemCanonical s)
    (ha : a + bs.length ≤ 0x100000) (hk : k < bs.length) :
    Memory.read (s.putBytes a bs).mem (a + k) = bs.getD k 0 := by
  rw [State.putBytes_mem ha, Memory.read_writeList_getElem hs ha hk, List.getD_eq_getElem _ _ hk]

/-- Each byte of a run that is read. -/
theorem State.memBytes_getD {s : State} {a n k : Nat} (hs : MemCanonical s) (hk : k < n) :
    (s.memBytes a n).getD k 0 = Memory.read s.mem (a + k) := by
  rw [State.memBytes, Memory.slice_eq hs]
  simp [hk]

/-! ### The rows of a payload (08 R241-R243) -/

theorem bytesAt_length {bs : List Byte} {o n : Nat} (h : o + n ≤ bs.length) : (bytesAt bs o n).length = n := by
  rw [bytesAt, List.length_take, List.length_drop]
  omega

theorem bytesAt_getD {bs : List Byte} {o n k : Nat} (h : k < n) : (bytesAt bs o n).getD k 0 = bs.getD (o + k) 0 := by
  simp [bytesAt, List.getD, h]

theorem spanFault_none {bs : List Byte} {o rows : Nat} (h : spanFault bs o rows = none) :
    fieldAt bs o 2 < rows ∧ fieldAt bs o 2 + fieldAt bs (o + 2) 2 ≤ rows := by
  unfold spanFault at h
  split at h
  · cases h
  · split at h
    · cases h
    · omega

theorem rowsCommandFault_none {rows size least : Nat} {f : Nat → Nat → List Byte → Option Nat} {bs : List Byte}
    (h : rowsCommandFault rows size least f bs = none) :
    fieldAt bs 0 2 < rows ∧ fieldAt bs 0 2 + fieldAt bs 2 2 ≤ rows ∧ bs.length = 4 + size * fieldAt bs 2 2 := by
  unfold rowsCommandFault at h
  split at h
  · cases h
  · split at h
    · cases h
    · next span =>
      split at h
      · cases h
      · next whole =>
        obtain ⟨first, last⟩ := spanFault_none span
        exact ⟨first, last, by omega⟩

/-- The rows one after another are the payload from offset 4 on. -/
theorem flatten_rows (bs : List Byte) (n : Nat) :
    ((List.range n).map fun i => bytesAt bs (4 + 16 * i) 16).flatten = bytesAt bs 4 (16 * n) := by
  induction n with
  | zero => simp [bytesAt]
  | succ n ih =>
    rw [List.range_succ, List.map_append, List.flatten_append, ih]
    simp only [bytesAt, List.map_cons, List.map_nil, List.flatten_cons, List.flatten_nil, List.append_nil]
    rw [Nat.mul_succ, List.take_add, List.drop_drop]

theorem payloadRows_flatten (bs : List Byte) : (payloadRows bs).flatten = bytesAt bs 4 (16 * fieldAt bs 2 2) :=
  flatten_rows bs _

theorem payloadRows_length (bs : List Byte) : (payloadRows bs).length = fieldAt bs 2 2 := by
  simp [payloadRows]

/-! ### SIEVE-LOAD (12 R362) -/

section sieveLoad
variable {s : State} {m : Msg}

/-- The rows of SIEVE-LOAD stand in the shadow bank. -/
def State.shadowLoaded (s : State) (m : Msg) : State :=
  s.served.putBytes (sieveRowAt (shadowB s) (fieldAt m.payload 0 2)) (bytesAt m.payload 4 (16 * fieldAt m.payload 2 2))

theorem exec_sieveLoad (h : s.offers m 0x0301 inAll sieveLoadFault) (hc : s.sieve.copying = false)
    (hl : ∀ i, i < fieldAt m.payload 2 2 → s.lockedAt (sieveRowAt (shadowB s) (fieldAt m.payload 0 2 + i)) = false) :
    exec (.sieveLoad m) s = .next ((s.shadowLoaded m).done m 0x0301 []) := by
  obtain ⟨first, last, whole⟩ := rowsCommandFault_none (State.check_of_offers h)
  have free : ((List.range (payloadRows m.payload).length).any fun i =>
      s.served.lockedAt (sieveRowAt (shadowB s.served) (fieldAt m.payload 0 2 + i))) = false := by
    rw [payloadRows_length, List.any_eq_false]
    intro i hi
    have open_ : s.served.lockedAt (sieveRowAt (shadowB s.served) (fieldAt m.payload 0 2 + i)) = false :=
      hl i (List.mem_range.1 hi)
    simp [open_]
  have rows : (payloadRows m.payload).flatten.take 8192 = bytesAt m.payload 4 (16 * fieldAt m.payload 2 2) := by
    rw [payloadRows_flatten, List.take_of_length_le (by rw [bytesAt_length (by omega)]; omega)]
  refine (congrArg Host.Outcome.next (State.serve_of_offers h)).trans (congrArg Host.Outcome.next ?_)
  rw [State.sieveRun, if_neg (by simp [show s.served.sieve.copying = false from hc]), if_neg Bool.false_ne_true,
    State.sieveLoad]
  simp only [free, Bool.false_eq_true, if_false, rows, Nat.mod_eq_of_lt first]
  rfl

theorem sieveRowAt_range (b : Bool) {first n : Nat} (h : first + n ≤ 512) :
    0xF1000 ≤ sieveRowAt b first ∧ sieveRowAt b first + 16 * n ≤ 0xF5000 := by
  cases b <;> simp [sieveRowAt] <;> omega

theorem State.shadowLoaded_steps (hn : fieldAt m.payload 0 2 + fieldAt m.payload 2 2 ≤ 512)
    (hw : m.payload.length = 4 + 16 * fieldAt m.payload 2 2) : Steps [.mem, .rows, .work] s (s.shadowLoaded m) := by
  have range := sieveRowAt_range (shadowB s) hn
  refine State.putBytes_in_steps (r := .rows) ?_ (s.served_steps.widen rfl) rfl
  rw [bytesAt_length (by omega)]
  exact ⟨by omega, by omega⟩

end sieveLoad

/-! ### Decisions (08 R242, R247; 12 R355-R361) -/

/-- An item's hit is all that its decision does to the Sieve. -/
theorem State.decideItem_sieve (s : State) (id : Nat) (given : Option Word) :
    (s.decideItem id given).1.sieve = s.sieve ∨ ∃ n, (s.decideItem id given).1.sieve = (s.countHit n).sieve := by
  have kept {u v : State} (h : Steps [.mem, .pool, .tx, .govs, .sluice, .pair, .inject] u v) : v.sieve = u.sieve :=
    h.same .sieve
  unfold State.decideItem
  split
  · exact .inl rfl
  · next i hi =>
    refine .inr ⟨s.ruleFor i, ?_⟩
    have held {j : Item} {u : State} (h : Steps [.mem, .pool, .tx, .govs, .sluice, .pair, .inject] (s.countHit (s.ruleFor i)) u) :
        Steps [.mem, .pool, .tx, .govs, .sluice, .pair, .inject] (s.countHit (s.ruleFor i))
          ((u.updItem id fun _ => j).memberHeld j).2 :=
      State.memberHeld_steps _ (State.updItem_steps _ _ h rfl) rfl
    dsimp only
    split
    · exact kept (State.dropItem_steps _ (Steps.refl _ _) rfl)
    · split
      · exact kept (State.govern_steps _ _ _ _ _ _ (held (Steps.refl _ _)) rfl)
      · exact kept (State.commit_steps _ _ _ _ _ _ (held (Steps.refl _ _)) rfl)

theorem State.decideItem_bankB (s : State) (id : Nat) (given : Option Word) :
    (s.decideItem id given).1.sieve.bankB = s.sieve.bankB := by
  rcases s.decideItem_sieve id given with same | ⟨n, hit⟩
  · rw [same]
  · rw [hit]
    rfl

theorem State.decideEnded_bankB (s : State) : s.decideEnded.sieve.bankB = s.sieve.bankB := by
  have walk (l : List Item) (u : State) :
      (l.foldl (fun s i => (s.decideItem i.id none).1) u).sieve.bankB = u.sieve.bankB := by
    induction l generalizing u with
    | nil => rfl
    | cons i l ih => exact (ih _).trans (u.decideItem_bankB i.id none)
  unfold State.decideEnded
  split
  · exact walk _ s
  · rfl

theorem State.decideEnded_of_none {s : State} (h : ∀ i, i ∈ s.sluice.items → i.place ≠ .ended) : s.decideEnded = s := by
  have none : (s.sluice.items.filter fun i => decide (i.place = .ended)) = [] :=
    List.filter_eq_nil_iff.2 fun i hi => by simp [h i hi]
  unfold State.decideEnded
  rw [none]
  exact ite_self s

theorem State.firstRule_lt (s : State) (i : Item) (k n : Nat) (h : k + n ≤ 511) : s.firstRule i k n < 512 := by
  induction k generalizing n with
  | zero => exact Nat.lt_succ_self 511
  | succ k ih =>
    unfold State.firstRule
    split
    · omega
    · exact ih (n + 1) (by omega)

theorem outcomeOf_le {linked : Bool} {n : Nat} (h : n ≤ 4) : outcomeOf linked n ≤ 4 := by
  cases linked
  · exact h
  · exact Nat.zero_le 4

theorem State.enqueue_outcome (s : State) (g : GovNo) (i : Item) (mask : BitVec 51) (engine : Bool) (given : Option Word) :
    (s.enqueue g i mask engine given).2 ≤ 4 := by
  unfold State.enqueue
  split
  · exact (by decide : ocWeir ≤ 4)
  · exact (by decide : ocDeferred ≤ 4)

theorem State.govern_outcome (s : State) (g : GovNo) (i : Item) (mask held : BitVec 51) (engine : Bool)
    (given : Option Word) : (s.govern g i mask held engine given).2 ≤ 4 := by
  have weir (c : Prop) [Decidable c] : (if c then ocCommitted else ocWeir) ≤ 4 := by split <;> decide
  unfold State.govern
  dsimp only
  split
  · exact outcomeOf_le (weir _)
  · split
    · exact outcomeOf_le (by decide)
    · split
      · exact outcomeOf_le (by decide)
      · split
        · exact State.enqueue_outcome ..
        · split
          · exact outcomeOf_le (by decide)
          · split
            · exact State.enqueue_outcome ..
            · split
              · split
                · split
                  · exact (by decide : ocReplaced ≤ 4)
                  · exact outcomeOf_le (by decide)
                · exact outcomeOf_le (by decide)
              · exact outcomeOf_le (by decide)
            · exact outcomeOf_le (by decide)

/-- What a decision reports: a rule of the bank, and an outcome of the table. -/
theorem State.decideItem_reports (s : State) (id : Nat) (given : Option Word) :
    (s.decideItem id given).2.1 < 512 ∧ (s.decideItem id given).2.2 ≤ 4 := by
  unfold State.decideItem
  split
  · exact ⟨Nat.zero_lt_succ 511, (by decide : ocSieve ≤ 4)⟩
  · next i hi =>
    have rule : s.ruleFor i < 512 := s.firstRule_lt i 511 0 (by decide)
    dsimp only
    split
    · exact ⟨rule, (by decide : ocSieve ≤ 4)⟩
    · split
      · exact ⟨rule, State.govern_outcome ..⟩
      · refine ⟨rule, outcomeOf_le ?_⟩
        split <;> decide

/-! ### SIEVE-COMMIT (08 R242, 12 R363) -/

section sieveCommit
variable {s : State} {m : Msg}

/-- The banks have changed places and the copy runs; the answer to the message waits for its end. -/
def State.swapped (s : State) (m : Msg) : State :=
  s.served.decideEnded.setSieve fun v => { v with
    bankB := !v.bankB, hits := Vector.replicate 512 0, copying := true
    answer := some { ch := m.ch, code := 0x0302, tag := m.tag, payload := m.payload, malformed := false,
                     stamp := s.now, doubt := s.doubtNow } }

theorem exec_sieveCommit (h : s.offers m 0x0302 inAll (exactFault [anyFld 4])) (hc : s.sieve.copying = false)
    (hl : ∀ k : Fin 4, s.lockedAt (0xF1000 + 0x1000 * k.val) = false)
    (hcrc : fieldAt m.payload 0 4 = 0 ∨
      fieldAt m.payload 0 4 = (crc32 (s.memBytes (sieveRowAt (shadowB s) 0) 8192)).toNat) :
    exec (.sieveCommit m) s = .next (s.swapped m) := by
  have free : [0xF1000, 0xF2000, 0xF3000, 0xF4000].any s.served.lockedAt = false := by
    have k0 : s.served.lockedAt 0xF1000 = false := hl 0
    have k1 : s.served.lockedAt 0xF2000 = false := hl 1
    have k2 : s.served.lockedAt 0xF3000 = false := hl 2
    have k3 : s.served.lockedAt 0xF4000 = false := hl 3
    simp [k0, k1, k2, k3]
  refine (congrArg Host.Outcome.next (State.serve_of_offers h)).trans (congrArg Host.Outcome.next ?_)
  rw [State.sieveRun, if_neg (by simp [show s.served.sieve.copying = false from hc]), if_pos rfl, State.sieveCommit,
    free, if_neg Bool.false_ne_true, if_neg]
  · rfl
  · rintro ⟨some_, other⟩
    exact hcrc.elim some_ other

theorem State.swapped_bankB : (s.swapped m).sieve.bankB = !s.sieve.bankB :=
  congrArg not s.served.decideEnded_bankB

theorem State.swapped_keeps : Steps [.mem, .pool, .tx, .sieve, .govs, .sluice, .pair, .inject, .work] s (s.swapped m) :=
  State.setSieve_steps _ (State.decideEnded_steps (s.served_steps.widen rfl) rfl) rfl

/-- Where no item has ended, only the Sieve and the list of messages change. -/
theorem State.swapped_quiet (h : ∀ i, i ∈ s.sluice.items → i.place ≠ .ended) : Steps [.work, .sieve] s (s.swapped m) := by
  rw [State.swapped, State.decideEnded_of_none (s := s.served) h]
  exact State.setSieve_steps _ (s.served_steps.widen rfl) rfl

end sieveCommit

/-! ### The end of the copy (12 R363) -/

section copyDone
variable {s : State}

/-- The active bank's bytes. -/
def State.activeBank (s : State) : List Byte := s.memBytes (sieveRowAt s.sieve.bankB 0) 8192

/-- The shadow bank equals the active one, and the copy has ended. -/
def State.copied (s : State) : State :=
  (s.putBytes (sieveRowAt (shadowB s) 0) s.activeBank).setSieve fun v => { v with
    copying := false, activeCrc := crc32 s.activeBank }

theorem State.copied_reads {a : Nat} (h : a < sieveRowAt (shadowB s) 0 ∨ sieveRowAt (shadowB s) 0 + 8192 ≤ a) :
    Memory.read s.copied.mem a = Memory.read s.mem a := by
  have range := sieveRowAt_range (first := 0) (n := 512) (shadowB s) (by decide)
  have len : s.activeBank.length = 8192 := State.memBytes_length ..
  exact State.read_putBytes_of_outside (by omega) (by omega)

theorem State.copied_equal (hs : MemCanonical s) {k : Nat} (hk : k < 8192) :
    Memory.read s.copied.mem (sieveRowAt (shadowB s) 0 + k) = Memory.read s.copied.mem (sieveRowAt s.sieve.bankB 0 + k) := by
  have range := sieveRowAt_range (first := 0) (n := 512) (shadowB s) (by decide)
  have len : s.activeBank.length = 8192 := State.memBytes_length ..
  have apart : sieveRowAt s.sieve.bankB 0 + k < sieveRowAt (shadowB s) 0 ∨
      sieveRowAt (shadowB s) 0 + 8192 ≤ sieveRowAt s.sieve.bankB 0 + k := by
    unfold shadowB
    cases s.sieve.bankB
    · exact .inl (by simp [sieveRowAt]; omega)
    · exact .inr (by simp [sieveRowAt])
  rw [State.copied_reads apart, ← State.memBytes_getD hs hk]
  exact State.read_putBytes_getD hs (by omega) (by omega)

theorem State.copied_stored : Steps [.mem, .rows] s (s.putBytes (sieveRowAt (shadowB s) 0) s.activeBank) := by
  have range := sieveRowAt_range (first := 0) (n := 512) (shadowB s) (by decide)
  refine State.putBytes_in_steps (r := .rows) ?_ (Steps.refl _ s) rfl
  rw [State.activeBank, State.memBytes_length]
  exact ⟨by omega, by omega⟩

theorem State.copied_sieve : s.copied.sieve = { s.sieve with copying := false, activeCrc := crc32 s.activeBank } :=
  congrArg (fun v : Sieve => { v with copying := false, activeCrc := crc32 s.activeBank })
    (s.copied_stored.same .sieve : _ = s.sieve)

theorem State.copied_steps : Steps [.mem, .rows, .sieve] s s.copied :=
  State.setSieve_steps _ (s.copied_stored.widen rfl) rfl

/-- The copy ends without a message to answer. -/
theorem exec_sieveCopyDone_none (ha : s.alive = true) (hc : s.sieve.copying = true) (hn : s.sieve.answer = none)
    (hw : s.sieve.waiting = []) : exec .sieveCopyDone s =
      .next (s.copied.setSieve fun v => { v with waiting := [] }).answerMalformed := by
  have answer : s.copied.sieve.answer = none := by rw [State.copied_sieve]; exact hn
  have waiting : s.copied.sieve.waiting = [] := by rw [State.copied_sieve]; exact hw
  show execSieveCopyDone s = _
  unfold execSieveCopyDone
  rw [ha, hc, if_neg (by decide)]
  dsimp only
  split
  · next a some_ => exact nomatch answer.symm.trans some_
  · exact congrArg Host.Outcome.next (congrArg State.answerMalformed (congrArg (List.foldl State.sieveRun _) waiting))

/-- The commit counts as a configuration change of the channel that asked for it. -/
def State.copyCounted (s : State) (a : Taken) : State :=
  (s.copied.setSieve fun v => { v with answer := none }).configChange a.ch 0x0302

/-- The message that asked for the commit is answered with the digest of what is then in force. -/
def State.copyAnswered (s : State) (a : Taken) : State :=
  (s.copyCounted a).reply a.ch 0x0302 0 a.tag (leBytes 4 (s.copyCounted a).settings.digest.toNat)

variable {a : Taken}

theorem State.copyCounted_steps : Steps [.mem, .rows, .sieve, .changes, .journal] s (s.copyCounted a) :=
  State.configChange_steps _ _ (State.setSieve_steps _ (s.copied_steps.widen rfl) rfl) rfl

theorem State.copyAnswered_steps : Steps [.replies] (s.copyCounted a) (s.copyAnswered a) :=
  State.reply_steps _ _ _ _ _ (Steps.refl _ _) rfl

theorem exec_sieveCopyDone_some (ha : s.alive = true) (hc : s.sieve.copying = true) (hn : s.sieve.answer = some a)
    (hw : s.sieve.waiting = []) (hf : (s.engine.taken.head?.all fun x => !x.malformed) = true) :
    exec .sieveCopyDone s = .next ((s.copyAnswered a).setSieve fun v => { v with waiting := [] }) := by
  have answer : s.copied.sieve.answer = some a := by rw [State.copied_sieve]; exact hn
  have counted : (s.copyAnswered a).sieve = { s.copied.sieve with answer := none } :=
    (State.copyAnswered_steps.same .sieve).trans
      ((State.configChange_steps (ps := [.changes, .journal]) a.ch 0x0302 (Steps.refl _ _) rfl).same .sieve)
  have waiting : (s.copyAnswered a).sieve.waiting = [] := by rw [counted, State.copied_sieve]; exact hw
  have taken : (s.copyAnswered a).engine.taken = s.engine.taken :=
    (State.copyAnswered_steps.same .work).1.trans (s.copyCounted_steps.same .work).1
  have quiet : ((s.copyAnswered a).setSieve fun v => { v with waiting := [] }).answerMalformed =
      (s.copyAnswered a).setSieve fun v => { v with waiting := [] } :=
    State.answerMalformed_of_wellFormed ((congrArg (fun l => l.head?.all fun x : Taken => !x.malformed) taken).trans hf)
  rw [← quiet]
  show execSieveCopyDone s = _
  unfold execSieveCopyDone
  rw [ha, hc, if_neg (by decide)]
  dsimp only
  split
  · next b some_ =>
    cases Option.some.inj (answer.symm.trans some_)
    exact congrArg Host.Outcome.next (congrArg State.answerMalformed (congrArg (List.foldl State.sieveRun _) waiting))
  · next none_ => exact nomatch answer.symm.trans none_

/-- What the answered end of a copy leaves. -/
def State.copyClosed (s : State) (a : Taken) : State := (s.copyAnswered a).setSieve fun v => { v with waiting := [] }

theorem State.copyClosed_steps : Steps [.replies, .sieve] (s.copyCounted a) (s.copyClosed a) :=
  State.setSieve_steps _ (State.copyAnswered_steps.widen rfl) rfl

theorem State.copyClosed_bankB : (s.copyClosed a).sieve.bankB = (s.copyCounted a).sieve.bankB :=
  (congrArg Sieve.bankB (State.copyAnswered_steps (s := s) (a := a) |>.same .sieve) :)

theorem State.copyClosed_digest : (s.copyClosed a).settings.digest = (s.copyCounted a).settings.digest := by
  obtain ⟨_, _, digest⟩ := s.copyClosed_steps (a := a) |>.same .changes
  exact digest

theorem State.copyClosed_counted (hu : s.engine.up = true) : Counted s (s.copyClosed a) := by
  have stored : Steps [.mem, .rows, .sieve] s (s.copied.setSieve fun v => { v with answer := none }) :=
    State.setSieve_steps _ s.copied_steps rfl
  obtain ⟨_, stamped, _⟩ := s.copyClosed_steps (a := a) |>.same .changes
  refine ⟨?_, ?_, ?_⟩
  · rw [s.copyClosed_steps.changes, State.copyCounted, State.configChange_changes, stored.changes]
  · rw [stamped, State.copyCounted, State.configChange_lastChange, stored.now]
  · rw [s.copyClosed_digest, State.copyCounted, State.configChange_digest (stored.up.trans hu)]
    exact congrArg crc32 (State.digestBytes_congr (s.copyClosed_steps.same .mem) s.copyClosed_bankB
      (s.copyClosed_steps.same .settings)).symm

theorem State.copyClosed_replied : Replied s (s.copyClosed a) { ch := a.ch, tag := a.tag, payload := [] } 0x0302 0
    (leBytes 4 (s.copyClosed a).settings.digest.toNat) := fun c => by
  rw [s.copyClosed_digest]
  show ((s.copyAnswered a).chan c).replies = _
  rw [State.copyAnswered, State.reply_chan_replies, s.copyCounted_steps.replies rfl c]

theorem State.copyClosed_copying : (s.copyClosed a).sieve.copying = false := by
  have counted : (s.copyAnswered a).sieve = { s.copied.sieve with answer := none } :=
    (State.copyAnswered_steps.same .sieve).trans
      ((State.configChange_steps (ps := [.changes, .journal]) a.ch 0x0302 (Steps.refl _ _) rfl).same .sieve)
  show (s.copyAnswered a).sieve.copying = false
  rw [counted]
  rfl

end copyDone

/-! ### WEIR-SET (08 R243, 12 R367, R378) -/

section weir
variable {s : State} {g : GovNo} {row : List Byte}

/-- A governor row takes its 16 bytes but the token field. -/
def State.putWeirRow (s : State) (g : GovNo) (row : List Byte) : State :=
  (s.putBytes (weirRowAt g.val) (row.take 6)).putBytes (weirRowAt g.val + 8) ((row.drop 8).take 8)

/-- The tokens of a governor are cut to the burst of its row. -/
def State.cutTokens (s : State) (g : GovNo) : State :=
  s.updGov g fun v => { v with tokens := min v.tokens (s.weirRow g).full }

theorem State.weirWrite_eq (s : State) (g : GovNo) (row : List Byte) :
    s.weirWrite g row = ((s.putWeirRow g row).cutTokens g).releaseIfDue g := rfl

theorem weirRowAt_range (g : GovNo) : 0xF5000 ≤ weirRowAt g.val ∧ weirRowAt g.val + 16 ≤ 0xF6000 := by
  have := g.isLt
  unfold weirRowAt
  omega

theorem State.putWeirRow_canonical (hs : MemCanonical s) : MemCanonical (s.putWeirRow g row) :=
  State.wf_putBytes (State.wf_putBytes hs)

theorem State.read_putWeirRow_of_outside {a : Nat}
    (h : ∀ k, k < 16 → k ≠ 6 → k ≠ 7 → a ≠ weirRowAt g.val + k) :
    Memory.read (s.putWeirRow g row).mem a = Memory.read s.mem a := by
  have range := weirRowAt_range g
  have low : (row.take 6).length ≤ 6 := List.length_take_le ..
  have high : ((row.drop 8).take 8).length ≤ 8 := List.length_take_le ..
  have apart : (a < weirRowAt g.val ∨ weirRowAt g.val + 6 ≤ a) ∧
      (a < weirRowAt g.val + 8 ∨ weirRowAt g.val + 16 ≤ a) := by
    by_contra inside
    have far : weirRowAt g.val ≤ a ∧ a < weirRowAt g.val + 16 ∧ a ≠ weirRowAt g.val + 6 ∧ a ≠ weirRowAt g.val + 7 := by omega
    exact h (a - weirRowAt g.val) (by omega) (by omega) (by omega) (by omega)
  obtain ⟨first, last⟩ := apart
  rw [State.putWeirRow, State.read_putBytes_of_outside (by omega) (by omega),
    State.read_putBytes_of_outside (by omega) (by omega)]

theorem State.read_putWeirRow (hs : MemCanonical s) (hr : row.length = 16) {k : Nat} (hk : k < 16) (h6 : k ≠ 6)
    (h7 : k ≠ 7) : Memory.read (s.putWeirRow g row).mem (weirRowAt g.val + k) = row.getD k 0 := by
  have range := weirRowAt_range g
  have low : (row.take 6).length = 6 := by simp [hr]
  have high : ((row.drop 8).take 8).length = 8 := by simp [hr]
  rw [State.putWeirRow]
  by_cases first : k < 6
  · rw [State.read_putBytes_of_outside (by omega) (by omega), State.read_putBytes_getD hs (by omega) (by omega)]
    simp [List.getD, first]
  · obtain ⟨j, rfl⟩ : ∃ j, k = 8 + j := ⟨k - 8, by omega⟩
    rw [← Nat.add_assoc, State.read_putBytes_getD (State.wf_putBytes hs) (by omega) (by omega)]
    simp [List.getD, show j < 8 by omega]

/-- The release of a queue changes neither the tables nor a governor. -/
theorem State.releaseIfDue_keeps (s : State) (g : GovNo) :
    Steps [.mem, .pool, .tx, .sluice, .pair, .inject] s (s.releaseIfDue g) :=
  State.releaseIfDue_steps g (Steps.refl _ s) rfl

theorem State.read_weirWrite {a : Nat} (hs : MemCanonical s) (ha : 0xC0000 ≤ a) :
    Memory.read (s.weirWrite g row).mem a = Memory.read (s.putWeirRow g row).mem a :=
  (((s.putWeirRow g row).cutTokens g).releaseIfDue_keeps g).read_upper (State.putWeirRow_canonical (s := s) hs) ha

theorem State.weirWrite_canonical (hs : MemCanonical s) : MemCanonical (s.weirWrite g row) :=
  (State.releaseIfDue_keeps _ g).2 (State.putWeirRow_canonical hs)

/-- A governor row is the same where its bytes are. -/
theorem State.weirRow_congr {t : State} (hs : MemCanonical s) (ht : MemCanonical t)
    (h : ∀ k, k < 16 → Memory.read t.mem (weirRowAt g.val + k) = Memory.read s.mem (weirRowAt g.val + k)) :
    t.weirRow g = s.weirRow g := by
  unfold State.weirRow State.memBytes
  rw [Memory.slice_eq ht, Memory.slice_eq hs]
  exact congrArg weirOf (List.map_congr_left fun k hk => h k (List.mem_range.1 hk))

theorem State.weirWrite_govs : (s.weirWrite g row).govs =
    upd s.govs g fun v => { v with tokens := min v.tokens ((s.putWeirRow g row).weirRow g).full } := by
  have stored : Steps [.mem, .code, .pool, .boxes, .rows] s (s.putWeirRow g row) :=
    State.putBytes_steps _ _ (State.putBytes_steps _ _ (Steps.refl _ s) rfl) rfl
  rw [State.weirWrite_eq, show (State.releaseIfDue _ g).govs = _ from (State.releaseIfDue_keeps _ g).same .govs,
    State.cutTokens, State.updGov_govs, show (s.putWeirRow g row).govs = s.govs from stored.same .govs]

/-- What WEIR-SET shows of a governor: the bytes of its row, and its tokens. -/
def State.weirSeen (s : State) (g : GovNo) : (Fin 16 → Byte) × Nat :=
  (fun k => Memory.read s.mem (weirRowAt g.val + k.val), (s.gov g).tokens)

theorem State.weirSeen_ne (hs : MemCanonical s) {h : GovNo} (ne : h ≠ g) :
    (s.weirWrite g row).weirSeen h = s.weirSeen h := by
  have apart : g.val ≠ h.val := fun e => ne (Fin.ext e.symm)
  refine Prod.ext (funext fun k => ?_) ?_
  · have range := weirRowAt_range h
    refine (State.read_weirWrite hs (by omega)).trans (State.read_putWeirRow_of_outside fun j hj _ _ => ?_)
    have := k.isLt
    unfold weirRowAt
    omega
  · show ((s.weirWrite g row).govs.get h).tokens = (s.govs.get h).tokens
    rw [State.weirWrite_govs, upd_get_ne _ _ ne]

theorem State.weirSeen_same (hs : MemCanonical s) (hr : row.length = 16) :
    (∀ k : Fin 16, k.val ≠ 6 → k.val ≠ 7 → ((s.weirWrite g row).weirSeen g).1 k = row.getD k.val 0) ∧
    ((s.weirWrite g row).weirSeen g).2 = min (s.weirSeen g).2 ((s.weirWrite g row).weirRow g).full := by
  have range := weirRowAt_range g
  have rows : (s.weirWrite g row).weirRow g = (s.putWeirRow g row).weirRow g :=
    State.weirRow_congr (State.putWeirRow_canonical hs) (State.weirWrite_canonical hs) fun k _ =>
      State.read_weirWrite hs (by omega)
  refine ⟨fun k h6 h7 => (State.read_weirWrite hs (by omega)).trans (State.read_putWeirRow hs hr k.isLt h6 h7), ?_⟩
  show ((s.weirWrite g row).govs.get g).tokens = _
  rw [State.weirWrite_govs, upd_get_self, rows]
  rfl

/-- The row that a payload carries for a governor. -/
def rowFor (bs : List Byte) (g : GovNo) : List Byte := bytesAt bs (4 + 16 * (g.val - fieldAt bs 0 2)) 16

/-- The governors that a payload writes. -/
def govsOf (bs : List Byte) : List GovNo :=
  (List.range (fieldAt bs 2 2)).map fun i => Fin.ofNat 256 (fieldAt bs 0 2 + i)

/-- The rows of WEIR-SET are written. -/
def State.weirSet (s : State) (bs : List Byte) : State :=
  (govsOf bs).foldl (fun s g => s.weirWrite g (rowFor bs g)) s

variable {bs : List Byte} (hn : fieldAt bs 0 2 + fieldAt bs 2 2 ≤ 256)
include hn

theorem mem_govsOf : g ∈ govsOf bs ↔ fieldAt bs 0 2 ≤ g.val ∧ g.val < fieldAt bs 0 2 + fieldAt bs 2 2 := by
  simp only [govsOf, List.mem_map, List.mem_range, Fin.ext_iff, Fin.val_ofNat]
  constructor
  · rintro ⟨i, hi, e⟩
    omega
  · rintro ⟨low, high⟩
    exact ⟨g.val - fieldAt bs 0 2, by omega, by omega⟩

theorem govsOf_nodup : (govsOf bs).Nodup := by
  refine List.Nodup.map_on ?_ List.nodup_range
  intro i hi j hj e
  have vals : (fieldAt bs 0 2 + i) % 256 = (fieldAt bs 0 2 + j) % 256 := congrArg Fin.val e
  have := List.mem_range.1 hi
  have := List.mem_range.1 hj
  omega

theorem rows_of_payload : (payloadRows bs).zipIdx.map (fun x => ((Fin.ofNat 256 (fieldAt bs 0 2 + x.2) : GovNo), x.1)) =
    (govsOf bs).map fun g => (g, rowFor bs g) := by
  refine List.ext_getElem (by simp [payloadRows, govsOf]) fun i hi hj => ?_
  have inside : i < fieldAt bs 2 2 := by simpa [payloadRows] using hi
  simp [payloadRows, govsOf, rowFor, Nat.mod_eq_of_lt (show fieldAt bs 0 2 + i < 256 by omega)]

theorem State.weirSet_eq (s : State) : (payloadRows bs).zipIdx.foldl
    (fun s x => s.weirWrite (Fin.ofNat 256 (fieldAt bs 0 2 + x.2)) x.1) s = s.weirSet bs := by
  have walk := congrArg (List.foldl (fun (s : State) (x : GovNo × List Byte) => s.weirWrite x.1 x.2) s) (rows_of_payload hn)
  rwa [List.foldl_map, List.foldl_map] at walk

theorem State.weirSet_seen (hs : MemCanonical s) (hg : g ∈ govsOf bs) : ∃ t : State, MemCanonical t ∧
    t.weirSeen g = s.weirSeen g ∧ (s.weirSet bs).weirSeen g = (t.weirWrite g (rowFor bs g)).weirSeen g :=
  foldl_key_of_mem (key := State.weirSeen) (fun _ _ canonical => State.weirWrite_canonical canonical)
    (fun _ _ _ canonical ne => State.weirSeen_ne canonical ne) hs (govsOf_nodup hn) hg

omit hn

theorem State.weirSet_canonical (hs : MemCanonical s) : MemCanonical (s.weirSet bs) :=
  List.foldlRecOn _ _ hs fun _ canonical _ _ => State.weirWrite_canonical canonical

theorem State.weirSet_steps (s : State) (bs : List Byte) :
    Steps [.mem, .pool, .rows, .tx, .govs, .sluice, .pair, .inject] s (s.weirSet bs) :=
  Steps.foldl (Steps.refl _ s) fun _ _ h => State.weirWrite_steps _ _ h rfl

/-- Outside the bytes of the rows written, and the cell pool, the memory stays. -/
theorem State.read_weirSet {a : Nat} (hs : MemCanonical s) (ha : 0xC0000 ≤ a)
    (h : ∀ g ∈ govsOf bs, ∀ k, k < 16 → k ≠ 6 → k ≠ 7 → a ≠ weirRowAt g.val + k) :
    Memory.read (s.weirSet bs).mem a = Memory.read s.mem a :=
  (List.foldlRecOn (motive := fun t : State => MemCanonical t ∧ Memory.read t.mem a = Memory.read s.mem a) _ _
    ⟨hs, rfl⟩ fun _ ⟨canonical, same⟩ g hg => ⟨State.weirWrite_canonical canonical,
      (State.read_weirWrite canonical ha).trans ((State.read_putWeirRow_of_outside (h g hg)).trans same)⟩).2

include hn
variable (hw : bs.length = 4 + 16 * fieldAt bs 2 2)
include hw

theorem rowFor_length (hg : g ∈ govsOf bs) : (rowFor bs g).length = 16 := by
  obtain ⟨low, high⟩ := (mem_govsOf hn).1 hg
  exact bytesAt_length (by omega)

/-- Each governor named has the bytes of its row, and no more tokens than its new burst. -/
theorem State.weirSet_row (hs : MemCanonical s) (hg : g ∈ govsOf bs) :
    (∀ k, k < 16 → k ≠ 6 → k ≠ 7 →
      Memory.read (s.weirSet bs).mem (weirRowAt g.val + k) = (rowFor bs g).getD k 0) ∧
    ((s.weirSet bs).gov g).tokens = min (s.gov g).tokens ((s.weirSet bs).weirRow g).full := by
  obtain ⟨t, canonical, met, left⟩ := State.weirSet_seen hn hs hg
  obtain ⟨bytes, tokens⟩ := State.weirSeen_same canonical (rowFor_length hn hw hg)
  have read (k : Nat) (hk : k < 16) : Memory.read (s.weirSet bs).mem (weirRowAt g.val + k) =
      Memory.read (t.weirWrite g (rowFor bs g)).mem (weirRowAt g.val + k) :=
    congrFun (congrArg Prod.fst left) (⟨k, hk⟩ : Fin 16)
  refine ⟨fun k hk h6 h7 => (read k hk).trans (bytes ⟨k, hk⟩ h6 h7), ?_⟩
  rw [State.weirRow_congr (State.weirWrite_canonical canonical) (State.weirSet_canonical hs) read]
  exact (congrArg Prod.snd left).trans (tokens.trans (congrArg (min · _) (congrArg Prod.snd met)))

end weir

section weirSet
variable {s : State} {m : Msg}

theorem exec_weirSet (h : s.offers m 0x0305 inAll (rowsCommandFault 256 16 0 fun _ _ row => weirFault row))
    (hl : s.lockedAt (weirRowAt (fieldAt m.payload 0 2)) = false) :
    exec (.weirSet m) s = .next ((s.served.weirSet m.payload).changed m 0x0305 []) := by
  obtain ⟨_, last, _⟩ := rowsCommandFault_none (State.check_of_offers h)
  refine (congrArg Host.Outcome.next (State.serve_of_offers h)).trans (congrArg Host.Outcome.next ?_)
  refine (if_neg (Bool.eq_false_iff.1 hl)).trans ?_
  rw [← State.weirSet_eq last]

theorem weirSet_stores (h : s.offers m 0x0305 inAll (rowsCommandFault 256 16 0 fun _ _ row => weirFault row))
    (hs : MemCanonical s) :
    (∀ i k, i < fieldAt m.payload 2 2 → k < 16 → k ≠ 6 → k ≠ 7 →
      Memory.read ((s.served.weirSet m.payload).changed m 0x0305 []).mem (0xF5000 + 16 * (fieldAt m.payload 0 2 + i) + k) =
        m.payload.getD (4 + 16 * i + k) 0) ∧
    (∀ a, 0xC0000 ≤ a → (∀ i k, i < fieldAt m.payload 2 2 → k < 16 → k ≠ 6 → k ≠ 7 →
      a ≠ weirRowAt (fieldAt m.payload 0 2 + i) + k) →
      Memory.read ((s.served.weirSet m.payload).changed m 0x0305 []).mem a = Memory.read s.mem a) ∧
    (∀ g : GovNo, fieldAt m.payload 0 2 ≤ g.val → g.val < fieldAt m.payload 0 2 + fieldAt m.payload 2 2 →
      (((s.served.weirSet m.payload).changed m 0x0305 []).gov g).tokens =
        min (s.gov g).tokens (((s.served.weirSet m.payload).changed m 0x0305 []).weirRow g).full) := by
  obtain ⟨_, last, whole⟩ := rowsCommandFault_none (State.check_of_offers h)
  have kept := State.changed_keeps (s.served.weirSet m.payload) m 0x0305 []
  have mem : ((s.served.weirSet m.payload).changed m 0x0305 []).mem = (s.served.weirSet m.payload).mem := kept.same .mem
  have govs : ((s.served.weirSet m.payload).changed m 0x0305 []).govs = (s.served.weirSet m.payload).govs :=
    kept.same .govs
  simp only [State.gov, State.weirRow, State.memBytes, mem, govs]
  refine ⟨fun i k hi hk h6 h7 => ?_, fun a ha apart => ?_, fun g low high => ?_⟩
  · have small : fieldAt m.payload 0 2 + i < 256 := by omega
    have row := (State.weirSet_row (s := s.served) (g := ⟨fieldAt m.payload 0 2 + i, small⟩) last whole hs
      ((mem_govsOf last).2 ⟨by simp, by simp; omega⟩)).1 k hk h6 h7
    refine row.trans ?_
    rw [rowFor, bytesAt_getD hk]
    simp
  · refine State.read_weirSet (s := s.served) hs ha fun g hg k hk h6 h7 => ?_
    obtain ⟨low, high⟩ := (mem_govsOf last).1 hg
    have := apart (g.val - fieldAt m.payload 0 2) k (by omega) hk h6 h7
    rwa [Nat.add_sub_cancel' low] at this
  · exact (State.weirSet_row (s := s.served) last whole hs ((mem_govsOf last).2 ⟨low, high⟩)).2

end weirSet

/-! ### HOST-INJECT (08 R247) -/

section hostInject
variable {s : State} {m : Msg}

theorem State.popCell_some (h : 0 < s.freeCount) : ∃ c t, s.popCell = some (c, t) ∧ t.freeCount + 1 = s.freeCount := by
  have inside : s.draw.1 % s.sluice.free.length < s.sluice.free.length := Nat.mod_lt _ h
  refine ⟨s.sluice.free[s.draw.1 % s.sluice.free.length],
    s.draw.2.setSluice fun l => { l with free := l.free.eraseIdx (s.draw.1 % s.sluice.free.length) }, ?_, ?_⟩
  · unfold State.popCell
    simp only [List.getElem?_eq_getElem inside]
  · show (s.sluice.free.eraseIdx _).length + 1 = s.sluice.free.length
    rw [List.length_eraseIdx_of_lt inside]
    omega

/-- Above the 128 kept for lamp alarms, cells are to be had. -/
theorem State.takeCells_some {n : Nat} {got : List Nat} (h : 128 + n ≤ s.freeCount) :
    ∃ cs t, State.takeCells n s false got = some (cs, t) := by
  induction n generalizing s got with
  | zero => exact ⟨got, s, rfl⟩
  | succ n ih =>
    obtain ⟨c, t, popped, left⟩ := State.popCell_some (s := s) (by omega)
    have took : s.takeCell false = some (c, t) := by
      unfold State.takeCell
      rw [if_pos (by simp; omega), popped]
    obtain ⟨cs, u, rest⟩ := ih (s := t) (got := got ++ [c]) (by omega)
    exact ⟨cs, u, by unfold State.takeCells; rw [took]; exact rest⟩

theorem State.takeCells_none {n : Nat} {got : List Nat} (h : s.freeCount ≤ 128) (hn : n ≠ 0) :
    State.takeCells n s false got = none := by
  obtain ⟨n, rfl⟩ := Nat.exists_eq_succ_of_ne_zero hn
  have none_ : s.takeCell false = none := if_neg (by simp; omega)
  unfold State.takeCells
  rw [none_]

theorem cellsFor_ne_zero (n : Nat) : cellsFor n ≠ 0 := by
  unfold cellsFor
  repeat' split
  all_goals decide

section newItem
variable {payload : List Byte} {tagLen : Nat} {source : Byte} {stamp : Stamp} {doubt : Bool} {flags : Byte}

theorem State.newItem_some (h : 128 + cellsFor payload.length ≤ s.freeCount) :
    ∃ id t, s.newItem payload tagLen source stamp doubt flags false = some (id, t) := by
  obtain ⟨cs, u, took⟩ := State.takeCells_some (got := []) h
  unfold State.newItem
  rw [took]
  exact ⟨_, _, rfl⟩

theorem State.newItem_none (h : s.freeCount ≤ 128) :
    s.newItem payload tagLen source stamp doubt flags false = none := by
  unfold State.newItem
  rw [State.takeCells_none h (cellsFor_ne_zero _)]

end newItem

/-- The fields of HOST-INJECT: 1 to 352 characters. -/
def hostInjectFault (bs : List Byte) : Option Nat := if bs = [] then some 0 else if 352 < bs.length then some 352 else none

/-- The item that HOST-INJECT makes, where cells are to be had. -/
def State.injected (s : State) (m : Msg) : Option (Nat × State) :=
  s.served.newItem m.payload (tagLenOf m.payload) 0x42 s.takenAt.1 s.takenAt.2
    (checkItem 0x42 (tagLenOf m.payload) m.payload (oddShape (tagLenOf m.payload) m.payload) true).flags false

variable (h : s.offers m 0x040A inWork hostInjectFault)
include h

theorem exec_hostInject_standby (hf : s.pair.formed = true) (hr : s.pair.role = .standby) :
    exec (.hostInject m) s = .next (s.served.refused m 0x040A 0x0014) :=
  (congrArg Host.Outcome.next (State.serve_of_offers h)).trans
    (congrArg Host.Outcome.next (if_pos (by simp [show s.served.pair = s.pair from rfl, hf, hr])))

theorem exec_hostInject_none (hr : ¬(s.pair.formed = true ∧ s.pair.role = .standby)) (hi : s.injected m = none) :
    exec (.hostInject m) s = .next (s.served.refused m 0x040A 0x0015) := by
  refine (congrArg Host.Outcome.next (State.serve_of_offers h)).trans (congrArg Host.Outcome.next ?_)
  refine (if_neg (by simpa [show s.served.pair = s.pair from rfl] using hr)).trans ?_
  dsimp only
  rw [show s.served.newItem m.payload _ _ _ _ _ _ = none from hi]

theorem exec_hostInject_some (hr : ¬(s.pair.formed = true ∧ s.pair.role = .standby)) {id : Nat} {t : State}
    (hi : s.injected m = some (id, t)) : exec (.hostInject m) s = .next ((t.decideItem id none).1.done m 0x040A
      (leBytes 2 (t.decideItem id none).2.1 ++ leBytes 2 (t.decideItem id none).2.2)) := by
  refine (congrArg Host.Outcome.next (State.serve_of_offers h)).trans (congrArg Host.Outcome.next ?_)
  refine (if_neg (by simpa [show s.served.pair = s.pair from rfl] using hr)).trans ?_
  dsimp only
  rw [show s.served.newItem m.payload _ _ _ _ _ _ = some (id, t) from hi]

end hostInject

/-- Settles O46: each clause is the equation of its command on the state without the message, and what that effect keeps. -/
theorem sieveAndWeirCommandsActOnTheirRows : Obligations.SieveAndWeirCommandsActOnTheirRows := by
  refine ⟨fun s m h hc hs hl => ?_, fun s m hc => ⟨fun h => ?_, fun h => ?_⟩, fun s m h hc hl hcrc => ?_,
    fun s ha hc hs hn hw => ?_, fun s a ha hu hc hn hw hf => ?_, fun s m h hl hs => ?_, fun s m h hl => ?_,
    fun s m h hr hfree => ?_, fun s m h hr hfree => ?_, fun s m h hf hr => exec_hostInject_standby h hf hr⟩
  case refine_1 =>
    obtain ⟨first, last, whole⟩ := rowsCommandFault_none (State.check_of_offers h)
    have range := sieveRowAt_range (!s.sieve.bankB) last
    have len : (bytesAt m.payload 4 (16 * fieldAt m.payload 2 2)).length = 16 * fieldAt m.payload 2 2 :=
      bytesAt_length (by omega)
    have loaded := State.shadowLoaded_steps (s := s) last whole
    have mem : ((s.shadowLoaded m).done m 0x0301 []).mem = (s.shadowLoaded m).mem :=
      (State.done_keeps (s.shadowLoaded m) m 0x0301 []).same .mem
    have x := exec_sieveLoad h hc hl
    refine ⟨_, x, State.done_replied (loaded.replies rfl), fun k hk => ?_, fun a apart => ?_,
      (State.done_steps m 0x0301 [] (loaded.widen rfl) rfl).1, only_parts_of_exec x⟩
    · rw [mem, ← bytesAt_getD hk]
      exact State.read_putBytes_getD (s := s.served) hs (by rw [len]; exact Nat.le_trans range.2 (by decide)) (by rwa [len])
    · rw [mem]
      exact State.read_putBytes_of_outside (s := s.served) (by rw [len]; exact Nat.le_trans range.2 (by decide)) (by rwa [len])
  case refine_2 | refine_3 =>
    refine (congrArg Host.Outcome.next (State.serve_of_offers h)).trans (congrArg Host.Outcome.next ?_)
    exact if_pos hc
  case refine_4 =>
    have x := exec_sieveCommit h hc hl hcrc
    refine ⟨_, x, State.swapped_bankB, rfl, fun r => ?_, ⟨_, rfl, rfl, rfl, rfl, rfl⟩,
      (State.swapped_keeps (s := s) (m := m)).replies rfl, fun quiet => (State.swapped_quiet quiet).1, only_parts_of_exec x⟩
    exact Vector.getElem_replicate r.isLt
  case refine_5 =>
    have x := exec_sieveCopyDone_none ha hc hn hw
    have answered := State.answerMalformed_steps (ps := [.replies, .work]) (Steps.refl _ (s.copied.setSieve fun v =>
      { v with waiting := [] })) rfl
    have mem : (s.copied.setSieve fun v => { v with waiting := [] }).answerMalformed.mem = s.copied.mem := answered.same .mem
    have sieve : (s.copied.setSieve fun v => { v with waiting := [] }).answerMalformed.sieve =
      { s.copied.sieve with waiting := [] } := answered.same .sieve
    refine ⟨_, x, congrArg Sieve.copying sieve, fun k hk => ?_, congrArg Sieve.activeCrc sieve, fun a apart => ?_,
      only_parts_of_exec x⟩
    · rw [mem]
      exact State.copied_equal hs hk
    · rw [mem]
      exact State.copied_reads apart
  case refine_6 =>
    have x := exec_sieveCopyDone_some ha hc hn hw hf
    exact ⟨_, x, State.copyClosed_copying, State.copyClosed_counted hu, State.copyClosed_replied, only_parts_of_exec x⟩
  case refine_7 =>
    have x := exec_weirSet h hl
    have written : Steps [.mem, .pool, .rows, .tx, .govs, .sluice, .pair, .inject, .work] s (s.served.weirSet m.payload) :=
      (s.served_steps.widen rfl).step (s.served.weirSet_steps m.payload) rfl
    obtain ⟨rows, rest, tokens⟩ := weirSet_stores h hs
    exact ⟨_, x, State.changed_replied written, State.changed_counted (State.serves_of_offers h) written, rows, rest,
      tokens, only_parts_of_exec x⟩
  case refine_8 =>
    exact (congrArg Host.Outcome.next (State.serve_of_offers h)).trans (congrArg Host.Outcome.next (if_pos hl))
  case refine_9 =>
    obtain ⟨id, t, made⟩ := State.newItem_some (s := s.served) (payload := m.payload) hfree
    have x := exec_hostInject_some h hr made
    obtain ⟨rule, outcome⟩ := t.decideItem_reports id none
    have decided : Steps [.mem, .pool, .draws, .tx, .sieve, .govs, .sluice, .pair, .inject, .work] s (t.decideItem id none).1 :=
      State.decideItem_steps _ _ (State.newItem_steps made (s.served_steps.widen rfl) rfl) rfl
    exact ⟨_, x, ⟨_, _, State.done_replied (decided.replies rfl), rule, outcome⟩, only_parts_of_exec x⟩
  case refine_10 => exact exec_hostInject_none h hr (State.newItem_none (s := s.served) hfree)

end Sys2Proof.Machine
end

section
/-!
PROOFS. The Hedge commands (08 R248, R249; 15 R478-R483), and what a command that changes lamps leaves of each (16 R495).
-/
set_option Elab.async false
namespace Sys2Proof.Machine

/-! ### A walk that must stay calm -/

section calm
variable {σ α β : Type} {f : σ → α → σ} {calm : σ → Prop} {I : σ → Prop} {key : σ → α → β}

theorem calm_of_foldl (stays : ∀ t y, calm (f t y) → calm t) {l : List α} {s : σ} (h : calm (l.foldl f s)) : calm s := by
  induction l generalizing s with
  | nil => exact h
  | cons y ys ih => exact stays s y (ih h)

/-- Where each turn leaves what the other places show, and what is calm at the end was calm throughout, a place shows at
the end what its own turn left, calm before and after it. -/
theorem foldl_key_of_calm (stays : ∀ t y, calm (f t y) → calm t) (keeps : ∀ t y, I t → I (f t y))
    (others : ∀ t y z, z ≠ y → key (f t y) z = key t z) {l : List α} {x : α} {s : σ} (hs : I s) (hl : l.Nodup)
    (hx : x ∈ l) (h : calm (l.foldl f s)) :
    ∃ t, I t ∧ calm t ∧ calm (f t x) ∧ key t x = key s x ∧ key (l.foldl f s) x = key (f t x) x := by
  induction l generalizing s with
  | nil => exact absurd hx List.not_mem_nil
  | cons y ys ih =>
    obtain ⟨hy, hys⟩ := List.nodup_cons.1 hl
    rcases List.mem_cons.1 hx with rfl | hx
    · have after : calm (f s x) := calm_of_foldl stays h
      exact ⟨s, hs, stays s x after, after, rfl, foldl_key_of_notMem (I := fun _ => True) (fun _ _ _ => trivial)
        (fun t y z _ ne => others t y z ne) trivial hy⟩
    · obtain ⟨t, ht, before, after, met, left⟩ := ih (keeps s y hs) hys hx h
      exact ⟨t, ht, before, after, met.trans (others s y x fun e => hy (e ▸ hx)), left⟩

end calm

/-! ### A lamp whose condition changes (16 R495, 13 R398) -/

section changeLamp
variable {s : State} {l k : LampNo}

/-- No alarm waits for a cell. -/
def State.calm (s : State) : Prop := s.sluice.alarmWaits = []

theorem State.queueAlarm_waits (s : State) (w : AlarmWait) : ¬(s.queueAlarm w).calm := by
  simp [State.calm, State.queueAlarm]

theorem State.placeAlarm_waits {w : AlarmWait} (h : ¬s.calm) : ¬(s.placeAlarm w).calm := by
  have waits : s.sluice.alarmWaits.isEmpty = false := by simpa [State.calm] using h
  unfold State.placeAlarm
  dsimp only
  rw [waits, if_neg Bool.false_ne_true, waits, if_neg Bool.false_ne_true]
  exact s.queueAlarm_waits w

theorem State.afterAlarm_of_waits {m : LampMove} (h : ¬s.calm) : s.afterAlarm m = s :=
  if_neg (by simpa [State.calm] using h)

theorem State.afterAlarm_of_calm {m : LampMove} (h : s.calm) : s.afterAlarm m = s.finishMove m :=
  if_pos (by simpa [State.calm] using h)

/-- A change keeps the number, its alarm, the bell and the record do not touch the lamps. -/
theorem State.finishMove_lamps (s : State) {m : LampMove} (h : m.writes = true) : (s.finishMove m).lamps =
    upd s.lamps m.lamp fun p => if sameLamp p.row m.after.row then p.take m.after else p := by
  have told (u : State) : ((u.ring bellLamp).lampRecord m.lamp m.before m.after m.time).lamps = u.lamps :=
    (State.lampRecord_steps (ps := [.irq, .bells, .journal, .tag]) _ _ _ _ (State.ring_steps _ (Steps.refl _ u) rfl) rfl).same
      .lamps
  have sent (u : State) (c : Prop) [Decidable c] : (if c then u.sendLamp m.lamp else u).lamps = u.lamps :=
    (Steps.ite (State.sendLamp_steps (ps := [.pair, .inject]) _ (Steps.refl _ u) rfl) (Steps.refl _ u)).same .lamps
  have noticed (u : State) : u.headNotice.lamps = u.lamps :=
    (State.headNotice_steps (ps := [.ports]) (Steps.refl _ u) rfl).same .lamps
  have made (u : State) (text : List Byte) : (u.makeDevice text).lamps = u.lamps :=
    (State.makeDevice_steps (ps := [.mem, .pool, .draws, .sluice]) text (Steps.refl _ u) rfl).same .lamps
  unfold State.finishMove
  dsimp only
  rw [told, sent, if_pos h, noticed]
  show upd (s.makeDevice _).lamps m.lamp (fun p => if sameLamp p.row m.after.row then p.take m.after else p) = _
  rw [made]

/-- The state in which a change of condition waits for its alarm, or goes on. -/
def State.alarmPlaced (s : State) (l : LampNo) (f : Lamp → Lamp) (alr : Bool) (m : LampMove) : State :=
  let s := s.updLamp l fun p => (f p).take p
  if alr then s.makeAlr m.after.row m.after.state m.after.acked m.after.injected m.time (some m)
  else if s.sluice.alarmWaits.isEmpty then s
  else s.queueAlarm { payload := [], stamp := s.now, doubt := false, route := 0, injected := false, move := some m }

theorem State.alarmPlaced_lamps (s : State) (l : LampNo) (f : Lamp → Lamp) (alr : Bool) (m : LampMove) :
    (s.alarmPlaced l f alr m).lamps = upd s.lamps l fun p => (f p).take p := by
  unfold State.alarmPlaced
  dsimp only
  split
  · exact (State.makeAlr_steps (ps := [.mem, .pool, .draws, .tx, .sluice, .pair, .inject]) _ _ _ _ _ _ (Steps.refl _ _)
      rfl).same .lamps
  · split <;> rfl

theorem State.alarmPlaced_waits {f : Lamp → Lamp} {alr : Bool} {m : LampMove} (h : ¬s.calm) :
    ¬(s.alarmPlaced l f alr m).calm := by
  unfold State.alarmPlaced
  dsimp only
  split
  · exact State.placeAlarm_waits h
  · rw [if_neg (show ¬(s.updLamp l fun p => (f p).take p).sluice.alarmWaits.isEmpty = true by simpa [State.calm] using h)]
    exact State.queueAlarm_waits _ _

/-- A lamp whose state and alarm stay: its other fields are written. -/
def State.lampKept (s : State) (l : LampNo) (q : Lamp) : State :=
  let p := s.lamp l
  let s := (s.updLamp l fun _ => q).headNotice
  if lampWord p ≠ lampWord q then s.sendLamp l else s

theorem State.lampKept_steps (s : State) (l : LampNo) (q : Lamp) :
    Steps [.ports, .pair, .inject] (s.updLamp l fun _ => q) (s.lampKept l q) := by
  have noticed : Steps [.ports, .pair, .inject] (s.updLamp l fun _ => q) (s.updLamp l fun _ => q).headNotice :=
    State.headNotice_steps (Steps.refl _ _) rfl
  exact Steps.ite (State.sendLamp_steps l noticed rfl) noticed

theorem State.lampKept_lamps (s : State) (l : LampNo) (q : Lamp) : (s.lampKept l q).lamps = upd s.lamps l fun _ => q :=
  (s.lampKept_steps l q).same .lamps

/-- What a change of a lamp is: the change of condition, or the other fields alone. -/
theorem State.changeLamp_cases (s : State) (l : LampNo) (f : Lamp → Lamp) (t : Stamp) (force : Bool) :
    (∃ alr m, m.lamp = l ∧ m.writes = true ∧ m.after.row = (f (s.lampAhead l)).row ∧
      m.after.state = (f (s.lampAhead l)).state ∧
      s.changeLamp l f t force = (s.alarmPlaced l f alr m).afterAlarm m) ∨
    ((f (s.lampAhead l)).state = (s.lampAhead l).state ∧
      s.changeLamp l f t force = s.lampKept l { f (s.lamp l) with state := (s.lamp l).state }) := by
  unfold State.changeLamp
  dsimp only
  split
  · exact .inl ⟨_, _, rfl, rfl, rfl, rfl, rfl⟩
  · next still =>
    refine .inr ⟨?_, rfl⟩
    simp only [Bool.or_eq_true, decide_eq_true_eq, not_or, ne_eq, not_not] at still
    obtain ⟨⟨_, same⟩, _⟩ := still
    exact same.symm

/-- Once an alarm waits, one waits after every later change. -/
theorem State.changeLamp_calm {f : Lamp → Lamp} {t : Stamp} {force : Bool} (h : (s.changeLamp l f t force).calm) :
    s.calm := by
  by_contra waits
  rcases s.changeLamp_cases l f t force with ⟨alr, m, _, _, _, _, eq⟩ | ⟨_, eq⟩
  · rw [eq, State.afterAlarm_of_waits (State.alarmPlaced_waits waits)] at h
    exact State.alarmPlaced_waits waits h
  · rw [eq] at h
    have kept (q : Lamp) : (s.lampKept l q).sluice = s.sluice := (s.lampKept_steps l q).same .sluice
    exact waits ((congrArg Sluice.alarmWaits (kept _)).symm.trans h)

theorem State.changeLamp_lamp_ne (s : State) (f : Lamp → Lamp) (t : Stamp) (force : Bool) (h : k ≠ l) :
    (s.changeLamp l f t force).lamp k = s.lamp k := by
  rcases s.changeLamp_cases l f t force with ⟨alr, m, number, writes, _, _, eq⟩ | ⟨_, eq⟩
  · have placed : (s.alarmPlaced l f alr m).lamp k = s.lamp k := by
      unfold State.lamp
      rw [State.alarmPlaced_lamps, upd_get_ne _ _ h]
    rw [eq]
    by_cases calm : (s.alarmPlaced l f alr m).calm
    · rw [State.afterAlarm_of_calm calm, ← placed]
      unfold State.lamp
      rw [State.finishMove_lamps _ writes, number, upd_get_ne _ _ h]
    · rw [State.afterAlarm_of_waits calm, placed]
  · rw [eq]
    unfold State.lamp
    rw [State.lampKept_lamps]
    exact upd_get_ne _ _ h

/-- A change that no alarm holds up leaves the lamp in its new state. -/
theorem State.changeLamp_state {f : Lamp → Lamp} {t : Stamp} {force : Bool}
    (h : (s.changeLamp l f t force).calm) : ((s.changeLamp l f t force).lamp l).state = (f (s.lamp l)).state := by
  have calm : s.calm := State.changeLamp_calm h
  have ahead : s.lampAhead l = s.lamp l := by
    unfold State.lampAhead
    rw [show s.sluice.alarmWaits = [] from calm]
    rfl
  have cases_ := s.changeLamp_cases l f t force
  rw [ahead] at cases_
  rcases cases_ with ⟨alr, m, number, writes, row, state, eq⟩ | ⟨same, eq⟩
  · rw [eq] at h ⊢
    by_cases placed : (s.alarmPlaced l f alr m).calm
    · rw [State.afterAlarm_of_calm placed]
      unfold State.lamp
      rw [State.finishMove_lamps _ writes, number, upd_get_self, State.alarmPlaced_lamps, upd_get_self, if_pos]
      · exact state
      · show sameLamp (f (s.lamp l)).row m.after.row = true
        rw [row]
        simp [sameLamp]
    · rw [State.afterAlarm_of_waits placed] at h
      exact absurd h placed
  · rw [eq]
    unfold State.lamp
    rw [State.lampKept_lamps]
    refine (congrArg Lamp.state (upd_get_self _ _ _)).trans same.symm

end changeLamp

/-! ### The lamps of a head (08 R249, 15 R482, R483) -/

section headLamps
variable {s : State} {l : LampNo} {on : Lamp → Bool} {f : Lamp → Lamp}

/-- A lamp that a condition names takes its new fields. -/
def State.lampTurn (on : Lamp → Bool) (f : Lamp → Lamp) (s : State) (l : LampNo) : State :=
  if on (s.lamp l) then s.changeLamp l f s.now false else s

/-- Every lamp that a condition names takes its new fields. -/
def State.lampsChanged (s : State) (on : Lamp → Bool) (f : Lamp → Lamp) : State :=
  (List.finRange 1024).foldl (State.lampTurn on f) s

theorem State.lampsChanged_steps (s : State) (on : Lamp → Bool) (f : Lamp → Lamp) :
    Steps [.mem, .pool, .draws, .irq, .bells, .ports, .tx, .sluice, .lamps, .pair, .journal, .tag, .inject] s
      (s.lampsChanged on f) :=
  Steps.foldl (Steps.refl _ s) fun _ _ h => Steps.ite (State.changeLamp_steps _ _ _ _ h rfl) h

theorem State.lampTurn_calm (h : (State.lampTurn on f s l).calm) : s.calm := by
  unfold State.lampTurn at h
  split at h
  · exact State.changeLamp_calm h
  · exact h

theorem State.lampTurn_lamp_ne (s : State) {k : LampNo} (h : k ≠ l) : (State.lampTurn on f s l).lamp k = s.lamp k := by
  unfold State.lampTurn
  split
  · exact s.changeLamp_lamp_ne f _ _ h
  · rfl

/-- Where no alarm waits at the end, each lamp named is in its new state. -/
theorem State.lampsChanged_state (h : (s.lampsChanged on f).calm) (hl : on (s.lamp l) = true) :
    ((s.lampsChanged on f).lamp l).state = (f (s.lamp l)).state := by
  unfold State.lampsChanged at h ⊢
  obtain ⟨t, _, _, after, met, left⟩ := foldl_key_of_calm (I := fun _ => True) (key := State.lamp) (x := l)
    (fun _ _ => State.lampTurn_calm) (fun _ _ _ => trivial) (fun t _ _ => t.lampTurn_lamp_ne) trivial
    (List.nodup_finRange 1024) (List.mem_finRange l) h
  have turn : State.lampTurn on f t l = t.changeLamp l f t.now false := if_pos (by rw [met]; exact hl)
  rw [turn] at after left
  rw [left, State.changeLamp_state after, met]

end headLamps

/-! ### HEAD-RETIRE (15 R482) -/

section headRetire
variable {s : State} {m : Msg} {b : BusNo} {h : HeadNo}

/-- A lamp of this head. -/
def Lamp.ofHead (b : BusNo) (h : HeadNo) (p : Lamp) : Bool :=
  lampUsed p.row && decide (lampBus p.row = b) && decide (lampHead p.row = h.val + 1)

/-- A lamp whose head is retired. -/
def Lamp.retire (p : Lamp) : Lamp :=
  { p with state := stRetired, held := false, injected := false, testRuns := false, offRuns := false }

/-- The head is RETIRED, and no command to it is left on its bus. -/
def State.headDropped (s : State) (b : BusNo) (h : HeadNo) : State :=
  ((s.updHead b h fun d => { d with state := hsRetired, attn := false }).updBus b fun v => v.dropHead h).updBus b fun v =>
    { v with setLamps := v.setLamps.filter fun c => decide (c.head ≠ h) }

/-- The head is RETIRED, and its lamps with it; a standby's follow the duty's. -/
def State.headRetired (s : State) (b : BusNo) (h : HeadNo) : State :=
  if s.pair.role = .standby then s.headDropped b h else (s.headDropped b h).lampsChanged (Lamp.ofHead b h) Lamp.retire

theorem State.retireHead_eq (s : State) (b : BusNo) (h : HeadNo) (t : Taken) : s.retireHead b h t =
    (s.headRetired b h).changed { ch := t.ch, tag := t.tag, payload := t.payload } t.code.toNat [] := by
  unfold State.headRetired State.lampsChanged
  rfl

theorem State.headDropped_steps (s : State) (b : BusNo) (h : HeadNo) : Steps [.buses, .heads] s (s.headDropped b h) :=
  State.updBus_steps b _ (State.updBus_steps b _ (State.updHead_steps b h _ (Steps.refl _ s) rfl) rfl) rfl

theorem State.headDropped_head (s : State) (b : BusNo) (h : HeadNo) : ((s.headDropped b h).head b h).state = hsRetired :=
  congrArg Head.state (upd_get_self s.heads (headIx b h) _)

/-- What a head's retirement touches. -/
def retireParts : List Part :=
  [.mem, .pool, .draws, .irq, .bells, .ports, .tx, .sluice, .lamps, .buses, .heads, .pair, .journal, .tag, .inject, .work]

theorem State.headRetired_steps (s : State) (b : BusNo) (h : HeadNo) : Steps retireParts s (s.headRetired b h) := by
  have dropped : Steps retireParts s (s.headDropped b h) := (s.headDropped_steps b h).widen rfl
  exact Steps.ite dropped (dropped.step (State.lampsChanged_steps _ _ _) rfl)

theorem State.headRetired_head (s : State) (b : BusNo) (h : HeadNo) : ((s.headRetired b h).head b h).state = hsRetired := by
  have lamps : ((s.headDropped b h).lampsChanged (Lamp.ofHead b h) Lamp.retire).heads = (s.headDropped b h).heads :=
    (State.lampsChanged_steps _ _ _).same .heads
  rw [← s.headDropped_head b h]
  unfold State.headRetired
  split
  · rfl
  · exact congrArg (fun v => (v.get (headIx b h)).state) lamps

theorem State.headRetired_lamp {l : LampNo} (hr : s.pair.role ≠ .standby) (hc : (s.headRetired b h).calm)
    (hl : Lamp.ofHead b h (s.lamp l) = true) : ((s.headRetired b h).lamp l).state = stRetired := by
  have retired : s.headRetired b h = (s.headDropped b h).lampsChanged (Lamp.ofHead b h) Lamp.retire := if_neg hr
  rw [retired] at hc ⊢
  exact State.lampsChanged_state (s := s.headDropped b h) hc hl

/-- HEAD-RETIRE, as it waits for the end of an exchange. -/
def State.retireWaits (s : State) (m : Msg) : Taken :=
  { ch := m.ch, code := 0x0504, tag := m.tag, payload := m.payload, malformed := false, stamp := s.now
    doubt := s.doubtNow }

variable (ho : s.offers m 0x0504 inWork (exactFault [upTo 1 47, range 1 1 30]))
  (hn : s.headNamed m.payload = some (b, h))
include ho hn

theorem exec_headRetire_unconfigured (hc : (s.headRow b h).configured = false) :
    exec (.headRetire m) s = .next (s.served.badAt m 0x0504 1) := by
  have named : s.served.headNamed m.payload = some (b, h) := hn
  have row : (s.served.headRow b h).configured = false := hc
  refine (congrArg Host.Outcome.next (State.serve_of_offers ho)).trans (congrArg Host.Outcome.next ?_)
  simp only [named, row, Bool.not_false, if_true]

variable (hc : (s.headRow b h).configured = true) (hb : s.headBusy b h = false)
include hc hb

theorem exec_headRetire_waits {x : Exchange} (hx : (s.bus b).exchange = some x) (hh : x.cmd.head = h) :
    exec (.headRetire m) s =
      .next (s.served.updBus b fun v => { v with retire := some (h, s.retireWaits m) }) := by
  have named : s.served.headNamed m.payload = some (b, h) := hn
  have row : (s.served.headRow b h).configured = true := hc
  have free : s.served.headBusy b h = false := hb
  have met : (s.served.bus b).exchange = some x := hx
  refine (congrArg Host.Outcome.next (State.serve_of_offers ho)).trans (congrArg Host.Outcome.next ?_)
  simp only [named, row, free, met, hh, Bool.not_true, Bool.false_eq_true, if_false, if_true]
  rfl

theorem exec_headRetire (hx : ∀ x, (s.bus b).exchange = some x → x.cmd.head ≠ h) :
    exec (.headRetire m) s = .next (s.served.retireHead b h (s.retireWaits m)) := by
  have named : s.served.headNamed m.payload = some (b, h) := hn
  have row : (s.served.headRow b h).configured = true := hc
  have free : s.served.headBusy b h = false := hb
  refine (congrArg Host.Outcome.next (State.serve_of_offers ho)).trans (congrArg Host.Outcome.next ?_)
  cases met : (s.bus b).exchange with
  | none =>
    have met : (s.served.bus b).exchange = none := met
    simp only [named, row, free, met, Bool.not_true, Bool.false_eq_true, if_false]
    rfl
  | some x =>
    have other : x.cmd.head ≠ h := hx x met
    have met : (s.served.bus b).exchange = some x := met
    simp only [named, row, free, met, other, Bool.not_true, Bool.false_eq_true, if_false]
    rfl

end headRetire

/-! ### HEAD-RETURN and its end (08 R249, 15 R483) -/

section headReturn
variable {s : State} {m : Msg} {b : BusNo} {h : HeadNo}

/-- HEAD-RETURN is accepted. -/
def State.returning (s : State) (m : Msg) (b : BusNo) (h : HeadNo) : State :=
  s.served.accept m 0x0505 (.headReturn b h (s.head b h).state)

/-- The bus serves heads. -/
def State.joins (s : State) (b : BusNo) : Bool :=
  s.hedgeOn b && decide ((s.bus b).state ≠ .stopped) && decide ((s.bus b).state ≠ .blind)

/-- The head joins a bus that runs, or is SILENT. -/
def State.headReturned (s : State) (m : Msg) (b : BusNo) (h : HeadNo) : State :=
  if s.joins b then ((s.returning m b h).updBus b fun v => v.dropHead h).joinHead b h
  else (s.returning m b h).silence b h

variable (ho : s.offers m 0x0505 inWork (exactFault [upTo 1 47, range 1 1 30]))
  (hn : s.headNamed m.payload = some (b, h))
include ho hn

theorem exec_headReturn_unconfigured (hc : (s.headRow b h).configured = false) :
    exec (.headReturn m) s = .next (s.served.badAt m 0x0505 1) := by
  have named : s.served.headNamed m.payload = some (b, h) := hn
  have row : (s.served.headRow b h).configured = false := hc
  refine (congrArg Host.Outcome.next (State.serve_of_offers ho)).trans (congrArg Host.Outcome.next ?_)
  simp only [named, row, Bool.not_false, if_true]

theorem exec_headReturn (hc : (s.headRow b h).configured = true) (hb : s.headBusy b h = false) :
    exec (.headReturn m) s = .next (s.headReturned m b h) := by
  have named : s.served.headNamed m.payload = some (b, h) := hn
  have row : (s.served.headRow b h).configured = true := hc
  have free : s.served.headBusy b h = false := hb
  have serves : (s.returning m b h).joins b = s.joins b := by
    unfold State.returning State.accept State.reply
    cases m.ch <;> rfl
  refine (congrArg Host.Outcome.next (State.serve_of_offers ho)).trans (congrArg Host.Outcome.next ?_)
  simp only [named, row, free, Bool.not_true, Bool.false_eq_true, if_false]
  rw [State.headReturned, ← serves]
  rfl

omit ho hn

theorem State.headReturned_steps (s : State) (m : Msg) (b : BusNo) (h : HeadNo) :
    Steps [.mem, .pool, .draws, .irq, .bells, .sluice, .buses, .heads, .journal] (s.returning m b h)
      (s.headReturned m b h) :=
  Steps.ite (State.joinHead_steps b h (State.updBus_steps b _ (Steps.refl _ _) rfl) rfl)
    (State.silence_steps b h (Steps.refl _ _) rfl)

theorem State.silence_head (s : State) (b : BusNo) (h : HeadNo) : ((s.silence b h).head b h).state = hsSilent := by
  unfold State.silence
  dsimp only
  split
  · next silent => exact silent
  · have told (u : State) : (u.headEvent b h evHeadSilent).heads = u.heads :=
      (State.headEvent_steps (ps := [.mem, .pool, .draws, .irq, .bells, .sluice, .journal]) _ _ _ (Steps.refl _ u) rfl).same
        .heads
    unfold State.head
    rw [told]
    exact congrArg Head.state (upd_get_self _ _ _)

theorem State.joinHead_head (s : State) (b : BusNo) (h : HeadNo) : ((s.joinHead b h).head b h).state = hsJoining :=
  congrArg Head.state (upd_get_self s.heads (headIx b h) _)

end headReturn

section headReturnDone
variable {s : State} {b : BusNo} {h : HeadNo} {a : Accepted} {x : BitVec 3}

/-- The completion of an accepted command with a change counts it. -/
theorem State.completed_counts {u : State} (c : Chan) (code status : Nat) (payload : List Byte) (a : Accepted)
    (hu : u.engine.up = true) : Counted u ((u.configChange c code).complete a status payload) := by
  have answered : Steps [.replies, .work] (u.configChange c code) ((u.configChange c code).complete a status payload) :=
    State.complete_steps _ _ _ (Steps.refl _ _) rfl
  obtain ⟨_, stamped, digest⟩ := answered.same .changes
  refine ⟨?_, ?_, ?_⟩
  · rw [answered.changes, State.configChange_changes]
  · rw [stamped, State.configChange_lastChange]
  · rw [digest, answered.digestBytes, State.configChange_digest hu]

/-- What an accepted command's change leaves is counted once. -/
theorem State.completed_counted {ps : List Part} {u : State} {c : Chan} {code status : Nat} {payload : List Byte}
    (hs : s.serves = true) (h : Steps ps s u) (hc : ps.contains .changes = false := by rfl)
    (he : ps.contains .engine = false := by rfl) (hp : ps.contains .power = false := by rfl) :
    Counted s ((u.configChange c code).complete a status payload) := by
  obtain ⟨changes, stamped, digest⟩ :=
    State.completed_counts c code status payload a ((h.up he).trans (State.up_of_serves hs))
  exact ⟨changes.trans (congrArg (· + 1) (h.changes hc)), stamped.trans (h.now hp), digest⟩

/-- An accepted command's change answers it, where nothing else has been answered. -/
theorem State.completed_replied {ps : List Part} {u : State} {c : Chan} {code status : Nat} {payload : List Byte}
    (h : Steps ps s u) (hr : ps.contains .replies = false := by rfl) :
    Replied s ((u.configChange c code).complete a status payload) { ch := a.ch, tag := a.tag, payload := [] }
      a.code.toNat status payload := fun d => by
  have changed : Steps [.changes, .journal] u (u.configChange c code) := State.configChange_steps _ _ (Steps.refl _ _) rfl
  rw [State.complete_replied _ a status payload d, changed.replies rfl d, h.replies hr d]

theorem State.completed_accepted {ps : List Part} {u : State} {c : Chan} {code status : Nat} {payload : List Byte}
    (h : Steps ps s u) (hw : ps.contains .work = false := by rfl) :
    ((u.configChange c code).complete a status payload).engine.accepted = s.engine.accepted.erase a := by
  have changed : Steps [.changes, .journal] u (u.configChange c code) := State.configChange_steps _ _ (Steps.refl _ _) rfl
  obtain ⟨_, accepted, _⟩ := h.same .work hw
  obtain ⟨_, still, _⟩ := changed.same .work
  rw [State.complete_accepted, still, accepted]

/-- The one element that fits is found. -/
theorem find?_of_only {α : Type} {l : List α} {f : α → Bool} {a : α} (ha : a ∈ l) (hf : f a = true)
    (only : ∀ c, c ∈ l → f c = true → c = a) : l.find? f = some a := by
  obtain ⟨c, found⟩ := Option.isSome_iff_exists.1 (List.find?_isSome.2 ⟨a, ha, hf⟩)
  rw [found, only c (List.mem_of_find?_eq_some found) (List.find?_some found)]

/-- The one command accepted that fits is found. -/
theorem State.working?_of_only {s : State} {f : Work → Bool} (ha : a ∈ s.engine.accepted) (hf : f a.work = true)
    (only : ∀ c, c ∈ s.engine.accepted → f c.work = true → c = a) : s.working? f = some a :=
  find?_of_only (f := fun a : Accepted => f a.work) ha hf only

/-- A RETIRED lamp of a head that returns. -/
def Lamp.awaits (b : BusNo) (h : HeadNo) (p : Lamp) : Bool := p.ofHead b h && decide (p.state = stRetired)

/-- A lamp in RETURNING grace. -/
def Lamp.grace (p : Lamp) : Lamp := { p with state := stReturning }

theorem State.graceLamps_eq (s : State) (b : BusNo) (h : HeadNo) : s.graceLamps b h =
    if s.pair.role = .standby then s else s.lampsChanged (Lamp.awaits b h) Lamp.grace := by
  unfold State.lampsChanged
  rfl

theorem State.graceLamps_keeps (s : State) (b : BusNo) (h : HeadNo) :
    Steps [.mem, .pool, .draws, .irq, .bells, .ports, .tx, .sluice, .lamps, .pair, .journal, .tag, .inject] s
      (s.graceLamps b h) :=
  State.graceLamps_steps b h (Steps.refl _ s) rfl

theorem exec_headReturnDone {silent : Bool} (hs : s.serves = true) (ha : a ∈ s.engine.accepted)
    (hw : a.work = .headReturn b h x) (only : ∀ c, c ∈ s.engine.accepted → (∃ y, c.work = .headReturn b h y) → c = a)
    (hd : silent = true → (s.head b h).state = hsSilent) (hj : silent = false → s.rejoined b h = true) :
    exec (.headReturnDone b h silent) s = .next (((s.graceLamps b h).configChange a.ch a.code.toNat).complete a 0
      [if silent then 1 else 0]) := by
  have due : (if silent then decide ((s.head b h).state = hsSilent) else s.rejoined b h) = true := by
    cases silent
    · exact hj rfl
    · exact decide_eq_true (hd rfl)
  show execHeadReturnDone b h silent s = _
  unfold execHeadReturnDone
  dsimp only
  rw [State.working?_of_only (a := a) ha]
  · dsimp only
    rw [hs, due]
    rfl
  · simp [hw]
  · intro c hc fits
    refine only c hc ?_
    split at fits
    · next y eq =>
      simp only [Bool.and_eq_true, decide_eq_true_eq] at fits
      obtain ⟨rfl, rfl⟩ := fits
      exact ⟨_, eq⟩
    · exact absurd fits Bool.false_ne_true
    · exact absurd fits Bool.false_ne_true
    · exact absurd fits Bool.false_ne_true
    · exact absurd fits Bool.false_ne_true
    · exact absurd fits Bool.false_ne_true

theorem State.graceLamps_lamp {l : LampNo} (hr : s.pair.role ≠ .standby) (hc : (s.graceLamps b h).calm)
    (hl : Lamp.awaits b h (s.lamp l) = true) : ((s.graceLamps b h).lamp l).state = stReturning := by
  rw [State.graceLamps_eq, if_neg hr] at hc ⊢
  exact State.lampsChanged_state hc hl

end headReturnDone

/-! ### HEAD-SET and HEDGE-SET (08 R248, 15 R478-R480) -/

section headSet
variable {s : State} {m : Msg} {b : BusNo} {h : HeadNo}
  (ho : s.offers m 0x0502 inAll (exactFault [upTo 1 47, range 1 1 30, anyFld 2, anyFld 8]))

/-- The four bytes of the head row. -/
def State.headWritten (s : State) (m : Msg) (b : BusNo) (h : HeadNo) : State :=
  s.served.putBytes (headRowAt b.val h.val) (bytesAt m.payload 4 4)

theorem headRowAt_range (b : BusNo) (h : HeadNo) : 0xF7000 ≤ headRowAt b.val h.val ∧ headRowAt b.val h.val + 8 ≤ 0xF7780 := by
  have := b.isLt
  have := h.isLt
  unfold headRowAt
  omega

include ho

theorem exec_headSet (hn : s.headNamed m.payload = some (b, h)) (hb : s.headBusy b h = false)
    (hl : s.lockedAt (headRowAt b.val h.val) = false) :
    exec (.headSet m) s = .next (((s.headWritten m b h).headConfigured b h).changed m 0x0502 []) := by
  have named : s.served.headNamed m.payload = some (b, h) := hn
  have free : s.served.headBusy b h = false := hb
  have open_ : s.served.lockedAt (headRowAt b.val h.val) = false := hl
  refine (congrArg Host.Outcome.next (State.serve_of_offers ho)).trans (congrArg Host.Outcome.next ?_)
  simp only [named, free, open_, Bool.false_eq_true, if_false]
  rfl

theorem headSet_length : 8 ≤ m.payload.length := by
  obtain ⟨fields, _⟩ := exactFault_none (State.check_of_offers ho)
  obtain ⟨_, _, _, fields⟩ := fieldsFault_cons_none fields
  obtain ⟨_, _, _, fields⟩ := fieldsFault_cons_none fields
  obtain ⟨_, _, _, fields⟩ := fieldsFault_cons_none fields
  obtain ⟨len, _, _, _⟩ := fieldsFault_cons_none fields
  simp only [upTo, range, anyFld] at len
  omega

theorem State.headWritten_steps : Steps [.mem, .rows, .work] s (s.headWritten m b h) := by
  have row := headRowAt_range b h
  refine State.putBytes_in_steps (r := .rows) ?_ (s.served_steps.widen rfl) rfl
  rw [bytesAt_length (by have := headSet_length ho; omega)]
  exact ⟨by omega, by omega⟩

end headSet

section hedgeSet
variable {s : State} {m : Msg} {p : PortNo} {b : BusNo}
  (ho : s.offers m 0x0501 inAll (exactFault [upTo 1 47, upTo 1 3, range 2 10 10000, range 1 3 20, anyFld 1]))

/-- The bus row and the RATE of its master port. -/
def State.busWritten (s : State) (m : Msg) (p : PortNo) (b : BusNo) : State :=
  (s.served.putBytes (busRowAt b.val) (bytesAt m.payload 0 6)).putBytes (portRowAt p.val + 4)
    (leBytes 4 (hedgeRate (byteAt m.payload 1)))

/-- The port has the chance to adopt its row. -/
def State.busAdopted (s : State) (m : Msg) (p : PortNo) (b : BusNo) : State :=
  (((s.busWritten m p b).updPort p fun q => { q with rxAdopt := true, txAdopt := true }).rxBoundary p).adoptTx p

/-- A bus with another master or another rate changes. -/
def State.hedgeMoved (s : State) (m : Msg) (p : PortNo) (b : BusNo) : State :=
  if (decide ((s.busRow b).master ≠ p.val) || decide ((s.busRow b).rateCode ≠ byteAt m.payload 1)) = true
  then (s.busAdopted m p b).busChanged b else s.busAdopted m p b

theorem busRowAt_range (b : BusNo) : 0xF7780 ≤ busRowAt b.val ∧ busRowAt b.val + 6 ≤ 0xF7800 := by
  have := b.isLt
  unfold busRowAt
  omega

theorem State.busChanged_grows (s : State) (b : BusNo) : Grows s (s.busChanged b) :=
  Grows.ite (s.beginJoin_changes_ge b) (Grows.ite (s.stopBus_changes_ge b) (Grows.refl s))

/-- What follows the rows of HEDGE-SET. -/
def hedgeParts : List Part := [.mem, .pool, .draws, .irq, .bells, .replies, .changes, .ports, .tx, .sluice, .lamps, .buses,
  .heads, .pair, .journal, .tag, .inject]

theorem State.busAdopted_steps (s : State) (m : Msg) (p : PortNo) (b : BusNo) :
    Steps hedgeParts (s.busWritten m p b) (s.busAdopted m p b) :=
  State.adoptTx_steps p (State.rxBoundary_steps p (State.updPort_steps p _ (Steps.refl _ _) rfl) rfl) rfl

theorem State.hedgeMoved_steps (s : State) (m : Msg) (p : PortNo) (b : BusNo) :
    Steps hedgeParts (s.busWritten m p b) (s.hedgeMoved m p b) :=
  Steps.ite ((s.busAdopted_steps m p b).step (State.busChanged_steps (ps := hedgeParts) b (Steps.refl _ _) rfl) rfl)
    (s.busAdopted_steps m p b)

theorem State.hedgeMoved_grows (s : State) (m : Msg) (p : PortNo) (b : BusNo) : Grows s (s.hedgeMoved m p b) := by
  have written : Steps [.mem, .code, .pool, .boxes, .rows, .work, .ports, .tx] s
      ((s.busWritten m p b).updPort p fun q => { q with rxAdopt := true, txAdopt := true }) :=
    State.updPort_steps p _ (State.putBytes_steps _ _ (State.putBytes_steps _ _ (s.served_steps.widen rfl) rfl) rfl) rfl
  have adopted : Grows s (s.busAdopted m p b) :=
    written.grows.trans ((State.rxBoundary_grows _ p).trans
      (State.adoptTx_steps (ps := [.ports, .tx]) p (Steps.refl _ _) rfl).grows)
  exact Grows.ite (adopted.trans (State.busChanged_grows _ b)) adopted

include ho

theorem hedgeSet_length : 6 ≤ m.payload.length := by
  obtain ⟨fields, _⟩ := exactFault_none (State.check_of_offers ho)
  obtain ⟨_, _, _, fields⟩ := fieldsFault_cons_none fields
  obtain ⟨_, _, _, fields⟩ := fieldsFault_cons_none fields
  obtain ⟨_, _, _, fields⟩ := fieldsFault_cons_none fields
  obtain ⟨_, _, _, fields⟩ := fieldsFault_cons_none fields
  obtain ⟨len, _, _, _⟩ := fieldsFault_cons_none fields
  simp only [upTo, range, anyFld] at len
  omega

theorem exec_hedgeSet_none (hp : byteAt m.payload 0 = p.val) (hb : s.slotFor p = none) :
    exec (.hedgeSet m) s = .next (s.served.refused m 0x0501 0x0015) := by
  have slot : s.served.slotFor p = none := hb
  refine (congrArg Host.Outcome.next (State.serve_of_offers ho)).trans (congrArg Host.Outcome.next ?_)
  simp only [portOf_val hp, slot]

theorem exec_hedgeSet (hp : byteAt m.payload 0 = p.val) (hb : s.slotFor p = some b) (hf : s.portBusy p.val = false)
    (hl : s.lockedAt (busRowAt b.val) = false) (hk : s.lockedAt (portRowAt p.val) = false) :
    exec (.hedgeSet m) s = .next ((s.hedgeMoved m p b).changed m 0x0501 []) := by
  have slot : s.served.slotFor p = some b := hb
  have free : s.served.portBusy p.val = false := hf
  have bus : s.served.lockedAt (busRowAt b.val) = false := hl
  have port : s.served.lockedAt (portRowAt p.val) = false := hk
  refine (congrArg Host.Outcome.next (State.serve_of_offers ho)).trans (congrArg Host.Outcome.next ?_)
  simp only [portOf_val hp, slot, free, bus, port, Bool.false_eq_true, if_false, Bool.or_self]
  rfl

theorem State.busWritten_steps : Steps [.mem, .rows, .work] s (s.busWritten m p b) := by
  have bus := busRowAt_range b
  have port := portRowAt_le p
  have len := bytesAt_length (bs := m.payload) (o := 0) (n := 6) (hedgeSet_length ho)
  refine State.putBytes_in_steps (r := .rows) ?_ (State.putBytes_in_steps (r := .rows) ?_ (s.served_steps.widen rfl) rfl) rfl
  · rw [leBytes_length]
    exact ⟨by omega, by omega⟩
  · rw [len]
    exact ⟨by omega, by omega⟩

/-- The bytes that HEDGE-SET stores, and those it leaves. -/
theorem State.read_busWritten (hs : MemCanonical s) :
    (∀ k, k < 6 → Memory.read (s.busWritten m p b).mem (busRowAt b.val + k) = m.payload.getD k 0) ∧
    (∀ k, k < 4 → Memory.read (s.busWritten m p b).mem (portRowAt p.val + 4 + k) =
      (leBytes 4 (hedgeRate (byteAt m.payload 1))).getD k 0) ∧
    (∀ a, (a < busRowAt b.val ∨ busRowAt b.val + 6 ≤ a) → (a < portRowAt p.val + 4 ∨ portRowAt p.val + 8 ≤ a) →
      Memory.read (s.busWritten m p b).mem a = Memory.read s.mem a) := by
  have bus := busRowAt_range b
  have port := portRowAt_le p
  have len := bytesAt_length (bs := m.payload) (o := 0) (n := 6) (hedgeSet_length ho)
  have rate : (leBytes 4 (hedgeRate (byteAt m.payload 1))).length = 4 := leBytes_length ..
  have stored : MemCanonical (s.served.putBytes (busRowAt b.val) (bytesAt m.payload 0 6)) :=
    State.wf_putBytes (s := s.served) hs
  unfold State.busWritten
  refine ⟨fun k hk => ?_, fun k hk => ?_, fun a offBus offPort => ?_⟩
  · rw [State.read_putBytes_of_outside (by omega) (by omega), State.read_putBytes_getD (s := s.served) hs (by omega) (by omega),
      bytesAt_getD hk, Nat.zero_add]
  · rw [State.read_putBytes_getD stored (by omega) (by omega)]
  · rw [State.read_putBytes_of_outside (by omega) (by omega)]
    exact State.read_putBytes_of_outside (s := s.served) (by omega) (by omega)

end hedgeSet

theorem exec_headCommand_unnamed {s : State} {m : Msg} (hn : s.headNamed m.payload = none) :
    (s.offers m 0x0502 inAll (exactFault [upTo 1 47, range 1 1 30, anyFld 2, anyFld 8]) →
      exec (.headSet m) s = .next (s.served.badAt m 0x0502 0)) ∧
    (s.offers m 0x0504 inWork (exactFault [upTo 1 47, range 1 1 30]) →
      exec (.headRetire m) s = .next (s.served.badAt m 0x0504 0)) ∧
    (s.offers m 0x0505 inWork (exactFault [upTo 1 47, range 1 1 30]) →
      exec (.headReturn m) s = .next (s.served.badAt m 0x0505 0)) := by
  have named : s.served.headNamed m.payload = none := hn
  refine ⟨fun ho => ?_, fun ho => ?_, fun ho => ?_⟩ <;>
    refine (congrArg Host.Outcome.next (State.serve_of_offers ho)).trans (congrArg Host.Outcome.next ?_) <;>
    simp only [named]

/-- Settles O47: each clause is the equation of its command on the state without the message, and what that effect keeps;
a lamp's state by the walk over the lamps, calm throughout where no alarm waits at the end. -/
theorem hedgeCommandsActOnTheirBus : Obligations.HedgeCommandsActOnTheirBus := by
  refine ⟨fun s m p b ho hp hb hf hl hk hs => ?_, fun s m p ho hp hb => exec_hedgeSet_none ho hp hb,
    fun s m b h ho hn hb hl hs => ?_, fun s m b h ho hn hc hb hx => ?_, fun s m b h x ho hn hc hb hx hh => ?_,
    fun s m b h ho hn hc hb => ?_, fun s b h silent a x hs ha hw only hd hj => ?_,
    fun s m ho hn => (exec_headCommand_unnamed hn).1 ho, fun s m ho hn => (exec_headCommand_unnamed hn).2.1 ho,
    fun s m ho hn => (exec_headCommand_unnamed hn).2.2 ho,
    fun s m b h ho hn hc => exec_headRetire_unconfigured ho hn hc,
    fun s m b h ho hn hc => exec_headReturn_unconfigured ho hn hc⟩
  case refine_1 =>
    have x := exec_hedgeSet ho hp hb hf hl hk
    have written := State.busWritten_steps (p := p) (b := b) ho
    have moved : Steps (.rows :: .work :: hedgeParts) s (s.hedgeMoved m p b) :=
      (written.widen rfl).step (s.hedgeMoved_steps m p b) rfl
    have kept := State.changed_keeps (s.hedgeMoved m p b) m 0x0501 []
    have read {a : Nat} (ha : 0xC0000 ≤ a) : Memory.read ((s.hedgeMoved m p b).changed m 0x0501 []).mem a =
        Memory.read (s.busWritten m p b).mem a := by
      rw [show ((s.hedgeMoved m p b).changed m 0x0501 []).mem = (s.hedgeMoved m p b).mem from kept.same .mem]
      exact (s.hedgeMoved_steps m p b).read_upper (written.2 hs) ha
    have bus := busRowAt_range b
    have port := portRowAt_le p
    obtain ⟨row, rate, rest⟩ := State.read_busWritten (p := p) (b := b) ho hs
    exact ⟨_, x, State.changed_answered moved, State.changed_noted (State.serves_of_offers ho) moved
      (s.hedgeMoved_grows m p b), fun k hk => (read (by omega)).trans (row k hk),
      fun k hk => (read (by omega)).trans (rate k hk), fun a ha off offPort => (read ha).trans (rest a off offPort),
      only_parts_of_exec x⟩
  case refine_2 =>
    have x := exec_headSet ho hn hb hl
    have row := headRowAt_range b h
    have len := bytesAt_length (bs := m.payload) (o := 4) (n := 4) (headSet_length ho)
    have written : Steps [.mem, .rows, .work, .buses, .heads] s ((s.headWritten m b h).headConfigured b h) :=
      State.headConfigured_steps b h ((State.headWritten_steps ho).widen rfl) rfl
    have mem : (((s.headWritten m b h).headConfigured b h).changed m 0x0502 []).mem = (s.headWritten m b h).mem :=
      ((State.changed_keeps _ m 0x0502 []).same .mem).trans
        ((State.headConfigured_steps (ps := [.buses, .heads]) b h (Steps.refl _ _) rfl).same .mem)
    refine ⟨_, x, State.changed_replied written, State.changed_counted (State.serves_of_offers ho) written, fun k hk => ?_,
      fun a off => ?_, only_parts_of_exec x⟩
    · rw [mem, ← bytesAt_getD hk]
      exact State.read_putBytes_getD (s := s.served) hs (by omega) (by omega)
    · rw [mem]
      exact State.read_putBytes_of_outside (s := s.served) (by omega) (by omega)
  case refine_3 =>
    have x := exec_headRetire ho hn hc hb hx
    rw [State.retireHead_eq] at x
    have retired : Steps retireParts s (s.served.headRetired b h) :=
      (s.served_steps.widen rfl).step (s.served.headRetired_steps b h) rfl
    have kept := State.changed_keeps (s.served.headRetired b h) m 0x0504 []
    have heads : ((s.served.headRetired b h).changed m 0x0504 []).heads = (s.served.headRetired b h).heads :=
      kept.same .heads
    have sluice : ((s.served.headRetired b h).changed m 0x0504 []).sluice = (s.served.headRetired b h).sluice :=
      kept.same .sluice
    have lamps : ((s.served.headRetired b h).changed m 0x0504 []).lamps = (s.served.headRetired b h).lamps :=
      kept.same .lamps
    refine ⟨_, x, State.changed_replied retired, State.changed_counted (State.serves_of_offers ho) retired,
      (congrArg (fun v => (v.get (headIx b h)).state) heads).trans (s.served.headRetired_head b h),
      fun hr calm l used bus head => ?_, only_parts_of_exec x⟩
    refine (congrArg (fun v => (v.get l).state) lamps).trans (State.headRetired_lamp (s := s.served) (b := b) (h := h) hr ?_ ?_)
    · exact (congrArg Sluice.alarmWaits sluice).symm.trans calm
    · show (lampUsed (s.lamp l).row && decide (lampBus (s.lamp l).row = b) && decide (lampHead (s.lamp l).row = h.val + 1)) =
        true
      simp [used, bus, head]
  case refine_4 =>
    have w := exec_headRetire_waits ho hn hc hb hx hh
    exact ⟨_, w, ⟨s.retireWaits m, congrArg Bus.retire (upd_get_self s.buses b _), rfl, rfl, rfl⟩,
      (State.updBus_steps b _ (s.served_steps.widen rfl) rfl).1, only_parts_of_exec w⟩
  case refine_5 =>
    have x := exec_headReturn ho hn hc hb
    have moved := s.headReturned_steps m b h
    refine ⟨_, x, fun c => ?_, ?_, fun on stopped blind => ?_, fun off => ?_, only_parts_of_exec x⟩
    · rw [moved.replies rfl c]
      exact State.accept_replied s.served m 0x0505 _ c
    · obtain ⟨_, accepted, _⟩ := moved.same .work
      rw [accepted]
      exact State.accept_accepted s.served m 0x0505 _
    · have joins : s.joins b = true := by simp [State.joins, on, stopped, blind]
      rw [State.headReturned, if_pos joins]
      exact State.joinHead_head _ b h
    · have shut : ¬s.joins b = true := by
        rcases off with off | off | off <;> simp [State.joins, off]
      rw [State.headReturned, if_neg shut]
      exact State.silence_head _ b h
  case refine_6 =>
    have e := exec_headReturnDone hs ha hw only hd hj
    have graced := s.graceLamps_keeps b h
    have closed := State.complete_steps (ps := [.replies, .work, .changes, .journal]) a 0 [if silent then 1 else 0]
      (State.configChange_steps a.ch a.code.toNat (Steps.refl _ (s.graceLamps b h)) rfl) rfl
    have lamps := (closed.same .lamps : _ = (s.graceLamps b h).lamps)
    have sluice := (closed.same .sluice : _ = (s.graceLamps b h).sluice)
    refine ⟨_, e, State.completed_replied graced, State.completed_counted hs graced, State.completed_accepted graced,
      fun hr calm l used bus head retired => ?_, only_parts_of_exec e⟩
    refine (congrArg (fun v => (v.get l).state) lamps).trans (State.graceLamps_lamp (b := b) (h := h) hr ?_ ?_)
    · exact (congrArg Sluice.alarmWaits sluice).symm.trans calm
    · simp [Lamp.awaits, Lamp.ofHead, used, bus, head, retired]

end Sys2Proof.Machine
end

section
/-!
PROOFS. What commits, links, lamp changes and hedge buses leave alone: the role of the device in its pair, which views are
retired, and the ports but their transmit side and what they report as heads.
-/
set_option Elab.async false
namespace Sys2Proof.Machine

/-! ### What is left alone -/

/-- The pair but the frames of the link and the numbers of items. -/
def Pair.core (p : Pair) : Pair :=
  { p with txSeq := 0, unacked := [], waiting := [], ackOwed := false, withheld := none, nextSeq := 0, lastMirrored := 0
           unmatched := [], wire := [], sent := 0 }

/-- A port but its transmit side and what it reports as a head. -/
def Port.body (q : Port) : Port := { q with tx := Tx.reset, head := HeadRole.reset }

/-- Which views are retired is as it was. -/
def SameRetired (s t : State) : Prop := ∀ v, (t.view v).retired = (s.view v).retired

/-- The pair's roles, the retirement of each view and the ports' receive sides are as they were. -/
structure Settled (s t : State) : Prop where
  core : t.pair.core = s.pair.core
  views : SameRetired s t
  body : ∀ p, (t.port p).body = (s.port p).body

section retired
variable {s t u : State}

theorem SameRetired.refl (s : State) : SameRetired s s := fun _ => rfl

theorem SameRetired.trans (h : SameRetired s t) (k : SameRetired t u) : SameRetired s u := fun v => (k v).trans (h v)

theorem SameRetired.views (h : SameRetired s t) (k : u.sluice.views = t.sluice.views) : SameRetired s u :=
  h.trans fun v => congrArg (fun w : Vector View 52 => (w.get v).retired) k

theorem SameRetired.steps {ps : List Part} (h : SameRetired s t) (k : Steps ps t u)
    (hp : ps.contains .sluice = false := by rfl) : SameRetired s u :=
  h.views (congrArg Sluice.views (k.same .sluice hp :))

theorem SameRetired.updView (h : SameRetired s t) (v : Fin 52) {f : View → View} (hf : ∀ w, (f w).retired = w.retired) :
    SameRetired s (t.updView v f) :=
  h.trans fun w => upd_same t.sluice.views v w f View.retired hf

theorem SameRetired.foldl {α : Type} {f : State → α → State} (l : List α) (h : SameRetired s t)
    (hf : ∀ u x, SameRetired s u → SameRetired s (f u x)) : SameRetired s (l.foldl f t) := by
  induction l generalizing t with
  | nil => exact h
  | cons x xs ih => exact ih (hf t x h)

/-! ### Links and commits leave each view retired or not -/

theorem SameRetired.release (h : SameRetired s t) (id : Nat) : SameRetired s (t.release id) := h.views (t.release_views id)

theorem SameRetired.unlink (h : SameRetired s t) (v : Fin 52) (id : Nat) : SameRetired s (t.unlink v id) := by
  have left : SameRetired s (t.updView v fun w => { w with queue := w.queue.filter fun l => decide (l.item ≠ id) }) :=
    h.updView v fun _ => rfl
  exact (left.views (State.forget_views _ v id)).release id

theorem SameRetired.evict (h : SameRetired s t) (v : Fin 52) (id : Nat) : SameRetired s (t.evict v id) := by
  refine SameRetired.unlink (h.updView v ?_) v id
  exact fun _ => rfl

theorem SameRetired.refuse (h : SameRetired s t) (v : Fin 52) (n : Nat) : SameRetired s (t.refuse v n) :=
  h.updView v fun _ => rfl

theorem SameRetired.releaseHolds (h : SameRetired s t) (v : Fin 52) : SameRetired s (t.releaseHolds v) := by
  unfold State.releaseHolds
  cases viewPort v with
  | none => exact h
  | some p => exact SameRetired.foldl _ (h.views rfl) fun _ id hu => hu.release id

theorem SameRetired.makeRoom (h : SameRetired s t) (k : Nat) (v : Fin 52) (n : Nat) :
    SameRetired s (State.makeRoom k t v n) := by
  induction k generalizing t with
  | zero => exact h
  | succ k ih =>
    unfold State.makeRoom
    split
    · exact h
    · split
      · exact ih (h.evict v _)
      · exact h

theorem SameRetired.roomForAlarm (h : SameRetired s t) (v : Fin 52) (n : Nat) : SameRetired s (t.roomForAlarm v n) := by
  have room := h.makeRoom (t.view v).queue.length v n
  unfold State.roomForAlarm
  dsimp only
  split
  · exact room
  · exact (room.releaseHolds v).makeRoom _ v n

/-- A view's answer at a commit leaves it as it was, counts a refusal or makes room. -/
theorem SameRetired.letIn (h : SameRetired s t) (i : Item) (v : Fin 52) (lw : Option GovNo) :
    SameRetired s (t.letIn i v lw).1 := by
  have refused := h.refuse v 1
  have room := h.roomForAlarm v i.cells.length
  unfold State.letIn
  dsimp only
  (repeat' split) <;> assumption

theorem SameRetired.admitAll (h : SameRetired s t) (i : Item) (want : BitVec 51) (engine : Bool) (lw : BitVec 51)
    (g : Option GovNo) : SameRetired s (t.admitAll i want engine lw g).1 := by
  unfold State.admitAll
  refine List.foldlRecOn (motive := fun (a : State × List Admission) => SameRetired s a.1) _ _ h fun a ha v _ => ?_
  split
  · exact ha.letIn i v _
  · exact ha

theorem SameRetired.shadow (h : SameRetired s t) (v : Fin 52) (i : Item) : SameRetired s (t.shadow v i) := by
  unfold State.shadow
  split
  · exact h.updView v fun _ => rfl
  · exact h

theorem SameRetired.updTx (h : SameRetired s t) (p : PortNo) (f : Tx → Tx) : SameRetired s (t.updTx p f) := h

theorem SameRetired.noteBreach (h : SameRetired s t) (p : PortNo) (i : Item) : SameRetired s
    (if t.breaches p i then t.updTx p fun x => { x with breachers := x.breachers ++ [i.id] } else t) := by
  split
  · exact h.updTx p _
  · exact h

theorem SameRetired.makeLink (h : SameRetired s t) (i : Item) (a : Admission) : SameRetired s (t.makeLink i a) := by
  refine SameRetired.shadow (SameRetired.updView ?_ a.view ?_) a.view i
  · cases a.old with
    | none =>
      cases viewPort a.view with
      | none => exact h
      | some p => exact h.noteBreach p i
    | some o =>
      cases viewPort a.view with
      | none => exact h.unlink a.view o
      | some p => exact (h.unlink a.view o).noteBreach p i
  · exact fun _ => rfl

theorem SameRetired.dropAbandoned (h : SameRetired s t) (p : PortNo) : SameRetired s (t.dropAbandoned p) :=
  SameRetired.foldl _ h fun _ i hu => (hu.refuse (portView p) 1).unlink (portView p) i.id

theorem SameRetired.dropLate (h : SameRetired s t) (l : List Admission) : SameRetired s (t.dropLate l) :=
  SameRetired.foldl l h fun u a hu => by
    cases viewPort a.view with
    | none => exact hu
    | some p => exact hu.dropAbandoned p

theorem SameRetired.pumpPeer (h : SameRetired s t) (n : Nat) : SameRetired s (State.pumpPeer n t) := by
  induction n generalizing t with
  | zero => exact h
  | succ n ih =>
    unfold State.pumpPeer
    split
    · exact h
    · split
      · exact h
      · split
        · exact ih ((h.unlink viewPeer _).refuse viewPeer 1)
        · have taken (i : Nat) : SameRetired s (t.take viewPeer i) := h.updView viewPeer fun _ => rfl
          exact ih ((taken _).steps (State.sendFrame_steps (ps := [.pair, .inject]) _ (Steps.refl _ _) rfl))

theorem SameRetired.matchItem (h : SameRetired s t) (id : Nat) (q : Word) : SameRetired s (t.matchItem id q) := by
  unfold State.matchItem
  split
  · exact h
  · exact SameRetired.steps (h.views (u := t.updItem id _) rfl)
      (State.putWord_steps (ps := [.mem, .code, .pool, .boxes, .rows]) _ _ (Steps.refl _ _) rfl)

theorem SameRetired.commitPair (h : SameRetired s t) (i : Item) : SameRetired s (t.commitPair i) := by
  unfold State.commitPair
  split
  · split
    · split
      · exact SameRetired.matchItem (h.steps (State.setPair_steps (ps := [.pair]) _ (Steps.refl _ t) rfl)) _ _
      · exact h
    · exact h
  · split
    · exact SameRetired.steps (ps := [.pair, .inject]) h
        (State.sendFrame_steps _ (State.setPair_steps _ (Steps.refl _ _) rfl) rfl)
    · exact h

theorem SameRetired.dropItem (h : SameRetired s t) (id : Nat) : SameRetired s (t.dropItem id) := by
  unfold State.dropItem
  split
  · exact h
  · exact h.views (State.freeCells_views _ _)

theorem SameRetired.updItem (h : SameRetired s t) (id : Nat) (f : Item → Item) : SameRetired s (t.updItem id f) := h

theorem SameRetired.setSluice (h : SameRetired s t) {f : Sluice → Sluice} (hf : ∀ l, (f l).views = l.views) :
    SameRetired s (t.setSluice f) :=
  h.views (hf t.sluice)

theorem SameRetired.commit (h : SameRetired s t) (id : Nat) (want : BitVec 51) (engine : Bool) (lw : BitVec 51)
    (g : Option GovNo) (given : Option Word) : SameRetired s (t.commit id want engine lw g given).1 := by
  unfold State.commit
  cases t.item? id with
  | none => exact h
  | some i =>
    have admitted := h.admitAll i want engine lw g
    dsimp only
    split
    · exact admitted.dropItem id
    · refine SameRetired.pumpPeer (SameRetired.dropLate (SameRetired.commitPair ?_ _) _) _
      refine SameRetired.foldl _ (SameRetired.steps (ps := [.mem, .pool]) (SameRetired.updItem ?_ id _)
        (State.putHeader_steps _ (Steps.refl _ _) rfl)) fun u a (hu : SameRetired s u) => hu.makeLink _ a
      split
      · exact admitted.steps (State.setPair_steps (ps := [.pair]) _ (Steps.refl _ _) rfl)
      · exact admitted

/-! ### Alarms -/

theorem SameRetired.poolEvict (h : SameRetired s t) : SameRetired s t.poolEvict := by
  unfold State.poolEvict
  split
  · exact h
  · split
    · exact h
    · refine SameRetired.setSluice (SameRetired.foldl _ h fun u v hu => ?_) ?_
      · split
        · exact hu.evict v _
        · exact hu
      · exact fun _ => rfl

theorem State.takeCells_views {n : Nat} {alarm : Bool} {got cs : List Nat}
    (e : State.takeCells n t alarm got = some (cs, u)) : u.sluice.views = t.sluice.views := by
  induction n generalizing t got with
  | zero =>
    unfold State.takeCells at e
    cases e
    rfl
  | succ n ih =>
    unfold State.takeCells at e
    split at e
    · next c v took =>
      refine (ih e).trans ?_
      unfold State.takeCell State.popCell at took
      split at took
      · dsimp only at took
        split at took
        · cases took
          rfl
        · cases took
      · cases took
    · cases e

theorem State.newItem_views {payload : List Byte} {tagLen : Nat} {source : Byte} {stamp : Stamp} {doubt : Bool}
    {flags : Byte} {alarm : Bool} {id : Nat} (e : t.newItem payload tagLen source stamp doubt flags alarm = some (id, u)) :
    u.sluice.views = t.sluice.views := by
  unfold State.newItem at e
  split at e
  · cases e
  · next cells v took =>
    cases e
    have written : Steps [.mem, .pool] v ((v.putPayload cells 0 payload).putLinks cells) :=
      State.putLinks_steps _ (State.putPayload_steps _ _ _ (Steps.refl _ _) rfl) rfl
    exact (congrArg Sluice.views (written.same .sluice :)).trans (State.takeCells_views took)

theorem SameRetired.commitAlarm (h : SameRetired s t) (id : Nat) (mask : BitVec 51) : SameRetired s (t.commitAlarm id mask) :=
  (h.updItem id _).commit id mask false 0 none none

theorem SameRetired.placeAlarm (h : SameRetired s t) (w : AlarmWait) : SameRetired s (t.placeAlarm w) := by
  have evicted : SameRetired s (if t.sluice.alarmWaits.isEmpty then t.poolEvict else t) := by
    split
    · exact h.poolEvict
    · exact h
  unfold State.placeAlarm
  dsimp only
  generalize (if t.sluice.alarmWaits.isEmpty then t.poolEvict else t) = u at evicted
  split
  · split
    · next id v made =>
      exact (evicted.views (State.newItem_views made)).commitAlarm id _
    · exact evicted.views rfl
  · exact evicted.views rfl

theorem SameRetired.makeDevice (h : SameRetired s t) (text : List Byte) : SameRetired s (t.makeDevice text) := by
  unfold State.makeDevice
  split
  · next id v made => exact h.views (State.newItem_views made)
  · exact h.views rfl

/-! ### A view flushed or retired -/

theorem SameRetired.returnFront (h : SameRetired s t) (p : PortNo) (ls : List Link) : SameRetired s (t.returnFront p ls) := by
  unfold State.returnFront
  exact h.updView (portView p) fun _ => rfl

theorem SameRetired.yieldGroup (h : SameRetired s t) (p : PortNo) : SameRetired s (t.yieldGroup p) := by
  have interrupted {u : State} (hu : SameRetired s u) : SameRetired s (u.interruptGroup p) := by
    unfold State.interruptGroup
    split
    · exact hu
    · exact SameRetired.returnFront (hu.updTx p _) p _
  unfold State.yieldGroup
  dsimp only
  split
  · exact h
  · split
    · exact h
    · split
      · exact interrupted (h.updTx p _)
      · split
        · exact h.updTx p _
        · exact h

/-- A view that is retired stays so, whether its queue is held or flushed. -/
theorem State.retireView_retired (s : State) (v : Fin 52) (hold : Bool) : ((s.retireView v hold).view v).retired = true := by
  have marked : ((s.updView v fun w => { w with retired := true }).view v).retired = true :=
    congrArg View.retired (upd_get_self s.sluice.views v _)
  have start := SameRetired.refl (s.updView v fun w => { w with retired := true })
  suffices kept : SameRetired (s.updView v fun w => { w with retired := true }) (s.retireView v hold) from
    (kept v).trans marked
  have flushed : SameRetired (s.updView v fun w => { w with retired := true })
      ((s.updView v fun w => { w with retired := true }).flushView v).1 :=
    SameRetired.releaseHolds (SameRetired.foldl _ start fun _ id hu => hu.unlink v id) v
  unfold State.retireView
  dsimp only
  split
  · split
    · exact start.yieldGroup _
    · exact start
  · split
    · exact flushed.updTx _ _
    · exact flushed

end retired

/-! ### Frames leave the core of the pair -/

section core
variable {s t u : State}

/-- The core of the pair is as it was. -/
def SameCore (s t : State) : Prop := t.pair.core = s.pair.core

theorem SameCore.refl (s : State) : SameCore s s := rfl

theorem SameCore.trans (h : SameCore s t) (k : SameCore t u) : SameCore s u := Eq.trans k h

theorem SameCore.steps {ps : List Part} (h : SameCore s t) (k : Steps ps t u) (hp : ps.contains .pair = false := by rfl) :
    SameCore s u :=
  h.trans (congrArg Pair.core (k.same .pair hp))

theorem SameCore.setPair (h : SameCore s t) {f : Pair → Pair} (hf : ∀ p, (f p).core = p.core) :
    SameCore s (t.setPair f) :=
  h.trans (hf t.pair)

theorem SameCore.foldl {α : Type} {f : State → α → State} (l : List α) (h : SameCore s t)
    (hf : ∀ u x, SameCore s u → SameCore s (f u x)) : SameCore s (l.foldl f t) := by
  induction l generalizing t with
  | nil => exact h
  | cons x xs ih => exact ih (hf t x h)

theorem SameCore.putLine (h : SameCore s t) (bytes : List Byte) : SameCore s (t.putLine bytes) := h.setPair fun _ => rfl

theorem SameCore.sendWithheld (h : SameCore s t) : SameCore s t.sendWithheld := by
  unfold State.sendWithheld
  split
  · refine SameCore.putLine (h.setPair ?_) _
    exact fun _ => rfl
  · exact h

theorem SameCore.withheldCounts (h : SameCore s t) : SameCore s t.withheldCounts := by
  unfold State.withheldCounts
  split
  · split
    · exact h.sendWithheld
    · exact h.setPair fun _ => rfl
  · exact h.sendWithheld
  · exact h

theorem SameCore.injectCount (h : SameCore s t) (i : Fin 16) : SameCore s (t.injectCount i) :=
  h.steps (State.injectCount_steps (ps := [.inject]) i (Steps.refl _ t) rfl)

theorem SameCore.sendPast (h : SameCore s t) (hit : Option (Fin 16)) (bytes : List Byte) (len : Nat) :
    SameCore s (t.sendPast hit bytes len) := by
  unfold State.sendPast
  split
  · exact (h.putLine _).withheldCounts
  · next i =>
    dsimp only
    split
    · exact ((h.injectCount i).putLine _).withheldCounts
    · split
      · exact ((h.injectCount i).putLine _).withheldCounts
      · exact (h.putLine _).withheldCounts

theorem SameCore.launchFrame (h : SameCore s t) (f : Frame) : SameCore s (t.launchFrame f) := by
  have framed : SameCore s (t.setPair fun p => { p with
      txSeq := nextLinkSeq t.pair.txSeq, unacked := p.unacked ++ [(t.pair.txSeq, f)] }) := h.setPair fun _ => rfl
  have met := framed.steps (State.injectAt_steps (ps := [.inject]) 2 0 (fun x => decide (x ≤ 2)) (Steps.refl _ _) rfl)
  unfold State.launchFrame
  dsimp only
  split
  · exact met.sendPast _ _ _
  · next i _ =>
    split
    · split
      · exact met.sendPast _ _ _
      · exact (met.injectCount i).setPair fun _ => rfl
    · exact met.sendPast _ _ _

theorem SameCore.sendFrame (h : SameCore s t) (f : Frame) : SameCore s (t.sendFrame f) := by
  unfold State.sendFrame
  split
  · exact h.launchFrame f
  · exact h.setPair fun _ => rfl

theorem SameCore.sendLamp (h : SameCore s t) (l : LampNo) : SameCore s (t.sendLamp l) := by
  unfold State.sendLamp
  split
  · exact h.sendFrame _
  · exact h

theorem SameCore.pumpPeer (h : SameCore s t) (n : Nat) : SameCore s (State.pumpPeer n t) := by
  induction n generalizing t with
  | zero => exact h
  | succ n ih =>
    unfold State.pumpPeer
    split
    · exact h
    · split
      · exact h
      · split
        · exact ih (h.steps (State.refuse_steps (ps := [.mem, .pool, .tx, .sluice]) viewPeer 1
            (State.unlink_steps viewPeer _ (Steps.refl _ t) rfl) rfl))
        · exact ih ((h.steps (State.take_steps (ps := [.sluice]) viewPeer _ (Steps.refl _ t) rfl)).sendFrame _)

theorem SameCore.commitPair (h : SameCore s t) (i : Item) : SameCore s (t.commitPair i) := by
  unfold State.commitPair
  split
  · split
    · split
      · refine SameCore.steps (h.setPair ?_) (State.matchItem_steps (ps := [.mem, .pool, .sluice]) _ _ (Steps.refl _ _) rfl)
        exact fun _ => rfl
      · exact h
    · exact h
  · split
    · refine SameCore.sendFrame (h.setPair ?_) _
      exact fun _ => rfl
    · exact h

theorem SameCore.commit (h : SameCore s t) (id : Nat) (want : BitVec 51) (engine : Bool) (lw : BitVec 51)
    (g : Option GovNo) (given : Option Word) : SameCore s (t.commit id want engine lw g given).1 := by
  unfold State.commit
  cases t.item? id with
  | none => exact h
  | some i =>
    have admitted := h.steps (State.admitAll_steps (ps := [.mem, .pool, .tx, .sluice]) i want engine lw g (Steps.refl _ t) rfl)
    dsimp only
    split
    · exact admitted.steps (State.dropItem_steps (ps := [.mem, .pool, .sluice]) id (Steps.refl _ _) rfl)
    · refine SameCore.pumpPeer (SameCore.steps (SameCore.commitPair ?_ _)
        (State.dropLate_steps (ps := [.mem, .pool, .tx, .sluice]) _ (Steps.refl _ _) rfl)) _
      refine SameCore.steps ?_ (Steps.foldl (ps := [.mem, .pool, .tx, .sluice]) (State.putHeader_steps _
        (State.updItem_steps id _ (Steps.refl _ _) rfl) rfl) fun _ a hu => State.makeLink_steps _ a hu rfl)
      split
      · exact admitted.setPair fun _ => rfl
      · exact admitted

end core

/-! ### Alarms, lamps and buses -/

section settled
variable {s t u : State}

theorem Settled.refl (s : State) : Settled s s := ⟨SameCore.refl s, SameRetired.refl s, fun _ => rfl⟩

theorem Settled.trans (h : Settled s t) (k : Settled t u) : Settled s u :=
  ⟨SameCore.trans h.core k.core, h.views.trans k.views, fun p => (k.body p).trans (h.body p)⟩

/-- What leaves the ports' receive sides leaves their bodies. -/
theorem Steps.body {ps : List Part} (h : Steps ps s t) (hp : ps.contains .ports = false := by rfl) (p : PortNo) :
    (t.port p).body = (s.port p).body :=
  congrArg (fun q : Port => ({ q with head := HeadRole.reset } : Port)) (h.same .ports hp p)

theorem Settled.steps {ps : List Part} (h : Settled s t) (k : Steps ps t u) (hp : ps.contains .pair = false := by rfl)
    (hs : ps.contains .sluice = false := by rfl) (hb : ps.contains .ports = false := by rfl) : Settled s u :=
  ⟨SameCore.steps h.core k hp, h.views.steps k hs, fun p => (k.body hb p).trans (h.body p)⟩

theorem Settled.foldl {α : Type} {f : State → α → State} (l : List α) (h : Settled s t)
    (hf : ∀ u x, Settled s u → Settled s (f u x)) : Settled s (l.foldl f t) := by
  induction l generalizing t with
  | nil => exact h
  | cons x xs ih => exact ih (hf t x h)

theorem Settled.mapPorts (h : Settled s t) {f : Port → Port} (hf : ∀ q, (f q).body = q.body) : Settled s (t.mapPorts f) :=
  ⟨h.core, h.views, fun p => (map_same t.ports p f Port.body hf).trans (h.body p)⟩

theorem Settled.headNotice (h : Settled s t) : Settled s t.headNotice := h.mapPorts fun q => by split <;> rfl

theorem Settled.sendLamp (h : Settled s t) (l : LampNo) : Settled s (t.sendLamp l) :=
  have sent : Steps [.pair, .inject] t (t.sendLamp l) := State.sendLamp_steps l (Steps.refl _ t) rfl
  ⟨SameCore.sendLamp h.core l, h.views.steps sent, fun p => (sent.body rfl p).trans (h.body p)⟩

theorem SameCore.placeAlarm (h : SameCore s t) (w : AlarmWait) : SameCore s (t.placeAlarm w) := by
  have evicted : SameCore s (if t.sluice.alarmWaits.isEmpty then t.poolEvict else t) :=
    h.steps (Steps.ite (State.poolEvict_steps (ps := [.mem, .pool, .tx, .sluice]) (Steps.refl _ t) rfl) (Steps.refl _ t))
  unfold State.placeAlarm
  dsimp only
  generalize (if t.sluice.alarmWaits.isEmpty then t.poolEvict else t) = u at evicted
  split
  · split
    · next id v made =>
      exact SameCore.commit (evicted.steps (State.updItem_steps (ps := [.mem, .pool, .draws, .sluice]) id _
        (State.newItem_steps made (Steps.refl _ u) rfl) rfl)) id _ _ _ _ _
    · exact evicted.steps (State.queueAlarm_steps (ps := [.sluice]) w (Steps.refl _ u) rfl)
  · exact evicted.steps (State.queueAlarm_steps (ps := [.sluice]) w (Steps.refl _ u) rfl)

theorem Settled.placeAlarm (h : Settled s t) (w : AlarmWait) : Settled s (t.placeAlarm w) :=
  have placed : Steps [.mem, .pool, .draws, .tx, .sluice, .pair, .inject] t (t.placeAlarm w) :=
    State.placeAlarm_steps w (Steps.refl _ t) rfl
  ⟨SameCore.placeAlarm h.core w, h.views.placeAlarm w, fun p => (placed.body rfl p).trans (h.body p)⟩

theorem Settled.queueAlarm (h : Settled s t) (w : AlarmWait) : Settled s (t.queueAlarm w) :=
  ⟨h.core, h.views.setSluice fun _ => rfl, h.body⟩

theorem Settled.updLamp (h : Settled s t) (l : LampNo) (f : Lamp → Lamp) : Settled s (t.updLamp l f) :=
  h.steps (State.updLamp_steps (ps := [.lamps]) l f (Steps.refl _ t) rfl)

theorem Settled.makeDevice (h : Settled s t) (text : List Byte) : Settled s (t.makeDevice text) :=
  have made : Steps [.mem, .pool, .draws, .sluice] t (t.makeDevice text) := State.makeDevice_steps text (Steps.refl _ t) rfl
  ⟨SameCore.steps h.core made, h.views.makeDevice text, fun p => (made.body rfl p).trans (h.body p)⟩

theorem Settled.finishMove (h : Settled s t) (m : LampMove) : Settled s (t.finishMove m) := by
  have written : Settled s (if m.writes then
      ((t.makeDevice (t.pvyslText m.after.row m.after.state m.after.report m.time)).updLamp m.lamp fun p =>
        if sameLamp p.row m.after.row then p.take m.after else p).headNotice else t) := by
    split
    · exact ((h.makeDevice _).updLamp _ _).headNotice
    · exact h
  unfold State.finishMove
  dsimp only
  generalize (if m.writes then _ else t) = u at written
  refine Settled.steps (ps := [.irq, .bells, .journal, .tag]) ?_
    (State.lampRecord_steps _ _ _ _ (State.ring_steps _ (Steps.refl _ _) rfl) rfl)
  split
  · exact written.sendLamp _
  · exact written

theorem Settled.changeLamp (h : Settled s t) (l : LampNo) (f : Lamp → Lamp) (now : Stamp) (force : Bool) :
    Settled s (t.changeLamp l f now force) := by
  rcases t.changeLamp_cases l f now force with ⟨alr, m, _, _, _, _, eq⟩ | ⟨_, eq⟩
  · have placed : Settled s (t.alarmPlaced l f alr m) := by
      unfold State.alarmPlaced
      dsimp only
      split
      · exact (h.updLamp l _).placeAlarm _
      · split
        · exact h.updLamp l _
        · exact (h.updLamp l _).queueAlarm _
    rw [eq, State.afterAlarm]
    split
    · exact placed.finishMove m
    · exact placed
  · rw [eq, State.lampKept]
    dsimp only
    split
    · exact (h.updLamp l _).headNotice.sendLamp l
    · exact (h.updLamp l _).headNotice

theorem Settled.lampsChanged (h : Settled s t) (on : Lamp → Bool) (f : Lamp → Lamp) : Settled s (t.lampsChanged on f) :=
  Settled.foldl _ h fun u l hu => by
    unfold State.lampTurn
    split
    · exact hu.changeLamp l _ _ false
    · exact hu

theorem Settled.changed (h : Settled s t) (m : Msg) (code : Nat) (payload : List Byte) :
    Settled s (t.changed m code payload) := h.steps (State.changed_keeps t m code payload)

theorem Settled.retireHead (h : Settled s t) (b : BusNo) (d : HeadNo) (x : Taken) : Settled s (t.retireHead b d x) := by
  rw [State.retireHead_eq]
  refine Settled.changed ?_ _ _ _
  have dropped : Settled s (t.headDropped b d) := h.steps (t.headDropped_steps b d)
  unfold State.headRetired
  split
  · exact dropped
  · exact dropped.lampsChanged _ _

theorem Settled.endRetire (h : Settled s t) (b : BusNo) : Settled s (t.endRetire b) := by
  unfold State.endRetire
  split
  · exact Settled.retireHead (h.steps (State.updBus_steps (ps := [.buses]) b _ (Steps.refl _ t) rfl)) b _ _
  · exact h

theorem Settled.stopBus (h : Settled s t) (b : BusNo) : Settled s (t.stopBus b) := by
  rw [State.stopBus_eq]
  exact Settled.endRetire (h.steps (t.forgetBus_steps b _)) b

theorem Settled.beginJoin (h : Settled s t) (b : BusNo) : Settled s (t.beginJoin b) := by
  rw [State.beginJoin_eq]
  split
  · exact Settled.endRetire (h.steps (t.forgetBus_steps b _)) b
  · exact h.stopBus b

theorem Settled.hedgeRole (h : Settled s t) : Settled s t.hedgeRole := by
  rw [State.hedgeRole_eq]
  refine Settled.foldl _ h fun u b hu => ?_
  unfold State.hedgeRoleOf
  split
  · exact hu.stopBus b
  · split
    · exact hu.beginJoin b
    · exact hu

theorem Settled.pairBell (h : Settled s t) : Settled s t.pairBell :=
  h.steps (State.pairBell_steps (ps := [.irq, .bells, .journal]) (Steps.refl _ t) rfl)

end settled

end Sys2Proof.Machine
end

section
/-!
PROOFS. The port commands (08 R238, R239; 10 R287, R288; 14 R431, R432), and what a port's boundaries leave.
-/
set_option Elab.async false
namespace Sys2Proof.Machine

/-! ### The boundary of a receive side (08 R239, 10 R288) -/

section boundary
variable {s t : State} {p : PortNo}

/-- A PORT-RETIRE that waits names the receive side. -/
def State.rxRetires (s : State) (p : PortNo) : Bool := s.engine.accepted.any fun a => match a.work with
  | .portRetire q rx _ => decide (q = p) && rx
  | .headReturn _ _ _ | .handover | .format | .publish | .sweep _ _ => false

/-- A PORT-RETIRE that waits names the transmit side. -/
def State.txRetires (s : State) (p : PortNo) : Bool := s.engine.accepted.any fun a => match a.work with
  | .portRetire q _ tx => decide (q = p) && tx
  | .headReturn _ _ _ | .handover | .format | .publish | .sweep _ _ => false

theorem State.rxBoundary_of_busy (h : (s.port p).asm.idle = false) : s.rxBoundary p = s := by
  unfold State.rxBoundary
  rw [h]
  rfl

theorem State.rxBoundary_of_idle (h : (s.port p).asm.idle = true) :
    s.rxBoundary p = ((s.disarmParking p).retireHere p (s.rxRetires p)).adoptHere p := by
  unfold State.rxBoundary
  rw [h]
  rfl

/-- The row that a receive side takes shows in every field of it but the assembler. -/
theorem State.takeRxRow_body (s : State) (p : PortNo) : ∃ a : Asm, ((s.takeRxRow p).port p).body =
    ({ Port.takeRow (s.portRow p) s.roadRuns (s.port p) with asm := a } : Port).body := by
  have taken : (s.updPort p (Port.takeRow (s.portRow p) s.roadRuns)).port p =
      Port.takeRow (s.portRow p) s.roadRuns (s.port p) := State.updPort_port_same _ _ _
  have settled (u : State) : ((u.hedgeRole.headNotice).port p).body = (u.port p).body :=
    (Settled.refl u).hedgeRole.headNotice.body p
  rw [State.takeRxRow_eq, settled]
  split
  · exact ⟨_, congrArg Port.body taken⟩
  · rw [State.dropPartial_port, taken]
    exact ⟨_, rfl⟩

theorem State.takeRxRow_retired (s : State) (p : PortNo) : SameRetired s (s.takeRxRow p) := by
  have dropped (u : State) : SameRetired u (u.dropPartial p) :=
    (SameRetired.refl u).views (State.freeCells_views u _)
  rw [State.takeRxRow_eq]
  refine SameRetired.trans ?_ (Settled.refl _).hedgeRole.headNotice.views
  split
  · exact SameRetired.refl s
  · exact dropped (s.updPort p _)

theorem State.adoptHere_views (s : State) (p : PortNo) : SameRetired s (s.adoptHere p) := by
  unfold State.adoptHere
  dsimp only
  split
  · exact s.takeRxRow_retired p
  · exact SameRetired.refl s

theorem State.rxBoundary_views (s : State) (p : PortNo) : SameRetired s (s.rxBoundary p) := by
  by_cases idle : (s.port p).asm.idle = true
  · rw [State.rxBoundary_of_idle idle]
    refine SameRetired.trans (SameRetired.steps (SameRetired.refl s)
      ((disarmParking_steps s p).step (retireHere_steps _ p _) rfl)) (State.adoptHere_views _ p)
  · rw [State.rxBoundary_of_busy (Bool.eq_false_iff.2 idle)]
    exact SameRetired.refl s

/-- A port whose parking or retirement takes hold at its boundary. -/
def Port.atBoundary (parks retires : Bool) (q : Port) : Port :=
  if retires && !q.rxRetired then { q.disarm with rxRetired := true } else if parks then q.disarm else q

theorem State.atBoundary_port (s : State) (p : PortNo) (retires : Bool) :
    (((s.disarmParking p).retireHere p retires).port p) =
      (s.port p).atBoundary ((s.port p).parking && decide ((s.port p).keep = 0)) retires := by
  have parked : (s.disarmParking p).port p =
      if (s.port p).parking && decide ((s.port p).keep = 0) then (s.port p).disarm else s.port p := by
    unfold State.disarmParking
    split
    · exact State.updPort_port_same _ _ _
    · rfl
  have still : ((s.disarmParking p).port p).rxRetired = (s.port p).rxRetired := by
    rw [parked]
    split <;> rfl
  unfold State.retireHere Port.atBoundary
  rw [still]
  split
  · rw [State.updPort_port_same, parked]
    split <;> rfl
  · exact parked

theorem Port.atBoundary_keeps (parks retires : Bool) (q : Port) :
    (q.atBoundary parks retires).rxAdopt = q.rxAdopt ∧ (q.atBoundary parks retires).tx = q.tx ∧
    (q.edge = none → (q.atBoundary parks retires).edge = none) ∧ (q.fifo = [] → (q.atBoundary parks retires).fifo = []) ∧
    (q.rxRetired = true → (q.atBoundary parks retires).rxRetired = true) := by
  unfold Port.atBoundary
  split
  · exact ⟨rfl, rfl, fun _ => rfl, fun _ => rfl, fun _ => rfl⟩
  · split
    · exact ⟨rfl, rfl, fun _ => rfl, fun _ => rfl, id⟩
    · exact ⟨rfl, rfl, id, id, id⟩

theorem Port.atBoundary_retires (parks : Bool) {q : Port} (h : q.rxRetired = false) :
    q.atBoundary parks true = { q.disarm with rxRetired := true } := by
  unfold Port.atBoundary
  rw [h]
  rfl

/-- A port that has retired takes a row without hearing. -/
theorem Port.takeRow_of_retired {q : Port} (row : BitVec 128) (runs : Bool) (h : q.rxRetired = true) :
    (q.takeRow row runs).rxRetired = true ∧ (q.takeRow row runs).armed = false ∧ (q.takeRow row runs).fifo = [] := by
  have deaf : q.takeRow row runs = { (q.withRow row).disarm with hunting := (q.withRow row).rx.autobaud } :=
    if_neg (by simp [show (q.withRow row).rxRetired = true from h])
  rw [deaf]
  exact ⟨h, rfl, rfl⟩

theorem Port.takeRow_row (row : BitVec 128) (runs : Bool) (q : Port) :
    (q.takeRow row runs).rxRow = row ∧ (q.takeRow row runs).rxAdopt = false ∧ (q.takeRow row runs).tx = q.tx := by
  unfold Port.takeRow Port.hear
  split <;> exact ⟨rfl, rfl, rfl⟩

/-- What is on the line of a port stays as it takes a receive row. -/
theorem State.takeRxRow_sending (s : State) (p : PortNo) :
    ((s.takeRxRow p).port p).tx.sending = (s.port p).tx.sending := by
  obtain ⟨_, _, tx⟩ := Port.takeRow_row (s.portRow p) s.roadRuns (s.port p)
  have taken : ((s.updPort p (Port.takeRow (s.portRow p) s.roadRuns)).port p).tx = (s.port p).tx := by
    rw [State.updPort_port_same, tx]
  rw [State.takeRxRow_eq, ← taken]
  have quiet : Quiet (s.updPort p (Port.takeRow (s.portRow p) s.roadRuns))
      (if ((s.updPort p (Port.takeRow (s.portRow p) s.roadRuns)).port p).armed then
        s.updPort p (Port.takeRow (s.portRow p) s.roadRuns)
      else (s.updPort p (Port.takeRow (s.portRow p) s.roadRuns)).dropPartial p).hedgeRole.headNotice := by
    refine Quiet.headNotice (Quiet.hedgeRole ?_)
    split
    · exact Quiet.refl _
    · exact (Quiet.refl _).dropPartial p
  obtain ⟨_, _, _, sending, _⟩ := Port.of_line (quiet.line p)
  exact sending

theorem State.adoptHere_sending (s : State) (p : PortNo) :
    ((s.adoptHere p).port p).tx.sending = (s.port p).tx.sending := by
  unfold State.adoptHere
  dsimp only
  split
  · exact s.takeRxRow_sending p
  · rfl

theorem State.rxBoundary_sending (s : State) (p : PortNo) :
    ((s.rxBoundary p).port p).tx.sending = (s.port p).tx.sending := by
  by_cases idle : (s.port p).asm.idle = true
  · obtain ⟨_, tx, _⟩ := Port.atBoundary_keeps ((s.port p).parking && decide ((s.port p).keep = 0)) (s.rxRetires p) (s.port p)
    rw [State.rxBoundary_of_idle idle, State.adoptHere_sending, State.atBoundary_port, tx]
  · rw [State.rxBoundary_of_busy (Bool.eq_false_iff.2 idle)]

/-- A retired side stays retired, and deaf, as a row is adopted. -/
theorem State.adoptHere_of_retired (h : (s.port p).rxRetired = true) :
    ((s.adoptHere p).port p).rxRetired = true ∧ ((s.port p).armed = false → (s.port p).fifo = [] →
      ((s.adoptHere p).port p).armed = false ∧ ((s.adoptHere p).port p).fifo = []) := by
  unfold State.adoptHere
  dsimp only
  split
  · obtain ⟨a, body⟩ := s.takeRxRow_body p
    obtain ⟨retired, armed, fifo⟩ := Port.takeRow_of_retired (s.portRow p) s.roadRuns h
    exact ⟨(congrArg Port.rxRetired body :).trans retired, fun _ _ => ⟨(congrArg Port.armed body :).trans armed,
      (congrArg Port.fifo body :).trans fifo⟩⟩
  · exact ⟨h, fun armed fifo => ⟨armed, fifo⟩⟩

theorem State.rxBoundary_rxRetired (h : (s.port p).rxRetired = true) : ((s.rxBoundary p).port p).rxRetired = true := by
  by_cases idle : (s.port p).asm.idle = true
  · obtain ⟨_, _, _, _, kept⟩ :=
      Port.atBoundary_keeps ((s.port p).parking && decide ((s.port p).keep = 0)) (s.rxRetires p) (s.port p)
    rw [State.rxBoundary_of_idle idle]
    exact (State.adoptHere_of_retired ((congrArg Port.rxRetired (s.atBoundary_port p _)).trans (kept h))).1
  · rw [State.rxBoundary_of_busy (Bool.eq_false_iff.2 idle)]
    exact h

/-- A receive side that a PORT-RETIRE waits for is retired at its boundary. -/
theorem State.rxBoundary_retires (hi : (s.port p).asm.idle = true) (hr : s.rxRetires p = true)
    (hn : (s.port p).rxRetired = false) : ((s.rxBoundary p).port p).rxRetired = true ∧
      ((s.rxBoundary p).port p).armed = false ∧ ((s.rxBoundary p).port p).fifo = [] := by
  have port := s.atBoundary_port p (s.rxRetires p)
  rw [hr, Port.atBoundary_retires _ hn] at port
  obtain ⟨retired, deaf⟩ := State.adoptHere_of_retired (congrArg Port.rxRetired port)
  rw [State.rxBoundary_of_idle hi, hr]
  exact ⟨retired, deaf (congrArg Port.armed port) (congrArg Port.fifo port)⟩

theorem Steps.rowsInForce {ps : List Part} (h : Steps ps s t) (hp : ps.contains .power = false := by rfl)
    (hm : ps.contains .modes = false := by rfl) : t.rowsInForce = s.rowsInForce := by
  have power : t.power = s.power := h.same .power hp
  have modes : t.modes = s.modes := h.same .modes hm
  unfold State.rowsInForce State.roadRuns State.roadMode State.entering State.holding State.alive State.mode
  rw [power, modes]

/-- A receive side at its boundary, with no character in progress or waiting, adopts the row set for it. -/
theorem State.rxBoundary_adopts (hi : (s.port p).asm.idle = true) (he : (s.port p).edge = none) (hf : (s.port p).fifo = [])
    (ha : (s.port p).rxAdopt = true) (hr : s.rowsInForce = true) :
    ((s.rxBoundary p).port p).rxRow = s.portRow p ∧ ((s.rxBoundary p).port p).rxAdopt = false := by
  have kept : Steps [.ports, .tx] s ((s.disarmParking p).retireHere p (s.rxRetires p)) :=
    (s.disarmParking_steps p).step (State.retireHere_steps _ p _) rfl
  obtain ⟨adopt, _, edge, fifo, _⟩ :=
    Port.atBoundary_keeps ((s.port p).parking && decide ((s.port p).keep = 0)) (s.rxRetires p) (s.port p)
  rw [← s.atBoundary_port p] at adopt edge fifo
  rw [State.rxBoundary_of_idle hi]
  generalize (s.disarmParking p).retireHere p (s.rxRetires p) = u at kept adopt edge fifo
  have force : u.rowsInForce = true := kept.rowsInForce.trans hr
  have row : u.portRow p = s.portRow p := by
    unfold State.portRow State.memField State.memBytes
    rw [show u.mem = s.mem from kept.same .mem]
  have taken : u.adoptHere p = u.takeRxRow p := by
    unfold State.adoptHere
    dsimp only
    rw [if_pos (by simp [force, adopt.trans ha, edge he, fifo hf])]
  obtain ⟨a, body⟩ := u.takeRxRow_body p
  obtain ⟨rowTaken, adopted, _⟩ := Port.takeRow_row (u.portRow p) u.roadRuns (u.port p)
  rw [taken, ← row]
  exact ⟨(congrArg Port.rxRow body :).trans rowTaken, (congrArg Port.rxAdopt body :).trans adopted⟩

/-! ### The boundary of a transmit side (08 R239, 14 R431) -/

theorem State.txBoundary_eq (s : State) (p : PortNo) : s.txBoundary p =
    if s.txRetires p && (s.port p).tx.sending.isNone && !(s.view (portView p)).retired then
      (s.retireView (portView p) (s.viewRow (portView p)).hwr).updPort p fun q => { q with txRetired := true }
    else s := rfl

theorem State.txBoundary_keeps (s : State) (p : PortNo) :
    ((s.txBoundary p).port p).rxRetired = (s.port p).rxRetired ∧ ((s.txBoundary p).port p).armed = (s.port p).armed ∧
      ((s.txBoundary p).port p).fifo = (s.port p).fifo := by
  rw [State.txBoundary_eq]
  split
  · have body := (State.retireView_steps (ps := [.mem, .pool, .tx, .sluice]) (portView p) (s.viewRow (portView p)).hwr
      (Steps.refl _ s) rfl).body rfl p
    rw [State.updPort_port_same]
    exact ⟨(congrArg Port.rxRetired body :), (congrArg Port.armed body :), (congrArg Port.fifo body :)⟩
  · exact ⟨rfl, rfl, rfl⟩

/-- A view that is retired stays so; one that a PORT-RETIRE waits for, with no item on the line, is retired. -/
theorem State.txBoundary_retired
    (h : (s.view (portView p)).retired = true ∨ (s.txRetires p = true ∧ (s.port p).tx.sending = none)) :
    ((s.txBoundary p).view (portView p)).retired = true := by
  rw [State.txBoundary_eq]
  split
  · exact State.retireView_retired s (portView p) _
  · next off =>
    rcases h with retired | ⟨waits, free⟩
    · exact retired
    · simpa [waits, free] using off

end boundary

/-! ### Answers among others (06 R189) -/

section answered
variable {s t u : State} {m : Msg} {code status : Nat} {payload : List Byte}

theorem Steps.moreReplies {ps : List Part} (h : Steps ps s t) (hd : ps.contains .drops = false := by rfl) (c : Chan) :
    (s.chan c).replies <+: (t.chan c).replies := by
  obtain ⟨n, k⟩ := h.same .drops hd
  cases c
  · exact n
  · exact k

/-- An answer stands among what is answered later. -/
theorem Replied.answered {ps : List Part} (h : Replied s t m code status payload) (k : Steps ps t u)
    (hd : ps.contains .drops = false := by rfl) : Answered s u m code status payload := by
  obtain ⟨y, more⟩ := k.moreReplies hd m.ch
  refine ⟨[], y, ?_⟩
  rw [← more, h m.ch, if_pos rfl, List.append_nil]

/-- An answer stands among what was answered before. -/
theorem Replied.answered_after {ps : List Part} (k : Steps ps s t) (h : Replied t u m code status payload)
    (hd : ps.contains .drops = false := by rfl) : Answered s u m code status payload := by
  obtain ⟨x, more⟩ := k.moreReplies hd m.ch
  refine ⟨x, [], ?_⟩
  rw [h m.ch, if_pos rfl, ← more, List.append_nil]

/-- What an accepted command's change leaves is noted, with the changes that it set in motion. -/
theorem State.completed_noted {ps : List Part} {c : Chan} {a : Accepted} (hs : s.serves = true) (h : Steps ps s u)
    (hc : Grows s u) (he : ps.contains .engine = false := by rfl) (hp : ps.contains .power = false := by rfl) :
    Noted s ((u.configChange c code).complete a status payload) := by
  obtain ⟨changes, stamped, digest⟩ :=
    State.completed_counts c code status payload a ((h.up he).trans (State.up_of_serves hs))
  exact ⟨changes ▸ Nat.lt_succ_of_le hc, stamped.trans (h.now hp), digest⟩

end answered

/-! ### PORT-SET (08 R238, 10 R287, R288) -/

section portSet
variable {s : State} {m : Msg} {p : PortNo}

/-- The 16 bytes of the port row. -/
def State.rowStored (s : State) (m : Msg) (p : PortNo) : State :=
  s.served.putBytes (portRowAt p.val) (bytesAt m.payload 4 16)

/-- The row waits for each side's boundary. -/
def State.rowAwaits (s : State) (m : Msg) (p : PortNo) : State :=
  ((s.rowStored m p).keepBusRate p).updPort p fun q => { q with rxAdopt := true, txAdopt := true }

/-- Each side has had the chance to adopt its row. -/
def State.rowSet (s : State) (m : Msg) (p : PortNo) : State := ((s.rowAwaits m p).rxBoundary p).adoptTx p

variable (ho : s.offers m 0x0201 inAll portSetFault) (hp : byteAt m.payload 0 = p.val)
include ho hp

theorem exec_portSet_busy (hb : s.portBusy p.val = true) :
    exec (.portSet m) s = .next (s.served.refused m 0x0201 0x0012) := by
  have busy : s.served.portBusy p.val = true := hb
  refine (congrArg Host.Outcome.next (State.serve_of_offers ho)).trans (congrArg Host.Outcome.next ?_)
  simp only [portOf_val hp, busy, if_true]

variable (hb : s.portBusy p.val = false)
include hb

theorem exec_portSet_locked (hl : s.lockedAt (portRowAt p.val) = true) :
    exec (.portSet m) s = .next (s.served.refused m 0x0201 0x0013) := by
  have free : s.served.portBusy p.val = false := hb
  have locked : s.served.lockedAt (portRowAt p.val) = true := hl
  refine (congrArg Host.Outcome.next (State.serve_of_offers ho)).trans (congrArg Host.Outcome.next ?_)
  simp only [portOf_val hp, free, locked, Bool.false_eq_true, if_false, if_true]

theorem exec_portSet (hl : s.lockedAt (portRowAt p.val) = false) :
    exec (.portSet m) s = .next ((s.rowSet m p).changed m 0x0201 []) := by
  have free : s.served.portBusy p.val = false := hb
  have open_ : s.served.lockedAt (portRowAt p.val) = false := hl
  refine (congrArg Host.Outcome.next (State.serve_of_offers ho)).trans (congrArg Host.Outcome.next ?_)
  simp only [portOf_val hp, free, open_, Bool.false_eq_true, if_false]
  rfl

omit hp hb

theorem portSet_length : 36 ≤ m.payload.length := by
  have good := State.check_of_offers ho
  unfold portSetFault at good
  split at good
  · cases good
  · next exact =>
    obtain ⟨fields, _⟩ := exactFault_none exact
    obtain ⟨_, _, _, fields⟩ := fieldsFault_cons_none fields
    obtain ⟨_, _, _, fields⟩ := fieldsFault_cons_none fields
    obtain ⟨_, _, _, fields⟩ := fieldsFault_cons_none fields
    obtain ⟨len, _, _, _⟩ := fieldsFault_cons_none fields
    simp only [upTo, anyFld] at len
    omega

theorem portSet_row : (bytesAt m.payload 4 16).length = 16 :=
  bytesAt_length (by have := portSet_length ho; omega)

theorem State.read_rowStored (hs : MemCanonical s) :
    (∀ k, k < 16 → Memory.read (s.rowStored m p).mem (portRowAt p.val + k) = m.payload.getD (4 + k) 0) ∧
    (∀ a, (a < portRowAt p.val ∨ portRowAt p.val + 16 ≤ a) →
      Memory.read (s.rowStored m p).mem a = Memory.read s.mem a) := by
  have at_ := portRowAt_le p
  have len := portSet_row ho
  refine ⟨fun k hk => ?_, fun a off => ?_⟩
  · rw [← bytesAt_getD hk]
    exact State.read_putBytes_getD (s := s.served) hs (by omega) (by omega)
  · exact State.read_putBytes_of_outside (s := s.served) (by omega) (by omega)

/-- No bus row is a port row. -/
theorem State.rowStored_portBus (hs : MemCanonical s) : (s.rowStored m p).portBus p = s.portBus p := by
  have at_ := portRowAt_le p
  have rows (b : BusNo) : (s.rowStored m p).busRow b = s.busRow b := by
    have bus := busRowAt_range b
    have bytes : (s.rowStored m p).memBytes (busRowAt b.val) 6 = s.memBytes (busRowAt b.val) 6 := by
      unfold State.memBytes
      have stored : MemCanonical (s.rowStored m p) := State.wf_putBytes (s := s.served) hs
      rw [Memory.slice_eq hs, Memory.slice_eq stored]
      refine List.map_congr_left fun k hk => (State.read_rowStored ho hs).2 _ (.inr ?_)
      omega
    unfold State.busRow
    rw [bytes]
  unfold State.portBus
  simp only [rows]

omit ho

theorem State.keepBusRate_of_none {u : State} (h : u.portBus p = none) : u.keepBusRate p = u := by
  unfold State.keepBusRate
  rw [h]

theorem State.read_keepBusRate (u : State) (p : PortNo) {a : Nat} (h : a < portRowAt p.val + 4 ∨ portRowAt p.val + 8 ≤ a) :
    Memory.read (u.keepBusRate p).mem a = Memory.read u.mem a := by
  have at_ := portRowAt_le p
  unfold State.keepBusRate
  split
  · rfl
  · split
    · exact State.read_putBytes_of_outside (by rw [leBytes_length]; omega) (by rwa [leBytes_length])
    · rfl

theorem State.keepBusRate_keeps (u : State) (p : PortNo) : Steps [.mem, .rows] u (u.keepBusRate p) :=
  State.keepBusRate_steps p (Steps.refl _ u) rfl

include ho

theorem State.rowAwaits_steps : Steps [.mem, .rows, .work, .ports, .tx] s (s.rowAwaits m p) := by
  have at_ := portRowAt_le p
  have stored : Steps [.mem, .rows, .work, .ports, .tx] s (s.rowStored m p) := by
    refine State.putBytes_in_steps (r := .rows) ?_ (s.served_steps.widen rfl) rfl
    rw [portSet_row ho]
    exact ⟨by omega, by omega⟩
  exact State.updPort_steps p _ (stored.step (State.keepBusRate_keeps _ p) rfl) rfl

/-- The bytes of the row as it awaits its boundaries, and the bytes around it. -/
theorem State.read_rowAwaits (hs : MemCanonical s) :
    (∀ k, k < 16 → (k < 4 ∨ 8 ≤ k ∨ s.portBus p = none) →
      Memory.read (s.rowAwaits m p).mem (portRowAt p.val + k) = m.payload.getD (4 + k) 0) ∧
    (∀ a, (a < portRowAt p.val ∨ portRowAt p.val + 16 ≤ a) →
      Memory.read (s.rowAwaits m p).mem a = Memory.read s.mem a) := by
  obtain ⟨row, rest⟩ := State.read_rowStored (p := p) ho hs
  refine ⟨fun k hk where_ => ?_, fun a off => ?_⟩
  · rw [← row k hk]
    show Memory.read ((s.rowStored m p).keepBusRate p).mem _ = _
    rcases where_ with low | high | none_
    · exact State.read_keepBusRate _ p (.inl (by omega))
    · exact State.read_keepBusRate _ p (.inr (by omega))
    · rw [State.keepBusRate_of_none ((State.rowStored_portBus ho hs).trans none_)]
  · rw [← rest a off]
    exact State.read_keepBusRate _ p (by omega)

omit ho

theorem State.adoptTx_rx (u : State) (p : PortNo) : ((u.adoptTx p).port p).rxRow = (u.port p).rxRow ∧
    ((u.adoptTx p).port p).rxAdopt = (u.port p).rxAdopt := by
  have joined (q : Port) (due : Bool) : (q.join due).rxRow = q.rxRow ∧ (q.join due).rxAdopt = q.rxAdopt := by
    unfold Port.join
    split <;> exact ⟨rfl, rfl⟩
  unfold State.adoptTx
  dsimp only
  split
  · rw [State.updPort_port_same, State.updPort_port_same]
    exact joined _ _
  · exact ⟨rfl, rfl⟩

theorem State.rowSet_steps (s : State) (m : Msg) (p : PortNo) : Steps hedgeParts (s.rowAwaits m p) (s.rowSet m p) :=
  State.adoptTx_steps p (State.rxBoundary_steps p (Steps.refl _ _) rfl) rfl

include ho

theorem State.rowSet_grows : Grows s (s.rowSet m p) :=
  (State.rowAwaits_steps (p := p) ho).grows.trans ((State.rxBoundary_grows _ p).trans
    (State.adoptTx_steps (ps := [.ports, .tx]) p (Steps.refl _ _) rfl).grows)

theorem State.rowSet_adopts (hi : (s.port p).asm.state = .hunt) (he : (s.port p).edge = none) (hf : (s.port p).fifo = [])
    (hr : s.rowsInForce = true) : ((s.rowSet m p).port p).rxRow = (s.rowAwaits m p).portRow p ∧
      ((s.rowSet m p).port p).rxAdopt = false := by
  have awaits := State.rowAwaits_steps (m := m) (p := p) ho
  have stored : Steps [.mem, .rows, .work] s ((s.rowStored m p).keepBusRate p) := by
    have at_ := portRowAt_le p
    refine (State.putBytes_in_steps (r := .rows) ?_ (s.served_steps.widen rfl) rfl).step (State.keepBusRate_keeps _ p) rfl
    rw [portSet_row ho]
    exact ⟨by omega, by omega⟩
  have port : (s.rowAwaits m p).port p = { s.port p with rxAdopt := true, txAdopt := true } := by
    rw [State.rowAwaits, State.updPort_port_same, stored.port_eq]
  have force : (s.rowAwaits m p).rowsInForce = true := awaits.rowsInForce.trans hr
  obtain ⟨row, adopt⟩ := State.adoptTx_rx ((s.rowAwaits m p).rxBoundary p) p
  have boundary := State.rxBoundary_adopts (s := s.rowAwaits m p) (p := p)
    (by rw [port]; exact decide_eq_true hi) (by rw [port]; exact he) (by rw [port]; exact hf) (by rw [port]) force
  exact ⟨row.trans boundary.1, adopt.trans boundary.2⟩

end portSet

/-! ### PORT-RETIRE (08 R239) -/

section portRetire
variable {s : State} {m : Msg} {p : PortNo}

theorem bitsOf_one_one (v : Nat) : bitsOf v 1 1 = v / 2 % 2 := rfl

/-- PORT-RETIRE is accepted. -/
def State.retiring (s : State) (m : Msg) (p : PortNo) (rx tx : Bool) : State :=
  s.served.accept m 0x0203 (.portRetire p rx tx)

/-- Each side has had the chance to retire. -/
def State.sidesRetired (s : State) (m : Msg) (p : PortNo) (rx tx : Bool) : State :=
  ((s.retiring m p rx tx).rxBoundary p).txBoundary p

theorem State.retiring_steps (s : State) (m : Msg) (p : PortNo) (rx tx : Bool) :
    Steps [.replies, .work] s (s.retiring m p rx tx) :=
  State.accept_steps _ _ _ (s.served_steps.widen rfl) rfl

/-- What the boundaries of a port touch. -/
def boundaryParts : List Part := [.mem, .pool, .draws, .irq, .bells, .replies, .changes, .ports, .tx, .sluice, .lamps,
  .buses, .heads, .pair, .journal, .tag, .inject]

theorem State.boundaries_steps (s : State) (p : PortNo) : Steps boundaryParts s ((s.rxBoundary p).txBoundary p) :=
  State.txBoundary_steps p (State.rxBoundary_steps p (Steps.refl _ s) rfl) rfl

theorem State.boundaries_grows (s : State) (p : PortNo) : Grows s ((s.rxBoundary p).txBoundary p) :=
  (s.rxBoundary_grows p).trans (State.txBoundary_steps (ps := [.mem, .pool, .ports, .tx, .sluice]) p (Steps.refl _ _) rfl).grows

theorem State.retiring_accepted (s : State) (m : Msg) (p : PortNo) (rx tx : Bool) :
    (s.retiring m p rx tx).engine.accepted = s.engine.accepted ++
      [{ ch := m.ch, code := 0x0203, tag := m.tag, work := .portRetire p rx tx }] :=
  State.accept_accepted s.served m 0x0203 _

theorem State.retiring_rxRetires (s : State) (m : Msg) (p : PortNo) (tx : Bool) :
    (s.retiring m p true tx).rxRetires p = true := by
  unfold State.rxRetires
  rw [State.retiring_accepted, List.any_append]
  simp

theorem State.retiring_txRetires (s : State) (m : Msg) (p : PortNo) (rx : Bool) :
    (s.retiring m p rx true).txRetires p = true := by
  unfold State.txRetires
  rw [State.retiring_accepted, List.any_append]
  simp

theorem State.txRetires_congr {s t : State} (h : t.engine.accepted = s.engine.accepted) :
    t.txRetires p = s.txRetires p := by
  unfold State.txRetires
  rw [h]

/-- A receive side that is named and at its boundary is retired at once. -/
theorem State.sidesRetired_rx (tx : Bool) (hi : (s.port p).asm.state = .hunt) (hn : (s.port p).rxRetired = false) :
    ((s.sidesRetired m p true tx).port p).rxRetired = true ∧ ((s.sidesRetired m p true tx).port p).armed = false ∧
      ((s.sidesRetired m p true tx).port p).fifo = [] := by
  have port := (s.retiring_steps m p true tx).port_eq p
  obtain ⟨retired, armed, fifo⟩ := State.rxBoundary_retires (s := s.retiring m p true tx) (p := p)
    (by rw [port]; exact decide_eq_true hi) (s.retiring_rxRetires m p tx) (by rw [port]; exact hn)
  obtain ⟨keepRetired, keepArmed, keepFifo⟩ := ((s.retiring m p true tx).rxBoundary p).txBoundary_keeps p
  exact ⟨keepRetired.trans retired, keepArmed.trans armed, keepFifo.trans fifo⟩

/-- A view that is named, with no item on the line, is retired at once. -/
theorem State.sidesRetired_tx (rx : Bool) (hs : (s.port p).tx.sending = none) :
    ((s.sidesRetired m p rx true).view (portView p)).retired = true := by
  have port := (s.retiring_steps m p rx true).port_eq p
  have boundary : Steps boundaryParts (s.retiring m p rx true) ((s.retiring m p rx true).rxBoundary p) :=
    State.rxBoundary_steps p (Steps.refl _ _) rfl
  refine State.txBoundary_retired (.inr ⟨?_, ?_⟩)
  · obtain ⟨_, accepted, _⟩ := boundary.same .work
    rw [State.txRetires_congr accepted, State.retiring_txRetires]
  · rw [State.rxBoundary_sending, port, hs]

variable (ho : s.offers m 0x0203 inWork sidesFault) (hp : byteAt m.payload 0 = p.val) (hb : s.portBusy p.val = false)
include ho hp hb

theorem exec_portRetire (hn : (byteAt m.payload 1 % 2 = 1 ∧ (s.port p).rxRetired = false) ∨
      (byteAt m.payload 1 / 2 % 2 = 1 ∧ (s.view (portView p)).retired = false)) :
    ∃ rx tx : Bool, (rx = true ↔ byteAt m.payload 1 % 2 = 1 ∧ (s.port p).rxRetired = false) ∧
      (tx = true ↔ byteAt m.payload 1 / 2 % 2 = 1 ∧ (s.view (portView p)).retired = false) ∧
      exec (.portRetire m) s = .next (s.sidesRetired m p rx tx) := by
  have free : s.served.portBusy p.val = false := hb
  have port : s.served.port p = s.port p := rfl
  have view : s.served.view (portView p) = s.view (portView p) := rfl
  refine ⟨decide (bitsOf (byteAt m.payload 1) 0 1 = 1 ∧ (!(s.port p).rxRetired) = true),
    decide (bitsOf (byteAt m.payload 1) 1 1 = 1 ∧ (!(s.view (portView p)).retired) = true), ?_, ?_, ?_⟩
  · simp [bitsOf_zero_one]
  · simp [bitsOf_one_one]
  · refine (congrArg Host.Outcome.next (State.serve_of_offers ho)).trans (congrArg Host.Outcome.next ?_)
    simp only [portOf_val hp, free, Bool.false_eq_true, if_false, port, view]
    rw [if_pos (by simpa [bitsOf_zero_one, bitsOf_one_one] using hn)]
    rfl

theorem exec_portRetire_none (hr : byteAt m.payload 1 % 2 = 1 → (s.port p).rxRetired = true)
    (ht : byteAt m.payload 1 / 2 % 2 = 1 → (s.view (portView p)).retired = true) :
    exec (.portRetire m) s = .next (s.served.changed m 0x0203 []) := by
  have free : s.served.portBusy p.val = false := hb
  have port : s.served.port p = s.port p := rfl
  have view : s.served.view (portView p) = s.view (portView p) := rfl
  refine (congrArg Host.Outcome.next (State.serve_of_offers ho)).trans (congrArg Host.Outcome.next ?_)
  simp only [portOf_val hp, free, Bool.false_eq_true, if_false, port, view]
  rw [if_neg]
  simp only [bitsOf_zero_one, bitsOf_one_one, Bool.not_eq_true', not_or, not_and, Bool.not_eq_false]
  exact ⟨hr, ht⟩

omit ho hp hb

/-- The boundaries keep what a PORT-RETIRE has retired, and retire a view that it waits for. -/
theorem exec_portRetireDone {a : Accepted} {rx tx : Bool} (hs : s.serves = true) (ha : a ∈ s.engine.accepted)
    (hw : a.work = .portRetire p rx tx) (only : ∀ b, b ∈ s.engine.accepted → (∃ x y, b.work = .portRetire p x y) → b = a)
    (hr : rx = true → (s.port p).rxRetired = true) (ht : tx = true → (s.view (portView p)).retired = true) :
    exec (.portRetireDone p) s =
      .next ((((s.rxBoundary p).txBoundary p).configChange a.ch a.code.toNat).complete a 0 []) := by
  obtain ⟨_, accepted, _⟩ := (s.boundaries_steps p).same .work
  have rxDone : rx = true → (((s.rxBoundary p).txBoundary p).port p).rxRetired = true := fun named =>
    ((s.rxBoundary p).txBoundary_keeps p).1.trans (State.rxBoundary_rxRetired (hr named))
  have txDone : tx = true → (((s.rxBoundary p).txBoundary p).view (portView p)).retired = true := fun named =>
    State.txBoundary_retired (.inl ((s.rxBoundary_views p (portView p)).trans (ht named)))
  show execPortRetireDone p s = _
  unfold execPortRetireDone
  dsimp only
  rw [accepted, find?_of_only ha]
  · dsimp only
    rw [hs, if_pos rfl]
  · rw [hw]
    cases rx <;> cases tx <;> simp [rxDone, txDone]
  · intro c hc fits
    refine only c hc ?_
    split at fits
    · next q x y eq =>
      simp only [Bool.and_eq_true, decide_eq_true_eq] at fits
      obtain ⟨⟨rfl, _⟩, _⟩ := fits
      exact ⟨x, y, eq⟩
    all_goals exact absurd fits Bool.false_ne_true

end portRetire

/-! ### PORT-RETURN (14 R430-R432) -/

section portReturn
variable {s : State} {m : Msg} {p : PortNo}

/-- The receive side is armed again, if it was retired. -/
def State.rxReturned (s : State) (p : PortNo) (named : Prop) [Decidable named] : State :=
  if named ∧ (s.port p).rxRetired then
    if ((s.updPort p fun q => { q with rxRetired := false }).port p).parked then
      s.updPort p fun q => { q with rxRetired := false }
    else (s.updPort p fun q => { q with rxRetired := false }).armRx p
  else s

/-- The transmit side is returned. -/
def State.txReturned (s : State) (p : PortNo) (named : Prop) [Decidable named] : State :=
  if named then
    (s.updPort p fun q => { q with txRetired := false }).updView (portView p) fun v => { v with retired := false }
  else s

theorem State.rxReturned_steps (s : State) (p : PortNo) (named : Prop) [Decidable named] :
    Steps [.mem, .pool, .ports, .tx, .sluice] s (s.rxReturned p named) := by
  have marked : Steps [.mem, .pool, .ports, .tx, .sluice] s (s.updPort p fun q => { q with rxRetired := false }) :=
    State.updPort_steps p _ (Steps.refl _ s) rfl
  exact Steps.ite (Steps.ite marked (State.armRx_steps p marked rfl)) (Steps.refl _ s)

theorem State.txReturned_steps (s : State) (p : PortNo) (named : Prop) [Decidable named] :
    Steps [.ports, .tx, .sluice] s (s.txReturned p named) :=
  Steps.ite (State.updView_steps _ _ (State.updPort_steps p _ (Steps.refl _ s) rfl) rfl) (Steps.refl _ s)

/-- A receive side that is named is no longer retired; it is armed unless it is parked. -/
theorem State.rxReturned_port (s : State) (p : PortNo) {named : Prop} [Decidable named] (h : named) :
    ((s.rxReturned p named).port p).rxRetired = false ∧ ((s.port p).rxRetired = true → (s.port p).parked = false →
      ((s.rxReturned p named).port p).fifo = [] ∧ ((s.rxReturned p named).port p).armed = (s.port p).hears) := by
  have marked : (s.updPort p fun q => { q with rxRetired := false }).port p = { s.port p with rxRetired := false } :=
    State.updPort_port_same _ _ _
  have arms (q : Port) : q.arm.rxRetired = q.rxRetired := by
    unfold Port.arm
    split <;> rfl
  unfold State.rxReturned
  split
  · next retired =>
    split
    · next parked =>
      rw [marked] at parked ⊢
      exact ⟨rfl, fun _ off => absurd (parked.symm.trans off) (by decide)⟩
    · rw [State.armRx_port, marked]
      refine ⟨arms _, fun _ _ => ⟨Port.arm_fifo _, ?_⟩⟩
      rw [Port.arm_armed]
      exact Bool.and_true _
  · next off =>
    have out : (s.port p).rxRetired = false := Bool.eq_false_iff.2 fun on => off ⟨h, on⟩
    exact ⟨out, fun on => absurd (out.symm.trans on) (by decide)⟩

/-- The transmit side's return leaves the receive side. -/
theorem State.txReturned_keeps (s : State) (p : PortNo) (named : Prop) [Decidable named] :
    ((s.txReturned p named).port p).rxRetired = (s.port p).rxRetired ∧
    ((s.txReturned p named).port p).fifo = (s.port p).fifo ∧ ((s.txReturned p named).port p).armed = (s.port p).armed := by
  have marked : (s.updPort p fun q => { q with txRetired := false }).port p = { s.port p with txRetired := false } :=
    State.updPort_port_same _ _ _
  unfold State.txReturned
  split
  · show ((s.updPort p fun q => { q with txRetired := false }).port p).rxRetired = _ ∧
      ((s.updPort p fun q => { q with txRetired := false }).port p).fifo = _ ∧
      ((s.updPort p fun q => { q with txRetired := false }).port p).armed = _
    rw [marked]
    exact ⟨rfl, rfl, rfl⟩
  · exact ⟨rfl, rfl, rfl⟩

theorem State.txReturned_named (s : State) (p : PortNo) {named : Prop} [Decidable named] (h : named) :
    ((s.txReturned p named).port p).txRetired = false ∧ ((s.txReturned p named).view (portView p)).retired = false := by
  have marked : (s.updPort p fun q => { q with txRetired := false }).port p = { s.port p with txRetired := false } :=
    State.updPort_port_same _ _ _
  rw [State.txReturned, if_pos h]
  exact ⟨(congrArg Port.txRetired marked :), congrArg View.retired (upd_get_self s.sluice.views (portView p) _)⟩

variable (ho : s.offers m 0x0204 inWork sidesFault) (hp : byteAt m.payload 0 = p.val)
include ho hp

theorem exec_portReturn_busy (hb : s.portBusy p.val = true) :
    exec (.portReturn m) s = .next (s.served.refused m 0x0204 0x0012) := by
  have busy : s.served.portBusy p.val = true := hb
  refine (congrArg Host.Outcome.next (State.serve_of_offers ho)).trans (congrArg Host.Outcome.next ?_)
  simp only [portOf_val hp, busy, if_true]

theorem exec_portReturn (hb : s.portBusy p.val = false) : exec (.portReturn m) s =
    .next (((s.served.rxReturned p (byteAt m.payload 1 % 2 = 1)).txReturned p (byteAt m.payload 1 / 2 % 2 = 1)).changed m
      0x0204 []) := by
  have free : s.served.portBusy p.val = false := hb
  refine (congrArg Host.Outcome.next (State.serve_of_offers ho)).trans (congrArg Host.Outcome.next ?_)
  simp only [portOf_val hp, free, Bool.false_eq_true, if_false, bitsOf_zero_one, bitsOf_one_one]
  rfl

end portReturn

/-- Settles O44: each clause is the equation of its command on the state without the message, and what the boundaries of
the port leave of it. -/
theorem portCommandsActOnTheirPort : Obligations.PortCommandsActOnTheirPort := by
  refine ⟨fun s m p ho hp hb hl hs => ?_, fun s m p ho hp hb => exec_portSet_busy ho hp hb,
    fun s m p ho hp hb hl => exec_portSet_locked ho hp hb hl, fun s m p ho hp hb hn => ?_, fun s m p ho hp hb hr ht => ?_,
    fun s p a rx tx hs ha hw only hr ht => ?_, fun s m p ho hp hb => ?_, fun s m p ho hp hb => exec_portReturn_busy ho hp hb⟩
  case refine_1 =>
    have x := exec_portSet ho hp hb hl
    have at_ := portRowAt_le p
    have awaits := State.rowAwaits_steps (p := p) ho
    have set : Steps (.rows :: .work :: hedgeParts) s (s.rowSet m p) := (awaits.widen rfl).step (s.rowSet_steps m p) rfl
    have kept := State.changed_keeps (s.rowSet m p) m 0x0201 []
    have read {a : Nat} (ha : 0xC0000 ≤ a) : Memory.read ((s.rowSet m p).changed m 0x0201 []).mem a =
        Memory.read (s.rowAwaits m p).mem a := by
      rw [show ((s.rowSet m p).changed m 0x0201 []).mem = (s.rowSet m p).mem from kept.same .mem]
      exact (s.rowSet_steps m p).read_upper (awaits.2 hs) ha
    have row : ((s.rowSet m p).changed m 0x0201 []).portRow p = (s.rowAwaits m p).portRow p :=
      State.portRow_congr (awaits.2 hs) (kept.2 (set.2 hs)) fun k _ => read (by omega)
    have port : ((s.rowSet m p).changed m 0x0201 []).port p = (s.rowSet m p).port p := kept.port_eq p
    obtain ⟨bytes, rest⟩ := State.read_rowAwaits (p := p) ho hs
    refine ⟨_, x, State.changed_answered set, State.changed_noted (State.serves_of_offers ho) set (State.rowSet_grows ho),
      fun k hk where_ => (read (by omega)).trans (bytes k hk where_), fun a ha off => (read ha).trans (rest a off),
      fun hi he hf hr => ?_, only_parts_of_exec x⟩
    rw [row, port]
    exact State.rowSet_adopts ho hi he hf hr
  case refine_2 =>
    obtain ⟨rx, tx, named, viewNamed, x⟩ := exec_portRetire ho hp hb hn
    have boundaries := (s.retiring m p rx tx).boundaries_steps p
    obtain ⟨_, accepted, _⟩ := boundaries.same .work
    have replied : Replied s (s.retiring m p rx tx) m 0x0203 1 [] := State.accept_replied s.served m 0x0203 _
    refine ⟨_, x, replied.answered boundaries, ⟨rx, tx, accepted.trans (s.retiring_accepted m p rx tx)⟩,
      fun asked out hi => ?_, fun asked out free => ?_, only_parts_of_exec x⟩
    · cases named.2 ⟨asked, out⟩
      exact State.sidesRetired_rx tx hi out
    · cases viewNamed.2 ⟨asked, out⟩
      exact State.sidesRetired_tx rx free
  case refine_3 =>
    have x := exec_portRetire_none ho hp hb hr ht
    exact ⟨_, x, State.changed_replied s.served_steps, State.changed_counted (State.serves_of_offers ho) s.served_steps,
      only_parts_of_exec x⟩
  case refine_4 =>
    have x := exec_portRetireDone hs ha hw only hr ht
    have boundaries := s.boundaries_steps p
    have changed : Steps boundaryParts s (((s.rxBoundary p).txBoundary p).configChange a.ch a.code.toNat) :=
      State.configChange_steps _ _ boundaries rfl
    exact ⟨_, x, Replied.answered_after changed (State.complete_replied _ a 0 []),
      State.completed_noted hs boundaries (s.boundaries_grows p), State.completed_accepted boundaries,
      only_parts_of_exec x⟩
  case refine_5 =>
    have x := exec_portReturn ho hp hb
    have returned : Steps [.mem, .pool, .ports, .tx, .sluice, .work] s
        ((s.served.rxReturned p (byteAt m.payload 1 % 2 = 1)).txReturned p (byteAt m.payload 1 / 2 % 2 = 1)) :=
      ((s.served_steps.widen rfl).step (State.rxReturned_steps _ p _) rfl).step (State.txReturned_steps _ p _) rfl
    have kept := State.changed_keeps ((s.served.rxReturned p (byteAt m.payload 1 % 2 = 1)).txReturned p
      (byteAt m.payload 1 / 2 % 2 = 1)) m 0x0204 []
    have port := kept.port_eq p
    have sluice := (kept.same .sluice : _ = State.sluice _)
    obtain ⟨retired, fifo, armed⟩ := (s.served.rxReturned p (byteAt m.payload 1 % 2 = 1)).txReturned_keeps p
      (byteAt m.payload 1 / 2 % 2 = 1)
    refine ⟨_, x, State.changed_replied returned, State.changed_counted (State.serves_of_offers ho) returned,
      fun named => ?_, fun named => ?_, only_parts_of_exec x⟩
    · obtain ⟨out, hears⟩ := s.served.rxReturned_port p named
      rw [port, retired, fifo, armed]
      exact ⟨out, hears⟩
    · obtain ⟨out, view⟩ := (s.served.rxReturned p (byteAt m.payload 1 % 2 = 1)).txReturned_named p named
      rw [port]
      exact ⟨out, (congrArg (fun l : Sluice => (l.views.get (portView p)).retired) sluice).trans view⟩

end Sys2Proof.Machine
end

section
/-!
PROOFS. A device gives duty up or takes it: its role, its listeners, its drivers and its buses (17 R516, R517, R521, R536).
-/
set_option Elab.async false
namespace Sys2Proof.Machine

/-- What frames and numbers leave of a pair. -/
theorem Pair.of_core {p q : Pair} (h : p.core = q.core) : p.role = q.role ∧ p.dutyOut = q.dutyOut ∧ p.dutyIn = q.dutyIn ∧
    p.handover = q.handover ∧ p.armed = q.armed ∧ p.formed = q.formed ∧ p.dozeDrives = q.dozeDrives :=
  ⟨(congrArg Pair.role h :), (congrArg Pair.dutyOut h :), (congrArg Pair.dutyIn h :), (congrArg Pair.handover h :),
    (congrArg Pair.armed h :), (congrArg Pair.formed h :), (congrArg Pair.dozeDrives h :)⟩

theorem Settled.driver {s t : State} (h : Settled s t) (p : PortNo) : (t.port p).driver = (s.port p).driver :=
  (congrArg Port.driver (h.body p) :)

/-! ### A bus that stops (03 Table - Modes) -/

section buses
variable {s t u : State}

/-- How each bus stands is as it was. -/
def SameBusState (s t : State) : Prop := ∀ c, (t.bus c).state = (s.bus c).state

theorem SameBusState.steps {ps : List Part} (h : SameBusState s t) (k : Steps ps t u)
    (hp : ps.contains .buses = false := by rfl) : SameBusState s u := fun c =>
  (congrArg (fun v : Vector Bus 8 => (v.get c).state) (k.same .buses hp :)).trans (h c)

theorem SameBusState.updBus (h : SameBusState s t) (b : BusNo) {f : Bus → Bus} (hf : ∀ v, (f v).state = v.state) :
    SameBusState s (t.updBus b f) := fun c => (upd_same t.buses b c f Bus.state hf).trans (h c)

theorem SameBusState.headRetired (h : SameBusState s t) (b : BusNo) (d : HeadNo) : SameBusState s (t.headRetired b d) := by
  have dropped : SameBusState s (t.headDropped b d) := by
    refine SameBusState.updBus (SameBusState.updBus (h.steps
      (State.updHead_steps (ps := [.heads]) b d _ (Steps.refl _ t) rfl)) b ?_) b ?_
    · exact fun _ => rfl
    · exact fun _ => rfl
  unfold State.headRetired
  split
  · exact dropped
  · exact dropped.steps (State.lampsChanged_steps _ _ _)

theorem SameBusState.endRetire (h : SameBusState s t) (b : BusNo) : SameBusState s (t.endRetire b) := by
  unfold State.endRetire
  split
  · rw [State.retireHead_eq]
    refine SameBusState.steps (SameBusState.headRetired (h.updBus b ?_) b _) (State.changed_keeps _ _ _ _)
    exact fun _ => rfl
  · exact h

theorem State.stopBus_own (s : State) (b : BusNo) : ((s.stopBus b).bus b).state = .stopped := by
  rw [State.stopBus_eq, (SameBusState.endRetire (fun _ => rfl) b) b, State.forgetBus_bus]
  rfl

theorem State.stopBus_other {b c : BusNo} (h : c ≠ b) : ((s.stopBus b).bus c).state = (s.bus c).state := by
  have kept : (s.unattend b).buses = s.buses := (State.unattend_steps (ps := [.heads]) b (Steps.refl _ s) rfl).same .buses
  have forgotten : (s.forgetBus b Bus.stop).bus c = s.bus c := by
    show (upd (s.unattend b).buses b Bus.stop).get c = s.buses.get c
    rw [upd_get_ne _ _ h, kept]
  rw [State.stopBus_eq, (SameBusState.endRetire (fun _ => rfl) b) c, forgotten]

/-- A bus that runs stops. -/
def State.quietBus (s : State) (b : BusNo) : State := if (s.bus b).state = .stopped then s else s.stopBus b

theorem Settled.quietBus (h : Settled s t) (b : BusNo) : Settled s (t.quietBus b) := by
  unfold State.quietBus
  split
  · exact h
  · exact h.stopBus b

theorem Quiet.quietBus (h : Quiet s t) (b : BusNo) : Quiet s (t.quietBus b) := by
  unfold State.quietBus
  split
  · exact h
  · exact h.stopBus b

theorem State.eachBus_quietBus (s : State) (b : BusNo) : ((s.eachBus State.quietBus).bus b).state = .stopped := by
  have others (t : State) (b c : BusNo) (h : c ≠ b) : ((t.quietBus b).bus c).state = (t.bus c).state := by
    unfold State.quietBus
    split
    · rfl
    · exact State.stopBus_other h
  obtain ⟨t, -, -, left⟩ := foldl_key_of_mem (f := State.quietBus) (I := fun _ => True) (s := s)
    (key := fun (t : State) (b : BusNo) => (t.bus b).state) (fun _ _ _ => trivial) (fun t b c _ h => others t b c h) trivial
    (List.nodup_finRange 8) (List.mem_finRange b)
  refine left.trans ?_
  show ((t.quietBus b).bus b).state = .stopped
  unfold State.quietBus
  split
  · assumption
  · exact t.stopBus_own b

end buses

/-! ### Duty is given up (17 R517, R521) -/

section yield
variable {s t : State} {p : PortNo}

/-- A listener's item is cut as its driver goes high-impedance. -/
def State.releaseTurn (s : State) (p : PortNo) : State :=
  if (s.port p).txc.tx = .listener then s.cutSending p true else s

/-- A listener's driver is high-impedance. -/
def Port.release (q : Port) : Port := if q.txc.tx = .listener then q.drive false else q

theorem State.releaseListeners_eq (s : State) : s.releaseListeners =
    (s.eachPort State.releaseTurn).mapPorts Port.release := rfl

theorem State.releaseTurn_line_ne {p q : PortNo} (h : q ≠ p) : ((s.releaseTurn p).port q).line = (s.port q).line := by
  unfold State.releaseTurn
  split
  · cases hx : (s.port p).tx.sending with
    | none =>
      unfold State.cutSending
      rw [hx]
    | some x => rw [(State.cutSending_quiet hx true).line q, State.freeLine, State.updTx, State.updPort_port_ne _ _ h]
  · rfl

theorem Port.tx_of_line {q r : Port} (h : q.line = r.line) : q.txc.tx = r.txc.tx ∧ q.tx.sending = r.tx.sending := by
  obtain ⟨-, row, -, sending, -⟩ := Port.of_line h
  refine ⟨?_, sending⟩
  unfold Port.txc
  rw [row]

/-- A listener's turn frees its line; another port keeps what is on it. -/
theorem State.releaseTurn_own (s : State) (p : PortNo) :
    ((s.releaseTurn p).port p).txc.tx = (s.port p).txc.tx ∧ ((s.releaseTurn p).port p).tx.sending =
      if (s.port p).txc.tx = .listener then none else (s.port p).tx.sending := by
  unfold State.releaseTurn
  split
  · cases hx : (s.port p).tx.sending with
    | none =>
      unfold State.cutSending
      rw [hx]
      exact ⟨rfl, hx⟩
    | some x =>
      obtain ⟨tx, sending⟩ := Port.tx_of_line ((State.cutSending_quiet hx true).line p)
      rw [tx, sending, State.freeLine, State.updTx, State.updPort_port_same]
      exact ⟨rfl, rfl⟩
  · exact ⟨rfl, rfl⟩

theorem State.releaseListeners_port (s : State) (p : PortNo) :
    (s.releaseListeners.port p).tx.sending = (if (s.port p).txc.tx = .listener then none else (s.port p).tx.sending) ∧
    ((s.port p).txc.tx = .listener → (s.releaseListeners.port p).driver = false) := by
  obtain ⟨t, -, met, left⟩ := State.eachPort_key (f := State.releaseTurn) (I := fun _ => True)
    (key := fun t p => (t.port p).line) (s := s) (fun _ _ _ => trivial) (fun t p q _ h => State.releaseTurn_line_ne h)
    trivial p
  obtain ⟨txMet, sendingMet⟩ := Port.tx_of_line met
  obtain ⟨txLeft, sendingLeft⟩ := Port.tx_of_line left
  obtain ⟨txOwn, sendingOwn⟩ := t.releaseTurn_own p
  have kept (q : Port) : q.release.tx.sending = q.tx.sending := by
    unfold Port.release
    split <;> rfl
  rw [State.releaseListeners_eq, State.mapPorts_port]
  refine ⟨?_, fun listener => ?_⟩
  · rw [kept, sendingLeft, sendingOwn, txMet, sendingMet]
  · rw [Port.release, if_pos (txLeft.trans (txOwn.trans (txMet.trans listener)))]
    rfl

/-- The pair of a device that gives duty up. -/
def Pair.yielded (r : Role) (p : Pair) : Pair := { p with role := r, dutyOut := false, forming := false, caughtUp := false }

theorem State.yieldDuty_eq (s : State) (r : Role) :
    s.yieldDuty r = ((s.setPair (Pair.yielded r)).releaseListeners).eachBus State.quietBus := rfl

theorem State.yieldDuty_settled (s : State) (r : Role) :
    Settled (s.setPair (Pair.yielded r)).releaseListeners (s.yieldDuty r) := by
  rw [State.yieldDuty_eq, State.eachBus]
  exact Settled.foldl _ (Settled.refl _) fun _ b hu => hu.quietBus b

theorem State.yieldDuty_core (s : State) (r : Role) : (s.yieldDuty r).pair.core = (s.pair.yielded r).core := by
  have released : Steps [.mem, .pool, .ports, .tx, .sluice] (s.setPair (Pair.yielded r))
      (s.setPair (Pair.yielded r)).releaseListeners := State.releaseListeners_steps (Steps.refl _ _) rfl
  exact (s.yieldDuty_settled r).core.trans (congrArg Pair.core (released.same .pair :))

theorem State.yieldDuty_stopped (s : State) (r : Role) (b : BusNo) : ((s.yieldDuty r).bus b).state = .stopped := by
  rw [State.yieldDuty_eq]
  exact State.eachBus_quietBus _ b

theorem State.yieldDuty_sending (s : State) (r : Role) (p : PortNo) : ((s.yieldDuty r).port p).tx.sending =
    if (s.port p).txc.tx = .listener then none else (s.port p).tx.sending := by
  have stopped : Quiet (s.setPair (Pair.yielded r)).releaseListeners (s.yieldDuty r) := by
    rw [State.yieldDuty_eq, State.eachBus]
    exact Quiet.foldl _ (Quiet.refl _) fun _ b hu => hu.quietBus b
  obtain ⟨-, sending⟩ := Port.tx_of_line (stopped.line p)
  exact sending.trans (State.releaseListeners_port (s.setPair (Pair.yielded r)) p).1

theorem State.yieldDuty_driver (s : State) (r : Role) (h : (s.port p).txc.tx = .listener) :
    ((s.yieldDuty r).port p).driver = false :=
  ((s.yieldDuty_settled r).driver p).trans ((State.releaseListeners_port (s.setPair (Pair.yielded r)) p).2 h)

/-- What a yield that is told leaves: the role, the listeners and the buses. -/
theorem State.yielded_told (s : State) (r : Role) : (s.yieldDuty r).pairBell.pair.role = r ∧
    (s.yieldDuty r).pairBell.pair.dutyOut = false ∧ (s.yieldDuty r).pairBell.pair.dutyIn = s.pair.dutyIn ∧
    (∀ b, ((s.yieldDuty r).pairBell.bus b).state = .stopped) ∧
    ∀ p, (s.port p).txc.tx = .listener →
      ((s.yieldDuty r).pairBell.port p).driver = false ∧ ((s.yieldDuty r).pairBell.port p).tx.sending = none := by
  have told : Steps [.irq, .bells, .journal] (s.yieldDuty r) (s.yieldDuty r).pairBell :=
    State.pairBell_steps (Steps.refl _ _) rfl
  obtain ⟨role, dutyOut, dutyIn, -, -, -, -⟩ := Pair.of_core (s.yieldDuty_core r)
  have port (p : PortNo) : (s.yieldDuty r).pairBell.port p = (s.yieldDuty r).port p := told.port_eq p rfl rfl
  rw [State.pairBell_pair]
  refine ⟨role, dutyOut, dutyIn, fun b => ?_, fun p listener => ?_⟩
  · exact (SameBusState.steps (fun _ => rfl) told rfl b).trans (s.yieldDuty_stopped r b)
  · rw [port p]
    exact ⟨s.yieldDuty_driver r listener, (s.yieldDuty_sending r p).trans (if_pos listener)⟩

end yield

/-! ### Duty is taken (17 R516, R536) -/

section become
variable {s t u : State}

/-- The pair of a device that takes duty. -/
def Pair.onDuty (p : Pair) : Pair := { p with role := .duty, dutyOut := true }

/-- A bus that the device is to run begins its join. -/
def State.joinTurn (s : State) (b : BusNo) : State := if s.hedgeOn b then s.beginJoin b else s

theorem State.becomeDuty_eq (s : State) :
    s.becomeDuty = ((s.setPair Pair.onDuty).driveAll).eachBus State.joinTurn := rfl

theorem Settled.joinTurn (h : Settled s t) (b : BusNo) : Settled s (t.joinTurn b) := by
  unfold State.joinTurn
  split
  · exact h.beginJoin b
  · exact h

theorem State.becomeDuty_settled (s : State) : Settled (s.setPair Pair.onDuty).driveAll s.becomeDuty := by
  rw [State.becomeDuty_eq, State.eachBus]
  exact Settled.foldl _ (Settled.refl _) fun _ b hu => hu.joinTurn b

theorem State.becomeDuty_core (s : State) : s.becomeDuty.pair.core = s.pair.onDuty.core := s.becomeDuty_settled.core

/-- Where power, modes and the role stand, the same drivers are due. -/
theorem Steps.driverDue {ps : List Part} (h : Steps ps s t) (hc : t.pair.core = s.pair.core) (x : TxRole)
    (hp : ps.contains .power = false := by rfl) (hm : ps.contains .modes = false := by rfl) :
    t.driverDue x = s.driverDue x := by
  have power : t.power = s.power := h.same .power hp
  have modes : t.modes = s.modes := h.same .modes hm
  obtain ⟨role, -, -, -, -, -, drives⟩ := Pair.of_core hc
  unfold State.driverDue State.drivesListeners State.roadRuns State.roadMode State.entering State.holding State.alive
    State.mode
  rw [power, modes, role, drives]

/-- A device that takes duty drives what is due. -/
theorem State.becomeDuty_driver (s : State) (p : PortNo) : (s.becomeDuty.port p).driver =
    (s.becomeDuty.driverDue (s.port p).txc.tx && !(s.port p).hot && decide ((s.port p).loop ≠ .internal)) := by
  have driven : ((s.setPair Pair.onDuty).driveAll.port p).driver =
      ((s.setPair Pair.onDuty).driverDue (s.port p).txc.tx && !(s.port p).hot &&
        decide ((s.port p).loop ≠ .internal)) := by
    rw [State.driveAll, State.mapPorts_port]
    rfl
  have kept : Steps [.mem, .pool, .draws, .irq, .bells, .replies, .changes, .ports, .tx, .sluice, .lamps, .buses, .heads,
      .pair, .journal, .tag, .inject] (s.setPair Pair.onDuty) s.becomeDuty := by
    refine Steps.foldl (State.driveAll_steps (Steps.refl _ _) rfl) fun u b hu => ?_
    exact Steps.ite (State.beginJoin_steps b hu rfl) hu
  rw [kept.driverDue s.becomeDuty_core]
  exact (s.becomeDuty_settled.driver p).trans driven

theorem State.forgetBus_noRetire (h : s.NoRetire) (b : BusNo) {f : Bus → Bus} (hf : ∀ v, (f v).retire = v.retire) :
    (s.forgetBus b f).NoRetire := fun c => by
  have kept : (s.unattend b).buses = s.buses := (State.unattend_steps (ps := [.heads]) b (Steps.refl _ s) rfl).same .buses
  show ((upd (s.unattend b).buses b f).get c).retire = none
  rw [kept]
  exact (upd_same s.buses b c f Bus.retire hf).trans (h c)

theorem State.endRetire_of_noRetire (h : s.NoRetire) (b : BusNo) : s.endRetire b = s := by
  unfold State.endRetire
  rw [h b]

/-- Where no HEAD-RETIRE waits, a join that begins changes only the bus and its heads. -/
theorem State.beginJoin_of_noRetire (h : s.NoRetire) (b : BusNo) :
    Steps [.buses, .heads] s (s.beginJoin b) ∧ (s.beginJoin b).NoRetire := by
  rw [State.beginJoin_eq]
  split
  · have free : (s.forgetBus b Bus.join).NoRetire := State.forgetBus_noRetire h b fun _ => rfl
    rw [State.endRetire_of_noRetire free]
    exact ⟨s.forgetBus_steps b _, free⟩
  · exact ⟨State.stopBus_steps_of_noRetire h b, State.stopBus_noRetire h b⟩

/-- Where no HEAD-RETIRE waits, taking duty leaves the frames of the link and the lamps alone. -/
theorem State.becomeDuty_of_noRetire (h : s.NoRetire) :
    Steps [.ports, .tx, .buses, .heads] (s.setPair Pair.onDuty) s.becomeDuty := by
  have driven : Steps [.ports, .tx, .buses, .heads] (s.setPair Pair.onDuty) (s.setPair Pair.onDuty).driveAll :=
    State.driveAll_steps (Steps.refl _ _) rfl
  rw [State.becomeDuty_eq, State.eachBus]
  refine (List.foldlRecOn (motive := fun u : State =>
    Steps [.ports, .tx, .buses, .heads] (s.setPair Pair.onDuty) u ∧ u.NoRetire) _ _ ⟨driven, h⟩ fun u hu b _ => ?_).1
  obtain ⟨kept, free⟩ := hu
  unfold State.joinTurn
  split
  · obtain ⟨joined, still⟩ := State.beginJoin_of_noRetire free b
    exact ⟨kept.step joined rfl, still⟩
  · exact ⟨kept, free⟩

/-- With no lamp active, no alarm is repeated. -/
theorem State.repeatAll_of_inactive (h : ∀ l, (s.lamp l).active = false) : s.repeatAll = s := by
  unfold State.repeatAll State.eachLamp
  refine List.foldlRecOn (motive := fun u : State => u = s) _ _ rfl fun u hu l _ => ?_
  rw [hu, h l]
  rfl

theorem SameCore.repeatAll (h : SameCore s t) : SameCore s t.repeatAll :=
  SameCore.foldl _ h fun u l hu => by
    split
    · exact hu.placeAlarm _
    · exact hu

end become

end Sys2Proof.Machine
end

section
/-!
PROOFS. The planned handover of a pair, its roles, formation and take-over, and the end of its link (08 R251, R252; 17 R515-R517,
R521, R529-R538).
-/
set_option Elab.async false
namespace Sys2Proof.Machine

/-! ### PAIR-HANDOVER (08 R252, 17 R538) -/

section handover
variable {s t : State} {m : Msg}

/-- The pair of a device whose listeners run dry. -/
def Pair.drains (p : Pair) : Pair := { p with handover := .draining }

/-- The handover waits for the DELIVERED records. -/
def State.awaitAcks (s : State) : State := s.setPair fun p => { p with handover := .acks }

/-- HANDOVER is sent. -/
def State.sendHandover (s : State) : State :=
  (s.sendFrame (.handover s.pair.nextSeq)).setPair fun p => { p with handover := .waiting }

/-- HANDOVER is sent and duty given up. -/
def State.handDuty (s : State) : State := (s.sendHandover.yieldDuty .standby).pairBell

/-- A handover whose listeners have run dry goes on once its DELIVERED records are acknowledged. -/
def State.handOver (s : State) : State := if s.pair.handover = .acks ∧ !s.deliveredDue then s.handDuty else s

theorem State.advanceHandover_eq (s : State) : s.advanceHandover =
    (if s.pair.handover = .draining ∧ !s.listening then s.awaitAcks else s).handOver := rfl

theorem State.advanceHandover_of_listening (hd : s.pair.handover = .draining) (hl : s.listening = true) :
    s.advanceHandover = s := by
  rw [State.advanceHandover_eq, if_neg (by simp [hl]), State.handOver, if_neg (by simp [hd])]

theorem State.advanceHandover_of_dry (hd : s.pair.handover = .draining) (hl : s.listening = false) :
    s.advanceHandover = s.awaitAcks.handOver := by
  rw [State.advanceHandover_eq, if_pos (by simp [hd, hl])]

theorem State.handOver_of_due (h : s.deliveredDue = true) : s.handOver = s := if_neg (by simp [h])

theorem State.handOver_of_settled (h : s.deliveredDue = false) : s.awaitAcks.handOver = s.awaitAcks.handDuty := by
  have settled : s.awaitAcks.deliveredDue = false := h
  exact if_pos ⟨rfl, by simp [settled]⟩

theorem State.handDuty_role (s : State) : s.handDuty.pair.role = .standby ∧ s.handDuty.pair.dutyOut = false ∧
    s.handDuty.pair.handover = .waiting := by
  obtain ⟨role, dutyOut, -, handover, -, -, -⟩ := Pair.of_core (s.sendHandover.yieldDuty_core .standby)
  rw [State.handDuty, State.pairBell_pair]
  exact ⟨role, dutyOut, handover⟩

theorem State.handDuty_steps (s : State) : Steps [.mem, .pool, .draws, .irq, .bells, .replies, .changes, .ports, .tx, .sluice,
    .lamps, .buses, .heads, .pair, .journal, .tag, .inject] s s.handDuty :=
  State.pairBell_steps (State.yieldDuty_steps _ (State.setPair_steps _ (State.sendFrame_steps _ (Steps.refl _ s) rfl) rfl)
    rfl) rfl

/-- No item is on a line. -/
def State.Silent (s : State) : Prop := ∀ p, (s.port p).tx.sending = none

theorem State.Silent.listening (h : s.Silent) : s.listening = false := by
  unfold State.listening
  rw [List.any_eq_false]
  intro q hq
  obtain ⟨i, hi, rfl⟩ := Vector.mem_iff_getElem.1 (Vector.mem_toList_iff.1 hq)
  have free : s.ports[i].tx.sending = none := h ⟨i, hi⟩
  simp [free]

theorem State.Silent.handDuty (h : s.Silent) : s.handDuty.Silent := fun p => by
  have sent : Steps [.pair, .inject] s s.sendHandover :=
    State.setPair_steps _ (State.sendFrame_steps _ (Steps.refl _ s) rfl) rfl
  have told : Steps [.irq, .bells, .journal] (s.sendHandover.yieldDuty .standby) s.handDuty :=
    State.pairBell_steps (Steps.refl _ _) rfl
  rw [told.port_eq p rfl rfl, State.yieldDuty_sending, sent.port_eq p rfl rfl, h p]
  split <;> rfl

/-- With nothing left on the lines a handover that drains goes on. -/
theorem State.advanceHandover_of_silent (hd : s.pair.handover = .draining) (h : s.Silent) :
    s.advanceHandover.Silent ∧ s.advanceHandover.pair.handover ≠ .draining := by
  have still : s.awaitAcks.Silent := h
  cases due : s.deliveredDue with
  | false =>
    obtain ⟨-, -, handover⟩ := s.awaitAcks.handDuty_role
    rw [State.advanceHandover_of_dry hd h.listening, State.handOver_of_settled due, handover]
    exact ⟨still.handDuty, nofun⟩
  | true =>
    have owed : s.awaitAcks.deliveredDue = true := due
    rw [State.advanceHandover_of_dry hd h.listening, State.handOver_of_due owed]
    exact ⟨still, nofun⟩

theorem handoverDrained (hr : s.roadRuns = true) (hd : s.pair.handover = .draining) :
    ∃ t, exec .handoverDrainTimeout s = .next t ∧ (∀ p, (t.port p).tx.sending = none) ∧ t.pair.handover ≠ .draining ∧
      Only (parts .handoverDrainTimeout) s t := by
  have runs : exec .handoverDrainTimeout s = .next s.cutAll.advanceHandover := if_pos (by simp [hr, hd])
  have cut : Steps [.mem, .pool, .tx, .sluice] s s.cutAll := State.cutAll_steps (Steps.refl _ s) rfl
  have pair : s.cutAll.pair = s.pair := cut.same .pair
  obtain ⟨silent, left⟩ := State.advanceHandover_of_silent ((congrArg Pair.handover pair).trans hd)
    fun p => (s.cutAll_port p).1
  exact ⟨_, runs, silent, left, only_parts_of_exec runs⟩

/-- The handover is accepted and drains. -/
def State.handoverBegun (s : State) (m : Msg) : State := (s.served.accept m 0x0605 .handover).setPair Pair.drains

theorem State.handoverBegun_replied : Replied s (s.handoverBegun m) m 0x0605 1 [] :=
  fun c => s.served.accept_replied m 0x0605 .handover c

theorem State.handoverBegun_pair : (s.handoverBegun m).pair = s.pair.drains :=
  congrArg Pair.drains ((State.accept_steps (ps := [.replies, .work]) m 0x0605 .handover (Steps.refl _ s.served) rfl).same
    .pair : (s.served.accept m 0x0605 .handover).pair = s.pair)

theorem State.handoverBegun_listening : (s.handoverBegun m).listening = s.listening := by
  have ports : (s.handoverBegun m).ports = s.ports := by
    unfold State.handoverBegun State.accept State.reply
    cases m.ch <;> rfl
  unfold State.listening
  rw [ports]

theorem State.handoverBegun_due : (s.handoverBegun m).deliveredDue = s.deliveredDue := by
  unfold State.deliveredDue
  rw [State.handoverBegun_pair]
  rfl

theorem State.handoverBegun_accepted : (s.handoverBegun m).engine.accepted = s.engine.accepted ++
    [{ ch := m.ch, code := 0x0605, tag := m.tag, work := .handover }] :=
  s.served.accept_accepted m 0x0605 .handover

variable (ho : s.offers m 0x0605 inWork (exactFault []))
include ho

theorem exec_pairHandover_busy (hb : s.handoverBusy = true) :
    exec (.pairHandover m) s = .next (s.served.refused m 0x0605 0x0012) :=
  have busy : s.served.handoverBusy = true := hb
  (congrArg Host.Outcome.next (State.serve_of_offers ho)).trans (congrArg Host.Outcome.next (if_pos busy))

variable (hb : s.handoverBusy = false)
include hb

theorem exec_pairHandover_refused (hr : s.pair.role ≠ .duty ∨ s.pair.peerArmed = false) :
    exec (.pairHandover m) s = .next (s.served.refused m 0x0605 0x0014) := by
  have free : ¬ s.served.handoverBusy = true := Bool.eq_false_iff.1 hb
  have unfit : s.served.pair.role ≠ .duty ∨ (!s.served.pair.peerArmed) = true := hr.imp id fun h => by
    rw [show s.served.pair.peerArmed = false from h]
    rfl
  exact (congrArg Host.Outcome.next (State.serve_of_offers ho)).trans
    (congrArg Host.Outcome.next ((if_neg free).trans (if_pos unfit)))

variable (hr : s.pair.role = .duty) (hp : s.pair.peerArmed = true)
include hr hp

theorem exec_pairHandover : exec (.pairHandover m) s = .next (s.handoverBegun m).advanceHandover := by
  have free : ¬ s.served.handoverBusy = true := Bool.eq_false_iff.1 hb
  have fit : ¬ (s.served.pair.role ≠ .duty ∨ (!s.served.pair.peerArmed) = true) := by
    rintro (off | bare)
    · exact off hr
    · rw [show s.served.pair.peerArmed = true from hp] at bare
      cases bare
  exact (congrArg Host.Outcome.next (State.serve_of_offers ho)).trans
    (congrArg Host.Outcome.next ((if_neg free).trans (if_neg fit)))

theorem pairHandover_drains (hl : s.listening = true) : ∃ t, exec (.pairHandover m) s = .next t ∧
    Replied s t m 0x0605 1 [] ∧ t.pair = { s.pair with handover := .draining } ∧
    t.engine.accepted = s.engine.accepted ++ [{ ch := m.ch, code := 0x0605, tag := m.tag, work := .handover }] ∧
    Only (parts (.pairHandover m)) s t := by
  have draining : (s.handoverBegun m).pair.handover = .draining := congrArg Pair.handover State.handoverBegun_pair
  have runs := exec_pairHandover ho hb hr hp
  rw [State.advanceHandover_of_listening draining (State.handoverBegun_listening.trans hl)] at runs
  exact ⟨_, runs, State.handoverBegun_replied, State.handoverBegun_pair, State.handoverBegun_accepted,
    only_parts_of_exec runs⟩

theorem pairHandover_atOnce (hl : s.listening = false) (hd : s.deliveredDue = false) :
    ∃ t, exec (.pairHandover m) s = .next t ∧ Answered s t m 0x0605 1 [] ∧ t.pair.handover = .waiting ∧
      t.pair.role = .standby ∧ t.pair.dutyOut = false ∧ Only (parts (.pairHandover m)) s t := by
  have draining : (s.handoverBegun m).pair.handover = .draining := congrArg Pair.handover State.handoverBegun_pair
  have runs := exec_pairHandover ho hb hr hp
  rw [State.advanceHandover_of_dry draining (State.handoverBegun_listening.trans hl),
    State.handOver_of_settled (State.handoverBegun_due.trans hd)] at runs
  obtain ⟨role, dutyOut, handover⟩ := (s.handoverBegun m).awaitAcks.handDuty_role
  have begun : Replied s (s.handoverBegun m).awaitAcks m 0x0605 1 [] := State.handoverBegun_replied
  exact ⟨_, runs, begun.answered (State.handDuty_steps _), handover, role, dutyOut, only_parts_of_exec runs⟩

end handover

section handoverDone
variable {s : State} {a : Accepted}
variable (hs : s.serves = true) (hw : s.pair.handover = .waiting)
  (ha : s.engine.accepted.find? (fun a => decide (a.work = .handover)) = some a)

/-- The handover has ended with the level of PL_DUTY_IN. -/
def State.handoverOver (s : State) (d : Bool) : State := s.setPair fun p => { p with handover := .none, dutyIn := d }

include hs hw ha

theorem exec_pairHandoverDone (d : Bool) : exec (.pairHandoverDone d) s = if d then
    .next ((s.handoverOver d).complete a 0 []) else .next ((s.handoverOver d).becomeDuty.pairBell.complete a 0x0014 []) := by
  have found : s.working? (fun w => decide (w = .handover)) = some a := ha
  show execPairHandoverDone d s = _
  unfold execPairHandoverDone
  rw [hw, found]
  dsimp only
  rw [hs]
  rfl

theorem pairHandoverDone_given : ∃ t, exec (.pairHandoverDone true) s = .next t ∧
    Replied s t { ch := a.ch, tag := a.tag, payload := [] } a.code.toNat 0 [] ∧
    t.pair = { s.pair with handover := .none, dutyIn := true } ∧ t.engine.accepted = s.engine.accepted.erase a ∧
    Only (parts (.pairHandoverDone true)) s t := by
  have runs : exec (.pairHandoverDone true) s = .next ((s.handoverOver true).complete a 0 []) :=
    exec_pairHandoverDone hs hw ha true
  have ended : Steps [.replies, .work] (s.handoverOver true) ((s.handoverOver true).complete a 0 []) :=
    State.complete_steps _ _ _ (Steps.refl _ _) rfl
  exact ⟨_, runs, fun c => (s.handoverOver true).complete_replied a 0 [] c, ended.same .pair,
    (s.handoverOver true).complete_accepted a 0 [], only_parts_of_exec runs⟩

theorem pairHandoverDone_claimed : ∃ t, exec (.pairHandoverDone false) s = .next t ∧
    Answered s t { ch := a.ch, tag := a.tag, payload := [] } a.code.toNat 0x0014 [] ∧ t.pair.role = .duty ∧
    t.pair.dutyOut = true ∧ t.pair.dutyIn = false ∧ t.pair.handover = .none ∧
    Only (parts (.pairHandoverDone false)) s t := by
  have runs : exec (.pairHandoverDone false) s =
      .next ((s.handoverOver false).becomeDuty.pairBell.complete a 0x0014 []) := exec_pairHandoverDone hs hw ha false
  have ended : Steps [.replies, .work] (s.handoverOver false).becomeDuty.pairBell
      ((s.handoverOver false).becomeDuty.pairBell.complete a 0x0014 []) :=
    State.complete_steps _ _ _ (Steps.refl _ _) rfl
  have taken : Steps [.mem, .pool, .draws, .irq, .bells, .replies, .changes, .ports, .tx, .sluice, .lamps, .buses, .heads,
      .pair, .journal, .tag, .inject] s (s.handoverOver false).becomeDuty.pairBell :=
    State.pairBell_steps (State.becomeDuty_steps (State.setPair_steps _ (Steps.refl _ s) rfl) rfl) rfl
  have pair : ((s.handoverOver false).becomeDuty.pairBell.complete a 0x0014 []).pair = (s.handoverOver false).becomeDuty.pair :=
    (ended.same .pair).trans (State.pairBell_pair _)
  obtain ⟨role, dutyOut, dutyIn, handover, -, -, -⟩ := Pair.of_core (s.handoverOver false).becomeDuty_core
  refine ⟨_, runs, Replied.answered_after taken (State.complete_replied _ a 0x0014 []), ?_⟩
  rw [pair]
  exact ⟨role, dutyOut, dutyIn, handover, only_parts_of_exec runs⟩

end handoverDone

/-! ### Roles (17 R516, R517, R521) -/

section roles
variable {s : State}

theorem State.noted_pair (s : State) (p : Pair) : (s.noted p).pair = s.pair :=
  (State.noted_steps (ps := [.irq, .bells, .journal]) p (Steps.refl _ s) rfl).same .pair

theorem State.seeDuty_pair (s : State) (d : Bool) : (s.seeDuty d).pair = { s.pair with
    dutyIn := d
    role := if d && s.engineWorks && s.settings.pairEnable && decide (s.pair.role = .none) then .standby
      else s.pair.role } := rfl

theorem State.pairBell_bell (hu : s.engine.up = true) : s.pairBell.chanN.bellIn.getLsbD 4 = true :=
  Steps.bell (State.pairRecord_steps (ps := [.journal]) (Steps.refl _ (s.ring bellPair)) rfl)
    (State.ring_bell hu (bit := bellPair) (by decide))

/-- A change of what doorbell 4 announces rings it. -/
theorem State.noted_bell (hu : s.engine.up = true) {p : Pair}
    (h : s.pair.shown ≠ { p with sameRank := p.sameRank && s.pair.sameRank }.shown) :
    (s.noted p).chanN.bellIn.getLsbD 4 = true := by
  rw [State.noted, if_neg h]
  exact State.pairBell_bell hu

section claim
variable (hw : s.engineWorks = true) (he : s.settings.pairEnable = true) (hr : s.pair.role = .none)
include hw he hr

theorem exec_dutyClaim (d : Bool) : exec (.dutyClaim d) s = if d then .next ((s.seeDuty true).noted s.pair)
    else if s.pair.sameRank then .next (s.seeDuty false) else .next (s.seeDuty false).becomeDuty.pairBell :=
  if_neg (by simp [hw, he, hr])

theorem dutyClaim_duty (hn : s.pair.sameRank = false) :
    ∃ t, exec (.dutyClaim false) s = .next t ∧ t.pair.role = .duty ∧ t.pair.dutyOut = true ∧ t.pair.dutyIn = false ∧
      (∀ p, (t.port p).driver = (t.driverDue (s.port p).txc.tx && !(s.port p).hot && decide ((s.port p).loop ≠ .internal))) ∧
      Only (parts (.dutyClaim false)) s t := by
  have runs : exec (.dutyClaim false) s = .next (s.seeDuty false).becomeDuty.pairBell :=
    (exec_dutyClaim hw he hr false).trans ((if_neg Bool.false_ne_true).trans (if_neg (by simp [hn])))
  have told : Steps [.irq, .bells, .journal] (s.seeDuty false).becomeDuty (s.seeDuty false).becomeDuty.pairBell :=
    State.pairBell_steps (Steps.refl _ _) rfl
  have pair : (s.seeDuty false).becomeDuty.pairBell.pair = (s.seeDuty false).becomeDuty.pair := told.same .pair
  obtain ⟨role, dutyOut, dutyIn, -, -, -, -⟩ := Pair.of_core (s.seeDuty false).becomeDuty_core
  refine ⟨_, runs, ?_, ?_, ?_, fun p => ?_, only_parts_of_exec runs⟩
  · rw [pair, role]
    rfl
  · rw [pair, dutyOut]
    rfl
  · rw [pair, dutyIn]
    rfl
  · rw [told.port_eq p rfl rfl, told.driverDue (congrArg Pair.core pair)]
    exact (s.seeDuty false).becomeDuty_driver p

theorem dutyClaim_standby : ∃ t, exec (.dutyClaim true) s = .next t ∧
    t.pair = { s.pair with role := .standby, dutyIn := true } ∧ t.chanN.bellIn.getLsbD 4 = true ∧
    Only (parts (.dutyClaim true)) s t := by
  have runs : exec (.dutyClaim true) s = .next ((s.seeDuty true).noted s.pair) := exec_dutyClaim hw he hr true
  have seen : (s.seeDuty true).pair = { s.pair with role := .standby, dutyIn := true } := by
    simp [State.seeDuty, State.setPair, hw, he, hr]
  have up : (s.seeDuty true).engine.up = true := State.up_of_works hw
  refine ⟨_, runs, (State.noted_pair _ _).trans seen, State.noted_bell up ?_, only_parts_of_exec runs⟩
  rw [seen]
  intro same
  have role : Role.standby = s.pair.role := congrArg Prod.fst same
  rw [hr] at role
  cases role

theorem exec_dutyClaim_sameRank (hn : s.pair.sameRank = true) :
    exec (.dutyClaim false) s = .next (s.setPair fun p => { p with dutyIn := false }) :=
  (exec_dutyClaim hw he hr false).trans ((if_neg Bool.false_ne_true).trans (if_pos hn))

end claim

theorem exec_dutyClaim_idle (d : Bool) (h : s.pair.role ≠ .none ∨ s.settings.pairEnable = false) :
    exec (.dutyClaim d) s = .next s :=
  if_pos (by rcases h with h | h <;> simp [h])

theorem dutyYield_yields (hr : s.roadRuns = true) (hd : s.pair.dutyOut = true) (hk : s.power.rank = false) :
    ∃ t, exec .dutyYield s = .next t ∧ t.pair.role = .standby ∧ t.pair.dutyOut = false ∧ t.pair.dutyIn = true ∧
      (∀ b, (t.bus b).state = .stopped) ∧
      (∀ p, (s.port p).txc.tx = .listener → (t.port p).driver = false ∧ (t.port p).tx.sending = none) ∧
      Only (parts .dutyYield) s t := by
  have runs : exec .dutyYield s = .next ((s.dutySeen true).yieldDuty .standby).pairBell := if_pos (by simp [hr, hd, hk])
  obtain ⟨role, dutyOut, dutyIn, buses, listeners⟩ := (s.dutySeen true).yielded_told .standby
  exact ⟨_, runs, role, dutyOut, dutyIn, buses, listeners, only_parts_of_exec runs⟩

theorem exec_dutyYield_idle (h : s.power.rank = true ∨ s.pair.dutyOut = false) : exec .dutyYield s = .next s :=
  if_neg (by rcases h with h | h <;> simp [h])

theorem dutyEngineDown_yields (hr : s.roadRuns = true) (hd : s.pair.role = .duty) (hu : s.engine.up = false) :
    ∃ t, exec .dutyEngineDown s = .next t ∧ t.pair.role = .none ∧ t.pair.dutyOut = false ∧
      (∀ b, (t.bus b).state = .stopped) ∧
      (∀ p, (s.port p).txc.tx = .listener → (t.port p).driver = false ∧ (t.port p).tx.sending = none) ∧
      Only (parts .dutyEngineDown) s t := by
  have runs : exec .dutyEngineDown s = .next (s.yieldDuty .none).pairBell := if_pos (by simp [hr, hd, hu])
  obtain ⟨role, dutyOut, -, buses, listeners⟩ := s.yielded_told .none
  exact ⟨_, runs, role, dutyOut, buses, listeners, only_parts_of_exec runs⟩

end roles

/-! ### Formation, disagreement and take-over (17 R531-R537) -/

section takeOver
variable {s : State}

theorem pairFormed_forms (hw : s.engineWorks = true) (hl : s.pair.linkUp = true) (hc : s.pair.caughtUp = true)
    (hf : s.pair.formed = false) (hm : s.pair.majorMismatch = false) (hn : s.pair.sameRank = false)
    (hr : s.pair.role = .duty ∨ s.pair.role = .standby) : ∃ t, exec .pairFormed s = .next t ∧
      t.pair = { s.pair with formed := true } ∧ t.chanN.bellIn.getLsbD 4 = true ∧ Only (parts .pairFormed) s t := by
  have runs : exec .pairFormed s = .next (s.setPair fun p => { p with formed := true }).pairBell :=
    if_pos (by simp [hw, hl, hc, hf, hm, hn, hr])
  have up : (s.setPair fun p => { p with formed := true }).engine.up = true := State.up_of_works hw
  exact ⟨_, runs, State.pairBell_pair _, State.pairBell_bell up, only_parts_of_exec runs⟩

theorem splitConfig_splits (hw : s.engineWorks = true) (hl : s.pair.linkUp = true) (hd : s.digestsDiffer = true) :
    ∃ t, exec .splitConfig s = .next t ∧ t.pair = { s.pair with splitConfig := true, armed := false } ∧
      (s.pair.splitConfig = false → t.chanN.bellIn.getLsbD 4 = true) ∧ Only (parts .splitConfig) s t := by
  have runs : exec .splitConfig s =
      .next ((s.setPair fun p => { p with splitConfig := true, armed := false }).noted s.pair) :=
    if_pos (by simp [hw, hl, hd])
  have up : (s.setPair fun p => { p with splitConfig := true, armed := false }).engine.up = true := State.up_of_works hw
  refine ⟨_, runs, State.noted_pair _ _, fun agreed => State.noted_bell up fun same => ?_, only_parts_of_exec runs⟩
  have flags := congrArg Prod.snd same
  have split : true = s.pair.splitConfig := congrArg (fun l : List Bool => l[2]!) flags
  rw [agreed] at split
  cases split

/-- The pair of a standby that takes over, before it is duty. -/
def Pair.overtaken (p : Pair) : Pair :=
  { p with dutyIn := false, nextSeq := p.lastMirrored + 0x1000, handed := false, armed := false, formed := false
           forming := false, caughtUp := false }

/-- The take-over is done and its doorbell rung; the event and the time mark follow. -/
def State.tookOver (s : State) : State := (s.setPair Pair.overtaken).becomeDuty.repeatAll.pairBell

theorem State.takeOver_steps' (s : State) : Steps [.mem, .pool, .draws, .sluice, .journal] s.tookOver s.takeOver :=
  State.timeMark_steps _ _ (State.tellEvent_steps _ _ _ _ _ (Steps.refl _ s.tookOver) rfl) rfl

theorem State.takeOver_core (s : State) : s.takeOver.pair.core = s.pair.overtaken.onDuty.core := by
  have told : s.takeOver.pair = (s.setPair Pair.overtaken).becomeDuty.repeatAll.pair :=
    (s.takeOver_steps'.same .pair).trans (State.pairBell_pair _)
  have repeated : SameCore (s.setPair Pair.overtaken).becomeDuty (s.setPair Pair.overtaken).becomeDuty.repeatAll :=
    SameCore.repeatAll (SameCore.refl _)
  rw [told]
  exact Eq.trans repeated (s.setPair Pair.overtaken).becomeDuty_core

/-- The numbers of a take-over begin past the last mirrored one where no lamp and no HEAD-RETIRE sends a frame or makes an
item. -/
theorem State.takeOver_nextSeq (hl : ∀ l, (s.lamp l).active = false) (hb : ∀ b, (s.bus b).retire = none) :
    s.takeOver.pair.nextSeq = s.pair.lastMirrored + 0x1000 := by
  have duty : Steps [.ports, .tx, .buses, .heads] ((s.setPair Pair.overtaken).setPair Pair.onDuty)
      (s.setPair Pair.overtaken).becomeDuty := State.becomeDuty_of_noRetire hb
  have lamps : (s.setPair Pair.overtaken).becomeDuty.lamps = s.lamps := duty.same .lamps
  have dark (l : LampNo) : ((s.setPair Pair.overtaken).becomeDuty.lamp l).active = false := by
    unfold State.lamp
    rw [lamps]
    exact hl l
  have told : s.takeOver.pair = (s.setPair Pair.overtaken).becomeDuty.repeatAll.pair :=
    (s.takeOver_steps'.same .pair).trans (State.pairBell_pair _)
  have pair : (s.setPair Pair.overtaken).becomeDuty.pair = s.pair.overtaken.onDuty := duty.same .pair
  rw [told, State.repeatAll_of_inactive dark, pair]
  rfl

theorem takeOver_takes (h : s.mayTakeOver = true) :
    ∃ t, exec .takeOver s = .next t ∧ t.pair.role = .duty ∧ t.pair.dutyOut = true ∧ t.pair.dutyIn = false ∧
      t.pair.armed = false ∧ t.pair.formed = false ∧ t.chanN.bellIn.getLsbD 4 = true ∧
      ((∀ l, (s.lamp l).active = false) → (∀ b, (s.bus b).retire = none) →
        t.pair.nextSeq = s.pair.lastMirrored + 0x1000) ∧
      Only (parts .takeOver) s t := by
  have runs : exec .takeOver s = .next s.takeOver := if_pos h
  have up : s.engine.up = true := by
    simp only [State.mayTakeOver, Bool.and_eq_true] at h
    obtain ⟨⟨⟨⟨⟨works, -⟩, -⟩, -⟩, -⟩, -⟩ := h
    exact State.up_of_works works
  have duty : Steps [.mem, .pool, .draws, .irq, .bells, .replies, .changes, .ports, .tx, .sluice, .lamps, .buses, .heads,
      .pair, .journal, .tag, .inject] s (s.setPair Pair.overtaken).becomeDuty.repeatAll :=
    State.repeatAll_steps (State.becomeDuty_steps (State.setPair_steps _ (Steps.refl _ s) rfl) rfl) rfl
  have rung : s.tookOver.chanN.bellIn.getLsbD 4 = true := by
    have overtaken : (s.setPair Pair.overtaken).becomeDuty.repeatAll.engine.up = true := duty.up.trans up
    rw [State.tookOver]
    exact State.pairBell_bell overtaken
  obtain ⟨role, dutyOut, dutyIn, -, armed, formed, -⟩ := Pair.of_core s.takeOver_core
  exact ⟨_, runs, role, dutyOut, dutyIn, armed, formed, s.takeOver_steps'.bell rung, State.takeOver_nextSeq,
    only_parts_of_exec runs⟩

end takeOver

/-! ### The link is lost, and the clocks (17 R515, R529, R530) -/

section link
variable {s t : State}

theorem Steps.roadRuns {ps : List Part} (h : Steps ps s t) (hp : ps.contains .power = false := by rfl)
    (hm : ps.contains .modes = false := by rfl) : t.roadRuns = s.roadRuns := by
  have power : t.power = s.power := h.same .power hp
  have modes : t.modes = s.modes := h.same .modes hm
  unfold State.roadRuns State.roadMode State.entering State.holding State.alive State.mode
  rw [power, modes]

/-- The link's frames are forgotten, and its items returned. -/
def State.unlinked (s : State) : State := (s.setPair Pair.unlinked).returnPeer

theorem State.linkDown_eq (h : s.pair.linkUp = true) : s.linkDown = s.unlinked.pairBell := if_pos h

theorem linkLost_forgets (d : Bool) (hr : s.linkRuns = true) (hl : s.pair.linkUp = true) :
    ∃ t, exec (.linkLost d) s = .next t ∧ t.pair.linkUp = false ∧ t.pair.formed = false ∧ t.pair.unacked = [] ∧
      t.pair.waiting = [] ∧ t.pair.beats = 0 ∧ t.pair.nextSeq = s.pair.nextSeq ∧
      t.pair.unmatched = s.pair.unmatched ∧ t.pair.dutyIn = d ∧
      t.pair.role = (if d && s.engine.up && decide (s.pair.role = .none) then .standby else s.pair.role) ∧
      (t.view viewPeer).inFlight = [] ∧ (s.engine.up = true → t.chanN.bellIn.getLsbD 4 = true) ∧
      Only (parts (.linkLost d)) s t := by
  have runs : exec (.linkLost d) s = .next ((s.linkDown.seeDuty d).noted s.linkDown.pair) := if_pos hr
  rw [State.linkDown_eq hl] at runs
  obtain ⟨road, enabled⟩ : s.roadRuns = true ∧ s.settings.pairEnable = true := by
    simpa only [State.linkRuns, Bool.and_eq_true] using hr
  have down : Steps [.irq, .bells, .sluice, .pair, .journal] s s.unlinked.pairBell :=
    State.pairBell_steps (State.returnPeer_steps (State.setPair_steps _ (Steps.refl _ s) rfl) rfl) rfl
  have pair : s.unlinked.pairBell.pair = s.pair.unlinked := State.pairBell_pair _
  have works : s.unlinked.pairBell.engineWorks = s.engine.up := by
    rw [State.engineWorks, down.roadRuns, road, down.up, Bool.true_and]
  have enables : s.unlinked.pairBell.settings.pairEnable = true :=
    (congrArg Settings.pairEnable (down.same .settings) :).trans enabled
  have seen : ((s.unlinked.pairBell.seeDuty d).noted s.unlinked.pairBell.pair).pair = { s.pair.unlinked with
      dutyIn := d
      role := if d && s.engine.up && decide (s.pair.role = .none) then .standby else s.pair.role } := by
    rw [State.noted_pair, State.seeDuty_pair, works, enables, pair, Bool.and_true]
    rfl
  have after : Steps [.irq, .bells, .pair, .journal] s.unlinked.pairBell
      ((s.unlinked.pairBell.seeDuty d).noted s.unlinked.pairBell.pair) :=
    State.noted_steps _ (State.seeDuty_steps d (Steps.refl _ _) rfl) rfl
  have view : (((s.unlinked.pairBell.seeDuty d).noted s.unlinked.pairBell.pair).view viewPeer).inFlight = [] := by
    have sluice := (after.same .sluice).trans s.unlinked.pairBell_sluice
    unfold State.view
    rw [sluice]
    exact congrArg View.inFlight (upd_get_self s.sluice.views viewPeer _)
  refine ⟨_, runs, ?_⟩
  rw [seen]
  exact ⟨rfl, rfl, rfl, rfl, rfl, rfl, rfl, rfl, rfl, view, fun up => after.bell (State.pairBell_bell (s := s.unlinked) up),
    only_parts_of_exec runs⟩

/-- An offset adopted after another gives the skew, and TIME_SKEW by it. -/
theorem State.adoptOffset_next {m o : Stamp} (ho : s.pair.offset = some o) :
    (s.adoptOffset m).pair.offset = some m ∧ (s.adoptOffset m).pair.skew = (m - o).toInt ∧
    (500 < (m - o).toInt.natAbs → (s.adoptOffset m).pair.timeSkew = true) ∧
    ((m - o).toInt.natAbs ≤ 500 → s.pair.steady < 9 → (s.adoptOffset m).pair.timeSkew = s.pair.timeSkew) := by
  simp only [State.adoptOffset, State.setPair, ho]
  by_cases far : 500 < (m - o).toInt.natAbs
  · rw [if_pos far]
    exact ⟨rfl, rfl, fun _ => rfl, fun near => absurd far (by omega)⟩
  · rw [if_neg far]
    refine ⟨rfl, rfl, fun far' => absurd far' far, fun _ steady => ?_⟩
    have short : (if (m - o).toInt.natAbs ≤ 250 then min 10 (s.pair.steady + 1) else 0) < 10 := by
      split <;> omega
    rw [decide_eq_true short, Bool.and_true]

section offset
variable {m : Stamp} (hw : s.engineWorks = true) (hr : s.pair.role = .standby) (hm : s.pair.measured = some m)
include hw hr hm

theorem exec_offsetAdopt : exec .offsetAdopt s = .next ((s.adoptOffset m).noted s.pair) := by
  show execOffsetAdopt s = _
  unfold execOffsetAdopt
  rw [hm]
  exact if_pos (by simp [hw, hr])

theorem offsetAdopt_first (ho : s.pair.offset = none) : ∃ t, exec .offsetAdopt s = .next t ∧
    t.pair = { s.pair with offset := some m } ∧ Only (parts .offsetAdopt) s t := by
  have runs := exec_offsetAdopt hw hr hm
  refine ⟨_, runs, (State.noted_pair _ _).trans ?_, only_parts_of_exec runs⟩
  simp only [State.adoptOffset, State.setPair, ho]

theorem offsetAdopt_next {o : Stamp} (ho : s.pair.offset = some o) : ∃ t, exec .offsetAdopt s = .next t ∧
    t.pair.offset = some m ∧ t.pair.skew = (m - o).toInt ∧
    (500 < (m - o).toInt.natAbs → t.pair.timeSkew = true) ∧
    ((m - o).toInt.natAbs ≤ 500 → s.pair.steady < 9 → t.pair.timeSkew = s.pair.timeSkew) ∧
    Only (parts .offsetAdopt) s t := by
  have runs := exec_offsetAdopt hw hr hm
  obtain ⟨adopted, skew, far, near⟩ := State.adoptOffset_next (m := m) ho
  refine ⟨_, runs, ?_⟩
  rw [State.noted_pair]
  exact ⟨adopted, skew, far, near, only_parts_of_exec runs⟩

end offset

end link

/-- Settles O57: a handover drains, waits for the DELIVERED records and gives duty up; roles, drivers, listeners and buses
follow the laws of yielding and taking duty, and a lost link forgets its frames. -/
theorem pairRolesHandoverAndTakeOver : Obligations.PairRolesHandoverAndTakeOver := by
  unfold Obligations.PairRolesHandoverAndTakeOver
  exact ⟨fun s m ho hb hr hp hl => pairHandover_drains ho hb hr hp hl,
    fun s m ho hb hr hp hl hd => pairHandover_atOnce ho hb hr hp hl hd,
    fun s m ho hb => exec_pairHandover_busy ho hb,
    fun s m ho hb hr => exec_pairHandover_refused ho hb hr,
    fun s hr hd => handoverDrained hr hd,
    fun s a hs hw ha => pairHandoverDone_given hs hw ha,
    fun s a hs hw ha => pairHandoverDone_claimed hs hw ha,
    fun s hw he hr hn => dutyClaim_duty hw he hr hn,
    fun s hw he hr => dutyClaim_standby hw he hr,
    fun s hw he hr hn => exec_dutyClaim_sameRank hw he hr hn,
    fun s d h => exec_dutyClaim_idle d h,
    fun s hr hd hk => dutyYield_yields hr hd hk,
    fun s h => exec_dutyYield_idle h,
    fun s hr hd hu => dutyEngineDown_yields hr hd hu,
    fun s hw hl hc hf hm hn hr => pairFormed_forms hw hl hc hf hm hn hr,
    fun s hw hl hd => splitConfig_splits hw hl hd,
    fun s h => takeOver_takes h,
    fun s h => if_neg (Bool.eq_false_iff.1 h),
    fun s d hr hl => linkLost_forgets d hr hl,
    fun s m hw hr hm ho => offsetAdopt_first hw hr hm ho,
    fun s m o hw hr hm ho => offsetAdopt_next hw hr hm ho⟩

end Sys2Proof.Machine
end

section
/-!
PROOFS. Conditions of a port that are events: STUCK, REARMED, SILENT and the driver's own shutdown (08 R240, 09 R264,
R279-R281, 10 R312).
-/
set_option Elab.async false
namespace Sys2Proof.Machine

/-! ### Port events (08 R240) -/

section event
variable (s : State) (p : PortNo) (code : Nat) (value : Option Nat)

/-- What follows the port's flag of EVENTS is the event's telling, now or after DOZE. -/
theorem State.portEvent_tells : Steps [.mem, .pool, .draws, .irq, .bells, .sluice, .journal, .dozeEvents]
    (s.setSettings fun g => { g with portFlags := g.portFlags ||| BitVec.ofNat 48 (2 ^ p.val) })
    (s.portEvent p code value) :=
  Steps.ite (State.setDozeEvents_steps _ (Steps.refl _ _) rfl) (State.tellOrKeep_steps _ _ _ _ _ _ (Steps.refl _ _) rfl)

@[simp] theorem State.portEvent_port (q : PortNo) : (s.portEvent p code value).port q = s.port q :=
  (s.portEvent_tells p code value).port_eq q

theorem State.portEvent_portFlags : (s.portEvent p code value).settings.portFlags =
    s.settings.portFlags ||| BitVec.ofNat 48 (2 ^ p.val) :=
  ((s.portEvent_tells p code value).same .events).2

end event

section port
variable {s t : State} {p : PortNo}

/-! ### STUCK, REARMED and SILENT (09 R279-R281, 10 R312) -/

/-- The port as it becomes STUCK. -/
def Port.stick (q : Port) : Port := { q with stuck := true, space := true, edge := none, falls := [] }

/-- The port as STUCK clears. -/
def Port.rearm (q : Port) : Port :=
  { q with stuck := false, space := false, edge := none, falls := [], hold := .free, hunting := q.hunting || q.rx.autobaud }

/-- Only RTS is put anew; in DOZE it is high on a port that is not armed for wake (03 R90). -/
theorem State.putRts_port (s : State) (p : PortNo) : ∃ r, (s.putRts p).port p = { s.port p with rts := r } ∧
    (s.mode = .doze → (s.port p).wakes = false → r = false) := by
  unfold State.putRts
  split
  · rw [State.updPort_port_same, Port.setDozeRts]
    split
    · next awake =>
      refine ⟨_, rfl, fun _ off => ?_⟩
      rw [off] at awake
      exact absurd awake Bool.false_ne_true
    · exact ⟨false, rfl, fun _ _ => rfl⟩
  · next working =>
    rw [State.updPort_port_same]
    exact ⟨_, rfl, fun doze => absurd doze working⟩

theorem State.putRts_settings (s : State) (p : PortNo) : (s.putRts p).settings = s.settings := by
  unfold State.putRts
  split <;> rfl

theorem State.receives_of_stuck (h : (s.port p).stuck = true) : s.receives p = false := by
  simp [State.receives, h]

theorem exec_portStuck (ht : s.stuckTimed p = true) (hs : (s.port p).stuck = false) :
    exec (.portStuck p) s = .next (((s.updPort p Port.stick).putRts p).portEvent p evStuck none) :=
  if_pos (by rw [ht, hs]; rfl)

theorem exec_portRearmed (ht : s.stuckTimed p = true) (hs : (s.port p).stuck = true) :
    exec (.portRearmed p) s = .next (((s.updPort p Port.rearm).putRts p).portEvent p evRearmed none) :=
  if_pos (by rw [ht, hs]; rfl)

theorem portStuck_sticks (ht : s.stuckTimed p = true) (hs : (s.port p).stuck = false) :
    ∃ t, exec (.portStuck p) s = .next t ∧ (t.port p).stuck = true ∧ (t.port p).edge = none ∧
      (t.port p).fifo = (s.port p).fifo ∧ t.receives p = false ∧ (s.mode = .doze → (t.port p).rts = false) ∧
      t.settings.portFlags = s.settings.portFlags ||| BitVec.ofNat 48 (2 ^ p.val) ∧ Only (parts (.portStuck p)) s t := by
  have runs := exec_portStuck ht hs
  obtain ⟨r, port, high⟩ := (s.updPort p Port.stick).putRts_port p
  rw [State.updPort_port_same] at port high
  have told := (State.portEvent_port _ p evStuck none p).trans port
  have asleep : (s.port p).stick.wakes = false := by simp [Port.wakes, Port.stick]
  have deaf := State.receives_of_stuck (congrArg Port.stuck told)
  refine ⟨_, runs, ?_⟩
  rw [told, State.portEvent_portFlags, State.putRts_settings]
  exact ⟨rfl, rfl, rfl, deaf, fun doze => high doze asleep, rfl, only_parts_of_exec runs⟩

theorem portRearmed_rearms (ht : s.stuckTimed p = true) (hs : (s.port p).stuck = true) :
    ∃ t, exec (.portRearmed p) s = .next t ∧ (t.port p).stuck = false ∧
      (t.port p).hunting = ((s.port p).hunting || (s.port p).rx.autobaud) ∧
      t.settings.portFlags = s.settings.portFlags ||| BitVec.ofNat 48 (2 ^ p.val) ∧
      Only (parts (.portRearmed p)) s t := by
  have runs := exec_portRearmed ht hs
  obtain ⟨r, port, -⟩ := (s.updPort p Port.rearm).putRts_port p
  rw [State.updPort_port_same] at port
  have told := (State.portEvent_port _ p evRearmed none p).trans port
  refine ⟨_, runs, ?_⟩
  rw [told, State.portEvent_portFlags, State.putRts_settings]
  exact ⟨rfl, rfl, rfl, only_parts_of_exec runs⟩

theorem exec_portStuck_of_untimed (h : s.stuckTimed p = false) : exec (.portStuck p) s = .next s :=
  if_neg (by simp [h])

theorem silenceLapse_silences (hr : s.roadRuns = true) (ht : (s.port p).isTalker = true)
    (hn : (s.port p).rx.silence ≠ 0) (hp : (s.port p).parked = false) (hx : (s.port p).rxRetired = false)
    (hs : (s.port p).silent = false) : ∃ t, exec (.silenceLapse p) s = .next t ∧ (t.port p).silent = true ∧
      (t.port p).fifo = (s.port p).fifo ∧
      t.settings.portFlags = s.settings.portFlags ||| BitVec.ofNat 48 (2 ^ p.val) ∧
      Only (parts (.silenceLapse p)) s t := by
  have runs : exec (.silenceLapse p) s =
      .next ((s.updPort p fun q => { q with silent := true }).portEvent p evSilent none) :=
    if_pos (by simp [hr, ht, hn, hp, hx, hs])
  exact ⟨_, runs, by simp, by simp, State.portEvent_portFlags _ p evSilent none, only_parts_of_exec runs⟩

theorem exec_silenceLapse_of_stopped (h : s.roadRuns = false) : exec (.silenceLapse p) s = .next s :=
  if_neg (by simp [h])

/-! ### The driver too hot (09 R264, R268) -/

/-- A port whose driver has shut down: high-impedance, nothing on the line, its FIFO as given. -/
structure Port.ShutDown (l : List Entry) (q : Port) : Prop where
  hot : q.hot = true
  driver : q.driver = false
  free : q.tx.sending = none
  fifo : q.fifo = l

theorem Quiet.flushView (h : Quiet s t) (v : Fin 52) : Quiet s (t.flushView v).1 :=
  (Quiet.foldl _ h fun _ id hu => hu.unlink v id).releaseHolds v

theorem Quiet.retireView (h : Quiet s t) (v : Fin 52) (hold : Bool) : Quiet s (t.retireView v hold) := by
  have marked : Quiet s (t.updView v fun w => { w with retired := true }) :=
    h.steps (State.updView_steps v _ (Steps.refl _ t) rfl)
  unfold State.retireView
  dsimp only
  split
  · split
    · exact marked.yieldGroup _
    · exact marked
  · split
    · exact (marked.flushView v).updTx _ fun _ => ⟨rfl, rfl⟩
    · exact marked.flushView v

/-- Past a cut nothing is on the line, and the rest of the port but its transmit side stands. -/
theorem State.cutSending_own (s : State) (p : PortNo) (begun : Bool) :
    ((s.cutSending p begun).port p).tx.sending = none ∧
      ((s.cutSending p begun).port p).body = (s.port p).body := by
  refine ⟨?_, (State.cutSending_steps (ps := [.mem, .pool, .tx, .sluice]) p begun (Steps.refl _ s) rfl).body rfl p⟩
  cases hx : (s.port p).tx.sending with
  | none =>
    unfold State.cutSending
    rw [hx]
    exact hx
  | some x =>
    obtain ⟨-, sending⟩ := Port.tx_of_line ((State.cutSending_quiet hx begun).line p)
    rw [sending, State.freeLine, State.updTx, State.updPort_port_same]

/-- The device as the driver of a port shuts down, its rows, its retirement and the event apart. -/
def State.shutDown (s : State) (p : PortNo) : State :=
  (s.cutSending p true).updPort p fun q => { q with hot := true }.drive false

theorem State.shutDown_port (s : State) (p : PortNo) : ((s.shutDown p).port p).ShutDown (s.port p).fifo := by
  obtain ⟨free, body⟩ := s.cutSending_own p true
  rw [State.shutDown, State.updPort_port_same]
  exact ⟨rfl, rfl, free, (congrArg Port.fifo body :)⟩

theorem Port.ShutDown.join {l : List Entry} {q : Port} (h : q.ShutDown l) (due : Bool) : (q.join due).ShutDown l := by
  unfold Port.join
  split
  · exact h
  · exact ⟨h.hot, h.driver, h.free, h.fifo⟩

/-- No row enables a driver that is too hot. -/
theorem Port.ShutDown.adopt {l : List Entry} {q : Port} (h : q.ShutDown l) (row : BitVec 128) (due : Bool) :
    ({ q with txRow := row, txAdopt := false }.drive (due && !q.hot)).ShutDown l :=
  ⟨h.hot, by simp [Port.drive, h.hot], h.free, h.fifo⟩

theorem State.adoptTx_shutDown {l : List Entry} (h : (s.port p).ShutDown l) : ((s.adoptTx p).port p).ShutDown l := by
  unfold State.adoptTx
  dsimp only
  split
  · rw [State.updPort_port_same, State.updPort_port_same]
    exact (h.adopt _ _).join _
  · exact h

theorem State.txBoundary_shutDown {l : List Entry} (h : (s.port p).ShutDown l) :
    ((s.txBoundary p).port p).ShutDown l := by
  rw [State.txBoundary_eq]
  split
  · have body := (State.retireView_steps (ps := [.mem, .pool, .tx, .sluice]) (portView p) (s.viewRow (portView p)).hwr
      (Steps.refl _ s) rfl).body rfl p
    have quiet := (Quiet.refl s).retireView (portView p) (s.viewRow (portView p)).hwr
    obtain ⟨-, sending⟩ := Port.tx_of_line (quiet.line p)
    rw [State.updPort_port_same]
    exact ⟨(congrArg Port.hot body :).trans h.hot, (congrArg Port.driver body :).trans h.driver, sending.trans h.free,
      (congrArg Port.fifo body :).trans h.fifo⟩
  · exact h

/-- A shutdown sets no flag of EVENTS before its event. -/
theorem State.shutDown_portFlags (s : State) (p : PortNo) :
    (((s.shutDown p).adoptTx p).txBoundary p).settings.portFlags = s.settings.portFlags :=
  have kept : Steps [.mem, .pool, .ports, .tx, .sluice] s (((s.shutDown p).adoptTx p).txBoundary p) :=
    State.txBoundary_steps p (State.adoptTx_steps p
      (State.updPort_steps p _ (State.cutSending_steps p true (Steps.refl _ s) rfl) rfl) rfl) rfl
  (kept.same .events).2

theorem exec_driverHot (ha : s.alive = true) (hd : (s.port p).driver = true ∨ s.mayDrive p = true)
    (hb : (s.port p).txc.bypass = false) (hh : (s.port p).hot = false) : exec (.driverHot p) s =
      .next ((((s.shutDown p).adoptTx p).txBoundary p).portEvent p evDriverHot none) :=
  if_pos (by simp [ha, hd, hb, hh])

theorem driverHot_shutsDown (ha : s.alive = true) (hd : (s.port p).driver = true ∨ s.mayDrive p = true)
    (hb : (s.port p).txc.bypass = false) (hh : (s.port p).hot = false) :
    ∃ t, exec (.driverHot p) s = .next t ∧ (t.port p).hot = true ∧ (t.port p).driver = false ∧
      (t.port p).tx.sending = none ∧ (t.port p).fifo = (s.port p).fifo ∧
      t.settings.portFlags = s.settings.portFlags ||| BitVec.ofNat 48 (2 ^ p.val) ∧
      Only (parts (.driverHot p)) s t := by
  have runs := exec_driverHot ha hd hb hh
  obtain ⟨hot, driver, free, fifo⟩ := State.txBoundary_shutDown (State.adoptTx_shutDown (s.shutDown_port p))
  refine ⟨_, runs, ?_⟩
  rw [State.portEvent_port, State.portEvent_portFlags, State.shutDown_portFlags]
  exact ⟨hot, driver, free, fifo, rfl, only_parts_of_exec runs⟩

theorem exec_driverHot_of_bypass (h : (s.port p).txc.bypass = true) : exec (.driverHot p) s = .next s :=
  if_neg (by simp [h])

/-! ### The driver cooled (09 R264) -/

theorem driverOk_drivesWhatIsDue (ha : s.alive = true) (hh : (s.port p).hot = true) :
    ∃ t, exec (.driverOk p) s = .next t ∧ (t.port p).hot = false ∧
      (t.port p).driver = (s.driverDue (s.port p).txc.tx && decide ((s.port p).loop ≠ .internal)) ∧
      t.settings.portFlags = s.settings.portFlags ||| BitVec.ofNat 48 (2 ^ p.val) ∧
      Only (parts (.driverOk p)) s t := by
  have runs : exec (.driverOk p) s = .next ((s.updPort p fun q =>
      { q with hot := false }.drive (s.driverDue (s.port p).txc.tx)).portEvent p evDriverOk none) :=
    if_pos (by rw [ha, hh]; rfl)
  refine ⟨_, runs, ?_⟩
  rw [State.portEvent_port, State.updPort_port_same]
  exact ⟨rfl, rfl, State.portEvent_portFlags _ p evDriverOk none, only_parts_of_exec runs⟩

theorem exec_driverOk_of_cool (h : (s.port p).hot = false) : exec (.driverOk p) s = .next s :=
  if_neg (by simp [h])

end port

/-- Settles O50: STUCK and REARMED by what each leaves of the port before RTS is put, the shutdown by what the cut, the row
and the boundary keep of it, and each flag of EVENTS by what a port event tells. -/
theorem portConditionsAndTheirEvents : Obligations.PortConditionsAndTheirEvents := by
  unfold Obligations.PortConditionsAndTheirEvents
  exact ⟨fun s p ht hs => portStuck_sticks ht hs,
    fun s p ht hs => portRearmed_rearms ht hs,
    fun s p hr ht hn hp hx hs => silenceLapse_silences hr ht hn hp hx hs,
    fun s p ha hd hb hh => driverHot_shutsDown ha hd hb hh,
    fun s p ha hh => driverOk_drivesWhatIsDue ha hh,
    fun s p h => exec_portStuck_of_untimed h,
    fun s p h => exec_silenceLapse_of_stopped h,
    fun s p h => exec_driverOk_of_cool h,
    fun s p h => exec_driverHot_of_bypass h⟩

end Sys2Proof.Machine
end

section
/-!
PROOFS. A port's line while its receive side runs: start edges, decided characters and recognitions (03 R91; 10 R291, R294,
R301, R302, R304, R305, R311, R312; 11 R339).
-/
set_option Elab.async false
namespace Sys2Proof.Machine

/-! ### Start edges (10 R291, 11 R339) -/

section edge
variable {s : State} {p : PortNo}

/-- An armed port's stopwatch takes every edge, and one that begins a character latches its instant. -/
theorem Port.catchEdge_of_armed {q : Port} (ha : q.armed = true) (hs : q.stuck = false) (mark : Nat) (t : Stamp × Bool) :
    ∃ hold, q.catchEdge mark t = { q with
      falls := (t :: q.falls).take 3, edge := if q.starts mark t.1 then some t else q.edge, hold := hold } :=
  ⟨_, if_neg (by simp [ha, hs])⟩

/-- Beside its port an edge tells what the fall of the line tells, and in DOZE it may raise WAKE. -/
theorem State.lineEdge_of_armed (ha : (s.port p).armed = true) (mark : Nat) :
    (s.lineEdge p mark).port p = (s.port p).fallen.catchEdge mark (s.now, s.doubtNow) ∧
      (s.lineEdge p mark).settings = (s.fall p).settings := by
  have awake : (s.port p).fallen.wakeUp (s.now, s.doubtNow) = (s.port p).fallen := if_pos ha
  have dozing : (s.dozeEdge p mark).port p = (s.port p).fallen.catchEdge mark (s.now, s.doubtNow) :=
    (s.dozeEdge_port p mark).trans (congrArg (Port.catchEdge · mark _) awake)
  unfold State.lineEdge
  dsimp only
  split
  · split
    · exact ⟨dozing, rfl⟩
    · exact ⟨dozing, rfl⟩
  · rw [State.updPort_port_same, State.fall_port_same]
    exact ⟨rfl, rfl⟩

/-- A line that is no longer SILENT sets its port's flag of EVENTS (09 R281). -/
theorem State.fall_portFlags (h : (s.port p).silent = true) :
    (s.fall p).settings.portFlags = s.settings.portFlags ||| BitVec.ofNat 48 (2 ^ p.val) := by
  have told : s.fall p = (s.updPort p Port.fallen).portEvent p evActive none := if_pos h
  rw [told, State.portEvent_portFlags]
  rfl

theorem exec_startEdge_of_running (hw : s.watches = false) (ha : s.alive = true)
    (hr : s.roadRuns = true ∨ s.mode = .doze) (mark : Nat) :
    exec (.startEdge p mark) s = .next (s.lineEdge p mark) := by
  have running : (s.alive && (s.roadRuns || decide (s.mode = .doze))) = true := by simpa [ha] using hr
  show execStartEdge p mark s = _
  rw [execStartEdge, if_neg (by simp [hw]), if_pos running]

theorem startEdge_latches (hw : s.watches = false) (ha : s.alive = true) (hr : s.roadRuns = true ∨ s.mode = .doze)
    (hq : (s.port p).armed = true) (hs : (s.port p).stuck = false) (m : Nat) :
    ∃ t, exec (.startEdge p m) s = .next t ∧ (t.port p).falls = ((s.now, s.doubtNow) :: (s.port p).falls).take 3 ∧
      (t.port p).edge = (if (s.port p).starts m s.now then some (s.now, s.doubtNow) else (s.port p).edge) ∧
      (t.port p).silent = false ∧
      ((s.port p).silent = true → t.settings.portFlags = s.settings.portFlags ||| BitVec.ofNat 48 (2 ^ p.val)) ∧
      (t.port p).fifo = (s.port p).fifo ∧ Only (parts (.startEdge p m)) s t := by
  have runs := exec_startEdge_of_running (p := p) hw ha hr m
  obtain ⟨port, settings⟩ := State.lineEdge_of_armed hq m
  obtain ⟨hold, caught⟩ := Port.catchEdge_of_armed (q := (s.port p).fallen) hq hs m (s.now, s.doubtNow)
  refine ⟨_, runs, ?_⟩
  rw [port, caught, settings]
  exact ⟨rfl, rfl, rfl, State.fall_portFlags, rfl, only_parts_of_exec runs⟩

end edge

/-! ### The receive FIFO and MUTE (10 R301-R305, R312) -/

section receive
variable {q : Port} (bits : Half) (t : Stamp × Bool) (reading : Option Byte) (valid : Bool)

/-- The entry that the port stores for a character whose start edge had the latch `t` (10 R304, R305; 03 R91). -/
def Port.entry (q : Port) (bits : Half) (t : Stamp × Bool) (reading : Option Byte) (valid : Bool) : Entry :=
  { bits := bits ||| tagIf q.afterLoss entryAfterLoss ||| tagIf q.wokeNext entryWoke
    stamp := (if q.wokeNext then q.wokeEdge.getD t else t).1
    doubt := (if q.wokeNext then q.wokeEdge.getD t else t).2
    reading := reading, valid := valid }

theorem Port.store_of_room (h : q.fifo.length < 64) : ∃ seen stats rts, q.store bits t reading valid = { q with
    fifo := q.fifo ++ [q.entry bits t reading valid], afterLoss := false, wokeNext := false, wokeEdge := none
    wokeSeen := seen, stats := stats, rts := rts } :=
  ⟨_, _, _, if_neg (Nat.not_le.2 h)⟩

theorem Port.store_of_full (h : 64 ≤ q.fifo.length) : q.store bits t reading valid = { q with
    afterLoss := true, stats := { q.stats with afterLoss := satAdd top32 q.stats.afterLoss 1 } } :=
  if_pos h

/-- The port with its count of characters in a row with FRAME, and whether it hunts. -/
def Port.framed (q : Port) (n : Nat) (hunts : Bool) : Port := { q with frameRun := n, hunting := hunts }

/-- FRAMERUN counts and may begin a hunt; the rest of a port outside a character stands. -/
theorem Port.countFrame_of_idle (h : q.edge = none) : ∃ n hunts, q.countFrame bits = q.framed n hunts := by
  unfold Port.countFrame
  dsimp only
  split
  · split
    · exact ⟨_, true, by rw [Port.framed, h]⟩
    · exact ⟨_, q.hunting, rfl⟩
  · exact ⟨0, q.hunting, rfl⟩

/-- The port past a decided character: what MUTE lets through counts in FRAMERUN and is stored. -/
def Port.receive (q : Port) (bits : Half) (t : Stamp × Bool) (reading : Option Byte) (valid : Bool) : Port :=
  if (q.gate bits).2 then ((q.gate bits).1.countFrame bits).store bits t reading valid else (q.gate bits).1

theorem Port.receive_of_heard (hm : q.rx.mute = false) (he : q.edge = none) : ∃ n hunts,
    q.receive bits t reading valid = (q.framed n hunts).store bits t reading valid := by
  have opened : q.gate bits = (q, true) := if_pos (by simp [hm])
  obtain ⟨n, hunts, counted⟩ := Port.countFrame_of_idle bits he
  refine ⟨n, hunts, ?_⟩
  rw [Port.receive, opened, if_pos rfl, counted]

theorem Port.receive_of_muted (hm : q.rx.mute = true) (hu : q.unmuted = false) (hd : bits.getLsbD 8 = false) :
    q.receive bits t reading valid = q := by
  have closed : q.gate bits = (q, false) := by
    rw [Port.gate, if_neg (by simp [hm]), if_neg (Bool.eq_false_iff.1 hd), hu]
  rw [Port.receive, closed, if_neg Bool.false_ne_true]

end receive

/-! ### Decided characters (10 R294, R304) -/

section character
variable {s : State} {p : PortNo} {l : List Samples} {x : Samples}

/-- The port at which a character has been decided: none is under way. -/
def Port.decided (q : Port) (hold : LineHold) (space : Bool) (amp : Amp) : Port :=
  { q with edge := none, hold := hold, space := space, amp := amp }

/-- A reading changes nothing of the port but its amplitude block. -/
theorem State.ampRead_port (s : State) (p : PortNo) (r : Byte) :
    ∃ a, (s.ampRead p r).port p = { s.port p with amp := a } := by
  unfold State.ampRead
  dsimp only
  split
  · exact ⟨_, rfl⟩
  · split
    · exact ⟨_, State.updPort_port_same _ _ _⟩
    · split
      · exact ⟨_, by simp only [State.portEvent_port, State.updPort_port_same]; rfl⟩
      · split
        · exact ⟨_, by simp only [State.portEvent_port, State.updPort_port_same]; rfl⟩
        · exact ⟨_, by simp only [State.updPort_port_same]; rfl⟩

theorem State.ampFrame_port (s : State) (p : PortNo) (bits : Half) (r : Byte) :
    ∃ a, (s.ampFrame p bits r).port p = { s.port p with amp := a } := by
  unfold State.ampFrame
  split
  · exact ⟨_, rfl⟩
  · split
    · exact ⟨_, State.updPort_port_same _ _ _⟩
    · split
      · exact ⟨_, State.updPort_port_same _ _ _⟩
      · exact ⟨_, rfl⟩

/-- A character whose start bit reads mark is a glitch. -/
theorem State.takeCharacter_of_glitch (hx : l.head? = some x) (hb : sampleBit x (s.port p).rx.spot = true) (r : Byte)
    (t : Stamp × Bool) : (s.takeCharacter p l r t).port p = { s.port p with
      edge := none, space := false
      stats := { (s.port p).stats with glitches := satAdd top32 (s.port p).stats.glitches 1 } } := by
  unfold State.takeCharacter
  simp only [hx, hb, if_true, State.updPort_port_same]

/-- Any other is received as it is decided, with its reading. -/
theorem State.takeCharacter_of_start (hx : l.head? = some x) (hb : sampleBit x (s.port p).rx.spot = false) (r : Byte)
    (t : Stamp × Bool) : ∃ hold space amp valid, (s.takeCharacter p l r t).port p =
      ((s.port p).decided hold space amp).receive (decidedEntry (s.port p).rx s.power.vanaGood l) t
        (if (s.port p).rx.bypass then none else some r) valid := by
  unfold State.takeCharacter
  simp only [hx, hb, Bool.false_eq_true, if_false, State.updPort_port_same]
  obtain ⟨a, framed⟩ := State.ampFrame_port _ p _ r
  obtain ⟨b, read⟩ := State.ampRead_port _ p r
  rw [framed, read, State.updPort_port_same, State.updPort_port_same]
  exact ⟨_, _, a, _, rfl⟩

/-- Where MUTE is off it comes to the FIFO. -/
theorem State.takeCharacter_of_heard (hx : l.head? = some x) (hb : sampleBit x (s.port p).rx.spot = false)
    (hm : (s.port p).rx.mute = false) (r : Byte) (t : Stamp × Bool) : ∃ hold space amp n hunts valid,
    (s.takeCharacter p l r t).port p = (((s.port p).decided hold space amp).framed n hunts).store
      (decidedEntry (s.port p).rx s.power.vanaGood l) t (if (s.port p).rx.bypass then none else some r) valid := by
  obtain ⟨hold, space, amp, valid, port⟩ := State.takeCharacter_of_start hx hb r t
  obtain ⟨n, hunts, heard⟩ := Port.receive_of_heard (q := (s.port p).decided hold space amp) _ t _ valid hm rfl
  exact ⟨hold, space, amp, n, hunts, valid, port.trans heard⟩

theorem exec_characterStored_of_idle (hw : s.watches = false) (he : (s.port p).edge = none) (l : List Samples)
    (r : List Nat) : exec (.characterStored p l r) s = .next s := by
  show execCharacterStored p l r s = _
  simp [execCharacterStored, hw, he]

section stored
variable {st : Stamp × Bool}
variable (hw : s.watches = false) (hr : s.receives p = true) (he : (s.port p).edge = some st)
  (hh : (s.port p).hunting = false)
include hw hr he hh

theorem exec_characterStored_of_receives (l : List Samples) (r : List Nat) :
    exec (.characterStored p l r) s = .next (s.takeCharacter p l (readingOf r) st) := by
  show execCharacterStored p l r s = _
  simp [execCharacterStored, hw, hr, he, hh]

variable (hx : l.head? = some x) (r : List Nat)
include hx

theorem characterStored_glitches (hb : sampleBit x (s.port p).rx.spot = true) :
    ∃ t, exec (.characterStored p l r) s = .next t ∧ (t.port p).fifo = (s.port p).fifo ∧ (t.port p).edge = none ∧
      (t.port p).space = false ∧ (t.port p).stats.glitches = min 0xFFFFFFFF ((s.port p).stats.glitches + 1) ∧
      Only (parts (.characterStored p l r)) s t := by
  have runs := exec_characterStored_of_receives hw hr he hh l r
  have port := State.takeCharacter_of_glitch hx hb (readingOf r) st
  refine ⟨_, runs, ?_⟩
  rw [port]
  exact ⟨rfl, rfl, rfl, rfl, only_parts_of_exec runs⟩

theorem characterStored_muted (hm : (s.port p).rx.mute = true) (hu : (s.port p).unmuted = false)
    (hd : (decidedEntry (s.port p).rx s.power.vanaGood l).getLsbD 8 = false) :
    ∃ t, exec (.characterStored p l r) s = .next t ∧ (t.port p).fifo = (s.port p).fifo ∧ (t.port p).edge = none ∧
      (t.port p).frameRun = (s.port p).frameRun ∧ Only (parts (.characterStored p l r)) s t := by
  have runs := exec_characterStored_of_receives hw hr he hh l r
  refine ⟨_, runs, ?_⟩
  cases hb : sampleBit x (s.port p).rx.spot with
  | true =>
    rw [State.takeCharacter_of_glitch hx hb (readingOf r) st]
    exact ⟨rfl, rfl, rfl, only_parts_of_exec runs⟩
  | false =>
    obtain ⟨hold, space, amp, valid, port⟩ := State.takeCharacter_of_start hx hb (readingOf r) st
    rw [port, Port.receive_of_muted (q := (s.port p).decided hold space amp) _ st _ valid hm hu hd]
    exact ⟨rfl, rfl, rfl, only_parts_of_exec runs⟩

variable (hb : sampleBit x (s.port p).rx.spot = false) (hm : (s.port p).rx.mute = false)
include hb hm

theorem characterStored_stores (hf : (s.port p).fifo.length < 64) :
    ∃ t, exec (.characterStored p l r) s = .next t ∧ (t.port p).edge = none ∧ (t.port p).afterLoss = false ∧
      (t.port p).wokeNext = false ∧
      (∃ valid, (t.port p).fifo = (s.port p).fifo ++ [(s.port p).entry
        (decidedEntry (s.port p).rx s.power.vanaGood l) st
        (if (s.port p).rx.bypass then none else some (readingOf r)) valid]) ∧
      Only (parts (.characterStored p l r)) s t := by
  have runs := exec_characterStored_of_receives hw hr he hh l r
  obtain ⟨hold, space, amp, n, hunts, valid, port⟩ := State.takeCharacter_of_heard hx hb hm (readingOf r) st
  obtain ⟨seen, stats, rts, stored⟩ := Port.store_of_room
    (q := ((s.port p).decided hold space amp).framed n hunts) _ st _ valid hf
  refine ⟨_, runs, ?_⟩
  rw [port.trans stored]
  exact ⟨rfl, rfl, rfl, ⟨valid, rfl⟩, only_parts_of_exec runs⟩

theorem characterStored_loses (hf : 64 ≤ (s.port p).fifo.length) :
    ∃ t, exec (.characterStored p l r) s = .next t ∧ (t.port p).fifo = (s.port p).fifo ∧
      (t.port p).afterLoss = true ∧ (t.port p).stats.afterLoss = min 0xFFFFFFFF ((s.port p).stats.afterLoss + 1) ∧
      Only (parts (.characterStored p l r)) s t := by
  have runs := exec_characterStored_of_receives hw hr he hh l r
  obtain ⟨hold, space, amp, n, hunts, valid, port⟩ := State.takeCharacter_of_heard hx hb hm (readingOf r) st
  refine ⟨_, runs, ?_⟩
  rw [port, Port.store_of_full (q := ((s.port p).decided hold space amp).framed n hunts) _ st _ valid hf]
  exact ⟨rfl, rfl, rfl, only_parts_of_exec runs⟩

end stored

end character

/-! ### Recognitions (10 R309, R311) -/

section recognise
variable {s : State} {p : PortNo} {e : Edges}

/-- The port past its hunt, at the rate that was recognised, before the character is stored. -/
def Port.recognised (q : Port) (rate : Nat) : Port :=
  { q with hunting := false, rateNow := rate, frameRun := 0, edge := none, falls := [], hold := .free, space := false }

/-- A tag above the low byte leaves the low byte of an entry. -/
theorem tagIf_low (b : Bool) {t : Half} (h : t.setWidth 8 = 0#8) : (tagIf b t).setWidth 8 = 0#8 := by
  cases b
  · rfl
  · exact h

theorem Port.entry_low (q : Port) (noisy : Bool) (c : Byte) (t : Stamp × Bool) (reading : Option Byte) (valid : Bool) :
    (q.entry (tagIf noisy entryNoise ||| c.setWidth 16) t reading valid).bits.setWidth 8 = c := by
  simp only [Port.entry, BitVec.setWidth_or, tagIf_low noisy (t := entryNoise) rfl,
    tagIf_low q.afterLoss (t := entryAfterLoss) rfl, tagIf_low q.wokeNext (t := entryWoke) rfl, BitVec.zero_or,
    BitVec.or_zero]
  rw [BitVec.setWidth_setWidth_of_le c (by decide), BitVec.setWidth_eq]

/-- Outside DOZE a recognition ends the hunt and stores its character under edge 1. -/
theorem State.recognise_of_awake (hd : s.mode ≠ .doze) (c : Byte) (rate : Nat) (r : Byte) (t : Stamp × Bool) :
    ∃ amp reading valid, (s.recognise p c rate r t).port p = ({ s.port p with amp := amp }.recognised rate).store
      (tagIf (!s.power.vanaGood) entryNoise ||| c.setWidth 16) t reading valid := by
  obtain ⟨amp, read⟩ := s.ampRead_port p r
  have power : (s.ampRead p r).power = s.power :=
    (State.ampRead_steps (ps := [.mem, .pool, .draws, .irq, .bells, .events, .ports, .sluice, .journal, .dozeEvents])
      p r (Steps.refl _ s) rfl).same .power
  unfold State.recognise
  dsimp only
  rw [if_neg (by simp [hd]), State.updPort_port_same, read, power]
  exact ⟨amp, _, _, rfl⟩

theorem exec_autobaudAccept_of_unrecognised (h : edgesCharacter e = none) (r : List Nat) :
    exec (.autobaudAccept p e r) s = .next s := by
  show execAutobaudAccept p e r s = _
  rw [execAutobaudAccept, h]

variable (hw : s.watches = false)
include hw

/-- A hunting port that has not seen edges 1, 3 and 5 recognises nothing. -/
theorem exec_autobaudAccept_of_few (hf : (s.port p).falls[2]? = none) (r : List Nat) :
    exec (.autobaudAccept p e r) s = .next s := by
  have unseen : (s.port p).edgeOne = none := hf
  cases hc : edgesCharacter e with
  | none => exact exec_autobaudAccept_of_unrecognised hc r
  | some c =>
    show execAutobaudAccept p e r s = _
    simp [execAutobaudAccept, hc, hw, unseen]

theorem autobaudAccept_recognises {c : Byte} {st : Stamp × Bool} (hr : s.receives p = true)
    (hh : (s.port p).hunting = true) (hd : s.mode ≠ .doze) (hc : edgesCharacter e = some c)
    (hf : (s.port p).falls[2]? = some st) (hl : (s.port p).fifo.length < 64) (r : List Nat) :
    ∃ t, exec (.autobaudAccept p e r) s = .next t ∧ (t.port p).hunting = false ∧ (t.port p).rateNow = edgesRate e ∧
      (∃ x, (t.port p).fifo = (s.port p).fifo ++ [x] ∧ x.bits.setWidth 8 = c ∧
        (x.stamp, x.doubt) = (if (s.port p).wokeNext then (s.port p).wokeEdge.getD st else st)) ∧
      Only (parts (.autobaudAccept p e r)) s t := by
  have first : (s.port p).edgeOne = some st := hf
  have runs : exec (.autobaudAccept p e r) s = .next (s.recognise p c (edgesRate e) (readingOf r) st) := by
    show execAutobaudAccept p e r s = _
    simp [execAutobaudAccept, hc, hw, hr, hh, first]
  obtain ⟨amp, reading, valid, port⟩ := State.recognise_of_awake (p := p) hd c (edgesRate e) (readingOf r) st
  obtain ⟨seen, stats, rts, stored⟩ := Port.store_of_room (q := { s.port p with amp := amp }.recognised (edgesRate e)) _ st
    reading valid hl
  refine ⟨_, runs, ?_⟩
  rw [port.trans stored]
  exact ⟨rfl, rfl, ⟨_, rfl, Port.entry_low _ _ c st reading valid, rfl⟩, only_parts_of_exec runs⟩

end recognise

/-- Settles O49: an edge by what the stopwatch catches, a decided character by what MUTE's gate and the FIFO make of it, a
recognition by the FIFO of a port whose hunt is over. -/
theorem portLinesInTheWorkingModes : Obligations.PortLinesInTheWorkingModes := by
  unfold Obligations.PortLinesInTheWorkingModes
  exact ⟨fun s p m hw ha hr hq hs => startEdge_latches hw ha hr hq hs m,
    fun s p l r x st hw hr he hh hx hb hm hf => characterStored_stores hw hr he hh hx r hb hm hf,
    fun s p l r x st hw hr he hh hx hb hm hf => characterStored_loses hw hr he hh hx r hb hm hf,
    fun s p l r x st hw hr he hh hx hb => characterStored_glitches hw hr he hh hx r hb,
    fun s p l r x st hw hr he hh hx hm hu hd => characterStored_muted hw hr he hh hx r hm hu hd,
    fun s p e r hw hf => exec_autobaudAccept_of_few hw hf r,
    fun s p l r hw he => exec_characterStored_of_idle hw he l r,
    fun s p e r c st hw hr hh hd hc hf hl => autobaudAccept_recognises hw hr hh hd hc hf hl r,
    fun s p e r hc => exec_autobaudAccept_of_unrecognised hc r⟩

end Sys2Proof.Machine
end

section
/-!
PROOFS. An idle microsecond (11 R342), and an alarm that waited for a cell (13 R398).
-/
set_option Elab.async false
namespace Sys2Proof.Machine

/-! ### An idle step (11 R342) -/

theorem State.tick_power (s : State) : s.tick.power =
    { s.power with elapsed := if s.power.running then s.power.elapsed + 1 else s.power.elapsed } := by
  unfold State.tick
  split <;> rfl

/-- Settles O2: an idle step is a tick, which changes the elapsed count alone. -/
theorem emptyQueueCountsAMicrosecond : Obligations.EmptyQueueCountsAMicrosecond :=
  fun s h => ⟨s.tick, step_nil h, (State.tick_steps (Steps.refl _ s) rfl).1, s.tick_power⟩

/-! ### An alarm whose number a link bears already (13 R397, R398) -/

theorem State.popCell_of_single {s : State} {c : Nat} (h : s.sluice.free = [c]) :
    s.popCell = some (c, s.draw.2.setSluice fun l => { l with free := [] }) := by
  have first : s.draw.1 % s.sluice.free.length = 0 := by rw [h]; exact Nat.mod_one _
  have left : s.sluice.free.eraseIdx 0 = [] := by rw [h]; rfl
  unfold State.popCell
  dsimp only
  rw [first, h]
  exact congrArg (fun l => some (c, s.draw.2.setSluice fun d => { d with free := l })) left

/-- A producer of one-cell items takes the one cell that is free. -/
theorem State.newItem_of_single {s : State} {c : Nat} (h : s.sluice.free = [c]) {payload : List Byte}
    (hp : payload.length ≤ 104) (tagLen : Nat) (source : Byte) (stamp : Stamp) (doubt : Bool) (flags : Byte) :
    s.newItem payload tagLen source stamp doubt flags true = some (s.sluice.nextId,
      ((s.draw.2.setSluice fun l => { l with free := [] }).putPayload [c] 0 payload).setSluice fun l => { l with
        nextId := s.sluice.nextId + 1
        items := l.items ++ [freshItem s.sluice.nextId [c] payload tagLen source stamp doubt flags] }) := by
  have taken : State.takeCells 1 s true [] = some ([c], s.draw.2.setSluice fun l => { l with free := [] }) := by
    unfold State.takeCells State.takeCell
    rw [if_pos (by rfl), State.popCell_of_single h]
    rfl
  unfold State.newItem
  rw [cellsFor, if_pos hp, taken]
  rfl

/-- The last alarm that waits, with no change of its own, takes its cell and is committed (13 R398). -/
theorem State.placeWaiting_of_last {s u : State} {w : AlarmWait} {id : Nat} (hw : s.sluice.alarmWaits = [w])
    (hm : w.move = none) (made : s.newItem w.payload 0 0x40 w.stamp w.doubt
      (flDevice ||| flCkOk ||| if w.injected then flInjected else 0) true = some (id, u)) :
    s.placeWaiting = (u.setSluice fun l => { l with alarmWaits := [] }).commitAlarm id (u.routeMask w.route) := by
  unfold State.placeWaiting
  rw [hw]
  dsimp only
  rw [made, hm]
  rfl

/-- A lamp alarm of one character that waits for a cell, its route the row 0. -/
def strayAlarm : AlarmWait :=
  { payload := [65], stamp := 5, doubt := false, route := 0, injected := false, move := none }

/-- A link of the item number that is given next. -/
def strayLink : Link := { item := 0, cls := 4, order := 5, source := 3, front := false }

/-- RUN with port 0 a listener on route 0, one cell free and an alarm that waits for it. No item is on the road, and the
queue of port 0, which has the 16 credits that are the fewest, holds 16 links of item 0, the next number. -/
def strayLinks : State :=
  { State.reset with
    mem := [(routeRowAt 0, 1)]
    power := { Power.reset with completing := false }
    modes := { ModeRegs.reset with mode := .run, target := .run, busy := false }
    engine := { Engine.reset with up := true }
    ports := upd (Vector.replicate 48 Port.reset) 0 fun q => { q with txRow := PortRow.default ||| 0x1000 }
    sluice := { Sluice.reset with
      free := [0], alarmWaits := [strayAlarm]
      views := upd (Vector.replicate 52 View.reset) 0 fun v => { v with queue := List.replicate 16 strayLink } } }

/-- The alarm has taken its cell and is item 0, which the 16 links now name. -/
def strayTaken : State :=
  { strayLinks with
    mem := [(cellAt 0 + 24, 65), (routeRowAt 0, 1)]
    draws := 1
    sluice := { strayLinks.sluice with
      free := [], alarmWaits := [], nextId := 1
      items := [freshItem 0 [0] [65] 0 0x40 5 false (flDevice ||| flCkOk)] } }

theorem strayLinks_placeWaiting : strayLinks.placeWaiting = strayTaken.commitAlarm 0 1 := by
  have mask : strayTaken.routeMask 0 = 1 := by decide
  rw [State.placeWaiting_of_last (w := strayAlarm) rfl rfl
    (State.newItem_of_single (c := 0) rfl (by decide) _ _ _ _ _), ← mask]
  rfl

/-- The alarm is of class 0, so the view of port 0 makes room for it by evicting what is queued there: the links of item 0,
whose cells fill its credits now. With its last reference the alarm's own item goes, and the commit then links a number
that no item bears. -/
theorem strayTaken_commitAlarm : (strayTaken.commitAlarm 0 1).sluice.items = [] := by
  decide +kernel

/-- Refutes O52: in `strayLinks` the waiting alarm is evicted by its own commit, and no item is on the road afterwards. The
premises keep the next number from every item but not from the views' links, and the statement takes every state. -/
theorem not_assemblerSieveAndWeirMoveItems : ¬ Obligations.AssemblerSieveAndWeirMoveItems := by
  rintro ⟨-, -, -, -, -, -, -, -, -, -, -, -, alarm, -⟩
  obtain ⟨t, h, -, linked, -⟩ := alarm strayLinks strayAlarm [] rfl rfl (by decide) (fun _ hj => absurd hj List.not_mem_nil)
  have placed : strayLinks.placeWaiting = t := Host.Outcome.next.inj h
  obtain ⟨-, j, hj, -⟩ := linked 0 (by decide) (by decide) rfl (by decide)
  rw [← placed, strayLinks_placeWaiting, strayTaken_commitAlarm] at hj
  exact absurd hj List.not_mem_nil

end Sys2Proof.Machine
end

section
/-!
PROOFS. How a step runs the front command and what a command leaves as it was; the test access port (21 R635-R638); the
AUDIT register and its bell (05 R177, 06 R195, 13 R406).
-/
set_option Elab.async false
namespace Sys2Proof.Machine

/-! ### Commands in general -/

/-- Settles O1: the first branch of `step`. -/
theorem stepRunsTheFrontCommand : Obligations.StepRunsTheFrontCommand := by
  intro s c rest hp
  rw [step, hp]

/-- Settles O3: `exec_answers` gives each command's next state with its frame. -/
theorem everyCommandCompletesWithinItsParts : Obligations.EveryCommandCompletesWithinItsParts := by
  intro c s
  obtain ⟨t, h, steps⟩ := exec_answers c s
  exact ⟨t, h, steps.1⟩

/-! ### The test access port (21 R635-R638) -/

theorem State.loadIr_running {s : State} (hr : s.power.running = true) (ir : BitVec 4) (sampled : Bool) :
    s.loadIr ir sampled = s.setJtag { s.jtag with ir := ir, sampled := sampled } :=
  if_pos hr

theorem State.loadIr_setJtag {s : State} (hr : s.power.running = true) (j : Jtag) (ir : BitVec 4) (sampled : Bool) :
    (s.setJtag j).loadIr ir sampled = s.setJtag { j with ir := ir, sampled := sampled } :=
  if_pos hr

theorem State.scan_running {s : State} (hr : s.power.running = true) (shift : Option ScanOut) (balls : ScanIn) :
    s.scan shift balls = s.setJtag { s.jtag with out := shift.getD s.jtag.out, seen := balls, lines := s.lineCells } :=
  if_pos hr

theorem exec_extest {s : State} (hr : s.power.running = true) (sh : Option ScanOut) (balls : ScanIn) :
    exec (.extest sh balls) s = .next (s.setJtag { s.jtag with
      ir := 0, out := sh.getD s.jtag.out, seen := balls, lines := s.lineCells }) := by
  show Host.Outcome.next ((s.scan sh balls).loadIr 0 s.jtag.sampled) = _
  rw [State.scan_running hr, State.loadIr_setJtag hr]

theorem exec_samplePreload {s : State} (hr : s.power.running = true) (sh : ScanOut) (balls : ScanIn) :
    exec (.samplePreload sh balls) s = .next (s.setJtag { s.jtag with
      ir := 2, sampled := true, out := sh, seen := balls, lines := s.lineCells }) := by
  show Host.Outcome.next ((s.scan (some sh) balls).loadIr 2 true) = _
  rw [State.scan_running hr, State.loadIr_setJtag hr]
  rfl

theorem exec_bypass {s : State} (hr : s.power.running = true) {k : BitVec 4} (hk : 4 ≤ k.toNat) :
    exec (.bypass k) s = .next (s.setJtag { s.jtag with ir := k }) := by
  show (if k.toNat < 4 then _ else Host.Outcome.next (s.loadIr k s.jtag.sampled)) = _
  rw [if_neg (Nat.not_lt.2 hk), State.loadIr_running hr]

theorem getLsbD_ofNat_two_pow {n j k : Nat} : (BitVec.ofNat n (2 ^ j)).getLsbD k = (decide (k < n) && decide (j = k)) := by
  rw [BitVec.getLsbD_ofNat, Nat.testBit_two_pow]

/-- A walk that sets the bit of each place that `f` does not name. -/
theorem foldl_setBit {n : Nat} (f : Fin n → Bool) (l : List (Fin n)) (v : BitVec n) (k : Fin n) :
    (l.foldl (fun v p => if f p then v else v ||| BitVec.ofNat n (2 ^ p.val)) v).getLsbD k.val =
      (v.getLsbD k.val || (decide (k ∈ l) && !f k)) := by
  induction l generalizing v with
  | nil => simp
  | cons p l ih =>
    have bit : (v ||| BitVec.ofNat n (2 ^ p.val)).getLsbD k.val = (v.getLsbD k.val || decide (k = p)) := by
      rw [BitVec.getLsbD_or, getLsbD_ofNat_two_pow]
      simp [Fin.ext_iff, eq_comm]
    rw [List.foldl_cons, ih, apply_ite (BitVec.getLsbD · k.val), bit]
    by_cases same : k = p
    · subst same
      cases f k <;> simp
    · cases f p <;> simp [same]

/-- Each line cell is 1 while its port's line is at mark (21 R637). -/
theorem State.lineCells_bit (s : State) (p : PortNo) : s.lineCells.getLsbD p.val = !(s.port p).space := by
  rw [State.lineCells, foldl_setBit fun p => (s.ports.get p).space]
  simp [State.port]

/-- Beyond the four instructions of the chain the test access port leaves the core its balls. -/
theorem Jtag.bypass_rests {j : Jtag} (h : 4 ≤ j.ir.toNat) : j.detached = false ∧ j.highz = false ∧ j.idcode? = none := by
  have other : ∀ k : BitVec 4, k.toNat < 4 → j.ir ≠ k := fun k hk e => absurd (e ▸ h) (Nat.not_le.2 hk)
  have h0 := other 0 (by decide)
  have h1 := other 1 (by decide)
  have h3 := other 3 (by decide)
  simp only [Jtag.detached, Jtag.highz, Jtag.idcode?, h0, h1, h3, decide_false, Bool.or_self, if_false, and_self]

theorem State.pairBalls_highz {s : State} (h : s.jtag.ir = 3) (p : PortNo) (x : TxPhase) :
    s.pairBalls p x = (.off, .off) := by
  simp [State.pairBalls, Jtag.ball, Jtag.highz, h]

theorem State.pairBalls_extest {s : State} (h : s.jtag.ir = 0) (p : PortNo) (x : TxPhase) : s.pairBalls p x =
    if s.jtag.out.portEnable.getLsbD p.val = true ∧ s.vanaGuard = false then
      (levelOf (s.jtag.out.portData.getLsbD p.val), levelOf (!s.jtag.out.portData.getLsbD p.val))
    else (.off, .off) := by
  have cells : ∀ core cell : Drive, s.jtag.ball core cell = cell := by simp [Jtag.ball, Jtag.highz, Jtag.detached, h]
  simp only [State.pairBalls, cells, Bool.and_eq_true, Bool.not_eq_true']
  split <;> rfl

/-- The table of parts names the test access port for its six commands alone. -/
theorem jtag_of_parts {c : Instr} (h : (parts c).contains .jtag = true) :
    (∃ x y, c = .extest x y) ∨ c = .highz ∨ c = .idcode ∨ (∃ x y, c = .samplePreload x y) ∨ c = .testLogicReset ∨
    ∃ k, c = .bypass k := by
  cases c with
  | extest x y => exact .inl ⟨x, y, rfl⟩
  | highz => exact .inr (.inl rfl)
  | idcode => exact .inr (.inr (.inl rfl))
  | samplePreload x y => exact .inr (.inr (.inr (.inl ⟨x, y, rfl⟩)))
  | testLogicReset => exact .inr (.inr (.inr (.inr (.inl rfl))))
  | bypass k => exact .inr (.inr (.inr (.inr (.inr ⟨k, rfl⟩))))
  | _ => cases h

/-- Settles O6: the equation of each command, the cells and balls by what they read, and the table of parts. -/
theorem tapCommandsAloneReachTheTestPort : Obligations.TapCommandsAloneReachTheTestPort := by
  refine ⟨fun s sh balls hr => exec_extest hr sh balls, fun s sh balls hr => exec_samplePreload hr sh balls,
    fun s hr => ⟨?_, ?_, ?_⟩, fun s k hr hk => exec_bypass hr hk, fun j => ⟨Jtag.bypass_rests, fun h => if_pos h⟩,
    State.lineCells_bit, fun s p x h => State.pairBalls_highz h p x, fun s p x h => State.pairBalls_extest h p x,
    fun s h => ?_, fun c s t h moved => ?_⟩
  · exact congrArg Host.Outcome.next (State.loadIr_running hr 1 s.jtag.sampled)
  · exact congrArg Host.Outcome.next (State.loadIr_running hr 3 s.jtag.sampled)
  · exact congrArg Host.Outcome.next (State.loadIr_running hr 1 false)
  · have off : s.jtag.detached = true := by simpa [Jtag.detached] using h
    simp [State.busServed, off]
  · refine jtag_of_parts ?_
    by_contra none
    exact moved ((only_parts_of_exec h).same .jtag (by simpa using none))

/-! ### The AUDIT register (05 R177, 06 R195, 13 R406) -/

section audit
variable {s : State}

/-- A channel but its BELLIN bits and the replies that wait, where neither is a part that changes. -/
theorem Steps.chan_bare {ps : List Part} {t : State} (h : Steps ps s t) (c : Chan)
    (hn : ps.contains .chanN = false := by rfl) (hk : ps.contains .chanK = false := by rfl) :
    (t.chan c).bare = (s.chan c).bare := by
  cases c
  · exact h.same .chanN hn
  · exact h.same .chanK hk

theorem State.bellBoth_bell (s : State) {bit : Nat} (h : bit < 32) : (s.bellBoth bit).chanN.bellIn.getLsbD bit = true := by
  have first := s.bellOn_bell .n h
  unfold State.bellBoth
  dsimp only
  split
  · exact Steps.bell (State.bellOn_steps (ps := [.irq, .bells]) .k bit (Steps.refl _ _) rfl) first
  · exact first

/-- Imbalances are set in AUDIT beside those that stand, and doorbell 8 rings (13 R406). -/
def State.audited (s : State) (bits : Byte) : State :=
  (s.setPower fun p => { p with audit := p.audit ||| bits }).headNotice.bellBoth bellAudit

theorem State.audited_rings (s : State) (bits : Byte) : (s.audited bits).chanN.bellIn.getLsbD 8 = true :=
  State.bellBoth_bell _ (by decide)

theorem State.audited_tells (s : State) (bits : Byte) : Steps [.irq, .bells, .ports]
    (s.setPower fun p => { p with audit := p.audit ||| bits }) (s.audited bits) :=
  State.bellBoth_steps bellAudit (State.headNotice_steps (Steps.refl _ _) rfl) rfl

theorem State.audited_power (s : State) (bits : Byte) :
    (s.audited bits).power = { s.power with audit := s.power.audit ||| bits } :=
  (s.audited_tells bits).same .power

theorem exec_auditSet (hr : s.roadRuns = true) (b : Fin 8) (h : s.engine.up = true ∨ b.val < 4 ∨ b.val = 7) :
    exec (.auditSet b) s = .next (s.audited (BitVec.ofNat 8 (2 ^ b.val))) := by
  refine if_pos ?_
  rw [hr]
  simpa [or_assoc] using h

/-- An engine's imbalance stands in its bit of AUDIT. -/
theorem State.engineAudit_stands (s : State) {x : BitVec 3} {k : Fin 3} (h : x.getLsbD k.val = true) :
    (s.engineAudit x).getLsbD (4 + k.val) = true := by
  have place : 4 + k.val < 8 := by omega
  simp [State.engineAudit, place, h]

/-- The doorbell AUDIT-RECHECK taken off its channel. -/
def State.recheckTaken (s : State) (c : Chan) : State :=
  s.setChan c fun r => { r with bellOut := r.bellOut &&& ~~~(BitVec.ofNat 8 (2 ^ 7)) }

/-- AUDIT-RECHECK served: its bell taken, and the engine's imbalances that stand set again. -/
def State.rechecked (s : State) (c : Chan) (x : BitVec 3) : State :=
  if s.engineAudit x ≠ 0 then (s.recheckTaken c).audited (s.engineAudit x) else s.recheckTaken c

theorem exec_auditRecheck {c : Chan} (hs : s.serves = true) (hb : (s.chan c).bellOut.getLsbD 7 = true) (x : BitVec 3) :
    exec (.auditRecheck c x) s = .next (s.rechecked c x) := by
  have same : (s.recheckTaken c).engineAudit x = s.engineAudit x := by cases c <;> rfl
  show Host.Outcome.next (s.takeBell c 7 _) = _
  rw [State.takeBell_of_rung hs hb, State.rechecked, ← same]
  rfl

theorem State.recheckTaken_bellOut (s : State) (c : Chan) : ((s.recheckTaken c).chan c).bellOut =
    (s.chan c).bellOut &&& 0x7F := by
  rw [State.recheckTaken, State.setChan_chan]
  rfl

theorem State.rechecked_bellOut (s : State) (c : Chan) (x : BitVec 3) : ((s.rechecked c x).chan c).bellOut =
    (s.chan c).bellOut &&& 0x7F := by
  rw [State.rechecked]
  split
  · have rest : (((s.recheckTaken c).audited (s.engineAudit x)).chan c).bare = ((s.recheckTaken c).chan c).bare :=
      (State.audited_tells (s.recheckTaken c) _).chan_bare c
    exact (congrArg ChanRegs.bellOut rest).trans (s.recheckTaken_bellOut c)
  · exact s.recheckTaken_bellOut c

theorem State.rechecked_audit (s : State) (c : Chan) (x : BitVec 3) : (s.rechecked c x).power.audit =
    s.power.audit ||| s.engineAudit x := by
  have kept : (s.recheckTaken c).power = s.power := by cases c <;> rfl
  rw [State.rechecked]
  split
  next h => rw [State.audited_power, kept]
  next h => rw [kept, not_not.1 h]; simp

/-- Settles O12: an imbalance leaves `audited`; AUDIT-RECHECK takes its bell and, where an imbalance stands, leaves the
same. -/
theorem auditBitsRingDoorbellEight : Obligations.AuditBitsRingDoorbellEight := by
  refine ⟨fun s b hr h => ?_, fun s c x hs hb => ?_⟩
  · have he := exec_auditSet hr b h
    refine ⟨_, he, s.audited_power _, ?_, s.audited_rings _, only_parts_of_exec he⟩
    rw [s.audited_power]
    show (s.power.audit ||| BitVec.ofNat 8 (2 ^ b.val)).getLsbD b.val = true
    rw [BitVec.getLsbD_or, getLsbD_ofNat_two_pow]
    simp
  · have he := exec_auditRecheck hs hb x
    refine ⟨_, he, s.rechecked_bellOut c x, s.rechecked_audit c x, fun h => ?_, fun k => State.engineAudit_stands s,
      only_parts_of_exec he⟩
    rw [State.rechecked, if_pos h]
    exact State.audited_rings _ _

end audit

end Sys2Proof.Machine
end

section
/-!
PROOFS. What the acts of the Sluice, the lamps and the ports leave of the items that wait before the views (12 R376, 21 R630),
of the alarms that wait for a cell (13 R398) and of the listing of the tables.
-/
set_option Elab.async false
namespace Sys2Proof.Machine

/-! ### Items that wait for a governor or in an injection slot -/

/-- The item is deferred, or an injection slot holds it. -/
def Item.waits (i : Item) : Bool := isDeferred i || isHeld i

/-- The listing of the tables, and of whatever is listed after them. -/
def Memory.upper (m : List Host.Cell) : List Host.Cell := m.dropWhile fun c => decide (c.1 < 0xF0000)

/-- A write below the tables leaves their listing. -/
theorem Memory.upper_write {m : List Host.Cell} {x : Nat} (hx : x < 0xF0000) (b : Byte) :
    Memory.upper (Memory.write m x b) = Memory.upper m := by
  induction m with
  | nil =>
    unfold Memory.write
    split
    · rfl
    · simp [Memory.upper, hx]
  | cons c m ih =>
    obtain ⟨k, c⟩ := c
    unfold Memory.upper at ih ⊢
    unfold Memory.write
    split
    · next below =>
      rw [List.dropWhile_cons_of_pos (by simpa using below.trans hx), List.dropWhile_cons_of_pos (by simpa using below.trans hx),
        ih]
    · split
      · next same =>
        subst same
        rw [List.dropWhile_cons_of_pos (a := (k, c)) (by simpa using hx)]
        split
        · rfl
        · rw [List.dropWhile_cons_of_pos (by simpa using hx)]
      · split
        · rfl
        · rw [List.dropWhile_cons_of_pos (a := (x, b)) (by simpa using hx)]

theorem Memory.read_upper {m : List Host.Cell} {x : Nat} (hx : 0xF0000 ≤ x) :
    Memory.read (Memory.upper m) x = Memory.read m x := by
  induction m with
  | nil => rfl
  | cons c m ih =>
    obtain ⟨k, c⟩ := c
    unfold Memory.upper at ih ⊢
    by_cases below : k < 0xF0000
    · rw [List.dropWhile_cons_of_pos (by simpa using below), ih, Memory.read, if_neg (by omega)]
    · rw [List.dropWhile_cons_of_neg (by simpa using below)]

theorem Memory.slice_upper {m : List Host.Cell} {x n : Nat} (hx : 0xF0000 ≤ x) :
    Memory.slice (Memory.upper m) x n = Memory.slice m x n := by
  unfold Memory.slice Memory.upper
  refine congrArg (Memory.sliceFrom n · x) ?_
  induction m with
  | nil => rfl
  | cons c m ih =>
    by_cases below : c.1 < 0xF0000
    · rw [List.dropWhile_cons_of_pos (a := c) (p := fun c : Host.Cell => decide (c.1 < 0xF0000)) (by simpa using below), ih,
        List.dropWhile_cons_of_pos (by simpa using Nat.lt_of_lt_of_le below hx)]
    · rw [List.dropWhile_cons_of_neg (a := c) (p := fun c : Host.Cell => decide (c.1 < 0xF0000)) (by simpa using below)]

/-! ### What the acts of the Sluice on items, links and cells keep (13) -/

/-- The item rewritten: its number, source and payload stay, and its place where it is not committed. -/
structure Item.Rewritten (i j : Item) : Prop where
  id : j.id = i.id
  source : j.source = i.source
  payload : j.payload = i.payload
  place : j.place = i.place ∨ j.place = .committed

theorem State.foldl_keeps {I : State → Prop} {α : Type} {f : State → α → State} {t : State} (l : List α) (h : I t)
    (hf : ∀ u x, I u → I (f u x)) : I (l.foldl f t) :=
  List.foldlRecOn l f (motive := I) h fun u hu x _ => hf u x hu

/-- The single acts on items, links, cells and frames keep `I`; so then does what is made of them, up to a commit. -/
structure SluiceKeeps (I : State → Prop) : Prop where
  view : ∀ {t : State} v f, I t → I (t.updView v f)
  tx : ∀ {t : State} p f, I t → I (t.updTx p f)
  link : ∀ {t u : State}, Steps [.pair, .inject] t u → I t → I u
  word : ∀ {t : State} c {k} w, k ≤ 124 → I t → I (t.putWord (cellAt c + k) w)
  free : ∀ {t : State} cells, I t → I (t.setSluice fun l => { l with free := l.free ++ cells })
  drop : ∀ {t : State} id, I t →
    I (t.setSluice fun l => { l with items := l.items.filter fun j => decide (j.id ≠ id) })
  each : ∀ {t : State} id {f : Item → Item}, (∀ i, Item.Rewritten i (f i)) → I t → I (t.updItem id f)
  commits : ∀ {t u : State} {i j : Item}, i ∈ t.sluice.items → Item.Rewritten i j → j.place = .committed → I t → I u →
    I (u.updItem i.id fun _ => j)

namespace SluiceKeeps
variable {I : State → Prop} {t : State} (k : SluiceKeeps I)
include k

theorem freeCells (h : I t) (cells : List Nat) : I (t.freeCells cells) :=
  k.free cells (State.foldl_keeps cells h fun _ c hu => k.word c (k := 0) 0 (by decide) hu)

theorem dropItem (h : I t) (id : Nat) : I (t.dropItem id) := by
  unfold State.dropItem
  split
  · exact h
  · exact k.freeCells (k.drop id h) _

theorem release (h : I t) (id : Nat) : I (t.release id) := by
  unfold State.release
  split
  · exact h
  · split
    · exact k.dropItem h id
    · exact k.each id (fun i => ⟨rfl, rfl, rfl, .inl rfl⟩) h

theorem unlink (h : I t) (v : Fin 52) (id : Nat) : I (t.unlink v id) := by
  refine k.release ?_ id
  unfold State.forget
  split
  · exact k.view v _ h
  · exact k.tx _ _ (k.view v _ h)

theorem evict (h : I t) (v : Fin 52) (id : Nat) : I (t.evict v id) := k.unlink (k.view v _ h) v id

theorem refuse (h : I t) (v : Fin 52) (n : Nat) : I (t.refuse v n) := k.view v _ h

theorem releaseHolds (h : I t) (v : Fin 52) : I (t.releaseHolds v) := by
  unfold State.releaseHolds
  split
  · exact h
  · exact State.foldl_keeps _ (k.tx _ _ h) fun _ id hu => k.release hu id

theorem makeRoom (h : I t) (n : Nat) (v : Fin 52) (c : Nat) : I (State.makeRoom n t v c) := by
  induction n generalizing t with
  | zero => exact h
  | succ n ih =>
    unfold State.makeRoom
    split
    · exact h
    · split
      · exact ih (k.evict h v _)
      · exact h

theorem roomForAlarm (h : I t) (v : Fin 52) (n : Nat) : I (t.roomForAlarm v n) := by
  have room := k.makeRoom h (t.view v).queue.length v n
  unfold State.roomForAlarm
  dsimp only
  split
  · exact room
  · exact k.makeRoom (k.releaseHolds room v) _ v n

/-- A view's answer at a commit leaves the items as they were, counts a refusal or makes room. -/
theorem letIn (h : I t) (i : Item) (v : Fin 52) (lw : Option GovNo) : I (t.letIn i v lw).1 := by
  have refused := k.refuse h v 1
  have room := k.roomForAlarm h v i.cells.length
  unfold State.letIn
  dsimp only
  (repeat' split) <;> assumption

theorem admitAll (h : I t) (i : Item) (want : BitVec 51) (engine : Bool) (lw : BitVec 51) (g : Option GovNo) :
    I (t.admitAll i want engine lw g).1 := by
  unfold State.admitAll
  refine List.foldlRecOn (motive := fun (d : State × List Admission) => I d.1) _ _ h fun d hd v _ => ?_
  split
  · exact k.letIn hd i v _
  · exact hd

theorem noteBreach (h : I t) (p : PortNo) (i : Item) :
    I (if t.breaches p i then t.updTx p fun x => { x with breachers := x.breachers ++ [i.id] } else t) := by
  split
  · exact k.tx p _ h
  · exact h

theorem shadow (h : I t) (v : Fin 52) (i : Item) : I (t.shadow v i) := by
  unfold State.shadow
  split
  · exact k.view v _ h
  · exact h

theorem makeLink (h : I t) (i : Item) (d : Admission) : I (t.makeLink i d) := by
  refine k.shadow (k.view d.view _ ?_) d.view i
  cases d.old with
  | none =>
    cases viewPort d.view with
    | none => exact h
    | some p => exact k.noteBreach h p i
  | some o =>
    cases viewPort d.view with
    | none => exact k.unlink h d.view o
    | some p => exact k.noteBreach (k.unlink h d.view o) p i

theorem dropAbandoned (h : I t) (p : PortNo) : I (t.dropAbandoned p) :=
  State.foldl_keeps _ h fun _ i hu => k.unlink (k.refuse hu (portView p) 1) (portView p) i.id

theorem dropLate (h : I t) (l : List Admission) : I (t.dropLate l) :=
  State.foldl_keeps l h fun u d hu => by
    cases viewPort d.view with
    | none => exact hu
    | some p => exact k.dropAbandoned hu p

theorem setPair (h : I t) (f : Pair → Pair) : I (t.setPair f) := k.link (State.setPair_steps f (Steps.refl _ t) rfl) h

theorem sendFrame (h : I t) (f : Frame) : I (t.sendFrame f) := k.link (State.sendFrame_steps f (Steps.refl _ t) rfl) h

theorem pumpPeer (h : I t) (n : Nat) : I (State.pumpPeer n t) := by
  induction n generalizing t with
  | zero => exact h
  | succ n ih =>
    unfold State.pumpPeer
    split
    · exact h
    · split
      · exact h
      · split
        · exact ih (k.refuse (k.unlink h viewPeer _) viewPeer 1)
        · exact ih (k.sendFrame (k.view viewPeer _ h) _)

theorem matchItem (h : I t) (id : Nat) (q : Word) : I (t.matchItem id q) := by
  unfold State.matchItem
  split
  · exact h
  · exact k.word _ (k := 20) _ (by decide) (k.each id (fun i => ⟨rfl, rfl, rfl, .inl rfl⟩) h)

theorem commitPair (h : I t) (i : Item) : I (t.commitPair i) := by
  unfold State.commitPair
  split
  · split
    · split
      · exact k.matchItem (k.setPair h _) _ _
      · exact h
    · exact h
  · split
    · exact k.sendFrame (k.setPair h _) _
    · exact h

theorem putHeader (h : I t) (i : Item) : I (t.putHeader i) :=
  k.word _ (k := 0) _ (by decide) (k.word _ (k := 20) _ (by decide) (k.word _ (k := 16) _ (by decide)
    (k.word _ (k := 12) _ (by decide) (k.word _ (k := 8) _ (by decide) (k.word _ (k := 4) _ (by decide) h)))))

/-- What holds once the item is gone, dropped or committed holds after its commit. -/
theorem commit_of {J : State → Prop} (l : SluiceKeeps J) (h : I t) {id : Nat} (want : BitVec 51) (engine : Bool)
    (lw : BitVec 51) (g : Option GovNo) (given : Option Word) (gone : t.item? id = none → J t)
    (dropped : ∀ u, I u → J (u.dropItem id))
    (committed : ∀ u i j, t.item? id = some i → Item.Rewritten i j → j.place = .committed → I u → J (u.updItem id fun _ => j)) :
    J (t.commit id want engine lw g given).1 := by
  unfold State.commit
  split
  · next absent => exact gone absent
  · next i found =>
    have admitted := k.admitAll h i want engine lw g
    dsimp only
    split
    · exact dropped _ admitted
    · refine l.pumpPeer (l.dropLate (l.commitPair (State.foldl_keeps _ (l.putHeader ?_ _) fun u d hu => l.makeLink hu _ d) _) _) _
      refine committed _ i _ found ⟨rfl, rfl, rfl, .inr rfl⟩ rfl ?_
      split
      · exact k.setPair admitted _
      · exact admitted

theorem commit (h : I t) (id : Nat) (want : BitVec 51) (engine : Bool) (lw : BitVec 51) (g : Option GovNo)
    (given : Option Word) : I (t.commit id want engine lw g given).1 :=
  k.commit_of k h want engine lw g given (fun _ => h) (fun _ hu => k.dropItem hu id) fun _ i _ found same place hu => by
    obtain rfl : i.id = id := of_decide_eq_true (List.find?_some (p := fun i : Item => decide (i.id = id)) found)
    exact k.commits (List.mem_of_find?_eq_some found) same place h hu

end SluiceKeeps

/-- What the acts of the Sluice leave: every item that waits in `t` waited in `s`, so that none has begun to wait; the
listing of the tables is as it was; and, for `a`, the same alarms wait for a cell. -/
structure RoadKept (a : Bool) (s t : State) : Prop where
  waiters : ∀ i, i ∈ t.sluice.items → i.waits = true → ∃ j, j ∈ s.sluice.items ∧ j.waits = true ∧ j.source = i.source
  upper : Memory.upper t.mem = Memory.upper s.mem
  alarms : a = true → t.sluice.alarmWaits = s.sluice.alarmWaits

section road
variable {a : Bool} {s t u : State}

theorem RoadKept.refl (a : Bool) (s : State) : RoadKept a s s := ⟨fun i h w => ⟨i, h, w, rfl⟩, rfl, fun _ => rfl⟩

theorem RoadKept.trans (h : RoadKept a s t) (k : RoadKept a t u) : RoadKept a s u := by
  refine ⟨fun i hi w => ?_, k.upper.trans h.upper, fun ha => (k.alarms ha).trans (h.alarms ha)⟩
  obtain ⟨j, hj, waits, source⟩ := k.waiters i hi w
  obtain ⟨l, hl, waited, same⟩ := h.waiters j hj waits
  exact ⟨l, hl, waited, same.trans source⟩

/-- What touches neither the items nor the memory nor the alarms that wait. -/
theorem RoadKept.still (h : RoadKept a s t) (k : u.sluice.items = t.sluice.items) (m : u.mem = t.mem := by rfl)
    (w : u.sluice.alarmWaits = t.sluice.alarmWaits := by rfl) : RoadKept a s u :=
  ⟨fun i hi => h.waiters i (k ▸ hi), m ▸ h.upper, fun ha => w.trans (h.alarms ha)⟩

theorem RoadKept.steps {ps : List Part} (h : RoadKept a s t) (k : Steps ps t u)
    (hp : ps.contains .sluice = false := by rfl) (hm : ps.contains .mem = false := by rfl) : RoadKept a s u :=
  have sluice : u.sluice = t.sluice := k.same .sluice hp
  h.still (congrArg Sluice.items sluice) (k.same .mem hm) (congrArg Sluice.alarmWaits sluice)

theorem RoadKept.read (h : RoadKept a s t) {x : Nat} (hx : 0xF0000 ≤ x) : Memory.read t.mem x = Memory.read s.mem x := by
  rw [← Memory.read_upper hx, h.upper, Memory.read_upper hx]

theorem RoadKept.memBytes (h : RoadKept a s t) {x : Nat} (hx : 0xF0000 ≤ x) (n : Nat) : t.memBytes x n = s.memBytes x n := by
  unfold State.memBytes
  rw [← Memory.slice_upper hx, h.upper, Memory.slice_upper hx]

theorem RoadKept.putByte (h : RoadKept a s t) {x : Nat} (hx : x < 0xF0000) (b : Byte) : RoadKept a s (t.putByte x b) :=
  ⟨h.waiters, (Memory.upper_write (Nat.lt_of_le_of_lt (Nat.mod_le _ _) hx) b).trans h.upper, h.alarms⟩

theorem RoadKept.putBytes (h : RoadKept a s t) {x : Nat} {bs : List Byte} (hx : x + bs.length ≤ 0xF0000) :
    RoadKept a s (t.putBytes x bs) := by
  induction bs generalizing t x with
  | nil => exact h
  | cons b bs ih =>
    have length : (b :: bs).length = bs.length + 1 := rfl
    exact ih (h.putByte (by omega) b) (by omega)

theorem RoadKept.putWord (h : RoadKept a s t) (c : Nat) {k : Nat} (hk : k ≤ 124) (w : Nat) :
    RoadKept a s (t.putWord (cellAt c + k) w) := by
  refine h.putBytes ?_
  rw [leBytes_length, cellAt]
  omega

theorem RoadKept.putPayload (h : RoadKept a s t) (cells : List Nat) (k : Nat) (bs : List Byte) :
    RoadKept a s (t.putPayload cells k bs) := by
  induction bs generalizing t k with
  | nil => exact h
  | cons b bs ih =>
    have range := payloadAt_range cells k
    exact ih (h.putByte (Nat.lt_of_lt_of_le range.2 (by decide)) b) (k + 1)

theorem RoadKept.putLinks (h : RoadKept a s t) (cells : List Nat) : RoadKept a s (t.putLinks cells) := by
  unfold State.putLinks
  split
  · exact h.putWord _ (k := 0) (by decide) _
  · exact (h.putWord _ (k := 0) (by decide) _).putWord _ (k := 0) (by decide) _
  · exact h

theorem RoadKept.setSluice (h : RoadKept a s t) {f : Sluice → Sluice} (hf : ∀ l, (f l).items = l.items)
    (hw : ∀ l, (f l).alarmWaits = l.alarmWaits) : RoadKept a s (t.setSluice f) :=
  h.still (hf t.sluice) rfl (hw t.sluice)

theorem RoadKept.foldl {α : Type} {f : State → α → State} (l : List α) (h : RoadKept a s t)
    (hf : ∀ u x, RoadKept a s u → RoadKept a s (f u x)) : RoadKept a s (l.foldl f t) := by
  induction l generalizing t with
  | nil => exact h
  | cons x xs ih => exact ih (hf t x h)

/-- Items that are rewritten wait no more than before, and keep their source. -/
theorem RoadKept.updItem (h : RoadKept a s t) (id : Nat) {f : Item → Item}
    (hf : ∀ i, (f i).waits = true → i.waits = true ∧ (f i).source = i.source) : RoadKept a s (t.updItem id f) := by
  refine h.trans ⟨fun i hi w => ?_, rfl, fun _ => rfl⟩
  obtain ⟨j, hj, rfl⟩ := List.mem_map.1 hi
  split at w
  · next same =>
    obtain ⟨waited, source⟩ := hf j w
    exact ⟨j, hj, waited, by rw [if_pos same, source]⟩
  · next other => exact ⟨j, hj, w, by rw [if_neg other]⟩

theorem RoadKept.freeCells (h : RoadKept a s t) (cells : List Nat) : RoadKept a s (t.freeCells cells) :=
  (RoadKept.foldl cells h fun _ c hu => hu.putWord c (k := 0) (by decide) 0).still rfl

/-- An item rewritten waits no more than before. -/
theorem Item.Rewritten.waits {i j : Item} (h : i.Rewritten j) (w : j.waits = true) : i.waits = true := by
  unfold Item.waits isDeferred isHeld at w ⊢
  rcases h.place with same | committed
  · rwa [same] at w
  · rw [committed] at w
    cases w

theorem RoadKept.keeps (a : Bool) (s : State) : SluiceKeeps (RoadKept a s) where
  view _ _ h := h.still rfl
  tx _ _ h := h.still rfl
  link d h := h.steps d
  word c _ w hk h := h.putWord c hk w
  free _ h := h.still rfl
  drop _ h := ⟨fun i hi w => h.waiters i (List.mem_of_mem_filter hi) w, h.upper, h.alarms⟩
  each id _ hf h := h.updItem id fun i w => ⟨(hf i).waits w, (hf i).source⟩
  commits {_ _ i j} _ _ place _ h := h.updItem i.id fun _ w => by
    have free : j.waits = false := by
      unfold Item.waits isDeferred isHeld
      rw [place]
      rfl
    rw [free] at w
    cases w

/-- The cells that an item takes come off the free list. -/
theorem RoadKept.takeCells {n : Nat} {alarm : Bool} {got cs : List Nat} (h : RoadKept a s t)
    (e : State.takeCells n t alarm got = some (cs, u)) : RoadKept a s u := by
  induction n generalizing t got with
  | zero =>
    unfold State.takeCells at e
    cases e
    exact h
  | succ n ih =>
    unfold State.takeCells at e
    split at e
    · next c v took =>
      refine ih ?_ e
      unfold State.takeCell State.popCell at took
      split at took
      · dsimp only at took
        split at took
        · cases took
          exact h.still rfl
        · cases took
      · cases took
    · cases e

/-- A new item has ended. -/
theorem RoadKept.newItem (h : RoadKept a s t) {payload : List Byte} {tagLen : Nat} {source : Byte} {stamp : Stamp}
    {doubt : Bool} {flags : Byte} {alarm : Bool} {id : Nat}
    (e : t.newItem payload tagLen source stamp doubt flags alarm = some (id, u)) : RoadKept a s u := by
  unfold State.newItem at e
  split at e
  · cases e
  · next cells v took =>
    cases e
    have written := ((h.takeCells took).putPayload cells 0 payload).putLinks cells
    refine ⟨fun i hi w => ?_, written.upper, written.alarms⟩
    rcases List.mem_append.1 hi with hi | hi
    · exact written.waiters i hi w
    · rw [List.mem_singleton.1 hi] at w
      cases w

theorem RoadKept.poolEvict (h : RoadKept a s t) : RoadKept a s t.poolEvict := by
  unfold State.poolEvict
  split
  · exact h
  · split
    · exact h
    · refine RoadKept.setSluice (RoadKept.foldl _ h fun u v hu => ?_) ?_ ?_
      · split
        · exact (RoadKept.keeps a s).evict hu v _
        · exact hu
      · exact fun _ => rfl
      · exact fun _ => rfl

theorem RoadKept.commitAlarm (h : RoadKept a s t) (id : Nat) (mask : BitVec 51) :
    RoadKept a s (t.commitAlarm id mask) := by
  refine (RoadKept.keeps a s).commit (h.updItem id ?_) id mask false 0 none none
  exact fun _ w => ⟨w, rfl⟩

theorem RoadKept.makeDevice (h : RoadKept a s t) (text : List Byte) : RoadKept a s (t.makeDevice text) := by
  unfold State.makeDevice
  split
  · next id v made => exact h.newItem made
  · exact h.still rfl

theorem RoadKept.headNotice (h : RoadKept a s t) : RoadKept a s t.headNotice :=
  h.still rfl

theorem RoadKept.updLamp (h : RoadKept a s t) (l : LampNo) (f : Lamp → Lamp) : RoadKept a s (t.updLamp l f) :=
  h.still rfl

theorem RoadKept.sendLamp (h : RoadKept a s t) (l : LampNo) : RoadKept a s (t.sendLamp l) :=
  h.steps (State.sendLamp_steps (ps := [.pair, .inject]) l (Steps.refl _ t) rfl)

theorem RoadKept.finishMove (h : RoadKept a s t) (m : LampMove) : RoadKept a s (t.finishMove m) := by
  have written : RoadKept a s (if m.writes then
      ((t.makeDevice (t.pvyslText m.after.row m.after.state m.after.report m.time)).updLamp m.lamp fun p =>
        if sameLamp p.row m.after.row then p.take m.after else p).headNotice else t) := by
    split
    · exact ((h.makeDevice _).updLamp _ _).headNotice
    · exact h
  unfold State.finishMove
  dsimp only
  generalize (if m.writes then _ else t) = u at written
  refine RoadKept.steps (ps := [.irq, .bells, .journal, .tag]) ?_
    (State.lampRecord_steps _ _ _ _ (State.ring_steps _ (Steps.refl _ _) rfl) rfl)
  split
  · exact written.sendLamp _
  · exact written

/-! ### Acts after which more alarms may wait -/

theorem RoadKept.queueAlarm (h : RoadKept false s t) (w : AlarmWait) : RoadKept false s (t.queueAlarm w) :=
  ⟨h.waiters, h.upper, Bool.noConfusion⟩

theorem RoadKept.placeAlarm (h : RoadKept false s t) (w : AlarmWait) : RoadKept false s (t.placeAlarm w) := by
  have evicted : RoadKept false s (if t.sluice.alarmWaits.isEmpty then t.poolEvict else t) := by
    split
    · exact h.poolEvict
    · exact h
  unfold State.placeAlarm
  dsimp only
  generalize (if t.sluice.alarmWaits.isEmpty then t.poolEvict else t) = u at evicted
  split
  · split
    · next id v made => exact (evicted.newItem made).commitAlarm id _
    · exact evicted.queueAlarm w
  · exact evicted.queueAlarm w

theorem RoadKept.changeLamp (h : RoadKept false s t) (l : LampNo) (f : Lamp → Lamp) (now : Stamp) (force : Bool) :
    RoadKept false s (t.changeLamp l f now force) := by
  rcases t.changeLamp_cases l f now force with ⟨alr, m, _, _, _, _, eq⟩ | ⟨_, eq⟩
  · have placed : RoadKept false s (t.alarmPlaced l f alr m) := by
      unfold State.alarmPlaced
      dsimp only
      split
      · exact (h.updLamp l _).placeAlarm _
      · split
        · exact h.updLamp l _
        · exact (h.updLamp l _).queueAlarm _
    rw [eq, State.afterAlarm]
    split
    · exact placed.finishMove m
    · exact placed
  · rw [eq]
    exact (h.updLamp l _).steps (t.lampKept_steps l _)

theorem RoadKept.retireHead (h : RoadKept false s t) (b : BusNo) (d : HeadNo) (x : Taken) :
    RoadKept false s (t.retireHead b d x) := by
  rw [State.retireHead_eq]
  refine RoadKept.steps ?_ (State.changed_keeps _ _ _ _)
  have dropped : RoadKept false s (t.headDropped b d) := h.steps (t.headDropped_steps b d)
  unfold State.headRetired
  split
  · exact dropped
  · refine RoadKept.foldl _ dropped fun u l hu => ?_
    unfold State.lampTurn
    split
    · exact hu.changeLamp l _ _ false
    · exact hu

theorem RoadKept.endRetire (h : RoadKept false s t) (b : BusNo) : RoadKept false s (t.endRetire b) := by
  unfold State.endRetire
  split
  · exact RoadKept.retireHead (h.steps (State.updBus_steps (ps := [.buses]) b _ (Steps.refl _ t) rfl)) b _ _
  · exact h

theorem RoadKept.stopBus (h : RoadKept false s t) (b : BusNo) : RoadKept false s (t.stopBus b) := by
  rw [State.stopBus_eq]
  exact RoadKept.endRetire (h.steps (t.forgetBus_steps b _)) b

theorem RoadKept.beginJoin (h : RoadKept false s t) (b : BusNo) : RoadKept false s (t.beginJoin b) := by
  rw [State.beginJoin_eq]
  split
  · exact RoadKept.endRetire (h.steps (t.forgetBus_steps b _)) b
  · exact h.stopBus b

theorem RoadKept.hedgeRole (h : RoadKept false s t) : RoadKept false s t.hedgeRole := by
  rw [State.hedgeRole_eq]
  refine RoadKept.foldl _ h fun u b hu => ?_
  unfold State.hedgeRoleOf
  split
  · exact hu.stopBus b
  · split
    · exact hu.beginJoin b
    · exact hu

theorem RoadKept.dropPartial (h : RoadKept a s t) (p : PortNo) : RoadKept a s (t.dropPartial p) :=
  (h.freeCells _).still rfl

theorem RoadKept.rxBoundary (h : RoadKept false s t) (p : PortNo) : RoadKept false s (t.rxBoundary p) := by
  by_cases idle : (t.port p).asm.idle = true
  · rw [State.rxBoundary_of_idle idle]
    have kept := h.steps ((t.disarmParking_steps p).step (t.disarmParking p |>.retireHere_steps p (t.rxRetires p)) rfl)
    unfold State.adoptHere
    dsimp only
    split
    · rw [State.takeRxRow_eq]
      refine RoadKept.headNotice (RoadKept.hedgeRole ?_)
      split
      · exact kept.still rfl
      · refine RoadKept.dropPartial ?_ p
        exact kept.still rfl
    · exact kept
  · rw [State.rxBoundary_of_busy (Bool.eq_false_iff.2 idle)]
    exact h

/-- An item that is dropped is gone, whatever else has its number. -/
theorem State.dropItem_items (s : State) (id : Nat) :
    (s.dropItem id).sluice.items = s.sluice.items.filter fun j => decide (j.id ≠ id) := by
  unfold State.dropItem
  split
  · next none =>
    have absent : ∀ j, j ∈ s.sluice.items → ¬j.id = id := by simpa [State.item?] using none
    exact (List.filter_eq_self.2 fun j hj => decide_eq_true (absent j hj)).symm
  · next i _ =>
    have cleared (u : State) : Steps [.mem, .code, .pool, .boxes, .rows] u
        (i.cells.foldl (fun s c => s.putBytes (cellAt c) [0, 0, 0, 0]) u) :=
      Steps.foldl (Steps.refl _ u) fun _ _ h => State.putBytes_steps _ _ h rfl
    exact (congrArg Sluice.items ((cleared _).same .sluice) :)

/-- Items that are dropped one after another are gone. -/
theorem State.dropAll_items (l : List Item) (s : State) : (l.foldl (fun s i => s.dropItem i.id) s).sluice.items =
    s.sluice.items.filter fun j => decide (j.id ∉ l.map Item.id) := by
  induction l generalizing s with
  | nil => simp
  | cons i l ih =>
    rw [List.foldl_cons, ih, State.dropItem_items, List.filter_filter]
    refine List.filter_congr fun j _ => ?_
    rw [← Bool.decide_and]
    exact decide_eq_decide.2 (by rw [List.map_cons, List.mem_cons, not_or, and_comm])

end road

end Sys2Proof.Machine
end

section
/-!
PROOFS. The Sluice and view commands (08 R244-R246; 13 R394, R399-R403; 14 R428-R430).
-/
set_option Elab.async false
namespace Sys2Proof.Machine

theorem byteAt_getD (bs : List Byte) (o : Nat) : BitVec.ofNat 8 (byteAt bs o) = bs.getD o 0 := by
  by_cases inside : o < bs.length
  · rw [byteAt, fieldAt, bytesAt, List.drop_eq_getElem_cons inside, List.take_succ_cons, List.getD_eq_getElem _ _ inside]
    simp [fromLe]
  · rw [byteAt, fieldAt, bytesAt, List.drop_eq_nil_of_le (Nat.le_of_not_lt inside), List.getD_eq_default _ _ (by omega)]
    rfl

theorem viewOf_val (v : Fin 52) : viewOf v.val = v := Fin.ofNat_val_eq_self v

theorem viewRowAt_range (v : Fin 52) : 0xF0000 ≤ viewRowAt v.val ∧ viewRowAt v.val + 16 ≤ 0x100000 := by
  have := v.isLt
  unfold viewRowAt
  omega

/-! ### VIEW-SET (13 R394) -/

section viewSet
variable {s : State} {m : Msg} {v : Fin 52}

/-- The host's fields of a view row, RETIRED and PARKED left out. -/
def viewFields (bs : List Byte) : List Byte :=
  bytesAt bs 4 1 ++ [BitVec.ofNat 8 (byteAt bs 5) &&& 0xF9] ++ bytesAt bs 6 2

def State.viewRowSet (s : State) (m : Msg) (v : Fin 52) : State := s.served.putBytes (viewRowAt v.val) (viewFields m.payload)

variable (ho : s.offers m 0x0401 inAll viewSetFault) (hv : byteAt m.payload 0 = v.val)
include ho

theorem viewSet_length : 8 ≤ m.payload.length := by
  have good := State.check_of_offers ho
  unfold viewSetFault at good
  split at good
  · cases good
  · next exact =>
    obtain ⟨fields, _⟩ := exactFault_none exact
    obtain ⟨_, _, _, fields⟩ := fieldsFault_cons_none fields
    obtain ⟨_, _, _, fields⟩ := fieldsFault_cons_none fields
    obtain ⟨_, _, _, fields⟩ := fieldsFault_cons_none fields
    obtain ⟨len, _, _, _⟩ := fieldsFault_cons_none fields
    simp only [upTo, anyFld] at len
    omega

theorem viewFields_length : (viewFields m.payload).length = 4 := by
  have len := viewSet_length ho
  simp only [viewFields, List.length_append, List.length_singleton]
  rw [bytesAt_length (by omega), bytesAt_length (by omega)]

theorem viewFields_getD : (viewFields m.payload).getD 0 0 = m.payload.getD 4 0 ∧
    (viewFields m.payload).getD 1 0 = m.payload.getD 5 0 &&& 0xF9 ∧
    (viewFields m.payload).getD 2 0 = m.payload.getD 6 0 ∧ (viewFields m.payload).getD 3 0 = m.payload.getD 7 0 := by
  have len := viewSet_length ho
  have first : bytesAt m.payload 4 1 = [m.payload.getD 4 0] := by
    rw [bytesAt, List.drop_eq_getElem_cons (by omega : 4 < _), List.take_succ_cons, List.take_zero,
      List.getD_eq_getElem _ _ (by omega)]
  have fields : viewFields m.payload =
      m.payload.getD 4 0 :: (m.payload.getD 5 0 &&& 0xF9) :: bytesAt m.payload 6 2 := by
    rw [viewFields, first, byteAt_getD]
    rfl
  rw [fields]
  exact ⟨rfl, rfl, bytesAt_getD (k := 0) (by decide), bytesAt_getD (k := 1) (by decide)⟩

theorem State.read_viewRowSet (hs : MemCanonical s) :
    (∀ k, k < 4 → Memory.read (s.viewRowSet m v).mem (viewRowAt v.val + k) = (viewFields m.payload).getD k 0) ∧
    (∀ a, a < viewRowAt v.val ∨ viewRowAt v.val + 4 ≤ a → Memory.read (s.viewRowSet m v).mem a = Memory.read s.mem a) := by
  have at_ := viewRowAt_range v
  have len := viewFields_length ho
  exact ⟨fun k hk => State.read_putBytes_getD (s := s.served) hs (by omega) (by omega),
    fun a off => State.read_putBytes_of_outside (s := s.served) (by omega) (by omega)⟩

theorem State.viewRowSet_steps : Steps [.mem, .rows, .work] s (s.viewRowSet m v) := by
  have at_ := viewRowAt_range v
  have len := viewFields_length ho
  exact State.putBytes_in_steps (r := .rows) ⟨by omega, by omega⟩ (s.served_steps.widen rfl) rfl

include hv

theorem exec_viewSet_busy (hb : s.viewBusy v.val = true) :
    exec (.viewSet m) s = .next (s.served.refused m 0x0401 0x0012) := by
  have busy : s.served.viewBusy v.val = true := hb
  refine (congrArg Host.Outcome.next (State.serve_of_offers ho)).trans (congrArg Host.Outcome.next ?_)
  simp only [hv, busy, if_true]

variable (hb : s.viewBusy v.val = false)
include hb

theorem exec_viewSet_locked (hl : s.lockedAt (viewRowAt v.val) = true) :
    exec (.viewSet m) s = .next (s.served.refused m 0x0401 0x0013) := by
  have free : s.served.viewBusy v.val = false := hb
  have locked : s.served.lockedAt (viewRowAt v.val) = true := hl
  refine (congrArg Host.Outcome.next (State.serve_of_offers ho)).trans (congrArg Host.Outcome.next ?_)
  simp only [hv, free, locked, Bool.false_eq_true, if_false, if_true]

theorem exec_viewSet (hl : s.lockedAt (viewRowAt v.val) = false) :
    exec (.viewSet m) s = .next ((s.viewRowSet m v).changed m 0x0401 []) := by
  have free : s.served.viewBusy v.val = false := hb
  have open_ : s.served.lockedAt (viewRowAt v.val) = false := hl
  refine (congrArg Host.Outcome.next (State.serve_of_offers ho)).trans (congrArg Host.Outcome.next ?_)
  simp only [hv, free, open_, Bool.false_eq_true, if_false]
  rfl

end viewSet

/-! ### VIEW-FLUSH (13 R399) -/

section viewFlush
variable {s : State} {m : Msg} {v : Fin 52}

theorem State.unlink_view (s : State) (v w : Fin 52) (id : Nat) : (s.unlink v id).view w =
    (s.updView v fun x => { x with queue := x.queue.filter fun l => decide (l.item ≠ id) }).view w := by
  show (s.unlink v id).sluice.views.get w = _
  rw [State.unlink, State.release_views, State.forget_views]
  rfl

/-- Releasing the group holds of a view leaves the views. -/
theorem State.releaseHolds_views (s : State) (v : Fin 52) : (s.releaseHolds v).sluice.views = s.sluice.views := by
  have walk (l : List Nat) (u : State) : (l.foldl State.release u).sluice.views = u.sluice.views := by
    induction l generalizing u with
    | nil => rfl
    | cons id l ih => exact (ih _).trans (u.release_views id)
  unfold State.releaseHolds
  split
  · rfl
  · exact walk _ _

/-- A walk of unlinks leaves the links that it does not name, and every other view. -/
theorem State.unlinkAll_view (ids : List Nat) (s : State) (v : Fin 52) :
    ((ids.foldl (fun s id => s.unlink v id) s).view v).queue = (s.view v).queue.filter (fun l => decide (l.item ∉ ids)) ∧
    ((ids.foldl (fun s id => s.unlink v id) s).view v).inFlight = (s.view v).inFlight ∧
    ∀ w, w ≠ v → (ids.foldl (fun s id => s.unlink v id) s).view w = s.view w := by
  induction ids generalizing s with
  | nil => simp
  | cons id ids ih =>
    obtain ⟨queue, inFlight, others⟩ := ih (s.unlink v id)
    refine ⟨?_, ?_, fun w ne => ?_⟩
    · rw [List.foldl_cons, queue, State.unlink_queue, List.filter_filter]
      exact List.filter_congr fun l _ => by simp [Bool.and_comm]
    · rw [List.foldl_cons, inFlight, State.unlink_view]
      exact (congrArg View.inFlight (upd_get_self _ _ _)).trans rfl
    · rw [List.foldl_cons, others w ne, State.unlink_view]
      exact upd_get_ne _ _ ne

theorem State.flushView_count (s : State) (v : Fin 52) : (s.flushView v).2 = (s.view v).queue.length :=
  List.length_map _

/-- A view that is flushed is empty but for what is in flight, and no other view is touched. -/
theorem State.flushView_view (s : State) (v : Fin 52) : ((s.flushView v).1.view v).queue = [] ∧
    ((s.flushView v).1.view v).inFlight = (s.view v).inFlight ∧ ∀ w, w ≠ v → (s.flushView v).1.view w = s.view w := by
  obtain ⟨queue, inFlight, others⟩ := State.unlinkAll_view ((s.view v).queue.map (·.item)) s v
  have views := fun w => congrArg (fun l : Vector View 52 => l.get w)
    (State.releaseHolds_views (((s.view v).queue.map (·.item)).foldl (fun s id => s.unlink v id) s) v)
  refine ⟨?_, (congrArg View.inFlight (views v)).trans inFlight, fun w ne => (views w).trans (others w ne)⟩
  refine ((congrArg View.queue (views v)).trans queue).trans (List.filter_eq_nil_iff.2 fun l hl => ?_)
  simpa using ⟨l, hl, rfl⟩

variable (ho : s.offers m 0x0403 inAll (exactFault [upTo 1 0x33, anyFld 1])) (hv : byteAt m.payload 0 = v.val)
include ho hv

theorem exec_viewFlush_busy (hb : s.viewBusy v.val = true) :
    exec (.viewFlush m) s = .next (s.served.refused m 0x0403 0x0012) := by
  have busy : s.served.viewBusy v.val = true := hb
  refine (congrArg Host.Outcome.next (State.serve_of_offers ho)).trans (congrArg Host.Outcome.next ?_)
  simp only [hv, busy, if_true]

theorem exec_viewFlush (hb : s.viewBusy v.val = false) : exec (.viewFlush m) s =
    .next ((s.served.flushView v).1.done m 0x0403 (leBytes 2 (s.view v).queue.length)) := by
  have free : s.served.viewBusy v.val = false := hb
  refine (congrArg Host.Outcome.next (State.serve_of_offers ho)).trans (congrArg Host.Outcome.next ?_)
  simp only [hv, viewOf_val, free, State.flushView_count, Bool.false_eq_true, if_false]
  rfl

end viewFlush

/-! ### INGRESS-FLUSH (13 R400) -/

section ingressFlush
variable {s : State} {m : Msg} {p : PortNo}

/-- A port's partial item and the items of it that wait are gone. -/
def State.ingressCleared (s : State) (p : PortNo) : State :=
  (s.deferredOf p).foldl (fun s i => s.dropItem i.id) (s.dropPartial p)

theorem State.ingressCleared_steps (s : State) (p : PortNo) :
    Steps [.mem, .pool, .ports, .sluice] s (s.ingressCleared p) :=
  Steps.foldl (State.dropPartial_steps p (Steps.refl _ s) rfl) fun _ _ h => State.dropItem_steps _ h rfl

theorem State.ingressCleared_asm (s : State) (p : PortNo) : ((s.ingressCleared p).port p).asm = Asm.reset := by
  have dropped : Steps [.mem, .pool, .sluice] (s.dropPartial p) (s.ingressCleared p) :=
    Steps.foldl (Steps.refl _ _) fun _ _ h => State.dropItem_steps _ h rfl
  rw [dropped.port_eq p]
  exact congrArg Port.asm (s.dropPartial_port p)

theorem State.dropPartial_items (s : State) (p : PortNo) : (s.dropPartial p).sluice.items = s.sluice.items := by
  have cleared : Steps [.mem, .code, .pool, .boxes, .rows] s
      ((s.port p).asm.cells.foldl (fun s c => s.putBytes (cellAt c) [0, 0, 0, 0]) s) :=
    Steps.foldl (Steps.refl _ s) fun _ _ h => State.putBytes_steps _ _ h rfl
  exact (congrArg Sluice.items (cleared.same .sluice) :)

/-- No item of the port is left that waits. -/
theorem State.ingressCleared_waiters {i : Item} (h : i ∈ (s.ingressCleared p).sluice.items) (w : i.waits = true) :
    i.source.toNat ≠ p.val := by
  intro same
  rw [State.ingressCleared, State.dropAll_items, State.dropPartial_items] at h
  obtain ⟨stood, absent⟩ := List.mem_filter.1 h
  refine of_decide_eq_true absent (List.mem_map_of_mem (List.mem_filter.2 ⟨stood, ?_⟩))
  rw [show (isDeferred i || isHeld i) = true from w, same]
  exact decide_eq_true rfl

theorem State.adoptHere_asm (h : (s.port p).asm = Asm.reset) : ((s.adoptHere p).port p).asm = Asm.reset := by
  have settled (u : State) : ((u.hedgeRole.headNotice).port p).asm = (u.port p).asm :=
    (congrArg Port.asm ((Settled.refl u).hedgeRole.headNotice.body p) :)
  unfold State.adoptHere
  dsimp only
  split
  · rw [State.takeRxRow_eq, settled]
    split
    · rw [State.updPort_port_same]
      unfold Port.takeRow Port.hear
      split <;> exact h
    · rw [State.dropPartial_port]
  · exact h

/-- An empty assembler stays empty as its port meets a boundary. -/
theorem State.rxBoundary_asm (h : (s.port p).asm = Asm.reset) : ((s.rxBoundary p).port p).asm = Asm.reset := by
  have idle : (s.port p).asm.idle = true := by
    rw [h]
    rfl
  rw [State.rxBoundary_of_idle idle]
  refine State.adoptHere_asm ?_
  rw [State.atBoundary_port]
  unfold Port.atBoundary
  split
  · exact h
  · split <;> exact h

variable (ho : s.offers m 0x0404 inWork (exactFault [upTo 1 47, anyFld 1])) (hp : byteAt m.payload 0 = p.val)
include ho hp

theorem exec_ingressFlush_busy (hb : s.portBusy p.val = true) :
    exec (.ingressFlush m) s = .next (s.served.refused m 0x0404 0x0012) := by
  have busy : s.served.portBusy p.val = true := hb
  refine (congrArg Host.Outcome.next (State.serve_of_offers ho)).trans (congrArg Host.Outcome.next ?_)
  simp only [portOf_val hp, busy, if_true]

theorem exec_ingressFlush (hb : s.portBusy p.val = false) : exec (.ingressFlush m) s =
    .next (((s.served.ingressCleared p).rxBoundary p).done m 0x0404 []) := by
  have free : s.served.portBusy p.val = false := hb
  refine (congrArg Host.Outcome.next (State.serve_of_offers ho)).trans (congrArg Host.Outcome.next ?_)
  simp only [portOf_val hp, free, Bool.false_eq_true, if_false]
  rfl

end ingressFlush

end Sys2Proof.Machine
end

section
/-!
PROOFS. SLUICE-FLUSH, VIEW-RETIRE and VIEW-RETURN (13 R401, R402; 14 R428-R430).
-/
set_option Elab.async false
namespace Sys2Proof.Machine

/-! ### SLUICE-FLUSH (13 R401) -/

section sluiceFlush
variable {s : State} {m : Msg}

/-- Every view is flushed. -/
def State.viewsFlushed (s : State) : State := s.eachView fun s v => (s.flushView v).1

theorem State.viewsFlushed_queue (s : State) (v : Fin 52) : (s.viewsFlushed.view v).queue = [] := by
  obtain ⟨t, -, -, left⟩ := foldl_key_of_mem (f := fun s v => (s.flushView v).1) (I := fun _ => True) (key := State.view)
    (x := v) (s := s) (fun _ _ _ => trivial) (fun t w x _ ne => (t.flushView_view w).2.2 x ne) trivial
    (List.nodup_finRange 52) (List.mem_finRange v)
  exact (congrArg View.queue left).trans (t.flushView_view v).1

/-- What is left of the items once one is VOID: each stood before in its place, and no less VOID. -/
theorem State.voidItem_from {i k : Item} (h : k ∈ (s.voidItem i).sluice.items) :
    ∃ j, j ∈ s.sluice.items ∧ j.id = k.id ∧ j.place = k.place ∧ (j.void = true → k.void = true) := by
  unfold State.voidItem at h
  split at h
  · exact ⟨k, h, rfl, rfl, id⟩
  · rw [State.dropItem_items] at h
    exact ⟨k, List.mem_of_mem_filter h, rfl, rfl, id⟩
  all_goals
    obtain ⟨j, hj, rfl⟩ := List.mem_map.1 h
    refine ⟨j, hj, ?_⟩
    split
    · exact ⟨rfl, rfl, fun _ => rfl⟩
    · exact ⟨rfl, rfl, id⟩

/-- What is left of an item that is not committed is VOID. -/
theorem State.voidItem_voids {i k : Item} (h : k ∈ (s.voidItem i).sluice.items) (same : k.id = i.id)
    (hp : i.place ≠ .committed) : k.void = true := by
  unfold State.voidItem at h
  split at h
  · next place => exact absurd place hp
  · rw [State.dropItem_items] at h
    exact absurd same (of_decide_eq_true (List.of_mem_filter h :))
  all_goals
    obtain ⟨j, _, rfl⟩ := List.mem_map.1 h
    split
    · rfl
    · next other => exact absurd (by rwa [if_neg other] at same) other

theorem State.voidAll_from {l : List Item} {s : State} {k : Item} (h : k ∈ (l.foldl State.voidItem s).sluice.items) :
    ∃ j, j ∈ s.sluice.items ∧ j.id = k.id ∧ j.place = k.place ∧ (j.void = true → k.void = true) := by
  induction l generalizing s with
  | nil => exact ⟨k, h, rfl, rfl, id⟩
  | cons i l ih =>
    obtain ⟨j, hj, number, place, void⟩ := ih (s := s.voidItem i) h
    obtain ⟨j', hj', number', place', void'⟩ := State.voidItem_from hj
    exact ⟨j', hj', number'.trans number, place'.trans place, fun v => void (void' v)⟩

theorem State.voidAll_voids {l : List Item} {s : State} {i k : Item} (h : k ∈ (l.foldl State.voidItem s).sluice.items)
    (hi : i ∈ l) (same : k.id = i.id) (hp : i.place ≠ .committed) : k.void = true := by
  induction l generalizing s with
  | nil => exact absurd hi List.not_mem_nil
  | cons x l ih =>
    rcases List.mem_cons.1 hi with rfl | hi
    · obtain ⟨j, hj, number, _, void⟩ := State.voidAll_from (s := s.voidItem i) h
      exact void (State.voidItem_voids hj (number.trans same) hp)
    · exact ih h hi

/-- The views are flushed, and every item and partial item that is not committed is VOID. -/
def State.sluiceFlushed (s : State) : State :=
  (s.viewsFlushed.sluice.items.foldl State.voidItem s.viewsFlushed).eachPort State.voidPartial

/-- VOID partial items leave the Sluice. -/
theorem State.voidPartials_sluice (s : State) : (s.eachPort State.voidPartial).sluice = s.sluice :=
  (State.eachPort_steps (ps := [.mem, .pool, .ports]) State.voidPartial (Steps.refl _ s)
    fun _ p h => State.voidPartial_steps p h rfl).same .sluice

theorem State.voidItem_views (s : State) (i : Item) : (s.voidItem i).sluice.views = s.sluice.views := by
  unfold State.voidItem
  split
  · rfl
  · unfold State.dropItem
    split
    · rfl
    · exact State.freeCells_views _ _
  all_goals rfl

theorem State.voidAll_views (l : List Item) (s : State) : (l.foldl State.voidItem s).sluice.views = s.sluice.views := by
  induction l generalizing s with
  | nil => rfl
  | cons i l ih => exact (ih _).trans (s.voidItem_views i)

theorem State.sluiceFlushed_queue (s : State) (v : Fin 52) : (s.sluiceFlushed.view v).queue = [] := by
  have views : s.sluiceFlushed.sluice.views = s.viewsFlushed.sluice.views := by
    rw [State.sluiceFlushed, State.voidPartials_sluice, State.voidAll_views]
  exact (congrArg (fun l : Vector View 52 => (l.get v).queue) views).trans (s.viewsFlushed_queue v)

theorem State.sluiceFlushed_void {i : Item} (h : i ∈ s.sluiceFlushed.sluice.items) (hp : i.place ≠ .committed) :
    i.void = true := by
  rw [State.sluiceFlushed, State.voidPartials_sluice] at h
  obtain ⟨j, hj, number, place, _⟩ := State.voidAll_from h
  exact State.voidAll_voids h hj number.symm (place ▸ hp)

theorem State.sluiceFlushed_steps (s : State) : Steps [.mem, .pool, .ports, .tx, .sluice] s s.sluiceFlushed := by
  refine State.eachPort_steps _ (Steps.foldl ?_ fun _ i h => State.voidItem_steps i h rfl)
    fun _ p h => State.voidPartial_steps p h rfl
  exact State.eachView_steps _ (Steps.refl _ s) fun _ v h => State.flushView_steps v h rfl

theorem exec_sluiceFlush (ho : s.offers m 0x0405 inWork (exactFault [])) : exec (.sluiceFlush m) s =
    .next (s.served.sluiceFlushed.done m 0x0405
      (leBytes 2 (s.served.committedCount - s.served.viewsFlushed.committedCount) ++ leBytes 2 s.served.voidable)) := by
  refine (congrArg Host.Outcome.next (State.serve_of_offers ho)).trans (congrArg Host.Outcome.next ?_)
  dsimp only
  rw [← State.viewsFlushed]
  rfl

end sluiceFlush

/-! ### VIEW-RETIRE (14 R428, R429) -/

section viewRetire
variable {s : State} {m : Msg} {v : Fin 52} {hold : Bool}

/-- HWR as asked in the byte of a view row. -/
def withHwr (hold : Bool) (b : Byte) : Byte := if hold then b ||| 0x08 else b &&& 0xF7

theorem withHwr_bit (hold : Bool) (b : Byte) : (withHwr hold b).getLsbD 3 = hold := by
  cases hold <;> simp [withHwr]

theorem withHwr_bit_ne (hold : Bool) (b : Byte) {k : Nat} (h : k ≠ 3) : (withHwr hold b).getLsbD k = b.getLsbD k := by
  have set : (0x08 : Byte).getLsbD k = false := by
    rw [show (0x08 : Byte) = BitVec.ofNat 8 (2 ^ 3) from rfl, getLsbD_ofNat_two_pow, decide_eq_false (Ne.symm h),
      Bool.and_false]
  cases hold
  · rw [withHwr, if_neg Bool.false_ne_true, show (0xF7 : Byte) = ~~~0x08 from rfl, BitVec.getLsbD_and, BitVec.getLsbD_not, set]
    by_cases inside : k < 8
    · simp [inside]
    · rw [BitVec.getLsbD_of_ge b k (by omega), Bool.false_and]
  · rw [withHwr, if_pos rfl, BitVec.getLsbD_or, set, Bool.or_false]

theorem SameRetired.interruptGroup {t : State} (h : SameRetired s t) (p : PortNo) : SameRetired s (t.interruptGroup p) := by
  unfold State.interruptGroup
  split
  · exact h
  · exact SameRetired.returnFront (h.updTx p _) p _

theorem mem_frontInsert {l k : Link} {q : List Link} (h : k = l ∨ k ∈ q) : k ∈ frontInsert l q := by
  rw [frontInsert, List.mem_append, List.mem_cons]
  rcases h with rfl | h
  · exact .inr (.inl rfl)
  · rw [← List.takeWhile_append_dropWhile (p := fun x => decide (x.cls < l.cls)) (l := q), List.mem_append] at h
    exact h.imp_right .inr

theorem mem_frontAll {k : Link} {ls q : List Link} (h : k ∈ ls ∨ k ∈ q) : k ∈ frontAll ls q := by
  induction ls with
  | nil => exact h.resolve_left List.not_mem_nil
  | cons l ls ih =>
    refine mem_frontInsert ?_
    rcases h with h | h
    · exact (List.mem_cons.1 h).imp_right fun inside => ih (.inl inside)
    · exact .inr (ih (.inr h))

/-- Every item queued in `s` is queued in `t`. -/
def KeepsQueued (v : Fin 52) (s t : State) : Prop :=
  ∀ l, l ∈ (s.view v).queue → ∃ k, k ∈ (t.view v).queue ∧ k.item = l.item

theorem KeepsQueued.of_queue {t : State} (h : (t.view v).queue = (s.view v).queue) : KeepsQueued v s t :=
  fun l hl => ⟨l, h ▸ hl, rfl⟩

theorem KeepsQueued.trans {t u : State} (h : KeepsQueued v s t) (k : KeepsQueued v t u) : KeepsQueued v s u := fun l hl => by
  obtain ⟨x, hx, same⟩ := h l hl
  obtain ⟨y, hy, again⟩ := k x hx
  exact ⟨y, hy, again.trans same⟩

/-- Links that return to the front of their class stand in the queue with the others. -/
theorem State.returnFront_keepsQueued (s : State) (p : PortNo) (ls : List Link) (v : Fin 52) :
    KeepsQueued v s (s.returnFront p ls) := by
  intro l hl
  by_cases own : v = portView p
  · subst own
    have queue : ((s.returnFront p ls).view (portView p)).queue = frontAll (ls.map Link.returned)
        ((s.view (portView p)).queue.filter fun l => !(ls.map (·.item)).contains l.item) :=
      (congrArg View.queue (upd_get_self s.sluice.views (portView p) _)).trans rfl
    rw [queue]
    by_cases back : l.item ∈ ls.map (·.item)
    · obtain ⟨k, hk, same⟩ := List.mem_map.1 back
      exact ⟨k.returned, mem_frontAll (.inl (List.mem_map_of_mem hk)), same⟩
    · exact ⟨l, mem_frontAll (.inr (List.mem_filter.2 ⟨hl, by simpa using back⟩)), rfl⟩
  · refine KeepsQueued.of_queue (congrArg View.queue ?_) l hl
    exact upd_get_ne s.sluice.views _ own

theorem State.interruptGroup_keepsQueued (s : State) (p : PortNo) (v : Fin 52) : KeepsQueued v s (s.interruptGroup p) := by
  unfold State.interruptGroup
  split
  · exact KeepsQueued.of_queue rfl
  · exact State.returnFront_keepsQueued (s.updTx p _) p _ v

theorem State.yieldGroup_keepsQueued (s : State) (p : PortNo) (v : Fin 52) : KeepsQueued v s (s.yieldGroup p) := by
  unfold State.yieldGroup
  dsimp only
  split
  · exact KeepsQueued.of_queue rfl
  · split
    · exact KeepsQueued.of_queue rfl
    · split
      · exact State.interruptGroup_keepsQueued (s.updTx p _) p v
      · split <;> exact KeepsQueued.of_queue rfl

theorem State.interruptGroup_none {p : PortNo} (h : (s.port p).tx.group = none) : s.interruptGroup p = s := by
  rw [State.interruptGroup, h]

/-- The queue of a view that retires: kept with it where it holds while retired, emptied where it does not. -/
theorem State.retireView_queue (s : State) (v : Fin 52) :
    KeepsQueued v s (s.retireView v true) ∧ ((s.retireView v false).view v).queue = [] := by
  constructor
  · have marked : KeepsQueued v s (s.updView v fun w => { w with retired := true }) :=
      KeepsQueued.of_queue ((congrArg View.queue (upd_get_self s.sluice.views v _)).trans rfl)
    unfold State.retireView
    dsimp only
    rw [if_pos rfl]
    split
    · exact marked.trans (State.yieldGroup_keepsQueued _ _ v)
    · exact marked
  · obtain ⟨empty, _⟩ := (s.updView v fun w => { w with retired := true }).flushView_view v
    unfold State.retireView
    dsimp only
    rw [if_neg Bool.false_ne_true]
    split <;> exact empty

/-- A port view that is flushed as it retires has no group left. -/
theorem State.retireView_group {p : PortNo} (h : viewPort v = some p) : ((s.retireView v false).port p).tx.group = none := by
  unfold State.retireView
  dsimp only
  rw [if_neg Bool.false_ne_true, h]
  exact (congrArg (fun q : Port => q.tx.group) (State.updPort_port_same _ p _)).trans rfl

/-- The transmit side of a retired view: its group in progress is interrupted where nothing is on its line. -/
def State.txRetiredAt (s : State) (v : Fin 52) : State :=
  match viewPort v with
  | some p =>
    let s := s.updPort p fun q => { q with txRetired := true }
    if (s.port p).tx.sending.isNone then s.interruptGroup p else s
  | none => s

theorem State.txRetiredAt_steps (s : State) (v : Fin 52) : Steps [.ports, .tx, .sluice] s (s.txRetiredAt v) := by
  unfold State.txRetiredAt
  split
  · next p _ =>
    have marked : Steps [.ports, .tx, .sluice] s (s.updPort p fun q => { q with txRetired := true }) :=
      State.updPort_steps p _ (Steps.refl _ s) rfl
    exact Steps.ite (State.interruptGroup_steps p marked rfl) marked
  · exact Steps.refl _ s

theorem State.txRetiredAt_retired (s : State) (v : Fin 52) : SameRetired s (s.txRetiredAt v) := by
  unfold State.txRetiredAt
  split
  · dsimp only
    split
    · exact SameRetired.interruptGroup (t := s.updPort _ _) (SameRetired.refl s) _
    · exact SameRetired.refl s
  · exact SameRetired.refl s

theorem State.txRetiredAt_keepsQueued (s : State) (v w : Fin 52) : KeepsQueued w s (s.txRetiredAt v) := by
  unfold State.txRetiredAt
  split
  · dsimp only
    split
    · exact State.interruptGroup_keepsQueued (s.updPort _ _) _ w
    · exact KeepsQueued.of_queue rfl
  · exact KeepsQueued.of_queue rfl

theorem State.txRetiredAt_queue (h : ∀ p, viewPort v = some p → (s.port p).tx.group = none) :
    ((s.txRetiredAt v).view v).queue = (s.view v).queue := by
  unfold State.txRetiredAt
  split
  · next p port =>
    have none : ((s.updPort p fun q => { q with txRetired := true }).port p).tx.group = none := by
      rw [State.updPort_port_same]
      exact h p port
    dsimp only
    rw [State.interruptGroup_none none, ite_self]
    rfl
  · rfl

/-- The view row has HWR as asked. -/
def State.hwrStored (s : State) (v : Fin 52) (hold : Bool) : State :=
  s.served.putByte (viewRowAt v.val + 1) (withHwr hold (Memory.read s.mem (viewRowAt v.val + 1)))

def State.viewRetired (s : State) (v : Fin 52) (hold : Bool) : State :=
  ((s.hwrStored v hold).retireView v hold).txRetiredAt v

theorem State.hwrStored_steps (s : State) (v : Fin 52) (hold : Bool) : Steps [.mem, .rows, .work] s (s.hwrStored v hold) := by
  have at_ := viewRowAt_range v
  exact State.putByte_in_steps (r := .rows) ⟨by omega, by omega⟩ (s.served_steps.widen rfl) rfl

theorem State.viewRetired_tail (s : State) (v : Fin 52) (hold : Bool) :
    Steps [.mem, .pool, .ports, .tx, .sluice] (s.hwrStored v hold) (s.viewRetired v hold) :=
  (State.retireView_steps v hold (Steps.refl _ _) rfl).step (State.txRetiredAt_steps _ v) rfl

theorem State.viewRetired_steps (s : State) (v : Fin 52) (hold : Bool) :
    Steps [.mem, .pool, .rows, .work, .ports, .tx, .sluice] s (s.viewRetired v hold) :=
  ((s.hwrStored_steps v hold).widen rfl).step (s.viewRetired_tail v hold) rfl

theorem State.viewRetired_retired (s : State) (v : Fin 52) (hold : Bool) : ((s.viewRetired v hold).view v).retired = true :=
  (State.txRetiredAt_retired _ v v).trans (State.retireView_retired _ v hold)

theorem State.viewRetired_flushed (s : State) (v : Fin 52) : ((s.viewRetired v false).view v).queue = [] :=
  (State.txRetiredAt_queue fun _ => State.retireView_group).trans (State.retireView_queue _ v).2

theorem State.viewRetired_holds (s : State) (v : Fin 52) : KeepsQueued v s (s.viewRetired v true) :=
  (KeepsQueued.trans (s := s.hwrStored v true) (State.retireView_queue _ v).1 (State.txRetiredAt_keepsQueued _ v v))

theorem State.read_viewRetired (hs : MemCanonical s) (v : Fin 52) (hold : Bool) :
    Memory.read (s.viewRetired v hold).mem (viewRowAt v.val + 1) =
      withHwr hold (Memory.read s.mem (viewRowAt v.val + 1)) ∧
    ∀ a, 0xC0000 ≤ a → a ≠ viewRowAt v.val + 1 → Memory.read (s.viewRetired v hold).mem a = Memory.read s.mem a := by
  have at_ := viewRowAt_range v
  have stored : MemCanonical (s.hwrStored v hold) := (s.hwrStored_steps v hold).2 hs
  refine ⟨?_, fun a ha ne => ?_⟩
  · rw [(s.viewRetired_tail v hold).read_upper stored (by omega)]
    exact State.read_putByte_same (s := s.served) hs (by omega)
  · rw [(s.viewRetired_tail v hold).read_upper stored ha]
    exact State.read_putByte_ne (s := s.served) (by omega) ne

variable (ho : s.offers m 0x0406 inWork viewRetireFault) (hv : byteAt m.payload 0 = v.val)
include ho hv

theorem exec_viewRetire_busy (hb : s.viewBusy v.val = true) :
    exec (.viewRetire m) s = .next (s.served.refused m 0x0406 0x0012) := by
  have busy : s.served.viewBusy v.val = true := hb
  refine (congrArg Host.Outcome.next (State.serve_of_offers ho)).trans (congrArg Host.Outcome.next ?_)
  simp only [hv, viewOf_val, busy, if_true]

variable (hb : s.viewBusy v.val = false)
include hb

theorem exec_viewRetire_locked (hl : s.lockedAt (viewRowAt v.val + 1) = true) :
    exec (.viewRetire m) s = .next (s.served.refused m 0x0406 0x0013) := by
  have free : s.served.viewBusy v.val = false := hb
  have locked : s.served.lockedAt (viewRowAt v.val + 1) = true := hl
  refine (congrArg Host.Outcome.next (State.serve_of_offers ho)).trans (congrArg Host.Outcome.next ?_)
  simp only [hv, viewOf_val, free, locked, Bool.false_eq_true, if_false, if_true]

theorem exec_viewRetire (hl : s.lockedAt (viewRowAt v.val + 1) = false) : exec (.viewRetire m) s =
    .next ((s.viewRetired v (decide (byteAt m.payload 1 % 2 = 1))).changed m 0x0406 []) := by
  have free : s.served.viewBusy v.val = false := hb
  have open_ : s.served.lockedAt (viewRowAt v.val + 1) = false := hl
  refine (congrArg Host.Outcome.next (State.serve_of_offers ho)).trans (congrArg Host.Outcome.next ?_)
  simp only [hv, viewOf_val, free, open_, bitsOf_zero_one, Bool.false_eq_true, if_false]
  unfold State.viewRetired State.txRetiredAt State.hwrStored withHwr
  simp only [decide_eq_true_eq]
  rfl

end viewRetire

/-! ### VIEW-RETURN (14 R430) -/

section viewReturn
variable {s : State} {m : Msg} {v : Fin 52}

/-- The view and its port are no longer retired. -/
def State.viewReturned (s : State) (v : Fin 52) : State :=
  let s := s.updView v fun w => { w with retired := false }
  match viewPort v with
  | some p => s.updPort p fun q => { q with txRetired := false }
  | none => s

theorem State.viewReturned_steps (s : State) (v : Fin 52) : Steps [.ports, .tx, .sluice] s (s.viewReturned v) := by
  have marked : Steps [.ports, .tx, .sluice] s (s.updView v fun w => { w with retired := false }) :=
    State.updView_steps v _ (Steps.refl _ s) rfl
  unfold State.viewReturned
  dsimp only
  split
  · exact State.updPort_steps _ _ marked rfl
  · exact marked

theorem State.viewReturned_view (s : State) (v : Fin 52) : (s.viewReturned v).view v = { s.view v with retired := false } := by
  have marked : (s.updView v fun w => { w with retired := false }).view v = { s.view v with retired := false } :=
    upd_get_self s.sluice.views v _
  unfold State.viewReturned
  dsimp only
  split <;> exact marked

variable (ho : s.offers m 0x0407 inWork (exactFault [upTo 1 0x33, anyFld 1])) (hv : byteAt m.payload 0 = v.val)
include ho hv

theorem exec_viewReturn_busy (hb : s.viewBusy v.val = true) :
    exec (.viewReturn m) s = .next (s.served.refused m 0x0407 0x0012) := by
  have busy : s.served.viewBusy v.val = true := hb
  refine (congrArg Host.Outcome.next (State.serve_of_offers ho)).trans (congrArg Host.Outcome.next ?_)
  simp only [hv, viewOf_val, busy, if_true]

theorem exec_viewReturn (hb : s.viewBusy v.val = false) : exec (.viewReturn m) s = .next ((s.served.viewReturned v).changed m
    0x0407 (leBytes 2 (if (s.view v).retired then (s.view v).queue.length else 0))) := by
  have free : s.served.viewBusy v.val = false := hb
  refine (congrArg Host.Outcome.next (State.serve_of_offers ho)).trans (congrArg Host.Outcome.next ?_)
  simp only [hv, viewOf_val, free, Bool.false_eq_true, if_false]
  rfl

end viewReturn

/-- What an answer leaves of a view. -/
theorem Steps.view {ps : List Part} {s t : State} (h : Steps ps s t) (v : Fin 52)
    (hp : ps.contains .sluice = false := by rfl) : t.view v = s.view v :=
  congrArg (fun l : Sluice => l.views.get v) (h.same .sluice hp)

/-- Settles O45: each command's equation, and what the flushes, the retirement and the stored row leave. -/
theorem sluiceCommandsActOnTheirViews : Obligations.SluiceCommandsActOnTheirViews := by
  refine ⟨fun s m v ho hv hb hl hs => ?_, fun s m v ho hv hb => ?_, fun s m p ho hp hb => ?_, fun s m ho => ?_,
    fun s m v ho hv hb hl hs => ?_, fun s m v ho hv hb => ?_, fun s m v ho hv hb => exec_viewSet_busy ho hv hb,
    fun s m v ho hv hb => exec_viewRetire_busy ho hv hb, fun s m p ho hp hb => exec_ingressFlush_busy ho hp hb,
    fun s m v ho hv hb => exec_viewFlush_busy ho hv hb, fun s m v ho hv hb => exec_viewReturn_busy ho hv hb,
    fun s m v ho hv hb hl => exec_viewSet_locked ho hv hb hl, fun s m v ho hv hb hl => exec_viewRetire_locked ho hv hb hl⟩
  case refine_1 =>
    have x := exec_viewSet ho hv hb hl
    have stored : Steps [.mem, .rows, .work] s (s.viewRowSet m v) := State.viewRowSet_steps ho
    obtain ⟨row, rest⟩ := State.read_viewRowSet (v := v) ho hs
    obtain ⟨f0, f1, f2, f3⟩ := viewFields_getD ho
    have kept : ∀ a, Memory.read ((s.viewRowSet m v).changed m 0x0401 []).mem a = Memory.read (s.viewRowSet m v).mem a :=
      fun a => congrArg (Memory.read · a) ((State.changed_keeps _ m 0x0401 []).same .mem)
    exact ⟨_, x, State.changed_replied stored, State.changed_counted (State.serves_of_offers ho) stored,
      (kept _).trans ((row 0 (by decide)).trans f0), (kept _).trans ((row 1 (by decide)).trans f1),
      (kept _).trans ((row 2 (by decide)).trans f2), (kept _).trans ((row 3 (by decide)).trans f3),
      fun a off => (kept a).trans (rest a off), only_parts_of_exec x⟩
  case refine_2 =>
    have x := exec_viewFlush ho hv hb
    have flushed : Steps [.mem, .pool, .tx, .sluice, .work] s (s.served.flushView v).1 :=
      State.flushView_steps v (s.served_steps.widen rfl) rfl
    obtain ⟨queue, inFlight, _⟩ := s.served.flushView_view v
    have view := (State.done_keeps (s.served.flushView v).1 m 0x0403 (leBytes 2 (s.view v).queue.length)).view v
    exact ⟨_, x, State.done_replied (flushed.replies rfl), (congrArg View.queue view).trans queue,
      (congrArg View.inFlight view).trans inFlight, only_parts_of_exec x⟩
  case refine_3 =>
    have x := exec_ingressFlush ho hp hb
    have kept := State.done_keeps ((s.served.ingressCleared p).rxBoundary p) m 0x0404 []
    have cleared : Steps (.work :: .replies :: .changes :: retireParts) s ((s.served.ingressCleared p).rxBoundary p) :=
      State.rxBoundary_steps p ((s.served_steps.widen rfl).step (s.served.ingressCleared_steps p) rfl) rfl
    have waiters := ((RoadKept.refl false (s.served.ingressCleared p)).rxBoundary p).waiters
    refine ⟨_, x, ?_, ?_, fun i hi w => ?_, only_parts_of_exec x⟩
    · exact Replied.answered_after cleared (State.done_replied fun _ => rfl)
    · rw [kept.port_eq p]
      exact State.rxBoundary_asm (s.served.ingressCleared_asm p)
    · rw [show State.sluice _ = _ from kept.same .sluice] at hi
      obtain ⟨j, hj, waits, source⟩ := waiters i hi (by simpa [Item.waits] using w)
      rw [← source]
      exact State.ingressCleared_waiters hj waits
  case refine_4 =>
    have x := exec_sluiceFlush ho
    have flushed : Steps [.mem, .pool, .ports, .tx, .sluice, .work] s s.served.sluiceFlushed :=
      (s.served_steps.widen rfl).step s.served.sluiceFlushed_steps rfl
    have kept := State.done_keeps s.served.sluiceFlushed m 0x0405
      (leBytes 2 (s.served.committedCount - s.served.viewsFlushed.committedCount) ++ leBytes 2 s.served.voidable)
    refine ⟨_, x, ⟨_, State.done_replied (flushed.replies rfl), rfl⟩, fun v => ?_, fun i hi hp => ?_, only_parts_of_exec x⟩
    · exact (congrArg View.queue (kept.view v)).trans (s.served.sluiceFlushed_queue v)
    · rw [show State.sluice _ = _ from kept.same .sluice] at hi
      exact State.sluiceFlushed_void hi hp
  case refine_5 =>
    have x := exec_viewRetire ho hv hb hl
    generalize held : decide (byteAt m.payload 1 % 2 = 1) = hold at x
    have retired := s.viewRetired_steps v hold
    have kept := State.changed_keeps (s.viewRetired v hold) m 0x0406 []
    have mem : ((s.viewRetired v hold).changed m 0x0406 []).mem = (s.viewRetired v hold).mem := kept.same .mem
    obtain ⟨hwr, rest⟩ := State.read_viewRetired hs v hold
    refine ⟨_, x, State.changed_replied retired, State.changed_counted (State.serves_of_offers ho) retired,
      (congrArg View.retired (kept.view v)).trans (s.viewRetired_retired v hold), fun even => ?_, fun odd => ?_, ?_,
      fun k hk => ?_, fun a ha ne => ?_, only_parts_of_exec x⟩
    · have drops : hold = false := by simp [← held, even]
      rw [kept.view v, drops]
      exact s.viewRetired_flushed v
    · have holds : hold = true := by simp [← held, odd]
      rw [kept.view v, holds]
      exact s.viewRetired_holds v
    · rw [mem]
      exact (congrArg (BitVec.getLsbD · 3) hwr).trans (withHwr_bit hold _)
    · rw [mem]
      exact (congrArg (BitVec.getLsbD · k) hwr).trans (withHwr_bit_ne hold _ hk)
    · rw [mem]
      exact rest a ha ne
  case refine_6 =>
    have x := exec_viewReturn ho hv hb
    have returned : Steps [.ports, .tx, .sluice, .work] s (s.served.viewReturned v) :=
      (s.served_steps.widen rfl).step (s.served.viewReturned_steps v) rfl
    have view := ((State.changed_keeps (s.served.viewReturned v) m 0x0407
      (leBytes 2 (if (s.view v).retired then (s.view v).queue.length else 0))).view v).trans (s.served.viewReturned_view v)
    exact ⟨_, x, State.changed_replied returned, State.changed_counted (State.serves_of_offers ho) returned,
      congrArg View.retired view, (congrArg View.queue view).trans rfl, only_parts_of_exec x⟩

end Sys2Proof.Machine
end

section
/-!
PROOFS. Alarms acknowledged (16 R498), and the Spillway's events on a listener (14 R408-R427, 13 R396, 11 R347, 18 R572).
-/
set_option Elab.async false
namespace Sys2Proof.Machine

/-! ### An alarm acknowledged (16 R498) -/

section ack
variable {s : State} {f : LampNo → Lamp → Bool} {k l : LampNo}

/-- A change that writes no sentence leaves the lamps. -/
theorem State.finishMove_quiet (s : State) {m : LampMove} (h : m.writes = false) : (s.finishMove m).lamps = s.lamps := by
  have told : Steps [.irq, .bells, .pair, .journal, .tag, .inject] s (s.finishMove m) := by
    unfold State.finishMove
    rw [h]
    exact State.lampRecord_steps _ _ _ _ (State.ring_steps _ (Steps.ite (State.sendLamp_steps _ (Steps.refl _ s) rfl)
      (Steps.refl _ s)) rfl) rfl
  exact told.same .lamps

theorem State.ackLamp_lamps (s : State) (l : LampNo) :
    (s.ackLamp l).lamps = upd s.lamps l fun p => { p with acked := true, changed := s.now } := by
  have marked : (upd s.lamps l fun _ => { s.lamp l with acked := true, changed := s.now }) =
      upd s.lamps l fun p => { p with acked := true, changed := s.now } := rfl
  have alarmed (u : State) (row : BitVec 32) (st : BitVec 3) (inj : Bool) (now : Stamp) (w : Option LampMove) :
      (u.makeAlr row st true inj now w).lamps = u.lamps :=
    (State.makeAlr_steps (ps := [.mem, .pool, .draws, .tx, .sluice, .pair, .inject]) _ _ _ _ _ _ (Steps.refl _ u) rfl).same .lamps
  unfold State.ackLamp State.afterAlarm
  dsimp only
  rw [← marked]
  split
  · rw [State.finishMove_quiet _ rfl, alarmed]
    rfl
  · rw [alarmed]
    rfl

theorem State.ackLamp_lamp (s : State) (l : LampNo) :
    (s.ackLamp l).lamp l = { s.lamp l with acked := true, changed := s.now } :=
  (congrArg (fun v : Vector Lamp 1024 => v.get l) (s.ackLamp_lamps l)).trans (upd_get_self _ _ _)

theorem State.ackLamp_lamp_ne (s : State) (h : k ≠ l) : (s.ackLamp l).lamp k = s.lamp k :=
  (congrArg (fun v : Vector Lamp 1024 => v.get k) (s.ackLamp_lamps l)).trans (upd_get_ne _ _ h)

/-- An active alarm that is named and not yet acknowledged. -/
def State.acks (s : State) (f : LampNo → Lamp → Bool) (l : LampNo) : Bool :=
  (s.lamp l).active && !(s.lamp l).acked && f l (s.lamp l)

theorem State.ackAll_eq (hr : s.pair.role ≠ .standby) :
    (s.ackAll f).1 = (s.ackable f).foldl State.ackLamp s ∧ (s.ackAll f).2 = (s.ackable f).length := by
  have walked : s.ackAll f = ((s.ackable f).foldl State.ackLamp s, (s.ackable f).length) := if_neg hr
  exact ⟨by rw [walked], by rw [walked]⟩

theorem State.mem_ackable : l ∈ s.ackable f ↔ s.acks f l = true :=
  List.mem_filter.trans (and_iff_right (List.mem_finRange l))

/-- Exactly the alarms named are acknowledged, at this instant. -/
theorem State.ackAll_lamp (hr : s.pair.role ≠ .standby) (l : LampNo) : (s.ackAll f).1.lamp l =
    if s.acks f l then { s.lamp l with acked := true, changed := s.now } else s.lamp l := by
  have still (t : State) (k : LampNo) (h : t.now = s.now) : (t.ackLamp k).now = s.now :=
    ((State.ackLamp_steps (ps := [.mem, .pool, .draws, .irq, .bells, .ports, .tx, .sluice, .lamps, .pair, .journal, .tag, .inject])
      k (Steps.refl _ t) rfl).now).trans h
  have others (t : State) (k j : LampNo) (_ : t.now = s.now) (ne : j ≠ k) : (t.ackLamp k).lamp j = t.lamp j :=
    t.ackLamp_lamp_ne ne
  have distinct : (s.ackable f).Nodup := by
    unfold State.ackable
    exact (List.nodup_finRange 1024).filter _
  rw [(State.ackAll_eq hr).1]
  by_cases named : l ∈ s.ackable f
  · obtain ⟨t, now, met, left⟩ := foldl_key_of_mem (I := fun t : State => t.now = s.now) (key := State.lamp) still others rfl
      distinct named
    rw [left, t.ackLamp_lamp, met, now, if_pos (State.mem_ackable.1 named)]
  · rw [if_neg (mt State.mem_ackable.2 named)]
    exact foldl_key_of_notMem (I := fun t : State => t.now = s.now) (key := State.lamp) still others rfl named

end ack

/-! ### The parts of an item's way to the line -/

section spill
variable {s : State} {p : PortNo} {i : Item} {x : Sending}

theorem State.item?_id {id : Nat} (h : s.item? id = some i) : i.id = id :=
  of_decide_eq_true (List.find?_some h :)

theorem State.yieldGroup_of_none (h : (s.port p).tx.group = none) : s.yieldGroup p = s := by
  rw [State.yieldGroup, h]

theorem State.dropAbandoned_of_none (h : (s.port p).tx.abandoned = []) : s.dropAbandoned p = s := by
  refine (congrArg (List.foldl _ s) (List.filter_eq_nil_iff.2 fun i _ => ?_)).trans rfl
  rw [h]
  split <;> simp

/-- CTS as the transmit pacer samples it. -/
def State.seeCts (s : State) (p : PortNo) (cts : Bool) : State := s.updPort p fun q => { q with cts := cts }

theorem State.seeCts_port (s : State) (p : PortNo) (cts : Bool) : (s.seeCts p cts).port p = { s.port p with cts := cts } :=
  State.updPort_port_same _ _ _

theorem State.seeCts_nextItem (s : State) (p : PortNo) (cts : Bool) : (s.seeCts p cts).nextItem p = s.nextItem p := by
  unfold State.nextItem
  rw [State.seeCts_port]
  rfl

theorem State.skipMembers_of_lone (hi : s.nextItem p = some i) (hm : i.member = none) (n : Nat) :
    State.skipMembers n s p = s := by
  cases n with
  | zero => rfl
  | succ n =>
    have kept : s.mustSkip p i = false := by rw [State.mustSkip, hm]
    rw [State.skipMembers, hi]
    exact if_neg (by rw [kept]; exact Bool.false_ne_true)

theorem State.sendItem_uninjected (h : s.injectOn = false) (cts : Bool) : s.sendItem p i cts =
    (s.refuse (portView p) (sendBytes s.settings.epoch i).2).begin p i (sendBytes s.settings.epoch i).1 cts := by
  have off (f : Nat → Bool) : s.injectAt 1 p.val f = (none, s) := by
    simp [State.injectAt, State.injectPeek, State.injectStep, h]
  unfold State.sendItem
  simp only [off]
  split <;> rfl

/-- The line of a port on which an item begins. -/
theorem State.begin_tx (s : State) (p : PortNo) (i : Item) (bytes : List Byte) (cts : Bool) :
    ((s.begin p i bytes cts).port p).tx.sending = some {
      item := i.id, bytes := bytes, resend := (s.port p).tx.cut.contains i.id, begun := !((s.port p).txc.ctsFlow && !cts) } ∧
    ((s.begin p i bytes cts).port p).tx.ctsWait = ((s.port p).txc.ctsFlow && !cts) ∧
    ((s.begin p i bytes cts).port p).cts = (s.port p).cts ∧ ((s.begin p i bytes cts).port p).tx.markOwed = false := by
  unfold State.begin State.updTx
  dsimp only
  rw [State.updPort_port_same]
  exact ⟨rfl, rfl, rfl, rfl⟩

/-- The item that begins goes from the queue to the in-flight place. -/
theorem State.begin_view (s : State) (p : PortNo) (i : Item) (bytes : List Byte) (cts : Bool) :
    ((s.begin p i bytes cts).view (portView p)).inFlight = (s.view (portView p)).inFlight ++
      (s.view (portView p)).queue.filter (fun l => decide (l.item = i.id)) ∧
    ((s.begin p i bytes cts).view (portView p)).queue =
      (s.view (portView p)).queue.filter fun l => decide (l.item ≠ i.id) := by
  have taken : (s.take (portView p) i.id).view (portView p) = _ := upd_get_self s.sluice.views (portView p) _
  have begun : (s.begin p i bytes cts).view (portView p) =
      { (s.take (portView p) i.id).view (portView p) with ahead := none } :=
    upd_get_self (s.take (portView p) i.id).sluice.views (portView p) _
  rw [begun, taken]
  exact ⟨rfl, rfl⟩

theorem State.refuse_view (s : State) (v : Fin 52) (n : Nat) :
    (s.refuse v n).view v = { s.view v with refusals := satAdd top32 (s.view v).refusals n } :=
  upd_get_self s.sluice.views v _

theorem State.roadRuns_of_mayBegin (h : s.mayBegin p = true) : s.roadRuns = true := by
  simp only [State.mayBegin, Bool.and_eq_true] at h
  tauto

/-! ### An item begins (14 R408-R411) -/

/-- The state in which an item, taken past no injection, goes on the line. -/
def State.itemBegun (s : State) (p : PortNo) (i : Item) (cts : Bool) : State :=
  ((s.seeCts p cts).refuse (portView p) (sendBytes s.settings.epoch i).2).begin p i (sendBytes s.settings.epoch i).1 cts

theorem exec_itemBegin {cts : Bool} (hb : s.mayBegin p = true) (hg : (s.port p).tx.group = none)
    (ha : (s.port p).tx.abandoned = []) (hn : s.injectOn = false) (hi : s.nextItem p = some i) (hm : i.member = none) :
    exec (.itemBegin p cts) s = .next (s.itemBegun p i cts) := by
  have next : (s.seeCts p cts).nextItem p = some i := (s.seeCts_nextItem p cts).trans hi
  show (if !s.roadRuns then _ else if ((s.yieldGroup p).dropAbandoned p).mayBegin p then _ else _) = _
  rw [State.roadRuns_of_mayBegin hb, if_neg (by decide), State.yieldGroup_of_none hg, State.dropAbandoned_of_none ha, if_pos hb]
  show (match (State.skipMembers _ (s.seeCts p cts) p).nextItem p with
    | some i => Host.Outcome.next ((State.skipMembers _ (s.seeCts p cts) p).sendItem p i cts)
    | none => Host.Outcome.next (State.skipMembers _ (s.seeCts p cts) p)) = _
  rw [State.skipMembers_of_lone next hm, next]
  exact congrArg Host.Outcome.next (State.sendItem_uninjected (s := s.seeCts p cts) hn cts)

theorem exec_itemBegin_shut {cts : Bool} (hb : s.mayBegin p = false) (hg : (s.port p).tx.group = none)
    (ha : (s.port p).tx.abandoned = []) : exec (.itemBegin p cts) s = .next s := by
  show (if !s.roadRuns then Host.Outcome.next s else if ((s.yieldGroup p).dropAbandoned p).mayBegin p then _ else
    Host.Outcome.next ((s.yieldGroup p).dropAbandoned p)) = _
  rw [State.yieldGroup_of_none hg, State.dropAbandoned_of_none ha]
  simp only [hb, Bool.false_eq_true, if_false, ite_self]

theorem itemBegin_begins {cts : Bool} (hb : s.mayBegin p = true) (hg : (s.port p).tx.group = none)
    (ha : (s.port p).tx.abandoned = []) (hn : s.injectOn = false) (hi : s.nextItem p = some i) (hm : i.member = none) :
    ∃ t, exec (.itemBegin p cts) s = .next t ∧
      (t.port p).tx.sending = some {
        item := i.id, bytes := (sendBytes s.settings.epoch i).1, resend := (s.port p).tx.cut.contains i.id
        begun := !((s.port p).txc.ctsFlow && !cts) } ∧
      (t.port p).tx.ctsWait = ((s.port p).txc.ctsFlow && !cts) ∧ (t.port p).cts = cts ∧
      (t.view (portView p)).inFlight = (s.view (portView p)).inFlight ++
        (s.view (portView p)).queue.filter (fun l => decide (l.item = i.id)) ∧
      (∀ l, l ∈ (t.view (portView p)).queue → l.item ≠ i.id) ∧ (t.port p).tx.markOwed = false ∧
      Only (parts (.itemBegin p cts)) s t := by
  have x := exec_itemBegin (cts := cts) hb hg ha hn hi hm
  unfold State.itemBegun at x
  have port : ((s.seeCts p cts).refuse (portView p) (sendBytes s.settings.epoch i).2).port p =
      { s.port p with cts := cts } := s.seeCts_port p cts
  have view := (s.seeCts p cts).refuse_view (portView p) (sendBytes s.settings.epoch i).2
  obtain ⟨sending, ctsWait, seen, owed⟩ := State.begin_tx
    ((s.seeCts p cts).refuse (portView p) (sendBytes s.settings.epoch i).2) p i (sendBytes s.settings.epoch i).1 cts
  obtain ⟨inFlight, queue⟩ := State.begin_view
    ((s.seeCts p cts).refuse (portView p) (sendBytes s.settings.epoch i).2) p i (sendBytes s.settings.epoch i).1 cts
  rw [port] at sending ctsWait seen
  rw [view] at inFlight queue
  refine ⟨_, x, sending, ctsWait, seen, inFlight, fun l hl => ?_, owed, only_parts_of_exec x⟩
  rw [queue] at hl
  exact of_decide_eq_true (List.of_mem_filter hl :)

/-! ### CTS (09 R283) -/

/-- The line as the pacer samples CTS before the next character. -/
def Port.paced (cts : Bool) (q : Port) : Port :=
  let waits := q.txc.ctsFlow && !cts
  let again := (!waits && q.tx.sending.any fun x => !x.begun) && q.tx.sending.any fun x => x.resend
  { q with cts := cts, tx := { q.tx with
    ctsWait := waits
    sending := q.tx.sending.map fun x => { x with begun := x.begun || !waits }
    resends := if again then satAdd top32 q.tx.resends 1 else q.tx.resends } }

theorem exec_ctsResume {cts : Bool} (hr : s.roadRuns = true)
    (hl : (s.port p).tx.sending.isSome = true ∨ (s.port p).tx.terminator = true) :
    exec (.ctsResume p cts) s = .next (s.updPort p fun _ => (s.port p).paced cts) := by
  have live : (s.roadRuns && ((s.port p).tx.sending.isSome || (s.port p).tx.terminator)) = true := by
    rw [hr, Bool.true_and, Bool.or_eq_true]
    exact hl
  exact if_pos live

theorem exec_ctsResume_idle {cts : Bool} (h : s.roadRuns = false ∨
    ((s.port p).tx.sending = none ∧ (s.port p).tx.terminator = false)) : exec (.ctsResume p cts) s = .next s := by
  have idle : (s.roadRuns && ((s.port p).tx.sending.isSome || (s.port p).tx.terminator)) = false := by
    rcases h with off | ⟨free, bare⟩
    · rw [off, Bool.false_and]
    · rw [free, bare]
      exact Bool.and_false _
  exact if_neg (by rw [idle]; exact Bool.false_ne_true)

theorem Port.paced_waits {q : Port} {cts : Bool} (h : (q.paced cts).tx.ctsWait = true) :
    (q.paced cts).tx.sending = q.tx.sending ∧ (q.paced cts).tx.resends = q.tx.resends := by
  have waits : (q.txc.ctsFlow && !cts) = true := h
  unfold Port.paced
  simp [waits]

theorem Port.paced_goes {q : Port} {cts : Bool} (h : (q.paced cts).tx.ctsWait = false) (hx : q.tx.sending = some x) :
    (q.paced cts).tx.sending = some { x with begun := true } ∧
    (q.paced cts).tx.resends =
      if x.begun = false ∧ x.resend = true then min 0xFFFFFFFF (q.tx.resends + 1) else q.tx.resends := by
  have goes : (q.txc.ctsFlow && !cts) = false := h
  unfold Port.paced
  simp [goes, hx, satAdd, top32]

/-! ### The end of an item (13 R396, 14 R411) -/

theorem State.txBoundary_of_unasked (h : s.engine.accepted = []) : s.txBoundary p = s := by
  simp [State.txBoundary_eq, State.txRetires, h]

theorem State.advanceHandover_of_none (h : s.pair.handover = .none) : s.advanceHandover = s := by
  simp [State.advanceHandover_eq, State.handOver, h]

theorem State.freeCells_free (s : State) (cells : List Nat) : (s.freeCells cells).sluice.free = s.sluice.free ++ cells := by
  have cleared : Steps [.mem, .code, .pool, .boxes, .rows] s
      (cells.foldl (fun s c => s.putBytes (cellAt c) [0, 0, 0, 0]) s) :=
    Steps.foldl (Steps.refl _ s) fun _ _ h => State.putBytes_steps _ _ h rfl
  exact congrArg (· ++ cells) (congrArg Sluice.free (cleared.same .sluice) :)

/-- The last reference to an item takes it out of the Sluice, and its cells return. -/
theorem State.release_last {id : Nat} (hi : s.item? id = some i) (h : i.refs ≤ 1) :
    (∀ j, j ∈ (s.release id).sluice.items → j.id ≠ id) ∧ (s.release id).sluice.free = s.sluice.free ++ i.cells := by
  have dropped : s.release id = s.dropItem id := by
    rw [State.release, hi]
    exact if_pos h
  rw [dropped]
  refine ⟨fun j hj => ?_, ?_⟩
  · rw [State.dropItem_items] at hj
    exact of_decide_eq_true (List.of_mem_filter hj :)
  · rw [State.dropItem, hi]
    exact State.freeCells_free _ _

theorem State.release_shared {id : Nat} (hi : s.item? id = some i) (h : 1 < i.refs) :
    (s.release id).sluice.free = s.sluice.free := by
  rw [State.release, hi]
  dsimp only
  rw [if_neg (Nat.not_le.2 h)]
  rfl

theorem State.letGo_view (s : State) (v : Fin 52) (id : Nat) :
    (s.letGo v id).view v = { s.view v with inFlight := (s.view v).inFlight.filter fun l => decide (l.item ≠ id) } :=
  (congrArg (fun l : Vector View 52 => l.get v) (State.release_views _ id)).trans (upd_get_self s.sluice.views v _)

theorem State.adoptTx_line (s : State) (p : PortNo) : ((s.adoptTx p).port p).tx.sending = (s.port p).tx.sending := by
  unfold State.adoptTx
  dsimp only
  split
  · rw [State.updPort_port_same, State.updPort_port_same]
    unfold Port.join
    split <;> rfl
  · rfl

/-- The line of a port after its item: DELIVERED is on its way. -/
def State.lineSent (s : State) (p : PortNo) (i : Item) : State :=
  (s.sendDelivered p i.pairSeq).updTx p fun t =>
    { t with sending := none, ctsWait := false, cut := t.cut.filter fun j => decide (j ≠ i.id) }

theorem State.lineSent_tx (s : State) (p : PortNo) (i : Item) :
    ((s.lineSent p i).port p).tx.sending = none ∧ ((s.lineSent p i).port p).tx.group = (s.port p).tx.group := by
  have sent : Steps [.pair, .inject] s (s.sendDelivered p i.pairSeq) := State.sendDelivered_steps p _ (Steps.refl _ s) rfl
  rw [State.lineSent, State.updTx, State.updPort_port_same, sent.port_eq p]
  exact ⟨rfl, rfl⟩

theorem State.lineSent_steps (s : State) (p : PortNo) (i : Item) : Steps [.tx, .pair, .inject] s (s.lineSent p i) :=
  State.updTx_steps p _ (State.sendDelivered_steps p _ (Steps.refl _ s) rfl) rfl

theorem State.lineSent_handover (s : State) (p : PortNo) (i : Item) :
    (s.lineSent p i).pair.handover = s.pair.handover := by
  have core : SameCore s (s.lineSent p i) := by
    unfold State.lineSent State.sendDelivered
    split
    · exact SameCore.sendFrame (SameCore.refl s) _
    · exact SameCore.refl s
  exact (congrArg Pair.handover core :)

/-- An item of no group leaves the line and is let go; nothing waits for the end of it. -/
theorem State.endSending_of_lone (hx : (s.port p).tx.sending = some x) (hi : s.item? x.item = some i)
    (hg : (s.port p).tx.group = none) (ha : s.engine.accepted = []) :
    s.endSending p = ((s.lineSent p i).letGo (portView p) i.id).adoptTx p := by
  have lone : ((s.lineSent p i).port p).tx.group = none := (s.lineSent_tx p i).2.trans hg
  have settled : (s.lineSent p i).settleSent p i = (s.lineSent p i).letGo (portView p) i.id := by
    rw [State.settleSent, lone]
  have still : Steps [.mem, .pool, .ports, .tx, .sluice, .pair, .inject] s
      (((s.lineSent p i).letGo (portView p) i.id).adoptTx p) :=
    State.adoptTx_steps p (State.letGo_steps _ _ ((s.lineSent_steps p i).widen rfl) rfl) rfl
  have none : (((s.lineSent p i).letGo (portView p) i.id).adoptTx p).engine.accepted = [] :=
    (still.same .work).2.1.trans ha
  rw [State.endSending, hx]
  dsimp only
  rw [hi]
  show (((s.lineSent p i).settleSent p i).adoptTx p).txBoundary p = _
  rw [settled, State.txBoundary_of_unasked none]

theorem exec_itemSent (hr : s.roadRuns = true) (hw : (s.port p).tx.ctsWait = false)
    (hx : (s.port p).tx.sending = some x) (hi : s.item? x.item = some i) (hg : (s.port p).tx.group = none)
    (hh : s.pair.handover = .none) (ha : s.engine.accepted = []) :
    exec (.itemSent p) s = .next (((s.lineSent p i).letGo (portView p) i.id).adoptTx p) := by
  have runs : (s.roadRuns && !(s.port p).tx.ctsWait) = true := by rw [hr, hw]; rfl
  have still : Steps [.mem, .pool, .ports, .tx, .sluice] (s.lineSent p i)
      (((s.lineSent p i).letGo (portView p) i.id).adoptTx p) :=
    State.adoptTx_steps p (State.letGo_steps _ _ (Steps.refl _ _) rfl) rfl
  have none : (((s.lineSent p i).letGo (portView p) i.id).adoptTx p).pair.handover = .none :=
    (congrArg Pair.handover (still.same .pair)).trans ((s.lineSent_handover p i).trans hh)
  refine (if_pos runs).trans (congrArg Host.Outcome.next ?_)
  rw [State.endSending_of_lone hx hi hg ha, State.advanceHandover_of_none none]

theorem itemSent_ends (hr : s.roadRuns = true) (hw : (s.port p).tx.ctsWait = false)
    (hx : (s.port p).tx.sending = some x) (hi : s.item? x.item = some i) (hg : (s.port p).tx.group = none)
    (hh : s.pair.handover = .none) (ha : s.engine.accepted = []) :
    ∃ t, exec (.itemSent p) s = .next t ∧ (t.port p).tx.sending = none ∧
      (t.view (portView p)).inFlight = (s.view (portView p)).inFlight.filter (fun l => decide (l.item ≠ i.id)) ∧
      (t.view (portView p)).queue = (s.view (portView p)).queue ∧
      (i.refs ≤ 1 → (∀ j, j ∈ t.sluice.items → j.id ≠ i.id) ∧ t.sluice.free = s.sluice.free ++ i.cells) ∧
      (1 < i.refs → t.sluice.free = s.sluice.free) ∧ Only (parts (.itemSent p)) s t := by
  have x := exec_itemSent hr hw hx hi hg hh ha
  have sluice : (s.lineSent p i).sluice = s.sluice := (s.lineSent_steps p i).same .sluice
  have adopted : (((s.lineSent p i).letGo (portView p) i.id).adoptTx p).sluice = ((s.lineSent p i).letGo (portView p) i.id).sluice :=
    (State.adoptTx_steps (ps := [.ports, .tx]) p (Steps.refl _ _) rfl).same .sluice
  have let_ : Steps [.mem, .pool, .sluice] (s.lineSent p i) ((s.lineSent p i).letGo (portView p) i.id) :=
    State.letGo_steps _ _ (Steps.refl _ _) rfl
  have view : (((s.lineSent p i).letGo (portView p) i.id).adoptTx p).view (portView p) =
      { s.view (portView p) with inFlight := (s.view (portView p)).inFlight.filter fun l => decide (l.item ≠ i.id) } := by
    unfold State.view
    rw [adopted, show Vector.get _ (portView p) = _ from (s.lineSent p i).letGo_view (portView p) i.id]
    unfold State.view
    rw [sluice]
  have found : ((s.lineSent p i).updView (portView p) fun w =>
      { w with inFlight := w.inFlight.filter fun l => decide (l.item ≠ i.id) }).item? i.id = some i := by
    rw [← State.item?_id hi] at hi
    exact (congrArg (fun l : Sluice => l.items.find? fun j : Item => decide (j.id = i.id)) sluice).trans hi
  have free : ((s.lineSent p i).updView (portView p) fun w =>
      { w with inFlight := w.inFlight.filter fun l => decide (l.item ≠ i.id) }).sluice.free = s.sluice.free := by
    show (s.lineSent p i).sluice.free = _
    rw [sluice]
  refine ⟨_, x, ?_, (congrArg View.inFlight view).trans rfl, (congrArg View.queue view).trans rfl, fun last => ?_, fun shared => ?_,
    only_parts_of_exec x⟩
  · rw [State.adoptTx_line, let_.port_eq p]
    exact (s.lineSent_tx p i).1
  · obtain ⟨gone, cells⟩ := State.release_last found last
    rw [adopted]
    exact ⟨gone, cells.trans (congrArg (· ++ i.cells) free)⟩
  · rw [adopted]
    exact (State.release_shared found shared).trans free

end spill

end Sys2Proof.Machine
end

section
/-!
PROOFS. Breaches and groups on a listener (14 R413-R427, R685), and what Silt and the engine take from their views
(18 R572, 11 R347).
-/
set_option Elab.async false
namespace Sys2Proof.Machine

/-! ### The item on the line is cut (14 R414-R418) -/

section cutting
variable {s : State} {p : PortNo} {i : Item} {x : Sending} {n : Nat}

/-- The line of a port with its item cut, begun or not. -/
def State.lineCut (s : State) (p : PortNo) (x : Sending) (begun : Bool) : State :=
  if begun then (s.freeLine p).updTx p fun t => { t with cut := t.cut ++ [x.item] } else s.freeLine p

theorem State.lineCut_port (s : State) (p : PortNo) (x : Sending) (begun : Bool) : (s.lineCut p x begun).port p =
    { s.port p with tx := { (s.port p).tx with
      sending := none, ctsWait := false, cut := (s.port p).tx.cut ++ if begun then [x.item] else [] } } := by
  unfold State.lineCut State.freeLine State.updTx
  cases begun
  · rw [if_neg Bool.false_ne_true, State.updPort_port_same, if_neg Bool.false_ne_true, List.append_nil]
  · rw [if_pos rfl, State.updPort_port_same, State.updPort_port_same, if_pos rfl]

theorem State.cutSending_of_lone (hx : (s.port p).tx.sending = some x) (hg : (s.port p).tx.group = none) (begun : Bool) :
    s.cutSending p begun = (s.lineCut p x begun).returnFront p ((s.lineCut p x begun).inFlightLink p x.item) := by
  have lone : ((s.freeLine p).port p).tx.group = none := by
    rw [State.freeLine, State.updTx, State.updPort_port_same]
    exact hg
  unfold State.cutSending
  rw [hx]
  show (match ((s.freeLine p).port p).tx.group with
    | some _ => _
    | none => (s.lineCut p x begun).returnFront p ((s.lineCut p x begun).inFlightLink p x.item)) = _
  rw [lone]

theorem State.returnFront_queue (s : State) (p : PortNo) (ls : List Link) :
    ((s.returnFront p ls).view (portView p)).queue = frontAll (ls.map Link.returned)
      ((s.view (portView p)).queue.filter fun l => !(ls.map (·.item)).contains l.item) :=
  (congrArg View.queue (upd_get_self s.sluice.views (portView p) _)).trans rfl

/-- The item that was in flight is back in the queue. -/
theorem State.cutSending_returns (hx : (s.port p).tx.sending = some x) (hg : (s.port p).tx.group = none) (begun : Bool)
    (hl : ∃ l, l ∈ (s.view (portView p)).inFlight ∧ l.item = x.item) :
    ∃ l, l ∈ ((s.cutSending p begun).view (portView p)).queue ∧ l.item = x.item := by
  obtain ⟨l, flying, same⟩ := hl
  have views : (s.lineCut p x begun).sluice = s.sluice := by
    unfold State.lineCut
    split <;> rfl
  have link : l ∈ (s.lineCut p x begun).inFlightLink p x.item := by
    unfold State.inFlightLink State.view
    rw [views]
    exact List.mem_filter.2 ⟨flying, decide_eq_true same⟩
  rw [State.cutSending_of_lone hx hg, State.returnFront_queue]
  exact ⟨l.returned, mem_frontAll (.inl (List.mem_map_of_mem link)), same⟩

theorem State.cutSending_port (hx : (s.port p).tx.sending = some x) (hg : (s.port p).tx.group = none) (begun : Bool) :
    (s.cutSending p begun).port p = { s.port p with tx := { (s.port p).tx with
      sending := none, ctsWait := false, cut := (s.port p).tx.cut ++ if begun then [x.item] else [] } } := by
  rw [State.cutSending_of_lone hx hg, ← s.lineCut_port p x begun]
  rfl

theorem State.cutSending_lone_steps (hx : (s.port p).tx.sending = some x) (hg : (s.port p).tx.group = none) (begun : Bool) :
    Steps [.tx, .sluice] s (s.cutSending p begun) := by
  have freed : Steps [.tx, .sluice] s (s.freeLine p) := State.updTx_steps p _ (Steps.refl _ s) rfl
  rw [State.cutSending_of_lone hx hg]
  exact State.returnFront_steps p _ (Steps.ite (State.updTx_steps p _ freed rfl) freed) rfl

/-- A free line on which no row, no retirement and no handover waits stays as it is. -/
theorem State.boundary_idle {u : State} (hu : Steps [.tx, .sluice] s u)
    (kept : (u.port p).txAdopt = (s.port p).txAdopt ∧ (u.port p).txRow = (s.port p).txRow)
    (hr : (s.port p).txAdopt = false) (hf : rowFields (s.port p).txRow = rowFields (s.portRow p))
    (ha : s.engine.accepted = []) (hh : s.pair.handover = .none) :
    ((u.adoptTx p).txBoundary p).advanceHandover = u := by
  obtain ⟨adopt, row⟩ := kept
  have mem : u.mem = s.mem := hu.same .mem
  have rows : u.portRow p = s.portRow p := by
    unfold State.portRow State.memField State.memBytes
    rw [mem]
  have accepted : u.engine.accepted = [] := (hu.same .work).2.1.trans ha
  have none : u.pair.handover = .none := (congrArg Pair.handover (hu.same .pair)).trans hh
  rw [State.adoptTx_of_taken (adopt.trans hr) (by rw [row, rows, hf]), State.txBoundary_of_unasked accepted,
    State.advanceHandover_of_none none]

/-- The item is cut past its first character: a terminator is owed, and the breach counts. -/
def State.breached (s : State) (p : PortNo) : State :=
  (s.cutSending p true).updTx p fun t => { t with
    terminator := true, ctsWait := (s.port p).tx.ctsWait, breaches := satAdd top32 t.breaches 1 }

section lone
variable (hr : s.roadRuns = true) (hb : s.mayBreach p = true) (hx : (s.port p).tx.sending = some x)
  (hi : s.item? x.item = some i) (hg : (s.port p).tx.group = none) (hh : s.pair.handover = .none)
  (ha : s.engine.accepted = []) (hd : (s.port p).txAdopt = false)
  (hf : rowFields (s.port p).txRow = rowFields (s.portRow p))
  (hl : ∃ l, l ∈ (s.view (portView p)).inFlight ∧ l.item = i.id)
include hr hb hx hi hg hh ha hd hf hl

theorem breach_unbegun (hn : x.begun = false ∨ n = 0) :
    ∃ t, exec (.breach p n) s = .next t ∧ (t.port p).tx.sending = none ∧
      (t.port p).tx.terminator = (s.port p).tx.terminator ∧ (t.port p).tx.breaches = (s.port p).tx.breaches ∧
      (∃ l, l ∈ (t.view (portView p)).queue ∧ l.item = i.id) ∧ Only (parts (.breach p n)) s t := by
  have early : (!x.begun || decide (n = 0)) = true := by
    rcases hn with unbegun | zero
    · rw [unbegun]; rfl
    · rw [zero]; exact Bool.or_true _
  have port := State.cutSending_port hx hg false
  have idle := State.boundary_idle (State.cutSending_lone_steps hx hg false) (by rw [port]; exact ⟨rfl, rfl⟩) hd hf ha hh
  have runs : exec (.breach p n) s = .next (s.cutSending p false) := by
    show (if !s.roadRuns || !s.mayBreach p then _ else (match (s.port p).tx.sending with
      | none => _
      | some x => if !x.begun || decide (n = 0) then
          Host.Outcome.next (((s.cutSending p false).adoptTx p).txBoundary p).advanceHandover else _)) = _
    rw [hr, hb, if_neg (by decide), hx]
    exact (if_pos early).trans (congrArg Host.Outcome.next idle)
  rw [State.item?_id hi] at hl ⊢
  exact ⟨_, runs, by rw [port], by rw [port], by rw [port], State.cutSending_returns hx hg false hl, only_parts_of_exec runs⟩

theorem breach_begun (hs : x.begun = true) (hn : 0 < n) (hc : n ≤ cutLimit x.bytes) :
    ∃ t, exec (.breach p n) s = .next t ∧ (t.port p).tx.sending = none ∧ (t.port p).tx.terminator = true ∧
      (t.port p).tx.breaches = min 0xFFFFFFFF ((s.port p).tx.breaches + 1) ∧
      (∃ l, l ∈ (t.view (portView p)).queue ∧ l.item = i.id) ∧ i.id ∈ (t.port p).tx.cut ∧
      Only (parts (.breach p n)) s t := by
  have late : (!x.begun || decide (n = 0)) = false := by
    rw [hs, decide_eq_false (by omega)]
    rfl
  have port : (s.breached p).port p = _ := State.updPort_port_same _ _ _
  rw [State.cutSending_port hx hg true] at port
  have idle := State.boundary_idle (u := s.breached p) (State.updTx_steps p _ (State.cutSending_lone_steps hx hg true) rfl)
    (by rw [port]; exact ⟨rfl, rfl⟩) hd hf ha hh
  have runs : exec (.breach p n) s = .next (s.breached p) := by
    show (if !s.roadRuns || !s.mayBreach p then _ else (match (s.port p).tx.sending with
      | none => _
      | some x => if !x.begun || decide (n = 0) then _
        else if cutLimit x.bytes < n then _
        else Host.Outcome.next (((s.breached p).adoptTx p).txBoundary p).advanceHandover)) = _
    rw [hr, hb, if_neg (by decide), hx]
    dsimp only
    rw [late, if_neg Bool.false_ne_true, if_neg (Nat.not_lt.2 hc), idle]
  rw [State.item?_id hi] at hl ⊢
  exact ⟨_, runs, by rw [port], by rw [port], by rw [port]; rfl, State.cutSending_returns hx hg true hl, by rw [port]; simp,
    only_parts_of_exec runs⟩

end lone

theorem exec_breach_late (hx : (s.port p).tx.sending = some x) (hs : x.begun = true) (hc : cutLimit x.bytes < n)
    (hn : 0 < n) : exec (.breach p n) s = .next s := by
  have late : (!x.begun || decide (n = 0)) = false := by
    rw [hs, decide_eq_false (by omega)]
    rfl
  show (if !s.roadRuns || !s.mayBreach p then Host.Outcome.next s else (match (s.port p).tx.sending with
    | none => _
    | some x => if !x.begun || decide (n = 0) then _ else if cutLimit x.bytes < n then Host.Outcome.next s else _)) = _
  rw [hx]
  dsimp only
  rw [late, if_neg Bool.false_ne_true, if_pos hc, ite_self]

theorem exec_breach_none (h : s.roadRuns = false ∨ s.mayBreach p = false) : exec (.breach p n) s = .next s := by
  have shut : (!s.roadRuns || !s.mayBreach p) = true := by
    rcases h with off | none
    · rw [off]; rfl
    · rw [none]; exact Bool.or_true _
  exact if_pos shut

end cutting

/-! ### Groups (14 R424, R685) -/

section groups
variable {s t : State} {p : PortNo} {g : GroupRun}

/-- A group that waits for its next member, with an item that breaches it. -/
theorem State.group_of_mayBreach (hb : s.mayBreach p = true) (hx : (s.port p).tx.sending = none) :
    (∃ g, (s.port p).tx.group = some g) ∧ (s.port p).tx.breachers ≠ [] := by
  obtain ⟨j, waits, can⟩ := List.any_eq_true.1 hb
  refine ⟨?_, List.ne_nil_of_mem waits⟩
  cases group : (s.port p).tx.group with
  | some g => exact ⟨g, rfl⟩
  | none =>
    have silent : s.classOnLine p = none := by rw [State.classOnLine, hx, group]; rfl
    rw [silent] at can
    split at can
    · next none => cases none
    · cases can

theorem State.interruptGroup_tx (hg : (s.port p).tx.group = some g) : ((s.interruptGroup p).port p).tx =
    { (s.port p).tx with group := none, cut := (s.port p).tx.cut ++ g.held.map (·.item) } := by
  rw [State.interruptGroup, hg]
  exact congrArg Port.tx (State.updPort_port_same _ _ _)

theorem breach_interrupts {n : Nat} (hr : s.roadRuns = true) (hb : s.mayBreach p = true)
    (hx : (s.port p).tx.sending = none) : ∃ t, exec (.breach p n) s = .next t ∧ (t.port p).tx.group = none ∧
      (t.port p).tx.breaches = min 0xFFFFFFFF ((s.port p).tx.breaches + 1) ∧ Only (parts (.breach p n)) s t := by
  obtain ⟨⟨g, group⟩, waits⟩ := State.group_of_mayBreach hb hx
  have some_ : (s.port p).tx.breachers.isEmpty = false := by simpa using waits
  have counted : (s.updTx p fun t => { t with breaches := satAdd top32 t.breaches 1 }).port p =
      { s.port p with tx := { (s.port p).tx with breaches := satAdd top32 (s.port p).tx.breaches 1 } } :=
    State.updPort_port_same _ _ _
  have yields : s.yieldGroup p =
      (s.updTx p fun t => { t with breaches := satAdd top32 t.breaches 1 }).interruptGroup p := by
    have due : s.groupYields p g = true := by
      rw [State.groupYields, some_]
      exact Bool.or_true _
    rw [State.yieldGroup, group]
    dsimp only
    rw [due, hx, some_]
    rfl
  have runs : exec (.breach p n) s = .next (s.yieldGroup p) := by
    show (if !s.roadRuns || !s.mayBreach p then _ else (match (s.port p).tx.sending with
      | none => Host.Outcome.next (s.yieldGroup p)
      | some _ => _)) = _
    rw [hr, hb, if_neg (by decide), hx]
  have tx := State.interruptGroup_tx (s := s.updTx p fun t => { t with breaches := satAdd top32 t.breaches 1 }) (p := p)
    (g := g) (by rw [counted]; exact group)
  refine ⟨_, runs, ?_, ?_, only_parts_of_exec runs⟩
  · rw [yields, tx]
  · rw [yields, tx, counted]
    rfl

/-- What a port remembers of its groups. -/
def Port.groupNotes (q : Port) : Option GroupRun × List GroupKey × Nat := (q.tx.group, q.tx.abandoned, q.tx.abandons)

theorem SameOn.release {κ : Type} {key : Port → κ} (h : SameOn key s t) (id : Nat) : SameOn key s (t.release id) :=
  h.steps (State.release_steps (ps := [.mem, .pool, .sluice]) id (Steps.refl _ t) rfl)

/-- Unlinking an item leaves what a port remembers of its groups. -/
theorem SameOn.unlink_groupNotes (h : SameOn Port.groupNotes s t) (v : Fin 52) (id : Nat) :
    SameOn Port.groupNotes s (t.unlink v id) := by
  refine SameOn.release ?_ id
  unfold State.forget
  split
  · exact h
  · exact SameOn.updPort (t := t.updView v _) h _ fun _ => rfl

theorem SameOn.dropAbandoned_groupNotes (h : SameOn Port.groupNotes s t) (p : PortNo) :
    SameOn Port.groupNotes s (t.dropAbandoned p) :=
  SameOn.foldl _ h fun u _ hu => SameOn.unlink_groupNotes (t := u.refuse (portView p) 1) hu _ _

theorem State.abandonGroup_groupNotes (hg : (s.port p).tx.group = some g) : ((s.abandonGroup p).port p).groupNotes =
    (none, g.key :: (s.port p).tx.abandoned, satAdd top32 (s.port p).tx.abandons 1) := by
  rw [State.abandonGroup, hg]
  refine (SameOn.dropAbandoned_groupNotes (SameOn.foldl _ (SameOn.refl _ _) fun _ id hu => hu.release id) p p).trans ?_
  exact (congrArg Port.groupNotes (State.updPort_port_same s p _)).trans rfl

theorem groupAbandon_abandons (hr : s.roadRuns = true) (hg : (s.port p).tx.group = some g)
    (hx : (s.port p).tx.sending = none) (hy : s.groupYields p g = false) (hn : s.nextItem p = none) :
    ∃ t, exec (.groupAbandon p) s = .next t ∧ (t.port p).tx.group = none ∧
      (t.port p).tx.abandoned = g.key :: (s.port p).tx.abandoned ∧
      (t.port p).tx.abandons = min 0xFFFFFFFF ((s.port p).tx.abandons + 1) ∧ Only (parts (.groupAbandon p)) s t := by
  have stays : s.yieldGroup p = s := by
    rw [State.yieldGroup, hg]
    dsimp only
    rw [hy]
    rfl
  have runs : exec (.groupAbandon p) s = .next (s.abandonGroup p) := by
    show (if !s.roadRuns then _ else
      if ((s.yieldGroup p).port p).tx.group.isSome && ((s.yieldGroup p).port p).tx.sending.isNone &&
          ((s.yieldGroup p).nextItem p).isNone then Host.Outcome.next ((s.yieldGroup p).abandonGroup p) else _) = _
    rw [hr, if_neg (by decide), stays, hg, hx, hn]
    rfl
  have notes := State.abandonGroup_groupNotes hg
  exact ⟨_, runs, congrArg Prod.fst notes, congrArg (fun n => n.2.1) notes, congrArg (fun n => n.2.2) notes,
    only_parts_of_exec runs⟩

end groups

/-! ### What Silt and the engine take (18 R572, 11 R347) -/

section takes
variable {s t : State} {i : Item}

theorem State.not_mem_unlink (s : State) (v : Fin 52) (id : Nat) {l : Link} (h : l ∈ ((s.unlink v id).view v).queue) :
    l.item ≠ id := by
  rw [State.unlink_queue] at h
  exact of_decide_eq_true (List.of_mem_filter h :)

theorem exec_siltTake_skips (hw : s.engineWorks = true) (hi : s.tapHead viewJournal = some i) (hk : s.siltSkips = true) :
    exec .siltTake s =
      .next ((s.unlink viewJournal i.id).setJournal fun j => { j with skipped := satAdd top32 j.skipped 1 }) := by
  show (if !s.engineWorks then _ else (match s.tapHead viewJournal with
    | none => _
    | some i => if s.siltSkips then Host.Outcome.next
        ((s.unlink viewJournal i.id).setJournal fun j => { j with skipped := satAdd top32 j.skipped 1 }) else _)) = _
  rw [hw, if_neg (by decide), hi]
  exact if_pos hk

theorem exec_siltTake_accepts {j : Journal} (hw : s.engineWorks = true) (hi : s.tapHead viewJournal = some i)
    (hk : s.siltSkips = false) (hs : s.siltWorks = true) (hj : s.journal.accept (s.sentenceRecord i) = some j) :
    exec .siltTake s = .next ((s.setJournal fun _ => j).unlink viewJournal i.id) := by
  show (if !s.engineWorks then _ else (match s.tapHead viewJournal with
    | none => _
    | some i => if s.siltSkips then _ else if s.siltWorks then (match s.journal.accept (s.sentenceRecord i) with
        | some j => Host.Outcome.next ((s.setJournal fun _ => j).unlink viewJournal i.id)
        | none => _) else _)) = _
  rw [hw, if_neg (by decide), hi]
  dsimp only
  rw [hk, if_neg Bool.false_ne_true, hs, if_pos rfl, hj]

theorem exec_siltTake_none (hi : s.tapHead viewJournal = none) : exec .siltTake s = .next s := by
  show (if !s.engineWorks then Host.Outcome.next s else (match s.tapHead viewJournal with
    | none => Host.Outcome.next s
    | some _ => _)) = _
  rw [hi]
  exact ite_self _

/-- The alarms that an item acknowledges are acknowledged. -/
def State.ackedBy (s : State) (i : Item) : State :=
  match i.ackNumber with
  | some n => (s.ackAll fun _ p => decide (lampAlarmNo p.row = n)).1
  | none => s

theorem State.ackedBy_steps (s : State) (i : Item) :
    Steps [.mem, .pool, .draws, .irq, .bells, .ports, .tx, .sluice, .lamps, .pair, .journal, .tag, .inject] s (s.ackedBy i) := by
  unfold State.ackedBy
  split
  · exact State.ackAll_steps _ (Steps.refl _ s) rfl
  · exact Steps.refl _ s

theorem exec_engineViewTake (hw : s.engineWorks = true) (hi : s.tapHead viewEngine = some i) :
    exec .engineViewTake s = .next ((s.ackedBy i).unlink viewEngine i.id) := by
  show (if !s.engineWorks then _ else (match s.tapHead viewEngine with
    | none => _
    | some i => Host.Outcome.next ((s.ackedBy i).unlink viewEngine i.id))) = _
  rw [hw, if_neg (by decide), hi]

theorem exec_engineViewTake_none (hi : s.tapHead viewEngine = none) : exec .engineViewTake s = .next s := by
  show (if !s.engineWorks then Host.Outcome.next s else (match s.tapHead viewEngine with
    | none => Host.Outcome.next s
    | some _ => _)) = _
  rw [hi]
  exact ite_self _

/-- An active alarm of the number that an item carries is acknowledged, or was before. -/
theorem State.ackedBy_acked {n : Nat} {l : LampNo} (hn : i.ackNumber = some n) (hr : s.pair.role ≠ .standby)
    (hl : lampAlarmNo (s.lamp l).row = n) (ha : (s.lamp l).active = true) : ((s.ackedBy i).lamp l).acked = true := by
  rw [State.ackedBy, hn]
  dsimp only
  rw [State.ackAll_lamp hr]
  split
  · rfl
  · next kept =>
    simpa [State.acks, ha, hl] using kept

theorem engineViewTake_takes (hw : s.engineWorks = true) (hi : s.tapHead viewEngine = some i) :
    ∃ t, exec .engineViewTake s = .next t ∧ (∀ l, l ∈ (t.view viewEngine).queue → l.item ≠ i.id) ∧
      (i.ackNumber = none → t.lamps = s.lamps) ∧
      (∀ n l, i.ackNumber = some n → s.pair.role ≠ .standby → lampAlarmNo (s.lamp l).row = n →
          (s.lamp l).active = true → (t.lamp l).acked = true) ∧ Only (parts .engineViewTake) s t := by
  have x := exec_engineViewTake hw hi
  have lamps : ((s.ackedBy i).unlink viewEngine i.id).lamps = (s.ackedBy i).lamps :=
    (State.unlink_steps (ps := [.mem, .pool, .tx, .sluice]) viewEngine i.id (Steps.refl _ _) rfl).same .lamps
  refine ⟨_, x, fun l hl => State.not_mem_unlink _ _ _ hl, fun none => ?_, fun n l hn hr hl ha => ?_, only_parts_of_exec x⟩
  · rw [lamps, State.ackedBy, none]
  · unfold State.lamp
    rw [lamps]
    exact State.ackedBy_acked hn hr hl ha

end takes

/-- Settles O53: each event's equation, and what the cut, the end and the groups leave. -/
theorem spillwaySendsCutsAndReleases : Obligations.SpillwaySendsCutsAndReleases := by
  refine ⟨fun s p cts i hb hg ha hn hi hm => itemBegin_begins hb hg ha hn hi hm,
    fun s p cts hb hg ha => exec_itemBegin_shut hb hg ha, fun s p cts hr hl => ?_,
    fun s p cts h => exec_ctsResume_idle h, fun s p x i hr hw hx hi hg hh ha => itemSent_ends hr hw hx hi hg hh ha,
    fun s p n x i hr hb hx hi hg hh ha hd hf hl hn => breach_unbegun hr hb hx hi hg hh ha hd hf hl hn,
    fun s p n x i hr hb hx hi hg hh ha hd hf hl hs hn hc => breach_begun hr hb hx hi hg hh ha hd hf hl hs hn hc,
    fun s p n x hx hs hc hn => exec_breach_late hx hs hc hn, fun s p n h => exec_breach_none h,
    fun s p n hr hb hx => breach_interrupts hr hb hx, fun s p g hr hg hx hy hn => groupAbandon_abandons hr hg hx hy hn,
    fun s i hw hi hk => ?_, fun s i j hw hi hk hs hj => ?_, fun s i hw hi => engineViewTake_takes hw hi,
    fun s hi => exec_siltTake_none hi, fun s hi => exec_engineViewTake_none hi⟩
  · have port : (s.updPort p fun _ => (s.port p).paced cts).port p = (s.port p).paced cts := State.updPort_port_same _ _ _
    refine ⟨_, exec_ctsResume hr hl, ?_, ?_, ?_, ?_, fun q ne => State.updPort_port_ne _ _ ne,
      (State.updPort_steps (ps := [.ports, .tx]) p _ (Steps.refl _ s) rfl).1⟩
    · rw [port]; rfl
    · rw [port]; rfl
    · rw [port]; exact Port.paced_waits
    · rw [port]; exact fun x goes hx => Port.paced_goes goes hx
  · have x := exec_siltTake_skips hw hi hk
    have journal : (s.unlink viewJournal i.id).journal = s.journal :=
      (State.unlink_steps (ps := [.mem, .pool, .tx, .sluice]) viewJournal i.id (Steps.refl _ s) rfl).same .journal
    refine ⟨_, x, ?_, fun l hl => State.not_mem_unlink s viewJournal i.id hl, only_parts_of_exec x⟩
    exact (congrArg (fun j : Journal => { j with skipped := satAdd top32 j.skipped 1 }) journal).trans rfl
  · have x := exec_siltTake_accepts hw hi hk hs hj
    have journal : ((s.setJournal fun _ => j).unlink viewJournal i.id).journal = j :=
      (State.unlink_steps (ps := [.mem, .pool, .tx, .sluice]) viewJournal i.id (Steps.refl _ _) rfl).same .journal
    exact ⟨_, x, journal, fun l hl => State.not_mem_unlink _ viewJournal i.id hl, only_parts_of_exec x⟩

end Sys2Proof.Machine
end

section
/-!
PROOFS. The lamp commands, their tests and their lapses (08 R248, R250; 16 R489-R499).
-/
set_option Elab.async false
namespace Sys2Proof.Machine

/-! ### A change of a lamp, in full (16 R495) -/

section change
variable {s : State} {l k : LampNo} {f : Lamp → Lamp} {t : Stamp}

theorem State.updLamp_lamp (s : State) (l : LampNo) (f : Lamp → Lamp) : (s.updLamp l f).lamp l = f (s.lamp l) :=
  upd_get_self s.lamps l f

theorem State.updLamp_lamp_ne (s : State) (f : Lamp → Lamp) (h : k ≠ l) : (s.updLamp l f).lamp k = s.lamp k :=
  upd_get_ne s.lamps f h

theorem Steps.lamp {ps : List Part} {u : State} (h : Steps ps s u) (l : LampNo)
    (hp : ps.contains .lamps = false := by rfl) : u.lamp l = s.lamp l :=
  congrArg (fun v : Vector Lamp 1024 => v.get l) (h.same .lamps hp)

/-- The change of condition that the row, doorbell 1 and the record show, its alarm acknowledged or not. -/
def State.lampMove (s : State) (l : LampNo) (f : Lamp → Lamp) (t : Stamp) (acked : Bool) : LampMove :=
  { lamp := l, before := s.lampAhead l, after := { f (s.lampAhead l) with acked := acked, changed := t }, time := t
    writes := true }

/-- The condition of the lamp moves, its state with it or not. -/
def movesLamp (force : Bool) (before after : Lamp) : Bool := force || decide (before.state ≠ after.state)

/-- The change has an alarm made: one becomes or stays active, or one ends. -/
def raisesAlarm (force : Bool) (before after : Lamp) : Bool :=
  (after.active && (!before.active || movesLamp force before after)) || (before.active && !after.active)

/-- The alarm of a change. -/
def State.lampAlarm (s : State) (l : LampNo) (f : Lamp → Lamp) (force : Bool) : Bool :=
  raisesAlarm force (s.lampAhead l) (f (s.lampAhead l))

/-- What a change of a lamp does: the change of condition with its alarm or without, or its other fields alone. -/
theorem State.changeLamp_eq (s : State) (l : LampNo) (f : Lamp → Lamp) (t : Stamp) (force : Bool) :
    s.changeLamp l f t force =
    if movesLamp force (s.lampAhead l) (f (s.lampAhead l)) || s.lampAlarm l f force then
      (s.alarmPlaced l f (s.lampAlarm l f force)
        (s.lampMove l f t ((f (s.lampAhead l)).acked && !s.lampAlarm l f force))).afterAlarm
        (s.lampMove l f t ((f (s.lampAhead l)).acked && !s.lampAlarm l f force))
    else s.lampKept l { f (s.lamp l) with state := (s.lamp l).state } := by
  unfold State.changeLamp State.lampAlarm raisesAlarm
  rfl

theorem State.lampAhead_of_calm (h : s.calm) (l : LampNo) : s.lampAhead l = s.lamp l := by
  unfold State.lampAhead
  rw [show s.sluice.alarmWaits = [] from h]
  rfl

/-- A field that step 3 of 16 R495 does not write takes its new value at once. -/
theorem State.changeLamp_field {β : Type} (key : Lamp → β) (take : ∀ p a, key (Lamp.take p a) = key p)
    (state : ∀ (p : Lamp) st, key { p with state := st } = key p) (s : State) (l : LampNo) (f : Lamp → Lamp) (t : Stamp)
    (force : Bool) : key ((s.changeLamp l f t force).lamp l) = key (f (s.lamp l)) := by
  have placed (alr : Bool) (m : LampMove) : key ((s.alarmPlaced l f alr m).lamp l) = key (f (s.lamp l)) := by
    unfold State.lamp
    rw [State.alarmPlaced_lamps, upd_get_self, take]
  rw [State.changeLamp_eq]
  split
  · unfold State.afterAlarm
    split
    · have finished (alr : Bool) (m : LampMove) (hm : m.lamp = l) (hw : m.writes = true) :
          key (((s.alarmPlaced l f alr m).finishMove m).lamp l) = key (f (s.lamp l)) := by
        rw [← placed alr m]
        unfold State.lamp
        rw [State.finishMove_lamps _ hw, hm]
        refine (congrArg key (upd_get_self _ l _)).trans ?_
        split
        · exact take _ _
        · rfl
      exact finished _ _ rfl rfl
    · exact placed _ _
  · unfold State.lamp
    rw [State.lampKept_lamps]
    exact (congrArg key (upd_get_self _ l _)).trans (state _ _)

/-- A change that no alarm holds up leaves the fields of step 3, whatever it was of. -/
theorem State.changeLamp_taken {β : Type} (key : Lamp → β) (take : ∀ p a, key (Lamp.take p a) = key a)
    (marks : ∀ (p : Lamp) acked changed, key { p with acked := acked, changed := changed } = key p)
    (state : ∀ (p : Lamp) st, key { p with state := st } = key p) {force : Bool} (h : (s.changeLamp l f t force).calm) :
    key ((s.changeLamp l f t force).lamp l) = key (f (s.lamp l)) := by
  have ahead := State.lampAhead_of_calm (State.changeLamp_calm h) l
  rw [State.changeLamp_eq] at h ⊢
  rw [ahead] at h ⊢
  split at h
  · next moved =>
    rw [if_pos moved]
    generalize s.lampAlarm l f force = alr at h ⊢
    have calm : (s.alarmPlaced l f alr (s.lampMove l f t ((f (s.lamp l)).acked && !alr))).calm := by
      by_contra waits
      rw [State.afterAlarm_of_waits waits] at h
      exact waits h
    rw [State.afterAlarm_of_calm calm]
    unfold State.lamp
    rw [State.finishMove_lamps _ rfl]
    refine (congrArg key (upd_get_self _ l _)).trans ?_
    rw [State.alarmPlaced_lamps, upd_get_self, if_pos, take]
    · exact (marks _ _ _).trans (congrArg (fun p => key (f p)) ahead)
    · show sameLamp (f (s.lamp l)).row (f (s.lampAhead l)).row = true
      rw [ahead]
      exact decide_eq_true rfl
  · next still =>
    rw [if_neg still]
    unfold State.lamp
    rw [State.lampKept_lamps]
    exact (congrArg key (upd_get_self _ l _)).trans (state _ _)

theorem State.changeLamp_injected {force : Bool} (h : (s.changeLamp l f t force).calm) :
    ((s.changeLamp l f t force).lamp l).injected = (f (s.lamp l)).injected :=
  State.changeLamp_taken Lamp.injected (fun _ _ => rfl) (fun _ _ _ => rfl) (fun _ _ => rfl) h

theorem State.changeLamp_held {force : Bool} (h : (s.changeLamp l f t force).calm) :
    ((s.changeLamp l f t force).lamp l).held = (f (s.lamp l)).held :=
  State.changeLamp_taken Lamp.held (fun _ _ => rfl) (fun _ _ _ => rfl) (fun _ _ => rfl) h

end change

/-! ### A lapse (16 R493) -/

section lapse
variable {s : State} {l : LampNo}

/-- The lamp as its lapse leaves it. -/
def Lamp.lapsed (p : Lamp) : Lamp := { p with state := stUnconfirmed, held := false, injected := false }

theorem exec_lampLapse (hw : s.engineWorks = true) (hl : (s.lamp l).lapses = true) (hr : s.pair.role ≠ .standby) :
    exec (.lampLapse l) s = .next (s.changeLamp l Lamp.lapsed s.now false) :=
  if_pos (by rw [hw, hl, decide_eq_true hr]; rfl)

theorem exec_lampLapse_none (h : (s.lamp l).lapses = false ∨ s.pair.role = .standby) :
    exec (.lampLapse l) s = .next s := by
  refine if_neg ?_
  rcases h with none | standby
  · simp [none]
  · simp [standby]

/-- Each lapse raises an alarm: it was held, or the state moves to UNCONFIRMED. -/
theorem Lamp.lapse_raises {p : Lamp} (h : p.lapses = true) : raisesAlarm false p p.lapsed = true := by
  simp only [Lamp.lapses, Bool.and_eq_true, Bool.or_eq_true, decide_eq_true_eq, Bool.not_eq_true'] at h
  obtain ⟨⟨used, _⟩, runs⟩ := h
  have active : p.lapsed.active = true := by
    show (lampUsed p.row && alarmState stUnconfirmed && !false) = true
    rw [used]
    rfl
  have moves : p.active = false ∨ p.state ≠ p.lapsed.state := by
    rcases runs with (confirmed | ⟨held, _⟩) | returning
    · refine .inr fun e => ?_
      rw [show p.state = stUnconfirmed from e] at confirmed
      exact absurd confirmed (by decide)
    · exact .inl (by rw [Lamp.active, held]; exact Bool.and_false _)
    · exact .inr fun e => absurd (returning.symm.trans e : stReturning = stUnconfirmed) (by decide)
  rw [raisesAlarm, movesLamp, active, Bool.true_and, Bool.false_or, Bool.or_eq_true, Bool.or_eq_true, decide_eq_true_eq, Bool.not_eq_true']
  exact .inl moves

/-- The change that a lapse is. -/
def State.lapseMove (s : State) (l : LampNo) : LampMove := s.lampMove l Lamp.lapsed s.now false

/-- A lapse found by no waiting alarm: the lamp's alarm is made, and the change goes on with it or waits. -/
theorem State.lapse_eq (h : s.calm) (hl : (s.lamp l).lapses = true) : s.changeLamp l Lamp.lapsed s.now false =
    (s.alarmPlaced l Lamp.lapsed true (s.lapseMove l)).afterAlarm (s.lapseMove l) := by
  have raises : s.lampAlarm l Lamp.lapsed false = true := by
    rw [State.lampAlarm, State.lampAhead_of_calm h]
    exact Lamp.lapse_raises hl
  rw [State.changeLamp_eq, if_pos (by rw [raises, Bool.or_true]), raises, Bool.not_true, Bool.and_false]
  rfl

theorem State.finishMove_bell (s : State) (m : LampMove) (hu : s.engine.up = true) :
    (s.finishMove m).chanN.bellIn.getLsbD 1 = true ∧ (s.finishMove m).tag.eventsMade = s.tag.eventsMade + 1 := by
  have told : ∃ u : State, Steps [.mem, .pool, .draws, .ports, .sluice, .lamps, .pair, .inject] s u ∧
      s.finishMove m = (u.ring bellLamp).lampRecord m.lamp m.before m.after m.time := by
    refine ⟨_, ?_, rfl⟩
    have written : Steps [.mem, .pool, .draws, .ports, .sluice, .lamps, .pair, .inject] s (if m.writes then
        ((s.makeDevice (s.pvyslText m.after.row m.after.state m.after.report m.time)).updLamp m.lamp fun p =>
          if sameLamp p.row m.after.row then p.take m.after else p).headNotice else s) :=
      Steps.ite (State.headNotice_steps (State.updLamp_steps _ _ (State.makeDevice_steps _ (Steps.refl _ s) rfl) rfl) rfl)
        (Steps.refl _ s)
    exact Steps.ite (State.sendLamp_steps _ written rfl) written
  obtain ⟨u, before, finished⟩ := told
  have rung : Steps [.irq, .bells] u (u.ring bellLamp) := State.ring_steps _ (Steps.refl _ u) rfl
  have recorded : Steps [.journal, .tag] (u.ring bellLamp) ((u.ring bellLamp).lampRecord m.lamp m.before m.after m.time) :=
    State.lampRecord_steps _ _ _ _ (Steps.refl _ _) rfl
  rw [finished]
  refine ⟨recorded.bell (State.ring_bell ((before.up rfl).trans hu) (by decide)), ?_⟩
  have made : ((u.ring bellLamp).lampRecord m.lamp m.before m.after m.time).tag.eventsMade =
      (u.ring bellLamp).tag.eventsMade + 1 := by
    have kept : Steps [.journal] (u.ring bellLamp) ((u.ring bellLamp).record kLamp
        (recFlags m.after.injected (u.ring bellLamp).doubtNow) m.time (leBytes 2 m.lamp.val ++ leBytes 2 0 ++
          leBytes 4 (lampWord m.before).toNat ++ leBytes 4 (lampWord m.after).toNat)) :=
      State.record_steps _ _ _ _ (Steps.refl _ _) rfl
    exact congrArg (fun g : Tag => g.eventsMade + 1) (kept.same .tag)
  rw [made, rung.same .tag, before.same .tag]

/-- A lapse that no alarm holds up. -/
theorem State.lapse_calm (hu : s.engine.up = true) (hl : (s.lamp l).lapses = true)
    (h : (s.changeLamp l Lamp.lapsed s.now false).calm) :
    (s.changeLamp l Lamp.lapsed s.now false).lamp l = { (s.lamp l).lapsed with acked := false, changed := s.now } ∧
    (s.changeLamp l Lamp.lapsed s.now false).chanN.bellIn.getLsbD 1 = true ∧
    (s.changeLamp l Lamp.lapsed s.now false).tag.eventsMade = s.tag.eventsMade + 1 := by
  have calm : s.calm := State.changeLamp_calm h
  have ahead := State.lampAhead_of_calm calm l
  rw [State.lapse_eq calm hl] at h ⊢
  have placed : (s.alarmPlaced l Lamp.lapsed true (s.lapseMove l)).calm := by
    by_contra waits
    rw [State.afterAlarm_of_waits waits] at h
    exact waits h
  have alarm : Steps [.mem, .pool, .draws, .tx, .sluice, .lamps, .pair, .inject] s
      (s.alarmPlaced l Lamp.lapsed true (s.lapseMove l)) :=
    State.makeAlr_steps _ _ _ _ _ _ (State.updLamp_steps _ _ (Steps.refl _ s) rfl) rfl
  obtain ⟨bell, made⟩ := State.finishMove_bell (s.alarmPlaced l Lamp.lapsed true (s.lapseMove l)) (s.lapseMove l)
    ((alarm.up rfl).trans hu)
  rw [State.afterAlarm_of_calm placed]
  refine ⟨?_, bell, made.trans (congrArg (fun g : Tag => g.eventsMade + 1) (alarm.same .tag))⟩
  unfold State.lamp
  rw [State.finishMove_lamps _ rfl]
  refine (upd_get_self _ l _).trans ?_
  rw [State.alarmPlaced_lamps, upd_get_self, if_pos]
  · show Lamp.take (Lamp.take _ _) { (s.lampAhead l).lapsed with acked := false, changed := s.now } = _
    rw [ahead]
    rfl
  · show sameLamp (s.lamp l).row (s.lampAhead l).row = true
    rw [ahead]
    exact decide_eq_true rfl

/-- An alarm for which no cell is to be had waits alone, where none waited. -/
theorem State.placeAlarm_of_calm {w : AlarmWait} (h : s.calm) :
    (s.placeAlarm w).calm ∨ (s.placeAlarm w).sluice.alarmWaits = [w] := by
  have empty : s.sluice.alarmWaits.isEmpty = true := by simpa [State.calm] using h
  have evicted := ((RoadKept.refl true s).poolEvict).alarms rfl
  have still : s.poolEvict.sluice.alarmWaits = [] := evicted.trans h
  unfold State.placeAlarm
  dsimp only
  rw [empty, if_pos rfl, still]
  dsimp only [List.isEmpty_nil]
  rw [if_pos rfl]
  split
  · next id v made =>
    refine .inl ((((RoadKept.refl true s.poolEvict).newItem made).commitAlarm id _).alarms rfl |>.trans still)
  · refine .inr ?_
    show s.poolEvict.sluice.alarmWaits ++ [w] = [w]
    rw [still]
    rfl

/-- A lapse whose alarm finds no cell waits with it. -/
theorem State.lapse_waits (hl : (s.lamp l).lapses = true) (h : s.calm)
    (hn : ¬(s.changeLamp l Lamp.lapsed s.now false).calm) :
    ((s.changeLamp l Lamp.lapsed s.now false).lamp l).state = (s.lamp l).state ∧
    ∃ w m, (s.changeLamp l Lamp.lapsed s.now false).sluice.alarmWaits = [w] ∧ w.move = some m ∧ m.lamp = l ∧
      m.after.state = stUnconfirmed ∧ m.time = s.now := by
  rw [State.lapse_eq h hl] at hn ⊢
  have alone : (s.alarmPlaced l Lamp.lapsed true (s.lapseMove l)).calm ∨
      ∃ w : AlarmWait, (s.alarmPlaced l Lamp.lapsed true (s.lapseMove l)).sluice.alarmWaits = [w] ∧
        w.move = some (s.lapseMove l) :=
    (State.placeAlarm_of_calm (s := s.updLamp l fun p => p.lapsed.take p) h).imp_right fun waits => ⟨_, waits, rfl⟩
  rcases alone with calm | ⟨w, waits, move⟩
  · refine absurd ?_ hn
    have device := ((RoadKept.refl true (s.alarmPlaced l Lamp.lapsed true (s.lapseMove l))).finishMove (s.lapseMove l)).alarms rfl
    rw [State.afterAlarm_of_calm calm]
    exact device.trans calm
  · have stuck : ¬(s.alarmPlaced l Lamp.lapsed true (s.lapseMove l)).calm := by
      rw [State.calm, waits]
      exact List.cons_ne_nil _ _
    rw [State.afterAlarm_of_waits stuck]
    refine ⟨?_, w, s.lapseMove l, waits, move, rfl, rfl, rfl⟩
    unfold State.lamp
    rw [State.alarmPlaced_lamps, upd_get_self]
    rfl

end lapse

end Sys2Proof.Machine
end

section
/-!
PROOFS. ALARM-ACK, LAMP-TEST and its doorbell, the end of a test and the repetition of an alarm (08 R248, R250; 16 R497-R499).
-/
set_option Elab.async false
namespace Sys2Proof.Machine

/-! ### ALARM-ACK (16 R498) -/

section alarmAck
variable {s : State} {m : Msg} {l : LampNo}

/-- The lamps that ALARM-ACK names. -/
def ackNamed (n : Nat) (l : LampNo) (_ : Lamp) : Bool := decide (n = 0xFFFF) || decide (l.val = n)

theorem exec_alarmAck (ho : s.offers m 0x0508 inWork alarmAckFault) : exec (.alarmAck m) s =
    .next ((s.served.ackAll (ackNamed (fieldAt m.payload 0 2))).1.done m 0x0508
      (leBytes 2 (s.served.ackAll (ackNamed (fieldAt m.payload 0 2))).2)) :=
  congrArg Host.Outcome.next (State.serve_of_offers ho)

theorem State.ackAll_standby {f : LampNo → Lamp → Bool} (h : s.pair.role = .standby) : s.ackAll f = (s, 0) := if_pos h

theorem alarmAck_acks (ho : s.offers m 0x0508 inWork alarmAckFault) (hr : s.pair.role ≠ .standby) :
    ∃ t, exec (.alarmAck m) s = .next t ∧
    Replied s t m 0x0508 0 (leBytes 2 (s.ackable (ackNamed (fieldAt m.payload 0 2))).length) ∧
    (∀ l, t.lamp l = if s.acks (ackNamed (fieldAt m.payload 0 2)) l then
      { s.lamp l with acked := true, changed := s.now } else s.lamp l) ∧ Only (parts (.alarmAck m)) s t := by
  have x := exec_alarmAck ho
  have acked : Steps [.mem, .pool, .draws, .irq, .bells, .ports, .tx, .sluice, .lamps, .pair, .journal, .tag, .inject, .work] s
      (s.served.ackAll (ackNamed (fieldAt m.payload 0 2))).1 :=
    State.ackAll_steps _ (s.served_steps.widen rfl) rfl
  rw [(State.ackAll_eq (s := s.served) hr).2] at x
  exact ⟨_, x, State.done_replied (acked.replies rfl), fun l =>
    ((State.done_keeps _ m 0x0508 _).lamp l).trans (State.ackAll_lamp (s := s.served) hr l), only_parts_of_exec x⟩

theorem alarmAck_standby (ho : s.offers m 0x0508 inWork alarmAckFault) (hr : s.pair.role = .standby) :
    ∃ t, exec (.alarmAck m) s = .next t ∧ Replied s t m 0x0508 0 [0, 0] ∧ (∀ l, t.lamp l = s.lamp l) ∧
      Only (parts (.alarmAck m)) s t := by
  have x : exec (.alarmAck m) s = .next (s.served.done m 0x0508 [0, 0]) := by
    rw [exec_alarmAck ho, State.ackAll_standby (s := s.served) hr]
    exact congrArg (fun bs => Host.Outcome.next (s.served.done m 0x0508 bs)) (by decide : leBytes 2 0 = [0, 0])
  exact ⟨_, x, State.done_replied (s.served_steps.replies rfl), fun l => (State.done_keeps s.served m 0x0508 _).lamp l,
    only_parts_of_exec x⟩

end alarmAck

/-! ### LAMP-TEST and its doorbell (08 R250, 16 R499) -/

section lampTest
variable {s t : State} {m : Msg} {l k : LampNo}

theorem lampTest_arms (ho : s.offers m 0x050A inAll s.lampTestFault) (hl : fieldAt m.payload 0 2 = l.val) :
    ∃ t, exec (.lampTest m) s = .next t ∧ Replied s t m 0x050A 0 [] ∧
    t.lamp l = { s.lamp l with
      testAction := BitVec.ofNat 2 (byteAt m.payload 2), testSeconds := BitVec.ofNat 16 (fieldAt m.payload 4 2) } ∧
    (∀ k, k ≠ l → t.lamp k = s.lamp k) ∧ Only (parts (.lampTest m)) s t := by
  have named : Fin.ofNat 1024 (fieldAt m.payload 0 2) = l := by rw [hl]; exact Fin.ofNat_val_eq_self l
  have x : exec (.lampTest m) s = .next ((s.served.updLamp (Fin.ofNat 1024 (fieldAt m.payload 0 2)) fun p => { p with
      testAction := BitVec.ofNat 2 (byteAt m.payload 2)
      testSeconds := BitVec.ofNat 16 (fieldAt m.payload 4 2) }).done m 0x050A []) :=
    congrArg Host.Outcome.next (State.serve_of_offers ho)
  rw [named] at x
  have armed : Steps [.work, .lamps] s (s.served.updLamp l fun p => { p with
      testAction := BitVec.ofNat 2 (byteAt m.payload 2), testSeconds := BitVec.ofNat 16 (fieldAt m.payload 4 2) }) :=
    State.updLamp_steps _ _ (s.served_steps.widen rfl) rfl
  exact ⟨_, x, State.done_replied (armed.replies rfl),
    ((State.done_keeps _ m 0x050A []).lamp l).trans (State.updLamp_lamp s.served l _),
    fun k ne => ((State.done_keeps _ m 0x050A []).lamp k).trans (State.updLamp_lamp_ne s.served _ ne), only_parts_of_exec x⟩

/-- A lamp whose armed test starts. -/
def Lamp.goesDark (p : Lamp) : Lamp := { p with state := stDark, injected := true, testRuns := true, offRuns := false }

/-- The lamp is disarmed. -/
def State.disarmed (s : State) (l : LampNo) : State := s.updLamp l fun p => { p with testAction := 0 }

theorem State.startTest_dark (hu : lampUsed (s.lamp l).row = true) (ha : (s.lamp l).testAction = 1) :
    s.startTest l = (s.disarmed l).changeLamp l Lamp.goesDark s.now false := by
  unfold State.startTest
  dsimp only
  rw [if_neg (by rw [hu]; decide), if_pos ha]
  rfl

/-- A test that does not start with action 1 makes no alarm, and takes no lamp but its own. -/
theorem State.startTest_plain (h : ¬(lampUsed (s.lamp l).row = true ∧ (s.lamp l).testAction = 1)) :
    (s.startTest l).sluice = s.sluice ∧ ((s.startTest l).lamp l).testAction = 0 ∧
      ∀ k, k ≠ l → (s.startTest l).lamp k = s.lamp k := by
  have disarmed : ((s.disarmed l).lamp l).testAction = 0 := congrArg Lamp.testAction (s.updLamp_lamp l _)
  have others (k : LampNo) (ne : k ≠ l) : (s.disarmed l).lamp k = s.lamp k := s.updLamp_lamp_ne _ ne
  unfold State.startTest
  dsimp only
  split
  · exact ⟨rfl, disarmed, others⟩
  · next used =>
    rw [if_neg fun action => h ⟨by simpa using used, action⟩]
    split
    · have sent (u : State) (w : Word) : Steps [.buses] u (u.commandLamp w 1) := State.commandLamp_steps _ _ (Steps.refl _ u) rfl
      refine ⟨(sent _ _).same .sluice, ?_, fun k ne => ?_⟩
      · rw [(sent _ _).lamp l, State.updLamp_lamp]
        exact disarmed
      · rw [(sent _ _).lamp k, State.updLamp_lamp_ne _ _ ne]
        exact others k ne
    · exact ⟨rfl, disarmed, others⟩

/-- One lamp as the doorbell is served. -/
def State.testTurn (s : State) (l : LampNo) : State := if (s.lamp l).testAction = 0 then s else s.startTest l

theorem State.testTurn_lamp_ne (s : State) (h : k ≠ l) : (s.testTurn l).lamp k = s.lamp k := by
  unfold State.testTurn
  split
  · rfl
  · by_cases dark : lampUsed (s.lamp l).row = true ∧ (s.lamp l).testAction = 1
    · rw [State.startTest_dark dark.1 dark.2, State.changeLamp_lamp_ne _ _ _ _ h]
      exact s.updLamp_lamp_ne _ h
    · exact (State.startTest_plain dark).2.2 k h

theorem State.testTurn_calm (h : (s.testTurn l).calm) : s.calm := by
  unfold State.testTurn at h
  split at h
  · exact h
  · by_cases dark : lampUsed (s.lamp l).row = true ∧ (s.lamp l).testAction = 1
    · rw [State.startTest_dark dark.1 dark.2] at h
      exact State.changeLamp_calm (s := s.disarmed l) h
    · exact (congrArg Sluice.alarmWaits (State.startTest_plain dark).1).symm.trans h

theorem State.testTurn_disarms (s : State) (l : LampNo) : ((s.testTurn l).lamp l).testAction = 0 := by
  unfold State.testTurn
  split
  · next idle => exact idle
  · by_cases dark : lampUsed (s.lamp l).row = true ∧ (s.lamp l).testAction = 1
    · rw [State.startTest_dark dark.1 dark.2, State.changeLamp_field Lamp.testAction (fun _ _ => rfl) (fun _ _ => rfl)]
      exact congrArg Lamp.testAction (s.updLamp_lamp l _)
    · exact (State.startTest_plain dark).2.1

theorem State.testTurn_runs (hu : lampUsed (s.lamp l).row = true) (ha : (s.lamp l).testAction = 1) :
    ((s.testTurn l).lamp l).testRuns = true ∧
      ((s.testTurn l).calm → ((s.testTurn l).lamp l).state = stDark ∧ ((s.testTurn l).lamp l).injected = true) := by
  have turn : s.testTurn l = (s.disarmed l).changeLamp l Lamp.goesDark s.now false := by
    rw [State.testTurn, if_neg (by rw [ha]; decide), State.startTest_dark hu ha]
  rw [turn]
  exact ⟨State.changeLamp_field Lamp.testRuns (fun _ _ => rfl) (fun _ _ => rfl) _ _ _ _ _,
    fun calm => ⟨State.changeLamp_state calm, State.changeLamp_injected calm⟩⟩

/-- The doorbell is served: every lamp has its turn. -/
def State.testsStarted (s : State) : State := s.eachLamp State.testTurn

theorem State.testsStarted_lamp (s : State) (l : LampNo) : ∃ t : State, t.lamp l = s.lamp l ∧
    s.testsStarted.lamp l = (t.testTurn l).lamp l := by
  obtain ⟨t, -, met, left⟩ := foldl_key_of_mem (f := State.testTurn) (I := fun _ => True) (key := State.lamp) (x := l) (s := s)
    (fun _ _ _ => trivial) (fun t _ _ _ ne => t.testTurn_lamp_ne ne) trivial (List.nodup_finRange 1024) (List.mem_finRange l)
  exact ⟨t, met, left⟩

theorem State.testsStarted_runs (hu : lampUsed (s.lamp l).row = true) (ha : (s.lamp l).testAction = 1) :
    (s.testsStarted.lamp l).testRuns = true ∧
      (s.testsStarted.calm → (s.testsStarted.lamp l).state = stDark ∧ (s.testsStarted.lamp l).injected = true) := by
  refine ⟨?_, fun calm => ?_⟩
  · obtain ⟨t, met, left⟩ := s.testsStarted_lamp l
    rw [left]
    exact (State.testTurn_runs (met ▸ hu) (met ▸ ha)).1
  · unfold State.testsStarted State.eachLamp at calm ⊢
    obtain ⟨t, -, -, after, met, left⟩ := foldl_key_of_calm (f := State.testTurn) (I := fun _ => True) (key := State.lamp)
      (x := l) (fun _ _ => State.testTurn_calm) (fun _ _ _ => trivial) (fun t _ _ => t.testTurn_lamp_ne) trivial
      (List.nodup_finRange 1024) (List.mem_finRange l) calm
    rw [left]
    exact (State.testTurn_runs (met ▸ hu) (met ▸ ha)).2 after

theorem State.testsStarted_idle (ha : (s.lamp l).testAction = 0) : s.testsStarted.lamp l = s.lamp l := by
  obtain ⟨t, met, left⟩ := s.testsStarted_lamp l
  rw [left, State.testTurn, if_pos (met ▸ ha), met]

variable {c : Chan}

theorem exec_doorbellLampTest (hs : s.serves = true) (hw : s.engineWorks = true) (hr : s.pair.role ≠ .standby)
    (hb : (s.chan c).bellOut.getLsbD 3 = true) : exec (.doorbellLampTest c) s =
    .next (s.setChan c fun r => { r with bellOut := r.bellOut &&& ~~~(BitVec.ofNat 8 (2 ^ 3)) }).testsStarted := by
  refine (congrArg Host.Outcome.next (State.takeBell_of_rung hs hb _)).trans (congrArg Host.Outcome.next ?_)
  have works : (s.engineWorks && decide (s.pair.role ≠ .standby)) = true := by
    rw [hw, decide_eq_true hr]
    rfl
  cases c <;> exact if_pos works

theorem State.testsStarted_steps (s : State) : Steps [.mem, .pool, .draws, .irq, .bells, .ports, .tx, .sluice, .lamps, .buses,
    .pair, .journal, .tag, .inject] s s.testsStarted :=
  Steps.foldl (Steps.refl _ s) fun _ l h => Steps.ite h (State.startTest_steps l h rfl)

theorem doorbellLampTest_starts (hs : s.serves = true) (hw : s.engineWorks = true) (hr : s.pair.role ≠ .standby)
    (hb : (s.chan c).bellOut.getLsbD 3 = true) :
    ∃ t, exec (.doorbellLampTest c) s = .next t ∧ (t.chan c).bellOut = (s.chan c).bellOut &&& 0xF7 ∧
      (∀ l, (t.lamp l).testAction = 0) ∧
      (∀ l, (s.lamp l).testAction = 1 → lampUsed (s.lamp l).row = true → (t.lamp l).testRuns = true ∧
        (t.sluice.alarmWaits = [] → (t.lamp l).state = stDark ∧ (t.lamp l).injected = true)) ∧
      (∀ l, (s.lamp l).testAction = 0 → t.lamp l = s.lamp l) ∧ Only (parts (.doorbellLampTest c)) s t := by
  have x := exec_doorbellLampTest hs hw hr hb
  generalize hu : (s.setChan c fun r => { r with bellOut := r.bellOut &&& ~~~(BitVec.ofNat 8 (2 ^ 3)) }) = u at x
  have lamps (l : LampNo) : u.lamp l = s.lamp l := by
    subst hu
    cases c <;> rfl
  have bell : (u.chan c).bellOut = (s.chan c).bellOut &&& 0xF7 := by
    subst hu
    rw [State.setChan_chan]
    rfl
  have bare := u.testsStarted_steps.chan_bare c
  refine ⟨_, x, (congrArg ChanRegs.bellOut bare :).trans bell, fun l => ?_, fun l ha hu => ?_, fun l ha => ?_,
    only_parts_of_exec x⟩
  · obtain ⟨t, _, left⟩ := u.testsStarted_lamp l
    rw [left]
    exact t.testTurn_disarms l
  · rw [← lamps] at ha hu
    exact State.testsStarted_runs hu ha
  · rw [← lamps] at ha ⊢
    exact State.testsStarted_idle ha

end lampTest

/-! ### The end of a test and the repetition of an alarm (16 R497, R499) -/

section testEnd
variable {s : State} {l : LampNo}

theorem lampTestEnd_ends (hw : s.engineWorks = true) (ht : (s.lamp l).testRuns = true) :
    ∃ t, exec (.lampTestEnd l) s = .next t ∧ t.lamp l = { s.lamp l with testRuns := false } ∧
      (∀ k, k ≠ l → t.lamp k = s.lamp k) ∧ t.buses = s.buses ∧ Only (parts (.lampTestEnd l)) s t := by
  have x : exec (.lampTestEnd l) s = .next (s.updLamp l fun p => { p with testRuns := false }) :=
    if_pos (by rw [hw, ht]; rfl)
  exact ⟨_, x, s.updLamp_lamp l _, fun k ne => s.updLamp_lamp_ne _ ne, rfl, only_parts_of_exec x⟩

theorem lampTestEnd_commands {b : BusNo} {h : HeadNo} (hw : s.engineWorks = true) (ht : (s.lamp l).testRuns = false)
    (hf : (s.lamp l).offRuns = true) (hb : lampBus (s.lamp l).row = b) (hh : lampHead (s.lamp l).row = h.val + 1)
    (hs : (s.head b h).state = hsActive) :
    ∃ t, exec (.lampTestEnd l) s = .next t ∧ t.lamp l = { s.lamp l with offRuns := false } ∧
      (t.bus b).setLamps = (s.bus b).setLamps ++ [hedgeCmd h tySetLamp [BitVec.ofNat 8 (lampNo (s.lamp l).row + 1), 0]] ∧
      Only (parts (.lampTestEnd l)) s t := by
  have head : (Fin.ofNat 30 (lampHead (s.lamp l).row - 1) : HeadNo) = h := by
    rw [hh, Nat.add_sub_cancel]
    exact Fin.ofNat_val_eq_self h
  have gets : ¬((s.head b h).state = hsAbsent ∨ (s.head b h).state = hsRetired) := by
    rw [hs]
    decide
  have sent : ((s.updLamp l fun p => { p with offRuns := false }).commandLamp (s.lamp l).row 0) =
      (s.updLamp l fun p => { p with offRuns := false }).updBus b fun v => { v with
        setLamps := v.setLamps ++ [hedgeCmd h tySetLamp [BitVec.ofNat 8 (lampNo (s.lamp l).row + 1), 0]] } := by
    unfold State.commandLamp
    rw [hb, head]
    exact if_neg gets
  have x : exec (.lampTestEnd l) s = .next ((s.updLamp l fun p => { p with offRuns := false }).commandLamp (s.lamp l).row 0) :=
    (if_neg (by rw [hw, ht]; decide)).trans (if_pos (by rw [hw, hf]; rfl))
  rw [sent] at x
  exact ⟨_, x, s.updLamp_lamp l _, congrArg Bus.setLamps (upd_get_self s.buses b _), only_parts_of_exec x⟩

theorem exec_alarmRepeat (hw : s.engineWorks = true) (ha : (s.lamp l).active = true) (hk : (s.lamp l).acked = false) :
    exec (.alarmRepeat l) s = .next (s.placeAlarm {
      payload := s.alrText (s.lamp l).row (s.lamp l).state false (s.lamp l).changed, stamp := s.now, doubt := s.doubtNow
      route := lampRoute (s.lamp l).row, injected := (s.lamp l).injected, move := none }) := by
  refine (if_pos (by rw [hw, ha, hk]; rfl)).trans (congrArg Host.Outcome.next ?_)
  rw [← hk]
  rfl

theorem exec_alarmRepeat_none (h : (s.lamp l).active = false ∨ (s.lamp l).acked = true) :
    exec (.alarmRepeat l) s = .next s := by
  refine if_neg ?_
  rcases h with idle | acked
  · simp [idle]
  · simp [acked]

end testEnd

end Sys2Proof.Machine
end

section
/-!
PROOFS. LAMP-SET (08 R248; 16 R489, R490).
-/
set_option Elab.async false
namespace Sys2Proof.Machine

/-! ### A lamp row comes into force (16 R490) -/

section row
variable {s t u : State} {l k : LampNo} {row : Word}

/-- The row word without the bits that are the GX-48's own. -/
def lampField (row : Word) : Word := BitVec.ofNat 32 (row.toNat / 64 * 64)

/-- A used lamp that its new row names again. -/
def Lamp.keeps (p : Lamp) (row : Word) : Bool := sameLamp p.row (lampField row) && lampUsed p.row

/-- The lamp that starts with a new row. -/
def lampOfRow (row : Word) : Lamp :=
  if lampUsed (lampField row) then { Lamp.reset.start with row := lampField row } else { Lamp.reset with row := lampField row }

theorem lampOfRow_row (row : Word) : (lampOfRow row).row = lampField row := by
  unfold lampOfRow
  split <;> rfl

/-- The lamp with its row in force. -/
def Lamp.withRow (p : Lamp) (row : Word) : Lamp := if p.keeps row then { p with row := lampField row } else lampOfRow row

/-- A row that makes a lamp start: its old alarm ended, it stands in its place; bell and peer are told. -/
def State.lampStarted (s : State) (l : LampNo) (row : Word) : State :=
  let u := (if lampUsed (s.lamp l).row then s.endAlarm l else s).updLamp l fun _ => lampOfRow row
  let u := if lampUsed (lampField row) && decide ((lampOfRow row).state ≠ (s.lamp l).state) then u.ring bellLamp else u
  if lampUsed (lampField row) || lampUsed (s.lamp l).row then u.sendLamp l else u

theorem State.takeLampRow_eq (s : State) (l : LampNo) (row : Word) : s.takeLampRow l row =
    if (s.lamp l).keeps row then s.updLamp l fun p => { p with row := lampField row } else s.lampStarted l row := rfl

theorem State.endAlarm_lamp_ne (s : State) (h : k ≠ l) : (s.endAlarm l).lamp k = s.lamp k := by
  unfold State.endAlarm
  split
  · exact s.changeLamp_lamp_ne _ _ _ h
  · rfl

/-- Of the lamps a row's start touches its own. -/
theorem State.lampStarted_lamp (s : State) (l : LampNo) (row : Word) :
    (s.lampStarted l row).lamp l = lampOfRow row ∧ ∀ k, k ≠ l → (s.lampStarted l row).lamp k = s.lamp k := by
  have told (u : State) (c d : Prop) [Decidable c] [Decidable d] (k : LampNo) :
      (if c then (if d then u.ring bellLamp else u).sendLamp l else if d then u.ring bellLamp else u).lamp k = u.lamp k :=
    have rung : Steps [.irq, .bells, .pair, .inject] u (if d then u.ring bellLamp else u) :=
      Steps.ite (State.ring_steps _ (Steps.refl _ u) rfl) (Steps.refl _ u)
    (Steps.ite (State.sendLamp_steps l rung rfl) rung).lamp k
  refine ⟨(told _ _ _ l).trans (State.updLamp_lamp _ l _), fun k ne => (told _ _ _ k).trans ?_⟩
  rw [State.updLamp_lamp_ne _ _ ne]
  split
  · exact s.endAlarm_lamp_ne ne
  · rfl

theorem State.takeLampRow_lamp (s : State) (l : LampNo) (row : Word) :
    (s.takeLampRow l row).lamp l = (s.lamp l).withRow row ∧ ∀ k, k ≠ l → (s.takeLampRow l row).lamp k = s.lamp k := by
  rw [State.takeLampRow_eq, Lamp.withRow]
  split
  · exact ⟨s.updLamp_lamp l _, fun k ne => s.updLamp_lamp_ne _ ne⟩
  · exact s.lampStarted_lamp l row

theorem RoadKept.takeLampRow (h : RoadKept false s t) (l : LampNo) (row : Word) : RoadKept false s (t.takeLampRow l row) := by
  rw [State.takeLampRow_eq]
  split
  · exact h.updLamp l _
  · have ended : RoadKept false s (if lampUsed (t.lamp l).row then t.endAlarm l else t) := by
      unfold State.endAlarm
      split
      · split
        · exact h.changeLamp l _ _ false
        · exact h
      · exact h
    have started := ended.updLamp l fun _ => lampOfRow row
    have rung : RoadKept false s (if lampUsed (lampField row) && decide ((lampOfRow row).state ≠ (t.lamp l).state) then
        ((if lampUsed (t.lamp l).row then t.endAlarm l else t).updLamp l fun _ => lampOfRow row).ring bellLamp
        else (if lampUsed (t.lamp l).row then t.endAlarm l else t).updLamp l fun _ => lampOfRow row) := by
      split
      · exact started.steps (State.ring_steps (ps := [.irq, .bells]) _ (Steps.refl _ _) rfl)
      · exact started
    unfold State.lampStarted
    dsimp only
    split
    · exact rung.sendLamp l
    · exact rung

/-- The memory outside the cell pool, of a listing that may be any. -/
theorem RoadKept.read_outside {ps : List Part} {a : Nat} (h : RoadKept false s t) (k : Steps ps s t) (ha : 0xC0000 ≤ a)
    (hb : ps.contains .boxes = false := by rfl) : Memory.read t.mem a = Memory.read s.mem a := by
  by_cases low : a < 0xF0000
  · exact k.same .boxes hb a ha low
  · exact h.read (Nat.le_of_not_lt low)

/-- One row of LAMP-SET. -/
def State.lampWrite (s : State) (l : LampNo) (row : Word) : State :=
  (s.putBytes (lampRowAt l.val) (leBytes 4 row.toNat)).takeLampRow l row

theorem lampRowAt_range (l : LampNo) : 0xF0000 ≤ lampRowAt l.val ∧ lampRowAt l.val + 4 ≤ 0x100000 := by
  have := l.isLt
  unfold lampRowAt
  omega

theorem State.takeLampRow_keeps (s : State) (l : LampNo) (row : Word) :
    Steps [.mem, .pool, .draws, .irq, .bells, .ports, .tx, .sluice, .lamps, .pair, .journal, .tag, .inject] s
      (s.takeLampRow l row) :=
  State.takeLampRow_steps l row (Steps.refl _ s) rfl

theorem State.lampWrite_steps (s : State) (l : LampNo) (row : Word) :
    Steps [.mem, .pool, .rows, .draws, .irq, .bells, .ports, .tx, .sluice, .lamps, .pair, .journal, .tag, .inject] s
      (s.lampWrite l row) := by
  have range := lampRowAt_range l
  refine State.takeLampRow_steps l row (State.putBytes_in_steps (r := .rows) ?_ (Steps.refl _ s) rfl) rfl
  rw [leBytes_length]
  exact ⟨by omega, by omega⟩

theorem State.lampWrite_lamp (s : State) (l : LampNo) (row : Word) :
    (s.lampWrite l row).lamp l = (s.lamp l).withRow row ∧ ∀ k, k ≠ l → (s.lampWrite l row).lamp k = s.lamp k := by
  have stored (k : LampNo) : (s.putBytes (lampRowAt l.val) (leBytes 4 row.toNat)).lamp k = s.lamp k :=
    (State.putBytes_steps (ps := [.mem, .code, .pool, .boxes, .rows]) _ _ (Steps.refl _ s) rfl).lamp k
  obtain ⟨own, others⟩ := (s.putBytes (lampRowAt l.val) (leBytes 4 row.toNat)).takeLampRow_lamp l row
  exact ⟨own.trans (congrArg (Lamp.withRow · row) (stored l)), fun k ne => (others k ne).trans (stored k)⟩

theorem State.read_lampWrite_of_outside (s : State) (l : LampNo) (row : Word) {a : Nat} (ha : 0xC0000 ≤ a)
    (h : a < lampRowAt l.val ∨ lampRowAt l.val + 4 ≤ a) : Memory.read (s.lampWrite l row).mem a = Memory.read s.mem a := by
  have range := lampRowAt_range l
  rw [State.lampWrite, ((RoadKept.refl false _).takeLampRow l row).read_outside (State.takeLampRow_keeps _ l row) ha]
  exact State.read_putBytes_of_outside (by rw [leBytes_length]; omega) (by rwa [leBytes_length])

theorem State.read_lampWrite (hs : MemCanonical s) (l : LampNo) (row : Word) {j : Nat} (hj : j < 4) :
    Memory.read (s.lampWrite l row).mem (lampRowAt l.val + j) = (leBytes 4 row.toNat).getD j 0 := by
  have range := lampRowAt_range l
  rw [State.lampWrite, ((RoadKept.refl false _).takeLampRow l row).read_outside (State.takeLampRow_keeps _ l row) (by omega)]
  exact State.read_putBytes_getD hs (by rw [leBytes_length]; omega) (by rwa [leBytes_length])

end row

/-! ### LAMP-SET (16 R489) -/

section lampSet
variable {s : State} {m : Msg} {bs : List Byte} {l : LampNo}

/-- The row that a payload carries for a lamp. -/
def lampRowFor (bs : List Byte) (l : LampNo) : Word :=
  BitVec.ofNat 32 (fieldAt bs (4 + 4 * (l.val - fieldAt bs 0 2)) 4 / 64 * 64)

/-- The lamps that a payload writes. -/
def lampsOf (bs : List Byte) : List LampNo := (List.range (fieldAt bs 2 2)).map fun i => Fin.ofNat 1024 (fieldAt bs 0 2 + i)

/-- The rows of LAMP-SET come into force. -/
def State.lampSet (s : State) (bs : List Byte) : State := (lampsOf bs).foldl (fun s l => s.lampWrite l (lampRowFor bs l)) s

/-- The four bytes of a lamp's row. -/
def State.lampBytes (s : State) (l : LampNo) (j : Fin 4) : Byte := Memory.read s.mem (lampRowAt l.val + j.val)

theorem State.lampBytes_ne (s : State) {k l : LampNo} (row : Word) (ne : k ≠ l) :
    (s.lampWrite l row).lampBytes k = s.lampBytes k := by
  have apart : l.val ≠ k.val := fun e => ne (Fin.ext e.symm)
  have range := lampRowAt_range k
  refine funext fun j => s.read_lampWrite_of_outside l row (by omega) ?_
  have := j.isLt
  unfold lampRowAt
  omega

section span
variable (hn : fieldAt bs 0 2 + fieldAt bs 2 2 ≤ 1024)
include hn

theorem mem_lampsOf : l ∈ lampsOf bs ↔ fieldAt bs 0 2 ≤ l.val ∧ l.val < fieldAt bs 0 2 + fieldAt bs 2 2 := by
  simp only [lampsOf, List.mem_map, List.mem_range, Fin.ext_iff, Fin.val_ofNat]
  constructor
  · rintro ⟨i, hi, e⟩
    omega
  · rintro ⟨low, high⟩
    exact ⟨l.val - fieldAt bs 0 2, by omega, by omega⟩

theorem lampsOf_nodup : (lampsOf bs).Nodup := by
  refine List.Nodup.map_on ?_ List.nodup_range
  intro i hi j hj e
  have vals : (fieldAt bs 0 2 + i) % 1024 = (fieldAt bs 0 2 + j) % 1024 := congrArg Fin.val e
  have := List.mem_range.1 hi
  have := List.mem_range.1 hj
  omega

theorem lampRows_of_payload : (payloadLamps bs).zipIdx.map
    (fun x => ((Fin.ofNat 1024 (fieldAt bs 0 2 + x.2) : LampNo), x.1)) = (lampsOf bs).map fun l => (l, lampRowFor bs l) := by
  refine List.ext_getElem (by simp [payloadLamps, lampsOf]) fun i hi hj => ?_
  have inside : i < fieldAt bs 2 2 := by simpa [payloadLamps] using hi
  simp [payloadLamps, lampsOf, lampRowFor, Nat.mod_eq_of_lt (show fieldAt bs 0 2 + i < 1024 by omega)]

theorem State.lampSet_eq (s : State) : (payloadLamps bs).zipIdx.foldl (fun s x =>
    (s.putBytes (lampRowAt (Fin.ofNat 1024 (fieldAt bs 0 2 + x.2) : LampNo).val) (leBytes 4 x.1.toNat)).takeLampRow
      (Fin.ofNat 1024 (fieldAt bs 0 2 + x.2)) x.1) s = s.lampSet bs := by
  have walk := congrArg (List.foldl (fun (s : State) (x : LampNo × Word) => s.lampWrite x.1 x.2) s) (lampRows_of_payload hn)
  rwa [List.foldl_map, List.foldl_map] at walk

/-- Each lamp named has its row in force, and no other is touched. -/
theorem State.lampSet_lamp (s : State) :
    (l ∈ lampsOf bs → (s.lampSet bs).lamp l = (s.lamp l).withRow (lampRowFor bs l)) ∧
    (l ∉ lampsOf bs → (s.lampSet bs).lamp l = s.lamp l) := by
  refine ⟨fun inside => ?_, fun outside => ?_⟩
  · obtain ⟨t, -, met, left⟩ := foldl_key_of_mem (f := fun s l => State.lampWrite s l (lampRowFor bs l)) (I := fun _ => True)
      (key := State.lamp) (s := s) (fun _ _ _ => trivial) (fun t k j _ ne => (t.lampWrite_lamp k _).2 j ne) trivial
      (lampsOf_nodup hn) inside
    rw [State.lampSet, left, (t.lampWrite_lamp l _).1, met]
  · exact foldl_key_of_notMem (f := fun s l => State.lampWrite s l (lampRowFor bs l)) (I := fun _ => True)
      (key := State.lamp) (s := s) (fun _ _ _ => trivial) (fun t k j _ ne => (t.lampWrite_lamp k _).2 j ne) trivial outside

/-- Outside the rows written, and the cell pool, the memory stays. -/
theorem State.read_lampSet_of_outside (s : State) {a : Nat} (ha : 0xC0000 ≤ a)
    (h : a < lampRowAt (fieldAt bs 0 2) ∨ lampRowAt (fieldAt bs 0 2 + fieldAt bs 2 2) ≤ a) :
    Memory.read (s.lampSet bs).mem a = Memory.read s.mem a :=
  List.foldlRecOn (motive := fun t : State => Memory.read t.mem a = Memory.read s.mem a) _ _ rfl fun t same l hl => by
    obtain ⟨low, high⟩ := (mem_lampsOf hn).1 hl
    refine (t.read_lampWrite_of_outside l _ ha ?_).trans same
    unfold lampRowAt at h ⊢
    omega

theorem State.read_lampSet (hs : MemCanonical s) (hl : l ∈ lampsOf bs) {j : Nat} (hj : j < 4) :
    Memory.read (s.lampSet bs).mem (lampRowAt l.val + j) = (leBytes 4 (lampRowFor bs l).toNat).getD j 0 := by
  obtain ⟨t, canonical, -, left⟩ := foldl_key_of_mem (f := fun s l => State.lampWrite s l (lampRowFor bs l))
    (I := MemCanonical) (key := State.lampBytes) (fun t l ht => (t.lampWrite_steps l _).2 ht)
    (fun t k j _ ne => t.lampBytes_ne _ ne) hs (lampsOf_nodup hn) hl
  exact (congrFun left ⟨j, hj⟩).trans (State.read_lampWrite canonical l _ hj)

end span

theorem State.lampSet_steps (s : State) (bs : List Byte) : Steps [.mem, .pool, .rows, .draws, .irq, .bells, .ports, .tx,
    .sluice, .lamps, .pair, .journal, .tag, .inject] s (s.lampSet bs) :=
  Steps.foldl (Steps.refl _ s) fun u l h => h.step (u.lampWrite_steps l _) rfl

theorem lampSetFault_none (h : s.lampSetFault bs = none) :
    fieldAt bs 0 2 + fieldAt bs 2 2 ≤ 1024 ∧ bs.length = 4 + 4 * fieldAt bs 2 2 := by
  unfold State.lampSetFault at h
  split at h
  · cases h
  · split at h
    · cases h
    · next span =>
      split at h
      · cases h
      · next whole => exact ⟨(spanFault_none span).2, by omega⟩

theorem exec_lampSet (ho : s.offers m 0x0506 inAll s.lampSetFault) (hl : s.lockedAt (lampRowAt (fieldAt m.payload 0 2)) = false) :
    exec (.lampSet m) s = .next ((s.served.lampSet m.payload).changed m 0x0506 []) := by
  obtain ⟨span, _⟩ := lampSetFault_none (State.check_of_offers ho)
  refine (congrArg Host.Outcome.next (State.serve_of_offers ho)).trans (congrArg Host.Outcome.next ?_)
  refine (if_neg (Bool.eq_false_iff.1 hl)).trans ?_
  rw [← State.lampSet_eq span]

theorem exec_lampSet_locked (ho : s.offers m 0x0506 inAll s.lampSetFault)
    (hl : s.lockedAt (lampRowAt (fieldAt m.payload 0 2)) = true) :
    exec (.lampSet m) s = .next (s.served.refused m 0x0506 0x0013) :=
  (congrArg Host.Outcome.next (State.serve_of_offers ho)).trans (congrArg Host.Outcome.next (if_pos hl))

end lampSet

end Sys2Proof.Machine
end

section
/-!
PROOFS. LAMP-SET stores what its payload says, and the lamps as a whole (16 R489-R499).
-/
set_option Elab.async false
namespace Sys2Proof.Machine

/-! ### The row a payload gives a lamp -/

section rows
variable {v w : Word} {bs : List Byte} {l : LampNo}

/-- HEAD is part of what makes two rows the same lamp. -/
theorem lampHead_of_sameLamp (h : sameLamp v w = true) : lampHead v = lampHead w := by
  have same : v.toNat / 2 ^ 22 % 2 ^ 10 = w.toNat / 2 ^ 22 % 2 ^ 10 := of_decide_eq_true h
  unfold lampHead bitsOf
  omega

theorem lampUsed_of_sameLamp (h : sameLamp v w = true) : lampUsed v = lampUsed w := by
  unfold lampUsed
  rw [lampHead_of_sameLamp h]

theorem lampField_toNat (row : Word) : (lampField row).toNat = row.toNat / 64 * 64 := by
  have := row.isLt
  rw [lampField, BitVec.toNat_ofNat]
  omega

theorem lampRowFor_toNat (bs : List Byte) (l : LampNo) :
    (lampRowFor bs l).toNat = fieldAt bs (4 + 4 * (l.val - fieldAt bs 0 2)) 4 / 64 * 64 := by
  have := fieldAt_lt bs (4 + 4 * (l.val - fieldAt bs 0 2)) 4
  rw [lampRowFor, BitVec.toNat_ofNat]
  omega

theorem lampField_lampRowFor (bs : List Byte) (l : LampNo) :
    (lampField (lampRowFor bs l)).toNat = fieldAt bs (4 + 4 * (l.val - fieldAt bs 0 2)) 4 / 64 * 64 := by
  rw [lampField_toNat, lampRowFor_toNat]
  omega

theorem Lamp.withRow_row (p : Lamp) (row : Word) : (p.withRow row).row = lampField row := by
  unfold Lamp.withRow
  split
  · rfl
  · exact lampOfRow_row row

/-- A used row that names the lamp again keeps it. -/
theorem Lamp.withRow_same {p : Lamp} {row : Word} (hu : lampUsed (lampField row) = true)
    (hs : sameLamp p.row (lampField row) = true) : p.withRow row = { p with row := lampField row } :=
  if_pos (by rw [Lamp.keeps, hs, lampUsed_of_sameLamp hs, hu]; rfl)

/-- A used row that names another lamp starts it. -/
theorem Lamp.withRow_other {p : Lamp} {row : Word} (hu : lampUsed (lampField row) = true)
    (hs : sameLamp p.row (lampField row) = false) : p.withRow row = { Lamp.reset.start with row := lampField row } :=
  (if_neg (by rw [Lamp.keeps, hs]; exact Bool.false_ne_true)).trans (if_pos hu)

theorem fromLe_digit (l : List Byte) (k : Nat) : fromLe l / 256 ^ k % 256 = (l.getD k 0).toNat := by
  induction l generalizing k with
  | nil => simp [fromLe]
  | cons b l ih =>
    cases k with
    | zero =>
      have := b.isLt
      rw [fromLe, pow_zero, Nat.div_one, List.getD_cons_zero]
      omega
    | succ k =>
      have shifted : (b.toNat + 256 * fromLe l) / 256 = fromLe l := by
        have := b.isLt
        omega
      rw [fromLe, Nat.pow_succ', ← Nat.div_div_eq_div_mul, shifted, ih, List.getD_cons_succ]

/-- The three upper bytes of a row are the payload's. -/
theorem leBytes_lampRowFor (bs : List Byte) (l : LampNo) {k : Nat} (h1 : 1 ≤ k) (h4 : k < 4) :
    (leBytes 4 (lampRowFor bs l).toNat).getD k 0 = bs.getD (4 + 4 * (l.val - fieldAt bs 0 2) + k) 0 := by
  have length : (leBytes 4 (lampRowFor bs l).toNat).length = 4 := leBytes_length _ _
  rw [List.getD_eq_getElem _ _ (by omega), leBytes_getElem, nthByte, lampRowFor_toNat]
  generalize 4 + 4 * (l.val - fieldAt bs 0 2) = o
  have digit : fieldAt bs o 4 / 256 ^ k % 256 = ((bytesAt bs o 4).getD k 0).toNat := fromLe_digit _ _
  have same : fieldAt bs o 4 / 64 * 64 / 256 ^ k = fieldAt bs o 4 / 256 ^ k := by
    obtain ⟨j, rfl⟩ : ∃ j, k = j + 1 := ⟨k - 1, by omega⟩
    rw [Nat.pow_succ', ← Nat.div_div_eq_div_mul, ← Nat.div_div_eq_div_mul]
    congr 1
    omega
  refine BitVec.eq_of_toNat_eq ?_
  rw [same, BitVec.toNat_ofNat]
  refine digit.trans (congrArg BitVec.toNat ?_)
  simp [bytesAt, List.getD_eq_getElem?_getD, h4]

end rows

/-! ### The obligation -/

section lampSet
variable {s : State} {m : Msg} {l : LampNo}

theorem lampSet_stores (ho : s.offers m 0x0506 inAll s.lampSetFault)
    (hl : s.lockedAt (lampRowAt (fieldAt m.payload 0 2)) = false) : ∃ t, exec (.lampSet m) s = .next t ∧
    Replied s t m 0x0506 0 [] ∧ Counted s t ∧
    (∀ l, l ∈ lampsOf m.payload → t.lamp l = (s.lamp l).withRow (lampRowFor m.payload l)) ∧
    (∀ l, l ∉ lampsOf m.payload → t.lamp l = s.lamp l) ∧
    (MemCanonical s → ∀ l k, l ∈ lampsOf m.payload → k < 4 →
      Memory.read t.mem (lampRowAt l.val + k) = (leBytes 4 (lampRowFor m.payload l).toNat).getD k 0) ∧
    (∀ a, 0xC0000 ≤ a → a < lampRowAt (fieldAt m.payload 0 2) ∨
      lampRowAt (fieldAt m.payload 0 2 + fieldAt m.payload 2 2) ≤ a → Memory.read t.mem a = Memory.read s.mem a) ∧
    Only (parts (.lampSet m)) s t := by
  obtain ⟨span, _⟩ := lampSetFault_none (State.check_of_offers ho)
  have x := exec_lampSet ho hl
  have stored : Steps [.mem, .pool, .rows, .draws, .irq, .bells, .ports, .tx, .sluice, .lamps, .pair, .journal, .tag,
      .inject, .work] s (s.served.lampSet m.payload) :=
    (s.served_steps.widen rfl).step (s.served.lampSet_steps m.payload) rfl
  have answered := State.changed_keeps (s.served.lampSet m.payload) m 0x0506 []
  have memory (a : Nat) : Memory.read ((s.served.lampSet m.payload).changed m 0x0506 []).mem a =
      Memory.read (s.served.lampSet m.payload).mem a := congrArg (Memory.read · a) (answered.same .mem)
  exact ⟨_, x, State.changed_replied stored, State.changed_counted (State.serves_of_offers ho) stored,
    fun l inside => (answered.lamp l).trans ((State.lampSet_lamp span s.served).1 inside),
    fun l outside => (answered.lamp l).trans ((State.lampSet_lamp span s.served).2 outside),
    fun hs l k inside hk => (memory _).trans (State.read_lampSet (s := s.served) span hs inside hk),
    fun a ha outside => (memory a).trans (State.read_lampSet_of_outside span s.served ha outside), only_parts_of_exec x⟩

end lampSet

/-- Settles O51: LAMP-SET row by row, the commands and the doorbell lamp by lamp, and a lapse by whether its alarm finds
a cell. -/
theorem lampsAreSetAcknowledgedTestedAndLapse : Obligations.LampsAreSetAcknowledgedTestedAndLapse := by
  refine ⟨fun s m ho hl => ?_, fun s m => exec_lampSet_locked, fun s m ho hr => ?_, fun s m => alarmAck_standby,
    fun s m l => lampTest_arms, fun s c => doorbellLampTest_starts, fun s l hw hl hr => ?_, fun s l => exec_lampLapse_none,
    fun s l => lampTestEnd_ends, fun s l b h => lampTestEnd_commands, fun s l => exec_alarmRepeat,
    fun s l => exec_alarmRepeat_none⟩
  · obtain ⟨span, _⟩ := lampSetFault_none (State.check_of_offers ho)
    obtain ⟨t, x, replied, counted, inside, outside, bytes, rest, only⟩ := lampSet_stores ho hl
    refine ⟨t, x, replied, counted, fun l i hi e => ?_, fun l h => outside l ?_, fun hs i k hi h1 h4 => ?_, rest, only⟩
    · have row := inside l ((mem_lampsOf span).2 (by omega))
      have field : (t.lamp l).row = lampField (lampRowFor m.payload l) := by rw [row, Lamp.withRow_row]
      rw [field]
      refine ⟨?_, fun hu hs => row.trans (Lamp.withRow_same hu hs), fun hu hs => ?_⟩
      · rw [lampField_lampRowFor, show l.val - fieldAt m.payload 0 2 = i by omega]
      · rw [row, Lamp.withRow_other hu hs]
        exact ⟨rfl, rfl, rfl⟩
    · rw [mem_lampsOf span]
      omega
    · have named := bytes hs ⟨fieldAt m.payload 0 2 + i, by omega⟩ k ((mem_lampsOf span).2 ⟨by dsimp only; omega, by dsimp only; omega⟩) h4
      rw [leBytes_lampRowFor _ _ h1 h4, Nat.add_sub_cancel_left] at named
      exact named
  · obtain ⟨t, x, replied, lamps, only⟩ := alarmAck_acks ho hr
    refine ⟨t, x, replied, fun l named active unacked => (lamps l).trans (if_pos ?_),
      fun l h => (lamps l).trans (if_neg ?_), only⟩
    · simpa [State.acks, ackNamed, active, unacked] using named
    · rcases h with ⟨all, other⟩ | idle | acked
      · simp [State.acks, ackNamed, all, other]
      · simp [State.acks, idle]
      · simp [State.acks, acked]
  · have x := exec_lampLapse hw hl hr
    refine ⟨_, x, fun calm => ?_, fun before waits => State.lapse_waits hl before waits,
      fun k ne => State.changeLamp_lamp_ne _ _ _ _ ne, only_parts_of_exec x⟩
    obtain ⟨lamp, bell, made⟩ := State.lapse_calm (State.up_of_works hw) hl calm
    rw [lamp]
    exact ⟨rfl, rfl, rfl, rfl, rfl, bell, made⟩

end Sys2Proof.Machine
end

section
/-!
PROOFS. Records are accepted, pages close (18 R552-R557), and a page's program ends (18 R554, R563, R564).
-/
set_option Elab.async false
namespace Sys2Proof.Machine

/-! ### Journals that differ in their records alone -/

section recorded
variable {j k l : Journal} {r : Rec} {s : State}

/-- The journal with the records, and their numbers, of another. -/
def Journal.noted (j k : Journal) : Journal :=
  { j with staging := k.staging, closed := k.closed, accepted := k.accepted, durable := k.durable, nextSeq := k.nextSeq
           waiting := k.waiting }

/-- `k` is `j` but for its records and their numbers. -/
def Journal.Recorded (j k : Journal) : Prop := k = j.noted k

theorem Journal.Recorded.eq (h : j.Recorded k) : k = j.noted k := h

theorem Journal.Recorded.refl (j : Journal) : j.Recorded j := rfl

theorem Journal.Recorded.trans (h : j.Recorded k) (g : k.Recorded l) : j.Recorded l :=
  Eq.trans g ((congrArg (Journal.noted · l) h.eq :))

theorem Journal.Recorded.nand (h : j.Recorded k) : k.nand = j.nand := (congrArg Journal.nand h.eq :)
theorem Journal.Recorded.dropped (h : j.Recorded k) : k.dropped = j.dropped := (congrArg Journal.dropped h.eq :)
theorem Journal.Recorded.lossRecords (h : j.Recorded k) : k.lossRecords = j.lossRecords := (congrArg Journal.lossRecords h.eq :)

theorem Journal.close_recorded (j : Journal) (early : Bool) : j.Recorded (j.close early) := by
  unfold Journal.close
  split <;> rfl

theorem Journal.close_staging (j : Journal) (early : Bool) : (j.close early).staging = none := by
  unfold Journal.close
  split
  · assumption
  · rfl

theorem Journal.close_nextSeq (j : Journal) (early : Bool) : (j.close early).nextSeq = j.nextSeq := by
  unfold Journal.close
  split <;> rfl

/-- Closing the open page keeps every record (18 R553). -/
theorem Journal.close_records (j : Journal) (early : Bool) : (j.close early).records = j.records := by
  unfold Journal.close
  split
  · rfl
  · next open_ => simp [Journal.records, open_]

/-- The page a record goes into: the open one, or a fresh one after the open one is closed (18 R552, R553). -/
theorem Journal.openFor_some {room n i : Nat} {boot : Half} {p : Page} (h : j.openFor room n boot = some (k, i, p)) :
    (k = j ∧ j.staging = some (i, p)) ∨ (k = j.close false ∧ p.records = []) := by
  have fresh {u : Journal} (g : (match u.freePages.head? with
      | some i => some (u, i, ({ boot := boot, records := [], serial := 0, relocated := false, early := false } : Page))
      | none => none) = some (k, i, p)) : k = u ∧ p.records = [] := by
    split at g
    · cases g
      exact ⟨rfl, rfl⟩
    · cases g
  unfold Journal.openFor at h
  dsimp only at h
  split at h
  · next open_ =>
    split at h
    · cases h
      exact .inl ⟨rfl, open_⟩
    · exact .inr (fresh h)
  · next shut =>
    have same : j.close false = j := by
      unfold Journal.close
      rw [shut]
    rw [same]
    exact .inr (fresh h)

/-- The record as it is accepted (18 R552). -/
def Journal.numbered (j : Journal) (r : Rec) : Rec := { r with boot := if r.boot = 0 then j.boot else r.boot, seq := j.nextSeq }

/-- What the acceptance of a record leaves (18 R552). -/
theorem Journal.accept_some (h : j.accept r = some k) : ∃ (u : Journal) (i : Nat) (p : Page),
    ((u = j ∧ j.staging = some (i, p)) ∨ (u = j.close false ∧ p.records = [])) ∧
    k = { u with staging := some (i, { p with records := p.records ++ [j.numbered r] })
                 accepted := j.nextSeq, nextSeq := nextRecSeq j.nextSeq } := by
  unfold Journal.accept at h
  split at h
  · cases h
  · dsimp only at h
    split at h
    · cases h
    · next u i p page =>
      cases h
      exact ⟨u, i, p, Journal.openFor_some page, rfl⟩

theorem Journal.accept_recorded (h : j.accept r = some k) : j.Recorded k := by
  obtain ⟨u, i, p, page, rfl⟩ := Journal.accept_some h
  have before : j.Recorded u := by
    rcases page with ⟨rfl, _⟩ | ⟨rfl, _⟩
    · exact .refl _
    · exact j.close_recorded false
  exact before.trans rfl

theorem Journal.accept_records (h : j.accept r = some k) : k.records = j.records ++ [j.numbered r] := by
  obtain ⟨u, i, p, page, rfl⟩ := Journal.accept_some h
  rcases page with ⟨rfl, open_⟩ | ⟨rfl, empty⟩
  · simp [Journal.records, open_]
  · rw [← j.close_records false]
    simp [Journal.records, j.close_staging false, empty]

theorem Journal.accept_numbers (h : j.accept r = some k) : k.accepted = j.nextSeq ∧ k.nextSeq = nextRecSeq j.nextSeq := by
  obtain ⟨u, i, p, _, rfl⟩ := Journal.accept_some h
  exact ⟨rfl, rfl⟩

theorem State.writeRecord_recorded (s : State) (r : Rec) : s.journal.Recorded (s.writeRecord r).journal := by
  unfold State.writeRecord
  split
  · next accepted => exact Journal.accept_recorded accepted
  · rfl

theorem State.siltRecord_recorded (s : State) (kind : Byte) (body : List Byte) :
    s.journal.Recorded (s.siltRecord kind body).journal := s.writeRecord_recorded _

theorem State.ring_journal (s : State) (bit : Nat) : (s.ring bit).journal = s.journal :=
  (State.ring_steps (ps := [.irq, .bells]) bit (Steps.refl _ s) rfl).same .journal

theorem State.settle_recorded (s : State) : s.journal.Recorded s.settle.journal := by
  unfold State.settle
  dsimp only
  split
  · exact .refl _
  · rw [State.ring_journal]
    rfl

/-- A LOSS record counts one, beside what its record changes. -/
theorem State.lossRecord_journal (s : State) (first last : Word) (dropped cause : Nat) : ∃ k, s.journal.Recorded k ∧
    (s.lossRecord first last dropped cause).journal = { k with lossRecords := satAdd top32 k.lossRecords 1 } :=
  ⟨_, s.siltRecord_recorded kLoss (lossBody first last dropped cause), State.ring_journal _ _⟩

theorem State.lossRecord_nand (s : State) (first last : Word) (dropped cause : Nat) :
    (s.lossRecord first last dropped cause).journal.nand = s.journal.nand := by
  obtain ⟨k, recorded, journal⟩ := s.lossRecord_journal first last dropped cause
  rw [journal]
  exact recorded.nand

theorem State.lossRecord_counts (s : State) (first last : Word) (dropped cause : Nat) :
    (s.lossRecord first last dropped cause).journal.lossRecords = min 0xFFFFFFFF (s.journal.lossRecords + 1) := by
  obtain ⟨k, recorded, journal⟩ := s.lossRecord_journal first last dropped cause
  rw [journal, ← recorded.lossRecords]
  rfl

theorem State.lossRecord_bell (hu : s.engine.up = true) (first last : Word) (dropped cause : Nat) :
    (s.lossRecord first last dropped cause).chanN.bellIn.getLsbD 5 = true := by
  have written : Steps [.journal] s (s.siltRecord kLoss (lossBody first last dropped cause)) :=
    State.siltRecord_steps _ _ (Steps.refl _ s) rfl
  have counted : Steps [.journal] s ((s.siltRecord kLoss (lossBody first last dropped cause)).setJournal fun j =>
      { j with lossRecords := satAdd top32 j.lossRecords 1 }) := State.setJournal_steps _ written rfl
  exact State.ring_bell (bit := bellJournal) ((counted.up rfl).trans hu) (by decide)

end recorded

/-! ### The records that wait (18 R557; 03 R70) -/

section accepted
variable {s : State} {x : Rec} {r : List Rec} {j : Journal}

theorem State.up_of_siltWorks (h : s.siltWorks = true) : s.engine.up = true := by
  simp only [State.siltWorks, Bool.and_eq_true] at h
  exact h.2

theorem State.state_of_siltWorks (h : s.siltWorks = true) : s.journal.state = 0 := by
  simp only [State.siltWorks, State.siltRuns, Bool.and_eq_true, decide_eq_true_eq] at h
  exact h.1.2

theorem exec_recordAccepted_owed (hs : s.siltWorks = true) (ho : s.journal.owed = x :: r)
    (ha : s.journal.accept x = some j) : exec .recordAccepted s = .next (s.setJournal fun _ => { j with owed := r }) := by
  show execRecordAccepted s = _
  unfold execRecordAccepted
  rw [if_neg (by rw [hs]; decide), ho]
  dsimp only
  rw [ha]

theorem exec_recordAccepted_waiting (hs : s.siltWorks = true) (ho : s.journal.owed = []) (hw : s.journal.waiting = x :: r)
    (ha : s.journal.accept x = some j) : exec .recordAccepted s = .next (s.setJournal fun _ => { j with waiting := r }) := by
  show execRecordAccepted s = _
  unfold execRecordAccepted
  rw [if_neg (by rw [hs]; decide), ho, hw]
  dsimp only
  rw [ha]

theorem exec_recordAccepted_full (hs : s.siltWorks = true)
    (hx : s.journal.owed = x :: r ∨ (s.journal.owed = [] ∧ s.journal.waiting = x :: r)) (ha : s.journal.accept x = none) :
    exec .recordAccepted s = .next s.pageFull := by
  show execRecordAccepted s = _
  unfold execRecordAccepted
  rw [if_neg (by rw [hs]; decide)]
  rcases hx with owed | ⟨owed, waiting⟩
  · rw [owed]
    dsimp only
    rw [ha]
  · rw [owed, waiting]
    dsimp only
    rw [ha]

theorem exec_recordAccepted_dropped (hs : s.siltWorks = true) (ho : s.journal.owed = []) (hw : s.journal.waiting = [])
    (hd : 0 < s.journal.dropped) : exec .recordAccepted s =
      .next ((s.setJournal fun j => { j with dropped := 0 }).lossRecord 0 0 s.journal.dropped 3) := by
  show execRecordAccepted s = _
  unfold execRecordAccepted
  rw [if_neg (by rw [hs]; decide), ho, hw]
  exact if_neg (Nat.pos_iff_ne_zero.1 hd)

theorem recordAccepted_loses (hs : s.siltWorks = true) (ho : s.journal.owed = []) (hw : s.journal.waiting = [])
    (hd : 0 < s.journal.dropped) : ∃ t, exec .recordAccepted s = .next t ∧ t.journal.dropped = 0 ∧
      t.journal.lossRecords = min 0xFFFFFFFF (s.journal.lossRecords + 1) ∧ t.chanN.bellIn.getLsbD 5 = true ∧
      Only (parts .recordAccepted) s t := by
  have x := exec_recordAccepted_dropped hs ho hw hd
  obtain ⟨k, recorded, journal⟩ := (s.setJournal fun j => { j with dropped := 0 }).lossRecord_journal 0 0 s.journal.dropped 3
  have counts := (s.setJournal fun j => { j with dropped := 0 }).lossRecord_counts 0 0 s.journal.dropped 3
  have bell := State.lossRecord_bell (s := s.setJournal fun j => { j with dropped := 0 }) (State.up_of_siltWorks hs) 0 0
    s.journal.dropped 3
  have dropped := congrArg Journal.dropped journal
  exact ⟨_, x, dropped.trans recorded.dropped, counts, bell, only_parts_of_exec x⟩

theorem pageClose_closes (hs : s.siltWorks = true) : ∃ t, exec .pageClose s = .next t ∧ t.journal.staging = none ∧
    t.journal.records = s.journal.records ∧ Only [.journal] s t := by
  refine ⟨_, if_neg (by rw [hs]; decide), ?_, ?_, ?_⟩
  · exact Journal.close_staging _ _
  · exact Journal.close_records _ _
  · exact (State.setJournal_steps _ (Steps.refl [.journal] s) rfl).1

end accepted

end Sys2Proof.Machine
end

section
/-!
PROOFS. Programs, erases and their failures, and the RESET owed to a target (18 R542, R554, R563-R565).
-/
set_option Elab.async false
namespace Sys2Proof.Machine

/-! ### The medium and its table -/

section medium
variable {s : State} {n m : Nand} {b : Nat}

theorem Nand.tabled_self (hb : m.bad = n.bad) (hs : m.spares = n.spares) : m.tabled n = m := if_pos ⟨hb, hs⟩

/-- A new bad block makes a new generation of the table. -/
theorem Nand.tabled_of_bad (h : m.bad = n.bad ++ [b]) : m.tabled n = { m with generation := n.generation + 1 } :=
  if_neg fun same => by simpa using h.symm.trans same.1

/-- A new spare makes a new generation of the table. -/
theorem Nand.tabled_of_spare (h : m.spares = n.spares ++ [b]) : m.tabled n = { m with generation := n.generation + 1 } :=
  if_neg fun same => by simpa using h.symm.trans same.2

theorem State.putNand_journal (hn : s.journal.nand = some n) (m : Nand) :
    (s.putNand m).journal = { s.journal with nand := some (m.tabled n) } := by
  unfold State.putNand
  rw [State.setJournal_journal, hn]

/-- Without a spare the block is erased where it stands (18 R569). -/
theorem Nand.recycle_bare (hs : n.spares = []) : n.recycle b = { n with
    pages := n.pages.filter (fun p => decide (p.block ≠ b)), block := b, nextPage := 0, erasing := n.erasing ++ [b] } := by
  unfold Nand.recycle Nand.freshSpare
  rw [hs]
  rfl

/-- The failed write block leaves the ring, a spare in its place (18 R563). -/
theorem Nand.leaveBlock_spare {c : Nat} {r : List Nat} (hs : n.spares = c :: r) : n.leaveBlock =
    some { (n.replace n.block c).copyPages n.block c with block := c, spares := r, bad := n.bad ++ [n.block] } := by
  unfold Nand.leaveBlock
  rw [hs]
  rfl

/-- Without a spare the next ring block is erased for it (18 R563). -/
theorem Nand.leaveBlock_bare (hs : n.spares = []) : n.leaveBlock =
    if n.next n.block = n.block then none else
      some { ((n.markBad n.block).recycle (n.next n.block)).copyPages n.block
        ((n.markBad n.block).recycle (n.next n.block)).block with nextPage := n.nextPage } := by
  unfold Nand.leaveBlock
  rw [hs]

theorem Nand.markBad_bare (hs : n.spares = []) : (n.markBad b).spares = [] := by
  unfold Nand.markBad
  rw [hs]
  rfl

theorem Nand.leaveBlock_touch (n : Nand) (b : Nat) : (n.touch b).leaveBlock = n.leaveBlock.map (·.touch b) := by
  cases hs : n.spares with
  | cons c r =>
    rw [Nand.leaveBlock_spare hs, Nand.leaveBlock_spare (n := n.touch b) hs]
    rfl
  | nil =>
    rw [Nand.leaveBlock_bare hs, Nand.leaveBlock_bare (n := n.touch b) hs, Nand.recycle_bare (Nand.markBad_bare hs),
      Nand.recycle_bare (Nand.markBad_bare (n := n.touch b) hs), apply_ite (Option.map _)]
    rfl

theorem Nand.leaveBlock_bad (h : n.leaveBlock = some m) : m.bad = n.bad ++ [n.block] := by
  cases hs : n.spares with
  | cons c r =>
    rw [Nand.leaveBlock_spare hs] at h
    cases h
    rfl
  | nil =>
    rw [Nand.leaveBlock_bare hs, Nand.recycle_bare (Nand.markBad_bare hs)] at h
    split at h
    · cases h
    · cases h
      rfl

theorem Nand.recycle_bad (n : Nand) (b : Nat) : (n.recycle b).bad = n.bad := by
  unfold Nand.recycle
  dsimp only
  split
  · split <;> rfl
  · rfl

end medium

/-! ### What follows an operation -/

section after
variable {s : State}

theorem State.settle_journal (s : State) : s.settle.journal = { s.journal with durable := s.journal.reach } := by
  unfold State.settle
  dsimp only
  split
  · next still => rw [still]
  · exact State.ring_journal _ _

/-- An advance of the durable sequence rings doorbell 5 (18 R554). -/
theorem State.settle_bell (hu : s.engine.up = true) (h : s.journal.reach ≠ s.journal.durable) :
    s.settle.chanN.bellIn.getLsbD 5 = true := by
  unfold State.settle
  dsimp only
  rw [if_neg h]
  exact State.ring_bell (s := s.setJournal fun j => { j with durable := s.journal.reach }) (bit := bellJournal) hu (by decide)

theorem State.checkStock_journal (s : State) : s.checkStock.journal = s.journal ∨
    s.checkStock.journal = { s.journal with state := 1, waiting := [], dropped := 0, owed := [] } := by
  unfold State.checkStock
  split
  · split
    · exact .inr (State.ring_journal _ _)
    · exact .inl rfl
  · exact .inl rfl

/-- What the stock and the durable sequence leave. -/
theorem State.checkStock_keeps (s : State) : s.checkStock.journal.nand = s.journal.nand ∧
    s.checkStock.journal.closed = s.journal.closed ∧ s.checkStock.journal.lossRecords = s.journal.lossRecords ∧
    s.checkStock.journal.retired = s.journal.retired := by
  rcases s.checkStock_journal with same | halted
  · rw [same]
    exact ⟨rfl, rfl, rfl, rfl⟩
  · rw [halted]
    exact ⟨rfl, rfl, rfl, rfl⟩

end after

/-! ### A page's program and its read-back end -/

section program
variable {s : State} {n m : Nand} {c : Closing} {r : List Closing} {ok : Bool} {e : List Nat}

/-- The medium with the page that was programmed. -/
def Nand.withPage (n : Nand) (c : Closing) : Nand :=
  { n with serial := n.serial + 1, nextPage := n.nextPage + 1, pages := n.pages ++ [{
      block := n.block, index := n.nextPage, page := { c.page with serial := n.serial + 1, relocated := false } }] }

/-- The oldest closed page has joined the medium. -/
def State.programmed (s : State) (n : Nand) (c : Closing) (r : List Closing) : State :=
  (s.putNand (n.withPage c)).setJournal fun j => { j with closed := r, programmed := satAdd top32 j.programmed 1 }

theorem State.pageDurable_plain (hm : c.movedFrom = none) (hr : n.nextPage + 1 < n.geom.pagesPerBlock) :
    s.pageDurable n c r = (s.programmed n c r).settle := by
  unfold State.pageDurable
  dsimp only
  rw [if_neg (by omega), hm]
  rfl

theorem State.programEnds_eq (hn : s.journal.nand = some n) (hc : s.journal.closed = c :: r)
    (he : n.erasing.contains n.block = false) : s.programEnds ok =
    if ok then s.pageDurable (n.touch n.block) c r else s.pageFailed (n.touch n.block) c r := by
  unfold State.programEnds
  rw [hn, hc]
  exact if_neg (Bool.eq_false_iff.1 he)

theorem exec_pageProgrammed (hs : s.siltWorks = true) :
    exec (.pageProgrammed ok e) s = .next (s.programEnds (ok && correctable e)) := if_pos hs

theorem State.programmed_journal (hn : s.journal.nand = some n) (b : Nat) : (s.programmed (n.touch b) c r).journal =
    { s.journal with nand := some ((n.touch b).withPage c), closed := r
                     programmed := satAdd top32 s.journal.programmed 1 } := by
  unfold State.programmed
  rw [State.setJournal_journal, State.putNand_journal hn, Nand.tabled_self (n := n) (m := (n.touch b).withPage c) rfl rfl]

theorem pageProgrammed_joins (hs : s.siltWorks = true) (hok : correctable e = true) (hn : s.journal.nand = some n)
    (hc : s.journal.closed = c :: r) (he : n.erasing.contains n.block = false) (hm : c.movedFrom = none)
    (hr : n.nextPage + 1 < n.geom.pagesPerBlock) :
    ∃ t, exec (.pageProgrammed true e) s = .next t ∧ t.journal.closed = r ∧ t.journal.records = s.journal.records ∧
      t.journal.programmed = min 0xFFFFFFFF (s.journal.programmed + 1) ∧
      (∃ m, t.journal.nand = some m ∧ m.serial = n.serial + 1 ∧ m.nextPage = n.nextPage + 1 ∧ m.pages = n.pages ++ [{
        block := n.block, index := n.nextPage, page := { c.page with serial := n.serial + 1, relocated := false } }]) ∧
      (r = [] → s.journal.staging = none → t.journal.durable = s.journal.accepted) ∧
      (t.journal.durable ≠ s.journal.durable → t.chanN.bellIn.getLsbD 5 = true) ∧
      Only (parts (.pageProgrammed true e)) s t := by
  have x : exec (.pageProgrammed true e) s = .next (s.programmed (n.touch n.block) c r).settle := by
    rw [exec_pageProgrammed hs, hok, State.programEnds_eq hn hc he]
    exact congrArg Host.Outcome.next (State.pageDurable_plain hm hr)
  have programmed := State.programmed_journal (c := c) (r := r) hn n.block
  have settled := (s.programmed (n.touch n.block) c r).settle_journal
  have joined : Steps [.journal] s (s.programmed (n.touch n.block) c r) :=
    State.setJournal_steps _ (State.putNand_steps _ (Steps.refl _ s) rfl) rfl
  have up := (joined.up rfl).trans (State.up_of_siltWorks hs)
  refine ⟨_, x, ?_, ?_, ?_, ⟨(n.touch n.block).withPage c, ?_, rfl, rfl, rfl⟩, fun last shut => ?_, fun moved => ?_,
    only_parts_of_exec x⟩
  · rw [settled, programmed]
  · rw [settled, programmed]
    simp [Journal.records, hn, hc, Nand.withPage, Nand.touch]
  · rw [settled, programmed]
    rfl
  · rw [settled, programmed]
  · rw [settled, programmed]
    unfold Journal.reach
    rw [last, shut]
  · refine State.settle_bell up fun still => moved ?_
    rw [settled]
    exact still.trans (congrArg Journal.durable programmed :)

/-- The failed page moves on with its block's successor, or is given up (18 R563, R564). -/
def State.movedOn (s : State) (m : Nand) (c : Closing) (r : List Closing) (b : Nat) : State :=
  if 2 ≤ c.fails then (s.putNand m).giveUp c r
  else (s.putNand m).setJournal fun j => { j with closed := { c with fails := c.fails + 1, movedFrom := some b } :: r }

theorem State.pageFailed_left (h : n.leaveBlock = some m) :
    s.pageFailed n c r = (s.movedOn m c r n.block).settle.checkStock := by
  unfold State.pageFailed
  dsimp only
  rw [h]
  rfl

theorem exec_pageProgrammed_failed (hs : s.siltWorks = true) (hf : ok = false ∨ correctable e = false)
    (hn : s.journal.nand = some n) (hc : s.journal.closed = c :: r) (he : n.erasing.contains n.block = false)
    (hl : n.leaveBlock = some m) : exec (.pageProgrammed ok e) s =
    .next (s.movedOn (m.touch n.block) c r n.block).settle.checkStock := by
  have fails : (ok && correctable e) = false := by
    rcases hf with bad | uncorrectable
    · rw [bad, Bool.false_and]
    · rw [uncorrectable, Bool.and_false]
  have left : (n.touch n.block).leaveBlock = some (m.touch n.block) := by
    rw [Nand.leaveBlock_touch, hl]
    rfl
  rw [exec_pageProgrammed hs, fails, State.programEnds_eq hn hc he, if_neg Bool.false_ne_true]
  exact congrArg Host.Outcome.next (State.pageFailed_left left)

theorem Nand.tabled_of_left (hl : n.leaveBlock = some m) (b : Nat) :
    (m.touch b).tabled n = { m.touch b with generation := n.generation + 1 } :=
  Nand.tabled_of_bad (m := m.touch b) (Nand.leaveBlock_bad hl :)

theorem pageProgrammed_moves (hs : s.siltWorks = true) (hf : ok = false ∨ correctable e = false)
    (hn : s.journal.nand = some n) (hc : s.journal.closed = c :: r) (he : n.erasing.contains n.block = false)
    (hl : n.leaveBlock = some m) (hc2 : c.fails < 2) : ∃ t, exec (.pageProgrammed ok e) s = .next t ∧
      t.journal.nand = some { m.touch n.block with generation := n.generation + 1 } ∧
      t.journal.closed = { c with fails := c.fails + 1, movedFrom := some n.block } :: r ∧
      t.journal.lossRecords = s.journal.lossRecords ∧ Only (parts (.pageProgrammed ok e)) s t := by
  have x := exec_pageProgrammed_failed hs hf hn hc he hl
  have moved : (s.movedOn (m.touch n.block) c r n.block).journal = { s.journal with
      nand := some { m.touch n.block with generation := n.generation + 1 }
      closed := { c with fails := c.fails + 1, movedFrom := some n.block } :: r } := by
    rw [State.movedOn, if_neg (by omega), State.setJournal_journal, State.putNand_journal hn, Nand.tabled_of_left hl]
  obtain ⟨nand, closed, losses, -⟩ := (s.movedOn (m.touch n.block) c r n.block).settle.checkStock_keeps
  have settled := (s.movedOn (m.touch n.block) c r n.block).settle_journal
  rw [moved] at settled
  exact ⟨_, x, nand.trans (congrArg Journal.nand settled), closed.trans (congrArg Journal.closed settled),
    losses.trans (congrArg Journal.lossRecords settled :), only_parts_of_exec x⟩

theorem pageProgrammed_loses (hs : s.siltWorks = true) (hf : ok = false ∨ correctable e = false)
    (hn : s.journal.nand = some n) (hc : s.journal.closed = c :: r) (he : n.erasing.contains n.block = false)
    (hl : n.leaveBlock = some m) (hc2 : 2 ≤ c.fails) : ∃ t, exec (.pageProgrammed ok e) s = .next t ∧
      t.journal.nand = some { m.touch n.block with generation := n.generation + 1 } ∧
      t.journal.lossRecords = min 0xFFFFFFFF (s.journal.lossRecords + 1) ∧ t.chanN.bellIn.getLsbD 5 = true ∧
      Only (parts (.pageProgrammed ok e)) s t := by
  have x := exec_pageProgrammed_failed hs hf hn hc he hl
  generalize hu : ((s.putNand (m.touch n.block)).setJournal fun j => { j with closed := r }) = u
  have up : u.engine.up = true := by
    rw [← hu]
    exact State.up_of_siltWorks hs
  have journal : u.journal = { s.journal with
      nand := some { m.touch n.block with generation := n.generation + 1 }, closed := r } := by
    rw [← hu, State.setJournal_journal, State.putNand_journal hn, Nand.tabled_of_left hl]
  have given : s.movedOn (m.touch n.block) c r n.block = u.lossRecord c.page.first c.page.last 0 0 := by
    rw [State.movedOn, if_pos hc2, ← hu]
    rfl
  rw [given] at x
  obtain ⟨nand, -, losses, -⟩ := (u.lossRecord c.page.first c.page.last 0 0).settle.checkStock_keeps
  have settled := (u.lossRecord c.page.first c.page.last 0 0).settle_recorded
  have after : Steps [.irq, .bells, .journal] (u.lossRecord c.page.first c.page.last 0 0)
      (u.lossRecord c.page.first c.page.last 0 0).settle.checkStock :=
    State.checkStock_steps (State.settle_steps (Steps.refl _ _) rfl) rfl
  refine ⟨_, x, ?_, ?_, after.bell (State.lossRecord_bell up _ _ 0 0), only_parts_of_exec x⟩
  · rw [nand, settled.nand, State.lossRecord_nand, journal]
  · rw [losses, settled.lossRecords, State.lossRecord_counts, journal]

end program

/-! ### Erases (18 R565, R567) -/

section erase
variable {s : State} {n : Nand} {b : Nat} {r : List Nat}

/-- The medium as an erase of its first block leaves it. -/
def Nand.erased (n : Nand) (b : Nat) (r : List Nat) : Nand :=
  { n.touch b with erasing := r, erases := (b, n.eraseCount b + 1) :: n.erases.filter fun e => decide (e.1 ≠ b) }

theorem eraseDone_spare (hs : s.siltWorks = true) (hn : s.journal.nand = some n) (he : n.erasing = b :: r) :
    ∃ t, exec (.eraseDone true) s = .next t ∧
      t.journal = { s.journal with nand := some { n.touch b with
        erasing := r, erases := (b, n.eraseCount b + 1) :: n.erases.filter fun e => decide (e.1 ≠ b)
        spares := if n.ring.contains b then n.spares else n.spares ++ [b]
        generation := if n.ring.contains b then n.generation else n.generation + 1 } } ∧ Only [.journal] s t := by
  have x : exec (.eraseDone true) s = .next (s.putNand (if n.ring.contains b then n.erased b r
      else { n.erased b r with spares := n.spares ++ [b] })) := by
    refine (if_pos hs).trans (congrArg Host.Outcome.next ?_)
    unfold State.eraseEnds
    rw [hn]
    dsimp only
    rw [he]
    rfl
  refine ⟨_, x, ?_, (State.putNand_steps _ (Steps.refl [.journal] s) rfl).1⟩
  rw [State.putNand_journal hn]
  split
  · rw [Nand.tabled_self (n := n) (m := n.erased b r) rfl rfl]
    rfl
  · rw [Nand.tabled_of_spare (n := n) (m := { n.erased b r with spares := n.spares ++ [b] }) (b := b) rfl]
    rfl

/-- The medium once an erase has failed: its block is bad, and the write block moves on from it. -/
def Nand.eraseFailed (n : Nand) (b : Nat) : Nand :=
  if n.block = b then
    { ((n.markBad b).recycle (n.next b)).copyPages b ((n.markBad b).recycle (n.next b)).block with nextPage := n.nextPage }
  else n.markBad b

theorem Nand.eraseFailed_bad (n : Nand) (b : Nat) : (n.eraseFailed b).bad = n.bad ++ [b] := by
  unfold Nand.eraseFailed
  split
  · exact (n.markBad b).recycle_bad _
  · rfl

theorem eraseDone_retires (hs : s.siltWorks = true) (hn : s.journal.nand = some n) (he : n.erasing = b :: r) :
    ∃ t, exec (.eraseDone false) s = .next t ∧ t.journal.retired = min 0xFFFFFFFF (s.journal.retired + 1) ∧
      (∃ m, t.journal.nand = some m ∧ b ∈ m.bad ∧ m.generation = n.generation + 1) ∧
      Only (parts (.eraseDone false)) s t := by
  generalize hu : ((s.putNand ((n.erased b r).eraseFailed b)).setJournal fun j =>
    { j with retired := satAdd top32 j.retired 1 }) = u
  have x : ∃ body, exec (.eraseDone false) s = .next (u.siltRecord kMedia body).checkStock := by
    refine ⟨mediaBody 2 b (if n.block = b then ((n.erased b r).eraseFailed b).block else b) 0 0,
      (if_pos hs).trans (congrArg Host.Outcome.next ?_)⟩
    unfold State.eraseEnds
    rw [hn]
    dsimp only
    rw [he, ← hu]
    rfl
  obtain ⟨body, x⟩ := x
  have bad := (n.erased b r).eraseFailed_bad b
  have journal : u.journal = { s.journal with
      nand := some { (n.erased b r).eraseFailed b with generation := n.generation + 1 }
      retired := satAdd top32 s.journal.retired 1 } := by
    rw [← hu, State.setJournal_journal, State.putNand_journal hn, Nand.tabled_of_bad (n := n) bad]
  have written := u.siltRecord_recorded kMedia body
  obtain ⟨nand, -, -, retired⟩ := (u.siltRecord kMedia body).checkStock_keeps
  refine ⟨_, x, ?_, ⟨_, (nand.trans written.nand).trans (congrArg Journal.nand journal), ?_, rfl⟩, only_parts_of_exec x⟩
  · exact (retired.trans (congrArg Journal.retired written.eq :)).trans (congrArg Journal.retired journal)
  · show b ∈ ((n.erased b r).eraseFailed b).bad
    rw [bad]
    exact List.mem_append_right _ (List.mem_singleton_self b)

end erase

/-! ### Timeouts (18 R542) -/

section timeout
variable {s t : State} {n : Nand} {b : Nat}

/-- A timeout while Silt works: the failure, then the RESET that the target is owed. -/
theorem exec_nandTimeout (hs : s.siltWorks = true) (op : NandOp) : exec (.nandTimeout op) s =
    .next ((s.journal.nand.bind fun n => n.atWork op (!s.journal.closed.isEmpty)).elim (s.failOp op)
      (s.failOp op).oweReset) := by
  refine (if_pos hs).trans (congrArg Host.Outcome.next ?_)
  cases s.journal.nand.bind fun n => n.atWork op (!s.journal.closed.isEmpty) <;> rfl

theorem nandTimeout_fails (hs : s.siltWorks = true) :
    (∃ t, exec (.pageProgrammed false []) s = .next t ∧ exec (.nandTimeout .program) s =
      .next ((s.journal.nand.map (·.block)).elim t t.oweReset)) ∧
    (∃ t, exec (.eraseDone false) s = .next t ∧ exec (.nandTimeout .erase) s =
      .next ((s.journal.nand.bind fun n => n.erasing.head?).elim t t.oweReset)) ∧
    (s.journal.closed ≠ [] → ∃ t, exec (.pageProgrammed false []) s = .next t ∧ exec (.nandTimeout .read) s =
      .next ((s.journal.nand.map (·.block)).elim t t.oweReset)) ∧
    (s.journal.closed = [] → ∃ t, exec (.scrubRead [9]) s = .next t ∧ exec (.nandTimeout .read) s =
      .next ((s.journal.nand.bind fun n => n.scrubPage.map (·.block)).elim t t.oweReset)) := by
  have writing : s.journal.nand.map (·.block) = s.journal.nand.bind fun n => some n.block := by
    cases s.journal.nand <;> rfl
  refine ⟨⟨_, exec_pageProgrammed hs, ?_⟩, ⟨_, if_pos hs, exec_nandTimeout hs .erase⟩, fun owes => ⟨_, exec_pageProgrammed hs, ?_⟩,
    fun none => ⟨_, if_pos hs, ?_⟩⟩
  · rw [writing]
    exact exec_nandTimeout hs .program
  · have pages : s.journal.closed.isEmpty = false := by simpa using owes
    rw [writing, exec_nandTimeout hs .read, pages, State.failOp, pages]
    rfl
  · rw [exec_nandTimeout hs .read, State.failOp, none]
    rfl

theorem oweReset_owes (hn : t.journal.nand = some n) : ∃ m, (t.oweReset b).journal.nand = some m ∧
    n.targetOf b ∈ m.resets ∧ (m.issues b .program).head? = some 0xFF := by
  have owed : (t.oweReset b).journal.nand =
      some { n.touch b with resets := n.targetOf b :: (n.touch b).resets } := by
    unfold State.oweReset
    rw [State.setJournal_journal, hn]
    rfl
  refine ⟨_, owed, List.mem_cons_self, ?_⟩
  unfold Nand.issues
  dsimp only
  rw [if_pos]
  · rfl
  · exact List.contains_iff_mem.2 List.mem_cons_self

end timeout

end Sys2Proof.Machine
end

section
/-!
PROOFS. The scrub (18 R567, R568).
-/
set_option Elab.async false
namespace Sys2Proof.Machine

/-- The first of the least elements is the one found by its key. -/
theorem find?_of_minBy {α : Type} {key : α → Nat} {l : List α} {p : α} (h : minBy key l = some p) :
    l.find? (fun q => decide (key q = key p)) = some p := by
  induction l generalizing p with
  | nil => cases h
  | cons x xs ih =>
    unfold minBy at h
    split at h
    · cases h
      exact List.find?_cons_of_pos (by simp)
    · next y least =>
      split at h
      · next less =>
        cases h
        rw [List.find?_cons_of_neg (by simpa using Nat.ne_of_gt less)]
        exact ih least
      · cases h
        exact List.find?_cons_of_pos (by simp)

section scrub
variable {s : State} {n : Nand} {p : NandPage} {e : List Nat}

/-- The page the scrub reads is the one its number finds. -/
theorem Nand.find?_of_scrubPage (h : n.scrubPage = some p) :
    n.pages.find? (fun q => decide (q.page.serial = p.page.serial)) = some p := by
  unfold Nand.scrubPage at h
  split at h
  · next q least =>
    cases h
    have found := find?_of_minBy least
    have later : n.scrubAt < p.page.serial := by
      have := (List.mem_filter.1 (List.mem_of_find?_eq_some found)).2
      simpa using this
    rw [List.find?_filter] at found
    rw [← found]
    refine congrArg (List.find? · n.pages) (funext fun q => ?_)
    by_cases same : q.page.serial = p.page.serial <;> simp [same, later]
  · exact find?_of_minBy (key := fun p : NandPage => p.page.serial) h

/-- The medium once its page has been read back. -/
def Nand.scrubbed (n : Nand) (p : NandPage) : Nand := { n.touch p.block with scrubAt := p.page.serial }

/-- The scrub's place moves to the page. -/
def State.scrubMoved (s : State) (n : Nand) (p : NandPage) : State := s.putNand { n with scrubAt := p.page.serial }

theorem State.scrubMoved_journal (hn : s.journal.nand = some n) (p : NandPage) : (s.scrubMoved n p).journal =
    { s.journal with nand := some { n with scrubAt := p.page.serial } } := by
  rw [State.scrubMoved, State.putNand_journal hn, Nand.tabled_self (n := n) (m := { n with scrubAt := p.page.serial }) rfl rfl]

theorem State.scrubEnds_eq (hn : s.journal.nand = some n) (hp : n.scrubPage = some p) (r : ScrubResult) :
    s.scrubEnds r = (s.scrubMoved n p).checkPage p.page.serial r := by
  unfold State.scrubEnds
  rw [hn]
  dsimp only
  rw [hp]
  rfl

theorem State.scrubEnds_clean (hn : s.journal.nand = some n) (hp : n.scrubPage = some p) :
    s.scrubEnds .clean = (s.scrubMoved n p).putNand (n.scrubbed p) := by
  have found := Nand.find?_of_scrubPage hp
  rw [State.scrubEnds_eq hn hp]
  unfold State.checkPage
  rw [State.scrubMoved_journal hn]
  dsimp only
  rw [found]
  rfl

theorem State.scrubEnds_worn (hn : s.journal.nand = some n) (hp : n.scrubPage = some p) :
    s.scrubEnds .worn = (s.scrubMoved n p).moveBlock (n.scrubbed p) p.block := by
  have found := Nand.find?_of_scrubPage hp
  rw [State.scrubEnds_eq hn hp]
  unfold State.checkPage
  rw [State.scrubMoved_journal hn]
  dsimp only
  rw [found]
  rfl

theorem State.scrubEnds_uncorrectable (hn : s.journal.nand = some n) (hp : n.scrubPage = some p) :
    s.scrubEnds .uncorrectable = ((s.scrubMoved n p).lossRecord p.page.first p.page.last 0 1).moveBlock
      { n.scrubbed p with pages := n.pages.filter fun q => decide (q.page.serial ≠ p.page.serial) } p.block := by
  have found := Nand.find?_of_scrubPage hp
  rw [State.scrubEnds_eq hn hp]
  unfold State.checkPage
  rw [State.scrubMoved_journal hn]
  dsimp only
  rw [found]
  rfl

theorem correctable_of_le (h : ∀ k, k ∈ e → k ≤ 8) : correctable e = true := by simpa [correctable] using h

theorem scrubResult_clean (h : ∀ k, k ∈ e → k ≤ 4) : scrubResult e = .clean := by
  have few : ¬(e.any fun k => decide (5 ≤ k)) = true := by
    simp only [List.any_eq_true, decide_eq_true_eq, not_exists, not_and, not_le]
    exact fun k hk => Nat.lt_succ_of_le (h k hk)
  rw [scrubResult, correctable_of_le fun k hk => (h k hk).trans (by decide), if_neg (by decide), if_neg few]

theorem scrubResult_worn (h : ∀ k, k ∈ e → k ≤ 8) (hw : ∃ k, k ∈ e ∧ 5 ≤ k) : scrubResult e = .worn := by
  have many : (e.any fun k => decide (5 ≤ k)) = true := by simpa using hw
  rw [scrubResult, correctable_of_le h, if_neg (by decide), if_pos many]

theorem scrubResult_uncorrectable (h : ∃ k, k ∈ e ∧ 9 ≤ k) : scrubResult e = .uncorrectable := by
  have beyond : correctable e = false := by
    obtain ⟨k, inside, high⟩ := h
    exact List.all_eq_false.2 ⟨k, inside, by simpa using Nat.lt_of_lt_of_le (by decide) high⟩
  rw [scrubResult, beyond]
  rfl

theorem exec_scrubRead (hs : s.siltWorks = true) : exec (.scrubRead e) s = .next (s.scrubEnds (scrubResult e)) := if_pos hs

theorem scrubRead_clean (hs : s.siltWorks = true) (he : ∀ k, k ∈ e → k ≤ 4) (hn : s.journal.nand = some n)
    (hp : n.scrubPage = some p) : ∃ t, exec (.scrubRead e) s = .next t ∧
      t.journal = { s.journal with nand := some { n.touch p.block with scrubAt := p.page.serial } } ∧
      Only [.journal] s t := by
  have x := exec_scrubRead (e := e) hs
  rw [scrubResult_clean he, State.scrubEnds_clean hn hp] at x
  have moved := State.scrubMoved_journal hn p
  have nand : (s.scrubMoved n p).journal.nand = some { n with scrubAt := p.page.serial } := by rw [moved]
  refine ⟨_, x, ?_, (State.putNand_steps _ (State.putNand_steps _ (Steps.refl [.journal] s) rfl) rfl).1⟩
  rw [State.putNand_journal nand, moved, Nand.tabled_self (m := n.scrubbed p) (n := { n with scrubAt := p.page.serial }) rfl rfl]
  rfl

/-- The table's generation is all that its upkeep can change. -/
theorem Nand.tabled_eq (m n : Nand) : m.tabled n = { m with generation := (m.tabled n).generation } := by
  unfold Nand.tabled
  split <;> rfl

theorem State.moveBlock_losses (s : State) (n : Nand) (b : Nat) :
    (s.moveBlock n b).journal.lossRecords = s.journal.lossRecords := by
  unfold State.moveBlock
  split
  · rfl
  · exact (State.siltRecord_recorded _ _ _).lossRecords

/-- The block of a worn page moves to the first spare (18 R567). -/
theorem State.moveBlock_moves {k : Nand} {b c : Nat} {r : List Nat} (hk : s.journal.nand = some k) (hs : n.spares = c :: r) :
    (∃ m, (s.moveBlock n b).journal.nand = some m ∧ m.spares = r ∧ b ∈ m.erasing ∧
      m.pages = n.pages.map fun q => if q.block = b then { q with block := c } else q) ∧
    (s.moveBlock n b).journal.scrubs = min 0xFFFFFFFF (s.journal.scrubs + 1) := by
  generalize hm : ({ (n.replace b c).copyPages b c with
    spares := r, block := if n.block = b then c else n.block, erasing := n.erasing ++ [b] } : Nand) = m
  generalize hu : ((s.putNand m).setJournal fun j => { j with scrubs := satAdd top32 j.scrubs 1 }) = u
  have written : ∃ body, s.moveBlock n b = u.siltRecord kMedia body := by
    unfold State.moveBlock
    rw [hs, ← hu, ← hm]
    exact ⟨_, rfl⟩
  obtain ⟨body, written⟩ := written
  have journal : u.journal = { s.journal with nand := some (m.tabled k), scrubs := satAdd top32 s.journal.scrubs 1 } := by
    rw [← hu, State.setJournal_journal, State.putNand_journal hk]
  have recorded := u.siltRecord_recorded kMedia body
  rw [written]
  refine ⟨⟨_, recorded.nand.trans (congrArg Journal.nand journal), ?_⟩, ?_⟩
  · rw [Nand.tabled_eq, ← hm]
    exact ⟨rfl, List.mem_append_right _ (List.mem_singleton_self b), rfl⟩
  · exact (congrArg Journal.scrubs recorded.eq :).trans (congrArg Journal.scrubs journal)

theorem scrubRead_worn {c : Nat} {r : List Nat} (hs : s.siltWorks = true) (he : ∀ k, k ∈ e → k ≤ 8)
    (hw : ∃ k, k ∈ e ∧ 5 ≤ k) (hn : s.journal.nand = some n) (hp : n.scrubPage = some p) (hc : n.spares = c :: r) :
    ∃ t, exec (.scrubRead e) s = .next t ∧
      (∃ m, t.journal.nand = some m ∧ m.spares = r ∧ p.block ∈ m.erasing ∧
        m.pages = n.pages.map fun q => if q.block = p.block then { q with block := c } else q) ∧
      t.journal.scrubs = min 0xFFFFFFFF (s.journal.scrubs + 1) ∧ Only (parts (.scrubRead e)) s t := by
  have x := exec_scrubRead (e := e) hs
  rw [scrubResult_worn he hw, State.scrubEnds_worn hn hp] at x
  have moved := State.scrubMoved_journal hn p
  have nand : (s.scrubMoved n p).journal.nand = some { n with scrubAt := p.page.serial } := by rw [moved]
  obtain ⟨medium, scrubs⟩ := State.moveBlock_moves (n := n.scrubbed p) (b := p.block) nand hc
  refine ⟨_, x, medium, scrubs.trans ?_, only_parts_of_exec x⟩
  rw [moved]

theorem scrubRead_loses (hs : s.siltWorks = true) (he : ∃ k, k ∈ e ∧ 9 ≤ k) (hn : s.journal.nand = some n)
    (hp : n.scrubPage = some p) : ∃ t, exec (.scrubRead e) s = .next t ∧
      t.journal.lossRecords = min 0xFFFFFFFF (s.journal.lossRecords + 1) ∧ t.chanN.bellIn.getLsbD 5 = true ∧
      Only (parts (.scrubRead e)) s t := by
  have x := exec_scrubRead (e := e) hs
  rw [scrubResult_uncorrectable he, State.scrubEnds_uncorrectable hn hp] at x
  have moved := State.scrubMoved_journal hn p
  have bell := State.lossRecord_bell (s := s.scrubMoved n p) (State.up_of_siltWorks hs) p.page.first p.page.last 0 1
  have counts := (s.scrubMoved n p).lossRecord_counts p.page.first p.page.last 0 1
  refine ⟨_, x, ?_, (State.moveBlock_steps (ps := [.journal]) _ _ (Steps.refl _ _) rfl).bell bell, only_parts_of_exec x⟩
  rw [State.moveBlock_losses, counts, moved]

end scrub

end Sys2Proof.Machine
end

section
/-!
PROOFS. The mount, DOZE and the journal commands (18 R540-R543, R558, R570), and the journal as a whole.
-/
set_option Elab.async false
namespace Sys2Proof.Machine

/-! ### The mount (18 R540, R558-R560) -/

section mount
variable {s : State} {n : Nand} {j k : Journal}

/-- The journal runs on this medium, with nothing held from PROVE. -/
structure Journal.RunsOn (j : Journal) (n : Nand) : Prop where
  state : j.state = 0
  mounted : j.mounted = true
  held : j.held = []
  nand : j.nand = some n

theorem Journal.RunsOn.recorded (h : j.RunsOn n) (r : j.Recorded k) : k.RunsOn n where
  state := (congrArg Journal.state r.eq :).trans h.state
  mounted := (congrArg Journal.mounted r.eq :).trans h.mounted
  held := (congrArg Journal.held r.eq :).trans h.held
  nand := r.nand.trans h.nand

theorem Journal.RunsOn.lossRecord (h : s.journal.RunsOn n) (first last : Word) (dropped cause : Nat) :
    (s.lossRecord first last dropped cause).journal.RunsOn n := by
  obtain ⟨k, recorded, journal⟩ := s.lossRecord_journal first last dropped cause
  obtain ⟨state, mounted, held, nand⟩ := h.recorded recorded
  rw [journal]
  exact ⟨state, mounted, held, nand⟩

theorem Journal.RunsOn.resetRecord (h : s.journal.RunsOn n) : s.resetRecord.journal.RunsOn n := by
  unfold State.resetRecord
  split
  · refine Journal.RunsOn.recorded ?_ (State.writeRecord_recorded _ _)
    exact ⟨h.state, h.mounted, h.held, h.nand⟩
  · exact h

theorem State.mountOn_runs (s : State) (n : Nand) : (s.mountOn n).journal.RunsOn (n.resume.tabled n) := by
  unfold State.mountOn
  dsimp only
  refine Journal.RunsOn.resetRecord ?_
  have held (l : List Rec) {u : State} (h : u.journal.RunsOn (n.resume.tabled n)) :
      (l.foldl State.writeRecord u).journal.RunsOn (n.resume.tabled n) :=
    List.foldlRecOn (motive := fun u : State => u.journal.RunsOn (n.resume.tabled n)) _ _ h
      fun u runs r _ => runs.recorded (u.writeRecord_recorded r)
  have booted {u : State} (h : u.journal.RunsOn (n.resume.tabled n)) :
      (u.siltRecord kBoot u.bootBody).journal.RunsOn (n.resume.tabled n) := h.recorded (State.siltRecord_recorded _ _ _)
  split
  · refine held _ ?_
    split
    · exact booted ⟨rfl, rfl, rfl, rfl⟩
    · exact (booted ⟨rfl, rfl, rfl, rfl⟩).lossRecord _ _ 0 2
  · refine Journal.RunsOn.lossRecord (held _ ?_) 0 0 _ 3
    split
    · exact booted ⟨rfl, rfl, rfl, rfl⟩
    · exact (booted ⟨rfl, rfl, rfl, rfl⟩).lossRecord _ _ 0 2

/-- An erase owed changes no timing mode and no operation in progress. -/
theorem Nand.recycle_keeps (n : Nand) (b : Nat) : (n.recycle b).timing = n.timing ∧ (n.recycle b).left = n.left := by
  unfold Nand.recycle
  dsimp only
  split
  · split <;> exact ⟨rfl, rfl⟩
  · exact ⟨rfl, rfl⟩

theorem Nand.resume_timing (n : Nand) : n.resume.timing = n.timing := by
  unfold Nand.resume
  dsimp only
  split
  · rfl
  · exact (Nand.recycle_keeps _ _).1

theorem Nand.tabled_keeps (m n : Nand) : (m.tabled n).timing = m.timing ∧ (m.tabled n).left = m.left := by
  rw [Nand.tabled_eq]
  exact ⟨rfl, rfl⟩

/-- What a mount finds, without a device, a table or blocks, or with all of them. -/
theorem State.mount_cases (s : State) :
    (s.journal.nand = none ∧ s.mount.journal = s.journal.idle 2) ∨
    ∃ n, s.journal.nand = some n ∧
      ((n.formatted = false ∧ s.mount.journal = Journal.idle { s.journal with nand := some n.setFeatures } 3) ∨
        (n.formatted = true ∧ n.stock < 16 ∧
          s.mount.journal = Journal.idle { s.journal with nand := some n.setFeatures } 1) ∨
        (n.formatted = true ∧ 16 ≤ n.stock ∧ s.mount.journal.RunsOn (n.setFeatures.resume.tabled n.setFeatures))) := by
  unfold State.mount
  split
  · next none => exact .inl ⟨none, rfl⟩
  · next n some =>
    refine .inr ⟨n, some, ?_⟩
    dsimp only
    split
    · next bare => exact .inl ⟨by simpa [Nand.setFeatures] using bare, rfl⟩
    · next formatted =>
      have formatted : n.formatted = true := by simpa [Nand.setFeatures] using formatted
      split
      · next few => exact .inr (.inl ⟨formatted, few, State.ring_journal _ _⟩)
      · next enough => exact .inr (.inr ⟨formatted, Nat.le_of_not_lt enough, State.mountOn_runs _ _⟩)

theorem journalMount_mounts (hw : s.engineWorks = true) (hm : s.journal.mounted = false) (h4 : s.journal.state ≠ 4) :
    ∃ t, exec .journalMount s = .next t ∧ t.journal.mounted = true ∧ (s.journal.nand = none → t.journal.state = 2) ∧
      (∀ n, s.journal.nand = some n → ∃ m, t.journal.nand = some m ∧ m.timing = n.geom.listed.map topTiming) ∧
      (∀ n, s.journal.nand = some n → n.formatted = false → t.journal.state = 3) ∧
      (∀ n, s.journal.nand = some n → n.formatted = true → n.stock < 16 → t.journal.state = 1) ∧
      (∀ n, s.journal.nand = some n → n.formatted = true → 16 ≤ n.stock → t.journal.state = 0 ∧ t.journal.held = []) ∧
      Only (parts .journalMount) s t := by
  have x : exec .journalMount s = .next s.mount := if_pos (by simp [hw, hm, h4])
  refine ⟨_, x, ?_⟩
  have only := only_parts_of_exec x
  rcases s.mount_cases with ⟨none, journal⟩ | ⟨n, some, ⟨bare, journal⟩ | ⟨formatted, few, journal⟩ | ⟨formatted, enough, runs⟩⟩
  · rw [journal, none]
    exact ⟨rfl, fun _ => rfl, nofun, nofun, nofun, nofun, only⟩
  · rw [journal, some]
    refine ⟨rfl, nofun, ?_, ?_, ?_, ?_, only⟩ <;> rintro _ ⟨rfl⟩
    · exact ⟨_, rfl, rfl⟩
    · exact fun _ => rfl
    · simp [bare]
    · simp [bare]
  · rw [journal, some]
    refine ⟨rfl, nofun, ?_, ?_, ?_, ?_, only⟩ <;> rintro _ ⟨rfl⟩
    · exact ⟨_, rfl, rfl⟩
    · simp [formatted]
    · exact fun _ _ => rfl
    · exact fun _ enough => absurd few (Nat.not_lt.2 enough)
  · rw [some]
    refine ⟨runs.mounted, nofun, ?_, ?_, ?_, ?_, only⟩ <;> rintro _ ⟨rfl⟩
    · exact ⟨_, runs.nand, (Nand.tabled_keeps _ _).1.trans (Nand.resume_timing _)⟩
    · simp [formatted]
    · exact fun _ few => absurd few (Nat.not_lt.2 enough)
    · exact fun _ _ => ⟨runs.state, runs.held⟩

theorem exec_journalMount_none (hm : s.journal.mounted = true) : exec .journalMount s = .next s := if_neg (by simp [hm])

end mount

/-! ### DOZE (18 R570) -/

section doze
variable {s : State} {n : Nand} {c : Closing} {r : List Closing} {ok : Bool} {e : List Nat}

theorem State.putNand_left (s : State) (n : Nand) : ∃ m, (s.putNand n).journal.nand = some m ∧ m.left = n.left := by
  cases hn : s.journal.nand with
  | some k => exact ⟨_, by rw [State.putNand_journal hn], (Nand.tabled_keeps n k).2⟩
  | none =>
    refine ⟨n, ?_, rfl⟩
    unfold State.putNand
    rw [State.setJournal_journal, hn]

theorem Nand.advance_left (n : Nand) : n.advance.left = n.left := by
  unfold Nand.advance
  dsimp only
  split
  · exact (Nand.recycle_keeps _ _).2
  · rfl

theorem State.pageDurable_left (s : State) (n : Nand) (c : Closing) (r : List Closing) :
    ∃ m, (s.pageDurable n c r).journal.nand = some m ∧ m.left = n.left := by
  unfold State.pageDurable
  extract_lets source page b joined next put told
  have left : next.left = n.left := (apply_ite Nand.left _ _ _).trans (by rw [Nand.advance_left, ite_self])
  obtain ⟨m, nand, same⟩ := s.putNand_left next
  refine ⟨m, told.settle_recorded.nand.trans ?_, same.trans left⟩
  dsimp only [told]
  split
  · rw [State.ring_journal]
    exact (State.siltRecord_recorded _ _ _).nand.trans nand
  · exact nand

theorem State.programEnds_left {m : Nand} (hn : s.journal.nand = some n) (hm : (s.programEnds true).journal.nand = some m) :
    m.left = n.left := by
  unfold State.programEnds at hm
  split at hm
  · next k c r medium _ =>
    cases medium.symm.trans hn
    dsimp only at hm
    split at hm
    · cases hm.symm.trans hn
      rfl
    · obtain ⟨k, nand, left⟩ := s.pageDurable_left (n.touch n.block) c r
      cases hm.symm.trans nand
      exact left
  · cases hm.symm.trans hn
    rfl

theorem exec_pageProgrammed_doze (hs : s.siltWorks = false) (hd : s.siltDozes = true) (hn : s.journal.nand = some n)
    (hl : n.left = some .program) : exec (.pageProgrammed ok e) s =
    .next (if ok && correctable e then s.siltRests.programEnds true else s.siltRests) := by
  refine (if_neg (by rw [hs]; decide)).trans (if_pos ?_)
  simp [State.dozeEnds, hd, hn, hl]

theorem pageProgrammed_dozes (hs : s.siltWorks = false) (hd : s.siltDozes = true) (hn : s.journal.nand = some n)
    (hl : n.left = some .program) : ∃ t, exec (.pageProgrammed ok e) s = .next t ∧
      (∀ m, t.journal.nand = some m → m.left = none) ∧ (ok = false ∨ correctable e = false →
        t.journal = { s.journal with nand := some { n with left := none } }) ∧ Only (parts (.pageProgrammed ok e)) s t := by
  have x := exec_pageProgrammed_doze (ok := ok) (e := e) hs hd hn hl
  have rests : s.siltRests.journal = { s.journal with nand := some { n with left := none } } := by
    unfold State.siltRests
    rw [State.setJournal_journal, hn]
    rfl
  have nand : s.siltRests.journal.nand = some { n with left := none } := by rw [rests]
  refine ⟨_, x, fun m hm => ?_, fun fails => ?_, only_parts_of_exec x⟩
  · split at hm
    · exact State.programEnds_left nand hm
    · cases hm.symm.trans nand
      rfl
  · rw [if_neg, rests]
    rcases fails with bad | uncorrectable
    · simp [bad]
    · simp [uncorrectable]

theorem State.dozeEnds_none (h : s.siltDozes = false ∨ (∀ n, s.journal.nand = some n → n.left = none)) (op : NandOp) :
    s.dozeEnds op = false := by
  unfold State.dozeEnds
  rcases h with awake | still
  · rw [awake, Bool.false_and]
  · cases hn : s.journal.nand with
    | none => exact Bool.and_false _
    | some n => simp [still n hn]

theorem exec_doze_none (hs : s.siltWorks = false)
    (h : s.siltDozes = false ∨ (∀ n, s.journal.nand = some n → n.left = none)) :
    exec (.pageProgrammed ok e) s = .next s ∧ exec (.eraseDone ok) s = .next s :=
  ⟨(if_neg (by rw [hs]; decide)).trans (if_neg (by rw [State.dozeEnds_none h]; decide)),
    (if_neg (by rw [hs]; decide)).trans (if_neg (by rw [State.dozeEnds_none h]; decide))⟩

end doze

/-! ### The journal commands (18 R543, R552) -/

section commands
variable {s t u : State} {m : Msg} {j : Journal} {n : Nand}

theorem Replied.after {ps : List Part} {code status : Nat} {payload : List Byte} (h : Replied t u m code status payload)
    (k : Steps ps s t) (hr : ps.contains .replies = false := by rfl) : Replied s u m code status payload :=
  fun c => (h c).trans (by rw [k.replies hr c])

theorem journalMark_accepts (ho : s.offers m 0x0703 inWork markFault) (hf : s.formatBusy = false) (hs : s.siltWorks = true)
    (ha : s.journal.accept {
      kind := 0x09, flags := recFlags false s.takenAt.2, boot := 0, stamp := s.takenAt.1, seq := 0
      body := bytesAt m.payload 2 (byteAt m.payload 0) } = some j) : ∃ t, exec (.journalMark m) s = .next t ∧
    t.journal = j ∧ Replied s t m 0x0703 0 (leBytes 4 j.accepted.toNat) ∧ Only (parts (.journalMark m)) s t := by
  have x : exec (.journalMark m) s =
      .next ((s.served.setJournal fun _ => j).done m 0x0703 (leBytes 4 j.accepted.toNat)) := by
    refine (congrArg Host.Outcome.next (State.serve_of_offers ho)).trans (congrArg Host.Outcome.next ?_)
    refine (if_neg (by rw [show s.served.formatBusy = s.formatBusy from rfl, hf]; decide)).trans ((if_pos hs).trans ?_)
    have taken : s.served.journal.accept {
        kind := kText, flags := recFlags false s.takenAt.2, boot := 0, stamp := s.takenAt.1, seq := 0
        body := bytesAt m.payload 2 (byteAt m.payload 0) } = some j := ha
    rw [taken]
  have noted : Steps [.work, .journal] s (s.served.setJournal fun _ => j) :=
    State.setJournal_steps _ (s.served_steps.widen rfl) rfl
  exact ⟨_, x, (State.done_keeps _ m 0x0703 _).same .journal, State.done_replied (noted.replies rfl), only_parts_of_exec x⟩

theorem exec_journalMark_busy (ho : s.offers m 0x0703 inWork markFault) (hf : s.formatBusy = true) :
    exec (.journalMark m) s = .next (s.served.refused m 0x0703 0x0012) :=
  (congrArg Host.Outcome.next (State.serve_of_offers ho)).trans (congrArg Host.Outcome.next (if_pos hf))

/-- The journal as a format starts (18 R543). -/
def Journal.formatting (j : Journal) (n : Nand) : Journal :=
  { j with state := 4, mounted := false, nand := some { n with formatted := false, pages := [], erasing := [] }, staging := none
           closed := [], waiting := [], dropped := 0 }

theorem exec_journalFormat (ho : s.offers m 0x0704 inSetup (exactFault [])) (hf : s.formatBusy = false)
    (hn : s.journal.nand = some n) : exec (.journalFormat m) s =
    .next ((s.served.setJournal fun j => j.formatting n).accept m 0x0704 .format) := by
  refine (congrArg Host.Outcome.next (State.serve_of_offers ho)).trans (congrArg Host.Outcome.next ?_)
  refine (if_neg (by rw [show s.served.formatBusy = s.formatBusy from rfl, hf]; decide)).trans ?_
  rw [show s.served.journal.nand = some n from hn]
  rfl

theorem journalFormat_starts (ho : s.offers m 0x0704 inSetup (exactFault [])) (hf : s.formatBusy = false)
    (hn : s.journal.nand ≠ none) : ∃ t, exec (.journalFormat m) s = .next t ∧
    Replied s t m 0x0704 1 [] ∧ t.journal.state = 4 ∧
    t.journal.mounted = false ∧ t.journal.records = [] ∧ t.journal.held = s.journal.held ∧
    t.engine.accepted = s.engine.accepted ++ [{ ch := m.ch, code := 0x0704, tag := m.tag, work := .format }] ∧
    Only (parts (.journalFormat m)) s t := by
  obtain ⟨n, medium⟩ := Option.ne_none_iff_exists'.1 hn
  have x := exec_journalFormat ho hf medium
  have started : Steps [.work, .journal] s (s.served.setJournal fun j => j.formatting n) :=
    State.setJournal_steps _ (s.served_steps.widen rfl) rfl
  have journal : ((s.served.setJournal fun j => j.formatting n).accept m 0x0704 .format).journal = s.journal.formatting n :=
    (State.accept_steps (ps := [.replies, .work]) m 0x0704 .format (Steps.refl _ _) rfl).same .journal
  refine ⟨_, x, (State.accept_replied _ m 0x0704 .format).after started, ?_, ?_, ?_, ?_, State.accept_accepted _ m 0x0704 .format,
    only_parts_of_exec x⟩
  all_goals rw [journal]; rfl

theorem exec_journalFormat_busy (ho : s.offers m 0x0704 inSetup (exactFault [])) (hf : s.formatBusy = true) :
    exec (.journalFormat m) s = .next (s.served.refused m 0x0704 0x0012) :=
  (congrArg Host.Outcome.next (State.serve_of_offers ho)).trans (congrArg Host.Outcome.next (if_pos hf))

/-- The journal as its format ends. -/
def Journal.formatted (j : Journal) (n : Nand) (bad : List Nat) : Journal :=
  { j with state := 1, boot := 0, nextSeq := 1, accepted := 0, durable := 0, nand := some (n.format bad) }

/-- The format has ended; in PROBE the mount has followed. -/
def State.formatEnded (s : State) (n : Nand) (bad : List Nat) : State :=
  if s.mode = .probe then (s.setJournal fun j => j.formatted n bad).mount else s.setJournal fun j => j.formatted n bad

theorem State.formatEnded_steps (s : State) (n : Nand) (bad : List Nat) :
    Steps [.irq, .bells, .journal] s (s.formatEnded n bad) :=
  have ended : Steps [.irq, .bells, .journal] s (s.setJournal fun j => j.formatted n bad) :=
    State.setJournal_steps _ (Steps.refl _ s) rfl
  Steps.ite (State.mount_steps ended rfl) ended

variable {a : Accepted} {bad : List Nat}

theorem exec_journalFormatDone (hs : s.serves = true) (h4 : s.journal.state = 4) (hn : s.journal.nand = some n)
    (ha : s.engine.accepted.find? (fun a => decide (a.work = .format)) = some a) :
    exec (.journalFormatDone bad) s = .next ((s.formatEnded n bad).complete a 0 []) := by
  show execJournalFormatDone bad s = _
  unfold execJournalFormatDone
  rw [show s.working? (fun w => decide (w = .format)) = some a from ha, hn]
  exact if_pos (by rw [hs, decide_eq_true h4]; rfl)

theorem journalFormatDone_completes (hs : s.serves = true) (h4 : s.journal.state = 4) (hn : s.journal.nand = some n)
    (ha : s.engine.accepted.find? (fun a => decide (a.work = .format)) = some a) :
    ∃ t, exec (.journalFormatDone bad) s = .next t ∧
      Replied s t { ch := a.ch, tag := a.tag, payload := [] } a.code.toNat 0 [] ∧
      t.engine.accepted = s.engine.accepted.erase a ∧
      (s.mode ≠ .probe → t.journal.state = 1 ∧ t.journal.nand = some (n.format bad) ∧ t.journal.nextSeq = 1) ∧
      Only (parts (.journalFormatDone bad)) s t := by
  have x := exec_journalFormatDone (bad := bad) hs h4 hn ha
  have ended := s.formatEnded_steps n bad
  have journal : ((s.formatEnded n bad).complete a 0 []).journal = (s.formatEnded n bad).journal :=
    (State.complete_steps (ps := [.replies, .work]) a 0 [] (Steps.refl _ _) rfl).same .journal
  refine ⟨_, x, (State.complete_replied _ a 0 []).after ended, ?_, fun outside => ?_, only_parts_of_exec x⟩
  · rw [State.complete_accepted, (ended.same .work).2.1]
  · rw [journal, State.formatEnded, if_neg outside]
    exact ⟨rfl, rfl, rfl⟩

end commands

/-- Settles O54: what is accepted, closed and made durable, how an operation fails or moves, the mount and the format. -/
theorem journalAcceptsProgramsAndMounts : Obligations.JournalAcceptsProgramsAndMounts := by
  have journalOnly (s : State) (j : Journal) : Only [.journal] s (s.setJournal fun _ => j) :=
    (State.setJournal_steps _ (Steps.refl [.journal] s) rfl).1
  refine ⟨fun j k r ha => ?_, fun s x r j hs ho ha => ⟨_, exec_recordAccepted_owed hs ho ha, rfl, journalOnly s _⟩,
    fun s x r j hs ho hw ha => ⟨_, exec_recordAccepted_waiting hs ho hw ha, rfl, journalOnly s _⟩,
    fun s x r hs hx ha => ⟨_, exec_recordAccepted_full hs hx ha, rfl, journalOnly s _⟩,
    fun s => recordAccepted_loses, fun s => pageClose_closes, fun s n c r e => pageProgrammed_joins,
    fun s n m c r ok e => pageProgrammed_moves, fun s n m c r ok e => pageProgrammed_loses, fun s n b r => eraseDone_spare,
    fun s n b r => eraseDone_retires, fun s => nandTimeout_fails, fun t n b => oweReset_owes, fun s n p e => scrubRead_clean,
    fun s n p c r e => scrubRead_worn, fun s n p e => scrubRead_loses, fun s => journalMount_mounts,
    fun s => exec_journalMount_none, fun s n ok e => pageProgrammed_dozes, fun s ok e => exec_doze_none,
    fun s m j => journalMark_accepts, fun s m => exec_journalMark_busy, fun s m => journalFormat_starts,
    fun s m => exec_journalFormat_busy, fun s bad a n => journalFormatDone_completes⟩
  obtain ⟨accepted, next⟩ := Journal.accept_numbers ha
  exact ⟨accepted, next, _, Journal.accept_records ha, rfl, rfl, rfl, rfl⟩

end Sys2Proof.Machine
end

section
/-!
PROOFS. A port that answers as a head (15 R453-R460, R472-R477, R484, R485).
-/
set_option Elab.async false
namespace Sys2Proof.Machine

/-! ### The port of a head -/

section port
variable {s : State} {p : PortNo} {f : HeadRole → HeadRole}

@[simp] theorem State.updRole_port (s : State) (p : PortNo) (f : HeadRole → HeadRole) :
    (s.updRole p f).port p = { s.port p with head := f (s.port p).head } := s.updPort_port_same p _

@[simp] theorem State.dropFrame_port (s : State) (p : PortNo) : (s.dropFrame p).port p =
    { s.port p with fifo := [], amp := { (s.port p).amp with ref := none, stepped := false } } := s.updPort_port_same p _

@[simp] theorem State.abandonFrame_port (s : State) (p : PortNo) : (s.abandonFrame p).port p =
    { s.port p with fifo := [], amp := { (s.port p).amp with ref := none, stepped := false }, edge := none
                    hold := .character } := by
  unfold State.abandonFrame
  rw [State.updPort_port_same, State.dropFrame_port]

/-- What a port may drive is not a matter of what it has heard, nor of its part as a head. -/
theorem State.mayDrive_of_port {t : State} (h : Steps [.ports] s t) (tx : (t.port p).txc.tx = (s.port p).txc.tx)
    (hot : (t.port p).hot = (s.port p).hot) (loop : (t.port p).loop = (s.port p).loop) : t.mayDrive p = s.mayDrive p := by
  unfold State.mayDrive
  dsimp only
  rw [h.roadRuns, h.same .power, tx, hot, loop]

@[simp] theorem State.mayDrive_updRole (s : State) (p : PortNo) (f : HeadRole → HeadRole) :
    (s.updRole p f).mayDrive p = s.mayDrive p :=
  State.mayDrive_of_port (State.updRole_steps p f (Steps.refl _ s) rfl) (by rw [State.updRole_port]; rfl) (by simp) (by simp)

@[simp] theorem State.mayDrive_dropFrame (s : State) (p : PortNo) : (s.dropFrame p).mayDrive p = s.mayDrive p :=
  State.mayDrive_of_port (State.dropFrame_steps p (Steps.refl _ s) rfl) (by rw [State.dropFrame_port]; rfl) (by simp) (by simp)

/-- Reading back what it drives a port learns amplitudes alone (09 R267). -/
theorem SameOn.readOwn {κ : Type} {key : Port → κ} {t : State} (h : SameOn key s t)
    (ha : ∀ (q : Port) (a : Amp), key { q with amp := a } = key q) (p : PortNo) (bs : List Byte) :
    SameOn key s (t.readOwn p bs) := by
  unfold State.readOwn
  split
  · refine h.foldl bs fun u _ g => ?_
    have read : SameOn key s (u.draw.2.updPort p fun q => { q with amp := { q.amp with own := BitVec.ofNat 8 u.draw.1 } }) :=
      (g.steps (State.draw_steps (Steps.refl [.draws] u) rfl)).updPort p fun q => ha q _
    have told {v : State} (g : SameOn key s v) (low : Bool) (code : Nat) (value : Option Nat) :
        SameOn key s ((v.updPort p fun q => { q with amp := { q.amp with ownLow := low } }).portEvent p code value) :=
      (g.updPort p fun q => ha q _).steps (State.portEvent_steps (ps := [.mem, .pool, .draws, .irq, .bells, .events, .sluice,
        .journal, .dozeEvents]) p code value (Steps.refl _ _) rfl)
    unfold State.readBack
    dsimp only
    split
    · exact read
    · split
      · exact told read true evOwnLow _
      · split
        · exact told read false evOwnOk _
        · exact read
  · exact h

end port

/-! ### What a head makes of a frame (15 R453, R484) -/

section frame
variable {s : State} {p : PortNo} {f : List Half} {g : HedgeFrame}

theorem HeadRole.settle_sending {r : HeadRole} (h : r.mode = .sending) :
    r.settle = { r with mode := .awake, attention := r.attention && !sentReport r.reply } := if_pos h

theorem HeadRole.settle_other {r : HeadRole} (h : r.mode ≠ .sending) : r.settle = r := if_neg h

theorem HeadRole.settle_kept (r : HeadRole) : r.settle.kept = r.kept := by
  unfold HeadRole.settle
  split <;> rfl

theorem HeadRole.settle_pulses (r : HeadRole) : r.settle.pulses = r.pulses := by
  unfold HeadRole.settle
  split <;> rfl

/-- A head that neither prepares a reply nor is hushed hears a frame awake or asleep. -/
theorem HeadRole.settle_hears {r : HeadRole} (ht : r.mode ≠ .turnaround) (hh : r.mode ≠ .hushed) :
    r.settle.mode = .awake ∨ r.settle.mode = .asleep := by
  cases hm : r.mode with
  | sending =>
    rw [HeadRole.settle_sending hm]
    exact .inl rfl
  | awake => exact .inl (by rw [HeadRole.settle_other (by simp [hm]), hm])
  | asleep => exact .inr (by rw [HeadRole.settle_other (by simp [hm]), hm])
  | turnaround => exact absurd hm ht
  | hushed => exact absurd hm hh

/-- The frame is off the port, whatever it was. -/
def State.hearing (s : State) (p : PortNo) : State := (s.updRole p HeadRole.settle).dropFrame p

theorem State.hearing_port (s : State) (p : PortNo) : (s.hearing p).port p = { s.port p with
    head := (s.port p).head.settle, fifo := [], amp := { (s.port p).amp with ref := none, stepped := false } } := by
  simp [State.hearing]

/-- A frame of the master has ended a sleep. -/
def State.roused (s : State) (p : PortNo) : State := (s.hearing p).updRole p fun r => { r with mode := .awake, commit := none }

theorem State.roused_port (s : State) (p : PortNo) : (s.roused p).port p = { s.port p with
    head := { (s.port p).head.settle with mode := .awake, commit := none }, fifo := []
    amp := { (s.port p).amp with ref := none, stepped := false } } := by
  rw [State.roused, State.updRole_port, State.hearing_port]

theorem State.roused_mayDrive (s : State) (p : PortNo) : (s.roused p).mayDrive p = s.mayDrive p := by
  simp [State.roused, State.hearing]

theorem exec_headCommandReceived (ha : s.actsAsHead p = true) :
    exec (.headCommandReceived p f) s = .next (s.headHears p f) := if_pos ha

theorem exec_headBroadcastReceived (ha : s.actsAsHead p = true) :
    exec (.headBroadcastReceived p f) s = .next (s.headHears p f) := if_pos ha

theorem State.headHears_stepped (hs : (s.port p).amp.stepped = true) :
    s.headHears p f = (s.updRole p HeadRole.settle).abandonFrame p := by
  unfold State.headHears
  dsimp only
  exact if_pos (by rw [State.updRole_port]; exact hs)

theorem State.headHears_none (hs : (s.port p).amp.stepped = false) (hf : readFrame f = none) : s.headHears p f = s.hearing p := by
  unfold State.headHears
  dsimp only
  rw [if_neg (by rw [State.updRole_port, hs]; decide), hf]
  rfl

theorem State.headHears_some (hs : (s.port p).amp.stepped = false) (hf : readFrame f = some g) :
    s.headHears p f = (s.hearing p).headFrame p g := by
  unfold State.headHears
  dsimp only
  rw [if_neg (by rw [State.updRole_port, hs]; decide), hf]
  rfl

/-- A head that prepares a reply, or is hushed, makes nothing of a frame. -/
theorem State.headHears_deaf (hs : (s.port p).amp.stepped = false) (hf : readFrame f = some g)
    (hm : (s.port p).head.mode = .turnaround ∨ (s.port p).head.mode = .hushed) : s.headHears p f = s.hearing p := by
  rw [State.headHears_some hs hf]
  have settled : (s.port p).head.settle = (s.port p).head := HeadRole.settle_other (by rcases hm with h | h <;> simp [h])
  refine if_pos ?_
  rw [State.hearing_port]
  dsimp only
  rw [settled]
  rcases hm with turnaround | hushed
  · simp [turnaround]
  · simp [hushed]

/-- What a head makes of a frame of its master. -/
theorem State.headHears_master (hs : (s.port p).amp.stepped = false) (hf : readFrame f = some g) (hg : g.fromMaster = true)
    (ht : (s.port p).head.mode ≠ .turnaround) (hh : (s.port p).head.mode ≠ .hushed) : s.headHears p f =
    if g.kind = 4 then (s.roused p).headBroadcast p g
    else if g.addr = (s.port p).rx.myAddr ∧ commandLen g.type = some g.payload.length then
      (s.roused p).headExecute p (s.port p).rx.myAddr g
    else s.roused p := by
  rw [State.headHears_some hs hf]
  have hears : ¬(!g.fromMaster || (decide (((s.hearing p).port p).head.mode ≠ .awake) &&
      decide (((s.hearing p).port p).head.mode ≠ .asleep))) = true := by
    rw [State.hearing_port, hg]
    rcases HeadRole.settle_hears ht hh with awake | asleep
    · simp [awake]
    · simp [asleep]
  have address : ((s.roused p).port p).rx.myAddr = (s.port p).rx.myAddr := by
    rw [State.roused_port]
    rfl
  rw [← address]
  exact if_neg hears

theorem State.headHears_command (hs : (s.port p).amp.stepped = false) (hf : readFrame f = some g) (hg : g.fromMaster = true)
    (ht : (s.port p).head.mode ≠ .turnaround) (hh : (s.port p).head.mode ≠ .hushed) (hk : g.kind = 0)
    (ha : g.addr = (s.port p).rx.myAddr) (hl : commandLen g.type = some g.payload.length) :
    s.headHears p f = (s.roused p).headExecute p (s.port p).rx.myAddr g := by
  rw [State.headHears_master hs hf hg ht hh, if_neg (by rw [hk]; decide), if_pos ⟨ha, hl⟩]

theorem State.headHears_broadcast (hs : (s.port p).amp.stepped = false) (hf : readFrame f = some g)
    (hg : g.fromMaster = true) (ht : (s.port p).head.mode ≠ .turnaround) (hh : (s.port p).head.mode ≠ .hushed)
    (hk : g.kind = 4) : s.headHears p f = (s.roused p).headBroadcast p g := by
  rw [State.headHears_master hs hf hg ht hh, if_pos hk]

theorem headCommandReceived_other (ha : s.actsAsHead p = true) (hs : (s.port p).amp.stepped = false)
    (hf : readFrame f = some g) (hg : g.fromMaster = true) (ht : (s.port p).head.mode ≠ .turnaround)
    (hh : (s.port p).head.mode ≠ .hushed) (hk : g.kind = 0)
    (ho : g.addr ≠ (s.port p).rx.myAddr ∨ commandLen g.type ≠ some g.payload.length) :
    ∃ t, exec (.headCommandReceived p f) s = .next t ∧
      (t.port p).head = { (s.port p).head.settle with mode := .awake, commit := none } ∧ (t.port p).fifo = [] ∧
      Only (parts (.headCommandReceived p f)) s t := by
  have x := exec_headCommandReceived (f := f) ha
  rw [State.headHears_master hs hf hg ht hh, if_neg (by rw [hk]; decide), if_neg (by tauto)] at x
  refine ⟨_, x, ?_, ?_, only_parts_of_exec x⟩
  all_goals rw [State.roused_port]

theorem headCommandReceived_none (ha : s.actsAsHead p = true) (hs : (s.port p).amp.stepped = false)
    (hf : readFrame f = none) : ∃ t, exec (.headCommandReceived p f) s = .next t ∧
      (t.port p).head = (s.port p).head.settle ∧ (t.port p).fifo = [] ∧ Only (parts (.headCommandReceived p f)) s t := by
  have x := exec_headCommandReceived (f := f) ha
  rw [State.headHears_none hs hf] at x
  refine ⟨_, x, ?_, ?_, only_parts_of_exec x⟩
  all_goals rw [State.hearing_port]

theorem headReceived_stepped (ha : s.actsAsHead p = true) (hs : (s.port p).amp.stepped = true) :
    ∃ t, exec (.headCommandReceived p f) s = .next t ∧ exec (.headBroadcastReceived p f) s = .next t ∧
      (t.port p).head = (s.port p).head.settle ∧ (t.port p).fifo = [] ∧ (t.port p).edge = none ∧
      (t.port p).hold = .character ∧ Only (parts (.headCommandReceived p f)) s t := by
  have x := exec_headCommandReceived (f := f) ha
  have y := exec_headBroadcastReceived (f := f) ha
  rw [State.headHears_stepped hs] at x y
  refine ⟨_, x, y, ?_, ?_, ?_, ?_, only_parts_of_exec x⟩
  all_goals simp

theorem headReceived_deaf (ha : s.actsAsHead p = true) (hs : (s.port p).amp.stepped = false) (hf : readFrame f = some g)
    (hm : (s.port p).head.mode = .turnaround ∨ (s.port p).head.mode = .hushed) :
    ∃ t, exec (.headCommandReceived p f) s = .next t ∧ exec (.headBroadcastReceived p f) s = .next t ∧
      (t.port p).head = (s.port p).head ∧ (t.port p).fifo = [] ∧ Only (parts (.headCommandReceived p f)) s t := by
  have x := exec_headCommandReceived (f := f) ha
  have y := exec_headBroadcastReceived (f := f) ha
  have settled : (s.port p).head.settle = (s.port p).head := HeadRole.settle_other (by rcases hm with h | h <;> simp [h])
  rw [State.headHears_deaf hs hf hm] at x y
  refine ⟨_, x, y, ?_, ?_, only_parts_of_exec x⟩
  · rw [State.hearing_port, settled]
  · rw [State.hearing_port]

end frame

/-! ### Commands (15 R453, R454, R485) -/

section command
variable {s : State} {p : PortNo} {f : List Half} {g : HedgeFrame} {a : Nat} {x : List Byte}

/-- The reply to a command that is executed. -/
def State.replyFrame (s : State) (p : PortNo) (a : Nat) (g : HedgeFrame) : List Byte :=
  hedgeFrame (s.replyTo p g.type).1 a (s.replyTo p g.type).2.1 g.toggle (s.replyTo p g.type).2.2

theorem State.headExecute_new (hn : g.type = tyResync ∨ ∀ x, (s.port p).head.kept ≠ some (g.toggle, g.type, x)) :
    s.headExecute p a g = s.updRole p fun r => { r with
      mode := .turnaround, prepared := some (s.replyFrame p a g)
      kept := if g.type = tyResync then none else some (g.toggle, g.type, s.replyFrame p a g) } := by
  unfold State.headExecute
  dsimp only
  cases hk : (s.port p).head.kept with
  | none => rfl
  | some kept =>
    obtain ⟨t, ty, rep⟩ := kept
    have forgotten : ¬(decide (g.type ≠ tyResync) && t == g.toggle && decide (ty = g.type)) = true := by
      simp only [Bool.and_eq_true, decide_eq_true_eq, beq_iff_eq]
      rintro ⟨⟨other, rfl⟩, rfl⟩
      rcases hn with resync | unkept
      · exact other resync
      · exact unkept rep hk
    dsimp only
    rw [if_neg forgotten]
    rfl

theorem State.headExecute_repeat (hr : g.type ≠ tyResync) (hk : (s.port p).head.kept = some (g.toggle, g.type, x)) :
    s.headExecute p a g = s.updRole p fun r => { r with
      mode := .turnaround, prepared := some x, kept := some (g.toggle, g.type, x) } := by
  have kept : (decide (g.type ≠ tyResync) && g.toggle == g.toggle && decide (g.type = g.type)) = true := by simp [hr]
  unfold State.headExecute
  dsimp only
  rw [hk]
  dsimp only
  rw [if_pos kept, if_neg hr]

/-- A command that is no repeat is executed, and its reply prepared. -/
theorem headCommandReceived_new (ha : s.actsAsHead p = true) (hs : (s.port p).amp.stepped = false)
    (hf : readFrame f = some g) (hg : g.fromMaster = true) (ht : (s.port p).head.mode ≠ .turnaround)
    (hh : (s.port p).head.mode ≠ .hushed) (hk : g.kind = 0) (hd : g.addr = (s.port p).rx.myAddr)
    (hl : commandLen g.type = some g.payload.length)
    (hn : g.type = tyResync ∨ ∀ x, (s.port p).head.kept ≠ some (g.toggle, g.type, x))
    (hx : (s.roused p).replyFrame p (s.port p).rx.myAddr g = x) :
    ∃ t, exec (.headCommandReceived p f) s = .next t ∧
      (t.port p).head = { (s.port p).head.settle with
        mode := .turnaround, commit := none, prepared := some x
        kept := if g.type = tyResync then none else some (g.toggle, g.type, x) } ∧
      (t.port p).fifo = [] ∧ Only (parts (.headCommandReceived p f)) s t := by
  have unkept : g.type = tyResync ∨ ∀ x, ((s.roused p).port p).head.kept ≠ some (g.toggle, g.type, x) := by
    rw [State.roused_port]
    dsimp only
    rwa [HeadRole.settle_kept]
  have e := exec_headCommandReceived (f := f) ha
  rw [State.headHears_command hs hf hg ht hh hk hd hl, State.headExecute_new unkept, hx] at e
  refine ⟨_, e, ?_, ?_, only_parts_of_exec e⟩
  all_goals rw [State.updRole_port, State.roused_port]

theorem headCommandReceived_repeat (ha : s.actsAsHead p = true) (hs : (s.port p).amp.stepped = false)
    (hf : readFrame f = some g) (hg : g.fromMaster = true) (ht : (s.port p).head.mode ≠ .turnaround)
    (hh : (s.port p).head.mode ≠ .hushed) (hk : g.kind = 0) (hd : g.addr = (s.port p).rx.myAddr)
    (hl : commandLen g.type = some g.payload.length) (hr : g.type ≠ tyResync)
    (hx : (s.port p).head.kept = some (g.toggle, g.type, x)) :
    ∃ t, exec (.headCommandReceived p f) s = .next t ∧
      (t.port p).head = { (s.port p).head.settle with mode := .turnaround, commit := none, prepared := some x } ∧
      (t.port p).fifo = [] ∧ Only (parts (.headCommandReceived p f)) s t := by
  have settled : (s.port p).head.settle.kept = some (g.toggle, g.type, x) := (HeadRole.settle_kept _).trans hx
  have kept : ((s.roused p).port p).head.kept = some (g.toggle, g.type, x) := by
    rw [State.roused_port]
    exact settled
  have e := exec_headCommandReceived (f := f) ha
  rw [State.headHears_command hs hf hg ht hh hk hd hl, State.headExecute_repeat hr kept] at e
  refine ⟨_, e, ?_, ?_, only_parts_of_exec e⟩
  · rw [State.updRole_port, State.roused_port, ← settled]
  · rw [State.updRole_port, State.roused_port]

theorem State.roused_report (s : State) (p : PortNo) :
    (s.roused p).reportPayload p = (s.updRole p HeadRole.settle).reportPayload p := by
  have lamps : (s.roused p).headLamps = (s.updRole p HeadRole.settle).headLamps := rfl
  unfold State.reportPayload
  rw [lamps, State.roused_port, State.updRole_port]

end command

/-! ### Broadcasts (15 Table - Head state machine) -/

section broadcast
variable {s : State} {p : PortNo} {f : List Half} {g : HedgeFrame}

theorem headBroadcastReceived_heard (ha : s.actsAsHead p = true) (hs : (s.port p).amp.stepped = false)
    (hf : readFrame f = some g) (hg : g.fromMaster = true) (ht : (s.port p).head.mode ≠ .turnaround)
    (hh : (s.port p).head.mode ≠ .hushed) (hk : g.kind = 4) :
    exec (.headBroadcastReceived p f) s = .next ((s.roused p).headBroadcast p g) := by
  rw [exec_headBroadcastReceived ha, State.headHears_broadcast hs hf hg ht hh hk]

/-- ROLL-CALL, and SLEEP-PROPOSE that meets attention, are answered with a pulse. -/
theorem State.headBroadcast_pulses (h : (g.type = tyRollCall ∧ (g.payload = [1] ∨ (g.payload = [0] ∧
      (s.port p).head.attention = true))) ∨ (g.type = tyPropose ∧ g.payload.length = 2 ∧ (s.port p).head.attention = true)) :
    s.headBroadcast p g = s.headPulse p := by
  unfold State.headBroadcast
  dsimp only
  rcases h with ⟨roll, called⟩ | ⟨propose, length, attention⟩
  · rw [if_pos roll, if_pos called]
  · rw [if_neg (by rw [propose]; decide), if_pos propose, if_pos ⟨length, attention⟩]

theorem State.headPulse_port (s : State) (p : PortNo) : ((s.headPulse p).port p).head.mode = (s.port p).head.mode ∧
    ((s.headPulse p).port p).head.commit = (s.port p).head.commit ∧
    ((s.headPulse p).port p).head.pulses = (s.port p).head.pulses + (if s.mayDrive p then 1 else 0) ∧
    ((s.headPulse p).port p).head.attention = (s.port p).head.attention := by
  unfold State.headPulse
  split
  · rw [State.updRole_port]
    exact ⟨rfl, rfl, rfl, rfl⟩
  · exact ⟨rfl, rfl, rfl, rfl⟩

theorem headBroadcastReceived_pulses (ha : s.actsAsHead p = true) (hs : (s.port p).amp.stepped = false)
    (hf : readFrame f = some g) (hg : g.fromMaster = true) (ht : (s.port p).head.mode ≠ .turnaround)
    (hh : (s.port p).head.mode ≠ .hushed) (hk : g.kind = 4)
    (h : (g.type = tyRollCall ∧ (g.payload = [1] ∨ (g.payload = [0] ∧ (s.port p).head.settle.attention = true))) ∨
      (g.type = tyPropose ∧ g.payload.length = 2 ∧ (s.port p).head.settle.attention = true)) :
    ∃ t, exec (.headBroadcastReceived p f) s = .next t ∧ (t.port p).head.mode = .awake ∧
        (t.port p).head.commit = none ∧
      (t.port p).head.pulses = (s.port p).head.pulses + (if s.mayDrive p then 1 else 0) ∧
      (t.port p).head.attention = (s.port p).head.settle.attention ∧ Only (parts (.headBroadcastReceived p f)) s t := by
  have e := headBroadcastReceived_heard ha hs hf hg ht hh hk
  rw [State.headBroadcast_pulses (by rw [State.roused_port]; exact h)] at e
  obtain ⟨mode, commit, pulses, attention⟩ := (s.roused p).headPulse_port p
  rw [State.roused_port] at mode commit pulses attention
  refine ⟨_, e, mode, commit, ?_, attention, only_parts_of_exec e⟩
  rw [pulses, HeadRole.settle_pulses, State.roused_mayDrive]

theorem headBroadcastReceived_commit (ha : s.actsAsHead p = true) (hs : (s.port p).amp.stepped = false)
    (hf : readFrame f = some g) (hg : g.fromMaster = true) (ht : (s.port p).head.mode ≠ .turnaround)
    (hh : (s.port p).head.mode ≠ .hushed) (hk : g.kind = 4) (hc : g.type = tyCommit) (hl : g.payload.length = 2) :
    ∃ t, exec (.headBroadcastReceived p f) s = .next t ∧
      (t.port p).head = { (s.port p).head.settle with
        mode := .awake, commit := some (BitVec.ofNat 16 (fieldAt g.payload 0 2)) } ∧
      Only (parts (.headBroadcastReceived p f)) s t := by
  have e := headBroadcastReceived_heard ha hs hf hg ht hh hk
  have waits : (s.roused p).headBroadcast p g =
      (s.roused p).updRole p fun r => { r with commit := some (BitVec.ofNat 16 (fieldAt g.payload 0 2)) } := by
    unfold State.headBroadcast
    dsimp only
    rw [if_neg (by rw [hc]; decide), if_neg (by rw [hc]; decide), if_pos hc, if_pos hl]
  rw [waits] at e
  refine ⟨_, e, ?_, only_parts_of_exec e⟩
  rw [State.updRole_port, State.roused_port]

theorem headBroadcastReceived_wake (ha : s.actsAsHead p = true) (hs : (s.port p).amp.stepped = false)
    (hf : readFrame f = some g) (hg : g.fromMaster = true) (ht : (s.port p).head.mode ≠ .turnaround)
    (hh : (s.port p).head.mode ≠ .hushed) (hk : g.kind = 4) (hw : g.type = tyWake) :
    ∃ t, exec (.headBroadcastReceived p f) s = .next t ∧
      (t.port p).head = { (s.port p).head.settle with mode := .awake, commit := none } ∧
      Only (parts (.headBroadcastReceived p f)) s t := by
  have e := headBroadcastReceived_heard ha hs hf hg ht hh hk
  have awake : (s.roused p).headBroadcast p g = s.roused p := by
    unfold State.headBroadcast
    dsimp only
    rw [if_neg (by rw [hw]; decide), if_neg (by rw [hw]; decide), if_neg (by rw [hw]; decide)]
  rw [awake] at e
  refine ⟨_, e, ?_, only_parts_of_exec e⟩
  rw [State.roused_port]

end broadcast

end Sys2Proof.Machine
end

section
/-!
PROOFS. The sleep agreement of a Hedge bus and the events of a port that is its head (15 R469-R477), as a whole.
-/
set_option Elab.async false
namespace Sys2Proof.Machine

/-! ### A bus and its port -/

section bus
variable {s : State} {b k : BusNo} {p : PortNo} {f : List Byte}

theorem State.updBus_bus (s : State) (b : BusNo) (f : Bus → Bus) : (s.updBus b f).bus b = f (s.bus b) :=
  upd_get_self s.buses b f

theorem State.updBus_bus_ne (s : State) (f : Bus → Bus) (h : k ≠ b) : (s.updBus b f).bus k = s.bus k :=
  upd_get_ne s.buses f h

theorem Steps.bus {ps : List Part} {t : State} (h : Steps ps s t) (b : BusNo) (hb : ps.contains .buses = false := by rfl) :
    t.bus b = s.bus b :=
  congrArg (fun v : Vector Bus 8 => v.get b) (h.same .buses hb)

theorem State.readOwn_bus (s : State) (p : PortNo) (f : List Byte) (b : BusNo) : (s.readOwn p f).bus b = s.bus b :=
  (State.readOwn_steps (ps := [.mem, .pool, .draws, .irq, .bells, .events, .ports, .sluice, .journal, .dozeEvents]) p f
    (Steps.refl _ s) rfl).bus b

theorem hedgeFrame_isEmpty (kind addr : Nat) (t : BitVec 7) (toggle : Bool) (payload : List Byte) :
    (hedgeFrame kind addr t toggle payload).isEmpty = false := rfl

/-- A frame goes out as it is while the driver may be enabled. -/
theorem State.driveFrame_on (hp : s.hedgePort b = some p) (hd : s.mayDrive p = true) (hf : f.isEmpty = false) (pulse : Bool) :
    s.driveFrame b f pulse = (s.updBus b fun v => { v with sent := f, pulse := pulse }).readOwn p f := by
  unfold State.driveFrame
  rw [hp]
  dsimp only
  rw [hd, hf]
  simp

theorem State.driveFrame_bus (hp : s.hedgePort b = some p) (hd : s.mayDrive p = true) (hf : f.isEmpty = false) (pulse : Bool) :
    (s.driveFrame b f pulse).bus b = { s.bus b with sent := f, pulse := pulse } := by
  rw [State.driveFrame_on hp hd hf, State.readOwn_bus, State.updBus_bus]

theorem State.hedgePort_of_on (h : s.hedgeOn b = true) : ∃ p, s.hedgePort b = some p := by
  simp only [State.hedgeOn, Bool.and_eq_true] at h
  exact Option.isSome_iff_exists.1 h.2

theorem State.hedgePort_of_masterBus (h : s.masterBus p = some b) : s.hedgePort b = some p := by
  unfold State.masterBus at h
  split at h
  · split at h
    · next c _ runs =>
      cases h
      exact runs
    · cases h
  · cases h

theorem RoadKept.busRow {a : Bool} {t : State} (h : RoadKept a s t) (b : BusNo) : t.busRow b = s.busRow b := by
  have range := busRowAt_range b
  unfold State.busRow
  rw [h.memBytes (by omega)]

/-- A bus keeps its port where its row and the ports' roles stay. -/
theorem RoadKept.hedgePort {a : Bool} {t : State} (h : RoadKept a s t) (role : SameOn (fun q => q.rx.rx) s t) (b : BusNo) :
    t.hedgePort b = s.hedgePort b := by
  have slot : t.busPort b = s.busPort b := by
    unfold State.busPort
    rw [h.busRow b]
  have named (p : PortNo) : t.portBus p = s.portBus p := by
    unfold State.portBus
    simp only [h.busRow]
  have same (p : PortNo) : (t.port p).rx.rx = (s.port p).rx.rx := role p
  unfold State.hedgePort
  rw [slot]
  cases s.busPort b with
  | none => rfl
  | some p =>
    dsimp only
    rw [named p, same p]

theorem RoadKept.portEvent {a : Bool} {t : State} (h : RoadKept a s t) (p : PortNo) (code : Nat) (value : Option Nat) :
    RoadKept a s (t.portEvent p code value) := by
  have flagged : RoadKept a s (t.setSettings fun g => { g with portFlags := g.portFlags ||| BitVec.ofNat 48 (2 ^ p.val) }) :=
    h.still rfl
  have told {u : State} (k : RoadKept a s u) : RoadKept a s (u.tellEvent (portName p.val) p.val 0 code value) := by
    refine RoadKept.steps (ps := [.journal]) ?_ (State.record_steps _ _ _ _ (Steps.refl _ _) rfl)
    split
    · exact k.makeDevice _
    · exact k
  unfold State.portEvent State.tellOrKeep
  dsimp only
  split
  · exact flagged.still rfl
  · split
    · exact told (flagged.steps (State.ring_steps (ps := [.irq, .bells]) _ (Steps.refl _ _) rfl))
    · exact flagged

theorem RoadKept.readBack {a : Bool} {t : State} (h : RoadKept a s t) (p : PortNo) : RoadKept a s (t.readBack p) := by
  have read : RoadKept a s (t.draw.2.updPort p fun q => { q with amp := { q.amp with own := BitVec.ofNat 8 t.draw.1 } }) :=
    h.still rfl
  have told {u : State} (k : RoadKept a s u) (low : Bool) (code : Nat) (value : Option Nat) : RoadKept a s
      ((u.updPort p fun q => { q with amp := { q.amp with ownLow := low } }).portEvent p code value) :=
    RoadKept.portEvent (t := u.updPort p fun q => { q with amp := { q.amp with ownLow := low } }) (k.still rfl) p code value
  unfold State.readBack
  dsimp only
  split
  · exact read
  · split
    · exact told read true _ _
    · split
      · exact told read false _ _
      · exact read

theorem RoadKept.driveFrame {a : Bool} {t : State} (h : RoadKept a s t) (b : BusNo) (f : List Byte) (pulse : Bool) :
    RoadKept a s (t.driveFrame b f pulse) := by
  have sent (v : Bus → Bus) : RoadKept a s (t.updBus b v) := h.still rfl
  have read {u : State} (k : RoadKept a s u) (p : PortNo) : RoadKept a s (u.readOwn p f) := by
    unfold State.readOwn
    split
    · exact k.foldl f fun _ _ g => g.readBack p
    · exact k
  unfold State.driveFrame
  split
  · exact h
  · dsimp only
    split
    · exact read (sent _) _
    · exact sent _

theorem SameOn.driveFrame {κ : Type} {key : Port → κ} {t : State} (h : SameOn key s t)
    (ha : ∀ (q : Port) (a : Amp), key { q with amp := a } = key q) (b : BusNo) (f : List Byte) (pulse : Bool) :
    SameOn key s (t.driveFrame b f pulse) := by
  have sent (v : Bus → Bus) : SameOn key s (t.updBus b v) := h.steps (State.updBus_steps (ps := [.buses]) b v (Steps.refl _ t) rfl)
  unfold State.driveFrame
  split
  · exact h
  · dsimp only
    split
    · exact (sent _).readOwn ha _ _
    · exact sent _

theorem State.hedgePort_driveFrame (s : State) (b k : BusNo) (f : List Byte) (pulse : Bool) :
    (s.driveFrame b f pulse).hedgePort k = s.hedgePort k :=
  ((RoadKept.refl true s).driveFrame b f pulse).hedgePort (SameOn.driveFrame (SameOn.refl _ s) (fun _ _ => rfl) b f pulse) k

/-- The port a bus runs on has the master's role. -/
theorem State.role_of_hedgePort (h : s.hedgePort b = some p) : (s.port p).rx.rx = .master := by
  unfold State.hedgePort at h
  split at h
  · cases h
  · split at h
    · next role =>
      cases h
      exact role.1
    · cases h

/-- The bus that names a port has no other. -/
theorem State.busPort_of_portBus (h : s.portBus p = some b) : s.busPort b = some p := by
  have named : (s.busRow b).master = p.val := by simpa using List.find?_some h
  have small : (s.busRow b).master < 48 := named ▸ p.isLt
  unfold State.busPort
  dsimp only
  rw [dif_pos small]
  exact congrArg some (Fin.ext named)

/-- A head's port runs no bus. -/
theorem State.hedgeOn_of_head (hr : (s.port p).rx.rx = .head) (h : s.portBus p = some b) : s.hedgeOn b = false := by
  have none : s.hedgePort b = none := by
    unfold State.hedgePort
    rw [State.busPort_of_portBus h]
    exact if_neg fun role => by
      rw [hr] at role
      exact absurd role.1 (by decide)
  rw [State.hedgeOn, none]
  exact Bool.and_false _

theorem State.masterBus_of_head (hr : (s.port p).rx.rx = .head) : s.masterBus p = none := by
  cases h : s.masterBus p with
  | none => rfl
  | some b => exact absurd ((State.role_of_hedgePort (State.hedgePort_of_masterBus h)).symm.trans hr) (by decide)

theorem State.role_of_actsAsHead (h : s.actsAsHead p = true) : (s.port p).rx.rx = .head := by
  simp only [State.actsAsHead, Bool.and_eq_true, decide_eq_true_eq] at h
  exact h.1.2

end bus

/-! ### The sleep agreement (15 R469-R474) -/

section sleep
variable {s : State} {b : BusNo} {p : PortNo} {n : Nat}

theorem sleepPropose_proposes (ho : s.hedgeOn b = true) (hs : (s.busRow b).sleep = true) (hp : (s.bus b).state = .polling)
    (hi : (s.bus b).idle = true) (hn : 60 ≤ n) (hd : ∀ p, s.hedgePort b = some p → s.mayDrive p = true) :
    ∃ t, exec (.sleepPropose b n) s = .next t ∧ (t.bus b).sleep = .proposed ∧
      (t.bus b).sleepFor.toNat = min 6000 ((n - 2) / 10) ∧
      (t.bus b).sent = hedgeFrame 4 31 tyPropose false (leBytes 2 (min 6000 ((n - 2) / 10))) ∧
      Only (parts (.sleepPropose b n)) s t := by
  obtain ⟨p, port⟩ := State.hedgePort_of_on ho
  have x : exec (.sleepPropose b n) s = .next ((s.updBus b fun v => { v with
      sleep := .proposed, sleepFor := BitVec.ofNat 16 (min 6000 ((n - 2) / 10)) }).broadcast b tyPropose
        (leBytes 2 (min 6000 ((n - 2) / 10))) false) := if_pos (by simp [ho, hs, hp, hi, hn])
  have bus := State.driveFrame_bus (s := s.updBus b fun v => { v with
      sleep := .proposed, sleepFor := BitVec.ofNat 16 (min 6000 ((n - 2) / 10)) }) port (hd p port)
    (hedgeFrame_isEmpty 4 31 tyPropose false (leBytes 2 (min 6000 ((n - 2) / 10)))) false
  rw [State.updBus_bus] at bus
  refine ⟨_, x, (congrArg Bus.sleep bus :), (congrArg (fun v : Bus => v.sleepFor.toNat) bus).trans ?_,
    (congrArg Bus.sent bus :), only_parts_of_exec x⟩
  exact (BitVec.toNat_ofNat _ _).trans (Nat.mod_eq_of_lt (by omega))

theorem exec_sleepPropose_none (h : (s.busRow b).sleep = false ∨ n < 60 ∨ (s.bus b).idle = false) :
    exec (.sleepPropose b n) s = .next s := by
  refine if_neg ?_
  rcases h with off | short | busy
  · simp [off]
  · simp [Nat.not_le.2 short]
  · simp [busy]

theorem objectionWindowEnd_objected (ho : s.hedgeOn b = true) (hs : (s.bus b).sleep = .proposed) :
    ∃ t, exec (.objectionWindowEnd b true) s = .next t ∧ (t.bus b).sleep = .none ∧ (t.bus b).rollCall = some false ∧
      Only (parts (.objectionWindowEnd b true)) s t := by
  have x : exec (.objectionWindowEnd b true) s =
      .next (s.updBus b fun v => { v with sleep := .none, rollCall := some false }) := if_pos (by simp [ho, hs])
  refine ⟨_, x, ?_, ?_, only_parts_of_exec x⟩
  all_goals rw [State.updBus_bus]

theorem objectionWindowEnd_commits (ho : s.hedgeOn b = true) (hp : s.hedgePort b = some p)
    (hs : (s.bus b).sleep = .proposed) (hd : s.mayDrive p = true) :
    ∃ t, exec (.objectionWindowEnd b false) s = .next t ∧ (t.bus b).sleep = .committing ∧
      (t.bus b).sent = hedgeFrame 4 31 tyCommit false (leBytes 2 (s.bus b).sleepFor.toNat) ∧ (t.port p).fell = false ∧
      Only (parts (.objectionWindowEnd b false)) s t := by
  have frame := hedgeFrame_isEmpty 4 31 tyCommit false (leBytes 2 (s.bus b).sleepFor.toNat)
  have bus := State.driveFrame_bus (s := s.updBus b fun v => { v with sleep := .committing }) hp hd frame false
  have port : ((s.updBus b fun v => { v with sleep := .committing }).broadcast b tyCommit
      (leBytes 2 (s.bus b).sleepFor.toNat) false).hedgePort b = some p :=
    (State.hedgePort_driveFrame _ b b _ false).trans hp
  have x : exec (.objectionWindowEnd b false) s = .next (((s.updBus b fun v => { v with sleep := .committing }).broadcast b
      tyCommit (leBytes 2 (s.bus b).sleepFor.toNat) false).updPort p fun q => { q with fell := false }) := by
    refine (if_pos (by simp [ho, hs])).trans ((if_neg Bool.false_ne_true).trans ?_)
    dsimp only
    rw [port]
  rw [State.updBus_bus] at bus
  refine ⟨_, x, (congrArg Bus.sleep bus :), (congrArg Bus.sent bus :), ?_, only_parts_of_exec x⟩
  rw [State.updPort_port_same]

theorem exec_sleepBegins_bus (hm : s.masterBus p = some b) (ho : s.hedgeOn b = true) (hs : (s.bus b).sleep = .committing) :
    exec (.sleepBegins p) s = .next (s.updBus b fun v => { v with sleep := .none, state := .asleep }) := by
  show execSleepBegins p s = _
  unfold execSleepBegins
  rw [hm]
  exact if_pos (by simp [ho, hs])

theorem State.collide_bus (s : State) (b : BusNo) :
    (s.collide b).bus b = { s.bus b with collides := satAdd 0xFFFF (s.bus b).collides 1 } :=
  ((State.ring_steps (ps := [.irq, .bells]) _ (Steps.refl _ _) rfl).bus b).trans (s.updBus_bus b _)

theorem State.abortSleep_bus (s : State) (b : BusNo) : (s.abortSleep b).bus b = { s.bus b with
    sleep := .none, sleepAborts := satAdd 0xFFFF (s.bus b).sleepAborts 1, wake := some false, rollCall := some false } :=
  s.updBus_bus b _

theorem sleepAbort_aborts (onCommit : Bool) (ho : s.hedgeOn b = true) (hs : (s.bus b).sleep = .committing) :
    ∃ t, exec (.sleepAbort b onCommit) s = .next t ∧ (t.bus b).sleep = .none ∧
      (t.bus b).sleepAborts = min 0xFFFF ((s.bus b).sleepAborts + 1) ∧ (t.bus b).wake = some false ∧
      (t.bus b).rollCall = some false ∧
      (t.bus b).collides = (if onCommit then min 0xFFFF ((s.bus b).collides + 1) else (s.bus b).collides) ∧
      Only (parts (.sleepAbort b onCommit)) s t := by
  have x : exec (.sleepAbort b onCommit) s = .next ((if onCommit then s.collide b else s).abortSleep b) :=
    if_pos (by simp [ho, hs])
  have aborted := State.abortSleep_bus (if onCommit then s.collide b else s) b
  have before : ((if onCommit then s.collide b else s).bus b).sleepAborts = (s.bus b).sleepAborts ∧
      ((if onCommit then s.collide b else s).bus b).collides =
        (if onCommit then min 0xFFFF ((s.bus b).collides + 1) else (s.bus b).collides) := by
    cases onCommit
    · exact ⟨rfl, rfl⟩
    · simp only [if_true]
      rw [State.collide_bus]
      exact ⟨rfl, rfl⟩
  obtain ⟨aborts, collides⟩ := before
  refine ⟨_, x, (congrArg Bus.sleep aborted :), ?_, (congrArg Bus.wake aborted :), (congrArg Bus.rollCall aborted :),
    (congrArg Bus.collides aborted :).trans collides, only_parts_of_exec x⟩
  rw [aborted, ← aborts]
  rfl

theorem busWake_wakes (byPulse : Bool) (ho : s.hedgeOn b = true) (hp : s.hedgePort b = some p)
    (hs : (s.bus b).state = .asleep) (hw : (s.bus b).wake = none) :
    ∃ t, exec (.busWake b byPulse) s = .next t ∧ (t.bus b).wake = some (!byPulse && !(s.port p).fell) ∧
      (t.bus b).rollCall = some false ∧
      (t.bus b).attentions = (if byPulse then min 0xFFFF ((s.bus b).attentions + 1) else (s.bus b).attentions) ∧
      Only (parts (.busWake b byPulse)) s t := by
  have x : exec (.busWake b byPulse) s = .next (s.updBus b fun v =>
      { (if byPulse then v.attend else v) with wake := some (!(byPulse || (s.port p).fell)), rollCall := some false }) := by
    refine (if_pos (by simp [ho, hs, hw])).trans ?_
    rw [hp]
  refine ⟨_, x, ?_, ?_, ?_, only_parts_of_exec x⟩
  all_goals rw [State.updBus_bus]
  · rw [Bool.not_or]
  · cases byPulse <;> rfl

end sleep

/-! ### The events of a head (15 R456, R472-R477) -/

section head
variable {s : State} {p : PortNo} {x : List Byte}

theorem sleepBegins_head {n : Half} (ha : s.actsAsHead p = true) (hc : (s.port p).head.commit = some n) :
    ∃ t, exec (.sleepBegins p) s = .next t ∧
      (t.port p).head = { (s.port p).head with mode := .asleep, commit := none, sleepFor := n } ∧
      Only (parts (.sleepBegins p)) s t := by
  have x : exec (.sleepBegins p) s =
      .next (s.updRole p fun r => { r with mode := .asleep, commit := none, sleepFor := n }) := by
    show execSleepBegins p s = _
    unfold execSleepBegins
    rw [State.masterBus_of_head (State.role_of_actsAsHead ha)]
    dsimp only
    rw [ha, hc]
  refine ⟨_, x, ?_, only_parts_of_exec x⟩
  rw [State.updRole_port]

theorem exec_hedgeCommandSend_head (ha : s.actsAsHead p = true) :
    exec (.hedgeCommandSend p) s = .next ((s.updRole p HeadRole.settle).headSend p) := by
  show execHedgeCommandSend p s = _
  unfold execHedgeCommandSend
  rw [State.masterBus_of_head (State.role_of_actsAsHead ha)]
  exact if_pos ha

theorem hedgeCommandSend_replies (ha : s.actsAsHead p = true) (hm : (s.port p).head.mode = .turnaround)
    (hx : (s.port p).head.prepared = some x) : ∃ t, exec (.hedgeCommandSend p) s = .next t ∧
      (t.port p).head = (if s.mayDrive p then { (s.port p).head with mode := .sending, prepared := none, reply := x }
        else { (s.port p).head with mode := .awake, prepared := none, reply := [] }) ∧
      Only (parts (.hedgeCommandSend p)) s t := by
  have settled : (s.port p).head.settle = (s.port p).head := HeadRole.settle_other (by simp [hm])
  have e := exec_hedgeCommandSend_head ha
  refine ⟨_, e, ?_, only_parts_of_exec e⟩
  unfold State.headSend
  rw [State.updRole_port, settled, hm, hx]
  dsimp only
  rw [State.mayDrive_updRole]
  split
  · rw [SameOn.readOwn (key := Port.head) (SameOn.refl _ _) (fun _ _ => rfl) p x p, State.updRole_port, State.updRole_port,
      settled]
  · rw [State.updRole_port, State.updRole_port, settled]

theorem exec_hedgeCommandSend_silent (ha : s.actsAsHead p = true) (hm : (s.port p).head.mode ≠ .turnaround) :
    exec (.hedgeCommandSend p) s = .next (s.updRole p HeadRole.settle) := by
  rw [exec_hedgeCommandSend_head ha]
  refine congrArg Host.Outcome.next ?_
  have mode : ((s.updRole p HeadRole.settle).port p).head.mode ≠ .turnaround := by
    rw [State.updRole_port]
    show (s.port p).head.settle.mode ≠ _
    unfold HeadRole.settle
    split
    · exact nofun
    · exact hm
  unfold State.headSend
  split
  · next turnaround _ => exact absurd turnaround mode
  · rfl

theorem exec_headAttentionPulse (ha : s.actsAsHead p = true) : exec (.headAttentionPulse p) s =
    if (s.port p).head.settle.mayPulse then .next ((s.updRole p HeadRole.settle).headPulse p)
    else .next (s.updRole p HeadRole.settle) := by
  refine (if_pos ha).trans ?_
  rw [State.updRole_port]

theorem headAttentionPulse_pulses (ha : s.actsAsHead p = true) (hm : (s.port p).head.settle.mayPulse = true)
    (hd : s.mayDrive p = true) : ∃ t, exec (.headAttentionPulse p) s = .next t ∧
      (t.port p).head.pulses = (s.port p).head.pulses + 1 ∧ (t.port p).head.attention = true ∧
      Only (parts (.headAttentionPulse p)) s t := by
  have x := exec_headAttentionPulse ha
  rw [if_pos hm] at x
  obtain ⟨-, -, pulses, attention⟩ := (s.updRole p HeadRole.settle).headPulse_port p
  rw [State.mayDrive_updRole, State.updRole_port] at pulses
  rw [State.updRole_port] at attention
  have pending : (s.port p).head.settle.attention = true := (Bool.and_eq_true_iff.1 hm).1
  refine ⟨_, x, pulses.trans ?_, attention.trans pending, only_parts_of_exec x⟩
  rw [hd, HeadRole.settle_pulses]
  rfl

theorem exec_headAttentionPulse_none (ha : s.actsAsHead p = true)
    (h : (s.port p).head.settle.mayPulse = false ∨ s.mayDrive p = false) :
    exec (.headAttentionPulse p) s = .next (s.updRole p HeadRole.settle) := by
  rw [exec_headAttentionPulse ha]
  split
  · next pulses =>
    refine congrArg Host.Outcome.next (if_neg ?_)
    rw [State.mayDrive_updRole]
    simpa [pulses] using h
  · rfl

theorem headSleepEnds_wakes (ha : s.actsAsHead p = true) (hm : (s.port p).head.mode = .asleep) :
    ∃ t, exec (.headSleepEnds p) s = .next t ∧ (t.port p).head = { (s.port p).head with mode := .awake } ∧
      Only (parts (.headSleepEnds p)) s t := by
  have x : exec (.headSleepEnds p) s = .next (s.updRole p fun r => { r with mode := .awake }) := if_pos (by simp [ha, hm])
  refine ⟨_, x, ?_, only_parts_of_exec x⟩
  rw [State.updRole_port]

theorem exec_readbackMismatch_head (ha : s.actsAsHead p = true) (hm : (s.port p).head.mode = .sending) :
    exec (.readbackMismatch p) s = .next (s.updRole p fun r => { r with mode := .awake, reply := [] }) := by
  show execReadbackMismatch p s = _
  unfold execReadbackMismatch
  rw [State.masterBus_of_head (State.role_of_actsAsHead ha)]
  exact if_pos (by simp [ha, hm])

theorem busBlind_hushes (ha : s.actsAsHead p = true) : ∃ t, exec (.busBlind p) s = .next t ∧ (t.port p).fifo = [] ∧
      (t.port p).head = { (s.port p).head.settle with mode := .hushed, prepared := none, commit := none, reply := [] } ∧
      Only (parts (.busBlind p)) s t := by
  have x : exec (.busBlind p) s = .next ((s.dropFrame p).updRole p fun r => { r.settle with
      mode := .hushed, prepared := none, commit := none, reply := [] }) := by
    show execBusBlind p s = _
    unfold execBusBlind
    rw [State.masterBus_of_head (State.role_of_actsAsHead ha)]
    exact if_pos ha
  refine ⟨_, x, ?_, ?_, only_parts_of_exec x⟩
  all_goals simp

theorem exec_busRecovered_head (ha : s.actsAsHead p = true) (hm : (s.port p).head.mode = .hushed) :
    exec (.busRecovered p) s = .next (s.updRole p fun r => { r with mode := .awake }) := by
  show execBusRecovered p s = _
  unfold execBusRecovered
  rw [State.masterBus_of_head (State.role_of_actsAsHead ha)]
  exact if_pos (by simp [ha, hm])

theorem exec_frameGapTimeout_head (ha : s.alive = true) (hr : (s.port p).rx.rx = .head) :
    exec (.frameGapTimeout p) s = .next (s.dropFrame p) := by
  have role : ((s.dropFrame p).port p).rx.rx = .head := by
    rw [State.dropFrame_port]
    exact hr
  show execFrameGapTimeout p s = _
  unfold execFrameGapTimeout
  rw [if_neg (by simp [ha, hr])]
  dsimp only
  split
  · next b bus => exact if_neg (by rw [State.hedgeOn_of_head role bus]; decide)
  · rfl

theorem exec_frameAbandoned_head (ha : s.alive = true) (hr : (s.port p).rx.rx = .head) (hb : (s.port p).frameBad = true) :
    exec (.frameAbandoned p) s = .next (s.abandonFrame p) := by
  show execFrameAbandoned p s = _
  unfold execFrameAbandoned
  rw [if_neg (by simp [ha, hb]), State.masterBus_of_head hr]
  exact if_pos hr

/-- A port that answers as no head, and masters no bus, changes nothing. -/
theorem exec_noHead (f : List Half) (ha : s.actsAsHead p = false) : exec (.headCommandReceived p f) s = .next s ∧
    exec (.headBroadcastReceived p f) s = .next s ∧ exec (.headAttentionPulse p) s = .next s ∧
    exec (.headSleepEnds p) s = .next s ∧
    (s.masterBus p = none → exec (.hedgeCommandSend p) s = .next s ∧ exec (.readbackMismatch p) s = .next s ∧
      exec (.sleepBegins p) s = .next s ∧ exec (.busBlind p) s = .next s ∧ exec (.busRecovered p) s = .next s) := by
  refine ⟨if_neg (by simp [ha]), if_neg (by simp [ha]), if_neg (by simp [ha]), if_neg (by simp [ha]), fun hm => ?_⟩
  refine ⟨?_, ?_, ?_, ?_, ?_⟩
  · show execHedgeCommandSend p s = _
    unfold execHedgeCommandSend
    rw [hm]
    exact if_neg (by simp [ha])
  · show execReadbackMismatch p s = _
    unfold execReadbackMismatch
    rw [hm]
    exact if_neg (by simp [ha])
  · show execSleepBegins p s = _
    unfold execSleepBegins
    rw [hm]
    dsimp only
    rw [ha]
  · show execBusBlind p s = _
    unfold execBusBlind
    rw [hm]
    exact if_neg (by simp [ha])
  · show execBusRecovered p s = _
    unfold execBusRecovered
    rw [hm]
    exact if_neg (by simp [ha])

end head

/-- Settles O56: the sleep agreement step by step, and the head's part frame by frame. -/
theorem hedgeSleepAndTheHeadRole : Obligations.HedgeSleepAndTheHeadRole := by
  refine ⟨fun s b n => sleepPropose_proposes, fun s b n => exec_sleepPropose_none, fun s b => objectionWindowEnd_objected,
    fun s b p => objectionWindowEnd_commits, fun s b p => exec_sleepBegins_bus, fun s b onCommit => sleepAbort_aborts onCommit,
    fun s b p byPulse => busWake_wakes byPulse, fun s p f g ha hs hf hg ht hh hk hd hl ty hn => ?_,
    fun s p f g ha hs hf hg ht hh hk hd hl ty hn => ?_, fun s p f g ha hs hf hg ht hh hk hd hl ty hn => ?_,
    fun s p f g ha hs hf hg ht hh hk hd hl ty => ?_, fun s p f g x => headCommandReceived_repeat,
    fun s p f g => headCommandReceived_other, fun s p f => headCommandReceived_none, fun s p f => headReceived_stepped,
    fun s p f g => headReceived_deaf, fun s p f g => headBroadcastReceived_pulses, fun s p f g => headBroadcastReceived_commit,
    fun s p f g => headBroadcastReceived_wake, fun s p n => sleepBegins_head, fun s p x => hedgeCommandSend_replies,
    fun s p => exec_hedgeCommandSend_silent, fun r hm hr => ?_, fun r hm hr => ?_, fun r => HeadRole.settle_other,
    fun s p => headAttentionPulse_pulses, fun s p => exec_headAttentionPulse_none, fun s p => headSleepEnds_wakes,
    fun s p => exec_readbackMismatch_head, fun s p => busBlind_hushes, fun s p => exec_busRecovered_head,
    fun s p ha hr => ⟨exec_frameGapTimeout_head ha hr, exec_frameAbandoned_head ha hr⟩, fun s p f => exec_noHead f⟩
  · obtain ⟨t, e, head, rest⟩ := headCommandReceived_new ha hs hf hg ht hh hk hd (by rw [ty, hl]; rfl) (.inr (by rwa [ty])) rfl
    rw [State.replyFrame, ty] at head
    refine ⟨t, _, e, rfl, ?_, rest⟩
    rw [head, ← State.roused_report]
    rfl
  · obtain ⟨t, e, head, rest⟩ := headCommandReceived_new ha hs hf hg ht hh hk hd (by rw [ty, hl]; rfl) (.inr (by rwa [ty])) rfl
    rw [State.replyFrame, ty] at head
    exact ⟨t, _, e, rfl, head, rest⟩
  · obtain ⟨t, e, head, rest⟩ := headCommandReceived_new ha hs hf hg ht hh hk hd (by rw [ty, hl]; rfl) (.inr (by rwa [ty])) rfl
    rw [State.replyFrame, ty] at head
    exact ⟨t, _, e, rfl, head, rest⟩
  · obtain ⟨t, e, head, rest⟩ := headCommandReceived_new ha hs hf hg ht hh hk hd (by rw [ty, hl]; rfl) (.inl ty) rfl
    rw [State.replyFrame, ty] at head
    exact ⟨t, e, head, rest⟩
  · rw [HeadRole.settle_sending hm, hr]
    simp
  · rw [HeadRole.settle_sending hm, hr]
    simp

end Sys2Proof.Machine
end

section
/-!
PROOFS. Attempts of the Hedge master that fail: no reply, a bad or abandoned one, a gap, a mismatch (15 R449, R465-R467).
-/
set_option Elab.async false
namespace Sys2Proof.Machine

/-! ### Heads, and a bus after an exchange -/

section heads
variable {s : State} {b : BusNo} {h k : HeadNo} {f : Head → Head}

theorem State.updHead_head (s : State) (b : BusNo) (h : HeadNo) (f : Head → Head) :
    (s.updHead b h f).head b h = f (s.head b h) := upd_get_self s.heads (headIx b h) f

theorem State.updHead_head_ne (s : State) (b : BusNo) (f : Head → Head) (ne : k ≠ h) :
    (s.updHead b h f).head b k = s.head b k := by
  refine upd_get_ne s.heads f fun e => ne (Fin.ext ?_)
  have index : 30 * b.val + k.val = 30 * b.val + h.val := congrArg Fin.val e
  omega

theorem Steps.head {ps : List Part} {t : State} (g : Steps ps s t) (b : BusNo) (h : HeadNo)
    (hp : ps.contains .heads = false := by rfl) : t.head b h = s.head b h :=
  congrArg (fun v : Vector Head 240 => v.get (headIx b h)) (g.same .heads hp)

/-- A head event is told, and nothing of the bus, its heads or the ports changes. -/
theorem State.headEvent_keeps (s : State) (b : BusNo) (h : HeadNo) (code : Nat) :
    Steps [.mem, .pool, .draws, .irq, .bells, .sluice, .journal] s (s.headEvent b h code) :=
  State.headEvent_steps b h code (Steps.refl _ s) rfl

/-- A bus with the turn of another's grant, join and ROLL-CALL. -/
def Bus.turned (v w : Bus) : Bus :=
  { v with granting := w.granting, again := w.again, joinDue := w.joinDue, rollCall := w.rollCall, state := w.state }

theorem Bus.settle_eq (v : Bus) : v.settle = v.turned v.settle := by
  unfold Bus.settle
  dsimp only
  (repeat' split) <;> rfl

theorem State.endRetire_of_none (h : (s.bus b).retire = none) : s.endRetire b = s := by
  unfold State.endRetire
  rw [h]

theorem State.silence_bus (s : State) (b : BusNo) (h : HeadNo) : (s.silence b h).bus b = (s.bus b).dropHead h := by
  unfold State.silence
  dsimp only
  split
  · exact s.updBus_bus b _
  · rw [(State.headEvent_keeps _ b h evHeadSilent).bus b]
    exact s.updBus_bus b _

theorem State.silence_fails (s : State) (b : BusNo) (h : HeadNo) : ((s.silence b h).head b h).fails = (s.head b h).fails := by
  unfold State.silence
  dsimp only
  split
  · rfl
  · rw [(State.headEvent_keeps _ b h evHeadSilent).head b h, State.updHead_head]
    rfl

theorem State.silence_head_ne (s : State) (b : BusNo) (ne : k ≠ h) : (s.silence b h).head b k = s.head b k := by
  unfold State.silence
  dsimp only
  split
  · rfl
  · rw [(State.headEvent_keeps _ b h evHeadSilent).head b k, State.updHead_head_ne _ _ _ ne]
    rfl

theorem State.silence_keeps (s : State) (b : BusNo) (h : HeadNo) :
    Steps [.mem, .pool, .draws, .irq, .bells, .sluice, .buses, .heads, .journal] s (s.silence b h) :=
  State.silence_steps b h (Steps.refl _ s) rfl

end heads

/-! ### A failed attempt (15 R449) -/

/-- The attempt of `x` on bus `b` has failed: counted, repeated or its head SILENT, and nothing else of the bus has ended. -/
structure AttemptFailed (b : BusNo) (x : Exchange) (s t : State) : Prop where
  exchange : (t.bus b).exchange = none
  collides : (t.bus b).collides = (s.bus b).collides
  sent : (t.bus b).sent = (s.bus b).sent
  retire : (t.bus b).retire = (s.bus b).retire
  fails : (t.head b x.cmd.head).fails.toNat = min 255 ((s.head b x.cmd.head).fails.toNat + 1)
  retry : x.fails < 3 → (s.head b x.cmd.head).state ≠ hsSilent → (t.bus b).retry = some { x with fails := x.fails + 1 }
  silent : 3 ≤ x.fails → (t.head b x.cmd.head).state = hsSilent
  ports : ∀ p, t.port p = s.port p

section failed
variable {s : State} {b : BusNo} {x : Exchange}

/-- The attempt is counted, and the bus is free. -/
def State.failing (s : State) (b : BusNo) (x : Exchange) : State :=
  (s.updBus b fun v => { v with exchange := none }).updHead b x.cmd.head fun d =>
    { d with fails := BitVec.ofNat 8 (satAdd 255 d.fails.toNat 1) }

theorem State.failing_bus (s : State) (b : BusNo) (x : Exchange) :
    (s.failing b x).bus b = { s.bus b with exchange := none } := s.updBus_bus b _

theorem State.failing_head (s : State) (b : BusNo) (x : Exchange) : (s.failing b x).head b x.cmd.head =
    { s.head b x.cmd.head with fails := BitVec.ofNat 8 (satAdd 255 (s.head b x.cmd.head).fails.toNat 1) } :=
  State.updHead_head _ b _ _

theorem State.failing_fails (s : State) (b : BusNo) (x : Exchange) : ((s.failing b x).head b x.cmd.head).fails.toNat =
    min 255 ((s.head b x.cmd.head).fails.toNat + 1) := by
  rw [State.failing_head]
  refine (BitVec.toNat_ofNat _ _).trans (Nat.mod_eq_of_lt ?_)
  exact Nat.lt_of_le_of_lt (Nat.min_le_left _ _) (by decide)

theorem State.failing_port (s : State) (b : BusNo) (x : Exchange) (p : PortNo) : (s.failing b x).port p = s.port p := rfl

/-- A SET-LAMP that got no answer waits again. -/
def State.lampWaits (s : State) (b : BusNo) (c : HedgeCmd) : State :=
  if c.type = tySetLamp then s.updBus b fun v => { v with setLamps := c :: v.setLamps } else s

theorem State.lampWaits_bus (s : State) (b : BusNo) (c : HedgeCmd) : ∃ l, (s.lampWaits b c).bus b = { s.bus b with setLamps := l } := by
  unfold State.lampWaits
  split
  · exact ⟨_, s.updBus_bus b _⟩
  · exact ⟨_, rfl⟩

theorem State.lampWaits_keeps (s : State) (b : BusNo) (c : HedgeCmd) : Steps [.buses] s (s.lampWaits b c) :=
  Steps.ite (State.updBus_steps b _ (Steps.refl _ s) rfl) (Steps.refl _ s)

/-- What follows the count: a repeat to a head that is not SILENT yet, the fourth failure silences it. -/
def State.retried (s : State) (b : BusNo) (x : Exchange) : State :=
  if (s.head b x.cmd.head).state = hsSilent then
    ((s.failing b x).updHead b x.cmd.head fun d => { d with attn := false }).lampWaits b x.cmd
  else if x.fails + 1 < 4 then (s.failing b x).updBus b fun v => { v with retry := some { x with fails := x.fails + 1 } }
  else ((s.failing b x).silence b x.cmd.head).lampWaits b x.cmd

theorem State.failAttempt_eq (hx : (s.bus b).exchange = some x) (ha : (s.head b x.cmd.head).state ≠ hsAbsent)
    (hr : (s.head b x.cmd.head).state ≠ hsRetired) :
    s.failAttempt b = ((s.retried b x).updBus b Bus.settle).endRetire b := by
  unfold State.failAttempt
  rw [hx]
  exact if_neg fun gone => gone.elim ha hr

theorem State.retried_fails (s : State) (b : BusNo) (x : Exchange) : AttemptFailed b x s (s.retried b x) := by
  unfold State.retried
  have bus := s.failing_bus b x
  split
  · next silent =>
    obtain ⟨l, waits⟩ := State.lampWaits_bus ((s.failing b x).updHead b x.cmd.head fun d => { d with attn := false }) b x.cmd
    have keeps := State.lampWaits_keeps ((s.failing b x).updHead b x.cmd.head fun d => { d with attn := false }) b x.cmd
    have head := (keeps.head b x.cmd.head).trans (State.updHead_head _ b _ _)
    replace waits := waits.trans (congrArg (fun v : Bus => { v with setLamps := l }) bus)
    refine ⟨?_, ?_, ?_, ?_, ?_, fun _ loud => absurd silent loud, fun _ => ?_, fun p => keeps.port_eq p⟩
    · rw [waits]
    · rw [waits]
    · rw [waits]
    · rw [waits]
    · rw [head]
      exact s.failing_fails b x
    · rw [head, State.failing_head]
      exact silent
  · split
    · next few =>
      have retry := State.updBus_bus (s.failing b x) b fun v => { v with retry := some { x with fails := x.fails + 1 } }
      rw [bus] at retry
      refine ⟨?_, ?_, ?_, ?_, s.failing_fails b x, fun _ _ => ?_, fun _ => by omega, fun p => rfl⟩
      · rw [retry]
      · rw [retry]
      · rw [retry]
      · rw [retry]
      · rw [retry]
    · next many =>
      obtain ⟨l, waits⟩ := State.lampWaits_bus ((s.failing b x).silence b x.cmd.head) b x.cmd
      have keeps := State.lampWaits_keeps ((s.failing b x).silence b x.cmd.head) b x.cmd
      have quiet := State.silence_keeps (s.failing b x) b x.cmd.head
      rw [State.silence_bus, bus] at waits
      refine ⟨?_, ?_, ?_, ?_, ?_, fun few _ => by omega, fun _ => ?_, fun p => ?_⟩
      · rw [waits]
        rfl
      · rw [waits]
        rfl
      · rw [waits]
        rfl
      · rw [waits]
        rfl
      · rw [keeps.head, State.silence_fails]
        exact s.failing_fails b x
      · rw [keeps.head]
        exact State.silence_head _ _ _
      · rw [keeps.port_eq, quiet.port_eq]
        rfl

theorem AttemptFailed.settle {t : State} (h : AttemptFailed b x s t) : AttemptFailed b x s (t.updBus b Bus.settle) := by
  have turned : (t.updBus b Bus.settle).bus b = (t.bus b).turned (t.bus b).settle :=
    (t.updBus_bus b _).trans (Bus.settle_eq _)
  refine ⟨?_, ?_, ?_, ?_, h.fails, fun few loud => ?_, h.silent, h.ports⟩
  · rw [turned]
    exact h.exchange
  · rw [turned]
    exact h.collides
  · rw [turned]
    exact h.sent
  · rw [turned]
    exact h.retire
  · rw [turned]
    exact h.retry few loud

/-- An attempt fails where no HEAD-RETIRE waits for its end. -/
theorem State.failAttempt_fails (hx : (s.bus b).exchange = some x) (ha : (s.head b x.cmd.head).state ≠ hsAbsent)
    (hr : (s.head b x.cmd.head).state ≠ hsRetired) (hn : (s.bus b).retire = none) :
    AttemptFailed b x s (s.failAttempt b) := by
  have failed := (s.retried_fails b x).settle
  rw [State.failAttempt_eq hx ha hr, State.endRetire_of_none (failed.retire.trans hn)]
  exact failed

end failed

/-! ### What fails an attempt (15 R440, R448, R449, R465, R467) -/

section events
variable {s : State} {b : BusNo} {x : Exchange} {p : PortNo} {f : List Half}

theorem State.alive_of_hedgeOn (h : s.hedgeOn b = true) : s.alive = true := by
  simp only [State.hedgeOn, State.engineWorks, State.roadRuns, Bool.and_eq_true] at h
  exact h.1.1.1.1.1

theorem State.portBus_of_masterBus (h : s.masterBus p = some b) : s.portBus p = some b := by
  unfold State.masterBus at h
  split at h
  · next c named =>
    split at h
    · cases h
      exact named
    · cases h
  · cases h

theorem State.collide_keeps (s : State) (b : BusNo) : Steps [.irq, .bells, .buses] s (s.collide b) :=
  State.collide_steps b (Steps.refl _ s) rfl

theorem State.dropReply_keeps (s : State) (b : BusNo) : Steps [.ports] s (s.dropReply b) := by
  unfold State.dropReply
  split
  · exact State.dropFrame_steps _ (Steps.refl _ s) rfl
  · exact Steps.refl _ s

variable (hx : (s.bus b).exchange = some x) (ha : (s.head b x.cmd.head).state ≠ hsAbsent)
  (hr : (s.head b x.cmd.head).state ≠ hsRetired) (hn : (s.bus b).retire = none)
include hx ha hr hn

theorem replyTimeout_fails (ho : s.hedgeOn b = true) : ∃ t, exec (.replyTimeout b) s = .next t ∧ AttemptFailed b x s t ∧
    Only (parts (.replyTimeout b)) s t :=
  have x : exec (.replyTimeout b) s = .next (s.failAttempt b) := if_pos ho
  ⟨_, x, State.failAttempt_fails hx ha hr hn, only_parts_of_exec x⟩

/-- What leaves the bus and its heads leaves an attempt that fails as it was. -/
theorem State.failAttempt_after {ps : List Part} {u : State} (k : Steps ps s u) (hb : ps.contains .buses = false := by rfl)
    (hh : ps.contains .heads = false := by rfl) : AttemptFailed b x u (u.failAttempt b) := by
  have bus := k.bus b hb
  have head := k.head b x.cmd.head hh
  exact State.failAttempt_fails (bus ▸ hx) (head ▸ ha) (head ▸ hr) (bus ▸ hn)

theorem frameGapTimeout_fails (hm : s.masterBus p = some b) (ho : s.hedgeOn b = true) :
    ∃ t, exec (.frameGapTimeout p) s = .next t ∧ (t.port p).fifo = [] ∧ AttemptFailed b x (s.dropFrame p) t ∧
      Only (parts (.frameGapTimeout p)) s t := by
  have role := State.role_of_hedgePort (State.hedgePort_of_masterBus hm)
  have named : (s.dropFrame p).portBus p = some b := show s.portBus p = some b from State.portBus_of_masterBus hm
  have kept : Steps [.ports] s (s.dropFrame p) := State.dropFrame_steps p (Steps.refl _ s) rfl
  have on_ : (s.dropFrame p).hedgeOn b = true := by
    have roles : SameOn (fun q : Port => q.rx.rx) s (s.dropFrame p) := SameOn.updPort (SameOn.refl _ s) p fun _ => rfl
    have port : (s.dropFrame p).hedgePort b = s.hedgePort b :=
      RoadKept.hedgePort (s := s) (t := s.dropFrame p) ((RoadKept.refl true s).still (u := s.dropFrame p) rfl) roles b
    unfold State.hedgeOn at ho ⊢
    rw [port]
    exact ho
  have e : exec (.frameGapTimeout p) s = .next ((s.dropFrame p).failAttempt b) := by
    show execFrameGapTimeout p s = _
    unfold execFrameGapTimeout
    rw [if_neg (by simp [State.alive_of_hedgeOn ho, role])]
    dsimp only
    rw [named]
    exact if_pos on_
  have failed := State.failAttempt_after hx ha hr hn kept
  refine ⟨_, e, ?_, failed, only_parts_of_exec e⟩
  rw [failed.ports, State.dropFrame_port]

/-- The port once a frame on it is abandoned, a collision counted where a step was met. -/
def State.abandonedFrame (s : State) (b : BusNo) (p : PortNo) : State :=
  if (s.port p).amp.stepped then (s.abandonFrame p).collide b else s.abandonFrame p

omit hx ha hr hn in
theorem State.abandonReply_eq (hp : s.hedgePort b = some p) : s.abandonReply b = (s.abandonedFrame b p).failAttempt b := by
  unfold State.abandonReply State.replyStepped State.abandonedFrame
  rw [hp]

omit hx ha hr hn in
theorem State.abandonedFrame_bus (s : State) (b : BusNo) (p : PortNo) : (s.abandonedFrame b p).bus b = { s.bus b with
    collides := if (s.port p).amp.stepped then satAdd 0xFFFF (s.bus b).collides 1 else (s.bus b).collides } := by
  have kept : Steps [.ports] s (s.abandonFrame p) := State.abandonFrame_steps p (Steps.refl _ s) rfl
  unfold State.abandonedFrame
  split
  · rw [State.collide_bus, kept.bus b]
  · exact kept.bus b

omit hx ha hr hn in
theorem State.abandonedFrame_keeps (s : State) (b : BusNo) (p : PortNo) :
    Steps [.irq, .bells, .buses] (s.abandonFrame p) (s.abandonedFrame b p) :=
  Steps.ite (State.collide_keeps _ b) (Steps.refl _ _)

omit hx ha hr hn in
theorem State.abandonedFrame_head (s : State) (b : BusNo) (p : PortNo) (h : HeadNo) :
    (s.abandonedFrame b p).head b h = s.head b h := (s.abandonedFrame_keeps b p).head b h

/-- An abandoned reply fails the attempt. -/
theorem State.abandonReply_fails (hp : s.hedgePort b = some p) :
    AttemptFailed b x (s.abandonedFrame b p) (s.abandonReply b) := by
  have bus := s.abandonedFrame_bus b p
  have head := s.abandonedFrame_head b p x.cmd.head
  rw [State.abandonReply_eq hp]
  refine State.failAttempt_fails ?_ (head ▸ ha) (head ▸ hr) ?_
  · rw [bus]
    exact hx
  · rw [bus]
    exact hn

theorem frameAbandoned_fails (hm : s.masterBus p = some b) (hb : (s.port p).frameBad = true) (ho : s.hedgeOn b = true) :
    ∃ t, exec (.frameAbandoned p) s = .next t ∧ (t.port p).fifo = [] ∧ (t.port p).edge = none ∧
        (t.port p).hold = .character ∧
      (t.bus b).collides = (if (s.port p).amp.stepped then min 0xFFFF ((s.bus b).collides + 1) else (s.bus b).collides) ∧
      AttemptFailed b x (s.abandonedFrame b p) t ∧ Only (parts (.frameAbandoned p)) s t := by
  have e : exec (.frameAbandoned p) s = .next (s.abandonReply b) := by
    show execFrameAbandoned p s = _
    unfold execFrameAbandoned
    rw [if_neg (by simp [State.alive_of_hedgeOn ho, hb]), hm]
    exact if_pos ho
  have failed := State.abandonReply_fails hx ha hr hn (State.hedgePort_of_masterBus hm)
  have port := (failed.ports p).trans ((s.abandonedFrame_keeps b p).port_eq p)
  rw [State.abandonFrame_port] at port
  refine ⟨_, e, ?_, ?_, ?_, ?_, failed, only_parts_of_exec e⟩
  · rw [port]
  · rw [port]
  · rw [port]
  · rw [failed.collides, State.abandonedFrame_bus]
    rfl

/-- The state in which a bad reply's attempt fails. -/
def State.badReply (s : State) (b : BusNo) (p : PortNo) : State :=
  if (s.port p).amp.stepped then s.abandonedFrame b p else s.dropFrame p

theorem replyAccepted_fails (hp : s.hedgePort b = some p) (ho : s.hedgeOn b = true)
    (hf : s.replyStepped b = true ∨ (∀ g, readFrame f = some g → x.answeredBy g = false)) :
    ∃ t, exec (.replyAccepted b f) s = .next t ∧ (t.bus b).exchange = none ∧
      (t.bus b).collides = (if s.replyStepped b then min 0xFFFF ((s.bus b).collides + 1) else (s.bus b).collides) ∧
      AttemptFailed b x (s.badReply b p) t ∧ Only (parts (.replyAccepted b f)) s t := by
  have met : s.replyStepped b = (s.port p).amp.stepped := by
    unfold State.replyStepped
    rw [hp]
  have heard : exec (.replyAccepted b f) s =
      if s.replyStepped b then .next (s.abandonReply b) else .next ((s.dropReply b).takeReply b f) :=
    if_pos (by simp [ho, hx])
  cases stepped : (s.port p).amp.stepped with
  | true =>
    rw [met, stepped, if_pos rfl] at heard
    have failed := State.abandonReply_fails hx ha hr hn hp
    refine ⟨_, heard, failed.exchange, ?_, by rwa [State.badReply, if_pos stepped], only_parts_of_exec heard⟩
    rw [failed.collides, State.abandonedFrame_bus, stepped, met, stepped]
    rfl
  | false =>
    have dropped : s.dropReply b = s.dropFrame p := by
      unfold State.dropReply
      rw [hp]
    have kept : Steps [.ports] s (s.dropFrame p) := State.dropFrame_steps p (Steps.refl _ s) rfl
    have bad : (s.dropFrame p).takeReply b f = (s.dropFrame p).failAttempt b := by
      unfold State.takeReply
      rw [kept.bus b, hx]
      dsimp only
      cases read : readFrame f with
      | none => rfl
      | some g =>
        have unfit := (hf.resolve_left (by rw [met, stepped]; decide)) g read
        exact if_neg (by rw [unfit]; decide)
    rw [met, stepped, if_neg Bool.false_ne_true, dropped, bad] at heard
    have failed := State.failAttempt_after hx ha hr hn kept
    refine ⟨_, heard, failed.exchange, ?_, by rwa [State.badReply, if_neg (by rw [stepped]; decide)], only_parts_of_exec heard⟩
    rw [failed.collides, kept.bus b, met, stepped]
    rfl

/-- The frame that was cut is forgotten, and the collision counted. -/
def State.cutSent (s : State) (b : BusNo) : State := (s.updBus b fun v => { v with sent := [] }).collide b

omit hx ha hr hn in
theorem State.cutSent_bus (s : State) (b : BusNo) : (s.cutSent b).bus b =
    { s.bus b with sent := [], collides := satAdd 0xFFFF (s.bus b).collides 1 } := by
  rw [State.cutSent, State.collide_bus, State.updBus_bus]

omit hx ha hr hn in
theorem State.cutSent_head (s : State) (b : BusNo) (h : HeadNo) : (s.cutSent b).head b h = s.head b h :=
  (State.collide_keeps _ b).head b h

omit hx ha hr hn in
theorem exec_readbackMismatch_bus (hm : s.masterBus p = some b) (hs : (s.bus b).sent ≠ []) (ho : s.hedgeOn b = true) :
    exec (.readbackMismatch p) s = .next (s.cutFrame b) := by
  show execReadbackMismatch p s = _
  unfold execReadbackMismatch
  rw [hm]
  exact if_pos (by simp [ho, hs])

theorem readbackMismatch_fails (hm : s.masterBus p = some b) (hs : (s.bus b).sent ≠ []) (ho : s.hedgeOn b = true) :
    ∃ t, exec (.readbackMismatch p) s = .next t ∧ (t.bus b).collides = min 0xFFFF ((s.bus b).collides + 1) ∧
      (t.bus b).sent = [] ∧ AttemptFailed b x (s.cutSent b) t ∧ Only (parts (.readbackMismatch p)) s t := by
  have cut : s.cutFrame b = (s.cutSent b).failAttempt b := if_pos (by rw [hx]; rfl)
  have e := exec_readbackMismatch_bus hm hs ho
  rw [cut] at e
  have bus := s.cutSent_bus b
  have head := s.cutSent_head b x.cmd.head
  have failed : AttemptFailed b x (s.cutSent b) ((s.cutSent b).failAttempt b) := by
    refine State.failAttempt_fails ?_ (head ▸ ha) (head ▸ hr) ?_
    · rw [bus]
      exact hx
    · rw [bus]
      exact hn
  refine ⟨_, e, ?_, ?_, failed, only_parts_of_exec e⟩
  · rw [failed.collides, bus]
    rfl
  · rw [failed.sent, bus]

end events

/-! ### What else a mismatch cuts (15 R467) -/

section cut
variable {s : State} {b : BusNo} {p : PortNo} {mode : Bool}

theorem exec_replyTimeout_none (hx : (s.bus b).exchange = none) : exec (.replyTimeout b) s = .next s := by
  have still : s.failAttempt b = s := by
    unfold State.failAttempt
    rw [hx]
  show execReplyTimeout b s = _
  unfold execReplyTimeout
  rw [still, ite_self]

theorem exec_frameAbandoned_none (h : (s.port p).frameBad = false) : exec (.frameAbandoned p) s = .next s :=
  if_pos (by simp [h])

theorem exec_readbackMismatch_none (hm : s.masterBus p = some b) (hs : (s.bus b).sent = []) :
    exec (.readbackMismatch p) s = .next s := by
  show execReadbackMismatch p s = _
  unfold execReadbackMismatch
  rw [hm]
  exact if_neg (by simp [hs])

theorem readbackMismatch_recalls (hm : s.masterBus p = some b) (hs : (s.bus b).sent ≠ []) (ho : s.hedgeOn b = true)
    (hx : (s.bus b).exchange = none) (hr : (s.bus b).rolling = some mode) :
    ∃ t, exec (.readbackMismatch p) s = .next t ∧ (t.bus b).collides = min 0xFFFF ((s.bus b).collides + 1) ∧
      (t.bus b).sent = [] ∧ (t.bus b).rolling = none ∧ (t.bus b).rollCall = some mode ∧
      Only (parts (.readbackMismatch p)) s t := by
  have cut : s.cutFrame b = (s.cutSent b).updBus b fun v => { v with rolling := none, rollCall := some mode } := by
    refine (if_neg (by rw [hx]; decide)).trans ?_
    rw [hr]
    rfl
  have e := exec_readbackMismatch_bus hm hs ho
  rw [cut] at e
  have bus := State.updBus_bus (s.cutSent b) b fun v => { v with rolling := none, rollCall := some mode }
  rw [State.cutSent_bus] at bus
  refine ⟨_, e, ?_, ?_, ?_, ?_, only_parts_of_exec e⟩
  all_goals rw [bus]
  rfl

theorem readbackMismatch_aborts (hm : s.masterBus p = some b) (hs : (s.bus b).sent ≠ []) (ho : s.hedgeOn b = true)
    (hx : (s.bus b).exchange = none) (hr : (s.bus b).rolling = none) (hc : (s.bus b).sleep = .committing) :
    ∃ t, exec (.readbackMismatch p) s = .next t ∧ (t.bus b).collides = min 0xFFFF ((s.bus b).collides + 1) ∧
      (t.bus b).sent = [] ∧ (t.bus b).sleep = .none ∧ (t.bus b).wake = some false ∧ (t.bus b).rollCall = some false ∧
      (t.bus b).sleepAborts = min 0xFFFF ((s.bus b).sleepAborts + 1) ∧ Only (parts (.readbackMismatch p)) s t := by
  have cut : s.cutFrame b = (s.cutSent b).abortSleep b := by
    refine (if_neg (by rw [hx]; decide)).trans ?_
    rw [hr, hc]
    rfl
  have e := exec_readbackMismatch_bus hm hs ho
  rw [cut] at e
  have bus := (s.cutSent b).abortSleep_bus b
  rw [State.cutSent_bus] at bus
  refine ⟨_, e, ?_, ?_, ?_, ?_, ?_, ?_, only_parts_of_exec e⟩
  all_goals rw [bus]
  · rfl
  · rfl

end cut

end Sys2Proof.Machine
end

section
/-!
PROOFS. What the Hedge master sends next (15 R447, R449-R452, R455, R458, R474).
-/
set_option Elab.async false
namespace Sys2Proof.Machine

/-! ### A frame and an attempt on the bus -/

section attempt
variable {s u : State} {b : BusNo} {p : PortNo} {x : Exchange} {c : HedgeCmd}

theorem State.driveFrame_bus_sent (s : State) (b : BusNo) (f : List Byte) (pulse : Bool) :
    ∃ l q, (s.driveFrame b f pulse).bus b = { s.bus b with sent := l, pulse := q } := by
  unfold State.driveFrame
  split
  · exact ⟨_, _, rfl⟩
  · next p port =>
    dsimp only
    split
    · exact ⟨_, _, (State.readOwn_bus _ _ _ _).trans (s.updBus_bus b _)⟩
    · exact ⟨_, _, s.updBus_bus b _⟩

theorem State.driveFrame_head (s : State) (b : BusNo) (f : List Byte) (pulse : Bool) (h : HeadNo) :
    (s.driveFrame b f pulse).head b h = s.head b h :=
  (State.driveFrame_steps (ps := [.mem, .pool, .draws, .irq, .bells, .events, .ports, .sluice, .buses, .journal, .dozeEvents])
    b f pulse (Steps.refl _ s) rfl).head b h

/-- While no fault is injected an attempt is driven as it is. -/
theorem State.attempt_plain (off : s.injectOn = false) : s.attempt b x =
    (s.updBus b fun v => { v with exchange := some x }).driveFrame b
      (hedgeFrame 0 (x.cmd.head.val + 1) x.cmd.type x.toggle x.cmd.payload) false := by
  have still (port : Nat) (f : Nat → Bool) : s.injectAt 3 port f = (none, s) := by
    unfold State.injectAt State.injectPeek State.injectStep
    rw [off]
    rfl
  unfold State.attempt
  dsimp only
  rw [still]

theorem State.attempt_bus (off : s.injectOn = false) : ∃ l q, (s.attempt b x).bus b =
    { s.bus b with exchange := some x, sent := l, pulse := q } := by
  rw [State.attempt_plain off]
  obtain ⟨l, q, sent⟩ := State.driveFrame_bus_sent (s.updBus b fun v => { v with exchange := some x }) b
    (hedgeFrame 0 (x.cmd.head.val + 1) x.cmd.type x.toggle x.cmd.payload) false
  rw [State.updBus_bus] at sent
  exact ⟨l, q, sent⟩

theorem State.attempt_head (off : s.injectOn = false) (h : HeadNo) : (s.attempt b x).head b h = s.head b h := by
  rw [State.attempt_plain off]
  exact State.driveFrame_head _ b _ _ h

theorem State.attempt_sent (off : s.injectOn = false) (hp : s.hedgePort b = some p) (hd : s.mayDrive p = true) :
    (s.attempt b x).bus b = { s.bus b with
      exchange := some x
      sent := hedgeFrame 0 (x.cmd.head.val + 1) x.cmd.type x.toggle x.cmd.payload
      pulse := false } := by
  have driven := State.driveFrame_bus (s := s.updBus b fun v => { v with exchange := some x }) hp hd
    (hedgeFrame_isEmpty 0 (x.cmd.head.val + 1) x.cmd.type x.toggle x.cmd.payload) false
  rw [State.updBus_bus] at driven
  rw [State.attempt_plain off, driven]

/-- A new command to a head goes out. -/
def State.sendCommand (s : State) (b : BusNo) (c : HedgeCmd) : State :=
  (s.newCommand b c).1.attempt b (s.newCommand b c).2

/-- The frame of command `c` is on bus `b`, from state `s` to `t`: its toggle is the head's next one. -/
structure CommandSent (b : BusNo) (c : HedgeCmd) (s t : State) : Prop where
  bus : ∃ l q, t.bus b = { s.bus b with
    exchange := some { cmd := c, toggle := (t.head b c.head).toggle, fails := 0 }, sent := l, pulse := q }
  toggle : (t.head b c.head).toggle = (!(s.head b c.head).fresh && !(s.head b c.head).toggle)
  fresh : (t.head b c.head).fresh = decide (c.type = tyResync)

theorem State.sendCommand_sent (off : s.injectOn = false) (c : HedgeCmd) :
    CommandSent b c s (s.sendCommand b c) := by
  have off' : (s.newCommand b c).1.injectOn = false := off
  have head : (s.sendCommand b c).head b c.head =
      { s.head b c.head with
        toggle := !(s.head b c.head).fresh && !(s.head b c.head).toggle, fresh := decide (c.type = tyResync) } :=
    (State.attempt_head off' c.head).trans (s.updHead_head b c.head _)
  refine ⟨?_, by rw [head], by rw [head]⟩
  rw [head]
  exact State.attempt_bus off'

/-! ### A POLL, or the SET-LAMP before it -/

theorem State.pollOrLamp_bus (s : State) (b : BusNo) (h : HeadNo) :
    ∃ l, (s.pollOrLamp b h).1.bus b = { s.bus b with setLamps := l } := by
  unfold State.pollOrLamp
  split
  · exact ⟨_, s.updBus_bus b _⟩
  · exact ⟨_, rfl⟩

theorem State.pollOrLamp_state (s : State) (b : BusNo) (h : HeadNo) :
    (s.pollOrLamp b h).1.heads = s.heads ∧ (s.pollOrLamp b h).1.injectOn = s.injectOn := by
  unfold State.pollOrLamp
  split <;> exact ⟨rfl, rfl⟩

theorem State.pollOrLamp_cmd_head (s : State) (b : BusNo) (h : HeadNo) : (s.pollOrLamp b h).2.1.head = h := by
  unfold State.pollOrLamp
  split
  · next c found => simpa using List.find?_some found
  · rfl

theorem State.pollOrLamp_poll {h : HeadNo} (none : ∀ c, c ∈ (s.bus b).setLamps → c.head ≠ h) :
    (s.pollOrLamp b h).2.1 = hedgeCmd h tyPoll [] ∧ (s.pollOrLamp b h).2.2 = false := by
  have missing : (s.bus b).setLamps.find? (fun c => decide (c.head = h)) = .none :=
    List.find?_eq_none.2 fun c mem => by simpa using none c mem
  unfold State.pollOrLamp
  rw [missing]
  exact ⟨rfl, rfl⟩

theorem State.pollOrLamp_lamp {h : HeadNo} (found : (s.bus b).setLamps.find? (fun c => decide (c.head = h)) = some c) :
    (s.pollOrLamp b h).2.1 = c ∧ (s.pollOrLamp b h).2.2 = decide ((s.head b h).state ≠ hsSilent) := by
  unfold State.pollOrLamp
  rw [found]
  exact ⟨rfl, rfl⟩

/-- The head's POLL or SET-LAMP, once its turn on the bus is taken by `f`. -/
def State.turnTaken (s : State) (b : BusNo) (h : HeadNo) (f : Bool → Bus → Bus) : State :=
  (s.pollOrLamp b h).1.updBus b (f (s.pollOrLamp b h).2.2)

theorem State.turnTaken_sent (off : s.injectOn = false) (h : HeadNo) (f : Bool → Bus → Bus) {t : State}
    (ht : t = (s.turnTaken b h f).sendCommand b (s.pollOrLamp b h).2.1) :
    (∃ l m q, t.bus b = { f (s.pollOrLamp b h).2.2 { s.bus b with setLamps := l } with
      exchange := some { cmd := (s.pollOrLamp b h).2.1, toggle := (t.head b h).toggle, fails := 0 }
      sent := m
      pulse := q }) ∧
    (t.head b h).toggle = (!(s.head b h).fresh && !(s.head b h).toggle) := by
  subst ht
  obtain ⟨heads, inject⟩ := s.pollOrLamp_state b h
  obtain ⟨l, lamps⟩ := s.pollOrLamp_bus b h
  have sent := State.sendCommand_sent (s := s.turnTaken b h f) (b := b) (inject.trans off) (s.pollOrLamp b h).2.1
  have bus : (s.turnTaken b h f).bus b = f (s.pollOrLamp b h).2.2 { s.bus b with setLamps := l } :=
    (State.updBus_bus _ b _).trans (congrArg _ lamps)
  have head : (s.turnTaken b h f).head b h = s.head b h :=
    congrArg (fun v : Vector Head 240 => v.get (headIx b h)) heads
  obtain ⟨m, q, driven⟩ := sent.bus
  have toggle := sent.toggle
  rw [s.pollOrLamp_cmd_head b h, bus] at driven
  rw [s.pollOrLamp_cmd_head b h, head] at toggle
  exact ⟨⟨l, m, q, driven⟩, toggle⟩

end attempt

/-! ### The choice of the next frame -/

section next
variable {s : State} {b : BusNo} {p : PortNo} {x : Exchange}

theorem exec_hedgeCommandSend (hm : s.masterBus p = some b) :
    exec (.hedgeCommandSend p) s = if s.maySend b then .next (s.sendNext b) else .next s := by
  show execHedgeCommandSend p s = _
  unfold execHedgeCommandSend
  rw [hm]

theorem exec_hedgeCommandSend_none (hm : s.masterBus p = some b) (hs : s.maySend b = false) :
    exec (.hedgeCommandSend p) s = .next s :=
  (exec_hedgeCommandSend hm).trans (if_neg (by simp [hs]))

theorem exec_hedgeCommandSend_next (hm : s.masterBus p = some b) (hs : s.maySend b = true) :
    exec (.hedgeCommandSend p) s = .next (s.sendNext b) :=
  (exec_hedgeCommandSend hm).trans (if_pos hs)

theorem hedgeCommandSend_wakes {pulse : Bool} (hm : s.masterBus p = some b) (hs : s.maySend b = true)
    (hw : (s.bus b).wake = some pulse) (hd : s.mayDrive p = true) :
    ∃ t, exec (.hedgeCommandSend p) s = .next t ∧ (t.bus b).wake = none ∧ (t.bus b).state = .polling ∧
      (t.bus b).sent = hedgeFrame 4 31 tyWake false [] ∧ (t.bus b).pulse = pulse ∧
      Only (parts (.hedgeCommandSend p)) s t := by
  have e := exec_hedgeCommandSend_next hm hs
  have wakes : s.sendNext b =
      (s.updBus b fun v => { v with wake := none, state := .polling }).broadcast b tyWake [] pulse := by
    unfold State.sendNext
    dsimp only
    rw [hw]
  have bus := State.driveFrame_bus (s := s.updBus b fun v => { v with wake := none, state := .polling })
    (State.hedgePort_of_masterBus hm) hd (hedgeFrame_isEmpty 4 31 tyWake false []) pulse
  rw [State.updBus_bus] at bus
  rw [wakes] at e
  exact ⟨_, e, (congrArg Bus.wake bus :), (congrArg Bus.state bus :), (congrArg Bus.sent bus :), (congrArg Bus.pulse bus :),
    only_parts_of_exec e⟩

variable (hw : (s.bus b).wake = none)
include hw

theorem hedgeCommandSend_rollCall {mode : Bool} (hm : s.masterBus p = some b) (hs : s.maySend b = true)
    (hr : (s.bus b).rollCall = some mode) (hd : s.mayDrive p = true) :
    ∃ t, exec (.hedgeCommandSend p) s = .next t ∧ (t.bus b).rollCall = none ∧ (t.bus b).rolling = some mode ∧
      (t.bus b).sent = hedgeFrame 4 31 tyRollCall false [if mode then 1 else 0] ∧ (t.bus b).retry = none ∧
      (t.bus b).parked = (s.bus b).retry.toList ++ (s.bus b).parked ∧ Only (parts (.hedgeCommandSend p)) s t := by
  have e := exec_hedgeCommandSend_next hm hs
  have calls : s.sendNext b = (s.updBus b fun v => { v with
      rollCall := none, rolling := some mode, retry := none
      parked := (s.bus b).retry.toList ++ v.parked }).broadcast b tyRollCall [if mode then 1 else 0] false := by
    unfold State.sendNext
    dsimp only
    rw [hw, hr]
  have bus := State.driveFrame_bus (s := s.updBus b fun v => { v with
      rollCall := none, rolling := some mode, retry := none, parked := (s.bus b).retry.toList ++ v.parked })
    (State.hedgePort_of_masterBus hm) hd (hedgeFrame_isEmpty 4 31 tyRollCall false [if mode then 1 else 0]) false
  rw [State.updBus_bus] at bus
  rw [calls] at e
  exact ⟨_, e, (congrArg Bus.rollCall bus :), (congrArg Bus.rolling bus :), (congrArg Bus.sent bus :),
    (congrArg Bus.retry bus :), (congrArg Bus.parked bus :), only_parts_of_exec e⟩

variable (hr : (s.bus b).rollCall = none)
include hr

theorem hedgeCommandSend_repeats (hm : s.masterBus p = some b) (hs : s.maySend b = true) (hy : (s.bus b).retry = some x)
    (off : s.injectOn = false) (hd : s.mayDrive p = true) :
    ∃ t, exec (.hedgeCommandSend p) s = .next t ∧ (t.bus b).retry = none ∧ (t.bus b).exchange = some x ∧
      (t.bus b).sent = hedgeFrame 0 (x.cmd.head.val + 1) x.cmd.type x.toggle x.cmd.payload ∧
      Only (parts (.hedgeCommandSend p)) s t := by
  have e := exec_hedgeCommandSend_next hm hs
  have repeats : s.sendNext b = (s.updBus b fun v => { v with retry := none }).attempt b x := by
    unfold State.sendNext
    dsimp only
    rw [hw, hr, hy]
  have bus := State.attempt_sent (s := s.updBus b fun v => { v with retry := none }) (x := x) off
    (State.hedgePort_of_masterBus hm) hd
  rw [State.updBus_bus] at bus
  rw [repeats] at e
  exact ⟨_, e, (congrArg Bus.retry bus :), (congrArg Bus.exchange bus :), (congrArg Bus.sent bus :), only_parts_of_exec e⟩

variable (hy : (s.bus b).retry = none)
include hy

/-- With nothing more urgent the next command goes out. -/
theorem State.sendNext_pick {u : State} (hp : State.pickCommand 128 s b = (u, some x)) : s.sendNext b = u.attempt b x := by
  unfold State.sendNext
  dsimp only
  rw [hw, hr, hy, hp]

theorem hedgeCommandSend_grant {h : HeadNo} {r : List HeadNo} (hm : s.masterBus p = some b) (hs : s.maySend b = true)
    (hg : (s.bus b).grant = h :: r) (hp : s.pollable b h = true) (off : s.injectOn = false) :
    ∃ t, exec (.hedgeCommandSend p) s = .next t ∧
      (t.bus b).exchange = some { cmd := (s.pollOrLamp b h).2.1, toggle := (t.head b h).toggle, fails := 0 } ∧
      (t.bus b).grant = (if (s.pollOrLamp b h).2.2 then h :: r else r) ∧
      (t.head b h).toggle = (!(s.head b h).fresh && !(s.head b h).toggle) ∧ Only (parts (.hedgeCommandSend p)) s t := by
  have e := exec_hedgeCommandSend_next hm hs
  have next : s.sendNext b = (s.turnTaken b h fun lamp v => { v with
      grant := if lamp then v.grant else r }).sendCommand b (s.pollOrLamp b h).2.1 := by
    refine State.sendNext_pick hw hr hy ?_
    rw [State.pickCommand]
    dsimp only
    rw [hg]
    exact if_pos hp
  rw [next] at e
  obtain ⟨⟨l, m, q, bus⟩, toggle⟩ := State.turnTaken_sent off h
    (fun lamp v => { v with grant := if lamp then v.grant else r }) rfl
  refine ⟨_, e, (congrArg Bus.exchange bus :), (congrArg Bus.grant bus :).trans ?_, toggle, only_parts_of_exec e⟩
  rw [hg]

variable (hg : (s.bus b).grant = [])
include hg

theorem hedgeCommandSend_parked {r : List Exchange} (hm : s.masterBus p = some b) (hs : s.maySend b = true)
    (hk : (s.bus b).parked = x :: r) (off : s.injectOn = false) (hd : s.mayDrive p = true) :
    ∃ t, exec (.hedgeCommandSend p) s = .next t ∧ (t.bus b).parked = r ∧ (t.bus b).exchange = some x ∧
      (t.bus b).sent = hedgeFrame 0 (x.cmd.head.val + 1) x.cmd.type x.toggle x.cmd.payload ∧
      Only (parts (.hedgeCommandSend p)) s t := by
  have e := exec_hedgeCommandSend_next hm hs
  have next : State.pickCommand 128 s b = (s.updBus b fun v => { v with parked := r }, some x) := by
    rw [State.pickCommand, hg, hk]
  have bus := State.attempt_sent (s := s.updBus b fun v => { v with parked := r }) (x := x) off
    (State.hedgePort_of_masterBus hm) hd
  rw [State.updBus_bus] at bus
  rw [State.sendNext_pick hw hr hy next] at e
  exact ⟨_, e, (congrArg Bus.parked bus :), (congrArg Bus.exchange bus :), (congrArg Bus.sent bus :), only_parts_of_exec e⟩

variable (hk : (s.bus b).parked = [])
include hk

theorem hedgeCommandSend_queue {c : HedgeCmd} {r : List HedgeCmd} (hm : s.masterBus p = some b) (hs : s.maySend b = true)
    (hq : (s.bus b).queue = c :: r) (hj : (s.head b c.head).state = hsJoining) (off : s.injectOn = false) :
    ∃ t, exec (.hedgeCommandSend p) s = .next t ∧ (t.bus b).queue = r ∧
      (t.bus b).exchange = some { cmd := c, toggle := (t.head b c.head).toggle, fails := 0 } ∧
      (t.head b c.head).toggle = (!(s.head b c.head).fresh && !(s.head b c.head).toggle) ∧
      (t.head b c.head).fresh = decide (c.type = tyResync) ∧ Only (parts (.hedgeCommandSend p)) s t := by
  have e := exec_hedgeCommandSend_next hm hs
  have next : s.sendNext b = (s.updBus b fun v => { v with queue := r }).sendCommand b c := by
    refine State.sendNext_pick hw hr hy ?_
    rw [State.pickCommand]
    dsimp only
    rw [hg, hk, hq]
    exact if_pos hj
  rw [next] at e
  have sent :=
    State.sendCommand_sent (s := s.updBus b fun v => { v with queue := r }) (b := b) off c
  obtain ⟨l, q, bus⟩ := sent.bus
  rw [State.updBus_bus] at bus
  exact ⟨_, e, (congrArg Bus.queue bus :), (congrArg Bus.exchange bus :), sent.toggle, sent.fresh, only_parts_of_exec e⟩

theorem hedgeCommandSend_round {h : HeadNo} {r : List HeadNo} (hm : s.masterBus p = some b) (hs : s.maySend b = true)
    (hq : (s.bus b).queue = []) (hn : (s.bus b).round = h :: r) (hp : s.pollable b h = true) (off : s.injectOn = false) :
    ∃ t, exec (.hedgeCommandSend p) s = .next t ∧
      (t.bus b).exchange = some { cmd := (s.pollOrLamp b h).2.1, toggle := (t.head b h).toggle, fails := 0 } ∧
      (t.bus b).round = (if (s.pollOrLamp b h).2.2 then h :: r else r) ∧
      (t.head b h).toggle = (!(s.head b h).fresh && !(s.head b h).toggle) ∧ Only (parts (.hedgeCommandSend p)) s t := by
  have e := exec_hedgeCommandSend_next hm hs
  have next : s.sendNext b = (s.turnTaken b h fun lamp v => { v with
      round := if lamp then v.round else r }).sendCommand b (s.pollOrLamp b h).2.1 := by
    refine State.sendNext_pick hw hr hy ?_
    rw [State.pickCommand]
    dsimp only
    rw [hg, hk, hq, hn]
    exact if_pos hp
  rw [next] at e
  obtain ⟨⟨l, m, q, bus⟩, toggle⟩ := State.turnTaken_sent off h
    (fun lamp v => { v with round := if lamp then v.round else r }) rfl
  refine ⟨_, e, (congrArg Bus.exchange bus :), (congrArg Bus.round bus :).trans ?_, toggle, only_parts_of_exec e⟩
  rw [hn]

end next

end Sys2Proof.Machine
end

section
/-!
PROOFS. An accepted reply: the lamps of a REPORT, and what becomes of its head (15 R448, R461-R463, 16 R492).
-/
set_option Elab.async false
namespace Sys2Proof.Machine

/-! ### The lamps that a REPORT gives (16 R492, R495) -/

section report
variable {s : State} {b : BusNo} {h : HeadNo} {payload : List Byte} {l k : LampNo} {i : Nat}

/-- A lamp that is number `i` of this head. -/
def Lamp.numbered (b : BusNo) (h : HeadNo) (i : Nat) (p : Lamp) : Bool :=
  lampUsed p.row && decide (lampBus p.row = b) && decide (lampHead p.row = h.val + 1) && decide (lampNo p.row = i)

/-- One lamp meets entry `i` of the REPORT. -/
def State.reportTurn (b : BusNo) (h : HeadNo) (payload : List Byte) (i : Nat) (s : State) (l : LampNo) : State :=
  if (s.lamp l).numbered b h i then
    s.confirmLamp l (byteAt payload (2 + 4 * i)) (BitVec.ofNat 16 (fieldAt payload (3 + 4 * i) 2))
      (BitVec.ofNat 8 (byteAt payload (5 + 4 * i)))
  else s

/-- Every lamp meets entry `i` of the REPORT. -/
def State.reportEntry (b : BusNo) (h : HeadNo) (payload : List Byte) (s : State) (i : Nat) : State :=
  s.eachLamp (State.reportTurn b h payload i)

theorem State.takeReport_eq (s : State) (b : BusNo) (h : HeadNo) (payload : List Byte) :
    s.takeReport b h payload = (List.range (byteAt payload 1)).foldl (State.reportEntry b h payload) s := rfl

theorem State.reportTurn_calm (c : (State.reportTurn b h payload i s l).calm) : s.calm := by
  unfold State.reportTurn at c
  split at c
  · exact State.changeLamp_calm c
  · exact c

theorem State.reportTurn_lamp_ne (s : State) (ne : k ≠ l) : (State.reportTurn b h payload i s l).lamp k = s.lamp k := by
  unfold State.reportTurn
  split
  · exact s.changeLamp_lamp_ne _ _ _ ne
  · rfl

theorem State.reportTurn_row (s : State) (l : LampNo) :
    ((State.reportTurn b h payload i s l).lamp l).row = (s.lamp l).row := by
  unfold State.reportTurn
  split
  · refine (State.changeLamp_field Lamp.row (fun _ _ => rfl) (fun _ _ => rfl) s l _ _ _).trans ?_
    unfold Lamp.reported
    dsimp only
    (repeat' split) <;> rfl
  · rfl

theorem State.reportEntry_calm (c : (State.reportEntry b h payload s i).calm) : s.calm :=
  calm_of_foldl (fun _ _ => State.reportTurn_calm) c

/-- A lamp that is not the entry's keeps what it was, and one that is keeps its row. -/
theorem State.reportEntry_lamp (s : State) (i : Nat) (l : LampNo) :
    ∃ t, t.lamp l = s.lamp l ∧ (State.reportEntry b h payload s i).lamp l = (State.reportTurn b h payload i t l).lamp l := by
  obtain ⟨t, -, met, left⟩ := foldl_key_of_mem (I := fun _ => True) (f := State.reportTurn b h payload i) (key := State.lamp)
    (fun _ _ _ => trivial) (fun t _ _ _ => t.reportTurn_lamp_ne) (s := s) trivial (List.nodup_finRange 1024) (List.mem_finRange l)
  exact ⟨t, met, left⟩

/-- The lamp, shown at its own number. -/
def State.lampShown (l : LampNo) (s : State) (i : Nat) : Option Lamp :=
  if lampNo (s.lamp l).row = i then some (s.lamp l) else none

theorem State.reportEntry_shown_ne (s : State) (l : LampNo) {j : Nat} (ne : j ≠ i) :
    (State.reportEntry b h payload s i).lampShown l j = s.lampShown l j := by
  obtain ⟨t, met, left⟩ := s.reportEntry_lamp (b := b) (h := h) (payload := payload) i l
  unfold State.lampShown
  rw [left]
  by_cases own : lampNo (s.lamp l).row = i
  · rw [State.reportTurn_row, met, if_neg (own ▸ ne.symm), if_neg (own ▸ ne.symm)]
  · have other : (t.lamp l).numbered b h i = false := by
      rw [met]
      simp [Lamp.numbered, own]
    have still : State.reportTurn b h payload i t l = t := if_neg fun on_ => by simp [other] at on_
    rw [still, met]

/-- The lamp of an entry, met while no alarm waits. -/
theorem State.reportEntry_own (c : (State.reportEntry b h payload s i).calm) (hl : (s.lamp l).numbered b h i = true)
    (hs : byteAt payload (2 + 4 * i) < 5) (ht : (s.lamp l).testRuns = false) :
    (((State.reportEntry b h payload s i).lamp l).state.toNat = byteAt payload (2 + 4 * i)) ∧
    ((State.reportEntry b h payload s i).lamp l).held = false ∧
    ((State.reportEntry b h payload s i).lamp l).injected = false ∧
    ((State.reportEntry b h payload s i).lamp l).cold = false := by
  unfold State.reportEntry State.eachLamp at c ⊢
  obtain ⟨t, -, -, after, met, left⟩ := foldl_key_of_calm (I := fun _ => True) (f := State.reportTurn b h payload i)
    (key := State.lamp) (x := l) (fun _ _ => State.reportTurn_calm) (fun _ _ _ => trivial)
    (fun t _ _ => t.reportTurn_lamp_ne) trivial (List.nodup_finRange 1024) (List.mem_finRange l) c
  have turn : State.reportTurn b h payload i t l = t.confirmLamp l (byteAt payload (2 + 4 * i))
      (BitVec.ofNat 16 (fieldAt payload (3 + 4 * i) 2)) (BitVec.ofNat 8 (byteAt payload (5 + 4 * i))) :=
    if_pos (met ▸ hl)
  have reported (r : Report) : (t.lamp l).reported (byteAt payload (2 + 4 * i)) r =
      { t.lamp l with
        state := BitVec.ofNat 3 (byteAt payload (2 + 4 * i)), held := false, injected := false, report := some r
        cold := false } :=
    (if_neg (Nat.not_le.2 hs)).trans (if_neg (by rw [met, ht]; decide))
  rw [turn] at after left
  unfold State.confirmLamp at after left
  rw [left]
  refine ⟨?_, (State.changeLamp_held after).trans ?_, (State.changeLamp_injected after).trans ?_,
    (State.changeLamp_field Lamp.cold (fun _ _ => rfl) (fun _ _ => rfl) t l _ _ _).trans ?_⟩
  · rw [State.changeLamp_state after, reported]
    exact (BitVec.toNat_ofNat _ _).trans (Nat.mod_eq_of_lt (by omega))
  · rw [reported]
  · rw [reported]
  · rw [reported]

/-- Where no alarm waits at the end, a lamp that the REPORT gives is in the state given. -/
theorem State.takeReport_lamp (c : (s.takeReport b h payload).calm) (hl : (s.lamp l).numbered b h i = true)
    (hi : i < byteAt payload 1) (hs : byteAt payload (2 + 4 * i) < 5) (ht : (s.lamp l).testRuns = false) :
    ((s.takeReport b h payload).lamp l).state.toNat = byteAt payload (2 + 4 * i) ∧
    ((s.takeReport b h payload).lamp l).held = false ∧ ((s.takeReport b h payload).lamp l).injected = false ∧
    ((s.takeReport b h payload).lamp l).cold = false := by
  have own (p : Lamp) (hp : p.numbered b h i = true) : lampNo p.row = i := by
    simp only [Lamp.numbered, Bool.and_eq_true, decide_eq_true_eq] at hp
    exact hp.2
  rw [State.takeReport_eq] at c ⊢
  obtain ⟨t, -, -, after, met, left⟩ := foldl_key_of_calm (I := fun _ => True) (f := State.reportEntry b h payload)
    (key := State.lampShown l) (x := i) (s := s) (fun _ _ => State.reportEntry_calm) (fun _ _ _ => trivial)
    (fun t _ _ ne => t.reportEntry_shown_ne l ne) trivial List.nodup_range (List.mem_range.2 hi) c
  have start : s.lampShown l i = some (s.lamp l) := if_pos (own _ hl)
  have same : t.lamp l = s.lamp l := by
    rw [start, State.lampShown] at met
    split at met
    · exact Option.some.inj met
    · cases met
  obtain ⟨u, umet, uleft⟩ := t.reportEntry_lamp (b := b) (h := h) (payload := payload) i l
  have shown : (State.reportEntry b h payload t i).lampShown l i = some ((State.reportEntry b h payload t i).lamp l) := by
    refine if_pos ?_
    rw [uleft, State.reportTurn_row, umet, same]
    exact own _ hl
  have last : ((List.range (byteAt payload 1)).foldl (State.reportEntry b h payload) s).lamp l =
      (State.reportEntry b h payload t i).lamp l := by
    rw [shown, State.lampShown] at left
    split at left
    · exact Option.some.inj left
    · cases left
  rw [last]
  exact State.reportEntry_own after (same ▸ hl) hs (same ▸ ht)

theorem State.takeReport_keeps (s : State) (b : BusNo) (h : HeadNo) (payload : List Byte) :
    Steps [.mem, .pool, .draws, .irq, .bells, .ports, .tx, .sluice, .lamps, .pair, .journal, .tag, .inject] s
      (s.takeReport b h payload) :=
  State.takeReport_steps b h payload (Steps.refl _ s) rfl

end report

/-! ### The head that answered (15 R461-R463, R481) -/

section head
variable {s : State} {b : BusNo} {h : HeadNo} {payload : List Byte} {x : Exchange}

/-- A head that is not SILENT answered a POLL: a JOINING one is ACTIVE. -/
def State.headHeard (s : State) (b : BusNo) (h : HeadNo) : State :=
  if (s.head b h).state = hsJoining then
    if (s.head b h).wasLost then
      ((s.updHead b h fun d => { d with attn := false }).updHead b h fun d =>
        { d with state := hsActive, wasLost := false }).headEvent b h evHeadBack
    else (s.updHead b h fun d => { d with attn := false }).updHead b h fun d => { d with state := hsActive, wasLost := false }
  else s.updHead b h fun d => { d with attn := false }

theorem State.acceptReport_loud (loud : (s.head b h).state ≠ hsSilent) : s.acceptReport b h payload =
    if ((s.headHeard b h).head b h).state = hsActive ∧ !((s.headHeard b h).head b h).mismatch then
      (s.headHeard b h).takeReport b h payload
    else s.headHeard b h := by
  unfold State.acceptReport
  dsimp only
  exact if_neg loud

theorem State.acceptReport_silent (silent : (s.head b h).state = hsSilent) :
    s.acceptReport b h payload = (s.updHead b h fun d => { d with attn := false }).joinHead b h := if_pos silent

theorem State.headHeard_keeps (s : State) (b : BusNo) (h : HeadNo) :
    Steps [.mem, .pool, .draws, .irq, .bells, .sluice, .heads, .journal] s (s.headHeard b h) := by
  have quiet : Steps [.mem, .pool, .draws, .irq, .bells, .sluice, .heads, .journal] s
      (s.updHead b h fun d => { d with attn := false }) := State.updHead_steps b h _ (Steps.refl _ s) rfl
  have active := State.updHead_steps b h (fun d => { d with state := hsActive, wasLost := false }) quiet rfl
  exact Steps.ite (Steps.ite (State.headEvent_steps b h _ active rfl) active) quiet

theorem State.headHeard_head (s : State) (b : BusNo) (h : HeadNo) : ∃ lost, (s.headHeard b h).head b h =
    { s.head b h with
      attn := false, wasLost := lost
      state := if (s.head b h).state = hsJoining then hsActive else (s.head b h).state } := by
  have quiet := s.updHead_head b h fun d => { d with attn := false }
  have active := (s.updHead b h fun d => { d with attn := false }).updHead_head b h fun d =>
    { d with state := hsActive, wasLost := false }
  rw [quiet] at active
  unfold State.headHeard
  by_cases joining : (s.head b h).state = hsJoining
  · rw [if_pos joining, if_pos joining]
    by_cases lost : (s.head b h).wasLost = true
    · rw [if_pos lost, (State.headEvent_keeps _ b h _).head b h, active]
      exact ⟨_, rfl⟩
    · rw [if_neg lost, active]
      exact ⟨_, rfl⟩
  · rw [if_neg joining, if_neg joining, quiet]
    exact ⟨_, rfl⟩

/-- What an accepted reply to `x` leaves of its head, from state `s` to `t`. -/
structure HeadAnswered (b : BusNo) (x : Exchange) (s t : State) : Prop where
  exchange : (t.bus b).exchange = (s.bus b).exchange
  retire : (t.bus b).retire = (s.bus b).retire
  fails : (t.head b x.cmd.head).fails = (s.head b x.cmd.head).fails
  attn : x.cmd.type = tyPoll → (t.head b x.cmd.head).attn = false
  joined : x.cmd.type = tyPoll → (s.head b x.cmd.head).state = hsJoining → (t.head b x.cmd.head).state = hsActive
  back : x.cmd.type ≠ tyInventory → (s.head b x.cmd.head).state = hsSilent → (t.head b x.cmd.head).state = hsJoining

/-- What an accepted reply does before the exchange is over. -/
def State.headAnswers (s : State) (b : BusNo) (x : Exchange) (payload : List Byte) : State :=
  if x.cmd.type = tyPoll then s.acceptReport b x.cmd.head payload
  else if x.cmd.type = tyInventory then s.acceptInventory b x.cmd.head payload
  else if (s.head b x.cmd.head).state = hsSilent then s.joinHead b x.cmd.head
  else s

theorem State.joinHead_bus (s : State) (b : BusNo) (h : HeadNo) : (s.joinHead b h).bus b =
    { s.bus b with queue := (s.bus b).queue ++ [hedgeCmd h tyResync [], hedgeCmd h tyInventory []] } :=
  State.updBus_bus (s.updHead b h fun d => { d with state := hsJoining, attn := false }) b _

theorem State.joinHead_head_eq (s : State) (b : BusNo) (h : HeadNo) :
    (s.joinHead b h).head b h = { s.head b h with state := hsJoining, attn := false } := s.updHead_head b h _

theorem State.acceptReport_answers (_ : x.cmd.type = tyPoll) (payload : List Byte) :
    HeadAnswered b x s (s.acceptReport b x.cmd.head payload) := by
  by_cases silent : (s.head b x.cmd.head).state = hsSilent
  · have bus := (s.updHead b x.cmd.head fun d => { d with attn := false }).joinHead_bus b x.cmd.head
    have head := (s.updHead b x.cmd.head fun d => { d with attn := false }).joinHead_head_eq b x.cmd.head
    rw [s.updHead_head b x.cmd.head fun d => { d with attn := false }] at head
    rw [State.acceptReport_silent silent]
    refine ⟨?_, ?_, ?_, fun _ => ?_, fun _ joining => ?_, fun _ _ => ?_⟩
    · rw [bus]
      rfl
    · rw [bus]
      rfl
    · rw [head]
    · rw [head]
    · rw [silent] at joining
      exact absurd joining (by decide)
    · rw [head]
  · have kept : Steps [.mem, .pool, .draws, .irq, .bells, .ports, .tx, .sluice, .lamps, .pair, .journal, .tag, .inject]
        (s.headHeard b x.cmd.head) (s.acceptReport b x.cmd.head payload) := by
      rw [State.acceptReport_loud silent]
      exact Steps.ite (State.takeReport_keeps _ b _ payload) (Steps.refl _ _)
    obtain ⟨lost, heard⟩ := s.headHeard_head b x.cmd.head
    have head := (kept.head b x.cmd.head).trans heard
    have bus := (kept.bus b).trans ((s.headHeard_keeps b x.cmd.head).bus b)
    refine ⟨?_, ?_, ?_, fun _ => ?_, fun _ joining => ?_, fun _ quiet => absurd quiet silent⟩
    · rw [bus]
    · rw [bus]
    · rw [head]
    · rw [head]
    · rw [head]
      exact if_pos joining

theorem State.acceptInventory_fails (s : State) (b : BusNo) (h : HeadNo) (payload : List Byte) :
    ((s.acceptInventory b h payload).head b h).fails = (s.head b h).fails := by
  unfold State.acceptInventory
  extract_lets row maker lamps bad was seen recorded
  have kept : Steps [.journal] seen recorded := State.record_steps _ _ _ _ (Steps.refl _ seen) rfl
  have head : recorded.head b h = _ := (kept.head b h).trans (s.updHead_head b h _)
  split
  · rw [(State.headEvent_keeps _ b h _).head b h, head]
  · rw [head]

theorem State.headAnswers_answered (s : State) (b : BusNo) (x : Exchange) (payload : List Byte) :
    HeadAnswered b x s (s.headAnswers b x payload) := by
  unfold State.headAnswers
  split
  · next poll => exact State.acceptReport_answers poll payload
  · next other =>
    split
    · next inventory =>
      have kept : Steps [.mem, .pool, .draws, .irq, .bells, .sluice, .heads, .journal] s
          (s.acceptInventory b x.cmd.head payload) := State.acceptInventory_steps _ _ _ (Steps.refl _ s) rfl
      have bus := kept.bus b
      exact ⟨by rw [bus], by rw [bus], s.acceptInventory_fails b _ payload, fun poll => absurd poll other,
        fun poll => absurd poll other, fun asked => absurd inventory asked⟩
    · split
      · have bus := s.joinHead_bus b x.cmd.head
        have head := s.joinHead_head_eq b x.cmd.head
        exact ⟨by rw [bus], by rw [bus], by rw [head], fun poll => absurd poll other, fun poll => absurd poll other,
          fun _ _ => by rw [head]⟩
      · next loud =>
        exact ⟨rfl, rfl, rfl, fun poll => absurd poll other, fun poll => absurd poll other, fun _ quiet => absurd quiet loud⟩

end head

/-! ### The exchange ends (15 R448) -/

section accepted
variable {s : State} {b : BusNo} {x : Exchange} {f : List Half} {g : HedgeFrame}

/-- The bus with no exchange in progress. -/
def State.exchangeOver (s : State) (b : BusNo) : State := s.updBus b fun v => { v with exchange := none }

theorem State.exchangeOver_bus (s : State) (b : BusNo) : (s.exchangeOver b).bus b = { s.bus b with exchange := none } :=
  s.updBus_bus b _

theorem State.acceptReply_eq (ha : (s.head b x.cmd.head).state ≠ hsAbsent) (hr : (s.head b x.cmd.head).state ≠ hsRetired)
    (hn : (s.bus b).retire = none) : s.acceptReply b x g =
    ((s.exchangeOver b).headAnswers b x g.payload).updBus b Bus.settle := by
  have ended := s.exchangeOver_bus b
  have retire := (State.headAnswers_answered (s.exchangeOver b) b x g.payload).retire
  have settled : ((((s.exchangeOver b).headAnswers b x g.payload).updBus b Bus.settle).bus b).retire = none := by
    rw [State.updBus_bus, Bus.settle_eq]
    refine retire.trans ?_
    rw [ended]
    exact hn
  have answers : s.acceptReply b x g =
      (((s.exchangeOver b).headAnswers b x g.payload).updBus b Bus.settle).endRetire b := by
    unfold State.acceptReply
    extract_lets h u st v
    have same : v = (s.exchangeOver b).headAnswers b x g.payload := if_neg fun gone => gone.elim ha hr
    rw [same]
  rw [answers, State.endRetire_of_none settled]

theorem exec_replyAccepted {p : PortNo} (hp : s.hedgePort b = some p) (ho : s.hedgeOn b = true)
    (hs : s.replyStepped b = false) (hx : (s.bus b).exchange = some x) (hf : readFrame f = some g)
    (hg : x.answeredBy g = true) (off : s.injectOn = false) :
    exec (.replyAccepted b f) s = .next ((s.dropFrame p).acceptReply b x g) := by
  have dropped : s.dropReply b = s.dropFrame p := by
    unfold State.dropReply
    rw [hp]
  have still (port : Nat) (e : Nat → Bool) : (s.dropFrame p).injectAt 3 port e = (none, s.dropFrame p) := by
    have off' : (s.dropFrame p).injectOn = false := off
    unfold State.injectAt State.injectPeek State.injectStep
    rw [off']
    rfl
  have kept : Steps [.ports] s (s.dropFrame p) := State.dropFrame_steps p (Steps.refl _ s) rfl
  have taken : (s.dropFrame p).takeReply b f = (s.dropFrame p).acceptReply b x g := by
    unfold State.takeReply
    rw [kept.bus b, hx]
    dsimp only
    rw [hf]
    dsimp only
    rw [if_pos hg, still]
  refine (if_pos (by simp [ho, hx])).trans ((if_neg (by rw [hs]; decide)).trans ?_)
  rw [dropped, taken]

theorem replyAccepted_accepts (ho : s.hedgeOn b = true) (hs : s.replyStepped b = false) (hx : (s.bus b).exchange = some x)
    (ha : (s.head b x.cmd.head).state ≠ hsAbsent) (hr : (s.head b x.cmd.head).state ≠ hsRetired)
    (hn : (s.bus b).retire = none) (hf : readFrame f = some g) (hg : x.answeredBy g = true) (off : s.injectOn = false) :
    ∃ t, exec (.replyAccepted b f) s = .next t ∧ (t.bus b).exchange = none ∧
      (t.head b x.cmd.head).fails = (s.head b x.cmd.head).fails ∧
      (x.cmd.type = tyPoll → (t.head b x.cmd.head).attn = false) ∧
      (x.cmd.type = tyPoll → (s.head b x.cmd.head).state = hsJoining → (t.head b x.cmd.head).state = hsActive) ∧
      (x.cmd.type ≠ tyInventory → (s.head b x.cmd.head).state = hsSilent → (t.head b x.cmd.head).state = hsJoining) ∧
      (x.cmd.type = tyPoll → (s.head b x.cmd.head).state = hsActive → (s.head b x.cmd.head).mismatch = false →
        t.sluice.alarmWaits = [] →
        ∀ l : LampNo, lampUsed (s.lamp l).row = true → lampBus (s.lamp l).row = b →
          lampHead (s.lamp l).row = x.cmd.head.val + 1 → lampNo (s.lamp l).row < byteAt g.payload 1 →
          byteAt g.payload (2 + 4 * lampNo (s.lamp l).row) < 5 → (s.lamp l).testRuns = false →
          (t.lamp l).state.toNat = byteAt g.payload (2 + 4 * lampNo (s.lamp l).row) ∧ (t.lamp l).held = false ∧
          (t.lamp l).injected = false ∧ (t.lamp l).cold = false) ∧ Only (parts (.replyAccepted b f)) s t := by
  obtain ⟨p, port⟩ := State.hedgePort_of_on ho
  have kept : Steps [.ports] s (s.dropFrame p) := State.dropFrame_steps p (Steps.refl _ s) rfl
  have bus := kept.bus b
  have head := kept.head b x.cmd.head
  have e := exec_replyAccepted port ho hs hx hf hg off
  rw [State.acceptReply_eq (head ▸ ha) (head ▸ hr) (bus ▸ hn)] at e
  have ended := State.exchangeOver_bus (s.dropFrame p) b
  have before : ((s.dropFrame p).exchangeOver b).head b x.cmd.head = s.head b x.cmd.head := head
  have told := State.headAnswers_answered ((s.dropFrame p).exchangeOver b) b x g.payload
  refine ⟨_, e, ?_, told.fails, told.attn, told.joined, told.back, ?_, only_parts_of_exec e⟩
  · rw [State.updBus_bus, Bus.settle_eq]
    refine told.exchange.trans ?_
    rw [ended]
  · intro poll active match_ calm l used onBus ofHead given known idle
    have loud : (((s.dropFrame p).exchangeOver b).head b x.cmd.head).state ≠ hsSilent := by
      rw [before, active]
      decide
    obtain ⟨lost, heard⟩ := ((s.dropFrame p).exchangeOver b).headHeard_head b x.cmd.head
    have takes : ((s.dropFrame p).exchangeOver b).headAnswers b x g.payload =
        (((s.dropFrame p).exchangeOver b).headHeard b x.cmd.head).takeReport b x.cmd.head g.payload := by
      unfold State.headAnswers
      rw [if_pos poll, State.acceptReport_loud loud]
      refine if_pos ?_
      rw [heard, before]
      exact ⟨(if_neg (by rw [active]; decide)).trans active, by rw [match_]; rfl⟩
    rw [takes] at calm ⊢
    have lamps : (((s.dropFrame p).exchangeOver b).headHeard b x.cmd.head).lamp l = s.lamp l :=
      Steps.lamp (((s.dropFrame p).exchangeOver b).headHeard_keeps b x.cmd.head) l
    have own : (s.lamp l).numbered b x.cmd.head (lampNo (s.lamp l).row) = true := by
      simp [Lamp.numbered, used, onBus, ofHead]
    exact State.takeReport_lamp calm (lamps ▸ own) given known (lamps ▸ idle)

end accepted

end Sys2Proof.Machine
end

section
/-!
PROOFS. Rounds, attention, the end of a ROLL-CALL, and a Hedge bus held at space (15 R450, R457-R461, R475, R476).
-/
set_option Elab.async false
namespace Sys2Proof.Machine

/-! ### Rounds and attention (15 R450, R457, R458) -/

section attention
variable {s : State} {b : BusNo} {p : PortNo} {n : Nat}

theorem State.mem_roundOf (s : State) (b : BusNo) (h : HeadNo) : h ∈ s.roundOf b ↔ s.pollable b h = true := by
  unfold State.roundOf
  simp only [List.mem_append, List.mem_filter, List.mem_finRange, true_and, decide_eq_true_eq]
  rw [← and_or_left]
  exact and_iff_left (em _)

theorem exec_pollingRoundStart (ho : s.hedgeOn b = true) (hp : (s.bus b).state = .polling) (hq : (s.bus b).quiet = true)
    (hy : (s.bus b).retry = none) (hr : (s.bus b).round = []) :
    exec (.pollingRoundStart b) s = .next (s.updBus b fun v => { v with round := s.roundOf b }) :=
  if_pos (by simp [ho, hp, hq, hy, hr])

variable (ho : s.hedgeOn b = true) (hq : (s.bus b).quiet = true)
  (hs : (s.bus b).state = .joining ∨ (s.bus b).state = .polling)
include ho hq hs

/-- In the window of a bus that runs, the length of the space decides. -/
theorem exec_attentionTaken (hp : s.hedgePort b = some p) : exec (.attentionTaken b n) s =
    if n < 15 then .next (s.updPort p fun q => { q with
      stats := { q.stats with glitches := satAdd top32 q.stats.glitches 1 } })
    else if n ≤ 60 then .next (s.updBus b fun v => v.attend.callAgain)
    else .next (s.updBus b fun v => { v with faults := satAdd top32 v.faults 1 }) := by
  refine (if_pos (by rcases hs with h | h <;> simp [ho, hq, h])).trans ?_
  rw [hp]

theorem attentionTaken_calls (low : 15 ≤ n) (high : n ≤ 60) :
    ∃ t, exec (.attentionTaken b n) s = .next t ∧ (t.bus b).attentions = min 0xFFFF ((s.bus b).attentions + 1) ∧
      (if (s.bus b).granting then (t.bus b).again = true ∧ (t.bus b).rollCall = (s.bus b).rollCall
        else (t.bus b).rollCall = some false ∧
          (t.bus b).joinDue = ((s.bus b).joinDue || decide ((s.bus b).rollCall = some true))) ∧
      (∀ k, k ≠ b → t.bus k = s.bus k) ∧ Only (parts (.attentionTaken b n)) s t := by
  obtain ⟨p, port⟩ := State.hedgePort_of_on ho
  have e := (exec_attentionTaken (n := n) ho hq hs port).trans ((if_neg (Nat.not_lt.2 low)).trans (if_pos high))
  refine ⟨_, e, ?_, ?_, fun k ne => s.updBus_bus_ne _ ne, only_parts_of_exec e⟩
  all_goals rw [State.updBus_bus]
  · unfold Bus.callAgain
    split <;> rfl
  · unfold Bus.callAgain
    by_cases granting : (s.bus b).granting = true
    · rw [if_pos granting, if_pos (show (s.bus b).attend.granting = true from granting)]
      exact ⟨rfl, rfl⟩
    · rw [if_neg granting, if_neg (show ¬(s.bus b).attend.granting = true from granting)]
      exact ⟨rfl, rfl⟩

theorem attentionTaken_glitch (hp : s.hedgePort b = some p) (short : n < 15) :
    ∃ t, exec (.attentionTaken b n) s = .next t ∧ t.buses = s.buses ∧
      (t.port p).stats.glitches = satAdd 0xFFFFFFFF (s.port p).stats.glitches 1 ∧ (∀ q, q ≠ p → t.port q = s.port q) ∧
      Only (parts (.attentionTaken b n)) s t := by
  have e := (exec_attentionTaken (n := n) ho hq hs hp).trans (if_pos short)
  refine ⟨_, e, rfl, ?_, fun q ne => State.updPort_port_ne _ _ ne, only_parts_of_exec e⟩
  rw [State.updPort_port_same]
  rfl

theorem exec_attentionTaken_fault (long : 60 < n) : exec (.attentionTaken b n) s =
    .next (s.updBus b fun v => { v with faults := satAdd 0xFFFFFFFF v.faults 1 }) := by
  obtain ⟨p, port⟩ := State.hedgePort_of_on ho
  exact (exec_attentionTaken (n := n) ho hq hs port).trans ((if_neg (by omega)).trans (if_neg (by omega)))

end attention

/-! ### The end of a ROLL-CALL (15 R458, R459, R461) -/

section rollCall
variable {s t : State} {b : BusNo} {h k : HeadNo} {l : List HeadNo}

theorem State.countStrangers_keeps (s : State) (b : BusNo) (a : List HeadNo) :
    Steps [.irq, .bells, .buses] s (s.countStrangers b a) := State.countStrangers_steps b a (Steps.refl _ s) rfl

theorem State.countStrangers_bus (s : State) (b : BusNo) (a : List HeadNo) :
    ∃ n, (s.countStrangers b a).bus b = { s.bus b with strangers := n } := by
  refine List.foldlRecOn _ _ (motive := fun t : State => ∃ n, t.bus b = { s.bus b with strangers := n }) ⟨_, rfl⟩ ?_
  intro t ih h _
  obtain ⟨n, bus⟩ := ih
  split
  · refine ⟨satAdd 0xFFFF n 1, ?_⟩
    rw [(State.ring_steps (ps := [.irq, .bells]) _ (Steps.refl _ _) rfl).bus b, State.updBus_bus, bus]
  · exact ⟨n, bus⟩

/-- The slots are over, and what strangers answered is counted. -/
def State.slotsOver (s : State) (b : BusNo) (a : List HeadNo) : State :=
  (s.updBus b fun v => { v with rolling := none }).countStrangers b a

theorem State.slotsOver_keeps (s : State) (b : BusNo) (a : List HeadNo) : Steps [.irq, .bells, .buses] s (s.slotsOver b a) :=
  State.countStrangers_steps b a (State.updBus_steps b _ (Steps.refl _ s) rfl) rfl

theorem State.slotsOver_bus (s : State) (b : BusNo) (a : List HeadNo) :
    ∃ n, (s.slotsOver b a).bus b = { s.bus b with rolling := none, strangers := n } := by
  obtain ⟨n, bus⟩ := State.countStrangers_bus (s.updBus b fun v => { v with rolling := none }) b a
  rw [State.updBus_bus] at bus
  exact ⟨n, bus⟩

theorem State.headRow_of_mem (m : t.mem = s.mem) (b : BusNo) (h : HeadNo) : t.headRow b h = s.headRow b h := by
  unfold State.headRow State.memBytes
  rw [m]

theorem State.slotsOver_expected (s : State) (b : BusNo) (a : List HeadNo) :
    (s.slotsOver b a).expected b = s.expected b := by
  have kept := s.slotsOver_keeps b a
  unfold State.expected
  simp only [State.headRow_of_mem (kept.same .mem), kept.head b]

theorem State.slotsOver_pollable (s : State) (b : BusNo) (a : List HeadNo) (h : HeadNo) :
    (s.slotsOver b a).pollable b h = s.pollable b h := by
  obtain ⟨n, bus⟩ := s.slotsOver_bus b a
  unfold State.pollable
  rw [(s.slotsOver_keeps b a).head b h, bus]

/-- Heads marked one after another, each by `f`. -/
def State.markHeads (s : State) (b : BusNo) (l : List HeadNo) (f : Head → Head) : State :=
  l.foldl (fun s h => s.updHead b h f) s

theorem State.markHeads_steps (s : State) (b : BusNo) (l : List HeadNo) (f : Head → Head) :
    Steps [.heads] s (s.markHeads b l f) :=
  Steps.foldl (Steps.refl _ s) fun _ _ g => State.updHead_steps b _ f g rfl

theorem State.markHeads_head (s : State) (b : BusNo) {f : Head → Head} (hl : l.Nodup) (hh : h ∈ l) :
    (s.markHeads b l f).head b h = f (s.head b h) := by
  obtain ⟨t, -, met, left⟩ := foldl_key_of_mem (I := fun _ => True) (f := fun (s : State) h => s.updHead b h f)
    (key := fun t h => t.head b h) (s := s) (fun _ _ _ => trivial) (fun t _ _ _ ne => t.updHead_head_ne b f ne) trivial hl hh
  refine left.trans ((t.updHead_head b h f).trans (congrArg f met))

theorem State.expected_nodup (s : State) (b : BusNo) : (s.expected b).Nodup := (List.nodup_finRange 30).filter _

theorem Bus.settle_granting {v : Bus} (h : v.granting = !v.grant.isEmpty) : v.settle.granting = !v.grant.isEmpty := by
  have first : (if v.granting && v.granted then { v with granting := false } else v) = v := by
    refine if_neg fun owed => ?_
    simp only [Bus.granted, Bool.and_eq_true] at owed
    rw [h, owed.2.1.1.2] at owed
    exact absurd owed.1 (by decide)
  rw [← h]
  unfold Bus.settle
  rw [first]
  dsimp only
  (repeat' split) <;> rfl

theorem rollCallEnd_grants (a : List HeadNo) (ho : s.hedgeOn b = true) (hr : (s.bus b).rolling = some false) :
    ∃ t, exec (.rollCallEnd b a) s = .next t ∧ (t.bus b).rolling = none ∧
      (t.bus b).grant = ((s.expected b).filter fun h => a.contains h && s.pollable b h) ∧
      (t.bus b).granting = !(t.bus b).grant.isEmpty ∧
      (∀ h, h ∈ (t.bus b).grant → (t.head b h).attn = true) ∧ Only (parts (.rollCallEnd b a)) s t := by
  generalize hg : ((s.expected b).filter fun h => a.contains h && s.pollable b h) = g
  have e : exec (.rollCallEnd b a) s = .next (((s.slotsOver b a).markHeads b g fun d => { d with attn := true }).updBus b
      fun v => { v with grant := g, granting := !g.isEmpty }.settle) := by
    have answers : ((s.slotsOver b a).expected b).filter (fun h => a.contains h && (s.slotsOver b a).pollable b h) = g := by
      simp only [State.slotsOver_expected, State.slotsOver_pollable, hg]
    show execRollCallEnd b a s = _
    unfold execRollCallEnd
    rw [ho, hr]
    refine (if_neg Bool.false_ne_true).trans ?_
    dsimp only
    rw [← answers]
    rfl
  obtain ⟨n, bus⟩ := s.slotsOver_bus b a
  have marked := State.markHeads_steps (s.slotsOver b a) b g fun d => { d with attn := true }
  have grant := (Bus.settle_eq { (s.slotsOver b a).bus b with grant := g, granting := !g.isEmpty })
  have granting := Bus.settle_granting (v := { (s.slotsOver b a).bus b with grant := g, granting := !g.isEmpty }) rfl
  have last := State.updBus_bus ((s.slotsOver b a).markHeads b g fun d => { d with attn := true }) b
    fun v => { v with grant := g, granting := !g.isEmpty }.settle
  rw [marked.bus b] at last
  have granted : ∀ w : Bus, w = ({ (s.slotsOver b a).bus b with grant := g, granting := !g.isEmpty } : Bus).settle →
      w.grant = g := fun w same => by
    rw [same, grant]
    rfl
  refine ⟨_, e, ?_, granted _ last, ?_, fun h mem => ?_, only_parts_of_exec e⟩
  · rw [last, grant]
    show ((s.slotsOver b a).bus b).rolling = none
    rw [bus]
  · rw [granted _ last, last]
    exact granting
  · rw [granted _ last] at mem
    have nodup : g.Nodup := hg ▸ (s.expected_nodup b).filter _
    exact congrArg Head.attn (State.markHeads_head (s.slotsOver b a) b nodup mem)

/-- Heads joined one after another. -/
def State.joinHeads (s : State) (b : BusNo) (l : List HeadNo) : State := l.foldl (fun s h => s.joinHead b h) s

theorem State.joinHead_head_ne (s : State) (b : BusNo) (ne : k ≠ h) : (s.joinHead b h).head b k = s.head b k :=
  s.updHead_head_ne b (fun d => { d with state := hsJoining, attn := false }) ne

theorem State.joinHeads_bus (s : State) (b : BusNo) (l : List HeadNo) : (s.joinHeads b l).bus b = { s.bus b with
    queue := (s.bus b).queue ++ l.flatMap fun h => [hedgeCmd h tyResync [], hedgeCmd h tyInventory []] } := by
  induction l generalizing s with
  | nil =>
    rw [List.flatMap_nil, List.append_nil]
    rfl
  | cons h hs ih =>
    refine (ih (s.joinHead b h)).trans ?_
    rw [State.joinHead_bus, List.flatMap_cons]
    simp only [List.append_assoc]

theorem State.joinHeads_head (s : State) (b : BusNo) (hh : h ∈ l) (hl : l.Nodup) :
    ((s.joinHeads b l).head b h).state = hsJoining := by
  obtain ⟨t, -, -, left⟩ := foldl_key_of_mem (I := fun _ => True) (f := fun (s : State) h => s.joinHead b h)
    (key := fun t h => t.head b h) (s := s) (fun _ _ _ => trivial) (fun t _ _ _ ne => t.joinHead_head_ne b ne) trivial hl hh
  exact (congrArg Head.state left).trans (t.joinHead_head b h)

theorem rollCallEnd_joins (a : List HeadNo) (ho : s.hedgeOn b = true) (hr : (s.bus b).rolling = some true) :
    ∃ t, exec (.rollCallEnd b a) s = .next t ∧ (t.bus b).rolling = none ∧
      (∀ h, h ∈ s.expected b → (t.head b h).state = hsJoining ∧ hedgeCmd h tyResync [] ∈ (t.bus b).queue ∧
        hedgeCmd h tyInventory [] ∈ (t.bus b).queue) ∧ Only (parts (.rollCallEnd b a)) s t := by
  have e : exec (.rollCallEnd b a) s = .next (((s.slotsOver b a).joinHeads b (s.expected b)).updBus b Bus.settle) := by
    rw [← s.slotsOver_expected b a]
    show execRollCallEnd b a s = _
    unfold execRollCallEnd
    rw [ho, hr]
    exact if_pos rfl
  obtain ⟨n, bus⟩ := s.slotsOver_bus b a
  have last := State.updBus_bus ((s.slotsOver b a).joinHeads b (s.expected b)) b Bus.settle
  rw [Bus.settle_eq, State.joinHeads_bus, bus] at last
  have queue := congrArg Bus.queue last
  have queued (h : HeadNo) (mem : h ∈ s.expected b) (c : HedgeCmd)
      (hc : c ∈ [hedgeCmd h tyResync [], hedgeCmd h tyInventory []]) :
      c ∈ ((((s.slotsOver b a).joinHeads b (s.expected b)).updBus b Bus.settle).bus b).queue :=
    queue ▸ List.mem_append_right _ (List.mem_flatMap.2 ⟨h, mem, hc⟩)
  refine ⟨_, e, (congrArg Bus.rolling last :), fun h mem => ⟨?_, ?_, ?_⟩, only_parts_of_exec e⟩
  · exact State.joinHeads_head (s.slotsOver b a) b mem (s.expected_nodup b)
  · exact queued h mem _ List.mem_cons_self
  · exact queued h mem _ (List.mem_cons_of_mem _ List.mem_cons_self)

end rollCall

/-! ### A bus held at space (15 R475, R476) -/

section blind
variable {s t : State} {b : BusNo} {h k : HeadNo} {p : PortNo}

theorem RoadKept.headEvent {a : Bool} (r : RoadKept a s t) (b : BusNo) (h : HeadNo) (code : Nat) :
    RoadKept a s (t.headEvent b h code) := by
  have told {u : State} (k : RoadKept a s u) (source : List Byte) (port head : Nat) (value : Option Nat) :
      RoadKept a s (u.tellEvent source port head code value) := by
    refine RoadKept.steps (ps := [.journal]) ?_ (State.record_steps _ _ _ _ (Steps.refl _ _) rfl)
    split
    · exact k.makeDevice _
    · exact k
  unfold State.headEvent State.tellOrKeep
  dsimp only
  split
  · exact r
  · split
    · exact told (r.steps (State.ring_steps (ps := [.irq, .bells]) _ (Steps.refl _ _) rfl)) _ _ _ _
    · exact r

theorem RoadKept.silence {a : Bool} (r : RoadKept a s t) (b : BusNo) (h : HeadNo) : RoadKept a s (t.silence b h) := by
  have dropped : RoadKept a s (t.updBus b fun v => v.dropHead h) := r.still rfl
  unfold State.silence
  dsimp only
  split
  · exact dropped
  · have lost : RoadKept a s ((t.updBus b fun v => v.dropHead h).updHead b h fun d =>
        { d with state := hsSilent, attn := false, wasLost := true }) := dropped.still rfl
    exact lost.headEvent b h _

/-- The heads of a bus that has gone to space, taken one by one. -/
structure Blinded (b : BusNo) (s t : State) : Prop where
  road : RoadKept true s t
  accepted : t.engine.accepted = s.engine.accepted
  ports : ∀ p, t.port p = s.port p
  state : (t.bus b).state = (s.bus b).state
  exchange : (t.bus b).exchange = (s.bus b).exchange

theorem Blinded.headRow (d : Blinded b s t) (h : HeadNo) : t.headRow b h = s.headRow b h := by
  unfold State.headRow headRowAt
  rw [d.road.memBytes (by omega)]

theorem Blinded.headBusy (d : Blinded b s t) (h : HeadNo) : t.headBusy b h = s.headBusy b h := by
  unfold State.headBusy State.working?
  rw [d.accepted]

/-- A head told BLIND. -/
def State.headBlinded (s : State) (b : BusNo) (h : HeadNo) : State :=
  (s.updHead b h fun d => { d with state := hsBlind, attn := false, wasLost := true }).headEvent b h evHeadBlind

theorem State.headBlinded_keeps (s : State) (b : BusNo) (h : HeadNo) :
    Steps [.mem, .pool, .draws, .irq, .bells, .sluice, .heads, .journal] s (s.headBlinded b h) :=
  State.headEvent_steps b h _ (State.updHead_steps b h _ (Steps.refl _ s) rfl) rfl

theorem State.headBlinded_head (s : State) (b : BusNo) (h : HeadNo) : ((s.headBlinded b h).head b h).state = hsBlind := by
  rw [State.headBlinded, (State.headEvent_keeps _ b h _).head b h, State.updHead_head]

theorem State.headBlinded_head_ne (s : State) (b : BusNo) (ne : k ≠ h) : (s.headBlinded b h).head b k = s.head b k := by
  rw [State.headBlinded, (State.headEvent_keeps _ b h _).head b k, State.updHead_head_ne _ _ _ ne]

theorem State.blindHead_eq (s : State) (b : BusNo) (h : HeadNo) : s.blindHead b h =
    if (s.head b h).state = hsRetired ∨ (s.head b h).state = hsBlind ∨
        ((s.head b h).state = hsAbsent ∧ !(s.headRow b h).configured) then s
    else if (s.headBlinded b h).headBusy b h then (s.headBlinded b h).silence b h else s.headBlinded b h := rfl

theorem State.headBlinded_busy (s : State) (b : BusNo) (h : HeadNo) : (s.headBlinded b h).headBusy b h = s.headBusy b h := by
  have accepted := ((s.headBlinded_keeps b h).same .work).2.1
  unfold State.headBusy State.working?
  rw [accepted]

theorem State.blindHead_head_ne (s : State) (b : BusNo) (ne : k ≠ h) : (s.blindHead b h).head b k = s.head b k := by
  rw [State.blindHead_eq]
  split
  · rfl
  · split
    · rw [State.silence_head_ne _ _ ne, State.headBlinded_head_ne _ _ ne]
    · exact State.headBlinded_head_ne _ _ ne

theorem Blinded.blindHead (d : Blinded b s t) (h : HeadNo) : Blinded b s (t.blindHead b h) := by
  have blinded : Blinded b s (t.headBlinded b h) := by
    have kept := t.headBlinded_keeps b h
    have road : RoadKept true s (t.updHead b h fun d => { d with state := hsBlind, attn := false, wasLost := true }) :=
      d.road.still rfl
    refine ⟨road.headEvent b h _, (kept.same .work).2.1.trans d.accepted, fun p => (kept.port_eq p).trans (d.ports p), ?_, ?_⟩
    · rw [kept.bus b, d.state]
    · rw [kept.bus b, d.exchange]
  rw [State.blindHead_eq]
  split
  · exact d
  · split
    · have kept := State.silence_keeps (t.headBlinded b h) b h
      refine ⟨blinded.road.silence b h, (kept.same .work).2.1.trans blinded.accepted,
        fun p => (kept.port_eq p).trans (blinded.ports p), ?_, ?_⟩
      · rw [State.silence_bus]
        exact blinded.state
      · rw [State.silence_bus]
        exact blinded.exchange
    · exact blinded

/-- Every head of the bus is taken. -/
def State.blindHeads (s : State) (b : BusNo) : State := (List.finRange 30).foldl (fun s h => s.blindHead b h) s

theorem State.blindHeads_blinded (s : State) (b : BusNo) : Blinded b s (s.blindHeads b) :=
  List.foldlRecOn _ _ (motive := Blinded b s) ⟨RoadKept.refl true s, rfl, fun _ => rfl, rfl, rfl⟩
    fun _ d h _ => d.blindHead h

theorem State.blindHeads_head (s : State) (b : BusNo) (h : HeadNo) :
    ∃ t, Blinded b s t ∧ t.head b h = s.head b h ∧ (s.blindHeads b).head b h = (t.blindHead b h).head b h :=
  foldl_key_of_mem (I := Blinded b s) (f := fun (s : State) h => s.blindHead b h) (key := fun t h => t.head b h)
    (fun _ h d => d.blindHead h) (fun t _ _ _ ne => t.blindHead_head_ne b ne)
    ⟨RoadKept.refl true s, rfl, fun _ => rfl, rfl, rfl⟩ (List.nodup_finRange 30) (List.mem_finRange h)

theorem State.blindHeads_blind (hr : (s.head b h).state ≠ hsRetired)
    (he : (s.head b h).state ≠ hsAbsent ∨ (s.headRow b h).configured = true) (hb : s.headBusy b h = false) :
    ((s.blindHeads b).head b h).state = hsBlind := by
  obtain ⟨t, d, met, left⟩ := s.blindHeads_head b h
  rw [left, State.blindHead_eq]
  by_cases blind : (s.head b h).state = hsBlind
  · rw [if_pos (.inr (.inl (met ▸ blind))), met, blind]
  · have reached : ¬((t.head b h).state = hsRetired ∨ (t.head b h).state = hsBlind ∨
        ((t.head b h).state = hsAbsent ∧ !(t.headRow b h).configured)) := by
      rw [met, d.headRow]
      rintro (retired | already | ⟨absent, unexpected⟩)
      · exact hr retired
      · exact blind already
      · rcases he with present | configured
        · exact present absent
        · rw [configured] at unexpected
          exact absurd unexpected (by decide)
    have free : ¬(t.headBlinded b h).headBusy b h = true := by
      rw [State.headBlinded_busy, d.headBusy, hb]
      exact Bool.false_ne_true
    rw [if_neg reached, if_neg free]
    exact t.headBlinded_head b h

theorem State.blindHeads_busy (hj : (s.head b h).state = hsJoining) (hb : s.headBusy b h = true) :
    ((s.blindHeads b).head b h).state = hsSilent := by
  obtain ⟨t, d, met, left⟩ := s.blindHeads_head b h
  have reached : ¬((t.head b h).state = hsRetired ∨ (t.head b h).state = hsBlind ∨
      ((t.head b h).state = hsAbsent ∧ !(t.headRow b h).configured)) := by
    rw [met, hj]
    rintro (retired | blind | ⟨absent, -⟩)
    · exact absurd retired (by decide)
    · exact absurd blind (by decide)
    · exact absurd absent (by decide)
  have busy : (t.headBlinded b h).headBusy b h = true := by
    rw [State.headBlinded_busy, d.headBusy, hb]
  rw [left, State.blindHead_eq, if_neg reached, if_pos busy]
  exact State.silence_head _ _ _

theorem State.blindHeads_left (hl : (s.head b h).state = hsRetired ∨
    ((s.head b h).state = hsAbsent ∧ (s.headRow b h).configured = false)) : (s.blindHeads b).head b h = s.head b h := by
  obtain ⟨t, d, met, left⟩ := s.blindHeads_head b h
  rw [left, State.blindHead_eq, if_pos, met]
  rw [met, d.headRow]
  rcases hl with retired | ⟨absent, unexpected⟩
  · exact .inl retired
  · exact .inr (.inr ⟨absent, by rw [unexpected]; rfl⟩)

/-- The bus at space, before its heads are. -/
def State.busCut (s : State) (b : BusNo) (p : PortNo) : State :=
  (s.dropFrame p).updBus b fun v => { v.clear with state := .blind, sent := [] }

theorem exec_busBlind (hm : s.masterBus p = some b) (ho : s.hedgeOn b = true) (hs : (s.bus b).state ≠ .stopped)
    (hb : (s.bus b).state ≠ .blind) (hn : (s.bus b).retire = none) :
    exec (.busBlind p) s = .next ((s.busCut b p).blindHeads b) := by
  have dropped : s.dropReply b = s.dropFrame p := by
    unfold State.dropReply
    rw [State.hedgePort_of_masterBus hm]
  have waits : ((s.busCut b p).bus b).retire = none := by
    rw [State.busCut, State.updBus_bus]
    exact hn
  have blinds : s.blindBus b = (s.busCut b p).blindHeads b := by
    refine (if_pos (by simp [ho, hs, hb])).trans ?_
    rw [dropped]
    dsimp only
    exact congrArg (fun u => State.blindHeads u b) (State.endRetire_of_none waits)
  show execBusBlind p s = _
  unfold execBusBlind
  rw [hm]
  exact congrArg Host.Outcome.next blinds

theorem busBlind_blinds (hm : s.masterBus p = some b) (ho : s.hedgeOn b = true) (hs : (s.bus b).state ≠ .stopped)
    (hb : (s.bus b).state ≠ .blind) (hn : (s.bus b).retire = none) :
    ∃ t, exec (.busBlind p) s = .next t ∧ (t.bus b).state = .blind ∧ (t.bus b).exchange = none ∧ (t.port p).fifo = [] ∧
      (∀ h, (s.head b h).state ≠ hsRetired → (s.head b h).state ≠ hsAbsent ∨ (s.headRow b h).configured = true →
        s.headBusy b h = false → (t.head b h).state = hsBlind) ∧
      (∀ h, (s.head b h).state = hsJoining → s.headBusy b h = true → (t.head b h).state = hsSilent) ∧
      (∀ h, (s.head b h).state = hsRetired ∨ ((s.head b h).state = hsAbsent ∧ (s.headRow b h).configured = false) →
        t.head b h = s.head b h) ∧ Only (parts (.busBlind p)) s t := by
  have e := exec_busBlind hm ho hs hb hn
  have cut : Steps [.ports, .buses] s (s.busCut b p) :=
    State.updBus_steps b _ (State.dropFrame_steps p (Steps.refl _ s) rfl) rfl
  have bus := State.updBus_bus (s.dropFrame p) b fun v => { v.clear with state := .blind, sent := [] }
  have d := (s.busCut b p).blindHeads_blinded b
  have head (h : HeadNo) : (s.busCut b p).head b h = s.head b h := cut.head b h
  have row (h : HeadNo) : (s.busCut b p).headRow b h = s.headRow b h := State.headRow_of_mem (cut.same .mem) b h
  have busy (h : HeadNo) : (s.busCut b p).headBusy b h = s.headBusy b h := rfl
  refine ⟨_, e, d.state.trans (congrArg Bus.state bus), d.exchange.trans (congrArg Bus.exchange bus), ?_,
    fun h hr he hb => ?_, fun h hj hb => ?_, fun h hl => ?_, only_parts_of_exec e⟩
  · rw [d.ports]
    show ((s.dropFrame p).port p).fifo = []
    rw [State.dropFrame_port]
  · exact State.blindHeads_blind (head h ▸ hr) (head h ▸ row h ▸ he) (busy h ▸ hb)
  · exact State.blindHeads_busy (head h ▸ hj) (busy h ▸ hb)
  · exact (State.blindHeads_left (head h ▸ row h ▸ hl)).trans (head h)

theorem exec_blindProbe {r : Byte} (ho : s.hedgeOn b = true) (hb : (s.bus b).state = .blind) :
    exec (.blindProbe b r) s = .next (s.updBus b fun v => { v with probe := r }) := if_pos (by simp [ho, hb])

theorem State.unattend_wasLost (s : State) (b : BusNo) (h : HeadNo) :
    ((s.unattend b).head b h).wasLost = (s.head b h).wasLost := by
  refine List.foldlRecOn _ _ (motive := fun t : State => (t.head b h).wasLost = (s.head b h).wasLost) rfl ?_
  intro t ih k _
  split
  · by_cases same : h = k
    · rw [same, State.updHead_head, ← same]
      exact ih
    · rw [State.updHead_head_ne _ _ _ same, ih]
  · exact ih

theorem State.forgetBus_wasLost (s : State) (b : BusNo) (f : Bus → Bus) (h : HeadNo) :
    ((s.forgetBus b f).head b h).wasLost = (s.head b h).wasLost := by
  have kept : Steps [.buses] (s.unattend b) (s.forgetBus b f) := State.updBus_steps b f (Steps.refl _ _) rfl
  rw [kept.head b h, State.unattend_wasLost]

theorem busRecovered_joins (hm : s.masterBus p = some b) (ho : s.hedgeOn b = true) (hb : (s.bus b).state = .blind)
    (hn : (s.bus b).retire = none) :
    ∃ t, exec (.busRecovered p) s = .next t ∧ (t.bus b).state = .joining ∧ (t.bus b).rollCall = some true ∧
      (∀ h, h ∈ s.expected b → (t.head b h).wasLost = true) ∧ (∀ k, k ≠ b → t.bus k = s.bus k) ∧
      Only (parts (.busRecovered p)) s t := by
  have marked := s.markHeads_steps b (s.expected b) fun d => { d with wasLost := true }
  have bus := State.forgetBus_bus (s := s.markHeads b (s.expected b) fun d => { d with wasLost := true }) (b := b) Bus.join
  rw [marked.bus b] at bus
  have waits : (((s.markHeads b (s.expected b) fun d => { d with wasLost := true }).forgetBus b Bus.join).bus b).retire =
      none := by
    rw [bus]
    exact hn
  have port : ((s.markHeads b (s.expected b) fun d => { d with wasLost := true }).hedgePort b).isSome = true := by
    have road : RoadKept true s (s.markHeads b (s.expected b) fun d => { d with wasLost := true }) :=
      (RoadKept.refl true s).steps marked
    rw [road.hedgePort (fun q => congrArg (fun q : Port => q.rx.rx) (marked.port_eq q)) b, State.hedgePort_of_masterBus hm]
    rfl
  have e : exec (.busRecovered p) s =
      .next ((s.markHeads b (s.expected b) fun d => { d with wasLost := true }).forgetBus b Bus.join) := by
    show execBusRecovered p s = _
    unfold execBusRecovered
    rw [hm]
    refine congrArg Host.Outcome.next ((if_pos (by simp [ho, hb])).trans ?_)
    exact ((State.beginJoin_eq _ _).trans (if_pos port)).trans (State.endRetire_of_none waits)
  have left : Steps [.heads] s ((s.markHeads b (s.expected b) fun d => { d with wasLost := true }).unattend b) :=
    State.unattend_steps b marked rfl
  refine ⟨_, e, (congrArg Bus.state bus :), (congrArg Bus.rollCall bus :), fun h mem => ?_, fun k ne => ?_, only_parts_of_exec e⟩
  · rw [State.forgetBus_wasLost, State.markHeads_head s b (s.expected_nodup b) mem]
  · exact (State.updBus_bus_ne _ _ ne).trans (left.bus k)

end blind

/-! ### The Hedge master -/

section settled
variable {s t u : State} {b : BusNo} {x : Exchange}

/-- What a failed attempt leaves of the bus and of the head that it was with. -/
theorem AttemptFailed.outcome (d : AttemptFailed b x u t) (same : u.head b x.cmd.head = s.head b x.cmd.head) :
    (t.bus b).exchange = none ∧
      (t.head b x.cmd.head).fails.toNat = min 255 ((s.head b x.cmd.head).fails.toNat + 1) ∧
      (x.fails < 3 → (s.head b x.cmd.head).state ≠ hsSilent →
        (t.bus b).retry = some { x with fails := x.fails + 1 }) ∧
      (3 ≤ x.fails → (t.head b x.cmd.head).state = hsSilent) :=
  ⟨d.exchange, same ▸ d.fails, same ▸ d.retry, d.silent⟩

theorem State.badReply_head (s : State) (b : BusNo) (p : PortNo) (h : HeadNo) : (s.badReply b p).head b h = s.head b h := by
  unfold State.badReply
  split
  · exact s.abandonedFrame_head b p h
  · rfl

end settled

/-- Settles O55: each clause is a lemma about the master's event that it names; the five ways an attempt can fail share
one account of what follows. -/
theorem hedgeMasterExchanges : Obligations.HedgeMasterExchanges := by
  unfold Obligations.HedgeMasterExchanges
  refine ⟨fun s b ho hp hq hy hr => ⟨exec_pollingRoundStart ho hp hq hy hr, s.mem_roundOf b⟩,
    fun s p b pulse hm hs hw hd => hedgeCommandSend_wakes hm hs hw hd,
    fun s p b mode hm hs hw hr hd => hedgeCommandSend_rollCall hw hm hs hr hd,
    fun s p b x hm hs hw hr hy off hd => hedgeCommandSend_repeats hw hr hm hs hy off hd,
    fun s p b h r hm hs hw hr hy hg hp off => hedgeCommandSend_grant hw hr hy hm hs hg hp off,
    fun s p b x r hm hs hw hr hy hg hk off hd => hedgeCommandSend_parked hw hr hy hg hm hs hk off hd,
    fun s p b c r hm hs hw hr hy hg hk hq hj off => hedgeCommandSend_queue hw hr hy hg hk hm hs hq hj off,
    fun s p b h r hm hs hw hr hy hg hk hq hn hp off => hedgeCommandSend_round hw hr hy hg hk hm hs hq hn hp off,
    fun s b h => State.pollOrLamp_poll, fun s b h c => State.pollOrLamp_lamp, fun s p b => exec_hedgeCommandSend_none,
    fun s b x f g => replyAccepted_accepts, fun s b x f ho hx ha hr hn hf => ?_, fun s b x ho hx ha hr hn => ?_,
    fun s b => exec_replyTimeout_none, fun s b x p hm ho hx ha hr hn => ?_, fun s b x p hm hb ho hx ha hr hn => ?_,
    fun s p => exec_frameAbandoned_none, fun s b x p hm hs ho hx ha hr hn => ?_,
    fun s b mode p => readbackMismatch_recalls, fun s b p => readbackMismatch_aborts, fun s b p => exec_readbackMismatch_none,
    fun s b n ho hq hs => attentionTaken_calls ho hq hs, fun s b n p ho hp hq hs => attentionTaken_glitch ho hq hs hp,
    fun s b n ho hq hs => exec_attentionTaken_fault ho hq hs, fun s b a => rollCallEnd_grants a,
    fun s b a => rollCallEnd_joins a, fun s b p => busBlind_blinds, fun s b r => exec_blindProbe,
    fun s b p => busRecovered_joins⟩
  · obtain ⟨p, port⟩ := State.hedgePort_of_on ho
    obtain ⟨t, e, free, collides, failed, only⟩ := replyAccepted_fails hx ha hr hn port ho hf
    obtain ⟨-, fails, retry, silent⟩ := failed.outcome (s.badReply_head b p x.cmd.head)
    exact ⟨t, e, free, collides, fails, retry, silent, only⟩
  · obtain ⟨t, e, failed, only⟩ := replyTimeout_fails hx ha hr hn ho
    obtain ⟨free, fails, retry, silent⟩ := failed.outcome rfl
    exact ⟨t, e, free, fails, retry, silent, only⟩
  · obtain ⟨t, e, fifo, failed, only⟩ := frameGapTimeout_fails hx ha hr hn hm ho
    obtain ⟨free, fails, retry, silent⟩ := failed.outcome (s := s) rfl
    exact ⟨t, e, fifo, free, fails, retry, silent, only⟩
  · obtain ⟨t, e, fifo, edge, hold, collides, failed, only⟩ := frameAbandoned_fails hx ha hr hn hm hb ho
    obtain ⟨free, fails, retry, silent⟩ := failed.outcome (s.abandonedFrame_head b p x.cmd.head)
    exact ⟨t, e, fifo, edge, hold, collides, free, fails, retry, silent, only⟩
  · obtain ⟨t, e, collides, sent, failed, only⟩ := readbackMismatch_fails hx ha hr hn hm hs ho
    obtain ⟨free, fails, retry, silent⟩ := failed.outcome (s.cutSent_head b x.cmd.head)
    exact ⟨t, e, collides, sent, free, fails, retry, silent, only⟩

end Sys2Proof.Machine
end

section
/-!
PROOFS. The Pleach link: LEN of each frame type, an ACK that goes out, and a sequenced frame in order, repeated or astray
(17 R509-R513).
-/
set_option Elab.async false
namespace Sys2Proof.Machine

/-! ### Bytes of a frame (17 R509, R510) -/

section wire

theorem flatten_map_length {α : Type} {f : α → List Byte} {k : Nat} (h : ∀ x, (f x).length = k) (l : List α) :
    (l.map f).flatten.length = k * l.length := by
  induction l with
  | nil => rfl
  | cons x xs ih =>
    rw [List.map_cons, List.flatten_cons, List.length_append, h, ih, List.length_cons, Nat.mul_succ, Nat.add_comm]

theorem mirror_length (l : List MirrorRec) : (Frame.mirror l).bytes.length = 10 * l.length :=
  flatten_map_length (fun r => by simp [mirrorBytes, leBytes_length]) l

theorem delivered_length (l : List DeliveredRec) : (Frame.delivered l).bytes.length = 6 * l.length :=
  flatten_map_length (fun r => by simp [deliveredBytes, leBytes_length]) l

theorem lamp_length (l : List LampRec) : (Frame.lamp l).bytes.length = 12 * l.length :=
  flatten_map_length (fun r => by simp [lampBytes, leBytes_length]) l

theorem item_length (id : Nat) (r : ItemRec) : (Frame.item id r).bytes.length = 16 + r.payload.length := by
  simp only [Frame.bytes, itemBytes, List.length_append, leBytes_length, List.length_cons, List.length_nil]

theorem epoch_length (e : Option EpochRec) : (Frame.epoch e).bytes.length = 0 ∨ (Frame.epoch e).bytes.length = 14 := by
  cases e with
  | none => exact .inl rfl
  | some r => exact .inr (by simp [Frame.bytes, epochBytes, leBytes_length])

/-- A frame whose LEN fits its type. -/
def Frame.fits (x : Frame) : Bool := lenFits x.code x.bytes.length

theorem mirror_fits (l : List MirrorRec) : (Frame.mirror l).fits = decide (1 ≤ l.length ∧ l.length ≤ 25) := by
  rw [Frame.fits, mirror_length]
  exact decide_eq_decide.2 (by omega)

theorem delivered_fits (l : List DeliveredRec) : (Frame.delivered l).fits = decide (1 ≤ l.length ∧ l.length ≤ 42) := by
  rw [Frame.fits, delivered_length]
  exact decide_eq_decide.2 (by omega)

theorem lamp_fits (l : List LampRec) : (Frame.lamp l).fits = decide (1 ≤ l.length ∧ l.length ≤ 21) := by
  rw [Frame.fits, lamp_length]
  exact decide_eq_decide.2 (by omega)

theorem item_fits (id : Nat) (r : ItemRec) :
    (Frame.item id r).fits = decide (1 ≤ r.payload.length ∧ r.payload.length ≤ 240) := by
  rw [Frame.fits, item_length]
  exact decide_eq_decide.2 (by omega)

theorem epoch_fits (e : Option EpochRec) : (Frame.epoch e).fits = true := decide_eq_true (epoch_length e)

theorem handover_fits (n : Word) : (Frame.handover n).fits = true := decide_eq_true (leBytes_length 4 n.toNat)

theorem catchupEnd_fits (n : Word) : (Frame.catchupEnd n).fits = true := decide_eq_true (leBytes_length 4 n.toNat)

theorem fieldAt_leBytes {pre post : List Byte} {o n v : Nat} (ho : pre.length = o) (hv : v < 256 ^ n) :
    fieldAt (pre ++ (leBytes n v ++ post)) o n = v := by
  rw [fieldAt, bytesAt, List.drop_left' ho, List.take_left' (leBytes_length n v), fromLe_leBytes, Nat.mod_eq_of_lt hv]

theorem lenFits_bounds {k n : Nat} (h : lenFits k n = true) : k < 256 ∧ n < 65536 := by
  unfold lenFits at h
  split at h
  case h_10 => cases h
  all_goals
    simp only [decide_eq_true_eq] at h
    omega

/-- The bytes of a frame that the CRC covers. -/
def pleachBody (k : Nat) (q a : Half) (l : List Byte) : List Byte :=
  leBytes 1 k ++ leBytes 2 q.toNat ++ leBytes 2 a.toNat ++ leBytes 2 l.length ++ l

theorem pleachBytes_drop (k : Nat) (q a : Half) (l : List Byte) :
    (pleachBytes k q a l).drop 5 = pleachBody k q a l ++ leBytes 4 (crc32 (pleachBody k q a l)).toNat := rfl

theorem pleachBody_length (k : Nat) (q a : Half) (l : List Byte) : (pleachBody k q a l).length = l.length + 7 := by
  simp only [pleachBody, List.length_append, leBytes_length]
  omega

/-- A frame as it is composed passes the check. -/
theorem pleachBad_pleachBytes {k : Nat} {l : List Byte} (q a : Half) (h : lenFits k l.length = true) :
    pleachBad ((pleachBytes k q a l).drop 5) = false := by
  obtain ⟨type, len⟩ := lenFits_bounds h
  have body := pleachBody_length k q a l
  have total : ((pleachBytes k q a l).drop 5).length = l.length + 11 := by
    rw [pleachBytes_drop, List.length_append, body, leBytes_length]
  have crc : fieldAt ((pleachBytes k q a l).drop 5) (l.length + 7) 4 = (crc32 (pleachBody k q a l)).toNat := by
    rw [pleachBytes_drop, ← List.append_nil (leBytes 4 _)]
    exact fieldAt_leBytes body (crc32 (pleachBody k q a l)).isLt
  have covered : ((pleachBytes k q a l).drop 5).take (l.length + 7) = pleachBody k q a l := by
    rw [pleachBytes_drop, List.take_left' body]
  have code : fieldAt ((pleachBytes k q a l).drop 5) 0 1 = k := by
    rw [pleachBytes_drop, pleachBody]
    simp only [List.append_assoc]
    exact fieldAt_leBytes (pre := []) rfl type
  have length : fieldAt ((pleachBytes k q a l).drop 5) 5 2 = l.length := by
    rw [pleachBytes_drop, pleachBody, List.append_assoc, List.append_assoc]
    refine fieldAt_leBytes ?_ len
    simp [leBytes_length]
  unfold pleachBad
  simp only [total, Nat.add_sub_cancel, crc, covered, code, length, h]
  simp

end wire

/-! ### What goes out on the line (17 R509, R512) -/

section line
variable {s t : State}

/-- The pair but its last frame on the line and a withheld one. -/
def Pair.offLine (p : Pair) : Pair := { p with wire := [], ackOwed := false, sent := 0, withheld := none }

theorem State.withheldCounts_offLine (s : State) : s.withheldCounts.pair.offLine = s.pair.offLine := by
  have sent (u : State) : u.sendWithheld.pair.offLine = u.pair.offLine := by
    unfold State.sendWithheld
    split <;> rfl
  unfold State.withheldCounts
  split
  · split
    · exact sent s
    · rfl
  · exact sent s
  · rfl

theorem State.withheldCounts_ackOwed (h : s.pair.ackOwed = false) : s.withheldCounts.pair.ackOwed = false := by
  have sent : s.sendWithheld.pair.ackOwed = false := by
    unfold State.sendWithheld
    split
    · rfl
    · exact h
  unfold State.withheldCounts
  split
  · split
    · exact sent
    · exact h
  · exact sent
  · exact h

/-- A frame on the line changes nothing else of the pair, and carries any ACK owed. -/
theorem State.sendPast_line (s : State) (hit : Option (Fin 16)) (bytes : List Byte) (len : Nat) :
    (s.sendPast hit bytes len).pair.offLine = s.pair.offLine ∧ (s.sendPast hit bytes len).pair.ackOwed = false := by
  have put (u : State) (l : List Byte) : (u.putLine l).withheldCounts.pair.offLine = u.pair.offLine ∧
      (u.putLine l).withheldCounts.pair.ackOwed = false :=
    ⟨State.withheldCounts_offLine (u.putLine l), State.withheldCounts_ackOwed (s := u.putLine l) rfl⟩
  unfold State.sendPast
  split
  · exact put s _
  · next i =>
    dsimp only
    split
    · exact put (s.injectCount i) _
    · split
      · exact put (s.injectCount i) _
      · exact put s _

theorem State.injectAt_pair (s : State) (point target : Nat) (f : Nat → Bool) :
    (s.injectAt point target f).2.pair = s.pair :=
  (State.injectAt_steps (ps := [.inject]) point target f (Steps.refl _ s) rfl).same .pair

theorem State.injectAt_off (off : s.injectOn = false) (point target : Nat) (f : Nat → Bool) :
    s.injectAt point target f = (none, s) := by
  unfold State.injectAt State.injectPeek State.injectStep
  rw [off]
  rfl

theorem State.sendAck_offLine (s : State) : s.sendAck.pair.offLine = s.pair.offLine := by
  unfold State.sendAck
  split
  · refine (State.sendPast_line _ _ _ _).1.trans ?_
    rw [State.injectAt_pair]
  · rfl

theorem State.sendAck_ackOwed (s : State) : s.sendAck.pair.ackOwed = false := by
  unfold State.sendAck
  split
  · exact (State.sendPast_line _ _ _ _).2
  · next free => exact Bool.eq_false_iff.2 free

theorem State.sendAck_keeps (s : State) : Steps [.pair, .inject] s s.sendAck := State.sendAck_steps (Steps.refl _ s) rfl

/-- With no fault injected and no frame withheld a frame goes out as it is. -/
theorem State.sendPlain_plain (off : s.injectOn = false) (free : s.pair.withheld = none) (code : Nat) (l : List Byte) :
    s.sendPlain code l = s.putLine (pleachBytes code 0 s.pair.rxSeq l) := by
  have alone (u : State) (h : u.pair.withheld = none) : u.withheldCounts = u := by
    unfold State.withheldCounts
    rw [h]
  unfold State.sendPlain
  rw [State.injectAt_off off]
  exact alone (s.putLine _) free

theorem State.sendAck_plain (off : s.injectOn = false) (free : s.pair.withheld = none) (owed : s.pair.ackOwed = true) :
    s.sendAck = s.putLine (pleachBytes 0x09 0 s.pair.rxSeq []) :=
  (if_pos owed).trans (State.sendPlain_plain off free 0x09 [])

end line

/-! ### A frame is heard where nothing of the link waits (17 R511, R512) -/

/-- Nothing waits for an ACK, for the window or for the peer, and no handover runs. -/
structure State.LinkStill (s : State) : Prop where
  unacked : s.pair.unacked = []
  waiting : s.pair.waiting = []
  queue : (s.view viewPeer).queue = []
  handover : s.pair.handover = .none

section heard
variable {s u : State} {h : PleachHdr} {x : Frame} {f : State → State}

theorem State.drainFrames_of_none (hw : s.pair.waiting = []) (n : Nat) : State.drainFrames n s = s := by
  cases n with
  | zero => rfl
  | succ n =>
    unfold State.drainFrames
    rw [hw]

theorem State.sendPeer_of_empty (hq : (s.view viewPeer).queue = []) : s.sendPeer = s := by
  have none : s.tapHead viewPeer = .none := by
    unfold State.tapHead
    rw [hq]
    split <;> rfl
  have pump (n : Nat) : State.pumpPeer (n + 1) s = s := by
    unfold State.pumpPeer
    rw [none]
    split <;> rfl
  unfold State.sendPeer
  rw [hq]
  exact pump 7

theorem State.heard_of_still (d : s.LinkStill) : s.heard h = s := by
  have acked : splitAcked h.ack s.pair.unacked = none := by rw [d.unacked, splitAcked]
  unfold State.heard State.takeAck
  rw [acked]
  dsimp only
  rw [State.drainFrames_of_none d.waiting, State.sendPeer_of_empty d.queue, State.advanceHandover_of_none d.handover]

theorem nextLinkSeq_ne_zero (q : Half) : nextLinkSeq q ≠ 0 := by
  unfold nextLinkSeq
  split
  · decide
  · next below => bv_omega

/-- The frame is accepted: counted, and its number the last in order. -/
def State.frameTaken (s : State) (h : PleachHdr) : State :=
  s.countAccepted.setPair fun p => { p with rxSeq := h.seq, recent := (h.seq :: p.recent).take 8, ackOwed := true }

/-- The frame has come before: counted, and its ACK owed again. -/
def State.frameRepeated (s : State) : State :=
  s.setPair fun p => { p with duplicates := satAdd top32 p.duplicates 1, ackOwed := true }

variable (hl : s.linkRuns = true)
include hl

theorem State.receive_unfit (hf : x.fits = false) : s.receive h x f = s.countDropped :=
  (if_neg (by rw [hl]; decide)).trans (if_pos (by rw [← Frame.fits, hf]; rfl))

variable (hf : x.fits = true) (d : s.LinkStill)
include hf d

theorem State.receive_next (hq : h.seq = nextLinkSeq s.pair.rxSeq) :
    s.receive h x f = (f (s.frameTaken h)).sendAck := by
  unfold State.receive
  rw [if_neg (by rw [hl]; decide), if_neg (by rw [← Frame.fits, hf]; decide)]
  dsimp only
  rw [State.heard_of_still d]
  exact if_pos ⟨hq ▸ nextLinkSeq_ne_zero _, hq⟩

theorem State.receive_repeat (hq : h.seq ≠ nextLinkSeq s.pair.rxSeq) (hr : h.seq ∈ s.pair.recent) :
    s.receive h x f = s.frameRepeated.sendAck := by
  unfold State.receive
  rw [if_neg (by rw [hl]; decide), if_neg (by rw [← Frame.fits, hf]; decide)]
  dsimp only
  rw [State.heard_of_still d, if_neg fun e => hq e.2]
  exact if_pos (by simpa using hr)

omit hl in
theorem State.receive_astray (hq : h.seq ≠ nextLinkSeq s.pair.rxSeq) (hr : h.seq ∉ s.pair.recent) :
    s.receive h x f = s := by
  unfold State.receive
  by_cases runs : s.linkRuns = true
  · rw [if_neg (by rw [runs]; decide), if_neg (by rw [← Frame.fits, hf]; decide)]
    dsimp only
    rw [State.heard_of_still d, if_neg fun e => hq e.2]
    exact if_neg (by simpa using hr)
  · exact if_pos (by simpa using runs)

end heard

end Sys2Proof.Machine
end

section
/-!
PROOFS. What a standby makes of the duty's frames: MIRROR, DELIVERED, LAMP, EPOCH, CATCHUP-END and HANDOVER (17 R523-R531,
R535), and of a frame that comes twice, astray or with a LEN that does not fit.
-/
set_option Elab.async false
namespace Sys2Proof.Machine

/-! ### A frame that is accepted (17 R512) -/

section accepted
variable {s u : State} {h : PleachHdr}

/-- An accepted frame is counted, its number stands, and its ACK has gone. -/
structure FrameAccepted (h : PleachHdr) (s t : State) : Prop where
  rxSeq : t.pair.rxSeq = h.seq
  accepted : t.pair.accepted = min 0xFFFFFFFF (s.pair.accepted + 1)
  ackOwed : t.pair.ackOwed = false

/-- The ACK goes out after an effect that keeps what the frame's acceptance set. -/
theorem FrameAccepted.acked (rx : u.pair.rxSeq = h.seq) (acc : u.pair.accepted = (s.frameTaken h).pair.accepted) :
    FrameAccepted h s u.sendAck := by
  have line := u.sendAck_offLine
  exact ⟨(congrArg Pair.rxSeq line :).trans rx, (congrArg Pair.accepted line :).trans acc, u.sendAck_ackOwed⟩

theorem FrameAccepted.of_core (core : u.pair.core = (s.frameTaken h).pair.core) : FrameAccepted h s u.sendAck :=
  FrameAccepted.acked (congrArg Pair.rxSeq core :) (congrArg Pair.accepted core :)

theorem FrameAccepted.of_steps {ps : List Part} (k : Steps ps (s.frameTaken h) u)
    (hp : ps.contains .pair = false := by rfl) : FrameAccepted h s u.sendAck :=
  FrameAccepted.of_core (congrArg Pair.core (k.same .pair hp))

end accepted

/-! ### MIRROR (17 R523) -/

section mirror
variable {s : State} {h : PleachHdr} {r : MirrorRec} {i : Item}

theorem State.matchItem_matched (s : State) (id : Nat) (q : Word) {j : Item} (hj : j ∈ (s.matchItem id q).sluice.items)
    (hi : j.id = id) : j.pairSeq = q ∧ j.isMatched = true := by
  unfold State.matchItem at hj
  split at hj
  · next none =>
    have other := List.find?_eq_none.1 none j hj
    exact absurd (decide_eq_true hi) other
  · next i found =>
    have written (u : State) (a : Nat) : (u.putWord a q.toNat).sluice = u.sluice :=
      (State.putWord_steps (ps := [.mem, .code, .pool, .boxes, .rows]) a q.toNat (Steps.refl _ u) rfl).same .sluice
    rw [written] at hj
    obtain ⟨k, -, rfl⟩ := List.mem_map.1 hj
    by_cases own : k.id = id
    · rw [if_pos own]
      exact ⟨rfl, rfl⟩
    · rw [if_neg own] at hi
      exact absurd hi own

/-- The record's number is the last mirrored one. -/
def State.mirrored (s : State) (r : MirrorRec) : State := s.setPair fun p => { p with lastMirrored := r.pairSeq }

theorem State.mirrorRec_matches (hi : s.sluice.items.find? (fun i => decide (i.place = .committed) && !i.isMatched &&
    i.onPort && recMatches r i && s.inPorts i.id) = some i) :
    s.mirrorRec r = (s.mirrored r).matchItem i.id r.pairSeq := by
  have found : (s.mirrored r).sluice.items.find? (fun i => decide (i.place = .committed) && !i.isMatched && i.onPort &&
    recMatches r i && (s.mirrored r).inPorts i.id) = some i := hi
  unfold State.mirrorRec
  dsimp only
  rw [← State.mirrored, found]

theorem State.mirrorRec_waits (hi : s.sluice.items = []) :
    s.mirrorRec r = (s.mirrored r).setPair fun p => { p with unmatched := p.unmatched ++ [r] } := by
  have items : (s.mirrored r).sluice.items = [] := hi
  unfold State.mirrorRec
  dsimp only
  rw [← State.mirrored, items]
  rfl

/-- With no item to match every record waits, and the last one's number stands. -/
theorem State.mirrorRecs_wait (hi : s.sluice.items = []) (l : List MirrorRec) : l.foldl State.mirrorRec s =
    s.setPair fun p => { p with
      lastMirrored := (l.getLast?.map MirrorRec.pairSeq).getD p.lastMirrored, unmatched := p.unmatched ++ l } := by
  induction l generalizing s with
  | nil => simp [State.setPair]
  | cons r l ih =>
    have items : (s.mirrorRec r).sluice.items = [] := by
      rw [State.mirrorRec_waits hi]
      exact hi
    rw [List.foldl_cons, ih items, State.mirrorRec_waits hi]
    cases last : l.getLast? <;> simp [State.setPair, State.mirrored, List.getLast?_cons, last]

variable (hl : s.linkRuns = true) (hq : h.seq = nextLinkSeq s.pair.rxSeq) (d : s.LinkStill) (hr : s.pair.role = .standby)
include hl hq d hr

theorem exec_mirrorFrame {l : List MirrorRec} (lo : 1 ≤ l.length) (hi : l.length ≤ 25) :
    exec (.mirrorFrame h l) s = .next (l.foldl State.mirrorRec (s.frameTaken h)).sendAck := by
  refine congrArg Host.Outcome.next ((State.receive_next hl ?_ d hq).trans (congrArg State.sendAck (if_pos hr)))
  rw [mirror_fits]
  exact decide_eq_true ⟨lo, hi⟩

theorem mirrorFrame_waits {l : List MirrorRec} (lo : 1 ≤ l.length) (hi : l.length ≤ 25) (he : s.sluice.items = []) :
    ∃ t, exec (.mirrorFrame h l) s = .next t ∧ FrameAccepted h s t ∧ t.pair.unmatched = s.pair.unmatched ++ l ∧
      (∀ r, l.getLast? = some r → t.pair.lastMirrored = r.pairSeq) ∧
      (s.injectOn = false → s.pair.withheld = none → t.pair.wire = pleachBytes 0x09 0 h.seq []) ∧
      Only (parts (.mirrorFrame h l)) s t := by
  have e := exec_mirrorFrame hl hq d hr lo hi
  have items : (s.frameTaken h).sluice.items = [] := he
  rw [State.mirrorRecs_wait items] at e
  generalize hu : ((s.frameTaken h).setPair fun p => { p with
    lastMirrored := (l.getLast?.map MirrorRec.pairSeq).getD p.lastMirrored, unmatched := p.unmatched ++ l }) = u at e
  have line := u.sendAck_offLine
  refine ⟨_, e, FrameAccepted.acked (by rw [← hu]; rfl) (by rw [← hu]; rfl), (congrArg Pair.unmatched line :).trans ?_,
    fun r last => (congrArg Pair.lastMirrored line :).trans ?_, fun off free => ?_, only_parts_of_exec e⟩
  · rw [← hu]
    rfl
  · rw [← hu, last]
    rfl
  · rw [State.sendAck_plain (s := u) (by rw [← hu]; exact off) (by rw [← hu]; exact free) (by rw [← hu]; rfl), ← hu]
    rfl

theorem mirrorFrame_matches (hi : s.sluice.items.find? (fun i => decide (i.place = .committed) && !i.isMatched &&
    i.onPort && recMatches r i && s.inPorts i.id) = some i) :
    ∃ t, exec (.mirrorFrame h [r]) s = .next t ∧ FrameAccepted h s t ∧
      (∀ j, j ∈ t.sluice.items → j.id = i.id → j.pairSeq = r.pairSeq ∧ j.isMatched = true) ∧
      t.pair.unmatched = s.pair.unmatched ∧ Only (parts (.mirrorFrame h [r])) s t := by
  have e := exec_mirrorFrame (l := [r]) hl hq d hr (Nat.le_refl _) (by simp)
  have matched : [r].foldl State.mirrorRec (s.frameTaken h) = ((s.frameTaken h).mirrored r).matchItem i.id r.pairSeq :=
    State.mirrorRec_matches (s := s.frameTaken h) hi
  rw [matched] at e
  have kept : (((s.frameTaken h).mirrored r).matchItem i.id r.pairSeq).pair = ((s.frameTaken h).mirrored r).pair :=
    (State.matchItem_steps (ps := [.mem, .pool, .sluice]) _ _ (Steps.refl _ _) rfl).same .pair
  have acked := State.sendAck_keeps (((s.frameTaken h).mirrored r).matchItem i.id r.pairSeq)
  refine ⟨_, e, FrameAccepted.acked (by rw [kept]; rfl) (by rw [kept]; rfl), fun j hj => ?_, ?_, only_parts_of_exec e⟩
  · rw [acked.same .sluice] at hj
    exact State.matchItem_matched _ _ _ hj
  · refine (congrArg Pair.unmatched (State.sendAck_offLine _) :).trans ?_
    rw [kept]
    rfl

end mirror

/-! ### DELIVERED, LAMP, EPOCH and CATCHUP-END (17 R525, R527, R531) -/

section records
variable {s : State} {h : PleachHdr}

/-- A matched item that the duty has delivered leaves its view. -/
theorem State.deliveredRec_leaves {r : DeliveredRec} {l : Link} (hf : (s.view (portView r.view)).queue.find? (fun l =>
    (s.item? l.item).any fun i => i.isMatched && decide (i.pairSeq = r.pairSeq)) = some l) {k : Link}
    (hk : k ∈ ((s.deliveredRec r).view (portView r.view)).queue) : k.item ≠ l.item := by
  have left : s.deliveredRec r = (s.unlink (portView r.view) l.item).updView (portView r.view) fun w =>
      if w.ahead = some l.item ∨ w.ahead = none then { w with ahead := w.queue.head?.map (·.item) } else w := by
    unfold State.deliveredRec
    dsimp only
    rw [hf]
  rw [left] at hk
  refine State.not_mem_unlink s (portView r.view) l.item ?_
  rw [State.updView, State.view, upd_get_self] at hk
  split at hk <;> exact hk

theorem State.lampRec_used {r : LampRec} (hu : lampUsed (s.lamp r.index).row = true) : s.lampRec r =
    ((s.changeLamp r.index (fun p => { p with
      state := BitVec.ofNat 3 (bitsOf r.row.toNat 3 3), held := r.row.getLsbD 1, injected := r.row.getLsbD 0 })
      (s.fromPairTime r.time) ((s.lamp r.index).injected && !r.row.getLsbD 0 && decide ((s.lamp r.index).state = stDark) &&
        decide (BitVec.ofNat 3 (bitsOf r.row.toNat 3 3) = stDark))).updLamp r.index fun p =>
        { p with acked := r.row.getLsbD 2 }).headNotice := by
  unfold State.lampRec
  dsimp only
  exact if_neg (by rw [hu]; decide)

variable (hl : s.linkRuns = true) (hq : h.seq = nextLinkSeq s.pair.rxSeq) (d : s.LinkStill) (hr : s.pair.role = .standby)
include hl hq d hr

theorem deliveredFrame_leaves {r : DeliveredRec} {l : Link} (hf : (s.view (portView r.view)).queue.find? (fun l =>
    (s.item? l.item).any fun i => i.isMatched && decide (i.pairSeq = r.pairSeq)) = some l) :
    ∃ t, exec (.deliveredFrame h [r]) s = .next t ∧ FrameAccepted h s t ∧
      (∀ k, k ∈ (t.view (portView r.view)).queue → k.item ≠ l.item) ∧ Only (parts (.deliveredFrame h [r])) s t := by
  have e : exec (.deliveredFrame h [r]) s = .next ((s.frameTaken h).deliveredRec r).sendAck := by
    refine congrArg Host.Outcome.next ((State.receive_next hl ?_ d hq).trans (congrArg State.sendAck (if_pos hr)))
    rw [delivered_fits]
    exact decide_eq_true ⟨Nat.le_refl 1, by simp⟩
  have acked := State.sendAck_keeps ((s.frameTaken h).deliveredRec r)
  refine ⟨_, e, FrameAccepted.of_steps (State.deliveredRec_steps (ps := [.mem, .pool, .tx, .sluice]) r (Steps.refl _ _) rfl),
    fun k hk => ?_, only_parts_of_exec e⟩
  rw [State.view, acked.same .sluice] at hk
  exact State.deliveredRec_leaves (s := s.frameTaken h) hf hk

theorem exec_lampFrame {l : List LampRec} (lo : 1 ≤ l.length) (hi : l.length ≤ 21) : exec (.lampFrame h l) s =
    .next (if s.engine.up then l.foldl State.lampRec (s.frameTaken h)
      else (s.frameTaken h).setPair fun p => { p with lampsOwed := p.lampsOwed ++ l }).sendAck := by
  have follows : (s.frameTaken h).pair.follows = true := by
    unfold Pair.follows
    rw [show (s.frameTaken h).pair.role = .standby from hr]
    rfl
  refine congrArg Host.Outcome.next ((State.receive_next hl ?_ d hq).trans (congrArg State.sendAck ?_))
  · rw [lamp_fits]
    exact decide_eq_true ⟨lo, hi⟩
  · exact if_neg (by rw [follows]; decide)

theorem lampFrame_sets {r : LampRec} (hu : s.engine.up = true) (used : lampUsed (s.lamp r.index).row = true) :
    ∃ t, exec (.lampFrame h [r]) s = .next t ∧ FrameAccepted h s t ∧ (t.lamp r.index).acked = r.row.getLsbD 2 ∧
      (t.sluice.alarmWaits = [] → (t.lamp r.index).state.toNat = bitsOf r.row.toNat 3 3 ∧
        (t.lamp r.index).held = r.row.getLsbD 1 ∧ (t.lamp r.index).injected = r.row.getLsbD 0) ∧
      (∀ l, l ≠ r.index → t.lamp l = s.lamp l) ∧ Only (parts (.lampFrame h [r])) s t := by
  have e := exec_lampFrame (l := [r]) hl hq d hr (Nat.le_refl _) (by simp)
  rw [if_pos hu, List.foldl_cons, List.foldl_nil, State.lampRec_used (s := s.frameTaken h) used] at e
  generalize hc : (s.frameTaken h).changeLamp r.index _ _ _ = c at e
  have core : c.pair.core = (s.frameTaken h).pair.core :=
    hc ▸ (Settled.changeLamp (Settled.refl (s.frameTaken h)) r.index _ _ _).core
  have last : Steps [.ports, .pair, .inject] (c.updLamp r.index fun p => { p with acked := r.row.getLsbD 2 })
      (c.updLamp r.index fun p => { p with acked := r.row.getLsbD 2 }).headNotice.sendAck :=
    State.sendAck_steps (State.headNotice_steps (Steps.refl _ _) rfl) rfl
  have own := (last.lamp r.index).trans (c.updLamp_lamp r.index _)
  refine ⟨_, e, FrameAccepted.of_core core, ?_, fun calm => ?_, fun l ne => ?_, only_parts_of_exec e⟩
  · rw [own]
  · have calm : c.calm := (congrArg Sluice.alarmWaits (last.same .sluice :)).symm.trans calm
    rw [own]
    subst hc
    refine ⟨?_, State.changeLamp_held calm, State.changeLamp_injected calm⟩
    refine (congrArg BitVec.toNat (State.changeLamp_state calm)).trans ?_
    exact (BitVec.toNat_ofNat _ _).trans (Nat.mod_mod _ _)
  · rw [last.lamp l, State.updLamp_lamp_ne _ _ ne, ← hc, State.changeLamp_lamp_ne _ _ _ _ ne]
    rfl

theorem lampFrame_owed {l : List LampRec} (lo : 1 ≤ l.length) (hi : l.length ≤ 21) (hu : s.engine.up = false) :
    ∃ t, exec (.lampFrame h l) s = .next t ∧ FrameAccepted h s t ∧ t.pair.lampsOwed = s.pair.lampsOwed ++ l ∧
      t.lamps = s.lamps ∧ Only (parts (.lampFrame h l)) s t := by
  have e := exec_lampFrame hl hq d hr lo hi
  rw [if_neg (by rw [hu]; decide)] at e
  have line := State.sendAck_offLine ((s.frameTaken h).setPair fun p => { p with lampsOwed := p.lampsOwed ++ l })
  exact ⟨_, e, FrameAccepted.acked rfl rfl, (congrArg Pair.lampsOwed line :), (State.sendAck_keeps _).same .lamps,
    only_parts_of_exec e⟩

theorem epochFrame_sets (r : Option EpochRec) : ∃ t, exec (.epochFrame h r) s = .next t ∧ FrameAccepted h s t ∧
    t.settings.epoch = (r.map fun e => { seconds := e.seconds, micros := e.micros, instant := s.fromPairTime e.instant }) ∧
    Only (parts (.epochFrame h r)) s t := by
  have follows : (s.frameTaken h).pair.follows = true := by
    unfold Pair.follows
    rw [show (s.frameTaken h).pair.role = .standby from hr]
    rfl
  have e : exec (.epochFrame h r) s = .next ((s.frameTaken h).setSettings fun g => { g with epoch := r.map fun e =>
      { seconds := e.seconds, micros := e.micros, instant := s.fromPairTime e.instant } }).sendAck :=
    congrArg Host.Outcome.next ((State.receive_next hl (epoch_fits r) d hq).trans (congrArg State.sendAck (if_pos follows)))
  exact ⟨_, e, FrameAccepted.acked rfl rfl, (congrArg Settings.epoch ((State.sendAck_keeps _).same .settings) :),
    only_parts_of_exec e⟩

theorem catchupEnd_catchesUp (n : Word) : ∃ t, exec (.catchupEnd h n) s = .next t ∧ FrameAccepted h s t ∧
    t.pair.caughtUp = true ∧ t.pair.lastMirrored = n - 1 ∧ Only (parts (.catchupEnd h n)) s t := by
  have follows : (s.frameTaken h).pair.follows = true := by
    unfold Pair.follows
    rw [show (s.frameTaken h).pair.role = .standby from hr]
    rfl
  have e : exec (.catchupEnd h n) s =
      .next ((s.frameTaken h).setPair fun p => { p with caughtUp := true, lastMirrored := n - 1 }).sendAck :=
    congrArg Host.Outcome.next
      ((State.receive_next hl (catchupEnd_fits n) d hq).trans (congrArg State.sendAck (if_pos follows)))
  have line := State.sendAck_offLine ((s.frameTaken h).setPair fun p => { p with caughtUp := true, lastMirrored := n - 1 })
  exact ⟨_, e, FrameAccepted.acked rfl rfl, (congrArg Pair.caughtUp line :), (congrArg Pair.lastMirrored line :),
    only_parts_of_exec e⟩

end records

/-! ### HANDOVER (17 R535) -/

section handover
variable {s : State} {h : PleachHdr} {n : Word}

/-- A standby has been handed duty from number `k` on, PL_DUTY_IN standing at `d`. -/
def State.handedAt (s : State) (k : Word) (d : Bool) : State :=
  s.setPair fun p => { p with handed := true, lastMirrored := k, dutyIn := d }

theorem State.handedAt_mayTakeOver (s : State) (k : Word) (d : Bool) : (s.handedAt k d).mayTakeOver = s.mayTakeOver := rfl

theorem State.handedAt_numbers (s : State) (k : Word) (d : Bool) : (s.handedAt k d).pair.rxSeq = s.pair.rxSeq ∧
    (s.handedAt k d).pair.accepted = s.pair.accepted := ⟨rfl, rfl⟩

theorem State.frameTaken_mayTakeOver (s : State) (h : PleachHdr) : (s.frameTaken h).mayTakeOver = s.mayTakeOver := rfl

theorem State.sendAck_duty (s : State) : s.sendAck.pair.role = s.pair.role ∧ s.sendAck.pair.dutyOut = s.pair.dutyOut :=
  ⟨(congrArg Pair.role s.sendAck_offLine :), (congrArg Pair.dutyOut s.sendAck_offLine :)⟩

/-- A take-over keeps the numbering of the link. -/
theorem Pair.of_overtaken {p q : Pair} (core : p.core = q.overtaken.onDuty.core) :
    p.role = .duty ∧ p.dutyOut = true ∧ p.rxSeq = q.rxSeq ∧ p.accepted = q.accepted :=
  ⟨(congrArg Pair.role core :), (congrArg Pair.dutyOut core :), (congrArg Pair.rxSeq core :),
    (congrArg Pair.accepted core :)⟩

variable (hl : s.linkRuns = true) (hq : h.seq = nextLinkSeq s.pair.rxSeq) (d : s.LinkStill)
include hl hq d

theorem exec_handoverFrame (hr : s.pair.role = .standby) (level : Bool) : exec (.handoverFrame h n level) s =
    .next (if !level && ((s.frameTaken h).handedAt (n - 1) level).mayTakeOver then
        ((s.frameTaken h).handedAt (n - 1) level).takeOver
      else (s.frameTaken h).handedAt (n - 1) level).sendAck :=
  congrArg Host.Outcome.next
    ((State.receive_next hl (handover_fits n) d hq).trans (congrArg State.sendAck (if_pos hr)))

theorem handoverFrame_waits (hr : s.pair.role = .standby) : ∃ t, exec (.handoverFrame h n true) s = .next t ∧
    FrameAccepted h s t ∧ t.pair.handed = true ∧ t.pair.lastMirrored = n - 1 ∧ t.pair.role = .standby ∧
    t.pair.dutyIn = true ∧ Only (parts (.handoverFrame h n true)) s t := by
  have e := exec_handoverFrame (n := n) hl hq d hr true
  rw [if_neg (by simp)] at e
  have line := State.sendAck_offLine ((s.frameTaken h).handedAt (n - 1) true)
  exact ⟨_, e, FrameAccepted.acked rfl rfl, (congrArg Pair.handed line :), (congrArg Pair.lastMirrored line :),
    (congrArg Pair.role line :).trans hr, (congrArg Pair.dutyIn line :), only_parts_of_exec e⟩

theorem handoverFrame_takesOver (hm : s.mayTakeOver = true) : ∃ t, exec (.handoverFrame h n false) s = .next t ∧
    FrameAccepted h s t ∧ t.pair.role = .duty ∧ t.pair.dutyOut = true ∧ Only (parts (.handoverFrame h n false)) s t := by
  have hr : s.pair.role = .standby := by
    simp only [State.mayTakeOver, Bool.and_eq_true, decide_eq_true_eq] at hm
    obtain ⟨⟨⟨⟨⟨-, standby⟩, -⟩, -⟩, -⟩, -⟩ := hm
    exact standby
  have e := exec_handoverFrame (n := n) hl hq d hr false
  generalize hu : (s.frameTaken h).handedAt (n - 1) false = u at e
  have may : u.mayTakeOver = true := by rw [← hu, State.handedAt_mayTakeOver, State.frameTaken_mayTakeOver, hm]
  rw [if_pos (by rw [may]; rfl)] at e
  obtain ⟨role, dutyOut, rx, acc⟩ := Pair.of_overtaken u.takeOver_core
  generalize u.takeOver = v at e role dutyOut rx acc
  obtain ⟨role', dutyOut'⟩ := v.sendAck_duty
  obtain ⟨number, count⟩ := (s.frameTaken h).handedAt_numbers (n - 1) false
  rw [hu] at number count
  exact ⟨_, e, FrameAccepted.acked (rx.trans number) (acc.trans count),
    role'.trans role, dutyOut'.trans dutyOut, only_parts_of_exec e⟩

end handover

/-! ### A frame repeated, astray or unfit (17 R510, R512) -/

section repeated
variable {s : State} {h : PleachHdr} {c : Instr} {mr : List MirrorRec} {dr : List DeliveredRec} {ir : ItemRec}
  {lr : List LampRec} {er : Option EpochRec} {n : Word} {level : Bool}

/-- Each of the sequenced frames is received, with a LEN that fits where it holds as many records as it may. -/
theorem sequenced_received (hc : c ∈ [Instr.mirrorFrame h mr, .deliveredFrame h dr, .itemFrame h ir, .lampFrame h lr,
    .epochFrame h er, .catchupEnd h n, .handoverFrame h n level]) (mlo : 1 ≤ mr.length) (mhi : mr.length ≤ 25)
    (dlo : 1 ≤ dr.length) (dhi : dr.length ≤ 42) (ilo : 1 ≤ ir.payload.length) (ihi : ir.payload.length ≤ 240)
    (llo : 1 ≤ lr.length) (lhi : lr.length ≤ 21) :
    ∃ x f, exec c s = .next (s.receive h x f) ∧ x.fits = true := by
  simp only [List.mem_cons, List.not_mem_nil, or_false] at hc
  rcases hc with rfl | rfl | rfl | rfl | rfl | rfl | rfl
  · exact ⟨_, _, rfl, (mirror_fits mr).trans (decide_eq_true ⟨mlo, mhi⟩)⟩
  · exact ⟨_, _, rfl, (delivered_fits dr).trans (decide_eq_true ⟨dlo, dhi⟩)⟩
  · exact ⟨_, _, rfl, (item_fits 0 ir).trans (decide_eq_true ⟨ilo, ihi⟩)⟩
  · exact ⟨_, _, rfl, (lamp_fits lr).trans (decide_eq_true ⟨llo, lhi⟩)⟩
  · exact ⟨_, _, rfl, epoch_fits er⟩
  · exact ⟨_, _, rfl, catchupEnd_fits n⟩
  · exact ⟨_, _, rfl, handover_fits n⟩

theorem sequenced_repeats {x : Frame} {f : State → State} (e : exec c s = .next (s.receive h x f)) (hf : x.fits = true)
    (hl : s.linkRuns = true) (hq : h.seq ≠ nextLinkSeq s.pair.rxSeq) (hr : h.seq ∈ s.pair.recent) (d : s.LinkStill)
    (off : s.injectOn = false) (free : s.pair.withheld = none) :
    ∃ t, exec c s = .next t ∧
      t.pair = { s.pair with
        duplicates := min 0xFFFFFFFF (s.pair.duplicates + 1), ackOwed := false, sent := min 0xFFFFFFFF (s.pair.sent + 1)
        wire := pleachBytes 0x09 0 s.pair.rxSeq [] } ∧ Only [.pair] s t := by
  rw [State.receive_repeat hl hf d hq hr, State.sendAck_plain (s := s.frameRepeated) off free rfl] at e
  have sent : Steps [.pair] s (s.frameRepeated.putLine (pleachBytes 0x09 0 s.pair.rxSeq [])) :=
    State.putLine_steps _ (State.setPair_steps _ (Steps.refl _ s) rfl) rfl
  exact ⟨_, e, rfl, sent.1⟩

variable (hl : s.linkRuns = true)
include hl

theorem exec_mirrorFrame_unfit (hm : mr = [] ∨ 25 < mr.length) : exec (.mirrorFrame h mr) s = .next s.countDropped := by
  refine congrArg Host.Outcome.next (State.receive_unfit hl ?_)
  rw [mirror_fits]
  refine decide_eq_false ?_
  rcases hm with rfl | many
  · exact fun fits => absurd fits.1 (by decide)
  · exact fun fits => absurd fits.2 (Nat.not_le.2 many)

theorem exec_deliveredFrame_unfit (hm : dr = [] ∨ 42 < dr.length) :
    exec (.deliveredFrame h dr) s = .next s.countDropped := by
  refine congrArg Host.Outcome.next (State.receive_unfit hl ?_)
  rw [delivered_fits]
  refine decide_eq_false ?_
  rcases hm with rfl | many
  · exact fun fits => absurd fits.1 (by decide)
  · exact fun fits => absurd fits.2 (Nat.not_le.2 many)

theorem exec_itemFrame_unfit (hm : ir.payload = [] ∨ 240 < ir.payload.length) :
    exec (.itemFrame h ir) s = .next s.countDropped := by
  refine congrArg Host.Outcome.next (State.receive_unfit hl ?_)
  rw [item_fits]
  refine decide_eq_false ?_
  rcases hm with empty | many
  · rw [empty]
    exact fun fits => absurd fits.1 (by decide)
  · exact fun fits => absurd fits.2 (Nat.not_le.2 many)

theorem exec_lampFrame_unfit (hm : lr = [] ∨ 21 < lr.length) : exec (.lampFrame h lr) s = .next s.countDropped := by
  refine congrArg Host.Outcome.next (State.receive_unfit hl ?_)
  rw [lamp_fits]
  refine decide_eq_false ?_
  rcases hm with rfl | many
  · exact fun fits => absurd fits.1 (by decide)
  · exact fun fits => absurd fits.2 (Nat.not_le.2 many)

end repeated

end Sys2Proof.Machine
end

section
/-!
PROOFS. An ITEM frame: the item is written with source 0x41 and decided, so that it is gone, committed or deferred, and the
pair keeps what the frame's acceptance set (17 R526, 12 R376).
-/
set_option Elab.async false
namespace Sys2Proof.Machine

/-! ### What a decision of the Sieve leaves (12 R372-R376) -/

section decision
variable {I J : State → Prop} {t u : State} {id : Nat}

/-- The item as its rule has it (12 R372). -/
def Item.ruled (i : Item) (r : Rule) (n : Nat) : Item :=
  { i with cls := max 1 r.cls, rule := n, breach := r.breach, group := r.group, stampAct := BitVec.ofNat 2 r.stamp }

theorem Item.ruled_rewritten (i : Item) (r : Rule) (n : Nat) : i.Rewritten (i.ruled r n) := ⟨rfl, rfl, rfl, .inl rfl⟩

theorem State.decideItem_found {i : Item} {given : Option Word} (found : t.item? id = some i) :
    t.decideItem id given =
      let n := t.ruleFor i
      let r := t.sieveRule t.sieve.bankB n
      if r.drop || (decide (r.mask = 0) && !r.engine) then ((t.countHit n).dropItem id, n, ocSieve)
      else
        let j := i.ruled r n
        let past := ((t.countHit n).updItem id fun _ => j).memberHeld j
        let held := past.1 &&& r.mask
        let mask := r.mask &&& ~~~held
        if r.weirOn then
          let got := past.2.govern r.weir j mask held r.engine given
          (got.1, n, got.2)
        else
          let got := past.2.commit id mask r.engine 0 none given
          (got.1, n, outcomeOf got.2 (if held = 0 then ocCommitted else ocWeir)) := by
  unfold State.decideItem
  rw [found]
  rfl

/-- The parts that the counts of the Sieve and of the governors stand in. -/
def countParts : List Part := [.sieve, .govs]

/-- The acts of the Weir keep `I`, and leave `J` once the item `id` is gone, committed or deferred. -/
structure DecisionKeeps (id : Nat) (I J : State → Prop) : Prop where
  counts : ∀ {t u : State}, Steps countParts t u → I t → I u
  countsDone : ∀ {t u : State}, Steps countParts t u → J t → J u
  drop : ∀ {t : State} k, I t → I (t.dropItem k)
  dropped : ∀ {t : State}, I t → J (t.dropItem id)
  commit : ∀ {t : State} k want engine lw g given, I t → I (t.commit k want engine lw g given).1
  committed : ∀ {t : State} want engine lw g given, I t → J (t.commit id want engine lw g given).1

namespace DecisionKeeps
variable (k : DecisionKeeps id I J)
include k

theorem commitDeferred (h : I t) (g : GovNo) (i : Item) : I (t.commitDeferred g i) := by
  unfold State.commitDeferred
  split
  · exact k.drop i.id h
  · exact k.commit _ _ _ _ _ _ h

theorem releaseIfDue (h : I t) (g : GovNo) : I (t.releaseIfDue g) := by
  unfold State.releaseIfDue
  dsimp only
  split
  · exact h
  · exact State.foldl_keeps _ h fun _ i hu => k.commitDeferred hu g i

theorem drainOne (h : I t) (g : GovNo) : I (t.drainOne g) := by
  unfold State.drainOne
  split
  · exact h
  · split
    · exact k.drop _ h
    · split
      · exact k.commitDeferred (k.counts (State.updGov_steps g _ (Steps.refl _ t) rfl) h) g _
      · exact h

theorem drain (h : I t) (n : Nat) (g : GovNo) : I (State.drain n t g) := by
  induction n generalizing t with
  | zero => exact h
  | succ n ih => exact ih (k.drainOne h g)

theorem withheldCounted (h : I t) (g : GovNo) (i : Item) (mask : BitVec 51) : I ((t.withhold g i mask).countDrop g) :=
  k.counts (State.countDrop_steps g (State.withhold_steps g i mask (Steps.refl _ t) rfl) rfl) h

theorem replacedOrDropped (h : J t) (g : GovNo) (took : Bool) (outcome : Nat) :
    J (if took then (t.countReplace g, ocReplaced) else (t.countDrop g, outcome)).1 := by
  cases took
  · exact k.countsDone (State.countDrop_steps g (Steps.refl _ t) rfl) h
  · exact k.countsDone (State.countReplace_steps g (Steps.refl _ t) rfl) h

/-- What the Weir does with an item: it is committed, deferred or dropped. -/
theorem govern (h : I t) {i : Item} (hi : i.id = id) (g : GovNo) (mask held : BitVec 51) (engine : Bool) (given : Option Word)
    (queued : ∀ u, I u → J (u.enqueue g i mask engine given).1) : J (t.govern g i mask held engine given).1 := by
  subst hi
  have due := k.releaseIfDue h g
  unfold State.govern
  dsimp only
  split
  · exact k.committed _ _ _ _ _ due
  · have drained := k.drain due ((t.releaseIfDue g).queueOf g).length g
    generalize State.drain _ (t.releaseIfDue g) g = u at drained
    have counted {w : State} (c : Steps countParts u w) : I w := k.counts c drained
    split
    · exact k.committed _ _ _ _ _ (counted (State.countDrop_steps g (Steps.refl _ u) rfl))
    · split
      · exact k.committed _ _ _ _ _ (counted (State.countPass_steps g (Steps.refl _ u) rfl))
      · split
        · exact queued u drained
        · split
          · exact k.committed _ _ _ _ _
              (counted (State.countPass_steps g (State.updGov_steps g _ (Steps.refl _ u) rfl) rfl))
          · split
            · exact queued u drained
            · split
              · have done := k.committed mask engine (u.governed ((t.releaseIfDue g).weirRow g) mask i.cls) (some g) given drained
                exact k.replacedOrDropped done g _ _
              · exact k.committed _ _ _ _ _ (k.withheldCounted drained g i _)
            · exact k.committed _ _ _ _ _ (k.withheldCounted drained g i _)

/-- An item is decided: dropped by its rule, or given to its views or to its governor. -/
theorem decideItem (h : I t) (given : Option Word) (absent : t.item? id = none → J t)
    (put : ∀ u i (j : Item), t.item? id = some i → Item.Rewritten i j → I u → I (u.updItem id fun _ => j))
    (queued : ∀ u i (j : Item) g mask engine, t.item? id = some i → Item.Rewritten i j → I u →
      J (u.enqueue g j mask engine given).1) : J (t.decideItem id given).1 := by
  cases found : t.item? id with
  | none =>
    unfold State.decideItem
    rw [found]
    exact absent found
  | some i =>
    have hit := k.counts (State.countHit_steps (t.ruleFor i) (Steps.refl _ t) rfl) h
    rw [State.decideItem_found found]
    dsimp only
    split
    · exact k.dropped hit
    · have ruled := i.ruled_rewritten (t.sieveRule t.sieve.bankB (t.ruleFor i)) (t.ruleFor i)
      have own := ruled.id.trans (State.item?_id found)
      have member := put _ i _ found ruled hit
      generalize i.ruled (t.sieveRule t.sieve.bankB (t.ruleFor i)) (t.ruleFor i) = j at ruled own member
      have member := k.counts (State.memberHeld_steps j (Steps.refl _ _) rfl) member
      split
      · exact k.govern member own _ _ _ _ _ fun u hu => queued u i j _ _ _ found ruled hu
      · exact k.committed _ _ _ _ _ member

end DecisionKeeps

end decision

/-! ### The items of one number (13 R386, R395) -/

section holding
variable {n id : Nat} {good better : Item → Prop} {t u : State}

/-- `n` items have been numbered, and an item numbered `id` is `good`. -/
structure State.Holds (n id : Nat) (good : Item → Prop) (t : State) : Prop where
  nextId : t.sluice.nextId = n
  items : ∀ j, j ∈ t.sluice.items → j.id = id → good j

theorem State.Holds.still (h : t.Holds n id good) (k : u.sluice.items = t.sluice.items)
    (m : u.sluice.nextId = t.sluice.nextId := by rfl) : u.Holds n id good :=
  ⟨m.trans h.nextId, fun j hj => h.items j (k ▸ hj)⟩

theorem State.Holds.steps {ps : List Part} (h : t.Holds n id good) (k : Steps ps t u)
    (hp : ps.contains .sluice = false := by rfl) : u.Holds n id good :=
  have sluice := k.same .sluice hp
  h.still (congrArg Sluice.items sluice) (congrArg Sluice.nextId sluice)

theorem State.Holds.of_item? (h : t.Holds n id good) {i : Item} (found : t.item? id = some i) : good i :=
  h.items i (List.mem_of_find?_eq_some found) (State.item?_id found)

/-- The item rewritten is what it was rewritten to. -/
theorem State.Holds.put (h : t.Holds n id good) {j : Item} (hj : better j) :
    (t.updItem id fun _ => j).Holds n id better := by
  refine ⟨h.nextId, fun k hk own => ?_⟩
  obtain ⟨l, hl, rfl⟩ := List.mem_map.1 hk
  by_cases same : l.id = id
  · rwa [if_pos same]
  · rw [if_neg same] at own
    exact absurd own same

theorem State.dropItem_nextId (t : State) (id : Nat) : (t.dropItem id).sluice.nextId = t.sluice.nextId := by
  unfold State.dropItem
  split
  · rfl
  · next i _ =>
    have cleared (u : State) : Steps [.mem, .code, .pool, .boxes, .rows] u
        (i.cells.foldl (fun s c => s.putBytes (cellAt c) [0, 0, 0, 0]) u) :=
      Steps.foldl (Steps.refl _ u) fun _ _ h => State.putBytes_steps _ _ h rfl
    exact (congrArg Sluice.nextId ((cleared _).same .sluice) :)

theorem State.Holds.gone (h : t.Holds n id good) : (t.dropItem id).Holds n id better := by
  refine ⟨(State.dropItem_nextId t id).trans h.nextId, fun j hj own => ?_⟩
  rw [State.dropItem_items] at hj
  exact absurd own (of_decide_eq_true (List.mem_filter.1 hj).2)

/-- What speaks of an item's source, its payload and of its having been committed stays true. -/
theorem State.Holds.keeps (n id : Nat) {good : Item → Prop} (hg : ∀ i j, Item.Rewritten i j → good i → good j) :
    SluiceKeeps (State.Holds n id good) where
  view _ _ h := h.still rfl
  tx _ _ h := h.still rfl
  link d h := h.steps d
  word _ _ w _ h := h.steps (State.putWord_steps (ps := [.mem, .code, .pool, .boxes, .rows]) _ w (Steps.refl _ _) rfl)
  free _ h := h.still rfl
  drop _ h := ⟨h.nextId, fun j hj => h.items j (List.mem_of_mem_filter hj)⟩
  each id _ hf h := by
    refine ⟨h.nextId, fun k hk own => ?_⟩
    obtain ⟨l, hl, rfl⟩ := List.mem_map.1 hk
    split at own
    · next same =>
      rw [if_pos same]
      exact hg l _ (hf l) (h.items l hl ((hf l).id.symm.trans own))
    · next other =>
      rw [if_neg other]
      exact h.items l hl own
  commits {t u i j} hi same _ ht hu := by
    refine ⟨hu.nextId, fun k hk own => ?_⟩
    obtain ⟨l, hl, rfl⟩ := List.mem_map.1 hk
    split at own
    · next mine =>
      rw [if_pos mine]
      exact hg i j same (ht.items i hi (same.id.symm.trans own))
    · next other =>
      rw [if_neg other]
      exact hu.items l hl own

/-- A queued item is the one given. -/
theorem State.Holds.enqueue (h : t.Holds n id good) {j : Item} (own : j.id = id) (g : GovNo) (mask : BitVec 51) (engine : Bool)
    (given : Option Word) (hj : ∀ k : Item, k.source = j.source → k.payload = j.payload → k.place = .deferred g → better k) :
    (t.enqueue g j mask engine given).1.Holds n id better := by
  subst own
  unfold State.enqueue
  split
  · exact (h.steps (State.countDrop_steps (ps := [.govs]) g (State.withhold_steps g j mask (Steps.refl _ t) rfl) rfl)).gone
  · refine State.Holds.steps (ps := [.govs]) (t := t.setSluice _) ?_ (State.countDefer_steps g (Steps.refl _ _) rfl)
    refine ⟨h.nextId, fun k hk own => ?_⟩
    rcases List.mem_append.1 hk with old | new
    · exact absurd own (of_decide_eq_true (List.mem_filter.1 old).2)
    · obtain rfl := List.mem_singleton.1 new
      exact hj _ rfl rfl rfl

end holding

/-! ### An ITEM frame (17 R526) -/

section item
variable {s t : State} {h : PleachHdr} {r : ItemRec} {id n : Nat}

/-- The item is the pair's, as it came. -/
def Item.fromPeer (payload : List Byte) (i : Item) : Prop := i.source = 0x41 ∧ i.payload = payload

/-- The item of the pair is no longer as it ended: it is committed or deferred. -/
def Item.decidedFromPeer (payload : List Byte) (i : Item) : Prop := i.fromPeer payload ∧ i.place ≠ .ended

theorem Item.Rewritten.fromPeer {i j : Item} {l : List Byte} (k : i.Rewritten j) (hi : i.fromPeer l) : j.fromPeer l :=
  ⟨k.source.trans hi.1, k.payload.trans hi.2⟩

theorem Item.Rewritten.decidedFromPeer {i j : Item} {l : List Byte} (k : i.Rewritten j) (hi : i.decidedFromPeer l) :
    j.decidedFromPeer l := by
  refine ⟨k.fromPeer hi.1, ?_⟩
  rcases k.place with same | committed
  · rw [same]
    exact hi.2
  · rw [committed]
    exact nofun

theorem fromPeer_decision (n id : Nat) (l : List Byte) : DecisionKeeps id (State.Holds n id (Item.fromPeer l))
    (State.Holds n id (Item.decidedFromPeer l)) where
  counts d k := k.steps d
  countsDone d k := k.steps d
  drop j k := (State.Holds.keeps n id fun _ _ => Item.Rewritten.fromPeer).dropItem k j
  dropped k := k.gone
  commit j _ _ _ _ _ k := (State.Holds.keeps n id fun _ _ => Item.Rewritten.fromPeer).commit k j _ _ _ _ _
  committed {t} want engine lw g given k :=
    (State.Holds.keeps n id fun _ _ => Item.Rewritten.fromPeer).commit_of
      (State.Holds.keeps n id fun _ _ => Item.Rewritten.decidedFromPeer) k want engine lw g given
      (fun none => ⟨k.nextId, fun j hj own => absurd (decide_eq_true own) (List.find?_eq_none.1 none j hj)⟩)
      (fun _ hu => hu.gone) fun _ i j found same place hu =>
        hu.put ⟨same.fromPeer (k.of_item? found), by rw [place]; exact nofun⟩

theorem State.decideItem_decided (k : t.Holds n id (Item.fromPeer r.payload)) (given : Option Word) :
    (t.decideItem id given).1.Holds n id (Item.decidedFromPeer r.payload) := by
  refine (fromPeer_decision n id r.payload).decideItem k given
    (fun none => ⟨k.nextId, fun j hj own => absurd (decide_eq_true own) (List.find?_eq_none.1 none j hj)⟩)
    (fun u i j found same hu => hu.put (same.fromPeer (k.of_item? found))) fun u i j g mask engine found same hu => ?_
  have peer := same.fromPeer (k.of_item? found)
  exact hu.enqueue (same.id.trans (State.item?_id found)) g mask engine given fun l source payload place =>
    ⟨⟨source.trans peer.1, payload.trans peer.2⟩, by rw [place]; exact nofun⟩

theorem sameCore_decision (s : State) (id : Nat) : DecisionKeeps id (SameCore s) (SameCore s) where
  counts d k := k.steps d
  countsDone d k := k.steps d
  drop j k := k.steps (State.dropItem_steps (ps := [.mem, .pool, .sluice]) j (Steps.refl _ _) rfl)
  dropped k := k.steps (State.dropItem_steps (ps := [.mem, .pool, .sluice]) id (Steps.refl _ _) rfl)
  commit _ _ _ _ _ _ k := k.commit _ _ _ _ _ _
  committed _ _ _ _ _ k := k.commit _ _ _ _ _ _

theorem State.decideItem_core (s : State) (id : Nat) (given : Option Word) : SameCore s (s.decideItem id given).1 :=
  (sameCore_decision s id).decideItem (SameCore.refl s) given (fun _ => SameCore.refl s)
    (fun _ _ _ _ _ k => k.steps (State.updItem_steps (ps := [.sluice]) _ _ (Steps.refl _ _) rfl))
    fun _ _ j g mask engine _ _ k => k.steps
      (State.enqueue_steps (ps := [.mem, .pool, .sluice, .govs]) g j mask engine given (Steps.refl _ _) rfl)

theorem State.takeCells_items {alarm : Bool} {got cs : List Nat} {u : State}
    (e : State.takeCells n t alarm got = some (cs, u)) :
    u.sluice.items = t.sluice.items ∧ u.sluice.nextId = t.sluice.nextId := by
  induction n generalizing t got with
  | zero =>
    unfold State.takeCells at e
    cases e
    exact ⟨rfl, rfl⟩
  | succ n ih =>
    unfold State.takeCells at e
    split at e
    · next c v took =>
      unfold State.takeCell State.popCell at took
      split at took
      · dsimp only at took
        split at took
        · cases took
          have rest := ih e
          exact rest
        · cases took
      · cases took
    · cases e

theorem State.newItem_numbered {payload : List Byte} {tagLen : Nat} {source : Byte} {stamp : Stamp} {doubt : Bool}
    {flags : Byte} {alarm : Bool} (e : s.newItem payload tagLen source stamp doubt flags alarm = some (id, t)) :
    id = s.sluice.nextId ∧ t.sluice.nextId = s.sluice.nextId + 1 ∧
      ∃ cells, t.sluice.items = s.sluice.items ++ [freshItem id cells payload tagLen source stamp doubt flags] := by
  unfold State.newItem at e
  split at e
  · cases e
  · next cells u took =>
    obtain ⟨items, number⟩ := State.takeCells_items took
    have written := ((State.putLinks_steps (ps := [.mem, .code, .pool, .boxes, .rows]) cells
      (State.putPayload_steps cells 0 payload (Steps.refl _ u) rfl) rfl)).same .sluice
    cases e
    exact ⟨number, congrArg (· + 1) number, cells, congrArg (· ++ _) ((congrArg Sluice.items written).trans items)⟩

/-- The item of an ITEM frame gets its cells, is numbered and decided. -/
theorem State.takeItem_decides (room : 128 + cellsFor r.payload.length ≤ s.freeCount)
    (fresh : ∀ j, j ∈ s.sluice.items → j.id < s.sluice.nextId) : SameCore s (s.takeItem r) ∧
      (s.takeItem r).Holds (s.sluice.nextId + 1) s.sluice.nextId (Item.decidedFromPeer r.payload) := by
  obtain ⟨id, t, e⟩ := State.newItem_some (tagLen := tagLenOf r.payload) (source := 0x41) (stamp := s.now)
    (doubt := s.doubtNow) (flags := r.flags &&& ~~~flVoid) room
  obtain ⟨rfl, number, cells, items⟩ := State.newItem_numbered e
  have peer : t.Holds (s.sluice.nextId + 1) s.sluice.nextId (Item.fromPeer r.payload) := by
    refine ⟨number, fun j hj own => ?_⟩
    rw [items] at hj
    rcases List.mem_append.1 hj with old | new
    · exact absurd own (Nat.ne_of_lt (fresh j old))
    · obtain rfl := List.mem_singleton.1 new
      exact ⟨rfl, rfl⟩
  have core : SameCore s t := (SameCore.refl s).steps
    (State.newItem_steps (ps := [.mem, .code, .pool, .boxes, .rows, .draws, .sluice]) e (Steps.refl _ s) rfl)
  unfold State.takeItem
  rw [e]
  exact ⟨core.trans (State.decideItem_core t _ _), State.decideItem_decided peer _⟩

/-- An ITEM frame next in order (17 R526). -/
theorem itemFrame_decides (hl : s.linkRuns = true) (hq : h.seq = nextLinkSeq s.pair.rxSeq) (d : s.LinkStill)
    (lo : 1 ≤ r.payload.length) (hi : r.payload.length ≤ 240) (room : 128 + cellsFor r.payload.length ≤ s.freeCount)
    (fresh : ∀ j, j ∈ s.sluice.items → j.id < s.sluice.nextId) :
    ∃ t, exec (.itemFrame h r) s = .next t ∧ FrameAccepted h s t ∧
      t.Holds (s.sluice.nextId + 1) s.sluice.nextId (Item.decidedFromPeer r.payload) ∧
      Only (parts (.itemFrame h r)) s t := by
  have e : exec (.itemFrame h r) s = .next ((s.frameTaken h).takeItem r).sendAck := by
    refine congrArg Host.Outcome.next (State.receive_next hl ?_ d hq)
    rw [item_fits]
    exact decide_eq_true ⟨lo, hi⟩
  obtain ⟨core, decided⟩ := State.takeItem_decides (s := s.frameTaken h) room fresh
  exact ⟨_, e, FrameAccepted.of_core core, decided.steps (State.sendAck_keeps _), only_parts_of_exec e⟩

end item

end Sys2Proof.Machine
end

section
/-!
PROOFS. HEARTBEATs that go out and come in, an ACK, a frame that fails the check, a retransmission, and items that are missing
or orphans (17 R509-R516, R528, R531).
-/
set_option Elab.async false
namespace Sys2Proof.Machine

/-! ### A HEARTBEAT that goes out (17 R514) -/

section sent
variable {s t : State}

theorem State.launchFrame_ackOwed (h : s.pair.ackOwed = false) (f : Frame) : (s.launchFrame f).pair.ackOwed = false := by
  have met (u : State) : (u.injectAt 2 0 fun x => decide (x ≤ 2)).2.pair = u.pair := State.injectAt_pair u 2 0 _
  have last (u : State) (i : Option (Fin 16)) (l : List Byte) (n : Nat) : (u.sendPast i l n).pair.ackOwed = false :=
    (State.sendPast_line u i l n).2
  unfold State.launchFrame
  dsimp only
  generalize hu : s.setPair _ = u
  have owed : u.pair.ackOwed = false := hu ▸ h
  split
  · exact last _ _ _ _
  · split
    · split
      · exact last _ _ _ _
      · exact (congrArg Pair.ackOwed (met u)).trans owed
    · exact last _ _ _ _

theorem State.sendFrame_ackOwed (h : s.pair.ackOwed = false) (f : Frame) : (s.sendFrame f).pair.ackOwed = false := by
  unfold State.sendFrame
  split
  · exact State.launchFrame_ackOwed h f
  · exact h

theorem State.pumpPeer_ackOwed (h : s.pair.ackOwed = false) (n : Nat) : (State.pumpPeer n s).pair.ackOwed = false := by
  induction n generalizing s with
  | zero => exact h
  | succ n ih =>
    unfold State.pumpPeer
    split
    · exact h
    · split
      · exact h
      · split
        · refine ih ((congrArg Pair.ackOwed (?_ : _ = s.pair)).trans h)
          exact (State.refuse_steps (ps := [.mem, .pool, .tx, .sluice]) viewPeer 1
            (State.unlink_steps viewPeer _ (Steps.refl _ s) rfl) rfl).same .pair
        · exact ih (State.sendFrame_ackOwed (s := s.take viewPeer _) h _)

theorem State.sendPeer_of_down (h : s.pair.linkUp = false) : s.sendPeer = s := by
  have pump (n : Nat) : State.pumpPeer (n + 1) s = s := by
    unfold State.pumpPeer
    exact if_pos (by rw [h]; simp)
  unfold State.sendPeer
  rw [Nat.add_comm]
  exact pump _

theorem SameCore.sendPeer (h : SameCore s t) : SameCore s t.sendPeer := h.pumpPeer _

theorem SameCore.sendPlain (h : SameCore s t) (code : Nat) (l : List Byte) : SameCore s (t.sendPlain code l) := by
  have met := h.steps (State.injectAt_steps (ps := [.inject]) 2 0 (fun x => decide (x ≤ 1)) (Steps.refl _ t) rfl)
  exact met.sendPast _ _ _

/-- The HEARTBEAT is composed. -/
def State.beating (s : State) (b : Heartbeat) : State := s.setPair fun p => { p with beat := some b }

theorem heartbeatSend_sends (hl : s.linkRuns = true) (off : s.injectOn = false) :
    ∃ t, exec .heartbeatSend s = .next t ∧ t.pair.beat = some s.heartbeat ∧ t.pair.ackOwed = false ∧
      (s.pair.linkUp = false → s.pair.withheld = none → t.pair.sent = min 0xFFFFFFFF (s.pair.sent + 1) ∧
        t.pair.wire = pleachBytes 0x01 0 s.pair.rxSeq (beatBytes s.heartbeat)) ∧
      Only (parts .heartbeatSend) s t := by
  generalize hb : s.heartbeat = b
  have e : exec .heartbeatSend s = .next ((s.beating b).sendPlain 0x01 (beatBytes b)).sendPeer := by
    show execHeartbeatSend s = _
    unfold execHeartbeatSend
    rw [if_neg (by rw [hl]; decide), ← hb]
    rfl
  have core : SameCore (s.beating b) ((s.beating b).sendPlain 0x01 (beatBytes b)).sendPeer :=
    ((SameCore.refl _).sendPlain _ _).sendPeer
  refine ⟨_, e, (congrArg Pair.beat core :), State.pumpPeer_ackOwed (State.sendPast_line _ _ _ _).2 _,
    fun down free => ?_, only_parts_of_exec e⟩
  have line (l : List Byte) : ((s.beating b).putLine l).sendPeer = (s.beating b).putLine l := State.sendPeer_of_down down
  rw [State.sendPlain_plain (s := s.beating b) off free, line]
  exact ⟨rfl, rfl⟩

end sent

/-! ### An ACK that comes in (17 R511) -/

section acked
variable {s t : State} {h : PleachHdr}

theorem State.ackFrame_queue (s : State) (f : Frame) :
    ((s.ackFrame f).view viewPeer).queue = (s.view viewPeer).queue := by
  unfold State.ackFrame
  split
  · split
    · rw [State.letGo_view]
    · rfl
  all_goals rfl

/-- The oldest frame of the window is acknowledged. -/
theorem ackOnly_acks {f : Frame} {r : List (Half × Frame)} (hl : s.linkRuns = true) (hu : s.pair.unacked = (h.ack, f) :: r)
    (hw : s.pair.waiting = []) (hq : (s.view viewPeer).queue = []) (hn : s.pair.handover = .none) :
    ∃ t, exec (.ackOnly h) s = .next t ∧ t.pair.unacked = r ∧ t.pair.rxSeq = s.pair.rxSeq ∧
      t.pair.accepted = min 0xFFFFFFFF (s.pair.accepted + 1) ∧ Only (parts (.ackOnly h)) s t := by
  generalize ht : (s.setPair fun p => { p with unacked := r }).ackFrame f = t
  have pair : t.pair = { s.pair with unacked := r } :=
    ht ▸ (State.ackFrame_steps (ps := [.mem, .pool, .sluice]) f (Steps.refl _ _) rfl).same .pair
  have queue : (t.view viewPeer).queue = [] := ht ▸ (State.ackFrame_queue _ f).trans hq
  have acked : s.heard h = t := by
    have split : splitAcked h.ack s.pair.unacked = some ([f], r) := by rw [hu, splitAcked, if_pos rfl]
    unfold State.heard State.takeAck
    rw [split]
    dsimp only [List.foldl]
    rw [ht, State.drainFrames_of_none (by rw [pair]; exact hw), State.sendPeer_of_empty queue,
      State.advanceHandover_of_none (by rw [pair]; exact hn)]
  have e : exec (.ackOnly h) s = .next t.countAccepted := by
    show execAckOnly h s = _
    unfold execAckOnly
    rw [if_pos hl, acked]
  have counted : t.countAccepted.pair = { s.pair with
      unacked := r, accepted := satAdd top32 s.pair.accepted 1 } := by
    show { t.pair with accepted := satAdd top32 t.pair.accepted 1 } = _
    rw [pair]
  exact ⟨_, e, (congrArg Pair.unacked counted :), (congrArg Pair.rxSeq counted :), (congrArg Pair.accepted counted :),
    only_parts_of_exec e⟩

theorem SameCore.drainFrames (h : SameCore s t) (n : Nat) : SameCore s (State.drainFrames n t) := by
  induction n generalizing t with
  | zero => exact h
  | succ n ih =>
    unfold State.drainFrames
    split
    · next f fs _ =>
      split
      · exact ih ((h.setPair (f := fun p => { p with waiting := fs }) fun _ => rfl).launchFrame f)
      · exact h
    · exact h

/-- Where no handover runs, what is heard of the window leaves the pair as it stands. -/
theorem State.heard_core (hn : s.pair.handover = .none) : SameCore s (s.heard h) := by
  have taken {u : State} (hu : SameCore s u) : SameCore s (State.drainFrames 8 u).sendPeer.advanceHandover := by
    have sent := (hu.drainFrames 8).sendPeer
    rw [State.advanceHandover_of_none ((congrArg Pair.handover sent :).trans hn)]
    exact sent
  unfold State.heard State.takeAck
  refine taken ?_
  split
  · next fs rest _ =>
    exact SameCore.foldl _ ((SameCore.refl s).setPair (f := fun p => { p with unacked := rest }) fun _ => rfl) fun u f hu =>
      hu.steps (State.ackFrame_steps (ps := [.mem, .pool, .sluice]) f (Steps.refl _ u) rfl)
  · exact SameCore.refl s

end acked

/-! ### A frame that fails the check, a retransmission, an item that is missing or an orphan (17 R510, R513, R528) -/

section counted
variable {s : State}

theorem exec_pleachFrameDropped {l : List Byte} (hl : s.linkRuns = true) : exec (.pleachFrameDropped l) s =
    .next (if pleachBad l then s.countDropped else s) := by
  show execPleachFrameDropped l s = _
  unfold execPleachFrameDropped
  rw [hl, Bool.true_and]
  split <;> rfl

theorem exec_retransmit (hl : s.linkRuns = true) (up : s.pair.linkUp = true) : exec .retransmit s =
    .next (s.setPair fun p => { p with
      resent := min 0xFFFFFFFF (p.resent + p.unacked.length)
      wire := match p.unacked.getLast? with
        | some (q, f) => s.frameBytes q f
        | none => p.wire
      ackOwed := p.ackOwed && p.unacked.isEmpty }) :=
  if_pos (by rw [hl, up]; rfl)

theorem exec_retransmit_empty (hl : s.linkRuns = true) (up : s.pair.linkUp = true) (hu : s.pair.unacked = []) :
    exec .retransmit s = .next (s.setPair fun p => { p with resent := min 0xFFFFFFFF p.resent }) := by
  rw [exec_retransmit hl up]
  unfold State.setPair
  simp only [hu, List.getLast?_nil, List.isEmpty_nil, Bool.and_true, List.length_nil, Nat.add_zero]

theorem exec_retransmit_window {q : Half} {f : Frame} (hl : s.linkRuns = true) (up : s.pair.linkUp = true)
    (hu : s.pair.unacked.getLast? = some (q, f)) : exec .retransmit s = .next (s.setPair fun p => { p with
      resent := min 0xFFFFFFFF (p.resent + p.unacked.length), wire := pleachBytes f.code q s.pair.rxSeq f.bytes
      ackOwed := false }) := by
  have nonempty : s.pair.unacked.isEmpty = false := by
    cases h : s.pair.unacked with
    | nil => rw [h] at hu; cases hu
    | cons => rfl
  rw [exec_retransmit hl up]
  unfold State.setPair
  simp only [hu, nonempty, Bool.and_false, State.frameBytes]

theorem exec_missing {q : Word} {r : MirrorRec} (hr : s.roadRuns = true)
    (hf : s.pair.unmatched.find? (fun r => decide (r.pairSeq = q)) = some r) :
    exec (.missing q) s = .next (s.setPair fun p => { p with
      unmatched := p.unmatched.erase r, missing := min 0xFFFFFFFF (p.missing + 1) }) := by
  show execMissing q s = _
  unfold execMissing
  rw [hf]
  exact if_pos hr

/-- The orphan leaves the view of the port. -/
def State.leavePort (n : Nat) (s : State) (p : PortNo) : State :=
  if (s.view (portView p)).queue.any fun l => decide (l.item = n) then s.unlink (portView p) n else s

theorem State.leavePort_pair (n : Nat) (s : State) (p : PortNo) : (s.leavePort n p).pair = s.pair := by
  unfold State.leavePort
  split
  · exact (State.unlink_steps (ps := [.mem, .pool, .tx, .sluice]) (portView p) n (Steps.refl _ s) rfl).same .pair
  · rfl

theorem State.leavePort_view (n : Nat) (s : State) (p : PortNo) {v : Fin 52} (ne : v ≠ portView p) :
    (s.leavePort n p).view v = s.view v := by
  unfold State.leavePort
  split
  · rw [State.unlink_view]
    exact upd_get_ne _ _ ne
  · rfl

theorem State.leavePort_leaves (n : Nat) (s : State) (p : PortNo) {l : Link}
    (hl : l ∈ ((s.leavePort n p).view (portView p)).queue) : l.item ≠ n := by
  unfold State.leavePort at hl
  split at hl
  · exact State.not_mem_unlink _ _ _ hl
  · next absent =>
    intro same
    exact absent (List.any_eq_true.2 ⟨l, hl, decide_eq_true same⟩)

/-- The orphan is counted. -/
def State.countOrphan (s : State) : State := s.setPair fun p => { p with orphans := satAdd top32 p.orphans 1 }

theorem orphan_leaves {n : Nat} {i : Item} (hr : s.roadRuns = true) (standby : s.pair.role = .standby)
    (hi : s.item? n = some i) (hp : i.place = .committed) (hm : i.isMatched = false) (hports : s.inPorts n = true) :
    ∃ t, exec (.orphan n) s = .next t ∧ t.pair.orphans = min 0xFFFFFFFF (s.pair.orphans + 1) ∧
      (∀ p l, l ∈ (t.view (portView p)).queue → l.item ≠ n) ∧ (t.view viewPeer).queue = (s.view viewPeer).queue ∧
      Only (parts (.orphan n)) s t := by
  have e : exec (.orphan n) s = .next (s.countOrphan.eachPort (State.leavePort n)) := by
    show execOrphan n s = _
    unfold execOrphan
    rw [hi]
    exact if_pos (by simp [hr, standby, hp, hm, hports])
  have pair : (s.countOrphan.eachPort (State.leavePort n)).pair = s.countOrphan.pair :=
    State.foldl_keeps (I := fun v => v.pair = s.countOrphan.pair) _ rfl fun v p hv => (v.leavePort_pair n p).trans hv
  have view : (s.countOrphan.eachPort (State.leavePort n)).view viewPeer = s.view viewPeer :=
    State.foldl_keeps (I := fun v => v.view viewPeer = s.view viewPeer) _ rfl fun v p hv =>
      (v.leavePort_view n p (Fin.ne_of_gt (Nat.lt_trans p.isLt (by decide)))).trans hv
  refine ⟨_, e, (congrArg Pair.orphans pair :), fun p l hl => ?_, congrArg View.queue view, only_parts_of_exec e⟩
  obtain ⟨v, -, -, left⟩ := State.eachPort_key (f := State.leavePort n) (I := fun _ => True)
    (key := fun v p => v.view (portView p)) (s := s.countOrphan) (fun _ _ _ => trivial)
    (fun v p q _ ne => v.leavePort_view n p fun same => ne (Fin.ext (congrArg Fin.val same :))) trivial p
  rw [left] at hl
  exact State.leavePort_leaves n v p hl

end counted

end Sys2Proof.Machine
end

section
/-!
PROOFS. A HEARTBEAT that comes in: the peer, PL_DUTY_IN, the mismatches, the formation of the pair and a peer of the same rank
(17 R514-R516, R531).
-/
set_option Elab.async false
namespace Sys2Proof.Machine

/-! ### The acts of a HEARTBEAT (17 R514-R516) -/

section acts
variable {s t : State} {h : PleachHdr} {b : Heartbeat} {d : Bool}

/-- The peer as its HEARTBEAT gives it. -/
def beatPeer (b : Heartbeat) : Peer :=
  { flags := b.flags, rank := b.rank, mode := b.mode, major := b.major, minor := b.minor, patch := b.patch
    digest := b.digest }

/-- The HEARTBEAT is counted and the peer noted. -/
def State.beatCounted (s : State) (b : Heartbeat) : State :=
  s.countAccepted.setPair fun p => { p.beaten with peer := some (beatPeer b) }

/-- A standby measures its offset where the peer is duty. -/
def State.beatMeasured (s : State) (b : Heartbeat) : State :=
  if s.pair.role = .standby ∧ b.flags.getLsbD 0 then s.setPair fun p => { p with measured := some (b.elapsed - s.now) }
  else s

/-- What the HEARTBEAT and PL_DUTY_IN tell of the peer. -/
def State.beatSeen (s : State) (b : Heartbeat) (d : Bool) : State := (if s.engine.up then s.compare b else s).seeDuty d

/-- The pair is formed where it may be, and the peer's view goes on. -/
def State.beatDone (s : State) (before : Pair) : State := (if s.engine.up then s.form else s).sendPeer.noted before

theorem exec_heartbeatReceived (hl : s.linkRuns = true) : exec (.heartbeatReceived h b d) s =
    .next (((((s.heard h).beatCounted b).beatMeasured b).rankClash b).beatSeen b d |>.beatDone s.pair) := by
  show execHeartbeatReceived h b d s = _
  unfold execHeartbeatReceived
  rw [if_neg (by rw [hl]; decide)]
  unfold State.beatDone State.beatSeen State.beatMeasured State.beatCounted beatPeer
  dsimp only

/-- The third HEARTBEAT in a row sets LINK_UP. -/
theorem Pair.beaten_eq (p : Pair) : p.beaten = { p with
    beats := min 3 (p.beats + 1), linkUp := p.linkUp || decide (2 ≤ p.beats)
    txSeq := if 2 ≤ p.beats ∧ p.linkUp = false then 1 else p.txSeq } := by
  have three : min 3 (p.beats + 1) = 3 ↔ 2 ≤ p.beats := by omega
  unfold Pair.beaten
  simp only [three]
  cases up : p.linkUp
  · by_cases two : 2 ≤ p.beats <;> simp [two]
  · simp

theorem State.beatCounted_pair (s : State) (b : Heartbeat) : (s.beatCounted b).pair = { s.pair with
    accepted := satAdd top32 s.pair.accepted 1, beats := min 3 (s.pair.beats + 1)
    linkUp := s.pair.linkUp || decide (2 ≤ s.pair.beats)
    txSeq := if 2 ≤ s.pair.beats ∧ s.pair.linkUp = false then 1 else s.pair.txSeq, peer := some (beatPeer b) } :=
  congrArg (fun p : Pair => { p with peer := some (beatPeer b) }) s.countAccepted.pair.beaten_eq

theorem State.beatMeasured_eq (s : State) (b : Heartbeat) : s.beatMeasured b = s.setPair fun p => { p with
    measured := if s.pair.role = .standby ∧ b.flags.getLsbD 0 then some (b.elapsed - s.now) else p.measured } := by
  unfold State.beatMeasured
  split <;> rfl

/-- The duty may form the pair. -/
def State.mayForm (s : State) : Bool :=
  s.pair.linkUp && !s.pair.forming && !s.pair.majorMismatch && !s.pair.sameRank && decide (s.pair.role = .duty) &&
    s.pair.peerStands

/-- The steps of formation. -/
def State.catchUp (s : State) : State :=
  let s := s.setPair fun p => { p with forming := true }
  let s := s.sendFrame (.epoch (s.settings.epoch.map fun e =>
    { seconds := e.seconds, micros := e.micros, instant := e.instant }))
  let s := s.eachLamp fun s l => if lampUsed (s.lamp l).row then s.sendLamp l else s
  (s.sendFrame (.catchupEnd s.pair.nextSeq)).setPair fun p => { p with caughtUp := true }

theorem Pair.caughtUp_core {p q : Pair} (h : p.core = q.core) :
    ({ p with caughtUp := true } : Pair).core = ({ q with caughtUp := true } : Pair).core :=
  congrArg (fun r : Pair => { r with caughtUp := true }) h

theorem State.catchUp_core (s : State) :
    s.catchUp.pair.core = ({ s.pair with forming := true, caughtUp := true } : Pair).core := by
  unfold State.catchUp
  dsimp only
  generalize hv : (s.setPair fun p => { p with forming := true }) = v
  have began : SameCore v (v.sendFrame (.epoch (v.settings.epoch.map fun e =>
      { seconds := e.seconds, micros := e.micros, instant := e.instant }))) := (SameCore.refl v).sendFrame _
  have lamps {u : State} (hu : SameCore v u) :
      SameCore v (u.eachLamp fun s l => if lampUsed (s.lamp l).row then s.sendLamp l else s) :=
    hu.foldl _ fun u l hu => by
      split
      · exact hu.sendLamp l
      · exact hu
  have forming : v.pair.core = ({ s.pair with forming := true } : Pair).core := by
    rw [← hv]
    rfl
  exact (Pair.caughtUp_core ((lamps began).sendFrame _)).trans (Pair.caughtUp_core forming)

theorem State.form_eq (s : State) : s.form = if !s.mayForm then s else s.catchUp := rfl

/-- The pair forms where it may. -/
def Pair.formedIf (c : Bool) (p : Pair) : Pair := { p with forming := p.forming || c, caughtUp := p.caughtUp || c }

theorem Pair.formedIf_false (p : Pair) : p.formedIf false = p := by
  unfold Pair.formedIf
  rw [Bool.or_false, Bool.or_false]

theorem Pair.formedIf_true (p : Pair) : p.formedIf true = { p with forming := true, caughtUp := true } := by
  unfold Pair.formedIf
  rw [Bool.or_true, Bool.or_true]

theorem State.form_core (s : State) : s.form.pair.core = (s.pair.formedIf s.mayForm).core := by
  rw [s.form_eq]
  cases s.mayForm
  · rw [Pair.formedIf_false]
    rfl
  · rw [Pair.formedIf_true]
    exact s.catchUp_core

theorem State.beatDone_core (s : State) (before : Pair) :
    (s.beatDone before).pair.core = (s.pair.formedIf (s.engine.up && s.mayForm)).core := by
  have sent (u : State) : (u.sendPeer.noted before).pair.core = u.pair.core := by
    rw [State.noted_pair]
    exact (SameCore.refl u).sendPeer
  unfold State.beatDone
  rw [sent]
  cases s.engine.up
  · rw [Bool.false_and, Pair.formedIf_false, if_neg (by decide)]
  · rw [Bool.true_and, if_pos rfl, s.form_core]

end acts

/-! ### A peer of another rank (17 R514-R516, R531) -/

section told
variable {s u : State} {h : PleachHdr} {b : Heartbeat} {d : Bool}

theorem State.rankClash_of_ne (hr : b.rank ≠ s.power.rank) :
    s.rankClash b = s.setPair fun p => { p with sameRank := false } := by
  unfold State.rankClash
  rw [if_neg fun c => hr c.1]
  dsimp only
  rw [decide_eq_false hr]

theorem State.beatSeen_pair (hu : s.engine.up = true) (hr : b.rank ≠ s.power.rank) :
    (((s.beatMeasured b).rankClash b).beatSeen b d).pair = { s.pair with
      measured := if s.pair.role = .standby ∧ b.flags.getLsbD 0 then some (b.elapsed - s.now) else s.pair.measured
      sameRank := false, majorMismatch := decide (b.major ≠ s.heartbeat.major)
      minorMismatch := decide (b.major = s.heartbeat.major) && decide (b.minor ≠ s.heartbeat.minor)
      splitConfig := s.pair.splitConfig && decide (b.digest ≠ s.heartbeat.digest)
      timeSkew := if s.pair.role = .duty then b.flags.getLsbD 4 else s.pair.timeSkew
      peerEngineDown := b.flags.getLsbD 1, dutyIn := d
      role := if d && (s.engineWorks && s.settings.pairEnable) && decide (s.pair.role = .none) then .standby
        else s.pair.role } := by
  rw [State.beatMeasured_eq, State.rankClash_of_ne (by exact hr), State.beatSeen, if_pos (by exact hu), State.seeDuty_pair,
    Bool.and_assoc d]
  rfl

/-- The parts that what is heard of the window may change. -/
def beatParts : List Part := [.mem, .pool, .draws, .irq, .bells, .replies, .changes, .ports, .tx, .sluice, .lamps, .buses,
  .heads, .pair, .journal, .tag, .inject]

/-- What the HEARTBEAT of a peer of another rank makes of the pair. -/
structure BeatTold (b : Heartbeat) (d : Bool) (s : State) (q : Pair) : Prop where
  peer : q.peer = some (beatPeer b)
  dutyIn : q.dutyIn = d
  beats : q.beats = min 3 (s.pair.beats + 1)
  linkUp : q.linkUp = (s.pair.linkUp || decide (2 ≤ s.pair.beats))
  sameRank : q.sameRank = false
  majorMismatch : q.majorMismatch = decide (b.major ≠ s.heartbeat.major)
  accepted : q.accepted = satAdd top32 s.pair.accepted 1
  role : q.role = if d && decide (s.pair.role = .none) then .standby else s.pair.role
  measured : s.pair.role = .standby → b.flags.getLsbD 0 = true → q.measured = some (b.elapsed - s.now)
  forming : q.forming = s.pair.forming

theorem State.beatSeen_told (hl : s.linkRuns = true) (hu : s.engine.up = true) (hr : b.rank ≠ s.power.rank) :
    BeatTold b d s ((((s.beatCounted b).beatMeasured b).rankClash b).beatSeen b d).pair := by
  have works : (s.engineWorks && s.settings.pairEnable) = true := by
    simp only [State.linkRuns, Bool.and_eq_true] at hl
    simp only [State.engineWorks, hl.1, hl.2, hu, Bool.and_self]
  have counted := s.beatCounted_pair b
  have role : (s.beatCounted b).pair.role = s.pair.role := (congrArg Pair.role counted :)
  have own : (s.beatCounted b).heartbeat.major = s.heartbeat.major := rfl
  have now : (s.beatCounted b).now = s.now := rfl
  have works' : ((s.beatCounted b).engineWorks && (s.beatCounted b).settings.pairEnable) = true := works
  have up : (s.beatCounted b).engine.up = true := hu
  have rank : b.rank ≠ (s.beatCounted b).power.rank := hr
  generalize s.beatCounted b = v at counted role own now works' up rank
  have seen := v.beatSeen_pair (d := d) up rank
  rw [works', Bool.and_comm d, Bool.true_and] at seen
  exact {
    peer := (congrArg Pair.peer seen :).trans (congrArg Pair.peer counted :)
    dutyIn := (congrArg Pair.dutyIn seen :)
    beats := (congrArg Pair.beats seen :).trans (congrArg Pair.beats counted :)
    linkUp := (congrArg Pair.linkUp seen :).trans (congrArg Pair.linkUp counted :)
    sameRank := (congrArg Pair.sameRank seen :)
    majorMismatch := (congrArg Pair.majorMismatch seen :).trans (by rw [own])
    accepted := (congrArg Pair.accepted seen :).trans (congrArg Pair.accepted counted :)
    role := (congrArg Pair.role seen :).trans (by rw [role])
    measured := fun standby flag => (congrArg Pair.measured seen :).trans
      ((if_pos (And.intro (role.trans standby) flag)).trans (by rw [now]))
    forming := (congrArg Pair.forming seen :).trans (congrArg Pair.forming counted :) }

theorem State.heard_still (s : State) (h : PleachHdr) : Steps beatParts s (s.heard h) :=
  State.heard_steps h (Steps.refl beatParts s) rfl

theorem State.beatSeen_still (s : State) (b : Heartbeat) (d : Bool) :
    Steps beatParts s ((((s.beatCounted b).beatMeasured b).rankClash b).beatSeen b d) := by
  have counted : Steps beatParts s (s.beatCounted b) :=
    State.setPair_steps _ (State.countAccepted_steps (Steps.refl beatParts s) rfl) rfl
  have clashed : Steps beatParts s (((s.beatCounted b).beatMeasured b).rankClash b) := by
    rw [State.beatMeasured_eq]
    exact State.rankClash_steps b (State.setPair_steps _ counted rfl) rfl
  unfold State.beatSeen
  split
  · exact State.seeDuty_steps d (State.compare_steps b clashed rfl) rfl
  · exact State.seeDuty_steps d clashed rfl

/-- What is heard of the window leaves what a HEARTBEAT tells. -/
theorem BeatTold.of_core {q : Pair} (core : SameCore s u) (still : Steps beatParts s u) (k : BeatTold b d u q) :
    BeatTold b d s q := by
  have header : u.engine.header = s.engine.header := (congrArg Engine.header (still.same .engine) :)
  have now : u.now = s.now := still.now
  have major : u.heartbeat.major = s.heartbeat.major :=
    congrArg (fun l : Option (List Byte) => BitVec.ofNat 16 (fieldAt (l.getD []) 8 2)) header
  have beats : u.pair.beats = s.pair.beats := (congrArg Pair.beats core :)
  have linkUp : u.pair.linkUp = s.pair.linkUp := (congrArg Pair.linkUp core :)
  have accepted : u.pair.accepted = s.pair.accepted := (congrArg Pair.accepted core :)
  have role : u.pair.role = s.pair.role := (congrArg Pair.role core :)
  exact {
    peer := k.peer
    dutyIn := k.dutyIn
    beats := k.beats.trans (by rw [beats])
    linkUp := k.linkUp.trans (by rw [linkUp, beats])
    sameRank := k.sameRank
    majorMismatch := k.majorMismatch.trans (by rw [major])
    accepted := k.accepted.trans (by rw [accepted])
    role := k.role.trans (by rw [role])
    measured := fun standby flag => (k.measured (role.trans standby) flag).trans (by rw [now])
    forming := k.forming.trans (congrArg Pair.forming core :) }

/-- A HEARTBEAT of a peer of another rank. -/
theorem heartbeatReceived_tells (hl : s.linkRuns = true) (hu : s.engine.up = true) (hn : s.pair.handover = .none)
    (hr : b.rank ≠ s.power.rank) : ∃ t v : State, exec (.heartbeatReceived h b d) s = .next t ∧ BeatTold b d s v.pair ∧
      t.pair.core = (v.pair.formedIf v.mayForm).core ∧ Only (parts (.heartbeatReceived h b d)) s t := by
  have e := exec_heartbeatReceived (h := h) (b := b) (d := d) hl
  have core := State.heard_core (h := h) hn
  have still := s.heard_still h
  generalize s.heard h = u at e core still
  have power : u.power = s.power := still.same .power
  have paired : u.settings.pairEnable = s.settings.pairEnable := (congrArg Settings.pairEnable (still.same .settings) :)
  have linkRuns : u.linkRuns = true := by
    unfold State.linkRuns
    rw [still.roadRuns, paired]
    exact hl
  have told := State.beatSeen_told (d := d) linkRuns (still.up.trans hu) (by rw [power]; exact hr)
  have up : ((((u.beatCounted b).beatMeasured b).rankClash b).beatSeen b d).engine.up = true :=
    (u.beatSeen_still b d).up.trans (still.up.trans hu)
  generalize State.beatSeen _ b d = v at e told up
  have done := v.beatDone_core s.pair
  rw [up, Bool.true_and] at done
  exact ⟨_, v, e, told.of_core core still, done, only_parts_of_exec e⟩

/-- What a duty, a standby and a device without a role make of it (17 R514-R516, R531). -/
theorem heartbeatReceived_other (hl : s.linkRuns = true) (hu : s.engine.up = true) (hn : s.pair.handover = .none)
    (hr : b.rank ≠ s.power.rank) : ∃ t, exec (.heartbeatReceived h b d) s = .next t ∧
      t.pair.peer = some {
        flags := b.flags, rank := b.rank, mode := b.mode, major := b.major, minor := b.minor, patch := b.patch
        digest := b.digest } ∧ t.pair.dutyIn = d ∧ t.pair.beats = min 3 (s.pair.beats + 1) ∧
      t.pair.linkUp = (s.pair.linkUp || decide (2 ≤ s.pair.beats)) ∧ t.pair.sameRank = false ∧
      t.pair.majorMismatch = decide (b.major ≠ s.heartbeat.major) ∧
      t.pair.accepted = min 0xFFFFFFFF (s.pair.accepted + 1) ∧
      (s.pair.role = .none → t.pair.role = (if d then .standby else .none)) ∧
      (s.pair.role ≠ .none → t.pair.role = s.pair.role) ∧
      (s.pair.role = .standby → b.flags.getLsbD 0 = true → t.pair.measured = some (b.elapsed - s.now)) ∧
      (s.pair.role = .duty → s.pair.linkUp = true ∨ 2 ≤ s.pair.beats → s.pair.forming = false →
          b.major = s.heartbeat.major →
        b.flags.getLsbD 0 = false → b.flags.getLsbD 1 = false → t.pair.forming = true ∧ t.pair.caughtUp = true) ∧
      Only (parts (.heartbeatReceived h b d)) s t := by
  obtain ⟨t, v, e, told, core, only⟩ := heartbeatReceived_tells (h := h) (b := b) (d := d) hl hu hn hr
  have role : t.pair.role = v.pair.role := (congrArg Pair.role core :)
  have measured : t.pair.measured = v.pair.measured := (congrArg Pair.measured core :)
  have forming : t.pair.forming = (v.pair.forming || v.mayForm) := (congrArg Pair.forming core :)
  have caughtUp : t.pair.caughtUp = (v.pair.caughtUp || v.mayForm) := (congrArg Pair.caughtUp core :)
  refine ⟨t, e, (congrArg Pair.peer core :).trans told.peer, (congrArg Pair.dutyIn core :).trans told.dutyIn,
    (congrArg Pair.beats core :).trans told.beats, (congrArg Pair.linkUp core :).trans told.linkUp,
    (congrArg Pair.sameRank core :).trans told.sameRank, (congrArg Pair.majorMismatch core :).trans told.majorMismatch,
    (congrArg Pair.accepted core :).trans told.accepted, fun none => ?_, fun some => ?_,
    fun standby flag => measured.trans (told.measured standby flag), fun duty up before same flag0 flag1 => ?_, only⟩
  · rw [role, told.role, none]
    cases d <;> rfl
  · rw [role, told.role, decide_eq_false some, Bool.and_false]
    exact if_neg (by decide)
  · have may : v.mayForm = true := by
      have linkUp : v.pair.linkUp = true := by rw [told.linkUp]; simpa using up
      have first : v.pair.role = .duty := by rw [told.role, duty]; simp
      have stands : v.pair.peerStands = true := by
        unfold Pair.peerStands
        rw [told.peer]
        show (!b.flags.getLsbD 0 && !b.flags.getLsbD 1) = true
        rw [flag0, flag1]
        rfl
      unfold State.mayForm
      rw [linkUp, told.forming, before, told.majorMismatch, told.sameRank, first, stands]
      simp [same]
    rw [forming, caughtUp, may, Bool.or_true, Bool.or_true]
    exact ⟨rfl, rfl⟩

end told

/-! ### A peer of the same rank (17 R515) -/

section same
variable {s u : State} {h : PleachHdr} {b : Heartbeat} {d : Bool}

/-- A duty that meets its own rank for the first time yields. -/
theorem State.rankClash_of_eq (hr : b.rank = s.power.rank) : (s.rankClash b).pair.sameRank = true ∧
    (s.pair.role = .duty → s.pair.sameRank = false →
      (s.rankClash b).pair.role = .standby ∧ (s.rankClash b).pair.dutyOut = false) := by
  have core := s.yieldDuty_core .standby
  have power : (s.yieldDuty .standby).power = s.power :=
    (State.yieldDuty_steps (ps := beatParts) .standby (Steps.refl _ s) rfl).same .power
  generalize hy : s.yieldDuty .standby = y at core power
  unfold State.rankClash
  rw [hy]
  refine ⟨decide_eq_true ?_, fun duty first => ?_⟩
  · split
    · exact hr.trans (congrArg Power.rank power.symm)
    · exact hr
  rw [if_pos ⟨hr, by rw [first]; rfl, duty⟩]
  exact ⟨(congrArg Pair.role core :), (congrArg Pair.dutyOut core :)⟩

theorem State.beatSeen_keeps (s : State) (b : Heartbeat) (d : Bool) :
    (s.beatSeen b d).pair.sameRank = s.pair.sameRank ∧ (s.beatSeen b d).pair.dutyIn = d ∧
      (s.beatSeen b d).pair.dutyOut = s.pair.dutyOut ∧
      (s.pair.role ≠ .none → (s.beatSeen b d).pair.role = s.pair.role) := by
  have seen {u : State} (same : u.pair.role = s.pair.role) (ne : s.pair.role ≠ .none) :
      (u.seeDuty d).pair.role = s.pair.role := by
    rw [State.seeDuty_pair]
    show (if _ then Role.standby else u.pair.role) = _
    rw [same, decide_eq_false ne, Bool.and_false]
    exact if_neg (by decide)
  unfold State.beatSeen
  split
  · exact ⟨rfl, rfl, rfl, seen rfl⟩
  · exact ⟨rfl, rfl, rfl, seen rfl⟩

theorem State.beatMeasured_keeps (s : State) (b : Heartbeat) : ((s.beatCounted b).beatMeasured b).power = s.power ∧
    ((s.beatCounted b).beatMeasured b).pair.role = s.pair.role ∧
    ((s.beatCounted b).beatMeasured b).pair.sameRank = s.pair.sameRank := by
  have counted := s.beatCounted_pair b
  have power : (s.beatCounted b).power = s.power := rfl
  rw [State.beatMeasured_eq]
  generalize s.beatCounted b = v at counted power
  exact ⟨power, (congrArg Pair.role counted :), (congrArg Pair.sameRank counted :)⟩

theorem heartbeatReceived_same (hl : s.linkRuns = true) (hn : s.pair.handover = .none) (hr : b.rank = s.power.rank) :
    ∃ t, exec (.heartbeatReceived h b d) s = .next t ∧ t.pair.sameRank = true ∧ t.pair.dutyIn = d ∧
      (s.pair.role = .duty → s.pair.sameRank = false → t.pair.role = .standby ∧ t.pair.dutyOut = false) ∧
      Only (parts (.heartbeatReceived h b d)) s t := by
  have e := exec_heartbeatReceived (h := h) (b := b) (d := d) hl
  have core := State.heard_core (h := h) hn
  have still := s.heard_still h
  generalize s.heard h = u at e core still
  have power : u.power = s.power := still.same .power
  obtain ⟨rank, role, sameRank⟩ := u.beatMeasured_keeps b
  generalize (u.beatCounted b).beatMeasured b = v at e rank role sameRank
  obtain ⟨clash, yields⟩ := State.rankClash_of_eq (s := v) (b := b) (by rw [rank, power]; exact hr)
  generalize v.rankClash b = w at e clash yields
  obtain ⟨seen, dutyIn, dutyOut, keeps⟩ := w.beatSeen_keeps b d
  generalize w.beatSeen b d = x at e seen dutyIn dutyOut keeps
  have done := x.beatDone_core s.pair
  generalize x.beatDone s.pair = t at e done
  refine ⟨t, e, (congrArg Pair.sameRank done :).trans (seen.trans clash), (congrArg Pair.dutyIn done :).trans dutyIn,
    fun duty first => ?_, only_parts_of_exec e⟩
  obtain ⟨standby, low⟩ := yields (role.trans ((congrArg Pair.role core :).trans duty))
    (sameRank.trans ((congrArg Pair.sameRank core :).trans first))
  exact ⟨(congrArg Pair.role done :).trans ((keeps (by rw [standby]; decide)).trans standby),
    (congrArg Pair.dutyOut done :).trans (dutyOut.trans low)⟩

end same

end Sys2Proof.Machine
end

section
/-!
PROOFS. The Pleach link (17 R509-R531): the obligation.
-/
set_option Elab.async false
namespace Sys2Proof.Machine

/-- Settles O58: HEARTBEATs by the core of the pair that frames leave, sequenced frames by their acceptance and the effect of
each, an ITEM by what a decision of the Sieve leaves of it. -/
theorem pleachFramesActOnceAndInOrder : Obligations.PleachFramesActOnceAndInOrder := by
  unfold Obligations.PleachFramesActOnceAndInOrder
  refine ⟨fun s hl off => heartbeatSend_sends hl off, fun s h b d hl hu hn hr => heartbeatReceived_other hl hu hn hr,
    fun s h b d hl hn hr => heartbeatReceived_same hl hn hr, fun s h f r hl hu hw hq hn => ackOnly_acks hl hu hw hq hn,
    fun s h c mr dr ir lr er n d hc m1 m2 d1 d2 i1 i2 l1 l2 hl hs hr hu hw hq hn off free => ?_,
    fun s h c mr dr ir lr er n d hc m1 m2 d1 d2 i1 i2 l1 l2 hs hr hu hw hq hn => ?_,
    fun s h mr dr ir lr hl => ⟨exec_mirrorFrame_unfit hl, exec_deliveredFrame_unfit hl, exec_itemFrame_unfit hl,
      exec_lampFrame_unfit hl⟩,
    fun s h mr m1 m2 hl hs hu hw hq hn hr hi => ?_, fun s h r i hl hs hu hw hq hn hr hi => ?_,
    fun s h r l hl hs hu hw hq hn hr hf => ?_, fun s h r hl hs hu hw hq hn lo hi room fresh => ?_,
    fun s h r hl hs hu hw hq hn hr up used => ?_, fun s h lr l1 l2 hl hs hu hw hq hn hr down => ?_,
    fun s h e hl hs hu hw hq hn hr => ?_, fun s h n hl hs hu hw hq hn hr => ?_, fun s h n hl hs hu hw hq hn hr => ?_,
    fun s h n hl hs hu hw hq hn may => ?_,
    fun s l hl => ⟨fun bad => ?_, fun good => ?_⟩, fun k q a l fits => pleachBad_pleachBytes q a fits,
    fun s hl up => ⟨exec_retransmit_empty hl up, fun q f hf => exec_retransmit_window hl up hf⟩,
    fun s q r hr hf => exec_missing hr hf,
    fun s n i hr standby hi hp hm hports => orphan_leaves hr standby hi hp hm hports⟩
  · obtain ⟨x, f, e, fits⟩ := sequenced_received hc m1 m2 d1 d2 i1 i2 l1 l2 (s := s)
    exact sequenced_repeats e fits hl hs hr ⟨hu, hw, hq, hn⟩ off free
  · obtain ⟨x, f, e, fits⟩ := sequenced_received hc m1 m2 d1 d2 i1 i2 l1 l2 (s := s)
    exact e.trans (congrArg Host.Outcome.next (State.receive_astray fits ⟨hu, hw, hq, hn⟩ hs hr))
  · obtain ⟨t, e, k, rest⟩ := mirrorFrame_waits hl hs ⟨hu, hw, hq, hn⟩ hr m1 m2 hi
    exact ⟨t, e, k.rxSeq, k.accepted, k.ackOwed, rest⟩
  · obtain ⟨t, e, k, rest⟩ := mirrorFrame_matches hl hs ⟨hu, hw, hq, hn⟩ hr hi
    exact ⟨t, e, k.rxSeq, k.accepted, k.ackOwed, rest⟩
  · obtain ⟨t, e, k, rest⟩ := deliveredFrame_leaves hl hs ⟨hu, hw, hq, hn⟩ hr hf
    exact ⟨t, e, k.rxSeq, k.accepted, k.ackOwed, rest⟩
  · obtain ⟨t, e, k, decided, only⟩ := itemFrame_decides hl hs ⟨hu, hw, hq, hn⟩ lo hi room fresh
    refine ⟨t, e, k.rxSeq, k.accepted, k.ackOwed, decided.nextId, fun j hj own => ?_, only⟩
    obtain ⟨⟨source, payload⟩, place⟩ := decided.items j hj own
    exact ⟨place, source, payload⟩
  · obtain ⟨t, e, k, rest⟩ := lampFrame_sets hl hs ⟨hu, hw, hq, hn⟩ hr up used
    exact ⟨t, e, k.rxSeq, k.accepted, k.ackOwed, rest⟩
  · obtain ⟨t, e, k, rest⟩ := lampFrame_owed hl hs ⟨hu, hw, hq, hn⟩ hr l1 l2 down
    exact ⟨t, e, k.rxSeq, k.accepted, k.ackOwed, rest⟩
  · obtain ⟨t, x, k, rest⟩ := epochFrame_sets hl hs ⟨hu, hw, hq, hn⟩ hr e
    exact ⟨t, x, k.rxSeq, k.accepted, k.ackOwed, rest⟩
  · obtain ⟨t, e, k, rest⟩ := catchupEnd_catchesUp hl hs ⟨hu, hw, hq, hn⟩ hr n
    exact ⟨t, e, k.rxSeq, k.accepted, k.ackOwed, rest⟩
  · obtain ⟨t, e, k, rest⟩ := handoverFrame_waits (n := n) hl hs ⟨hu, hw, hq, hn⟩ hr
    exact ⟨t, e, k.rxSeq, k.accepted, k.ackOwed, rest⟩
  · obtain ⟨t, e, k, rest⟩ := handoverFrame_takesOver (n := n) hl hs ⟨hu, hw, hq, hn⟩ may
    exact ⟨t, e, k.rxSeq, k.accepted, k.ackOwed, rest⟩
  · rw [exec_pleachFrameDropped hl, if_pos bad]
    rfl
  · rw [exec_pleachFrameDropped hl, if_neg (by rw [good]; decide)]

end Sys2Proof.Machine
end
